-- ==== Sys2Proof/Word.lean ====
section
/-! DEFINITION. The words of the part: a byte, a 16-bit Wharf word, a 32-bit internal register word, and a 64-bit
data word. -/

namespace Sys2Proof

/-- One byte. -/
abbrev Byte := BitVec 8

/-- One word of the host port and one top-level register (chapter 3). -/
abbrev Half := BitVec 16

/-- One internal register (chapter 0, Table 0.3). -/
abbrev Word := BitVec 32

/-- A value of fixed width as a register field holds it. -/
def wrapTo (bits n : Nat) : Nat := n % 2 ^ bits

theorem wrapTo_lt (bits n : Nat) : wrapTo bits n < 2 ^ bits := Nat.mod_lt _ (Nat.two_pow_pos _)

end Sys2Proof
end

