-- ==== Sys2Proof/Syntax.lean ====
section
/-! DEFINITION. The commands of the block: one constructor per row of the spec's table of operations and events, with
the operands a command carries (a value written, an index, what the outside shows the part at that event). -/

namespace Sys2Proof

/-- The straps as power-on reset samples them (R765), and the level of TMODE (R767). -/
structure Straps where
  xs : Nat
  pseq : Nat
  wsel : Bool
  addr : Nat
  tmode : Bool
deriving DecidableEq, Repr

/-- One clock cycle of a receiver link: the four data pairs, bit `s` of each the level in slot `s` (Table 9.1). -/
structure Slots where
  dp0 : Nat
  dp1 : Nat
  dp2 : Nat
  dp3 : Nat
deriving DecidableEq, Repr

/-- How a CSI-2 packet header arrives (R445). -/
inductive Ecc where
  | clean | corrected | bad
deriving DecidableEq, Repr

/-- The header of a packet that has no further operand: its virtual channel and what its ECC says (R445). -/
structure Header where
  vc : Nat
  ecc : Ecc
deriving DecidableEq, Repr

/-- The bytes that the host sends in a Wharf transaction, the Wharf's own framing included. On I2C an address byte comes
before them, with the 7-bit address `dev` (R97, R108); SPI has none. -/
structure HostBytes where
  dev : Nat
  bytes : List Byte
deriving DecidableEq, Repr

/-- The commands (spec/opcode_table.json). -/
inductive Instr where
  /-- MODE_REQUEST (R39). A write to WH_MODE_REQ is one mode request: it is refused with a code, completes at once, or starts the edge of Table 1.4 to the target. -/
  | modeRequest (w : Half)
  /-- WAKE_TRIGGER (R43). In DEEP_SLEEP a WH_CS_N fall or a matching I2C address starts E1 and discards the transaction; under LOCKOUT it is ignored and sets IGNORED. -/
  | wakeTrigger
  /-- WAKE_COMPLETE (R251). E1 ends in STANDBY, or in STANDBY-LIMP when XIN is absent, with CAUSE, FAIL_COUNT = 0, IMAGE_VALID = 0 and the mode event raised. -/
  | wakeComplete
  /-- LIMP_EXIT (R36). After XIN has stayed inside its window for 1 ms, LIMP clears, the timebase returns to XIN and the mode event is raised. -/
  | limpExit
  /-- LOAD_ENTERED (R265). Edge E3 ends: the RET domains and PD50 are ON, DRAM leaves self-refresh or reset, and LOAD starts. -/
  | loadEntered
  /-- LOAD_COMPLETE (R41). LOAD ends with IMAGE_VALID = 1, the RWL lock events of LOAD end occur, and edge E4 follows to the requested target. -/
  | loadComplete
  /-- LOAD_FAIL_EXIT (R42). Edge E5 ends in STANDBY with CAUSE = LOAD_FAIL and IMAGE_VALID = 0, after which picture requests without RELOAD are refused. -/
  | loadFailExit
  /-- PICTURE_MODE_ENTERED (R48). Edge E6 ends in CALIBRATE, MIRROR, SCAN or PANEL, with black output and dark light until the second frame boundary. -/
  | pictureModeEntered
  /-- STANDBY_ENTERED (R350). Edge E7 or E11 ends in STANDBY with DRAM in self-refresh under the Sluice, then under the PWR_STBY_CTL policy. -/
  | standbyEntered
  /-- CALIBRATE_ENTERED (R49). Edge E8, taken at a frame boundary, ends in CALIBRATE. -/
  | calibrateEntered
  /-- CALIBRATE_EXITED (R49). Edge E9 ends in the lit mode that CALIBRATE was entered from, or in STANDBY. -/
  | calibrateExited
  /-- HOLD_ENTERED (R397). Edge E10 ends in HOLD with the frozen channel in self-refresh, light held dark and CAUSE = FREEZE or HOST. -/
  | holdEntered
  /-- REFLOST_COMPLETE (R198). Edge E12 ends in STANDBY with CAUSE = REFLOST, with LIMP set when XIN is absent, and WH_EVT.MODE and WH_EVT.CLK set. -/
  | reflostComplete
  /-- WAKE_FAIL_COMPLETE (R256). Edge E13 ends in DEEP_SLEEP with CAUSE = WAKE_FAIL and FAIL_COUNT raised; LOCKOUT is set when FAIL_COUNT reaches 3. -/
  | wakeFailComplete
  /-- SLEEP_COMPLETE (R253). Edge E2 ends in DEEP_SLEEP after the regulator back-out, and the wake detector is armed. -/
  | sleepComplete
  /-- ARITH_SAT_CLEAR (R90). Writing 1 to <prefix>_ARITH.SAT clears SAT, SAT_COUNT, FIRST_STAGE and FULL together. -/
  | arithSatClear (region : Nat)
  /-- TB_INC_WRITE (R88). A write to CKG_TB_INC sets the timebase increment, and a write of 0 is ignored. -/
  | tbIncWrite (v : Word)
  /-- TB_IRC_INC_WRITE (R206). A write to CKG_TB_IRC_INC sets the IRC increment, and a write of 0 is ignored. -/
  | tbIrcIncWrite (v : Word)
  /-- TB_SNAP (R755). Writing CKG_TB_SNAP.SNAP = 1 captures the 64-bit timebase into CKG_TB_SNAP_LO and CKG_TB_SNAP_HI. -/
  | tbSnap
  /-- WHARF_WRITE_TRANSACTION (R99). A complete Wharf write is checked for framing and CRC and then applies its words in order, advancing the address unless FIXED = 1. -/
  | wharfWriteTransaction (sent : HostBytes)
  /-- WHARF_READ_TRANSACTION (R103). A Wharf read sends the status byte, clearing its error bits, and returns the words of the read, checked by CRC1 when CRC is enabled. -/
  | wharfReadTransaction (sent : HostBytes) (begun prefetches : Nat)
  /-- I2C_STRETCH_TIMEOUT (R109). When a read word is still not ready after 1 ms of clock stretch, SCL is released, 0x00 is returned, BUSY and STRETCH are set and the transaction is not accepted. -/
  | i2cStretchTimeout (sent : HostBytes) (served : Nat)
  /-- CRC_EN_WRITE (R115). A write to WH_PORT_CTL.CRC_EN takes effect from the following transaction. -/
  | crcEnWrite (v : Half)
  /-- WH_EVT_CLEAR (R120). A W1C write to WH_EVT clears event bits, and ATTN_N is released once no enabled bit remains set. -/
  | whEvtClear (v : Half)
  /-- WH_ERR_CLEAR (R118). A W1C write to WH_ERR clears sticky error causes, and clearing CRC also clears WH_CRC_COUNT. -/
  | whErrClear (v : Half)
  /-- IADDR_WRITE (R124). A write to WH_IADDR_HI or WH_IADDR_LO sets the internal address and starts a prefetch into the read holder. -/
  | iaddrWrite (high : Bool) (v : Half)
  /-- PREFETCH_COMPLETE (R131). A prefetch completes and the read holder takes the register's value at that instant, setting READY. -/
  | prefetchComplete
  /-- IDATA_HI_READ (R125). A read of WH_IDATA_HI returns the holder's high half, latches the low half and, with AUTOINC, advances the address by 4 and prefetches. -/
  | idataHiRead
  /-- IDATA_HI_WRITE (R127). A write of WH_IDATA_HI stores its value in the write holder. -/
  | idataHiWrite (v : Half)
  /-- IDATA_LO_WRITE (R128). A write of WH_IDATA_LO writes the write holder and its value to the internal address, advances it with AUTOINC, and prefetches. -/
  | idataLoWrite (v : Half)
  /-- INTERNAL_WRITE_COMPLETE (R132). A drained internal write completes at its register, with address, power-domain, variant and lock checks. -/
  | internalWriteComplete
  /-- APERTURE_COMPLETE (R139). A DRAM aperture read or read-modify-write through port SYS completes, or is refused or returns zero with APER or APER_UE set. -/
  | apertureComplete
  /-- MFST_GO (R153). Writing WH_MFST_CTL.GO starts the fetch of a manifest from flash or DRAM, or is ignored with MFST_BUSY while a manifest is pending. -/
  | mfstGo (v : Half)
  /-- MFST_ABORT (R154). Writing ABORT ends the manifest with ABORTED, leaving applied groups in place and applying no later group. -/
  | mfstAbort
  /-- MFST_FETCH_DONE (R143). A fetched manifest is checked whole and staged, or fails with its error code and changes no register. -/
  | mfstFetchDone
  /-- MFST_FETCH_TIMEOUT (R157). A flash manifest fetch that has waited 1 s without starting fails with FETCHFAIL. -/
  | mfstFetchTimeout
  /-- MFST_BURST_END (R148). A manifest burst ends, the block commits due follow, OVERRUN is set if vertical blanking has ended, and DONE is reached after the last group. -/
  | mfstBurstEnd (inBlanking : Bool)
  /-- WAKE_UNLOCK (R260). A write of 0x5A5A to WH_WAKE_UNLOCK clears FAIL_COUNT, LOCKOUT and IGNORED without starting a wake. -/
  | wakeUnlock (v : Half)
  /-- XIN_DELAY_EXPIRE (R174). The XIN stabilisation delay after the last regulator step ends and the XIN checks of the clock monitor are armed. -/
  | xinDelayExpire
  /-- IRC_TRIM_XIN_UPDATE (R177). Every 1 ms of XIN time, the IRC count is compared with 48,000 and FTRIM moves by at most one LSB. -/
  | ircTrimXinUpdate (count : Nat)
  /-- PLL_LOCK (R181). A PLL whose phase error has stayed within threshold for 64 reference cycles is locked. -/
  | pllLock (pll us : Nat)
  /-- PLL_LOCK_HOLD_EXPIRE (R184). Lock has held for LOCK_HOLD, so child domains start their divider ramp and MCC and MPH may start. -/
  | pllLockHoldExpire (pll : Nat)
  /-- DIVIDER_RAMP_STEP (R185). After each DWELL, every ramping domain steps one place along the divider ladder until it reaches its target. -/
  | dividerRampStep
  /-- PLL_LOCK_TIMEOUT (R188). A PLL not locked within LOCK_TMO causes the forced edge to STANDBY with CAUSE = REFLOST and monitor cause LOCK_TMO. -/
  | pllLockTimeout (pll since : Nat)
  /-- PLL_LOCK_LOSS (R181). A PLL whose error exceeds the threshold for 4 reference cycles after LOCK_HOLD has lost lock, which is a reference fault. -/
  | pllLockLoss (pll since : Nat)
  /-- MON_GATE_END (R194). At the end of each monitor gate, the XIN window and PLL rate checks are judged and XIN presence is decided. -/
  | monGateEnd (edges : Nat) (rates : List Nat) (since : Nat)
  /-- XIN_STOP (R194). No XIN edge for 24 IRC cycles is an XIN stop fault, which starts the reaction of Table 4.6. -/
  | xinStop
  /-- XIN_GLITCH (R196). A short XIN phase is counted, and reaching GLITCH_LIM within one gate is a glitch fault. -/
  | xinGlitch (since : Nat)
  /-- IRC_ACTIVITY_FAULT (R202). IRC stopping for 5 us drives LIGHT_EN_N low until power-on reset. -/
  | ircActivityFault
  /-- REF_HOLDOVER_END (R198). 50 us after a reference fault, every PLL powers down and all PLL-fed domains stop. -/
  | refHoldoverEnd
  /-- CKG_DOM_WRITE (R169). A write to CKG_DOM_<name> changes enables, hold or divider, is refused with REFUSED_USE while uses exist, and ramps a lowered divider. -/
  | ckgDomWrite (dom : Nat) (v : Word)
  /-- PLL_OFF_REQUEST (R169). A write of CKG_PLL_CTL.OFF requests power-down of a PLL in the current mode, refused while a domain below it has uses. -/
  | pllOffRequest (v : Word)
  /-- PLLV_FRAC_WRITE (R191). A write to CKG_PLLV_FRAC takes effect within 2 reference cycles while PLL_V runs. -/
  | pllvFracWrite (v : Word)
  /-- FM_START (R207). Writing START to a frequency meter clears COUNT and DONE and begins, or restarts, a measurement. -/
  | fmStart (meter : Nat) (v : Word)
  /-- FM_GATE_END (R207). At the end of the gate, COUNT holds the target edges counted and DONE = 1. -/
  | fmGateEnd (meter count : Nat)
  /-- FM_TIMEOUT (R208). A reference domain with no edge for 100 us ends the measurement with DONE and TMO set. -/
  | fmTimeout (meter count : Nat)
  /-- MON_EVT_CLEAR (R196). Writing 1 to CKG_MON_STAT.EVT clears CAUSE, DRAM_LOST and the glitch count. -/
  | monEvtClear
  /-- PDREQ_WRITE (R227). A write to PWR_PDREQ switches EN domains ON or RET, queued during an edge, with refusals recorded in PWR_ERR. -/
  | pdreqWrite (high : Bool) (v : Word)
  /-- DOMAIN_SWITCH_COMPLETE (R232). A domain switch to ON, RET or OFF completes, and the sequencer takes the next domain in the order of R233. -/
  | domainSwitchComplete
  /-- REG_STEP_COMPLETE (R236). PWR_PGn high continuously for PG_FILT completes regulator step n, and the next used PWR_EN rises. -/
  | regStepComplete
  /-- REG_STEP_FIXED_EXPIRE (R238). With NOPG = 1, a regulator step completes FIXED_MS after its enable rises. -/
  | regStepFixedExpire
  /-- REG_STEP_TIMEOUT (R237). A regulator step not completed within STEP_TMO fails with PG_TIMEOUT and starts E13. -/
  | regStepTimeout (time : Nat)
  /-- PG_LOST (R240). A used power-good low for longer than PG_FILT outside DEEP_SLEEP fails with PG_LOST and starts E13. -/
  | pgLost (reg time : Nat)
  /-- BACKOUT_DWELL_EXPIRE (R241). After OFF_DWELL, the back-out lowers the next regulator enable in descending order. -/
  | backoutDwellExpire
  /-- BIST_PHASE1_DONE (R284). Self-test phase 1 ends, spares are allocated per macro, the lane map is set, and phase 2 starts. -/
  | bistPhase1Done (fails : List (Nat × List (Nat × Nat))) (small lanes : List Nat)
  /-- BIST_PHASE2_DONE (R276). Phase 2 ends, and LOAD fails with BIST_FAIL or LANE_FAIL when a macro or lane remains bad. -/
  | bistPhase2Done (macros lanes : List Nat)
  /-- LDR_HEADER_READ (R272). The image header and directory are read with the OTP settings and checked, including SAFE_NODIGEST and BADSAFE. -/
  | ldrHeaderRead (jedec : Nat)
  /-- LEDGER_SCAN (R287). The ledger is scanned from slot 0, finding the append pointer and counting TORN and CORRUPT slots. -/
  | ledgerScan
  /-- SECTION_READ (R278). A section of the image body is read, checked against its CRC and placed according to its type, or ends LOAD on a failure. -/
  | sectionRead
  /-- BODY_READ_DONE (R304). The body read ends and the whole-image digest is compared when DIGEST_EN is set. -/
  | bodyReadDone
  /-- LEDGER_APPEND_REQUEST (R293). A block requests a ledger record, which is queued, suppressed as a duplicate, or failed as DROPPED or NOLEDGER. -/
  | ledgerAppendRequest (kind unit flags : Nat) (data : List Nat)
  /-- LEDGER_ATTEMPT_START (R290). With the queue not empty and the flash free outside LOAD, an append attempt programs bytes 1-31 of the record at the append pointer. -/
  | ledgerAttemptStart
  /-- LEDGER_BUSY_CLEAR (R290). The flash busy bit clears, and the attempt proceeds to program MARK or read the slot back. -/
  | ledgerBusyClear
  /-- LEDGER_BUSY_TIMEOUT (R291). A busy wait exceeding PROG_TMO fails the attempt, which marks the slot dead and retries, or fails the append after three attempts. -/
  | ledgerBusyTimeout
  /-- LEDGER_READBACK_DONE (R292). The slot read back matches, so the append succeeds, advances the pointer, adds the key and sets WH_EVT.LEDGER; a mismatch fails the attempt. -/
  | ledgerReadbackDone (got : List Byte)
  /-- FHOST_READ (R297). A host READ command reads LEN + 1 flash bytes into the page buffer, refused with BUSY during LOAD or an append. -/
  | fhostRead (len : Nat)
  /-- FHOST_PROGRAM (R298). A host PROGRAM command writes LEN + 1 buffer bytes to ADDR, refused with CROSS_PAGE or BUSY. -/
  | fhostProgram (len : Nat)
  /-- FHOST_ERASE4K (R298). A host ERASE4K command erases a 4 KiB sector, refused with ALIGN or BUSY. -/
  | fhostErase4k
  /-- FHOST_READ_ID (R297). A host READ_ID command reads the JEDEC ID into buffer word 0. -/
  | fhostReadId (jedec : Nat)
  /-- FHOST_READ_STATUS (R297). A host READ_STATUS command reads the flash status register into buffer word 0. -/
  | fhostReadStatus (status : Nat)
  /-- FHOST_CMD_DONE (R298). A host flash command ends and sets DONE. -/
  | fhostCmdDone
  /-- FHOST_TIMEOUT (R298). A host PROGRAM exceeding PROG_TMO, or an ERASE4K exceeding 1 s, ends with ERR = TIMEOUT. -/
  | fhostTimeout
  /-- LEDGER_IDX_WRITE (R287). A write to LDR_LEDGER_IDX reads the chosen slot into LDR_LEDGER_REC0-7 and sets READY. -/
  | ledgerIdxWrite (v : Word)
  /-- OTP_ARM (R302). Setting LDR_OTP_CTL.ARM arms OTP programming at the next LOAD, refused with REFUSED when more than 16 words are marked or LOCK is programmed. -/
  | otpArm (v : Word)
  /-- MAP_GO (R308). MCX_MAP_CTL.GO checks the channel geometry, locks the RWL map fields and sets VALID, or fails with MAP_ERR. -/
  | mapGo
  /-- MC_INIT_GO (R318). MCx_INIT_CTL.GO starts channel initialisation with RESET_n and CKE low and STATE = INIT, and is ignored unless STATE is OFF. -/
  | mcInitGo (ch : Nat)
  /-- MC_INIT_RESET_RELEASE (R318). 200 us after GO, RESET_n goes high. -/
  | mcInitResetRelease (ch : Nat)
  /-- MC_INIT_CKE_RISE (R318). 700 us after GO, CKE goes high, and after tXS the mode registers are written. -/
  | mcInitCkeRise (ch : Nat)
  /-- MC_INIT_COMPLETE (R318). ZQCL completes, STATE = ACTIVE, and the refresh timer and the weir window start. -/
  | mcInitComplete (ch : Nat)
  /-- SWEEP_GO (R322). MCx_SWEEP_CTL.GO starts a delay sweep in CALIBRATE on an ACTIVE channel, or sets REFUSED. -/
  | sweepGo (ch : Nat) (v : Word)
  /-- SWEEP_DONE (R323). A sweep ends with failing DQs in FAIL_MASK, failing beats in ERR_COUNT, and DONE set. -/
  | sweepDone (ch failMask errors : Nat)
  /-- PORT_REQUEST (R316). A port request enters its channel queue, is merged, forwarded from the write queue, range-checked, or dropped during Mooring. -/
  | portRequest (port : Nat) (write : Bool) (line : Nat) (mask : List Bool) (words : List Nat) (spec : Bool)
  /-- SCHEDULER_ISSUE (R328). In each MCC cycle the channel issues the first legal row and column commands in the decision order of R328. -/
  | schedulerIssue (ch : Nat)
  /-- READ_DATA_RETURN (R355). DRAM read data returns, each word is classified by its syndrome, corrected or tagged, and delivered in request order. -/
  | readDataReturn (ch : Nat)
  /-- REQUEST_AGE_PROMOTE (R326). A request whose age exceeds AGE_LIMIT x 64 MCC cycles takes class 0, and at twice that age becomes overdue. -/
  | requestAgePromote (ch : Nat)
  /-- REFRESH_DUE (R335). A rank's refresh interval elapses, so a refresh is owed, postponed up to POSTPONE, or forced. -/
  | refreshDue (ch rank : Nat)
  /-- ZQCS_DUE (R339). Every ZQ_INT ms a ZQCS calibration is issued. -/
  | zqcsDue (ch : Nat)
  /-- WEIR_WINDOW_END (R343). At each weir window boundary, every activate table is cleared. -/
  | weirWindowEnd (ch : Nat)
  /-- WEIR_IDX_WRITE (R340). A write to MCx_WEIR_IDX loads the chosen weir entry into MCx_WEIR_ENT. -/
  | weirIdxWrite (ch : Nat) (v : Word)
  /-- SLUICE_ENTRY_START (R345). A channel idle for IDLE_US with SHALLOW_EN set and enough MIN_TOL starts self-refresh entry. -/
  | sluiceEntryStart (ch : Nat)
  /-- SLUICE_SR_ENTERED (R345). SRE completes, MCC and MPH are gated for the channel, and STATE = SR_SHALLOW. -/
  | sluiceSrEntered (ch : Nat)
  /-- SLUICE_EXIT_START (R347). A request, falling tolerance, a mode edge or owed scrubbing starts self-refresh exit and restarts PLL_M from SR_DEEP. -/
  | sluiceExitStart (ch cause : Nat)
  /-- SLUICE_EXIT_COMPLETE (R347). After tXSDLL, reads are allowed, STATE = ACTIVE, ZQCS is issued and the weir tables are cleared. -/
  | sluiceExitComplete (ch : Nat)
  /-- ALERT_FALL (R370). A fall of ALERT_n stops commands, and the pulse width classifies it as a CA parity or write-CRC alert. -/
  | alertFall (ch width : Nat)
  /-- ALERT_RETRY_REPLAY (R372). When ALERT_n rises, the channel replays the commands of the retry window, preceded after a parity alert by PREA and an MR5 write. -/
  | alertRetryReplay (ch : Nat)
  /-- FREEZE_SR_ENTERED (R397). The frozen channel has drained, written back dirty check lines and entered self-refresh, with STATE = FROZEN. -/
  | freezeSrEntered (ch : Nat)
  /-- SEED_VISIT_DUE (R374). Every SEED_NS during seeding, the scrubber visits one line and writes CE words corrected and UE words as zero. -/
  | seedVisitDue (ch : Nat)
  /-- SCRUB_VISIT_DUE (R375). Every SCRUB_INT the scrubber reads its next line, or owes the visit while the channel sleeps. -/
  | scrubVisitDue (ch : Nat)
  /-- SCRUB_READ_RETURN (R381). A scrub read returns, and CE words are written back corrected and UE words poisoned, except words covered by a newer port write. -/
  | scrubReadReturn (ch : Nat)
  /-- PPR_GO (R386). MCx_PPR_CTL.GO starts a soft or hard post-package repair of the named row in CALIBRATE, or ends with REFUSED. -/
  | pprGo (ch : Nat) (v : Word)
  /-- PPR_DONE (R388). A repair ends with OK, requesting a DRAM_PPR record, or with VERIFY_FAIL. -/
  | pprDone (ch : Nat) (equal : Bool)
  /-- MIG_START (R390). MCX_MIG_CTL.START begins the copy of rank 0 to rank 1 from IDLE or ABORTED with a spare rank. -/
  | migStart (ch : Nat)
  /-- MIG_ABORT (R394). ABORT ends a COPY or FLIP_WAIT in ABORTED. -/
  | migAbort (ch : Nat)
  /-- MIG_COPY_LINE (R391). Every MIG_NS the next data line of rank 0 is copied with correction to rank 1, and the last line moves migration to FLIP_WAIT. -/
  | migCopyLine (ch : Nat)
  /-- MIG_FLIP_COMPLETE (R395). The flip drain ends, the channel is RETIRED and a RANK_MIGRATED record is requested. -/
  | migFlipComplete (ch : Nat)
  /-- ERR_FIRST_CLEAR (R401). Clearing VALID in MCx_ERR_FIRST arms it to capture the next error. -/
  | errFirstClear (ch : Nat)
  /-- SNAP_IDX_WRITE (R398). A write to MCx_SNAP_IDX selects a word of the FREEZE snapshot for MCx_SNAP_DATA. -/
  | snapIdxWrite (ch : Nat) (v : Word)
  /-- VIN_LINK_LOCK (R404). A link that sees its clock pattern on 256 consecutive cycles is locked. -/
  | vinLinkLock (link : Nat)
  /-- VIN_LINK_LOSS (R404). A link that breaks the clock pattern on 4 consecutive cycles loses lock, and the input becomes LOST. -/
  | vinLinkLoss (link : Nat)
  /-- VIN_FRAME_START (R407). An active VS edge starts an input frame: measurement, mismatch check, capture ring advance and barge stream end. -/
  | vinFrameStart (totPix totLines ircCount : Nat)
  /-- VIN_LINE (R409). A DE run is taken whole as an active line, dropped, or recognised as a barge line by its marker. -/
  | vinLine (links : List (List Slots)) (skew : Nat) (room : Bool)
  /-- VIN_INPUT_LOST (R416). No frame start for twice the last frame period makes the input LOST, ends the frame SHORT and sets frame lock FREE. -/
  | vinInputLost
  /-- VIN_FRAME_COMPLETE (R422). The last active line of a captured frame is written, and its buffer becomes the latest complete frame. -/
  | vinFrameComplete
  /-- BARGE_PAD (R430). A PAD packet ends the blanking stream, and the remaining bytes are ignored. -/
  | bargePad
  /-- BARGE_OSD (R434). An OSD packet writes its payload to DRAM through port CAP and is judged by CRC and sequence number. -/
  | bargeOsd
  /-- BARGE_LUT (R439). A LUT packet is stored in a free LUT buffer to be applied at the next frame boundary, or is dropped with NOBUF. -/
  | bargeLut
  /-- BARGE_MANIFEST (R440). A MANIFEST packet is staged and applied as a Wharf launch, or is dropped with NOBUF while the staging buffer is busy. -/
  | bargeManifest
  /-- BARGE_FENCE (R437). A FENCE packet is accepted to set a render fence once earlier OSD writes complete, or is discarded after an earlier failure in its stream. -/
  | bargeFence
  /-- BARGE_UNKNOWN (R433). A packet of unknown TYPE with a good header CRC is skipped and counted in UNKNOWN. -/
  | bargeUnknown
  /-- BARGE_FENCE_APPLY (R437). Once the earlier OSD writes of its stream have completed, the fence takes the packet's value. -/
  | bargeFenceApply
  /-- BARGE_SEQ_RESET (R436). Writing VIN_BRG_CTL.SEQ_RESET clears SEQ_VALID. -/
  | bargeSeqReset
  /-- CSI_FRAME_START (R458). A CSI-2 frame start counts FRAME_CNT, ends any open frame with NO_FE, and in FRAME_MUX may drop the frame with CTX_SKIP. -/
  | csiFrameStart (vc : Nat) (ecc : Ecc) (ircCount : Nat)
  /-- CSI_FRAME_END (R459). A frame end fills missing line positions, copies the SHORT and LONG flags and latches the embedded bytes. -/
  | csiFrameEnd (header : Header)
  /-- CSI_IMAGE_LINE (R454). An image line is checked for CRC, length and frame membership and enters its pipe's input buffer, or is dropped whole. -/
  | csiImageLine (vc : Nat) (samples : List Nat) (ecc : Ecc) (crcOk room : Bool)
  /-- CSI_EMBEDDED_DATA (R447). An embedded-data packet provides up to 32 bytes to be latched at the frame end. -/
  | csiEmbeddedData (vc : Nat) (bytes : List Byte) (ecc : Ecc)
  /-- CSI_GENERIC_SHORT (R444). A generic short packet or an unselected long data type is discarded and counted in UNKNOWN_DT. -/
  | csiGenericShort (vc dt : Nat) (ecc : Ecc)
  /-- CSI_SHARE_WRITE (R450). A write of CSI_SHARE sets the pipe-0 sharing mode, refused with BUSY_SHARED, LINERAM or ROUTE. -/
  | csiShareWrite (v : Word)
  /-- CSI_VC_ENABLE (R449). Enabling a virtual channel is refused with ROUTE or LINERAM when its routing breaks the rules. -/
  | csiVcEnable (vc : Nat) (v : Word)
  /-- STRIPE_READY (R464). A STRIPE_MUX context holding a stripe of lines is processed by pipe 0 in rotating context order. -/
  | stripeReady
  /-- ISP_FRAME_END (R472). The pipe finishes a frame, and its zone statistics replace the context's readable bank unless STAT_HOLD is set. -/
  | ispFrameEnd (pipe ctx : Nat)
  /-- PROX_STALE_TIMEOUT (R476). A proximity context with no frame end for PROX_TMO ms asserts its stale output to the Lockkeeper. -/
  | proxStaleTimeout (pipe ctx : Nat)
  /-- ISP_OUTPUT_FRAME_DONE (R479). An output frame's last line is written and OUT_STAT names its buffer as latest. -/
  | ispOutputFrameDone (pipe ctx : Nat) (drops : List (Nat × Nat))
  /-- RTX_FRAME_SEND_START (R486). The return link starts sending the next latest frame of a stream, dropping an older unsent frame. -/
  | rtxFrameSendStart
  /-- RTX_FRAME_SENT (R482). A return-link frame ends with its frame end packet and releases its buffer. -/
  | rtxFrameSent
  /-- RTX_DIRECT_LINE (R487). A direct VISION line is sent as it arrives, or replaced by zeros with UNDERRUN, or its frame is dropped. -/
  | rtxDirectLine (stream : Nat) (line : List Nat) (first room : Bool)
  /-- RTX_STREAM_ENABLE (R488). Enabling a return stream is refused with VC_CLASH when another enabled stream uses its virtual channel. -/
  | rtxStreamEnable (stream : Nat) (v : Word)
  /-- FRAME_BOUNDARY (R520). At a scan-out frame boundary, LUT packets, manifest groups, commits, flips, ring latches and flatten switching are applied in order. -/
  | frameBoundary (so ticks : Nat)
  /-- FLIP_ARM (R516). Writing CMP_FLIP.ARM arms a flip group for the boundary that the commit window allows. -/
  | flipArm (v : Word)
  /-- FLIP_CANCEL (R518). Writing CMP_FLIP.CANCEL disarms a group and records CANCELLED. -/
  | flipCancel (v : Word)
  /-- CMP_FENCE_WRITE (R522). A host write to CMP_FENCEn sets the fence, unless a barge FENCE updates it in the same cycle. -/
  | cmpFenceWrite (n : Nat) (v : Word)
  /-- CMP_LAYER_WRITE (R524). A pending layer write waits for its group flip, discards lookahead begun for it, and is refused for V1 under STRIPE_MUX. -/
  | cmpLayerWrite (addr : Nat) (v : Word)
  /-- TABLE_RAM_WRITE (R547). A write to the CMP LUT RAM or the scaler coefficient RAM takes effect on the next pixel that reads the entry. -/
  | tableRamWrite (addr : Nat) (v : Word)
  /-- COMPOSE_LINE_START (R554). The compositor starts the next output line when the basin has room for the whole of it. -/
  | composeLineStart (so : Nat) (wbRoom : Bool)
  /-- FLATTEN_BUILD_START (R546). After a flip invalidates the cache and the running mover job ends, the mover starts a flatten build. -/
  | flattenBuildStart
  /-- FLATTEN_BUILD_DONE (R531). A flatten build ends, and the cache becomes VALID at the next boundary if no member has changed. -/
  | flattenBuildDone
  /-- SAFE_RECT_CHECK (R537). After a guarded rectangle's last pixel, its CRC is compared with EXPECT, or skipped when a line was abandoned. -/
  | safeRectCheck (r : Nat)
  /-- MOV_COPY (R542). A mover COPY job moves W x H pixels in the row and column order that overlap requires. -/
  | movCopy
  /-- MOV_FILL (R541). A mover FILL job writes MOV_FILL to every destination pixel. -/
  | movFill
  /-- MOV_CONVERT (R544). A mover CONVERT job reads SRC_FMT and writes DST_FMT, refused with OVERLAP_LAYOUT on overlapping unequal layouts. -/
  | movConvert
  /-- MOV_JOB_DONE (R545). A mover job ends and sets DONE, with ERR = UE when a bad source word stopped it at a line. -/
  | movJobDone
  /-- SO_COMMIT_GO (R564). SOx_COMMIT.GO requests a commit at the next boundary, or at the one after with LATE, or applies at once while stopped. -/
  | soCommitGo (so : Nat)
  /-- COMMIT_WINDOW_CLOSE (R564). The commit window closes at line VACT - CLOSE_LINES, and later GO or ARM writes count for the following boundary. -/
  | commitWindowClose (so : Nat)
  /-- LINE_SUBSTITUTE (R570). A withheld or late burst makes the rest of the line FB_COLOUR, counts SUBSTITUTE and discards the line's outstanding bursts. -/
  | lineSubstitute (so line x : Nat)
  /-- SO_SNAP (R577). Writing SOx_SNAP_CTL.SNAP copies the last boundary's frame counter and stamps into the snapshot registers. -/
  | soSnap (so : Nat)
  /-- SO_CRC_CHECK (R579). After an output CRC rectangle's last pixel, its CRC is compared with EXPECT, or skipped when a pixel was substituted. -/
  | soCrcCheck (so r : Nat)
  /-- BPS_FRAME_WRITTEN (R595). The formatter finishes writing a frame's planes, histograms and block occupancy into its plane buffer. -/
  | bpsFrameWritten
  /-- BPS_DISPLAY_START (R596). START_OFS ticks after its boundary, the display of a plane buffer starts, cutting the previous display if it is still running. -/
  | bpsDisplayStart
  /-- BPS_PLANE_START (R605). The previous plane's duration ends and the next plane starts its strobe and pulse schedule. -/
  | bpsPlaneStart
  /-- BPS_RESET_STROBE (R613). At a block's strobe time, the block is strobed if its load has ended, otherwise it keeps its plane and PLANE_LATE is counted. -/
  | bpsResetStrobe (block : Nat)
  /-- LIGHT_COMMAND_EDGE (R608). A channel's on or off command edge falls on its LTC tick. -/
  | lightCommandEdge (ch : Nat) (on : Bool)
  /-- MIF_BLOCK_LOAD_DONE (R612). The MIF burst that loads one block of a plane completes on both halves. -/
  | mifBlockLoadDone
  /-- ACT_POS_CHANGE (R617). ACT_LEAD ticks before a sub-frame starts, the pixel-shift code of that sub-frame is driven on ACT_POS1:0. -/
  | actPosChange
  /-- STUCK_MAP_ADD (R620). A write to BPS_MAP_ADD inserts a stuck-mirror entry and requests a STUCK_MIRROR record, or counts MAP_FULL. -/
  | stuckMapAdd (v : Word)
  /-- STUCK_MAP_CLEAR (R621). Writing BPS_MAP_CTL.CLR empties the stuck map from the next frame written. -/
  | stuckMapClear
  /-- MFB_EDGE (R629). A pickup edge is accepted within MISS_WIN or counted as stray, and drives the lock state machine. -/
  | mfbEdge (ticks : Nat)
  /-- MFB_EDGE_MISSING (R632). ACC passes PH_REF plus the window with no accepted edge, which loses lock in LOCKED or restarts MEASURE in TRACK. -/
  | mfbEdgeMissing (ticks : Nat)
  /-- BSC_FAULT_HOLD_END (R631). After FAULT_HOLD ms in FAULT, the engine returns to MEASURE. -/
  | bscFaultHoldEnd
  /-- BSC_CONTROL_RECORD (R642). A control record with VPOS, HAMP and sweep flags is sent so that it ends 64 UI before the sweep's first boundary. -/
  | bscControlRecord
  /-- BSC_SWEEP_START (R625). ACC reaches a sweep's first phase, and a forward or return sweep begins. -/
  | bscSweepStart (ticks : Nat)
  /-- BSC_PIXEL_BOUNDARY (R635). The interpolated phase reaches a pixel boundary, and the column's LDX value words are sent, squeezed or zeroed on underrun. -/
  | bscPixelBoundary (ticks : Nat) (late : Bool)
  /-- BSC_DISPLAY_START (R643). At the first forward sweep after boundary plus START_OFS, a locked and idle engine starts drawing the latest buffer. -/
  | bscDisplayStart
  /-- BSC_FRAME_WRITTEN (R647). A frame from scan-out A is written into the BSC ring, and its buffer becomes latest complete. -/
  | bscFrameWritten (drops : List Nat)
  /-- LTD_COMMIT (R657). At each frame boundary, or every 1 ms without one, pending LTD and SHM values and the last loop outputs are applied. -/
  | ltdCommit
  /-- PIN_SELFTEST_DONE (R682). The pin self-test ends, and a short sets PINSHORT and asserts the light-fault input. -/
  | pinSelftestDone (short : Option (Nat × Nat))
  /-- ADC_SAMPLE (R683). A sense-ADC conversion completes and feeds the photodiode sums, the STRV judgement, the temperature mean or the node window. -/
  | adcSample (slot code : Nat)
  /-- SHF_FAULT (R684). SHF_N low for SHF_FILT us drives every string dark, sets SHF and asserts the light-fault input. -/
  | shfFault
  /-- LTD_FAULT_CLEAR (R687). Writing LTD_FAULT_CLR restores faulted lamps and strings at the next LTD commit and clears SHF while SHF_N is high. -/
  | ltdFaultClear (shfHigh : Bool)
  /-- LOOP_RESET (R679). Writing LTD_CTL.LOOP_RST clears the colour-loop integrators. -/
  | loopReset
  /-- TWP_GO (R698). Writing TWP_TRIG.GO triggers a chain frame, or sets PENDING during a frame. -/
  | twpGo (v : Word)
  /-- TWP_PERIOD_TRIGGER (R698). Every PERIOD ms under TRIG = 1, a chain frame is triggered or merged. -/
  | twpPeriodTrigger
  /-- TWP_FRAME_START (R697). A chain frame starts, copying node RAM and sending header, shares and trailer with the next SEQ, or a dark frame while killed. -/
  | twpFrameStart
  /-- TWP_FRAME_END (R699). A chain frame and its idle gap end, and a pending trigger starts the next frame. -/
  | twpFrameEnd
  /-- TWP_RETURN_RUN (R700). A run received on TWP_RET is judged OK, LONG, SHORT or DATA_ERR and moves the ring state. -/
  | twpReturnRun (highs : List Nat)
  /-- TWP_RETURN_TIMEOUT (R700). No return by the end of the return window gives NONE, moving the ring to SUSPECT, BROKEN or LOCATING. -/
  | twpReturnTimeout
  /-- TWP_LOCATE_REPLY (R703). A locate reply gives N_A or N_B, and after both locates the ring becomes DUAL with RING_BREAK records. -/
  | twpLocateReply (highs : List Nat)
  /-- TWP_LOCATE_LISTEN_TIMEOUT (R703). No reply within 4,200 cells gives a node count of 0 and restores the output. -/
  | twpLocateListenTimeout
  /-- TMR0_PERIOD (R711). A TMR0 period ends and the pattern engines due to tick step and write node RAM. -/
  | tmr0Period
  /-- PAT_RUN (R712). Setting RUN starts the engine at step 0 with L0 = 0 at the next TMR0 boundary, and clearing it stops the engine. -/
  | patRun (engine : Nat) (v : Word)
  /-- PAT_RESTART (R712). Writing RESTART starts the engine again at step 0 at the next TMR0 boundary. -/
  | patRestart (engine : Nat)
  /-- TMR0_WRITE (R710). A write of TWP_TMR0.PER sets the period, and is ignored with TMR_OWNED in LINE mode. -/
  | tmr0Write (v : Word)
  /-- TWP_BUS_SELECT_WRITE (R688). Setting DUAL_EN or a matrix MODE while the other use of TWP_B is enabled is refused with BUSY_SHARED. -/
  | twpBusSelectWrite (matrix : Bool) (v : Word)
  /-- MX_SYNC (R714). A matrix sync swaps the zone buffers when READY, then starts a LINE scan or a ZONE frame, cutting or merging when busy. -/
  | mxSync (edge : Bool)
  /-- MX_ROW_ON_END (R715). After ROW_ON TMR0 periods, the row turns off and the next row's zones are sent. -/
  | mxRowOnEnd
  /-- MX_ZONE_FRAME_END (R717). A ZONE frame and its gap end, and a pending sync is taken. -/
  | mxZoneFrameEnd
  /-- MX_ZONE_BACK_WRITE (R714). A write to the back zone buffer is stored, or ignored with LOCK_ERR while READY = 1. -/
  | mxZoneBackWrite (j : Nat) (v : Word)
  /-- LK_IN_ASSERT (R723). An LK_IN pin active for FILT us asserts its source, which kills the light within 1 us and writes a KILL record. -/
  | lkInAssert (pin : Nat)
  /-- LK_IN_RELEASE (R726). An LK_IN pin inactive for FILT us releases its source, with a RELEASE record when it does not latch. -/
  | lkInRelease (pin : Nat)
  /-- EVENT_SOURCE_EXPIRE (R720). An event source stops being active 100 ms after its last event. -/
  | eventSourceExpire (source : Nat)
  /-- LATCH_CLEAR (R725). Writing 1 to LKK_LATCHED clears a source's latch when the source is not active, writing a RELEASE record. -/
  | latchClear (v : Word)
  /-- LKK_ARM (R727). Writing LKK_ARM arms sources, locking their fields until reset, and writes an ARM record. -/
  | lkkArm (v : Word)
  /-- HOST_KILL (R722). Setting LKK_CTL.HOST_KILL asserts source 13 and darkens the light, and clearing it releases the source. -/
  | hostKill (on : Bool)
  /-- SAFE_FORCE (R728). Setting LKK_CTL.SAFE_FORCE asserts the SAFE show output, which the compositor samples at each boundary. -/
  | safeForce (on : Bool)
  /-- THERM_SAMPLE (R721). Every 1 ms the die temperature is converted and judged against THERM_HI and THERM_LO. -/
  | thermSample (temp : Nat)
  /-- PIN_CHECK_MISMATCH (R730). A kill pin differing from the command for 2 us raises a latched PINCHK event. -/
  | pinCheckMismatch (pin : Nat)
  /-- LOG_RECORD (R731). A record reaches the Lockkeeper, takes the next SEQ, and is stored, lost or discarded under the log policy. -/
  | logRecord
  /-- LOG_CLEAR (R735). Writing LKK_CTL.LOG_CLR sets COUNT, WR, LOST and Q_LOST to 0 and keeps SEQ. -/
  | logClear
  /-- LOG_IDX_WRITE (R736). A write to LKK_LOG_IDX copies that slot into LKK_LOG_DATA0-3. -/
  | logIdxWrite (v : Word)
  /-- LOG_HOST_MARKER (R731). A write to LKK_LOG_HOST queues a HOST record with that value. -/
  | logHostMarker (v : Word)
  /-- CAL_SECOND (R737). The calendar second counter reaches its trimmed threshold, and one second elapses. -/
  | calSecond
  /-- CAL_SET (R740). Writing LKK_CAL_CTL.SET loads a possible date and time with CAL_VALID set, or rejects an impossible one with CAL_ERR. -/
  | calSet
  /-- ALARM_SET (R745). Writing LKK_CAL_CTL.ALARM_SET sets a possible alarm and ALARM_EN, or rejects an impossible one. -/
  | alarmSet
  /-- CAL_TRIM_WRITE (R737). A write to LKK_CAL_TRIM changes the second threshold and writes a TRIM record. -/
  | calTrimWrite (v : Word)
  /-- LAMP_SECOND (R747). Every 100,000,000 lit SHM cycles of a lamp, its LKK_LAMPi_SEC counter rises by 1. -/
  | lampSecond (lamp : Nat)
  /-- LIT_SECOND (R748). Each second of LIGHT_EN_N high in a lit mode or CALIBRATE raises LKK_LIT_SEC. -/
  | litSecond
  /-- LAMP_HOURS_WRITE (R749). A write to a lamp-hour counter replaces its value and clears its remainder. -/
  | lampHoursWrite (counter : Nat) (v : Word)
  /-- POR_ASSERT (R764). POR_N low or an always-on supply below threshold asserts power-on reset of every domain. -/
  | porAssert
  /-- POR_RELEASE (R765). 100 us after the reset conditions end, the straps are sampled, reset is released and the cold start runs E1. -/
  | porRelease (straps : Straps)
  /-- GPIO_WRITE (R774). A write to PWR_GPIO drives U12 while it is GPIO, or leaves OE at 0 and sets GPIO_REF. -/
  | gpioWrite (v : Word)
  /-- TAP_RESET (R805). TRST_N or the TAP state machine resets the TAP to Test-Logic-Reset with IDCODE selected. -/
  | tapReset
  /-- TAP_IDCODE (R805). The IDCODE instruction shifts out the 32-bit value of DBG_ID. -/
  | tapIdcode
  /-- TAP_BYPASS (R805). BYPASS, or any unlisted instruction code, selects the 1-bit bypass register. -/
  | tapBypass (code : Nat) (bit : Bool)
  /-- TAP_CSR_REQUEST (R806). Update-DR of the CSR instruction sends one register request to SYS, refused with DENIED or discarded with OVERRUN. -/
  | tapCsrRequest (dr : Nat)
  /-- TAP_CSR_COMPLETE (R809). A TAP register request completes under the Wharf access rules, with DONE and the read data captured. -/
  | tapCsrComplete
  /-- COUNTER_CLEAR (R752). A write to a block CNT_CLR, or a clear bit of a counter register, clears its counters, and events of the same cycle count after the clear. -/
  | counterClear (addr : Nat) (v : Word)
  /-- REGISTER_WRITE (R23). A write to an internal or top-level register that has no row of its own stores its fields under their access codes and lock events. -/
  | registerWrite (addr : Nat) (v mask : Word)
  /-- BASIN_URGENCY (R574). A scan-out's declared TOL, updated every us, falls below URG_US, so basin urgency is asserted, URG_ENTRIES counts, and the ports it covers take class 0 until TOL reaches 2 x URG_US. -/
  | basinUrgency (so tol : Nat)
  /-- SHUNT_PWM_EDGE (R665). In PANEL, a lamp's shunt opens at cycle PHASE_i x PWM_PER / 256 of each PWM period and closes after duty_i x PWM_PER / 4,096 cycles, wrapping modulo PWM_PER. -/
  | shuntPwmEdge (lamp : Nat) (opening : Bool)
deriving DecidableEq, Repr

end Sys2Proof
end

