-- ==== Sys2Proof/WellFormed.lean ====
section
/-! DEFINITION. Which operands a command can come with: an index names a unit the part has, an address lies in the
range the command writes, a value fits its width. The meanings take every command; one that names a unit the part does
not have has no effect. -/

namespace Sys2Proof

/-- An index below a bound. -/
def below (n k : Nat) : Bool := decide (n < k)

/-- A word address in a range. -/
def wordIn (a lo hi : Nat) : Bool := decide (lo ≤ a) && decide (a < hi) && a % 4 == 0

/-- A place REGISTER_WRITE can name: an internal register, or a top-level register at its address plus 0x1000000. -/
def regPlace (a : Nat) : Bool := wordIn a 0 0x1000000 || (decide (0x1000000 ≤ a) && decide (a < 0x1000100))

/-- A context that exists: four of pipe 0, one of pipe 1 (chapter 10). -/
def ctxExists (pipe ctx : Nat) : Bool := below ctx (if pipe = 0 then 4 else 1)

/-- The straps fit their pins: XS2-XS0, PSEQ1-PSEQ0, A1-A0 (R765). -/
def strapsOk (t : Straps) : Bool := below t.xs 8 && below t.pseq 4 && below t.addr 4

/-- The operands of a command are such as its sender can give. -/
def Instr.wellFormed (i : Instr) : Bool :=
  match i with
  | .modeRequest _ => true
  | .wakeTrigger => true
  | .wakeComplete => true
  | .limpExit => true
  | .loadEntered => true
  | .loadComplete => true
  | .loadFailExit => true
  | .pictureModeEntered => true
  | .standbyEntered => true
  | .calibrateEntered => true
  | .calibrateExited => true
  | .holdEntered => true
  | .reflostComplete => true
  | .wakeFailComplete => true
  | .sleepComplete => true
  | .arithSatClear region => below region 48
  | .tbIncWrite _ => true
  | .tbIrcIncWrite _ => true
  | .tbSnap => true
  | .wharfWriteTransaction sent => below sent.dev 128
  | .wharfReadTransaction sent _ _ => below sent.dev 128
  | .i2cStretchTimeout sent _ => below sent.dev 128
  | .crcEnWrite _ => true
  | .whEvtClear _ => true
  | .whErrClear _ => true
  | .iaddrWrite _ _ => true
  | .prefetchComplete => true
  | .idataHiRead => true
  | .idataHiWrite _ => true
  | .idataLoWrite _ => true
  | .internalWriteComplete => true
  | .apertureComplete => true
  | .mfstGo _ => true
  | .mfstAbort => true
  | .mfstFetchDone => true
  | .mfstFetchTimeout => true
  | .mfstBurstEnd _ => true
  | .wakeUnlock _ => true
  | .xinDelayExpire => true
  | .ircTrimXinUpdate _ => true
  | .pllLock pll _ => below pll 4
  | .pllLockHoldExpire pll => below pll 4
  | .dividerRampStep => true
  | .pllLockTimeout pll _ => below pll 4
  | .pllLockLoss pll _ => below pll 4
  | .monGateEnd _ _ _ => true
  | .xinStop => true
  | .xinGlitch _ => true
  | .ircActivityFault => true
  | .refHoldoverEnd => true
  | .ckgDomWrite dom _ => (below dom 26 && decide (0 < dom))
  | .pllOffRequest _ => true
  | .pllvFracWrite _ => true
  | .fmStart meter _ => below meter 2
  | .fmGateEnd meter _ => below meter 2
  | .fmTimeout meter _ => below meter 2
  | .monEvtClear => true
  | .pdreqWrite _ _ => true
  | .domainSwitchComplete => true
  | .regStepComplete => true
  | .regStepFixedExpire => true
  | .regStepTimeout _ => true
  | .pgLost reg _ => below reg 4
  | .backoutDwellExpire => true
  | .bistPhase1Done _ _ _ => true
  | .bistPhase2Done _ _ => true
  | .ldrHeaderRead _ => true
  | .ledgerScan => true
  | .sectionRead => true
  | .bodyReadDone => true
  | .ledgerAppendRequest kind unit flags data => below kind 256 && below unit 65536 && below flags 65536
      && (decide (data.length ≤ 16) && data.all fun x => below x 256)
  | .ledgerAttemptStart => true
  | .ledgerBusyClear => true
  | .ledgerBusyTimeout => true
  | .ledgerReadbackDone _ => true
  | .fhostRead len => below len 65536
  | .fhostProgram len => below len 65536
  | .fhostErase4k => true
  | .fhostReadId _ => true
  | .fhostReadStatus _ => true
  | .fhostCmdDone => true
  | .fhostTimeout => true
  | .ledgerIdxWrite _ => true
  | .otpArm _ => true
  | .mapGo => true
  | .mcInitGo ch => below ch 2
  | .mcInitResetRelease ch => below ch 2
  | .mcInitCkeRise ch => below ch 2
  | .mcInitComplete ch => below ch 2
  | .sweepGo ch _ => below ch 2
  | .sweepDone ch failMask _ => below ch 2 && below failMask 65536
  | .portRequest port _ line mask words _ => below port 12 && wordIn line 0 0x100000000
      && decide (mask.length = 64) && decide (words.length = 8)
  | .schedulerIssue ch => below ch 2
  | .readDataReturn ch => below ch 2
  | .requestAgePromote ch => below ch 2
  | .refreshDue ch rank => below ch 2 && below rank 2
  | .zqcsDue ch => below ch 2
  | .weirWindowEnd ch => below ch 2
  | .weirIdxWrite ch _ => below ch 2
  | .sluiceEntryStart ch => below ch 2
  | .sluiceSrEntered ch => below ch 2
  | .sluiceExitStart ch cause => below ch 2 && (below cause 5 && decide (0 < cause))
  | .sluiceExitComplete ch => below ch 2
  | .alertFall ch _ => below ch 2
  | .alertRetryReplay ch => below ch 2
  | .freezeSrEntered ch => below ch 2
  | .seedVisitDue ch => below ch 2
  | .scrubVisitDue ch => below ch 2
  | .scrubReadReturn ch => below ch 2
  | .pprGo ch _ => below ch 2
  | .pprDone ch _ => below ch 2
  | .migStart ch => below ch 2
  | .migAbort ch => below ch 2
  | .migCopyLine ch => below ch 2
  | .migFlipComplete ch => below ch 2
  | .errFirstClear ch => below ch 2
  | .snapIdxWrite ch _ => below ch 2
  | .vinLinkLock link => below link 4
  | .vinLinkLoss link => below link 4
  | .vinFrameStart _ _ _ => true
  | .vinLine _ _ _ => true
  | .vinInputLost => true
  | .vinFrameComplete => true
  | .bargePad => true
  | .bargeOsd => true
  | .bargeLut => true
  | .bargeManifest => true
  | .bargeFence => true
  | .bargeUnknown => true
  | .bargeFenceApply => true
  | .bargeSeqReset => true
  | .csiFrameStart vc _ _ => below vc 4
  | .csiFrameEnd header => below header.vc 4
  | .csiImageLine vc _ _ _ _ => below vc 4
  | .csiEmbeddedData vc _ _ => below vc 4
  | .csiGenericShort vc dt _ => below vc 4 && below dt 64
  | .csiShareWrite _ => true
  | .csiVcEnable vc _ => below vc 4
  | .stripeReady => true
  | .ispFrameEnd pipe ctx => below pipe 2 && ctxExists pipe ctx
  | .proxStaleTimeout pipe ctx => below pipe 2 && ctxExists pipe ctx
  | .ispOutputFrameDone pipe ctx _ => below pipe 2 && ctxExists pipe ctx
  | .rtxFrameSendStart => true
  | .rtxFrameSent => true
  | .rtxDirectLine stream _ _ _ => (below stream 3 && decide (0 < stream))
  | .rtxStreamEnable stream _ => below stream 3
  | .frameBoundary so _ => below so 2
  | .flipArm _ => true
  | .flipCancel _ => true
  | .cmpFenceWrite n _ => below n 16
  | .cmpLayerWrite addr _ => wordIn addr 0x100100 0x100500
  | .tableRamWrite addr _ => wordIn addr 0x140000 0x1C0000
  | .composeLineStart so _ => below so 2
  | .flattenBuildStart => true
  | .flattenBuildDone => true
  | .safeRectCheck r => below r 4
  | .movCopy => true
  | .movFill => true
  | .movConvert => true
  | .movJobDone => true
  | .soCommitGo so => below so 2
  | .commitWindowClose so => below so 2
  | .lineSubstitute so _ _ => below so 2
  | .soSnap so => below so 2
  | .soCrcCheck so r => below so 2 && below r 8
  | .bpsFrameWritten => true
  | .bpsDisplayStart => true
  | .bpsPlaneStart => true
  | .bpsResetStrobe block => below block 16
  | .lightCommandEdge ch _ => below ch 6
  | .mifBlockLoadDone => true
  | .actPosChange => true
  | .stuckMapAdd _ => true
  | .stuckMapClear => true
  | .mfbEdge _ => true
  | .mfbEdgeMissing _ => true
  | .bscFaultHoldEnd => true
  | .bscControlRecord => true
  | .bscSweepStart _ => true
  | .bscPixelBoundary _ _ => true
  | .bscDisplayStart => true
  | .bscFrameWritten _ => true
  | .ltdCommit => true
  | .pinSelftestDone _ => true
  | .adcSample slot code => below slot 16 && below code 4096
  | .shfFault => true
  | .ltdFaultClear _ => true
  | .loopReset => true
  | .twpGo _ => true
  | .twpPeriodTrigger => true
  | .twpFrameStart => true
  | .twpFrameEnd => true
  | .twpReturnRun _ => true
  | .twpReturnTimeout => true
  | .twpLocateReply _ => true
  | .twpLocateListenTimeout => true
  | .tmr0Period => true
  | .patRun engine _ => below engine 8
  | .patRestart engine => below engine 8
  | .tmr0Write _ => true
  | .twpBusSelectWrite _ _ => true
  | .mxSync _ => true
  | .mxRowOnEnd => true
  | .mxZoneFrameEnd => true
  | .mxZoneBackWrite j _ => below j 2048
  | .lkInAssert pin => below pin 4
  | .lkInRelease pin => below pin 4
  | .eventSourceExpire source => below source 15
  | .latchClear _ => true
  | .lkkArm _ => true
  | .hostKill _ => true
  | .safeForce _ => true
  | .thermSample _ => true
  | .pinCheckMismatch pin => below pin 2
  | .logRecord => true
  | .logClear => true
  | .logIdxWrite _ => true
  | .logHostMarker _ => true
  | .calSecond => true
  | .calSet => true
  | .alarmSet => true
  | .calTrimWrite _ => true
  | .lampSecond lamp => below lamp 16
  | .litSecond => true
  | .lampHoursWrite counter _ => below counter 17
  | .porAssert => true
  | .porRelease straps => strapsOk straps
  | .gpioWrite _ => true
  | .tapReset => true
  | .tapIdcode => true
  | .tapBypass code _ => below code 16
  | .tapCsrRequest dr => below dr (2 ^ 64)
  | .tapCsrComplete => true
  | .counterClear addr _ => wordIn addr 0 0x1000000
  | .registerWrite addr _ _ => regPlace addr
  | .basinUrgency so _ => below so 2
  | .shuntPwmEdge lamp _ => below lamp 16

end Sys2Proof
end

