-- ==== Sys2Proof/Decode.lean ====
section
/-! DEFINITION. The command a table word spells. The block takes commands and decodes no words: the rows of the table of
operations and events give no bits, so no word spells a command. -/

namespace Sys2Proof

/-- The command whose bits are `w` in a row of `nbits` bits: none, since no row gives bits. -/
def decodeTableWord (nbits w : Nat) : Option Instr :=
  let _ := (nbits, w)
  none

end Sys2Proof
end

