-- ==== Sys2Proof/Config.lean ====
section
/-! DEFINITION. What the spec leaves open: free values. Each is a constant without a body, applied to the model's own
counter `Chip.free` (and to the place it stands for where one is meant), so that nothing in Lean can know a value. -/

namespace Sys2Proof

/-- A value the spec leaves open, one for each reading of the counter. -/
opaque Config.freeNat : Nat → Nat

/-- A byte the spec leaves open: the `k`-th byte of the `n`-th open choice. -/
opaque Config.freeByte : Nat → Nat → Byte

/-- A decision the spec leaves open. -/
opaque Config.freeBool : Nat → Bool

/-- The SRAM repairs that the factory programmed into OTP: macro, row (else column), index. The spec says that they are
copied at the cold start (R248) and not what they are. -/
opaque Config.factoryRepairs : List (Nat × Bool × Nat)

/-- The power domain an SRAM macro lies in, by macro number: the spec numbers the macros and does not place them. -/
opaque Config.macroDomain : Nat → Nat

end Sys2Proof
end

