-- ==== Sys2Proof/Machine/Field.lean ====
section
/-! DEFINITION. A field of a register (its address, its bits), a row of the register map, and the one sparse map that
registers, DRAM, flash, OTP and the table RAMs are kept in: a list of (key, value) pairs, keys strictly rising, no
pair that says what an unlisted key reads as anyway. -/

namespace Sys2Proof.Machine

/-- A field of a register: the register's internal address, the field's highest and lowest bit, and, for an array of
registers, the distance in bytes from one element to the next. -/
structure Field where
  addr : Nat
  hi : Nat
  lo : Nat
  stride : Nat
deriving DecidableEq, Repr

/-- The field's width in bits. -/
def Field.width (f : Field) : Nat := f.hi + 1 - f.lo

/-- The same field of element `i` of an array of registers. -/
def Field.at (f : Field) (i : Nat) : Field := { f with addr := f.addr + i * f.stride }

/-- The same field `d` bytes further on, in a second instance of its block or context. -/
def Field.off (f : Field) (d : Nat) : Field := { f with addr := f.addr + d }

/-- The bits of a word that the field takes. -/
def Field.mask (f : Field) : Word := BitVec.ofNat 32 ((2 ^ f.width - 1) * 2 ^ f.lo)

/-- The field's value in a word. -/
def Field.get (f : Field) (w : Word) : Nat := w.toNat / 2 ^ f.lo % 2 ^ f.width

/-- The word with the field's bits replaced; a value too wide for the field loses its upper bits (R17). -/
def Field.put (f : Field) (w : Word) (v : Nat) : Word :=
  (w &&& ~~~ f.mask) ||| (BitVec.ofNat 32 (v * 2 ^ f.lo) &&& f.mask)

/-- A row of the register map: the register's name in the spec, its address, how many elements the array has and
their distance, its value after reset, and the bits of each access code of Table 0.5. -/
structure RegRow where
  name : String
  addr : Nat
  count : Nat
  stride : Nat
  reset : Nat
  rw : Nat
  rws : Nat
  rwl : Nat
  w1c : Nat
  wo : Nat
deriving DecidableEq, Repr

/-- The row implements the address. -/
def RegRow.holds (r : RegRow) (a : Nat) : Bool :=
  r.addr ≤ a && a < r.addr + r.count * r.stride && (a - r.addr) % r.stride == 0

/-- What the map holds for a key: the listed value, else what the default `d` gives. -/
def SMap.get {α : Type} (d : Nat → α) (m : List (Nat × α)) (k : Nat) : α :=
  match m with
  | [] => d k
  | (a, v) :: t => if a = k then v else SMap.get d t k

/-- Insert a pair before the first larger key. -/
def SMap.ins {α : Type} (k : Nat) (v : α) (m : List (Nat × α)) : List (Nat × α) :=
  match m with
  | [] => [(k, v)]
  | (a, w) :: t => if k < a then (k, v) :: (a, w) :: t else (a, w) :: SMap.ins k v t

/-- Drop every pair of the key. -/
def SMap.erase {α : Type} (m : List (Nat × α)) (k : Nat) : List (Nat × α) :=
  m.filter fun p => decide (p.1 ≠ k)

/-- Give a key a value; the default value is not listed. -/
def SMap.set {α : Type} [DecidableEq α] (d : Nat → α) (m : List (Nat × α)) (k : Nat) (v : α) : List (Nat × α) :=
  if v = d k then SMap.erase m k else SMap.ins k v (SMap.erase m k)

/-- Give consecutive keys, `step` apart, the values of a list. -/
def SMap.setRun {α : Type} [DecidableEq α] (d : Nat → α) (m : List (Nat × α)) (k step : Nat) (vs : List α) :
    List (Nat × α) :=
  match vs with
  | [] => m
  | v :: t => SMap.setRun d (SMap.set d m k v) (k + step) step t

/-- Forget every key from `lo` up to `hi` (not included): they read as the default again. -/
def SMap.clearRange {α : Type} (m : List (Nat × α)) (lo hi : Nat) : List (Nat × α) :=
  m.filter fun p => decide (p.1 < lo ∨ hi ≤ p.1)

/-- Take the keys from `lo` up to `hi` from `src`, all others from `m` (a commit copies a block's pending values). -/
def SMap.copyRange {α : Type} (src m : List (Nat × α)) (lo hi : Nat) : List (Nat × α) :=
  (m.filter fun p => decide (p.1 < lo)) ++ (src.filter fun p => decide (lo ≤ p.1 ∧ p.1 < hi)) ++
    (m.filter fun p => decide (lo ≤ p.1 ∧ hi ≤ p.1))

/-- Canonical form: keys strictly rising, no pair equal to the default. -/
def SMap.wf {α : Type} [DecidableEq α] (d : Nat → α) (m : List (Nat × α)) : Bool :=
  match m with
  | [] => true
  | (a, v) :: t =>
    decide (v ≠ d a) && (match t with | [] => true | (b, _) :: _ => decide (a < b)) && SMap.wf d t

end Sys2Proof.Machine
end

