-- ==== Sys2Proof/Machine/Fields.lean ====
section
/-! DEFINITION. The registers and fields of the internal map, named as the spec's register tables name them:
`BLOCK_REGISTER` is the whole 32-bit register and `BLOCK_REGISTER_FIELD` one field of it (address, high bit, low bit,
and the stride in bytes between the elements of an array of registers; element 0 stands here, `Field.at` gives the
others). -/

namespace Sys2Proof.Machine

/-! CKG_ARITH: Table 2.5, R90 -/
def CKG_ARITH : Field := ⟨0x0000F0, 31, 0, 4⟩
def CKG_ARITH_SAT_COUNT : Field := ⟨0x0000F0, 15, 0, 4⟩
def CKG_ARITH_FIRST_STAGE : Field := ⟨0x0000F0, 23, 16, 4⟩
def CKG_ARITH_FULL : Field := ⟨0x0000F0, 30, 30, 4⟩
def CKG_ARITH_SAT : Field := ⟨0x0000F0, 31, 31, 4⟩
/-! CKG_ARITH_CTL: Table 2.6, R90 -/
def CKG_ARITH_CTL : Field := ⟨0x0000F4, 31, 0, 4⟩
/-! PWR_ARITH: Table 2.5, R90 -/
def PWR_ARITH : Field := ⟨0x0100F0, 31, 0, 4⟩
def PWR_ARITH_SAT_COUNT : Field := ⟨0x0100F0, 15, 0, 4⟩
def PWR_ARITH_FIRST_STAGE : Field := ⟨0x0100F0, 23, 16, 4⟩
def PWR_ARITH_FULL : Field := ⟨0x0100F0, 30, 30, 4⟩
def PWR_ARITH_SAT : Field := ⟨0x0100F0, 31, 31, 4⟩
/-! PWR_ARITH_CTL: Table 2.6, R90 -/
def PWR_ARITH_CTL : Field := ⟨0x0100F4, 31, 0, 4⟩
/-! LDR_ARITH: Table 2.5, R90 -/
def LDR_ARITH : Field := ⟨0x0200F0, 31, 0, 4⟩
def LDR_ARITH_SAT_COUNT : Field := ⟨0x0200F0, 15, 0, 4⟩
def LDR_ARITH_FIRST_STAGE : Field := ⟨0x0200F0, 23, 16, 4⟩
def LDR_ARITH_FULL : Field := ⟨0x0200F0, 30, 30, 4⟩
def LDR_ARITH_SAT : Field := ⟨0x0200F0, 31, 31, 4⟩
/-! LDR_ARITH_CTL: Table 2.6, R90 -/
def LDR_ARITH_CTL : Field := ⟨0x0200F4, 31, 0, 4⟩
/-! MCA_ARITH: Table 2.5, R90 -/
def MCA_ARITH : Field := ⟨0x0400F0, 31, 0, 4⟩
def MCA_ARITH_SAT_COUNT : Field := ⟨0x0400F0, 15, 0, 4⟩
def MCA_ARITH_FIRST_STAGE : Field := ⟨0x0400F0, 23, 16, 4⟩
def MCA_ARITH_FULL : Field := ⟨0x0400F0, 30, 30, 4⟩
def MCA_ARITH_SAT : Field := ⟨0x0400F0, 31, 31, 4⟩
/-! MCA_ARITH_CTL: Table 2.6, R90 -/
def MCA_ARITH_CTL : Field := ⟨0x0400F4, 31, 0, 4⟩
/-! MCB_ARITH: Table 2.5, R90 -/
def MCB_ARITH : Field := ⟨0x0500F0, 31, 0, 4⟩
def MCB_ARITH_SAT_COUNT : Field := ⟨0x0500F0, 15, 0, 4⟩
def MCB_ARITH_FIRST_STAGE : Field := ⟨0x0500F0, 23, 16, 4⟩
def MCB_ARITH_FULL : Field := ⟨0x0500F0, 30, 30, 4⟩
def MCB_ARITH_SAT : Field := ⟨0x0500F0, 31, 31, 4⟩
/-! MCB_ARITH_CTL: Table 2.6, R90 -/
def MCB_ARITH_CTL : Field := ⟨0x0500F4, 31, 0, 4⟩
/-! MCX_ARITH: Table 2.5, R90 -/
def MCX_ARITH : Field := ⟨0x0600F0, 31, 0, 4⟩
def MCX_ARITH_SAT_COUNT : Field := ⟨0x0600F0, 15, 0, 4⟩
def MCX_ARITH_FIRST_STAGE : Field := ⟨0x0600F0, 23, 16, 4⟩
def MCX_ARITH_FULL : Field := ⟨0x0600F0, 30, 30, 4⟩
def MCX_ARITH_SAT : Field := ⟨0x0600F0, 31, 31, 4⟩
/-! MCX_ARITH_CTL: Table 2.6, R90 -/
def MCX_ARITH_CTL : Field := ⟨0x0600F4, 31, 0, 4⟩
/-! VIN_ARITH: Table 2.5, R90 -/
def VIN_ARITH : Field := ⟨0x0800F0, 31, 0, 4⟩
def VIN_ARITH_SAT_COUNT : Field := ⟨0x0800F0, 15, 0, 4⟩
def VIN_ARITH_FIRST_STAGE : Field := ⟨0x0800F0, 23, 16, 4⟩
def VIN_ARITH_FULL : Field := ⟨0x0800F0, 30, 30, 4⟩
def VIN_ARITH_SAT : Field := ⟨0x0800F0, 31, 31, 4⟩
/-! VIN_ARITH_CTL: Table 2.6, R90 -/
def VIN_ARITH_CTL : Field := ⟨0x0800F4, 31, 0, 4⟩
/-! CSI_ARITH: Table 2.5, R90 -/
def CSI_ARITH : Field := ⟨0x0A00F0, 31, 0, 4⟩
def CSI_ARITH_SAT_COUNT : Field := ⟨0x0A00F0, 15, 0, 4⟩
def CSI_ARITH_FIRST_STAGE : Field := ⟨0x0A00F0, 23, 16, 4⟩
def CSI_ARITH_FULL : Field := ⟨0x0A00F0, 30, 30, 4⟩
def CSI_ARITH_SAT : Field := ⟨0x0A00F0, 31, 31, 4⟩
/-! CSI_ARITH_CTL: Table 2.6, R90 -/
def CSI_ARITH_CTL : Field := ⟨0x0A00F4, 31, 0, 4⟩
/-! ISP0_ARITH: Table 2.5, R90 -/
def ISP0_ARITH : Field := ⟨0x0B00F0, 31, 0, 4⟩
def ISP0_ARITH_SAT_COUNT : Field := ⟨0x0B00F0, 15, 0, 4⟩
def ISP0_ARITH_FIRST_STAGE : Field := ⟨0x0B00F0, 23, 16, 4⟩
def ISP0_ARITH_FULL : Field := ⟨0x0B00F0, 30, 30, 4⟩
def ISP0_ARITH_SAT : Field := ⟨0x0B00F0, 31, 31, 4⟩
/-! ISP0_ARITH_CTL: Table 2.6, R90 -/
def ISP0_ARITH_CTL : Field := ⟨0x0B00F4, 31, 0, 4⟩
def ISP0_ARITH_CTL_ROUND_MODE : Field := ⟨0x0B00F4, 1, 0, 4⟩
/-! ISP1_ARITH: Table 2.5, R90 -/
def ISP1_ARITH : Field := ⟨0x0C00F0, 31, 0, 4⟩
def ISP1_ARITH_SAT_COUNT : Field := ⟨0x0C00F0, 15, 0, 4⟩
def ISP1_ARITH_FIRST_STAGE : Field := ⟨0x0C00F0, 23, 16, 4⟩
def ISP1_ARITH_FULL : Field := ⟨0x0C00F0, 30, 30, 4⟩
def ISP1_ARITH_SAT : Field := ⟨0x0C00F0, 31, 31, 4⟩
/-! ISP1_ARITH_CTL: Table 2.6, R90 -/
def ISP1_ARITH_CTL : Field := ⟨0x0C00F4, 31, 0, 4⟩
def ISP1_ARITH_CTL_ROUND_MODE : Field := ⟨0x0C00F4, 1, 0, 4⟩
/-! RTX_ARITH: Table 2.5, R90 -/
def RTX_ARITH : Field := ⟨0x0D00F0, 31, 0, 4⟩
def RTX_ARITH_SAT_COUNT : Field := ⟨0x0D00F0, 15, 0, 4⟩
def RTX_ARITH_FIRST_STAGE : Field := ⟨0x0D00F0, 23, 16, 4⟩
def RTX_ARITH_FULL : Field := ⟨0x0D00F0, 30, 30, 4⟩
def RTX_ARITH_SAT : Field := ⟨0x0D00F0, 31, 31, 4⟩
/-! RTX_ARITH_CTL: Table 2.6, R90 -/
def RTX_ARITH_CTL : Field := ⟨0x0D00F4, 31, 0, 4⟩
/-! CMP_ARITH: Table 2.5, R90 -/
def CMP_ARITH : Field := ⟨0x1000F0, 31, 0, 4⟩
def CMP_ARITH_SAT_COUNT : Field := ⟨0x1000F0, 15, 0, 4⟩
def CMP_ARITH_FIRST_STAGE : Field := ⟨0x1000F0, 23, 16, 4⟩
def CMP_ARITH_FULL : Field := ⟨0x1000F0, 30, 30, 4⟩
def CMP_ARITH_SAT : Field := ⟨0x1000F0, 31, 31, 4⟩
/-! CMP_ARITH_CTL: Table 2.6, R90 -/
def CMP_ARITH_CTL : Field := ⟨0x1000F4, 31, 0, 4⟩
def CMP_ARITH_CTL_ROUND_MODE : Field := ⟨0x1000F4, 1, 0, 4⟩
/-! MOV_ARITH: Table 2.5, R90 -/
def MOV_ARITH : Field := ⟨0x1100F0, 31, 0, 4⟩
def MOV_ARITH_SAT_COUNT : Field := ⟨0x1100F0, 15, 0, 4⟩
def MOV_ARITH_FIRST_STAGE : Field := ⟨0x1100F0, 23, 16, 4⟩
def MOV_ARITH_FULL : Field := ⟨0x1100F0, 30, 30, 4⟩
def MOV_ARITH_SAT : Field := ⟨0x1100F0, 31, 31, 4⟩
/-! MOV_ARITH_CTL: Table 2.6, R90 -/
def MOV_ARITH_CTL : Field := ⟨0x1100F4, 31, 0, 4⟩
/-! SOA_ARITH: Table 2.5, R90 -/
def SOA_ARITH : Field := ⟨0x2000F0, 31, 0, 4⟩
def SOA_ARITH_SAT_COUNT : Field := ⟨0x2000F0, 15, 0, 4⟩
def SOA_ARITH_FIRST_STAGE : Field := ⟨0x2000F0, 23, 16, 4⟩
def SOA_ARITH_FULL : Field := ⟨0x2000F0, 30, 30, 4⟩
def SOA_ARITH_SAT : Field := ⟨0x2000F0, 31, 31, 4⟩
/-! SOA_ARITH_CTL: Table 2.6, R90 -/
def SOA_ARITH_CTL : Field := ⟨0x2000F4, 31, 0, 4⟩
/-! SOB_ARITH: Table 2.5, R90 -/
def SOB_ARITH : Field := ⟨0x2100F0, 31, 0, 4⟩
def SOB_ARITH_SAT_COUNT : Field := ⟨0x2100F0, 15, 0, 4⟩
def SOB_ARITH_FIRST_STAGE : Field := ⟨0x2100F0, 23, 16, 4⟩
def SOB_ARITH_FULL : Field := ⟨0x2100F0, 30, 30, 4⟩
def SOB_ARITH_SAT : Field := ⟨0x2100F0, 31, 31, 4⟩
/-! SOB_ARITH_CTL: Table 2.6, R90 -/
def SOB_ARITH_CTL : Field := ⟨0x2100F4, 31, 0, 4⟩
/-! BPS_ARITH: Table 2.5, R90 -/
def BPS_ARITH : Field := ⟨0x2400F0, 31, 0, 4⟩
def BPS_ARITH_SAT_COUNT : Field := ⟨0x2400F0, 15, 0, 4⟩
def BPS_ARITH_FIRST_STAGE : Field := ⟨0x2400F0, 23, 16, 4⟩
def BPS_ARITH_FULL : Field := ⟨0x2400F0, 30, 30, 4⟩
def BPS_ARITH_SAT : Field := ⟨0x2400F0, 31, 31, 4⟩
/-! BPS_ARITH_CTL: Table 2.6, R90 -/
def BPS_ARITH_CTL : Field := ⟨0x2400F4, 31, 0, 4⟩
/-! BSC_ARITH: Table 2.5, R90 -/
def BSC_ARITH : Field := ⟨0x2600F0, 31, 0, 4⟩
def BSC_ARITH_SAT_COUNT : Field := ⟨0x2600F0, 15, 0, 4⟩
def BSC_ARITH_FIRST_STAGE : Field := ⟨0x2600F0, 23, 16, 4⟩
def BSC_ARITH_FULL : Field := ⟨0x2600F0, 30, 30, 4⟩
def BSC_ARITH_SAT : Field := ⟨0x2600F0, 31, 31, 4⟩
/-! BSC_ARITH_CTL: Table 2.6, R90 -/
def BSC_ARITH_CTL : Field := ⟨0x2600F4, 31, 0, 4⟩
/-! LTD_ARITH: Table 2.5, R90 -/
def LTD_ARITH : Field := ⟨0x2800F0, 31, 0, 4⟩
def LTD_ARITH_SAT_COUNT : Field := ⟨0x2800F0, 15, 0, 4⟩
def LTD_ARITH_FIRST_STAGE : Field := ⟨0x2800F0, 23, 16, 4⟩
def LTD_ARITH_FULL : Field := ⟨0x2800F0, 30, 30, 4⟩
def LTD_ARITH_SAT : Field := ⟨0x2800F0, 31, 31, 4⟩
/-! LTD_ARITH_CTL: Table 2.6, R90 -/
def LTD_ARITH_CTL : Field := ⟨0x2800F4, 31, 0, 4⟩
def LTD_ARITH_CTL_ROUND_MODE : Field := ⟨0x2800F4, 1, 0, 4⟩
/-! SHM_ARITH: Table 2.5, R90 -/
def SHM_ARITH : Field := ⟨0x2900F0, 31, 0, 4⟩
def SHM_ARITH_SAT_COUNT : Field := ⟨0x2900F0, 15, 0, 4⟩
def SHM_ARITH_FIRST_STAGE : Field := ⟨0x2900F0, 23, 16, 4⟩
def SHM_ARITH_FULL : Field := ⟨0x2900F0, 30, 30, 4⟩
def SHM_ARITH_SAT : Field := ⟨0x2900F0, 31, 31, 4⟩
/-! SHM_ARITH_CTL: Table 2.6, R90 -/
def SHM_ARITH_CTL : Field := ⟨0x2900F4, 31, 0, 4⟩
/-! TWP_ARITH: Table 2.5, R90 -/
def TWP_ARITH : Field := ⟨0x2A00F0, 31, 0, 4⟩
def TWP_ARITH_SAT_COUNT : Field := ⟨0x2A00F0, 15, 0, 4⟩
def TWP_ARITH_FIRST_STAGE : Field := ⟨0x2A00F0, 23, 16, 4⟩
def TWP_ARITH_FULL : Field := ⟨0x2A00F0, 30, 30, 4⟩
def TWP_ARITH_SAT : Field := ⟨0x2A00F0, 31, 31, 4⟩
/-! TWP_ARITH_CTL: Table 2.6, R90 -/
def TWP_ARITH_CTL : Field := ⟨0x2A00F4, 31, 0, 4⟩
/-! LKK_ARITH: Table 2.5, R90 -/
def LKK_ARITH : Field := ⟨0x2C00F0, 31, 0, 4⟩
def LKK_ARITH_SAT_COUNT : Field := ⟨0x2C00F0, 15, 0, 4⟩
def LKK_ARITH_FIRST_STAGE : Field := ⟨0x2C00F0, 23, 16, 4⟩
def LKK_ARITH_FULL : Field := ⟨0x2C00F0, 30, 30, 4⟩
def LKK_ARITH_SAT : Field := ⟨0x2C00F0, 31, 31, 4⟩
/-! LKK_ARITH_CTL: Table 2.6, R90 -/
def LKK_ARITH_CTL : Field := ⟨0x2C00F4, 31, 0, 4⟩
/-! DBG_ARITH: Table 2.5, R90 -/
def DBG_ARITH : Field := ⟨0x3F00F0, 31, 0, 4⟩
def DBG_ARITH_SAT_COUNT : Field := ⟨0x3F00F0, 15, 0, 4⟩
def DBG_ARITH_FIRST_STAGE : Field := ⟨0x3F00F0, 23, 16, 4⟩
def DBG_ARITH_FULL : Field := ⟨0x3F00F0, 30, 30, 4⟩
def DBG_ARITH_SAT : Field := ⟨0x3F00F0, 31, 31, 4⟩
/-! DBG_ARITH_CTL: Table 2.6, R90 -/
def DBG_ARITH_CTL : Field := ⟨0x3F00F4, 31, 0, 4⟩
/-! CKG_XIN_CFG: Table 4.10 -/
def CKG_XIN_CFG : Field := ⟨0x000000, 31, 0, 4⟩
def CKG_XIN_CFG_NOM_KHZ : Field := ⟨0x000000, 15, 0, 4⟩
def CKG_XIN_CFG_XS : Field := ⟨0x000000, 18, 16, 4⟩
def CKG_XIN_CFG_PRESENT : Field := ⟨0x000000, 19, 19, 4⟩
/-! CKG_IRC_TRIM: Table 4.10 -/
def CKG_IRC_TRIM : Field := ⟨0x000004, 31, 0, 4⟩
def CKG_IRC_TRIM_FTRIM : Field := ⟨0x000004, 7, 0, 4⟩
def CKG_IRC_TRIM_SRC : Field := ⟨0x000004, 9, 8, 4⟩
def CKG_IRC_TRIM_FREEZE : Field := ⟨0x000004, 10, 10, 4⟩
def CKG_IRC_TRIM_DISCARD : Field := ⟨0x000004, 31, 16, 4⟩
/-! CKG_IRC_FRAME_NS: Table 4.9 -/
def CKG_IRC_FRAME_NS : Field := ⟨0x000008, 31, 0, 4⟩
def CKG_IRC_FRAME_NS_NS : Field := ⟨0x000008, 31, 0, 4⟩
/-! CKG_PLLS_CFG: Tables 4.2, 4.11 -/
def CKG_PLLS_CFG : Field := ⟨0x000010, 31, 0, 4⟩
def CKG_PLLS_CFG_REFDIV : Field := ⟨0x000010, 4, 0, 4⟩
def CKG_PLLS_CFG_FBDIV : Field := ⟨0x000010, 14, 5, 4⟩
def CKG_PLLS_CFG_ODIV : Field := ⟨0x000010, 17, 16, 4⟩
/-! CKG_PLLS_FRAC: Table 4.9 -/
def CKG_PLLS_FRAC : Field := ⟨0x000014, 31, 0, 4⟩
def CKG_PLLS_FRAC_FRAC : Field := ⟨0x000014, 23, 0, 4⟩
/-! CKG_PLLS_STAT: Table 4.11 -/
def CKG_PLLS_STAT : Field := ⟨0x000018, 31, 0, 4⟩
def CKG_PLLS_STAT_LOCK : Field := ⟨0x000018, 0, 0, 4⟩
def CKG_PLLS_STAT_HOLDOVER : Field := ⟨0x000018, 1, 1, 4⟩
def CKG_PLLS_STAT_ON : Field := ⟨0x000018, 2, 2, 4⟩
def CKG_PLLS_STAT_LOSS_COUNT : Field := ⟨0x000018, 15, 8, 4⟩
def CKG_PLLS_STAT_LOCK_US : Field := ⟨0x000018, 31, 16, 4⟩
/-! CKG_PLLM_CFG: Tables 4.2, 4.11 -/
def CKG_PLLM_CFG : Field := ⟨0x000020, 31, 0, 4⟩
def CKG_PLLM_CFG_REFDIV : Field := ⟨0x000020, 4, 0, 4⟩
def CKG_PLLM_CFG_FBDIV : Field := ⟨0x000020, 14, 5, 4⟩
def CKG_PLLM_CFG_ODIV : Field := ⟨0x000020, 17, 16, 4⟩
/-! CKG_PLLM_FRAC: Table 4.9 -/
def CKG_PLLM_FRAC : Field := ⟨0x000024, 31, 0, 4⟩
def CKG_PLLM_FRAC_FRAC : Field := ⟨0x000024, 23, 0, 4⟩
/-! CKG_PLLM_STAT: Table 4.11 -/
def CKG_PLLM_STAT : Field := ⟨0x000028, 31, 0, 4⟩
def CKG_PLLM_STAT_LOCK : Field := ⟨0x000028, 0, 0, 4⟩
def CKG_PLLM_STAT_HOLDOVER : Field := ⟨0x000028, 1, 1, 4⟩
def CKG_PLLM_STAT_ON : Field := ⟨0x000028, 2, 2, 4⟩
def CKG_PLLM_STAT_LOSS_COUNT : Field := ⟨0x000028, 15, 8, 4⟩
def CKG_PLLM_STAT_LOCK_US : Field := ⟨0x000028, 31, 16, 4⟩
/-! CKG_PLLV_CFG: Tables 4.2, 4.11 -/
def CKG_PLLV_CFG : Field := ⟨0x000030, 31, 0, 4⟩
def CKG_PLLV_CFG_REFDIV : Field := ⟨0x000030, 4, 0, 4⟩
def CKG_PLLV_CFG_FBDIV : Field := ⟨0x000030, 14, 5, 4⟩
def CKG_PLLV_CFG_ODIV : Field := ⟨0x000030, 17, 16, 4⟩
/-! CKG_PLLV_FRAC: Table 4.9 -/
def CKG_PLLV_FRAC : Field := ⟨0x000034, 31, 0, 4⟩
def CKG_PLLV_FRAC_FRAC : Field := ⟨0x000034, 23, 0, 4⟩
/-! CKG_PLLV_STAT: Table 4.11 -/
def CKG_PLLV_STAT : Field := ⟨0x000038, 31, 0, 4⟩
def CKG_PLLV_STAT_LOCK : Field := ⟨0x000038, 0, 0, 4⟩
def CKG_PLLV_STAT_HOLDOVER : Field := ⟨0x000038, 1, 1, 4⟩
def CKG_PLLV_STAT_ON : Field := ⟨0x000038, 2, 2, 4⟩
def CKG_PLLV_STAT_LOSS_COUNT : Field := ⟨0x000038, 15, 8, 4⟩
def CKG_PLLV_STAT_LOCK_US : Field := ⟨0x000038, 31, 16, 4⟩
/-! CKG_PLLL_CFG: Tables 4.2, 4.11 -/
def CKG_PLLL_CFG : Field := ⟨0x000040, 31, 0, 4⟩
def CKG_PLLL_CFG_REFDIV : Field := ⟨0x000040, 4, 0, 4⟩
def CKG_PLLL_CFG_FBDIV : Field := ⟨0x000040, 14, 5, 4⟩
def CKG_PLLL_CFG_ODIV : Field := ⟨0x000040, 17, 16, 4⟩
/-! CKG_PLLL_FRAC: Table 4.9 -/
def CKG_PLLL_FRAC : Field := ⟨0x000044, 31, 0, 4⟩
def CKG_PLLL_FRAC_FRAC : Field := ⟨0x000044, 23, 0, 4⟩
/-! CKG_PLLL_STAT: Table 4.11 -/
def CKG_PLLL_STAT : Field := ⟨0x000048, 31, 0, 4⟩
def CKG_PLLL_STAT_LOCK : Field := ⟨0x000048, 0, 0, 4⟩
def CKG_PLLL_STAT_HOLDOVER : Field := ⟨0x000048, 1, 1, 4⟩
def CKG_PLLL_STAT_ON : Field := ⟨0x000048, 2, 2, 4⟩
def CKG_PLLL_STAT_LOSS_COUNT : Field := ⟨0x000048, 15, 8, 4⟩
def CKG_PLLL_STAT_LOCK_US : Field := ⟨0x000048, 31, 16, 4⟩
/-! CKG_PLLV_TRACK: Table 4.11 -/
def CKG_PLLV_TRACK : Field := ⟨0x00003C, 31, 0, 4⟩
def CKG_PLLV_TRACK_RANGE : Field := ⟨0x00003C, 7, 0, 4⟩
def CKG_PLLV_TRACK_OFFSET : Field := ⟨0x00003C, 31, 16, 4⟩
/-! CKG_RAMP_CTL: Table 4.11 -/
def CKG_RAMP_CTL : Field := ⟨0x000050, 31, 0, 4⟩
def CKG_RAMP_CTL_DWELL : Field := ⟨0x000050, 7, 0, 4⟩
def CKG_RAMP_CTL_LOCK_HOLD : Field := ⟨0x000050, 23, 8, 4⟩
def CKG_RAMP_CTL_LOCK_TMO : Field := ⟨0x000050, 31, 24, 4⟩
/-! CKG_PLL_CTL: Table 4.11 -/
def CKG_PLL_CTL : Field := ⟨0x000054, 31, 0, 4⟩
def CKG_PLL_CTL_OFF : Field := ⟨0x000054, 3, 0, 4⟩
def CKG_PLL_CTL_CAL_LO : Field := ⟨0x000054, 5, 4, 4⟩
def CKG_PLL_CTL_CAL_SET : Field := ⟨0x000054, 7, 6, 4⟩
/-! CKG_DOM_XIN: Tables 4.3, 4.12 -/
def CKG_DOM_XIN : Field := ⟨0x000100, 31, 0, 4⟩
def CKG_DOM_XIN_EN_RUN : Field := ⟨0x000100, 0, 0, 4⟩
def CKG_DOM_XIN_EN_SLEEP : Field := ⟨0x000100, 1, 1, 4⟩
def CKG_DOM_XIN_HOLD : Field := ⟨0x000100, 3, 3, 4⟩
def CKG_DOM_XIN_DIV : Field := ⟨0x000100, 7, 4, 4⟩
def CKG_DOM_XIN_STATE : Field := ⟨0x000100, 19, 16, 4⟩
def CKG_DOM_XIN_USECNT : Field := ⟨0x000100, 27, 20, 4⟩
/-! CKG_DOM_IRC: Tables 4.3, 4.12 -/
def CKG_DOM_IRC : Field := ⟨0x000104, 31, 0, 4⟩
def CKG_DOM_IRC_EN_RUN : Field := ⟨0x000104, 0, 0, 4⟩
def CKG_DOM_IRC_EN_SLEEP : Field := ⟨0x000104, 1, 1, 4⟩
def CKG_DOM_IRC_EN_DEEP : Field := ⟨0x000104, 2, 2, 4⟩
def CKG_DOM_IRC_HOLD : Field := ⟨0x000104, 3, 3, 4⟩
def CKG_DOM_IRC_DIV : Field := ⟨0x000104, 7, 4, 4⟩
def CKG_DOM_IRC_STATE : Field := ⟨0x000104, 19, 16, 4⟩
def CKG_DOM_IRC_USECNT : Field := ⟨0x000104, 27, 20, 4⟩
/-! CKG_DOM_AON: Tables 4.3, 4.12 -/
def CKG_DOM_AON : Field := ⟨0x000108, 31, 0, 4⟩
def CKG_DOM_AON_EN_RUN : Field := ⟨0x000108, 0, 0, 4⟩
def CKG_DOM_AON_EN_SLEEP : Field := ⟨0x000108, 1, 1, 4⟩
def CKG_DOM_AON_EN_DEEP : Field := ⟨0x000108, 2, 2, 4⟩
def CKG_DOM_AON_HOLD : Field := ⟨0x000108, 3, 3, 4⟩
def CKG_DOM_AON_DIV : Field := ⟨0x000108, 7, 4, 4⟩
def CKG_DOM_AON_STATE : Field := ⟨0x000108, 19, 16, 4⟩
def CKG_DOM_AON_USECNT : Field := ⟨0x000108, 27, 20, 4⟩
/-! CKG_DOM_WHF: Tables 4.3, 4.12 -/
def CKG_DOM_WHF : Field := ⟨0x00010C, 31, 0, 4⟩
def CKG_DOM_WHF_EN_RUN : Field := ⟨0x00010C, 0, 0, 4⟩
def CKG_DOM_WHF_EN_SLEEP : Field := ⟨0x00010C, 1, 1, 4⟩
def CKG_DOM_WHF_HOLD : Field := ⟨0x00010C, 3, 3, 4⟩
def CKG_DOM_WHF_DIV : Field := ⟨0x00010C, 7, 4, 4⟩
def CKG_DOM_WHF_STATE : Field := ⟨0x00010C, 19, 16, 4⟩
def CKG_DOM_WHF_USECNT : Field := ⟨0x00010C, 27, 20, 4⟩
/-! CKG_DOM_SYS: Tables 4.3, 4.12 -/
def CKG_DOM_SYS : Field := ⟨0x000110, 31, 0, 4⟩
def CKG_DOM_SYS_EN_RUN : Field := ⟨0x000110, 0, 0, 4⟩
def CKG_DOM_SYS_EN_SLEEP : Field := ⟨0x000110, 1, 1, 4⟩
def CKG_DOM_SYS_HOLD : Field := ⟨0x000110, 3, 3, 4⟩
def CKG_DOM_SYS_DIV : Field := ⟨0x000110, 7, 4, 4⟩
def CKG_DOM_SYS_SRC : Field := ⟨0x000110, 9, 8, 4⟩
def CKG_DOM_SYS_STATE : Field := ⟨0x000110, 19, 16, 4⟩
def CKG_DOM_SYS_USECNT : Field := ⟨0x000110, 27, 20, 4⟩
/-! CKG_DOM_MCC: Tables 4.3, 4.12 -/
def CKG_DOM_MCC : Field := ⟨0x000114, 31, 0, 4⟩
def CKG_DOM_MCC_EN_RUN : Field := ⟨0x000114, 0, 0, 4⟩
def CKG_DOM_MCC_EN_SLEEP : Field := ⟨0x000114, 1, 1, 4⟩
def CKG_DOM_MCC_HOLD : Field := ⟨0x000114, 3, 3, 4⟩
def CKG_DOM_MCC_DIV : Field := ⟨0x000114, 7, 4, 4⟩
def CKG_DOM_MCC_STATE : Field := ⟨0x000114, 19, 16, 4⟩
def CKG_DOM_MCC_USECNT : Field := ⟨0x000114, 27, 20, 4⟩
def CKG_DOM_MCC_STOP_AB : Field := ⟨0x000114, 29, 28, 4⟩
/-! CKG_DOM_MPH: Tables 4.3, 4.12 -/
def CKG_DOM_MPH : Field := ⟨0x000118, 31, 0, 4⟩
def CKG_DOM_MPH_EN_RUN : Field := ⟨0x000118, 0, 0, 4⟩
def CKG_DOM_MPH_EN_SLEEP : Field := ⟨0x000118, 1, 1, 4⟩
def CKG_DOM_MPH_HOLD : Field := ⟨0x000118, 3, 3, 4⟩
def CKG_DOM_MPH_DIV : Field := ⟨0x000118, 7, 4, 4⟩
def CKG_DOM_MPH_STATE : Field := ⟨0x000118, 19, 16, 4⟩
def CKG_DOM_MPH_USECNT : Field := ⟨0x000118, 27, 20, 4⟩
def CKG_DOM_MPH_STOP_AB : Field := ⟨0x000118, 29, 28, 4⟩
/-! CKG_DOM_PIX: Tables 4.3, 4.12 -/
def CKG_DOM_PIX : Field := ⟨0x00011C, 31, 0, 4⟩
def CKG_DOM_PIX_EN_RUN : Field := ⟨0x00011C, 0, 0, 4⟩
def CKG_DOM_PIX_EN_SLEEP : Field := ⟨0x00011C, 1, 1, 4⟩
def CKG_DOM_PIX_HOLD : Field := ⟨0x00011C, 3, 3, 4⟩
def CKG_DOM_PIX_DIV : Field := ⟨0x00011C, 7, 4, 4⟩
def CKG_DOM_PIX_STATE : Field := ⟨0x00011C, 19, 16, 4⟩
def CKG_DOM_PIX_USECNT : Field := ⟨0x00011C, 27, 20, 4⟩
/-! CKG_DOM_ISP: Tables 4.3, 4.12 -/
def CKG_DOM_ISP : Field := ⟨0x000120, 31, 0, 4⟩
def CKG_DOM_ISP_EN_RUN : Field := ⟨0x000120, 0, 0, 4⟩
def CKG_DOM_ISP_EN_SLEEP : Field := ⟨0x000120, 1, 1, 4⟩
def CKG_DOM_ISP_HOLD : Field := ⟨0x000120, 3, 3, 4⟩
def CKG_DOM_ISP_DIV : Field := ⟨0x000120, 7, 4, 4⟩
def CKG_DOM_ISP_STATE : Field := ⟨0x000120, 19, 16, 4⟩
def CKG_DOM_ISP_USECNT : Field := ⟨0x000120, 27, 20, 4⟩
/-! CKG_DOM_CMP: Tables 4.3, 4.12 -/
def CKG_DOM_CMP : Field := ⟨0x000124, 31, 0, 4⟩
def CKG_DOM_CMP_EN_RUN : Field := ⟨0x000124, 0, 0, 4⟩
def CKG_DOM_CMP_EN_SLEEP : Field := ⟨0x000124, 1, 1, 4⟩
def CKG_DOM_CMP_HOLD : Field := ⟨0x000124, 3, 3, 4⟩
def CKG_DOM_CMP_DIV : Field := ⟨0x000124, 7, 4, 4⟩
def CKG_DOM_CMP_STATE : Field := ⟨0x000124, 19, 16, 4⟩
def CKG_DOM_CMP_USECNT : Field := ⟨0x000124, 27, 20, 4⟩
/-! CKG_DOM_SOA: Tables 4.3, 4.12 -/
def CKG_DOM_SOA : Field := ⟨0x000128, 31, 0, 4⟩
def CKG_DOM_SOA_EN_RUN : Field := ⟨0x000128, 0, 0, 4⟩
def CKG_DOM_SOA_EN_SLEEP : Field := ⟨0x000128, 1, 1, 4⟩
def CKG_DOM_SOA_HOLD : Field := ⟨0x000128, 3, 3, 4⟩
def CKG_DOM_SOA_DIV : Field := ⟨0x000128, 7, 4, 4⟩
def CKG_DOM_SOA_STATE : Field := ⟨0x000128, 19, 16, 4⟩
def CKG_DOM_SOA_USECNT : Field := ⟨0x000128, 27, 20, 4⟩
/-! CKG_DOM_SOB: Tables 4.3, 4.12 -/
def CKG_DOM_SOB : Field := ⟨0x00012C, 31, 0, 4⟩
def CKG_DOM_SOB_EN_RUN : Field := ⟨0x00012C, 0, 0, 4⟩
def CKG_DOM_SOB_EN_SLEEP : Field := ⟨0x00012C, 1, 1, 4⟩
def CKG_DOM_SOB_HOLD : Field := ⟨0x00012C, 3, 3, 4⟩
def CKG_DOM_SOB_DIV : Field := ⟨0x00012C, 7, 4, 4⟩
def CKG_DOM_SOB_ALIGN : Field := ⟨0x00012C, 12, 12, 4⟩
def CKG_DOM_SOB_STATE : Field := ⟨0x00012C, 19, 16, 4⟩
def CKG_DOM_SOB_USECNT : Field := ⟨0x00012C, 27, 20, 4⟩
/-! CKG_DOM_MIF: Tables 4.3, 4.12 -/
def CKG_DOM_MIF : Field := ⟨0x000130, 31, 0, 4⟩
def CKG_DOM_MIF_EN_RUN : Field := ⟨0x000130, 0, 0, 4⟩
def CKG_DOM_MIF_EN_SLEEP : Field := ⟨0x000130, 1, 1, 4⟩
def CKG_DOM_MIF_HOLD : Field := ⟨0x000130, 3, 3, 4⟩
def CKG_DOM_MIF_DIV : Field := ⟨0x000130, 7, 4, 4⟩
def CKG_DOM_MIF_STATE : Field := ⟨0x000130, 19, 16, 4⟩
def CKG_DOM_MIF_USECNT : Field := ⟨0x000130, 27, 20, 4⟩
/-! CKG_DOM_LTC: Tables 4.3, 4.12 -/
def CKG_DOM_LTC : Field := ⟨0x000134, 31, 0, 4⟩
def CKG_DOM_LTC_EN_RUN : Field := ⟨0x000134, 0, 0, 4⟩
def CKG_DOM_LTC_EN_SLEEP : Field := ⟨0x000134, 1, 1, 4⟩
def CKG_DOM_LTC_HOLD : Field := ⟨0x000134, 3, 3, 4⟩
def CKG_DOM_LTC_DIV : Field := ⟨0x000134, 7, 4, 4⟩
def CKG_DOM_LTC_STATE : Field := ⟨0x000134, 19, 16, 4⟩
def CKG_DOM_LTC_USECNT : Field := ⟨0x000134, 27, 20, 4⟩
/-! CKG_DOM_SPA: Tables 4.3, 4.12 -/
def CKG_DOM_SPA : Field := ⟨0x000138, 31, 0, 4⟩
def CKG_DOM_SPA_EN_RUN : Field := ⟨0x000138, 0, 0, 4⟩
def CKG_DOM_SPA_EN_SLEEP : Field := ⟨0x000138, 1, 1, 4⟩
def CKG_DOM_SPA_HOLD : Field := ⟨0x000138, 3, 3, 4⟩
def CKG_DOM_SPA_DIV : Field := ⟨0x000138, 7, 4, 4⟩
def CKG_DOM_SPA_STATE : Field := ⟨0x000138, 19, 16, 4⟩
def CKG_DOM_SPA_USECNT : Field := ⟨0x000138, 27, 20, 4⟩
/-! CKG_DOM_VIN: Tables 4.3, 4.12 -/
def CKG_DOM_VIN : Field := ⟨0x00013C, 31, 0, 4⟩
def CKG_DOM_VIN_EN_RUN : Field := ⟨0x00013C, 0, 0, 4⟩
def CKG_DOM_VIN_EN_SLEEP : Field := ⟨0x00013C, 1, 1, 4⟩
def CKG_DOM_VIN_HOLD : Field := ⟨0x00013C, 3, 3, 4⟩
def CKG_DOM_VIN_DIV : Field := ⟨0x00013C, 7, 4, 4⟩
def CKG_DOM_VIN_STATE : Field := ⟨0x00013C, 19, 16, 4⟩
def CKG_DOM_VIN_USECNT : Field := ⟨0x00013C, 27, 20, 4⟩
/-! CKG_DOM_CAM: Tables 4.3, 4.12 -/
def CKG_DOM_CAM : Field := ⟨0x000140, 31, 0, 4⟩
def CKG_DOM_CAM_EN_RUN : Field := ⟨0x000140, 0, 0, 4⟩
def CKG_DOM_CAM_EN_SLEEP : Field := ⟨0x000140, 1, 1, 4⟩
def CKG_DOM_CAM_HOLD : Field := ⟨0x000140, 3, 3, 4⟩
def CKG_DOM_CAM_DIV : Field := ⟨0x000140, 7, 4, 4⟩
def CKG_DOM_CAM_STATE : Field := ⟨0x000140, 19, 16, 4⟩
def CKG_DOM_CAM_USECNT : Field := ⟨0x000140, 27, 20, 4⟩
/-! CKG_DOM_RTX: Tables 4.3, 4.12 -/
def CKG_DOM_RTX : Field := ⟨0x000144, 31, 0, 4⟩
def CKG_DOM_RTX_EN_RUN : Field := ⟨0x000144, 0, 0, 4⟩
def CKG_DOM_RTX_EN_SLEEP : Field := ⟨0x000144, 1, 1, 4⟩
def CKG_DOM_RTX_HOLD : Field := ⟨0x000144, 3, 3, 4⟩
def CKG_DOM_RTX_DIV : Field := ⟨0x000144, 7, 4, 4⟩
def CKG_DOM_RTX_STATE : Field := ⟨0x000144, 19, 16, 4⟩
def CKG_DOM_RTX_USECNT : Field := ⟨0x000144, 27, 20, 4⟩
/-! CKG_DOM_TWP: Tables 4.3, 4.12 -/
def CKG_DOM_TWP : Field := ⟨0x000148, 31, 0, 4⟩
def CKG_DOM_TWP_EN_RUN : Field := ⟨0x000148, 0, 0, 4⟩
def CKG_DOM_TWP_EN_SLEEP : Field := ⟨0x000148, 1, 1, 4⟩
def CKG_DOM_TWP_HOLD : Field := ⟨0x000148, 3, 3, 4⟩
def CKG_DOM_TWP_DIV : Field := ⟨0x000148, 7, 4, 4⟩
def CKG_DOM_TWP_SRC : Field := ⟨0x000148, 9, 8, 4⟩
def CKG_DOM_TWP_XDIV : Field := ⟨0x000148, 11, 10, 4⟩
def CKG_DOM_TWP_STATE : Field := ⟨0x000148, 19, 16, 4⟩
def CKG_DOM_TWP_USECNT : Field := ⟨0x000148, 27, 20, 4⟩
/-! CKG_DOM_SHM: Tables 4.3, 4.12 -/
def CKG_DOM_SHM : Field := ⟨0x00014C, 31, 0, 4⟩
def CKG_DOM_SHM_EN_RUN : Field := ⟨0x00014C, 0, 0, 4⟩
def CKG_DOM_SHM_EN_SLEEP : Field := ⟨0x00014C, 1, 1, 4⟩
def CKG_DOM_SHM_HOLD : Field := ⟨0x00014C, 3, 3, 4⟩
def CKG_DOM_SHM_DIV : Field := ⟨0x00014C, 7, 4, 4⟩
def CKG_DOM_SHM_STATE : Field := ⟨0x00014C, 19, 16, 4⟩
def CKG_DOM_SHM_USECNT : Field := ⟨0x00014C, 27, 20, 4⟩
/-! CKG_DOM_FLD: Tables 4.3, 4.12 -/
def CKG_DOM_FLD : Field := ⟨0x000150, 31, 0, 4⟩
def CKG_DOM_FLD_EN_RUN : Field := ⟨0x000150, 0, 0, 4⟩
def CKG_DOM_FLD_EN_SLEEP : Field := ⟨0x000150, 1, 1, 4⟩
def CKG_DOM_FLD_HOLD : Field := ⟨0x000150, 3, 3, 4⟩
def CKG_DOM_FLD_DIV : Field := ⟨0x000150, 7, 4, 4⟩
def CKG_DOM_FLD_SRC : Field := ⟨0x000150, 9, 8, 4⟩
def CKG_DOM_FLD_STATE : Field := ⟨0x000150, 19, 16, 4⟩
def CKG_DOM_FLD_USECNT : Field := ⟨0x000150, 27, 20, 4⟩
/-! CKG_DOM_LKK: Tables 4.3, 4.12 -/
def CKG_DOM_LKK : Field := ⟨0x000154, 31, 0, 4⟩
def CKG_DOM_LKK_EN_RUN : Field := ⟨0x000154, 0, 0, 4⟩
def CKG_DOM_LKK_EN_SLEEP : Field := ⟨0x000154, 1, 1, 4⟩
def CKG_DOM_LKK_EN_DEEP : Field := ⟨0x000154, 2, 2, 4⟩
def CKG_DOM_LKK_HOLD : Field := ⟨0x000154, 3, 3, 4⟩
def CKG_DOM_LKK_DIV : Field := ⟨0x000154, 7, 4, 4⟩
def CKG_DOM_LKK_STATE : Field := ⟨0x000154, 19, 16, 4⟩
def CKG_DOM_LKK_USECNT : Field := ⟨0x000154, 27, 20, 4⟩
/-! CKG_DOM_PDA: Tables 4.3, 4.12 -/
def CKG_DOM_PDA : Field := ⟨0x000158, 31, 0, 4⟩
def CKG_DOM_PDA_EN_RUN : Field := ⟨0x000158, 0, 0, 4⟩
def CKG_DOM_PDA_EN_SLEEP : Field := ⟨0x000158, 1, 1, 4⟩
def CKG_DOM_PDA_HOLD : Field := ⟨0x000158, 3, 3, 4⟩
def CKG_DOM_PDA_DIV : Field := ⟨0x000158, 7, 4, 4⟩
def CKG_DOM_PDA_STATE : Field := ⟨0x000158, 19, 16, 4⟩
def CKG_DOM_PDA_USECNT : Field := ⟨0x000158, 27, 20, 4⟩
/-! CKG_DOM_MFB: Tables 4.3, 4.12 -/
def CKG_DOM_MFB : Field := ⟨0x00015C, 31, 0, 4⟩
def CKG_DOM_MFB_EN_RUN : Field := ⟨0x00015C, 0, 0, 4⟩
def CKG_DOM_MFB_EN_SLEEP : Field := ⟨0x00015C, 1, 1, 4⟩
def CKG_DOM_MFB_HOLD : Field := ⟨0x00015C, 3, 3, 4⟩
def CKG_DOM_MFB_DIV : Field := ⟨0x00015C, 7, 4, 4⟩
def CKG_DOM_MFB_STATE : Field := ⟨0x00015C, 19, 16, 4⟩
def CKG_DOM_MFB_USECNT : Field := ⟨0x00015C, 27, 20, 4⟩
/-! CKG_DOM_TCK: Tables 4.3, 4.12 -/
def CKG_DOM_TCK : Field := ⟨0x000160, 31, 0, 4⟩
def CKG_DOM_TCK_EN_RUN : Field := ⟨0x000160, 0, 0, 4⟩
def CKG_DOM_TCK_EN_SLEEP : Field := ⟨0x000160, 1, 1, 4⟩
def CKG_DOM_TCK_HOLD : Field := ⟨0x000160, 3, 3, 4⟩
def CKG_DOM_TCK_DIV : Field := ⟨0x000160, 7, 4, 4⟩
def CKG_DOM_TCK_STATE : Field := ⟨0x000160, 19, 16, 4⟩
def CKG_DOM_TCK_USECNT : Field := ⟨0x000160, 27, 20, 4⟩
/-! CKG_ERR: Table 4.13 -/
def CKG_ERR : Field := ⟨0x000200, 31, 0, 4⟩
def CKG_ERR_DOMAIN : Field := ⟨0x000200, 4, 0, 4⟩
def CKG_ERR_CODE : Field := ⟨0x000200, 7, 5, 4⟩
def CKG_ERR_ERR : Field := ⟨0x000200, 31, 31, 4⟩
/-! CKG_FM0_CTL: Table 4.13 -/
def CKG_FM0_CTL : Field := ⟨0x000300, 31, 0, 4⟩
def CKG_FM0_CTL_TGT : Field := ⟨0x000300, 4, 0, 4⟩
def CKG_FM0_CTL_REF : Field := ⟨0x000300, 12, 8, 4⟩
def CKG_FM0_CTL_START : Field := ⟨0x000300, 16, 16, 4⟩
def CKG_FM0_CTL_DONE : Field := ⟨0x000300, 17, 17, 4⟩
def CKG_FM0_CTL_TMO : Field := ⟨0x000300, 18, 18, 4⟩
def CKG_FM0_CTL_BUSY : Field := ⟨0x000300, 19, 19, 4⟩
/-! CKG_FM0_GATE: Table 4.9 -/
def CKG_FM0_GATE : Field := ⟨0x000304, 31, 0, 4⟩
def CKG_FM0_GATE_GATE : Field := ⟨0x000304, 23, 0, 4⟩
/-! CKG_FM0_COUNT: Table 4.9 -/
def CKG_FM0_COUNT : Field := ⟨0x000308, 31, 0, 4⟩
def CKG_FM0_COUNT_COUNT : Field := ⟨0x000308, 31, 0, 4⟩
/-! CKG_FM1_CTL: Table 4.13 -/
def CKG_FM1_CTL : Field := ⟨0x000310, 31, 0, 4⟩
def CKG_FM1_CTL_TGT : Field := ⟨0x000310, 4, 0, 4⟩
def CKG_FM1_CTL_REF : Field := ⟨0x000310, 12, 8, 4⟩
def CKG_FM1_CTL_START : Field := ⟨0x000310, 16, 16, 4⟩
def CKG_FM1_CTL_DONE : Field := ⟨0x000310, 17, 17, 4⟩
def CKG_FM1_CTL_TMO : Field := ⟨0x000310, 18, 18, 4⟩
def CKG_FM1_CTL_BUSY : Field := ⟨0x000310, 19, 19, 4⟩
/-! CKG_FM1_GATE: Table 4.9 -/
def CKG_FM1_GATE : Field := ⟨0x000314, 31, 0, 4⟩
def CKG_FM1_GATE_GATE : Field := ⟨0x000314, 23, 0, 4⟩
/-! CKG_FM1_COUNT: Table 4.9 -/
def CKG_FM1_COUNT : Field := ⟨0x000318, 31, 0, 4⟩
def CKG_FM1_COUNT_COUNT : Field := ⟨0x000318, 31, 0, 4⟩
/-! CKG_MON_CTL: Table 4.13 -/
def CKG_MON_CTL : Field := ⟨0x000400, 31, 0, 4⟩
def CKG_MON_CTL_XCHK : Field := ⟨0x000400, 0, 0, 4⟩
def CKG_MON_CTL_WIN : Field := ⟨0x000400, 4, 1, 4⟩
def CKG_MON_CTL_GLITCH_PCT : Field := ⟨0x000400, 7, 5, 4⟩
def CKG_MON_CTL_GLITCH_LIM : Field := ⟨0x000400, 11, 8, 4⟩
def CKG_MON_CTL_PLLCHK : Field := ⟨0x000400, 15, 12, 4⟩
def CKG_MON_CTL_GATE_US : Field := ⟨0x000400, 23, 16, 4⟩
/-! CKG_MON_STAT: Table 4.13 -/
def CKG_MON_STAT : Field := ⟨0x000408, 31, 0, 4⟩
def CKG_MON_STAT_XIN_OK : Field := ⟨0x000408, 0, 0, 4⟩
def CKG_MON_STAT_CAUSE : Field := ⟨0x000408, 7, 4, 4⟩
def CKG_MON_STAT_DRAM_LOST : Field := ⟨0x000408, 8, 8, 4⟩
def CKG_MON_STAT_EVT : Field := ⟨0x000408, 31, 31, 4⟩
/-! CKG_MON_GLITCH: Table 4.9 -/
def CKG_MON_GLITCH : Field := ⟨0x00040C, 31, 0, 4⟩
def CKG_MON_GLITCH_GLITCH : Field := ⟨0x00040C, 15, 0, 4⟩
/-! CKG_TB_SNAP: Table 4.9 -/
def CKG_TB_SNAP : Field := ⟨0x000500, 31, 0, 4⟩
def CKG_TB_SNAP_SNAP : Field := ⟨0x000500, 0, 0, 4⟩
/-! CKG_TB_SNAP_LO: Table 4.9 -/
def CKG_TB_SNAP_LO : Field := ⟨0x000504, 31, 0, 4⟩
def CKG_TB_SNAP_LO_LO : Field := ⟨0x000504, 31, 0, 4⟩
/-! CKG_TB_SNAP_HI: Table 4.9 -/
def CKG_TB_SNAP_HI : Field := ⟨0x000508, 31, 0, 4⟩
def CKG_TB_SNAP_HI_HI : Field := ⟨0x000508, 31, 0, 4⟩
/-! CKG_TB_INC: Table 4.9, R87 -/
def CKG_TB_INC : Field := ⟨0x00050C, 31, 0, 4⟩
def CKG_TB_INC_INC : Field := ⟨0x00050C, 31, 0, 4⟩
/-! CKG_TB_IRC_INC: Table 4.9, R203 -/
def CKG_TB_IRC_INC : Field := ⟨0x000510, 31, 0, 4⟩
def CKG_TB_IRC_INC_INC : Field := ⟨0x000510, 31, 0, 4⟩
/-! CKG_TB_STAT: Table 4.9 -/
def CKG_TB_STAT : Field := ⟨0x000514, 31, 0, 4⟩
def CKG_TB_STAT_ON_IRC : Field := ⟨0x000514, 0, 0, 4⟩
/-! PWR_SEQ_CTL: Table 5.8 -/
def PWR_SEQ_CTL : Field := ⟨0x010000, 31, 0, 4⟩
def PWR_SEQ_CTL_STEP_TMO : Field := ⟨0x010000, 6, 0, 4⟩
def PWR_SEQ_CTL_PG_FILT : Field := ⟨0x010000, 15, 8, 4⟩
def PWR_SEQ_CTL_WAKE_WHF : Field := ⟨0x010000, 16, 16, 4⟩
def PWR_SEQ_CTL_WAKE_CAL : Field := ⟨0x010000, 17, 17, 4⟩
/-! PWR_STBY_CTL: Table 5.8 -/
def PWR_STBY_CTL : Field := ⟨0x010004, 31, 0, 4⟩
def PWR_STBY_CTL_DRAM_A_OFF : Field := ⟨0x010004, 0, 0, 4⟩
def PWR_STBY_CTL_DRAM_B_OFF : Field := ⟨0x010004, 1, 1, 4⟩
/-! PWR_REG_CFG: Table 5.8, R235 (USED by strap) -/
def PWR_REG_CFG : Field := ⟨0x010010, 31, 0, 4⟩
def PWR_REG_CFG_USED : Field := ⟨0x010010, 0, 0, 4⟩
def PWR_REG_CFG_NOPG : Field := ⟨0x010010, 1, 1, 4⟩
def PWR_REG_CFG_OFF_DWELL : Field := ⟨0x010010, 15, 8, 4⟩
def PWR_REG_CFG_FIXED_MS : Field := ⟨0x010010, 23, 16, 4⟩
/-! PWR_PDREQ_LO: Table 5.7 -/
def PWR_PDREQ_LO : Field := ⟨0x010020, 31, 0, 4⟩
def PWR_PDREQ_LO_REQ : Field := ⟨0x010020, 31, 0, 4⟩
/-! PWR_PDREQ_HI: Table 5.7 -/
def PWR_PDREQ_HI : Field := ⟨0x010024, 31, 0, 4⟩
def PWR_PDREQ_HI_REQ : Field := ⟨0x010024, 19, 0, 4⟩
/-! PWR_PDSTAT: Table 5.7 -/
def PWR_PDSTAT : Field := ⟨0x010030, 31, 0, 4⟩
def PWR_PDSTAT_STAT : Field := ⟨0x010030, 31, 0, 4⟩
/-! PWR_ERR: Table 5.9 -/
def PWR_ERR : Field := ⟨0x010040, 31, 0, 4⟩
def PWR_ERR_PD : Field := ⟨0x010040, 5, 0, 4⟩
def PWR_ERR_CODE : Field := ⟨0x010040, 9, 8, 4⟩
def PWR_ERR_ERR : Field := ⟨0x010040, 31, 31, 4⟩
/-! PWR_WAKE_STAT: Table 5.9 -/
def PWR_WAKE_STAT : Field := ⟨0x010050, 31, 0, 4⟩
def PWR_WAKE_STAT_SRC : Field := ⟨0x010050, 2, 0, 4⟩
def PWR_WAKE_STAT_FAIL_KIND : Field := ⟨0x010050, 5, 4, 4⟩
def PWR_WAKE_STAT_FAIL_STEP : Field := ⟨0x010050, 7, 6, 4⟩
def PWR_WAKE_STAT_PG_NOW : Field := ⟨0x010050, 11, 8, 4⟩
def PWR_WAKE_STAT_IGNORED : Field := ⟨0x010050, 12, 12, 4⟩
def PWR_WAKE_STAT_FAIL_TIME : Field := ⟨0x010050, 31, 16, 4⟩
/-! PWR_PINMUX: Table 19.10 -/
def PWR_PINMUX : Field := ⟨0x010060, 31, 0, 4⟩
def PWR_PINMUX_SHF_SEL : Field := ⟨0x010060, 0, 0, 4⟩
/-! PWR_PIN_STAT: Table 19.10 -/
def PWR_PIN_STAT : Field := ⟨0x010064, 31, 0, 4⟩
def PWR_PIN_STAT_BOWNER : Field := ⟨0x010064, 1, 0, 4⟩
def PWR_PIN_STAT_B_DENIED : Field := ⟨0x010064, 2, 2, 4⟩
def PWR_PIN_STAT_U12_FN : Field := ⟨0x010064, 4, 3, 4⟩
def PWR_PIN_STAT_RET_DENIED : Field := ⟨0x010064, 5, 5, 4⟩
def PWR_PIN_STAT_GPIO_REF : Field := ⟨0x010064, 8, 8, 4⟩
/-! PWR_GPIO: Table 19.10 -/
def PWR_GPIO : Field := ⟨0x010068, 31, 0, 4⟩
def PWR_GPIO_OE : Field := ⟨0x010068, 0, 0, 4⟩
def PWR_GPIO_OUT : Field := ⟨0x010068, 1, 1, 4⟩
def PWR_GPIO_IN : Field := ⟨0x010068, 8, 8, 4⟩
/-! PWR_STRAP: Table 19.10 -/
def PWR_STRAP : Field := ⟨0x01006C, 31, 0, 4⟩
def PWR_STRAP_XS : Field := ⟨0x01006C, 2, 0, 4⟩
def PWR_STRAP_PSEQ : Field := ⟨0x01006C, 4, 3, 4⟩
def PWR_STRAP_WSEL : Field := ⟨0x01006C, 5, 5, 4⟩
def PWR_STRAP_ADDR : Field := ⟨0x01006C, 7, 6, 4⟩
/-! LDR_STAT: Table 6.11 -/
def LDR_STAT : Field := ⟨0x020000, 31, 0, 4⟩
def LDR_STAT_PHASE : Field := ⟨0x020000, 2, 0, 4⟩
def LDR_STAT_ERR : Field := ⟨0x020000, 7, 4, 4⟩
def LDR_STAT_MFST_ERR : Field := ⟨0x020000, 11, 8, 4⟩
def LDR_STAT_SAFE_LOCKED : Field := ⟨0x020000, 12, 12, 4⟩
def LDR_STAT_DIGEST_OK : Field := ⟨0x020000, 13, 13, 4⟩
/-! LDR_FLASH_ID: Table 6.10 -/
def LDR_FLASH_ID : Field := ⟨0x020004, 31, 0, 4⟩
def LDR_FLASH_ID_ID : Field := ⟨0x020004, 23, 0, 4⟩
/-! LDR_IMG_VER: Table 6.10 -/
def LDR_IMG_VER : Field := ⟨0x020008, 31, 0, 4⟩
def LDR_IMG_VER_VER : Field := ⟨0x020008, 31, 0, 4⟩
/-! LDR_IMG_LEN: Table 6.10 -/
def LDR_IMG_LEN : Field := ⟨0x02000C, 31, 0, 4⟩
def LDR_IMG_LEN_LEN : Field := ⟨0x02000C, 31, 0, 4⟩
/-! LDR_ERR_POS: Table 6.10 -/
def LDR_ERR_POS : Field := ⟨0x020010, 31, 0, 4⟩
def LDR_ERR_POS_SECT : Field := ⟨0x020010, 5, 0, 4⟩
def LDR_ERR_POS_OFS : Field := ⟨0x020010, 31, 8, 4⟩
/-! LDR_TIME: Table 6.10 -/
def LDR_TIME : Field := ⟨0x020014, 31, 0, 4⟩
def LDR_TIME_US : Field := ⟨0x020014, 31, 0, 4⟩
/-! LDR_BIST_STAT: Table 6.11 -/
def LDR_BIST_STAT : Field := ⟨0x020020, 31, 0, 4⟩
def LDR_BIST_STAT_FAIL_MACRO : Field := ⟨0x020020, 7, 0, 4⟩
def LDR_BIST_STAT_NEW_REPAIRS : Field := ⟨0x020020, 15, 8, 4⟩
def LDR_BIST_STAT_LEDGER_SKIP : Field := ⟨0x020020, 23, 16, 4⟩
def LDR_BIST_STAT_IN_FORCE : Field := ⟨0x020020, 31, 24, 4⟩
/-! LDR_LANE: Table 6.11 -/
def LDR_LANE : Field := ⟨0x020024, 31, 0, 4⟩
def LDR_LANE_SPARED : Field := ⟨0x020024, 3, 0, 4⟩
def LDR_LANE_LANE8_BAD : Field := ⟨0x020024, 4, 4, 4⟩
/-! LDR_LEDGER_STAT: Table 6.12 -/
def LDR_LEDGER_STAT : Field := ⟨0x020030, 31, 0, 4⟩
def LDR_LEDGER_STAT_NEXT : Field := ⟨0x020030, 11, 0, 4⟩
def LDR_LEDGER_STAT_TORN : Field := ⟨0x020030, 22, 12, 4⟩
def LDR_LEDGER_STAT_CORRUPT : Field := ⟨0x020030, 31, 23, 4⟩
/-! LDR_LEDGER_CTL: Table 6.12 -/
def LDR_LEDGER_CTL : Field := ⟨0x020034, 31, 0, 4⟩
def LDR_LEDGER_CTL_PROG_TMO : Field := ⟨0x020034, 7, 0, 4⟩
def LDR_LEDGER_CTL_APPEND_EN : Field := ⟨0x020034, 8, 8, 4⟩
/-! LDR_LEDGER_CNT: Table 6.12 -/
def LDR_LEDGER_CNT : Field := ⟨0x020038, 31, 0, 4⟩
def LDR_LEDGER_CNT_APPENDED : Field := ⟨0x020038, 7, 0, 4⟩
def LDR_LEDGER_CNT_SUPPRESSED : Field := ⟨0x020038, 15, 8, 4⟩
def LDR_LEDGER_CNT_FAILED : Field := ⟨0x020038, 23, 16, 4⟩
def LDR_LEDGER_CNT_QUEUED : Field := ⟨0x020038, 28, 24, 4⟩
/-! LDR_LEDGER_IDX: Table 6.10 -/
def LDR_LEDGER_IDX : Field := ⟨0x02003C, 31, 0, 4⟩
def LDR_LEDGER_IDX_SLOT : Field := ⟨0x02003C, 10, 0, 4⟩
def LDR_LEDGER_IDX_READY : Field := ⟨0x02003C, 31, 31, 4⟩
/-! LDR_LEDGER_REC: Table 6.10 -/
def LDR_LEDGER_REC : Field := ⟨0x020040, 31, 0, 4⟩
def LDR_LEDGER_REC_REC : Field := ⟨0x020040, 31, 0, 4⟩
/-! LDR_OTP_CTL: Table 6.10 -/
def LDR_OTP_CTL : Field := ⟨0x020060, 31, 0, 4⟩
def LDR_OTP_CTL_ARM : Field := ⟨0x020060, 0, 0, 4⟩
def LDR_OTP_CTL_IDX : Field := ⟨0x020060, 13, 8, 4⟩
/-! LDR_OTP_RD: Table 6.10 -/
def LDR_OTP_RD : Field := ⟨0x020064, 31, 0, 4⟩
def LDR_OTP_RD_RD : Field := ⟨0x020064, 31, 0, 4⟩
/-! LDR_OTP_PMASK: Table 6.10 -/
def LDR_OTP_PMASK : Field := ⟨0x020068, 31, 0, 4⟩
def LDR_OTP_PMASK_MASK : Field := ⟨0x020068, 31, 0, 4⟩
/-! LDR_OTP_STAT: Table 6.10 -/
def LDR_OTP_STAT : Field := ⟨0x02006C, 31, 0, 4⟩
def LDR_OTP_STAT_REFUSED : Field := ⟨0x02006C, 0, 0, 4⟩
def LDR_OTP_STAT_LOCKED : Field := ⟨0x02006C, 1, 1, 4⟩
/-! LDR_OTP_CONFLICT: Table 6.10 -/
def LDR_OTP_CONFLICT : Field := ⟨0x020070, 31, 0, 4⟩
def LDR_OTP_CONFLICT_BITS : Field := ⟨0x020070, 31, 0, 4⟩
/-! LDR_OTP_VERIFY: Table 6.10 -/
def LDR_OTP_VERIFY : Field := ⟨0x020074, 31, 0, 4⟩
def LDR_OTP_VERIFY_BITS : Field := ⟨0x020074, 31, 0, 4⟩
/-! LDR_FHOST_CMD: Table 6.13 -/
def LDR_FHOST_CMD : Field := ⟨0x020100, 31, 0, 4⟩
def LDR_FHOST_CMD_OP : Field := ⟨0x020100, 2, 0, 4⟩
def LDR_FHOST_CMD_LEN : Field := ⟨0x020100, 15, 8, 4⟩
def LDR_FHOST_CMD_GO : Field := ⟨0x020100, 16, 16, 4⟩
def LDR_FHOST_CMD_DONE : Field := ⟨0x020100, 17, 17, 4⟩
def LDR_FHOST_CMD_ERR : Field := ⟨0x020100, 20, 18, 4⟩
/-! LDR_FHOST_ADDR: Table 6.10 -/
def LDR_FHOST_ADDR : Field := ⟨0x020104, 31, 0, 4⟩
def LDR_FHOST_ADDR_ADDR : Field := ⟨0x020104, 31, 0, 4⟩
/-! LDR_OTP_CUST: Table 6.10 -/
def LDR_OTP_CUST : Field := ⟨0x020200, 31, 0, 4⟩
def LDR_OTP_CUST_WORD : Field := ⟨0x020200, 31, 0, 4⟩
/-! LDR_FHOST_BUF: Table 6.10 -/
def LDR_FHOST_BUF : Field := ⟨0x020400, 31, 0, 4⟩
def LDR_FHOST_BUF_WORD : Field := ⟨0x020400, 31, 0, 4⟩
/-! MCA_CFG: Table 7.10 -/
def MCA_CFG : Field := ⟨0x040000, 31, 0, 4⟩
def MCA_CFG_ENABLE : Field := ⟨0x040000, 0, 0, 4⟩
def MCA_CFG_RANKS : Field := ⟨0x040000, 1, 1, 4⟩
def MCA_CFG_DENSITY : Field := ⟨0x040000, 2, 2, 4⟩
def MCA_CFG_SPARE_RANK : Field := ⟨0x040000, 3, 3, 4⟩
def MCA_CFG_CA_PAR_EN : Field := ⟨0x040000, 4, 4, 4⟩
def MCA_CFG_WCRC_EN : Field := ⟨0x040000, 5, 5, 4⟩
def MCA_CFG_ODT_NT : Field := ⟨0x040000, 6, 6, 4⟩
def MCA_CFG_RATE : Field := ⟨0x040000, 11, 8, 4⟩
/-! MCA_INIT_CTL: Table 7.8 -/
def MCA_INIT_CTL : Field := ⟨0x040004, 31, 0, 4⟩
def MCA_INIT_CTL_GO : Field := ⟨0x040004, 0, 0, 4⟩
/-! MCA_STAT: Table 7.10 -/
def MCA_STAT : Field := ⟨0x040008, 31, 0, 4⟩
def MCA_STAT_STATE : Field := ⟨0x040008, 2, 0, 4⟩
/-! MCA_MR: Table 7.8 -/
def MCA_MR : Field := ⟨0x040010, 31, 0, 4⟩
def MCA_MR_MR : Field := ⟨0x040010, 13, 0, 4⟩
/-! MCA_TIM0: Table 7.9 -/
def MCA_TIM0 : Field := ⟨0x040040, 31, 0, 4⟩
def MCA_TIM0_CL : Field := ⟨0x040040, 5, 0, 4⟩
def MCA_TIM0_CWL : Field := ⟨0x040040, 13, 8, 4⟩
def MCA_TIM0_RCD : Field := ⟨0x040040, 21, 16, 4⟩
def MCA_TIM0_RP : Field := ⟨0x040040, 29, 24, 4⟩
/-! MCA_TIM1: Table 7.9 -/
def MCA_TIM1 : Field := ⟨0x040044, 31, 0, 4⟩
def MCA_TIM1_RAS : Field := ⟨0x040044, 7, 0, 4⟩
def MCA_TIM1_RC : Field := ⟨0x040044, 15, 8, 4⟩
def MCA_TIM1_RRD_S : Field := ⟨0x040044, 21, 16, 4⟩
def MCA_TIM1_RRD_L : Field := ⟨0x040044, 29, 24, 4⟩
/-! MCA_TIM2: Table 7.9 -/
def MCA_TIM2 : Field := ⟨0x040048, 31, 0, 4⟩
def MCA_TIM2_FAW : Field := ⟨0x040048, 7, 0, 4⟩
def MCA_TIM2_CCD_S : Field := ⟨0x040048, 11, 8, 4⟩
def MCA_TIM2_CCD_L : Field := ⟨0x040048, 15, 12, 4⟩
def MCA_TIM2_WR : Field := ⟨0x040048, 21, 16, 4⟩
def MCA_TIM2_RTP : Field := ⟨0x040048, 29, 24, 4⟩
/-! MCA_TIM3: Table 7.9 -/
def MCA_TIM3 : Field := ⟨0x04004C, 31, 0, 4⟩
def MCA_TIM3_WTR_S : Field := ⟨0x04004C, 4, 0, 4⟩
def MCA_TIM3_WTR_L : Field := ⟨0x04004C, 12, 8, 4⟩
def MCA_TIM3_RTR : Field := ⟨0x04004C, 19, 16, 4⟩
def MCA_TIM3_TA_EXTRA : Field := ⟨0x04004C, 27, 24, 4⟩
/-! MCA_TIM4: Table 7.9 -/
def MCA_TIM4 : Field := ⟨0x040050, 31, 0, 4⟩
def MCA_TIM4_RFC1 : Field := ⟨0x040050, 9, 0, 4⟩
def MCA_TIM4_RFC2 : Field := ⟨0x040050, 25, 16, 4⟩
/-! MCA_TIM5: Table 7.9 -/
def MCA_TIM5 : Field := ⟨0x040054, 31, 0, 4⟩
def MCA_TIM5_REFI : Field := ⟨0x040054, 15, 0, 4⟩
def MCA_TIM5_XS : Field := ⟨0x040054, 25, 16, 4⟩
/-! MCA_TIM6: Table 7.9 -/
def MCA_TIM6 : Field := ⟨0x040058, 31, 0, 4⟩
def MCA_TIM6_XSDLL : Field := ⟨0x040058, 11, 0, 4⟩
def MCA_TIM6_XP : Field := ⟨0x040058, 19, 16, 4⟩
def MCA_TIM6_CKE : Field := ⟨0x040058, 27, 24, 4⟩
/-! MCA_TIM7: Table 7.9 -/
def MCA_TIM7 : Field := ⟨0x04005C, 31, 0, 4⟩
def MCA_TIM7_MRD : Field := ⟨0x04005C, 4, 0, 4⟩
def MCA_TIM7_MOD : Field := ⟨0x04005C, 12, 8, 4⟩
def MCA_TIM7_PL : Field := ⟨0x04005C, 18, 16, 4⟩
def MCA_TIM7_ZQCS : Field := ⟨0x04005C, 31, 24, 4⟩
/-! MCA_REF_CTL: Table 7.10 -/
def MCA_REF_CTL : Field := ⟨0x040060, 31, 0, 4⟩
def MCA_REF_CTL_MODE2X : Field := ⟨0x040060, 0, 0, 4⟩
def MCA_REF_CTL_TEMP2X : Field := ⟨0x040060, 1, 1, 4⟩
def MCA_REF_CTL_POSTPONE : Field := ⟨0x040060, 7, 4, 4⟩
def MCA_REF_CTL_OWED : Field := ⟨0x040060, 20, 16, 4⟩
/-! MCA_ZQ_CTL: Table 7.8 -/
def MCA_ZQ_CTL : Field := ⟨0x040064, 31, 0, 4⟩
def MCA_ZQ_CTL_ZQ_INT : Field := ⟨0x040064, 7, 0, 4⟩
/-! MCA_WEIR_CTL: Table 7.11 -/
def MCA_WEIR_CTL : Field := ⟨0x040080, 31, 0, 4⟩
def MCA_WEIR_CTL_WEIR : Field := ⟨0x040080, 15, 0, 4⟩
def MCA_WEIR_CTL_EN : Field := ⟨0x040080, 16, 16, 4⟩
def MCA_WEIR_CTL_RADIUS2 : Field := ⟨0x040080, 17, 17, 4⟩
def MCA_WEIR_CTL_CLR : Field := ⟨0x040080, 31, 31, 4⟩
/-! MCA_WEIR_STAT: Table 7.11 -/
def MCA_WEIR_STAT : Field := ⟨0x040084, 31, 0, 4⟩
def MCA_WEIR_STAT_TRIGGERS : Field := ⟨0x040084, 15, 0, 4⟩
def MCA_WEIR_STAT_STALL : Field := ⟨0x040084, 31, 16, 4⟩
/-! MCA_WEIR_IDX: Table 7.8 -/
def MCA_WEIR_IDX : Field := ⟨0x040088, 31, 0, 4⟩
def MCA_WEIR_IDX_BANK : Field := ⟨0x040088, 2, 0, 4⟩
def MCA_WEIR_IDX_RANK : Field := ⟨0x040088, 3, 3, 4⟩
def MCA_WEIR_IDX_ENTRY : Field := ⟨0x040088, 7, 4, 4⟩
/-! MCA_WEIR_ENT: Table 7.8 -/
def MCA_WEIR_ENT : Field := ⟨0x04008C, 31, 0, 4⟩
def MCA_WEIR_ENT_ROW : Field := ⟨0x04008C, 15, 0, 4⟩
def MCA_WEIR_ENT_COUNT : Field := ⟨0x04008C, 31, 16, 4⟩
/-! MCA_SLUICE_CFG: Table 7.11 -/
def MCA_SLUICE_CFG : Field := ⟨0x0400A0, 31, 0, 4⟩
def MCA_SLUICE_CFG_IDLE_US : Field := ⟨0x0400A0, 7, 0, 4⟩
def MCA_SLUICE_CFG_GUARD_US : Field := ⟨0x0400A0, 15, 8, 4⟩
def MCA_SLUICE_CFG_SHALLOW_EN : Field := ⟨0x0400A0, 16, 16, 4⟩
def MCA_SLUICE_CFG_DEEP_EN : Field := ⟨0x0400A0, 17, 17, 4⟩
/-! MCA_SLUICE_EXIT: Table 7.11 -/
def MCA_SLUICE_EXIT : Field := ⟨0x0400A4, 31, 0, 4⟩
def MCA_SLUICE_EXIT_SHALLOW_US : Field := ⟨0x0400A4, 11, 0, 4⟩
def MCA_SLUICE_EXIT_DEEP_US : Field := ⟨0x0400A4, 27, 16, 4⟩
/-! MCA_SLUICE_STAT: Table 7.11 -/
def MCA_SLUICE_STAT : Field := ⟨0x0400A8, 31, 0, 4⟩
def MCA_SLUICE_STAT_MIN_TOL : Field := ⟨0x0400A8, 15, 0, 4⟩
def MCA_SLUICE_STAT_LAST_EXIT : Field := ⟨0x0400A8, 18, 16, 4⟩
def MCA_SLUICE_STAT_ENTRIES : Field := ⟨0x0400A8, 31, 20, 4⟩
/-! MCA_PHY_WLVL: Table 7.13 -/
def MCA_PHY_WLVL : Field := ⟨0x040100, 31, 0, 16⟩
def MCA_PHY_WLVL_WLVL : Field := ⟨0x040100, 6, 0, 16⟩
/-! MCA_PHY_RGATE: Table 7.13 -/
def MCA_PHY_RGATE : Field := ⟨0x040104, 31, 0, 16⟩
def MCA_PHY_RGATE_RGATE : Field := ⟨0x040104, 8, 0, 16⟩
/-! MCA_PHY_RDQS: Table 7.13 -/
def MCA_PHY_RDQS : Field := ⟨0x040108, 31, 0, 16⟩
def MCA_PHY_RDQS_RDQS : Field := ⟨0x040108, 5, 0, 16⟩
/-! MCA_PHY_WDQ: Table 7.13 -/
def MCA_PHY_WDQ : Field := ⟨0x04010C, 31, 0, 16⟩
def MCA_PHY_WDQ_WDQ : Field := ⟨0x04010C, 6, 0, 16⟩
/-! MCA_PHY_CA: Table 7.13 -/
def MCA_PHY_CA : Field := ⟨0x040120, 31, 0, 4⟩
def MCA_PHY_CA_CA : Field := ⟨0x040120, 6, 0, 4⟩
/-! MCA_PHY_VREF: Table 7.13 -/
def MCA_PHY_VREF : Field := ⟨0x040124, 31, 0, 4⟩
def MCA_PHY_VREF_VREF : Field := ⟨0x040124, 6, 0, 4⟩
/-! MCA_SWEEP_CTL: Table 7.12 -/
def MCA_SWEEP_CTL : Field := ⟨0x040140, 31, 0, 4⟩
def MCA_SWEEP_CTL_GO : Field := ⟨0x040140, 0, 0, 4⟩
def MCA_SWEEP_CTL_PATTERN : Field := ⟨0x040140, 2, 1, 4⟩
def MCA_SWEEP_CTL_LINES : Field := ⟨0x040140, 15, 8, 4⟩
def MCA_SWEEP_CTL_DONE : Field := ⟨0x040140, 16, 16, 4⟩
def MCA_SWEEP_CTL_REFUSED : Field := ⟨0x040140, 17, 17, 4⟩
/-! MCA_SWEEP_ADDR: Table 7.12 -/
def MCA_SWEEP_ADDR : Field := ⟨0x040144, 31, 0, 4⟩
def MCA_SWEEP_ADDR_BANK : Field := ⟨0x040144, 2, 0, 4⟩
def MCA_SWEEP_ADDR_RANK : Field := ⟨0x040144, 3, 3, 4⟩
def MCA_SWEEP_ADDR_ROW : Field := ⟨0x040144, 19, 4, 4⟩
/-! MCA_SWEEP_RES: Table 7.12 -/
def MCA_SWEEP_RES : Field := ⟨0x040148, 31, 0, 4⟩
def MCA_SWEEP_RES_FAIL_MASK : Field := ⟨0x040148, 15, 0, 4⟩
def MCA_SWEEP_RES_ERR_COUNT : Field := ⟨0x040148, 31, 16, 4⟩
/-! MCA_QSTAT: Table 7.8 -/
def MCA_QSTAT : Field := ⟨0x040160, 31, 0, 4⟩
def MCA_QSTAT_RDQ : Field := ⟨0x040160, 6, 0, 4⟩
def MCA_QSTAT_WRQ : Field := ⟨0x040160, 13, 8, 4⟩
def MCA_QSTAT_NRQ : Field := ⟨0x040160, 20, 16, 4⟩
/-! MCA_ECC_CTL: Table 8.8 -/
def MCA_ECC_CTL : Field := ⟨0x040200, 31, 0, 4⟩
def MCA_ECC_CTL_POLICY : Field := ⟨0x040200, 0, 0, 4⟩
def MCA_ECC_CTL_MIG_CE : Field := ⟨0x040200, 15, 8, 4⟩
/-! MCA_ECC_STAT: Table 8.8 -/
def MCA_ECC_STAT : Field := ⟨0x040204, 31, 0, 4⟩
def MCA_ECC_STAT_SEEDED : Field := ⟨0x040204, 0, 0, 4⟩
def MCA_ECC_STAT_FROZEN : Field := ⟨0x040204, 1, 1, 4⟩
def MCA_ECC_STAT_RETIRED : Field := ⟨0x040204, 4, 4, 4⟩
def MCA_ECC_STAT_POISON_SEEN : Field := ⟨0x040204, 31, 16, 4⟩
/-! MCA_CNT_A: Table 8.8 -/
def MCA_CNT_A : Field := ⟨0x040210, 31, 0, 8⟩
def MCA_CNT_A_CE : Field := ⟨0x040210, 15, 0, 8⟩
def MCA_CNT_A_UE : Field := ⟨0x040210, 31, 16, 8⟩
/-! MCA_CNT_B: Table 8.8 -/
def MCA_CNT_B : Field := ⟨0x040214, 31, 0, 8⟩
def MCA_CNT_B_POISON_READ : Field := ⟨0x040214, 15, 0, 8⟩
def MCA_CNT_B_POISONED : Field := ⟨0x040214, 31, 16, 8⟩
/-! MCA_ALERT_CNT: Table 8.7 -/
def MCA_ALERT_CNT : Field := ⟨0x040230, 31, 0, 4⟩
def MCA_ALERT_CNT_PAR : Field := ⟨0x040230, 15, 0, 4⟩
def MCA_ALERT_CNT_WCRC : Field := ⟨0x040230, 31, 16, 4⟩
/-! MCA_RETRY_CNT: Table 8.7 -/
def MCA_RETRY_CNT : Field := ⟨0x040234, 31, 0, 4⟩
def MCA_RETRY_CNT_RETRY_FAIL : Field := ⟨0x040234, 15, 0, 4⟩
def MCA_RETRY_CNT_MIG_NOSPARE : Field := ⟨0x040234, 31, 16, 4⟩
/-! MCA_RETRY_CTL: Table 8.8 -/
def MCA_RETRY_CTL : Field := ⟨0x040238, 31, 0, 4⟩
def MCA_RETRY_CTL_RETRY_WIN : Field := ⟨0x040238, 6, 0, 4⟩
def MCA_RETRY_CTL_RETRY_MAX : Field := ⟨0x040238, 11, 8, 4⟩
/-! MCA_CNT_CLR: Table 8.7 -/
def MCA_CNT_CLR : Field := ⟨0x04023C, 31, 0, 4⟩
def MCA_CNT_CLR_CLR : Field := ⟨0x04023C, 0, 0, 4⟩
/-! MCA_ERR_FIRST0: Table 8.9 -/
def MCA_ERR_FIRST0 : Field := ⟨0x040240, 31, 0, 4⟩
def MCA_ERR_FIRST0_ADDR : Field := ⟨0x040240, 31, 0, 4⟩
/-! MCA_ERR_FIRST1: Table 8.9 -/
def MCA_ERR_FIRST1 : Field := ⟨0x040244, 31, 0, 4⟩
def MCA_ERR_FIRST1_RANK : Field := ⟨0x040244, 0, 0, 4⟩
def MCA_ERR_FIRST1_BANK : Field := ⟨0x040244, 3, 1, 4⟩
def MCA_ERR_FIRST1_ROW : Field := ⟨0x040244, 19, 4, 4⟩
def MCA_ERR_FIRST1_COL : Field := ⟨0x040244, 29, 20, 4⟩
/-! MCA_ERR_FIRST2: Table 8.9 -/
def MCA_ERR_FIRST2 : Field := ⟨0x040248, 31, 0, 4⟩
def MCA_ERR_FIRST2_SYN : Field := ⟨0x040248, 7, 0, 4⟩
def MCA_ERR_FIRST2_WORD : Field := ⟨0x040248, 10, 8, 4⟩
def MCA_ERR_FIRST2_KIND : Field := ⟨0x040248, 13, 11, 4⟩
def MCA_ERR_FIRST2_SOURCE : Field := ⟨0x040248, 17, 14, 4⟩
def MCA_ERR_FIRST2_SPECULATIVE : Field := ⟨0x040248, 24, 24, 4⟩
def MCA_ERR_FIRST2_SEEDING : Field := ⟨0x040248, 25, 25, 4⟩
def MCA_ERR_FIRST2_CRITICAL : Field := ⟨0x040248, 26, 26, 4⟩
def MCA_ERR_FIRST2_CHECKBIT : Field := ⟨0x040248, 27, 27, 4⟩
def MCA_ERR_FIRST2_VALID : Field := ⟨0x040248, 31, 31, 4⟩
/-! MCA_ERR_FIRST3: Table 8.9 -/
def MCA_ERR_FIRST3 : Field := ⟨0x04024C, 31, 0, 4⟩
def MCA_ERR_FIRST3_TB_LO : Field := ⟨0x04024C, 31, 0, 4⟩
/-! MCA_ERR_FIRST4: Table 8.9 -/
def MCA_ERR_FIRST4 : Field := ⟨0x040250, 31, 0, 4⟩
def MCA_ERR_FIRST4_TB_HI : Field := ⟨0x040250, 31, 0, 4⟩
/-! MCA_ERR_LAST0: Table 8.9 -/
def MCA_ERR_LAST0 : Field := ⟨0x040260, 31, 0, 4⟩
def MCA_ERR_LAST0_ADDR : Field := ⟨0x040260, 31, 0, 4⟩
/-! MCA_ERR_LAST1: Table 8.9 -/
def MCA_ERR_LAST1 : Field := ⟨0x040264, 31, 0, 4⟩
def MCA_ERR_LAST1_RANK : Field := ⟨0x040264, 0, 0, 4⟩
def MCA_ERR_LAST1_BANK : Field := ⟨0x040264, 3, 1, 4⟩
def MCA_ERR_LAST1_ROW : Field := ⟨0x040264, 19, 4, 4⟩
def MCA_ERR_LAST1_COL : Field := ⟨0x040264, 29, 20, 4⟩
/-! MCA_ERR_LAST2: Table 8.9 -/
def MCA_ERR_LAST2 : Field := ⟨0x040268, 31, 0, 4⟩
def MCA_ERR_LAST2_SYN : Field := ⟨0x040268, 7, 0, 4⟩
def MCA_ERR_LAST2_WORD : Field := ⟨0x040268, 10, 8, 4⟩
def MCA_ERR_LAST2_KIND : Field := ⟨0x040268, 13, 11, 4⟩
def MCA_ERR_LAST2_SOURCE : Field := ⟨0x040268, 17, 14, 4⟩
def MCA_ERR_LAST2_SPECULATIVE : Field := ⟨0x040268, 24, 24, 4⟩
def MCA_ERR_LAST2_SEEDING : Field := ⟨0x040268, 25, 25, 4⟩
def MCA_ERR_LAST2_CRITICAL : Field := ⟨0x040268, 26, 26, 4⟩
def MCA_ERR_LAST2_CHECKBIT : Field := ⟨0x040268, 27, 27, 4⟩
def MCA_ERR_LAST2_VALID : Field := ⟨0x040268, 31, 31, 4⟩
/-! MCA_ERR_LAST3: Table 8.9 -/
def MCA_ERR_LAST3 : Field := ⟨0x04026C, 31, 0, 4⟩
def MCA_ERR_LAST3_TB_LO : Field := ⟨0x04026C, 31, 0, 4⟩
/-! MCA_ERR_LAST4: Table 8.9 -/
def MCA_ERR_LAST4 : Field := ⟨0x040270, 31, 0, 4⟩
def MCA_ERR_LAST4_TB_HI : Field := ⟨0x040270, 31, 0, 4⟩
/-! MCA_PPR_CTL: Table 8.10 -/
def MCA_PPR_CTL : Field := ⟨0x040280, 31, 0, 4⟩
def MCA_PPR_CTL_GO : Field := ⟨0x040280, 0, 0, 4⟩
def MCA_PPR_CTL_HARD : Field := ⟨0x040280, 1, 1, 4⟩
def MCA_PPR_CTL_DONE : Field := ⟨0x040280, 2, 2, 4⟩
def MCA_PPR_CTL_RESULT : Field := ⟨0x040280, 5, 3, 4⟩
def MCA_PPR_CTL_SAVE_UE : Field := ⟨0x040280, 6, 6, 4⟩
def MCA_PPR_CTL_PPR_SKIP : Field := ⟨0x040280, 15, 8, 4⟩
/-! MCA_PPR_ADDR: Table 8.10 -/
def MCA_PPR_ADDR : Field := ⟨0x040284, 31, 0, 4⟩
def MCA_PPR_ADDR_RANK : Field := ⟨0x040284, 0, 0, 4⟩
def MCA_PPR_ADDR_BANK : Field := ⟨0x040284, 3, 1, 4⟩
def MCA_PPR_ADDR_ROW : Field := ⟨0x040284, 19, 4, 4⟩
/-! MCA_PPR_TIM: Table 8.10 -/
def MCA_PPR_TIM : Field := ⟨0x040288, 31, 0, 4⟩
def MCA_PPR_TIM_TPGM_H : Field := ⟨0x040288, 15, 0, 4⟩
def MCA_PPR_TIM_TPGM_S : Field := ⟨0x040288, 31, 16, 4⟩
/-! MCA_PPR_CAND: Table 8.10 -/
def MCA_PPR_CAND : Field := ⟨0x040290, 31, 0, 4⟩
def MCA_PPR_CAND_VALID : Field := ⟨0x040290, 0, 0, 4⟩
def MCA_PPR_CAND_RANK : Field := ⟨0x040290, 1, 1, 4⟩
def MCA_PPR_CAND_BANK : Field := ⟨0x040290, 4, 2, 4⟩
def MCA_PPR_CAND_ROW : Field := ⟨0x040290, 20, 5, 4⟩
def MCA_PPR_CAND_UE : Field := ⟨0x040290, 23, 23, 4⟩
def MCA_PPR_CAND_COUNT : Field := ⟨0x040290, 31, 24, 4⟩
/-! MCA_SNAP_IDX: Table 8.7 -/
def MCA_SNAP_IDX : Field := ⟨0x0402C0, 31, 0, 4⟩
def MCA_SNAP_IDX_IDX : Field := ⟨0x0402C0, 8, 0, 4⟩
/-! MCA_SNAP_DATA: Table 8.7 -/
def MCA_SNAP_DATA : Field := ⟨0x0402C4, 31, 0, 4⟩
def MCA_SNAP_DATA_DATA : Field := ⟨0x0402C4, 31, 0, 4⟩
/-! MCX_MAP_CTL: Table 7.14 -/
def MCX_MAP_CTL : Field := ⟨0x060000, 31, 0, 4⟩
def MCX_MAP_CTL_GO : Field := ⟨0x060000, 0, 0, 4⟩
/-! MCX_MAP_STAT: Table 7.14 -/
def MCX_MAP_STAT : Field := ⟨0x060004, 31, 0, 4⟩
def MCX_MAP_STAT_VALID : Field := ⟨0x060004, 0, 0, 4⟩
def MCX_MAP_STAT_MAP_ERR : Field := ⟨0x060004, 2, 1, 4⟩
def MCX_MAP_STAT_CAP_MIB : Field := ⟨0x060004, 27, 16, 4⟩
/-! MCX_HASH_CH: Table 7.14 -/
def MCX_HASH_CH : Field := ⟨0x060010, 31, 0, 4⟩
def MCX_HASH_CH_ROWMASK : Field := ⟨0x060010, 15, 0, 4⟩
/-! MCX_HASH_BG0: Table 7.14 -/
def MCX_HASH_BG0 : Field := ⟨0x060014, 31, 0, 4⟩
def MCX_HASH_BG0_ROWMASK : Field := ⟨0x060014, 15, 0, 4⟩
/-! MCX_HASH_BA0: Table 7.14 -/
def MCX_HASH_BA0 : Field := ⟨0x060018, 31, 0, 4⟩
def MCX_HASH_BA0_ROWMASK : Field := ⟨0x060018, 15, 0, 4⟩
/-! MCX_HASH_BA1: Table 7.14 -/
def MCX_HASH_BA1 : Field := ⟨0x06001C, 31, 0, 4⟩
def MCX_HASH_BA1_ROWMASK : Field := ⟨0x06001C, 15, 0, 4⟩
/-! MCX_PORT_CFG0: Tables 7.4, 7.14 -/
def MCX_PORT_CFG0 : Field := ⟨0x060040, 31, 0, 4⟩
def MCX_PORT_CFG0_AGE_LIMIT : Field := ⟨0x060040, 9, 0, 4⟩
def MCX_PORT_CFG0_CLASS : Field := ⟨0x060040, 13, 12, 4⟩
def MCX_PORT_CFG0_URG_SRC : Field := ⟨0x060040, 17, 16, 4⟩
/-! MCX_PORT_CFG1: Tables 7.4, 7.14 -/
def MCX_PORT_CFG1 : Field := ⟨0x060044, 31, 0, 4⟩
def MCX_PORT_CFG1_AGE_LIMIT : Field := ⟨0x060044, 9, 0, 4⟩
def MCX_PORT_CFG1_CLASS : Field := ⟨0x060044, 13, 12, 4⟩
def MCX_PORT_CFG1_URG_SRC : Field := ⟨0x060044, 17, 16, 4⟩
/-! MCX_PORT_CFG2: Tables 7.4, 7.14 -/
def MCX_PORT_CFG2 : Field := ⟨0x060048, 31, 0, 4⟩
def MCX_PORT_CFG2_AGE_LIMIT : Field := ⟨0x060048, 9, 0, 4⟩
def MCX_PORT_CFG2_CLASS : Field := ⟨0x060048, 13, 12, 4⟩
def MCX_PORT_CFG2_URG_SRC : Field := ⟨0x060048, 17, 16, 4⟩
/-! MCX_PORT_CFG3: Tables 7.4, 7.14 -/
def MCX_PORT_CFG3 : Field := ⟨0x06004C, 31, 0, 4⟩
def MCX_PORT_CFG3_AGE_LIMIT : Field := ⟨0x06004C, 9, 0, 4⟩
def MCX_PORT_CFG3_CLASS : Field := ⟨0x06004C, 13, 12, 4⟩
def MCX_PORT_CFG3_URG_SRC : Field := ⟨0x06004C, 17, 16, 4⟩
/-! MCX_PORT_CFG4: Tables 7.4, 7.14 -/
def MCX_PORT_CFG4 : Field := ⟨0x060050, 31, 0, 4⟩
def MCX_PORT_CFG4_AGE_LIMIT : Field := ⟨0x060050, 9, 0, 4⟩
def MCX_PORT_CFG4_CLASS : Field := ⟨0x060050, 13, 12, 4⟩
def MCX_PORT_CFG4_URG_SRC : Field := ⟨0x060050, 17, 16, 4⟩
/-! MCX_PORT_CFG5: Tables 7.4, 7.14 -/
def MCX_PORT_CFG5 : Field := ⟨0x060054, 31, 0, 4⟩
def MCX_PORT_CFG5_AGE_LIMIT : Field := ⟨0x060054, 9, 0, 4⟩
def MCX_PORT_CFG5_CLASS : Field := ⟨0x060054, 13, 12, 4⟩
def MCX_PORT_CFG5_URG_SRC : Field := ⟨0x060054, 17, 16, 4⟩
/-! MCX_PORT_CFG6: Tables 7.4, 7.14 -/
def MCX_PORT_CFG6 : Field := ⟨0x060058, 31, 0, 4⟩
def MCX_PORT_CFG6_AGE_LIMIT : Field := ⟨0x060058, 9, 0, 4⟩
def MCX_PORT_CFG6_CLASS : Field := ⟨0x060058, 13, 12, 4⟩
def MCX_PORT_CFG6_URG_SRC : Field := ⟨0x060058, 17, 16, 4⟩
/-! MCX_PORT_CFG7: Tables 7.4, 7.14 -/
def MCX_PORT_CFG7 : Field := ⟨0x06005C, 31, 0, 4⟩
def MCX_PORT_CFG7_AGE_LIMIT : Field := ⟨0x06005C, 9, 0, 4⟩
def MCX_PORT_CFG7_CLASS : Field := ⟨0x06005C, 13, 12, 4⟩
def MCX_PORT_CFG7_URG_SRC : Field := ⟨0x06005C, 17, 16, 4⟩
/-! MCX_PORT_CFG8: Tables 7.4, 7.14 -/
def MCX_PORT_CFG8 : Field := ⟨0x060060, 31, 0, 4⟩
def MCX_PORT_CFG8_AGE_LIMIT : Field := ⟨0x060060, 9, 0, 4⟩
def MCX_PORT_CFG8_CLASS : Field := ⟨0x060060, 13, 12, 4⟩
def MCX_PORT_CFG8_URG_SRC : Field := ⟨0x060060, 17, 16, 4⟩
/-! MCX_PORT_CFG9: Tables 7.4, 7.14 -/
def MCX_PORT_CFG9 : Field := ⟨0x060064, 31, 0, 4⟩
def MCX_PORT_CFG9_AGE_LIMIT : Field := ⟨0x060064, 9, 0, 4⟩
def MCX_PORT_CFG9_CLASS : Field := ⟨0x060064, 13, 12, 4⟩
def MCX_PORT_CFG9_URG_SRC : Field := ⟨0x060064, 17, 16, 4⟩
/-! MCX_PORT_CFG10: Tables 7.4, 7.14 -/
def MCX_PORT_CFG10 : Field := ⟨0x060068, 31, 0, 4⟩
def MCX_PORT_CFG10_AGE_LIMIT : Field := ⟨0x060068, 9, 0, 4⟩
def MCX_PORT_CFG10_CLASS : Field := ⟨0x060068, 13, 12, 4⟩
def MCX_PORT_CFG10_URG_SRC : Field := ⟨0x060068, 17, 16, 4⟩
/-! MCX_PORT_CFG11: Tables 7.4, 7.14 -/
def MCX_PORT_CFG11 : Field := ⟨0x06006C, 31, 0, 4⟩
def MCX_PORT_CFG11_AGE_LIMIT : Field := ⟨0x06006C, 9, 0, 4⟩
def MCX_PORT_CFG11_CLASS : Field := ⟨0x06006C, 13, 12, 4⟩
def MCX_PORT_CFG11_URG_SRC : Field := ⟨0x06006C, 17, 16, 4⟩
/-! MCX_SCHED_CTL: Table 7.14 -/
def MCX_SCHED_CTL : Field := ⟨0x060080, 31, 0, 4⟩
def MCX_SCHED_CTL_WR_HI : Field := ⟨0x060080, 5, 0, 4⟩
def MCX_SCHED_CTL_WR_LO : Field := ⟨0x060080, 13, 8, 4⟩
def MCX_SCHED_CTL_FLOOR_WIN : Field := ⟨0x060080, 23, 16, 4⟩
def MCX_SCHED_CTL_FLOOR_N : Field := ⟨0x060080, 29, 24, 4⟩
/-! MCX_ERR: Table 7.14 -/
def MCX_ERR : Field := ⟨0x060090, 31, 0, 4⟩
def MCX_ERR_PORT : Field := ⟨0x060090, 3, 0, 4⟩
def MCX_ERR_KIND : Field := ⟨0x060090, 7, 4, 4⟩
def MCX_ERR_ERR : Field := ⟨0x060090, 31, 31, 4⟩
/-! MCX_PORT_LINES_LO: Table 7.14 -/
def MCX_PORT_LINES_LO : Field := ⟨0x060100, 31, 0, 8⟩
def MCX_PORT_LINES_LO_LO : Field := ⟨0x060100, 31, 0, 8⟩
/-! MCX_PORT_LINES_HI: Table 7.14 -/
def MCX_PORT_LINES_HI : Field := ⟨0x060104, 31, 0, 8⟩
def MCX_PORT_LINES_HI_HI : Field := ⟨0x060104, 23, 0, 8⟩
/-! MCX_PORT_WAIT: Table 7.14 -/
def MCX_PORT_WAIT : Field := ⟨0x060180, 31, 0, 4⟩
def MCX_PORT_WAIT_WAIT : Field := ⟨0x060180, 23, 0, 4⟩
def MCX_PORT_WAIT_CLR : Field := ⟨0x060180, 31, 31, 4⟩
/-! MCX_PORT_DROP: Table 7.14 -/
def MCX_PORT_DROP : Field := ⟨0x0601C0, 31, 0, 4⟩
def MCX_PORT_DROP_DROP : Field := ⟨0x0601C0, 15, 0, 4⟩
/-! MCX_SCRUB_CTL: Table 8.11 -/
def MCX_SCRUB_CTL : Field := ⟨0x060400, 31, 0, 4⟩
def MCX_SCRUB_CTL_EN : Field := ⟨0x060400, 0, 0, 4⟩
def MCX_SCRUB_CTL_SEED_NS : Field := ⟨0x060400, 15, 8, 4⟩
def MCX_SCRUB_CTL_SCRUB_INT : Field := ⟨0x060400, 31, 16, 4⟩
/-! MCX_SCRUB_POS: Table 8.11 -/
def MCX_SCRUB_POS : Field := ⟨0x060408, 31, 0, 4⟩
def MCX_SCRUB_POS_LINE : Field := ⟨0x060408, 23, 0, 4⟩
def MCX_SCRUB_POS_RANK : Field := ⟨0x060408, 24, 24, 4⟩
/-! MCX_SCRUB_PASS: Table 8.11 -/
def MCX_SCRUB_PASS : Field := ⟨0x060410, 31, 0, 4⟩
def MCX_SCRUB_PASS_PASSES : Field := ⟨0x060410, 15, 0, 4⟩
/-! MCX_MIG_CTL: Table 8.11 -/
def MCX_MIG_CTL : Field := ⟨0x060420, 31, 0, 4⟩
def MCX_MIG_CTL_START_A : Field := ⟨0x060420, 0, 0, 4⟩
def MCX_MIG_CTL_START_B : Field := ⟨0x060420, 1, 1, 4⟩
def MCX_MIG_CTL_ABORT_A : Field := ⟨0x060420, 2, 2, 4⟩
def MCX_MIG_CTL_ABORT_B : Field := ⟨0x060420, 3, 3, 4⟩
def MCX_MIG_CTL_MIG_NS : Field := ⟨0x060420, 31, 16, 4⟩
/-! MCX_MIG_STAT: Table 8.11 -/
def MCX_MIG_STAT : Field := ⟨0x060424, 31, 0, 4⟩
def MCX_MIG_STAT_STATE : Field := ⟨0x060424, 2, 0, 4⟩
def MCX_MIG_STAT_REDIRECT : Field := ⟨0x060424, 3, 3, 4⟩
def MCX_MIG_STAT_PROGRESS : Field := ⟨0x060424, 27, 4, 4⟩
/-! MCX_CRIT_BASE: Table 8.11 -/
def MCX_CRIT_BASE : Field := ⟨0x060440, 31, 0, 8⟩
def MCX_CRIT_BASE_EN : Field := ⟨0x060440, 0, 0, 8⟩
def MCX_CRIT_BASE_BASE : Field := ⟨0x060440, 31, 12, 8⟩
/-! MCX_CRIT_LIM: Table 8.11 -/
def MCX_CRIT_LIM : Field := ⟨0x060444, 31, 0, 8⟩
def MCX_CRIT_LIM_LIM : Field := ⟨0x060444, 31, 12, 8⟩
/-! VIN_CFG: Table 9.5 -/
def VIN_CFG : Field := ⟨0x080000, 31, 0, 4⟩
def VIN_CFG_EN : Field := ⟨0x080000, 0, 0, 4⟩
def VIN_CFG_LINKS : Field := ⟨0x080000, 2, 1, 4⟩
def VIN_CFG_MAP : Field := ⟨0x080000, 4, 3, 4⟩
def VIN_CFG_VS_POL : Field := ⟨0x080000, 5, 5, 4⟩
def VIN_CFG_YUV_IN : Field := ⟨0x080000, 6, 6, 4⟩
/-! VIN_LINK_STAT: Table 9.5 -/
def VIN_LINK_STAT : Field := ⟨0x080004, 31, 0, 4⟩
def VIN_LINK_STAT_LOCK0 : Field := ⟨0x080004, 0, 0, 4⟩
def VIN_LINK_STAT_LOCK1 : Field := ⟨0x080004, 4, 4, 4⟩
def VIN_LINK_STAT_LOCK2 : Field := ⟨0x080004, 8, 8, 4⟩
def VIN_LINK_STAT_LOCK3 : Field := ⟨0x080004, 12, 12, 4⟩
def VIN_LINK_STAT_SKEW : Field := ⟨0x080004, 16, 16, 4⟩
def VIN_LINK_STAT_LOST : Field := ⟨0x080004, 17, 17, 4⟩
/-! VIN_TIMING_EXP: Table 9.5 -/
def VIN_TIMING_EXP : Field := ⟨0x080008, 31, 0, 4⟩
def VIN_TIMING_EXP_HACT : Field := ⟨0x080008, 15, 0, 4⟩
def VIN_TIMING_EXP_VACT : Field := ⟨0x080008, 31, 16, 4⟩
/-! VIN_MEAS_ACT: Table 9.5 -/
def VIN_MEAS_ACT : Field := ⟨0x08000C, 31, 0, 4⟩
def VIN_MEAS_ACT_WIDTH : Field := ⟨0x08000C, 15, 0, 4⟩
def VIN_MEAS_ACT_LINES : Field := ⟨0x08000C, 31, 16, 4⟩
/-! VIN_MEAS_TOT: Table 9.5 -/
def VIN_MEAS_TOT : Field := ⟨0x080010, 31, 0, 4⟩
def VIN_MEAS_TOT_PIXELS : Field := ⟨0x080010, 15, 0, 4⟩
def VIN_MEAS_TOT_LINES : Field := ⟨0x080010, 31, 16, 4⟩
/-! VIN_MEAS_PERIOD: Table 9.5 -/
def VIN_MEAS_PERIOD : Field := ⟨0x080014, 31, 0, 4⟩
def VIN_MEAS_PERIOD_NS : Field := ⟨0x080014, 31, 0, 4⟩
/-! VIN_CAP_CTL: Table 9.5 -/
def VIN_CAP_CTL : Field := ⟨0x080020, 31, 0, 4⟩
def VIN_CAP_CTL_EN : Field := ⟨0x080020, 0, 0, 4⟩
def VIN_CAP_CTL_CHROMA : Field := ⟨0x080020, 2, 1, 4⟩
def VIN_CAP_CTL_PLANAR : Field := ⟨0x080020, 3, 3, 4⟩
def VIN_CAP_CTL_DEPTH10 : Field := ⟨0x080020, 4, 4, 4⟩
def VIN_CAP_CTL_NBUF : Field := ⟨0x080020, 6, 5, 4⟩
def VIN_CAP_CTL_CONVERT : Field := ⟨0x080020, 7, 7, 4⟩
/-! VIN_CAP_STRIDE: Table 9.5 -/
def VIN_CAP_STRIDE : Field := ⟨0x080024, 31, 0, 4⟩
def VIN_CAP_STRIDE_Y : Field := ⟨0x080024, 15, 0, 4⟩
def VIN_CAP_STRIDE_C : Field := ⟨0x080024, 31, 16, 4⟩
/-! VIN_BUF_Y: Table 9.5 -/
def VIN_BUF_Y : Field := ⟨0x080030, 31, 0, 16⟩
def VIN_BUF_Y_ADDR : Field := ⟨0x080030, 31, 0, 16⟩
/-! VIN_BUF_C0: Table 9.5 -/
def VIN_BUF_C0 : Field := ⟨0x080034, 31, 0, 16⟩
def VIN_BUF_C0_ADDR : Field := ⟨0x080034, 31, 0, 16⟩
/-! VIN_BUF_C1: Table 9.5 -/
def VIN_BUF_C1 : Field := ⟨0x080038, 31, 0, 16⟩
def VIN_BUF_C1_ADDR : Field := ⟨0x080038, 31, 0, 16⟩
/-! VIN_CAP_STAT: Table 9.5 -/
def VIN_CAP_STAT : Field := ⟨0x080070, 31, 0, 4⟩
def VIN_CAP_STAT_LATEST : Field := ⟨0x080070, 1, 0, 4⟩
def VIN_CAP_STAT_VALID : Field := ⟨0x080070, 2, 2, 4⟩
def VIN_CAP_STAT_SHORT : Field := ⟨0x080070, 3, 3, 4⟩
def VIN_CAP_STAT_LONG : Field := ⟨0x080070, 4, 4, 4⟩
def VIN_CAP_STAT_STATE : Field := ⟨0x080070, 6, 5, 4⟩
/-! VIN_CAP_CNT0: Table 9.5 -/
def VIN_CAP_CNT0 : Field := ⟨0x080074, 31, 0, 4⟩
def VIN_CAP_CNT0_LINE_DROP : Field := ⟨0x080074, 15, 0, 4⟩
def VIN_CAP_CNT0_BADLINE : Field := ⟨0x080074, 31, 16, 4⟩
/-! VIN_CAP_CNT1: Table 9.5 -/
def VIN_CAP_CNT1 : Field := ⟨0x080078, 31, 0, 4⟩
def VIN_CAP_CNT1_FRAME_SKIP : Field := ⟨0x080078, 15, 0, 4⟩
def VIN_CAP_CNT1_LONG : Field := ⟨0x080078, 31, 16, 4⟩
/-! VIN_CSC_M0: Table 9.5 -/
def VIN_CSC_M0 : Field := ⟨0x080080, 31, 0, 4⟩
def VIN_CSC_M0_M : Field := ⟨0x080080, 14, 0, 4⟩
/-! VIN_CSC_M1: Table 9.5 -/
def VIN_CSC_M1 : Field := ⟨0x080084, 31, 0, 4⟩
def VIN_CSC_M1_M : Field := ⟨0x080084, 14, 0, 4⟩
/-! VIN_CSC_M2: Table 9.5 -/
def VIN_CSC_M2 : Field := ⟨0x080088, 31, 0, 4⟩
def VIN_CSC_M2_M : Field := ⟨0x080088, 14, 0, 4⟩
/-! VIN_CSC_M3: Table 9.5 -/
def VIN_CSC_M3 : Field := ⟨0x08008C, 31, 0, 4⟩
def VIN_CSC_M3_M : Field := ⟨0x08008C, 14, 0, 4⟩
/-! VIN_CSC_M4: Table 9.5 -/
def VIN_CSC_M4 : Field := ⟨0x080090, 31, 0, 4⟩
def VIN_CSC_M4_M : Field := ⟨0x080090, 14, 0, 4⟩
/-! VIN_CSC_M5: Table 9.5 -/
def VIN_CSC_M5 : Field := ⟨0x080094, 31, 0, 4⟩
def VIN_CSC_M5_M : Field := ⟨0x080094, 14, 0, 4⟩
/-! VIN_CSC_M6: Table 9.5 -/
def VIN_CSC_M6 : Field := ⟨0x080098, 31, 0, 4⟩
def VIN_CSC_M6_M : Field := ⟨0x080098, 14, 0, 4⟩
/-! VIN_CSC_M7: Table 9.5 -/
def VIN_CSC_M7 : Field := ⟨0x08009C, 31, 0, 4⟩
def VIN_CSC_M7_M : Field := ⟨0x08009C, 14, 0, 4⟩
/-! VIN_CSC_M8: Table 9.5 -/
def VIN_CSC_M8 : Field := ⟨0x0800A0, 31, 0, 4⟩
def VIN_CSC_M8_M : Field := ⟨0x0800A0, 14, 0, 4⟩
/-! VIN_CSC_O: Table 9.5 -/
def VIN_CSC_O : Field := ⟨0x0800A4, 31, 0, 4⟩
def VIN_CSC_O_O : Field := ⟨0x0800A4, 12, 0, 4⟩
/-! VIN_LOCK_CTL: Table 9.5 -/
def VIN_LOCK_CTL : Field := ⟨0x0800C0, 31, 0, 4⟩
def VIN_LOCK_CTL_EN : Field := ⟨0x0800C0, 0, 0, 4⟩
def VIN_LOCK_CTL_MULT : Field := ⟨0x0800C0, 2, 1, 4⟩
def VIN_LOCK_CTL_KP : Field := ⟨0x0800C0, 15, 8, 4⟩
def VIN_LOCK_CTL_KI : Field := ⟨0x0800C0, 23, 16, 4⟩
/-! VIN_LOCK_OFS: Table 9.5 -/
def VIN_LOCK_OFS : Field := ⟨0x0800C4, 31, 0, 4⟩
def VIN_LOCK_OFS_PHASE_OFS : Field := ⟨0x0800C4, 31, 0, 4⟩
/-! VIN_LOCK_THR: Table 9.5 -/
def VIN_LOCK_THR : Field := ⟨0x0800C8, 31, 0, 4⟩
def VIN_LOCK_THR_LOCK_NS : Field := ⟨0x0800C8, 15, 0, 4⟩
/-! VIN_LOCK_STAT: Table 9.5 -/
def VIN_LOCK_STAT : Field := ⟨0x0800CC, 31, 0, 4⟩
def VIN_LOCK_STAT_STATE : Field := ⟨0x0800CC, 1, 0, 4⟩
def VIN_LOCK_STAT_LOCK_COUNT : Field := ⟨0x0800CC, 31, 16, 4⟩
/-! VIN_LOCK_ERR: Table 9.5 -/
def VIN_LOCK_ERR : Field := ⟨0x0800D0, 31, 0, 4⟩
def VIN_LOCK_ERR_E : Field := ⟨0x0800D0, 31, 0, 4⟩
/-! VIN_LOCK_I: Table 9.5 -/
def VIN_LOCK_I : Field := ⟨0x0800D4, 31, 0, 4⟩
def VIN_LOCK_I_I : Field := ⟨0x0800D4, 31, 0, 4⟩
/-! VIN_CNT_CLR: Table 9.5 -/
def VIN_CNT_CLR : Field := ⟨0x0800E0, 31, 0, 4⟩
def VIN_CNT_CLR_CLR : Field := ⟨0x0800E0, 0, 0, 4⟩
/-! VIN_BRG_CTL: Table 9.5 -/
def VIN_BRG_CTL : Field := ⟨0x080100, 31, 0, 4⟩
def VIN_BRG_CTL_EN : Field := ⟨0x080100, 0, 0, 4⟩
def VIN_BRG_CTL_SEQ_RESET : Field := ⟨0x080100, 1, 1, 4⟩
/-! VIN_BRG_STAT: Table 9.5 -/
def VIN_BRG_STAT : Field := ⟨0x080104, 31, 0, 4⟩
def VIN_BRG_STAT_LAST_SEQ : Field := ⟨0x080104, 15, 0, 4⟩
def VIN_BRG_STAT_SEQ_VALID : Field := ⟨0x080104, 16, 16, 4⟩
/-! VIN_BRG_CNT0: Table 9.5 -/
def VIN_BRG_CNT0 : Field := ⟨0x080108, 31, 0, 4⟩
def VIN_BRG_CNT0_ACCEPTED : Field := ⟨0x080108, 15, 0, 4⟩
def VIN_BRG_CNT0_DUP : Field := ⟨0x080108, 31, 16, 4⟩
/-! VIN_BRG_CNT1: Table 9.5 -/
def VIN_BRG_CNT1 : Field := ⟨0x08010C, 31, 0, 4⟩
def VIN_BRG_CNT1_CRC_ERR : Field := ⟨0x08010C, 15, 0, 4⟩
def VIN_BRG_CNT1_HDR_ERR : Field := ⟨0x08010C, 31, 16, 4⟩
/-! VIN_BRG_CNT2: Table 9.5 -/
def VIN_BRG_CNT2 : Field := ⟨0x080110, 31, 0, 4⟩
def VIN_BRG_CNT2_NOBUF : Field := ⟨0x080110, 15, 0, 4⟩
def VIN_BRG_CNT2_GAP : Field := ⟨0x080110, 31, 16, 4⟩
/-! VIN_BRG_CNT3: Table 9.5 -/
def VIN_BRG_CNT3 : Field := ⟨0x080114, 31, 0, 4⟩
def VIN_BRG_CNT3_TRUNC : Field := ⟨0x080114, 15, 0, 4⟩
def VIN_BRG_CNT3_UNKNOWN : Field := ⟨0x080114, 31, 16, 4⟩
/-! CSI_CFG: Table 10.9 -/
def CSI_CFG : Field := ⟨0x0A0000, 31, 0, 4⟩
def CSI_CFG_EN : Field := ⟨0x0A0000, 0, 0, 4⟩
def CSI_CFG_LANES : Field := ⟨0x0A0000, 2, 1, 4⟩
def CSI_CFG_LANE_MAP : Field := ⟨0x0A0000, 15, 8, 4⟩
/-! CSI_PHY_CFG: Table 10.9 -/
def CSI_PHY_CFG : Field := ⟨0x0A0004, 31, 0, 4⟩
def CSI_PHY_CFG_T_SETTLE : Field := ⟨0x0A0004, 7, 0, 4⟩
/-! CSI_PHY_STAT: Table 10.9 -/
def CSI_PHY_STAT : Field := ⟨0x0A0008, 31, 0, 4⟩
def CSI_PHY_STAT_STOP : Field := ⟨0x0A0008, 3, 0, 4⟩
def CSI_PHY_STAT_ULPS : Field := ⟨0x0A0008, 7, 4, 4⟩
def CSI_PHY_STAT_CLK_HS : Field := ⟨0x0A0008, 8, 8, 4⟩
/-! CSI_ERR_CNT0: Table 10.9 -/
def CSI_ERR_CNT0 : Field := ⟨0x0A000C, 31, 0, 4⟩
def CSI_ERR_CNT0_ECC_CORR : Field := ⟨0x0A000C, 15, 0, 4⟩
def CSI_ERR_CNT0_ECC_UNCORR : Field := ⟨0x0A000C, 31, 16, 4⟩
/-! CSI_ERR_CNT1: Table 10.9 -/
def CSI_ERR_CNT1 : Field := ⟨0x0A0010, 31, 0, 4⟩
def CSI_ERR_CNT1_SOT_ERR : Field := ⟨0x0A0010, 15, 0, 4⟩
def CSI_ERR_CNT1_UNKNOWN_DT : Field := ⟨0x0A0010, 31, 16, 4⟩
/-! CSI_SHARE: Table 10.9 -/
def CSI_SHARE : Field := ⟨0x0A0040, 31, 0, 4⟩
def CSI_SHARE_MODE : Field := ⟨0x0A0040, 1, 0, 4⟩
def CSI_SHARE_STRIPE_LINES : Field := ⟨0x0A0040, 13, 8, 4⟩
/-! CSI_SHARE_STAT: Table 10.9 -/
def CSI_SHARE_STAT : Field := ⟨0x0A0044, 31, 0, 4⟩
def CSI_SHARE_STAT_ERR : Field := ⟨0x0A0044, 1, 0, 4⟩
def CSI_SHARE_STAT_CLR : Field := ⟨0x0A0044, 31, 31, 4⟩
/-! CSI_CNT_CLR: Table 10.9 -/
def CSI_CNT_CLR : Field := ⟨0x0A00E0, 31, 0, 4⟩
def CSI_CNT_CLR_CLR : Field := ⟨0x0A00E0, 0, 0, 4⟩
/-! CSI_VC_CFG: Table 10.9 -/
def CSI_VC_CFG : Field := ⟨0x0A0100, 31, 0, 64⟩
def CSI_VC_CFG_EN : Field := ⟨0x0A0100, 0, 0, 64⟩
def CSI_VC_CFG_DT : Field := ⟨0x0A0100, 2, 1, 64⟩
def CSI_VC_CFG_PIPE : Field := ⟨0x0A0100, 4, 4, 64⟩
def CSI_VC_CFG_CTX : Field := ⟨0x0A0100, 6, 5, 64⟩
/-! CSI_VC_GEOM: Table 10.9 -/
def CSI_VC_GEOM : Field := ⟨0x0A0104, 31, 0, 64⟩
def CSI_VC_GEOM_WIDTH : Field := ⟨0x0A0104, 12, 0, 64⟩
def CSI_VC_GEOM_HEIGHT : Field := ⟨0x0A0104, 28, 16, 64⟩
/-! CSI_VC_STAT: Table 10.9 -/
def CSI_VC_STAT : Field := ⟨0x0A0108, 31, 0, 64⟩
def CSI_VC_STAT_FRAME_CNT : Field := ⟨0x0A0108, 15, 0, 64⟩
def CSI_VC_STAT_SHORT : Field := ⟨0x0A0108, 16, 16, 64⟩
def CSI_VC_STAT_LONG : Field := ⟨0x0A0108, 17, 17, 64⟩
def CSI_VC_STAT_IN_FRAME : Field := ⟨0x0A0108, 18, 18, 64⟩
/-! CSI_VC_CNT0: Table 10.9 -/
def CSI_VC_CNT0 : Field := ⟨0x0A010C, 31, 0, 64⟩
def CSI_VC_CNT0_SHORT_CNT : Field := ⟨0x0A010C, 15, 0, 64⟩
def CSI_VC_CNT0_LONG_CNT : Field := ⟨0x0A010C, 31, 16, 64⟩
/-! CSI_VC_CNT1: Table 10.9 -/
def CSI_VC_CNT1 : Field := ⟨0x0A0110, 31, 0, 64⟩
def CSI_VC_CNT1_LINE_DROP : Field := ⟨0x0A0110, 15, 0, 64⟩
def CSI_VC_CNT1_CRC_ERR : Field := ⟨0x0A0110, 31, 16, 64⟩
/-! CSI_VC_CNT2: Table 10.9 -/
def CSI_VC_CNT2 : Field := ⟨0x0A0114, 31, 0, 64⟩
def CSI_VC_CNT2_BADLEN : Field := ⟨0x0A0114, 15, 0, 64⟩
def CSI_VC_CNT2_NO_FE : Field := ⟨0x0A0114, 31, 16, 64⟩
/-! CSI_VC_CNT3: Table 10.9 -/
def CSI_VC_CNT3 : Field := ⟨0x0A0118, 31, 0, 64⟩
def CSI_VC_CNT3_NO_FS : Field := ⟨0x0A0118, 15, 0, 64⟩
def CSI_VC_CNT3_CTX_SKIP : Field := ⟨0x0A0118, 31, 16, 64⟩
/-! CSI_VC0_EMB: Table 10.9 -/
def CSI_VC0_EMB : Field := ⟨0x0A0120, 31, 0, 4⟩
def CSI_VC0_EMB_EMB : Field := ⟨0x0A0120, 31, 0, 4⟩
/-! CSI_VC1_EMB: Table 10.9 -/
def CSI_VC1_EMB : Field := ⟨0x0A0160, 31, 0, 4⟩
def CSI_VC1_EMB_EMB : Field := ⟨0x0A0160, 31, 0, 4⟩
/-! CSI_VC2_EMB: Table 10.9 -/
def CSI_VC2_EMB : Field := ⟨0x0A01A0, 31, 0, 4⟩
def CSI_VC2_EMB_EMB : Field := ⟨0x0A01A0, 31, 0, 4⟩
/-! CSI_VC3_EMB: Table 10.9 -/
def CSI_VC3_EMB : Field := ⟨0x0A01E0, 31, 0, 4⟩
def CSI_VC3_EMB_EMB : Field := ⟨0x0A01E0, 31, 0, 4⟩
/-! ISP0_CTL: Table 10.10 -/
def ISP0_CTL : Field := ⟨0x0B0000, 31, 0, 4⟩
def ISP0_CTL_EN : Field := ⟨0x0B0000, 0, 0, 4⟩
def ISP0_CTL_STAT_HOLD : Field := ⟨0x0B0000, 1, 1, 4⟩
/-! ISP0_STAT: Table 10.10 -/
def ISP0_STAT : Field := ⟨0x0B0004, 31, 0, 4⟩
def ISP0_STAT_CTX : Field := ⟨0x0B0004, 1, 0, 4⟩
def ISP0_STAT_BUSY : Field := ⟨0x0B0004, 2, 2, 4⟩
/-! ISP0_STAT_SEL: Table 10.10 -/
def ISP0_STAT_SEL : Field := ⟨0x0B0010, 31, 0, 4⟩
def ISP0_STAT_SEL_CTX : Field := ⟨0x0B0010, 1, 0, 4⟩
def ISP0_STAT_SEL_ZONE : Field := ⟨0x0B0010, 9, 2, 4⟩
def ISP0_STAT_SEL_ITEM : Field := ⟨0x0B0010, 11, 10, 4⟩
/-! ISP0_STAT_DATA: Table 10.10 -/
def ISP0_STAT_DATA : Field := ⟨0x0B0014, 31, 0, 4⟩
def ISP0_STAT_DATA_DATA : Field := ⟨0x0B0014, 31, 0, 4⟩
/-! ISP0_STAT_TAG: Table 10.10 -/
def ISP0_STAT_TAG : Field := ⟨0x0B0018, 31, 0, 4⟩
def ISP0_STAT_TAG_FRAME_CNT : Field := ⟨0x0B0018, 15, 0, 4⟩
def ISP0_STAT_TAG_SHORT : Field := ⟨0x0B0018, 16, 16, 4⟩
def ISP0_STAT_TAG_LONG : Field := ⟨0x0B0018, 17, 17, 4⟩
def ISP0_STAT_TAG_VALID : Field := ⟨0x0B0018, 18, 18, 4⟩
/-! ISP0_STAT_LOST: Table 10.10 -/
def ISP0_STAT_LOST : Field := ⟨0x0B001C, 31, 0, 4⟩
def ISP0_STAT_LOST_STAT_LOST : Field := ⟨0x0B001C, 15, 0, 4⟩
/-! ISP0_PROX_STAT: Table 10.10 -/
def ISP0_PROX_STAT : Field := ⟨0x0B0020, 31, 0, 4⟩
def ISP0_PROX_STAT_HOT : Field := ⟨0x0B0020, 0, 0, 4⟩
def ISP0_PROX_STAT_STALE : Field := ⟨0x0B0020, 1, 1, 4⟩
def ISP0_PROX_STAT_ZONES : Field := ⟨0x0B0020, 9, 2, 4⟩
/-! ISP0_CNT_CLR: Table 10.10 -/
def ISP0_CNT_CLR : Field := ⟨0x0B00E0, 31, 0, 4⟩
def ISP0_CNT_CLR_CLR : Field := ⟨0x0B00E0, 0, 0, 4⟩
/-! ISP0_OUT_CNT: Table 10.10 -/
def ISP0_OUT_CNT : Field := ⟨0x0B0100, 31, 0, 4⟩
def ISP0_OUT_CNT_OUT_DROP : Field := ⟨0x0B0100, 15, 0, 4⟩
def ISP0_OUT_CNT_OUT_SKIP : Field := ⟨0x0B0100, 31, 16, 4⟩
/-! ISP0_C0_MOSAIC: Table 10.11 -/
def ISP0_C0_MOSAIC : Field := ⟨0x0B1000, 31, 0, 4⟩
def ISP0_C0_MOSAIC_TYPE : Field := ⟨0x0B1000, 1, 0, 4⟩
def ISP0_C0_MOSAIC_PHASE_B : Field := ⟨0x0B1000, 2, 2, 4⟩
def ISP0_C0_MOSAIC_OX : Field := ⟨0x0B1000, 5, 4, 4⟩
def ISP0_C0_MOSAIC_OY : Field := ⟨0x0B1000, 7, 6, 4⟩
/-! ISP0_C0_BLACK0: Table 10.11 -/
def ISP0_C0_BLACK0 : Field := ⟨0x0B1004, 31, 0, 4⟩
def ISP0_C0_BLACK0_RED : Field := ⟨0x0B1004, 11, 0, 4⟩
def ISP0_C0_BLACK0_GRN : Field := ⟨0x0B1004, 27, 16, 4⟩
/-! ISP0_C0_BLACK1: Table 10.11 -/
def ISP0_C0_BLACK1 : Field := ⟨0x0B1008, 31, 0, 4⟩
def ISP0_C0_BLACK1_BLU : Field := ⟨0x0B1008, 11, 0, 4⟩
def ISP0_C0_BLACK1_X : Field := ⟨0x0B1008, 27, 16, 4⟩
/-! ISP0_C0_WB0: Table 10.11 -/
def ISP0_C0_WB0 : Field := ⟨0x0B100C, 31, 0, 4⟩
def ISP0_C0_WB0_RED : Field := ⟨0x0B100C, 15, 0, 4⟩
def ISP0_C0_WB0_GRN : Field := ⟨0x0B100C, 31, 16, 4⟩
/-! ISP0_C0_WB1: Table 10.11 -/
def ISP0_C0_WB1 : Field := ⟨0x0B1010, 31, 0, 4⟩
def ISP0_C0_WB1_BLU : Field := ⟨0x0B1010, 15, 0, 4⟩
def ISP0_C0_WB1_X : Field := ⟨0x0B1010, 31, 16, 4⟩
/-! ISP0_C0_IRM0: Table 10.11 -/
def ISP0_C0_IRM0 : Field := ⟨0x0B1020, 31, 0, 4⟩
def ISP0_C0_IRM0_COEF : Field := ⟨0x0B1020, 14, 0, 4⟩
/-! ISP0_C0_IRM1: Table 10.11 -/
def ISP0_C0_IRM1 : Field := ⟨0x0B1024, 31, 0, 4⟩
def ISP0_C0_IRM1_COEF : Field := ⟨0x0B1024, 14, 0, 4⟩
/-! ISP0_C0_IRM2: Table 10.11 -/
def ISP0_C0_IRM2 : Field := ⟨0x0B1028, 31, 0, 4⟩
def ISP0_C0_IRM2_COEF : Field := ⟨0x0B1028, 14, 0, 4⟩
/-! ISP0_C0_IRM3: Table 10.11 -/
def ISP0_C0_IRM3 : Field := ⟨0x0B102C, 31, 0, 4⟩
def ISP0_C0_IRM3_COEF : Field := ⟨0x0B102C, 14, 0, 4⟩
/-! ISP0_C0_IRM4: Table 10.11 -/
def ISP0_C0_IRM4 : Field := ⟨0x0B1030, 31, 0, 4⟩
def ISP0_C0_IRM4_COEF : Field := ⟨0x0B1030, 14, 0, 4⟩
/-! ISP0_C0_IRM5: Table 10.11 -/
def ISP0_C0_IRM5 : Field := ⟨0x0B1034, 31, 0, 4⟩
def ISP0_C0_IRM5_COEF : Field := ⟨0x0B1034, 14, 0, 4⟩
/-! ISP0_C0_IRM6: Table 10.11 -/
def ISP0_C0_IRM6 : Field := ⟨0x0B1038, 31, 0, 4⟩
def ISP0_C0_IRM6_COEF : Field := ⟨0x0B1038, 14, 0, 4⟩
/-! ISP0_C0_IRM7: Table 10.11 -/
def ISP0_C0_IRM7 : Field := ⟨0x0B103C, 31, 0, 4⟩
def ISP0_C0_IRM7_COEF : Field := ⟨0x0B103C, 14, 0, 4⟩
/-! ISP0_C0_IRM8: Table 10.11 -/
def ISP0_C0_IRM8 : Field := ⟨0x0B1040, 31, 0, 4⟩
def ISP0_C0_IRM8_COEF : Field := ⟨0x0B1040, 14, 0, 4⟩
/-! ISP0_C0_IRM9: Table 10.11 -/
def ISP0_C0_IRM9 : Field := ⟨0x0B1044, 31, 0, 4⟩
def ISP0_C0_IRM9_COEF : Field := ⟨0x0B1044, 14, 0, 4⟩
/-! ISP0_C0_IRM10: Table 10.11 -/
def ISP0_C0_IRM10 : Field := ⟨0x0B1048, 31, 0, 4⟩
def ISP0_C0_IRM10_COEF : Field := ⟨0x0B1048, 14, 0, 4⟩
/-! ISP0_C0_IRM11: Table 10.11 -/
def ISP0_C0_IRM11 : Field := ⟨0x0B104C, 31, 0, 4⟩
def ISP0_C0_IRM11_COEF : Field := ⟨0x0B104C, 14, 0, 4⟩
/-! ISP0_C0_IRR0: Table 10.11 -/
def ISP0_C0_IRR0 : Field := ⟨0x0B1050, 31, 0, 4⟩
def ISP0_C0_IRR0_COEF : Field := ⟨0x0B1050, 14, 0, 4⟩
/-! ISP0_C0_IRR1: Table 10.11 -/
def ISP0_C0_IRR1 : Field := ⟨0x0B1054, 31, 0, 4⟩
def ISP0_C0_IRR1_COEF : Field := ⟨0x0B1054, 14, 0, 4⟩
/-! ISP0_C0_IRR2: Table 10.11 -/
def ISP0_C0_IRR2 : Field := ⟨0x0B1058, 31, 0, 4⟩
def ISP0_C0_IRR2_COEF : Field := ⟨0x0B1058, 14, 0, 4⟩
/-! ISP0_C0_IRR3: Table 10.11 -/
def ISP0_C0_IRR3 : Field := ⟨0x0B105C, 31, 0, 4⟩
def ISP0_C0_IRR3_COEF : Field := ⟨0x0B105C, 14, 0, 4⟩
/-! ISP0_C0_CCM0: Table 10.11 -/
def ISP0_C0_CCM0 : Field := ⟨0x0B1060, 31, 0, 4⟩
def ISP0_C0_CCM0_COEF : Field := ⟨0x0B1060, 14, 0, 4⟩
/-! ISP0_C0_CCM1: Table 10.11 -/
def ISP0_C0_CCM1 : Field := ⟨0x0B1064, 31, 0, 4⟩
def ISP0_C0_CCM1_COEF : Field := ⟨0x0B1064, 14, 0, 4⟩
/-! ISP0_C0_CCM2: Table 10.11 -/
def ISP0_C0_CCM2 : Field := ⟨0x0B1068, 31, 0, 4⟩
def ISP0_C0_CCM2_COEF : Field := ⟨0x0B1068, 14, 0, 4⟩
/-! ISP0_C0_CCM3: Table 10.11 -/
def ISP0_C0_CCM3 : Field := ⟨0x0B106C, 31, 0, 4⟩
def ISP0_C0_CCM3_COEF : Field := ⟨0x0B106C, 14, 0, 4⟩
/-! ISP0_C0_CCM4: Table 10.11 -/
def ISP0_C0_CCM4 : Field := ⟨0x0B1070, 31, 0, 4⟩
def ISP0_C0_CCM4_COEF : Field := ⟨0x0B1070, 14, 0, 4⟩
/-! ISP0_C0_CCM5: Table 10.11 -/
def ISP0_C0_CCM5 : Field := ⟨0x0B1074, 31, 0, 4⟩
def ISP0_C0_CCM5_COEF : Field := ⟨0x0B1074, 14, 0, 4⟩
/-! ISP0_C0_CCM6: Table 10.11 -/
def ISP0_C0_CCM6 : Field := ⟨0x0B1078, 31, 0, 4⟩
def ISP0_C0_CCM6_COEF : Field := ⟨0x0B1078, 14, 0, 4⟩
/-! ISP0_C0_CCM7: Table 10.11 -/
def ISP0_C0_CCM7 : Field := ⟨0x0B107C, 31, 0, 4⟩
def ISP0_C0_CCM7_COEF : Field := ⟨0x0B107C, 14, 0, 4⟩
/-! ISP0_C0_CCM8: Table 10.11 -/
def ISP0_C0_CCM8 : Field := ⟨0x0B1080, 31, 0, 4⟩
def ISP0_C0_CCM8_COEF : Field := ⟨0x0B1080, 14, 0, 4⟩
/-! ISP0_C0_CCM_OFS: Table 10.11 -/
def ISP0_C0_CCM_OFS : Field := ⟨0x0B1084, 31, 0, 4⟩
def ISP0_C0_CCM_OFS_OFS : Field := ⟨0x0B1084, 12, 0, 4⟩
/-! ISP0_C0_STAT_WIN: Table 10.11 -/
def ISP0_C0_STAT_WIN : Field := ⟨0x0B1090, 31, 0, 4⟩
def ISP0_C0_STAT_WIN_X0 : Field := ⟨0x0B1090, 11, 0, 4⟩
def ISP0_C0_STAT_WIN_Y0 : Field := ⟨0x0B1090, 27, 16, 4⟩
/-! ISP0_C0_STAT_ZONE: Table 10.11 -/
def ISP0_C0_STAT_ZONE : Field := ⟨0x0B1094, 31, 0, 4⟩
def ISP0_C0_STAT_ZONE_ZW : Field := ⟨0x0B1094, 8, 0, 4⟩
def ISP0_C0_STAT_ZONE_ZH : Field := ⟨0x0B1094, 24, 16, 4⟩
/-! ISP0_C0_STAT_CORE: Table 10.11 -/
def ISP0_C0_STAT_CORE : Field := ⟨0x0B1098, 31, 0, 4⟩
def ISP0_C0_STAT_CORE_CORE1 : Field := ⟨0x0B1098, 15, 0, 4⟩
def ISP0_C0_STAT_CORE_CORE2 : Field := ⟨0x0B1098, 31, 16, 4⟩
/-! ISP0_C0_PROX_CTL: Table 10.11 -/
def ISP0_C0_PROX_CTL : Field := ⟨0x0B10A0, 31, 0, 4⟩
def ISP0_C0_PROX_CTL_THR : Field := ⟨0x0B10A0, 11, 0, 4⟩
def ISP0_C0_PROX_CTL_FRAMES : Field := ⟨0x0B10A0, 13, 12, 4⟩
def ISP0_C0_PROX_CTL_EN : Field := ⟨0x0B10A0, 16, 16, 4⟩
/-! ISP0_C0_PROX_TMO: Table 10.11 -/
def ISP0_C0_PROX_TMO : Field := ⟨0x0B10A4, 31, 0, 4⟩
def ISP0_C0_PROX_TMO_TMO : Field := ⟨0x0B10A4, 15, 0, 4⟩
/-! ISP0_C0_PROX_MASK: Table 10.11 -/
def ISP0_C0_PROX_MASK : Field := ⟨0x0B10B0, 31, 0, 4⟩
def ISP0_C0_PROX_MASK_MASK : Field := ⟨0x0B10B0, 31, 0, 4⟩
/-! ISP0_C0_OUT_CTL: Table 10.11 -/
def ISP0_C0_OUT_CTL : Field := ⟨0x0B1100, 31, 0, 4⟩
def ISP0_C0_OUT_CTL_DISP_EN : Field := ⟨0x0B1100, 0, 0, 4⟩
def ISP0_C0_OUT_CTL_COD_EN : Field := ⟨0x0B1100, 1, 1, 4⟩
def ISP0_C0_OUT_CTL_VIS_EN : Field := ⟨0x0B1100, 2, 2, 4⟩
def ISP0_C0_OUT_CTL_DISP_CHROMA : Field := ⟨0x0B1100, 4, 3, 4⟩
def ISP0_C0_OUT_CTL_DISP_PLANAR : Field := ⟨0x0B1100, 5, 5, 4⟩
def ISP0_C0_OUT_CTL_DISP_DEPTH10 : Field := ⟨0x0B1100, 6, 6, 4⟩
def ISP0_C0_OUT_CTL_VIS_SCALE : Field := ⟨0x0B1100, 9, 8, 4⟩
def ISP0_C0_OUT_CTL_NBUF : Field := ⟨0x0B1100, 13, 12, 4⟩
def ISP0_C0_OUT_CTL_VIS_DIRECT : Field := ⟨0x0B1100, 16, 16, 4⟩
/-! ISP0_C0_DISP_STRIDE: Table 10.11 -/
def ISP0_C0_DISP_STRIDE : Field := ⟨0x0B1104, 31, 0, 4⟩
def ISP0_C0_DISP_STRIDE_P0 : Field := ⟨0x0B1104, 15, 0, 4⟩
def ISP0_C0_DISP_STRIDE_P1 : Field := ⟨0x0B1104, 31, 16, 4⟩
/-! ISP0_C0_COD_STRIDE: Table 10.11 -/
def ISP0_C0_COD_STRIDE : Field := ⟨0x0B1108, 31, 0, 4⟩
def ISP0_C0_COD_STRIDE_P0 : Field := ⟨0x0B1108, 15, 0, 4⟩
def ISP0_C0_COD_STRIDE_P1 : Field := ⟨0x0B1108, 31, 16, 4⟩
/-! ISP0_C0_VIS_STRIDE: Table 10.11 -/
def ISP0_C0_VIS_STRIDE : Field := ⟨0x0B110C, 31, 0, 4⟩
def ISP0_C0_VIS_STRIDE_P0 : Field := ⟨0x0B110C, 15, 0, 4⟩
def ISP0_C0_VIS_STRIDE_P1 : Field := ⟨0x0B110C, 31, 16, 4⟩
/-! ISP0_C0_BUF_DISP_Y: Table 10.11 -/
def ISP0_C0_BUF_DISP_Y : Field := ⟨0x0B1110, 31, 0, 32⟩
def ISP0_C0_BUF_DISP_Y_ADDR : Field := ⟨0x0B1110, 31, 0, 32⟩
/-! ISP0_C0_BUF_DISP_C0: Table 10.11 -/
def ISP0_C0_BUF_DISP_C0 : Field := ⟨0x0B1114, 31, 0, 32⟩
def ISP0_C0_BUF_DISP_C0_ADDR : Field := ⟨0x0B1114, 31, 0, 32⟩
/-! ISP0_C0_BUF_DISP_C1: Table 10.11 -/
def ISP0_C0_BUF_DISP_C1 : Field := ⟨0x0B1118, 31, 0, 32⟩
def ISP0_C0_BUF_DISP_C1_ADDR : Field := ⟨0x0B1118, 31, 0, 32⟩
/-! ISP0_C0_BUF_COD_Y: Table 10.11 -/
def ISP0_C0_BUF_COD_Y : Field := ⟨0x0B111C, 31, 0, 32⟩
def ISP0_C0_BUF_COD_Y_ADDR : Field := ⟨0x0B111C, 31, 0, 32⟩
/-! ISP0_C0_BUF_COD_C: Table 10.11 -/
def ISP0_C0_BUF_COD_C : Field := ⟨0x0B1120, 31, 0, 32⟩
def ISP0_C0_BUF_COD_C_ADDR : Field := ⟨0x0B1120, 31, 0, 32⟩
/-! ISP0_C0_BUF_VIS_Y: Table 10.11 -/
def ISP0_C0_BUF_VIS_Y : Field := ⟨0x0B1124, 31, 0, 32⟩
def ISP0_C0_BUF_VIS_Y_ADDR : Field := ⟨0x0B1124, 31, 0, 32⟩
/-! ISP0_C0_BUF_VIS_IR: Table 10.11 -/
def ISP0_C0_BUF_VIS_IR : Field := ⟨0x0B1128, 31, 0, 32⟩
def ISP0_C0_BUF_VIS_IR_ADDR : Field := ⟨0x0B1128, 31, 0, 32⟩
/-! ISP0_C0_OUT_STAT: Table 10.11 -/
def ISP0_C0_OUT_STAT : Field := ⟨0x0B1190, 31, 0, 4⟩
def ISP0_C0_OUT_STAT_DISP : Field := ⟨0x0B1190, 1, 0, 4⟩
def ISP0_C0_OUT_STAT_COD : Field := ⟨0x0B1190, 3, 2, 4⟩
def ISP0_C0_OUT_STAT_VIS : Field := ⟨0x0B1190, 5, 4, 4⟩
def ISP0_C0_OUT_STAT_VALID : Field := ⟨0x0B1190, 8, 6, 4⟩
/-! ISP0_C0_TONE: Table 10.11 -/
def ISP0_C0_TONE : Field := ⟨0x0B1400, 31, 0, 4⟩
def ISP0_C0_TONE_T : Field := ⟨0x0B1400, 11, 0, 4⟩
/-! ISP1_CTL: Table 10.10 -/
def ISP1_CTL : Field := ⟨0x0C0000, 31, 0, 4⟩
def ISP1_CTL_EN : Field := ⟨0x0C0000, 0, 0, 4⟩
def ISP1_CTL_STAT_HOLD : Field := ⟨0x0C0000, 1, 1, 4⟩
/-! ISP1_STAT: Table 10.10 -/
def ISP1_STAT : Field := ⟨0x0C0004, 31, 0, 4⟩
def ISP1_STAT_CTX : Field := ⟨0x0C0004, 1, 0, 4⟩
def ISP1_STAT_BUSY : Field := ⟨0x0C0004, 2, 2, 4⟩
/-! ISP1_STAT_SEL: Table 10.10 -/
def ISP1_STAT_SEL : Field := ⟨0x0C0010, 31, 0, 4⟩
def ISP1_STAT_SEL_CTX : Field := ⟨0x0C0010, 1, 0, 4⟩
def ISP1_STAT_SEL_ZONE : Field := ⟨0x0C0010, 9, 2, 4⟩
def ISP1_STAT_SEL_ITEM : Field := ⟨0x0C0010, 11, 10, 4⟩
/-! ISP1_STAT_DATA: Table 10.10 -/
def ISP1_STAT_DATA : Field := ⟨0x0C0014, 31, 0, 4⟩
def ISP1_STAT_DATA_DATA : Field := ⟨0x0C0014, 31, 0, 4⟩
/-! ISP1_STAT_TAG: Table 10.10 -/
def ISP1_STAT_TAG : Field := ⟨0x0C0018, 31, 0, 4⟩
def ISP1_STAT_TAG_FRAME_CNT : Field := ⟨0x0C0018, 15, 0, 4⟩
def ISP1_STAT_TAG_SHORT : Field := ⟨0x0C0018, 16, 16, 4⟩
def ISP1_STAT_TAG_LONG : Field := ⟨0x0C0018, 17, 17, 4⟩
def ISP1_STAT_TAG_VALID : Field := ⟨0x0C0018, 18, 18, 4⟩
/-! ISP1_STAT_LOST: Table 10.10 -/
def ISP1_STAT_LOST : Field := ⟨0x0C001C, 31, 0, 4⟩
def ISP1_STAT_LOST_STAT_LOST : Field := ⟨0x0C001C, 15, 0, 4⟩
/-! ISP1_PROX_STAT: Table 10.10 -/
def ISP1_PROX_STAT : Field := ⟨0x0C0020, 31, 0, 4⟩
def ISP1_PROX_STAT_HOT : Field := ⟨0x0C0020, 0, 0, 4⟩
def ISP1_PROX_STAT_STALE : Field := ⟨0x0C0020, 1, 1, 4⟩
def ISP1_PROX_STAT_ZONES : Field := ⟨0x0C0020, 9, 2, 4⟩
/-! ISP1_CNT_CLR: Table 10.10 -/
def ISP1_CNT_CLR : Field := ⟨0x0C00E0, 31, 0, 4⟩
def ISP1_CNT_CLR_CLR : Field := ⟨0x0C00E0, 0, 0, 4⟩
/-! ISP1_OUT_CNT: Table 10.10 -/
def ISP1_OUT_CNT : Field := ⟨0x0C0100, 31, 0, 4⟩
def ISP1_OUT_CNT_OUT_DROP : Field := ⟨0x0C0100, 15, 0, 4⟩
def ISP1_OUT_CNT_OUT_SKIP : Field := ⟨0x0C0100, 31, 16, 4⟩
/-! ISP1_C0_MOSAIC: Table 10.11 -/
def ISP1_C0_MOSAIC : Field := ⟨0x0C1000, 31, 0, 4⟩
def ISP1_C0_MOSAIC_TYPE : Field := ⟨0x0C1000, 1, 0, 4⟩
def ISP1_C0_MOSAIC_PHASE_B : Field := ⟨0x0C1000, 2, 2, 4⟩
def ISP1_C0_MOSAIC_OX : Field := ⟨0x0C1000, 5, 4, 4⟩
def ISP1_C0_MOSAIC_OY : Field := ⟨0x0C1000, 7, 6, 4⟩
/-! ISP1_C0_BLACK0: Table 10.11 -/
def ISP1_C0_BLACK0 : Field := ⟨0x0C1004, 31, 0, 4⟩
def ISP1_C0_BLACK0_RED : Field := ⟨0x0C1004, 11, 0, 4⟩
def ISP1_C0_BLACK0_GRN : Field := ⟨0x0C1004, 27, 16, 4⟩
/-! ISP1_C0_BLACK1: Table 10.11 -/
def ISP1_C0_BLACK1 : Field := ⟨0x0C1008, 31, 0, 4⟩
def ISP1_C0_BLACK1_BLU : Field := ⟨0x0C1008, 11, 0, 4⟩
def ISP1_C0_BLACK1_X : Field := ⟨0x0C1008, 27, 16, 4⟩
/-! ISP1_C0_WB0: Table 10.11 -/
def ISP1_C0_WB0 : Field := ⟨0x0C100C, 31, 0, 4⟩
def ISP1_C0_WB0_RED : Field := ⟨0x0C100C, 15, 0, 4⟩
def ISP1_C0_WB0_GRN : Field := ⟨0x0C100C, 31, 16, 4⟩
/-! ISP1_C0_WB1: Table 10.11 -/
def ISP1_C0_WB1 : Field := ⟨0x0C1010, 31, 0, 4⟩
def ISP1_C0_WB1_BLU : Field := ⟨0x0C1010, 15, 0, 4⟩
def ISP1_C0_WB1_X : Field := ⟨0x0C1010, 31, 16, 4⟩
/-! ISP1_C0_IRM0: Table 10.11 -/
def ISP1_C0_IRM0 : Field := ⟨0x0C1020, 31, 0, 4⟩
def ISP1_C0_IRM0_COEF : Field := ⟨0x0C1020, 14, 0, 4⟩
/-! ISP1_C0_IRM1: Table 10.11 -/
def ISP1_C0_IRM1 : Field := ⟨0x0C1024, 31, 0, 4⟩
def ISP1_C0_IRM1_COEF : Field := ⟨0x0C1024, 14, 0, 4⟩
/-! ISP1_C0_IRM2: Table 10.11 -/
def ISP1_C0_IRM2 : Field := ⟨0x0C1028, 31, 0, 4⟩
def ISP1_C0_IRM2_COEF : Field := ⟨0x0C1028, 14, 0, 4⟩
/-! ISP1_C0_IRM3: Table 10.11 -/
def ISP1_C0_IRM3 : Field := ⟨0x0C102C, 31, 0, 4⟩
def ISP1_C0_IRM3_COEF : Field := ⟨0x0C102C, 14, 0, 4⟩
/-! ISP1_C0_IRM4: Table 10.11 -/
def ISP1_C0_IRM4 : Field := ⟨0x0C1030, 31, 0, 4⟩
def ISP1_C0_IRM4_COEF : Field := ⟨0x0C1030, 14, 0, 4⟩
/-! ISP1_C0_IRM5: Table 10.11 -/
def ISP1_C0_IRM5 : Field := ⟨0x0C1034, 31, 0, 4⟩
def ISP1_C0_IRM5_COEF : Field := ⟨0x0C1034, 14, 0, 4⟩
/-! ISP1_C0_IRM6: Table 10.11 -/
def ISP1_C0_IRM6 : Field := ⟨0x0C1038, 31, 0, 4⟩
def ISP1_C0_IRM6_COEF : Field := ⟨0x0C1038, 14, 0, 4⟩
/-! ISP1_C0_IRM7: Table 10.11 -/
def ISP1_C0_IRM7 : Field := ⟨0x0C103C, 31, 0, 4⟩
def ISP1_C0_IRM7_COEF : Field := ⟨0x0C103C, 14, 0, 4⟩
/-! ISP1_C0_IRM8: Table 10.11 -/
def ISP1_C0_IRM8 : Field := ⟨0x0C1040, 31, 0, 4⟩
def ISP1_C0_IRM8_COEF : Field := ⟨0x0C1040, 14, 0, 4⟩
/-! ISP1_C0_IRM9: Table 10.11 -/
def ISP1_C0_IRM9 : Field := ⟨0x0C1044, 31, 0, 4⟩
def ISP1_C0_IRM9_COEF : Field := ⟨0x0C1044, 14, 0, 4⟩
/-! ISP1_C0_IRM10: Table 10.11 -/
def ISP1_C0_IRM10 : Field := ⟨0x0C1048, 31, 0, 4⟩
def ISP1_C0_IRM10_COEF : Field := ⟨0x0C1048, 14, 0, 4⟩
/-! ISP1_C0_IRM11: Table 10.11 -/
def ISP1_C0_IRM11 : Field := ⟨0x0C104C, 31, 0, 4⟩
def ISP1_C0_IRM11_COEF : Field := ⟨0x0C104C, 14, 0, 4⟩
/-! ISP1_C0_IRR0: Table 10.11 -/
def ISP1_C0_IRR0 : Field := ⟨0x0C1050, 31, 0, 4⟩
def ISP1_C0_IRR0_COEF : Field := ⟨0x0C1050, 14, 0, 4⟩
/-! ISP1_C0_IRR1: Table 10.11 -/
def ISP1_C0_IRR1 : Field := ⟨0x0C1054, 31, 0, 4⟩
def ISP1_C0_IRR1_COEF : Field := ⟨0x0C1054, 14, 0, 4⟩
/-! ISP1_C0_IRR2: Table 10.11 -/
def ISP1_C0_IRR2 : Field := ⟨0x0C1058, 31, 0, 4⟩
def ISP1_C0_IRR2_COEF : Field := ⟨0x0C1058, 14, 0, 4⟩
/-! ISP1_C0_IRR3: Table 10.11 -/
def ISP1_C0_IRR3 : Field := ⟨0x0C105C, 31, 0, 4⟩
def ISP1_C0_IRR3_COEF : Field := ⟨0x0C105C, 14, 0, 4⟩
/-! ISP1_C0_CCM0: Table 10.11 -/
def ISP1_C0_CCM0 : Field := ⟨0x0C1060, 31, 0, 4⟩
def ISP1_C0_CCM0_COEF : Field := ⟨0x0C1060, 14, 0, 4⟩
/-! ISP1_C0_CCM1: Table 10.11 -/
def ISP1_C0_CCM1 : Field := ⟨0x0C1064, 31, 0, 4⟩
def ISP1_C0_CCM1_COEF : Field := ⟨0x0C1064, 14, 0, 4⟩
/-! ISP1_C0_CCM2: Table 10.11 -/
def ISP1_C0_CCM2 : Field := ⟨0x0C1068, 31, 0, 4⟩
def ISP1_C0_CCM2_COEF : Field := ⟨0x0C1068, 14, 0, 4⟩
/-! ISP1_C0_CCM3: Table 10.11 -/
def ISP1_C0_CCM3 : Field := ⟨0x0C106C, 31, 0, 4⟩
def ISP1_C0_CCM3_COEF : Field := ⟨0x0C106C, 14, 0, 4⟩
/-! ISP1_C0_CCM4: Table 10.11 -/
def ISP1_C0_CCM4 : Field := ⟨0x0C1070, 31, 0, 4⟩
def ISP1_C0_CCM4_COEF : Field := ⟨0x0C1070, 14, 0, 4⟩
/-! ISP1_C0_CCM5: Table 10.11 -/
def ISP1_C0_CCM5 : Field := ⟨0x0C1074, 31, 0, 4⟩
def ISP1_C0_CCM5_COEF : Field := ⟨0x0C1074, 14, 0, 4⟩
/-! ISP1_C0_CCM6: Table 10.11 -/
def ISP1_C0_CCM6 : Field := ⟨0x0C1078, 31, 0, 4⟩
def ISP1_C0_CCM6_COEF : Field := ⟨0x0C1078, 14, 0, 4⟩
/-! ISP1_C0_CCM7: Table 10.11 -/
def ISP1_C0_CCM7 : Field := ⟨0x0C107C, 31, 0, 4⟩
def ISP1_C0_CCM7_COEF : Field := ⟨0x0C107C, 14, 0, 4⟩
/-! ISP1_C0_CCM8: Table 10.11 -/
def ISP1_C0_CCM8 : Field := ⟨0x0C1080, 31, 0, 4⟩
def ISP1_C0_CCM8_COEF : Field := ⟨0x0C1080, 14, 0, 4⟩
/-! ISP1_C0_CCM_OFS: Table 10.11 -/
def ISP1_C0_CCM_OFS : Field := ⟨0x0C1084, 31, 0, 4⟩
def ISP1_C0_CCM_OFS_OFS : Field := ⟨0x0C1084, 12, 0, 4⟩
/-! ISP1_C0_STAT_WIN: Table 10.11 -/
def ISP1_C0_STAT_WIN : Field := ⟨0x0C1090, 31, 0, 4⟩
def ISP1_C0_STAT_WIN_X0 : Field := ⟨0x0C1090, 11, 0, 4⟩
def ISP1_C0_STAT_WIN_Y0 : Field := ⟨0x0C1090, 27, 16, 4⟩
/-! ISP1_C0_STAT_ZONE: Table 10.11 -/
def ISP1_C0_STAT_ZONE : Field := ⟨0x0C1094, 31, 0, 4⟩
def ISP1_C0_STAT_ZONE_ZW : Field := ⟨0x0C1094, 8, 0, 4⟩
def ISP1_C0_STAT_ZONE_ZH : Field := ⟨0x0C1094, 24, 16, 4⟩
/-! ISP1_C0_STAT_CORE: Table 10.11 -/
def ISP1_C0_STAT_CORE : Field := ⟨0x0C1098, 31, 0, 4⟩
def ISP1_C0_STAT_CORE_CORE1 : Field := ⟨0x0C1098, 15, 0, 4⟩
def ISP1_C0_STAT_CORE_CORE2 : Field := ⟨0x0C1098, 31, 16, 4⟩
/-! ISP1_C0_PROX_CTL: Table 10.11 -/
def ISP1_C0_PROX_CTL : Field := ⟨0x0C10A0, 31, 0, 4⟩
def ISP1_C0_PROX_CTL_THR : Field := ⟨0x0C10A0, 11, 0, 4⟩
def ISP1_C0_PROX_CTL_FRAMES : Field := ⟨0x0C10A0, 13, 12, 4⟩
def ISP1_C0_PROX_CTL_EN : Field := ⟨0x0C10A0, 16, 16, 4⟩
/-! ISP1_C0_PROX_TMO: Table 10.11 -/
def ISP1_C0_PROX_TMO : Field := ⟨0x0C10A4, 31, 0, 4⟩
def ISP1_C0_PROX_TMO_TMO : Field := ⟨0x0C10A4, 15, 0, 4⟩
/-! ISP1_C0_PROX_MASK: Table 10.11 -/
def ISP1_C0_PROX_MASK : Field := ⟨0x0C10B0, 31, 0, 4⟩
def ISP1_C0_PROX_MASK_MASK : Field := ⟨0x0C10B0, 31, 0, 4⟩
/-! ISP1_C0_OUT_CTL: Table 10.11 -/
def ISP1_C0_OUT_CTL : Field := ⟨0x0C1100, 31, 0, 4⟩
def ISP1_C0_OUT_CTL_DISP_EN : Field := ⟨0x0C1100, 0, 0, 4⟩
def ISP1_C0_OUT_CTL_COD_EN : Field := ⟨0x0C1100, 1, 1, 4⟩
def ISP1_C0_OUT_CTL_VIS_EN : Field := ⟨0x0C1100, 2, 2, 4⟩
def ISP1_C0_OUT_CTL_DISP_CHROMA : Field := ⟨0x0C1100, 4, 3, 4⟩
def ISP1_C0_OUT_CTL_DISP_PLANAR : Field := ⟨0x0C1100, 5, 5, 4⟩
def ISP1_C0_OUT_CTL_DISP_DEPTH10 : Field := ⟨0x0C1100, 6, 6, 4⟩
def ISP1_C0_OUT_CTL_VIS_SCALE : Field := ⟨0x0C1100, 9, 8, 4⟩
def ISP1_C0_OUT_CTL_NBUF : Field := ⟨0x0C1100, 13, 12, 4⟩
def ISP1_C0_OUT_CTL_VIS_DIRECT : Field := ⟨0x0C1100, 16, 16, 4⟩
/-! ISP1_C0_DISP_STRIDE: Table 10.11 -/
def ISP1_C0_DISP_STRIDE : Field := ⟨0x0C1104, 31, 0, 4⟩
def ISP1_C0_DISP_STRIDE_P0 : Field := ⟨0x0C1104, 15, 0, 4⟩
def ISP1_C0_DISP_STRIDE_P1 : Field := ⟨0x0C1104, 31, 16, 4⟩
/-! ISP1_C0_COD_STRIDE: Table 10.11 -/
def ISP1_C0_COD_STRIDE : Field := ⟨0x0C1108, 31, 0, 4⟩
def ISP1_C0_COD_STRIDE_P0 : Field := ⟨0x0C1108, 15, 0, 4⟩
def ISP1_C0_COD_STRIDE_P1 : Field := ⟨0x0C1108, 31, 16, 4⟩
/-! ISP1_C0_VIS_STRIDE: Table 10.11 -/
def ISP1_C0_VIS_STRIDE : Field := ⟨0x0C110C, 31, 0, 4⟩
def ISP1_C0_VIS_STRIDE_P0 : Field := ⟨0x0C110C, 15, 0, 4⟩
def ISP1_C0_VIS_STRIDE_P1 : Field := ⟨0x0C110C, 31, 16, 4⟩
/-! ISP1_C0_BUF_DISP_Y: Table 10.11 -/
def ISP1_C0_BUF_DISP_Y : Field := ⟨0x0C1110, 31, 0, 32⟩
def ISP1_C0_BUF_DISP_Y_ADDR : Field := ⟨0x0C1110, 31, 0, 32⟩
/-! ISP1_C0_BUF_DISP_C0: Table 10.11 -/
def ISP1_C0_BUF_DISP_C0 : Field := ⟨0x0C1114, 31, 0, 32⟩
def ISP1_C0_BUF_DISP_C0_ADDR : Field := ⟨0x0C1114, 31, 0, 32⟩
/-! ISP1_C0_BUF_DISP_C1: Table 10.11 -/
def ISP1_C0_BUF_DISP_C1 : Field := ⟨0x0C1118, 31, 0, 32⟩
def ISP1_C0_BUF_DISP_C1_ADDR : Field := ⟨0x0C1118, 31, 0, 32⟩
/-! ISP1_C0_BUF_COD_Y: Table 10.11 -/
def ISP1_C0_BUF_COD_Y : Field := ⟨0x0C111C, 31, 0, 32⟩
def ISP1_C0_BUF_COD_Y_ADDR : Field := ⟨0x0C111C, 31, 0, 32⟩
/-! ISP1_C0_BUF_COD_C: Table 10.11 -/
def ISP1_C0_BUF_COD_C : Field := ⟨0x0C1120, 31, 0, 32⟩
def ISP1_C0_BUF_COD_C_ADDR : Field := ⟨0x0C1120, 31, 0, 32⟩
/-! ISP1_C0_BUF_VIS_Y: Table 10.11 -/
def ISP1_C0_BUF_VIS_Y : Field := ⟨0x0C1124, 31, 0, 32⟩
def ISP1_C0_BUF_VIS_Y_ADDR : Field := ⟨0x0C1124, 31, 0, 32⟩
/-! ISP1_C0_BUF_VIS_IR: Table 10.11 -/
def ISP1_C0_BUF_VIS_IR : Field := ⟨0x0C1128, 31, 0, 32⟩
def ISP1_C0_BUF_VIS_IR_ADDR : Field := ⟨0x0C1128, 31, 0, 32⟩
/-! ISP1_C0_OUT_STAT: Table 10.11 -/
def ISP1_C0_OUT_STAT : Field := ⟨0x0C1190, 31, 0, 4⟩
def ISP1_C0_OUT_STAT_DISP : Field := ⟨0x0C1190, 1, 0, 4⟩
def ISP1_C0_OUT_STAT_COD : Field := ⟨0x0C1190, 3, 2, 4⟩
def ISP1_C0_OUT_STAT_VIS : Field := ⟨0x0C1190, 5, 4, 4⟩
def ISP1_C0_OUT_STAT_VALID : Field := ⟨0x0C1190, 8, 6, 4⟩
/-! ISP1_C0_TONE: Table 10.11 -/
def ISP1_C0_TONE : Field := ⟨0x0C1400, 31, 0, 4⟩
def ISP1_C0_TONE_T : Field := ⟨0x0C1400, 11, 0, 4⟩
/-! RTX_CFG: Table 10.12 -/
def RTX_CFG : Field := ⟨0x0D0000, 31, 0, 4⟩
def RTX_CFG_EN : Field := ⟨0x0D0000, 0, 0, 4⟩
def RTX_CFG_CONT_CLK : Field := ⟨0x0D0000, 1, 1, 4⟩
def RTX_CFG_EMB_EN : Field := ⟨0x0D0000, 2, 2, 4⟩
/-! RTX_STR_CFG: Table 10.12 -/
def RTX_STR_CFG : Field := ⟨0x0D0010, 31, 0, 16⟩
def RTX_STR_CFG_EN : Field := ⟨0x0D0010, 0, 0, 16⟩
def RTX_STR_CFG_PIPE : Field := ⟨0x0D0010, 1, 1, 16⟩
def RTX_STR_CFG_CTX : Field := ⟨0x0D0010, 3, 2, 16⟩
def RTX_STR_CFG_VC : Field := ⟨0x0D0010, 5, 4, 16⟩
/-! RTX_STR_CNT: Table 10.12 -/
def RTX_STR_CNT : Field := ⟨0x0D0014, 31, 0, 16⟩
def RTX_STR_CNT_SENT : Field := ⟨0x0D0014, 15, 0, 16⟩
def RTX_STR_CNT_DROP : Field := ⟨0x0D0014, 31, 16, 16⟩
/-! RTX_STR_CNT1: Table 10.12 -/
def RTX_STR_CNT1 : Field := ⟨0x0D0018, 31, 0, 16⟩
def RTX_STR_CNT1_UNDERRUN : Field := ⟨0x0D0018, 15, 0, 16⟩
/-! RTX_STAT: Table 10.12 -/
def RTX_STAT : Field := ⟨0x0D0050, 31, 0, 4⟩
def RTX_STAT_BUSY : Field := ⟨0x0D0050, 0, 0, 4⟩
def RTX_STAT_STREAM : Field := ⟨0x0D0050, 2, 1, 4⟩
def RTX_STAT_ERR : Field := ⟨0x0D0050, 4, 4, 4⟩
/-! RTX_CNT_CLR: Table 10.12 -/
def RTX_CNT_CLR : Field := ⟨0x0D00E0, 31, 0, 4⟩
def RTX_CNT_CLR_CLR : Field := ⟨0x0D00E0, 0, 0, 4⟩
/-! CMP_CTL: Table 11.6 -/
def CMP_CTL : Field := ⟨0x100000, 31, 0, 4⟩
def CMP_CTL_EN : Field := ⟨0x100000, 0, 0, 4⟩
def CMP_CTL_ROUTE : Field := ⟨0x100000, 1, 1, 4⟩
def CMP_CTL_DITHER : Field := ⟨0x100000, 3, 2, 4⟩
def CMP_CTL_DEPTH : Field := ⟨0x100000, 5, 4, 4⟩
/-! CMP_CANVAS: Table 11.6 -/
def CMP_CANVAS : Field := ⟨0x100004, 31, 0, 4⟩
def CMP_CANVAS_W : Field := ⟨0x100004, 12, 0, 4⟩
def CMP_CANVAS_H : Field := ⟨0x100004, 28, 16, 4⟩
/-! CMP_BG_RG: Table 11.6 -/
def CMP_BG_RG : Field := ⟨0x100008, 31, 0, 4⟩
def CMP_BG_RG_RED : Field := ⟨0x100008, 15, 0, 4⟩
def CMP_BG_RG_GRN : Field := ⟨0x100008, 31, 16, 4⟩
/-! CMP_BG_B: Table 11.6 -/
def CMP_BG_B : Field := ⟨0x10000C, 31, 0, 4⟩
def CMP_BG_B_BLU : Field := ⟨0x10000C, 15, 0, 4⟩
/-! CMP_ERR: Table 11.6 -/
def CMP_ERR : Field := ⟨0x100010, 31, 0, 4⟩
def CMP_ERR_CODE : Field := ⟨0x100010, 3, 0, 4⟩
def CMP_ERR_ERR : Field := ⟨0x100010, 31, 31, 4⟩
/-! CMP_FLIP: Table 11.6 -/
def CMP_FLIP : Field := ⟨0x100020, 31, 0, 4⟩
def CMP_FLIP_ARM : Field := ⟨0x100020, 3, 0, 4⟩
def CMP_FLIP_CANCEL : Field := ⟨0x100020, 7, 4, 4⟩
def CMP_FLIP_EVT : Field := ⟨0x100020, 8, 8, 4⟩
/-! CMP_FLIP_CFG: Table 11.6 -/
def CMP_FLIP_CFG : Field := ⟨0x100024, 31, 0, 4⟩
def CMP_FLIP_CFG_LOOKAHEAD : Field := ⟨0x100024, 3, 0, 4⟩
def CMP_FLIP_CFG_FENCE_TMO : Field := ⟨0x100024, 15, 8, 4⟩
/-! CMP_GROUP_STAT: Table 11.6 -/
def CMP_GROUP_STAT : Field := ⟨0x100030, 31, 0, 4⟩
def CMP_GROUP_STAT_RESULT : Field := ⟨0x100030, 2, 0, 4⟩
def CMP_GROUP_STAT_FRAME : Field := ⟨0x100030, 31, 16, 4⟩
/-! CMP_FENCE: Table 11.6 -/
def CMP_FENCE : Field := ⟨0x100040, 31, 0, 4⟩
def CMP_FENCE_VALUE : Field := ⟨0x100040, 15, 0, 4⟩
/-! CMP_MAT_M0: Table 11.6 -/
def CMP_MAT_M0 : Field := ⟨0x100080, 31, 0, 4⟩
def CMP_MAT_M0_M : Field := ⟨0x100080, 14, 0, 4⟩
/-! CMP_MAT_M1: Table 11.6 -/
def CMP_MAT_M1 : Field := ⟨0x100084, 31, 0, 4⟩
def CMP_MAT_M1_M : Field := ⟨0x100084, 14, 0, 4⟩
/-! CMP_MAT_M2: Table 11.6 -/
def CMP_MAT_M2 : Field := ⟨0x100088, 31, 0, 4⟩
def CMP_MAT_M2_M : Field := ⟨0x100088, 14, 0, 4⟩
/-! CMP_MAT_M3: Table 11.6 -/
def CMP_MAT_M3 : Field := ⟨0x10008C, 31, 0, 4⟩
def CMP_MAT_M3_M : Field := ⟨0x10008C, 14, 0, 4⟩
/-! CMP_MAT_M4: Table 11.6 -/
def CMP_MAT_M4 : Field := ⟨0x100090, 31, 0, 4⟩
def CMP_MAT_M4_M : Field := ⟨0x100090, 14, 0, 4⟩
/-! CMP_MAT_M5: Table 11.6 -/
def CMP_MAT_M5 : Field := ⟨0x100094, 31, 0, 4⟩
def CMP_MAT_M5_M : Field := ⟨0x100094, 14, 0, 4⟩
/-! CMP_MAT_M6: Table 11.6 -/
def CMP_MAT_M6 : Field := ⟨0x100098, 31, 0, 4⟩
def CMP_MAT_M6_M : Field := ⟨0x100098, 14, 0, 4⟩
/-! CMP_MAT_M7: Table 11.6 -/
def CMP_MAT_M7 : Field := ⟨0x10009C, 31, 0, 4⟩
def CMP_MAT_M7_M : Field := ⟨0x10009C, 14, 0, 4⟩
/-! CMP_MAT_M8: Table 11.6 -/
def CMP_MAT_M8 : Field := ⟨0x1000A0, 31, 0, 4⟩
def CMP_MAT_M8_M : Field := ⟨0x1000A0, 14, 0, 4⟩
/-! CMP_MAT_O: Table 11.6 -/
def CMP_MAT_O : Field := ⟨0x1000A4, 31, 0, 4⟩
def CMP_MAT_O_O : Field := ⟨0x1000A4, 12, 0, 4⟩
/-! CMP_CNT0: Table 11.6 -/
def CMP_CNT0 : Field := ⟨0x1000C0, 31, 0, 4⟩
def CMP_CNT0_LINE_ABANDON : Field := ⟨0x1000C0, 15, 0, 4⟩
def CMP_CNT0_SIG_SKIP : Field := ⟨0x1000C0, 31, 16, 4⟩
/-! CMP_CNT_CLR: Table 11.6 -/
def CMP_CNT_CLR : Field := ⟨0x1000E0, 31, 0, 4⟩
def CMP_CNT_CLR_CLR : Field := ⟨0x1000E0, 0, 0, 4⟩
/-! CMP_L0_CTL: Table 11.7 -/
def CMP_L0_CTL : Field := ⟨0x100100, 31, 0, 4⟩
def CMP_L0_CTL_EN : Field := ⟨0x100100, 0, 0, 4⟩
def CMP_L0_CTL_Z : Field := ⟨0x100100, 3, 1, 4⟩
def CMP_L0_CTL_OPAQUE : Field := ⟨0x100100, 4, 4, 4⟩
def CMP_L0_CTL_GROUP : Field := ⟨0x100100, 7, 6, 4⟩
def CMP_L0_CTL_FENCE_IDX : Field := ⟨0x100100, 11, 8, 4⟩
def CMP_L0_CTL_FENCE_EN : Field := ⟨0x100100, 12, 12, 4⟩
def CMP_L0_CTL_SRC_MODE : Field := ⟨0x100100, 14, 13, 4⟩
def CMP_L0_CTL_BYPASS : Field := ⟨0x100100, 15, 15, 4⟩
def CMP_L0_CTL_KS_EN : Field := ⟨0x100100, 16, 16, 4⟩
def CMP_L0_CTL_LUT_EN : Field := ⟨0x100100, 17, 17, 4⟩
/-! CMP_L0_FMT: Table 11.7 -/
def CMP_L0_FMT : Field := ⟨0x100104, 31, 0, 4⟩
def CMP_L0_FMT_CHROMA : Field := ⟨0x100104, 1, 0, 4⟩
def CMP_L0_FMT_PLANAR : Field := ⟨0x100104, 4, 4, 4⟩
def CMP_L0_FMT_DEPTH10 : Field := ⟨0x100104, 5, 5, 4⟩
def CMP_L0_FMT_CTX : Field := ⟨0x100104, 9, 8, 4⟩
def CMP_L0_FMT_PIPE : Field := ⟨0x100104, 10, 10, 4⟩
/-! CMP_L0_DST_POS: Table 11.7 -/
def CMP_L0_DST_POS : Field := ⟨0x100108, 31, 0, 4⟩
def CMP_L0_DST_POS_X : Field := ⟨0x100108, 12, 0, 4⟩
def CMP_L0_DST_POS_Y : Field := ⟨0x100108, 28, 16, 4⟩
/-! CMP_L0_DST_SIZE: Table 11.7 -/
def CMP_L0_DST_SIZE : Field := ⟨0x10010C, 31, 0, 4⟩
def CMP_L0_DST_SIZE_W : Field := ⟨0x10010C, 12, 0, 4⟩
def CMP_L0_DST_SIZE_H : Field := ⟨0x10010C, 28, 16, 4⟩
/-! CMP_L0_SRC_SIZE: Table 11.7 -/
def CMP_L0_SRC_SIZE : Field := ⟨0x100110, 31, 0, 4⟩
def CMP_L0_SRC_SIZE_W : Field := ⟨0x100110, 12, 0, 4⟩
def CMP_L0_SRC_SIZE_H : Field := ⟨0x100110, 28, 16, 4⟩
/-! CMP_L0_GALPHA: Table 11.7 -/
def CMP_L0_GALPHA : Field := ⟨0x100114, 31, 0, 4⟩
def CMP_L0_GALPHA_A : Field := ⟨0x100114, 15, 0, 4⟩
/-! CMP_L0_BASE: Table 11.7 -/
def CMP_L0_BASE : Field := ⟨0x100118, 31, 0, 4⟩
def CMP_L0_BASE_ADDR : Field := ⟨0x100118, 31, 0, 4⟩
/-! CMP_L0_STRIDE: Table 11.7 -/
def CMP_L0_STRIDE : Field := ⟨0x100124, 31, 0, 4⟩
def CMP_L0_STRIDE_P0 : Field := ⟨0x100124, 15, 0, 4⟩
def CMP_L0_STRIDE_C : Field := ⟨0x100124, 31, 16, 4⟩
/-! CMP_L0_FENCE_TARGET: Table 11.7 -/
def CMP_L0_FENCE_TARGET : Field := ⟨0x100128, 31, 0, 4⟩
def CMP_L0_FENCE_TARGET_T : Field := ⟨0x100128, 15, 0, 4⟩
/-! CMP_L0_LSTAT: Table 11.7 -/
def CMP_L0_LSTAT : Field := ⟨0x10012C, 31, 0, 4⟩
def CMP_L0_LSTAT_SUBST : Field := ⟨0x10012C, 15, 0, 4⟩
def CMP_L0_LSTAT_LA_DISCARD : Field := ⟨0x10012C, 31, 16, 4⟩
/-! CMP_L0_HSTART: Table 11.7 -/
def CMP_L0_HSTART : Field := ⟨0x100130, 31, 0, 4⟩
def CMP_L0_HSTART_V : Field := ⟨0x100130, 31, 0, 4⟩
/-! CMP_L0_HSTEP: Table 11.7 -/
def CMP_L0_HSTEP : Field := ⟨0x100134, 31, 0, 4⟩
def CMP_L0_HSTEP_V : Field := ⟨0x100134, 23, 0, 4⟩
/-! CMP_L0_VSTART: Table 11.7 -/
def CMP_L0_VSTART : Field := ⟨0x100138, 31, 0, 4⟩
def CMP_L0_VSTART_V : Field := ⟨0x100138, 31, 0, 4⟩
/-! CMP_L0_VSTEP: Table 11.7 -/
def CMP_L0_VSTEP : Field := ⟨0x10013C, 31, 0, 4⟩
def CMP_L0_VSTEP_V : Field := ⟨0x10013C, 23, 0, 4⟩
/-! CMP_L0_KS_DHSTART: Table 11.7 -/
def CMP_L0_KS_DHSTART : Field := ⟨0x100140, 31, 0, 4⟩
def CMP_L0_KS_DHSTART_V : Field := ⟨0x100140, 31, 0, 4⟩
/-! CMP_L0_KS_DHSTEP: Table 11.7 -/
def CMP_L0_KS_DHSTEP : Field := ⟨0x100144, 31, 0, 4⟩
def CMP_L0_KS_DHSTEP_V : Field := ⟨0x100144, 25, 0, 4⟩
/-! CMP_L0_KS_DVSTEP: Table 11.7 -/
def CMP_L0_KS_DVSTEP : Field := ⟨0x100148, 31, 0, 4⟩
def CMP_L0_KS_DVSTEP_V : Field := ⟨0x100148, 25, 0, 4⟩
/-! CMP_L0_CSC_M0: Table 11.7 -/
def CMP_L0_CSC_M0 : Field := ⟨0x100150, 31, 0, 4⟩
def CMP_L0_CSC_M0_M : Field := ⟨0x100150, 14, 0, 4⟩
/-! CMP_L0_CSC_M1: Table 11.7 -/
def CMP_L0_CSC_M1 : Field := ⟨0x100154, 31, 0, 4⟩
def CMP_L0_CSC_M1_M : Field := ⟨0x100154, 14, 0, 4⟩
/-! CMP_L0_CSC_M2: Table 11.7 -/
def CMP_L0_CSC_M2 : Field := ⟨0x100158, 31, 0, 4⟩
def CMP_L0_CSC_M2_M : Field := ⟨0x100158, 14, 0, 4⟩
/-! CMP_L0_CSC_M3: Table 11.7 -/
def CMP_L0_CSC_M3 : Field := ⟨0x10015C, 31, 0, 4⟩
def CMP_L0_CSC_M3_M : Field := ⟨0x10015C, 14, 0, 4⟩
/-! CMP_L0_CSC_M4: Table 11.7 -/
def CMP_L0_CSC_M4 : Field := ⟨0x100160, 31, 0, 4⟩
def CMP_L0_CSC_M4_M : Field := ⟨0x100160, 14, 0, 4⟩
/-! CMP_L0_CSC_M5: Table 11.7 -/
def CMP_L0_CSC_M5 : Field := ⟨0x100164, 31, 0, 4⟩
def CMP_L0_CSC_M5_M : Field := ⟨0x100164, 14, 0, 4⟩
/-! CMP_L0_CSC_M6: Table 11.7 -/
def CMP_L0_CSC_M6 : Field := ⟨0x100168, 31, 0, 4⟩
def CMP_L0_CSC_M6_M : Field := ⟨0x100168, 14, 0, 4⟩
/-! CMP_L0_CSC_M7: Table 11.7 -/
def CMP_L0_CSC_M7 : Field := ⟨0x10016C, 31, 0, 4⟩
def CMP_L0_CSC_M7_M : Field := ⟨0x10016C, 14, 0, 4⟩
/-! CMP_L0_CSC_M8: Table 11.7 -/
def CMP_L0_CSC_M8 : Field := ⟨0x100170, 31, 0, 4⟩
def CMP_L0_CSC_M8_M : Field := ⟨0x100170, 14, 0, 4⟩
/-! CMP_L0_CSC_O: Table 11.7 -/
def CMP_L0_CSC_O : Field := ⟨0x100174, 31, 0, 4⟩
def CMP_L0_CSC_O_O : Field := ⟨0x100174, 12, 0, 4⟩
/-! CMP_L1_CTL: Table 11.7 -/
def CMP_L1_CTL : Field := ⟨0x100180, 31, 0, 4⟩
def CMP_L1_CTL_EN : Field := ⟨0x100180, 0, 0, 4⟩
def CMP_L1_CTL_Z : Field := ⟨0x100180, 3, 1, 4⟩
def CMP_L1_CTL_OPAQUE : Field := ⟨0x100180, 4, 4, 4⟩
def CMP_L1_CTL_GROUP : Field := ⟨0x100180, 7, 6, 4⟩
def CMP_L1_CTL_FENCE_IDX : Field := ⟨0x100180, 11, 8, 4⟩
def CMP_L1_CTL_FENCE_EN : Field := ⟨0x100180, 12, 12, 4⟩
def CMP_L1_CTL_SRC_MODE : Field := ⟨0x100180, 14, 13, 4⟩
def CMP_L1_CTL_BYPASS : Field := ⟨0x100180, 15, 15, 4⟩
def CMP_L1_CTL_LUT_EN : Field := ⟨0x100180, 17, 17, 4⟩
/-! CMP_L1_FMT: Table 11.7 -/
def CMP_L1_FMT : Field := ⟨0x100184, 31, 0, 4⟩
def CMP_L1_FMT_CHROMA : Field := ⟨0x100184, 1, 0, 4⟩
def CMP_L1_FMT_PLANAR : Field := ⟨0x100184, 4, 4, 4⟩
def CMP_L1_FMT_DEPTH10 : Field := ⟨0x100184, 5, 5, 4⟩
def CMP_L1_FMT_CTX : Field := ⟨0x100184, 9, 8, 4⟩
def CMP_L1_FMT_PIPE : Field := ⟨0x100184, 10, 10, 4⟩
/-! CMP_L1_DST_POS: Table 11.7 -/
def CMP_L1_DST_POS : Field := ⟨0x100188, 31, 0, 4⟩
def CMP_L1_DST_POS_X : Field := ⟨0x100188, 12, 0, 4⟩
def CMP_L1_DST_POS_Y : Field := ⟨0x100188, 28, 16, 4⟩
/-! CMP_L1_DST_SIZE: Table 11.7 -/
def CMP_L1_DST_SIZE : Field := ⟨0x10018C, 31, 0, 4⟩
def CMP_L1_DST_SIZE_W : Field := ⟨0x10018C, 12, 0, 4⟩
def CMP_L1_DST_SIZE_H : Field := ⟨0x10018C, 28, 16, 4⟩
/-! CMP_L1_SRC_SIZE: Table 11.7 -/
def CMP_L1_SRC_SIZE : Field := ⟨0x100190, 31, 0, 4⟩
def CMP_L1_SRC_SIZE_W : Field := ⟨0x100190, 12, 0, 4⟩
def CMP_L1_SRC_SIZE_H : Field := ⟨0x100190, 28, 16, 4⟩
/-! CMP_L1_GALPHA: Table 11.7 -/
def CMP_L1_GALPHA : Field := ⟨0x100194, 31, 0, 4⟩
def CMP_L1_GALPHA_A : Field := ⟨0x100194, 15, 0, 4⟩
/-! CMP_L1_BASE: Table 11.7 -/
def CMP_L1_BASE : Field := ⟨0x100198, 31, 0, 4⟩
def CMP_L1_BASE_ADDR : Field := ⟨0x100198, 31, 0, 4⟩
/-! CMP_L1_STRIDE: Table 11.7 -/
def CMP_L1_STRIDE : Field := ⟨0x1001A4, 31, 0, 4⟩
def CMP_L1_STRIDE_P0 : Field := ⟨0x1001A4, 15, 0, 4⟩
def CMP_L1_STRIDE_C : Field := ⟨0x1001A4, 31, 16, 4⟩
/-! CMP_L1_FENCE_TARGET: Table 11.7 -/
def CMP_L1_FENCE_TARGET : Field := ⟨0x1001A8, 31, 0, 4⟩
def CMP_L1_FENCE_TARGET_T : Field := ⟨0x1001A8, 15, 0, 4⟩
/-! CMP_L1_LSTAT: Table 11.7 -/
def CMP_L1_LSTAT : Field := ⟨0x1001AC, 31, 0, 4⟩
def CMP_L1_LSTAT_SUBST : Field := ⟨0x1001AC, 15, 0, 4⟩
def CMP_L1_LSTAT_LA_DISCARD : Field := ⟨0x1001AC, 31, 16, 4⟩
/-! CMP_L1_HSTART: Table 11.7 -/
def CMP_L1_HSTART : Field := ⟨0x1001B0, 31, 0, 4⟩
def CMP_L1_HSTART_V : Field := ⟨0x1001B0, 31, 0, 4⟩
/-! CMP_L1_HSTEP: Table 11.7 -/
def CMP_L1_HSTEP : Field := ⟨0x1001B4, 31, 0, 4⟩
def CMP_L1_HSTEP_V : Field := ⟨0x1001B4, 23, 0, 4⟩
/-! CMP_L1_VSTART: Table 11.7 -/
def CMP_L1_VSTART : Field := ⟨0x1001B8, 31, 0, 4⟩
def CMP_L1_VSTART_V : Field := ⟨0x1001B8, 31, 0, 4⟩
/-! CMP_L1_VSTEP: Table 11.7 -/
def CMP_L1_VSTEP : Field := ⟨0x1001BC, 31, 0, 4⟩
def CMP_L1_VSTEP_V : Field := ⟨0x1001BC, 23, 0, 4⟩
/-! CMP_L1_CSC_M0: Table 11.7 -/
def CMP_L1_CSC_M0 : Field := ⟨0x1001D0, 31, 0, 4⟩
def CMP_L1_CSC_M0_M : Field := ⟨0x1001D0, 14, 0, 4⟩
/-! CMP_L1_CSC_M1: Table 11.7 -/
def CMP_L1_CSC_M1 : Field := ⟨0x1001D4, 31, 0, 4⟩
def CMP_L1_CSC_M1_M : Field := ⟨0x1001D4, 14, 0, 4⟩
/-! CMP_L1_CSC_M2: Table 11.7 -/
def CMP_L1_CSC_M2 : Field := ⟨0x1001D8, 31, 0, 4⟩
def CMP_L1_CSC_M2_M : Field := ⟨0x1001D8, 14, 0, 4⟩
/-! CMP_L1_CSC_M3: Table 11.7 -/
def CMP_L1_CSC_M3 : Field := ⟨0x1001DC, 31, 0, 4⟩
def CMP_L1_CSC_M3_M : Field := ⟨0x1001DC, 14, 0, 4⟩
/-! CMP_L1_CSC_M4: Table 11.7 -/
def CMP_L1_CSC_M4 : Field := ⟨0x1001E0, 31, 0, 4⟩
def CMP_L1_CSC_M4_M : Field := ⟨0x1001E0, 14, 0, 4⟩
/-! CMP_L1_CSC_M5: Table 11.7 -/
def CMP_L1_CSC_M5 : Field := ⟨0x1001E4, 31, 0, 4⟩
def CMP_L1_CSC_M5_M : Field := ⟨0x1001E4, 14, 0, 4⟩
/-! CMP_L1_CSC_M6: Table 11.7 -/
def CMP_L1_CSC_M6 : Field := ⟨0x1001E8, 31, 0, 4⟩
def CMP_L1_CSC_M6_M : Field := ⟨0x1001E8, 14, 0, 4⟩
/-! CMP_L1_CSC_M7: Table 11.7 -/
def CMP_L1_CSC_M7 : Field := ⟨0x1001EC, 31, 0, 4⟩
def CMP_L1_CSC_M7_M : Field := ⟨0x1001EC, 14, 0, 4⟩
/-! CMP_L1_CSC_M8: Table 11.7 -/
def CMP_L1_CSC_M8 : Field := ⟨0x1001F0, 31, 0, 4⟩
def CMP_L1_CSC_M8_M : Field := ⟨0x1001F0, 14, 0, 4⟩
/-! CMP_L1_CSC_O: Table 11.7 -/
def CMP_L1_CSC_O : Field := ⟨0x1001F4, 31, 0, 4⟩
def CMP_L1_CSC_O_O : Field := ⟨0x1001F4, 12, 0, 4⟩
/-! CMP_L2_CTL: Table 11.7 -/
def CMP_L2_CTL : Field := ⟨0x100200, 31, 0, 4⟩
def CMP_L2_CTL_EN : Field := ⟨0x100200, 0, 0, 4⟩
def CMP_L2_CTL_Z : Field := ⟨0x100200, 3, 1, 4⟩
def CMP_L2_CTL_OPAQUE : Field := ⟨0x100200, 4, 4, 4⟩
def CMP_L2_CTL_STATIC : Field := ⟨0x100200, 5, 5, 4⟩
def CMP_L2_CTL_GROUP : Field := ⟨0x100200, 7, 6, 4⟩
def CMP_L2_CTL_FENCE_IDX : Field := ⟨0x100200, 11, 8, 4⟩
def CMP_L2_CTL_FENCE_EN : Field := ⟨0x100200, 12, 12, 4⟩
def CMP_L2_CTL_LUT_EN : Field := ⟨0x100200, 17, 17, 4⟩
/-! CMP_L2_FMT: Table 11.7 -/
def CMP_L2_FMT : Field := ⟨0x100204, 31, 0, 4⟩
def CMP_L2_FMT_FORMAT : Field := ⟨0x100204, 3, 0, 4⟩
/-! CMP_L2_DST_POS: Table 11.7 -/
def CMP_L2_DST_POS : Field := ⟨0x100208, 31, 0, 4⟩
def CMP_L2_DST_POS_X : Field := ⟨0x100208, 12, 0, 4⟩
def CMP_L2_DST_POS_Y : Field := ⟨0x100208, 28, 16, 4⟩
/-! CMP_L2_DST_SIZE: Table 11.7 -/
def CMP_L2_DST_SIZE : Field := ⟨0x10020C, 31, 0, 4⟩
def CMP_L2_DST_SIZE_W : Field := ⟨0x10020C, 12, 0, 4⟩
def CMP_L2_DST_SIZE_H : Field := ⟨0x10020C, 28, 16, 4⟩
/-! CMP_L2_GALPHA: Table 11.7 -/
def CMP_L2_GALPHA : Field := ⟨0x100214, 31, 0, 4⟩
def CMP_L2_GALPHA_A : Field := ⟨0x100214, 15, 0, 4⟩
/-! CMP_L2_BASE: Table 11.7 -/
def CMP_L2_BASE : Field := ⟨0x100218, 31, 0, 4⟩
def CMP_L2_BASE_ADDR : Field := ⟨0x100218, 31, 0, 4⟩
/-! CMP_L2_STRIDE: Table 11.7 -/
def CMP_L2_STRIDE : Field := ⟨0x100224, 31, 0, 4⟩
def CMP_L2_STRIDE_P0 : Field := ⟨0x100224, 15, 0, 4⟩
/-! CMP_L2_FENCE_TARGET: Table 11.7 -/
def CMP_L2_FENCE_TARGET : Field := ⟨0x100228, 31, 0, 4⟩
def CMP_L2_FENCE_TARGET_T : Field := ⟨0x100228, 15, 0, 4⟩
/-! CMP_L2_LSTAT: Table 11.7 -/
def CMP_L2_LSTAT : Field := ⟨0x10022C, 31, 0, 4⟩
def CMP_L2_LSTAT_SUBST : Field := ⟨0x10022C, 15, 0, 4⟩
def CMP_L2_LSTAT_LA_DISCARD : Field := ⟨0x10022C, 31, 16, 4⟩
/-! CMP_L3_CTL: Table 11.7 -/
def CMP_L3_CTL : Field := ⟨0x100280, 31, 0, 4⟩
def CMP_L3_CTL_EN : Field := ⟨0x100280, 0, 0, 4⟩
def CMP_L3_CTL_Z : Field := ⟨0x100280, 3, 1, 4⟩
def CMP_L3_CTL_OPAQUE : Field := ⟨0x100280, 4, 4, 4⟩
def CMP_L3_CTL_STATIC : Field := ⟨0x100280, 5, 5, 4⟩
def CMP_L3_CTL_GROUP : Field := ⟨0x100280, 7, 6, 4⟩
def CMP_L3_CTL_FENCE_IDX : Field := ⟨0x100280, 11, 8, 4⟩
def CMP_L3_CTL_FENCE_EN : Field := ⟨0x100280, 12, 12, 4⟩
def CMP_L3_CTL_LUT_EN : Field := ⟨0x100280, 17, 17, 4⟩
/-! CMP_L3_FMT: Table 11.7 -/
def CMP_L3_FMT : Field := ⟨0x100284, 31, 0, 4⟩
def CMP_L3_FMT_FORMAT : Field := ⟨0x100284, 3, 0, 4⟩
/-! CMP_L3_DST_POS: Table 11.7 -/
def CMP_L3_DST_POS : Field := ⟨0x100288, 31, 0, 4⟩
def CMP_L3_DST_POS_X : Field := ⟨0x100288, 12, 0, 4⟩
def CMP_L3_DST_POS_Y : Field := ⟨0x100288, 28, 16, 4⟩
/-! CMP_L3_DST_SIZE: Table 11.7 -/
def CMP_L3_DST_SIZE : Field := ⟨0x10028C, 31, 0, 4⟩
def CMP_L3_DST_SIZE_W : Field := ⟨0x10028C, 12, 0, 4⟩
def CMP_L3_DST_SIZE_H : Field := ⟨0x10028C, 28, 16, 4⟩
/-! CMP_L3_GALPHA: Table 11.7 -/
def CMP_L3_GALPHA : Field := ⟨0x100294, 31, 0, 4⟩
def CMP_L3_GALPHA_A : Field := ⟨0x100294, 15, 0, 4⟩
/-! CMP_L3_BASE: Table 11.7 -/
def CMP_L3_BASE : Field := ⟨0x100298, 31, 0, 4⟩
def CMP_L3_BASE_ADDR : Field := ⟨0x100298, 31, 0, 4⟩
/-! CMP_L3_STRIDE: Table 11.7 -/
def CMP_L3_STRIDE : Field := ⟨0x1002A4, 31, 0, 4⟩
def CMP_L3_STRIDE_P0 : Field := ⟨0x1002A4, 15, 0, 4⟩
/-! CMP_L3_FENCE_TARGET: Table 11.7 -/
def CMP_L3_FENCE_TARGET : Field := ⟨0x1002A8, 31, 0, 4⟩
def CMP_L3_FENCE_TARGET_T : Field := ⟨0x1002A8, 15, 0, 4⟩
/-! CMP_L3_LSTAT: Table 11.7 -/
def CMP_L3_LSTAT : Field := ⟨0x1002AC, 31, 0, 4⟩
def CMP_L3_LSTAT_SUBST : Field := ⟨0x1002AC, 15, 0, 4⟩
def CMP_L3_LSTAT_LA_DISCARD : Field := ⟨0x1002AC, 31, 16, 4⟩
/-! CMP_L4_CTL: Table 11.7 -/
def CMP_L4_CTL : Field := ⟨0x100300, 31, 0, 4⟩
def CMP_L4_CTL_EN : Field := ⟨0x100300, 0, 0, 4⟩
def CMP_L4_CTL_Z : Field := ⟨0x100300, 3, 1, 4⟩
def CMP_L4_CTL_OPAQUE : Field := ⟨0x100300, 4, 4, 4⟩
def CMP_L4_CTL_STATIC : Field := ⟨0x100300, 5, 5, 4⟩
def CMP_L4_CTL_GROUP : Field := ⟨0x100300, 7, 6, 4⟩
def CMP_L4_CTL_FENCE_IDX : Field := ⟨0x100300, 11, 8, 4⟩
def CMP_L4_CTL_FENCE_EN : Field := ⟨0x100300, 12, 12, 4⟩
def CMP_L4_CTL_LUT_EN : Field := ⟨0x100300, 17, 17, 4⟩
/-! CMP_L4_FMT: Table 11.7 -/
def CMP_L4_FMT : Field := ⟨0x100304, 31, 0, 4⟩
def CMP_L4_FMT_FORMAT : Field := ⟨0x100304, 3, 0, 4⟩
/-! CMP_L4_DST_POS: Table 11.7 -/
def CMP_L4_DST_POS : Field := ⟨0x100308, 31, 0, 4⟩
def CMP_L4_DST_POS_X : Field := ⟨0x100308, 12, 0, 4⟩
def CMP_L4_DST_POS_Y : Field := ⟨0x100308, 28, 16, 4⟩
/-! CMP_L4_DST_SIZE: Table 11.7 -/
def CMP_L4_DST_SIZE : Field := ⟨0x10030C, 31, 0, 4⟩
def CMP_L4_DST_SIZE_W : Field := ⟨0x10030C, 12, 0, 4⟩
def CMP_L4_DST_SIZE_H : Field := ⟨0x10030C, 28, 16, 4⟩
/-! CMP_L4_GALPHA: Table 11.7 -/
def CMP_L4_GALPHA : Field := ⟨0x100314, 31, 0, 4⟩
def CMP_L4_GALPHA_A : Field := ⟨0x100314, 15, 0, 4⟩
/-! CMP_L4_BASE: Table 11.7 -/
def CMP_L4_BASE : Field := ⟨0x100318, 31, 0, 4⟩
def CMP_L4_BASE_ADDR : Field := ⟨0x100318, 31, 0, 4⟩
/-! CMP_L4_STRIDE: Table 11.7 -/
def CMP_L4_STRIDE : Field := ⟨0x100324, 31, 0, 4⟩
def CMP_L4_STRIDE_P0 : Field := ⟨0x100324, 15, 0, 4⟩
/-! CMP_L4_FENCE_TARGET: Table 11.7 -/
def CMP_L4_FENCE_TARGET : Field := ⟨0x100328, 31, 0, 4⟩
def CMP_L4_FENCE_TARGET_T : Field := ⟨0x100328, 15, 0, 4⟩
/-! CMP_L4_LSTAT: Table 11.7 -/
def CMP_L4_LSTAT : Field := ⟨0x10032C, 31, 0, 4⟩
def CMP_L4_LSTAT_SUBST : Field := ⟨0x10032C, 15, 0, 4⟩
def CMP_L4_LSTAT_LA_DISCARD : Field := ⟨0x10032C, 31, 16, 4⟩
/-! CMP_L5_CTL: Table 11.7 -/
def CMP_L5_CTL : Field := ⟨0x100380, 31, 0, 4⟩
def CMP_L5_CTL_EN : Field := ⟨0x100380, 0, 0, 4⟩
def CMP_L5_CTL_Z : Field := ⟨0x100380, 3, 1, 4⟩
def CMP_L5_CTL_OPAQUE : Field := ⟨0x100380, 4, 4, 4⟩
def CMP_L5_CTL_STATIC : Field := ⟨0x100380, 5, 5, 4⟩
def CMP_L5_CTL_GROUP : Field := ⟨0x100380, 7, 6, 4⟩
def CMP_L5_CTL_FENCE_IDX : Field := ⟨0x100380, 11, 8, 4⟩
def CMP_L5_CTL_FENCE_EN : Field := ⟨0x100380, 12, 12, 4⟩
def CMP_L5_CTL_LUT_EN : Field := ⟨0x100380, 17, 17, 4⟩
/-! CMP_L5_FMT: Table 11.7 -/
def CMP_L5_FMT : Field := ⟨0x100384, 31, 0, 4⟩
def CMP_L5_FMT_FORMAT : Field := ⟨0x100384, 3, 0, 4⟩
/-! CMP_L5_DST_POS: Table 11.7 -/
def CMP_L5_DST_POS : Field := ⟨0x100388, 31, 0, 4⟩
def CMP_L5_DST_POS_X : Field := ⟨0x100388, 12, 0, 4⟩
def CMP_L5_DST_POS_Y : Field := ⟨0x100388, 28, 16, 4⟩
/-! CMP_L5_DST_SIZE: Table 11.7 -/
def CMP_L5_DST_SIZE : Field := ⟨0x10038C, 31, 0, 4⟩
def CMP_L5_DST_SIZE_W : Field := ⟨0x10038C, 12, 0, 4⟩
def CMP_L5_DST_SIZE_H : Field := ⟨0x10038C, 28, 16, 4⟩
/-! CMP_L5_GALPHA: Table 11.7 -/
def CMP_L5_GALPHA : Field := ⟨0x100394, 31, 0, 4⟩
def CMP_L5_GALPHA_A : Field := ⟨0x100394, 15, 0, 4⟩
/-! CMP_L5_BASE: Table 11.7 -/
def CMP_L5_BASE : Field := ⟨0x100398, 31, 0, 4⟩
def CMP_L5_BASE_ADDR : Field := ⟨0x100398, 31, 0, 4⟩
/-! CMP_L5_STRIDE: Table 11.7 -/
def CMP_L5_STRIDE : Field := ⟨0x1003A4, 31, 0, 4⟩
def CMP_L5_STRIDE_P0 : Field := ⟨0x1003A4, 15, 0, 4⟩
/-! CMP_L5_FENCE_TARGET: Table 11.7 -/
def CMP_L5_FENCE_TARGET : Field := ⟨0x1003A8, 31, 0, 4⟩
def CMP_L5_FENCE_TARGET_T : Field := ⟨0x1003A8, 15, 0, 4⟩
/-! CMP_L5_LSTAT: Table 11.7 -/
def CMP_L5_LSTAT : Field := ⟨0x1003AC, 31, 0, 4⟩
def CMP_L5_LSTAT_SUBST : Field := ⟨0x1003AC, 15, 0, 4⟩
def CMP_L5_LSTAT_LA_DISCARD : Field := ⟨0x1003AC, 31, 16, 4⟩
/-! CMP_L6_CTL: Table 11.7 -/
def CMP_L6_CTL : Field := ⟨0x100400, 31, 0, 4⟩
def CMP_L6_CTL_EN : Field := ⟨0x100400, 0, 0, 4⟩
def CMP_L6_CTL_Z : Field := ⟨0x100400, 3, 1, 4⟩
def CMP_L6_CTL_OPAQUE : Field := ⟨0x100400, 4, 4, 4⟩
def CMP_L6_CTL_STATIC : Field := ⟨0x100400, 5, 5, 4⟩
def CMP_L6_CTL_GROUP : Field := ⟨0x100400, 7, 6, 4⟩
def CMP_L6_CTL_FENCE_IDX : Field := ⟨0x100400, 11, 8, 4⟩
def CMP_L6_CTL_FENCE_EN : Field := ⟨0x100400, 12, 12, 4⟩
def CMP_L6_CTL_LUT_EN : Field := ⟨0x100400, 17, 17, 4⟩
/-! CMP_L6_FMT: Table 11.7 -/
def CMP_L6_FMT : Field := ⟨0x100404, 31, 0, 4⟩
def CMP_L6_FMT_FORMAT : Field := ⟨0x100404, 3, 0, 4⟩
/-! CMP_L6_DST_POS: Table 11.7 -/
def CMP_L6_DST_POS : Field := ⟨0x100408, 31, 0, 4⟩
def CMP_L6_DST_POS_X : Field := ⟨0x100408, 12, 0, 4⟩
def CMP_L6_DST_POS_Y : Field := ⟨0x100408, 28, 16, 4⟩
/-! CMP_L6_DST_SIZE: Table 11.7 -/
def CMP_L6_DST_SIZE : Field := ⟨0x10040C, 31, 0, 4⟩
def CMP_L6_DST_SIZE_W : Field := ⟨0x10040C, 12, 0, 4⟩
def CMP_L6_DST_SIZE_H : Field := ⟨0x10040C, 28, 16, 4⟩
/-! CMP_L6_GALPHA: Table 11.7 -/
def CMP_L6_GALPHA : Field := ⟨0x100414, 31, 0, 4⟩
def CMP_L6_GALPHA_A : Field := ⟨0x100414, 15, 0, 4⟩
/-! CMP_L6_BASE: Table 11.7 -/
def CMP_L6_BASE : Field := ⟨0x100418, 31, 0, 4⟩
def CMP_L6_BASE_ADDR : Field := ⟨0x100418, 31, 0, 4⟩
/-! CMP_L6_STRIDE: Table 11.7 -/
def CMP_L6_STRIDE : Field := ⟨0x100424, 31, 0, 4⟩
def CMP_L6_STRIDE_P0 : Field := ⟨0x100424, 15, 0, 4⟩
/-! CMP_L6_FENCE_TARGET: Table 11.7 -/
def CMP_L6_FENCE_TARGET : Field := ⟨0x100428, 31, 0, 4⟩
def CMP_L6_FENCE_TARGET_T : Field := ⟨0x100428, 15, 0, 4⟩
/-! CMP_L6_LSTAT: Table 11.7 -/
def CMP_L6_LSTAT : Field := ⟨0x10042C, 31, 0, 4⟩
def CMP_L6_LSTAT_SUBST : Field := ⟨0x10042C, 15, 0, 4⟩
def CMP_L6_LSTAT_LA_DISCARD : Field := ⟨0x10042C, 31, 16, 4⟩
/-! CMP_L7_CTL: Table 11.7 -/
def CMP_L7_CTL : Field := ⟨0x100480, 31, 0, 4⟩
def CMP_L7_CTL_EN : Field := ⟨0x100480, 0, 0, 4⟩
def CMP_L7_CTL_Z : Field := ⟨0x100480, 3, 1, 4⟩
def CMP_L7_CTL_OPAQUE : Field := ⟨0x100480, 4, 4, 4⟩
def CMP_L7_CTL_GROUP : Field := ⟨0x100480, 7, 6, 4⟩
def CMP_L7_CTL_FENCE_IDX : Field := ⟨0x100480, 11, 8, 4⟩
def CMP_L7_CTL_FENCE_EN : Field := ⟨0x100480, 12, 12, 4⟩
def CMP_L7_CTL_LUT_EN : Field := ⟨0x100480, 17, 17, 4⟩
/-! CMP_L7_FMT: Table 11.7 -/
def CMP_L7_FMT : Field := ⟨0x100484, 31, 0, 4⟩
def CMP_L7_FMT_FORMAT : Field := ⟨0x100484, 3, 0, 4⟩
/-! CMP_L7_DST_POS: Table 11.7 -/
def CMP_L7_DST_POS : Field := ⟨0x100488, 31, 0, 4⟩
def CMP_L7_DST_POS_X : Field := ⟨0x100488, 12, 0, 4⟩
def CMP_L7_DST_POS_Y : Field := ⟨0x100488, 28, 16, 4⟩
/-! CMP_L7_DST_SIZE: Table 11.7 -/
def CMP_L7_DST_SIZE : Field := ⟨0x10048C, 31, 0, 4⟩
def CMP_L7_DST_SIZE_W : Field := ⟨0x10048C, 12, 0, 4⟩
def CMP_L7_DST_SIZE_H : Field := ⟨0x10048C, 28, 16, 4⟩
/-! CMP_L7_GALPHA: Table 11.7 -/
def CMP_L7_GALPHA : Field := ⟨0x100494, 31, 0, 4⟩
def CMP_L7_GALPHA_A : Field := ⟨0x100494, 15, 0, 4⟩
/-! CMP_L7_BASE: Table 11.7 -/
def CMP_L7_BASE : Field := ⟨0x100498, 31, 0, 4⟩
def CMP_L7_BASE_ADDR : Field := ⟨0x100498, 31, 0, 4⟩
/-! CMP_L7_STRIDE: Table 11.7 -/
def CMP_L7_STRIDE : Field := ⟨0x1004A4, 31, 0, 4⟩
def CMP_L7_STRIDE_P0 : Field := ⟨0x1004A4, 15, 0, 4⟩
/-! CMP_L7_FENCE_TARGET: Table 11.7 -/
def CMP_L7_FENCE_TARGET : Field := ⟨0x1004A8, 31, 0, 4⟩
def CMP_L7_FENCE_TARGET_T : Field := ⟨0x1004A8, 15, 0, 4⟩
/-! CMP_L7_LSTAT: Table 11.7 -/
def CMP_L7_LSTAT : Field := ⟨0x1004AC, 31, 0, 4⟩
def CMP_L7_LSTAT_SUBST : Field := ⟨0x1004AC, 15, 0, 4⟩
def CMP_L7_LSTAT_LA_DISCARD : Field := ⟨0x1004AC, 31, 16, 4⟩
/-! CMP_SAFE_STAT: Table 11.8 -/
def CMP_SAFE_STAT : Field := ⟨0x100500, 31, 0, 4⟩
def CMP_SAFE_STAT_LOCKED : Field := ⟨0x100500, 0, 0, 4⟩
def CMP_SAFE_STAT_SHOWN : Field := ⟨0x100500, 1, 1, 4⟩
def CMP_SAFE_STAT_HDR_ERR : Field := ⟨0x100500, 2, 2, 4⟩
def CMP_SAFE_STAT_MISMATCH : Field := ⟨0x100500, 7, 4, 4⟩
def CMP_SAFE_STAT_MISMATCH_CNT : Field := ⟨0x100500, 31, 16, 4⟩
/-! CMP_SAFE_SIG: Table 11.8 -/
def CMP_SAFE_SIG : Field := ⟨0x100504, 31, 0, 4⟩
def CMP_SAFE_SIG_CRC : Field := ⟨0x100504, 31, 0, 4⟩
/-! CMP_FLAT_BASE: Table 11.8 -/
def CMP_FLAT_BASE : Field := ⟨0x100604, 31, 0, 4⟩
def CMP_FLAT_BASE_ADDR : Field := ⟨0x100604, 31, 0, 4⟩
/-! CMP_FLAT_SIZE: Table 11.8 -/
def CMP_FLAT_SIZE : Field := ⟨0x100608, 31, 0, 4⟩
def CMP_FLAT_SIZE_SIZE : Field := ⟨0x100608, 31, 0, 4⟩
/-! CMP_FLAT_STAT: Table 11.8 -/
def CMP_FLAT_STAT : Field := ⟨0x10060C, 31, 0, 4⟩
def CMP_FLAT_STAT_STATE : Field := ⟨0x10060C, 1, 0, 4⟩
def CMP_FLAT_STAT_PARTIAL : Field := ⟨0x10060C, 2, 2, 4⟩
def CMP_FLAT_STAT_ERR : Field := ⟨0x10060C, 3, 3, 4⟩
def CMP_FLAT_STAT_BUILDS : Field := ⟨0x10060C, 31, 16, 4⟩
/-! CMP_WB_CTL: Table 11.8 -/
def CMP_WB_CTL : Field := ⟨0x100700, 31, 0, 4⟩
def CMP_WB_CTL_EN : Field := ⟨0x100700, 0, 0, 4⟩
def CMP_WB_CTL_FMT : Field := ⟨0x100700, 1, 1, 4⟩
def CMP_WB_CTL_NBUF : Field := ⟨0x100700, 3, 2, 4⟩
/-! CMP_WB_STRIDE: Table 11.8 -/
def CMP_WB_STRIDE : Field := ⟨0x100704, 31, 0, 4⟩
def CMP_WB_STRIDE_S : Field := ⟨0x100704, 15, 0, 4⟩
/-! CMP_WB_BUF: Table 11.8 -/
def CMP_WB_BUF : Field := ⟨0x100710, 31, 0, 4⟩
def CMP_WB_BUF_ADDR : Field := ⟨0x100710, 31, 0, 4⟩
/-! CMP_WB_STAT: Table 11.8 -/
def CMP_WB_STAT : Field := ⟨0x100720, 31, 0, 4⟩
def CMP_WB_STAT_LATEST : Field := ⟨0x100720, 1, 0, 4⟩
def CMP_WB_STAT_VALID : Field := ⟨0x100720, 2, 2, 4⟩
/-! CMP_WB_CNT: Table 11.8 -/
def CMP_WB_CNT : Field := ⟨0x100724, 31, 0, 4⟩
def CMP_WB_CNT_WB_DROP : Field := ⟨0x100724, 15, 0, 4⟩
def CMP_WB_CNT_WB_SKIP : Field := ⟨0x100724, 31, 16, 4⟩
/-! CMP_DEGAMMA0: Table 11.9 -/
def CMP_DEGAMMA0 : Field := ⟨0x140000, 31, 0, 4⟩
def CMP_DEGAMMA0_E : Field := ⟨0x140000, 15, 0, 4⟩
/-! CMP_DEGAMMA1: Table 11.9 -/
def CMP_DEGAMMA1 : Field := ⟨0x141000, 31, 0, 4⟩
def CMP_DEGAMMA1_E : Field := ⟨0x141000, 15, 0, 4⟩
/-! CMP_DEGAMMA2: Table 11.9 -/
def CMP_DEGAMMA2 : Field := ⟨0x142000, 31, 0, 4⟩
def CMP_DEGAMMA2_E : Field := ⟨0x142000, 15, 0, 4⟩
/-! CMP_DEGAMMA3: Table 11.9 -/
def CMP_DEGAMMA3 : Field := ⟨0x143000, 31, 0, 4⟩
def CMP_DEGAMMA3_E : Field := ⟨0x143000, 15, 0, 4⟩
/-! CMP_DEGAMMA4: Table 11.9 -/
def CMP_DEGAMMA4 : Field := ⟨0x144000, 31, 0, 4⟩
def CMP_DEGAMMA4_E : Field := ⟨0x144000, 15, 0, 4⟩
/-! CMP_DEGAMMA5: Table 11.9 -/
def CMP_DEGAMMA5 : Field := ⟨0x145000, 31, 0, 4⟩
def CMP_DEGAMMA5_E : Field := ⟨0x145000, 15, 0, 4⟩
/-! CMP_DEGAMMA6: Table 11.9 -/
def CMP_DEGAMMA6 : Field := ⟨0x146000, 31, 0, 4⟩
def CMP_DEGAMMA6_E : Field := ⟨0x146000, 15, 0, 4⟩
/-! CMP_DEGAMMA7: Table 11.9 -/
def CMP_DEGAMMA7 : Field := ⟨0x147000, 31, 0, 4⟩
def CMP_DEGAMMA7_E : Field := ⟨0x147000, 15, 0, 4⟩
/-! CMP_GAMMA_RED: Table 11.9 -/
def CMP_GAMMA_RED : Field := ⟨0x148000, 31, 0, 4⟩
def CMP_GAMMA_RED_G : Field := ⟨0x148000, 11, 0, 4⟩
/-! CMP_GAMMA_GRN: Table 11.9 -/
def CMP_GAMMA_GRN : Field := ⟨0x14C000, 31, 0, 4⟩
def CMP_GAMMA_GRN_G : Field := ⟨0x14C000, 11, 0, 4⟩
/-! CMP_GAMMA_BLU: Table 11.9 -/
def CMP_GAMMA_BLU : Field := ⟨0x150000, 31, 0, 4⟩
def CMP_GAMMA_BLU_G : Field := ⟨0x150000, 11, 0, 4⟩
/-! CMP_HTAP: Table 11.9 -/
def CMP_HTAP : Field := ⟨0x180000, 31, 0, 4⟩
def CMP_HTAP_T : Field := ⟨0x180000, 10, 0, 4⟩
/-! CMP_VTAP: Table 11.9 -/
def CMP_VTAP : Field := ⟨0x180800, 31, 0, 4⟩
def CMP_VTAP_T : Field := ⟨0x180800, 10, 0, 4⟩
/-! MOV_CTL: Table 11.10 -/
def MOV_CTL : Field := ⟨0x110000, 31, 0, 4⟩
def MOV_CTL_GO : Field := ⟨0x110000, 0, 0, 4⟩
def MOV_CTL_OP : Field := ⟨0x110000, 2, 1, 4⟩
def MOV_CTL_DONE : Field := ⟨0x110000, 3, 3, 4⟩
def MOV_CTL_ERR : Field := ⟨0x110000, 7, 4, 4⟩
def MOV_CTL_FLAT_ACTIVE : Field := ⟨0x110000, 8, 8, 4⟩
/-! MOV_SRC: Table 11.10 -/
def MOV_SRC : Field := ⟨0x110004, 31, 0, 4⟩
def MOV_SRC_ADDR : Field := ⟨0x110004, 31, 0, 4⟩
/-! MOV_SRC_STRIDE: Table 11.10 -/
def MOV_SRC_STRIDE : Field := ⟨0x110008, 31, 0, 4⟩
def MOV_SRC_STRIDE_S : Field := ⟨0x110008, 15, 0, 4⟩
/-! MOV_DST: Table 11.10 -/
def MOV_DST : Field := ⟨0x11000C, 31, 0, 4⟩
def MOV_DST_ADDR : Field := ⟨0x11000C, 31, 0, 4⟩
/-! MOV_DST_STRIDE: Table 11.10 -/
def MOV_DST_STRIDE : Field := ⟨0x110010, 31, 0, 4⟩
def MOV_DST_STRIDE_S : Field := ⟨0x110010, 15, 0, 4⟩
/-! MOV_SIZE: Table 11.10 -/
def MOV_SIZE : Field := ⟨0x110014, 31, 0, 4⟩
def MOV_SIZE_W : Field := ⟨0x110014, 12, 0, 4⟩
def MOV_SIZE_H : Field := ⟨0x110014, 28, 16, 4⟩
/-! MOV_FMT: Table 11.10 -/
def MOV_FMT : Field := ⟨0x110018, 31, 0, 4⟩
def MOV_FMT_SRC_FMT : Field := ⟨0x110018, 1, 0, 4⟩
def MOV_FMT_DST_FMT : Field := ⟨0x110018, 5, 4, 4⟩
/-! MOV_FILL: Table 11.10 -/
def MOV_FILL : Field := ⟨0x11001C, 31, 0, 4⟩
def MOV_FILL_V : Field := ⟨0x11001C, 31, 0, 4⟩
/-! MOV_STAT: Table 11.10 -/
def MOV_STAT : Field := ⟨0x110020, 31, 0, 4⟩
def MOV_STAT_ROWS_DESC : Field := ⟨0x110020, 0, 0, 4⟩
def MOV_STAT_COLS_DESC : Field := ⟨0x110020, 1, 1, 4⟩
def MOV_STAT_LINE : Field := ⟨0x110020, 28, 16, 4⟩
/-! SOA_CTL: Table 12.3 -/
def SOA_CTL : Field := ⟨0x200000, 31, 0, 4⟩
def SOA_CTL_EN : Field := ⟨0x200000, 0, 0, 4⟩
def SOA_CTL_SOURCE : Field := ⟨0x200000, 2, 1, 4⟩
def SOA_CTL_HS_POL : Field := ⟨0x200000, 4, 4, 4⟩
def SOA_CTL_VS_POL : Field := ⟨0x200000, 5, 5, 4⟩
/-! SOA_COMMIT: Table 12.3 -/
def SOA_COMMIT : Field := ⟨0x200004, 31, 0, 4⟩
def SOA_COMMIT_GO : Field := ⟨0x200004, 0, 0, 4⟩
def SOA_COMMIT_PENDING : Field := ⟨0x200004, 1, 1, 4⟩
def SOA_COMMIT_LATE : Field := ⟨0x200004, 8, 8, 4⟩
/-! SOA_COMMIT_CFG: Table 12.3 -/
def SOA_COMMIT_CFG : Field := ⟨0x200008, 31, 0, 4⟩
def SOA_COMMIT_CFG_CLOSE_LINES : Field := ⟨0x200008, 7, 0, 4⟩
/-! SOA_HTIM0: Table 12.3 -/
def SOA_HTIM0 : Field := ⟨0x200010, 31, 0, 4⟩
def SOA_HTIM0_HACT : Field := ⟨0x200010, 12, 0, 4⟩
def SOA_HTIM0_HFP : Field := ⟨0x200010, 28, 16, 4⟩
/-! SOA_HTIM1: Table 12.3 -/
def SOA_HTIM1 : Field := ⟨0x200014, 31, 0, 4⟩
def SOA_HTIM1_HSYNC : Field := ⟨0x200014, 12, 0, 4⟩
def SOA_HTIM1_HBP : Field := ⟨0x200014, 28, 16, 4⟩
/-! SOA_VTIM0: Table 12.3 -/
def SOA_VTIM0 : Field := ⟨0x200018, 31, 0, 4⟩
def SOA_VTIM0_VACT : Field := ⟨0x200018, 12, 0, 4⟩
def SOA_VTIM0_VFP : Field := ⟨0x200018, 28, 16, 4⟩
/-! SOA_VTIM1: Table 12.3 -/
def SOA_VTIM1 : Field := ⟨0x20001C, 31, 0, 4⟩
def SOA_VTIM1_VSYNC : Field := ⟨0x20001C, 12, 0, 4⟩
def SOA_VTIM1_VBP : Field := ⟨0x20001C, 28, 16, 4⟩
/-! SOA_FB_RG: Table 12.3 -/
def SOA_FB_RG : Field := ⟨0x200020, 31, 0, 4⟩
def SOA_FB_RG_RED : Field := ⟨0x200020, 11, 0, 4⟩
def SOA_FB_RG_GRN : Field := ⟨0x200020, 27, 16, 4⟩
/-! SOA_FB_B: Table 12.3 -/
def SOA_FB_B : Field := ⟨0x200024, 31, 0, 4⟩
def SOA_FB_B_BLU : Field := ⟨0x200024, 11, 0, 4⟩
/-! SOA_FETCH_CFG: Table 12.3 -/
def SOA_FETCH_CFG : Field := ⟨0x200030, 31, 0, 4⟩
def SOA_FETCH_CFG_GUARD : Field := ⟨0x200030, 15, 0, 4⟩
def SOA_FETCH_CFG_PIPE : Field := ⟨0x200030, 31, 16, 4⟩
/-! SOA_URG_CFG: Table 12.3 -/
def SOA_URG_CFG : Field := ⟨0x200034, 31, 0, 4⟩
def SOA_URG_CFG_URG_US : Field := ⟨0x200034, 9, 0, 4⟩
/-! SOA_DIRECT_BASE: Table 12.3 -/
def SOA_DIRECT_BASE : Field := ⟨0x200038, 31, 0, 4⟩
def SOA_DIRECT_BASE_ADDR : Field := ⟨0x200038, 31, 0, 4⟩
/-! SOA_DIRECT_CFG: Table 12.3 -/
def SOA_DIRECT_CFG : Field := ⟨0x20003C, 31, 0, 4⟩
def SOA_DIRECT_CFG_STRIDE : Field := ⟨0x20003C, 15, 0, 4⟩
def SOA_DIRECT_CFG_FMT : Field := ⟨0x20003C, 16, 16, 4⟩
/-! SOA_LVDS_CFG: Table 12.3 -/
def SOA_LVDS_CFG : Field := ⟨0x200040, 31, 0, 4⟩
def SOA_LVDS_CFG_LINKS : Field := ⟨0x200040, 1, 0, 4⟩
def SOA_LVDS_CFG_MAP : Field := ⟨0x200040, 3, 2, 4⟩
/-! SOA_STAT: Table 12.3 -/
def SOA_STAT : Field := ⟨0x200050, 31, 0, 4⟩
def SOA_STAT_STATE : Field := ⟨0x200050, 1, 0, 4⟩
def SOA_STAT_LOCKED : Field := ⟨0x200050, 2, 2, 4⟩
def SOA_STAT_URGENT : Field := ⟨0x200050, 3, 3, 4⟩
def SOA_STAT_ERR : Field := ⟨0x200050, 5, 4, 4⟩
def SOA_STAT_IN_VBLANK : Field := ⟨0x200050, 6, 6, 4⟩
def SOA_STAT_LINE : Field := ⟨0x200050, 28, 16, 4⟩
/-! SOA_FRAME: Table 12.3 -/
def SOA_FRAME : Field := ⟨0x200054, 31, 0, 4⟩
def SOA_FRAME_FRAME : Field := ⟨0x200054, 31, 0, 4⟩
/-! SOA_TOL: Table 12.3 -/
def SOA_TOL : Field := ⟨0x200058, 31, 0, 4⟩
def SOA_TOL_TOL : Field := ⟨0x200058, 15, 0, 4⟩
/-! SOA_BASIN: Table 12.3 -/
def SOA_BASIN : Field := ⟨0x20005C, 31, 0, 4⟩
def SOA_BASIN_BASIN_LINES : Field := ⟨0x20005C, 11, 0, 4⟩
/-! SOA_SNAP_CTL: Table 12.3 -/
def SOA_SNAP_CTL : Field := ⟨0x200060, 31, 0, 4⟩
def SOA_SNAP_CTL_SNAP : Field := ⟨0x200060, 0, 0, 4⟩
/-! SOA_SNAP_FRAME: Table 12.3 -/
def SOA_SNAP_FRAME : Field := ⟨0x200064, 31, 0, 4⟩
def SOA_SNAP_FRAME_FRAME : Field := ⟨0x200064, 31, 0, 4⟩
/-! SOA_SNAP_TS_LO: Table 12.3 -/
def SOA_SNAP_TS_LO : Field := ⟨0x200068, 31, 0, 4⟩
def SOA_SNAP_TS_LO_LO : Field := ⟨0x200068, 31, 0, 4⟩
/-! SOA_SNAP_TS_HI: Table 12.3 -/
def SOA_SNAP_TS_HI : Field := ⟨0x20006C, 31, 0, 4⟩
def SOA_SNAP_TS_HI_HI : Field := ⟨0x20006C, 15, 0, 4⟩
/-! SOA_GRP_TS_LO: Table 12.3 -/
def SOA_GRP_TS_LO : Field := ⟨0x200070, 31, 0, 8⟩
def SOA_GRP_TS_LO_LO : Field := ⟨0x200070, 31, 0, 8⟩
/-! SOA_GRP_TS_HI: Table 12.3 -/
def SOA_GRP_TS_HI : Field := ⟨0x200074, 31, 0, 8⟩
def SOA_GRP_TS_HI_HI : Field := ⟨0x200074, 15, 0, 8⟩
/-! SOA_CNT0: Table 12.3 -/
def SOA_CNT0 : Field := ⟨0x200090, 31, 0, 4⟩
def SOA_CNT0_SUBSTITUTE : Field := ⟨0x200090, 15, 0, 4⟩
def SOA_CNT0_LATE : Field := ⟨0x200090, 31, 16, 4⟩
/-! SOA_CNT1: Table 12.3 -/
def SOA_CNT1 : Field := ⟨0x200094, 31, 0, 4⟩
def SOA_CNT1_CRC_MISMATCH : Field := ⟨0x200094, 15, 0, 4⟩
def SOA_CNT1_CRC_SKIP : Field := ⟨0x200094, 31, 16, 4⟩
/-! SOA_CNT2: Table 12.3 -/
def SOA_CNT2 : Field := ⟨0x200098, 31, 0, 4⟩
def SOA_CNT2_MEDIA : Field := ⟨0x200098, 15, 0, 4⟩
def SOA_CNT2_URG_ENTRIES : Field := ⟨0x200098, 31, 16, 4⟩
/-! SOA_SUB_FIRST: Table 12.3 -/
def SOA_SUB_FIRST : Field := ⟨0x20009C, 31, 0, 4⟩
def SOA_SUB_FIRST_LINE : Field := ⟨0x20009C, 12, 0, 4⟩
def SOA_SUB_FIRST_VALID : Field := ⟨0x20009C, 15, 15, 4⟩
def SOA_SUB_FIRST_FRAME : Field := ⟨0x20009C, 31, 16, 4⟩
/-! SOA_CNT_CLR: Table 12.3 -/
def SOA_CNT_CLR : Field := ⟨0x2000E0, 31, 0, 4⟩
def SOA_CNT_CLR_CLR : Field := ⟨0x2000E0, 0, 0, 4⟩
/-! SOA_CRC_POS: Table 12.3 -/
def SOA_CRC_POS : Field := ⟨0x200100, 31, 0, 16⟩
def SOA_CRC_POS_X0 : Field := ⟨0x200100, 12, 0, 16⟩
def SOA_CRC_POS_Y0 : Field := ⟨0x200100, 28, 16, 16⟩
/-! SOA_CRC_SIZE: Table 12.3 -/
def SOA_CRC_SIZE : Field := ⟨0x200104, 31, 0, 16⟩
def SOA_CRC_SIZE_W : Field := ⟨0x200104, 12, 0, 16⟩
def SOA_CRC_SIZE_H : Field := ⟨0x200104, 28, 16, 16⟩
/-! SOA_CRC_EXPECT: Table 12.3 -/
def SOA_CRC_EXPECT : Field := ⟨0x200108, 31, 0, 16⟩
def SOA_CRC_EXPECT_CRC : Field := ⟨0x200108, 31, 0, 16⟩
/-! SOA_CRC_RESULT: Table 12.3 -/
def SOA_CRC_RESULT : Field := ⟨0x20010C, 31, 0, 16⟩
def SOA_CRC_RESULT_CRC : Field := ⟨0x20010C, 31, 0, 16⟩
/-! SOA_CRC_CTL: Table 12.3 -/
def SOA_CRC_CTL : Field := ⟨0x200180, 31, 0, 4⟩
def SOA_CRC_CTL_EN : Field := ⟨0x200180, 7, 0, 4⟩
def SOA_CRC_CTL_LKK : Field := ⟨0x200180, 15, 8, 4⟩
/-! SOA_CRC_STAT: Table 12.3 -/
def SOA_CRC_STAT : Field := ⟨0x200184, 31, 0, 4⟩
def SOA_CRC_STAT_MISMATCH : Field := ⟨0x200184, 7, 0, 4⟩
def SOA_CRC_STAT_SKIPPED : Field := ⟨0x200184, 15, 8, 4⟩
def SOA_CRC_STAT_COMPARED : Field := ⟨0x200184, 23, 16, 4⟩
/-! SOA_MOOR_STAT: Table 12.3 -/
def SOA_MOOR_STAT : Field := ⟨0x200200, 31, 0, 4⟩
def SOA_MOOR_STAT_BYTES : Field := ⟨0x200200, 17, 0, 4⟩
def SOA_MOOR_STAT_CAUSE : Field := ⟨0x200200, 23, 20, 4⟩
def SOA_MOOR_STAT_STORE_VALID : Field := ⟨0x200200, 24, 24, 4⟩
/-! SOB_CTL: Table 12.3 -/
def SOB_CTL : Field := ⟨0x210000, 31, 0, 4⟩
def SOB_CTL_EN : Field := ⟨0x210000, 0, 0, 4⟩
def SOB_CTL_SOURCE : Field := ⟨0x210000, 2, 1, 4⟩
def SOB_CTL_LOCK : Field := ⟨0x210000, 3, 3, 4⟩
def SOB_CTL_HS_POL : Field := ⟨0x210000, 4, 4, 4⟩
def SOB_CTL_VS_POL : Field := ⟨0x210000, 5, 5, 4⟩
/-! SOB_COMMIT: Table 12.3 -/
def SOB_COMMIT : Field := ⟨0x210004, 31, 0, 4⟩
def SOB_COMMIT_GO : Field := ⟨0x210004, 0, 0, 4⟩
def SOB_COMMIT_PENDING : Field := ⟨0x210004, 1, 1, 4⟩
def SOB_COMMIT_LATE : Field := ⟨0x210004, 8, 8, 4⟩
/-! SOB_COMMIT_CFG: Table 12.3 -/
def SOB_COMMIT_CFG : Field := ⟨0x210008, 31, 0, 4⟩
def SOB_COMMIT_CFG_CLOSE_LINES : Field := ⟨0x210008, 7, 0, 4⟩
/-! SOB_HTIM0: Table 12.3 -/
def SOB_HTIM0 : Field := ⟨0x210010, 31, 0, 4⟩
def SOB_HTIM0_HACT : Field := ⟨0x210010, 12, 0, 4⟩
def SOB_HTIM0_HFP : Field := ⟨0x210010, 28, 16, 4⟩
/-! SOB_HTIM1: Table 12.3 -/
def SOB_HTIM1 : Field := ⟨0x210014, 31, 0, 4⟩
def SOB_HTIM1_HSYNC : Field := ⟨0x210014, 12, 0, 4⟩
def SOB_HTIM1_HBP : Field := ⟨0x210014, 28, 16, 4⟩
/-! SOB_VTIM0: Table 12.3 -/
def SOB_VTIM0 : Field := ⟨0x210018, 31, 0, 4⟩
def SOB_VTIM0_VACT : Field := ⟨0x210018, 12, 0, 4⟩
def SOB_VTIM0_VFP : Field := ⟨0x210018, 28, 16, 4⟩
/-! SOB_VTIM1: Table 12.3 -/
def SOB_VTIM1 : Field := ⟨0x21001C, 31, 0, 4⟩
def SOB_VTIM1_VSYNC : Field := ⟨0x21001C, 12, 0, 4⟩
def SOB_VTIM1_VBP : Field := ⟨0x21001C, 28, 16, 4⟩
/-! SOB_FB_RG: Table 12.3 -/
def SOB_FB_RG : Field := ⟨0x210020, 31, 0, 4⟩
def SOB_FB_RG_RED : Field := ⟨0x210020, 11, 0, 4⟩
def SOB_FB_RG_GRN : Field := ⟨0x210020, 27, 16, 4⟩
/-! SOB_FB_B: Table 12.3 -/
def SOB_FB_B : Field := ⟨0x210024, 31, 0, 4⟩
def SOB_FB_B_BLU : Field := ⟨0x210024, 11, 0, 4⟩
/-! SOB_FETCH_CFG: Table 12.3 -/
def SOB_FETCH_CFG : Field := ⟨0x210030, 31, 0, 4⟩
def SOB_FETCH_CFG_GUARD : Field := ⟨0x210030, 15, 0, 4⟩
def SOB_FETCH_CFG_PIPE : Field := ⟨0x210030, 31, 16, 4⟩
/-! SOB_URG_CFG: Table 12.3 -/
def SOB_URG_CFG : Field := ⟨0x210034, 31, 0, 4⟩
def SOB_URG_CFG_URG_US : Field := ⟨0x210034, 9, 0, 4⟩
/-! SOB_DIRECT_BASE: Table 12.3 -/
def SOB_DIRECT_BASE : Field := ⟨0x210038, 31, 0, 4⟩
def SOB_DIRECT_BASE_ADDR : Field := ⟨0x210038, 31, 0, 4⟩
/-! SOB_DIRECT_CFG: Table 12.3 -/
def SOB_DIRECT_CFG : Field := ⟨0x21003C, 31, 0, 4⟩
def SOB_DIRECT_CFG_STRIDE : Field := ⟨0x21003C, 15, 0, 4⟩
def SOB_DIRECT_CFG_FMT : Field := ⟨0x21003C, 16, 16, 4⟩
/-! SOB_LVDS_CFG: Table 12.3 -/
def SOB_LVDS_CFG : Field := ⟨0x210040, 31, 0, 4⟩
def SOB_LVDS_CFG_LINKS : Field := ⟨0x210040, 1, 0, 4⟩
def SOB_LVDS_CFG_MAP : Field := ⟨0x210040, 3, 2, 4⟩
/-! SOB_STAT: Table 12.3 -/
def SOB_STAT : Field := ⟨0x210050, 31, 0, 4⟩
def SOB_STAT_STATE : Field := ⟨0x210050, 1, 0, 4⟩
def SOB_STAT_LOCKED : Field := ⟨0x210050, 2, 2, 4⟩
def SOB_STAT_URGENT : Field := ⟨0x210050, 3, 3, 4⟩
def SOB_STAT_ERR : Field := ⟨0x210050, 5, 4, 4⟩
def SOB_STAT_IN_VBLANK : Field := ⟨0x210050, 6, 6, 4⟩
def SOB_STAT_LINE : Field := ⟨0x210050, 28, 16, 4⟩
/-! SOB_FRAME: Table 12.3 -/
def SOB_FRAME : Field := ⟨0x210054, 31, 0, 4⟩
def SOB_FRAME_FRAME : Field := ⟨0x210054, 31, 0, 4⟩
/-! SOB_TOL: Table 12.3 -/
def SOB_TOL : Field := ⟨0x210058, 31, 0, 4⟩
def SOB_TOL_TOL : Field := ⟨0x210058, 15, 0, 4⟩
/-! SOB_BASIN: Table 12.3 -/
def SOB_BASIN : Field := ⟨0x21005C, 31, 0, 4⟩
def SOB_BASIN_BASIN_LINES : Field := ⟨0x21005C, 11, 0, 4⟩
/-! SOB_SNAP_CTL: Table 12.3 -/
def SOB_SNAP_CTL : Field := ⟨0x210060, 31, 0, 4⟩
def SOB_SNAP_CTL_SNAP : Field := ⟨0x210060, 0, 0, 4⟩
/-! SOB_SNAP_FRAME: Table 12.3 -/
def SOB_SNAP_FRAME : Field := ⟨0x210064, 31, 0, 4⟩
def SOB_SNAP_FRAME_FRAME : Field := ⟨0x210064, 31, 0, 4⟩
/-! SOB_SNAP_TS_LO: Table 12.3 -/
def SOB_SNAP_TS_LO : Field := ⟨0x210068, 31, 0, 4⟩
def SOB_SNAP_TS_LO_LO : Field := ⟨0x210068, 31, 0, 4⟩
/-! SOB_SNAP_TS_HI: Table 12.3 -/
def SOB_SNAP_TS_HI : Field := ⟨0x21006C, 31, 0, 4⟩
def SOB_SNAP_TS_HI_HI : Field := ⟨0x21006C, 15, 0, 4⟩
/-! SOB_CNT0: Table 12.3 -/
def SOB_CNT0 : Field := ⟨0x210090, 31, 0, 4⟩
def SOB_CNT0_SUBSTITUTE : Field := ⟨0x210090, 15, 0, 4⟩
def SOB_CNT0_LATE : Field := ⟨0x210090, 31, 16, 4⟩
/-! SOB_CNT1: Table 12.3 -/
def SOB_CNT1 : Field := ⟨0x210094, 31, 0, 4⟩
def SOB_CNT1_CRC_MISMATCH : Field := ⟨0x210094, 15, 0, 4⟩
def SOB_CNT1_CRC_SKIP : Field := ⟨0x210094, 31, 16, 4⟩
/-! SOB_CNT2: Table 12.3 -/
def SOB_CNT2 : Field := ⟨0x210098, 31, 0, 4⟩
def SOB_CNT2_MEDIA : Field := ⟨0x210098, 15, 0, 4⟩
def SOB_CNT2_URG_ENTRIES : Field := ⟨0x210098, 31, 16, 4⟩
/-! SOB_SUB_FIRST: Table 12.3 -/
def SOB_SUB_FIRST : Field := ⟨0x21009C, 31, 0, 4⟩
def SOB_SUB_FIRST_LINE : Field := ⟨0x21009C, 12, 0, 4⟩
def SOB_SUB_FIRST_VALID : Field := ⟨0x21009C, 15, 15, 4⟩
def SOB_SUB_FIRST_FRAME : Field := ⟨0x21009C, 31, 16, 4⟩
/-! SOB_CNT_CLR: Table 12.3 -/
def SOB_CNT_CLR : Field := ⟨0x2100E0, 31, 0, 4⟩
def SOB_CNT_CLR_CLR : Field := ⟨0x2100E0, 0, 0, 4⟩
/-! SOB_CRC_POS: Table 12.3 -/
def SOB_CRC_POS : Field := ⟨0x210100, 31, 0, 16⟩
def SOB_CRC_POS_X0 : Field := ⟨0x210100, 12, 0, 16⟩
def SOB_CRC_POS_Y0 : Field := ⟨0x210100, 28, 16, 16⟩
/-! SOB_CRC_SIZE: Table 12.3 -/
def SOB_CRC_SIZE : Field := ⟨0x210104, 31, 0, 16⟩
def SOB_CRC_SIZE_W : Field := ⟨0x210104, 12, 0, 16⟩
def SOB_CRC_SIZE_H : Field := ⟨0x210104, 28, 16, 16⟩
/-! SOB_CRC_EXPECT: Table 12.3 -/
def SOB_CRC_EXPECT : Field := ⟨0x210108, 31, 0, 16⟩
def SOB_CRC_EXPECT_CRC : Field := ⟨0x210108, 31, 0, 16⟩
/-! SOB_CRC_RESULT: Table 12.3 -/
def SOB_CRC_RESULT : Field := ⟨0x21010C, 31, 0, 16⟩
def SOB_CRC_RESULT_CRC : Field := ⟨0x21010C, 31, 0, 16⟩
/-! SOB_CRC_CTL: Table 12.3 -/
def SOB_CRC_CTL : Field := ⟨0x210180, 31, 0, 4⟩
def SOB_CRC_CTL_EN : Field := ⟨0x210180, 7, 0, 4⟩
def SOB_CRC_CTL_LKK : Field := ⟨0x210180, 15, 8, 4⟩
/-! SOB_CRC_STAT: Table 12.3 -/
def SOB_CRC_STAT : Field := ⟨0x210184, 31, 0, 4⟩
def SOB_CRC_STAT_MISMATCH : Field := ⟨0x210184, 7, 0, 4⟩
def SOB_CRC_STAT_SKIPPED : Field := ⟨0x210184, 15, 8, 4⟩
def SOB_CRC_STAT_COMPARED : Field := ⟨0x210184, 23, 16, 4⟩
/-! SOB_MOOR_STAT: Table 12.3 -/
def SOB_MOOR_STAT : Field := ⟨0x210200, 31, 0, 4⟩
def SOB_MOOR_STAT_BYTES : Field := ⟨0x210200, 17, 0, 4⟩
def SOB_MOOR_STAT_CAUSE : Field := ⟨0x210200, 23, 20, 4⟩
def SOB_MOOR_STAT_STORE_VALID : Field := ⟨0x210200, 24, 24, 4⟩
/-! BPS_CTL: Table 13.4 -/
def BPS_CTL : Field := ⟨0x240000, 31, 0, 4⟩
def BPS_CTL_EN : Field := ⟨0x240000, 0, 0, 4⟩
def BPS_CTL_SKIP_EMPTY : Field := ⟨0x240000, 1, 1, 4⟩
def BPS_CTL_SHIFT_EN : Field := ⟨0x240000, 2, 2, 4⟩
def BPS_CTL_HMAX : Field := ⟨0x240000, 4, 3, 4⟩
def BPS_CTL_SHIFT_POS : Field := ⟨0x240000, 6, 5, 4⟩
def BPS_CTL_SHARE_SRC : Field := ⟨0x240000, 7, 7, 4⟩
def BPS_CTL_CONCEAL_EN : Field := ⟨0x240000, 8, 8, 4⟩
/-! BPS_GEOM: Table 13.4 -/
def BPS_GEOM : Field := ⟨0x240004, 31, 0, 4⟩
def BPS_GEOM_MW : Field := ⟨0x240004, 10, 0, 4⟩
def BPS_GEOM_MH : Field := ⟨0x240004, 26, 16, 4⟩
/-! BPS_BLOCK: Table 13.4 -/
def BPS_BLOCK : Field := ⟨0x240008, 31, 0, 4⟩
def BPS_BLOCK_BLOCK_ROWS : Field := ⟨0x240008, 6, 0, 4⟩
def BPS_BLOCK_RSKEW : Field := ⟨0x240008, 11, 8, 4⟩
def BPS_BLOCK_RST_W : Field := ⟨0x240008, 23, 16, 4⟩
/-! BPS_TIM0: Table 13.4 -/
def BPS_TIM0 : Field := ⟨0x24000C, 31, 0, 4⟩
def BPS_TIM0_BLANK : Field := ⟨0x24000C, 15, 0, 4⟩
def BPS_TIM0_FRAME_GUARD : Field := ⟨0x24000C, 31, 16, 4⟩
/-! BPS_TIM1: Table 13.4 -/
def BPS_TIM1 : Field := ⟨0x240010, 31, 0, 4⟩
def BPS_TIM1_MIN_BASE : Field := ⟨0x240010, 23, 0, 4⟩
/-! BPS_TIM2: Table 13.4 -/
def BPS_TIM2 : Field := ⟨0x240014, 31, 0, 4⟩
def BPS_TIM2_START_OFS : Field := ⟨0x240014, 23, 0, 4⟩
/-! BPS_ACT: Table 13.4 -/
def BPS_ACT : Field := ⟨0x240018, 31, 0, 4⟩
def BPS_ACT_ACT_LEAD : Field := ⟨0x240018, 15, 0, 4⟩
def BPS_ACT_ACT_DARK : Field := ⟨0x240018, 31, 16, 4⟩
/-! BPS_BUF: Table 13.4 -/
def BPS_BUF : Field := ⟨0x240020, 31, 0, 4⟩
def BPS_BUF_ADDR : Field := ⟨0x240020, 31, 0, 4⟩
/-! BPS_FIELD_CFG: Table 13.4 -/
def BPS_FIELD_CFG : Field := ⟨0x240040, 31, 0, 8⟩
def BPS_FIELD_CFG_EN : Field := ⟨0x240040, 0, 0, 8⟩
def BPS_FIELD_CFG_COMP : Field := ⟨0x240040, 2, 1, 8⟩
def BPS_FIELD_CFG_CH_MASK : Field := ⟨0x240040, 9, 4, 8⟩
def BPS_FIELD_CFG_FIRST : Field := ⟨0x240040, 21, 16, 8⟩
def BPS_FIELD_CFG_COUNT : Field := ⟨0x240040, 28, 24, 8⟩
/-! BPS_FIELD_SHARE: Table 13.4 -/
def BPS_FIELD_SHARE : Field := ⟨0x240044, 31, 0, 8⟩
def BPS_FIELD_SHARE_SHARE : Field := ⟨0x240044, 15, 0, 8⟩
/-! BPS_PLANE: Table 13.4 -/
def BPS_PLANE : Field := ⟨0x240100, 31, 0, 4⟩
def BPS_PLANE_BIT : Field := ⟨0x240100, 3, 0, 4⟩
def BPS_PLANE_WEIGHT : Field := ⟨0x240100, 31, 16, 4⟩
/-! BPS_CHDLY: Table 13.4 -/
def BPS_CHDLY : Field := ⟨0x240200, 31, 0, 4⟩
def BPS_CHDLY_DLY_ON : Field := ⟨0x240200, 7, 0, 4⟩
def BPS_CHDLY_DLY_OFF : Field := ⟨0x240200, 15, 8, 4⟩
/-! BPS_STAT: Table 13.4 -/
def BPS_STAT : Field := ⟨0x240300, 31, 0, 4⟩
def BPS_STAT_STATE : Field := ⟨0x240300, 1, 0, 4⟩
def BPS_STAT_ERR : Field := ⟨0x240300, 3, 2, 4⟩
def BPS_STAT_SUB : Field := ⟨0x240300, 5, 4, 4⟩
def BPS_STAT_BUF : Field := ⟨0x240300, 6, 6, 4⟩
/-! BPS_CNT0: Table 13.4 -/
def BPS_CNT0 : Field := ⟨0x240304, 31, 0, 4⟩
def BPS_CNT0_PLANE_LATE : Field := ⟨0x240304, 15, 0, 4⟩
def BPS_CNT0_FRAME_CUT : Field := ⟨0x240304, 31, 16, 4⟩
/-! BPS_CNT1: Table 13.4 -/
def BPS_CNT1 : Field := ⟨0x240308, 31, 0, 4⟩
def BPS_CNT1_SHORT_PLANE : Field := ⟨0x240308, 15, 0, 4⟩
def BPS_CNT1_FIELD_RANGE : Field := ⟨0x240308, 31, 16, 4⟩
/-! BPS_CNT2: Table 13.4 -/
def BPS_CNT2 : Field := ⟨0x24030C, 31, 0, 4⟩
def BPS_CNT2_MEDIA : Field := ⟨0x24030C, 15, 0, 4⟩
def BPS_CNT2_MAP_FULL : Field := ⟨0x24030C, 31, 16, 4⟩
/-! BPS_LATE_FIRST: Table 13.4 -/
def BPS_LATE_FIRST : Field := ⟨0x240310, 31, 0, 4⟩
def BPS_LATE_FIRST_BLOCK : Field := ⟨0x240310, 3, 0, 4⟩
def BPS_LATE_FIRST_ENTRY : Field := ⟨0x240310, 9, 4, 4⟩
def BPS_LATE_FIRST_SUB : Field := ⟨0x240310, 11, 10, 4⟩
def BPS_LATE_FIRST_VALID : Field := ⟨0x240310, 15, 15, 4⟩
def BPS_LATE_FIRST_FRAME : Field := ⟨0x240310, 31, 16, 4⟩
/-! BPS_ALLOC_IDX: Table 13.4 -/
def BPS_ALLOC_IDX : Field := ⟨0x240320, 31, 0, 4⟩
def BPS_ALLOC_IDX_FIELD : Field := ⟨0x240320, 2, 0, 4⟩
def BPS_ALLOC_IDX_ENTRY : Field := ⟨0x240320, 8, 3, 4⟩
def BPS_ALLOC_IDX_SUB : Field := ⟨0x240320, 10, 9, 4⟩
/-! BPS_ALLOC_D: Table 13.4 -/
def BPS_ALLOC_D : Field := ⟨0x240324, 31, 0, 4⟩
def BPS_ALLOC_D_D : Field := ⟨0x240324, 23, 0, 4⟩
/-! BPS_ALLOC_ON: Table 13.4 -/
def BPS_ALLOC_ON : Field := ⟨0x240328, 31, 0, 4⟩
def BPS_ALLOC_ON_ON : Field := ⟨0x240328, 23, 0, 4⟩
def BPS_ALLOC_ON_A : Field := ⟨0x240328, 25, 24, 4⟩
/-! BPS_ALLOC_FLD: Table 13.4 -/
def BPS_ALLOC_FLD : Field := ⟨0x24032C, 31, 0, 4⟩
def BPS_ALLOC_FLD_T : Field := ⟨0x24032C, 23, 0, 4⟩
/-! BPS_ALLOC_G: Table 13.4 -/
def BPS_ALLOC_G : Field := ⟨0x240330, 31, 0, 4⟩
def BPS_ALLOC_G_G : Field := ⟨0x240330, 15, 0, 4⟩
def BPS_ALLOC_G_H : Field := ⟨0x240330, 19, 16, 4⟩
/-! BPS_HIST_IDX: Table 13.4 -/
def BPS_HIST_IDX : Field := ⟨0x240340, 31, 0, 4⟩
def BPS_HIST_IDX_COMP : Field := ⟨0x240340, 1, 0, 4⟩
def BPS_HIST_IDX_ITEM : Field := ⟨0x240340, 5, 2, 4⟩
/-! BPS_HIST_DATA: Table 13.4 -/
def BPS_HIST_DATA : Field := ⟨0x240344, 31, 0, 4⟩
def BPS_HIST_DATA_V : Field := ⟨0x240344, 22, 0, 4⟩
/-! BPS_MAP_CTL: Table 13.4 -/
def BPS_MAP_CTL : Field := ⟨0x240400, 31, 0, 4⟩
def BPS_MAP_CTL_CLR : Field := ⟨0x240400, 0, 0, 4⟩
def BPS_MAP_CTL_COUNT : Field := ⟨0x240400, 24, 16, 4⟩
/-! BPS_MAP_ADD: Table 13.4 -/
def BPS_MAP_ADD : Field := ⟨0x240404, 31, 0, 4⟩
def BPS_MAP_ADD_X : Field := ⟨0x240404, 10, 0, 4⟩
def BPS_MAP_ADD_Y : Field := ⟨0x240404, 26, 16, 4⟩
def BPS_MAP_ADD_STATE : Field := ⟨0x240404, 31, 31, 4⟩
/-! BPS_MAP_IDX: Table 13.4 -/
def BPS_MAP_IDX : Field := ⟨0x240408, 31, 0, 4⟩
def BPS_MAP_IDX_IDX : Field := ⟨0x240408, 7, 0, 4⟩
/-! BPS_MAP_ENT: Table 13.4 -/
def BPS_MAP_ENT : Field := ⟨0x24040C, 31, 0, 4⟩
def BPS_MAP_ENT_X : Field := ⟨0x24040C, 10, 0, 4⟩
def BPS_MAP_ENT_Y : Field := ⟨0x24040C, 26, 16, 4⟩
def BPS_MAP_ENT_STATE : Field := ⟨0x24040C, 31, 31, 4⟩
/-! BPS_MOOR_STAT: Table 13.4 -/
def BPS_MOOR_STAT : Field := ⟨0x240500, 31, 0, 4⟩
def BPS_MOOR_STAT_BYTES : Field := ⟨0x240500, 18, 0, 4⟩
def BPS_MOOR_STAT_CAUSE : Field := ⟨0x240500, 23, 20, 4⟩
def BPS_MOOR_STAT_STORE_VALID : Field := ⟨0x240500, 24, 24, 4⟩
/-! BPS_CNT_CLR: Table 13.4 -/
def BPS_CNT_CLR : Field := ⟨0x2400E0, 31, 0, 4⟩
def BPS_CNT_CLR_CLR : Field := ⟨0x2400E0, 0, 0, 4⟩
/-! BSC_CTL: Table 14.4 -/
def BSC_CTL : Field := ⟨0x260000, 31, 0, 4⟩
def BSC_CTL_EN : Field := ⟨0x260000, 0, 0, 4⟩
def BSC_CTL_BIDIR : Field := ⟨0x260000, 1, 1, 4⟩
def BSC_CTL_GAIN_SRC : Field := ⟨0x260000, 2, 2, 4⟩
def BSC_CTL_NBUF : Field := ⟨0x260000, 4, 3, 4⟩
/-! BSC_STAT: Table 14.4 -/
def BSC_STAT : Field := ⟨0x260004, 31, 0, 4⟩
def BSC_STAT_LSTATE : Field := ⟨0x260004, 2, 0, 4⟩
def BSC_STAT_ERR : Field := ⟨0x260004, 5, 4, 4⟩
def BSC_STAT_DRAWING : Field := ⟨0x260004, 6, 6, 4⟩
def BSC_STAT_DIR : Field := ⟨0x260004, 7, 7, 4⟩
def BSC_STAT_LINE : Field := ⟨0x260004, 18, 8, 4⟩
def BSC_STAT_BUF : Field := ⟨0x260004, 21, 20, 4⟩
def BSC_STAT_LATEST : Field := ⟨0x260004, 23, 22, 4⟩
/-! BSC_STRIDE: Table 14.4 -/
def BSC_STRIDE : Field := ⟨0x260008, 31, 0, 4⟩
def BSC_STRIDE_S : Field := ⟨0x260008, 15, 0, 4⟩
/-! BSC_BUF: Table 14.4 -/
def BSC_BUF : Field := ⟨0x260010, 31, 0, 4⟩
def BSC_BUF_ADDR : Field := ⟨0x260010, 31, 0, 4⟩
/-! BSC_START_OFS: Table 14.4 -/
def BSC_START_OFS : Field := ⟨0x260020, 31, 0, 4⟩
def BSC_START_OFS_OFS : Field := ⟨0x260020, 23, 0, 4⟩
/-! BSC_MFB_CFG: Table 14.4 -/
def BSC_MFB_CFG : Field := ⟨0x260030, 31, 0, 4⟩
def BSC_MFB_CFG_EDGE : Field := ⟨0x260030, 0, 0, 4⟩
def BSC_MFB_CFG_MISS_WIN : Field := ⟨0x260030, 31, 16, 4⟩
/-! BSC_PER_WIN: Table 14.4 -/
def BSC_PER_WIN : Field := ⟨0x260034, 31, 0, 4⟩
def BSC_PER_WIN_PER_MIN : Field := ⟨0x260034, 15, 0, 4⟩
def BSC_PER_WIN_PER_MAX : Field := ⟨0x260034, 31, 16, 4⟩
/-! BSC_LOCK_GAIN: Table 14.4 -/
def BSC_LOCK_GAIN : Field := ⟨0x260038, 31, 0, 4⟩
def BSC_LOCK_GAIN_KP : Field := ⟨0x260038, 15, 0, 4⟩
def BSC_LOCK_GAIN_KI : Field := ⟨0x260038, 31, 16, 4⟩
/-! BSC_LOCK_CFG: Table 14.4 -/
def BSC_LOCK_CFG : Field := ⟨0x26003C, 31, 0, 4⟩
def BSC_LOCK_CFG_KSH : Field := ⟨0x26003C, 4, 0, 4⟩
def BSC_LOCK_CFG_LIMSH : Field := ⟨0x26003C, 11, 8, 4⟩
def BSC_LOCK_CFG_FAULT_HOLD : Field := ⟨0x26003C, 23, 16, 4⟩
/-! BSC_LOCK_THR: Table 14.4 -/
def BSC_LOCK_THR : Field := ⟨0x260040, 31, 0, 4⟩
def BSC_LOCK_THR_LOCK_THR : Field := ⟨0x260040, 15, 0, 4⟩
def BSC_LOCK_THR_UNLOCK_THR : Field := ⟨0x260040, 31, 16, 4⟩
/-! BSC_PH_REF_LO: Table 14.4 -/
def BSC_PH_REF_LO : Field := ⟨0x260048, 31, 0, 4⟩
def BSC_PH_REF_LO_LO : Field := ⟨0x260048, 31, 0, 4⟩
/-! BSC_PH_REF_HI: Table 14.4 -/
def BSC_PH_REF_HI : Field := ⟨0x26004C, 31, 0, 4⟩
def BSC_PH_REF_HI_HI : Field := ⟨0x26004C, 15, 0, 4⟩
/-! BSC_CENTRE_LO: Table 14.4 -/
def BSC_CENTRE_LO : Field := ⟨0x260050, 31, 0, 4⟩
def BSC_CENTRE_LO_LO : Field := ⟨0x260050, 31, 0, 4⟩
/-! BSC_CENTRE_HI: Table 14.4 -/
def BSC_CENTRE_HI : Field := ⟨0x260054, 31, 0, 4⟩
def BSC_CENTRE_HI_HI : Field := ⟨0x260054, 15, 0, 4⟩
/-! BSC_INC_NOM_LO: Table 14.4 -/
def BSC_INC_NOM_LO : Field := ⟨0x260058, 31, 0, 4⟩
def BSC_INC_NOM_LO_LO : Field := ⟨0x260058, 31, 0, 4⟩
/-! BSC_INC_NOM_HI: Table 14.4 -/
def BSC_INC_NOM_HI : Field := ⟨0x26005C, 31, 0, 4⟩
def BSC_INC_NOM_HI_HI : Field := ⟨0x26005C, 15, 0, 4⟩
/-! BSC_INC_LO: Table 14.4 -/
def BSC_INC_LO : Field := ⟨0x260060, 31, 0, 4⟩
def BSC_INC_LO_LO : Field := ⟨0x260060, 31, 0, 4⟩
/-! BSC_INC_HI: Table 14.4 -/
def BSC_INC_HI : Field := ⟨0x260064, 31, 0, 4⟩
def BSC_INC_HI_HI : Field := ⟨0x260064, 15, 0, 4⟩
/-! BSC_LOCK_ERR: Table 14.4 -/
def BSC_LOCK_ERR : Field := ⟨0x260068, 31, 0, 4⟩
def BSC_LOCK_ERR_E : Field := ⟨0x260068, 31, 0, 4⟩
/-! BSC_PERIOD: Table 14.4 -/
def BSC_PERIOD : Field := ⟨0x26006C, 31, 0, 4⟩
def BSC_PERIOD_P : Field := ⟨0x26006C, 15, 0, 4⟩
/-! BSC_ASIN_END: Table 14.4 -/
def BSC_ASIN_END : Field := ⟨0x260070, 31, 0, 4⟩
def BSC_ASIN_END_E : Field := ⟨0x260070, 23, 0, 4⟩
/-! BSC_VRAMP: Table 14.4 -/
def BSC_VRAMP : Field := ⟨0x260080, 31, 0, 4⟩
def BSC_VRAMP_V_TOP : Field := ⟨0x260080, 15, 0, 4⟩
def BSC_VRAMP_V_STEP : Field := ⟨0x260080, 31, 16, 4⟩
/-! BSC_VFLY: Table 14.4 -/
def BSC_VFLY : Field := ⟨0x260084, 31, 0, 4⟩
def BSC_VFLY_FLYBACK_N : Field := ⟨0x260084, 7, 0, 4⟩
def BSC_VFLY_HAMP : Field := ⟨0x260084, 23, 16, 4⟩
/-! BSC_LASER: Table 14.4 -/
def BSC_LASER : Field := ⟨0x260090, 31, 0, 4⟩
def BSC_LASER_GAIN : Field := ⟨0x260090, 15, 0, 4⟩
def BSC_LASER_OFS : Field := ⟨0x260090, 27, 16, 4⟩
/-! BSC_MAXV: Table 14.4 -/
def BSC_MAXV : Field := ⟨0x2600A0, 31, 0, 4⟩
def BSC_MAXV_MAXV : Field := ⟨0x2600A0, 11, 0, 4⟩
/-! BSC_CNT0: Table 14.4 -/
def BSC_CNT0 : Field := ⟨0x2600B0, 31, 0, 4⟩
def BSC_CNT0_UNDERRUN : Field := ⟨0x2600B0, 15, 0, 4⟩
def BSC_CNT0_SQUEEZE : Field := ⟨0x2600B0, 31, 16, 4⟩
/-! BSC_CNT1: Table 14.4 -/
def BSC_CNT1 : Field := ⟨0x2600B4, 31, 0, 4⟩
def BSC_CNT1_MEDIA : Field := ⟨0x2600B4, 15, 0, 4⟩
def BSC_CNT1_WR_DROP : Field := ⟨0x2600B4, 31, 16, 4⟩
/-! BSC_CNT2: Table 14.4 -/
def BSC_CNT2 : Field := ⟨0x2600B8, 31, 0, 4⟩
def BSC_CNT2_WR_SKIP : Field := ⟨0x2600B8, 15, 0, 4⟩
def BSC_CNT2_START_MISS : Field := ⟨0x2600B8, 31, 16, 4⟩
/-! BSC_CNT3: Table 14.4 -/
def BSC_CNT3 : Field := ⟨0x2600BC, 31, 0, 4⟩
def BSC_CNT3_LOCK_LOSS : Field := ⟨0x2600BC, 15, 0, 4⟩
def BSC_CNT3_MFB_STRAY : Field := ⟨0x2600BC, 31, 16, 4⟩
/-! BSC_CNT4: Table 14.4 -/
def BSC_CNT4 : Field := ⟨0x2600C0, 31, 0, 4⟩
def BSC_CNT4_ACQ_RESTART : Field := ⟨0x2600C0, 15, 0, 4⟩
/-! BSC_CNT_CLR: Table 14.4 -/
def BSC_CNT_CLR : Field := ⟨0x2600E0, 31, 0, 4⟩
def BSC_CNT_CLR_CLR : Field := ⟨0x2600E0, 0, 0, 4⟩
/-! BSC_ASIN: Table 14.4 -/
def BSC_ASIN : Field := ⟨0x261000, 31, 0, 4⟩
def BSC_ASIN_E : Field := ⟨0x261000, 23, 0, 4⟩
/-! LTD_CTL: Table 15.5 -/
def LTD_CTL : Field := ⟨0x280000, 31, 0, 4⟩
def LTD_CTL_EN : Field := ⟨0x280000, 0, 0, 4⟩
def LTD_CTL_BL_ON : Field := ⟨0x280000, 1, 1, 4⟩
def LTD_CTL_ACT : Field := ⟨0x280000, 3, 2, 4⟩
def LTD_CTL_LOOP_EN : Field := ⟨0x280000, 6, 4, 4⟩
def LTD_CTL_LOOP_RST : Field := ⟨0x280000, 7, 7, 4⟩
def LTD_CTL_MEAS_FRAMES : Field := ⟨0x280000, 15, 8, 4⟩
def LTD_CTL_TEMP_SRC : Field := ⟨0x280000, 16, 16, 4⟩
def LTD_CTL_TEMP_IN : Field := ⟨0x280000, 19, 17, 4⟩
/-! LTD_STAT: Table 15.5 -/
def LTD_STAT : Field := ⟨0x280004, 31, 0, 4⟩
def LTD_STAT_STATE : Field := ⟨0x280004, 1, 0, 4⟩
def LTD_STAT_ERR : Field := ⟨0x280004, 3, 2, 4⟩
def LTD_STAT_SINGULAR : Field := ⟨0x280004, 4, 4, 4⟩
def LTD_STAT_ACT_IDLE : Field := ⟨0x280004, 5, 5, 4⟩
def LTD_STAT_SHF : Field := ⟨0x280004, 6, 6, 4⟩
/-! LTD_FAULT_CLR: Table 15.5 -/
def LTD_FAULT_CLR : Field := ⟨0x280008, 31, 0, 4⟩
def LTD_FAULT_CLR_CLR : Field := ⟨0x280008, 0, 0, 4⟩
/-! LTD_STR_CFG: Table 15.5 -/
def LTD_STR_CFG : Field := ⟨0x280010, 31, 0, 4⟩
def LTD_STR_CFG_BASE_SET : Field := ⟨0x280010, 11, 0, 4⟩
def LTD_STR_CFG_EN : Field := ⟨0x280010, 12, 12, 4⟩
def LTD_STR_CFG_POLICY : Field := ⟨0x280010, 16, 16, 4⟩
/-! LTD_STR_VCHK: Table 15.5 -/
def LTD_STR_VCHK : Field := ⟨0x280020, 31, 0, 4⟩
def LTD_STR_VCHK_V0 : Field := ⟨0x280020, 11, 0, 4⟩
def LTD_STR_VCHK_OPEN_MARG : Field := ⟨0x280020, 21, 12, 4⟩
def LTD_STR_VCHK_SHORT_MARG : Field := ⟨0x280020, 31, 22, 4⟩
/-! LTD_STR_STAT: Table 15.5 -/
def LTD_STR_STAT : Field := ⟨0x280030, 31, 0, 4⟩
def LTD_STR_STAT_SET : Field := ⟨0x280030, 11, 0, 4⟩
def LTD_STR_STAT_OFF : Field := ⟨0x280030, 12, 12, 4⟩
def LTD_STR_STAT_KIND : Field := ⟨0x280030, 15, 14, 4⟩
def LTD_STR_STAT_LAST : Field := ⟨0x280030, 27, 16, 4⟩
/-! LTD_CH_BASE: Table 15.5 -/
def LTD_CH_BASE : Field := ⟨0x280040, 31, 0, 4⟩
def LTD_CH_BASE_BASE_DUTY : Field := ⟨0x280040, 11, 0, 4⟩
def LTD_CH_BASE_BASE_LGAIN : Field := ⟨0x280040, 31, 16, 4⟩
/-! LTD_FLD_SHARE: Table 15.5 -/
def LTD_FLD_SHARE : Field := ⟨0x280050, 31, 0, 4⟩
def LTD_FLD_SHARE_BASE_SHARE : Field := ⟨0x280050, 15, 0, 4⟩
/-! LTD_PDGAIN: Table 15.5 -/
def LTD_PDGAIN : Field := ⟨0x280070, 31, 0, 4⟩
def LTD_PDGAIN_PD_GAIN : Field := ⟨0x280070, 15, 0, 4⟩
/-! LTD_SNS_CFG: Table 15.5 -/
def LTD_SNS_CFG : Field := ⟨0x280080, 31, 0, 4⟩
def LTD_SNS_CFG_ROLE : Field := ⟨0x280080, 2, 0, 4⟩
def LTD_SNS_CFG_STRING : Field := ⟨0x280080, 5, 4, 4⟩
def LTD_SNS_CFG_CHMASK : Field := ⟨0x280080, 8, 6, 4⟩
def LTD_SNS_CFG_EXCL : Field := ⟨0x280080, 9, 9, 4⟩
/-! LTD_SNS_WIN: Table 15.5 -/
def LTD_SNS_WIN : Field := ⟨0x2800A0, 31, 0, 4⟩
def LTD_SNS_WIN_LO : Field := ⟨0x2800A0, 11, 0, 4⟩
def LTD_SNS_WIN_HI : Field := ⟨0x2800A0, 27, 16, 4⟩
/-! LTD_SNS_LAST: Table 15.5 -/
def LTD_SNS_LAST : Field := ⟨0x2800C0, 31, 0, 4⟩
def LTD_SNS_LAST_LAST : Field := ⟨0x2800C0, 11, 0, 4⟩
def LTD_SNS_LAST_MEAN : Field := ⟨0x2800C0, 27, 16, 4⟩
/-! LTD_CNT_CLR: Table 15.5 -/
def LTD_CNT_CLR : Field := ⟨0x2800E0, 31, 0, 4⟩
def LTD_CNT_CLR_CLR : Field := ⟨0x2800E0, 0, 0, 4⟩
/-! LTD_ADC_SCHED: Table 15.5 -/
def LTD_ADC_SCHED : Field := ⟨0x2800E4, 31, 0, 4⟩
def LTD_ADC_SCHED_S : Field := ⟨0x2800E4, 31, 0, 4⟩
/-! LTD_WHITE: Table 15.5 -/
def LTD_WHITE : Field := ⟨0x280100, 31, 0, 4⟩
def LTD_WHITE_U : Field := ⟨0x280100, 15, 0, 4⟩
def LTD_WHITE_V : Field := ⟨0x280100, 31, 16, 4⟩
/-! LTD_LOOP_GAIN: Table 15.5 -/
def LTD_LOOP_GAIN : Field := ⟨0x280104, 31, 0, 4⟩
def LTD_LOOP_GAIN_KP : Field := ⟨0x280104, 15, 0, 4⟩
def LTD_LOOP_GAIN_KI : Field := ⟨0x280104, 31, 16, 4⟩
/-! LTD_LOOP_ILIM: Table 15.5 -/
def LTD_LOOP_ILIM : Field := ⟨0x280108, 31, 0, 4⟩
def LTD_LOOP_ILIM_ILIM : Field := ⟨0x280108, 30, 0, 4⟩
/-! LTD_LOOP_MIN_N: Table 15.5 -/
def LTD_LOOP_MIN_N : Field := ⟨0x28010C, 31, 0, 4⟩
def LTD_LOOP_MIN_N_MIN_N : Field := ⟨0x28010C, 15, 0, 4⟩
/-! LTD_TEMP_CAL: Table 15.5 -/
def LTD_TEMP_CAL : Field := ⟨0x280110, 31, 0, 4⟩
def LTD_TEMP_CAL_C0 : Field := ⟨0x280110, 15, 0, 4⟩
def LTD_TEMP_CAL_C1 : Field := ⟨0x280110, 31, 16, 4⟩
/-! LTD_TEMP: Table 15.5 -/
def LTD_TEMP : Field := ⟨0x280114, 31, 0, 4⟩
def LTD_TEMP_DIE : Field := ⟨0x280114, 15, 0, 4⟩
def LTD_TEMP_T : Field := ⟨0x280114, 31, 16, 4⟩
/-! LTD_LOOP_TM: Table 15.5 -/
def LTD_LOOP_TM : Field := ⟨0x280120, 31, 0, 32⟩
def LTD_LOOP_TM_F : Field := ⟨0x280120, 15, 0, 32⟩
def LTD_LOOP_TM_MEAS : Field := ⟨0x280120, 31, 16, 32⟩
/-! LTD_LOOP_E: Table 15.5 -/
def LTD_LOOP_E : Field := ⟨0x280124, 31, 0, 32⟩
def LTD_LOOP_E_E : Field := ⟨0x280124, 15, 0, 32⟩
/-! LTD_LOOP_I: Table 15.5 -/
def LTD_LOOP_I : Field := ⟨0x280128, 31, 0, 32⟩
def LTD_LOOP_I_I : Field := ⟨0x280128, 31, 0, 32⟩
/-! LTD_LOOP_K: Table 15.5 -/
def LTD_LOOP_K : Field := ⟨0x28012C, 31, 0, 32⟩
def LTD_LOOP_K_K : Field := ⟨0x28012C, 15, 0, 32⟩
/-! LTD_LOOP_UV: Table 15.5 -/
def LTD_LOOP_UV : Field := ⟨0x280130, 31, 0, 32⟩
def LTD_LOOP_UV_U : Field := ⟨0x280130, 15, 0, 32⟩
def LTD_LOOP_UV_V : Field := ⟨0x280130, 31, 16, 32⟩
/-! LTD_CNT0: Table 15.5 -/
def LTD_CNT0 : Field := ⟨0x280180, 31, 0, 4⟩
def LTD_CNT0_STEPS : Field := ⟨0x280180, 15, 0, 4⟩
def LTD_CNT0_NO_SAMPLES : Field := ⟨0x280180, 31, 16, 4⟩
/-! LTD_CNT1: Table 15.5 -/
def LTD_CNT1 : Field := ⟨0x280184, 31, 0, 4⟩
def LTD_CNT1_OVERLAP : Field := ⟨0x280184, 15, 0, 4⟩
def LTD_CNT1_NODE_FAULT : Field := ⟨0x280184, 31, 16, 4⟩
/-! LTD_PIN_STAT: Table 15.5 -/
def LTD_PIN_STAT : Field := ⟨0x280190, 31, 0, 4⟩
def LTD_PIN_STAT_PIN_A : Field := ⟨0x280190, 4, 0, 4⟩
def LTD_PIN_STAT_PIN_B : Field := ⟨0x280190, 12, 8, 4⟩
def LTD_PIN_STAT_SHORT : Field := ⟨0x280190, 16, 16, 4⟩
/-! LTD_FAULT_CFG: Table 15.5 -/
def LTD_FAULT_CFG : Field := ⟨0x280194, 31, 0, 4⟩
def LTD_FAULT_CFG_FAULT_N : Field := ⟨0x280194, 7, 0, 4⟩
def LTD_FAULT_CFG_SHF_FILT : Field := ⟨0x280194, 15, 8, 4⟩
/-! LTD_CAL: Table 15.5 -/
def LTD_CAL : Field := ⟨0x280198, 31, 0, 4⟩
def LTD_CAL_STR : Field := ⟨0x280198, 3, 0, 4⟩
def LTD_CAL_LAMP : Field := ⟨0x280198, 19, 4, 4⟩
def LTD_CAL_FORCE_EN : Field := ⟨0x280198, 20, 20, 4⟩
/-! LTD_LAMP_UV: Table 15.5 -/
def LTD_LAMP_UV : Field := ⟨0x280200, 31, 0, 8⟩
def LTD_LAMP_UV_U0 : Field := ⟨0x280200, 15, 0, 8⟩
def LTD_LAMP_UV_V0 : Field := ⟨0x280200, 31, 16, 8⟩
/-! LTD_LAMP_CAL: Table 15.5 -/
def LTD_LAMP_CAL : Field := ⟨0x280204, 31, 0, 8⟩
def LTD_LAMP_CAL_GAIN : Field := ⟨0x280204, 15, 0, 8⟩
def LTD_LAMP_CAL_DU : Field := ⟨0x280204, 23, 16, 8⟩
def LTD_LAMP_CAL_DV : Field := ⟨0x280204, 31, 24, 8⟩
/-! SHM_CTL: Table 15.6 -/
def SHM_CTL : Field := ⟨0x290000, 31, 0, 4⟩
def SHM_CTL_PWM_PER : Field := ⟨0x290000, 15, 0, 4⟩
/-! SHM_LAMP_STAT: Table 15.6 -/
def SHM_LAMP_STAT : Field := ⟨0x290004, 31, 0, 4⟩
def SHM_LAMP_STAT_OPEN : Field := ⟨0x290004, 15, 0, 4⟩
def SHM_LAMP_STAT_SHORTED : Field := ⟨0x290004, 31, 16, 4⟩
/-! SHM_LAMP_CFG: Table 15.6 -/
def SHM_LAMP_CFG : Field := ⟨0x290010, 31, 0, 4⟩
def SHM_LAMP_CFG_EN : Field := ⟨0x290010, 0, 0, 4⟩
def SHM_LAMP_CFG_STRING : Field := ⟨0x290010, 2, 1, 4⟩
def SHM_LAMP_CFG_CHAN : Field := ⟨0x290010, 6, 4, 4⟩
def SHM_LAMP_CFG_PHASE : Field := ⟨0x290010, 15, 8, 4⟩
def SHM_LAMP_CFG_VF : Field := ⟨0x290010, 27, 16, 4⟩
/-! SHM_DUTY: Table 15.6 -/
def SHM_DUTY : Field := ⟨0x290050, 31, 0, 4⟩
def SHM_DUTY_DUTY : Field := ⟨0x290050, 11, 0, 4⟩
/-! TWP_CTL: Table 16.7 -/
def TWP_CTL : Field := ⟨0x2A0000, 31, 0, 4⟩
def TWP_CTL_EN : Field := ⟨0x2A0000, 0, 0, 4⟩
def TWP_CTL_FRAMED : Field := ⟨0x2A0000, 1, 1, 4⟩
def TWP_CTL_DEPTH : Field := ⟨0x2A0000, 3, 2, 4⟩
def TWP_CTL_DUAL_EN : Field := ⟨0x2A0000, 4, 4, 4⟩
def TWP_CTL_RET_GPIO : Field := ⟨0x2A0000, 5, 5, 4⟩
def TWP_CTL_KILL_DARK : Field := ⟨0x2A0000, 6, 6, 4⟩
def TWP_CTL_LATCH_CELLS : Field := ⟨0x2A0000, 15, 8, 4⟩
def TWP_CTL_NODES : Field := ⟨0x2A0000, 24, 16, 4⟩
/-! TWP_CELL: Table 16.7 -/
def TWP_CELL : Field := ⟨0x2A0004, 31, 0, 4⟩
def TWP_CELL_CELL : Field := ⟨0x2A0004, 5, 0, 4⟩
/-! TWP_TRIG: Table 16.7 -/
def TWP_TRIG : Field := ⟨0x2A0008, 31, 0, 4⟩
def TWP_TRIG_TRIG : Field := ⟨0x2A0008, 1, 0, 4⟩
def TWP_TRIG_GO : Field := ⟨0x2A0008, 2, 2, 4⟩
def TWP_TRIG_PERIOD : Field := ⟨0x2A0008, 15, 8, 4⟩
/-! TWP_RING_CFG: Table 16.7 -/
def TWP_RING_CFG : Field := ⟨0x2A000C, 31, 0, 4⟩
def TWP_RING_CFG_BREAK_N : Field := ⟨0x2A000C, 3, 0, 4⟩
def TWP_RING_CFG_HEAL_INT : Field := ⟨0x2A000C, 15, 8, 4⟩
/-! TWP_STAT: Table 16.7 -/
def TWP_STAT : Field := ⟨0x2A0010, 31, 0, 4⟩
def TWP_STAT_RING : Field := ⟨0x2A0010, 2, 0, 4⟩
def TWP_STAT_BUSY : Field := ⟨0x2A0010, 3, 3, 4⟩
def TWP_STAT_PENDING : Field := ⟨0x2A0010, 4, 4, 4⟩
def TWP_STAT_LAST_RET : Field := ⟨0x2A0010, 7, 5, 4⟩
def TWP_STAT_SEQ : Field := ⟨0x2A0010, 15, 8, 4⟩
/-! TWP_LOC: Table 16.7 -/
def TWP_LOC : Field := ⟨0x2A0014, 31, 0, 4⟩
def TWP_LOC_N_A : Field := ⟨0x2A0014, 15, 0, 4⟩
def TWP_LOC_N_B : Field := ⟨0x2A0014, 31, 16, 4⟩
/-! TWP_ERR: Table 16.7 -/
def TWP_ERR : Field := ⟨0x2A0018, 31, 0, 4⟩
def TWP_ERR_CODE : Field := ⟨0x2A0018, 1, 0, 4⟩
def TWP_ERR_ERR : Field := ⟨0x2A0018, 31, 31, 4⟩
/-! TWP_CNT0: Table 16.7 -/
def TWP_CNT0 : Field := ⟨0x2A0020, 31, 0, 4⟩
def TWP_CNT0_MERGED : Field := ⟨0x2A0020, 15, 0, 4⟩
def TWP_CNT0_LEN_ERR : Field := ⟨0x2A0020, 31, 16, 4⟩
/-! TWP_CNT1: Table 16.7 -/
def TWP_CNT1 : Field := ⟨0x2A0024, 31, 0, 4⟩
def TWP_CNT1_CELL_ERR : Field := ⟨0x2A0024, 15, 0, 4⟩
def TWP_CNT1_BREAKS : Field := ⟨0x2A0024, 31, 16, 4⟩
/-! TWP_CNT2: Table 16.7 -/
def TWP_CNT2 : Field := ⟨0x2A0028, 31, 0, 4⟩
def TWP_CNT2_HEALS : Field := ⟨0x2A0028, 15, 0, 4⟩
/-! TWP_TMR0: Table 16.7 -/
def TWP_TMR0 : Field := ⟨0x2A0040, 31, 0, 4⟩
def TWP_TMR0_PER : Field := ⟨0x2A0040, 15, 0, 4⟩
/-! TWP_CNT_CLR: Table 16.7 -/
def TWP_CNT_CLR : Field := ⟨0x2A00E0, 31, 0, 4⟩
def TWP_CNT_CLR_CLR : Field := ⟨0x2A00E0, 0, 0, 4⟩
/-! TWP_PAT_CTL: Table 16.7 -/
def TWP_PAT_CTL : Field := ⟨0x2A0100, 31, 0, 16⟩
def TWP_PAT_CTL_RUN : Field := ⟨0x2A0100, 0, 0, 16⟩
def TWP_PAT_CTL_RESTART : Field := ⟨0x2A0100, 1, 1, 16⟩
def TWP_PAT_CTL_FIRST : Field := ⟨0x2A0100, 12, 4, 16⟩
def TWP_PAT_CTL_LAST : Field := ⟨0x2A0100, 24, 16, 16⟩
def TWP_PAT_CTL_CHMASK : Field := ⟨0x2A0100, 30, 28, 16⟩
/-! TWP_PAT_COL0: Table 16.7 -/
def TWP_PAT_COL0 : Field := ⟨0x2A0104, 31, 0, 16⟩
def TWP_PAT_COL0_COL0 : Field := ⟨0x2A0104, 15, 0, 16⟩
def TWP_PAT_COL0_COL1 : Field := ⟨0x2A0104, 31, 16, 16⟩
/-! TWP_PAT_COL1: Table 16.7 -/
def TWP_PAT_COL1 : Field := ⟨0x2A0108, 31, 0, 16⟩
def TWP_PAT_COL1_COL2 : Field := ⟨0x2A0108, 15, 0, 16⟩
def TWP_PAT_COL1_TICK_DIV : Field := ⟨0x2A0108, 23, 16, 16⟩
/-! TWP_PAT_STAT: Table 16.7 -/
def TWP_PAT_STAT : Field := ⟨0x2A010C, 31, 0, 16⟩
def TWP_PAT_STAT_STEP : Field := ⟨0x2A010C, 3, 0, 16⟩
def TWP_PAT_STAT_DONE : Field := ⟨0x2A010C, 4, 4, 16⟩
def TWP_PAT_STAT_L : Field := ⟨0x2A010C, 31, 16, 16⟩
/-! TWP_PAT_CHW: Table 16.7 -/
def TWP_PAT_CHW : Field := ⟨0x2A0180, 31, 0, 4⟩
def TWP_PAT_CHW_W : Field := ⟨0x2A0180, 8, 0, 4⟩
/-! TWP_MX_CTL: Table 16.7 -/
def TWP_MX_CTL : Field := ⟨0x2A0200, 31, 0, 4⟩
def TWP_MX_CTL_MODE : Field := ⟨0x2A0200, 1, 0, 4⟩
def TWP_MX_CTL_SYNC_SRC : Field := ⟨0x2A0200, 2, 2, 4⟩
def TWP_MX_CTL_SYNC_POL : Field := ⟨0x2A0200, 3, 3, 4⟩
def TWP_MX_CTL_ROW_POL : Field := ⟨0x2A0200, 4, 4, 4⟩
def TWP_MX_CTL_READY : Field := ⟨0x2A0200, 5, 5, 4⟩
def TWP_MX_CTL_FREE : Field := ⟨0x2A0200, 6, 6, 4⟩
def TWP_MX_CTL_MX_DEPTH : Field := ⟨0x2A0200, 9, 8, 4⟩
/-! TWP_MX_GEOM: Table 16.7 -/
def TWP_MX_GEOM : Field := ⟨0x2A0204, 31, 0, 4⟩
def TWP_MX_GEOM_ROWS : Field := ⟨0x2A0204, 2, 0, 4⟩
def TWP_MX_GEOM_COLS : Field := ⟨0x2A0204, 12, 4, 4⟩
def TWP_MX_GEOM_ZONES : Field := ⟨0x2A0204, 28, 16, 4⟩
/-! TWP_MX_TIM: Table 16.7 -/
def TWP_MX_TIM : Field := ⟨0x2A0208, 31, 0, 4⟩
def TWP_MX_TIM_ROW_ON : Field := ⟨0x2A0208, 15, 0, 4⟩
/-! TWP_MX_STAT: Table 16.7 -/
def TWP_MX_STAT : Field := ⟨0x2A020C, 31, 0, 4⟩
def TWP_MX_STAT_FRONT : Field := ⟨0x2A020C, 0, 0, 4⟩
def TWP_MX_STAT_ROW : Field := ⟨0x2A020C, 3, 1, 4⟩
def TWP_MX_STAT_SCANNING : Field := ⟨0x2A020C, 4, 4, 4⟩
def TWP_MX_STAT_LOCK_ERR : Field := ⟨0x2A020C, 5, 5, 4⟩
/-! TWP_MX_CNT0: Table 16.7 -/
def TWP_MX_CNT0 : Field := ⟨0x2A0210, 31, 0, 4⟩
def TWP_MX_CNT0_NOT_READY : Field := ⟨0x2A0210, 15, 0, 4⟩
def TWP_MX_CNT0_SCAN_CUT : Field := ⟨0x2A0210, 31, 16, 4⟩
/-! TWP_MX_CNT1: Table 16.7 -/
def TWP_MX_CNT1 : Field := ⟨0x2A0214, 31, 0, 4⟩
def TWP_MX_CNT1_SYNC_MERGE : Field := ⟨0x2A0214, 15, 0, 4⟩
/-! TWP_STEP0_W0: Table 16.7 -/
def TWP_STEP0_W0 : Field := ⟨0x2A0800, 31, 0, 8⟩
def TWP_STEP0_W0_OP : Field := ⟨0x2A0800, 3, 0, 8⟩
def TWP_STEP0_W0_TARGET : Field := ⟨0x2A0800, 7, 4, 8⟩
def TWP_STEP0_W0_REPEAT : Field := ⟨0x2A0800, 15, 8, 8⟩
def TWP_STEP0_W0_DUR : Field := ⟨0x2A0800, 31, 16, 8⟩
/-! TWP_STEP0_W1: Table 16.7 -/
def TWP_STEP0_W1 : Field := ⟨0x2A0804, 31, 0, 8⟩
def TWP_STEP0_W1_V : Field := ⟨0x2A0804, 15, 0, 8⟩
def TWP_STEP0_W1_HI : Field := ⟨0x2A0804, 31, 16, 8⟩
/-! TWP_NODE_A: Table 16.7 -/
def TWP_NODE_A : Field := ⟨0x2A1000, 31, 0, 8⟩
def TWP_NODE_A_C0 : Field := ⟨0x2A1000, 15, 0, 8⟩
def TWP_NODE_A_C1 : Field := ⟨0x2A1000, 31, 16, 8⟩
/-! TWP_NODE_B: Table 16.7 -/
def TWP_NODE_B : Field := ⟨0x2A1004, 31, 0, 8⟩
def TWP_NODE_B_C2 : Field := ⟨0x2A1004, 15, 0, 8⟩
/-! TWP_ZONE_BACK: Table 16.7 -/
def TWP_ZONE_BACK : Field := ⟨0x2A4000, 31, 0, 4⟩
def TWP_ZONE_BACK_Z0 : Field := ⟨0x2A4000, 15, 0, 4⟩
def TWP_ZONE_BACK_Z1 : Field := ⟨0x2A4000, 31, 16, 4⟩
/-! TWP_ZONE_FRONT: Table 16.7 -/
def TWP_ZONE_FRONT : Field := ⟨0x2A6000, 31, 0, 4⟩
def TWP_ZONE_FRONT_Z0 : Field := ⟨0x2A6000, 15, 0, 4⟩
def TWP_ZONE_FRONT_Z1 : Field := ⟨0x2A6000, 31, 16, 4⟩
/-! LKK_CTL: Table 17.7 -/
def LKK_CTL : Field := ⟨0x2C0000, 31, 0, 4⟩
def LKK_CTL_HOST_KILL : Field := ⟨0x2C0000, 0, 0, 4⟩
def LKK_CTL_SAFE_FORCE : Field := ⟨0x2C0000, 1, 1, 4⟩
def LKK_CTL_LOG_POLICY : Field := ⟨0x2C0000, 2, 2, 4⟩
def LKK_CTL_LOG_CLR : Field := ⟨0x2C0000, 3, 3, 4⟩
/-! LKK_STAT: Table 17.7 -/
def LKK_STAT : Field := ⟨0x2C0004, 31, 0, 4⟩
def LKK_STAT_LIGHT : Field := ⟨0x2C0004, 0, 0, 4⟩
def LKK_STAT_SAFE_SHOW : Field := ⟨0x2C0004, 1, 1, 4⟩
def LKK_STAT_PIN0 : Field := ⟨0x2C0004, 2, 2, 4⟩
def LKK_STAT_PIN1 : Field := ⟨0x2C0004, 3, 3, 4⟩
def LKK_STAT_DARK_REQ : Field := ⟨0x2C0004, 4, 4, 4⟩
/-! LKK_ACTIVE: Table 17.7 -/
def LKK_ACTIVE : Field := ⟨0x2C0008, 31, 0, 4⟩
def LKK_ACTIVE_A : Field := ⟨0x2C0008, 14, 0, 4⟩
/-! LKK_LATCHED: Table 17.7 -/
def LKK_LATCHED : Field := ⟨0x2C000C, 31, 0, 4⟩
def LKK_LATCHED_L : Field := ⟨0x2C000C, 14, 0, 4⟩
/-! LKK_ARM: Table 17.7 -/
def LKK_ARM : Field := ⟨0x2C0010, 31, 0, 4⟩
def LKK_ARM_ARM : Field := ⟨0x2C0010, 14, 0, 4⟩
/-! LKK_ARMED: Table 17.7 -/
def LKK_ARMED : Field := ⟨0x2C0014, 31, 0, 4⟩
def LKK_ARMED_ARMED : Field := ⟨0x2C0014, 14, 0, 4⟩
/-! LKK_SRC0_CFG: Tables 17.2, 17.7 -/
def LKK_SRC0_CFG : Field := ⟨0x2C0020, 31, 0, 4⟩
def LKK_SRC0_CFG_EN : Field := ⟨0x2C0020, 0, 0, 4⟩
def LKK_SRC0_CFG_KILL : Field := ⟨0x2C0020, 1, 1, 4⟩
def LKK_SRC0_CFG_LATCH : Field := ⟨0x2C0020, 2, 2, 4⟩
def LKK_SRC0_CFG_SAFE : Field := ⟨0x2C0020, 3, 3, 4⟩
def LKK_SRC0_CFG_POL : Field := ⟨0x2C0020, 4, 4, 4⟩
def LKK_SRC0_CFG_FILT : Field := ⟨0x2C0020, 11, 8, 4⟩
/-! LKK_SRC1_CFG: Tables 17.2, 17.7 -/
def LKK_SRC1_CFG : Field := ⟨0x2C0024, 31, 0, 4⟩
def LKK_SRC1_CFG_EN : Field := ⟨0x2C0024, 0, 0, 4⟩
def LKK_SRC1_CFG_KILL : Field := ⟨0x2C0024, 1, 1, 4⟩
def LKK_SRC1_CFG_LATCH : Field := ⟨0x2C0024, 2, 2, 4⟩
def LKK_SRC1_CFG_SAFE : Field := ⟨0x2C0024, 3, 3, 4⟩
def LKK_SRC1_CFG_POL : Field := ⟨0x2C0024, 4, 4, 4⟩
def LKK_SRC1_CFG_FILT : Field := ⟨0x2C0024, 11, 8, 4⟩
/-! LKK_SRC2_CFG: Tables 17.2, 17.7 -/
def LKK_SRC2_CFG : Field := ⟨0x2C0028, 31, 0, 4⟩
def LKK_SRC2_CFG_EN : Field := ⟨0x2C0028, 0, 0, 4⟩
def LKK_SRC2_CFG_KILL : Field := ⟨0x2C0028, 1, 1, 4⟩
def LKK_SRC2_CFG_LATCH : Field := ⟨0x2C0028, 2, 2, 4⟩
def LKK_SRC2_CFG_SAFE : Field := ⟨0x2C0028, 3, 3, 4⟩
def LKK_SRC2_CFG_POL : Field := ⟨0x2C0028, 4, 4, 4⟩
def LKK_SRC2_CFG_FILT : Field := ⟨0x2C0028, 11, 8, 4⟩
/-! LKK_SRC3_CFG: Tables 17.2, 17.7 -/
def LKK_SRC3_CFG : Field := ⟨0x2C002C, 31, 0, 4⟩
def LKK_SRC3_CFG_EN : Field := ⟨0x2C002C, 0, 0, 4⟩
def LKK_SRC3_CFG_KILL : Field := ⟨0x2C002C, 1, 1, 4⟩
def LKK_SRC3_CFG_LATCH : Field := ⟨0x2C002C, 2, 2, 4⟩
def LKK_SRC3_CFG_SAFE : Field := ⟨0x2C002C, 3, 3, 4⟩
def LKK_SRC3_CFG_POL : Field := ⟨0x2C002C, 4, 4, 4⟩
def LKK_SRC3_CFG_FILT : Field := ⟨0x2C002C, 11, 8, 4⟩
/-! LKK_SRC4_CFG: Tables 17.2, 17.7 -/
def LKK_SRC4_CFG : Field := ⟨0x2C0030, 31, 0, 4⟩
def LKK_SRC4_CFG_EN : Field := ⟨0x2C0030, 0, 0, 4⟩
def LKK_SRC4_CFG_KILL : Field := ⟨0x2C0030, 1, 1, 4⟩
def LKK_SRC4_CFG_LATCH : Field := ⟨0x2C0030, 2, 2, 4⟩
def LKK_SRC4_CFG_SAFE : Field := ⟨0x2C0030, 3, 3, 4⟩
/-! LKK_SRC5_CFG: Tables 17.2, 17.7 -/
def LKK_SRC5_CFG : Field := ⟨0x2C0034, 31, 0, 4⟩
def LKK_SRC5_CFG_EN : Field := ⟨0x2C0034, 0, 0, 4⟩
def LKK_SRC5_CFG_KILL : Field := ⟨0x2C0034, 1, 1, 4⟩
def LKK_SRC5_CFG_LATCH : Field := ⟨0x2C0034, 2, 2, 4⟩
def LKK_SRC5_CFG_SAFE : Field := ⟨0x2C0034, 3, 3, 4⟩
/-! LKK_SRC6_CFG: Tables 17.2, 17.7 -/
def LKK_SRC6_CFG : Field := ⟨0x2C0038, 31, 0, 4⟩
def LKK_SRC6_CFG_EN : Field := ⟨0x2C0038, 0, 0, 4⟩
def LKK_SRC6_CFG_KILL : Field := ⟨0x2C0038, 1, 1, 4⟩
def LKK_SRC6_CFG_LATCH : Field := ⟨0x2C0038, 2, 2, 4⟩
def LKK_SRC6_CFG_SAFE : Field := ⟨0x2C0038, 3, 3, 4⟩
/-! LKK_SRC7_CFG: Tables 17.2, 17.7 -/
def LKK_SRC7_CFG : Field := ⟨0x2C003C, 31, 0, 4⟩
def LKK_SRC7_CFG_EN : Field := ⟨0x2C003C, 0, 0, 4⟩
def LKK_SRC7_CFG_KILL : Field := ⟨0x2C003C, 1, 1, 4⟩
def LKK_SRC7_CFG_LATCH : Field := ⟨0x2C003C, 2, 2, 4⟩
def LKK_SRC7_CFG_SAFE : Field := ⟨0x2C003C, 3, 3, 4⟩
/-! LKK_SRC8_CFG: Tables 17.2, 17.7 -/
def LKK_SRC8_CFG : Field := ⟨0x2C0040, 31, 0, 4⟩
def LKK_SRC8_CFG_EN : Field := ⟨0x2C0040, 0, 0, 4⟩
def LKK_SRC8_CFG_KILL : Field := ⟨0x2C0040, 1, 1, 4⟩
def LKK_SRC8_CFG_LATCH : Field := ⟨0x2C0040, 2, 2, 4⟩
def LKK_SRC8_CFG_SAFE : Field := ⟨0x2C0040, 3, 3, 4⟩
/-! LKK_SRC9_CFG: Tables 17.2, 17.7 -/
def LKK_SRC9_CFG : Field := ⟨0x2C0044, 31, 0, 4⟩
def LKK_SRC9_CFG_EN : Field := ⟨0x2C0044, 0, 0, 4⟩
def LKK_SRC9_CFG_KILL : Field := ⟨0x2C0044, 1, 1, 4⟩
def LKK_SRC9_CFG_LATCH : Field := ⟨0x2C0044, 2, 2, 4⟩
def LKK_SRC9_CFG_SAFE : Field := ⟨0x2C0044, 3, 3, 4⟩
/-! LKK_SRC10_CFG: Tables 17.2, 17.7 -/
def LKK_SRC10_CFG : Field := ⟨0x2C0048, 31, 0, 4⟩
def LKK_SRC10_CFG_EN : Field := ⟨0x2C0048, 0, 0, 4⟩
def LKK_SRC10_CFG_KILL : Field := ⟨0x2C0048, 1, 1, 4⟩
def LKK_SRC10_CFG_LATCH : Field := ⟨0x2C0048, 2, 2, 4⟩
def LKK_SRC10_CFG_SAFE : Field := ⟨0x2C0048, 3, 3, 4⟩
/-! LKK_SRC11_CFG: Tables 17.2, 17.7 -/
def LKK_SRC11_CFG : Field := ⟨0x2C004C, 31, 0, 4⟩
def LKK_SRC11_CFG_EN : Field := ⟨0x2C004C, 0, 0, 4⟩
def LKK_SRC11_CFG_KILL : Field := ⟨0x2C004C, 1, 1, 4⟩
def LKK_SRC11_CFG_LATCH : Field := ⟨0x2C004C, 2, 2, 4⟩
def LKK_SRC11_CFG_SAFE : Field := ⟨0x2C004C, 3, 3, 4⟩
/-! LKK_SRC12_CFG: Tables 17.2, 17.7 -/
def LKK_SRC12_CFG : Field := ⟨0x2C0050, 31, 0, 4⟩
def LKK_SRC12_CFG_EN : Field := ⟨0x2C0050, 0, 0, 4⟩
def LKK_SRC12_CFG_KILL : Field := ⟨0x2C0050, 1, 1, 4⟩
def LKK_SRC12_CFG_LATCH : Field := ⟨0x2C0050, 2, 2, 4⟩
def LKK_SRC12_CFG_SAFE : Field := ⟨0x2C0050, 3, 3, 4⟩
/-! LKK_SRC13_CFG: Tables 17.2, 17.7 -/
def LKK_SRC13_CFG : Field := ⟨0x2C0054, 31, 0, 4⟩
def LKK_SRC13_CFG_EN : Field := ⟨0x2C0054, 0, 0, 4⟩
def LKK_SRC13_CFG_KILL : Field := ⟨0x2C0054, 1, 1, 4⟩
def LKK_SRC13_CFG_LATCH : Field := ⟨0x2C0054, 2, 2, 4⟩
def LKK_SRC13_CFG_SAFE : Field := ⟨0x2C0054, 3, 3, 4⟩
/-! LKK_SRC14_CFG: Tables 17.2, 17.7 -/
def LKK_SRC14_CFG : Field := ⟨0x2C0058, 31, 0, 4⟩
def LKK_SRC14_CFG_EN : Field := ⟨0x2C0058, 0, 0, 4⟩
def LKK_SRC14_CFG_KILL : Field := ⟨0x2C0058, 1, 1, 4⟩
def LKK_SRC14_CFG_LATCH : Field := ⟨0x2C0058, 2, 2, 4⟩
def LKK_SRC14_CFG_SAFE : Field := ⟨0x2C0058, 3, 3, 4⟩
/-! LKK_CHK_CFG: Table 17.7 -/
def LKK_CHK_CFG : Field := ⟨0x2C0060, 31, 0, 4⟩
def LKK_CHK_CFG_SKIP_LIM : Field := ⟨0x2C0060, 3, 0, 4⟩
def LKK_CHK_CFG_PROX_SEL : Field := ⟨0x2C0060, 12, 8, 4⟩
/-! LKK_THERM: Table 17.7 -/
def LKK_THERM : Field := ⟨0x2C0064, 31, 0, 4⟩
def LKK_THERM_THERM_HI : Field := ⟨0x2C0064, 15, 0, 4⟩
def LKK_THERM_THERM_LO : Field := ⟨0x2C0064, 31, 16, 4⟩
/-! LKK_TEMP: Table 17.7 -/
def LKK_TEMP : Field := ⟨0x2C0068, 31, 0, 4⟩
def LKK_TEMP_T : Field := ⟨0x2C0068, 15, 0, 4⟩
/-! LKK_LOG_STAT: Table 17.7 -/
def LKK_LOG_STAT : Field := ⟨0x2C0080, 31, 0, 4⟩
def LKK_LOG_STAT_WR : Field := ⟨0x2C0080, 7, 0, 4⟩
def LKK_LOG_STAT_COUNT : Field := ⟨0x2C0080, 16, 8, 4⟩
/-! LKK_LOG_CNT: Table 17.7 -/
def LKK_LOG_CNT : Field := ⟨0x2C0084, 31, 0, 4⟩
def LKK_LOG_CNT_LOST : Field := ⟨0x2C0084, 15, 0, 4⟩
def LKK_LOG_CNT_Q_LOST : Field := ⟨0x2C0084, 31, 16, 4⟩
/-! LKK_LOG_IDX: Table 17.7 -/
def LKK_LOG_IDX : Field := ⟨0x2C0088, 31, 0, 4⟩
def LKK_LOG_IDX_SLOT : Field := ⟨0x2C0088, 7, 0, 4⟩
/-! LKK_LOG_HOST: Table 17.7 -/
def LKK_LOG_HOST : Field := ⟨0x2C008C, 31, 0, 4⟩
def LKK_LOG_HOST_V : Field := ⟨0x2C008C, 15, 0, 4⟩
/-! LKK_LOG_DATA: Table 17.7 -/
def LKK_LOG_DATA : Field := ⟨0x2C0090, 31, 0, 4⟩
def LKK_LOG_DATA_D : Field := ⟨0x2C0090, 31, 0, 4⟩
/-! LKK_LOG_SEQ: Table 17.7 -/
def LKK_LOG_SEQ : Field := ⟨0x2C00A0, 31, 0, 4⟩
def LKK_LOG_SEQ_SEQ : Field := ⟨0x2C00A0, 15, 0, 4⟩
/-! LKK_CAL_TIME: Table 17.7, R743, R744 -/
def LKK_CAL_TIME : Field := ⟨0x2C0100, 31, 0, 4⟩
def LKK_CAL_TIME_SEC : Field := ⟨0x2C0100, 6, 0, 4⟩
def LKK_CAL_TIME_MIN : Field := ⟨0x2C0100, 14, 8, 4⟩
def LKK_CAL_TIME_HOUR : Field := ⟨0x2C0100, 21, 16, 4⟩
def LKK_CAL_TIME_WDAY : Field := ⟨0x2C0100, 26, 24, 4⟩
/-! LKK_CAL_DATE: Table 17.7 -/
def LKK_CAL_DATE : Field := ⟨0x2C0104, 31, 0, 4⟩
def LKK_CAL_DATE_DAY : Field := ⟨0x2C0104, 5, 0, 4⟩
def LKK_CAL_DATE_MONTH : Field := ⟨0x2C0104, 12, 8, 4⟩
def LKK_CAL_DATE_YEAR : Field := ⟨0x2C0104, 31, 16, 4⟩
/-! LKK_CAL_SET_TIME: Table 17.7 -/
def LKK_CAL_SET_TIME : Field := ⟨0x2C0108, 31, 0, 4⟩
def LKK_CAL_SET_TIME_SEC : Field := ⟨0x2C0108, 6, 0, 4⟩
def LKK_CAL_SET_TIME_MIN : Field := ⟨0x2C0108, 14, 8, 4⟩
def LKK_CAL_SET_TIME_HOUR : Field := ⟨0x2C0108, 21, 16, 4⟩
/-! LKK_CAL_SET_DATE: Table 17.7 -/
def LKK_CAL_SET_DATE : Field := ⟨0x2C010C, 31, 0, 4⟩
def LKK_CAL_SET_DATE_DAY : Field := ⟨0x2C010C, 5, 0, 4⟩
def LKK_CAL_SET_DATE_MONTH : Field := ⟨0x2C010C, 12, 8, 4⟩
def LKK_CAL_SET_DATE_YEAR : Field := ⟨0x2C010C, 31, 16, 4⟩
/-! LKK_CAL_CTL: Table 17.7 -/
def LKK_CAL_CTL : Field := ⟨0x2C0110, 31, 0, 4⟩
def LKK_CAL_CTL_SET : Field := ⟨0x2C0110, 0, 0, 4⟩
def LKK_CAL_CTL_ALARM_SET : Field := ⟨0x2C0110, 1, 1, 4⟩
def LKK_CAL_CTL_ALARM_EN : Field := ⟨0x2C0110, 2, 2, 4⟩
def LKK_CAL_CTL_CAL_VALID : Field := ⟨0x2C0110, 8, 8, 4⟩
def LKK_CAL_CTL_CAL_ERR : Field := ⟨0x2C0110, 16, 16, 4⟩
def LKK_CAL_CTL_CAL_WRAP : Field := ⟨0x2C0110, 17, 17, 4⟩
def LKK_CAL_CTL_ALARM : Field := ⟨0x2C0110, 18, 18, 4⟩
/-! LKK_CAL_TRIM: Table 17.7 -/
def LKK_CAL_TRIM : Field := ⟨0x2C0114, 31, 0, 4⟩
def LKK_CAL_TRIM_TRIM : Field := ⟨0x2C0114, 15, 0, 4⟩
/-! LKK_CAL_MIN: Table 17.7, R742 -/
def LKK_CAL_MIN : Field := ⟨0x2C0118, 31, 0, 4⟩
def LKK_CAL_MIN_MIN : Field := ⟨0x2C0118, 31, 0, 4⟩
/-! LKK_ALARM_SET_TIME: Table 17.7 -/
def LKK_ALARM_SET_TIME : Field := ⟨0x2C011C, 31, 0, 4⟩
def LKK_ALARM_SET_TIME_MIN : Field := ⟨0x2C011C, 14, 8, 4⟩
def LKK_ALARM_SET_TIME_HOUR : Field := ⟨0x2C011C, 21, 16, 4⟩
/-! LKK_ALARM_SET_DATE: Table 17.7 -/
def LKK_ALARM_SET_DATE : Field := ⟨0x2C0120, 31, 0, 4⟩
def LKK_ALARM_SET_DATE_DAY : Field := ⟨0x2C0120, 5, 0, 4⟩
def LKK_ALARM_SET_DATE_MONTH : Field := ⟨0x2C0120, 12, 8, 4⟩
def LKK_ALARM_SET_DATE_YEAR : Field := ⟨0x2C0120, 31, 16, 4⟩
/-! LKK_ALARM_TIME: Table 17.7 -/
def LKK_ALARM_TIME : Field := ⟨0x2C0124, 31, 0, 4⟩
def LKK_ALARM_TIME_MIN : Field := ⟨0x2C0124, 14, 8, 4⟩
def LKK_ALARM_TIME_HOUR : Field := ⟨0x2C0124, 21, 16, 4⟩
/-! LKK_ALARM_DATE: Table 17.7 -/
def LKK_ALARM_DATE : Field := ⟨0x2C0128, 31, 0, 4⟩
def LKK_ALARM_DATE_DAY : Field := ⟨0x2C0128, 5, 0, 4⟩
def LKK_ALARM_DATE_MONTH : Field := ⟨0x2C0128, 12, 8, 4⟩
def LKK_ALARM_DATE_YEAR : Field := ⟨0x2C0128, 31, 16, 4⟩
/-! LKK_LAMP_SEC: Table 17.7 -/
def LKK_LAMP_SEC : Field := ⟨0x2C0140, 31, 0, 4⟩
def LKK_LAMP_SEC_SEC : Field := ⟨0x2C0140, 31, 0, 4⟩
/-! LKK_LIT_SEC: Table 17.7 -/
def LKK_LIT_SEC : Field := ⟨0x2C0180, 31, 0, 4⟩
def LKK_LIT_SEC_SEC : Field := ⟨0x2C0180, 31, 0, 4⟩
/-! DBG_ID: Table 21.17 -/
def DBG_ID : Field := ⟨0x3F0000, 31, 0, 4⟩
def DBG_ID_IDCODE : Field := ⟨0x3F0000, 31, 0, 4⟩
/-! DBG_CTL: Table 21.17 -/
def DBG_CTL : Field := ⟨0x3F0004, 31, 0, 4⟩
def DBG_CTL_TAP_CSR : Field := ⟨0x3F0004, 0, 0, 4⟩
/-! DBG_STAT: Table 21.17 -/
def DBG_STAT : Field := ⟨0x3F0008, 31, 0, 4⟩
def DBG_STAT_TAP_RESET : Field := ⟨0x3F0008, 0, 0, 4⟩
def DBG_STAT_ADDR_ERR : Field := ⟨0x3F0008, 8, 8, 4⟩
def DBG_STAT_OVERRUN : Field := ⟨0x3F0008, 9, 9, 4⟩
def DBG_STAT_DENIED : Field := ⟨0x3F0008, 10, 10, 4⟩
def DBG_STAT_ACCESSES : Field := ⟨0x3F0008, 31, 16, 4⟩

end Sys2Proof.Machine
end

