-- ==== Sys2Proof/Machine/Operands.lean ====
section
/-! DEFINITION. Numbers, rounding and calibration arithmetic (chapter 2): signed fields, the three rounding modes,
saturation, serial-number comparison, pixel depths, the scaler pass, de-gamma, the colour matrix, the plane allocator
and the PI step; and the CRCs and the digest the other chapters name. -/

namespace Sys2Proof.Machine

/-- The value of a two's-complement field of `bits` bits (R16, R17). -/
def toSigned (bits n : Nat) : Int :=
  if n % 2 ^ bits < 2 ^ (bits - 1) then (n % 2 ^ bits : Int) else (n % 2 ^ bits : Int) - 2 ^ bits

/-- The field that holds a signed value (R16). -/
def ofSigned (bits : Nat) (x : Int) : Nat := (x % 2 ^ bits).toNat

/-- Round `x / d` to an integer: mode 0 and 3 RNE (R57), 1 RHA (R58), 2 TRN (R59); encodings of R19. -/
def roundDiv (mode : Nat) (x : Int) (d : Nat) : Int :=
  let k := x.fdiv d
  let r := x.fmod d
  if mode = 2 then k
  else if 2 * r < d then k
  else if 2 * r > d then k + 1
  else if mode = 1 then (if 0 < x then k + 1 else k)
  else if k % 2 = 0 then k else k + 1

/-- Saturate to an unsigned field of `bits` bits (R64); the flag says that the value was limited (R92). -/
def satU (bits : Nat) (x : Int) : Nat × Bool :=
  if x < 0 then (0, true) else if x > (2 : Int) ^ bits - 1 then (2 ^ bits - 1, true) else (x.toNat, false)

/-- Saturate to a signed value of `bits` bits (R64). -/
def satS (bits : Nat) (x : Int) : Int × Bool :=
  if x < -(2 : Int) ^ (bits - 1) then (-(2 : Int) ^ (bits - 1), true)
  else if x > (2 : Int) ^ (bits - 1) - 1 then ((2 : Int) ^ (bits - 1) - 1, true) else (x, false)

/-- A serial-number quantity of width `w` at value `v` has reached the target `t` (R66). -/
def reached (w v t : Nat) : Bool := (v + 2 ^ w - t % 2 ^ w) % 2 ^ w < 2 ^ (w - 1)

/-- 8-bit input sample to the 12-bit internal pixel (R67). -/
def pixel8 (v : Nat) : Nat := 16 * v + v / 16

/-- 10-bit input sample to the 12-bit internal pixel (R67). -/
def pixel10 (v : Nat) : Nat := 4 * v + v / 256

/-- A saturating count of `bits` bits raised by `k` (R751). -/
def satAdd (bits n k : Nat) : Nat := min (n + k) (2 ^ bits - 1)

/-- The sum of products of two lists. -/
def dot (cs : List Int) (ps : List Nat) : Int := (cs.zip ps).foldl (fun acc cp => acc + cp.1 * (cp.2 : Int)) 0

/-- One scaler pass over its taps: S1.10 coefficients, U12 pixels, output U12 (R68). -/
def scalerPass (mode : Nat) (coefs : List Nat) (pixels : List Nat) : Nat × Bool :=
  satU 12 (roundDiv mode (dot (coefs.map (toSigned 11)) pixels) 1024)

/-- The de-gamma output of a U12 pixel through the LUT `E` (R72, R73); always RNE, never limited below U1.15. -/
def degamma (E : Nat → Nat) (p : Nat) : Nat :=
  let i := p / 4
  let e0 := E i
  let e1 := if i = 1023 then 0x8000 else E (i + 1)
  (roundDiv 0 ((4 * e0 : Int) + ((e1 : Int) - e0) * ((p % 4 : Nat) : Int)) 4).toNat

/-- A blending result before the gamma LUT: at most 0x8000 (R75). -/
def satLinear (v : Nat) : Nat × Bool := if v > 0x8000 then (0x8000, true) else (v, false)

/-- The index of the gamma LUT for a U1.15 value (R76). -/
def gammaIndex (v : Nat) : Nat := min (roundDiv 0 (v : Int) 8).toNat 4095

/-- One output component of a colour matrix: S3.12 coefficients, U12 inputs, S13.0 offset (R77, R79). -/
def matrixOut (mode : Nat) (coefs : List Nat) (xs : List Nat) (offset : Nat) : Nat × Bool :=
  satU 12 (roundDiv mode (dot (coefs.map (toSigned 15)) xs + 4096 * toSigned 13 offset) 4096)

/-- The sum of the weights of a field (R80). -/
def weightSum (W : List Nat) : Nat := W.foldl (· + ·) 0

/-- The rank order of R80: remainder descending, then weight descending, then index ascending. -/
def rankBefore (a b : Nat × Nat × Nat) : Bool :=
  a.1 > b.1 || (a.1 == b.1 && (a.2.1 > b.2.1 || (a.2.1 == b.2.1 && a.2.2 < b.2.2)))

/-- How many planes stand before plane `x` in the rank order. -/
def rankOf (xs : List (Nat × Nat × Nat)) (x : Nat × Nat × Nat) : Nat := (xs.filter fun y => rankBefore y x).length

/-- The plane durations of a field of weights `W` and time `T` (R80-R83). -/
def allocate (W : List Nat) (T : Nat) : List Nat :=
  let S := weightSum W
  if S = 0 then (List.range W.length).map fun i => if i = 0 then T else 0
  else
    let base := W.map fun w => w * T / S
    let keys := W.zipIdx.map fun p => (p.1 * T % S, p.1, p.2)
    let R := T - weightSum base
    (base.zip keys).map fun p => if rankOf keys p.2 < R then p.1 + 1 else p.1

/-- A PI step (R84-R86): error S1.15, gains U0.16, ILIM U7.24, integrator S8.24; answers the integrator, the output,
and whether the clamp and whether the output saturated. -/
def piStep (e : Int) (kp ki ilim : Nat) (integ : Int) : Int × Int × Bool × Bool :=
  let p := roundDiv 0 ((kp : Int) * e) 128
  let q := roundDiv 0 ((ki : Int) * e) 128
  let i' := min (max (integ + q) (-(ilim : Int))) (ilim : Int)
  let u := satS 32 (p + i')
  (i', u.1, decide (i' ≠ integ + q), u.2)

/-- The square root rounded down. -/
def isqrt (n : Nat) : Nat := Nat.sqrt n

/-- One byte into a CRC-8 with polynomial 0x07, MSB first (R111). -/
def crc8Byte (crc : Nat) (b : Byte) : Nat :=
  (List.range 8).foldl (fun x _ => if x ≥ 128 then Nat.xor (x * 2 % 256) 0x07 else x * 2 % 256) (Nat.xor crc b.toNat)

/-- The CRC-8 of a byte list, initial value 0xFF (R111). -/
def crc8 (bs : List Byte) : Nat := bs.foldl crc8Byte 0xFF

/-- One byte into the reflected CRC-32 of IEEE 802.3 (R271). -/
def crc32Byte (crc : Nat) (b : Byte) : Nat :=
  (List.range 8).foldl (fun x _ => if x % 2 = 1 then Nat.xor (x / 2) 0xEDB88320 else x / 2) (Nat.xor crc b.toNat)

/-- CRC-32 of a byte list (R271). -/
def crc32 (bs : List Byte) : Nat := Nat.xor (bs.foldl crc32Byte 0xFFFFFFFF) 0xFFFFFFFF

/-- One bit, and one byte MSB first, into a CRC-16 with polynomial 0x1021 (CCITT). -/
def crc16Byte (crc : Nat) (b : Byte) : Nat :=
  (List.range 8).foldl
    (fun x _ => if x ≥ 0x8000 then Nat.xor (x * 2 % 65536) 0x1021 else x * 2 % 65536) (Nat.xor crc (b.toNat * 256))

/-- CRC-16 with polynomial 0x1021 from a given start value. -/
def crc16 (init : Nat) (bs : List Byte) : Nat := bs.foldl crc16Byte init

/-- A little-endian number from bytes. -/
def leBytes (bs : List Byte) : Nat := bs.foldr (fun b acc => b.toNat + 256 * acc) 0

/-- The `n` little-endian bytes of a number. -/
def toLe (n v : Nat) : List Byte := (List.range n).map fun i => BitVec.ofNat 8 (v / 256 ^ i)

/-- A big-endian number from bytes. -/
def beBytes (bs : List Byte) : Nat := bs.foldl (fun acc b => acc * 256 + b.toNat) 0

/-- Two BCD digits as a number, and whether each digit is at most 9. -/
def bcdByte (n : Nat) : Nat × Bool := (n / 16 % 16 * 10 + n % 16, n / 16 % 16 ≤ 9 && n % 16 ≤ 9)

/-- A number below 100 as two BCD digits. -/
def toBcd (n : Nat) : Nat := n / 10 % 10 * 16 + n % 10

/-- A number below 10,000 as four BCD digits. -/
def toBcd4 (n : Nat) : Nat := toBcd (n / 100) * 256 + toBcd (n % 100)

/-- A year of the Gregorian rule (R739). -/
def isLeap (y : Nat) : Bool := y % 4 == 0 && (y % 100 != 0 || y % 400 == 0)

/-- The length of a month (R738). -/
def monthDays (y m : Nat) : Nat :=
  if m = 2 then (if isLeap y then 29 else 28) else if m = 4 ∨ m = 6 ∨ m = 9 ∨ m = 11 then 30 else 31

/-- Days from 2000-01-01 to the first day of a year from 2000 on. -/
def daysToYear (y : Nat) : Nat :=
  (List.range (y - 2000)).foldl (fun acc k => acc + (if isLeap (2000 + k) then 366 else 365)) 0

/-- Days from 2000-01-01 to a date. -/
def dayNumber (y m d : Nat) : Nat :=
  daysToYear y + (List.range (m - 1)).foldl (fun acc k => acc + monthDays y (k + 1)) 0 + (d - 1)

end Sys2Proof.Machine
end

