-- ==== Sys2Proof/Machine/RegMap.lean ====
section
/-! DEFINITION. The internal register map (Table 0.3 and the register tables of every block chapter): one row per
register or array of registers, with its reset value and the bits of each access code (Table 0.5). A bit under no
access code is RO where a chapter gives it a meaning, and reserved otherwise; both ignore writes. -/

namespace Sys2Proof.Machine

/-- Register rows of the CKG region, part 0. DESIGN CHOICE (log entry 106): Table 4.3 fixes ÷48 for AON, for which Table 4.12
has no code, and gives XIN, IRC and WHF no divider; DIV of these reads 0. -/
def rowsCKG0 : List RegRow := [
  ⟨"CKG_XIN_CFG", 0x000000, 1, 4, 0x5DC0, 0xFFFF, 0x0, 0x0, 0x0, 0x0⟩,
  ⟨"CKG_IRC_TRIM", 0x000004, 1, 4, 0x0, 0x700, 0x0, 0x0, 0x0, 0x0⟩,
  ⟨"CKG_IRC_FRAME_NS", 0x000008, 1, 4, 0xFE502B, 0xFFFFFFFF, 0x0, 0x0, 0x0, 0x0⟩,
  ⟨"CKG_PLLS_CFG", 0x000010, 1, 4, 0x10C81, 0x37FFF, 0x0, 0x0, 0x0, 0x0⟩,
  ⟨"CKG_PLLS_FRAC", 0x000014, 1, 4, 0x0, 0xFFFFFF, 0x0, 0x0, 0x0, 0x0⟩,
  ⟨"CKG_PLLS_STAT", 0x000018, 1, 4, 0x0, 0x0, 0x0, 0x0, 0x0, 0x0⟩,
  ⟨"CKG_PLLM_CFG", 0x000020, 1, 4, 0xC81, 0x37FFF, 0x0, 0x0, 0x0, 0x0⟩,
  ⟨"CKG_PLLM_FRAC", 0x000024, 1, 4, 0x0, 0xFFFFFF, 0x0, 0x0, 0x0, 0x0⟩,
  ⟨"CKG_PLLM_STAT", 0x000028, 1, 4, 0x0, 0x0, 0x0, 0x0, 0x0, 0x0⟩,
  ⟨"CKG_PLLV_CFG", 0x000030, 1, 4, 0x30C61, 0x37FFF, 0x0, 0x0, 0x0, 0x0⟩,
  ⟨"CKG_PLLV_FRAC", 0x000034, 1, 4, 0x0, 0xFFFFFF, 0x0, 0x0, 0x0, 0x0⟩,
  ⟨"CKG_PLLV_STAT", 0x000038, 1, 4, 0x0, 0x0, 0x0, 0x0, 0x0, 0x0⟩,
  ⟨"CKG_PLLV_TRACK", 0x00003C, 1, 4, 0x64, 0xFF, 0x0, 0x0, 0x0, 0x0⟩,
  ⟨"CKG_PLLL_CFG", 0x000040, 1, 4, 0x20C81, 0x37FFF, 0x0, 0x0, 0x0, 0x0⟩,
  ⟨"CKG_PLLL_FRAC", 0x000044, 1, 4, 0x0, 0xFFFFFF, 0x0, 0x0, 0x0, 0x0⟩,
  ⟨"CKG_PLLL_STAT", 0x000048, 1, 4, 0x0, 0x0, 0x0, 0x0, 0x0, 0x0⟩,
  ⟨"CKG_RAMP_CTL", 0x000050, 1, 4, 0xA006414, 0xFFFFFFFF, 0x0, 0x0, 0x0, 0x0⟩,
  ⟨"CKG_PLL_CTL", 0x000054, 1, 4, 0xF0, 0xCF, 0x0, 0x0, 0x0, 0x0⟩,
  ⟨"CKG_ARITH", 0x0000F0, 1, 4, 0x0, 0x0, 0x0, 0x0, 0x80000000, 0x0⟩,
  ⟨"CKG_ARITH_CTL", 0x0000F4, 1, 4, 0x0, 0x0, 0x0, 0x0, 0x0, 0x0⟩,
  ⟨"CKG_DOM_XIN", 0x000100, 1, 4, 0x1, 0xB, 0x0, 0x0, 0x0, 0x0⟩,
  ⟨"CKG_DOM_IRC", 0x000104, 1, 4, 0x7, 0xF, 0x0, 0x0, 0x0, 0x0⟩,
  ⟨"CKG_DOM_AON", 0x000108, 1, 4, 0x7, 0xF, 0x0, 0x0, 0x0, 0x0⟩,
  ⟨"CKG_DOM_WHF", 0x00010C, 1, 4, 0x1, 0xB, 0x0, 0x0, 0x0, 0x0⟩,
  ⟨"CKG_DOM_SYS", 0x000110, 1, 4, 0x123, 0x3FB, 0x0, 0x0, 0x0, 0x0⟩,
  ⟨"CKG_DOM_MCC", 0x000114, 1, 4, 0x21, 0xB, 0x0, 0x0, 0x0, 0x0⟩,
  ⟨"CKG_DOM_MPH", 0x000118, 1, 4, 0x1, 0xB, 0x0, 0x0, 0x0, 0x0⟩,
  ⟨"CKG_DOM_PIX", 0x00011C, 1, 4, 0x11, 0xFB, 0x0, 0x0, 0x0, 0x0⟩,
  ⟨"CKG_DOM_ISP", 0x000120, 1, 4, 0x11, 0xFB, 0x0, 0x0, 0x0, 0x0⟩,
  ⟨"CKG_DOM_CMP", 0x000124, 1, 4, 0x11, 0xFB, 0x0, 0x0, 0x0, 0x0⟩,
  ⟨"CKG_DOM_SOA", 0x000128, 1, 4, 0x21, 0xFB, 0x0, 0x0, 0x0, 0x0⟩,
  ⟨"CKG_DOM_SOB", 0x00012C, 1, 4, 0x21, 0x10FB, 0x0, 0x0, 0x0, 0x0⟩,
  ⟨"CKG_DOM_MIF", 0x000130, 1, 4, 0x1, 0xFB, 0x0, 0x0, 0x0, 0x0⟩,
  ⟨"CKG_DOM_LTC", 0x000134, 1, 4, 0x1, 0xB, 0x0, 0x0, 0x0, 0x0⟩,
  ⟨"CKG_DOM_SPA", 0x000138, 1, 4, 0x1, 0xB, 0x0, 0x0, 0x0, 0x0⟩,
  ⟨"CKG_DOM_VIN", 0x00013C, 1, 4, 0x1, 0xB, 0x0, 0x0, 0x0, 0x0⟩,
  ⟨"CKG_DOM_CAM", 0x000140, 1, 4, 0x1, 0xB, 0x0, 0x0, 0x0, 0x0⟩,
  ⟨"CKG_DOM_RTX", 0x000144, 1, 4, 0x41, 0xFB, 0x0, 0x0, 0x0, 0x0⟩,
  ⟨"CKG_DOM_TWP", 0x000148, 1, 4, 0x13, 0xF0B, 0x0, 0x0, 0x0, 0x0⟩,
  ⟨"CKG_DOM_SHM", 0x00014C, 1, 4, 0x41, 0xB, 0x0, 0x0, 0x0, 0x0⟩]

/-- Register rows of the CKG region, part 1. -/
def rowsCKG1 : List RegRow := [
  ⟨"CKG_DOM_FLD", 0x000150, 1, 4, 0x151, 0x3FB, 0x0, 0x0, 0x0, 0x0⟩,
  ⟨"CKG_DOM_LKK", 0x000154, 1, 4, 0x7, 0xF, 0x0, 0x0, 0x0, 0x0⟩,
  ⟨"CKG_DOM_PDA", 0x000158, 1, 4, 0x11, 0xB, 0x0, 0x0, 0x0, 0x0⟩,
  ⟨"CKG_DOM_MFB", 0x00015C, 1, 4, 0x61, 0xB, 0x0, 0x0, 0x0, 0x0⟩,
  ⟨"CKG_DOM_TCK", 0x000160, 1, 4, 0x1, 0xB, 0x0, 0x0, 0x0, 0x0⟩,
  ⟨"CKG_ERR", 0x000200, 1, 4, 0x0, 0x0, 0x0, 0x0, 0x80000000, 0x0⟩,
  ⟨"CKG_FM0_CTL", 0x000300, 1, 4, 0x102, 0x1F1F, 0x0, 0x0, 0x0, 0x10000⟩,
  ⟨"CKG_FM0_GATE", 0x000304, 1, 4, 0x3E8, 0xFFFFFF, 0x0, 0x0, 0x0, 0x0⟩,
  ⟨"CKG_FM0_COUNT", 0x000308, 1, 4, 0x0, 0x0, 0x0, 0x0, 0x0, 0x0⟩,
  ⟨"CKG_FM1_CTL", 0x000310, 1, 4, 0x102, 0x1F1F, 0x0, 0x0, 0x0, 0x10000⟩,
  ⟨"CKG_FM1_GATE", 0x000314, 1, 4, 0x3E8, 0xFFFFFF, 0x0, 0x0, 0x0, 0x0⟩,
  ⟨"CKG_FM1_COUNT", 0x000318, 1, 4, 0x0, 0x0, 0x0, 0x0, 0x0, 0x0⟩,
  ⟨"CKG_MON_CTL", 0x000400, 1, 4, 0xAF169, 0xFFFFFF, 0x0, 0x0, 0x0, 0x0⟩,
  ⟨"CKG_MON_STAT", 0x000408, 1, 4, 0x0, 0x0, 0x0, 0x0, 0x80000000, 0x0⟩,
  ⟨"CKG_MON_GLITCH", 0x00040C, 1, 4, 0x0, 0x0, 0x0, 0x0, 0x0, 0x0⟩,
  ⟨"CKG_TB_SNAP", 0x000500, 1, 4, 0x0, 0x0, 0x0, 0x0, 0x0, 0x1⟩,
  ⟨"CKG_TB_SNAP_LO", 0x000504, 1, 4, 0x0, 0x0, 0x0, 0x0, 0x0, 0x0⟩,
  ⟨"CKG_TB_SNAP_HI", 0x000508, 1, 4, 0x0, 0x0, 0x0, 0x0, 0x0, 0x0⟩,
  ⟨"CKG_TB_INC", 0x00050C, 1, 4, 0x29AAAAAB, 0xFFFFFFFF, 0x0, 0x0, 0x0, 0x0⟩,
  ⟨"CKG_TB_IRC_INC", 0x000510, 1, 4, 0x14D55555, 0xFFFFFFFF, 0x0, 0x0, 0x0, 0x0⟩,
  ⟨"CKG_TB_STAT", 0x000514, 1, 4, 0x0, 0x0, 0x0, 0x0, 0x0, 0x0⟩]

/-- Register rows of the CKG region. -/
def rowsCKG : List RegRow :=
  rowsCKG0 ++ rowsCKG1

/-- Register rows of the PWR region, part 0. -/
def rowsPWR0 : List RegRow := [
  ⟨"PWR_SEQ_CTL", 0x010000, 1, 4, 0x11014, 0x3FF7F, 0x0, 0x0, 0x0, 0x0⟩,
  ⟨"PWR_STBY_CTL", 0x010004, 1, 4, 0x0, 0x3, 0x0, 0x0, 0x0, 0x0⟩,
  ⟨"PWR_REG_CFG", 0x010010, 4, 4, 0x50A00, 0xFFFF03, 0x0, 0x0, 0x0, 0x0⟩,
  ⟨"PWR_PDREQ_LO", 0x010020, 1, 4, 0x0, 0xFFFFFFFF, 0x0, 0x0, 0x0, 0x0⟩,
  ⟨"PWR_PDREQ_HI", 0x010024, 1, 4, 0x0, 0xFFFFF, 0x0, 0x0, 0x0, 0x0⟩,
  ⟨"PWR_PDSTAT", 0x010030, 4, 4, 0x0, 0x0, 0x0, 0x0, 0x0, 0x0⟩,
  ⟨"PWR_ERR", 0x010040, 1, 4, 0x0, 0x0, 0x0, 0x0, 0x80000000, 0x0⟩,
  ⟨"PWR_WAKE_STAT", 0x010050, 1, 4, 0x0, 0x0, 0x0, 0x0, 0x0, 0x0⟩,
  ⟨"PWR_PINMUX", 0x010060, 1, 4, 0x0, 0x0, 0x0, 0x1, 0x0, 0x0⟩,
  ⟨"PWR_PIN_STAT", 0x010064, 1, 4, 0x0, 0x0, 0x0, 0x0, 0x100, 0x0⟩,
  ⟨"PWR_GPIO", 0x010068, 1, 4, 0x0, 0x3, 0x0, 0x0, 0x0, 0x0⟩,
  ⟨"PWR_STRAP", 0x01006C, 1, 4, 0x0, 0x0, 0x0, 0x0, 0x0, 0x0⟩,
  ⟨"PWR_ARITH", 0x0100F0, 1, 4, 0x0, 0x0, 0x0, 0x0, 0x80000000, 0x0⟩,
  ⟨"PWR_ARITH_CTL", 0x0100F4, 1, 4, 0x0, 0x0, 0x0, 0x0, 0x0, 0x0⟩]

/-- Register rows of the PWR region. -/
def rowsPWR : List RegRow :=
  rowsPWR0

/-- Register rows of the LDR region, part 0. -/
def rowsLDR0 : List RegRow := [
  ⟨"LDR_STAT", 0x020000, 1, 4, 0x0, 0x0, 0x0, 0x0, 0x0, 0x0⟩,
  ⟨"LDR_FLASH_ID", 0x020004, 1, 4, 0x0, 0x0, 0x0, 0x0, 0x0, 0x0⟩,
  ⟨"LDR_IMG_VER", 0x020008, 1, 4, 0x0, 0x0, 0x0, 0x0, 0x0, 0x0⟩,
  ⟨"LDR_IMG_LEN", 0x02000C, 1, 4, 0x0, 0x0, 0x0, 0x0, 0x0, 0x0⟩,
  ⟨"LDR_ERR_POS", 0x020010, 1, 4, 0x0, 0x0, 0x0, 0x0, 0x0, 0x0⟩,
  ⟨"LDR_TIME", 0x020014, 1, 4, 0x0, 0x0, 0x0, 0x0, 0x0, 0x0⟩,
  ⟨"LDR_BIST_STAT", 0x020020, 1, 4, 0x0, 0x0, 0x0, 0x0, 0x0, 0x0⟩,
  ⟨"LDR_LANE", 0x020024, 1, 4, 0xF, 0x0, 0x0, 0x0, 0x0, 0x0⟩,
  ⟨"LDR_LEDGER_STAT", 0x020030, 1, 4, 0x0, 0x0, 0x0, 0x0, 0x0, 0x0⟩,
  ⟨"LDR_LEDGER_CTL", 0x020034, 1, 4, 0x132, 0x1FF, 0x0, 0x0, 0x0, 0x0⟩,
  ⟨"LDR_LEDGER_CNT", 0x020038, 1, 4, 0x0, 0x0, 0x0, 0x0, 0x0, 0x0⟩,
  ⟨"LDR_LEDGER_IDX", 0x02003C, 1, 4, 0x0, 0x7FF, 0x0, 0x0, 0x0, 0x0⟩,
  ⟨"LDR_LEDGER_REC", 0x020040, 8, 4, 0x0, 0x0, 0x0, 0x0, 0x0, 0x0⟩,
  ⟨"LDR_OTP_CTL", 0x020060, 1, 4, 0x0, 0x3F01, 0x0, 0x0, 0x0, 0x0⟩,
  ⟨"LDR_OTP_RD", 0x020064, 1, 4, 0x0, 0x0, 0x0, 0x0, 0x0, 0x0⟩,
  ⟨"LDR_OTP_PMASK", 0x020068, 1, 4, 0x0, 0xFFFFFFFF, 0x0, 0x0, 0x0, 0x0⟩,
  ⟨"LDR_OTP_STAT", 0x02006C, 1, 4, 0x0, 0x0, 0x0, 0x0, 0x0, 0x0⟩,
  ⟨"LDR_OTP_CONFLICT", 0x020070, 1, 4, 0x0, 0x0, 0x0, 0x0, 0x0, 0x0⟩,
  ⟨"LDR_OTP_VERIFY", 0x020074, 1, 4, 0x0, 0x0, 0x0, 0x0, 0x0, 0x0⟩,
  ⟨"LDR_ARITH", 0x0200F0, 1, 4, 0x0, 0x0, 0x0, 0x0, 0x80000000, 0x0⟩,
  ⟨"LDR_ARITH_CTL", 0x0200F4, 1, 4, 0x0, 0x0, 0x0, 0x0, 0x0, 0x0⟩,
  ⟨"LDR_FHOST_CMD", 0x020100, 1, 4, 0x0, 0xFF07, 0x0, 0x0, 0x0, 0x10000⟩,
  ⟨"LDR_FHOST_ADDR", 0x020104, 1, 4, 0x0, 0xFFFFFFFF, 0x0, 0x0, 0x0, 0x0⟩,
  ⟨"LDR_OTP_CUST", 0x020200, 32, 4, 0x0, 0xFFFFFFFF, 0x0, 0x0, 0x0, 0x0⟩,
  ⟨"LDR_FHOST_BUF", 0x020400, 64, 4, 0x0, 0xFFFFFFFF, 0x0, 0x0, 0x0, 0x0⟩]

/-- Register rows of the LDR region. -/
def rowsLDR : List RegRow :=
  rowsLDR0

/-- Register rows of the MCA region, part 0. -/
def rowsMCA0 : List RegRow := [
  ⟨"MCA_CFG", 0x040000, 1, 4, 0x404, 0xF70, 0x0, 0xF, 0x0, 0x0⟩,
  ⟨"MCA_INIT_CTL", 0x040004, 1, 4, 0x0, 0x0, 0x0, 0x0, 0x0, 0x1⟩,
  ⟨"MCA_STAT", 0x040008, 1, 4, 0x0, 0x0, 0x0, 0x0, 0x0, 0x0⟩,
  ⟨"MCA_MR", 0x040010, 7, 4, 0x0, 0x3FFF, 0x0, 0x0, 0x0, 0x0⟩,
  ⟨"MCA_TIM0", 0x040040, 1, 4, 0x10100C10, 0x3F3F3F3F, 0x0, 0x0, 0x0, 0x0⟩,
  ⟨"MCA_TIM1", 0x040044, 1, 4, 0x8073727, 0x3F3FFFFF, 0x0, 0x0, 0x0, 0x0⟩,
  ⟨"MCA_TIM2", 0x040048, 1, 4, 0x9126424, 0x3F3FFFFF, 0x0, 0x0, 0x0, 0x0⟩,
  ⟨"MCA_TIM3", 0x04004C, 1, 4, 0x2020903, 0xF0F1F1F, 0x0, 0x0, 0x0, 0x0⟩,
  ⟨"MCA_TIM4", 0x040050, 1, 4, 0x13801A4, 0x3FF03FF, 0x0, 0x0, 0x0, 0x0⟩,
  ⟨"MCA_TIM5", 0x040054, 1, 4, 0x1B02490, 0x3FFFFFF, 0x0, 0x0, 0x0, 0x0⟩,
  ⟨"MCA_TIM6", 0x040058, 1, 4, 0x6080300, 0xF0F0FFF, 0x0, 0x0, 0x0, 0x0⟩,
  ⟨"MCA_TIM7", 0x04005C, 1, 4, 0x80001808, 0xFF071F1F, 0x0, 0x0, 0x0, 0x0⟩,
  ⟨"MCA_REF_CTL", 0x040060, 1, 4, 0x80, 0xF3, 0x0, 0x0, 0x0, 0x0⟩,
  ⟨"MCA_ZQ_CTL", 0x040064, 1, 4, 0x80, 0xFF, 0x0, 0x0, 0x0, 0x0⟩,
  ⟨"MCA_WEIR_CTL", 0x040080, 1, 4, 0x14000, 0x3FFFF, 0x0, 0x0, 0x0, 0x80000000⟩,
  ⟨"MCA_WEIR_STAT", 0x040084, 1, 4, 0x0, 0x0, 0x0, 0x0, 0x0, 0x0⟩,
  ⟨"MCA_WEIR_IDX", 0x040088, 1, 4, 0x0, 0xFF, 0x0, 0x0, 0x0, 0x0⟩,
  ⟨"MCA_WEIR_ENT", 0x04008C, 1, 4, 0x0, 0x0, 0x0, 0x0, 0x0, 0x0⟩,
  ⟨"MCA_SLUICE_CFG", 0x0400A0, 1, 4, 0x10A14, 0x3FFFF, 0x0, 0x0, 0x0, 0x0⟩,
  ⟨"MCA_SLUICE_EXIT", 0x0400A4, 1, 4, 0x1900002, 0xFFF0FFF, 0x0, 0x0, 0x0, 0x0⟩,
  ⟨"MCA_SLUICE_STAT", 0x0400A8, 1, 4, 0xFFFF, 0x0, 0x0, 0x0, 0x0, 0x0⟩,
  ⟨"MCA_ARITH", 0x0400F0, 1, 4, 0x0, 0x0, 0x0, 0x0, 0x80000000, 0x0⟩,
  ⟨"MCA_ARITH_CTL", 0x0400F4, 1, 4, 0x0, 0x0, 0x0, 0x0, 0x0, 0x0⟩,
  ⟨"MCA_PHY_WLVL", 0x040100, 2, 16, 0x0, 0x7F, 0x0, 0x0, 0x0, 0x0⟩,
  ⟨"MCA_PHY_RGATE", 0x040104, 2, 16, 0x80, 0x1FF, 0x0, 0x0, 0x0, 0x0⟩,
  ⟨"MCA_PHY_RDQS", 0x040108, 2, 16, 0x10, 0x3F, 0x0, 0x0, 0x0, 0x0⟩,
  ⟨"MCA_PHY_WDQ", 0x04010C, 2, 16, 0x10, 0x7F, 0x0, 0x0, 0x0, 0x0⟩,
  ⟨"MCA_PHY_CA", 0x040120, 1, 4, 0x0, 0x7F, 0x0, 0x0, 0x0, 0x0⟩,
  ⟨"MCA_PHY_VREF", 0x040124, 1, 4, 0x28, 0x7F, 0x0, 0x0, 0x0, 0x0⟩,
  ⟨"MCA_SWEEP_CTL", 0x040140, 1, 4, 0xFF00, 0xFF06, 0x0, 0x0, 0x0, 0x1⟩,
  ⟨"MCA_SWEEP_ADDR", 0x040144, 1, 4, 0x0, 0xFFFFF, 0x0, 0x0, 0x0, 0x0⟩,
  ⟨"MCA_SWEEP_RES", 0x040148, 1, 4, 0x0, 0x0, 0x0, 0x0, 0x0, 0x0⟩,
  ⟨"MCA_QSTAT", 0x040160, 1, 4, 0x0, 0x0, 0x0, 0x0, 0x0, 0x0⟩,
  ⟨"MCA_ECC_CTL", 0x040200, 1, 4, 0x0, 0xFF01, 0x0, 0x0, 0x0, 0x0⟩,
  ⟨"MCA_ECC_STAT", 0x040204, 1, 4, 0x0, 0x0, 0x0, 0x0, 0x0, 0x0⟩,
  ⟨"MCA_CNT_A", 0x040210, 2, 8, 0x0, 0x0, 0x0, 0x0, 0x0, 0x0⟩,
  ⟨"MCA_CNT_B", 0x040214, 2, 8, 0x0, 0x0, 0x0, 0x0, 0x0, 0x0⟩,
  ⟨"MCA_ALERT_CNT", 0x040230, 1, 4, 0x0, 0x0, 0x0, 0x0, 0x0, 0x0⟩,
  ⟨"MCA_RETRY_CNT", 0x040234, 1, 4, 0x0, 0x0, 0x0, 0x0, 0x0, 0x0⟩,
  ⟨"MCA_RETRY_CTL", 0x040238, 1, 4, 0x330, 0xF7F, 0x0, 0x0, 0x0, 0x0⟩]

/-- Register rows of the MCA region, part 1. -/
def rowsMCA1 : List RegRow := [
  ⟨"MCA_CNT_CLR", 0x04023C, 1, 4, 0x0, 0x0, 0x0, 0x0, 0x0, 0x1⟩,
  ⟨"MCA_ERR_FIRST0", 0x040240, 1, 4, 0x0, 0x0, 0x0, 0x0, 0x0, 0x0⟩,
  ⟨"MCA_ERR_FIRST1", 0x040244, 1, 4, 0x0, 0x0, 0x0, 0x0, 0x0, 0x0⟩,
  ⟨"MCA_ERR_FIRST2", 0x040248, 1, 4, 0x0, 0x0, 0x0, 0x0, 0x80000000, 0x0⟩,
  ⟨"MCA_ERR_FIRST3", 0x04024C, 1, 4, 0x0, 0x0, 0x0, 0x0, 0x0, 0x0⟩,
  ⟨"MCA_ERR_FIRST4", 0x040250, 1, 4, 0x0, 0x0, 0x0, 0x0, 0x0, 0x0⟩,
  ⟨"MCA_ERR_LAST0", 0x040260, 1, 4, 0x0, 0x0, 0x0, 0x0, 0x0, 0x0⟩,
  ⟨"MCA_ERR_LAST1", 0x040264, 1, 4, 0x0, 0x0, 0x0, 0x0, 0x0, 0x0⟩,
  ⟨"MCA_ERR_LAST2", 0x040268, 1, 4, 0x0, 0x0, 0x0, 0x0, 0x0, 0x0⟩,
  ⟨"MCA_ERR_LAST3", 0x04026C, 1, 4, 0x0, 0x0, 0x0, 0x0, 0x0, 0x0⟩,
  ⟨"MCA_ERR_LAST4", 0x040270, 1, 4, 0x0, 0x0, 0x0, 0x0, 0x0, 0x0⟩,
  ⟨"MCA_PPR_CTL", 0x040280, 1, 4, 0x0, 0x2, 0x0, 0x0, 0x0, 0x1⟩,
  ⟨"MCA_PPR_ADDR", 0x040284, 1, 4, 0x0, 0xFFFFF, 0x0, 0x0, 0x0, 0x0⟩,
  ⟨"MCA_PPR_TIM", 0x040288, 1, 4, 0x642710, 0xFFFFFFFF, 0x0, 0x0, 0x0, 0x0⟩,
  ⟨"MCA_PPR_CAND", 0x040290, 8, 4, 0x0, 0x0, 0x0, 0x0, 0x0, 0x0⟩,
  ⟨"MCA_SNAP_IDX", 0x0402C0, 1, 4, 0x0, 0x1FF, 0x0, 0x0, 0x0, 0x0⟩,
  ⟨"MCA_SNAP_DATA", 0x0402C4, 1, 4, 0x0, 0x0, 0x0, 0x0, 0x0, 0x0⟩]

/-- Register rows of the MCA region. -/
def rowsMCA : List RegRow :=
  rowsMCA0 ++ rowsMCA1

/-- Register rows of the MCB region, part 0. -/
def rowsMCB0 : List RegRow := [
  ⟨"MCB_CFG", 0x050000, 1, 4, 0x404, 0xF70, 0x0, 0xF, 0x0, 0x0⟩,
  ⟨"MCB_INIT_CTL", 0x050004, 1, 4, 0x0, 0x0, 0x0, 0x0, 0x0, 0x1⟩,
  ⟨"MCB_STAT", 0x050008, 1, 4, 0x0, 0x0, 0x0, 0x0, 0x0, 0x0⟩,
  ⟨"MCB_MR", 0x050010, 7, 4, 0x0, 0x3FFF, 0x0, 0x0, 0x0, 0x0⟩,
  ⟨"MCB_TIM0", 0x050040, 1, 4, 0x10100C10, 0x3F3F3F3F, 0x0, 0x0, 0x0, 0x0⟩,
  ⟨"MCB_TIM1", 0x050044, 1, 4, 0x8073727, 0x3F3FFFFF, 0x0, 0x0, 0x0, 0x0⟩,
  ⟨"MCB_TIM2", 0x050048, 1, 4, 0x9126424, 0x3F3FFFFF, 0x0, 0x0, 0x0, 0x0⟩,
  ⟨"MCB_TIM3", 0x05004C, 1, 4, 0x2020903, 0xF0F1F1F, 0x0, 0x0, 0x0, 0x0⟩,
  ⟨"MCB_TIM4", 0x050050, 1, 4, 0x13801A4, 0x3FF03FF, 0x0, 0x0, 0x0, 0x0⟩,
  ⟨"MCB_TIM5", 0x050054, 1, 4, 0x1B02490, 0x3FFFFFF, 0x0, 0x0, 0x0, 0x0⟩,
  ⟨"MCB_TIM6", 0x050058, 1, 4, 0x6080300, 0xF0F0FFF, 0x0, 0x0, 0x0, 0x0⟩,
  ⟨"MCB_TIM7", 0x05005C, 1, 4, 0x80001808, 0xFF071F1F, 0x0, 0x0, 0x0, 0x0⟩,
  ⟨"MCB_REF_CTL", 0x050060, 1, 4, 0x80, 0xF3, 0x0, 0x0, 0x0, 0x0⟩,
  ⟨"MCB_ZQ_CTL", 0x050064, 1, 4, 0x80, 0xFF, 0x0, 0x0, 0x0, 0x0⟩,
  ⟨"MCB_WEIR_CTL", 0x050080, 1, 4, 0x14000, 0x3FFFF, 0x0, 0x0, 0x0, 0x80000000⟩,
  ⟨"MCB_WEIR_STAT", 0x050084, 1, 4, 0x0, 0x0, 0x0, 0x0, 0x0, 0x0⟩,
  ⟨"MCB_WEIR_IDX", 0x050088, 1, 4, 0x0, 0xFF, 0x0, 0x0, 0x0, 0x0⟩,
  ⟨"MCB_WEIR_ENT", 0x05008C, 1, 4, 0x0, 0x0, 0x0, 0x0, 0x0, 0x0⟩,
  ⟨"MCB_SLUICE_CFG", 0x0500A0, 1, 4, 0x10A14, 0x3FFFF, 0x0, 0x0, 0x0, 0x0⟩,
  ⟨"MCB_SLUICE_EXIT", 0x0500A4, 1, 4, 0x1900002, 0xFFF0FFF, 0x0, 0x0, 0x0, 0x0⟩,
  ⟨"MCB_SLUICE_STAT", 0x0500A8, 1, 4, 0xFFFF, 0x0, 0x0, 0x0, 0x0, 0x0⟩,
  ⟨"MCB_ARITH", 0x0500F0, 1, 4, 0x0, 0x0, 0x0, 0x0, 0x80000000, 0x0⟩,
  ⟨"MCB_ARITH_CTL", 0x0500F4, 1, 4, 0x0, 0x0, 0x0, 0x0, 0x0, 0x0⟩,
  ⟨"MCB_PHY_WLVL", 0x050100, 2, 16, 0x0, 0x7F, 0x0, 0x0, 0x0, 0x0⟩,
  ⟨"MCB_PHY_RGATE", 0x050104, 2, 16, 0x80, 0x1FF, 0x0, 0x0, 0x0, 0x0⟩,
  ⟨"MCB_PHY_RDQS", 0x050108, 2, 16, 0x10, 0x3F, 0x0, 0x0, 0x0, 0x0⟩,
  ⟨"MCB_PHY_WDQ", 0x05010C, 2, 16, 0x10, 0x7F, 0x0, 0x0, 0x0, 0x0⟩,
  ⟨"MCB_PHY_CA", 0x050120, 1, 4, 0x0, 0x7F, 0x0, 0x0, 0x0, 0x0⟩,
  ⟨"MCB_PHY_VREF", 0x050124, 1, 4, 0x28, 0x7F, 0x0, 0x0, 0x0, 0x0⟩,
  ⟨"MCB_SWEEP_CTL", 0x050140, 1, 4, 0xFF00, 0xFF06, 0x0, 0x0, 0x0, 0x1⟩,
  ⟨"MCB_SWEEP_ADDR", 0x050144, 1, 4, 0x0, 0xFFFFF, 0x0, 0x0, 0x0, 0x0⟩,
  ⟨"MCB_SWEEP_RES", 0x050148, 1, 4, 0x0, 0x0, 0x0, 0x0, 0x0, 0x0⟩,
  ⟨"MCB_QSTAT", 0x050160, 1, 4, 0x0, 0x0, 0x0, 0x0, 0x0, 0x0⟩,
  ⟨"MCB_ECC_CTL", 0x050200, 1, 4, 0x0, 0xFF01, 0x0, 0x0, 0x0, 0x0⟩,
  ⟨"MCB_ECC_STAT", 0x050204, 1, 4, 0x0, 0x0, 0x0, 0x0, 0x0, 0x0⟩,
  ⟨"MCB_CNT_A", 0x050210, 2, 8, 0x0, 0x0, 0x0, 0x0, 0x0, 0x0⟩,
  ⟨"MCB_CNT_B", 0x050214, 2, 8, 0x0, 0x0, 0x0, 0x0, 0x0, 0x0⟩,
  ⟨"MCB_ALERT_CNT", 0x050230, 1, 4, 0x0, 0x0, 0x0, 0x0, 0x0, 0x0⟩,
  ⟨"MCB_RETRY_CNT", 0x050234, 1, 4, 0x0, 0x0, 0x0, 0x0, 0x0, 0x0⟩,
  ⟨"MCB_RETRY_CTL", 0x050238, 1, 4, 0x330, 0xF7F, 0x0, 0x0, 0x0, 0x0⟩]

/-- Register rows of the MCB region, part 1. -/
def rowsMCB1 : List RegRow := [
  ⟨"MCB_CNT_CLR", 0x05023C, 1, 4, 0x0, 0x0, 0x0, 0x0, 0x0, 0x1⟩,
  ⟨"MCB_ERR_FIRST0", 0x050240, 1, 4, 0x0, 0x0, 0x0, 0x0, 0x0, 0x0⟩,
  ⟨"MCB_ERR_FIRST1", 0x050244, 1, 4, 0x0, 0x0, 0x0, 0x0, 0x0, 0x0⟩,
  ⟨"MCB_ERR_FIRST2", 0x050248, 1, 4, 0x0, 0x0, 0x0, 0x0, 0x80000000, 0x0⟩,
  ⟨"MCB_ERR_FIRST3", 0x05024C, 1, 4, 0x0, 0x0, 0x0, 0x0, 0x0, 0x0⟩,
  ⟨"MCB_ERR_FIRST4", 0x050250, 1, 4, 0x0, 0x0, 0x0, 0x0, 0x0, 0x0⟩,
  ⟨"MCB_ERR_LAST0", 0x050260, 1, 4, 0x0, 0x0, 0x0, 0x0, 0x0, 0x0⟩,
  ⟨"MCB_ERR_LAST1", 0x050264, 1, 4, 0x0, 0x0, 0x0, 0x0, 0x0, 0x0⟩,
  ⟨"MCB_ERR_LAST2", 0x050268, 1, 4, 0x0, 0x0, 0x0, 0x0, 0x0, 0x0⟩,
  ⟨"MCB_ERR_LAST3", 0x05026C, 1, 4, 0x0, 0x0, 0x0, 0x0, 0x0, 0x0⟩,
  ⟨"MCB_ERR_LAST4", 0x050270, 1, 4, 0x0, 0x0, 0x0, 0x0, 0x0, 0x0⟩,
  ⟨"MCB_PPR_CTL", 0x050280, 1, 4, 0x0, 0x2, 0x0, 0x0, 0x0, 0x1⟩,
  ⟨"MCB_PPR_ADDR", 0x050284, 1, 4, 0x0, 0xFFFFF, 0x0, 0x0, 0x0, 0x0⟩,
  ⟨"MCB_PPR_TIM", 0x050288, 1, 4, 0x642710, 0xFFFFFFFF, 0x0, 0x0, 0x0, 0x0⟩,
  ⟨"MCB_PPR_CAND", 0x050290, 8, 4, 0x0, 0x0, 0x0, 0x0, 0x0, 0x0⟩,
  ⟨"MCB_SNAP_IDX", 0x0502C0, 1, 4, 0x0, 0x1FF, 0x0, 0x0, 0x0, 0x0⟩,
  ⟨"MCB_SNAP_DATA", 0x0502C4, 1, 4, 0x0, 0x0, 0x0, 0x0, 0x0, 0x0⟩]

/-- Register rows of the MCB region. -/
def rowsMCB : List RegRow :=
  rowsMCB0 ++ rowsMCB1

/-- Register rows of the MCX region, part 0. -/
def rowsMCX0 : List RegRow := [
  ⟨"MCX_MAP_CTL", 0x060000, 1, 4, 0x0, 0x0, 0x0, 0x0, 0x0, 0x1⟩,
  ⟨"MCX_MAP_STAT", 0x060004, 1, 4, 0x0, 0x0, 0x0, 0x0, 0x0, 0x0⟩,
  ⟨"MCX_HASH_CH", 0x060010, 1, 4, 0x0, 0x0, 0x0, 0xFFFF, 0x0, 0x0⟩,
  ⟨"MCX_HASH_BG0", 0x060014, 1, 4, 0x0, 0x0, 0x0, 0xFFFF, 0x0, 0x0⟩,
  ⟨"MCX_HASH_BA0", 0x060018, 1, 4, 0x0, 0x0, 0x0, 0xFFFF, 0x0, 0x0⟩,
  ⟨"MCX_HASH_BA1", 0x06001C, 1, 4, 0x0, 0x0, 0x0, 0xFFFF, 0x0, 0x0⟩,
  ⟨"MCX_PORT_CFG0", 0x060040, 1, 4, 0x11010, 0x3FF, 0x0, 0x0, 0x0, 0x0⟩,
  ⟨"MCX_PORT_CFG1", 0x060044, 1, 4, 0x21010, 0x3FF, 0x0, 0x0, 0x0, 0x0⟩,
  ⟨"MCX_PORT_CFG2", 0x060048, 1, 4, 0x11010, 0x303FF, 0x0, 0x0, 0x0, 0x0⟩,
  ⟨"MCX_PORT_CFG3", 0x06004C, 1, 4, 0x11010, 0x303FF, 0x0, 0x0, 0x0, 0x0⟩,
  ⟨"MCX_PORT_CFG4", 0x060050, 1, 4, 0x11010, 0x303FF, 0x0, 0x0, 0x0, 0x0⟩,
  ⟨"MCX_PORT_CFG5", 0x060054, 1, 4, 0x11010, 0x303FF, 0x0, 0x0, 0x0, 0x0⟩,
  ⟨"MCX_PORT_CFG6", 0x060058, 1, 4, 0x11010, 0x303FF, 0x0, 0x0, 0x0, 0x0⟩,
  ⟨"MCX_PORT_CFG7", 0x06005C, 1, 4, 0x2040, 0x3FF, 0x0, 0x0, 0x0, 0x0⟩,
  ⟨"MCX_PORT_CFG8", 0x060060, 1, 4, 0x2040, 0x3FF, 0x0, 0x0, 0x0, 0x0⟩,
  ⟨"MCX_PORT_CFG9", 0x060064, 1, 4, 0x2040, 0x3FF, 0x0, 0x0, 0x0, 0x0⟩,
  ⟨"MCX_PORT_CFG10", 0x060068, 1, 4, 0x3100, 0x3FF, 0x0, 0x0, 0x0, 0x0⟩,
  ⟨"MCX_PORT_CFG11", 0x06006C, 1, 4, 0x3100, 0x3FF, 0x0, 0x0, 0x0, 0x0⟩,
  ⟨"MCX_SCHED_CTL", 0x060080, 1, 4, 0x4400818, 0x3FFF3F3F, 0x0, 0x0, 0x0, 0x0⟩,
  ⟨"MCX_ERR", 0x060090, 1, 4, 0x0, 0x0, 0x0, 0x0, 0x80000000, 0x0⟩,
  ⟨"MCX_ARITH", 0x0600F0, 1, 4, 0x0, 0x0, 0x0, 0x0, 0x80000000, 0x0⟩,
  ⟨"MCX_ARITH_CTL", 0x0600F4, 1, 4, 0x0, 0x0, 0x0, 0x0, 0x0, 0x0⟩,
  ⟨"MCX_PORT_LINES_LO", 0x060100, 12, 8, 0x0, 0x0, 0x0, 0x0, 0x0, 0x0⟩,
  ⟨"MCX_PORT_LINES_HI", 0x060104, 12, 8, 0x0, 0x0, 0x0, 0x0, 0x0, 0x0⟩,
  ⟨"MCX_PORT_WAIT", 0x060180, 12, 4, 0x0, 0x0, 0x0, 0x0, 0x0, 0x80000000⟩,
  ⟨"MCX_PORT_DROP", 0x0601C0, 12, 4, 0x0, 0x0, 0x0, 0x0, 0x0, 0x0⟩,
  ⟨"MCX_SCRUB_CTL", 0x060400, 1, 4, 0x201401, 0xFFFFFF01, 0x0, 0x0, 0x0, 0x0⟩,
  ⟨"MCX_SCRUB_POS", 0x060408, 2, 4, 0x0, 0x0, 0x0, 0x0, 0x0, 0x0⟩,
  ⟨"MCX_SCRUB_PASS", 0x060410, 2, 4, 0x0, 0x0, 0x0, 0x0, 0x0, 0x0⟩,
  ⟨"MCX_MIG_CTL", 0x060420, 1, 4, 0x280000, 0xFFFF0000, 0x0, 0x0, 0x0, 0xF⟩,
  ⟨"MCX_MIG_STAT", 0x060424, 2, 4, 0x0, 0x0, 0x0, 0x0, 0x0, 0x0⟩,
  ⟨"MCX_CRIT_BASE", 0x060440, 8, 8, 0x0, 0xFFFFF001, 0x0, 0x0, 0x0, 0x0⟩,
  ⟨"MCX_CRIT_LIM", 0x060444, 8, 8, 0x0, 0xFFFFF000, 0x0, 0x0, 0x0, 0x0⟩]

/-- Register rows of the MCX region. -/
def rowsMCX : List RegRow :=
  rowsMCX0

/-- Register rows of the VIN region, part 0. -/
def rowsVIN0 : List RegRow := [
  ⟨"VIN_CFG", 0x080000, 1, 4, 0x20, 0x7F, 0x0, 0x0, 0x0, 0x0⟩,
  ⟨"VIN_LINK_STAT", 0x080004, 1, 4, 0x0, 0x0, 0x0, 0x0, 0x10000, 0x0⟩,
  ⟨"VIN_TIMING_EXP", 0x080008, 1, 4, 0x4380780, 0xFFFFFFFF, 0x0, 0x0, 0x0, 0x0⟩,
  ⟨"VIN_MEAS_ACT", 0x08000C, 1, 4, 0x0, 0x0, 0x0, 0x0, 0x0, 0x0⟩,
  ⟨"VIN_MEAS_TOT", 0x080010, 1, 4, 0x0, 0x0, 0x0, 0x0, 0x0, 0x0⟩,
  ⟨"VIN_MEAS_PERIOD", 0x080014, 1, 4, 0x0, 0x0, 0x0, 0x0, 0x0, 0x0⟩,
  ⟨"VIN_CAP_CTL", 0x080020, 1, 4, 0x20, 0xFF, 0x0, 0x0, 0x0, 0x0⟩,
  ⟨"VIN_CAP_STRIDE", 0x080024, 1, 4, 0x0, 0xFFFFFFFF, 0x0, 0x0, 0x0, 0x0⟩,
  ⟨"VIN_BUF_Y", 0x080030, 4, 16, 0x0, 0xFFFFFFFF, 0x0, 0x0, 0x0, 0x0⟩,
  ⟨"VIN_BUF_C0", 0x080034, 4, 16, 0x0, 0xFFFFFFFF, 0x0, 0x0, 0x0, 0x0⟩,
  ⟨"VIN_BUF_C1", 0x080038, 4, 16, 0x0, 0xFFFFFFFF, 0x0, 0x0, 0x0, 0x0⟩,
  ⟨"VIN_CAP_STAT", 0x080070, 1, 4, 0x0, 0x0, 0x0, 0x0, 0x0, 0x0⟩,
  ⟨"VIN_CAP_CNT0", 0x080074, 1, 4, 0x0, 0x0, 0x0, 0x0, 0x0, 0x0⟩,
  ⟨"VIN_CAP_CNT1", 0x080078, 1, 4, 0x0, 0x0, 0x0, 0x0, 0x0, 0x0⟩,
  ⟨"VIN_CSC_M0", 0x080080, 1, 4, 0x1000, 0x7FFF, 0x0, 0x0, 0x0, 0x0⟩,
  ⟨"VIN_CSC_M1", 0x080084, 1, 4, 0x0, 0x7FFF, 0x0, 0x0, 0x0, 0x0⟩,
  ⟨"VIN_CSC_M2", 0x080088, 1, 4, 0x0, 0x7FFF, 0x0, 0x0, 0x0, 0x0⟩,
  ⟨"VIN_CSC_M3", 0x08008C, 1, 4, 0x0, 0x7FFF, 0x0, 0x0, 0x0, 0x0⟩,
  ⟨"VIN_CSC_M4", 0x080090, 1, 4, 0x1000, 0x7FFF, 0x0, 0x0, 0x0, 0x0⟩,
  ⟨"VIN_CSC_M5", 0x080094, 1, 4, 0x0, 0x7FFF, 0x0, 0x0, 0x0, 0x0⟩,
  ⟨"VIN_CSC_M6", 0x080098, 1, 4, 0x0, 0x7FFF, 0x0, 0x0, 0x0, 0x0⟩,
  ⟨"VIN_CSC_M7", 0x08009C, 1, 4, 0x0, 0x7FFF, 0x0, 0x0, 0x0, 0x0⟩,
  ⟨"VIN_CSC_M8", 0x0800A0, 1, 4, 0x1000, 0x7FFF, 0x0, 0x0, 0x0, 0x0⟩,
  ⟨"VIN_CSC_O", 0x0800A4, 3, 4, 0x0, 0x1FFF, 0x0, 0x0, 0x0, 0x0⟩,
  ⟨"VIN_LOCK_CTL", 0x0800C0, 1, 4, 0x108000, 0xFFFF07, 0x0, 0x0, 0x0, 0x0⟩,
  ⟨"VIN_LOCK_OFS", 0x0800C4, 1, 4, 0x0, 0xFFFFFFFF, 0x0, 0x0, 0x0, 0x0⟩,
  ⟨"VIN_LOCK_THR", 0x0800C8, 1, 4, 0x7D0, 0xFFFF, 0x0, 0x0, 0x0, 0x0⟩,
  ⟨"VIN_LOCK_STAT", 0x0800CC, 1, 4, 0x0, 0x0, 0x0, 0x0, 0x0, 0x0⟩,
  ⟨"VIN_LOCK_ERR", 0x0800D0, 1, 4, 0x0, 0x0, 0x0, 0x0, 0x0, 0x0⟩,
  ⟨"VIN_LOCK_I", 0x0800D4, 1, 4, 0x0, 0x0, 0x0, 0x0, 0x0, 0x0⟩,
  ⟨"VIN_CNT_CLR", 0x0800E0, 1, 4, 0x0, 0x0, 0x0, 0x0, 0x0, 0x1⟩,
  ⟨"VIN_ARITH", 0x0800F0, 1, 4, 0x0, 0x0, 0x0, 0x0, 0x80000000, 0x0⟩,
  ⟨"VIN_ARITH_CTL", 0x0800F4, 1, 4, 0x0, 0x0, 0x0, 0x0, 0x0, 0x0⟩,
  ⟨"VIN_BRG_CTL", 0x080100, 1, 4, 0x0, 0x1, 0x0, 0x0, 0x0, 0x2⟩,
  ⟨"VIN_BRG_STAT", 0x080104, 1, 4, 0x0, 0x0, 0x0, 0x0, 0x0, 0x0⟩,
  ⟨"VIN_BRG_CNT0", 0x080108, 1, 4, 0x0, 0x0, 0x0, 0x0, 0x0, 0x0⟩,
  ⟨"VIN_BRG_CNT1", 0x08010C, 1, 4, 0x0, 0x0, 0x0, 0x0, 0x0, 0x0⟩,
  ⟨"VIN_BRG_CNT2", 0x080110, 1, 4, 0x0, 0x0, 0x0, 0x0, 0x0, 0x0⟩,
  ⟨"VIN_BRG_CNT3", 0x080114, 1, 4, 0x0, 0x0, 0x0, 0x0, 0x0, 0x0⟩]

/-- Register rows of the VIN region. -/
def rowsVIN : List RegRow :=
  rowsVIN0

/-- Register rows of the CSI region, part 0. -/
def rowsCSI0 : List RegRow := [
  ⟨"CSI_CFG", 0x0A0000, 1, 4, 0xE400, 0xFF07, 0x0, 0x0, 0x0, 0x0⟩,
  ⟨"CSI_PHY_CFG", 0x0A0004, 1, 4, 0x78, 0xFF, 0x0, 0x0, 0x0, 0x0⟩,
  ⟨"CSI_PHY_STAT", 0x0A0008, 1, 4, 0x0, 0x0, 0x0, 0x0, 0x0, 0x0⟩,
  ⟨"CSI_ERR_CNT0", 0x0A000C, 1, 4, 0x0, 0x0, 0x0, 0x0, 0x0, 0x0⟩,
  ⟨"CSI_ERR_CNT1", 0x0A0010, 1, 4, 0x0, 0x0, 0x0, 0x0, 0x0, 0x0⟩,
  ⟨"CSI_SHARE", 0x0A0040, 1, 4, 0x800, 0x3F03, 0x0, 0x0, 0x0, 0x0⟩,
  ⟨"CSI_SHARE_STAT", 0x0A0044, 1, 4, 0x0, 0x0, 0x0, 0x0, 0x80000000, 0x0⟩,
  ⟨"CSI_CNT_CLR", 0x0A00E0, 1, 4, 0x0, 0x0, 0x0, 0x0, 0x0, 0x1⟩,
  ⟨"CSI_ARITH", 0x0A00F0, 1, 4, 0x0, 0x0, 0x0, 0x0, 0x80000000, 0x0⟩,
  ⟨"CSI_ARITH_CTL", 0x0A00F4, 1, 4, 0x0, 0x0, 0x0, 0x0, 0x0, 0x0⟩,
  ⟨"CSI_VC_CFG", 0x0A0100, 4, 64, 0x0, 0x77, 0x0, 0x0, 0x0, 0x0⟩,
  ⟨"CSI_VC_GEOM", 0x0A0104, 4, 64, 0x2D00500, 0x1FFF1FFF, 0x0, 0x0, 0x0, 0x0⟩,
  ⟨"CSI_VC_STAT", 0x0A0108, 4, 64, 0x0, 0x0, 0x0, 0x0, 0x0, 0x0⟩,
  ⟨"CSI_VC_CNT0", 0x0A010C, 4, 64, 0x0, 0x0, 0x0, 0x0, 0x0, 0x0⟩,
  ⟨"CSI_VC_CNT1", 0x0A0110, 4, 64, 0x0, 0x0, 0x0, 0x0, 0x0, 0x0⟩,
  ⟨"CSI_VC_CNT2", 0x0A0114, 4, 64, 0x0, 0x0, 0x0, 0x0, 0x0, 0x0⟩,
  ⟨"CSI_VC_CNT3", 0x0A0118, 4, 64, 0x0, 0x0, 0x0, 0x0, 0x0, 0x0⟩,
  ⟨"CSI_VC0_EMB", 0x0A0120, 8, 4, 0x0, 0x0, 0x0, 0x0, 0x0, 0x0⟩,
  ⟨"CSI_VC1_EMB", 0x0A0160, 8, 4, 0x0, 0x0, 0x0, 0x0, 0x0, 0x0⟩,
  ⟨"CSI_VC2_EMB", 0x0A01A0, 8, 4, 0x0, 0x0, 0x0, 0x0, 0x0, 0x0⟩,
  ⟨"CSI_VC3_EMB", 0x0A01E0, 8, 4, 0x0, 0x0, 0x0, 0x0, 0x0, 0x0⟩]

/-- Register rows of the CSI region. -/
def rowsCSI : List RegRow :=
  rowsCSI0

/-- Register rows of the ISP0 region, part 0. -/
def rowsISP00 : List RegRow := [
  ⟨"ISP0_CTL", 0x0B0000, 1, 4, 0x0, 0x3, 0x0, 0x0, 0x0, 0x0⟩,
  ⟨"ISP0_STAT", 0x0B0004, 1, 4, 0x0, 0x0, 0x0, 0x0, 0x0, 0x0⟩,
  ⟨"ISP0_STAT_SEL", 0x0B0010, 1, 4, 0x0, 0xFFF, 0x0, 0x0, 0x0, 0x0⟩,
  ⟨"ISP0_STAT_DATA", 0x0B0014, 1, 4, 0x0, 0x0, 0x0, 0x0, 0x0, 0x0⟩,
  ⟨"ISP0_STAT_TAG", 0x0B0018, 1, 4, 0x0, 0x0, 0x0, 0x0, 0x0, 0x0⟩,
  ⟨"ISP0_STAT_LOST", 0x0B001C, 1, 4, 0x0, 0x0, 0x0, 0x0, 0x0, 0x0⟩,
  ⟨"ISP0_PROX_STAT", 0x0B0020, 4, 4, 0x0, 0x0, 0x0, 0x0, 0x0, 0x0⟩,
  ⟨"ISP0_CNT_CLR", 0x0B00E0, 1, 4, 0x0, 0x0, 0x0, 0x0, 0x0, 0x1⟩,
  ⟨"ISP0_ARITH", 0x0B00F0, 1, 4, 0x0, 0x0, 0x0, 0x0, 0x80000000, 0x0⟩,
  ⟨"ISP0_ARITH_CTL", 0x0B00F4, 1, 4, 0x0, 0x0, 0x3, 0x0, 0x0, 0x0⟩,
  ⟨"ISP0_OUT_CNT", 0x0B0100, 4, 4, 0x0, 0x0, 0x0, 0x0, 0x0, 0x0⟩,
  ⟨"ISP0_C0_MOSAIC", 0x0B1000, 1, 4, 0x0, 0x0, 0xF7, 0x0, 0x0, 0x0⟩,
  ⟨"ISP0_C0_BLACK0", 0x0B1004, 1, 4, 0x0, 0x0, 0xFFF0FFF, 0x0, 0x0, 0x0⟩,
  ⟨"ISP0_C0_BLACK1", 0x0B1008, 1, 4, 0x0, 0x0, 0xFFF0FFF, 0x0, 0x0, 0x0⟩,
  ⟨"ISP0_C0_WB0", 0x0B100C, 1, 4, 0x40004000, 0x0, 0xFFFFFFFF, 0x0, 0x0, 0x0⟩,
  ⟨"ISP0_C0_WB1", 0x0B1010, 1, 4, 0x40004000, 0x0, 0xFFFFFFFF, 0x0, 0x0, 0x0⟩,
  ⟨"ISP0_C0_IRM0", 0x0B1020, 1, 4, 0x1000, 0x0, 0x7FFF, 0x0, 0x0, 0x0⟩,
  ⟨"ISP0_C0_IRM1", 0x0B1024, 1, 4, 0x0, 0x0, 0x7FFF, 0x0, 0x0, 0x0⟩,
  ⟨"ISP0_C0_IRM2", 0x0B1028, 1, 4, 0x0, 0x0, 0x7FFF, 0x0, 0x0, 0x0⟩,
  ⟨"ISP0_C0_IRM3", 0x0B102C, 1, 4, 0x0, 0x0, 0x7FFF, 0x0, 0x0, 0x0⟩,
  ⟨"ISP0_C0_IRM4", 0x0B1030, 1, 4, 0x0, 0x0, 0x7FFF, 0x0, 0x0, 0x0⟩,
  ⟨"ISP0_C0_IRM5", 0x0B1034, 1, 4, 0x1000, 0x0, 0x7FFF, 0x0, 0x0, 0x0⟩,
  ⟨"ISP0_C0_IRM6", 0x0B1038, 1, 4, 0x0, 0x0, 0x7FFF, 0x0, 0x0, 0x0⟩,
  ⟨"ISP0_C0_IRM7", 0x0B103C, 1, 4, 0x0, 0x0, 0x7FFF, 0x0, 0x0, 0x0⟩,
  ⟨"ISP0_C0_IRM8", 0x0B1040, 1, 4, 0x0, 0x0, 0x7FFF, 0x0, 0x0, 0x0⟩,
  ⟨"ISP0_C0_IRM9", 0x0B1044, 1, 4, 0x0, 0x0, 0x7FFF, 0x0, 0x0, 0x0⟩,
  ⟨"ISP0_C0_IRM10", 0x0B1048, 1, 4, 0x1000, 0x0, 0x7FFF, 0x0, 0x0, 0x0⟩,
  ⟨"ISP0_C0_IRM11", 0x0B104C, 1, 4, 0x0, 0x0, 0x7FFF, 0x0, 0x0, 0x0⟩,
  ⟨"ISP0_C0_IRR0", 0x0B1050, 1, 4, 0x0, 0x0, 0x7FFF, 0x0, 0x0, 0x0⟩,
  ⟨"ISP0_C0_IRR1", 0x0B1054, 1, 4, 0x0, 0x0, 0x7FFF, 0x0, 0x0, 0x0⟩,
  ⟨"ISP0_C0_IRR2", 0x0B1058, 1, 4, 0x0, 0x0, 0x7FFF, 0x0, 0x0, 0x0⟩,
  ⟨"ISP0_C0_IRR3", 0x0B105C, 1, 4, 0x1000, 0x0, 0x7FFF, 0x0, 0x0, 0x0⟩,
  ⟨"ISP0_C0_CCM0", 0x0B1060, 1, 4, 0x1000, 0x0, 0x7FFF, 0x0, 0x0, 0x0⟩,
  ⟨"ISP0_C0_CCM1", 0x0B1064, 1, 4, 0x0, 0x0, 0x7FFF, 0x0, 0x0, 0x0⟩,
  ⟨"ISP0_C0_CCM2", 0x0B1068, 1, 4, 0x0, 0x0, 0x7FFF, 0x0, 0x0, 0x0⟩,
  ⟨"ISP0_C0_CCM3", 0x0B106C, 1, 4, 0x0, 0x0, 0x7FFF, 0x0, 0x0, 0x0⟩,
  ⟨"ISP0_C0_CCM4", 0x0B1070, 1, 4, 0x1000, 0x0, 0x7FFF, 0x0, 0x0, 0x0⟩,
  ⟨"ISP0_C0_CCM5", 0x0B1074, 1, 4, 0x0, 0x0, 0x7FFF, 0x0, 0x0, 0x0⟩,
  ⟨"ISP0_C0_CCM6", 0x0B1078, 1, 4, 0x0, 0x0, 0x7FFF, 0x0, 0x0, 0x0⟩,
  ⟨"ISP0_C0_CCM7", 0x0B107C, 1, 4, 0x0, 0x0, 0x7FFF, 0x0, 0x0, 0x0⟩]

/-- Register rows of the ISP0 region, part 1. -/
def rowsISP01 : List RegRow := [
  ⟨"ISP0_C0_CCM8", 0x0B1080, 1, 4, 0x1000, 0x0, 0x7FFF, 0x0, 0x0, 0x0⟩,
  ⟨"ISP0_C0_CCM_OFS", 0x0B1084, 3, 4, 0x0, 0x0, 0x1FFF, 0x0, 0x0, 0x0⟩,
  ⟨"ISP0_C0_STAT_WIN", 0x0B1090, 1, 4, 0x0, 0x0, 0xFFF0FFF, 0x0, 0x0, 0x0⟩,
  ⟨"ISP0_C0_STAT_ZONE", 0x0B1094, 1, 4, 0x3C0050, 0x0, 0x1FF01FF, 0x0, 0x0, 0x0⟩,
  ⟨"ISP0_C0_STAT_CORE", 0x0B1098, 1, 4, 0x0, 0x0, 0xFFFFFFFF, 0x0, 0x0, 0x0⟩,
  ⟨"ISP0_C0_PROX_CTL", 0x0B10A0, 1, 4, 0xFFF, 0x0, 0x0, 0x13FFF, 0x0, 0x0⟩,
  ⟨"ISP0_C0_PROX_TMO", 0x0B10A4, 1, 4, 0x64, 0x0, 0x0, 0xFFFF, 0x0, 0x0⟩,
  ⟨"ISP0_C0_PROX_MASK", 0x0B10B0, 6, 4, 0xFFFFFFFF, 0x0, 0x0, 0xFFFFFFFF, 0x0, 0x0⟩,
  ⟨"ISP0_C0_OUT_CTL", 0x0B1100, 1, 4, 0x2200, 0x0, 0x1337F, 0x0, 0x0, 0x0⟩,
  ⟨"ISP0_C0_DISP_STRIDE", 0x0B1104, 1, 4, 0x0, 0x0, 0xFFFFFFFF, 0x0, 0x0, 0x0⟩,
  ⟨"ISP0_C0_COD_STRIDE", 0x0B1108, 1, 4, 0x0, 0x0, 0xFFFFFFFF, 0x0, 0x0, 0x0⟩,
  ⟨"ISP0_C0_VIS_STRIDE", 0x0B110C, 1, 4, 0x0, 0x0, 0xFFFFFFFF, 0x0, 0x0, 0x0⟩,
  ⟨"ISP0_C0_BUF_DISP_Y", 0x0B1110, 4, 32, 0x0, 0x0, 0xFFFFFFFF, 0x0, 0x0, 0x0⟩,
  ⟨"ISP0_C0_BUF_DISP_C0", 0x0B1114, 4, 32, 0x0, 0x0, 0xFFFFFFFF, 0x0, 0x0, 0x0⟩,
  ⟨"ISP0_C0_BUF_DISP_C1", 0x0B1118, 4, 32, 0x0, 0x0, 0xFFFFFFFF, 0x0, 0x0, 0x0⟩,
  ⟨"ISP0_C0_BUF_COD_Y", 0x0B111C, 4, 32, 0x0, 0x0, 0xFFFFFFFF, 0x0, 0x0, 0x0⟩,
  ⟨"ISP0_C0_BUF_COD_C", 0x0B1120, 4, 32, 0x0, 0x0, 0xFFFFFFFF, 0x0, 0x0, 0x0⟩,
  ⟨"ISP0_C0_BUF_VIS_Y", 0x0B1124, 4, 32, 0x0, 0x0, 0xFFFFFFFF, 0x0, 0x0, 0x0⟩,
  ⟨"ISP0_C0_BUF_VIS_IR", 0x0B1128, 4, 32, 0x0, 0x0, 0xFFFFFFFF, 0x0, 0x0, 0x0⟩,
  ⟨"ISP0_C0_OUT_STAT", 0x0B1190, 1, 4, 0x0, 0x0, 0x0, 0x0, 0x0, 0x0⟩,
  ⟨"ISP0_C0_TONE", 0x0B1400, 257, 4, 0x0, 0x0, 0xFFF, 0x0, 0x0, 0x0⟩,
  ⟨"ISP0_C1_MOSAIC", 0x0B2000, 1, 4, 0x0, 0x0, 0xF7, 0x0, 0x0, 0x0⟩,
  ⟨"ISP0_C1_BLACK0", 0x0B2004, 1, 4, 0x0, 0x0, 0xFFF0FFF, 0x0, 0x0, 0x0⟩,
  ⟨"ISP0_C1_BLACK1", 0x0B2008, 1, 4, 0x0, 0x0, 0xFFF0FFF, 0x0, 0x0, 0x0⟩,
  ⟨"ISP0_C1_WB0", 0x0B200C, 1, 4, 0x40004000, 0x0, 0xFFFFFFFF, 0x0, 0x0, 0x0⟩,
  ⟨"ISP0_C1_WB1", 0x0B2010, 1, 4, 0x40004000, 0x0, 0xFFFFFFFF, 0x0, 0x0, 0x0⟩,
  ⟨"ISP0_C1_IRM0", 0x0B2020, 1, 4, 0x1000, 0x0, 0x7FFF, 0x0, 0x0, 0x0⟩,
  ⟨"ISP0_C1_IRM1", 0x0B2024, 1, 4, 0x0, 0x0, 0x7FFF, 0x0, 0x0, 0x0⟩,
  ⟨"ISP0_C1_IRM2", 0x0B2028, 1, 4, 0x0, 0x0, 0x7FFF, 0x0, 0x0, 0x0⟩,
  ⟨"ISP0_C1_IRM3", 0x0B202C, 1, 4, 0x0, 0x0, 0x7FFF, 0x0, 0x0, 0x0⟩,
  ⟨"ISP0_C1_IRM4", 0x0B2030, 1, 4, 0x0, 0x0, 0x7FFF, 0x0, 0x0, 0x0⟩,
  ⟨"ISP0_C1_IRM5", 0x0B2034, 1, 4, 0x1000, 0x0, 0x7FFF, 0x0, 0x0, 0x0⟩,
  ⟨"ISP0_C1_IRM6", 0x0B2038, 1, 4, 0x0, 0x0, 0x7FFF, 0x0, 0x0, 0x0⟩,
  ⟨"ISP0_C1_IRM7", 0x0B203C, 1, 4, 0x0, 0x0, 0x7FFF, 0x0, 0x0, 0x0⟩,
  ⟨"ISP0_C1_IRM8", 0x0B2040, 1, 4, 0x0, 0x0, 0x7FFF, 0x0, 0x0, 0x0⟩,
  ⟨"ISP0_C1_IRM9", 0x0B2044, 1, 4, 0x0, 0x0, 0x7FFF, 0x0, 0x0, 0x0⟩,
  ⟨"ISP0_C1_IRM10", 0x0B2048, 1, 4, 0x1000, 0x0, 0x7FFF, 0x0, 0x0, 0x0⟩,
  ⟨"ISP0_C1_IRM11", 0x0B204C, 1, 4, 0x0, 0x0, 0x7FFF, 0x0, 0x0, 0x0⟩,
  ⟨"ISP0_C1_IRR0", 0x0B2050, 1, 4, 0x0, 0x0, 0x7FFF, 0x0, 0x0, 0x0⟩,
  ⟨"ISP0_C1_IRR1", 0x0B2054, 1, 4, 0x0, 0x0, 0x7FFF, 0x0, 0x0, 0x0⟩]

/-- Register rows of the ISP0 region, part 2. -/
def rowsISP02 : List RegRow := [
  ⟨"ISP0_C1_IRR2", 0x0B2058, 1, 4, 0x0, 0x0, 0x7FFF, 0x0, 0x0, 0x0⟩,
  ⟨"ISP0_C1_IRR3", 0x0B205C, 1, 4, 0x1000, 0x0, 0x7FFF, 0x0, 0x0, 0x0⟩,
  ⟨"ISP0_C1_CCM0", 0x0B2060, 1, 4, 0x1000, 0x0, 0x7FFF, 0x0, 0x0, 0x0⟩,
  ⟨"ISP0_C1_CCM1", 0x0B2064, 1, 4, 0x0, 0x0, 0x7FFF, 0x0, 0x0, 0x0⟩,
  ⟨"ISP0_C1_CCM2", 0x0B2068, 1, 4, 0x0, 0x0, 0x7FFF, 0x0, 0x0, 0x0⟩,
  ⟨"ISP0_C1_CCM3", 0x0B206C, 1, 4, 0x0, 0x0, 0x7FFF, 0x0, 0x0, 0x0⟩,
  ⟨"ISP0_C1_CCM4", 0x0B2070, 1, 4, 0x1000, 0x0, 0x7FFF, 0x0, 0x0, 0x0⟩,
  ⟨"ISP0_C1_CCM5", 0x0B2074, 1, 4, 0x0, 0x0, 0x7FFF, 0x0, 0x0, 0x0⟩,
  ⟨"ISP0_C1_CCM6", 0x0B2078, 1, 4, 0x0, 0x0, 0x7FFF, 0x0, 0x0, 0x0⟩,
  ⟨"ISP0_C1_CCM7", 0x0B207C, 1, 4, 0x0, 0x0, 0x7FFF, 0x0, 0x0, 0x0⟩,
  ⟨"ISP0_C1_CCM8", 0x0B2080, 1, 4, 0x1000, 0x0, 0x7FFF, 0x0, 0x0, 0x0⟩,
  ⟨"ISP0_C1_CCM_OFS", 0x0B2084, 3, 4, 0x0, 0x0, 0x1FFF, 0x0, 0x0, 0x0⟩,
  ⟨"ISP0_C1_STAT_WIN", 0x0B2090, 1, 4, 0x0, 0x0, 0xFFF0FFF, 0x0, 0x0, 0x0⟩,
  ⟨"ISP0_C1_STAT_ZONE", 0x0B2094, 1, 4, 0x3C0050, 0x0, 0x1FF01FF, 0x0, 0x0, 0x0⟩,
  ⟨"ISP0_C1_STAT_CORE", 0x0B2098, 1, 4, 0x0, 0x0, 0xFFFFFFFF, 0x0, 0x0, 0x0⟩,
  ⟨"ISP0_C1_PROX_CTL", 0x0B20A0, 1, 4, 0xFFF, 0x0, 0x0, 0x13FFF, 0x0, 0x0⟩,
  ⟨"ISP0_C1_PROX_TMO", 0x0B20A4, 1, 4, 0x64, 0x0, 0x0, 0xFFFF, 0x0, 0x0⟩,
  ⟨"ISP0_C1_PROX_MASK", 0x0B20B0, 6, 4, 0xFFFFFFFF, 0x0, 0x0, 0xFFFFFFFF, 0x0, 0x0⟩,
  ⟨"ISP0_C1_OUT_CTL", 0x0B2100, 1, 4, 0x2200, 0x0, 0x1337F, 0x0, 0x0, 0x0⟩,
  ⟨"ISP0_C1_DISP_STRIDE", 0x0B2104, 1, 4, 0x0, 0x0, 0xFFFFFFFF, 0x0, 0x0, 0x0⟩,
  ⟨"ISP0_C1_COD_STRIDE", 0x0B2108, 1, 4, 0x0, 0x0, 0xFFFFFFFF, 0x0, 0x0, 0x0⟩,
  ⟨"ISP0_C1_VIS_STRIDE", 0x0B210C, 1, 4, 0x0, 0x0, 0xFFFFFFFF, 0x0, 0x0, 0x0⟩,
  ⟨"ISP0_C1_BUF_DISP_Y", 0x0B2110, 4, 32, 0x0, 0x0, 0xFFFFFFFF, 0x0, 0x0, 0x0⟩,
  ⟨"ISP0_C1_BUF_DISP_C0", 0x0B2114, 4, 32, 0x0, 0x0, 0xFFFFFFFF, 0x0, 0x0, 0x0⟩,
  ⟨"ISP0_C1_BUF_DISP_C1", 0x0B2118, 4, 32, 0x0, 0x0, 0xFFFFFFFF, 0x0, 0x0, 0x0⟩,
  ⟨"ISP0_C1_BUF_COD_Y", 0x0B211C, 4, 32, 0x0, 0x0, 0xFFFFFFFF, 0x0, 0x0, 0x0⟩,
  ⟨"ISP0_C1_BUF_COD_C", 0x0B2120, 4, 32, 0x0, 0x0, 0xFFFFFFFF, 0x0, 0x0, 0x0⟩,
  ⟨"ISP0_C1_BUF_VIS_Y", 0x0B2124, 4, 32, 0x0, 0x0, 0xFFFFFFFF, 0x0, 0x0, 0x0⟩,
  ⟨"ISP0_C1_BUF_VIS_IR", 0x0B2128, 4, 32, 0x0, 0x0, 0xFFFFFFFF, 0x0, 0x0, 0x0⟩,
  ⟨"ISP0_C1_OUT_STAT", 0x0B2190, 1, 4, 0x0, 0x0, 0x0, 0x0, 0x0, 0x0⟩,
  ⟨"ISP0_C1_TONE", 0x0B2400, 257, 4, 0x0, 0x0, 0xFFF, 0x0, 0x0, 0x0⟩,
  ⟨"ISP0_C2_MOSAIC", 0x0B3000, 1, 4, 0x0, 0x0, 0xF7, 0x0, 0x0, 0x0⟩,
  ⟨"ISP0_C2_BLACK0", 0x0B3004, 1, 4, 0x0, 0x0, 0xFFF0FFF, 0x0, 0x0, 0x0⟩,
  ⟨"ISP0_C2_BLACK1", 0x0B3008, 1, 4, 0x0, 0x0, 0xFFF0FFF, 0x0, 0x0, 0x0⟩,
  ⟨"ISP0_C2_WB0", 0x0B300C, 1, 4, 0x40004000, 0x0, 0xFFFFFFFF, 0x0, 0x0, 0x0⟩,
  ⟨"ISP0_C2_WB1", 0x0B3010, 1, 4, 0x40004000, 0x0, 0xFFFFFFFF, 0x0, 0x0, 0x0⟩,
  ⟨"ISP0_C2_IRM0", 0x0B3020, 1, 4, 0x1000, 0x0, 0x7FFF, 0x0, 0x0, 0x0⟩,
  ⟨"ISP0_C2_IRM1", 0x0B3024, 1, 4, 0x0, 0x0, 0x7FFF, 0x0, 0x0, 0x0⟩,
  ⟨"ISP0_C2_IRM2", 0x0B3028, 1, 4, 0x0, 0x0, 0x7FFF, 0x0, 0x0, 0x0⟩,
  ⟨"ISP0_C2_IRM3", 0x0B302C, 1, 4, 0x0, 0x0, 0x7FFF, 0x0, 0x0, 0x0⟩]

/-- Register rows of the ISP0 region, part 3. -/
def rowsISP03 : List RegRow := [
  ⟨"ISP0_C2_IRM4", 0x0B3030, 1, 4, 0x0, 0x0, 0x7FFF, 0x0, 0x0, 0x0⟩,
  ⟨"ISP0_C2_IRM5", 0x0B3034, 1, 4, 0x1000, 0x0, 0x7FFF, 0x0, 0x0, 0x0⟩,
  ⟨"ISP0_C2_IRM6", 0x0B3038, 1, 4, 0x0, 0x0, 0x7FFF, 0x0, 0x0, 0x0⟩,
  ⟨"ISP0_C2_IRM7", 0x0B303C, 1, 4, 0x0, 0x0, 0x7FFF, 0x0, 0x0, 0x0⟩,
  ⟨"ISP0_C2_IRM8", 0x0B3040, 1, 4, 0x0, 0x0, 0x7FFF, 0x0, 0x0, 0x0⟩,
  ⟨"ISP0_C2_IRM9", 0x0B3044, 1, 4, 0x0, 0x0, 0x7FFF, 0x0, 0x0, 0x0⟩,
  ⟨"ISP0_C2_IRM10", 0x0B3048, 1, 4, 0x1000, 0x0, 0x7FFF, 0x0, 0x0, 0x0⟩,
  ⟨"ISP0_C2_IRM11", 0x0B304C, 1, 4, 0x0, 0x0, 0x7FFF, 0x0, 0x0, 0x0⟩,
  ⟨"ISP0_C2_IRR0", 0x0B3050, 1, 4, 0x0, 0x0, 0x7FFF, 0x0, 0x0, 0x0⟩,
  ⟨"ISP0_C2_IRR1", 0x0B3054, 1, 4, 0x0, 0x0, 0x7FFF, 0x0, 0x0, 0x0⟩,
  ⟨"ISP0_C2_IRR2", 0x0B3058, 1, 4, 0x0, 0x0, 0x7FFF, 0x0, 0x0, 0x0⟩,
  ⟨"ISP0_C2_IRR3", 0x0B305C, 1, 4, 0x1000, 0x0, 0x7FFF, 0x0, 0x0, 0x0⟩,
  ⟨"ISP0_C2_CCM0", 0x0B3060, 1, 4, 0x1000, 0x0, 0x7FFF, 0x0, 0x0, 0x0⟩,
  ⟨"ISP0_C2_CCM1", 0x0B3064, 1, 4, 0x0, 0x0, 0x7FFF, 0x0, 0x0, 0x0⟩,
  ⟨"ISP0_C2_CCM2", 0x0B3068, 1, 4, 0x0, 0x0, 0x7FFF, 0x0, 0x0, 0x0⟩,
  ⟨"ISP0_C2_CCM3", 0x0B306C, 1, 4, 0x0, 0x0, 0x7FFF, 0x0, 0x0, 0x0⟩,
  ⟨"ISP0_C2_CCM4", 0x0B3070, 1, 4, 0x1000, 0x0, 0x7FFF, 0x0, 0x0, 0x0⟩,
  ⟨"ISP0_C2_CCM5", 0x0B3074, 1, 4, 0x0, 0x0, 0x7FFF, 0x0, 0x0, 0x0⟩,
  ⟨"ISP0_C2_CCM6", 0x0B3078, 1, 4, 0x0, 0x0, 0x7FFF, 0x0, 0x0, 0x0⟩,
  ⟨"ISP0_C2_CCM7", 0x0B307C, 1, 4, 0x0, 0x0, 0x7FFF, 0x0, 0x0, 0x0⟩,
  ⟨"ISP0_C2_CCM8", 0x0B3080, 1, 4, 0x1000, 0x0, 0x7FFF, 0x0, 0x0, 0x0⟩,
  ⟨"ISP0_C2_CCM_OFS", 0x0B3084, 3, 4, 0x0, 0x0, 0x1FFF, 0x0, 0x0, 0x0⟩,
  ⟨"ISP0_C2_STAT_WIN", 0x0B3090, 1, 4, 0x0, 0x0, 0xFFF0FFF, 0x0, 0x0, 0x0⟩,
  ⟨"ISP0_C2_STAT_ZONE", 0x0B3094, 1, 4, 0x3C0050, 0x0, 0x1FF01FF, 0x0, 0x0, 0x0⟩,
  ⟨"ISP0_C2_STAT_CORE", 0x0B3098, 1, 4, 0x0, 0x0, 0xFFFFFFFF, 0x0, 0x0, 0x0⟩,
  ⟨"ISP0_C2_PROX_CTL", 0x0B30A0, 1, 4, 0xFFF, 0x0, 0x0, 0x13FFF, 0x0, 0x0⟩,
  ⟨"ISP0_C2_PROX_TMO", 0x0B30A4, 1, 4, 0x64, 0x0, 0x0, 0xFFFF, 0x0, 0x0⟩,
  ⟨"ISP0_C2_PROX_MASK", 0x0B30B0, 6, 4, 0xFFFFFFFF, 0x0, 0x0, 0xFFFFFFFF, 0x0, 0x0⟩,
  ⟨"ISP0_C2_OUT_CTL", 0x0B3100, 1, 4, 0x2200, 0x0, 0x1337F, 0x0, 0x0, 0x0⟩,
  ⟨"ISP0_C2_DISP_STRIDE", 0x0B3104, 1, 4, 0x0, 0x0, 0xFFFFFFFF, 0x0, 0x0, 0x0⟩,
  ⟨"ISP0_C2_COD_STRIDE", 0x0B3108, 1, 4, 0x0, 0x0, 0xFFFFFFFF, 0x0, 0x0, 0x0⟩,
  ⟨"ISP0_C2_VIS_STRIDE", 0x0B310C, 1, 4, 0x0, 0x0, 0xFFFFFFFF, 0x0, 0x0, 0x0⟩,
  ⟨"ISP0_C2_BUF_DISP_Y", 0x0B3110, 4, 32, 0x0, 0x0, 0xFFFFFFFF, 0x0, 0x0, 0x0⟩,
  ⟨"ISP0_C2_BUF_DISP_C0", 0x0B3114, 4, 32, 0x0, 0x0, 0xFFFFFFFF, 0x0, 0x0, 0x0⟩,
  ⟨"ISP0_C2_BUF_DISP_C1", 0x0B3118, 4, 32, 0x0, 0x0, 0xFFFFFFFF, 0x0, 0x0, 0x0⟩,
  ⟨"ISP0_C2_BUF_COD_Y", 0x0B311C, 4, 32, 0x0, 0x0, 0xFFFFFFFF, 0x0, 0x0, 0x0⟩,
  ⟨"ISP0_C2_BUF_COD_C", 0x0B3120, 4, 32, 0x0, 0x0, 0xFFFFFFFF, 0x0, 0x0, 0x0⟩,
  ⟨"ISP0_C2_BUF_VIS_Y", 0x0B3124, 4, 32, 0x0, 0x0, 0xFFFFFFFF, 0x0, 0x0, 0x0⟩,
  ⟨"ISP0_C2_BUF_VIS_IR", 0x0B3128, 4, 32, 0x0, 0x0, 0xFFFFFFFF, 0x0, 0x0, 0x0⟩,
  ⟨"ISP0_C2_OUT_STAT", 0x0B3190, 1, 4, 0x0, 0x0, 0x0, 0x0, 0x0, 0x0⟩]

/-- Register rows of the ISP0 region, part 4. -/
def rowsISP04 : List RegRow := [
  ⟨"ISP0_C2_TONE", 0x0B3400, 257, 4, 0x0, 0x0, 0xFFF, 0x0, 0x0, 0x0⟩,
  ⟨"ISP0_C3_MOSAIC", 0x0B4000, 1, 4, 0x0, 0x0, 0xF7, 0x0, 0x0, 0x0⟩,
  ⟨"ISP0_C3_BLACK0", 0x0B4004, 1, 4, 0x0, 0x0, 0xFFF0FFF, 0x0, 0x0, 0x0⟩,
  ⟨"ISP0_C3_BLACK1", 0x0B4008, 1, 4, 0x0, 0x0, 0xFFF0FFF, 0x0, 0x0, 0x0⟩,
  ⟨"ISP0_C3_WB0", 0x0B400C, 1, 4, 0x40004000, 0x0, 0xFFFFFFFF, 0x0, 0x0, 0x0⟩,
  ⟨"ISP0_C3_WB1", 0x0B4010, 1, 4, 0x40004000, 0x0, 0xFFFFFFFF, 0x0, 0x0, 0x0⟩,
  ⟨"ISP0_C3_IRM0", 0x0B4020, 1, 4, 0x1000, 0x0, 0x7FFF, 0x0, 0x0, 0x0⟩,
  ⟨"ISP0_C3_IRM1", 0x0B4024, 1, 4, 0x0, 0x0, 0x7FFF, 0x0, 0x0, 0x0⟩,
  ⟨"ISP0_C3_IRM2", 0x0B4028, 1, 4, 0x0, 0x0, 0x7FFF, 0x0, 0x0, 0x0⟩,
  ⟨"ISP0_C3_IRM3", 0x0B402C, 1, 4, 0x0, 0x0, 0x7FFF, 0x0, 0x0, 0x0⟩,
  ⟨"ISP0_C3_IRM4", 0x0B4030, 1, 4, 0x0, 0x0, 0x7FFF, 0x0, 0x0, 0x0⟩,
  ⟨"ISP0_C3_IRM5", 0x0B4034, 1, 4, 0x1000, 0x0, 0x7FFF, 0x0, 0x0, 0x0⟩,
  ⟨"ISP0_C3_IRM6", 0x0B4038, 1, 4, 0x0, 0x0, 0x7FFF, 0x0, 0x0, 0x0⟩,
  ⟨"ISP0_C3_IRM7", 0x0B403C, 1, 4, 0x0, 0x0, 0x7FFF, 0x0, 0x0, 0x0⟩,
  ⟨"ISP0_C3_IRM8", 0x0B4040, 1, 4, 0x0, 0x0, 0x7FFF, 0x0, 0x0, 0x0⟩,
  ⟨"ISP0_C3_IRM9", 0x0B4044, 1, 4, 0x0, 0x0, 0x7FFF, 0x0, 0x0, 0x0⟩,
  ⟨"ISP0_C3_IRM10", 0x0B4048, 1, 4, 0x1000, 0x0, 0x7FFF, 0x0, 0x0, 0x0⟩,
  ⟨"ISP0_C3_IRM11", 0x0B404C, 1, 4, 0x0, 0x0, 0x7FFF, 0x0, 0x0, 0x0⟩,
  ⟨"ISP0_C3_IRR0", 0x0B4050, 1, 4, 0x0, 0x0, 0x7FFF, 0x0, 0x0, 0x0⟩,
  ⟨"ISP0_C3_IRR1", 0x0B4054, 1, 4, 0x0, 0x0, 0x7FFF, 0x0, 0x0, 0x0⟩,
  ⟨"ISP0_C3_IRR2", 0x0B4058, 1, 4, 0x0, 0x0, 0x7FFF, 0x0, 0x0, 0x0⟩,
  ⟨"ISP0_C3_IRR3", 0x0B405C, 1, 4, 0x1000, 0x0, 0x7FFF, 0x0, 0x0, 0x0⟩,
  ⟨"ISP0_C3_CCM0", 0x0B4060, 1, 4, 0x1000, 0x0, 0x7FFF, 0x0, 0x0, 0x0⟩,
  ⟨"ISP0_C3_CCM1", 0x0B4064, 1, 4, 0x0, 0x0, 0x7FFF, 0x0, 0x0, 0x0⟩,
  ⟨"ISP0_C3_CCM2", 0x0B4068, 1, 4, 0x0, 0x0, 0x7FFF, 0x0, 0x0, 0x0⟩,
  ⟨"ISP0_C3_CCM3", 0x0B406C, 1, 4, 0x0, 0x0, 0x7FFF, 0x0, 0x0, 0x0⟩,
  ⟨"ISP0_C3_CCM4", 0x0B4070, 1, 4, 0x1000, 0x0, 0x7FFF, 0x0, 0x0, 0x0⟩,
  ⟨"ISP0_C3_CCM5", 0x0B4074, 1, 4, 0x0, 0x0, 0x7FFF, 0x0, 0x0, 0x0⟩,
  ⟨"ISP0_C3_CCM6", 0x0B4078, 1, 4, 0x0, 0x0, 0x7FFF, 0x0, 0x0, 0x0⟩,
  ⟨"ISP0_C3_CCM7", 0x0B407C, 1, 4, 0x0, 0x0, 0x7FFF, 0x0, 0x0, 0x0⟩,
  ⟨"ISP0_C3_CCM8", 0x0B4080, 1, 4, 0x1000, 0x0, 0x7FFF, 0x0, 0x0, 0x0⟩,
  ⟨"ISP0_C3_CCM_OFS", 0x0B4084, 3, 4, 0x0, 0x0, 0x1FFF, 0x0, 0x0, 0x0⟩,
  ⟨"ISP0_C3_STAT_WIN", 0x0B4090, 1, 4, 0x0, 0x0, 0xFFF0FFF, 0x0, 0x0, 0x0⟩,
  ⟨"ISP0_C3_STAT_ZONE", 0x0B4094, 1, 4, 0x3C0050, 0x0, 0x1FF01FF, 0x0, 0x0, 0x0⟩,
  ⟨"ISP0_C3_STAT_CORE", 0x0B4098, 1, 4, 0x0, 0x0, 0xFFFFFFFF, 0x0, 0x0, 0x0⟩,
  ⟨"ISP0_C3_PROX_CTL", 0x0B40A0, 1, 4, 0xFFF, 0x0, 0x0, 0x13FFF, 0x0, 0x0⟩,
  ⟨"ISP0_C3_PROX_TMO", 0x0B40A4, 1, 4, 0x64, 0x0, 0x0, 0xFFFF, 0x0, 0x0⟩,
  ⟨"ISP0_C3_PROX_MASK", 0x0B40B0, 6, 4, 0xFFFFFFFF, 0x0, 0x0, 0xFFFFFFFF, 0x0, 0x0⟩,
  ⟨"ISP0_C3_OUT_CTL", 0x0B4100, 1, 4, 0x2200, 0x0, 0x1337F, 0x0, 0x0, 0x0⟩,
  ⟨"ISP0_C3_DISP_STRIDE", 0x0B4104, 1, 4, 0x0, 0x0, 0xFFFFFFFF, 0x0, 0x0, 0x0⟩]

/-- Register rows of the ISP0 region, part 5. -/
def rowsISP05 : List RegRow := [
  ⟨"ISP0_C3_COD_STRIDE", 0x0B4108, 1, 4, 0x0, 0x0, 0xFFFFFFFF, 0x0, 0x0, 0x0⟩,
  ⟨"ISP0_C3_VIS_STRIDE", 0x0B410C, 1, 4, 0x0, 0x0, 0xFFFFFFFF, 0x0, 0x0, 0x0⟩,
  ⟨"ISP0_C3_BUF_DISP_Y", 0x0B4110, 4, 32, 0x0, 0x0, 0xFFFFFFFF, 0x0, 0x0, 0x0⟩,
  ⟨"ISP0_C3_BUF_DISP_C0", 0x0B4114, 4, 32, 0x0, 0x0, 0xFFFFFFFF, 0x0, 0x0, 0x0⟩,
  ⟨"ISP0_C3_BUF_DISP_C1", 0x0B4118, 4, 32, 0x0, 0x0, 0xFFFFFFFF, 0x0, 0x0, 0x0⟩,
  ⟨"ISP0_C3_BUF_COD_Y", 0x0B411C, 4, 32, 0x0, 0x0, 0xFFFFFFFF, 0x0, 0x0, 0x0⟩,
  ⟨"ISP0_C3_BUF_COD_C", 0x0B4120, 4, 32, 0x0, 0x0, 0xFFFFFFFF, 0x0, 0x0, 0x0⟩,
  ⟨"ISP0_C3_BUF_VIS_Y", 0x0B4124, 4, 32, 0x0, 0x0, 0xFFFFFFFF, 0x0, 0x0, 0x0⟩,
  ⟨"ISP0_C3_BUF_VIS_IR", 0x0B4128, 4, 32, 0x0, 0x0, 0xFFFFFFFF, 0x0, 0x0, 0x0⟩,
  ⟨"ISP0_C3_OUT_STAT", 0x0B4190, 1, 4, 0x0, 0x0, 0x0, 0x0, 0x0, 0x0⟩,
  ⟨"ISP0_C3_TONE", 0x0B4400, 257, 4, 0x0, 0x0, 0xFFF, 0x0, 0x0, 0x0⟩]

/-- Register rows of the ISP0 region. -/
def rowsISP0 : List RegRow :=
  rowsISP00 ++ rowsISP01 ++ rowsISP02 ++ rowsISP03 ++ rowsISP04 ++ rowsISP05

/-- Register rows of the ISP1 region, part 0. -/
def rowsISP10 : List RegRow := [
  ⟨"ISP1_CTL", 0x0C0000, 1, 4, 0x0, 0x3, 0x0, 0x0, 0x0, 0x0⟩,
  ⟨"ISP1_STAT", 0x0C0004, 1, 4, 0x0, 0x0, 0x0, 0x0, 0x0, 0x0⟩,
  ⟨"ISP1_STAT_SEL", 0x0C0010, 1, 4, 0x0, 0xFFF, 0x0, 0x0, 0x0, 0x0⟩,
  ⟨"ISP1_STAT_DATA", 0x0C0014, 1, 4, 0x0, 0x0, 0x0, 0x0, 0x0, 0x0⟩,
  ⟨"ISP1_STAT_TAG", 0x0C0018, 1, 4, 0x0, 0x0, 0x0, 0x0, 0x0, 0x0⟩,
  ⟨"ISP1_STAT_LOST", 0x0C001C, 1, 4, 0x0, 0x0, 0x0, 0x0, 0x0, 0x0⟩,
  ⟨"ISP1_PROX_STAT", 0x0C0020, 4, 4, 0x0, 0x0, 0x0, 0x0, 0x0, 0x0⟩,
  ⟨"ISP1_CNT_CLR", 0x0C00E0, 1, 4, 0x0, 0x0, 0x0, 0x0, 0x0, 0x1⟩,
  ⟨"ISP1_ARITH", 0x0C00F0, 1, 4, 0x0, 0x0, 0x0, 0x0, 0x80000000, 0x0⟩,
  ⟨"ISP1_ARITH_CTL", 0x0C00F4, 1, 4, 0x0, 0x0, 0x3, 0x0, 0x0, 0x0⟩,
  ⟨"ISP1_OUT_CNT", 0x0C0100, 4, 4, 0x0, 0x0, 0x0, 0x0, 0x0, 0x0⟩,
  ⟨"ISP1_C0_MOSAIC", 0x0C1000, 1, 4, 0x0, 0x0, 0xF7, 0x0, 0x0, 0x0⟩,
  ⟨"ISP1_C0_BLACK0", 0x0C1004, 1, 4, 0x0, 0x0, 0xFFF0FFF, 0x0, 0x0, 0x0⟩,
  ⟨"ISP1_C0_BLACK1", 0x0C1008, 1, 4, 0x0, 0x0, 0xFFF0FFF, 0x0, 0x0, 0x0⟩,
  ⟨"ISP1_C0_WB0", 0x0C100C, 1, 4, 0x40004000, 0x0, 0xFFFFFFFF, 0x0, 0x0, 0x0⟩,
  ⟨"ISP1_C0_WB1", 0x0C1010, 1, 4, 0x40004000, 0x0, 0xFFFFFFFF, 0x0, 0x0, 0x0⟩,
  ⟨"ISP1_C0_IRM0", 0x0C1020, 1, 4, 0x1000, 0x0, 0x7FFF, 0x0, 0x0, 0x0⟩,
  ⟨"ISP1_C0_IRM1", 0x0C1024, 1, 4, 0x0, 0x0, 0x7FFF, 0x0, 0x0, 0x0⟩,
  ⟨"ISP1_C0_IRM2", 0x0C1028, 1, 4, 0x0, 0x0, 0x7FFF, 0x0, 0x0, 0x0⟩,
  ⟨"ISP1_C0_IRM3", 0x0C102C, 1, 4, 0x0, 0x0, 0x7FFF, 0x0, 0x0, 0x0⟩,
  ⟨"ISP1_C0_IRM4", 0x0C1030, 1, 4, 0x0, 0x0, 0x7FFF, 0x0, 0x0, 0x0⟩,
  ⟨"ISP1_C0_IRM5", 0x0C1034, 1, 4, 0x1000, 0x0, 0x7FFF, 0x0, 0x0, 0x0⟩,
  ⟨"ISP1_C0_IRM6", 0x0C1038, 1, 4, 0x0, 0x0, 0x7FFF, 0x0, 0x0, 0x0⟩,
  ⟨"ISP1_C0_IRM7", 0x0C103C, 1, 4, 0x0, 0x0, 0x7FFF, 0x0, 0x0, 0x0⟩,
  ⟨"ISP1_C0_IRM8", 0x0C1040, 1, 4, 0x0, 0x0, 0x7FFF, 0x0, 0x0, 0x0⟩,
  ⟨"ISP1_C0_IRM9", 0x0C1044, 1, 4, 0x0, 0x0, 0x7FFF, 0x0, 0x0, 0x0⟩,
  ⟨"ISP1_C0_IRM10", 0x0C1048, 1, 4, 0x1000, 0x0, 0x7FFF, 0x0, 0x0, 0x0⟩,
  ⟨"ISP1_C0_IRM11", 0x0C104C, 1, 4, 0x0, 0x0, 0x7FFF, 0x0, 0x0, 0x0⟩,
  ⟨"ISP1_C0_IRR0", 0x0C1050, 1, 4, 0x0, 0x0, 0x7FFF, 0x0, 0x0, 0x0⟩,
  ⟨"ISP1_C0_IRR1", 0x0C1054, 1, 4, 0x0, 0x0, 0x7FFF, 0x0, 0x0, 0x0⟩,
  ⟨"ISP1_C0_IRR2", 0x0C1058, 1, 4, 0x0, 0x0, 0x7FFF, 0x0, 0x0, 0x0⟩,
  ⟨"ISP1_C0_IRR3", 0x0C105C, 1, 4, 0x1000, 0x0, 0x7FFF, 0x0, 0x0, 0x0⟩,
  ⟨"ISP1_C0_CCM0", 0x0C1060, 1, 4, 0x1000, 0x0, 0x7FFF, 0x0, 0x0, 0x0⟩,
  ⟨"ISP1_C0_CCM1", 0x0C1064, 1, 4, 0x0, 0x0, 0x7FFF, 0x0, 0x0, 0x0⟩,
  ⟨"ISP1_C0_CCM2", 0x0C1068, 1, 4, 0x0, 0x0, 0x7FFF, 0x0, 0x0, 0x0⟩,
  ⟨"ISP1_C0_CCM3", 0x0C106C, 1, 4, 0x0, 0x0, 0x7FFF, 0x0, 0x0, 0x0⟩,
  ⟨"ISP1_C0_CCM4", 0x0C1070, 1, 4, 0x1000, 0x0, 0x7FFF, 0x0, 0x0, 0x0⟩,
  ⟨"ISP1_C0_CCM5", 0x0C1074, 1, 4, 0x0, 0x0, 0x7FFF, 0x0, 0x0, 0x0⟩,
  ⟨"ISP1_C0_CCM6", 0x0C1078, 1, 4, 0x0, 0x0, 0x7FFF, 0x0, 0x0, 0x0⟩,
  ⟨"ISP1_C0_CCM7", 0x0C107C, 1, 4, 0x0, 0x0, 0x7FFF, 0x0, 0x0, 0x0⟩]

/-- Register rows of the ISP1 region, part 1. -/
def rowsISP11 : List RegRow := [
  ⟨"ISP1_C0_CCM8", 0x0C1080, 1, 4, 0x1000, 0x0, 0x7FFF, 0x0, 0x0, 0x0⟩,
  ⟨"ISP1_C0_CCM_OFS", 0x0C1084, 3, 4, 0x0, 0x0, 0x1FFF, 0x0, 0x0, 0x0⟩,
  ⟨"ISP1_C0_STAT_WIN", 0x0C1090, 1, 4, 0x0, 0x0, 0xFFF0FFF, 0x0, 0x0, 0x0⟩,
  ⟨"ISP1_C0_STAT_ZONE", 0x0C1094, 1, 4, 0x3C0050, 0x0, 0x1FF01FF, 0x0, 0x0, 0x0⟩,
  ⟨"ISP1_C0_STAT_CORE", 0x0C1098, 1, 4, 0x0, 0x0, 0xFFFFFFFF, 0x0, 0x0, 0x0⟩,
  ⟨"ISP1_C0_PROX_CTL", 0x0C10A0, 1, 4, 0xFFF, 0x0, 0x0, 0x13FFF, 0x0, 0x0⟩,
  ⟨"ISP1_C0_PROX_TMO", 0x0C10A4, 1, 4, 0x64, 0x0, 0x0, 0xFFFF, 0x0, 0x0⟩,
  ⟨"ISP1_C0_PROX_MASK", 0x0C10B0, 6, 4, 0xFFFFFFFF, 0x0, 0x0, 0xFFFFFFFF, 0x0, 0x0⟩,
  ⟨"ISP1_C0_OUT_CTL", 0x0C1100, 1, 4, 0x2200, 0x0, 0x1337F, 0x0, 0x0, 0x0⟩,
  ⟨"ISP1_C0_DISP_STRIDE", 0x0C1104, 1, 4, 0x0, 0x0, 0xFFFFFFFF, 0x0, 0x0, 0x0⟩,
  ⟨"ISP1_C0_COD_STRIDE", 0x0C1108, 1, 4, 0x0, 0x0, 0xFFFFFFFF, 0x0, 0x0, 0x0⟩,
  ⟨"ISP1_C0_VIS_STRIDE", 0x0C110C, 1, 4, 0x0, 0x0, 0xFFFFFFFF, 0x0, 0x0, 0x0⟩,
  ⟨"ISP1_C0_BUF_DISP_Y", 0x0C1110, 4, 32, 0x0, 0x0, 0xFFFFFFFF, 0x0, 0x0, 0x0⟩,
  ⟨"ISP1_C0_BUF_DISP_C0", 0x0C1114, 4, 32, 0x0, 0x0, 0xFFFFFFFF, 0x0, 0x0, 0x0⟩,
  ⟨"ISP1_C0_BUF_DISP_C1", 0x0C1118, 4, 32, 0x0, 0x0, 0xFFFFFFFF, 0x0, 0x0, 0x0⟩,
  ⟨"ISP1_C0_BUF_COD_Y", 0x0C111C, 4, 32, 0x0, 0x0, 0xFFFFFFFF, 0x0, 0x0, 0x0⟩,
  ⟨"ISP1_C0_BUF_COD_C", 0x0C1120, 4, 32, 0x0, 0x0, 0xFFFFFFFF, 0x0, 0x0, 0x0⟩,
  ⟨"ISP1_C0_BUF_VIS_Y", 0x0C1124, 4, 32, 0x0, 0x0, 0xFFFFFFFF, 0x0, 0x0, 0x0⟩,
  ⟨"ISP1_C0_BUF_VIS_IR", 0x0C1128, 4, 32, 0x0, 0x0, 0xFFFFFFFF, 0x0, 0x0, 0x0⟩,
  ⟨"ISP1_C0_OUT_STAT", 0x0C1190, 1, 4, 0x0, 0x0, 0x0, 0x0, 0x0, 0x0⟩,
  ⟨"ISP1_C0_TONE", 0x0C1400, 257, 4, 0x0, 0x0, 0xFFF, 0x0, 0x0, 0x0⟩]

/-- Register rows of the ISP1 region. -/
def rowsISP1 : List RegRow :=
  rowsISP10 ++ rowsISP11

/-- Register rows of the RTX region, part 0. -/
def rowsRTX0 : List RegRow := [
  ⟨"RTX_CFG", 0x0D0000, 1, 4, 0x0, 0x7, 0x0, 0x0, 0x0, 0x0⟩,
  ⟨"RTX_STR_CFG", 0x0D0010, 3, 16, 0x0, 0x3F, 0x0, 0x0, 0x0, 0x0⟩,
  ⟨"RTX_STR_CNT", 0x0D0014, 3, 16, 0x0, 0x0, 0x0, 0x0, 0x0, 0x0⟩,
  ⟨"RTX_STR_CNT1", 0x0D0018, 3, 16, 0x0, 0x0, 0x0, 0x0, 0x0, 0x0⟩,
  ⟨"RTX_STAT", 0x0D0050, 1, 4, 0x0, 0x0, 0x0, 0x0, 0x10, 0x0⟩,
  ⟨"RTX_CNT_CLR", 0x0D00E0, 1, 4, 0x0, 0x0, 0x0, 0x0, 0x0, 0x1⟩,
  ⟨"RTX_ARITH", 0x0D00F0, 1, 4, 0x0, 0x0, 0x0, 0x0, 0x80000000, 0x0⟩,
  ⟨"RTX_ARITH_CTL", 0x0D00F4, 1, 4, 0x0, 0x0, 0x0, 0x0, 0x0, 0x0⟩]

/-- Register rows of the RTX region. -/
def rowsRTX : List RegRow :=
  rowsRTX0

/-- Register rows of the CMP region, part 0. -/
def rowsCMP0 : List RegRow := [
  ⟨"CMP_CTL", 0x100000, 1, 4, 0x20, 0x0, 0x3F, 0x0, 0x0, 0x0⟩,
  ⟨"CMP_CANVAS", 0x100004, 1, 4, 0x4380780, 0x0, 0x1FFF1FFF, 0x0, 0x0, 0x0⟩,
  ⟨"CMP_BG_RG", 0x100008, 1, 4, 0x0, 0x0, 0xFFFFFFFF, 0x0, 0x0, 0x0⟩,
  ⟨"CMP_BG_B", 0x10000C, 1, 4, 0x0, 0x0, 0xFFFF, 0x0, 0x0, 0x0⟩,
  ⟨"CMP_ERR", 0x100010, 1, 4, 0x0, 0x0, 0x0, 0x0, 0x80000000, 0x0⟩,
  ⟨"CMP_FLIP", 0x100020, 1, 4, 0x0, 0xF, 0x0, 0x0, 0x100, 0xF0⟩,
  ⟨"CMP_FLIP_CFG", 0x100024, 1, 4, 0x4, 0x0, 0xFF0F, 0x0, 0x0, 0x0⟩,
  ⟨"CMP_GROUP_STAT", 0x100030, 4, 4, 0x0, 0x0, 0x0, 0x0, 0x0, 0x0⟩,
  ⟨"CMP_FENCE", 0x100040, 16, 4, 0x0, 0xFFFF, 0x0, 0x0, 0x0, 0x0⟩,
  ⟨"CMP_MAT_M0", 0x100080, 1, 4, 0x1000, 0x0, 0x7FFF, 0x0, 0x0, 0x0⟩,
  ⟨"CMP_MAT_M1", 0x100084, 1, 4, 0x0, 0x0, 0x7FFF, 0x0, 0x0, 0x0⟩,
  ⟨"CMP_MAT_M2", 0x100088, 1, 4, 0x0, 0x0, 0x7FFF, 0x0, 0x0, 0x0⟩,
  ⟨"CMP_MAT_M3", 0x10008C, 1, 4, 0x0, 0x0, 0x7FFF, 0x0, 0x0, 0x0⟩,
  ⟨"CMP_MAT_M4", 0x100090, 1, 4, 0x1000, 0x0, 0x7FFF, 0x0, 0x0, 0x0⟩,
  ⟨"CMP_MAT_M5", 0x100094, 1, 4, 0x0, 0x0, 0x7FFF, 0x0, 0x0, 0x0⟩,
  ⟨"CMP_MAT_M6", 0x100098, 1, 4, 0x0, 0x0, 0x7FFF, 0x0, 0x0, 0x0⟩,
  ⟨"CMP_MAT_M7", 0x10009C, 1, 4, 0x0, 0x0, 0x7FFF, 0x0, 0x0, 0x0⟩,
  ⟨"CMP_MAT_M8", 0x1000A0, 1, 4, 0x1000, 0x0, 0x7FFF, 0x0, 0x0, 0x0⟩,
  ⟨"CMP_MAT_O", 0x1000A4, 3, 4, 0x0, 0x0, 0x1FFF, 0x0, 0x0, 0x0⟩,
  ⟨"CMP_CNT0", 0x1000C0, 1, 4, 0x0, 0x0, 0x0, 0x0, 0x0, 0x0⟩,
  ⟨"CMP_CNT_CLR", 0x1000E0, 1, 4, 0x0, 0x0, 0x0, 0x0, 0x0, 0x1⟩,
  ⟨"CMP_ARITH", 0x1000F0, 1, 4, 0x0, 0x0, 0x0, 0x0, 0x80000000, 0x0⟩,
  ⟨"CMP_ARITH_CTL", 0x1000F4, 1, 4, 0x0, 0x0, 0x3, 0x0, 0x0, 0x0⟩,
  ⟨"CMP_L0_CTL", 0x100100, 1, 4, 0x0, 0x0, 0x3FFDF, 0x0, 0x0, 0x0⟩,
  ⟨"CMP_L0_FMT", 0x100104, 1, 4, 0x0, 0x0, 0x733, 0x0, 0x0, 0x0⟩,
  ⟨"CMP_L0_DST_POS", 0x100108, 1, 4, 0x0, 0x0, 0x1FFF1FFF, 0x0, 0x0, 0x0⟩,
  ⟨"CMP_L0_DST_SIZE", 0x10010C, 1, 4, 0x0, 0x0, 0x1FFF1FFF, 0x0, 0x0, 0x0⟩,
  ⟨"CMP_L0_SRC_SIZE", 0x100110, 1, 4, 0x0, 0x0, 0x1FFF1FFF, 0x0, 0x0, 0x0⟩,
  ⟨"CMP_L0_GALPHA", 0x100114, 1, 4, 0x8000, 0x0, 0xFFFF, 0x0, 0x0, 0x0⟩,
  ⟨"CMP_L0_BASE", 0x100118, 3, 4, 0x0, 0x0, 0xFFFFFFFF, 0x0, 0x0, 0x0⟩,
  ⟨"CMP_L0_STRIDE", 0x100124, 1, 4, 0x0, 0x0, 0xFFFFFFFF, 0x0, 0x0, 0x0⟩,
  ⟨"CMP_L0_FENCE_TARGET", 0x100128, 1, 4, 0x0, 0x0, 0xFFFF, 0x0, 0x0, 0x0⟩,
  ⟨"CMP_L0_LSTAT", 0x10012C, 1, 4, 0x0, 0x0, 0x0, 0x0, 0x0, 0x0⟩,
  ⟨"CMP_L0_HSTART", 0x100130, 1, 4, 0x0, 0x0, 0xFFFFFFFF, 0x0, 0x0, 0x0⟩,
  ⟨"CMP_L0_HSTEP", 0x100134, 1, 4, 0x10000, 0x0, 0xFFFFFF, 0x0, 0x0, 0x0⟩,
  ⟨"CMP_L0_VSTART", 0x100138, 1, 4, 0x0, 0x0, 0xFFFFFFFF, 0x0, 0x0, 0x0⟩,
  ⟨"CMP_L0_VSTEP", 0x10013C, 1, 4, 0x10000, 0x0, 0xFFFFFF, 0x0, 0x0, 0x0⟩,
  ⟨"CMP_L0_KS_DHSTART", 0x100140, 1, 4, 0x0, 0x0, 0xFFFFFFFF, 0x0, 0x0, 0x0⟩,
  ⟨"CMP_L0_KS_DHSTEP", 0x100144, 1, 4, 0x0, 0x0, 0x3FFFFFF, 0x0, 0x0, 0x0⟩,
  ⟨"CMP_L0_KS_DVSTEP", 0x100148, 1, 4, 0x0, 0x0, 0x3FFFFFF, 0x0, 0x0, 0x0⟩]

/-- Register rows of the CMP region, part 1. -/
def rowsCMP1 : List RegRow := [
  ⟨"CMP_L0_CSC_M0", 0x100150, 1, 4, 0x1000, 0x0, 0x7FFF, 0x0, 0x0, 0x0⟩,
  ⟨"CMP_L0_CSC_M1", 0x100154, 1, 4, 0x0, 0x0, 0x7FFF, 0x0, 0x0, 0x0⟩,
  ⟨"CMP_L0_CSC_M2", 0x100158, 1, 4, 0x0, 0x0, 0x7FFF, 0x0, 0x0, 0x0⟩,
  ⟨"CMP_L0_CSC_M3", 0x10015C, 1, 4, 0x0, 0x0, 0x7FFF, 0x0, 0x0, 0x0⟩,
  ⟨"CMP_L0_CSC_M4", 0x100160, 1, 4, 0x1000, 0x0, 0x7FFF, 0x0, 0x0, 0x0⟩,
  ⟨"CMP_L0_CSC_M5", 0x100164, 1, 4, 0x0, 0x0, 0x7FFF, 0x0, 0x0, 0x0⟩,
  ⟨"CMP_L0_CSC_M6", 0x100168, 1, 4, 0x0, 0x0, 0x7FFF, 0x0, 0x0, 0x0⟩,
  ⟨"CMP_L0_CSC_M7", 0x10016C, 1, 4, 0x0, 0x0, 0x7FFF, 0x0, 0x0, 0x0⟩,
  ⟨"CMP_L0_CSC_M8", 0x100170, 1, 4, 0x1000, 0x0, 0x7FFF, 0x0, 0x0, 0x0⟩,
  ⟨"CMP_L0_CSC_O", 0x100174, 3, 4, 0x0, 0x0, 0x1FFF, 0x0, 0x0, 0x0⟩,
  ⟨"CMP_L1_CTL", 0x100180, 1, 4, 0x0, 0x0, 0x2FFDF, 0x0, 0x0, 0x0⟩,
  ⟨"CMP_L1_FMT", 0x100184, 1, 4, 0x0, 0x0, 0x733, 0x0, 0x0, 0x0⟩,
  ⟨"CMP_L1_DST_POS", 0x100188, 1, 4, 0x0, 0x0, 0x1FFF1FFF, 0x0, 0x0, 0x0⟩,
  ⟨"CMP_L1_DST_SIZE", 0x10018C, 1, 4, 0x0, 0x0, 0x1FFF1FFF, 0x0, 0x0, 0x0⟩,
  ⟨"CMP_L1_SRC_SIZE", 0x100190, 1, 4, 0x0, 0x0, 0x1FFF1FFF, 0x0, 0x0, 0x0⟩,
  ⟨"CMP_L1_GALPHA", 0x100194, 1, 4, 0x8000, 0x0, 0xFFFF, 0x0, 0x0, 0x0⟩,
  ⟨"CMP_L1_BASE", 0x100198, 3, 4, 0x0, 0x0, 0xFFFFFFFF, 0x0, 0x0, 0x0⟩,
  ⟨"CMP_L1_STRIDE", 0x1001A4, 1, 4, 0x0, 0x0, 0xFFFFFFFF, 0x0, 0x0, 0x0⟩,
  ⟨"CMP_L1_FENCE_TARGET", 0x1001A8, 1, 4, 0x0, 0x0, 0xFFFF, 0x0, 0x0, 0x0⟩,
  ⟨"CMP_L1_LSTAT", 0x1001AC, 1, 4, 0x0, 0x0, 0x0, 0x0, 0x0, 0x0⟩,
  ⟨"CMP_L1_HSTART", 0x1001B0, 1, 4, 0x0, 0x0, 0xFFFFFFFF, 0x0, 0x0, 0x0⟩,
  ⟨"CMP_L1_HSTEP", 0x1001B4, 1, 4, 0x10000, 0x0, 0xFFFFFF, 0x0, 0x0, 0x0⟩,
  ⟨"CMP_L1_VSTART", 0x1001B8, 1, 4, 0x0, 0x0, 0xFFFFFFFF, 0x0, 0x0, 0x0⟩,
  ⟨"CMP_L1_VSTEP", 0x1001BC, 1, 4, 0x10000, 0x0, 0xFFFFFF, 0x0, 0x0, 0x0⟩,
  ⟨"CMP_L1_CSC_M0", 0x1001D0, 1, 4, 0x1000, 0x0, 0x7FFF, 0x0, 0x0, 0x0⟩,
  ⟨"CMP_L1_CSC_M1", 0x1001D4, 1, 4, 0x0, 0x0, 0x7FFF, 0x0, 0x0, 0x0⟩,
  ⟨"CMP_L1_CSC_M2", 0x1001D8, 1, 4, 0x0, 0x0, 0x7FFF, 0x0, 0x0, 0x0⟩,
  ⟨"CMP_L1_CSC_M3", 0x1001DC, 1, 4, 0x0, 0x0, 0x7FFF, 0x0, 0x0, 0x0⟩,
  ⟨"CMP_L1_CSC_M4", 0x1001E0, 1, 4, 0x1000, 0x0, 0x7FFF, 0x0, 0x0, 0x0⟩,
  ⟨"CMP_L1_CSC_M5", 0x1001E4, 1, 4, 0x0, 0x0, 0x7FFF, 0x0, 0x0, 0x0⟩,
  ⟨"CMP_L1_CSC_M6", 0x1001E8, 1, 4, 0x0, 0x0, 0x7FFF, 0x0, 0x0, 0x0⟩,
  ⟨"CMP_L1_CSC_M7", 0x1001EC, 1, 4, 0x0, 0x0, 0x7FFF, 0x0, 0x0, 0x0⟩,
  ⟨"CMP_L1_CSC_M8", 0x1001F0, 1, 4, 0x1000, 0x0, 0x7FFF, 0x0, 0x0, 0x0⟩,
  ⟨"CMP_L1_CSC_O", 0x1001F4, 3, 4, 0x0, 0x0, 0x1FFF, 0x0, 0x0, 0x0⟩,
  ⟨"CMP_L2_CTL", 0x100200, 1, 4, 0x0, 0x0, 0x21FFF, 0x0, 0x0, 0x0⟩,
  ⟨"CMP_L2_FMT", 0x100204, 1, 4, 0x0, 0x0, 0xF, 0x0, 0x0, 0x0⟩,
  ⟨"CMP_L2_DST_POS", 0x100208, 1, 4, 0x0, 0x0, 0x1FFF1FFF, 0x0, 0x0, 0x0⟩,
  ⟨"CMP_L2_DST_SIZE", 0x10020C, 1, 4, 0x0, 0x0, 0x1FFF1FFF, 0x0, 0x0, 0x0⟩,
  ⟨"CMP_L2_GALPHA", 0x100214, 1, 4, 0x8000, 0x0, 0xFFFF, 0x0, 0x0, 0x0⟩,
  ⟨"CMP_L2_BASE", 0x100218, 1, 4, 0x0, 0x0, 0xFFFFFFFF, 0x0, 0x0, 0x0⟩]

/-- Register rows of the CMP region, part 2. -/
def rowsCMP2 : List RegRow := [
  ⟨"CMP_L2_STRIDE", 0x100224, 1, 4, 0x0, 0x0, 0xFFFF, 0x0, 0x0, 0x0⟩,
  ⟨"CMP_L2_FENCE_TARGET", 0x100228, 1, 4, 0x0, 0x0, 0xFFFF, 0x0, 0x0, 0x0⟩,
  ⟨"CMP_L2_LSTAT", 0x10022C, 1, 4, 0x0, 0x0, 0x0, 0x0, 0x0, 0x0⟩,
  ⟨"CMP_L3_CTL", 0x100280, 1, 4, 0x0, 0x0, 0x21FFF, 0x0, 0x0, 0x0⟩,
  ⟨"CMP_L3_FMT", 0x100284, 1, 4, 0x0, 0x0, 0xF, 0x0, 0x0, 0x0⟩,
  ⟨"CMP_L3_DST_POS", 0x100288, 1, 4, 0x0, 0x0, 0x1FFF1FFF, 0x0, 0x0, 0x0⟩,
  ⟨"CMP_L3_DST_SIZE", 0x10028C, 1, 4, 0x0, 0x0, 0x1FFF1FFF, 0x0, 0x0, 0x0⟩,
  ⟨"CMP_L3_GALPHA", 0x100294, 1, 4, 0x8000, 0x0, 0xFFFF, 0x0, 0x0, 0x0⟩,
  ⟨"CMP_L3_BASE", 0x100298, 1, 4, 0x0, 0x0, 0xFFFFFFFF, 0x0, 0x0, 0x0⟩,
  ⟨"CMP_L3_STRIDE", 0x1002A4, 1, 4, 0x0, 0x0, 0xFFFF, 0x0, 0x0, 0x0⟩,
  ⟨"CMP_L3_FENCE_TARGET", 0x1002A8, 1, 4, 0x0, 0x0, 0xFFFF, 0x0, 0x0, 0x0⟩,
  ⟨"CMP_L3_LSTAT", 0x1002AC, 1, 4, 0x0, 0x0, 0x0, 0x0, 0x0, 0x0⟩,
  ⟨"CMP_L4_CTL", 0x100300, 1, 4, 0x0, 0x0, 0x21FFF, 0x0, 0x0, 0x0⟩,
  ⟨"CMP_L4_FMT", 0x100304, 1, 4, 0x0, 0x0, 0xF, 0x0, 0x0, 0x0⟩,
  ⟨"CMP_L4_DST_POS", 0x100308, 1, 4, 0x0, 0x0, 0x1FFF1FFF, 0x0, 0x0, 0x0⟩,
  ⟨"CMP_L4_DST_SIZE", 0x10030C, 1, 4, 0x0, 0x0, 0x1FFF1FFF, 0x0, 0x0, 0x0⟩,
  ⟨"CMP_L4_GALPHA", 0x100314, 1, 4, 0x8000, 0x0, 0xFFFF, 0x0, 0x0, 0x0⟩,
  ⟨"CMP_L4_BASE", 0x100318, 1, 4, 0x0, 0x0, 0xFFFFFFFF, 0x0, 0x0, 0x0⟩,
  ⟨"CMP_L4_STRIDE", 0x100324, 1, 4, 0x0, 0x0, 0xFFFF, 0x0, 0x0, 0x0⟩,
  ⟨"CMP_L4_FENCE_TARGET", 0x100328, 1, 4, 0x0, 0x0, 0xFFFF, 0x0, 0x0, 0x0⟩,
  ⟨"CMP_L4_LSTAT", 0x10032C, 1, 4, 0x0, 0x0, 0x0, 0x0, 0x0, 0x0⟩,
  ⟨"CMP_L5_CTL", 0x100380, 1, 4, 0x0, 0x0, 0x21FFF, 0x0, 0x0, 0x0⟩,
  ⟨"CMP_L5_FMT", 0x100384, 1, 4, 0x0, 0x0, 0xF, 0x0, 0x0, 0x0⟩,
  ⟨"CMP_L5_DST_POS", 0x100388, 1, 4, 0x0, 0x0, 0x1FFF1FFF, 0x0, 0x0, 0x0⟩,
  ⟨"CMP_L5_DST_SIZE", 0x10038C, 1, 4, 0x0, 0x0, 0x1FFF1FFF, 0x0, 0x0, 0x0⟩,
  ⟨"CMP_L5_GALPHA", 0x100394, 1, 4, 0x8000, 0x0, 0xFFFF, 0x0, 0x0, 0x0⟩,
  ⟨"CMP_L5_BASE", 0x100398, 1, 4, 0x0, 0x0, 0xFFFFFFFF, 0x0, 0x0, 0x0⟩,
  ⟨"CMP_L5_STRIDE", 0x1003A4, 1, 4, 0x0, 0x0, 0xFFFF, 0x0, 0x0, 0x0⟩,
  ⟨"CMP_L5_FENCE_TARGET", 0x1003A8, 1, 4, 0x0, 0x0, 0xFFFF, 0x0, 0x0, 0x0⟩,
  ⟨"CMP_L5_LSTAT", 0x1003AC, 1, 4, 0x0, 0x0, 0x0, 0x0, 0x0, 0x0⟩,
  ⟨"CMP_L6_CTL", 0x100400, 1, 4, 0x0, 0x0, 0x21FFF, 0x0, 0x0, 0x0⟩,
  ⟨"CMP_L6_FMT", 0x100404, 1, 4, 0x0, 0x0, 0xF, 0x0, 0x0, 0x0⟩,
  ⟨"CMP_L6_DST_POS", 0x100408, 1, 4, 0x0, 0x0, 0x1FFF1FFF, 0x0, 0x0, 0x0⟩,
  ⟨"CMP_L6_DST_SIZE", 0x10040C, 1, 4, 0x0, 0x0, 0x1FFF1FFF, 0x0, 0x0, 0x0⟩,
  ⟨"CMP_L6_GALPHA", 0x100414, 1, 4, 0x8000, 0x0, 0xFFFF, 0x0, 0x0, 0x0⟩,
  ⟨"CMP_L6_BASE", 0x100418, 1, 4, 0x0, 0x0, 0xFFFFFFFF, 0x0, 0x0, 0x0⟩,
  ⟨"CMP_L6_STRIDE", 0x100424, 1, 4, 0x0, 0x0, 0xFFFF, 0x0, 0x0, 0x0⟩,
  ⟨"CMP_L6_FENCE_TARGET", 0x100428, 1, 4, 0x0, 0x0, 0xFFFF, 0x0, 0x0, 0x0⟩,
  ⟨"CMP_L6_LSTAT", 0x10042C, 1, 4, 0x0, 0x0, 0x0, 0x0, 0x0, 0x0⟩,
  ⟨"CMP_L7_CTL", 0x100480, 1, 4, 0x0, 0x0, 0x21FDF, 0x0, 0x0, 0x0⟩]

/-- Register rows of the CMP region, part 3. -/
def rowsCMP3 : List RegRow := [
  ⟨"CMP_L7_FMT", 0x100484, 1, 4, 0x0, 0x0, 0xF, 0x0, 0x0, 0x0⟩,
  ⟨"CMP_L7_DST_POS", 0x100488, 1, 4, 0x0, 0x0, 0x1FFF1FFF, 0x0, 0x0, 0x0⟩,
  ⟨"CMP_L7_DST_SIZE", 0x10048C, 1, 4, 0x0, 0x0, 0x1FFF1FFF, 0x0, 0x0, 0x0⟩,
  ⟨"CMP_L7_GALPHA", 0x100494, 1, 4, 0x8000, 0x0, 0xFFFF, 0x0, 0x0, 0x0⟩,
  ⟨"CMP_L7_BASE", 0x100498, 1, 4, 0x0, 0x0, 0xFFFFFFFF, 0x0, 0x0, 0x0⟩,
  ⟨"CMP_L7_STRIDE", 0x1004A4, 1, 4, 0x0, 0x0, 0xFFFF, 0x0, 0x0, 0x0⟩,
  ⟨"CMP_L7_FENCE_TARGET", 0x1004A8, 1, 4, 0x0, 0x0, 0xFFFF, 0x0, 0x0, 0x0⟩,
  ⟨"CMP_L7_LSTAT", 0x1004AC, 1, 4, 0x0, 0x0, 0x0, 0x0, 0x0, 0x0⟩,
  ⟨"CMP_SAFE_STAT", 0x100500, 1, 4, 0x0, 0x0, 0x0, 0x0, 0x0, 0x0⟩,
  ⟨"CMP_SAFE_SIG", 0x100504, 4, 4, 0x0, 0x0, 0x0, 0x0, 0x0, 0x0⟩,
  ⟨"CMP_FLAT_BASE", 0x100604, 1, 4, 0x0, 0x0, 0xFFFFFFFF, 0x0, 0x0, 0x0⟩,
  ⟨"CMP_FLAT_SIZE", 0x100608, 1, 4, 0x0, 0x0, 0xFFFFFFFF, 0x0, 0x0, 0x0⟩,
  ⟨"CMP_FLAT_STAT", 0x10060C, 1, 4, 0x0, 0x0, 0x0, 0x0, 0x0, 0x0⟩,
  ⟨"CMP_WB_CTL", 0x100700, 1, 4, 0x0, 0x0, 0xF, 0x0, 0x0, 0x0⟩,
  ⟨"CMP_WB_STRIDE", 0x100704, 1, 4, 0x0, 0x0, 0xFFFF, 0x0, 0x0, 0x0⟩,
  ⟨"CMP_WB_BUF", 0x100710, 4, 4, 0x0, 0x0, 0xFFFFFFFF, 0x0, 0x0, 0x0⟩,
  ⟨"CMP_WB_STAT", 0x100720, 1, 4, 0x0, 0x0, 0x0, 0x0, 0x0, 0x0⟩,
  ⟨"CMP_WB_CNT", 0x100724, 1, 4, 0x0, 0x0, 0x0, 0x0, 0x0, 0x0⟩]

/-- Register rows of the CMP region. -/
def rowsCMP : List RegRow :=
  rowsCMP0 ++ rowsCMP1 ++ rowsCMP2 ++ rowsCMP3

/-- Register rows of the MOV region, part 0. -/
def rowsMOV0 : List RegRow := [
  ⟨"MOV_CTL", 0x110000, 1, 4, 0x0, 0x6, 0x0, 0x0, 0x0, 0x1⟩,
  ⟨"MOV_SRC", 0x110004, 1, 4, 0x0, 0xFFFFFFFF, 0x0, 0x0, 0x0, 0x0⟩,
  ⟨"MOV_SRC_STRIDE", 0x110008, 1, 4, 0x0, 0xFFFF, 0x0, 0x0, 0x0, 0x0⟩,
  ⟨"MOV_DST", 0x11000C, 1, 4, 0x0, 0xFFFFFFFF, 0x0, 0x0, 0x0, 0x0⟩,
  ⟨"MOV_DST_STRIDE", 0x110010, 1, 4, 0x0, 0xFFFF, 0x0, 0x0, 0x0, 0x0⟩,
  ⟨"MOV_SIZE", 0x110014, 1, 4, 0x0, 0x1FFF1FFF, 0x0, 0x0, 0x0, 0x0⟩,
  ⟨"MOV_FMT", 0x110018, 1, 4, 0x0, 0x33, 0x0, 0x0, 0x0, 0x0⟩,
  ⟨"MOV_FILL", 0x11001C, 1, 4, 0x0, 0xFFFFFFFF, 0x0, 0x0, 0x0, 0x0⟩,
  ⟨"MOV_STAT", 0x110020, 1, 4, 0x0, 0x0, 0x0, 0x0, 0x0, 0x0⟩,
  ⟨"MOV_ARITH", 0x1100F0, 1, 4, 0x0, 0x0, 0x0, 0x0, 0x80000000, 0x0⟩,
  ⟨"MOV_ARITH_CTL", 0x1100F4, 1, 4, 0x0, 0x0, 0x0, 0x0, 0x0, 0x0⟩]

/-- Register rows of the MOV region. -/
def rowsMOV : List RegRow :=
  rowsMOV0

/-- Register rows of the CMPLUT region, part 0. -/
def rowsCMPLUT0 : List RegRow := [
  ⟨"CMP_DEGAMMA0", 0x140000, 1024, 4, 0x0, 0xFFFF, 0x0, 0x0, 0x0, 0x0⟩,
  ⟨"CMP_DEGAMMA1", 0x141000, 1024, 4, 0x0, 0xFFFF, 0x0, 0x0, 0x0, 0x0⟩,
  ⟨"CMP_DEGAMMA2", 0x142000, 1024, 4, 0x0, 0xFFFF, 0x0, 0x0, 0x0, 0x0⟩,
  ⟨"CMP_DEGAMMA3", 0x143000, 1024, 4, 0x0, 0xFFFF, 0x0, 0x0, 0x0, 0x0⟩,
  ⟨"CMP_DEGAMMA4", 0x144000, 1024, 4, 0x0, 0xFFFF, 0x0, 0x0, 0x0, 0x0⟩,
  ⟨"CMP_DEGAMMA5", 0x145000, 1024, 4, 0x0, 0xFFFF, 0x0, 0x0, 0x0, 0x0⟩,
  ⟨"CMP_DEGAMMA6", 0x146000, 1024, 4, 0x0, 0xFFFF, 0x0, 0x0, 0x0, 0x0⟩,
  ⟨"CMP_DEGAMMA7", 0x147000, 1024, 4, 0x0, 0xFFFF, 0x0, 0x0, 0x0, 0x0⟩,
  ⟨"CMP_GAMMA_RED", 0x148000, 4096, 4, 0x0, 0xFFF, 0x0, 0x0, 0x0, 0x0⟩,
  ⟨"CMP_GAMMA_GRN", 0x14C000, 4096, 4, 0x0, 0xFFF, 0x0, 0x0, 0x0, 0x0⟩]

/-- Register rows of the CMPLUT region. -/
def rowsCMPLUT : List RegRow :=
  rowsCMPLUT0

/-- Register rows of the CMPLUT2 region, part 0. -/
def rowsCMPLUT20 : List RegRow := [
  ⟨"CMP_GAMMA_BLU", 0x150000, 4096, 4, 0x0, 0xFFF, 0x0, 0x0, 0x0, 0x0⟩]

/-- Register rows of the CMPLUT2 region. -/
def rowsCMPLUT2 : List RegRow :=
  rowsCMPLUT20

/-- Register rows of the CMPCOEF region, part 0. -/
def rowsCMPCOEF0 : List RegRow := [
  ⟨"CMP_HTAP", 0x180000, 8, 4, 0x0, 0x7FF, 0x0, 0x0, 0x0, 0x0⟩,
  ⟨"CMP_HTAP_V0_P1", 0x180020, 8, 4, 0x0, 0x7FF, 0x0, 0x0, 0x0, 0x0⟩,
  ⟨"CMP_HTAP_V0_P2", 0x180040, 8, 4, 0x0, 0x7FF, 0x0, 0x0, 0x0, 0x0⟩,
  ⟨"CMP_HTAP_V0_P3", 0x180060, 8, 4, 0x0, 0x7FF, 0x0, 0x0, 0x0, 0x0⟩,
  ⟨"CMP_HTAP_V0_P4", 0x180080, 8, 4, 0x0, 0x7FF, 0x0, 0x0, 0x0, 0x0⟩,
  ⟨"CMP_HTAP_V0_P5", 0x1800A0, 8, 4, 0x0, 0x7FF, 0x0, 0x0, 0x0, 0x0⟩,
  ⟨"CMP_HTAP_V0_P6", 0x1800C0, 8, 4, 0x0, 0x7FF, 0x0, 0x0, 0x0, 0x0⟩,
  ⟨"CMP_HTAP_V0_P7", 0x1800E0, 8, 4, 0x0, 0x7FF, 0x0, 0x0, 0x0, 0x0⟩,
  ⟨"CMP_HTAP_V0_P8", 0x180100, 8, 4, 0x0, 0x7FF, 0x0, 0x0, 0x0, 0x0⟩,
  ⟨"CMP_HTAP_V0_P9", 0x180120, 8, 4, 0x0, 0x7FF, 0x0, 0x0, 0x0, 0x0⟩,
  ⟨"CMP_HTAP_V0_P10", 0x180140, 8, 4, 0x0, 0x7FF, 0x0, 0x0, 0x0, 0x0⟩,
  ⟨"CMP_HTAP_V0_P11", 0x180160, 8, 4, 0x0, 0x7FF, 0x0, 0x0, 0x0, 0x0⟩,
  ⟨"CMP_HTAP_V0_P12", 0x180180, 8, 4, 0x0, 0x7FF, 0x0, 0x0, 0x0, 0x0⟩,
  ⟨"CMP_HTAP_V0_P13", 0x1801A0, 8, 4, 0x0, 0x7FF, 0x0, 0x0, 0x0, 0x0⟩,
  ⟨"CMP_HTAP_V0_P14", 0x1801C0, 8, 4, 0x0, 0x7FF, 0x0, 0x0, 0x0, 0x0⟩,
  ⟨"CMP_HTAP_V0_P15", 0x1801E0, 8, 4, 0x0, 0x7FF, 0x0, 0x0, 0x0, 0x0⟩,
  ⟨"CMP_HTAP_V0_P16", 0x180200, 8, 4, 0x0, 0x7FF, 0x0, 0x0, 0x0, 0x0⟩,
  ⟨"CMP_HTAP_V0_P17", 0x180220, 8, 4, 0x0, 0x7FF, 0x0, 0x0, 0x0, 0x0⟩,
  ⟨"CMP_HTAP_V0_P18", 0x180240, 8, 4, 0x0, 0x7FF, 0x0, 0x0, 0x0, 0x0⟩,
  ⟨"CMP_HTAP_V0_P19", 0x180260, 8, 4, 0x0, 0x7FF, 0x0, 0x0, 0x0, 0x0⟩,
  ⟨"CMP_HTAP_V0_P20", 0x180280, 8, 4, 0x0, 0x7FF, 0x0, 0x0, 0x0, 0x0⟩,
  ⟨"CMP_HTAP_V0_P21", 0x1802A0, 8, 4, 0x0, 0x7FF, 0x0, 0x0, 0x0, 0x0⟩,
  ⟨"CMP_HTAP_V0_P22", 0x1802C0, 8, 4, 0x0, 0x7FF, 0x0, 0x0, 0x0, 0x0⟩,
  ⟨"CMP_HTAP_V0_P23", 0x1802E0, 8, 4, 0x0, 0x7FF, 0x0, 0x0, 0x0, 0x0⟩,
  ⟨"CMP_HTAP_V0_P24", 0x180300, 8, 4, 0x0, 0x7FF, 0x0, 0x0, 0x0, 0x0⟩,
  ⟨"CMP_HTAP_V0_P25", 0x180320, 8, 4, 0x0, 0x7FF, 0x0, 0x0, 0x0, 0x0⟩,
  ⟨"CMP_HTAP_V0_P26", 0x180340, 8, 4, 0x0, 0x7FF, 0x0, 0x0, 0x0, 0x0⟩,
  ⟨"CMP_HTAP_V0_P27", 0x180360, 8, 4, 0x0, 0x7FF, 0x0, 0x0, 0x0, 0x0⟩,
  ⟨"CMP_HTAP_V0_P28", 0x180380, 8, 4, 0x0, 0x7FF, 0x0, 0x0, 0x0, 0x0⟩,
  ⟨"CMP_HTAP_V0_P29", 0x1803A0, 8, 4, 0x0, 0x7FF, 0x0, 0x0, 0x0, 0x0⟩,
  ⟨"CMP_HTAP_V0_P30", 0x1803C0, 8, 4, 0x0, 0x7FF, 0x0, 0x0, 0x0, 0x0⟩,
  ⟨"CMP_HTAP_V0_P31", 0x1803E0, 8, 4, 0x0, 0x7FF, 0x0, 0x0, 0x0, 0x0⟩,
  ⟨"CMP_HTAP_V0_P32", 0x180400, 8, 4, 0x0, 0x7FF, 0x0, 0x0, 0x0, 0x0⟩,
  ⟨"CMP_HTAP_V0_P33", 0x180420, 8, 4, 0x0, 0x7FF, 0x0, 0x0, 0x0, 0x0⟩,
  ⟨"CMP_HTAP_V0_P34", 0x180440, 8, 4, 0x0, 0x7FF, 0x0, 0x0, 0x0, 0x0⟩,
  ⟨"CMP_HTAP_V0_P35", 0x180460, 8, 4, 0x0, 0x7FF, 0x0, 0x0, 0x0, 0x0⟩,
  ⟨"CMP_HTAP_V0_P36", 0x180480, 8, 4, 0x0, 0x7FF, 0x0, 0x0, 0x0, 0x0⟩,
  ⟨"CMP_HTAP_V0_P37", 0x1804A0, 8, 4, 0x0, 0x7FF, 0x0, 0x0, 0x0, 0x0⟩,
  ⟨"CMP_HTAP_V0_P38", 0x1804C0, 8, 4, 0x0, 0x7FF, 0x0, 0x0, 0x0, 0x0⟩,
  ⟨"CMP_HTAP_V0_P39", 0x1804E0, 8, 4, 0x0, 0x7FF, 0x0, 0x0, 0x0, 0x0⟩]

/-- Register rows of the CMPCOEF region, part 1. -/
def rowsCMPCOEF1 : List RegRow := [
  ⟨"CMP_HTAP_V0_P40", 0x180500, 8, 4, 0x0, 0x7FF, 0x0, 0x0, 0x0, 0x0⟩,
  ⟨"CMP_HTAP_V0_P41", 0x180520, 8, 4, 0x0, 0x7FF, 0x0, 0x0, 0x0, 0x0⟩,
  ⟨"CMP_HTAP_V0_P42", 0x180540, 8, 4, 0x0, 0x7FF, 0x0, 0x0, 0x0, 0x0⟩,
  ⟨"CMP_HTAP_V0_P43", 0x180560, 8, 4, 0x0, 0x7FF, 0x0, 0x0, 0x0, 0x0⟩,
  ⟨"CMP_HTAP_V0_P44", 0x180580, 8, 4, 0x0, 0x7FF, 0x0, 0x0, 0x0, 0x0⟩,
  ⟨"CMP_HTAP_V0_P45", 0x1805A0, 8, 4, 0x0, 0x7FF, 0x0, 0x0, 0x0, 0x0⟩,
  ⟨"CMP_HTAP_V0_P46", 0x1805C0, 8, 4, 0x0, 0x7FF, 0x0, 0x0, 0x0, 0x0⟩,
  ⟨"CMP_HTAP_V0_P47", 0x1805E0, 8, 4, 0x0, 0x7FF, 0x0, 0x0, 0x0, 0x0⟩,
  ⟨"CMP_HTAP_V0_P48", 0x180600, 8, 4, 0x0, 0x7FF, 0x0, 0x0, 0x0, 0x0⟩,
  ⟨"CMP_HTAP_V0_P49", 0x180620, 8, 4, 0x0, 0x7FF, 0x0, 0x0, 0x0, 0x0⟩,
  ⟨"CMP_HTAP_V0_P50", 0x180640, 8, 4, 0x0, 0x7FF, 0x0, 0x0, 0x0, 0x0⟩,
  ⟨"CMP_HTAP_V0_P51", 0x180660, 8, 4, 0x0, 0x7FF, 0x0, 0x0, 0x0, 0x0⟩,
  ⟨"CMP_HTAP_V0_P52", 0x180680, 8, 4, 0x0, 0x7FF, 0x0, 0x0, 0x0, 0x0⟩,
  ⟨"CMP_HTAP_V0_P53", 0x1806A0, 8, 4, 0x0, 0x7FF, 0x0, 0x0, 0x0, 0x0⟩,
  ⟨"CMP_HTAP_V0_P54", 0x1806C0, 8, 4, 0x0, 0x7FF, 0x0, 0x0, 0x0, 0x0⟩,
  ⟨"CMP_HTAP_V0_P55", 0x1806E0, 8, 4, 0x0, 0x7FF, 0x0, 0x0, 0x0, 0x0⟩,
  ⟨"CMP_HTAP_V0_P56", 0x180700, 8, 4, 0x0, 0x7FF, 0x0, 0x0, 0x0, 0x0⟩,
  ⟨"CMP_HTAP_V0_P57", 0x180720, 8, 4, 0x0, 0x7FF, 0x0, 0x0, 0x0, 0x0⟩,
  ⟨"CMP_HTAP_V0_P58", 0x180740, 8, 4, 0x0, 0x7FF, 0x0, 0x0, 0x0, 0x0⟩,
  ⟨"CMP_HTAP_V0_P59", 0x180760, 8, 4, 0x0, 0x7FF, 0x0, 0x0, 0x0, 0x0⟩,
  ⟨"CMP_HTAP_V0_P60", 0x180780, 8, 4, 0x0, 0x7FF, 0x0, 0x0, 0x0, 0x0⟩,
  ⟨"CMP_HTAP_V0_P61", 0x1807A0, 8, 4, 0x0, 0x7FF, 0x0, 0x0, 0x0, 0x0⟩,
  ⟨"CMP_HTAP_V0_P62", 0x1807C0, 8, 4, 0x0, 0x7FF, 0x0, 0x0, 0x0, 0x0⟩,
  ⟨"CMP_HTAP_V0_P63", 0x1807E0, 8, 4, 0x0, 0x7FF, 0x0, 0x0, 0x0, 0x0⟩,
  ⟨"CMP_VTAP", 0x180800, 6, 4, 0x0, 0x7FF, 0x0, 0x0, 0x0, 0x0⟩,
  ⟨"CMP_VTAP_V0_P1", 0x180820, 6, 4, 0x0, 0x7FF, 0x0, 0x0, 0x0, 0x0⟩,
  ⟨"CMP_VTAP_V0_P2", 0x180840, 6, 4, 0x0, 0x7FF, 0x0, 0x0, 0x0, 0x0⟩,
  ⟨"CMP_VTAP_V0_P3", 0x180860, 6, 4, 0x0, 0x7FF, 0x0, 0x0, 0x0, 0x0⟩,
  ⟨"CMP_VTAP_V0_P4", 0x180880, 6, 4, 0x0, 0x7FF, 0x0, 0x0, 0x0, 0x0⟩,
  ⟨"CMP_VTAP_V0_P5", 0x1808A0, 6, 4, 0x0, 0x7FF, 0x0, 0x0, 0x0, 0x0⟩,
  ⟨"CMP_VTAP_V0_P6", 0x1808C0, 6, 4, 0x0, 0x7FF, 0x0, 0x0, 0x0, 0x0⟩,
  ⟨"CMP_VTAP_V0_P7", 0x1808E0, 6, 4, 0x0, 0x7FF, 0x0, 0x0, 0x0, 0x0⟩,
  ⟨"CMP_VTAP_V0_P8", 0x180900, 6, 4, 0x0, 0x7FF, 0x0, 0x0, 0x0, 0x0⟩,
  ⟨"CMP_VTAP_V0_P9", 0x180920, 6, 4, 0x0, 0x7FF, 0x0, 0x0, 0x0, 0x0⟩,
  ⟨"CMP_VTAP_V0_P10", 0x180940, 6, 4, 0x0, 0x7FF, 0x0, 0x0, 0x0, 0x0⟩,
  ⟨"CMP_VTAP_V0_P11", 0x180960, 6, 4, 0x0, 0x7FF, 0x0, 0x0, 0x0, 0x0⟩,
  ⟨"CMP_VTAP_V0_P12", 0x180980, 6, 4, 0x0, 0x7FF, 0x0, 0x0, 0x0, 0x0⟩,
  ⟨"CMP_VTAP_V0_P13", 0x1809A0, 6, 4, 0x0, 0x7FF, 0x0, 0x0, 0x0, 0x0⟩,
  ⟨"CMP_VTAP_V0_P14", 0x1809C0, 6, 4, 0x0, 0x7FF, 0x0, 0x0, 0x0, 0x0⟩,
  ⟨"CMP_VTAP_V0_P15", 0x1809E0, 6, 4, 0x0, 0x7FF, 0x0, 0x0, 0x0, 0x0⟩]

/-- Register rows of the CMPCOEF region, part 2. -/
def rowsCMPCOEF2 : List RegRow := [
  ⟨"CMP_VTAP_V0_P16", 0x180A00, 6, 4, 0x0, 0x7FF, 0x0, 0x0, 0x0, 0x0⟩,
  ⟨"CMP_VTAP_V0_P17", 0x180A20, 6, 4, 0x0, 0x7FF, 0x0, 0x0, 0x0, 0x0⟩,
  ⟨"CMP_VTAP_V0_P18", 0x180A40, 6, 4, 0x0, 0x7FF, 0x0, 0x0, 0x0, 0x0⟩,
  ⟨"CMP_VTAP_V0_P19", 0x180A60, 6, 4, 0x0, 0x7FF, 0x0, 0x0, 0x0, 0x0⟩,
  ⟨"CMP_VTAP_V0_P20", 0x180A80, 6, 4, 0x0, 0x7FF, 0x0, 0x0, 0x0, 0x0⟩,
  ⟨"CMP_VTAP_V0_P21", 0x180AA0, 6, 4, 0x0, 0x7FF, 0x0, 0x0, 0x0, 0x0⟩,
  ⟨"CMP_VTAP_V0_P22", 0x180AC0, 6, 4, 0x0, 0x7FF, 0x0, 0x0, 0x0, 0x0⟩,
  ⟨"CMP_VTAP_V0_P23", 0x180AE0, 6, 4, 0x0, 0x7FF, 0x0, 0x0, 0x0, 0x0⟩,
  ⟨"CMP_VTAP_V0_P24", 0x180B00, 6, 4, 0x0, 0x7FF, 0x0, 0x0, 0x0, 0x0⟩,
  ⟨"CMP_VTAP_V0_P25", 0x180B20, 6, 4, 0x0, 0x7FF, 0x0, 0x0, 0x0, 0x0⟩,
  ⟨"CMP_VTAP_V0_P26", 0x180B40, 6, 4, 0x0, 0x7FF, 0x0, 0x0, 0x0, 0x0⟩,
  ⟨"CMP_VTAP_V0_P27", 0x180B60, 6, 4, 0x0, 0x7FF, 0x0, 0x0, 0x0, 0x0⟩,
  ⟨"CMP_VTAP_V0_P28", 0x180B80, 6, 4, 0x0, 0x7FF, 0x0, 0x0, 0x0, 0x0⟩,
  ⟨"CMP_VTAP_V0_P29", 0x180BA0, 6, 4, 0x0, 0x7FF, 0x0, 0x0, 0x0, 0x0⟩,
  ⟨"CMP_VTAP_V0_P30", 0x180BC0, 6, 4, 0x0, 0x7FF, 0x0, 0x0, 0x0, 0x0⟩,
  ⟨"CMP_VTAP_V0_P31", 0x180BE0, 6, 4, 0x0, 0x7FF, 0x0, 0x0, 0x0, 0x0⟩,
  ⟨"CMP_VTAP_V0_P32", 0x180C00, 6, 4, 0x0, 0x7FF, 0x0, 0x0, 0x0, 0x0⟩,
  ⟨"CMP_VTAP_V0_P33", 0x180C20, 6, 4, 0x0, 0x7FF, 0x0, 0x0, 0x0, 0x0⟩,
  ⟨"CMP_VTAP_V0_P34", 0x180C40, 6, 4, 0x0, 0x7FF, 0x0, 0x0, 0x0, 0x0⟩,
  ⟨"CMP_VTAP_V0_P35", 0x180C60, 6, 4, 0x0, 0x7FF, 0x0, 0x0, 0x0, 0x0⟩,
  ⟨"CMP_VTAP_V0_P36", 0x180C80, 6, 4, 0x0, 0x7FF, 0x0, 0x0, 0x0, 0x0⟩,
  ⟨"CMP_VTAP_V0_P37", 0x180CA0, 6, 4, 0x0, 0x7FF, 0x0, 0x0, 0x0, 0x0⟩,
  ⟨"CMP_VTAP_V0_P38", 0x180CC0, 6, 4, 0x0, 0x7FF, 0x0, 0x0, 0x0, 0x0⟩,
  ⟨"CMP_VTAP_V0_P39", 0x180CE0, 6, 4, 0x0, 0x7FF, 0x0, 0x0, 0x0, 0x0⟩,
  ⟨"CMP_VTAP_V0_P40", 0x180D00, 6, 4, 0x0, 0x7FF, 0x0, 0x0, 0x0, 0x0⟩,
  ⟨"CMP_VTAP_V0_P41", 0x180D20, 6, 4, 0x0, 0x7FF, 0x0, 0x0, 0x0, 0x0⟩,
  ⟨"CMP_VTAP_V0_P42", 0x180D40, 6, 4, 0x0, 0x7FF, 0x0, 0x0, 0x0, 0x0⟩,
  ⟨"CMP_VTAP_V0_P43", 0x180D60, 6, 4, 0x0, 0x7FF, 0x0, 0x0, 0x0, 0x0⟩,
  ⟨"CMP_VTAP_V0_P44", 0x180D80, 6, 4, 0x0, 0x7FF, 0x0, 0x0, 0x0, 0x0⟩,
  ⟨"CMP_VTAP_V0_P45", 0x180DA0, 6, 4, 0x0, 0x7FF, 0x0, 0x0, 0x0, 0x0⟩,
  ⟨"CMP_VTAP_V0_P46", 0x180DC0, 6, 4, 0x0, 0x7FF, 0x0, 0x0, 0x0, 0x0⟩,
  ⟨"CMP_VTAP_V0_P47", 0x180DE0, 6, 4, 0x0, 0x7FF, 0x0, 0x0, 0x0, 0x0⟩,
  ⟨"CMP_VTAP_V0_P48", 0x180E00, 6, 4, 0x0, 0x7FF, 0x0, 0x0, 0x0, 0x0⟩,
  ⟨"CMP_VTAP_V0_P49", 0x180E20, 6, 4, 0x0, 0x7FF, 0x0, 0x0, 0x0, 0x0⟩,
  ⟨"CMP_VTAP_V0_P50", 0x180E40, 6, 4, 0x0, 0x7FF, 0x0, 0x0, 0x0, 0x0⟩,
  ⟨"CMP_VTAP_V0_P51", 0x180E60, 6, 4, 0x0, 0x7FF, 0x0, 0x0, 0x0, 0x0⟩,
  ⟨"CMP_VTAP_V0_P52", 0x180E80, 6, 4, 0x0, 0x7FF, 0x0, 0x0, 0x0, 0x0⟩,
  ⟨"CMP_VTAP_V0_P53", 0x180EA0, 6, 4, 0x0, 0x7FF, 0x0, 0x0, 0x0, 0x0⟩,
  ⟨"CMP_VTAP_V0_P54", 0x180EC0, 6, 4, 0x0, 0x7FF, 0x0, 0x0, 0x0, 0x0⟩,
  ⟨"CMP_VTAP_V0_P55", 0x180EE0, 6, 4, 0x0, 0x7FF, 0x0, 0x0, 0x0, 0x0⟩]

/-- Register rows of the CMPCOEF region, part 3. -/
def rowsCMPCOEF3 : List RegRow := [
  ⟨"CMP_VTAP_V0_P56", 0x180F00, 6, 4, 0x0, 0x7FF, 0x0, 0x0, 0x0, 0x0⟩,
  ⟨"CMP_VTAP_V0_P57", 0x180F20, 6, 4, 0x0, 0x7FF, 0x0, 0x0, 0x0, 0x0⟩,
  ⟨"CMP_VTAP_V0_P58", 0x180F40, 6, 4, 0x0, 0x7FF, 0x0, 0x0, 0x0, 0x0⟩,
  ⟨"CMP_VTAP_V0_P59", 0x180F60, 6, 4, 0x0, 0x7FF, 0x0, 0x0, 0x0, 0x0⟩,
  ⟨"CMP_VTAP_V0_P60", 0x180F80, 6, 4, 0x0, 0x7FF, 0x0, 0x0, 0x0, 0x0⟩,
  ⟨"CMP_VTAP_V0_P61", 0x180FA0, 6, 4, 0x0, 0x7FF, 0x0, 0x0, 0x0, 0x0⟩,
  ⟨"CMP_VTAP_V0_P62", 0x180FC0, 6, 4, 0x0, 0x7FF, 0x0, 0x0, 0x0, 0x0⟩,
  ⟨"CMP_VTAP_V0_P63", 0x180FE0, 6, 4, 0x0, 0x7FF, 0x0, 0x0, 0x0, 0x0⟩,
  ⟨"CMP_HTAP_V1_P0", 0x181000, 8, 4, 0x0, 0x7FF, 0x0, 0x0, 0x0, 0x0⟩,
  ⟨"CMP_HTAP_V1_P1", 0x181020, 8, 4, 0x0, 0x7FF, 0x0, 0x0, 0x0, 0x0⟩,
  ⟨"CMP_HTAP_V1_P2", 0x181040, 8, 4, 0x0, 0x7FF, 0x0, 0x0, 0x0, 0x0⟩,
  ⟨"CMP_HTAP_V1_P3", 0x181060, 8, 4, 0x0, 0x7FF, 0x0, 0x0, 0x0, 0x0⟩,
  ⟨"CMP_HTAP_V1_P4", 0x181080, 8, 4, 0x0, 0x7FF, 0x0, 0x0, 0x0, 0x0⟩,
  ⟨"CMP_HTAP_V1_P5", 0x1810A0, 8, 4, 0x0, 0x7FF, 0x0, 0x0, 0x0, 0x0⟩,
  ⟨"CMP_HTAP_V1_P6", 0x1810C0, 8, 4, 0x0, 0x7FF, 0x0, 0x0, 0x0, 0x0⟩,
  ⟨"CMP_HTAP_V1_P7", 0x1810E0, 8, 4, 0x0, 0x7FF, 0x0, 0x0, 0x0, 0x0⟩,
  ⟨"CMP_HTAP_V1_P8", 0x181100, 8, 4, 0x0, 0x7FF, 0x0, 0x0, 0x0, 0x0⟩,
  ⟨"CMP_HTAP_V1_P9", 0x181120, 8, 4, 0x0, 0x7FF, 0x0, 0x0, 0x0, 0x0⟩,
  ⟨"CMP_HTAP_V1_P10", 0x181140, 8, 4, 0x0, 0x7FF, 0x0, 0x0, 0x0, 0x0⟩,
  ⟨"CMP_HTAP_V1_P11", 0x181160, 8, 4, 0x0, 0x7FF, 0x0, 0x0, 0x0, 0x0⟩,
  ⟨"CMP_HTAP_V1_P12", 0x181180, 8, 4, 0x0, 0x7FF, 0x0, 0x0, 0x0, 0x0⟩,
  ⟨"CMP_HTAP_V1_P13", 0x1811A0, 8, 4, 0x0, 0x7FF, 0x0, 0x0, 0x0, 0x0⟩,
  ⟨"CMP_HTAP_V1_P14", 0x1811C0, 8, 4, 0x0, 0x7FF, 0x0, 0x0, 0x0, 0x0⟩,
  ⟨"CMP_HTAP_V1_P15", 0x1811E0, 8, 4, 0x0, 0x7FF, 0x0, 0x0, 0x0, 0x0⟩,
  ⟨"CMP_HTAP_V1_P16", 0x181200, 8, 4, 0x0, 0x7FF, 0x0, 0x0, 0x0, 0x0⟩,
  ⟨"CMP_HTAP_V1_P17", 0x181220, 8, 4, 0x0, 0x7FF, 0x0, 0x0, 0x0, 0x0⟩,
  ⟨"CMP_HTAP_V1_P18", 0x181240, 8, 4, 0x0, 0x7FF, 0x0, 0x0, 0x0, 0x0⟩,
  ⟨"CMP_HTAP_V1_P19", 0x181260, 8, 4, 0x0, 0x7FF, 0x0, 0x0, 0x0, 0x0⟩,
  ⟨"CMP_HTAP_V1_P20", 0x181280, 8, 4, 0x0, 0x7FF, 0x0, 0x0, 0x0, 0x0⟩,
  ⟨"CMP_HTAP_V1_P21", 0x1812A0, 8, 4, 0x0, 0x7FF, 0x0, 0x0, 0x0, 0x0⟩,
  ⟨"CMP_HTAP_V1_P22", 0x1812C0, 8, 4, 0x0, 0x7FF, 0x0, 0x0, 0x0, 0x0⟩,
  ⟨"CMP_HTAP_V1_P23", 0x1812E0, 8, 4, 0x0, 0x7FF, 0x0, 0x0, 0x0, 0x0⟩,
  ⟨"CMP_HTAP_V1_P24", 0x181300, 8, 4, 0x0, 0x7FF, 0x0, 0x0, 0x0, 0x0⟩,
  ⟨"CMP_HTAP_V1_P25", 0x181320, 8, 4, 0x0, 0x7FF, 0x0, 0x0, 0x0, 0x0⟩,
  ⟨"CMP_HTAP_V1_P26", 0x181340, 8, 4, 0x0, 0x7FF, 0x0, 0x0, 0x0, 0x0⟩,
  ⟨"CMP_HTAP_V1_P27", 0x181360, 8, 4, 0x0, 0x7FF, 0x0, 0x0, 0x0, 0x0⟩,
  ⟨"CMP_HTAP_V1_P28", 0x181380, 8, 4, 0x0, 0x7FF, 0x0, 0x0, 0x0, 0x0⟩,
  ⟨"CMP_HTAP_V1_P29", 0x1813A0, 8, 4, 0x0, 0x7FF, 0x0, 0x0, 0x0, 0x0⟩,
  ⟨"CMP_HTAP_V1_P30", 0x1813C0, 8, 4, 0x0, 0x7FF, 0x0, 0x0, 0x0, 0x0⟩,
  ⟨"CMP_HTAP_V1_P31", 0x1813E0, 8, 4, 0x0, 0x7FF, 0x0, 0x0, 0x0, 0x0⟩]

/-- Register rows of the CMPCOEF region, part 4. -/
def rowsCMPCOEF4 : List RegRow := [
  ⟨"CMP_HTAP_V1_P32", 0x181400, 8, 4, 0x0, 0x7FF, 0x0, 0x0, 0x0, 0x0⟩,
  ⟨"CMP_HTAP_V1_P33", 0x181420, 8, 4, 0x0, 0x7FF, 0x0, 0x0, 0x0, 0x0⟩,
  ⟨"CMP_HTAP_V1_P34", 0x181440, 8, 4, 0x0, 0x7FF, 0x0, 0x0, 0x0, 0x0⟩,
  ⟨"CMP_HTAP_V1_P35", 0x181460, 8, 4, 0x0, 0x7FF, 0x0, 0x0, 0x0, 0x0⟩,
  ⟨"CMP_HTAP_V1_P36", 0x181480, 8, 4, 0x0, 0x7FF, 0x0, 0x0, 0x0, 0x0⟩,
  ⟨"CMP_HTAP_V1_P37", 0x1814A0, 8, 4, 0x0, 0x7FF, 0x0, 0x0, 0x0, 0x0⟩,
  ⟨"CMP_HTAP_V1_P38", 0x1814C0, 8, 4, 0x0, 0x7FF, 0x0, 0x0, 0x0, 0x0⟩,
  ⟨"CMP_HTAP_V1_P39", 0x1814E0, 8, 4, 0x0, 0x7FF, 0x0, 0x0, 0x0, 0x0⟩,
  ⟨"CMP_HTAP_V1_P40", 0x181500, 8, 4, 0x0, 0x7FF, 0x0, 0x0, 0x0, 0x0⟩,
  ⟨"CMP_HTAP_V1_P41", 0x181520, 8, 4, 0x0, 0x7FF, 0x0, 0x0, 0x0, 0x0⟩,
  ⟨"CMP_HTAP_V1_P42", 0x181540, 8, 4, 0x0, 0x7FF, 0x0, 0x0, 0x0, 0x0⟩,
  ⟨"CMP_HTAP_V1_P43", 0x181560, 8, 4, 0x0, 0x7FF, 0x0, 0x0, 0x0, 0x0⟩,
  ⟨"CMP_HTAP_V1_P44", 0x181580, 8, 4, 0x0, 0x7FF, 0x0, 0x0, 0x0, 0x0⟩,
  ⟨"CMP_HTAP_V1_P45", 0x1815A0, 8, 4, 0x0, 0x7FF, 0x0, 0x0, 0x0, 0x0⟩,
  ⟨"CMP_HTAP_V1_P46", 0x1815C0, 8, 4, 0x0, 0x7FF, 0x0, 0x0, 0x0, 0x0⟩,
  ⟨"CMP_HTAP_V1_P47", 0x1815E0, 8, 4, 0x0, 0x7FF, 0x0, 0x0, 0x0, 0x0⟩,
  ⟨"CMP_HTAP_V1_P48", 0x181600, 8, 4, 0x0, 0x7FF, 0x0, 0x0, 0x0, 0x0⟩,
  ⟨"CMP_HTAP_V1_P49", 0x181620, 8, 4, 0x0, 0x7FF, 0x0, 0x0, 0x0, 0x0⟩,
  ⟨"CMP_HTAP_V1_P50", 0x181640, 8, 4, 0x0, 0x7FF, 0x0, 0x0, 0x0, 0x0⟩,
  ⟨"CMP_HTAP_V1_P51", 0x181660, 8, 4, 0x0, 0x7FF, 0x0, 0x0, 0x0, 0x0⟩,
  ⟨"CMP_HTAP_V1_P52", 0x181680, 8, 4, 0x0, 0x7FF, 0x0, 0x0, 0x0, 0x0⟩,
  ⟨"CMP_HTAP_V1_P53", 0x1816A0, 8, 4, 0x0, 0x7FF, 0x0, 0x0, 0x0, 0x0⟩,
  ⟨"CMP_HTAP_V1_P54", 0x1816C0, 8, 4, 0x0, 0x7FF, 0x0, 0x0, 0x0, 0x0⟩,
  ⟨"CMP_HTAP_V1_P55", 0x1816E0, 8, 4, 0x0, 0x7FF, 0x0, 0x0, 0x0, 0x0⟩,
  ⟨"CMP_HTAP_V1_P56", 0x181700, 8, 4, 0x0, 0x7FF, 0x0, 0x0, 0x0, 0x0⟩,
  ⟨"CMP_HTAP_V1_P57", 0x181720, 8, 4, 0x0, 0x7FF, 0x0, 0x0, 0x0, 0x0⟩,
  ⟨"CMP_HTAP_V1_P58", 0x181740, 8, 4, 0x0, 0x7FF, 0x0, 0x0, 0x0, 0x0⟩,
  ⟨"CMP_HTAP_V1_P59", 0x181760, 8, 4, 0x0, 0x7FF, 0x0, 0x0, 0x0, 0x0⟩,
  ⟨"CMP_HTAP_V1_P60", 0x181780, 8, 4, 0x0, 0x7FF, 0x0, 0x0, 0x0, 0x0⟩,
  ⟨"CMP_HTAP_V1_P61", 0x1817A0, 8, 4, 0x0, 0x7FF, 0x0, 0x0, 0x0, 0x0⟩,
  ⟨"CMP_HTAP_V1_P62", 0x1817C0, 8, 4, 0x0, 0x7FF, 0x0, 0x0, 0x0, 0x0⟩,
  ⟨"CMP_HTAP_V1_P63", 0x1817E0, 8, 4, 0x0, 0x7FF, 0x0, 0x0, 0x0, 0x0⟩,
  ⟨"CMP_VTAP_V1_P0", 0x181800, 6, 4, 0x0, 0x7FF, 0x0, 0x0, 0x0, 0x0⟩,
  ⟨"CMP_VTAP_V1_P1", 0x181820, 6, 4, 0x0, 0x7FF, 0x0, 0x0, 0x0, 0x0⟩,
  ⟨"CMP_VTAP_V1_P2", 0x181840, 6, 4, 0x0, 0x7FF, 0x0, 0x0, 0x0, 0x0⟩,
  ⟨"CMP_VTAP_V1_P3", 0x181860, 6, 4, 0x0, 0x7FF, 0x0, 0x0, 0x0, 0x0⟩,
  ⟨"CMP_VTAP_V1_P4", 0x181880, 6, 4, 0x0, 0x7FF, 0x0, 0x0, 0x0, 0x0⟩,
  ⟨"CMP_VTAP_V1_P5", 0x1818A0, 6, 4, 0x0, 0x7FF, 0x0, 0x0, 0x0, 0x0⟩,
  ⟨"CMP_VTAP_V1_P6", 0x1818C0, 6, 4, 0x0, 0x7FF, 0x0, 0x0, 0x0, 0x0⟩,
  ⟨"CMP_VTAP_V1_P7", 0x1818E0, 6, 4, 0x0, 0x7FF, 0x0, 0x0, 0x0, 0x0⟩]

/-- Register rows of the CMPCOEF region, part 5. -/
def rowsCMPCOEF5 : List RegRow := [
  ⟨"CMP_VTAP_V1_P8", 0x181900, 6, 4, 0x0, 0x7FF, 0x0, 0x0, 0x0, 0x0⟩,
  ⟨"CMP_VTAP_V1_P9", 0x181920, 6, 4, 0x0, 0x7FF, 0x0, 0x0, 0x0, 0x0⟩,
  ⟨"CMP_VTAP_V1_P10", 0x181940, 6, 4, 0x0, 0x7FF, 0x0, 0x0, 0x0, 0x0⟩,
  ⟨"CMP_VTAP_V1_P11", 0x181960, 6, 4, 0x0, 0x7FF, 0x0, 0x0, 0x0, 0x0⟩,
  ⟨"CMP_VTAP_V1_P12", 0x181980, 6, 4, 0x0, 0x7FF, 0x0, 0x0, 0x0, 0x0⟩,
  ⟨"CMP_VTAP_V1_P13", 0x1819A0, 6, 4, 0x0, 0x7FF, 0x0, 0x0, 0x0, 0x0⟩,
  ⟨"CMP_VTAP_V1_P14", 0x1819C0, 6, 4, 0x0, 0x7FF, 0x0, 0x0, 0x0, 0x0⟩,
  ⟨"CMP_VTAP_V1_P15", 0x1819E0, 6, 4, 0x0, 0x7FF, 0x0, 0x0, 0x0, 0x0⟩,
  ⟨"CMP_VTAP_V1_P16", 0x181A00, 6, 4, 0x0, 0x7FF, 0x0, 0x0, 0x0, 0x0⟩,
  ⟨"CMP_VTAP_V1_P17", 0x181A20, 6, 4, 0x0, 0x7FF, 0x0, 0x0, 0x0, 0x0⟩,
  ⟨"CMP_VTAP_V1_P18", 0x181A40, 6, 4, 0x0, 0x7FF, 0x0, 0x0, 0x0, 0x0⟩,
  ⟨"CMP_VTAP_V1_P19", 0x181A60, 6, 4, 0x0, 0x7FF, 0x0, 0x0, 0x0, 0x0⟩,
  ⟨"CMP_VTAP_V1_P20", 0x181A80, 6, 4, 0x0, 0x7FF, 0x0, 0x0, 0x0, 0x0⟩,
  ⟨"CMP_VTAP_V1_P21", 0x181AA0, 6, 4, 0x0, 0x7FF, 0x0, 0x0, 0x0, 0x0⟩,
  ⟨"CMP_VTAP_V1_P22", 0x181AC0, 6, 4, 0x0, 0x7FF, 0x0, 0x0, 0x0, 0x0⟩,
  ⟨"CMP_VTAP_V1_P23", 0x181AE0, 6, 4, 0x0, 0x7FF, 0x0, 0x0, 0x0, 0x0⟩,
  ⟨"CMP_VTAP_V1_P24", 0x181B00, 6, 4, 0x0, 0x7FF, 0x0, 0x0, 0x0, 0x0⟩,
  ⟨"CMP_VTAP_V1_P25", 0x181B20, 6, 4, 0x0, 0x7FF, 0x0, 0x0, 0x0, 0x0⟩,
  ⟨"CMP_VTAP_V1_P26", 0x181B40, 6, 4, 0x0, 0x7FF, 0x0, 0x0, 0x0, 0x0⟩,
  ⟨"CMP_VTAP_V1_P27", 0x181B60, 6, 4, 0x0, 0x7FF, 0x0, 0x0, 0x0, 0x0⟩,
  ⟨"CMP_VTAP_V1_P28", 0x181B80, 6, 4, 0x0, 0x7FF, 0x0, 0x0, 0x0, 0x0⟩,
  ⟨"CMP_VTAP_V1_P29", 0x181BA0, 6, 4, 0x0, 0x7FF, 0x0, 0x0, 0x0, 0x0⟩,
  ⟨"CMP_VTAP_V1_P30", 0x181BC0, 6, 4, 0x0, 0x7FF, 0x0, 0x0, 0x0, 0x0⟩,
  ⟨"CMP_VTAP_V1_P31", 0x181BE0, 6, 4, 0x0, 0x7FF, 0x0, 0x0, 0x0, 0x0⟩,
  ⟨"CMP_VTAP_V1_P32", 0x181C00, 6, 4, 0x0, 0x7FF, 0x0, 0x0, 0x0, 0x0⟩,
  ⟨"CMP_VTAP_V1_P33", 0x181C20, 6, 4, 0x0, 0x7FF, 0x0, 0x0, 0x0, 0x0⟩,
  ⟨"CMP_VTAP_V1_P34", 0x181C40, 6, 4, 0x0, 0x7FF, 0x0, 0x0, 0x0, 0x0⟩,
  ⟨"CMP_VTAP_V1_P35", 0x181C60, 6, 4, 0x0, 0x7FF, 0x0, 0x0, 0x0, 0x0⟩,
  ⟨"CMP_VTAP_V1_P36", 0x181C80, 6, 4, 0x0, 0x7FF, 0x0, 0x0, 0x0, 0x0⟩,
  ⟨"CMP_VTAP_V1_P37", 0x181CA0, 6, 4, 0x0, 0x7FF, 0x0, 0x0, 0x0, 0x0⟩,
  ⟨"CMP_VTAP_V1_P38", 0x181CC0, 6, 4, 0x0, 0x7FF, 0x0, 0x0, 0x0, 0x0⟩,
  ⟨"CMP_VTAP_V1_P39", 0x181CE0, 6, 4, 0x0, 0x7FF, 0x0, 0x0, 0x0, 0x0⟩,
  ⟨"CMP_VTAP_V1_P40", 0x181D00, 6, 4, 0x0, 0x7FF, 0x0, 0x0, 0x0, 0x0⟩,
  ⟨"CMP_VTAP_V1_P41", 0x181D20, 6, 4, 0x0, 0x7FF, 0x0, 0x0, 0x0, 0x0⟩,
  ⟨"CMP_VTAP_V1_P42", 0x181D40, 6, 4, 0x0, 0x7FF, 0x0, 0x0, 0x0, 0x0⟩,
  ⟨"CMP_VTAP_V1_P43", 0x181D60, 6, 4, 0x0, 0x7FF, 0x0, 0x0, 0x0, 0x0⟩,
  ⟨"CMP_VTAP_V1_P44", 0x181D80, 6, 4, 0x0, 0x7FF, 0x0, 0x0, 0x0, 0x0⟩,
  ⟨"CMP_VTAP_V1_P45", 0x181DA0, 6, 4, 0x0, 0x7FF, 0x0, 0x0, 0x0, 0x0⟩,
  ⟨"CMP_VTAP_V1_P46", 0x181DC0, 6, 4, 0x0, 0x7FF, 0x0, 0x0, 0x0, 0x0⟩,
  ⟨"CMP_VTAP_V1_P47", 0x181DE0, 6, 4, 0x0, 0x7FF, 0x0, 0x0, 0x0, 0x0⟩]

/-- Register rows of the CMPCOEF region, part 6. -/
def rowsCMPCOEF6 : List RegRow := [
  ⟨"CMP_VTAP_V1_P48", 0x181E00, 6, 4, 0x0, 0x7FF, 0x0, 0x0, 0x0, 0x0⟩,
  ⟨"CMP_VTAP_V1_P49", 0x181E20, 6, 4, 0x0, 0x7FF, 0x0, 0x0, 0x0, 0x0⟩,
  ⟨"CMP_VTAP_V1_P50", 0x181E40, 6, 4, 0x0, 0x7FF, 0x0, 0x0, 0x0, 0x0⟩,
  ⟨"CMP_VTAP_V1_P51", 0x181E60, 6, 4, 0x0, 0x7FF, 0x0, 0x0, 0x0, 0x0⟩,
  ⟨"CMP_VTAP_V1_P52", 0x181E80, 6, 4, 0x0, 0x7FF, 0x0, 0x0, 0x0, 0x0⟩,
  ⟨"CMP_VTAP_V1_P53", 0x181EA0, 6, 4, 0x0, 0x7FF, 0x0, 0x0, 0x0, 0x0⟩,
  ⟨"CMP_VTAP_V1_P54", 0x181EC0, 6, 4, 0x0, 0x7FF, 0x0, 0x0, 0x0, 0x0⟩,
  ⟨"CMP_VTAP_V1_P55", 0x181EE0, 6, 4, 0x0, 0x7FF, 0x0, 0x0, 0x0, 0x0⟩,
  ⟨"CMP_VTAP_V1_P56", 0x181F00, 6, 4, 0x0, 0x7FF, 0x0, 0x0, 0x0, 0x0⟩,
  ⟨"CMP_VTAP_V1_P57", 0x181F20, 6, 4, 0x0, 0x7FF, 0x0, 0x0, 0x0, 0x0⟩,
  ⟨"CMP_VTAP_V1_P58", 0x181F40, 6, 4, 0x0, 0x7FF, 0x0, 0x0, 0x0, 0x0⟩,
  ⟨"CMP_VTAP_V1_P59", 0x181F60, 6, 4, 0x0, 0x7FF, 0x0, 0x0, 0x0, 0x0⟩,
  ⟨"CMP_VTAP_V1_P60", 0x181F80, 6, 4, 0x0, 0x7FF, 0x0, 0x0, 0x0, 0x0⟩,
  ⟨"CMP_VTAP_V1_P61", 0x181FA0, 6, 4, 0x0, 0x7FF, 0x0, 0x0, 0x0, 0x0⟩,
  ⟨"CMP_VTAP_V1_P62", 0x181FC0, 6, 4, 0x0, 0x7FF, 0x0, 0x0, 0x0, 0x0⟩,
  ⟨"CMP_VTAP_V1_P63", 0x181FE0, 6, 4, 0x0, 0x7FF, 0x0, 0x0, 0x0, 0x0⟩]

/-- Register rows of the CMPCOEF region. -/
def rowsCMPCOEF : List RegRow :=
  rowsCMPCOEF0 ++ rowsCMPCOEF1 ++ rowsCMPCOEF2 ++ rowsCMPCOEF3 ++ rowsCMPCOEF4 ++ rowsCMPCOEF5 ++ rowsCMPCOEF6

/-- Register rows of the SOA region, part 0. -/
def rowsSOA0 : List RegRow := [
  ⟨"SOA_CTL", 0x200000, 1, 4, 0x0, 0x0, 0x37, 0x0, 0x0, 0x0⟩,
  ⟨"SOA_COMMIT", 0x200004, 1, 4, 0x0, 0x0, 0x0, 0x0, 0x100, 0x1⟩,
  ⟨"SOA_COMMIT_CFG", 0x200008, 1, 4, 0x4, 0x0, 0xFF, 0x0, 0x0, 0x0⟩,
  ⟨"SOA_HTIM0", 0x200010, 1, 4, 0x580780, 0x0, 0x1FFF1FFF, 0x0, 0x0, 0x0⟩,
  ⟨"SOA_HTIM1", 0x200014, 1, 4, 0x94002C, 0x0, 0x1FFF1FFF, 0x0, 0x0, 0x0⟩,
  ⟨"SOA_VTIM0", 0x200018, 1, 4, 0x40438, 0x0, 0x1FFF1FFF, 0x0, 0x0, 0x0⟩,
  ⟨"SOA_VTIM1", 0x20001C, 1, 4, 0x240005, 0x0, 0x1FFF1FFF, 0x0, 0x0, 0x0⟩,
  ⟨"SOA_FB_RG", 0x200020, 1, 4, 0x0, 0x0, 0xFFF0FFF, 0x0, 0x0, 0x0⟩,
  ⟨"SOA_FB_B", 0x200024, 1, 4, 0x0, 0x0, 0xFFF, 0x0, 0x0, 0x0⟩,
  ⟨"SOA_FETCH_CFG", 0x200030, 1, 4, 0x1000400, 0x0, 0xFFFFFFFF, 0x0, 0x0, 0x0⟩,
  ⟨"SOA_URG_CFG", 0x200034, 1, 4, 0x14, 0x0, 0x3FF, 0x0, 0x0, 0x0⟩,
  ⟨"SOA_DIRECT_BASE", 0x200038, 1, 4, 0x0, 0x0, 0xFFFFFFFF, 0x0, 0x0, 0x0⟩,
  ⟨"SOA_DIRECT_CFG", 0x20003C, 1, 4, 0x0, 0x0, 0x1FFFF, 0x0, 0x0, 0x0⟩,
  ⟨"SOA_LVDS_CFG", 0x200040, 1, 4, 0x0, 0x0, 0xF, 0x0, 0x0, 0x0⟩,
  ⟨"SOA_STAT", 0x200050, 1, 4, 0x0, 0x0, 0x0, 0x0, 0x0, 0x0⟩,
  ⟨"SOA_FRAME", 0x200054, 1, 4, 0x0, 0x0, 0x0, 0x0, 0x0, 0x0⟩,
  ⟨"SOA_TOL", 0x200058, 1, 4, 0x0, 0x0, 0x0, 0x0, 0x0, 0x0⟩,
  ⟨"SOA_BASIN", 0x20005C, 1, 4, 0x0, 0x0, 0x0, 0x0, 0x0, 0x0⟩,
  ⟨"SOA_SNAP_CTL", 0x200060, 1, 4, 0x0, 0x0, 0x0, 0x0, 0x0, 0x1⟩,
  ⟨"SOA_SNAP_FRAME", 0x200064, 1, 4, 0x0, 0x0, 0x0, 0x0, 0x0, 0x0⟩,
  ⟨"SOA_SNAP_TS_LO", 0x200068, 1, 4, 0x0, 0x0, 0x0, 0x0, 0x0, 0x0⟩,
  ⟨"SOA_SNAP_TS_HI", 0x20006C, 1, 4, 0x0, 0x0, 0x0, 0x0, 0x0, 0x0⟩,
  ⟨"SOA_GRP_TS_LO", 0x200070, 4, 8, 0x0, 0x0, 0x0, 0x0, 0x0, 0x0⟩,
  ⟨"SOA_GRP_TS_HI", 0x200074, 4, 8, 0x0, 0x0, 0x0, 0x0, 0x0, 0x0⟩,
  ⟨"SOA_CNT0", 0x200090, 1, 4, 0x0, 0x0, 0x0, 0x0, 0x0, 0x0⟩,
  ⟨"SOA_CNT1", 0x200094, 1, 4, 0x0, 0x0, 0x0, 0x0, 0x0, 0x0⟩,
  ⟨"SOA_CNT2", 0x200098, 1, 4, 0x0, 0x0, 0x0, 0x0, 0x0, 0x0⟩,
  ⟨"SOA_SUB_FIRST", 0x20009C, 1, 4, 0x0, 0x0, 0x0, 0x0, 0x0, 0x0⟩,
  ⟨"SOA_CNT_CLR", 0x2000E0, 1, 4, 0x0, 0x0, 0x0, 0x0, 0x0, 0x1⟩,
  ⟨"SOA_ARITH", 0x2000F0, 1, 4, 0x0, 0x0, 0x0, 0x0, 0x80000000, 0x0⟩,
  ⟨"SOA_ARITH_CTL", 0x2000F4, 1, 4, 0x0, 0x0, 0x0, 0x0, 0x0, 0x0⟩,
  ⟨"SOA_CRC_POS", 0x200100, 8, 16, 0x0, 0x0, 0x1FFF1FFF, 0x0, 0x0, 0x0⟩,
  ⟨"SOA_CRC_SIZE", 0x200104, 8, 16, 0x0, 0x0, 0x1FFF1FFF, 0x0, 0x0, 0x0⟩,
  ⟨"SOA_CRC_EXPECT", 0x200108, 8, 16, 0x0, 0x0, 0xFFFFFFFF, 0x0, 0x0, 0x0⟩,
  ⟨"SOA_CRC_RESULT", 0x20010C, 8, 16, 0x0, 0x0, 0x0, 0x0, 0x0, 0x0⟩,
  ⟨"SOA_CRC_CTL", 0x200180, 1, 4, 0x0, 0x0, 0xFF, 0xFF00, 0x0, 0x0⟩,
  ⟨"SOA_CRC_STAT", 0x200184, 1, 4, 0x0, 0x0, 0x0, 0x0, 0x0, 0x0⟩,
  ⟨"SOA_MOOR_STAT", 0x200200, 1, 4, 0x0, 0x0, 0x0, 0x0, 0x0, 0x0⟩]

/-- Register rows of the SOA region. -/
def rowsSOA : List RegRow :=
  rowsSOA0

/-- Register rows of the SOB region, part 0. -/
def rowsSOB0 : List RegRow := [
  ⟨"SOB_CTL", 0x210000, 1, 4, 0x0, 0x0, 0x3F, 0x0, 0x0, 0x0⟩,
  ⟨"SOB_COMMIT", 0x210004, 1, 4, 0x0, 0x0, 0x0, 0x0, 0x100, 0x1⟩,
  ⟨"SOB_COMMIT_CFG", 0x210008, 1, 4, 0x4, 0x0, 0xFF, 0x0, 0x0, 0x0⟩,
  ⟨"SOB_HTIM0", 0x210010, 1, 4, 0x580780, 0x0, 0x1FFF1FFF, 0x0, 0x0, 0x0⟩,
  ⟨"SOB_HTIM1", 0x210014, 1, 4, 0x94002C, 0x0, 0x1FFF1FFF, 0x0, 0x0, 0x0⟩,
  ⟨"SOB_VTIM0", 0x210018, 1, 4, 0x40438, 0x0, 0x1FFF1FFF, 0x0, 0x0, 0x0⟩,
  ⟨"SOB_VTIM1", 0x21001C, 1, 4, 0x240005, 0x0, 0x1FFF1FFF, 0x0, 0x0, 0x0⟩,
  ⟨"SOB_FB_RG", 0x210020, 1, 4, 0x0, 0x0, 0xFFF0FFF, 0x0, 0x0, 0x0⟩,
  ⟨"SOB_FB_B", 0x210024, 1, 4, 0x0, 0x0, 0xFFF, 0x0, 0x0, 0x0⟩,
  ⟨"SOB_FETCH_CFG", 0x210030, 1, 4, 0x1000400, 0x0, 0xFFFFFFFF, 0x0, 0x0, 0x0⟩,
  ⟨"SOB_URG_CFG", 0x210034, 1, 4, 0x14, 0x0, 0x3FF, 0x0, 0x0, 0x0⟩,
  ⟨"SOB_DIRECT_BASE", 0x210038, 1, 4, 0x0, 0x0, 0xFFFFFFFF, 0x0, 0x0, 0x0⟩,
  ⟨"SOB_DIRECT_CFG", 0x21003C, 1, 4, 0x0, 0x0, 0x1FFFF, 0x0, 0x0, 0x0⟩,
  ⟨"SOB_LVDS_CFG", 0x210040, 1, 4, 0x0, 0x0, 0xF, 0x0, 0x0, 0x0⟩,
  ⟨"SOB_STAT", 0x210050, 1, 4, 0x0, 0x0, 0x0, 0x0, 0x0, 0x0⟩,
  ⟨"SOB_FRAME", 0x210054, 1, 4, 0x0, 0x0, 0x0, 0x0, 0x0, 0x0⟩,
  ⟨"SOB_TOL", 0x210058, 1, 4, 0x0, 0x0, 0x0, 0x0, 0x0, 0x0⟩,
  ⟨"SOB_BASIN", 0x21005C, 1, 4, 0x0, 0x0, 0x0, 0x0, 0x0, 0x0⟩,
  ⟨"SOB_SNAP_CTL", 0x210060, 1, 4, 0x0, 0x0, 0x0, 0x0, 0x0, 0x1⟩,
  ⟨"SOB_SNAP_FRAME", 0x210064, 1, 4, 0x0, 0x0, 0x0, 0x0, 0x0, 0x0⟩,
  ⟨"SOB_SNAP_TS_LO", 0x210068, 1, 4, 0x0, 0x0, 0x0, 0x0, 0x0, 0x0⟩,
  ⟨"SOB_SNAP_TS_HI", 0x21006C, 1, 4, 0x0, 0x0, 0x0, 0x0, 0x0, 0x0⟩,
  ⟨"SOB_CNT0", 0x210090, 1, 4, 0x0, 0x0, 0x0, 0x0, 0x0, 0x0⟩,
  ⟨"SOB_CNT1", 0x210094, 1, 4, 0x0, 0x0, 0x0, 0x0, 0x0, 0x0⟩,
  ⟨"SOB_CNT2", 0x210098, 1, 4, 0x0, 0x0, 0x0, 0x0, 0x0, 0x0⟩,
  ⟨"SOB_SUB_FIRST", 0x21009C, 1, 4, 0x0, 0x0, 0x0, 0x0, 0x0, 0x0⟩,
  ⟨"SOB_CNT_CLR", 0x2100E0, 1, 4, 0x0, 0x0, 0x0, 0x0, 0x0, 0x1⟩,
  ⟨"SOB_ARITH", 0x2100F0, 1, 4, 0x0, 0x0, 0x0, 0x0, 0x80000000, 0x0⟩,
  ⟨"SOB_ARITH_CTL", 0x2100F4, 1, 4, 0x0, 0x0, 0x0, 0x0, 0x0, 0x0⟩,
  ⟨"SOB_CRC_POS", 0x210100, 8, 16, 0x0, 0x0, 0x1FFF1FFF, 0x0, 0x0, 0x0⟩,
  ⟨"SOB_CRC_SIZE", 0x210104, 8, 16, 0x0, 0x0, 0x1FFF1FFF, 0x0, 0x0, 0x0⟩,
  ⟨"SOB_CRC_EXPECT", 0x210108, 8, 16, 0x0, 0x0, 0xFFFFFFFF, 0x0, 0x0, 0x0⟩,
  ⟨"SOB_CRC_RESULT", 0x21010C, 8, 16, 0x0, 0x0, 0x0, 0x0, 0x0, 0x0⟩,
  ⟨"SOB_CRC_CTL", 0x210180, 1, 4, 0x0, 0x0, 0xFF, 0xFF00, 0x0, 0x0⟩,
  ⟨"SOB_CRC_STAT", 0x210184, 1, 4, 0x0, 0x0, 0x0, 0x0, 0x0, 0x0⟩,
  ⟨"SOB_MOOR_STAT", 0x210200, 1, 4, 0x0, 0x0, 0x0, 0x0, 0x0, 0x0⟩]

/-- Register rows of the SOB region. -/
def rowsSOB : List RegRow :=
  rowsSOB0

/-- Register rows of the BPS region, part 0. -/
def rowsBPS0 : List RegRow := [
  ⟨"BPS_CTL", 0x240000, 1, 4, 0x11E, 0x0, 0x1FF, 0x0, 0x0, 0x0⟩,
  ⟨"BPS_GEOM", 0x240004, 1, 4, 0x4380780, 0x0, 0x7FF07FF, 0x0, 0x0, 0x0⟩,
  ⟨"BPS_BLOCK", 0x240008, 1, 4, 0x80144, 0x0, 0xFF0F7F, 0x0, 0x0, 0x0⟩,
  ⟨"BPS_TIM0", 0x24000C, 1, 4, 0x19000C8, 0x0, 0xFFFFFFFF, 0x0, 0x0, 0x0⟩,
  ⟨"BPS_TIM1", 0x240010, 1, 4, 0x55F0, 0x0, 0xFFFFFF, 0x0, 0x0, 0x0⟩,
  ⟨"BPS_TIM2", 0x240014, 1, 4, 0x5DC0, 0x0, 0xFFFFFF, 0x0, 0x0, 0x0⟩,
  ⟨"BPS_ACT", 0x240018, 1, 4, 0x0, 0x0, 0xFFFFFFFF, 0x0, 0x0, 0x0⟩,
  ⟨"BPS_BUF", 0x240020, 2, 4, 0x0, 0x0, 0xFFFFFFFF, 0x0, 0x0, 0x0⟩,
  ⟨"BPS_FIELD_CFG", 0x240040, 8, 8, 0x0, 0x0, 0x1F3F03F7, 0x0, 0x0, 0x0⟩,
  ⟨"BPS_FIELD_SHARE", 0x240044, 8, 8, 0x0, 0x0, 0xFFFF, 0x0, 0x0, 0x0⟩,
  ⟨"BPS_CNT_CLR", 0x2400E0, 1, 4, 0x0, 0x0, 0x0, 0x0, 0x0, 0x1⟩,
  ⟨"BPS_ARITH", 0x2400F0, 1, 4, 0x0, 0x0, 0x0, 0x0, 0x80000000, 0x0⟩,
  ⟨"BPS_ARITH_CTL", 0x2400F4, 1, 4, 0x0, 0x0, 0x0, 0x0, 0x0, 0x0⟩,
  ⟨"BPS_PLANE", 0x240100, 64, 4, 0x0, 0x0, 0xFFFF000F, 0x0, 0x0, 0x0⟩,
  ⟨"BPS_CHDLY", 0x240200, 6, 4, 0x0, 0x0, 0xFFFF, 0x0, 0x0, 0x0⟩,
  ⟨"BPS_STAT", 0x240300, 1, 4, 0x0, 0x0, 0x0, 0x0, 0x0, 0x0⟩,
  ⟨"BPS_CNT0", 0x240304, 1, 4, 0x0, 0x0, 0x0, 0x0, 0x0, 0x0⟩,
  ⟨"BPS_CNT1", 0x240308, 1, 4, 0x0, 0x0, 0x0, 0x0, 0x0, 0x0⟩,
  ⟨"BPS_CNT2", 0x24030C, 1, 4, 0x0, 0x0, 0x0, 0x0, 0x0, 0x0⟩,
  ⟨"BPS_LATE_FIRST", 0x240310, 1, 4, 0x0, 0x0, 0x0, 0x0, 0x0, 0x0⟩,
  ⟨"BPS_ALLOC_IDX", 0x240320, 1, 4, 0x0, 0x7FF, 0x0, 0x0, 0x0, 0x0⟩,
  ⟨"BPS_ALLOC_D", 0x240324, 1, 4, 0x0, 0x0, 0x0, 0x0, 0x0, 0x0⟩,
  ⟨"BPS_ALLOC_ON", 0x240328, 1, 4, 0x0, 0x0, 0x0, 0x0, 0x0, 0x0⟩,
  ⟨"BPS_ALLOC_FLD", 0x24032C, 1, 4, 0x0, 0x0, 0x0, 0x0, 0x0, 0x0⟩,
  ⟨"BPS_ALLOC_G", 0x240330, 1, 4, 0x0, 0x0, 0x0, 0x0, 0x0, 0x0⟩,
  ⟨"BPS_HIST_IDX", 0x240340, 1, 4, 0x0, 0x3F, 0x0, 0x0, 0x0, 0x0⟩,
  ⟨"BPS_HIST_DATA", 0x240344, 1, 4, 0x0, 0x0, 0x0, 0x0, 0x0, 0x0⟩,
  ⟨"BPS_MAP_CTL", 0x240400, 1, 4, 0x0, 0x0, 0x0, 0x0, 0x0, 0x1⟩,
  ⟨"BPS_MAP_ADD", 0x240404, 1, 4, 0x0, 0x0, 0x0, 0x0, 0x0, 0x87FF07FF⟩,
  ⟨"BPS_MAP_IDX", 0x240408, 1, 4, 0x0, 0xFF, 0x0, 0x0, 0x0, 0x0⟩,
  ⟨"BPS_MAP_ENT", 0x24040C, 1, 4, 0x0, 0x0, 0x0, 0x0, 0x0, 0x0⟩,
  ⟨"BPS_MOOR_STAT", 0x240500, 1, 4, 0x0, 0x0, 0x0, 0x0, 0x0, 0x0⟩]

/-- Register rows of the BPS region. -/
def rowsBPS : List RegRow :=
  rowsBPS0

/-- Register rows of the BSC region, part 0. -/
def rowsBSC0 : List RegRow := [
  ⟨"BSC_CTL", 0x260000, 1, 4, 0xA, 0x0, 0x1F, 0x0, 0x0, 0x0⟩,
  ⟨"BSC_STAT", 0x260004, 1, 4, 0x0, 0x0, 0x0, 0x0, 0x0, 0x0⟩,
  ⟨"BSC_STRIDE", 0x260008, 1, 4, 0x0, 0x0, 0xFFFF, 0x0, 0x0, 0x0⟩,
  ⟨"BSC_BUF", 0x260010, 3, 4, 0x0, 0x0, 0xFFFFFFFF, 0x0, 0x0, 0x0⟩,
  ⟨"BSC_START_OFS", 0x260020, 1, 4, 0x0, 0x0, 0xFFFFFF, 0x0, 0x0, 0x0⟩,
  ⟨"BSC_MFB_CFG", 0x260030, 1, 4, 0x2000000, 0xFFFF0001, 0x0, 0x0, 0x0, 0x0⟩,
  ⟨"BSC_PER_WIN", 0x260034, 1, 4, 0x56CE30D4, 0xFFFFFFFF, 0x0, 0x0, 0x0, 0x0⟩,
  ⟨"BSC_LOCK_GAIN", 0x260038, 1, 4, 0x4008000, 0xFFFFFFFF, 0x0, 0x0, 0x0, 0x0⟩,
  ⟨"BSC_LOCK_CFG", 0x26003C, 1, 4, 0xA060E, 0xFF0F1F, 0x0, 0x0, 0x0, 0x0⟩,
  ⟨"BSC_LOCK_THR", 0x260040, 1, 4, 0x40000800, 0xFFFFFFFF, 0x0, 0x0, 0x0, 0x0⟩,
  ⟨"BSC_PH_REF_LO", 0x260048, 1, 4, 0x0, 0xFFFFFFFF, 0x0, 0x0, 0x0, 0x0⟩,
  ⟨"BSC_PH_REF_HI", 0x26004C, 1, 4, 0x0, 0xFFFF, 0x0, 0x0, 0x0, 0x0⟩,
  ⟨"BSC_CENTRE_LO", 0x260050, 1, 4, 0x0, 0x0, 0xFFFFFFFF, 0x0, 0x0, 0x0⟩,
  ⟨"BSC_CENTRE_HI", 0x260054, 1, 4, 0x0, 0x0, 0xFFFF, 0x0, 0x0, 0x0⟩,
  ⟨"BSC_INC_NOM_LO", 0x260058, 1, 4, 0x0, 0x0, 0x0, 0x0, 0x0, 0x0⟩,
  ⟨"BSC_INC_NOM_HI", 0x26005C, 1, 4, 0x0, 0x0, 0x0, 0x0, 0x0, 0x0⟩,
  ⟨"BSC_INC_LO", 0x260060, 1, 4, 0x0, 0x0, 0x0, 0x0, 0x0, 0x0⟩,
  ⟨"BSC_INC_HI", 0x260064, 1, 4, 0x0, 0x0, 0x0, 0x0, 0x0, 0x0⟩,
  ⟨"BSC_LOCK_ERR", 0x260068, 1, 4, 0x0, 0x0, 0x0, 0x0, 0x0, 0x0⟩,
  ⟨"BSC_PERIOD", 0x26006C, 1, 4, 0x0, 0x0, 0x0, 0x0, 0x0, 0x0⟩,
  ⟨"BSC_ASIN_END", 0x260070, 1, 4, 0x0, 0x0, 0xFFFFFF, 0x0, 0x0, 0x0⟩,
  ⟨"BSC_VRAMP", 0x260080, 1, 4, 0x0, 0x0, 0xFFFFFFFF, 0x0, 0x0, 0x0⟩,
  ⟨"BSC_VFLY", 0x260084, 1, 4, 0x0, 0x0, 0xFF00FF, 0x0, 0x0, 0x0⟩,
  ⟨"BSC_LASER", 0x260090, 3, 4, 0x4000, 0x0, 0xFFFFFFF, 0x0, 0x0, 0x0⟩,
  ⟨"BSC_MAXV", 0x2600A0, 3, 4, 0x0, 0x0, 0x0, 0xFFF, 0x0, 0x0⟩,
  ⟨"BSC_CNT0", 0x2600B0, 1, 4, 0x0, 0x0, 0x0, 0x0, 0x0, 0x0⟩,
  ⟨"BSC_CNT1", 0x2600B4, 1, 4, 0x0, 0x0, 0x0, 0x0, 0x0, 0x0⟩,
  ⟨"BSC_CNT2", 0x2600B8, 1, 4, 0x0, 0x0, 0x0, 0x0, 0x0, 0x0⟩,
  ⟨"BSC_CNT3", 0x2600BC, 1, 4, 0x0, 0x0, 0x0, 0x0, 0x0, 0x0⟩,
  ⟨"BSC_CNT4", 0x2600C0, 1, 4, 0x0, 0x0, 0x0, 0x0, 0x0, 0x0⟩,
  ⟨"BSC_CNT_CLR", 0x2600E0, 1, 4, 0x0, 0x0, 0x0, 0x0, 0x0, 0x1⟩,
  ⟨"BSC_ARITH", 0x2600F0, 1, 4, 0x0, 0x0, 0x0, 0x0, 0x80000000, 0x0⟩,
  ⟨"BSC_ARITH_CTL", 0x2600F4, 1, 4, 0x0, 0x0, 0x0, 0x0, 0x0, 0x0⟩,
  ⟨"BSC_ASIN", 0x261000, 1024, 4, 0x0, 0xFFFFFF, 0x0, 0x0, 0x0, 0x0⟩]

/-- Register rows of the BSC region. -/
def rowsBSC : List RegRow :=
  rowsBSC0

/-- Register rows of the LTD region, part 0. -/
def rowsLTD0 : List RegRow := [
  ⟨"LTD_CTL", 0x280000, 1, 4, 0x400, 0x0, 0xFFF7F, 0x0, 0x0, 0x80⟩,
  ⟨"LTD_STAT", 0x280004, 1, 4, 0x0, 0x0, 0x0, 0x0, 0x0, 0x0⟩,
  ⟨"LTD_FAULT_CLR", 0x280008, 1, 4, 0x0, 0x0, 0x0, 0x0, 0x0, 0x1⟩,
  ⟨"LTD_STR_CFG", 0x280010, 4, 4, 0x0, 0x0, 0x11FFF, 0x0, 0x0, 0x0⟩,
  ⟨"LTD_STR_VCHK", 0x280020, 4, 4, 0xFFFFF000, 0x0, 0xFFFFFFFF, 0x0, 0x0, 0x0⟩,
  ⟨"LTD_STR_STAT", 0x280030, 4, 4, 0x0, 0x0, 0x0, 0x0, 0x0, 0x0⟩,
  ⟨"LTD_CH_BASE", 0x280040, 3, 4, 0x40000FFF, 0x0, 0xFFFF0FFF, 0x0, 0x0, 0x0⟩,
  ⟨"LTD_FLD_SHARE", 0x280050, 8, 4, 0x0, 0x0, 0xFFFF, 0x0, 0x0, 0x0⟩,
  ⟨"LTD_PDGAIN", 0x280070, 3, 4, 0x4000, 0x0, 0xFFFF, 0x0, 0x0, 0x0⟩,
  ⟨"LTD_SNS_CFG", 0x280080, 8, 4, 0x0, 0x0, 0x3F7, 0x0, 0x0, 0x0⟩,
  ⟨"LTD_SNS_WIN", 0x2800A0, 8, 4, 0xFFF0000, 0x0, 0xFFF0FFF, 0x0, 0x0, 0x0⟩,
  ⟨"LTD_SNS_LAST", 0x2800C0, 8, 4, 0x0, 0x0, 0x0, 0x0, 0x0, 0x0⟩,
  ⟨"LTD_CNT_CLR", 0x2800E0, 1, 4, 0x0, 0x0, 0x0, 0x0, 0x0, 0x1⟩,
  ⟨"LTD_ADC_SCHED", 0x2800E4, 2, 4, 0x0, 0xFFFFFFFF, 0x0, 0x0, 0x0, 0x0⟩,
  ⟨"LTD_ARITH", 0x2800F0, 1, 4, 0x0, 0x0, 0x0, 0x0, 0x80000000, 0x0⟩,
  ⟨"LTD_ARITH_CTL", 0x2800F4, 1, 4, 0x0, 0x0, 0x3, 0x0, 0x0, 0x0⟩,
  ⟨"LTD_WHITE", 0x280100, 1, 4, 0x77E032A2, 0x0, 0xFFFFFFFF, 0x0, 0x0, 0x0⟩,
  ⟨"LTD_LOOP_GAIN", 0x280104, 1, 4, 0x4002000, 0x0, 0xFFFFFFFF, 0x0, 0x0, 0x0⟩,
  ⟨"LTD_LOOP_ILIM", 0x280108, 1, 4, 0x400000, 0x0, 0x7FFFFFFF, 0x0, 0x0, 0x0⟩,
  ⟨"LTD_LOOP_MIN_N", 0x28010C, 1, 4, 0x40, 0x0, 0xFFFF, 0x0, 0x0, 0x0⟩,
  ⟨"LTD_TEMP_CAL", 0x280110, 1, 4, 0x0, 0x0, 0xFFFFFFFF, 0x0, 0x0, 0x0⟩,
  ⟨"LTD_TEMP", 0x280114, 1, 4, 0x0, 0x0, 0x0, 0x0, 0x0, 0x0⟩,
  ⟨"LTD_LOOP_TM", 0x280120, 3, 32, 0x0, 0x0, 0x0, 0x0, 0x0, 0x0⟩,
  ⟨"LTD_LOOP_E", 0x280124, 3, 32, 0x0, 0x0, 0x0, 0x0, 0x0, 0x0⟩,
  ⟨"LTD_LOOP_I", 0x280128, 3, 32, 0x0, 0x0, 0x0, 0x0, 0x0, 0x0⟩,
  ⟨"LTD_LOOP_K", 0x28012C, 3, 32, 0x0, 0x0, 0x0, 0x0, 0x0, 0x0⟩,
  ⟨"LTD_LOOP_UV", 0x280130, 3, 32, 0x0, 0x0, 0x0, 0x0, 0x0, 0x0⟩,
  ⟨"LTD_CNT0", 0x280180, 1, 4, 0x0, 0x0, 0x0, 0x0, 0x0, 0x0⟩,
  ⟨"LTD_CNT1", 0x280184, 1, 4, 0x0, 0x0, 0x0, 0x0, 0x0, 0x0⟩,
  ⟨"LTD_PIN_STAT", 0x280190, 1, 4, 0x0, 0x0, 0x0, 0x0, 0x0, 0x0⟩,
  ⟨"LTD_FAULT_CFG", 0x280194, 1, 4, 0xA08, 0x0, 0xFFFF, 0x0, 0x0, 0x0⟩,
  ⟨"LTD_CAL", 0x280198, 1, 4, 0x0, 0x1FFFFF, 0x0, 0x0, 0x0, 0x0⟩,
  ⟨"LTD_LAMP_UV", 0x280200, 16, 8, 0x0, 0x0, 0xFFFFFFFF, 0x0, 0x0, 0x0⟩,
  ⟨"LTD_LAMP_CAL", 0x280204, 16, 8, 0x4000, 0x0, 0xFFFFFFFF, 0x0, 0x0, 0x0⟩]

/-- Register rows of the LTD region. -/
def rowsLTD : List RegRow :=
  rowsLTD0

/-- Register rows of the SHM region, part 0. -/
def rowsSHM0 : List RegRow := [
  ⟨"SHM_CTL", 0x290000, 1, 4, 0x1000, 0x0, 0xFFFF, 0x0, 0x0, 0x0⟩,
  ⟨"SHM_LAMP_STAT", 0x290004, 1, 4, 0x0, 0x0, 0x0, 0x0, 0x0, 0x0⟩,
  ⟨"SHM_LAMP_CFG", 0x290010, 16, 4, 0x0, 0x0, 0xFFFFF77, 0x0, 0x0, 0x0⟩,
  ⟨"SHM_DUTY", 0x290050, 16, 4, 0x0, 0x0, 0x0, 0x0, 0x0, 0x0⟩,
  ⟨"SHM_ARITH", 0x2900F0, 1, 4, 0x0, 0x0, 0x0, 0x0, 0x80000000, 0x0⟩,
  ⟨"SHM_ARITH_CTL", 0x2900F4, 1, 4, 0x0, 0x0, 0x0, 0x0, 0x0, 0x0⟩]

/-- Register rows of the SHM region. -/
def rowsSHM : List RegRow :=
  rowsSHM0

/-- Register rows of the TWP region, part 0. -/
def rowsTWP0 : List RegRow := [
  ⟨"TWP_CTL", 0x2A0000, 1, 4, 0x3040, 0x1FFFF7F, 0x0, 0x0, 0x0, 0x0⟩,
  ⟨"TWP_CELL", 0x2A0004, 1, 4, 0x18, 0x3F, 0x0, 0x0, 0x0, 0x0⟩,
  ⟨"TWP_TRIG", 0x2A0008, 1, 4, 0x0, 0xFF03, 0x0, 0x0, 0x0, 0x4⟩,
  ⟨"TWP_RING_CFG", 0x2A000C, 1, 4, 0x4003, 0xFF0F, 0x0, 0x0, 0x0, 0x0⟩,
  ⟨"TWP_STAT", 0x2A0010, 1, 4, 0x0, 0x0, 0x0, 0x0, 0x0, 0x0⟩,
  ⟨"TWP_LOC", 0x2A0014, 1, 4, 0x0, 0x0, 0x0, 0x0, 0x0, 0x0⟩,
  ⟨"TWP_ERR", 0x2A0018, 1, 4, 0x0, 0x0, 0x0, 0x0, 0x80000000, 0x0⟩,
  ⟨"TWP_CNT0", 0x2A0020, 1, 4, 0x0, 0x0, 0x0, 0x0, 0x0, 0x0⟩,
  ⟨"TWP_CNT1", 0x2A0024, 1, 4, 0x0, 0x0, 0x0, 0x0, 0x0, 0x0⟩,
  ⟨"TWP_CNT2", 0x2A0028, 1, 4, 0x0, 0x0, 0x0, 0x0, 0x0, 0x0⟩,
  ⟨"TWP_TMR0", 0x2A0040, 1, 4, 0x640, 0xFFFF, 0x0, 0x0, 0x0, 0x0⟩,
  ⟨"TWP_CNT_CLR", 0x2A00E0, 1, 4, 0x0, 0x0, 0x0, 0x0, 0x0, 0x1⟩,
  ⟨"TWP_ARITH", 0x2A00F0, 1, 4, 0x0, 0x0, 0x0, 0x0, 0x80000000, 0x0⟩,
  ⟨"TWP_ARITH_CTL", 0x2A00F4, 1, 4, 0x0, 0x0, 0x0, 0x0, 0x0, 0x0⟩,
  ⟨"TWP_PAT_CTL", 0x2A0100, 8, 16, 0x0, 0x71FF1FF1, 0x0, 0x0, 0x0, 0x2⟩,
  ⟨"TWP_PAT_COL0", 0x2A0104, 8, 16, 0x0, 0xFFFFFFFF, 0x0, 0x0, 0x0, 0x0⟩,
  ⟨"TWP_PAT_COL1", 0x2A0108, 8, 16, 0x0, 0xFFFFFF, 0x0, 0x0, 0x0, 0x0⟩,
  ⟨"TWP_PAT_STAT", 0x2A010C, 8, 16, 0x0, 0x0, 0x0, 0x0, 0x0, 0x0⟩,
  ⟨"TWP_PAT_CHW", 0x2A0180, 8, 4, 0x1, 0x1FF, 0x0, 0x0, 0x0, 0x0⟩,
  ⟨"TWP_MX_CTL", 0x2A0200, 1, 4, 0x0, 0x37F, 0x0, 0x0, 0x0, 0x0⟩,
  ⟨"TWP_MX_GEOM", 0x2A0204, 1, 4, 0x0, 0x1FFF1FF7, 0x0, 0x0, 0x0, 0x0⟩,
  ⟨"TWP_MX_TIM", 0x2A0208, 1, 4, 0x0, 0xFFFF, 0x0, 0x0, 0x0, 0x0⟩,
  ⟨"TWP_MX_STAT", 0x2A020C, 1, 4, 0x0, 0x0, 0x0, 0x0, 0x0, 0x0⟩,
  ⟨"TWP_MX_CNT0", 0x2A0210, 1, 4, 0x0, 0x0, 0x0, 0x0, 0x0, 0x0⟩,
  ⟨"TWP_MX_CNT1", 0x2A0214, 1, 4, 0x0, 0x0, 0x0, 0x0, 0x0, 0x0⟩,
  ⟨"TWP_STEP0_W0", 0x2A0800, 16, 8, 0x0, 0xFFFFFFFF, 0x0, 0x0, 0x0, 0x0⟩,
  ⟨"TWP_STEP0_W1", 0x2A0804, 16, 8, 0x0, 0xFFFFFFFF, 0x0, 0x0, 0x0, 0x0⟩,
  ⟨"TWP_STEP1_W0", 0x2A0880, 16, 8, 0x0, 0xFFFFFFFF, 0x0, 0x0, 0x0, 0x0⟩,
  ⟨"TWP_STEP1_W1", 0x2A0884, 16, 8, 0x0, 0xFFFFFFFF, 0x0, 0x0, 0x0, 0x0⟩,
  ⟨"TWP_STEP2_W0", 0x2A0900, 16, 8, 0x0, 0xFFFFFFFF, 0x0, 0x0, 0x0, 0x0⟩,
  ⟨"TWP_STEP2_W1", 0x2A0904, 16, 8, 0x0, 0xFFFFFFFF, 0x0, 0x0, 0x0, 0x0⟩,
  ⟨"TWP_STEP3_W0", 0x2A0980, 16, 8, 0x0, 0xFFFFFFFF, 0x0, 0x0, 0x0, 0x0⟩,
  ⟨"TWP_STEP3_W1", 0x2A0984, 16, 8, 0x0, 0xFFFFFFFF, 0x0, 0x0, 0x0, 0x0⟩,
  ⟨"TWP_STEP4_W0", 0x2A0A00, 16, 8, 0x0, 0xFFFFFFFF, 0x0, 0x0, 0x0, 0x0⟩,
  ⟨"TWP_STEP4_W1", 0x2A0A04, 16, 8, 0x0, 0xFFFFFFFF, 0x0, 0x0, 0x0, 0x0⟩,
  ⟨"TWP_STEP5_W0", 0x2A0A80, 16, 8, 0x0, 0xFFFFFFFF, 0x0, 0x0, 0x0, 0x0⟩,
  ⟨"TWP_STEP5_W1", 0x2A0A84, 16, 8, 0x0, 0xFFFFFFFF, 0x0, 0x0, 0x0, 0x0⟩,
  ⟨"TWP_STEP6_W0", 0x2A0B00, 16, 8, 0x0, 0xFFFFFFFF, 0x0, 0x0, 0x0, 0x0⟩,
  ⟨"TWP_STEP6_W1", 0x2A0B04, 16, 8, 0x0, 0xFFFFFFFF, 0x0, 0x0, 0x0, 0x0⟩,
  ⟨"TWP_STEP7_W0", 0x2A0B80, 16, 8, 0x0, 0xFFFFFFFF, 0x0, 0x0, 0x0, 0x0⟩]

/-- Register rows of the TWP region, part 1. -/
def rowsTWP1 : List RegRow := [
  ⟨"TWP_STEP7_W1", 0x2A0B84, 16, 8, 0x0, 0xFFFFFFFF, 0x0, 0x0, 0x0, 0x0⟩,
  ⟨"TWP_NODE_A", 0x2A1000, 512, 8, 0x0, 0xFFFFFFFF, 0x0, 0x0, 0x0, 0x0⟩,
  ⟨"TWP_NODE_B", 0x2A1004, 512, 8, 0x0, 0xFFFF, 0x0, 0x0, 0x0, 0x0⟩,
  ⟨"TWP_ZONE_BACK", 0x2A4000, 2048, 4, 0x0, 0xFFFFFFFF, 0x0, 0x0, 0x0, 0x0⟩,
  ⟨"TWP_ZONE_FRONT", 0x2A6000, 2048, 4, 0x0, 0x0, 0x0, 0x0, 0x0, 0x0⟩]

/-- Register rows of the TWP region. -/
def rowsTWP : List RegRow :=
  rowsTWP0 ++ rowsTWP1

/-- Register rows of the LKK region, part 0. -/
def rowsLKK0 : List RegRow := [
  ⟨"LKK_CTL", 0x2C0000, 1, 4, 0x0, 0x7, 0x0, 0x0, 0x0, 0x8⟩,
  ⟨"LKK_STAT", 0x2C0004, 1, 4, 0x0, 0x0, 0x0, 0x0, 0x0, 0x0⟩,
  ⟨"LKK_ACTIVE", 0x2C0008, 1, 4, 0x0, 0x0, 0x0, 0x0, 0x0, 0x0⟩,
  ⟨"LKK_LATCHED", 0x2C000C, 1, 4, 0x0, 0x0, 0x0, 0x0, 0x7FFF, 0x0⟩,
  ⟨"LKK_ARM", 0x2C0010, 1, 4, 0x0, 0x0, 0x0, 0x0, 0x0, 0x7FFF⟩,
  ⟨"LKK_ARMED", 0x2C0014, 1, 4, 0x0, 0x0, 0x0, 0x0, 0x0, 0x0⟩,
  ⟨"LKK_SRC0_CFG", 0x2C0020, 1, 4, 0x406, 0x0, 0x0, 0xF1F, 0x0, 0x0⟩,
  ⟨"LKK_SRC1_CFG", 0x2C0024, 1, 4, 0x406, 0x0, 0x0, 0xF1F, 0x0, 0x0⟩,
  ⟨"LKK_SRC2_CFG", 0x2C0028, 1, 4, 0x406, 0x0, 0x0, 0xF1F, 0x0, 0x0⟩,
  ⟨"LKK_SRC3_CFG", 0x2C002C, 1, 4, 0x406, 0x0, 0x0, 0xF1F, 0x0, 0x0⟩,
  ⟨"LKK_SRC4_CFG", 0x2C0030, 1, 4, 0x3, 0x0, 0x0, 0xF, 0x0, 0x0⟩,
  ⟨"LKK_SRC5_CFG", 0x2C0034, 1, 4, 0x3, 0x0, 0x0, 0xF, 0x0, 0x0⟩,
  ⟨"LKK_SRC6_CFG", 0x2C0038, 1, 4, 0x7, 0x0, 0x0, 0x7, 0x0, 0x0⟩,
  ⟨"LKK_SRC7_CFG", 0x2C003C, 1, 4, 0x7, 0x0, 0x0, 0xF, 0x0, 0x0⟩,
  ⟨"LKK_SRC8_CFG", 0x2C0040, 1, 4, 0x1, 0x0, 0x0, 0xF, 0x0, 0x0⟩,
  ⟨"LKK_SRC9_CFG", 0x2C0044, 1, 4, 0x3, 0x0, 0x0, 0xE, 0x0, 0x0⟩,
  ⟨"LKK_SRC10_CFG", 0x2C0048, 1, 4, 0x3, 0x0, 0x0, 0xE, 0x0, 0x0⟩,
  ⟨"LKK_SRC11_CFG", 0x2C004C, 1, 4, 0x3, 0x0, 0x0, 0xF, 0x0, 0x0⟩,
  ⟨"LKK_SRC12_CFG", 0x2C0050, 1, 4, 0x1, 0x0, 0x0, 0xF, 0x0, 0x0⟩,
  ⟨"LKK_SRC13_CFG", 0x2C0054, 1, 4, 0x3, 0x0, 0x0, 0xE, 0x0, 0x0⟩,
  ⟨"LKK_SRC14_CFG", 0x2C0058, 1, 4, 0x7, 0x0, 0x0, 0xE, 0x0, 0x0⟩,
  ⟨"LKK_CHK_CFG", 0x2C0060, 1, 4, 0x1F04, 0x0, 0x0, 0x1F0F, 0x0, 0x0⟩,
  ⟨"LKK_THERM", 0x2C0064, 1, 4, 0x64006E00, 0x0, 0x0, 0xFFFFFFFF, 0x0, 0x0⟩,
  ⟨"LKK_TEMP", 0x2C0068, 1, 4, 0x0, 0x0, 0x0, 0x0, 0x0, 0x0⟩,
  ⟨"LKK_LOG_STAT", 0x2C0080, 1, 4, 0x0, 0x0, 0x0, 0x0, 0x0, 0x0⟩,
  ⟨"LKK_LOG_CNT", 0x2C0084, 1, 4, 0x0, 0x0, 0x0, 0x0, 0x0, 0x0⟩,
  ⟨"LKK_LOG_IDX", 0x2C0088, 1, 4, 0x0, 0xFF, 0x0, 0x0, 0x0, 0x0⟩,
  ⟨"LKK_LOG_HOST", 0x2C008C, 1, 4, 0x0, 0x0, 0x0, 0x0, 0x0, 0xFFFF⟩,
  ⟨"LKK_LOG_DATA", 0x2C0090, 4, 4, 0x0, 0x0, 0x0, 0x0, 0x0, 0x0⟩,
  ⟨"LKK_LOG_SEQ", 0x2C00A0, 1, 4, 0x0, 0x0, 0x0, 0x0, 0x0, 0x0⟩,
  ⟨"LKK_ARITH", 0x2C00F0, 1, 4, 0x0, 0x0, 0x0, 0x0, 0x80000000, 0x0⟩,
  ⟨"LKK_ARITH_CTL", 0x2C00F4, 1, 4, 0x0, 0x0, 0x0, 0x0, 0x0, 0x0⟩,
  ⟨"LKK_CAL_TIME", 0x2C0100, 1, 4, 0x6000000, 0x0, 0x0, 0x0, 0x0, 0x0⟩,
  ⟨"LKK_CAL_DATE", 0x2C0104, 1, 4, 0x20000101, 0x0, 0x0, 0x0, 0x0, 0x0⟩,
  ⟨"LKK_CAL_SET_TIME", 0x2C0108, 1, 4, 0x0, 0x3F7F7F, 0x0, 0x0, 0x0, 0x0⟩,
  ⟨"LKK_CAL_SET_DATE", 0x2C010C, 1, 4, 0x0, 0xFFFF1F3F, 0x0, 0x0, 0x0, 0x0⟩,
  ⟨"LKK_CAL_CTL", 0x2C0110, 1, 4, 0x0, 0x0, 0x0, 0x0, 0x70000, 0x3⟩,
  ⟨"LKK_CAL_TRIM", 0x2C0114, 1, 4, 0x0, 0xFFFF, 0x0, 0x0, 0x0, 0x0⟩,
  ⟨"LKK_CAL_MIN", 0x2C0118, 1, 4, 0xFFFFFFFF, 0x0, 0x0, 0x0, 0x0, 0x0⟩,
  ⟨"LKK_ALARM_SET_TIME", 0x2C011C, 1, 4, 0x0, 0x3F7F00, 0x0, 0x0, 0x0, 0x0⟩]

/-- Register rows of the LKK region, part 1. -/
def rowsLKK1 : List RegRow := [
  ⟨"LKK_ALARM_SET_DATE", 0x2C0120, 1, 4, 0x0, 0xFFFF1F3F, 0x0, 0x0, 0x0, 0x0⟩,
  ⟨"LKK_ALARM_TIME", 0x2C0124, 1, 4, 0x0, 0x0, 0x0, 0x0, 0x0, 0x0⟩,
  ⟨"LKK_ALARM_DATE", 0x2C0128, 1, 4, 0x0, 0x0, 0x0, 0x0, 0x0, 0x0⟩,
  ⟨"LKK_LAMP_SEC", 0x2C0140, 16, 4, 0x0, 0xFFFFFFFF, 0x0, 0x0, 0x0, 0x0⟩,
  ⟨"LKK_LIT_SEC", 0x2C0180, 1, 4, 0x0, 0xFFFFFFFF, 0x0, 0x0, 0x0, 0x0⟩]

/-- Register rows of the LKK region. -/
def rowsLKK : List RegRow :=
  rowsLKK0 ++ rowsLKK1

/-- Register rows of the DBG region, part 0. -/
def rowsDBG0 : List RegRow := [
  ⟨"DBG_ID", 0x3F0000, 1, 4, 0x14826001, 0x0, 0x0, 0x0, 0x0, 0x0⟩,
  ⟨"DBG_CTL", 0x3F0004, 1, 4, 0x1, 0x0, 0x0, 0x1, 0x0, 0x0⟩,
  ⟨"DBG_STAT", 0x3F0008, 1, 4, 0x1, 0x0, 0x0, 0x0, 0x700, 0x0⟩,
  ⟨"DBG_ARITH", 0x3F00F0, 1, 4, 0x0, 0x0, 0x0, 0x0, 0x80000000, 0x0⟩,
  ⟨"DBG_ARITH_CTL", 0x3F00F4, 1, 4, 0x0, 0x0, 0x0, 0x0, 0x0, 0x0⟩]

/-- Register rows of the DBG region. -/
def rowsDBG : List RegRow :=
  rowsDBG0

/-- The rows of the 64 KiB region an internal address lies in. -/
def regionRows (region : Nat) : List RegRow :=
  match region with
  | 0x00 => rowsCKG
  | 0x01 => rowsPWR
  | 0x02 => rowsLDR
  | 0x04 => rowsMCA
  | 0x05 => rowsMCB
  | 0x06 => rowsMCX
  | 0x08 => rowsVIN
  | 0x0A => rowsCSI
  | 0x0B => rowsISP0
  | 0x0C => rowsISP1
  | 0x0D => rowsRTX
  | 0x10 => rowsCMP
  | 0x11 => rowsMOV
  | 0x14 => rowsCMPLUT
  | 0x15 => rowsCMPLUT2
  | 0x18 => rowsCMPCOEF
  | 0x20 => rowsSOA
  | 0x21 => rowsSOB
  | 0x24 => rowsBPS
  | 0x26 => rowsBSC
  | 0x28 => rowsLTD
  | 0x29 => rowsSHM
  | 0x2A => rowsTWP
  | 0x2C => rowsLKK
  | 0x3F => rowsDBG
  | _ => []

end Sys2Proof.Machine
end

