-- ==== Sys2Proof/Machine/State.lean ====
section
/-! DEFINITION. The state of the part: the register file (one sparse map for what was written last, one for the
shadowed values in effect), the contents of DRAM, flash and fuses, and for every block the state the spec gives it
beyond its registers; the queue of commands; the faults and refusals; the state after reset. -/

namespace Sys2Proof.Machine

/-- The eight operating modes (R31, Table 1.2). -/
inductive Mode where
  | deepSleep | standby | load | calibrate | mirror | scan | panel | hold
deriving DecidableEq, Repr

/-- The mode edges of Table 1.4 while they are in progress. E4 is the edge from LOAD to its target. -/
inductive Edge where
  | e1 | e2 | e3 | e4 | e5 | e6 | e7 | e8 | e9 | e10 | e11 | e12 | e13 | e14
deriving DecidableEq, Repr

/-- What Mooring is waiting for (R587, R589). -/
inductive MoorPhase where
  | none        -- no Mooring change in progress
  | capture     -- requested; capture starts at the next boundary
  | decide      -- capturing; the next boundary decides
  | exiting     -- channels waking; composition restarts at the first boundary with every channel ACTIVE
deriving DecidableEq, Repr

/-- The mode machine (chapter 1), kept in PD00. -/
structure ModeMachine where
  mode : Mode               -- WH_MODE_STATE.MODE (R31)
  limp : Bool               -- WH_MODE_STATE.LIMP (R35)
  moored : Bool             -- WH_MODE_STATE.MOORED (R37)
  imageValid : Bool         -- WH_MODE_STATE.IMAGE_VALID
  refuse : Nat              -- WH_MODE_STATE.REFUSE (Table 1.8)
  cause : Nat               -- WH_MODE_STATE.CAUSE (Table 1.7)
  tag : Nat                 -- WH_MODE_TAG.TAG
  abandoned : Bool          -- WH_MODE_TAG.ABANDONED
  req : Half                -- WH_MODE_REQ as last written (Table 1.6)
  edge : Option Edge        -- the edge in progress; IN_TRANSIT reads 1 while there is one
  target : Mode             -- where the accepted request leads
  reqTag : Nat              -- TAG of the accepted request
  reqMoor : Bool            -- MOOR of the accepted request
  forced : Bool             -- the edge in progress was taken without a request (R45)
  loadFailed : Bool         -- the last LOAD failed: picture requests need RELOAD (R42)
  calFrom : Mode            -- the lit mode CALIBRATE was entered from, or STANDBY (E9)
  boundaries : Nat          -- frame boundaries since the lit mode was entered, up to 2 (R48)
  wakeDeferred : Option Nat -- a wake trigger that arrived during E2 (R246): its PWR_WAKE_STAT.SRC
  moorPhase : MoorPhase     -- Mooring entry and exit in progress (R587, R589)
  cold : Bool               -- the E1 in progress is the cold start (R247)
  e12KeptHold : Bool        -- E12 left HOLD and PD07, PD08 stay ON until the next request (R52, R226)
deriving DecidableEq, Repr

/-- States of a manifest (Table 3.12). -/
inductive MfstState where
  | idle | fetch | staged | applying | done | error
deriving DecidableEq, Repr

/-- Where the manifest in the staging buffer came from (R155). -/
inductive MfstOrigin where
  | none | wharf | barge | load
deriving DecidableEq, Repr

/-- One WRITE entry of a manifest (Table 3.5). -/
structure MfstEntry where
  addr : Nat
  value : Word
  mask : Word
deriving DecidableEq, Repr

/-- One group of a manifest: how many boundaries after the previous group it applies, and its WRITE entries. -/
structure MfstGroup where
  offset : Nat
  entries : List MfstEntry
deriving DecidableEq, Repr

/-- The Wharf port and its top-level registers (chapter 3). -/
structure Wharf where
  i2c : Bool                        -- strap WSEL (R96)
  i2cAddr : Nat                     -- straps A1, A0 (R97)
  crcEn : Bool                      -- WH_PORT_CTL.CRC_EN
  err : Half                        -- WH_ERR (Table 3.7)
  crcCount : Nat                    -- WH_CRC_COUNT
  evt : Half                        -- WH_EVT, in PD00 (Table 3.10)
  evtEn : Half                      -- WH_EVT_EN, in PD00
  status : Half                     -- the error bits [6:2] of the next status byte (R116)
  seq : Nat                         -- accepted transactions modulo 4 (R117)
  out : List Byte                   -- the bytes the device drove in the last transaction
  acked : Bool                      -- I2C: it acknowledged its address in the last transaction (R97, R108, R259)
  iaddr : Nat                       -- the internal address (R123)
  readHolder : Word                 -- the read holder (R124)
  ready : Bool                      -- WH_IWIN_STAT.READY
  prefetch : Option Nat             -- the address a prefetch is reading
  loLatch : Half                    -- the low half latched by a read of WH_IDATA_HI (R125)
  writeHolder : Half                -- the write holder (R127)
  drain : List (Nat × Word)         -- internal writes of the last transaction still draining, oldest first (R132)
  autoinc : Bool                    -- WH_IWIN_CTL.AUTOINC
  aperBase : Nat                    -- WH_APER_BASE.BASE
  mfstSrc : Nat                     -- WH_MFST_CTL.SRC
  mfstWhen : Nat                    -- WH_MFST_CTL.WHEN
  mfstAddr : Nat                    -- WH_MFST_ADDR_HI : WH_MFST_ADDR_LO
  mfstFrame : Nat                   -- WH_MFST_FRAME
  mfstState : MfstState             -- WH_MFST_STAT.STATE
  mfstLate : Bool                   -- WH_MFST_STAT.LATE
  mfstOverrun : Bool                -- WH_MFST_STAT.OVERRUN
  mfstErr : Nat                     -- WH_MFST_STAT.ERR
  mfstGroup : Nat                   -- WH_MFST_STAT.GROUP
  mfstApplied : Nat                 -- WH_MFST_APPLIED
  mfstSkipped : Nat                 -- WH_MFST_SKIPPED
  mfstTag : Nat                     -- WH_MFST_TAG
  mfstOrigin : MfstOrigin           -- the owner of the staging buffer (R155)
  mfstGroups : List MfstGroup       -- the staged groups not yet applied
  mfstWait : Nat                    -- boundaries until the next group applies
  mfstAtFrame : Bool                -- the first group waits for WH_MFST_FRAME (R151)
  mfstBurst : Bool                  -- WH_IWIN_STAT.MFST_BURST
  runDram : Bool                    -- the launch in progress, as GO found it: SRC = 1
  runWhen : Nat                     -- its WHEN
  runAddr : Nat                     -- its byte address
  runFrame : Nat                    -- its AT_FRAME target
  runFlash : Bool                   -- its fetch holds the flash (R157)
  scratch0 : Half                   -- WH_SCRATCH0
  scratch1 : Half                   -- WH_SCRATCH1
  failCount : Nat                   -- WH_WAKE_STAT.FAIL_COUNT
  lockout : Bool                    -- WH_WAKE_STAT.LOCKOUT
  lastStep : Nat                    -- WH_WAKE_STAT.LAST_STEP
deriving DecidableEq, Repr

/-- One PLL (R161, R181-R188, Table 4.11). Its settings are registers; what it runs at is taken at its start (R191). -/
structure Pll where
  on : Bool                 -- CKG_PLLx_STAT.ON
  lock : Bool               -- CKG_PLLx_STAT.LOCK
  holdover : Bool           -- CKG_PLLx_STAT.HOLDOVER
  held : Bool               -- lock has persisted for LOCK_HOLD (R184)
  refdiv : Nat              -- settings in force since the last start (R191)
  fbdiv : Nat
  frac : Nat
  odiv : Nat
deriving DecidableEq, Repr

/-- The clock generator and monitor beyond their registers (chapter 4). -/
structure Clocks where
  plls : List Pll                 -- S, M, V, L
  divs : List Nat                 -- per domain 1-25: its divider now, 0 = held stopped or no divider (R183)
  xinPresent : Bool               -- XIN present (R174)
  xinArmed : Bool                 -- XIN checks armed (R174, R176)
  inWindowUs : Nat                -- time XIN has been in window without a break, in us, up to 1,000 (R36)
  glitches : Nat                  -- glitches of the gate in progress (Table 4.5)
  monCtl : Word                   -- CKG_MON_CTL in force since the last gate (R214)
  reflost : Bool                  -- the sequence of Table 4.6 is running (R200)
  sysOnIrc : Bool                 -- SYS runs on IRC
  ircDead : Bool                  -- an IRC activity fault has happened since power-on reset (R202)
  tb : Nat                        -- the timebase, 64 integer and 24 fraction bits (R87)
  tbOnIrc : Bool                  -- CKG_TB_STAT.ON_IRC (R203)
  fmBusy : List Bool              -- a measurement runs on meter 0, 1 (R207)
deriving DecidableEq, Repr

/-- States of a power domain (chapter 5). -/
inductive PdState where
  | off | ret | on
deriving DecidableEq, Repr

/-- The power sequencer beyond its registers (chapter 5), in PD00. -/
structure Power where
  pd : List PdState               -- PD00 to PD51
  queue : List (Nat × PdState)    -- domain switches not yet complete, in the order of R233; the head is switching
  pdreqQueue : List (Bool × Word) -- PWR_PDREQ writes that arrived during an edge (R234): high register, value
  en : List Bool                  -- PWR_EN0-3
  pg : List Bool                  -- levels of PWR_PG0-3
  step : Option Nat               -- the regulator step in progress (R236)
  stepsDone : List Bool           -- steps completed in this wake (R240)
  backout : Bool                  -- a regulator back-out is in progress (R241)
  cfg : List Word                 -- PWR_SEQ_CTL and PWR_REG_CFG0-3 in force for the edge in progress (R267)
  ircTrimmed : Bool               -- the IRC factory trim has been copied from OTP (R248)
  ircTrim : Word                  -- the IRC factory trim in PD00
deriving DecidableEq, Repr

/-- One repair of an SRAM macro in the PD00 repair table (R274): a spare row or column in place of a bad one. -/
structure Repair where
  macroNo : Nat
  isRow : Bool
  index : Nat
deriving DecidableEq, Repr

/-- A repair record as a block requests it (Table 6.6): KIND, UNIT, FLAGS and the 16 DATA bytes. -/
structure LedgerReq where
  kind : Nat
  unit : Nat
  flags : Nat
  data : List Nat
deriving DecidableEq, Repr

/-- Where an append attempt stands (R290). -/
inductive AppendStage where
  | idle | body | mark | readback | dead
deriving DecidableEq, Repr

/-- A directory entry of the image (Table 6.4). -/
structure Section where
  type : Nat
  flags : Nat
  id : Nat
  offset : Nat
  length : Nat
  dest : Nat
  crc : Nat
deriving DecidableEq, Repr

/-- Phases of LOAD (Tables 6.8 and 6.11). -/
inductive LoadPhase where
  | idle | otp | bist | body | manifests | done | failed
deriving DecidableEq, Repr

/-- The loader beyond its registers (chapter 6). -/
structure Loader where
  phase : LoadPhase               -- LDR_STAT.PHASE
  headerRead : Bool               -- the header and directory of this LOAD were read and are valid
  scanned : Bool                  -- the ledger of this LOAD has been scanned, or there is none
  phase1 : Bool                   -- self-test phase 1 has passed in this LOAD
  startedAt : Nat                 -- timebase at the start of this LOAD
  imgBase : Nat                   -- image base in force in this LOAD
  imgLen : Nat                    -- IMAGE_LEN of the header read
  flashCfg : Nat                  -- FLASH_CFG of the header read
  dir : List Section              -- the directory read
  nextSect : Nat                  -- the next section to be read
  ledgerOff : Nat                 -- flash byte address of the ledger
  ledgerSect : Nat                -- LEDGER_SECT
  maxSeq : Option Nat             -- highest valid SEQ in the ledger
  keys : List Nat                 -- the key table (R288)
  appended : List (List Byte)     -- valid records found by the scan, in ledger order
  queue : List LedgerReq          -- requested records, oldest first (up to 16)
  stage : AppendStage             -- the append attempt in progress
  attempts : Nat                  -- attempts already failed for the record at the head
  slotBytes : List Byte           -- the 32 bytes of the attempt in progress
  rescan : Bool                   -- a host command touched the ledger (R299)
  hostOp : Nat                    -- the host flash command in progress, 0 = none
  hostAddr : Nat                  -- its address
  hostLen : Nat                   -- its LEN
  repairs : List Repair           -- the PD00 repair table (R274)
  inMacros : List (List Repair)    -- per power domain, the repairs copied into its SRAM macros (Table 5.2)
  spared : Nat                    -- the blend lane replaced by lane 8, 15 = none
  lane8Bad : Bool                 -- lane 8 failed (R276)
  otp : List (Nat × Word)         -- the fuse array, 64 words; an unlisted word reads 0
  shadow : List (Nat × Word)      -- the shadow of the fuses in PD12
  safePlaced : Bool               -- the image of this LOAD carries a SAFE section that was placed
deriving DecidableEq, Repr

/-- One event-log record (Table 17.5). -/
structure LogRec where
  ts : Nat
  seq : Nat
  type : Nat
  flags : Nat
  unit : Nat
  data : Nat
deriving DecidableEq, Repr

/-- The Lockkeeper beyond its registers (chapter 17), in PD01. -/
structure Lockkeeper where
  slots : List (Nat × LogRec)     -- the 256 log slots; an unlisted slot reads all zero
  queue : List LogRec             -- records of other blocks on their way, oldest first (Table 4.7, 8 entries)
  pendLost : Bool                 -- the next stored record carries LOST_BEFORE (R734)
  year : Nat                      -- the calendar in binary
  month : Nat
  day : Nat
  hour : Nat
  minute : Nat
  second : Nat
  secCount : Nat                  -- the second counter, units of 2^-8 ns (R737)
  calMin : Nat                    -- whole minutes since 2000-01-01 00:00
  dayNo : Nat                     -- whole days since 2000-01-01
  lampRem : List Nat              -- per lamp, the lit SHM cycles not yet a second (R747)
  litRem : Nat                    -- the remainder of LKK_LIT_SEC in us (R748)
  thermRun : Nat                  -- consecutive samples at or above THERM_HI, up to 2
  freezeDark : Bool               -- the FREEZE or HOLD dark request (Table 17.3)
  e13Dark : Bool                  -- the E13 dark request
  leaveDark : Bool                -- the dark request of leaving a lit mode (R265)
  testDark : Bool                 -- the dark request of the LTD pin self-test (R681)
  pinStuck : Nat                  -- kill pins that differ from the command: bit 0, bit 1 (R730)
  asserted : Nat                  -- sources whose condition holds, whether or not enabled (Table 17.2)
  hdrErr : Bool                   -- SAFE_SIG is held by HDR_ERR until reset (R533)
deriving DecidableEq, Repr

/-- The balls the model keeps a level for (chapter 19), and the straps sampled at power-on reset. -/
structure Pins where
  por : Bool                      -- power-on reset is asserted (R764)
  tmode : Bool                    -- TMODE was 1 at the release (R767): the device stays in power-on reset
  strapXs : Nat                   -- XS2:0 (R160)
  strapPseq : Nat                 -- PSEQ1:0 (R235)
  strapWsel : Bool                -- WSEL (R96)
  strapAddr : Nat                 -- A1:A0 (R97)
  u12 : Bool                      -- external level of ball U12 (R775)
  sdoDriven : Bool                -- WH_SDO is driven, not high-impedance (R105, R768)
deriving DecidableEq, Repr

/-- The JTAG port (chapter 21), in PD51. -/
structure Tap where
  ir : Nat                        -- the selected instruction
  busy : Bool                     -- a CSR request is in SYS
  reqAddr : Nat
  reqWrite : Bool
  reqData : Word
  done : Bool                     -- DONE of the capture register
  err : Nat                       -- its error code
  data : Word                     -- the read data captured
  bypass : Bool                   -- the bypass register
  dr : Nat                        -- the value the selected data register shifts out
deriving DecidableEq, Repr

/-- The lock events that have occurred (Table 0.5, R28): the end of a LOAD with a valid image for the pin multiplexer,
for DBG_CTL and for BSC_MAXV (R638), the same for the SAFE fields (R282), and a successful MCX_MAP_CTL.GO. Arming
(R727) is LKK_ARMED. A lock is released when its block is reset. -/
structure Locks where
  pinmux : Bool
  dbg : Bool
  safe : Bool
  map : Bool
  maxv : Bool
deriving DecidableEq, Repr

/-- A place in DRAM: channel, rank, bank index BG0 × 4 + BA1 × 2 + BA0, row, byte within the row's 2 KiB page. -/
structure Loc where
  ch : Nat
  rank : Nat
  bank : Nat
  row : Nat
  off : Nat
deriving DecidableEq, Repr

/-- A read of one 64-byte line (R315). -/
structure ReadEntry where
  id : Nat                -- request number of its port, for R317
  seq : Nat               -- order of arrival over all requests of both kinds (R331, R332)
  port : Nat              -- port of Table 7.4; 15 = the aperture (Table 8.2)
  line : Nat              -- system address of the line
  age : Nat               -- MCC cycles since it entered the queue
  spec : Bool             -- a flip-lookahead prefetch (Table 8.2)
  overdue : Bool          -- its age exceeds twice the limit (R326)
  class0 : Bool           -- its age exceeds the limit (R326)
deriving DecidableEq, Repr

/-- A read issued to DRAM: the words and check bytes its RD found, and whether retry exhaustion tags it UE (R373). -/
structure Inflight where
  entry : ReadEntry
  raw : List (Nat × Nat)
  ue : Bool
deriving DecidableEq, Repr

/-- A write of one line: the word mask and the eight words (R315). -/
structure WriteEntry where
  seq : Nat
  port : Nat
  line : Nat
  mask : List Bool
  words : List Nat
  age : Nat
  overdue : Bool
  class0 : Bool
deriving DecidableEq, Repr

/-- A neighbour refresh waiting to be performed (R341): rank, bank, row, and the rows still to be activated. -/
structure NeighbourRefresh where
  rank : Nat
  bank : Nat
  row : Nat
  todo : List Nat
deriving DecidableEq, Repr

/-- One bank: the open row and when, in tCK, its last commands were issued (Table 7.9). -/
structure BankState where
  row : Option Nat
  actAt : Nat
  preAt : Nat
  rdAt : Nat
  wrAt : Nat
deriving DecidableEq, Repr

/-- A weir entry: row and count (R340). -/
structure WeirEntry where
  row : Nat
  count : Nat
deriving DecidableEq, Repr

/-- A command on the DRAM bus as the retry window and the snapshot keep it (Table 8.6). -/
structure DramCmd where
  code : Nat              -- 0 ACT, 1 PRE, 2 PREA, 3 REF, 4 RD, 5 WR, 6 MRS, 7 ZQ
  rank : Nat
  bank : Nat
  arg : Nat               -- row or column; of an MRS the value written, BANK being the register's number
  time : Nat              -- tCK
  line : Nat              -- system line address of an RD or WR
  row : Nat               -- row of an RD or WR
  mask : List Bool        -- words of the line that a WR writes
  nr : Bool               -- an ACT of a neighbour refresh
deriving DecidableEq, Repr

/-- One line of the check cache: which check line it holds and whether it is dirty (R359, R360). -/
structure CheckLine where
  rank : Nat
  bank : Nat
  row : Nat
  line : Nat
  dirty : Bool
  wrote : Nat             -- number of its last write, to find the dirty line written least recently (R360)
deriving DecidableEq, Repr

/-- An alert event in progress (R370-R373). -/
structure AlertState where
  low : Bool              -- ALERT_n is low: no command is issued
  parity : Bool           -- the kind of the last alert: CA parity, else write CRC
  attempts : Nat          -- replays of the event in progress
  replayAt : Nat          -- when the last replay started, tCK
  window : List DramCmd   -- the commands of the retry window
  exhausted : Bool        -- the event is over without success: no replay follows when ALERT_n rises (R373)
deriving DecidableEq, Repr

/-- A scrub, seed, copy or repair read that has not returned (R375): the line and the words already overtaken by a
port write (R380). -/
structure ScrubRead where
  loc : Loc
  dropped : List Bool
deriving DecidableEq, Repr

/-- A port request that a flip holds (Table 8.4), as PORT_REQUEST brought it; a read's number is taken. -/
structure HeldReq where
  id : Nat
  port : Nat
  write : Bool
  line : Nat
  mask : List Bool
  words : List Nat
  spec : Bool
deriving DecidableEq, Repr

/-- One memory channel beyond its registers (chapters 7 and 8). -/
structure Channel where
  resetN : Bool                       -- level of DDRx_RESET_n
  cke : Bool                          -- level of DDRx_CKE
  srCells : Bool                      -- the DRAM is in self-refresh and keeps its contents
  readQ : List ReadEntry              -- oldest first, up to 64
  writeQ : List WriteEntry            -- oldest first, up to 32
  nrQ : List NeighbourRefresh         -- up to 16
  inflight : List Inflight            -- reads issued to DRAM, in the order their data returns
  banks : List BankState              -- rank × 8 + bank
  now : Nat                           -- tCK since the channel started
  actTimes : List Nat                 -- times of the last four ACTs of the channel (FAW), newest first
  refAt : List Nat                    -- per rank, when the last REF is over
  colAt : Nat                         -- time, kind and place of the last column command
  colWrite : Bool
  colRank : Nat
  colBank : Nat
  odt : List Nat                      -- the ranks whose ODT is asserted for the last column command (R321)
  draining : Bool                     -- a write drain begun at WR_HI (R329)
  winCount : Nat                      -- column commands issued in the floor window (R330)
  winClass3 : Nat                     -- of them to class 3
  owed : List Nat                     -- refreshes owed per rank (R338)
  pulled : List Nat                   -- refreshes pulled in per rank
  zqOwed : Bool                       -- a ZQCS is due (R339)
  weir : List (List WeirEntry)        -- rank × 8 + bank, up to 16 entries each
  weirHeld : List (Option Nat)        -- ACTs of the bank are held for a full neighbour queue; the row that waits (R342)
  cache : List CheckLine              -- least recently used first, up to 32
  writes : Nat                        -- writes of check lines so far
  alert : AlertState
  history : List DramCmd              -- the last 64 commands, newest first
  snapshot : List (Nat × Word)        -- Table 8.6; an unlisted index reads 0
  sluiceEntry : Bool                  -- Sluice entry has started (Table 7.6)
  sluiceExit : Bool                   -- Sluice exit has started (Table 7.7)
  owedVisits : Nat                    -- scrub visits owed while the channel sleeps (R378)
  scrubRead : Option ScrubRead        -- the visit in progress
  pprBuf : List (Nat × Nat)           -- the saved row of the repair in progress: words and check bytes
  pprUe : Bool                        -- the saved row had UE words
  pprBusy : Bool                      -- a repair runs
  pprAt : Loc                         -- its row
  pprHard : Bool                      -- its type: hard, else soft
  softRows : List (List Nat)          -- rows that soft repairs map out (R389): rank, bank, row
  heldReqs : List HeldReq             -- requests that a flip holds, oldest first (Table 8.4)
  softRecords : List (List Nat)       -- soft PPR records delivered at LOAD (R389): rank, bank, row
  migCe : Nat                         -- CEs in physical rank 0 since the scrub pass began (R365)
  everInit : Bool                     -- the DRAM has been initialised since the last wake (R263)
deriving DecidableEq, Repr

/-- One line delivered to a client: port, request number, and its words, each with its class (0 clean, 1 CE, 2 UE,
3 POISON); no words: the read was abandoned by FREEZE. -/
structure Delivery where
  port : Nat
  id : Nat
  words : List (Nat × Nat)
deriving DecidableEq, Repr

/-- What the two channels share beyond registers (chapter 7): request numbers, declared tolerances, data delivered. -/
structure MemShared where
  arrivals : Nat                      -- requests accepted so far
  nextId : List Nat                   -- per port, the number of its next read
  expect : List Nat                   -- per port, the number of the read it receives next (R317)
  waiting : List Delivery             -- words returned before an older request of their port
  delivered : List Delivery           -- words delivered by the last return
  tol : List Nat                      -- declared tolerances of SOA, SOB, BPS, BSC, CAP, ISPW, RTXR in us
deriving DecidableEq, Repr

/-- The video capture and frame lock beyond their registers (chapter 9). -/
structure VideoIn where
  dropUntilStart : Bool           -- a skew drops every line until the next frame start (R405)
  inFrame : Bool                  -- a frame start has come and no loss since
  runs : Nat                      -- DE runs since the frame start that are no barge lines or lie in the active window
  lastWidth : Nat                 -- width of the last of them
  frameNo : Nat                   -- k of R421
  buf : Nat                       -- the ring buffer of the frame in progress
  capturing : Bool                -- the frame in progress is written
  long : Bool                     -- a line came after the last active line (R414)
  rowKept : Option (Nat × List (Nat × Nat))  -- the last even row taken and its narrowed chroma, for 4:2:0 (R418)
  lastStart : Option Nat          -- timebase of the last frame start
  mism : Nat                      -- consecutive frames that differ from VIN_TIMING_EXP (R415)
  timingWritten : Bool            -- VIN_TIMING_EXP has been written since the mismatch
  done : Bool                     -- the frame in progress has become the latest
  lockGood : Nat                  -- consecutive steps within LOCK_NS
  lockBad : Nat                   -- consecutive steps beyond 8 × LOCK_NS
  tIn : Option Nat                -- the input frame start the next step uses
deriving DecidableEq, Repr

/-- An accepted LUT packet that waits for its boundary (R438, R439). -/
structure LutPacket where
  seq : Nat
  dest : Nat
  words : List Nat
deriving DecidableEq, Repr

/-- The barge parser (chapter 9). -/
structure Barge where
  stream : List Byte              -- bytes of this blanking stream not yet consumed
  dead : Bool                     -- the rest of the stream is ignored
  failed : Bool                   -- an earlier packet of the stream failed R432 or R434
  seen : Bool                     -- the header at the head of the stream has been examined
  blocked : Bool                  -- the packet at the head meets NOBUF (R439, R441)
  osdDone : Nat                   -- payload bytes of the OSD packet at the head already written
  full : List (Nat × Nat)         -- places of the stream that came in lines port CAP could not take (R442)
  fences : List (Nat × Nat)       -- accepted fences that wait for OSD writes: index, value
  luts : List LutPacket           -- the LUT buffers in use, in the order of acceptance
deriving DecidableEq, Repr

/-- One virtual channel of the CSI-2 receiver (chapter 10). -/
structure Vc where
  next : Nat                      -- the next line position
  lines : List (Option (List Nat)) -- per line position so far: the U12 samples delivered, or missing
  long : Bool
  emb : List Byte                 -- embedded bytes of the frame in progress, up to 32
  skip : Bool                     -- the frame in progress is dropped whole (R463), or its pipe was not enabled
  startTs : Nat                   -- timebase at its frame start
  bank : List (Nat × Word)        -- the context's bank and ROUND_MODE as they took effect at its start (R94, R462)
deriving DecidableEq, Repr

/-- A frame as its pipe processes it: HEIGHT lines of U12 samples (R455), the flags, FRAME_CNT, the start stamp, and the
bank and ROUND_MODE in effect for it (R94, R462). -/
structure CamFrame where
  lines : List (List Nat)
  count : Nat
  short : Bool
  long : Bool
  ts : Nat
  bank : List (Nat × Word)
deriving DecidableEq, Repr

/-- One context of a pipe beyond its bank (chapter 10). -/
structure IspCtx where
  vc : Nat                        -- the virtual channel that uses it
  frames : List CamFrame          -- frames whose end the receiver has seen and the pipe has not, oldest first
  outFrames : List CamFrame       -- processed frames whose output lines are being written, oldest first
  pendLines : Nat                 -- STRIPE_MUX: line positions of the frame in progress not yet processed (R464)
  rest : Nat                      -- STRIPE_MUX: those of frames whose HEIGHT positions are all there
  bank : List (List Nat)          -- the readable results: SH1, SH2, LSUM, IRMEAN per zone (R472)
  tag : Word                      -- their tag
  hotRun : Nat                    -- consecutive frames with a hot zone, up to 4 (R474)
  outK : Nat                      -- output frames since the outputs were enabled (R479)
  hotOut : Bool                   -- the proximity output
  staleOut : Bool                 -- the stale output
deriving DecidableEq, Repr

/-- A frame the return link has to send (R486). -/
structure RtxFrame where
  stream : Nat
  pipe : Nat
  ctx : Nat
  buf : Nat
  count : Nat
  flags : Nat
  ts : Nat
deriving DecidableEq, Repr

/-- A packet the return link has sent (R482): data type, virtual channel, the header's 16-bit word, its ECC, and of a long
packet the payload bytes and their CRC-16. -/
structure RtxPacket where
  dt : Nat
  vc : Nat
  word : Nat
  ecc : Nat
  payload : List Nat
  crc : Option Nat
deriving DecidableEq, Repr

/-- The camera side beyond registers (chapter 10). -/
structure Camera where
  vcs : List Vc                   -- virtual channels 0-3
  ctxs : List IspCtx              -- ISP0 contexts 0-3, then ISP1 context 0
  lastCtx : Nat                   -- the context pipe 0 served last (R464)
  sendQ : List RtxFrame           -- frames that became latest and are not yet sent, in that order
  sending : List RtxFrame         -- the frame being sent; of a direct source frame both streams (R487)
  direct : Bool                   -- what is being sent is direct (R487)
  dropDirect : List Nat           -- streams whose direct frame in progress is dropped whole
  sent : List RtxPacket           -- the packets of the last return-link command
deriving DecidableEq, Repr

/-- The ring buffer a video layer has latched (R521): its ring (1 capture, 2 a DISPLAY ring), pipe and context, the
buffer, and the surface as it stood at that instant. -/
structure RingLatch where
  src : Nat
  pipe : Nat
  ctx : Nat
  buf : Nat
  chroma : Nat
  planar : Bool
  depth10 : Bool
  base0 : Nat
  base1 : Nat
  base2 : Nat
  stride0 : Nat
  stride1 : Nat
deriving DecidableEq, Repr

/-- Flip lookahead of one layer (R523-R525): lines prefetched, and the good words by address. -/
structure Ahead where
  lines : Nat
  words : List (Nat × Nat)
deriving DecidableEq, Repr

/-- The flatten cache beyond CMP_FLAT_STAT (R528-R532): members from the lowest up and their bounding box. -/
structure Flatten where
  members : List Nat
  x0 : Nat
  y0 : Nat
  w : Nat
  h : Nat
  pending : Bool                  -- a build waits for the mover (R546)
  dirty : Bool                    -- a member changed since the build started (R531)
  built : Bool                    -- the build has ended; VALID at the next boundary
deriving DecidableEq, Repr

/-- The mover's job (R541-R545): MOV_CTL.OP, the lines moved so far, and whether it ended at a bad source word. -/
structure MovJob where
  op : Nat
  bad : Bool
deriving DecidableEq, Repr

/-- The compositor and the mover beyond registers (chapter 11). -/
structure Compose where
  latches : List (Option RingLatch) -- V0, V1
  late : Nat                      -- armed groups that count from the boundary after next (R565)
  byMfst : Nat                    -- groups armed by a manifest group (R519)
  waits : List Nat                -- boundaries each group has been WAITING (R517)
  ahead : List (Option Ahead)     -- lookahead of each layer's pending buffer
  live : List (Option Ahead)      -- lookahead lines the frame in progress is using
  flat : Flatten
  job : Option MovJob
  safe : List Host.Cell           -- the 32 KiB SAFE SRAM; unlisted = 0
  safeCrc : List (Option Nat)     -- per guarded rectangle: not compared yet in this frame, or its CRC
  abandoned : List Nat            -- canvas lines abandoned in the frame in progress (R527)
  safeSkips : Nat                 -- consecutive shown frames whose every check was skipped (R538)
  safeOk : Nat                    -- rectangles that matched in it
  safeDone : Nat                  -- rectangles checked or skipped in it
  safeBad : Bool                  -- the mismatch or the skips of a guarded rectangle hold SAFE_SIG (Table 17.2)
  wbK : Nat                       -- frames of write-back so far
  wbOn : Bool                     -- the frame in progress is written back
  running : Bool                  -- the compositor starts frames (R496)
deriving DecidableEq, Repr

/-- One line group of a moor store (Table 12.1): how often its line repeats, and its runs: RED, GRN, BLU, length. -/
structure MoorGroup where
  rep : Nat
  runs : List (Nat × Nat × Nat × Nat)
deriving DecidableEq, Repr

/-- One scan-out beyond registers (chapter 12). -/
structure ScanOut where
  next : Nat                      -- the next line to be composed, read or replayed
  lines : List (List (Nat × Nat × Nat)) -- lines of the frame in progress as output codes
  last : List (List (Nat × Nat × Nat))  -- the last whole frame
  subst : List (Nat × Nat)        -- substituted lines of the frame in progress, and from which pixel (R570)
  commitLate : Bool               -- the pending commit counts from the boundary after next (R564)
  closed : Bool                   -- the commit window has closed for the coming boundary
  snap : Option (List (Nat × Word)) -- what was written when it closed and a commit was pending (R567)
  stamp : Nat                     -- frame counter and timebase of the last boundary (R576)
  stampFrame : Nat
  grpStamps : List Nat            -- flip stamps (R576), scan-out A
  crcDone : Nat                   -- rectangles already judged in this frame
  crcBad : Bool                   -- its part of OUT_CRC holds: from a mismatch, or SKIP_LIM skipped frames, to a clean frame
  crcSkips : Nat                  -- consecutive frames whose every LKK check was skipped
  crcOk : Nat                     -- LKK rectangles that matched in this frame
  capture : Bool                  -- the frame in progress is being captured (Table 12.2)
  store : List MoorGroup          -- the moor store
deriving DecidableEq, Repr

/-- What the formatter knows of one plane buffer (R595, R618): the positions and depth it was written with, COUNT of
component × 12 + bit, PEAK, and per stored plane the reset blocks that hold a set bit. -/
structure PlaneBuf where
  pos : Nat
  depth : Nat
  counts : List Nat
  peaks : List Nat
  occ : List Nat
deriving DecidableEq, Repr

/-- One plane of the schedule of a display frame (Tables 13.1 and 13.6): sub-frame, field, component, table entry,
stored bit, start and duration in ticks, light-on time, attenuation shift. A dark field has the entry 64. -/
structure Plane where
  sub : Nat
  field : Nat
  comp : Nat
  entry : Nat
  bit : Nat
  start : Nat
  dur : Nat
  on : Nat
  att : Nat
deriving DecidableEq, Repr

/-- One field of an allocation: its time, scale and shift (Table 13.4, ALLOC), and its channels. -/
structure FieldAlloc where
  sub : Nat
  field : Nat
  time : Nat
  g : Nat
  h : Nat
  mask : Nat
deriving DecidableEq, Repr

/-- A display frame: the plane buffer, its schedule and its fields. -/
structure Display where
  buf : Option Nat
  pos : Nat                       -- P of the display
  planes : List Plane
  fields : List FieldAlloc
deriving DecidableEq, Repr

/-- A stuck mirror (R619, R620). -/
structure Stuck where
  x : Nat
  y : Nat
  on : Bool
deriving DecidableEq, Repr

/-- One plane of the moor plane store (R622): its index in the frame; line groups: repeat count and run lengths. -/
structure MoorPlane where
  index : Nat
  groups : List (Nat × List Nat)
deriving DecidableEq, Repr

/-- The bit-plane sequencer beyond registers (chapter 13). A plane is named by its display's number and its index. -/
structure BitPlane where
  nextBuf : Nat                   -- the plane buffer the next frame is written to
  bufs : List (Option PlaneBuf)
  latest : Option Nat             -- the buffer the frame that has just ended was written to
  alloc : Display                 -- the last allocation
  ready : Bool                    -- it has not been displayed yet
  disp : Nat                      -- the number of the display in progress
  shown : Display                 -- the display in progress
  next : Nat                      -- its next plane
  cur : Option Nat                -- the plane running
  load : Option (Nat × Nat)       -- the plane being loaded
  loadBlock : Nat                 -- its next block
  loaded : List (Option (Nat × Nat))  -- per block, the plane its mirror memory holds
  mirrors : List (Option (Nat × Nat)) -- per block, the plane its mirrors show; none: cleared
  strobed : Nat                   -- blocks whose strobe time for the running plane has come
  tag : Nat                       -- the plane counter (Table 13.2)
  cmd : Nat                       -- the last command word sent
  beats : List (List Byte)        -- the row data of the last burst, half A and half B
  chans : List Bool               -- the light channel commands
  act : Nat                       -- ACT_POS1:0
  nextSub : Nat                   -- the sub-frame whose code is driven next
  stuck : List Stuck              -- the stuck map in ascending (y, x)
  stuckIn : List Stuck            -- the map that the frame being written uses
  store : List MoorPlane          -- the moor plane store
  capture : Bool                  -- the next display's planes are captured
deriving DecidableEq, Repr

/-- What the beam-scan engine is doing with its display (R643-R645). -/
inductive Draw where
  | idle | lines | flyback
deriving DecidableEq, Repr

/-- The beam-scan engine beyond registers (chapter 14). -/
structure Beam where
  acc : Nat                       -- ACC, U48
  inc : Nat                       -- INC, U0.48
  incNom : Nat
  integ : Int                     -- I of R630
  since : Nat                     -- SPA ticks since the last accepted edge
  gotEdge : Bool                  -- there has been an accepted edge
  intervals : List Nat            -- MEASURE: intervals so far
  good : Nat                      -- consecutive edges within LOCK_THR
  bad : Nat                       -- consecutive edges beyond UNLOCK_THR
  frameK : Nat                    -- k of R647
  latest : Option Nat             -- the latest complete buffer
  held : Option Nat               -- the buffer the display holds
  draw : Draw
  line : Nat                      -- the next line to draw, or the flyback sweep
  back : Bool                     -- the sweep in progress is a return sweep
  drawn : Bool                    -- it draws a line
  step : Nat                      -- boundaries of the sweep already reached
  zeroed : Bool                   -- an underrun zeroes the rest of the sweep (R649)
  sinceUi : Int                   -- UI from the last boundary sent to the start of the present tick
  lasers : List Nat               -- the laser values in effect at the receiver
  words : List Nat                -- the 14-UI words last sent on D0-D2
  record : Nat                    -- the 36-bit control record last sent
  first : Bool                    -- the next drawn line is the first of its display
deriving DecidableEq, Repr

/-- The light drive, the sense ADC and the shunt matrix beyond registers (chapter 15). The output pins follow from it. -/
structure Light where
  integ : List Int                -- integrators of RED, GRN, BLU, S8.24
  shares : List Nat               -- target shares in force
  factors : List Nat              -- k of the last step, U2.14
  applied : List Nat              -- k in effect since the last commit
  sums : List Nat                 -- A of RED, GRN, BLU in the period
  counts : List Nat               -- N of each
  adcSum : List Nat               -- per ADC input, the sum of codes of the period
  adcN : List Nat
  commits : Nat                   -- LTD commits since the last period ended
  testing : Bool                  -- the pin self-test runs (R681)
  mixed : Bool                    -- the last commit found a mixed string with ACT = STRING (R678)
  lampOut : List Bool             -- lamps taken out by a fault
  strOff : List Bool              -- strings switched off by a fault
  runs : List (Nat × Nat × Nat)   -- per string: verdict (1 open, 2 short), attribution (lamp, or 16), samples in a row
  restore : Bool                  -- LTD_FAULT_CLR waits for the commit
  windows : List Bool             -- the lamp is inside its PWM window (R665)
deriving DecidableEq, Repr

/-- What a chain frame is (Tables 16.2 and 16.3, R703). -/
inductive ChainKind where
  | none | data | blank | locateA | locateB
deriving DecidableEq, Repr

/-- A pattern engine beyond its registers (R711-R713). -/
structure Pattern where
  running : Bool
  start : Bool                    -- it starts at step 0 at the next TMR0 boundary
  step : Nat
  t : Nat                         -- ticks within the step so far
  l0 : Nat                        -- level at step entry
  level : Nat
  jumps : List (Option Nat)       -- the counter of each JUMP step
  div : Nat                       -- TMR0 periods since its last tick
deriving DecidableEq, Repr

/-- The Towpath beyond registers (chapter 16). -/
structure Towpath where
  due : Bool                      -- a trigger has come and its frame has not started
  kind : ChainKind                -- the chain frame or its idle gap in progress
  outA : List Bool                -- the cells sent on TWP_A by the last chain frame
  outB : List Bool                -- the cells sent on TWP_B
  await : List (List Bool)        -- the runs expected on TWP_RET of frames not yet judged, oldest first
  nones : Nat                     -- consecutive NONE
  heal : Nat                      -- frames in DUAL since the last one sent on TWP_A alone
  listening : Bool                -- a locate listens for its reply
  locB : Bool                     -- LOCATING: the locate from A is done
  pats : List Pattern
  mxOut : List Bool               -- the cells of the last matrix transfer
  mxSync : Bool                   -- a sync waits (R717) or cuts the scan (R716)
  mxBusy : Bool                   -- a LINE scan or a ZONE frame is in progress
  mxNext : Nat                    -- the row of the scan
  mxWait : Nat                    -- TWP cycles of its transfer and latch gap still to come
  mxRow : Option Nat              -- the row output that is on
deriving DecidableEq, Repr


/-- Everything of the part but the queue of commands. -/
structure Chip where
  variantS : Bool                 -- VL-4826-S, else VL-4826-M (R4)
  revision : Nat                  -- silicon revision (R5)
  regs : List (Nat × Word)        -- internal registers as last written, by address; unlisted = reset value
  eff : List (Nat × Word)         -- shadowed registers (RWS and the like) in effect, by address
  mode : ModeMachine
  wh : Wharf
  ck : Clocks
  pw : Power
  ld : Loader
  lk : Lockkeeper
  pins : Pins
  tap : Tap
  locks : Locks
  mcA : Channel
  mcB : Channel
  mcx : MemShared
  dram : List Host.Cell           -- DRAM bytes by physical place, check bytes included; unlisted = 0xFF
  flash : List Host.Cell          -- serial flash bytes; unlisted = 0xFF (erased)
  vin : VideoIn
  brg : Barge
  cam : Camera
  cmp : Compose
  soA : ScanOut
  soB : ScanOut
  bps : BitPlane
  bsc : Beam
  ltd : Light
  twp : Towpath
  free : Nat                      -- the model's own counter of free values, not the spec's
deriving DecidableEq, Repr

/-- The state of the block: the part, and the commands that wait, first in, first out. -/
structure State where
  chip : Chip
  pending : List Instr
deriving DecidableEq, Repr

/-- Why the model stops. Every command of the spec has an effect, and a command that the present state turns away leaves
a next state, so no meaning raises a fault. -/
inductive Fault where
  /-- Raised by no command: it only makes the type inhabited. Safe: nothing can be proved of a run past it. -/
  | impossible
deriving DecidableEq, Repr

/-- Why a command has no meaning. -/
inductive Refusal where
  /-- Raised by `exec` for a command without a meaning; at present by no arm. Safe: nothing can be proved of a run past
  it. -/
  | notModelled (mnemonic : String)
deriving DecidableEq, Repr

/-! The state right after power-on reset has been asserted: every register at the reset value of its table. -/

def ModeMachine.reset : ModeMachine where
  mode := .standby
  limp := false
  moored := false
  imageValid := false
  refuse := 0
  cause := 0
  tag := 0
  abandoned := false
  req := 0x0001#16
  edge := none
  target := .standby
  reqTag := 0
  reqMoor := false
  forced := false
  loadFailed := false
  calFrom := .standby
  boundaries := 0
  wakeDeferred := none
  moorPhase := .none
  cold := false
  e12KeptHold := false

def Wharf.reset : Wharf where
  i2c := false
  i2cAddr := 0
  crcEn := false
  err := 0
  crcCount := 0
  evt := 0
  evtEn := 0x0001#16
  status := 0
  seq := 0
  out := []
  acked := false
  iaddr := 0
  readHolder := 0
  ready := false
  prefetch := none
  loLatch := 0
  writeHolder := 0
  drain := []
  autoinc := true
  aperBase := 0
  mfstSrc := 0
  mfstWhen := 0
  mfstAddr := 0
  mfstFrame := 0
  mfstState := .idle
  mfstLate := false
  mfstOverrun := false
  mfstErr := 0
  mfstGroup := 0
  mfstApplied := 0
  mfstSkipped := 0
  mfstTag := 0
  mfstOrigin := .none
  mfstGroups := []
  mfstWait := 0
  mfstAtFrame := false
  mfstBurst := false
  runDram := false
  runWhen := 0
  runAddr := 0
  runFrame := 0
  runFlash := false
  scratch0 := 0
  scratch1 := 0
  failCount := 0
  lockout := false
  lastStep := 0

def Pll.reset (refdiv fbdiv odiv : Nat) : Pll where
  on := false
  lock := false
  holdover := false
  held := false
  refdiv := refdiv
  fbdiv := fbdiv
  frac := 0
  odiv := odiv

def Clocks.reset : Clocks where
  plls := [Pll.reset 1 100 1, Pll.reset 1 100 0, Pll.reset 1 99 3, Pll.reset 1 100 2]
  divs := List.replicate 25 0
  xinPresent := false
  xinArmed := false
  inWindowUs := 0
  glitches := 0
  monCtl := 0x000AF169#32
  reflost := false
  sysOnIrc := true
  ircDead := false
  tb := 0
  tbOnIrc := true
  fmBusy := [false, false]

def Power.reset : Power where
  pd := .on :: .on :: List.replicate 50 .off
  queue := []
  pdreqQueue := []
  en := [false, false, false, false]
  pg := [false, false, false, false]
  step := none
  stepsDone := [false, false, false, false]
  backout := false
  cfg := [0x00011014#32, 0x00050A01#32, 0x00050A00#32, 0x00050A00#32, 0x00050A00#32]
  ircTrimmed := false
  ircTrim := 0

def Loader.reset : Loader where
  phase := .idle
  headerRead := false
  scanned := false
  phase1 := false
  startedAt := 0
  imgBase := 0
  imgLen := 0
  flashCfg := 0
  dir := []
  nextSect := 0
  ledgerOff := 0
  ledgerSect := 0
  maxSeq := none
  keys := []
  appended := []
  queue := []
  stage := .idle
  attempts := 0
  slotBytes := []
  rescan := false
  hostOp := 0
  hostAddr := 0
  hostLen := 0
  repairs := []
  inMacros := List.replicate 52 []
  spared := 15
  lane8Bad := false
  otp := []
  shadow := []
  safePlaced := false

def Lockkeeper.reset : Lockkeeper where
  slots := []
  queue := []
  pendLost := false
  year := 2000
  month := 1
  day := 1
  hour := 0
  minute := 0
  second := 0
  secCount := 0
  calMin := 0
  dayNo := 0
  lampRem := List.replicate 16 0
  litRem := 0
  thermRun := 0
  freezeDark := false
  e13Dark := false
  leaveDark := false
  testDark := false
  pinStuck := 0
  asserted := 0
  hdrErr := false

def Pins.reset : Pins where
  por := true
  tmode := false
  strapXs := 0
  strapPseq := 0
  strapWsel := false
  strapAddr := 0
  u12 := true
  sdoDriven := false

def Tap.reset : Tap where
  ir := 0xE
  busy := false
  reqAddr := 0
  reqWrite := false
  reqData := 0
  done := false
  err := 0
  data := 0
  bypass := false
  dr := 0

def BankState.reset : BankState where
  row := none
  actAt := 0
  preAt := 0
  rdAt := 0
  wrAt := 0

def AlertState.reset : AlertState where
  low := false
  parity := false
  attempts := 0
  replayAt := 0
  window := []
  exhausted := false

def Channel.reset : Channel where
  resetN := false
  cke := false
  srCells := false
  readQ := []
  writeQ := []
  nrQ := []
  inflight := []
  banks := List.replicate 16 BankState.reset
  now := 0
  actTimes := []
  refAt := [0, 0]
  colAt := 0
  colWrite := false
  colRank := 0
  colBank := 0
  odt := []
  draining := false
  winCount := 0
  winClass3 := 0
  owed := [0, 0]
  pulled := [0, 0]
  zqOwed := false
  weir := List.replicate 16 []
  weirHeld := List.replicate 16 none
  cache := []
  writes := 0
  alert := AlertState.reset
  history := []
  snapshot := []
  sluiceEntry := false
  sluiceExit := false
  owedVisits := 0
  scrubRead := none
  pprBuf := []
  pprUe := false
  pprBusy := false
  pprAt := ⟨0, 0, 0, 0, 0⟩
  pprHard := false
  softRows := []
  heldReqs := []
  softRecords := []
  migCe := 0
  everInit := false

def Locks.reset : Locks where
  pinmux := false
  dbg := false
  safe := false
  map := false
  maxv := false

def MemShared.reset : MemShared where
  arrivals := 0
  nextId := List.replicate 12 0
  expect := List.replicate 12 0
  waiting := []
  delivered := []
  tol := List.replicate 7 0xFFFF

def VideoIn.reset : VideoIn where
  dropUntilStart := false
  inFrame := false
  runs := 0
  lastWidth := 0
  frameNo := 0
  buf := 0
  capturing := false
  long := false
  rowKept := none
  lastStart := none
  mism := 0
  timingWritten := false
  done := false
  lockGood := 0
  lockBad := 0
  tIn := none

def Barge.reset : Barge where
  stream := []
  dead := false
  failed := false
  seen := false
  blocked := false
  osdDone := 0
  full := []
  fences := []
  luts := []

def Vc.reset : Vc where
  next := 0
  lines := []
  long := false
  emb := []
  skip := false
  startTs := 0
  bank := []

def IspCtx.reset : IspCtx where
  vc := 0
  frames := []
  outFrames := []
  pendLines := 0
  rest := 0
  bank := []
  tag := 0
  hotRun := 0
  outK := 0
  hotOut := false
  staleOut := false

def Camera.reset : Camera where
  vcs := List.replicate 4 Vc.reset
  ctxs := List.replicate 5 IspCtx.reset
  lastCtx := 3
  sendQ := []
  sending := []
  direct := false
  dropDirect := []
  sent := []

def Flatten.reset : Flatten where
  members := []
  x0 := 0
  y0 := 0
  w := 0
  h := 0
  pending := false
  dirty := false
  built := false

def Compose.reset : Compose where
  latches := [none, none]
  late := 0
  byMfst := 0
  waits := [0, 0, 0, 0]
  ahead := List.replicate 8 none
  live := List.replicate 8 none
  flat := Flatten.reset
  job := none
  safe := []
  safeCrc := List.replicate 4 none
  abandoned := []
  safeSkips := 0
  safeOk := 0
  safeDone := 0
  safeBad := false
  wbK := 0
  wbOn := false
  running := false

def ScanOut.reset : ScanOut where
  next := 0
  lines := []
  last := []
  subst := []
  commitLate := false
  closed := false
  snap := none
  stamp := 0
  stampFrame := 0
  grpStamps := [0, 0, 0, 0]
  crcDone := 0
  crcBad := false
  crcSkips := 0
  crcOk := 0
  capture := false
  store := []

def Display.none : Display where
  buf := Option.none
  pos := 1
  planes := []
  fields := []

def BitPlane.reset : BitPlane where
  nextBuf := 0
  bufs := [none, none]
  latest := none
  alloc := Display.none
  ready := false
  disp := 0
  shown := Display.none
  next := 0
  cur := none
  load := none
  loadBlock := 0
  loaded := List.replicate 16 none
  mirrors := List.replicate 16 none
  strobed := 0
  tag := 0
  cmd := 0
  beats := []
  chans := List.replicate 6 false
  act := 0
  nextSub := 0
  stuck := []
  stuckIn := []
  store := []
  capture := false

def Beam.reset : Beam where
  acc := 0
  inc := 0
  incNom := 0
  integ := 0
  since := 0
  gotEdge := false
  intervals := []
  good := 0
  bad := 0
  frameK := 0
  latest := none
  held := none
  draw := .idle
  line := 0
  back := false
  drawn := false
  step := 0
  zeroed := false
  sinceUi := 0
  lasers := [0, 0, 0]
  words := [0, 0, 0]
  record := 0
  first := false

def Light.reset : Light where
  integ := [0, 0, 0]
  shares := [0, 0, 0]
  factors := [0x4000, 0x4000, 0x4000]
  applied := [0x4000, 0x4000, 0x4000]
  sums := [0, 0, 0]
  counts := [0, 0, 0]
  adcSum := List.replicate 8 0
  adcN := List.replicate 8 0
  commits := 0
  testing := false
  mixed := false
  lampOut := List.replicate 16 false
  strOff := List.replicate 4 false
  runs := List.replicate 4 (0, 0, 0)
  restore := false
  windows := List.replicate 16 false

def Pattern.reset : Pattern where
  running := false
  start := false
  step := 0
  t := 0
  l0 := 0
  level := 0
  jumps := List.replicate 16 none
  div := 0

def Towpath.reset : Towpath where
  due := false
  kind := .none
  outA := []
  outB := []
  await := []
  nones := 0
  heal := 0
  listening := false
  locB := false
  pats := List.replicate 8 Pattern.reset
  mxOut := []
  mxSync := false
  mxBusy := false
  mxNext := 0
  mxWait := 0
  mxRow := none

/-- The part right after power-on reset. -/
def Chip.reset : Chip where
  variantS := true
  revision := 1
  regs := []
  eff := []
  mode := ModeMachine.reset
  wh := Wharf.reset
  ck := Clocks.reset
  pw := Power.reset
  ld := Loader.reset
  lk := Lockkeeper.reset
  pins := Pins.reset
  tap := Tap.reset
  locks := Locks.reset
  mcA := Channel.reset
  mcB := Channel.reset
  mcx := MemShared.reset
  dram := []
  flash := []
  vin := VideoIn.reset
  brg := Barge.reset
  cam := Camera.reset
  cmp := Compose.reset
  soA := ScanOut.reset
  soB := ScanOut.reset
  bps := BitPlane.reset
  bsc := Beam.reset
  ltd := Light.reset
  twp := Towpath.reset
  free := 0

/-- The block right after power-on reset, with no command waiting. -/
def State.reset : State where
  chip := Chip.reset
  pending := []

end Sys2Proof.Machine
end

