-- ==== Sys2Proof/Machine/Flags.lean ====
section
/-! DEFINITION. The register file and the flags over it: reading and writing registers and fields, counters, the
ARITH saturation record (R90-R95), WH_EVT and WH_ERR (Tables 3.7 and 3.10) and the status byte's error bits. -/

namespace Sys2Proof.Machine

/-- The row of the register map that implements an internal address. -/
def rowOf (a : Nat) : Option RegRow := (regionRows (a / 65536)).find? fun r => r.holds a

/-- The tone tables of the ISP pipes reset to a straight line (chapter 10): entry `i` is min(16 × i, 4,095). -/
def toneReset (a : Nat) : Option Nat :=
  if (a / 65536 = 0x0B ∨ a / 65536 = 0x0C) ∧ 0x1400 ≤ a % 65536 ∧ a % 4096 ≥ 0x400 ∧ a % 4096 < 0x400 + 257 * 4
  then some (min (16 * ((a % 4096 - 0x400) / 4)) 4095) else none

/-- What a register reads after reset (R29). -/
def resetWord (a : Nat) : Word :=
  match rowOf a with
  | none => 0
  | some r =>
    match toneReset a with
    | some t => BitVec.ofNat 32 t
    | none => BitVec.ofNat 32 r.reset

/-- A register as the file holds it. -/
def Chip.get (c : Chip) (a : Nat) : Word := SMap.get resetWord c.regs a

/-- The file with one register replaced. -/
def Chip.setReg (c : Chip) (a : Nat) (w : Word) : Chip := { c with regs := SMap.set resetWord c.regs a w }

/-- A field as last written. -/
def Chip.rd (c : Chip) (f : Field) : Nat := f.get (c.get f.addr)

/-- Give a field a value. -/
def Chip.wr (c : Chip) (f : Field) (v : Nat) : Chip := c.setReg f.addr (f.put (c.get f.addr) v)

/-- A register of the values in effect. -/
def Chip.getEff (c : Chip) (a : Nat) : Word := SMap.get resetWord c.eff a

/-- A shadowed field's value in effect. -/
def Chip.ef (c : Chip) (f : Field) : Nat := f.get (c.getEff f.addr)

/-- Give a shadowed field's value in effect. -/
def Chip.setEff (c : Chip) (a : Nat) (w : Word) : Chip := { c with eff := SMap.set resetWord c.eff a w }

/-- A commit: every register from `lo` up to `hi` takes effect as last written (RWS, Table 0.5). -/
def Chip.commitRange (c : Chip) (lo hi : Nat) : Chip := { c with eff := SMap.copyRange c.regs c.eff lo hi }

/-- A one-bit field is 1. -/
def Chip.flag (c : Chip) (f : Field) : Bool := decide (c.rd f ≠ 0)

/-- A one-bit shadowed field is 1 in effect. -/
def Chip.eflag (c : Chip) (f : Field) : Bool := decide (c.ef f ≠ 0)

/-- Raise a saturating counter (R751). -/
def Chip.bump (c : Chip) (f : Field) (k : Nat) : Chip := c.wr f (satAdd f.width (c.rd f) k)

/-- Bit `n` of a field. -/
def Chip.bit (c : Chip) (f : Field) (n : Nat) : Bool := (c.rd f).testBit n

/-- A number with bit `n` set or cleared. -/
def withBit (v n : Nat) (b : Bool) : Nat :=
  if b then Nat.lor v (2 ^ n) else if v.testBit n then v - 2 ^ n else v

/-- Give bit `n` of a field. -/
def Chip.setBit (c : Chip) (f : Field) (n : Nat) (b : Bool) : Chip := c.wr f (withBit (c.rd f) n b)

/-- The number of a truth value. -/
def b2n (b : Bool) : Nat := if b then 1 else 0

/-- Set WH_EVT bits: each new occurrence of a source sets its bit (R121). -/
def Chip.evt (c : Chip) (n : Nat) : Chip := { c with wh := { c.wh with evt := c.wh.evt ||| BitVec.ofNat 16 (2 ^ n) } }

/-! Bits of WH_EVT (Table 3.10). -/
def evMode : Nat := 0
def evMfst : Nat := 1
def evWherr : Nat := 2
def evLkk : Nat := 3
def evMem : Nat := 4
def evVin : Nat := 5
def evCam : Nat := 6
def evLight : Nat := 7
def evTwp : Nat := 8
def evLedger : Nat := 9
def evClk : Nat := 10

/-! Bits of WH_ERR (Table 3.7). -/
def erCrc : Nat := 0
def erFrame : Nat := 1
def erUnimpl : Nat := 2
def erPwroff : Nat := 3
def erVariant : Nat := 4
def erAper : Nat := 5
def erAperUe : Nat := 6
def erLock : Nat := 7
def erBusyDrain : Nat := 8
def erBusyMfst : Nat := 9
def erStretch : Nat := 10
def erNotready : Nat := 11
def erMfstBusy : Nat := 12

/-- The bit of the status byte that a WH_ERR cause reports through (Table 3.3); MFST_BUSY has none. -/
def statusBit (e : Nat) : Nat :=
  if e ≤ 1 then 0x40 else if e ≤ 6 then 0x20 else if e = 7 then 0x10 else if e ≤ 10 then 0x08
  else if e = 11 then 0x04 else 0

/-- An error of the port: its sticky cause (R118), its status bit (R116) and the summary event WHERR. -/
def Chip.whErr (c : Chip) (e : Nat) : Chip :=
  { c with wh := { c.wh with
      err := c.wh.err ||| BitVec.ofNat 16 (2 ^ e)
      status := c.wh.status ||| BitVec.ofNat 16 (statusBit e)
      evt := c.wh.evt ||| BitVec.ofNat 16 (2 ^ evWherr) } }

/-- `k` saturations of one stage in the block whose region starts at `base` (R90, R92, R93). -/
def Chip.saturate (c : Chip) (base stage k : Nat) : Chip :=
  if k = 0 then c
  else
    let n := satAdd 16 (c.rd (CKG_ARITH_SAT_COUNT.off base)) k
    let c1 := if c.flag (CKG_ARITH_SAT.off base) then c else c.wr (CKG_ARITH_FIRST_STAGE.off base) stage
    ((c1.wr (CKG_ARITH_SAT_COUNT.off base) n).wr (CKG_ARITH_SAT.off base) 1).wr (CKG_ARITH_FULL.off base)
      (b2n (n == 0xFFFF))

/-- A free value, and the counter moved on. -/
def Chip.takeFree (c : Chip) : Chip := { c with free := c.free + 1 }

/-- The timebase in ns: its 64 integer bits (R87). -/
def Chip.now (c : Chip) : Nat := c.ck.tb / 2 ^ 24 % 2 ^ 64

/-- The low 48 bits of the timebase, as stamps hold it (Table 2.4). -/
def Chip.stamp (c : Chip) : Nat := c.now % 2 ^ 48

end Sys2Proof.Machine
end

