-- ==== Sys2Proof/Machine/Dram.lean ====
section
/-! DEFINITION. DRAM as data: the address map and its hash (R310-R313), the place of a word and of its check byte
(R357), the code and its syndrome classes (R354-R356), and reading and writing one word. -/

namespace Sys2Proof.Machine

/-- A field of channel `ch`, given the field of channel A. -/
def mcF (ch : Nat) (f : Field) : Field := f.off (ch * 0x10000)

/-- A channel: 0 is A, every other number is B. -/
def Chip.mc (c : Chip) (ch : Nat) : Channel := if ch = 0 then c.mcA else c.mcB

/-- Change one channel. -/
def Chip.onMc (c : Chip) (ch : Nat) (f : Channel → Channel) : Chip :=
  if ch = 0 then { c with mcA := f c.mcA } else { c with mcB := f c.mcB }

/-! MCx_STAT.STATE (Table 7.10). -/
def mcOff : Nat := 0
def mcInit : Nat := 1
def mcActive : Nat := 2
def mcShallow : Nat := 3
def mcDeep : Nat := 4
def mcSweep : Nat := 5
def mcFrozen : Nat := 6

/-- MCx_STAT.STATE. -/
def Chip.mcState (c : Chip) (ch : Nat) : Nat := c.rd (mcF ch MCA_STAT_STATE)

/-- The channel is configured (MCx_CFG.ENABLE). -/
def Chip.mcConf (c : Chip) (ch : Nat) : Bool := c.flag (mcF ch MCA_CFG_ENABLE)

/-- The channels that are configured. -/
def Chip.mcConfigured (c : Chip) : List Nat := [0, 1].filter fun ch => c.mcConf ch

/-- The rows of one bank (Table 7.2). -/
def Chip.mcRows (c : Chip) (ch : Nat) : Nat := if c.flag (mcF ch MCA_CFG_DENSITY) then 65536 else 32768

/-- The data rows: seven eighths (R307). -/
def Chip.mcDataRows (c : Chip) (ch : Nat) : Nat := c.mcRows ch / 8 * 7

/-- A rank of the channel is held as a spare (R309). -/
def Chip.mcSpare (c : Chip) (ch : Nat) : Bool := c.flag (mcF ch MCA_CFG_RANKS) && c.flag (mcF ch MCA_CFG_SPARE_RANK)

/-- Two ranks are mapped: RANKS = 1 and SPARE_RANK = 0. -/
def Chip.mcTwoRanks (c : Chip) (ch : Nat) : Bool :=
  c.flag (mcF ch MCA_CFG_RANKS) && !c.flag (mcF ch MCA_CFG_SPARE_RANK)

/-- The ranks fitted to a channel. -/
def Chip.mcRanks (c : Chip) (ch : Nat) : List Nat := if c.flag (mcF ch MCA_CFG_RANKS) then [0, 1] else [0]

/-- A field of the channel's settings in effect. -/
def Chip.tim (c : Chip) (ch : Nat) (f : Field) : Nat := c.ef (mcF ch f)

/-- The rows from which on nothing is read or written: those above the check rows (R358). -/
def Chip.mcUsedRows (c : Chip) (ch : Nat) : Nat := c.mcDataRows ch + c.mcDataRows ch / 8

/-- The channel that stands for the geometry of the map: the lowest configured one. -/
def Chip.mcFirst (c : Chip) : Nat := if c.mcConf 0 then 0 else 1

/-- c of R310: both channels are configured. -/
def Chip.mapC (c : Chip) : Nat := b2n (c.mcConf 0 && c.mcConf 1)

/-- k of R310: two ranks of each channel are mapped. -/
def Chip.mapK (c : Chip) : Nat := b2n (c.mcTwoRanks c.mcFirst)

/-- The installed data capacity D (R311). -/
def Chip.mapCapacity (c : Chip) : Nat := 16384 * 2 ^ (c.mapC + c.mapK) * c.mcDataRows c.mcFirst

/-- The parity of a number's bits. -/
def parityOf (n : Nat) : Nat := (List.range 32).foldl (fun p i => (p + b2n (n.testBit i)) % 2) 0

/-- A raw slot XOR the parity of the row under a mask (R312). -/
def hashSlot (slot row mask : Nat) : Nat := (slot + parityOf (Nat.land row mask)) % 2

/-- Bit `i` of an address as a number. -/
def slotBit (a i : Nat) : Nat := a / 2 ^ i % 2

/-- Where a system address lies, hash applied and migration not (R310-R313); none beyond the installed DRAM and
while no map is valid (R311, Table 7.14). -/
def Chip.sysLoc (c : Chip) (a : Nat) : Option Loc :=
  let cc := c.mapC
  let kk := c.mapK
  if !c.flag MCX_MAP_STAT_VALID || decide (c.mapCapacity ≤ a) then none
  else
    let row := a / 2 ^ (14 + cc + kk)
    let bg := hashSlot (slotBit a (11 + cc)) row (c.rd MCX_HASH_BG0_ROWMASK)
    let ba0 := hashSlot (slotBit a (12 + cc)) row (c.rd MCX_HASH_BA0_ROWMASK)
    let ba1 := hashSlot (slotBit a (13 + cc)) row (c.rd MCX_HASH_BA1_ROWMASK)
    some
      { ch := if cc = 1 then hashSlot (slotBit a 11) row (c.rd MCX_HASH_CH_ROWMASK) else c.mcFirst
        rank := if kk = 1 then slotBit a (14 + cc) else 0
        bank := bg * 4 + ba1 * 2 + ba0
        row := row
        off := a % 2048 }

/-- The system address of a data place: the inverse of the map (the row passes through and undoes the hash). -/
def Chip.locSys (c : Chip) (l : Loc) : Nat :=
  let cc := c.mapC
  let kk := c.mapK
  let bg := hashSlot (l.bank / 4 % 2) l.row (c.rd MCX_HASH_BG0_ROWMASK)
  let ba1 := hashSlot (l.bank / 2 % 2) l.row (c.rd MCX_HASH_BA1_ROWMASK)
  let ba0 := hashSlot (l.bank % 2) l.row (c.rd MCX_HASH_BA0_ROWMASK)
  let chs := if cc = 1 then hashSlot l.ch l.row (c.rd MCX_HASH_CH_ROWMASK) * 2048 else 0
  let rk := if kk = 1 then l.rank * 2 ^ (14 + cc) else 0
  l.row * 2 ^ (14 + cc + kk) + rk + ba1 * 2 ^ (13 + cc) + ba0 * 2 ^ (12 + cc) + bg * 2 ^ (11 + cc) + chs + l.off

/-- MCX_MIG_STATc.STATE (Table 8.4): 0 IDLE, 1 COPY, 2 FLIP_WAIT, 3 FLIP, 4 RETIRED, 5 ABORTED. -/
def Chip.migState (c : Chip) (ch : Nat) : Nat := c.rd ((MCX_MIG_STAT_STATE).at ch)

/-- Rank 0 is redirected to rank 1 once migration has flipped (Table 8.4). -/
def Chip.redirect (c : Chip) (l : Loc) : Loc :=
  if c.flag ((MCX_MIG_STAT_REDIRECT).at l.ch) && l.rank == 0 then { l with rank := 1 } else l

/-- Port writes to rank 0 are also applied to rank 1 (Table 8.4). -/
def Chip.dualWrite (c : Chip) (l : Loc) : Bool :=
  l.rank == 0 && (c.migState l.ch == 1 || c.migState l.ch == 2)

/-- The key of one byte of DRAM. -/
def Loc.key (l : Loc) : Nat := (((l.ch * 2 + l.rank) * 8 + l.bank) * 65536 + l.row) * 2048 + l.off

/-- The keys of a channel. -/
def chKeys (ch : Nat) : Nat := ch * 2 ^ 31

/-- What a byte of DRAM that nothing has written reads as. DESIGN CHOICE (log entry 3): a word of such bytes and such
a check byte reads as UE. Unsafe. -/
def dramDefault : Nat → Byte := fun _ => 0xFF#8

/-- One byte of DRAM. -/
def Chip.dramByte (c : Chip) (l : Loc) : Byte := SMap.get dramDefault c.dram l.key

/-- Store one byte of DRAM. -/
def Chip.setDramByte (c : Chip) (l : Loc) (b : Byte) : Chip :=
  { c with dram := SMap.set dramDefault c.dram l.key b }

/-- Where the check byte of the word at a place lies (R357). -/
def checkLoc (dataRows : Nat) (l : Loc) : Loc :=
  { l with bank := Nat.xor l.bank 4, row := dataRows + l.row / 8, off := l.row % 8 * 256 + l.off / 8 }

/-- The columns H(i) of the data bits: the byte values of weight 3 in rising order, then eight more (chapter 8). -/
def hColumns : List Nat :=
  [0x07, 0x0B, 0x0D, 0x0E, 0x13, 0x15, 0x16, 0x19, 0x1A, 0x1C, 0x23, 0x25, 0x26, 0x29, 0x2A, 0x2C,
   0x31, 0x32, 0x34, 0x38, 0x43, 0x45, 0x46, 0x49, 0x4A, 0x4C, 0x51, 0x52, 0x54, 0x58, 0x61, 0x62,
   0x64, 0x68, 0x70, 0x83, 0x85, 0x86, 0x89, 0x8A, 0x8C, 0x91, 0x92, 0x94, 0x98, 0xA1, 0xA2, 0xA4,
   0xA8, 0xB0, 0xC1, 0xC2, 0xC4, 0xC8, 0xD0, 0xE0, 0x1F, 0x2F, 0x4F, 0x8F, 0xF1, 0xF2, 0xF4, 0xF8]

/-- The check byte of a 64-bit word (R354). -/
def checkByte (w : Nat) : Nat :=
  hColumns.zipIdx.foldl (fun acc hi => if w.testBit hi.2 then Nat.xor acc hi.1 else acc) 0

/-- The poison pattern (R356). -/
def poisonData : Nat := 0xA5A5A5A5A5A5A5A5

/-- A word as read and classified (Table 8.1): class 0 clean, 1 CE, 2 UE, 3 POISON; the data delivered; the
syndrome; the CE was in the check byte. -/
structure WordRead where
  cls : Nat
  data : Nat
  syn : Nat
  inCheck : Bool
deriving DecidableEq, Repr

/-- Classify a word by its syndrome (R355, Table 8.1). -/
def classify (data check : Nat) : WordRead :=
  let s := Nat.xor check (checkByte data)
  if s = 0 then ⟨0, data, s, false⟩
  else if [1, 2, 4, 8, 16, 32, 64, 128].contains s then ⟨1, data, s, true⟩
  else if s = 0xFF ∧ data = poisonData then ⟨3, poisonData, s, false⟩
  else
    match hColumns.idxOf? s with
    | some i => ⟨1, Nat.xor data (2 ^ i), s, false⟩
    | none => ⟨2, data, s, false⟩

/-- The eight bytes at an aligned place as a little-endian word (byte 0 is the byte at the lowest address). -/
def Chip.rawWord (c : Chip) (l : Loc) : Nat :=
  leBytes ((List.range 8).map fun i => c.dramByte { l with off := l.off + i })

/-- The stored check byte of the word at a place. -/
def Chip.rawCheck (c : Chip) (l : Loc) : Nat := (c.dramByte (checkLoc (c.mcDataRows l.ch) l)).toNat

/-- Read and classify the word at a physical place. -/
def Chip.readPhys (c : Chip) (l : Loc) : WordRead := classify (c.rawWord l) (c.rawCheck l)

/-- Store a word and a check byte at a physical place. -/
def Chip.writeRaw (c : Chip) (l : Loc) (w check : Nat) : Chip :=
  let data := SMap.setRun dramDefault c.dram l.key 1 (toLe 8 w)
  { c with dram := SMap.set dramDefault data (checkLoc (c.mcDataRows l.ch) l).key (BitVec.ofNat 8 check) }

/-- Store a word with its check byte at a physical place (R354, R362). -/
def Chip.writePhys (c : Chip) (l : Loc) (w : Nat) : Chip := c.writeRaw l w (checkByte w)

/-- Store a word as a port write does: redirected or doubled by migration (Table 8.4). -/
def Chip.writeLoc (c : Chip) (l : Loc) (w : Nat) : Chip :=
  if c.dualWrite l then (c.writePhys l w).writePhys { l with rank := 1 } w else c.writePhys (c.redirect l) w

/-- Store a word at a system address; beyond the installed DRAM the write is discarded (R311). -/
def Chip.writeSys (c : Chip) (a w : Nat) : Chip :=
  match c.sysLoc (a / 8 * 8) with
  | none => c
  | some l => c.writeLoc l w

/-- The word of a queued write that a read of its line must see (R331). -/
def queuedWord (q : List WriteEntry) (a : Nat) : Option Nat :=
  match q.find? fun e => e.line == a / 64 * 64 && e.mask.getD (a % 64 / 8) false with
  | none => none
  | some e => e.words[a % 64 / 8]?

/-- Read the word at a system address, queued writes seen; none beyond the installed DRAM. -/
def Chip.readSys (c : Chip) (a : Nat) : Option WordRead :=
  match c.sysLoc (a / 8 * 8) with
  | none => none
  | some l =>
    match queuedWord (c.mc l.ch).writeQ (a / 8 * 8) with
    | some w => some ⟨0, w, 0, false⟩
    | none => some (c.readPhys (c.redirect l))

/-- Perform one queued write. -/
def Chip.performWrite (c : Chip) (e : WriteEntry) : Chip :=
  (List.range 8).foldl
    (fun c i => if e.mask.getD i false then c.writeSys (e.line + 8 * i) (e.words.getD i 0) else c) c

/-- The contents of a channel's DRAM are lost. -/
def Chip.dramLost (c : Chip) (ch : Nat) : Chip :=
  { c with dram := SMap.clearRange c.dram (chKeys ch) (chKeys (ch + 1)) }

end Sys2Proof.Machine
end

