-- ==== Sys2Proof/Machine/Bus.lean ====
section
/-! DEFINITION. A channel's DRAM bus: the history of its commands (Table 8.6), banks and ODT (R321), the weir table that
every ACT enters (R340-R342), the check cache (R359, R360), one line read or written outside the scheduler, queued writes
leaving, reads delivered or abandoned (R317), and the commands before SRE (R339, Tables 7.6 and 8.5). -/

namespace Sys2Proof.Machine

/-! ### Read data and the ports -/

/-- Change what the channels share. -/
def Chip.onMcx (c : Chip) (f : MemShared → MemShared) : Chip := { c with mcx := f c.mcx }

/-- Move to `delivered`, in request order, what its port may have now (R317). -/
def deliverInOrder (fuel : Nat) (x : MemShared) : MemShared :=
  match fuel with
  | 0 => x
  | n + 1 =>
    match x.waiting.find? fun d => d.id == x.expect.getD d.port 0 with
    | none => x
    | some d =>
      deliverInOrder n
        { x with waiting := x.waiting.filter fun e => !(e.port == d.port && e.id == d.id)
                 delivered := x.delivered ++ [d]
                 expect := x.expect.set d.port (d.id + 1) }

/-- Lines have come back for their ports, or are abandoned; each port receives its lines in request order (R317). -/
def Chip.deliverAll (c : Chip) (ds : List Delivery) : Chip :=
  c.onMcx fun x =>
    deliverInOrder (x.waiting.length + ds.length) { x with waiting := x.waiting ++ ds, delivered := [] }

/-- A line's data has come back for a port. -/
def Chip.deliver (c : Chip) (d : Delivery) : Chip := c.deliverAll [d]

/-- The port that a queue's entry is scheduled for: the aperture uses port SYS. -/
def schedPort (p : Nat) : Nat := min p 11

/-- Lines served by a port rise (Table 7.14): 56 bits, saturating. -/
def Chip.bumpLines (c : Chip) (p : Nat) : Chip :=
  let q := schedPort p
  let v := c.rd ((MCX_PORT_LINES_LO_LO).at q) + 2 ^ 32 * c.rd ((MCX_PORT_LINES_HI_HI).at q)
  let v' := satAdd 56 v 1
  (c.wr ((MCX_PORT_LINES_LO_LO).at q) (v' % 2 ^ 32)).wr ((MCX_PORT_LINES_HI_HI).at q) (v' / 2 ^ 32)

/-- The fixed class of a port (Table 7.4). -/
def portClass (p : Nat) : Nat := if p ≤ 6 then 1 else if p ≤ 9 then 2 else 3

/-! ### Commands and banks -/

/-- A command without the fields that only an RD, a WR or a neighbour refresh has. -/
def busCmd (code rank bank arg : Nat) : DramCmd := ⟨code, rank, bank, arg, 0, 0, 0, [], false⟩

/-- A command on the DRAM bus enters the history of the last 64 (Table 8.6). -/
def Chip.dramCmd (c : Chip) (ch : Nat) (x : DramCmd) : Chip :=
  c.onMc ch fun m => { m with history := ({ x with time := m.now } :: m.history).take 64 }

/-- One command to every rank fitted. -/
def Chip.allRanks (c : Chip) (ch code bank arg : Nat) : Chip :=
  (c.mcRanks ch).foldl (fun c r => c.dramCmd ch (busCmd code r bank arg)) c

/-- A bank of the channel. -/
def Channel.bankAt (m : Channel) (rank bank : Nat) : BankState := m.banks.getD (rank * 8 + bank) BankState.reset

/-- Change one bank. -/
def Chip.onBank (c : Chip) (ch rank bank : Nat) (f : BankState → BankState) : Chip :=
  c.onMc ch fun m => { m with banks := m.banks.set (rank * 8 + bank) (f (m.bankAt rank bank)) }

/-- MCx_WEIR_CTL.WEIR; values below 512 behave as 512. -/
def Chip.weirLimit (c : Chip) (ch : Nat) : Nat := max 512 (c.rd (mcF ch MCA_WEIR_CTL_WEIR))

/-- The index of the entry with the lowest count, the lowest index on ties (R340). -/
def minEntry (t : List WeirEntry) : Nat :=
  match t.zipIdx.find? fun x => t.all fun y => decide (x.1.count ≤ y.count) with
  | some x => x.2
  | none => 0

/-- A table after an ACT of a row: the entry hit, inserted or replaced, and its index (R340). -/
def weirEnter (t : List WeirEntry) (row : Nat) : List WeirEntry × Nat :=
  match t.findIdx? fun e => e.row == row with
  | some i => (t.modify i fun e => { e with count := e.count + 1 }, i)
  | none =>
    if t.length < 16 then (t ++ [⟨row, 1⟩], t.length)
    else let i := minEntry t; (t.modify i fun e => ⟨row, e.count + 1⟩, i)

/-- The count an entry restarts at after its trigger: the lowest of the other 15, 0 if any is free (R340). -/
def weirRestart (t : List WeirEntry) (i : Nat) : Nat :=
  if t.length < 16 then 0
  else ((t.eraseIdx i).map fun e => e.count).foldl min ((t.eraseIdx i).headD ⟨0, 0⟩).count

/-- The rows that a neighbour refresh activates (R341). -/
def Chip.nrRows (c : Chip) (ch row : Nat) : List Nat :=
  let down := fun k => if k ≤ row then [row - k] else []
  let up := fun k => if row + k < c.mcRows ch then [row + k] else []
  down 1 ++ up 1 ++ (if c.flag (mcF ch MCA_WEIR_CTL_RADIUS2) then down 2 ++ up 2 else [])

/-- Queue a neighbour refresh, or hold the bank's ACTs until an entry frees and count a STALL (R340, R342). -/
def Chip.queueNr (c : Chip) (ch rank bank row : Nat) : Chip :=
  if (c.mc ch).nrQ.length < 16 then
    (c.onMc ch fun m => { m with nrQ := m.nrQ ++ [⟨rank, bank, row, c.nrRows ch row⟩] }).bump
      (mcF ch MCA_WEIR_STAT_TRIGGERS) 1
  else
    (c.onMc ch fun m => { m with weirHeld := m.weirHeld.set (rank * 8 + bank) (some row) }).bump
      (mcF ch MCA_WEIR_STAT_STALL) 1

/-- An ACT enters its bank's weir table (R340). -/
def Chip.weirAct (c : Chip) (ch rank bank row : Nat) : Chip :=
  if !c.flag (mcF ch MCA_WEIR_CTL_EN) then c
  else
    let t := (c.mc ch).weir.getD (rank * 8 + bank) []
    let e := weirEnter t row
    let hit := ((e.1.getD e.2 ⟨0, 0⟩).count) == c.weirLimit ch
    let t' := if hit then e.1.modify e.2 fun x => { x with count := weirRestart e.1 e.2 } else e.1
    let c1 := c.onMc ch fun m => { m with weir := m.weir.set (rank * 8 + bank) t' }
    if hit then c1.queueNr ch rank bank row else c1

/-- The first bank that waits for a neighbour-refresh entry takes the one that freed (R342). -/
def Chip.releaseHeld (c : Chip) (ch : Nat) : Chip :=
  match (c.mc ch).weirHeld.zipIdx.find? fun x => x.1.isSome with
  | some (some row, i) =>
    (c.onMc ch fun m => { m with weirHeld := m.weirHeld.set i none }).queueNr ch (i / 8) (i % 8) row
  | _ => c

/-- ACT is issued: the bank's row is open, and every ACT but a neighbour refresh's enters the weir table (R340). -/
def Chip.issueAct (c : Chip) (ch rank bank row : Nat) (nr : Bool) : Chip :=
  let c1 := (c.onBank ch rank bank fun b => { b with row := some row, actAt := (c.mc ch).now }).onMc ch fun m =>
    { m with actTimes := (m.now :: m.actTimes).take 4 }
  let c2 := c1.dramCmd ch { busCmd 0 rank bank row with nr := nr }
  if nr then
    c2.onMc ch fun m =>
      { m with nrQ := match m.nrQ with | [] => [] | n :: t => { n with todo := n.todo.drop 1 } :: t }
  else c2.weirAct ch rank bank row

/-- PRE is issued; the last precharge of a neighbour refresh frees its entry. -/
def Chip.issuePre (c : Chip) (ch rank bank : Nat) : Chip :=
  let c1 := (c.onBank ch rank bank fun b => { b with row := none, preAt := (c.mc ch).now }).dramCmd ch (busCmd 1 rank bank 0)
  match (c.mc ch).nrQ with
  | n :: rest =>
    if n.rank = rank ∧ n.bank = bank ∧ n.todo.isEmpty then (c1.onMc ch fun m => { m with nrQ := rest }).releaseHeld ch
    else c1
  | [] => c1

/-- The commands of one neighbour refresh: each row is activated and precharged (R341). -/
def Chip.performNr (c : Chip) (ch : Nat) (n : NeighbourRefresh) : Chip :=
  let c1 := if ((c.mc ch).bankAt n.rank n.bank).row.isSome then c.dramCmd ch (busCmd 1 n.rank n.bank 0) else c
  (n.todo.foldl
    (fun c r => (c.dramCmd ch { busCmd 0 n.rank n.bank r with nr := true }).dramCmd ch (busCmd 1 n.rank n.bank 0)) c1).onBank
    ch n.rank n.bank fun b => { b with row := none, preAt := (c.mc ch).now }

/-- Every neighbour refresh that waits is performed, those of held banks too (R342). -/
def Chip.drainNr (c : Chip) (ch : Nat) : Chip :=
  let held := (c.mc ch).weirHeld.zipIdx.filterMap fun x =>
    x.1.map fun row => (⟨x.2 / 8, x.2 % 8, row, c.nrRows ch row⟩ : NeighbourRefresh)
  let c1 := ((c.mc ch).nrQ ++ held).foldl (fun c n => c.performNr ch n) c
  (c1.onMc ch fun m => { m with nrQ := [], weirHeld := List.replicate 16 none }).bump (mcF ch MCA_WEIR_STAT_TRIGGERS)
    held.length

/-- PREA: every bank of the channel is precharged. -/
def Chip.preAll (c : Chip) (ch : Nat) : Chip :=
  (c.onMc ch fun m => { m with banks := m.banks.map fun b => { b with row := none, preAt := m.now } }).allRanks ch 2 0 0

/-- The ranks whose ODT a column command asserts (R321): the target of a write, and with ODT_NT = 1 and two ranks the
other rank in reads and writes. -/
def Chip.odtRanks (c : Chip) (ch rank : Nat) (write : Bool) : List Nat :=
  (if write then [rank] else [])
    ++ (if c.tim ch MCA_CFG_ODT_NT = 1 ∧ c.flag (mcF ch MCA_CFG_RANKS) = true then [1 - rank] else [])

/-- The floor window moves on by one column command (R330). -/
def Chip.floorCount (c : Chip) (ch : Nat) (class3 : Bool) : Chip :=
  let win := max 1 (c.rd MCX_SCHED_CTL_FLOOR_WIN)
  c.onMc ch fun m =>
    if win ≤ m.winCount + 1 then { m with winCount := 0, winClass3 := 0 }
    else { m with winCount := m.winCount + 1, winClass3 := m.winClass3 + b2n class3 }

/-- RD or WR of the line at a place is issued for a port: the bank, the bus and ODT, the history and the floor window. -/
def Chip.issueLine (c : Chip) (l : Loc) (write : Bool) (line : Nat) (mask : List Bool) (port : Nat) : Chip :=
  let c1 := (c.onBank l.ch l.rank l.bank fun b =>
      if write then { b with wrAt := (c.mc l.ch).now } else { b with rdAt := (c.mc l.ch).now }).onMc l.ch fun m =>
    { m with colAt := m.now, colWrite := write, colRank := l.rank, colBank := l.bank
             odt := c.odtRanks l.ch l.rank write }
  (c1.dramCmd l.ch { busCmd (if write then 5 else 4) l.rank l.bank (l.off / 64 * 32) with
      line := line, row := l.row, mask := mask }).floorCount l.ch (portClass port == 3)

/-- The row of a place is opened where it is not; a bank whose ACTs are held waits for the neighbour refreshes (R342). -/
def Chip.openRow (c : Chip) (l : Loc) : Chip :=
  if ((c.mc l.ch).bankAt l.rank l.bank).row = some l.row then c
  else
    let c1 := if ((c.mc l.ch).weirHeld.getD (l.rank * 8 + l.bank) none).isSome then c.drainNr l.ch else c
    let c2 := if ((c1.mc l.ch).bankAt l.rank l.bank).row.isSome then c1.issuePre l.ch l.rank l.bank else c1
    c2.issueAct l.ch l.rank l.bank l.row false

/-- One line read or written at a place outside the scheduler, its row opened first. -/
def Chip.busLine (c : Chip) (l : Loc) (write : Bool) (line : Nat) (mask : List Bool) (port : Nat) : Chip :=
  (c.openRow l).issueLine l write line mask port

/-! ### The check cache (R359-R361) -/

/-- The place of a line's check line (R357): 512 data bytes to one check line. -/
def Chip.checkTarget (c : Chip) (l : Loc) : Loc := checkLoc (c.mcDataRows l.ch) l

/-- The check line of a place is in the cache of its channel. -/
def Channel.cached (m : Channel) (k : Loc) : Bool :=
  m.cache.any fun e => e.rank == k.rank && e.bank == k.bank && e.row == k.row && e.line == k.off / 64

/-- A cached check line is the one at a place. -/
def CheckLine.holds (e : CheckLine) (k : Loc) : Bool :=
  e.rank == k.rank && e.bank == k.bank && e.row == k.row && e.line == k.off / 64

/-- The place of a cached check line. -/
def CheckLine.loc (e : CheckLine) (ch : Nat) : Loc := ⟨ch, e.rank, e.bank, e.row, e.line * 64⟩

/-- A check line enters the cache as the most recently used, the least recently used one leaving (R359). -/
def cachePut (cache : List CheckLine) (l : CheckLine) : List CheckLine :=
  let rest := cache.filter fun e => !(e.rank == l.rank && e.bank == l.bank && e.row == l.row && e.line == l.line)
  (if 32 ≤ rest.length then rest.drop 1 else rest) ++ [l]

/-- A dirty check line is written back. -/
def Chip.writeCheck (c : Chip) (ch : Nat) (e : CheckLine) : Chip :=
  (c.busLine (e.loc ch) true 0 [] 12).onMc ch fun m =>
    { m with cache := m.cache.map fun x => if x.holds (e.loc ch) then { x with dirty := false } else x }

/-- The dirty lines of a cache other than one, and of them the one written least recently. -/
def dirtyOthers (cache : List CheckLine) (k : Loc) : List CheckLine := cache.filter fun e => e.dirty && !e.holds k
def oldestWrite (es : List CheckLine) : Option CheckLine :=
  es.find? fun e => es.all fun x => decide (e.wrote ≤ x.wrote)

/-- What a line's use writes back first: the dirty line written least recently where a fifth becomes dirty (R360), and
the least recently used line where a new one takes its place and it is dirty. -/
def Chip.cacheRoom (c : Chip) (ch : Nat) (k : Loc) (dirty : Bool) : Chip :=
  let others := dirtyOthers (c.mc ch).cache k
  let c1 :=
    if dirty && decide (4 ≤ others.length) then
      match oldestWrite others with
      | some e => c.writeCheck ch e
      | none => c
    else c
  let cache := (c1.mc ch).cache
  match cache with
  | e :: _ => if e.dirty && !(cache.any fun x => x.holds k) && decide (32 ≤ cache.length) then c1.writeCheck ch e else c1
  | [] => c1

/-- A check line is used, by a write if `dirty`. -/
def Chip.cacheUse (c : Chip) (ch : Nat) (k : Loc) (dirty : Bool) : Chip :=
  (c.cacheRoom ch k dirty).onMc ch fun m =>
    let old := m.cache.find? fun e => e.holds k
    let was := (old.map fun e => e.dirty).getD false
    let wrote := if dirty then m.writes + 1 else (old.map fun e => e.wrote).getD 0
    { m with writes := m.writes + b2n dirty
             cache := cachePut m.cache ⟨k.rank, k.bank, k.row, k.off / 64, was || dirty, wrote⟩ }

/-- Every dirty check line is written back (R361). -/
def Chip.flushCache (c : Chip) (ch : Nat) : Chip :=
  ((c.mc ch).cache.filter fun e => e.dirty).foldl (fun c e => c.writeCheck ch e) c

/-! ### One line outside the scheduler -/

/-- A data line read or written at a physical place for a port by an event that stands for its whole access: the check
line read first where the cache lacks it (R359), and the line. -/
def Chip.lineAccess (c : Chip) (l : Loc) (write : Bool) (line : Nat) (mask : List Bool) (port : Nat) : Chip :=
  let k := c.checkTarget l
  let c1 := if (c.mc l.ch).cached k then c else c.busLine k false 0 [] port
  (c1.cacheUse l.ch k write).busLine l write line mask port

/-- A write leaves for DRAM: the line it names, its double in rank 1 while a migration copies (Table 8.4), and the
data. -/
def Chip.serveWrite (c : Chip) (e : WriteEntry) : Chip :=
  match c.sysLoc e.line with
  | none => c
  | some l =>
    let c1 := c.lineAccess (c.redirect l) true e.line e.mask e.port
    let c2 := if c.dualWrite l then c1.lineAccess { l with rank := 1 } true e.line e.mask e.port else c1
    c2.performWrite e

/-- A held write as an entry of the write queue. -/
def HeldReq.entry (r : HeldReq) : WriteEntry :=
  { seq := 0, port := r.port, line := r.line, mask := r.mask, words := r.words, age := 0, overdue := false, class0 := false }

/-- The write queue of a channel drains, with the writes that a flip holds. -/
def Chip.drainWrites (c : Chip) (ch : Nat) : Chip :=
  let held := ((c.mc ch).heldReqs.filter fun r => r.write).map HeldReq.entry
  (((c.mc ch).writeQ ++ held).foldl (fun c e => (c.serveWrite e).bumpLines e.port) c).onMc ch fun m =>
    { m with writeQ := [], heldReqs := m.heldReqs.filter fun r => !r.write }

/-- The requests a channel holds are abandoned. A port learns of its reads by deliveries without words, so that its order
goes on (R317; log entry 100). -/
def Chip.abandonReads (c : Chip) (ch : Nat) : Chip :=
  let m := c.mc ch
  let held := (m.heldReqs.filter fun r => !r.write).map fun r => (⟨r.port, r.id, []⟩ : Delivery)
  (c.onMc ch fun m => { m with readQ := [], heldReqs := [] }).deliverAll
    ((m.readQ.map fun r => (⟨r.port, r.id, []⟩ : Delivery)) ++ held)

/-- The bursts of a channel in flight are abandoned too. -/
def Chip.abandonInflight (c : Chip) (ch : Nat) : Chip :=
  (c.onMc ch fun m => { m with inflight := [] }).deliverAll
    ((c.mc ch).inflight.map fun x => (⟨x.entry.port, x.entry.id, []⟩ : Delivery))

/-- The commands up to SRE, CKE low (R339, R341, R361, Tables 7.6 and 8.5): the neighbour refreshes that wait, the dirty
check lines, PREA, and for each rank the refreshes owed and `extra` more. -/
def Chip.enterSr (c : Chip) (ch extra : Nat) : Chip :=
  let c1 := ((c.drainNr ch).flushCache ch).drainNr ch
  let c2 := (c.mcRanks ch).foldl
    (fun c r => (List.range ((c.mc ch).owed.getD r 0 + extra)).foldl (fun c _ => c.dramCmd ch (busCmd 3 r 0 0)) c)
    (c1.preAll ch)
  c2.onMc ch fun m =>
    { m with cke := false, srCells := true, owed := [0, 0], pulled := [0, 0], sluiceEntry := false, sluiceExit := false
             odt := [] }

end Sys2Proof.Machine
end

