-- ==== Sys2Proof/Machine/Ops.lean ====
section
/-! DEFINITION. The operations the blocks share: which power domain a register lives in and whether an access reaches
it, the Lockkeeper's sources, the kill command and the event log, requesting a ledger record, starting and stopping
PLLs, putting DRAM to sleep, switching power domains, and taking, ending and forcing a mode edge. -/

namespace Sys2Proof.Machine

/-! ### Power domains -/

/-- The state of power domain `d`. -/
def Chip.pdState (c : Chip) (d : Nat) : PdState := c.pw.pd.getD d .off

/-- Domain `d` is ON. -/
def Chip.pdOn (c : Chip) (d : Nat) : Bool := c.pdState d == .on

/-- The power domain the register at an internal address lives in (Table 1.1 and the block chapters). -/
def pdOf (a : Nat) : Nat :=
  match a / 65536 with
  | 0x00 => if a < 4 ∨ 0x500 ≤ a then 0 else if 0x400 ≤ a then 1 else 2
  | 0x01 => 0
  | 0x02 => 12
  | 0x04 => 7
  | 0x05 => 8
  | 0x06 => 11
  | 0x08 => 17
  | 0x0A => 19
  | 0x0B => 20
  | 0x0C => 21
  | 0x0D => 23
  | 0x10 => if 0x100100 ≤ a ∧ a < 0x100180 then 24 else if 0x100180 ≤ a ∧ a < 0x100200 then 25 else 26
  | 0x11 => 36
  | 0x14 => 26
  | 0x15 => 26
  | 0x18 => if a < 0x181000 then 24 else 25
  | 0x20 => 37
  | 0x21 => 38
  | 0x24 => 41
  | 0x26 => 43
  | 0x28 => 45
  | 0x29 => 46
  | 0x2A => if a = 0x2A0040 ∨ 0x2A0100 ≤ a ∧ a < 0x2A1000 ∨ 0x2A4000 ≤ a then 49 else 48
  | 0x2C => 1
  | _ => 51

/-- How an internal access ends before it reaches a register. -/
inductive Access where
  | ok | unimpl | pwroff | variant
deriving DecidableEq, Repr

/-- Whether an access to an internal address reaches a register (R7, R30, R136, R216). DESIGN CHOICE (log entry 91): an
address that no block implements inside a block whose domain is not ON is UNIMPL (R30), not PWROFF (R136). -/
def Chip.access (c : Chip) (a : Nat) : Access :=
  if a / 65536 = 0x26 ∧ c.variantS = false then .variant
  else
    match rowOf a with
    | none => .unimpl
    | some _ => if c.pdOn (pdOf a) then .ok else .pwroff

/-- The register addresses of a domain whose contents are lost when it goes OFF; of CKG_PLLx_STAT, `clearHidden` keeps
LOSS_COUNT, which is cleared at power-on reset only (Table 4.11). -/
def pdRanges (d : Nat) : List (Nat × Nat) :=
  match d with
  | 2 => [(0x000004, 0x000018), (0x00001C, 0x000028), (0x00002C, 0x000038), (0x00003C, 0x000048), (0x00004C, 0x000400)]
  | 7 => [(0x040000, 0x050000)]
  | 8 => [(0x050000, 0x060000)]
  | 11 => [(0x060000, 0x070000)]
  | 12 => [(0x020000, 0x030000)]
  | 17 => [(0x080000, 0x090000)]
  | 19 => [(0x0A0000, 0x0B0000)]
  | 20 => [(0x0B0000, 0x0C0000)]
  | 21 => [(0x0C0000, 0x0D0000)]
  | 23 => [(0x0D0000, 0x0E0000)]
  | 24 => [(0x100100, 0x100180), (0x180000, 0x181000)]
  | 25 => [(0x100180, 0x100200), (0x181000, 0x182000)]
  | 26 => [(0x100000, 0x100100), (0x100200, 0x110000), (0x140000, 0x180000)]
  | 36 => [(0x110000, 0x120000)]
  | 37 => [(0x200000, 0x210000)]
  | 38 => [(0x210000, 0x220000)]
  | 41 => [(0x240000, 0x250000)]
  | 43 => [(0x260000, 0x270000)]
  | 45 => [(0x280000, 0x290000)]
  | 46 => [(0x290000, 0x2A0000)]
  | 48 => [(0x2A0000, 0x2A0040), (0x2A0044, 0x2A0100), (0x2A1000, 0x2A4000)]
  | 49 => [(0x2A0040, 0x2A0044), (0x2A0100, 0x2A1000), (0x2A4000, 0x2B0000)]
  | 51 => [(0x3F0000, 0x400000)]
  | _ => []

/-- A write of the host to a top-level register: refused while the internal writes of an earlier transaction drain
(R133). -/
def Chip.ifDrained (c : Chip) (f : Chip → Chip) : Chip := if c.wh.drain.isEmpty then f c else c.whErr erBusyDrain

/-- A write of the host to an internal register: the effect, or the error of an access that does not reach the
register (R136). Until the Wharf's own domain is ON no access arrives (R43). -/
def Chip.guardReg (c : Chip) (a : Nat) (f : Chip → Chip) : Chip :=
  if !c.pdOn 2 then c
  else
    match c.access a with
    | .ok => f c
    | .unimpl => c.whErr erUnimpl
    | .pwroff => c.whErr erPwroff
    | .variant => c.whErr erVariant

/-- A command's effect on the part, in power-on reset too; the queue is left to `step`. -/
def effectAlways (s : State) (f : Chip → Chip) : Host.Outcome State Fault Refusal := .next { s with chip := f s.chip }

/-- A command's effect on the part; the queue is left to `step`. While power-on reset is asserted every domain is held
in reset (R764, R767) and nothing has an effect but the reset itself and the TAP. -/
def effect (s : State) (f : Chip → Chip) : Host.Outcome State Fault Refusal :=
  effectAlways s fun c => if c.pins.por then c else f c

/-- Registers at their reset values again, in both maps. -/
def Chip.clearRegs (c : Chip) (rs : List (Nat × Nat)) : Chip :=
  rs.foldl
    (fun c r => { c with regs := SMap.clearRange c.regs r.1 r.2, eff := SMap.clearRange c.eff r.1 r.2 }) c

/-! ### The Lockkeeper: records, sources, the kill command -/

/-- A field of source `n`'s configuration, given that of source 0. -/
def srcF (n : Nat) (f : Field) : Field := f.off (4 * n)

/-- Change the Lockkeeper's state. -/
def Chip.onLk (c : Chip) (f : Lockkeeper → Lockkeeper) : Chip := { c with lk := f c.lk }

/-- A new record, stamped and numbered (R731, Table 17.5), and the next SEQ taken. -/
def Chip.newRec (c : Chip) (type flags unit data : Nat) : LogRec :=
  { ts := c.stamp, seq := c.rd LKK_LOG_SEQ_SEQ, type := type
    flags := flags + 4 * c.rd LKK_CAL_CTL_CAL_VALID, unit := unit % 65536, data := data % 2 ^ 32 }

/-- The next SEQ; it wraps (Table 2.4). -/
def Chip.takeSeq (c : Chip) : Chip := c.wr LKK_LOG_SEQ_SEQ ((c.rd LKK_LOG_SEQ_SEQ + 1) % 65536)

/-- An empty log slot. -/
def LogRec.zero : LogRec := { ts := 0, seq := 0, type := 0, flags := 0, unit := 0, data := 0 }

/-- Put a record into the slot WR, marked LOST_BEFORE when a loss came before it (R734). -/
def Chip.putSlot (c : Chip) (r : LogRec) (lostBefore : Bool) : Chip :=
  let w := c.rd LKK_LOG_STAT_WR
  let r' := if lostBefore || c.lk.pendLost then { r with flags := withBit r.flags 1 true } else r
  (c.onLk fun k => { k with slots := SMap.set (fun _ => LogRec.zero) k.slots w r', pendLost := false }).wr
    LKK_LOG_STAT_WR ((w + 1) % 256)

/-- A record enters the log: stored, or handled by LOG_POLICY when the log is full (R733, R734). -/
def Chip.storeRec (c : Chip) (r : LogRec) : Chip :=
  let n := c.rd LKK_LOG_STAT_COUNT
  let c1 :=
    if n < 256 then (c.putSlot r false).wr LKK_LOG_STAT_COUNT (n + 1)
    else if c.flag LKK_CTL_LOG_POLICY then
      (c.bump LKK_LOG_CNT_LOST 1).onLk fun k => { k with pendLost := true }
    else (c.putSlot r true).bump LKK_LOG_CNT_LOST 1
  c1.evt evLkk

/-- A record of the Lockkeeper's own sources: it enters the log at once (R731). -/
def Chip.lkRecord (c : Chip) (type flags unit data : Nat) : Chip :=
  c.takeSeq.storeRec (c.newRec type flags unit data)

/-- A record of another block: into the 8-entry queue, lost when that is full (R731, R732, R734). -/
def Chip.logRecord (c : Chip) (type flags unit data : Nat) : Chip :=
  if c.lk.queue.length < 8 then
    c.takeSeq.onLk fun k => { k with queue := k.queue ++ [c.newRec type flags unit data] }
  else
    ((c.takeSeq.bump LKK_LOG_CNT_Q_LOST 1).onLk fun k => { k with pendLost := true }).evt evLkk

/-- Source `n` is a level source (Table 17.2). -/
def srcLevel (n : Nat) : Bool := n != 8 && n != 12 && n != 14

/-- A source becomes active: its bit, its latch (R720) and a KILL record (Table 17.6). -/
def Chip.srcActivate (c : Chip) (n data : Nat) : Chip :=
  if !c.flag (srcF n LKK_SRC0_CFG_EN) || c.bit LKK_ACTIVE_A n then c
  else
    let c1 := c.setBit LKK_ACTIVE_A n true
    let c2 := if c.flag (srcF n LKK_SRC0_CFG_LATCH) then c1.setBit LKK_LATCHED_L n true else c1
    c2.lkRecord 2 (8 * b2n (c.bit LKK_ARMED_ARMED n)) n data

/-- The condition of a level source begins, or an event of an event source occurs. -/
def Chip.srcAssert (c : Chip) (n data : Nat) : Chip :=
  (c.onLk fun k => { k with asserted := withBit k.asserted n (srcLevel n) }).srcActivate n data

/-- A source stops being active; a level source with LATCH = 0 leaves a RELEASE record (R726). -/
def Chip.srcDeactivate (c : Chip) (n : Nat) : Chip :=
  if !c.bit LKK_ACTIVE_A n then c
  else
    let c1 := c.setBit LKK_ACTIVE_A n false
    if srcLevel n && !c.flag (srcF n LKK_SRC0_CFG_LATCH) then
      c1.lkRecord 3 (8 * b2n (c.bit LKK_ARMED_ARMED n)) n 0
    else c1

/-- The condition of a level source ends. -/
def Chip.srcRelease (c : Chip) (n : Nat) : Chip :=
  (c.onLk fun k => { k with asserted := withBit k.asserted n false }).srcDeactivate n

/-- A dark request of Table 17.3 is active, or the monitor drives LIGHT_EN_N low directly (Table 4.6), whatever source
10 is configured to. -/
def Chip.darkReq (c : Chip) : Bool :=
  c.mode.mode == .deepSleep || c.lk.freezeDark || c.mode.mode == .hold || c.lk.leaveDark || c.lk.e13Dark
    || c.lk.testDark || c.ck.ircDead || c.ck.reflost

/-- A source with EN = 1 and KILL = 1 is active or latched (R722). -/
def Chip.killSource (c : Chip) (n : Nat) : Bool :=
  c.flag (srcF n LKK_SRC0_CFG_EN) && c.flag (srcF n LKK_SRC0_CFG_KILL)
    && (c.bit LKK_ACTIVE_A n || c.bit LKK_LATCHED_L n)

/-- The kill command is low (R722); it is also low in power-on reset (R718). -/
def Chip.killLow (c : Chip) : Bool :=
  c.pins.por || c.darkReq || (List.range 15).any fun n => c.killSource n

/-- LIGHT_EN_N is high: light is permitted. -/
def Chip.lightEn (c : Chip) : Bool := !c.killLow

/-- The SAFE show output (R728). -/
def Chip.safeShow (c : Chip) : Bool :=
  c.flag LKK_CTL_SAFE_FORCE || (List.range 15).any fun n =>
    c.flag (srcF n LKK_SRC0_CFG_EN) && c.flag (srcF n LKK_SRC0_CFG_SAFE)
      && (c.bit LKK_ACTIVE_A n || c.bit LKK_LATCHED_L n)

/-! ### The loader -/

/-- Change the loader's state. -/
def Chip.onLd (c : Chip) (f : Loader → Loader) : Chip := { c with ld := f c.ld }

/-! ### Clocks: PLLs and dividers -/

/-- Change the clock generator's state. -/
def Chip.onCk (c : Chip) (f : Clocks → Clocks) : Chip := { c with ck := f c.ck }

/-- PLL `p` (0 S, 1 M, 2 V, 3 L). -/
def Chip.pll (c : Chip) (p : Nat) : Pll := c.ck.plls.getD p (Pll.reset 1 16 0)

/-- Change PLL `p`. -/
def Chip.onPll (c : Chip) (p : Nat) (f : Pll → Pll) : Chip :=
  c.onCk fun k => { k with plls := k.plls.zipIdx.map fun x => if x.2 = p then f x.1 else x.1 }

/-- A field of PLL `p`, given that of PLL_S. -/
def pllF (p : Nat) (f : Field) : Field := f.off (0x10 * p)

/-- A field of clock domain `n`'s register, given that of domain 1. -/
def domF (n : Nat) (f : Field) : Field := f.off (4 * (n - 1))

/-- The domains a PLL feeds (Table 4.4). -/
def pllChildren (p : Nat) : List Nat :=
  match p with
  | 0 => [5, 8, 9, 10, 13, 18, 21]
  | 1 => [6, 7]
  | 2 => [11, 12]
  | _ => [14, 15, 20, 24]

/-- The dividers Table 4.3 permits for a domain, smallest first. -/
def permittedDivs (n : Nat) : List Nat :=
  match n with
  | 5 => [4, 6, 8, 12]
  | 6 => [4]
  | 7 => [2]
  | 14 => [2]
  | 15 => [2]
  | 18 => [8, 12, 16]
  | 20 => [8]
  | 21 => [12, 16]
  | 24 => [16]
  | _ => [2, 3, 4, 6, 8, 12, 16]

/-- The divider ladder (R185, Table 4.12). -/
def ladder : List Nat := [2, 3, 4, 6, 8, 12, 16]

/-- The divider a DIV code asks for (Table 4.12). -/
def divOfCode (code : Nat) : Nat := ladder.getD code 16

/-- The target divider of a domain: the code's divider, or the nearest larger permitted one (Table 4.12). DESIGN CHOICE
(log entry 92): where no permitted divider is larger (÷16 asked of SYS), the largest permitted one. -/
def Chip.targetDiv (c : Chip) (n : Nat) : Nat :=
  let want := divOfCode (c.rd (domF n CKG_DOM_XIN_DIV))
  match (permittedDivs n).find? fun d => want ≤ d with
  | some d => d
  | none => (permittedDivs n).getLastD 16

/-- The divider a domain runs at now; 0 = stopped or held. -/
def Chip.divNow (c : Chip) (n : Nat) : Nat := c.ck.divs.getD (n - 1) 0

/-- Give a domain a divider. -/
def Chip.setDiv (c : Chip) (n d : Nat) : Chip := c.onCk fun k => { k with divs := k.divs.set (n - 1) d }

/-- A PLL is started with the settings written (R191); while it locks, children of target 2 to 8 run at 16, the others
are held (R183), and MCC and MPH wait (R187). -/
def Chip.startPll (c : Chip) (p : Nat) : Chip :=
  if (c.pll p).on then c
  else
    let c1 := c.onPll p fun _ =>
      { on := true, lock := false, holdover := false, held := false
        refdiv := max 1 (c.rd (pllF p CKG_PLLS_CFG_REFDIV))
        fbdiv := max 16 (c.rd (pllF p CKG_PLLS_CFG_FBDIV))
        frac := c.rd (pllF p CKG_PLLS_FRAC_FRAC)
        odiv := c.rd (pllF p CKG_PLLS_CFG_ODIV) }
    (pllChildren p).foldl
      (fun c n => c.setDiv n (if p = 1 then 0 else if c.targetDiv n ≤ 8 then 16 else 0)) c1

/-- A PLL is powered down and the domains it feeds stop; SYS goes back to IRC. -/
def Chip.stopPll (c : Chip) (p : Nat) : Chip :=
  let c1 := c.onPll p fun x => { x with on := false, lock := false, holdover := false, held := false }
  let c2 := (pllChildren p).foldl (fun c n => c.setDiv n 0) c1
  if p = 0 then c2.onCk fun k => { k with sysOnIrc := true } else c2

/-- The PLLs a mode runs (Table 1.2); CALIBRATE adds those of CAL_SET, PANEL adds PLL_L while PD06 is requested. -/
def Chip.modePlls (c : Chip) (m : Mode) : List Nat :=
  match m with
  | .deepSleep => []
  | .standby => []
  | .load => [0, 1]
  | .calibrate => [0, 1] ++ [2, 3].filter fun p => c.bit CKG_PLL_CTL_CAL_SET (p - 2)
  | .mirror => [0, 1, 2, 3]
  | .scan => [0, 1, 2, 3]
  | .panel => [0, 1, 2] ++ (if c.bit PWR_PDREQ_LO_REQ 6 then [3] else [])
  | .hold => [0, 1]

/-- The clock domains a mode permits (R170-R172). -/
def domAllowed (m : Mode) (n : Nat) : Bool :=
  match m with
  | .deepSleep => [2, 3, 22].contains n
  | .standby => [1, 2, 3, 4, 5, 16, 17, 19, 21, 22, 23, 25].contains n
  | .load => !([11, 12, 14, 15, 20, 24].contains n)
  | .hold => !([11, 12, 14, 15, 20, 24].contains n)
  | _ => true

/-- What a mode edge does to the clock registers: OFF requests and the HOLD of domains the target does not permit are
cleared (R170, Table 4.11). -/
def Chip.edgeClocks (c : Chip) (m : Mode) : Chip :=
  ((List.range 25).map (· + 1)).foldl
    (fun c n => if domAllowed m n || !c.flag (domF n CKG_DOM_XIN_HOLD) then c else c.wr (domF n CKG_DOM_XIN_HOLD) 0)
    (c.wr CKG_PLL_CTL_OFF 0)

/-- Stop the PLLs a mode does not run. -/
def Chip.stopOthers (c : Chip) (m : Mode) : Chip :=
  [0, 1, 2, 3].foldl
    (fun c p => if (c.modePlls m).contains p || !(c.pll p).on then c else c.stopPll p) c

/-! ### DRAM and the mode edges -/

/-- Put one channel into self-refresh on a mode edge (R350): the write queue first drains, except under E12, which abandons
queued writes; queued reads are abandoned (log entry 100), a scrub visit is given up and owed ones are dropped (R379); the
bursts in flight finish (Table 4.6), so their data still returns. An initialisation that an edge cuts leaves the channel
OFF. -/
def Chip.sleepChannel (c : Chip) (drain : Bool) (state ch : Nat) : Chip :=
  let s := c.mcState ch
  if s = mcInit then (c.onMc ch fun m => { m with resetN := false, cke := false }).wr (mcF ch MCA_STAT_STATE) mcOff
  else if s = mcActive ∨ s = mcSweep ∨ s = mcShallow ∨ s = mcDeep then
    let c1 := (if drain then c.drainWrites ch else c.onMc ch fun m => { m with writeQ := [] }).abandonReads ch
    let c2 := if s = mcActive ∨ s = mcSweep then c1.enterSr ch 0 else c1
    (c2.onMc ch fun m =>
      { m with srCells := true, cke := false, sluiceEntry := false, sluiceExit := false, scrubRead := none
               owedVisits := 0 }).wr (mcF ch MCA_STAT_STATE) state
  else c

/-- The settings that take effect at a self-refresh exit (R319): timing, features and PHY delays, and not the DRAM's mode
registers. -/
def Chip.exitCommit (c : Chip) (ch : Nat) : Chip :=
  let base := 0x040000 + ch * 0x10000
  (c.commitRange base (base + 0x10)).commitRange (base + 0x2C) (base + 0x10000)

/-- A channel leaves self-refresh (Table 7.7): ACTIVE, the weir tables cleared (R343), ZQCS issued (R339), and the settings
that wait for an exit take effect (R319). -/
def Chip.wakeChannel (c : Chip) (ch : Nat) : Chip :=
  let s := c.mcState ch
  if s = mcShallow ∨ s = mcDeep ∨ s = mcFrozen then
    (((c.onMc ch fun m =>
      { m with srCells := true, cke := true, sluiceEntry := false, sluiceExit := false, zqOwed := false
               weir := List.replicate 16 [], weirHeld := List.replicate 16 none }).allRanks ch 7 0 0).wr
      (mcF ch MCA_STAT_STATE) mcActive).exitCommit ch
  else c

/-- A channel's DRAM is held in reset: its contents are discarded (R224, Table 5.4), and its soft repairs with them
(R389). -/
def Chip.resetDram (c : Chip) (ch : Nat) : Chip :=
  ((((c.dramLost ch).abandonReads ch).abandonInflight ch).onMc ch fun m =>
    { m with resetN := false, cke := false, srCells := false, writeQ := [], nrQ := []
             weirHeld := List.replicate 16 none, scrubRead := none, owedVisits := 0, sluiceEntry := false
             sluiceExit := false, pprBusy := false, softRows := [], alert := AlertState.reset, odt := []
             banks := m.banks.map fun b => { b with row := none }, cache := [] }).wr (mcF ch MCA_STAT_STATE) mcOff

/-- The DRAM policy of STANDBY for a channel (R224, R263). -/
def Chip.standbyDram (c : Chip) (ch : Nat) : Chip :=
  if c.bit PWR_STBY_CTL_DRAM_A_OFF 0 && ch == 0 || c.flag PWR_STBY_CTL_DRAM_B_OFF && ch == 1
      || !(c.mc ch).everInit then
    (c.resetDram ch).onMc ch fun m => { m with everInit := false }
  else c

/-- A channel in use follows the OFF policy of STANDBY. -/
def Chip.offPolicy (c : Chip) : Bool :=
  (c.flag PWR_STBY_CTL_DRAM_A_OFF && c.mcConf 0) || (c.flag PWR_STBY_CTL_DRAM_B_OFF && c.mcConf 1)

/-! ### Domain states by mode -/

/-- What Table 5.1 says of a domain in a mode. -/
inductive PdRule where
  | on | off | ret | en | cal | kept
deriving DecidableEq, Repr

/-- Table 5.1, by mode: what it says of domain `d` on VL-4826-S with both channels configured. -/
def pdRule (m : Mode) (d : Nat) : PdRule :=
  if d ≤ 1 then .on
  else
    match m with
    | .deepSleep => .off
    | .standby => if d = 2 then .on else if d = 12 ∨ d = 48 ∨ d = 49 ∨ d = 51 then .en else if d = 50 then .off else .ret
    | .load => if d = 5 ∨ d = 6 then .ret else if d = 48 ∨ d = 49 ∨ d = 51 then .en else .on
    | .calibrate =>
      if d = 5 ∨ d = 6 then .cal
      else if d ≤ 4 ∨ (7 ≤ d ∧ d ≤ 11) ∨ d = 45 ∨ d = 47 then .on else if d = 50 then .off else .en
    | .hold =>
      if d = 5 ∨ d = 6 ∨ d = 48 ∨ d = 49 then .ret
      else if d ≤ 4 ∨ (7 ≤ d ∧ d ≤ 11) then .on
      else if d = 12 ∨ d = 51 then .en else if d = 50 then .off else .kept
    | .mirror =>
      if d ≤ 11 ∨ (26 ≤ d ∧ d ≤ 35) ∨ d = 37 ∨ d = 38 ∨ d = 41 ∨ d = 42 ∨ d = 45 ∨ d = 47 then .on
      else if d = 39 ∨ d = 40 ∨ d = 43 ∨ d = 44 then .ret else if d = 50 then .off else .en
    | .scan =>
      if d ≤ 11 ∨ (26 ≤ d ∧ d ≤ 35) ∨ d = 37 ∨ d = 43 ∨ d = 44 ∨ d = 45 ∨ d = 47 then .on
      else if d = 38 ∨ d = 39 ∨ d = 40 ∨ d = 41 ∨ d = 42 then .ret else if d = 50 then .off else .en
    | .panel =>
      if d ≤ 5 ∨ (7 ≤ d ∧ d ≤ 11) ∨ (26 ≤ d ∧ d ≤ 35) ∨ d = 37 ∨ d = 39 ∨ d = 47 then .on
      else if d = 41 ∨ d = 42 ∨ d = 43 ∨ d = 44 then .ret else if d = 50 then .off else .en

/-- PWR_PDREQ's bit of domain `d`. -/
def Chip.pdreq (c : Chip) (d : Nat) : Bool :=
  if d < 32 then c.bit PWR_PDREQ_LO_REQ d else c.bit PWR_PDREQ_HI_REQ (d - 32)

/-- Give PWR_PDREQ's bit of domain `d`. -/
def Chip.setPdreq (c : Chip) (d : Nat) (b : Bool) : Chip :=
  if d < 32 then c.setBit PWR_PDREQ_LO_REQ d b else c.setBit PWR_PDREQ_HI_REQ (d - 32) b

/-- The blend lane out of service: the one lane 8 replaces, else lane 8 (R222). -/
def Chip.laneOut (c : Chip) : Nat := if c.ld.spared < 8 then c.ld.spared else 8

/-- In mode `m` the SRAM self-test of LOAD is still to come or runs: all nine blend lanes are ON (R222). -/
def Chip.selfTestAhead (c : Chip) (m : Mode) : Bool :=
  m == .load && (c.mode.mode != .load || c.ld.phase == .otp || c.ld.phase == .bist)

/-- A channel that the map leaves out. DEDUCED (log entry 93): which channels are configured is decided by MCX_MAP_CTL.GO,
which locks MCx_CFG.ENABLE; until then both count as configured, since MCx_CFG can only be written while PD07 and PD08
are ON. -/
def Chip.mcAbsent (c : Chip) (ch : Nat) : Bool := c.flag MCX_MAP_STAT_VALID && !c.mcConf ch

/-- A domain held OFF whatever the table says: the beam-scan domains on VL-4826-M (R220), an absent channel's (R221),
the blend lane out of service but for the self-test of LOAD (R222). -/
def Chip.pdForcedOff (c : Chip) (m : Mode) (d : Nat) : Bool :=
  ((d == 43 || d == 44) && !c.variantS)
    || ((d == 7 || d == 9) && c.mcAbsent 0)
    || ((d == 8 || d == 10) && c.mcAbsent 1)
    || (d == 27 + c.laneOut && !c.selfTestAhead m)

/-- The state Table 5.1 asks of domain `d` in mode `m` (R219-R222); while moored, PD04 is RET (R225). -/
def Chip.pdTarget (c : Chip) (m : Mode) (d : Nat) : PdState :=
  if c.pdForcedOff m d then .off
  else if d = 4 ∧ c.mode.moored = true ∧ m = c.mode.mode then .ret
  else
    match pdRule m d with
    | .on => .on
    | .off => .off
    | .ret => .ret
    | .en => if c.pdreq d then .on else .ret
    | .cal => if c.bit CKG_PLL_CTL_CAL_SET (d - 5) then .on else .ret
    | .kept => c.pdState d

/-- Change the power sequencer's state. -/
def Chip.onPw (c : Chip) (f : Power → Power) : Chip := { c with pw := f c.pw }

/-- The switches from the present states to a mode's, in the order of R233: first to RET or OFF in descending number,
then to ON in ascending number. -/
def Chip.planSwitches (c : Chip) (m : Mode) : List (Nat × PdState) :=
  let all := ((List.range 52).map fun d => (d, c.pdTarget m d)).filter fun x => decide (x.2 ≠ c.pdState x.1)
  (all.filter fun x => decide (x.2 ≠ .on)).reverse ++ all.filter fun x => decide (x.2 = .on)

/-- The queue of switches toward a mode: the switch in progress completes first (R234), the others are planned from the
states that it leaves; `keep` names domains that stay as they are. -/
def Chip.planQueue (c : Chip) (m : Mode) (keep : Nat → Bool) : List (Nat × PdState) :=
  match c.pw.queue with
  | [] => (c.planSwitches m).filter fun x => !keep x.1
  | x :: _ => x :: ((c.onPw fun p => { p with pd := p.pd.set x.1 x.2 }).planSwitches m).filter fun y => !keep y.1

/-- Every domain goes to its state in the present mode (R219), in the order of R233, but for PD07 and PD08 after an E12
that left HOLD (R226). During an edge its own plan stands. -/
def Chip.pdPlan (c : Chip) : Chip :=
  if c.mode.edge.isSome then c
  else c.onPw fun p =>
    { p with queue := c.planQueue c.mode.mode fun d => c.mode.e12KeptHold && (d == 7 || d == 8) }

/-- The PWR_PDREQ bits a mode edge keeps: those of domains that are EN in the target mode (R230). -/
def keepPdreq (m : Mode) (lo hi : Nat) : Nat :=
  ((List.range (hi - lo)).map fun i => if pdRule m (lo + i) = .en then 2 ^ i else 0).foldl (· + ·) 0

/-- Clear the PWR_PDREQ bits of domains that are not EN in the target (R230); the loader keeps bit 12 set while records
wait (R295). -/
def Chip.edgePdreq (c : Chip) (m : Mode) : Chip :=
  let c1 := (c.wr PWR_PDREQ_LO_REQ (Nat.land (c.rd PWR_PDREQ_LO_REQ) (keepPdreq m 0 32))).wr PWR_PDREQ_HI_REQ
    (Nat.land (c.rd PWR_PDREQ_HI_REQ) (keepPdreq m 32 52))
  if c.ld.queue.isEmpty then c1 else c1.setPdreq 12 true

/-! ### The repair ledger: requesting a record -/

/-- The 16 DATA bytes of a record; bytes a kind does not list are 0 (Table 6.7). -/
def LedgerReq.dataBytes (r : LedgerReq) : List Byte :=
  (List.range 16).map fun i => BitVec.ofNat 8 (r.data.getD i 0)

/-- Bytes 8-27 of a record: UNIT, FLAGS, DATA (Table 6.6). -/
def LedgerReq.tail (r : LedgerReq) : List Byte := toLe 2 r.unit ++ toLe 2 r.flags ++ r.dataBytes

/-- The key of a record: CRC-32 of bytes 1 and 8-27 (R288). -/
def LedgerReq.key (r : LedgerReq) : Nat := crc32 (BitVec.ofNat 8 r.kind :: r.tail)

/-- A record whose append failed goes to the event log with LEDGER_FAILED and the reason (R293, R296); a DRAM_PPR or
STUCK_MIRROR record is followed by a CONT record (Table 17.6). -/
def Chip.ledgerToLog (c : Chip) (r : LedgerReq) (why : Nat) : Chip :=
  let d := fun i => r.data.getD i 0 % 256
  let c1 := c.logRecord 6 (1 + 16 * why) r.unit (r.kind + 256 * d 0 + 65536 * d 1 + 16777216 * d 2)
  if r.kind = 0x10 ∨ r.kind = 0x20 then
    c1.logRecord 7 0 0 (d 3 + 256 * d 4 + 65536 * d 5 + 16777216 * d 6)
  else c1

/-- An append fails (R293). -/
def Chip.ledgerFail (c : Chip) (r : LedgerReq) (why : Nat) : Chip :=
  ((c.ledgerToLog r why).bump LDR_LEDGER_CNT_FAILED 1).evt evLedger

/-! LEDGER_WHY (Table 17.5). -/
def whyFull : Nat := 1
def whyDropped : Nat := 2
def whyNoledger : Nat := 3
def whyAttempts : Nat := 4
def whyStopped : Nat := 5

/-- The bit of the enable for the current mode class in CKG_DOM (Table 4.12). -/
def Chip.classBit (c : Chip) : Nat :=
  match c.mode.mode with
  | .deepSleep => 2
  | .standby => 1
  | _ => 0

/-- The address of domain `n`'s register. -/
def domAddr (n : Nat) : Nat := 0x100 + 4 * (n - 1)

/-- The bits of a register that are RW. -/
def rwBits (a : Nat) : Word :=
  match rowOf a with
  | some r => BitVec.ofNat 32 r.rw
  | none => 0

/-- Set a domain's enable for the current mode class, where the class has one (R168, R171). -/
def Chip.domEnable (c : Chip) (n : Nat) : Chip :=
  let bit : Word := BitVec.ofNat 32 (2 ^ c.classBit) &&& rwBits (domAddr n)
  c.setReg (domAddr n) (c.get (domAddr n) ||| bit)

/-- A mode edge is in progress (WH_MODE_STATE.IN_TRANSIT); in LOAD itself, between E3 and E4, E5 or E10, none is (log
entry 12). -/
def Chip.inEdge (c : Chip) : Bool := c.mode.edge.isSome

/-- While it is not empty the queue holds a use of FLD and PD12's request bit (R168, R295). -/
def Chip.ledgerHold (c : Chip) : Chip :=
  if c.ld.queue.isEmpty then c
  else
    let c1 := (c.setPdreq 12 true).domEnable 21
    if c.pdreq 12 then c1 else c1.pdPlan

/-- E2 or E13 has stopped the flash (R254, R296). -/
def Chip.flashStopped (c : Chip) : Bool :=
  c.mode.edge == some .e2 || c.mode.edge == some .e13 || c.mode.mode == .deepSleep

/-- A block requests a ledger record: queued, suppressed as a duplicate (R289), or failed as NOLEDGER or DROPPED
(R293), or because the flash has stopped (R296). -/
def Chip.ledgerRequest (c : Chip) (r : LedgerReq) : Chip :=
  if c.flashStopped then c.ledgerFail r whyStopped
  else if c.ld.ledgerSect = 0 then c.ledgerFail r whyNoledger
  else if c.ld.keys.contains r.key then c.bump LDR_LEDGER_CNT_SUPPRESSED 1
  else if !c.flag LDR_LEDGER_CTL_APPEND_EN || decide (16 ≤ c.ld.queue.length) then c.ledgerFail r whyDropped
  else (c.onLd fun l => { l with queue := l.queue ++ [r] }).ledgerHold

/-- A block requests a record of its own; FIELD says that it was found outside LOAD (Table 6.6). -/
def Chip.blockRecord (c : Chip) (kind unit : Nat) (data : List Nat) : Chip :=
  c.ledgerRequest { kind := kind, unit := unit, flags := b2n (c.mode.mode != .load), data := data }

/-- E2 or E13 stops the flash: the slot being written stays uncommitted and every queued record goes to the event log
(R296). A host command that runs completes (R254). -/
def Chip.ledgerFlush (c : Chip) : Chip :=
  let c1 := c.ld.queue.foldl (fun c r => c.ledgerFail r whyStopped) c
  c1.onLd fun l => { l with queue := [], stage := .idle, attempts := 0, slotBytes := [] }

/-! ### The mode edges -/

/-- The mode is lit (MIRROR, SCAN or PANEL). -/
def Mode.lit (m : Mode) : Bool := m == .mirror || m == .scan || m == .panel

/-- WH_MODE_STATE's number of a mode (Table 1.2). -/
def Mode.code (m : Mode) : Nat :=
  match m with
  | .deepSleep => 0
  | .standby => 1
  | .load => 2
  | .calibrate => 3
  | .mirror => 4
  | .scan => 5
  | .panel => 6
  | .hold => 7

/-- The mode a TARGET code names. -/
def modeOfCode (n : Nat) : Option Mode :=
  [Mode.deepSleep, .standby, .load, .calibrate, .mirror, .scan, .panel, .hold][n]?

/-! CAUSE codes (Table 1.7). -/
def causePor : Nat := 0
def causeHost : Nat := 1
def causeWakeFail : Nat := 2
def causeReflost : Nat := 3
def causeFreeze : Nat := 4
def causeLoadFail : Nat := 5
def causeWakeEvent : Nat := 6

/-- Change the mode machine. -/
def Chip.onMode (c : Chip) (f : ModeMachine → ModeMachine) : Chip := { c with mode := f c.mode }

/-- The settings written take effect for the edge that starts (R267). -/
def Chip.takeSeqCfg (c : Chip) : Chip :=
  c.onPw fun p => { p with cfg := [c.get 0x10000, c.get 0x10010, c.get 0x10014, c.get 0x10018, c.get 0x1001C] }

/-- The domains an edge leaves as they are: PD07 and PD08 when E12 leaves HOLD (R226). -/
def Chip.edgeKeeps (c : Chip) (e : Edge) (d : Nat) : Bool := e == .e12 && c.mode.mode == .hold && (d == 7 || d == 8)

/-- DRAM enters self-refresh at the start of an edge into STANDBY (step 2 of R265, R350): every channel in use drains its
writes and sleeps. E12 has put it to sleep by itself (Table 4.6). -/
def Chip.edgeDram (c : Chip) (e : Edge) (m : Mode) : Chip :=
  if m = .standby ∧ e ≠ .e12 then (c.sleepChannel true mcShallow 0).sleepChannel true mcShallow 1 else c

/-- The PLLs of a mode are started (step 4 of R265). -/
def Chip.startPlls (c : Chip) (m : Mode) : Chip := (c.modePlls m).foldl Chip.startPll c

/-- The mode that the edge in progress leads to; E3 leads to LOAD, whatever the request's target. -/
def Chip.edgeMode (c : Chip) : Mode :=
  match c.mode.edge with
  | some .e3 => .load
  | some _ => c.mode.target
  | none => c.mode.mode

/-- Once every domain of the edge has switched, its PLLs start (R265). -/
def Chip.edgePlls (c : Chip) : Chip :=
  if c.mode.edge.isSome && c.pw.queue.isEmpty then c.startPlls c.edgeMode else c

/-- Begin an edge toward a mode (R265): light dark when a lit mode is left, DRAM to sleep on the way to STANDBY, domain
switches planned, and after the last of them the PLLs of the target. -/
def Chip.beginEdge (c : Chip) (e : Edge) (m : Mode) : Chip :=
  let c1 := c.takeSeqCfg.onMode fun x => { x with edge := some e, target := m, e12KeptHold := false }
  let c2 := if c.mode.mode.lit then c1.onLk fun k => { k with leaveDark := true } else c1
  let c3 := ((c2.edgeDram e m).edgeClocks m).edgePdreq m
  (c3.onPw fun p => { p with queue := c3.planQueue m (c.edgeKeeps e) }).edgePlls

end Sys2Proof.Machine
end

