-- ==== Sys2Proof/Machine/Edges.lean ====
section
/-! DEFINITION. Completing switches of power domains, and taking a mode edge without a request: what a domain loses
when it goes OFF (R217), forced edges and their precedence (R45, R46), and what every edge abandons. -/

namespace Sys2Proof.Machine

/-- What the Wharf keeps through DEEP_SLEEP: the straps, and what Tables 3.9 and 3.10 put into PD00 (R122). -/
def Wharf.slept (w : Wharf) : Wharf :=
  { Wharf.reset with
      i2c := w.i2c, i2cAddr := w.i2cAddr, evt := w.evt, evtEn := w.evtEn, failCount := w.failCount
      lockout := w.lockout, lastStep := w.lastStep }

/-- What the loader keeps through DEEP_SLEEP: the repair table in PD00 (R274) and the fuses; what the macros of the other
domains hold goes with those domains. -/
def Loader.slept (l : Loader) : Loader :=
  { Loader.reset with repairs := l.repairs, inMacros := l.inMacros, spared := l.spared, lane8Bad := l.lane8Bad, otp := l.otp }

/-- CKG_PLLx_STAT loses LOCK_US and keeps LOSS_COUNT, which is cleared at power-on reset only (Table 4.11). -/
def Chip.clearPllStat (c : Chip) : Chip :=
  [0, 1, 2, 3].foldl (fun (c : Chip) p => c.wr (pllF p CKG_PLLS_STAT_LOCK_US) 0) c

/-- What a block holds beyond its registers is lost when its domain goes OFF (R217). -/
def Chip.clearHidden (c : Chip) (d : Nat) : Chip :=
  match d with
  | 2 => ({ c with wh := c.wh.slept }.onCk fun k => { k with fmBusy := [false, false] }).clearPllStat
  | 7 => { c with mcA := { Channel.reset with resetN := c.mcA.resetN, cke := c.mcA.cke, srCells := c.mcA.srCells } }
  | 8 => { c with mcB := { Channel.reset with resetN := c.mcB.resetN, cke := c.mcB.cke, srCells := c.mcB.srCells } }
  | 11 => { c with mcx := MemShared.reset, locks := { c.locks with map := false } }
  | 12 => { c with ld := c.ld.slept }
  | 17 => { c with vin := VideoIn.reset, brg := Barge.reset }
  | 19 => { c with cam := { c.cam with vcs := Camera.reset.vcs } }
  | 20 => { c with cam := { c.cam with ctxs := Camera.reset.ctxs.take 4 ++ c.cam.ctxs.drop 4, lastCtx := 3 } }
  | 21 => { c with cam := { c.cam with ctxs := c.cam.ctxs.take 4 ++ Camera.reset.ctxs.drop 4 } }
  | 22 => { c with cam := { c.cam with ctxs := c.cam.ctxs.map fun x => { x with bank := [], tag := 0 } } }
  | 23 => { c with cam := { c.cam with sendQ := [], sending := [], direct := false, dropDirect := [], sent := [] } }
  | 26 => { c with cmp := { Compose.reset with job := c.cmp.job, flat := c.cmp.flat }, locks := { c.locks with safe := false } }
  | 36 => { c with cmp := { c.cmp with job := none, flat := Flatten.reset } }
  | 37 => { c with soA := ScanOut.reset, mcx := { c.mcx with tol := c.mcx.tol.set 0 0xFFFF } }
  | 38 => { c with soB := ScanOut.reset, mcx := { c.mcx with tol := c.mcx.tol.set 1 0xFFFF } }
  | 41 => { c with bps := BitPlane.reset, mcx := { c.mcx with tol := c.mcx.tol.set 2 0xFFFF } }
  | 43 => { c with bsc := Beam.reset, locks := { c.locks with maxv := false }, mcx := { c.mcx with tol := c.mcx.tol.set 3 0xFFFF } }
  | 45 => { c with ltd := Light.reset }
  | 48 => { c with twp := { Towpath.reset with
      pats := c.twp.pats, mxOut := c.twp.mxOut, mxSync := c.twp.mxSync, mxBusy := c.twp.mxBusy, mxNext := c.twp.mxNext
      mxWait := c.twp.mxWait, mxRow := c.twp.mxRow } }
  | 49 => { c with twp := { c.twp with
      pats := Towpath.reset.pats, mxOut := [], mxSync := false, mxBusy := false, mxNext := 0, mxWait := 0, mxRow := none } }
  | 51 => { c with tap := Tap.reset, locks := { c.locks with dbg := false } }
  | _ => c

/-- A domain arrives in a state: from OFF every register starts at its reset value, through RET values stay (R217). -/
def Chip.applySwitch (c : Chip) (x : Nat × PdState) : Chip :=
  let c1 := c.onPw fun p => { p with pd := p.pd.set x.1 x.2 }
  if x.2 = .off ∧ c.pdState x.1 ≠ .off then (c1.clearRegs (pdRanges x.1)).clearHidden x.1 else c1

/-- The precedence of a forced edge (R46): WAKE_FAIL over REFLOST over FREEZE; 0 for an edge that is not forced. -/
def edgeRank (e : Edge) : Nat :=
  match e with
  | .e13 => 3
  | .e12 => 2
  | .e10 => 1
  | _ => 0

/-- The precedence of the edge in progress: 0 when there is none or it was requested. -/
def Chip.rankNow (c : Chip) : Nat :=
  match c.mode.edge with
  | none => 0
  | some e => if c.mode.forced then edgeRank e else 0

/-- A MODE record for a cause that lost (R46, Table 17.6). -/
def Chip.lostCause (c : Chip) (cause : Nat) : Chip := c.logRecord 1 0 cause 0x100

/-- A request is under way: its edge is in progress, or it is in LOAD between E3 and E4 (R55). -/
def Chip.reqUnderWay (c : Chip) : Bool :=
  (c.mode.edge.isSome && !c.mode.forced) || (c.mode.edge.isNone && c.mode.mode == .load)

/-- The requested edge in progress is abandoned: its TAG is copied with ABANDONED = 1 (Table 1.9); a LOAD in
progress ends, and Mooring with it. -/
def Chip.abandonEdge (c : Chip) : Chip :=
  let tagged := c.reqUnderWay
  c.onMode fun m =>
    { m with tag := if tagged then m.reqTag else m.tag
             abandoned := if tagged then true else m.abandoned
             moorPhase := .none, moored := false }

/-- A LOAD that a forced edge cuts leaves no valid image, and PHASE = FAILED with ERR = 0 (Table 6.14). -/
def Chip.dropLoad (c : Chip) : Chip :=
  if c.mode.mode = .load ∧ c.ld.phase ≠ .done ∧ c.ld.phase ≠ .failed then
    ((c.onLd fun l => { l with phase := .failed }).wr LDR_STAT_ERR 0).onMode fun m => { m with imageValid := false }
  else c

/-- A forced edge is taken at once unless one of the same or higher precedence is in progress; then its cause is only
logged (R45, R46, Tables 1.10 and 18.5). -/
def Chip.forceEdge (c : Chip) (e : Edge) (m : Mode) (cause : Nat) : Chip :=
  if edgeRank e ≤ c.rankNow then c.lostCause cause
  else (c.abandonEdge.beginEdge e m).onMode fun x => { x with forced := true }

/-- The cause of an exit from self-refresh that starts (Table 7.11): 1 REQUEST, 2 TOLERANCE, 3 MODE, 4 SCRUB; one that has
started keeps its own. -/
def Chip.exitCause (c : Chip) (ch cause : Nat) : Chip :=
  if (c.mc ch).sluiceExit then c else c.wr (mcF ch MCA_SLUICE_STAT_LAST_EXIT) cause

/-- The channels leave self-refresh as a mode edge requires (R347, R589): PLL_M and PD04 come up when they were deep. -/
def Chip.wakeStart (c : Chip) : Chip :=
  let sleeping := [0, 1].filter fun ch => [mcShallow, mcDeep].contains (c.mcState ch)
  let c1 := sleeping.foldl (fun c ch => (c.exitCause ch 3).onMc ch fun m => { m with sluiceExit := true }) c
  if sleeping.isEmpty || (c.pll 1).on then c1 else (c1.applySwitch (4, .on)).startPll 1

/-- MOOR_STAT.CAUSE of each moored scan-out (Table 12.3): 3 HOST_EXIT, 4 SAFE_EXIT, 5 STOP_EXIT. -/
def Chip.moorCause (c : Chip) (cause : Nat) : Chip :=
  [0, 1].foldl
    (fun c so =>
      if c.rd (SOA_STAT_STATE.off (so * 0x10000)) = 2 then c.wr (SOA_MOOR_STAT_CAUSE.off (so * 0x10000)) cause else c) c

/-- Mooring exit starts (R589); one exit is enough. -/
def Chip.moorExit (c : Chip) (cause : Nat) : Chip :=
  if c.mode.moored && c.mode.moorPhase != .exiting then
    ((c.moorCause cause).wakeStart).onMode fun m => { m with moorPhase := .exiting }
  else c

/-- A change of the SAFE show output ends Mooring (R589). -/
def Chip.withSafe (c : Chip) (f : Chip → Chip) : Chip :=
  let c' := f c
  if c'.safeShow != c.safeShow then c'.moorExit 4 else c'

end Sys2Proof.Machine
end

