-- ==== Sys2Proof/Machine/Clocks.lean ====
section
/-! DEFINITION. The clock generator (chapter 4): XIN and its monitor, the IRC trim, PLL lock and the divider ramp, the
reaction to a reference fault (Table 4.6), the timebase and the frequency meters. Uses and gates are in Uses.lean. -/

namespace Sys2Proof.Machine

/-! ### The timebase -/

/-- The timebase moves on by a number of its 2^-24 ns units (R87). -/
def Chip.tbAdd (c : Chip) (k : Nat) : Chip := c.onCk fun x => { x with tb := (x.tb + k) % 2 ^ 88 }

/-- CKG_TB_IRC_INC in use. -/
def Chip.tbIrcInc (c : Chip) : Nat := c.rd CKG_TB_IRC_INC_INC

/-- The timebase moves to IRC: first it adds one increment for each IRC cycle since the last XIN edge (R204). -/
def Chip.tbToIrc (c : Chip) (since : Nat) : Chip :=
  if c.ck.tbOnIrc then c else (c.tbAdd (since * c.tbIrcInc)).onCk fun x => { x with tbOnIrc := true }

/-- The timebase moves to XIN (R203, R205). -/
def Chip.tbToXin (c : Chip) : Chip := c.onCk fun x => { x with tbOnIrc := false }

/-- One tick of the source the timebase runs on (R203). -/
def Chip.tbTick (c : Chip) : Chip := c.tbAdd (if c.ck.tbOnIrc then c.tbIrcInc else c.rd CKG_TB_INC_INC)

/-- TB_INC_WRITE (R88): 0 is ignored. -/
def execTbIncWrite (v : Word) (s : State) : Host.Outcome State Fault Refusal :=
  effect s fun c => c.guardReg 0x50C fun c => if v = 0 then c else c.setReg 0x50C v

/-- TB_IRC_INC_WRITE (R206): 0 is ignored. -/
def execTbIrcIncWrite (v : Word) (s : State) : Host.Outcome State Fault Refusal :=
  effect s fun c => c.guardReg 0x510 fun c => if v = 0 then c else c.setReg 0x510 v

/-- Capture the timebase (Table 4.9). -/
def Chip.tbSnap (c : Chip) : Chip :=
  (c.setReg 0x504 (BitVec.ofNat 32 c.now)).setReg 0x508 (BitVec.ofNat 32 (c.now / 2 ^ 32))

/-- TB_SNAP. -/
def execTbSnap (s : State) : Host.Outcome State Fault Refusal := effect s fun c => c.guardReg 0x500 Chip.tbSnap

/-! ### The IRC trim -/

/-- FTRIM moves by one step; at its limit it stays and CKG_ARITH counts stage 0x01 (R179). -/
def Chip.ftrimStep (c : Chip) (up : Bool) : Chip :=
  let f := toSigned 8 (c.rd CKG_IRC_TRIM_FTRIM)
  let f' := if up then f + 1 else f - 1
  if f' < -128 ∨ 127 < f' then c.saturate 0 1 1 else c.wr CKG_IRC_TRIM_FTRIM (ofSigned 8 f')

/-- R177: one count of IRC cycles over 1 ms of XIN time. -/
def Chip.trimXin (c : Chip) (count : Nat) : Chip :=
  if c.rd CKG_IRC_TRIM_SRC ≠ 1 ∨ c.flag CKG_IRC_TRIM_FREEZE = true ∨ c.ck.xinPresent = false then c
  else if 48006 < count then c.ftrimStep false
  else if count < 47994 then c.ftrimStep true
  else c

/-- IRC_TRIM_XIN_UPDATE (R177, R179, R180). -/
def execIrcTrimXinUpdate (count : Nat) (s : State) : Host.Outcome State Fault Refusal :=
  effect s fun c => c.trimXin count

/-- R178: one count of IRC cycles over a frame of the trim source `src` (2 video, 3 camera). -/
def Chip.trimFrame (c : Chip) (src count : Nat) : Chip :=
  let want := c.rd CKG_IRC_FRAME_NS_NS * 48
  let dev := if want ≤ count * 1000 then count * 1000 - want else want - count * 1000
  if c.rd CKG_IRC_TRIM_SRC ≠ src ∨ c.flag CKG_IRC_TRIM_FREEZE = true then c
  else if want < dev * 100 then c.bump CKG_IRC_TRIM_DISCARD 1
  else if want < dev * 8000 then c.ftrimStep (decide (count * 1000 < want))
  else c

/-! ### Reference faults (Table 4.6) -/

/-- The monitor records a fault: CAUSE and EVT; while Table 4.6 runs only an XIN fault replaces CAUSE (Table 4.14). -/
def Chip.monFault (c : Chip) (cause : Nat) : Chip :=
  let c1 := if c.ck.reflost && decide (3 < cause) then c else c.wr CKG_MON_STAT_CAUSE cause
  c1.wr CKG_MON_STAT_EVT 1

/-- SYS, TWP and the timebase move to IRC (Table 4.6). -/
def Chip.clocksToIrc (c : Chip) (since : Nat) : Chip :=
  ((c.onCk fun x => { x with sysOnIrc := true }).wr CKG_DOM_TWP_SRC 0).tbToIrc since

/-- DRAM contents that are not guaranteed: every byte written so far becomes a free value (R199). -/
def Chip.scrambleDram (c : Chip) (ch : Nat) : Chip :=
  let hit := c.dram.filter fun (p : Nat × Byte) => decide (chKeys ch ≤ p.1 ∧ p.1 < chKeys (ch + 1))
  ({ c with dram := hit.foldl (fun m (p : Nat × Byte) => SMap.set dramDefault m p.1 (Config.freeByte c.free p.1)) c.dram }).takeFree

/-- A running PLL freezes its loop; the faulty one is stopped with its domains (Table 4.6). -/
def Chip.holdover (c : Chip) (faulty : Option Nat) (p : Nat) : Chip :=
  if (c.pll p).on = false then c
  else if faulty = some p then c.stopPll p
  else c.onPll p fun x => { x with holdover := true, lock := false }

/-- The active channels enter self-refresh without draining: their bursts in flight finish, queued requests are abandoned
(Table 4.6). -/
def Chip.reflostSleep (c : Chip) (ch : Nat) : Chip :=
  if c.mcState ch = mcActive ∨ c.mcState ch = mcSweep then c.sleepChannel false mcShallow ch else c

/-- With PLL_M faulty a channel's bursts in flight are abandoned too, CKE is low and its contents are not guaranteed
(R199): it is OFF and needs an initialisation (Table 8.12). A frozen channel stays frozen (Table 4.14, R52). -/
def Chip.reflostLose (c : Chip) (ch : Nat) : Chip :=
  if c.mcState ch = mcOff then c
  else
    let c1 := ((c.scrambleDram ch).abandonInflight ch).onMc ch fun m => { m with cke := false, srCells := false }
    if c.mcState ch = mcFrozen then c1 else c1.wr (mcF ch MCA_STAT_STATE) mcOff

/-- What a reference fault does to DRAM (Table 4.6, R199). -/
def Chip.reflostDram (c : Chip) (faulty : Option Nat) : Chip :=
  let c1 := (c.reflostSleep 0).reflostSleep 1
  if faulty = some 1 then ((c1.reflostLose 0).reflostLose 1).wr CKG_MON_STAT_DRAM_LOST 1 else c1

/-- The sequence of Table 4.6 starts: light dark, holdover, SYS and the timebase on IRC, DRAM asleep, and the forced
edge to STANDBY. It runs once (R200). Under an edge of higher precedence, which has stopped every PLL, the cause is only
logged (R46). -/
def Chip.refFault (c : Chip) (cause : Nat) (faulty : Option Nat) (since : Nat) : Chip :=
  let c1 := c.monFault cause
  if c.ck.reflost then c1
  else if edgeRank .e12 < c.rankNow then (c1.tbToIrc since).lostCause causeReflost
  else
    let c2 := [0, 1, 2, 3].foldl (fun c p => c.holdover faulty p) (c1.onCk fun x => { x with reflost := true })
    (((c2.clocksToIrc since).srcAssert 10 cause).reflostDram faulty).forceEdge .e12 .standby causeReflost

/-- R201: an XIN fault in STANDBY while no PLL runs. -/
def Chip.standbyFault (c : Chip) (cause since : Nat) : Chip :=
  let c1 := c.monFault cause
  if c.mode.limp then c1
  else
    let c2 := ((c1.clocksToIrc since).srcAssert 10 cause).srcRelease 10
    ((c2.onMode fun m => { m with limp := true, cause := causeReflost }).evt evMode).evt evClk

/-- Some PLL runs. -/
def Chip.anyPll (c : Chip) : Bool := c.ck.plls.any fun p => p.on

/-- An XIN fault: XIN is no longer present, and the reaction the mode asks for (R198, R201). During E1 only the timebase
moves to IRC (R203, R204): E1 ends in STANDBY-LIMP (R175). -/
def Chip.xinFault (c : Chip) (cause since : Nat) : Chip :=
  let c1 := (c.onCk fun x => { x with xinPresent := false, inWindowUs := 0 }).wr CKG_MON_STAT_XIN_OK 0
  if c.mode.mode = .deepSleep then (c1.monFault cause).tbToIrc since
  else if c.mode.mode = .standby ∧ c.anyPll = false then c1.standbyFault cause since
  else c1.refFault cause none since

/-- The XIN checks are armed and enabled (R174, CKG_MON_CTL.XCHK). -/
def Chip.xinWatched (c : Chip) : Bool := c.ck.xinArmed && c.ck.monCtl.toNat % 2 == 1

/-- XIN_STOP (R194): no XIN edge for 24 IRC cycles. -/
def execXinStop (s : State) : Host.Outcome State Fault Refusal :=
  effect s fun c => if c.xinWatched then c.xinFault 1 24 else c

/-- GLITCH_LIM in force. -/
def Chip.glitchLim (c : Chip) : Nat := max 1 (CKG_MON_CTL_GLITCH_LIM.get c.ck.monCtl)

/-- A short XIN phase: counted (R196), and a fault when it reaches GLITCH_LIM within the gate. -/
def Chip.xinGlitch (c : Chip) (since : Nat) : Chip :=
  if !c.xinWatched then c
  else
    let c1 := (c.bump CKG_MON_GLITCH_GLITCH 1).onCk fun x => { x with glitches := x.glitches + 1 }
    if c1.ck.glitches = c1.glitchLim then c1.xinFault 2 since else c1

/-- XIN_GLITCH (R194, R196). -/
def execXinGlitch (since : Nat) (s : State) : Host.Outcome State Fault Refusal := effect s fun c => c.xinGlitch since

/-- CKG_XIN_CFG.NOM_KHZ as it behaves (Table 4.10). -/
def Chip.nomKhz (c : Chip) : Nat :=
  let n := c.rd CKG_XIN_CFG_NOM_KHZ
  if n < 12000 ∨ 50000 < n then 24000 else n

/-- GATE_US in force: values below 4 behave as 4. -/
def Chip.gateUs (c : Chip) : Nat := max 4 (CKG_MON_CTL_GATE_US.get c.ck.monCtl)

/-- WIN in force, units of 0.5 %: values outside 3-10 behave as 4. -/
def Chip.monWin (c : Chip) : Nat :=
  let w := CKG_MON_CTL_WIN.get c.ck.monCtl
  if w < 3 ∨ 10 < w then 4 else w

/-- The distance of two numbers. -/
def absDiff (a b : Nat) : Nat := if a ≤ b then b - a else a - b

/-- The XIN edges of one gate are in window (Table 4.5). -/
def Chip.inWindow (c : Chip) (edges : Nat) : Bool :=
  let want := c.nomKhz * c.gateUs
  decide (absDiff (edges * 1000) want * 200 ≤ want * c.monWin)

/-- The count of PLL `p`'s output divided by 16 over one gate lies outside 3 % of its programmed f_out (Table 4.5);
f_out in kHz is NOM_KHZ / REFDIV × (FBDIV + FRAC / 2^24) / ODIV (R161). -/
def Chip.rateBad (c : Chip) (p count : Nat) : Bool :=
  let x := c.pll p
  let fbFrac := x.fbdiv * 2 ^ 24 + x.frac
  let want := c.nomKhz * fbFrac * c.gateUs
  let got := count * 16 * 1000 * 2 ^ 24 * x.refdiv * (x.odiv + 1)
  decide (want * 3 < absDiff got want * 100)

/-- The checks of PLL `p` are armed. -/
def Chip.pllChecked (c : Chip) (p : Nat) : Bool := (CKG_MON_CTL_PLLCHK.get c.ck.monCtl).testBit p

/-- The XIN half of a gate's end: window, presence, glitch count. XIN that becomes present in E1 takes the timebase
(R205). -/
def Chip.gateXin (c : Chip) (edges since : Nat) : Chip :=
  if !c.xinWatched then c
  else if c.inWindow edges then
    let c1 := c.onCk fun x => { x with inWindowUs := min 1000 (x.inWindowUs + c.gateUs) }
    if c.ck.glitches = 0 ∧ c.ck.xinPresent = false then
      let c2 := (c1.onCk fun x => { x with xinPresent := true }).wr CKG_MON_STAT_XIN_OK 1
      if c.mode.mode = .deepSleep then c2.tbToXin else c2
    else c1
  else c.xinFault 3 since

/-- The PLL half: the first running PLL in lock whose rate is off is a reference fault. -/
def Chip.gatePlls (c : Chip) (rates : List Nat) (since : Nat) : Chip :=
  match [0, 1, 2, 3].find? fun p =>
      (c.pll p).on && (c.pll p).held && c.pllChecked p && c.rateBad p (rates.getD p 0) with
  | some p => c.refFault (4 + p) (some p) since
  | none => c

/-- The end of a gate: what is judged is judged, then the next gate starts under the thresholds written (R214). -/
def Chip.monGate (c : Chip) (edges : Nat) (rates : List Nat) (since : Nat) : Chip :=
  let c1 := (c.gateXin edges since).gatePlls rates since
  c1.onCk fun x => { x with glitches := 0, monCtl := c1.get 0x400 }

/-- MON_GATE_END (R194): the XIN edges counted, per PLL the edges of its output divided by 16, and the IRC cycles since
the last XIN edge. -/
def execMonGateEnd (edges : Nat) (rates : List Nat) (since : Nat) (s : State) : Host.Outcome State Fault Refusal :=
  effect s fun c => c.monGate edges rates since

/-- IRC_ACTIVITY_FAULT (R202): light dark until power-on reset; nothing reports it. -/
def execIrcActivityFault (s : State) : Host.Outcome State Fault Refusal :=
  effect s fun c => c.onCk fun x => { x with ircDead := true }

/-- REF_HOLDOVER_END (R200, Table 4.6): every PLL powers down. -/
def execRefHoldoverEnd (s : State) : Host.Outcome State Fault Refusal :=
  effect s fun c => if c.ck.reflost then [0, 1, 2, 3].foldl Chip.stopPll c else c

/-- Writing CKG_MON_STAT.EVT = 1 (Table 4.13). -/
def Chip.monClear (c : Chip) : Chip :=
  (((c.wr CKG_MON_STAT_CAUSE 0).wr CKG_MON_STAT_DRAM_LOST 0).wr CKG_MON_STAT_EVT 0).wr CKG_MON_GLITCH_GLITCH 0

/-- MON_EVT_CLEAR. -/
def execMonEvtClear (s : State) : Host.Outcome State Fault Refusal := effect s fun c => c.guardReg 0x408 Chip.monClear

/-- XIN_DELAY_EXPIRE (R174): after the last regulator step of E1, the XIN checks are armed. -/
def execXinDelayExpire (s : State) : Host.Outcome State Fault Refusal :=
  effect s fun c =>
    if c.mode.edge = some .e1 ∧ c.pw.step = none then
      c.onCk fun x => { x with xinArmed := true, inWindowUs := 0, glitches := 0, monCtl := c.get 0x400 }
    else c

/-! ### PLLs -/

/-- PLL_LOCK (R181): the PLL is locked, `us` microseconds after its start. -/
def Chip.pllLock (c : Chip) (p us : Nat) : Chip :=
  let x := c.pll p
  if p < 4 ∧ x.on = true ∧ x.lock = false ∧ x.holdover = false then
    (c.onPll p fun x => { x with lock := true, held := false }).wr (pllF p CKG_PLLS_STAT_LOCK_US) (min us 0xFFFF)
  else c

def execPllLock (pll us : Nat) (s : State) : Host.Outcome State Fault Refusal := effect s fun c => c.pllLock pll us

/-- The next place down the ladder toward a target (R185). -/
def ladderDown (now target : Nat) : Nat := max target ((ladder.reverse.find? fun d => d < now).getD 2)

/-- A child domain when its PLL has held lock: a child at ÷16 takes one step, a held child starts at its target; SYS
leaves IRC at ÷16 or, with target 12, at its target (R185). -/
def Chip.rampStart (c : Chip) (n : Nat) : Chip :=
  let t := c.targetDiv n
  if n = 5 then
    if c.flag CKG_DOM_SYS_SRC then (c.setDiv 5 (if t = 12 then 12 else 16)).onCk fun x => { x with sysOnIrc := false }
    else c
  else if c.divNow n = 16 ∧ t < 16 then c.setDiv n (ladderDown 16 t)
  else if c.divNow n = 0 then c.setDiv n t
  else c

/-- DRAM of every channel is in reset or self-refresh (R187). -/
def Chip.dramQuiet (c : Chip) : Bool :=
  [0, 1].all fun ch => !([mcActive, mcSweep, mcInit].contains (c.mcState ch))

/-- R184, R185, R187: lock has held for LOCK_HOLD. -/
def Chip.lockHold (c : Chip) (p : Nat) : Chip :=
  let x := c.pll p
  if p < 4 ∧ x.on = true ∧ x.lock = true ∧ x.held = false then
    let c1 := c.onPll p fun x => { x with held := true }
    if p = 1 then if c.dramQuiet then (c1.setDiv 6 4).setDiv 7 2 else c1
    else (pllChildren p).foldl Chip.rampStart c1
  else c

/-- PLL_LOCK_HOLD_EXPIRE. -/
def execPllLockHoldExpire (pll : Nat) (s : State) : Host.Outcome State Fault Refusal :=
  effect s fun c => c.lockHold pll

/-- The PLL that feeds a domain. -/
def pllOfDom (n : Nat) : Option Nat := [0, 1, 2, 3].find? fun p => (pllChildren p).contains n

/-- The domain ramps: it runs above its target divider behind a PLL that has held lock. -/
def Chip.ramping (c : Chip) (n : Nat) : Bool :=
  match pllOfDom n with
  | some p => (c.pll p).held && p != 1 && decide (c.targetDiv n < c.divNow n) && !(n == 5 && c.ck.sysOnIrc)
  | none => false

/-- DIVIDER_RAMP_STEP (R185, R186, R189): every ramping domain steps one place. -/
def execDividerRampStep (s : State) : Host.Outcome State Fault Refusal :=
  effect s fun c =>
    ((List.range 26).filter fun n => 0 < n && c.ramping n).foldl
      (fun c n => c.setDiv n (ladderDown (c.divNow n) (c.targetDiv n))) c

/-- PLL_LOCK_TIMEOUT (R188): treated as a loss of reference with CAUSE = LOCK_TMO. -/
def execPllLockTimeout (pll since : Nat) (s : State) : Host.Outcome State Fault Refusal :=
  effect s fun c =>
    if pll < 4 ∧ (c.pll pll).on = true ∧ (c.pll pll).lock = false ∧ (c.pll pll).holdover = false then
      (c.stopPll pll).refFault 8 none since
    else c

/-- R181, R184, R198: a PLL loses lock. Before LOCK_HOLD has passed that only restarts the count: LOCK_HOLD begins again
at the next lock. -/
def Chip.lockLoss (c : Chip) (p since : Nat) : Chip :=
  let x := c.pll p
  if p < 4 ∧ x.on = true ∧ x.lock = true ∧ x.held = false then c.onPll p fun x => { x with lock := false }
  else if p < 4 ∧ x.on = true ∧ x.lock = true ∧ x.held = true then
    let c1 := (c.onPll p fun x => { x with lock := false, held := false }).bump (pllF p CKG_PLLS_STAT_LOSS_COUNT) 1
    if c.pllChecked p then c1.refFault (4 + p) (some p) since else c1
  else c

/-- PLL_LOCK_LOSS. -/
def execPllLockLoss (pll since : Nat) (s : State) : Host.Outcome State Fault Refusal :=
  effect s fun c => c.lockLoss pll since

/-- PLLV_FRAC_WRITE (R191): in effect at once while PLL_V runs. -/
def Chip.pllvFrac (c : Chip) (v : Word) : Chip :=
  let c1 := c.wr CKG_PLLV_FRAC_FRAC (CKG_PLLV_FRAC_FRAC.get v)
  if (c.pll 2).on then c1.onPll 2 fun x => { x with frac := CKG_PLLV_FRAC_FRAC.get v } else c1

def execPllvFracWrite (v : Word) (s : State) : Host.Outcome State Fault Refusal :=
  effect s fun c => c.guardReg 0x34 fun c => c.pllvFrac v

/-- Hardware tracking of PLL_V by `ppm` (R192, R193): at most RANGE × 100 ppm (values above 250 behave as 250); the
flag says that the cap limited it, which counts one saturation with stage 0x02. -/
def Chip.pllvTrack (c : Chip) (ppm : Int) : Chip × Bool :=
  let cap : Int := (min 250 (c.rd CKG_PLLV_TRACK_RANGE) * 100 : Nat)
  let u := min (max ppm (-cap)) cap
  let c1 := c.wr CKG_PLLV_TRACK_OFFSET (ofSigned 16 u)
  if u = ppm then (c1, false) else (c1.saturate 0 2 1, true)

/-! ### Frequency meters -/

/-- Meter `m`'s field, given that of meter 0. -/
def fmF (m : Nat) (f : Field) : Field := f.off (0x10 * m)

/-- Writing CKG_FMc_CTL: TGT and REF, and with START a measurement begins or begins again (R207, R209). -/
def Chip.fmWrite (c : Chip) (m : Nat) (v : Word) : Chip :=
  let c1 := (c.wr (fmF m CKG_FM0_CTL_TGT) (CKG_FM0_CTL_TGT.get v)).wr (fmF m CKG_FM0_CTL_REF) (CKG_FM0_CTL_REF.get v)
  if CKG_FM0_CTL_START.get v = 1 then
    ((((c1.wr (fmF m CKG_FM0_COUNT_COUNT) 0).wr (fmF m CKG_FM0_CTL_DONE) 0).wr (fmF m CKG_FM0_CTL_TMO) 0).wr
      (fmF m CKG_FM0_CTL_BUSY) 1).onCk fun x => { x with fmBusy := x.fmBusy.set m true }
  else c1

/-- FM_START. -/
def execFmStart (meter : Nat) (v : Word) (s : State) : Host.Outcome State Fault Refusal :=
  effect s fun c => if meter < 2 then c.guardReg (0x300 + 0x10 * meter) fun c => c.fmWrite meter v else c

/-- A measurement ends with the edges counted; `tmo`: its reference showed no edge for 100 µs (R207, R208). -/
def Chip.fmEnd (c : Chip) (m count : Nat) (tmo : Bool) : Chip :=
  if c.ck.fmBusy.getD m false then
    ((((c.wr (fmF m CKG_FM0_COUNT_COUNT) count).wr (fmF m CKG_FM0_CTL_DONE) 1).wr (fmF m CKG_FM0_CTL_TMO)
      (b2n tmo)).wr (fmF m CKG_FM0_CTL_BUSY) 0).onCk fun x => { x with fmBusy := x.fmBusy.set m false }
  else c

/-- FM_GATE_END. -/
def execFmGateEnd (meter count : Nat) (s : State) : Host.Outcome State Fault Refusal :=
  effect s fun c => c.fmEnd meter count false

/-- FM_TIMEOUT. -/
def execFmTimeout (meter count : Nat) (s : State) : Host.Outcome State Fault Refusal :=
  effect s fun c => c.fmEnd meter count true

end Sys2Proof.Machine
end

