-- ==== Sys2Proof/Machine/Power.lean ====
section
/-! DEFINITION. The power sequencer (chapter 5): wake triggers and the regulator steps of E1, failures and E13, the
regulator back-out of E2 and E13, and the unlock. PWR_PDREQ writes are in Uses.lean, domain switches in Pins.lean. -/

namespace Sys2Proof.Machine

/-- A register of the sequencer's settings in force for the edge: 0 PWR_SEQ_CTL, 1 + n PWR_REG_CFGn (R267). -/
def Chip.seqCfg (c : Chip) (i : Nat) : Word := c.pw.cfg.getD i 0

/-- Regulator `n` is used in the edge. -/
def Chip.regUsed (c : Chip) (n : Nat) : Bool := (PWR_REG_CFG_USED.get (c.seqCfg (n + 1))) == 1

/-- Regulator `n`'s power-good is ignored in the edge. -/
def Chip.regNopg (c : Chip) (n : Nat) : Bool := (PWR_REG_CFG_NOPG.get (c.seqCfg (n + 1))) == 1

/-- Regulator `n` is started: PWR_ENn rises (R236). -/
def Chip.startStep (c : Chip) (n : Nat) : Chip :=
  c.onPw fun p => { p with en := p.en.set n true, step := some n }

/-- At the cold start the IRC trim and the repair table are copied from OTP (R248); what the factory programmed there is
not in the spec: a free value and an opaque table. -/
def Chip.coldCopy (c : Chip) : Chip :=
  if c.pw.ircTrimmed then c
  else
    ((c.onPw fun p => { p with ircTrimmed := true, ircTrim := BitVec.ofNat 32 (Config.freeNat c.free) }).onLd fun l =>
      { l with repairs := Config.factoryRepairs.map fun r => ⟨r.1, r.2.1, r.2.2⟩ }).takeFree

/-- The last regulator step has completed: at the cold start PD50 is switched ON, OTP copied and PD50 switched OFF again
(R248); then the domains go to their STANDBY state (Table 5.3). -/
def Chip.stepsEnd (c : Chip) : Chip :=
  let c1 := if c.mode.cold then ((c.applySwitch (50, .on)).coldCopy).applySwitch (50, .off) else c
  c1.onPw fun p => { p with step := none, queue := c1.planSwitches .standby }

/-- The next used regulator from `n` on is started, or the steps end. -/
def Chip.nextStep (c : Chip) (n : Nat) : Chip :=
  match ((List.range 4).filter fun m => n ≤ m).find? fun m => c.regUsed m with
  | some m => c.startStep m
  | none => c.stepsEnd

/-- E1 starts (R245, R247, Table 5.3): the source is recorded and the first used regulator started. -/
def Chip.startWake (c : Chip) (src : Nat) (cold : Bool) : Chip :=
  let c1 := (c.wr PWR_WAKE_STAT_SRC src).takeSeqCfg
  let c2 := c1.onMode fun m =>
    { m with edge := some .e1, target := .standby, forced := true, cold := cold, wakeDeferred := none }
  (c2.onPw fun p => { p with stepsDone := [false, false, false, false], backout := false, queue := [] }).nextStep 0

/-- A wake source is armed by PWR_SEQ_CTL as the last edge took it (R245, R267). -/
def Chip.wakeArmed (c : Chip) (src : Nat) : Bool :=
  if src = 1 then PWR_SEQ_CTL_WAKE_WHF.get (c.seqCfg 0) == 1 else PWR_SEQ_CTL_WAKE_CAL.get (c.seqCfg 0) == 1

/-- A wake trigger (R245, R246, R257): 1 Wharf activity, 2 the calendar alarm. -/
def Chip.wakeTrigger (c : Chip) (src : Nat) : Chip :=
  if !c.wakeArmed src then c
  else if c.mode.edge = some .e2 then c.onMode fun m => { m with wakeDeferred := some src }
  else if c.mode.mode = .deepSleep ∧ c.mode.edge = none then
    if c.wh.lockout then (c.wr PWR_WAKE_STAT_IGNORED 1).onMode fun m => { m with refuse := 5 }
    else c.startWake src false
  else c

/-- WAKE_TRIGGER (R43): Wharf activity in DEEP_SLEEP; the transaction is discarded. -/
def execWakeTrigger (s : State) : Host.Outcome State Fault Refusal := effect s fun c => c.wakeTrigger 1

/-- The highest regulator enable that is high goes low (R241). -/
def Chip.lowerEn (c : Chip) : Chip :=
  match [3, 2, 1, 0].find? fun n => c.pw.en.getD n false with
  | some n => c.onPw fun p => { p with en := p.en.set n false, pg := p.pg.set n false, backout := true }
  | none => c.onPw fun p => { p with backout := true }

/-- Every regulator enable is low. -/
def Chip.lowerAll (c : Chip) : Chip :=
  c.onPw fun p => { p with en := [false, false, false, false], pg := [false, false, false, false], backout := false }

/-- The edge in progress ends in DEEP_SLEEP. -/
def Chip.sleeping (c : Chip) : Bool := c.mode.edge == some .e2 || c.mode.edge == some .e13

/-- Once every domain has switched, E2 and E13 back out of the regulators. -/
def Chip.backoutIfDone (c : Chip) : Chip :=
  if c.sleeping && c.pw.queue.isEmpty && !c.pw.backout then c.lowerEn else c

/-- A regulator failure (Table 5.5): recorded, light dark, flash stopped (R296), PLLs and DRAM down without
self-refresh, and E13. -/
def Chip.wakeFail (c : Chip) (kind n time : Nat) : Chip :=
  if c.mode.edge = some .e13 then c
  else
    let c1 := ((c.wr PWR_WAKE_STAT_FAIL_KIND kind).wr PWR_WAKE_STAT_FAIL_STEP n).wr PWR_WAKE_STAT_FAIL_TIME
      (min time 0xFFFF)
    let c2 := (c1.logRecord 1 0 causeWakeFail c.mode.mode.code).ledgerFlush
    let c3 := (c2.forceEdge .e13 .deepSleep causeWakeFail).onLk fun k => { k with e13Dark := true }
    let c4 := (([0, 1, 2, 3].foldl Chip.stopPll c3).resetDram 0).resetDram 1
    ((c4.onCk fun k => { k with reflost := false }).onPw fun p => { p with step := none }).backoutIfDone

/-- REG_STEP_COMPLETE (R236): PWR_PGn has been high for PG_FILT. -/
def Chip.stepDone (c : Chip) (n : Nat) : Chip :=
  (c.onPw fun p => { p with stepsDone := p.stepsDone.set n true, pg := p.pg.set n true }).nextStep (n + 1)

def execRegStepComplete (s : State) : Host.Outcome State Fault Refusal :=
  effect s fun c =>
    match c.pw.step with
    | some n => if c.mode.edge = some .e1 ∧ c.regNopg n = false then c.stepDone n else c
    | none => c

/-- REG_STEP_FIXED_EXPIRE (R238): with NOPG = 1 the step completes FIXED_MS after its enable rose. -/
def execRegStepFixedExpire (s : State) : Host.Outcome State Fault Refusal :=
  effect s fun c =>
    match c.pw.step with
    | some n =>
      if c.mode.edge = some .e1 ∧ c.regNopg n = true then
        (c.onPw fun p => { p with stepsDone := p.stepsDone.set n true }).nextStep (n + 1)
      else c
    | none => c

/-- REG_STEP_TIMEOUT (R237): `time` in units of 100 µs since PWR_ENn rose. -/
def execRegStepTimeout (time : Nat) (s : State) : Host.Outcome State Fault Refusal :=
  effect s fun c =>
    match c.pw.step with
    | some n => if c.mode.edge = some .e1 ∧ c.regNopg n = false then c.wakeFail 1 n time else c
    | none => c

/-- A power-good loss of regulator `n` counts as a failure now (R240, R242). -/
def Chip.pgMatters (c : Chip) (n : Nat) : Bool :=
  c.regUsed n && !c.regNopg n && c.pw.en.getD n false && !c.pw.backout
    && (c.mode.mode != .deepSleep || (c.mode.edge == some .e1 && c.pw.stepsDone.getD n false))

/-- PG_LOST (R240): `time` in units of 100 µs since the step completed. -/
def execPgLost (reg time : Nat) (s : State) : Host.Outcome State Fault Refusal :=
  effect s fun c =>
    let c1 := c.onPw fun p => { p with pg := p.pg.set reg false }
    if c.pgMatters reg then c1.wakeFail 2 reg time else c1

/-- BACKOUT_DWELL_EXPIRE (R241): after OFF_DWELL the next enable goes low. -/
def execBackoutDwellExpire (s : State) : Host.Outcome State Fault Refusal :=
  effect s fun c => if c.pw.backout then c.lowerEn else c

/-- WAKE_UNLOCK (R259, R260): 0x5A5A clears FAIL_COUNT, LOCKOUT and IGNORED and starts no wake; without a lockout only
FAIL_COUNT changes (Table 5.10). DESIGN CHOICE (log entry 94): WH_MODE_STATE.REFUSE keeps REFUSED_WAKELOCK until the next
request or trigger writes it; R51 does not say what it returns to. -/
def Chip.wakeUnlock (c : Chip) (v : Half) : Chip :=
  if v ≠ 0x5A5A#16 then c
  else
    let c1 := { c with wh := { c.wh with failCount := 0, lockout := false } }
    if c.wh.lockout then c1.wr PWR_WAKE_STAT_IGNORED 0 else c1

/-- The write in DEEP_SLEEP without a lockout is a trigger like any other transaction (R43); otherwise the unlock, where
the port answers (R133) or the wake detector decodes it. -/
def execWakeUnlock (v : Half) (s : State) : Host.Outcome State Fault Refusal :=
  effect s fun c =>
    if c.mode.mode = .deepSleep ∧ c.wh.lockout = false then c.wakeTrigger 1 else c.ifDrained fun c => c.wakeUnlock v

end Sys2Proof.Machine
end

