-- ==== Sys2Proof/Machine/Lock.lean ====
section
/-! DEFINITION. The Lockkeeper's commands (chapter 17): interlock pins, latches, arming, the thermal sensor, the pin
check, the event log, the calendar and the lamp hours. -/

namespace Sys2Proof.Machine

/-- A level source's condition begins, SAFE show judged (R589). -/
def Chip.srcOn (c : Chip) (n data : Nat) : Chip := c.withSafe fun c => c.srcAssert n data

/-- A level source's condition ends. -/
def Chip.srcOff (c : Chip) (n : Nat) : Chip := c.withSafe fun c => c.srcRelease n

/-- LK_IN_ASSERT (R723): the pin has been active for FILT. -/
def execLkInAssert (pin : Nat) (s : State) : Host.Outcome State Fault Refusal :=
  effect s fun c => if pin < 4 then c.srcOn pin 0 else c

/-- LK_IN_RELEASE (R726): the pin has been inactive for FILT. -/
def execLkInRelease (pin : Nat) (s : State) : Host.Outcome State Fault Refusal :=
  effect s fun c => if pin < 4 then c.srcOff pin else c

/-- EVENT_SOURCE_EXPIRE (R720): 100 ms after its last event an event source is no longer active. -/
def execEventSourceExpire (source : Nat) (s : State) : Host.Outcome State Fault Refusal :=
  effect s fun c => if source < 15 ∧ srcLevel source = false then c.withSafe fun c => c.srcDeactivate source else c

/-- Clear one latch when its source is not active, with a RELEASE record (R725, R726); the pins of a pin check are then
taken as repaired. -/
def Chip.clearLatch (c : Chip) (n : Nat) : Chip :=
  if c.bit LKK_LATCHED_L n && !c.bit LKK_ACTIVE_A n then
    let c1 := (c.setBit LKK_LATCHED_L n false).lkRecord 3 (8 * b2n (c.bit LKK_ARMED_ARMED n)) n 1
    if n = 14 then c1.onLk fun k => { k with pinStuck := 0 } else c1
  else c

/-- LATCH_CLEAR: a write of LKK_LATCHED. -/
def Chip.latchClear (c : Chip) (v : Word) : Chip :=
  c.withSafe fun c => ((List.range 15).filter fun n => v.getLsbD n).foldl Chip.clearLatch c

def execLatchClear (v : Word) (s : State) : Host.Outcome State Fault Refusal :=
  effect s fun c => c.guardReg 0x2C000C fun c => c.latchClear v

/-- LKK_ARM (R727): the sources written 1 are armed until reset, with one ARM record. -/
def Chip.arm (c : Chip) (v : Word) : Chip :=
  let bits := v.toNat % 2 ^ 15
  if bits = 0 then c
  else (c.wr LKK_ARMED_ARMED (Nat.lor (c.rd LKK_ARMED_ARMED) bits)).lkRecord 10 0 bits 0

def execLkkArm (v : Word) (s : State) : Host.Outcome State Fault Refusal :=
  effect s fun c => c.guardReg 0x2C0010 fun c => c.arm v

/-- HOST_KILL (R722): LKK_CTL.HOST_KILL is source 13. -/
def Chip.hostKill (c : Chip) (on : Bool) : Chip :=
  let c1 := c.wr LKK_CTL_HOST_KILL (b2n on)
  if on then (if c.flag LKK_CTL_HOST_KILL then c1 else c1.srcOn 13 0)
  else if c.flag LKK_CTL_HOST_KILL then c1.srcOff 13 else c1

def execHostKill (on : Bool) (s : State) : Host.Outcome State Fault Refusal :=
  effect s fun c => c.guardReg 0x2C0000 fun c => c.hostKill on

/-- SAFE_FORCE (R728). -/
def Chip.safeForce (c : Chip) (on : Bool) : Chip := c.withSafe fun c => c.wr LKK_CTL_SAFE_FORCE (b2n on)

def execSafeForce (on : Bool) (s : State) : Host.Outcome State Fault Refusal :=
  effect s fun c => c.guardReg 0x2C0000 fun c => c.safeForce on

/-- THERM_SAMPLE (R721, Table 17.2): a temperature S8.8; asserted from the second sample in a row at or above THERM_HI,
released below THERM_LO. -/
def Chip.thermSample (c : Chip) (temp : Nat) : Chip :=
  let t := toSigned 16 temp
  let run := if toSigned 16 (c.rd LKK_THERM_THERM_HI) ≤ t then min 2 (c.lk.thermRun + 1) else 0
  let c1 := (c.wr LKK_TEMP_T temp).onLk fun k => { k with thermRun := run }
  if run = 2 ∧ c.lk.asserted.testBit 11 = false then c1.srcOn 11 (temp % 65536)
  else if t < toSigned 16 (c.rd LKK_THERM_THERM_LO) ∧ c.lk.asserted.testBit 11 = true then c1.srcOff 11
  else c1

def execThermSample (temp : Nat) (s : State) : Host.Outcome State Fault Refusal :=
  effect s fun c => c.thermSample temp

/-- PIN_CHECK_MISMATCH (R730): a kill pin has differed from the command for 2 µs. Bits 0-1 of pinStuck: pin 0, 1 found
high; bits 2-3: found low. -/
def execPinCheckMismatch (pin : Nat) (s : State) : Host.Outcome State Fault Refusal :=
  effect s fun c =>
    if pin < 2 then
      (c.onLk fun k => { k with pinStuck := withBit k.pinStuck (pin + 2 * b2n c.lightEn) true }).withSafe
        fun c => c.srcActivate 14 0
    else c

/-! ### The event log -/

/-- LOG_RECORD (R731): the oldest record on its way reaches the Lockkeeper. -/
def Chip.logArrive (c : Chip) : Chip :=
  match c.lk.queue with
  | [] => c
  | r :: rest => (c.onLk fun k => { k with queue := rest }).storeRec r

def execLogRecord (s : State) : Host.Outcome State Fault Refusal := effect s Chip.logArrive

/-- LOG_CLEAR (R735). A loss before it still marks the next record stored (R734). -/
def Chip.logClear (c : Chip) : Chip :=
  (((c.wr LKK_LOG_STAT_WR 0).wr LKK_LOG_STAT_COUNT 0).wr LKK_LOG_CNT_LOST 0).wr LKK_LOG_CNT_Q_LOST 0

def execLogClear (s : State) : Host.Outcome State Fault Refusal := effect s fun c => c.guardReg 0x2C0000 Chip.logClear

/-- The four words of a record (Table 17.5). -/
def recWord (r : LogRec) (i : Nat) : Word :=
  match i with
  | 0 => BitVec.ofNat 32 r.ts
  | 1 => BitVec.ofNat 32 (r.ts / 2 ^ 32 % 65536 + r.seq % 65536 * 65536)
  | 2 => BitVec.ofNat 32 (r.type % 256 + r.flags % 256 * 256 + r.unit % 65536 * 65536)
  | _ => BitVec.ofNat 32 r.data

/-- LOG_IDX_WRITE (R736): the slot's record is copied into LKK_LOG_DATA0-3. -/
def Chip.logIdx (c : Chip) (v : Word) : Chip :=
  let slot := v.toNat % 256
  let r := SMap.get (fun _ => LogRec.zero) c.lk.slots slot
  [0, 1, 2, 3].foldl (fun c i => c.setReg (0x2C0090 + 4 * i) (recWord r i)) (c.wr LKK_LOG_IDX_SLOT slot)

def execLogIdxWrite (v : Word) (s : State) : Host.Outcome State Fault Refusal :=
  effect s fun c => c.guardReg 0x2C0088 fun c => c.logIdx v

/-- LOG_HOST_MARKER: a HOST record (Table 17.6). -/
def Chip.hostMarker (c : Chip) (v : Word) : Chip := c.logRecord 9 0 (v.toNat % 65536) 0

def execLogHostMarker (v : Word) (s : State) : Host.Outcome State Fault Refusal :=
  effect s fun c => c.guardReg 0x2C008C fun c => c.hostMarker v

/-! ### The calendar -/

/-- What CAL_MIN reads (R742). -/
def Chip.calMinNow (c : Chip) : Nat := if c.flag LKK_CAL_CTL_CAL_VALID then c.lk.calMin % 2 ^ 32 else 0xFFFFFFFF

/-- A CAL record (Table 17.6): UNIT 0 SET, 1 REJECTED, 2 WRAP, 3 ALARM, 4 TRIM. -/
def Chip.calRecord (c : Chip) (unit data : Nat) : Chip := c.lkRecord 8 0 unit data

/-- A date and time of the calendar. -/
structure CalTime where
  year : Nat
  month : Nat
  day : Nat
  hour : Nat
  minute : Nat
  second : Nat
deriving DecidableEq, Repr

/-- Read a time word and a date word in BCD; none when the set is impossible (R738). -/
def readBcd (time date : Word) : Option CalTime :=
  let t := time.toNat
  let d := date.toNat
  let sec := bcdByte (t % 128)
  let min := bcdByte (t / 2 ^ 8 % 128)
  let hour := bcdByte (t / 2 ^ 16 % 64)
  let day := bcdByte (d % 64)
  let month := bcdByte (d / 2 ^ 8 % 32)
  let yLo := bcdByte (d / 2 ^ 16 % 256)
  let yHi := bcdByte (d / 2 ^ 24 % 256)
  let year := yHi.1 * 100 + yLo.1
  let digits := sec.2 && min.2 && hour.2 && day.2 && month.2 && yLo.2 && yHi.2
  if digits = true ∧ sec.1 ≤ 59 ∧ min.1 ≤ 59 ∧ hour.1 ≤ 23 ∧ 1 ≤ month.1 ∧ month.1 ≤ 12 ∧ 1 ≤ day.1
      ∧ 2000 ≤ year ∧ year ≤ 2199 ∧ day.1 ≤ monthDays year month.1 then
    some ⟨year, month.1, day.1, hour.1, min.1, sec.1⟩
  else none

/-- The calendar in the Lockkeeper. -/
def Chip.calNow (c : Chip) : CalTime := ⟨c.lk.year, c.lk.month, c.lk.day, c.lk.hour, c.lk.minute, c.lk.second⟩

/-- Put a date and time into the calendar: its registers, its day number and CAL_MIN (R742, R743). -/
def Chip.calPut (c : Chip) (t : CalTime) : Chip :=
  let n := dayNumber t.year t.month t.day
  c.onLk fun k =>
    { k with year := t.year, month := t.month, day := t.day, hour := t.hour, minute := t.minute, second := t.second
             dayNo := n, calMin := n * 1440 + t.hour * 60 + t.minute }

/-- LKK_CAL_TIME and LKK_CAL_DATE of the calendar. -/
def calTimeWord (k : Lockkeeper) : Word :=
  BitVec.ofNat 32 (toBcd k.second + toBcd k.minute * 2 ^ 8 + toBcd k.hour * 2 ^ 16 + (k.dayNo + 6) % 7 * 2 ^ 24)

def calDateWord (k : Lockkeeper) : Word :=
  BitVec.ofNat 32 (toBcd k.day + toBcd k.month * 2 ^ 8 + toBcd4 k.year * 2 ^ 16)

/-- An impossible date is rejected whole (R740). -/
def Chip.calReject (c : Chip) (date : Word) : Chip := (c.wr LKK_CAL_CTL_CAL_ERR 1).calRecord 1 date.toNat

/-- CAL_SET (R738, R740). -/
def Chip.calSet (c : Chip) : Chip :=
  match readBcd (c.get 0x2C0108) (c.get 0x2C010C) with
  | none => c.calReject (c.get 0x2C010C)
  | some t =>
    let c1 := ((c.calPut t).onLk fun k => { k with secCount := 0 }).wr LKK_CAL_CTL_CAL_VALID 1
    c1.calRecord 0 c1.calMinNow

def execCalSet (s : State) : Host.Outcome State Fault Refusal := effect s fun c => c.guardReg 0x2C0110 Chip.calSet

/-- ALARM_SET (R745): seconds are taken as 00. -/
def Chip.alarmSet (c : Chip) : Chip :=
  match readBcd (c.get 0x2C011C &&& 0x003F7F00#32) (c.get 0x2C0120) with
  | none => c.calReject (c.get 0x2C0120)
  | some _ =>
    ((c.setReg 0x2C0124 (c.get 0x2C011C)).setReg 0x2C0128 (c.get 0x2C0120)).wr LKK_CAL_CTL_ALARM_EN 1

def execAlarmSet (s : State) : Host.Outcome State Fault Refusal := effect s fun c => c.guardReg 0x2C0110 Chip.alarmSet

/-- One second later (R739, R741); the flag says that 2199 wrapped to 2000. -/
def nextSecond (t : CalTime) : CalTime × Bool :=
  if t.second < 59 then ({ t with second := t.second + 1 }, false)
  else if t.minute < 59 then ({ t with minute := t.minute + 1, second := 0 }, false)
  else if t.hour < 23 then ({ t with hour := t.hour + 1, minute := 0, second := 0 }, false)
  else if t.day < monthDays t.year t.month then (⟨t.year, t.month, t.day + 1, 0, 0, 0⟩, false)
  else if t.month < 12 then (⟨t.year, t.month + 1, 1, 0, 0, 0⟩, false)
  else if t.year < 2199 then (⟨t.year + 1, 1, 1, 0, 0, 0⟩, false)
  else (⟨2000, 1, 1, 0, 0, 0⟩, true)

/-- The second threshold under the trim, in units of 2^-8 ns (R737). -/
def Chip.secThreshold (c : Chip) : Nat :=
  (256000000000 - 1000 * toSigned 16 (c.rd LKK_CAL_TRIM_TRIM)).toNat

/-- The alarm minute has begun (R746). -/
def Chip.alarmHit (c : Chip) : Bool :=
  c.flag LKK_CAL_CTL_ALARM_EN && c.lk.second == 0 && calDateWord c.lk == c.get 0x2C0128
    && (calTimeWord c.lk &&& 0x003F7F00#32) == c.get 0x2C0124

/-- The alarm matches: a record, and a wake (R746, R245). -/
def Chip.alarmMatch (c : Chip) : Chip :=
  if c.alarmHit then
    let c1 := (c.wr LKK_CAL_CTL_ALARM_EN 0).wr LKK_CAL_CTL_ALARM 1
    (c1.calRecord 3 c1.calMinNow).wakeTrigger 2
  else c

/-- CAL_SECOND (R737): one second elapses. -/
def Chip.calSecond (c : Chip) : Chip :=
  let n := nextSecond c.calNow
  let c1 := (c.calPut n.1).onLk fun k => { k with secCount := k.secCount - c.secThreshold }
  let c2 := if n.2 then (c1.wr LKK_CAL_CTL_CAL_WRAP 1).calRecord 2 c1.calMinNow else c1
  c2.alarmMatch

def execCalSecond (s : State) : Host.Outcome State Fault Refusal := effect s Chip.calSecond

/-- CAL_TRIM_WRITE (R737): the new trim, with a TRIM record. -/
def Chip.calTrim (c : Chip) (v : Word) : Chip :=
  (c.wr LKK_CAL_TRIM_TRIM (v.toNat % 65536)).calRecord 4 (v.toNat % 65536)

def execCalTrimWrite (v : Word) (s : State) : Host.Outcome State Fault Refusal :=
  effect s fun c => c.guardReg 0x2C0114 fun c => c.calTrim v

/-! ### Lamp hours -/

/-- An hour counter rises; at its limit it holds and LKK_ARITH counts stage 0x01 (R749). -/
def Chip.hourTick (c : Chip) (a : Nat) : Chip :=
  if c.get a = 0xFFFFFFFF#32 then c.saturate 0x2C0000 1 1 else c.setReg a (c.get a + 1)

/-- The mode counts lit seconds (R748). -/
def Mode.countsLit (m : Mode) : Bool := m.lit || m == .calibrate

/-- LIT_SECOND (R748). -/
def execLitSecond (s : State) : Host.Outcome State Fault Refusal :=
  effect s fun c =>
    if c.mode.mode.countsLit && c.lightEn then
      (c.hourTick 0x2C0180).onLk fun k => { k with litRem := 0 }
    else c

/-- LAMP_HOURS_WRITE (R749): counters 0-15 the lamps, 16 LKK_LIT_SEC. -/
def Chip.lampHours (c : Chip) (n : Nat) (v : Word) : Chip :=
  if n < 16 then (c.setReg (0x2C0140 + 4 * n) v).onLk fun k => { k with lampRem := k.lampRem.set n 0 }
  else if n = 16 then (c.setReg 0x2C0180 v).onLk fun k => { k with litRem := 0 }
  else c

def execLampHoursWrite (counter : Nat) (v : Word) (s : State) : Host.Outcome State Fault Refusal :=
  effect s fun c => if counter ≤ 16 then c.guardReg (0x2C0140 + 4 * counter) fun c => c.lampHours counter v else c

end Sys2Proof.Machine
end

