-- ==== Sys2Proof/Machine/Memory.lean ====
section
/-! DEFINITION. The memory controller (chapter 7): the map, bring-up, the delay sweep, port requests, the scheduler,
refresh, the weir and the Sluice. The return of read data is in Integrity.lean. -/

namespace Sys2Proof.Machine

/-! ### The map and bring-up -/

/-- The two channels differ in DENSITY, RANKS or SPARE_RANK (R308). -/
def Chip.geometryBad (c : Chip) : Bool :=
  c.mcConf 0 && c.mcConf 1 &&
    (c.rd MCA_CFG_DENSITY != c.rd (mcF 1 MCA_CFG_DENSITY) || c.rd MCA_CFG_RANKS != c.rd (mcF 1 MCA_CFG_RANKS)
      || c.rd MCA_CFG_SPARE_RANK != c.rd (mcF 1 MCA_CFG_SPARE_RANK))

/-- MCX_MAP_CTL.GO (R308, Table 7.14); with a valid map the domains of an absent channel go OFF (R221). -/
def Chip.mapGo (c : Chip) : Chip :=
  if c.mcConfigured.isEmpty then c.wr MCX_MAP_STAT_MAP_ERR 2
  else if c.geometryBad then c.wr MCX_MAP_STAT_MAP_ERR 1
  else
    let c1 := ((c.wr MCX_MAP_STAT_MAP_ERR 0).wr MCX_MAP_STAT_VALID 1).wr MCX_MAP_STAT_CAP_MIB (c.mapCapacity / 2 ^ 20)
    ({ c1 with locks := { c1.locks with map := true } }).pdPlan

/-- MAP_GO. -/
def execMapGo (s : State) : Host.Outcome State Fault Refusal := effect s fun c => c.guardReg 0x60000 Chip.mapGo

/-- Give a channel its state. -/
def Chip.setMcState (c : Chip) (ch st : Nat) : Chip := c.wr (mcF ch MCA_STAT_STATE) st

/-- The channel's registers that wait for an initialisation take effect, mode registers among them (R319). -/
def Chip.mcCommit (c : Chip) (ch : Nat) : Chip :=
  c.commitRange (0x040000 + ch * 0x10000) (0x050000 + ch * 0x10000)

/-- A migration state change is logged as a MEM record of EVENT 1 (R401, Table 17.6). -/
def Chip.setMig (c : Chip) (ch st : Nat) : Chip :=
  ((c.wr ((MCX_MIG_STAT_STATE).at ch) st).wr (mcF ch MCA_ECC_STAT_RETIRED) (b2n (st == 4))).logRecord 4 0
    (ch + 0x1000) st

/-- An abort or an initialisation ends COPY and FLIP_WAIT in ABORTED (R394). -/
def Chip.migAbort (c : Chip) (ch : Nat) : Chip :=
  if c.migState ch = 1 ∨ c.migState ch = 2 then c.setMig ch 5 else c

/-- MCx_INIT_CTL.GO (R318, Table 7.5): ignored unless the channel is OFF; the DRAM loses its contents. -/
def Chip.initGo (c : Chip) (ch : Nat) : Chip :=
  if c.mcState ch ≠ mcOff then c
  else
    let c1 := (((c.dramLost ch).mcCommit ch).migAbort ch).onMc ch fun m =>
      { m with resetN := false, cke := false, srCells := false, cache := [], everInit := false
               alert := AlertState.reset }
    ((c1.wr (mcF ch MCA_ECC_STAT_SEEDED) 0).wr (mcF ch MCA_ECC_STAT_FROZEN) 0).setMcState ch mcInit

/-- MC_INIT_RESET_RELEASE (Table 7.5): t0 + 200 µs. -/
def execMcInitResetRelease (ch : Nat) (s : State) : Host.Outcome State Fault Refusal :=
  effect s fun c => if ch < 2 ∧ c.mcState ch = mcInit then c.onMc ch fun m => { m with resetN := true } else c

/-- MC_INIT_CKE_RISE (Table 7.5): t0 + 700 µs. -/
def execMcInitCkeRise (ch : Nat) (s : State) : Host.Outcome State Fault Refusal :=
  effect s fun c =>
    if ch < 2 ∧ c.mcState ch = mcInit ∧ (c.mc ch).resetN = true then c.onMc ch fun m => { m with cke := true } else c

/-! ### The delay sweep -/

/-- The bytes a sweep writes into one row (Table 7.12): 1 walking ones, one DQ of the 16 after the other, beat by beat; 3
alternating 0x00 and 0xFF, beat by beat; else PRBS15, whose seed and lanes the spec does not give, so that its bytes are
free values. DESIGN CHOICE (log entry 101): every pattern starts anew at column 0 and a beat is two bytes, byte lane 0
first. -/
def Chip.sweepBytes (c : Chip) (pattern n : Nat) : List Byte :=
  (List.range n).map fun i =>
    if pattern = 1 then (if i / 2 % 16 / 8 = i % 2 then BitVec.ofNat 8 (2 ^ (i / 2 % 8)) else 0)
    else if pattern = 3 then (if i / 2 % 2 = 0 then 0 else 0xFF)
    else Config.freeByte c.free i

/-- The lines of a sweep's row are written, raw and without ECC (R323, R325). Lines beyond the 32 of the row go round in it
(DESIGN CHOICE, log entry 101). -/
def Chip.sweepFill (c : Chip) (l : Loc) (pattern lines : Nat) : Chip :=
  let bytes := c.sweepBytes pattern (64 * min 32 lines)
  let key := chKeys l.ch + ({ l with ch := 0, off := 0 } : Loc).key
  ({ c with dram := SMap.setRun dramDefault c.dram key 1 bytes }).takeFree

/-- The place MCx_SWEEP_ADDR names. -/
def Chip.sweepLoc (c : Chip) (ch : Nat) : Loc :=
  { ch := ch, rank := c.rd (mcF ch MCA_SWEEP_ADDR_RANK), bank := c.rd (mcF ch MCA_SWEEP_ADDR_BANK)
    row := c.rd (mcF ch MCA_SWEEP_ADDR_ROW), off := 0 }

/-- The commands of a sweep's lines; its activates enter no weir table (R340). MPR is read four times a line. -/
def Chip.sweepBus (c : Chip) (l : Loc) (write : Bool) (lines : Nat) : Chip :=
  (List.range lines).foldl
    (fun c n => c.dramCmd l.ch { busCmd (if write then 5 else 4) l.rank l.bank (n % 32 * 32) with row := l.row }) c

/-- SWEEP_CTL (R322, R323): GO starts a sweep in CALIBRATE on an ACTIVE channel, else sets REFUSED. A row that is never
read or written (R358) is REFUSED too (DESIGN CHOICE, log entry 101). The staged PHY delays take effect (R319). -/
def Chip.sweepGo (c : Chip) (ch : Nat) (v : Word) : Chip :=
  let pattern := MCA_SWEEP_CTL_PATTERN.get v
  let lines := MCA_SWEEP_CTL_LINES.get v + 1
  let c1 := (c.wr (mcF ch MCA_SWEEP_CTL_PATTERN) pattern).wr (mcF ch MCA_SWEEP_CTL_LINES) (MCA_SWEEP_CTL_LINES.get v)
  if MCA_SWEEP_CTL_GO.get v = 0 then c1
  else
    let c2 := (c1.wr (mcF ch MCA_SWEEP_CTL_DONE) 0).wr (mcF ch MCA_SWEEP_CTL_REFUSED) 0
    let l := c.sweepLoc ch
    if c.mode.mode ≠ .calibrate ∨ c.mcState ch ≠ mcActive ∨ c.mcUsedRows ch ≤ l.row then
      c2.wr (mcF ch MCA_SWEEP_CTL_REFUSED) 1
    else
      let base := 0x040000 + ch * 0x10000
      let c3 := ((c2.commitRange (base + 0x100) (base + 0x128)).setMcState ch mcSweep).preAll ch
      if pattern = 2 then c3
      else
        ((c3.dramCmd ch { busCmd 0 l.rank l.bank l.row with nr := true }).sweepBus l true lines).sweepFill l pattern lines

/-- SWEEP_GO. -/
def execSweepGo (ch : Nat) (v : Word) (s : State) : Host.Outcome State Fault Refusal :=
  effect s fun c => if ch < 2 then c.guardReg (0x40140 + ch * 0x10000) fun c => c.sweepGo ch v else c

/-- SWEEP_DONE (R323): the lines were read back; the failing DQs they show are ORed into FAIL_MASK and the failing beats
counted in ERR_COUNT. -/
def Chip.sweepDone (c : Chip) (ch failMask errors : Nat) : Chip :=
  if c.mcState ch ≠ mcSweep then c
  else
    let lines := c.rd (mcF ch MCA_SWEEP_CTL_LINES) + 1
    let reads := if c.rd (mcF ch MCA_SWEEP_CTL_PATTERN) = 2 then 4 * lines else lines
    let c1 := ((c.sweepBus (c.sweepLoc ch) false reads).preAll ch).wr (mcF ch MCA_SWEEP_RES_FAIL_MASK)
      (Nat.lor (c.rd (mcF ch MCA_SWEEP_RES_FAIL_MASK)) failMask)
    ((c1.bump (mcF ch MCA_SWEEP_RES_ERR_COUNT) errors).wr (mcF ch MCA_SWEEP_CTL_DONE) 1).setMcState ch mcActive

def execSweepDone (ch failMask errors : Nat) (s : State) : Host.Outcome State Fault Refusal :=
  effect s fun c => if ch < 2 then c.sweepDone ch failMask errors else c

/-! ### Requests -/

/-- MCX_ERR records a port error (Table 7.14): 1 RANGE, 2 DROP_MOOR. -/
def Chip.portErr (c : Chip) (p kind : Nat) : Chip :=
  ((c.wr MCX_ERR_PORT p).wr MCX_ERR_KIND kind).wr MCX_ERR_ERR 1

/-- The number of a port's next read is taken. -/
def Chip.takeId (c : Chip) (p : Nat) : Chip :=
  c.onMcx fun x => { x with nextId := x.nextId.set p (x.nextId.getD p 0 + 1) }

/-- A read that reaches no DRAM returns zeros (R311, R351). -/
def Chip.zeroRead (c : Chip) (p : Nat) : Chip :=
  (c.takeId p).deliver ⟨p, c.mcx.nextId.getD p 0, List.replicate 8 (0, 0)⟩

/-- An exit from self-refresh starts (R347). From SR_DEEP, PLL_M restarts and the other deep channel is SR_SHALLOW again. -/
def Chip.exitStart (c : Chip) (ch cause : Nat) : Chip :=
  let s := c.mcState ch
  if (s = mcShallow ∨ s = mcDeep) ∧ (c.mc ch).sluiceExit = false then
    let c1 := (c.exitCause ch cause).onMc ch fun m => { m with sluiceExit := true }
    if s = mcDeep then
      [0, 1].foldl (fun c k => if c.mcState k = mcDeep then c.setMcState k mcShallow else c) (c1.startPll 1)
    else c1
  else c

/-- A request to a channel: it aborts a Sluice entry that has not reached SRE, or starts the exit (R347, R348). -/
def Chip.requestWakes (c : Chip) (ch : Nat) : Chip :=
  (c.onMc ch fun m => { m with sluiceEntry := false }).exitStart ch 1

/-- Mark the words of a line that a port write overtakes between a scrub read and its write-back (R380). -/
def dropScrub (s : Option ScrubRead) (same : Bool) (mask : List Bool) : Option ScrubRead :=
  match s with
  | none => none
  | some r =>
    if same then some { r with dropped := (List.range 8).map fun i => r.dropped.getD i false || mask.getD i false }
    else some r

/-- Two places of a channel lie on one line. -/
def Loc.sameLine (a b : Loc) : Bool :=
  a.rank == b.rank && a.bank == b.bank && a.row == b.row && a.off / 64 == b.off / 64

/-- Merge a write into the entry of its line (R316): new words replace old ones, masks are ORed. -/
def mergeEntry (e : WriteEntry) (mask : List Bool) (words : List Nat) : WriteEntry :=
  { e with
      mask := (List.range 8).map fun i => e.mask.getD i false || mask.getD i false
      words := (List.range 8).map fun i => if mask.getD i false then words.getD i 0 else e.words.getD i 0 }

/-- The words a port write takes over from a scrub visit in progress are marked, at the physical places it reaches
(R380). -/
def Chip.markScrub (c : Chip) (l : Loc) (mask : List Bool) : Chip :=
  c.onMc l.ch fun m =>
    let same := (m.scrubRead.map fun r => r.loc.sameLine (c.redirect l)).getD false
    { m with scrubRead := dropScrub m.scrubRead same mask }

/-- A write enters the write queue of its channel (R315, R316); a full queue takes nothing. -/
def Chip.queueWrite (c : Chip) (p : Nat) (l : Loc) (line : Nat) (mask : List Bool) (words : List Nat) : Chip :=
  let q := (c.mc l.ch).writeQ
  if q.any fun e => e.line == line then
    (c.onMc l.ch fun m =>
      { m with writeQ := m.writeQ.map fun e => if e.line = line then mergeEntry e mask words else e }).markScrub l mask
  else if 32 ≤ q.length then c
  else
    let e : WriteEntry :=
      { seq := c.mcx.arrivals, port := p, line := line, mask := (List.range 8).map fun i => mask.getD i false
        words := (List.range 8).map fun i => words.getD i 0, age := 0, overdue := false, class0 := false }
    ((c.onMc l.ch fun m => { m with writeQ := m.writeQ ++ [e] }).markScrub l mask).onMcx
      fun x => { x with arrivals := x.arrivals + 1 }

/-- The channel serves port requests: it is no delay sweep and no repair that runs (R324, R387). -/
def Chip.mcServes (c : Chip) (ch : Nat) : Bool := c.mcState ch != mcSweep && !(c.mc ch).pprBusy

/-- The full write entry that a read of a line is served from (R331). -/
def Chip.forwarder (c : Chip) (ch line : Nat) : Option WriteEntry :=
  if c.mcServes ch then (c.mc ch).writeQ.find? fun e => e.line == line && e.mask.all id else none

/-- A read with its number enters its channel (R331): a line with a full unissued write entry is served from that entry at
once, every other read is queued. -/
def Chip.readEnters (c : Chip) (p id ch line : Nat) (spec : Bool) : Chip :=
  match c.forwarder ch line with
  | some e => (c.bumpLines p).deliver ⟨p, id, e.words.map fun w => (w, 0)⟩
  | none =>
    let e : ReadEntry :=
      { id := id, seq := c.mcx.arrivals, port := p, line := line, age := 0, spec := spec, overdue := false
        class0 := false }
    (c.onMc ch fun m => { m with readQ := m.readQ ++ [e] }).onMcx fun x => { x with arrivals := x.arrivals + 1 }

/-- A read is taken while the queue of 64 has room or an entry serves it. -/
def Chip.queueRead (c : Chip) (p ch line : Nat) (spec : Bool) : Chip :=
  if 64 ≤ (c.mc ch).readQ.length ∧ c.forwarder ch line = none then c
  else (c.takeId p).readEnters p (c.mcx.nextId.getD p 0) ch line spec

/-- The channel is frozen (R397, R399): from t0 of its FREEZE until the device has left HOLD. ECC_STAT.FROZEN itself stays
until the next initialisation. -/
def Chip.isFrozen (c : Chip) (ch : Nat) : Bool :=
  c.flag (mcF ch MCA_ECC_STAT_FROZEN)
    && (c.mode.mode == .hold || c.mode.edge == some .e10 || c.mode.edge == some .e12 || c.mcState ch == mcFrozen)

/-- The channel takes requests: not while it is OFF, initialising or FROZEN (R397). -/
def Chip.mcAnswers (c : Chip) (ch : Nat) : Bool :=
  [mcActive, mcShallow, mcDeep, mcSweep].contains (c.mcState ch) && !c.isFrozen ch

/-- A request enters its channel at once: not in a flip, which holds it (Table 8.4). -/
def Chip.mcAccepts (c : Chip) (ch : Nat) : Bool := c.mcAnswers ch && c.migState ch != 3

/-- A flip holds a request (Table 8.4), as long as the queue it will enter has room for it. -/
def Chip.holdRequest (c : Chip) (p ch : Nat) (write : Bool) (line : Nat) (mask : List Bool) (words : List Nat)
    (spec : Bool) : Chip :=
  if (if write then 32 else 64) ≤ ((c.mc ch).heldReqs.filter fun r => r.write == write).length then c
  else
    let c1 := c.onMc ch fun m => { m with heldReqs := m.heldReqs ++ [⟨c.mcx.nextId.getD p 0, p, write, line, mask, words, spec⟩] }
    if write then c1 else c1.takeId p

/-- One request of a port: a line read or a line write under a word mask (R310-R316, R331, R351). -/
def Chip.portRequest (c : Chip) (p : Nat) (write : Bool) (line : Nat) (mask : List Bool) (words : List Nat)
    (spec : Bool) : Chip :=
  let a := line % 2 ^ 32 / 64 * 64
  if 12 ≤ p then c
  else if c.mode.moored then
    let c1 := (c.bump ((MCX_PORT_DROP_DROP).at p) 1).portErr p 2
    if write then c1 else c1.zeroRead p
  else
    match c.sysLoc a with
    | none => let c1 := c.portErr p 1; if write then c1 else c1.zeroRead p
    | some l =>
      if !c.mcAnswers l.ch then c
      else if c.migState l.ch = 3 then c.holdRequest p l.ch write a mask words spec
      else
        let c1 := c.requestWakes l.ch
        if write then c1.queueWrite p l a mask words else c1.queueRead p l.ch a spec

/-- PORT_REQUEST. -/
def execPortRequest (port : Nat) (write : Bool) (line : Nat) (mask : List Bool) (words : List Nat) (spec : Bool)
    (s : State) : Host.Outcome State Fault Refusal :=
  effect s fun c => c.portRequest port write line mask words spec

/-! ### The scheduler -/

/-- A port's AGE_LIMIT; 0 behaves as 1 (Table 7.14). -/
def Chip.ageLimit (c : Chip) (p : Nat) : Nat := max 1 (c.rd (MCX_PORT_CFG0_AGE_LIMIT.off (4 * p)))

/-- The port's urgency source asserts basin urgency (R327). -/
def Chip.portUrgent (c : Chip) (p : Nat) : Bool :=
  let a := c.flag SOA_STAT_URGENT
  let b := c.flag (SOA_STAT_URGENT.off 0x10000)
  if p = 0 then a else if p = 1 then b
  else if p ≤ 6 then
    let u := c.rd (MCX_PORT_CFG0_URG_SRC.off (4 * p))
    (u.testBit 0 && a) || (u.testBit 1 && b)
  else false

/-- What a queued request needs next: its own row, or first its check line (R359). -/
structure Want where
  write : Bool
  idx : Nat
  port : Nat
  cls : Nat
  overdue : Bool
  age : Nat
  rank : Nat
  bank : Nat
  row : Nat
  col : Nat
  check : Bool
deriving DecidableEq, Repr

/-- The want of a request at a place. -/
def Chip.wantAt (c : Chip) (l : Loc) (write : Bool) (idx port age : Nat) (cls : Nat) (overdue : Bool) : Want :=
  let k := c.checkTarget l
  if (c.mc l.ch).cached k then ⟨write, idx, port, cls, overdue, age, l.rank, l.bank, l.row, l.off / 2, false⟩
  else ⟨write, idx, port, cls, overdue, age, k.rank, k.bank, k.row, k.off / 64 * 32, true⟩

/-- The class a request ranks by (R326, R327): promoted by age or urgency. -/
def Chip.effClass (c : Chip) (port age : Nat) (class0 : Bool) : Nat :=
  if class0 || decide (c.ageLimit port * 64 < age) || c.portUrgent port then 0 else portClass port

/-- The number of a port's age that makes a request overdue (R326). -/
def Chip.isOverdue (c : Chip) (port age : Nat) (flag : Bool) : Bool := flag || decide (2 * c.ageLimit port * 64 < age)

/-- The reads that may be issued: not those behind a partial write of their line (R331). -/
def Chip.readWants (c : Chip) (ch : Nat) : List Want :=
  let m := c.mc ch
  m.readQ.zipIdx.filterMap fun x =>
    let e := x.1
    if m.writeQ.any fun w => w.line == e.line && decide (w.seq < e.seq) then none
    else
      (c.sysLoc e.line).map fun l =>
        let p := schedPort e.port
        c.wantAt (c.redirect l) false x.2 p e.age (c.effClass p e.age e.class0) (c.isOverdue p e.age e.overdue)

/-- The writes that may be issued: not those that an older read of their line precedes (R332). -/
def Chip.writeWants (c : Chip) (ch : Nat) : List Want :=
  let m := c.mc ch
  m.writeQ.zipIdx.filterMap fun x =>
    let e := x.1
    if m.readQ.any fun r => r.line == e.line && decide (r.seq < e.seq) then none
    else
      (c.sysLoc e.line).map fun l =>
        let p := schedPort e.port
        c.wantAt (c.redirect l) true x.2 p e.age (c.effClass p e.age e.class0) (c.isOverdue p e.age e.overdue)

/-- The bank group of a bank index. -/
def bankGroup (b : Nat) : Nat := b / 4 % 2

/-- CL and CWL with the parity latency (R320), the extra tCK of write CRC, the burst. -/
def Chip.timCL (c : Chip) (ch : Nat) : Nat :=
  c.tim ch MCA_TIM0_CL + (if c.tim ch MCA_CFG_CA_PAR_EN = 1 then c.tim ch MCA_TIM7_PL else 0)
def Chip.timCWL (c : Chip) (ch : Nat) : Nat :=
  c.tim ch MCA_TIM0_CWL + (if c.tim ch MCA_CFG_CA_PAR_EN = 1 then c.tim ch MCA_TIM7_PL else 0)
def Chip.timCrc (c : Chip) (ch : Nat) : Nat := b2n (c.tim ch MCA_CFG_WCRC_EN == 1)

/-- ACT is legal (Table 7.9): the bank closed, tRP, tRC, tRRD, tFAW and tRFC passed; a bank held for the weir takes only
the activates of a neighbour refresh (R342). -/
def Chip.actLegal (c : Chip) (ch rank bank : Nat) (nr : Bool) : Bool :=
  let m := c.mc ch
  let b := m.bankAt rank bank
  b.row.isNone && (nr || m.weirHeld.getD (rank * 8 + bank) none == none)
    && decide (b.preAt + c.tim ch MCA_TIM0_RP ≤ m.now) && decide (b.actAt + c.tim ch MCA_TIM1_RC ≤ m.now)
    && ((List.range 8).all fun k =>
        decide ((m.bankAt rank k).actAt
          + (if bankGroup k = bankGroup bank then c.tim ch MCA_TIM1_RRD_L else c.tim ch MCA_TIM1_RRD_S) ≤ m.now))
    && (decide (m.actTimes.length < 4) || decide (m.actTimes.getD 3 0 + c.tim ch MCA_TIM2_FAW ≤ m.now))
    && decide (m.refAt.getD rank 0 ≤ m.now)

/-- PRE of an open bank is legal (Table 7.9): tRAS, tRTP and tWR passed. With write CRC the burst is one tCK longer, and WR
one tCK longer too (R320). -/
def Chip.preLegal (c : Chip) (ch rank bank : Nat) : Bool :=
  let m := c.mc ch
  let b := m.bankAt rank bank
  b.row.isSome && decide (b.actAt + c.tim ch MCA_TIM1_RAS ≤ m.now)
    && decide (b.rdAt + c.tim ch MCA_TIM2_RTP ≤ m.now)
    && decide (b.wrAt + c.timCWL ch + 4 + 2 * c.timCrc ch + c.tim ch MCA_TIM2_WR ≤ m.now)

/-- The gap that a column command needs after the last one (Table 7.9 and the turnarounds below it); with write CRC the
burst of a write and WTR are each one tCK longer (R320). -/
def Chip.colGap (c : Chip) (ch rank bank : Nat) (write : Bool) : Nat :=
  let m := c.mc ch
  let crc := c.timCrc ch
  let sameGroup := m.colRank == rank && bankGroup m.colBank == bankGroup bank
  let ccd := if sameGroup then c.tim ch MCA_TIM2_CCD_L else c.tim ch MCA_TIM2_CCD_S
  let other := 4 + (if m.colWrite then crc else 0) + c.tim ch MCA_TIM3_RTR
  if m.colRank ≠ rank then
    (if write && !m.colWrite then max other (c.timCL ch - c.timCWL ch + 6 + c.tim ch MCA_TIM3_TA_EXTRA) else other)
  else if m.colWrite && !write then
    c.timCWL ch + 4 + 2 * crc + (if sameGroup then c.tim ch MCA_TIM3_WTR_L else c.tim ch MCA_TIM3_WTR_S)
  else if write && !m.colWrite then c.timCL ch - c.timCWL ch + 6 + c.tim ch MCA_TIM3_TA_EXTRA
  else ccd + (if write then crc else 0)

/-- A column command is legal: the row open, tRCD passed, the gap kept. -/
def Chip.colLegal (c : Chip) (ch rank bank row : Nat) (write : Bool) : Bool :=
  let m := c.mc ch
  let b := m.bankAt rank bank
  b.row == some row && decide (b.actAt + c.tim ch MCA_TIM0_RCD ≤ m.now)
    && decide (m.colAt + c.colGap ch rank bank write ≤ m.now)

/-- REF of a rank is legal: every bank closed and tRP passed. -/
def Chip.refLegal (c : Chip) (ch rank : Nat) : Bool :=
  let m := c.mc ch
  decide (m.refAt.getD rank 0 ≤ m.now) && (List.range 8).all fun k =>
    (m.bankAt rank k).row.isNone && decide ((m.bankAt rank k).preAt + c.tim ch MCA_TIM0_RP ≤ m.now)

/-- A command of the scheduler. -/
inductive SchedCmd where
  | act (rank bank row : Nat) (nr : Bool)
  | pre (rank bank : Nat)
  | ref (rank : Nat)
  | col (w : Want)
deriving DecidableEq, Repr

/-- REF is issued (R335): one refresh less is owed, or one more is pulled in; the rank is busy for tRFC. -/
def Chip.issueRef (c : Chip) (ch rank : Nat) : Chip :=
  let rfc := if c.flag (mcF ch MCA_REF_CTL_MODE2X) then c.tim ch MCA_TIM4_RFC2 else c.tim ch MCA_TIM4_RFC1
  (c.onMc ch fun m =>
    { m with refAt := m.refAt.set rank (m.now + rfc)
             owed := m.owed.set rank (m.owed.getD rank 0 - 1)
             pulled := if m.owed.getD rank 0 = 0 then m.pulled.set rank (m.pulled.getD rank 0 + 1) else m.pulled }).dramCmd
    ch (busCmd 3 rank 0 0)

/-- The longest wait of a port (Table 7.14). -/
def Chip.noteWait (c : Chip) (p age : Nat) : Chip :=
  let q := schedPort p
  if c.rd ((MCX_PORT_WAIT_WAIT).at q) < age then c.wr ((MCX_PORT_WAIT_WAIT).at q) (min age (2 ^ 24 - 1)) else c

/-- Raw words and check bytes of a line at a physical place. -/
def Chip.rawLine (c : Chip) (l : Loc) : List (Nat × Nat) :=
  (List.range 8).map fun i =>
    let k := { l with off := l.off / 64 * 64 + 8 * i }
    (c.rawWord k, c.rawCheck k)

/-- The place of a want. -/
def Want.loc (w : Want) (ch : Nat) : Loc := ⟨ch, w.rank, w.bank, w.row, w.col * 2⟩

/-- A read has left for DRAM: what its RD found is in flight. -/
def Chip.readLeft (c : Chip) (ch : Nat) (e : ReadEntry) (here : Loc) : Chip :=
  ((c.onMc ch fun m => { m with inflight := m.inflight ++ [⟨e, c.rawLine here, false⟩] }).bumpLines e.port).noteWait
    e.port e.age

/-- RD or WR of a request is issued, or RD of the check line it needs first (R359). While a migration copies, a write is
doubled to rank 1 (Table 8.4). -/
def Chip.issueCol (c : Chip) (ch : Nat) (w : Want) : Chip :=
  let m := c.mc ch
  let here := w.loc ch
  if w.check then (c.issueLine here false 0 [] w.port).cacheUse ch here false
  else if w.write then
    match m.writeQ[w.idx]? with
    | none => c
    | some e =>
      let c1 := (c.issueLine here true e.line e.mask w.port).cacheUse ch (c.checkTarget here) true
      let c2 := if c.dualWrite here then c1.lineAccess { here with rank := 1 } true e.line e.mask w.port else c1
      (((c2.performWrite e).onMc ch fun m => { m with writeQ := m.writeQ.eraseIdx w.idx }).bumpLines w.port).noteWait
        w.port e.age
  else
    match m.readQ[w.idx]? with
    | none => c
    | some e =>
      let c1 := (c.issueLine here false e.line [] w.port).cacheUse ch (c.checkTarget here) false
      (c1.onMc ch fun m => { m with readQ := m.readQ.eraseIdx w.idx }).readLeft ch e here

/-- Perform one command. -/
def Chip.schedDo (c : Chip) (ch : Nat) (x : SchedCmd) : Chip :=
  match x with
  | .act rank bank row nr => c.issueAct ch rank bank row nr
  | .pre rank bank => c.issuePre ch rank bank
  | .ref rank => c.issueRef ch rank
  | .col w => c.issueCol ch w

/-- The largest number of refreshes that may be postponed or pulled in: 8, or 16 in 2x mode (R338). -/
def Chip.refLimit (c : Chip) (ch : Nat) : Nat := if c.flag (mcF ch MCA_REF_CTL_MODE2X) then 16 else 8

/-- POSTPONE as it behaves. -/
def Chip.postpone (c : Chip) (ch : Nat) : Nat := min (c.rd (mcF ch MCA_REF_CTL_POSTPONE)) (c.refLimit ch)

/-- The row command that brings a rank's refresh nearer: a precharge it needs, or REF. -/
def Chip.refreshCmd (c : Chip) (ch rank : Nat) : Option SchedCmd :=
  if c.refLegal ch rank then some (.ref rank)
  else ((List.range 8).find? fun k => c.preLegal ch rank k).map fun k => .pre rank k

/-- A rank's refresh has reached its postponement limit (R338). -/
def Chip.refForced (c : Chip) (ch rank : Nat) : Bool :=
  decide (0 < (c.mc ch).owed.getD rank 0 ∧ c.postpone ch ≤ (c.mc ch).owed.getD rank 0)

/-- Decision 1 of R328: a refresh at its postponement limit, the first rank whose next command is legal. -/
def Chip.decide1 (c : Chip) (ch : Nat) : Option SchedCmd :=
  (c.mcRanks ch).findSome? fun r => if c.refForced ch r then c.refreshCmd ch r else none

/-- Decision 2: the head of the neighbour-refresh queue. -/
def Chip.decide2 (c : Chip) (ch : Nat) : Option SchedCmd :=
  match (c.mc ch).nrQ with
  | [] => none
  | n :: _ =>
    if ((c.mc ch).bankAt n.rank n.bank).row.isSome then
      if c.preLegal ch n.rank n.bank then some (.pre n.rank n.bank) else none
    else
      match n.todo with
      | [] => none
      | r :: _ => if c.actLegal ch n.rank n.bank true then some (.act n.rank n.bank r true) else none

/-- The open row of a want's bank is its row. -/
def Chip.rowHit (c : Chip) (ch : Nat) (w : Want) : Bool := ((c.mc ch).bankAt w.rank w.bank).row == some w.row

/-- The order of decision 4: class, row hit before row miss, age. -/
def Chip.wantBefore (c : Chip) (ch : Nat) (a b : Want) : Bool :=
  a.cls < b.cls || (a.cls == b.cls && ((c.rowHit ch a && !c.rowHit ch b)
    || (c.rowHit ch a == c.rowHit ch b && decide (b.age < a.age))))

/-- Put a want into a list in the order of decision 4; equal ones keep their order. -/
def Chip.wantInsert (c : Chip) (ch : Nat) (w : Want) (l : List Want) : List Want :=
  match l with
  | [] => [w]
  | x :: t => if c.wantBefore ch w x then w :: x :: t else x :: c.wantInsert ch w t

/-- The wants of the current direction in the order of decisions 3 and 4: the oldest overdue one, then the rest; class
3 ranks as class 0 when the window's commands left equal its shortfall (R330). -/
def Chip.rankWants (c : Chip) (ch : Nat) (ws : List Want) : List Want :=
  let m := c.mc ch
  let win := max 1 (c.rd MCX_SCHED_CTL_FLOOR_WIN)
  let need := min (c.rd MCX_SCHED_CTL_FLOOR_N) win - m.winClass3
  let lift := decide (win - m.winCount ≤ need)
  let ws' := ws.map fun w => if lift && portClass w.port == 3 then { w with cls := 0 } else w
  let sorted := ws'.foldl (fun l w => c.wantInsert ch w l) []
  match (ws'.filter fun w => w.overdue).foldl
      (fun (o : Option Want) w => match o with | none => some w | some x => if x.age < w.age then some w else o) none with
  | some o => o :: sorted
  | none => sorted

/-- The column command of a want, if legal. -/
def Chip.wantCol (c : Chip) (ch : Nat) (w : Want) : Option SchedCmd :=
  if c.colLegal ch w.rank w.bank w.row (w.write && !w.check) then some (.col w) else none

/-- The row command of a want, if legal: ACT of its row (not into a rank whose refresh is forced, which would undo the
precharges decision 1 makes), or PRE of another row that no pending request ranked above it hits. -/
def Chip.wantRow (c : Chip) (ch : Nat) (above : List Want) (w : Want) : Option SchedCmd :=
  match ((c.mc ch).bankAt w.rank w.bank).row with
  | none =>
    if c.actLegal ch w.rank w.bank false && !c.refForced ch w.rank then some (.act w.rank w.bank w.row false) else none
  | some r =>
    if r = w.row ∨ (above.any fun x => x.rank == w.rank && x.bank == w.bank && c.rowHit ch x) = true then none
    else if c.preLegal ch w.rank w.bank then some (.pre w.rank w.bank) else none

/-- A request of the other direction ranks above a want: overdue where it is not, or before it in decision 4. -/
def Chip.outranks (c : Chip) (ch : Nat) (x w : Want) : Bool := (x.overdue && !w.overdue) || c.wantBefore ch x w

/-- The first row command along the ranked wants; `others`: the requests of the other direction. -/
def Chip.firstRow (c : Chip) (ch : Nat) (others above ws : List Want) : Option SchedCmd :=
  match ws with
  | [] => none
  | w :: t =>
    match c.wantRow ch (above ++ others.filter fun x => c.outranks ch x w) w with
    | some x => some x
    | none => c.firstRow ch others (above ++ [w]) t

/-- Decision 5: a refresh that is due or may be pulled in, with no request pending for its rank; the first rank whose next
command is legal. -/
def Chip.decide5 (c : Chip) (ch : Nat) (ws : List Want) : Option SchedCmd :=
  (c.mcRanks ch).findSome? fun r =>
    if !(ws.any fun w => w.rank == r) && (decide (0 < (c.mc ch).owed.getD r 0)
        || decide ((c.mc ch).pulled.getD r 0 < c.refLimit ch)) then c.refreshCmd ch r
    else none

/-- The direction of the cycle (R329): a request is legal when its next command is, row or column. -/
def Chip.direction (c : Chip) (ch : Nat) (rs ws : List Want) : Bool × Bool :=
  let m := c.mc ch
  let n := m.writeQ.length
  let overdueRead := rs.any fun w => w.overdue
  let drain0 := m.draining || decide (c.rd MCX_SCHED_CTL_WR_HI ≤ n && 0 < n)
  let drain := drain0 && !decide (n ≤ c.rd MCX_SCHED_CTL_WR_LO) && !(overdueRead && decide (n < 32))
  let legal := fun (l : List Want) => l.any fun w => (c.wantCol ch w).isSome || (c.wantRow ch [] w).isSome
  (drain || (legal ws && !legal rs), drain)

/-- One MCC cycle passes: two tCK, every request ages, no burst starts. -/
def Chip.cycle (c : Chip) (ch : Nat) : Chip :=
  c.onMc ch fun m =>
    { m with now := m.now + 2, odt := []
             readQ := m.readQ.map fun e => { e with age := e.age + 1 }
             writeQ := m.writeQ.map fun e => { e with age := e.age + 1 } }

/-- ZQCS of every rank is issued, or waits for the channel (R339): none is issued outside ACTIVE, in a repair or while
ALERT_n is low. -/
def Chip.zqcs (c : Chip) (ch : Nat) : Chip :=
  if c.mcState ch = mcActive ∧ (c.mc ch).pprBusy = false ∧ (c.mc ch).alert.low = false then
    (c.allRanks ch 7 0 0).onMc ch fun m => { m with zqOwed := false }
  else c.onMc ch fun m => { m with zqOwed := true }

/-- The row command of a cycle, performed. -/
def Chip.rowDo (c : Chip) (ch : Nat) (x : Option SchedCmd) : Chip :=
  match x with
  | some x => c.schedDo ch x
  | none => c

/-- A cycle of a channel that serves no port request (R324, R387): refreshes and neighbour refreshes go on. -/
def Chip.refreshOnly (c : Chip) (ch : Nat) : Chip :=
  c.rowDo ch ((c.decide1 ch).or ((c.decide2 ch).or (c.decide5 ch (c.readWants ch ++ c.writeWants ch))))

/-- The decisions of one cycle (R328): at most one row and one column command are issued. -/
def Chip.schedule (c : Chip) (ch : Nat) : Chip :=
  let rs := c.readWants ch
  let ws := c.writeWants ch
  let dir := c.direction ch rs ws
  let cands := c.rankWants ch (if dir.1 then ws else rs)
  let row := (c.decide1 ch).or ((c.decide2 ch).or
    ((c.firstRow ch (if dir.1 then rs else ws) [] cands).or (c.decide5 ch (rs ++ ws))))
  let col := cands.findSome? fun w => c.wantCol ch w
  let c1 := (c.onMc ch fun m => { m with draining := dir.2 }).rowDo ch row
  match col with
  | some (.col w) =>
    if ((c1.mc ch).bankAt w.rank w.bank).row = some w.row then c1.issueCol ch w else c1
  | _ => c1

/-- SCHEDULER_ISSUE (R328): one MCC cycle of a channel whose clocks run. A ZQCS that waited goes first (R339); while ALERT_n
is low no command is issued (R370). -/
def Chip.schedCycle (c : Chip) (ch : Nat) : Chip :=
  if c.mcState ch ≠ mcActive ∧ c.mcState ch ≠ mcSweep then c
  else
    let c1 := c.cycle ch
    if (c.mc ch).alert.low then c1
    else if !c.mcServes ch then c1.refreshOnly ch
    else ((if (c.mc ch).zqOwed then c1.zqcs ch else c1).schedule ch)

def execSchedulerIssue (ch : Nat) (s : State) : Host.Outcome State Fault Refusal :=
  effect s fun c => if ch < 2 then c.schedCycle ch else c

/-- REQUEST_AGE_PROMOTE (R326). -/
def execRequestAgePromote (ch : Nat) (s : State) : Host.Outcome State Fault Refusal :=
  effect s fun c =>
    if 2 ≤ ch then c
    else
      c.onMc ch fun m =>
        { m with
            readQ := m.readQ.map fun e =>
              { e with class0 := decide (c.ageLimit (schedPort e.port) * 64 < e.age)
                       overdue := decide (2 * c.ageLimit (schedPort e.port) * 64 < e.age) }
            writeQ := m.writeQ.map fun e =>
              { e with class0 := decide (c.ageLimit (schedPort e.port) * 64 < e.age)
                       overdue := decide (2 * c.ageLimit (schedPort e.port) * 64 < e.age) } }

/-! ### Refresh, the weir window, ZQ -/

/-- REFRESH_DUE (R335, R338): a refresh falls due for a rank, unless one was pulled in. -/
def execRefreshDue (ch rank : Nat) (s : State) : Host.Outcome State Fault Refusal :=
  effect s fun c =>
    if ch < 2 ∧ rank < 2 ∧ (c.mcState ch = mcActive ∨ c.mcState ch = mcSweep) then
      c.onMc ch fun m =>
        if 0 < m.pulled.getD rank 0 then { m with pulled := m.pulled.set rank (m.pulled.getD rank 0 - 1) }
        else { m with owed := m.owed.set rank (m.owed.getD rank 0 + 1) }
    else c

/-- ZQCS_DUE (R339): every ZQ_INT ms. -/
def execZqcsDue (ch : Nat) (s : State) : Host.Outcome State Fault Refusal :=
  effect s fun c => if ch < 2 then c.zqcs ch else c

/-- WEIR_WINDOW_END (R343). -/
def execWeirWindowEnd (ch : Nat) (s : State) : Host.Outcome State Fault Refusal :=
  effect s fun c => if ch < 2 then c.onMc ch fun m => { m with weir := List.replicate 16 [] } else c

/-- WEIR_IDX_WRITE (Table 7.8): the entry is loaded into MCx_WEIR_ENT. -/
def Chip.weirIdx (c : Chip) (ch : Nat) (v : Word) : Chip :=
  let rank := MCA_WEIR_IDX_RANK.get v
  let bank := MCA_WEIR_IDX_BANK.get v
  let i := MCA_WEIR_IDX_ENTRY.get v
  let e := ((c.mc ch).weir.getD (rank * 8 + bank) []).getD i ⟨0, 0⟩
  (((((c.wr (mcF ch MCA_WEIR_IDX_RANK) rank).wr (mcF ch MCA_WEIR_IDX_BANK) bank).wr (mcF ch MCA_WEIR_IDX_ENTRY) i).wr
    (mcF ch MCA_WEIR_ENT_ROW) e.row).wr (mcF ch MCA_WEIR_ENT_COUNT) e.count)

def execWeirIdxWrite (ch : Nat) (v : Word) (s : State) : Host.Outcome State Fault Refusal :=
  effect s fun c => if ch < 2 then c.guardReg (0x40088 + ch * 0x10000) fun c => c.weirIdx ch v else c

/-! ### The Sluice -/

/-- MIN_TOL: the smallest declared tolerance. -/
def Chip.minTol (c : Chip) : Nat := c.mcx.tol.foldl min 0xFFFF

/-- The queues of a channel are empty, the scrubber's request among them (R377). -/
def Channel.idle (m : Channel) : Bool :=
  m.readQ.isEmpty && m.writeQ.isEmpty && m.nrQ.isEmpty && m.inflight.isEmpty && m.heldReqs.isEmpty && m.scrubRead.isNone
    && !m.pprBusy

/-- MIN_TOL covers an exit latency and GUARD_US. -/
def Chip.tolCovers (c : Chip) (ch latency : Nat) : Bool :=
  decide (latency + c.rd (mcF ch MCA_SLUICE_CFG_GUARD_US) ≤ c.minTol)

/-- The conditions of R345 beyond IDLE_US. -/
def Chip.canSleep (c : Chip) (ch : Nat) : Bool :=
  c.mcState ch == mcActive && c.flag (mcF ch MCA_SLUICE_CFG_SHALLOW_EN) && (c.mc ch).idle
    && c.tolCovers ch (c.rd (mcF ch MCA_SLUICE_EXIT_SHALLOW_US))

/-- SLUICE_ENTRY_START (R345, R361): IDLE_US has passed; dirty check lines are written back. -/
def execSluiceEntryStart (ch : Nat) (s : State) : Host.Outcome State Fault Refusal :=
  effect s fun c =>
    if ch < 2 ∧ c.canSleep ch = true then (c.flushCache ch).onMc ch fun m => { m with sluiceEntry := true } else c

/-- R346: PLL_M stops when every configured channel is shallow, allows it and tolerates it. -/
def Chip.deepEnter (c : Chip) : Chip :=
  if !c.mcConfigured.isEmpty && c.mcConfigured.all fun k =>
      c.mcState k == mcShallow && c.flag (mcF k MCA_SLUICE_CFG_DEEP_EN) && !(c.mc k).sluiceExit
        && c.tolCovers k (c.rd (mcF k MCA_SLUICE_EXIT_DEEP_US)) then
    (c.mcConfigured.foldl (fun c k => c.setMcState k mcDeep) c).stopPll 1
  else c

/-- A declaring client changes its tolerance (R345-R347): PLL_M may now stop. A tolerance that falls wakes the channels by
SLUICE_EXIT_START. -/
def Chip.setTol (c : Chip) (i t : Nat) : Chip := (c.onMcx fun x => { x with tol := x.tol.set i t }).deepEnter

/-- SLUICE_SR_ENTERED (R345, R339, Table 7.6): PREA, every refresh owed and one more of each rank, SRE. -/
def execSluiceSrEntered (ch : Nat) (s : State) : Host.Outcome State Fault Refusal :=
  effect s fun c =>
    if ch < 2 ∧ (c.mc ch).sluiceEntry = true then
      (((c.enterSr ch 1).setMcState ch mcShallow).bump (mcF ch MCA_SLUICE_STAT_ENTRIES) 1).deepEnter
    else c

/-- SLUICE_EXIT_START (R347): a cause of exit; TOLERANCE only while MIN_TOL has fallen below the exit latency of the
depth plus GUARD_US, SCRUB only while 1,024 visits are owed. -/
def execSluiceExitStart (ch cause : Nat) (s : State) : Host.Outcome State Fault Refusal :=
  effect s fun c =>
    if 2 ≤ ch then c
    else
      let lat := if c.mcState ch = mcDeep then c.rd (mcF ch MCA_SLUICE_EXIT_DEEP_US)
        else c.rd (mcF ch MCA_SLUICE_EXIT_SHALLOW_US)
      if cause = 2 then (if c.tolCovers ch lat then c else c.exitStart ch 2)
      else if cause = 4 then (if (c.mc ch).owedVisits = 1024 then c.exitStart ch 4 else c)
      else if cause = 1 ∨ cause = 3 then c.exitStart ch cause
      else c

/-! ### Clients that read and write DRAM as part of an event of their own

DESIGN CHOICE (log entry 102): such an event stands for the completion of its accesses, which are performed at once, in
their order; a line reaches the bus of an ACTIVE channel and wakes one that sleeps. -/

/-- A client's line on the bus: a channel asleep is woken (R347, R348), an ACTIVE one takes the line, and the line is
counted for its port. -/
def Chip.clientLine (c : Chip) (port line : Nat) (write : Bool) (mask : List Bool) : Chip :=
  match c.sysLoc line with
  | none => c
  | some l =>
    if !c.mcAnswers l.ch then c
    else
      let c1 := (c.requestWakes l.ch).bumpLines port
      if c.mcState l.ch ≠ mcActive then c1
      else
        let c2 := c1.lineAccess (c.redirect l) write line mask port
        if write && c.dualWrite l then c2.lineAccess { l with rank := 1 } true line mask port else c2

/-- The lines that `n` bytes from an address on lie in. -/
def linesOf (a n : Nat) : Nat := if n = 0 then 0 else (a + n - 1) / 64 - a / 64 + 1

/-- The words of the line at an address that a run of bytes covers or touches. -/
def runMask (line a n : Nat) : List Bool :=
  (List.range 8).map fun i => decide (a < line + 8 * i + 8 ∧ line + 8 * i < a + n)

/-- A word of the line is covered in part, so that the line is read before it is written (R138). -/
def runPartial (line a n : Nat) : Bool :=
  (List.range 8).any fun i => decide (a < line + 8 * i + 8 ∧ line + 8 * i < a + n ∧ (line + 8 * i < a ∨ a + n < line + 8 * i + 8))

/-- The lines that a client's run of bytes lies in, on the bus. -/
def Chip.clientLines (c : Chip) (port a n : Nat) (write : Bool) : Chip :=
  (List.range (linesOf a n)).foldl
    (fun c i =>
      let line := a / 64 * 64 + 64 * i
      let c1 := if write && runPartial line a n then c.clientLine port line false [] else c
      c1.clientLine port line write (runMask line a n)) c

/-- Perform and remove the queued write of a line, so that a later store of the same line comes after it. -/
def Chip.flushLine (c : Chip) (l : Loc) (line : Nat) : Chip :=
  match (c.mc l.ch).writeQ.find? fun e => e.line == line with
  | none => c
  | some e => ((c.serveWrite e).bumpLines e.port).onMc l.ch fun m => { m with writeQ := m.writeQ.filter fun x => x.line != line }

/-- A client stores one word; a channel that takes no requests stores nothing (R397). -/
def Chip.storeWord (c : Chip) (a w : Nat) : Chip :=
  match c.sysLoc (a / 8 * 8) with
  | none => c
  | some l =>
    if !c.mcAnswers l.ch then c
    else
      ((c.flushLine l (a / 64 * 64)).markScrub l ((List.range 8).map fun i => decide (i = a % 64 / 8))).writeLoc l w

/-- A word with some of its bytes replaced, from byte `k` on. -/
def spliceBytes (w k : Nat) (bs : List Byte) : Nat :=
  leBytes ((List.range 8).map fun i =>
    if k ≤ i ∧ i < k + bs.length then bs.getD (i - k) 0 else BitVec.ofNat 8 (w / 256 ^ i))

/-- A client stores consecutive bytes from a system address on: whole words, and what is left of a word merged. -/
def Chip.storeBytes (fuel : Nat) (c : Chip) (a : Nat) (bs : List Byte) : Chip :=
  match fuel with
  | 0 => c
  | n + 1 =>
    if bs.isEmpty then c
    else
      let k := a % 8
      let head := bs.take (8 - k)
      let old := if head.length = 8 then 0 else ((c.readSys a).map fun r => r.data).getD 0
      Chip.storeBytes n (c.storeWord a (spliceBytes old k head)) (a + head.length) (bs.drop (8 - k))

/-- Store bytes at a system address; an address at or above the installed capacity is discarded and recorded (R311). -/
def Chip.putBytes (c : Chip) (port a : Nat) (bs : List Byte) : Chip :=
  let c1 := if (c.sysLoc a).isNone || (c.sysLoc (a + bs.length - 1)).isNone then c.portErr port 1 else c
  (c1.clientLines port a bs.length true).storeBytes (bs.length + 1) a bs

end Sys2Proof.Machine
end

