-- ==== Sys2Proof/Machine/Integrity.lean ====
section
/-! DEFINITION. Memory integrity (chapter 8): recording errors, the channel policy, FREEZE and its snapshot, the return
of read data, seeding and scrubbing, alerts and replay, post-package repair, and rank migration. -/

namespace Sys2Proof.Machine

/-! ### Recording an error -/

/-- An error as Table 8.9 holds it. `place` is the physical place, `kind` 1 CE, 2 UE, 3 POISON, 4 PAR_FAIL, 5 WCRC_FAIL,
6 HOST_HOLD; `sys` the system address of the word. -/
structure MemError where
  place : Loc
  sys : Nat
  syn : Nat
  kind : Nat
  source : Nat
  spec : Bool
  seeding : Bool
  critical : Bool
  checkbit : Bool
deriving DecidableEq, Repr

/-- The system address lies in an enabled CRITICAL range (Table 8.11). -/
def Chip.isCritical (c : Chip) (a : Nat) : Bool :=
  (List.range 8).any fun n =>
    c.flag (MCX_CRIT_BASE_EN.at n) && decide (c.rd (MCX_CRIT_BASE_BASE.at n) * 4096 ≤ a)
      && decide (a < c.rd (MCX_CRIT_LIM_LIM.at n) * 4096)

/-- The five words of a capture (Table 8.9). -/
def Chip.errWord (c : Chip) (e : MemError) (i : Nat) : Word :=
  match i with
  | 0 => BitVec.ofNat 32 e.sys
  | 1 => BitVec.ofNat 32 (e.place.rank + e.place.bank * 2 + e.place.row * 16 + e.place.off / 2 * 2 ^ 20)
  | 2 =>
    BitVec.ofNat 32 (e.syn % 256 + e.sys / 8 % 8 * 2 ^ 8 + e.kind * 2 ^ 11 + e.source * 2 ^ 14 + b2n e.spec * 2 ^ 24
      + b2n e.seeding * 2 ^ 25 + b2n e.critical * 2 ^ 26 + b2n e.checkbit * 2 ^ 27 + 2 ^ 31)
  | 3 => BitVec.ofNat 32 c.now
  | _ => BitVec.ofNat 32 (c.now / 2 ^ 32)

/-- Write a capture at a register base. -/
def Chip.capture (c : Chip) (base : Nat) (e : MemError) : Chip :=
  (List.range 5).foldl (fun c i => c.setReg (base + 4 * i) (c.errWord e i)) c

/-- A row's place in the candidate table (chapter 8, Post-package repair). -/
def Chip.candF (ch i : Nat) (f : Field) : Field := (mcF ch f).off (4 * i)

/-- The candidate entry of a row. -/
def Chip.candHit (c : Chip) (ch : Nat) (l : Loc) (i : Nat) : Bool :=
  c.flag (Chip.candF ch i MCA_PPR_CAND_VALID) && c.rd (Chip.candF ch i MCA_PPR_CAND_RANK) == l.rank
    && c.rd (Chip.candF ch i MCA_PPR_CAND_BANK) == l.bank && c.rd (Chip.candF ch i MCA_PPR_CAND_ROW) == l.row

/-- Write candidate entry `i`. -/
def Chip.candPut (c : Chip) (ch : Nat) (l : Loc) (i : Nat) (ue : Bool) : Chip :=
  (((((c.wr (Chip.candF ch i MCA_PPR_CAND_VALID) 1).wr (Chip.candF ch i MCA_PPR_CAND_RANK) l.rank).wr
    (Chip.candF ch i MCA_PPR_CAND_BANK) l.bank).wr (Chip.candF ch i MCA_PPR_CAND_ROW) l.row).wr
    (Chip.candF ch i MCA_PPR_CAND_UE) (b2n ue)).wr (Chip.candF ch i MCA_PPR_CAND_COUNT) 0

/-- The entry a new row replaces in a full table: the lowest count not marked UE, the lowest index on a tie. -/
def Chip.candVictim (c : Chip) (ch : Nat) : Option Nat :=
  let free := (List.range 8).filter fun i => !c.flag (Chip.candF ch i MCA_PPR_CAND_UE)
  free.find? fun i => free.all fun j =>
    decide (c.rd (Chip.candF ch i MCA_PPR_CAND_COUNT) ≤ c.rd (Chip.candF ch j MCA_PPR_CAND_COUNT))

/-- An error of a row enters the candidate table: its first error makes an entry, further CEs are counted, a UE marks it. -/
def Chip.candNote (c : Chip) (ch : Nat) (l : Loc) (kind : Nat) : Chip :=
  match (List.range 8).find? fun i => c.candHit ch l i with
  | some i =>
    if kind = 1 then c.bump (Chip.candF ch i MCA_PPR_CAND_COUNT) 1
    else if kind = 2 then c.wr (Chip.candF ch i MCA_PPR_CAND_UE) 1
    else c
  | none =>
    match (List.range 8).find? fun i => !c.flag (Chip.candF ch i MCA_PPR_CAND_VALID) with
    | some i => c.candPut ch l i (kind == 2)
    | none =>
      match c.candVictim ch with
      | some i => c.candPut ch l i (kind == 2)
      | none => c

/-- The error counters of a physical rank, and the MEM event (R401): a CE raises it only while CE is 0 or when it
reaches 0xFFFF. -/
def Chip.countError (c : Chip) (e : MemError) : Chip :=
  let ch := e.place.ch
  let r := 8 * e.place.rank
  if e.kind = 1 then
    let n := c.rd ((mcF ch MCA_CNT_A_CE).off r)
    let c1 := c.bump ((mcF ch MCA_CNT_A_CE).off r) 1
    if n = 0 ∨ n = 0xFFFE then c1.evt evMem else c1
  else if e.kind = 3 then
    (if e.source < 12 then c.bump ((mcF ch MCA_CNT_B_POISON_READ).off r) 1 else c).evt evMem
  else (c.bump ((mcF ch MCA_CNT_A_UE).off r) 1).evt evMem

/-- UNIT of a MEM record (Table 17.6). -/
def memUnit (e : MemError) (event : Nat) : Nat :=
  e.place.ch + (if e.kind < 8 then e.kind else 0) * 2 + e.source * 16 + b2n e.spec * 2 ^ 8 + b2n e.seeding * 2 ^ 9
    + b2n e.critical * 2 ^ 10 + b2n e.checkbit * 2 ^ 11 + event * 2 ^ 12

/-- Record an error: counters, FIRST while it is armed, LAST, the event log (not for a CE), the candidate table, and the
memory-critical input (R366, R401). -/
def Chip.recordError (c : Chip) (e : MemError) : Chip :=
  let ch := e.place.ch
  let c1 := c.countError e
  let c2 := if c.flag (mcF ch MCA_ERR_FIRST2_VALID) then c1 else c1.capture (0x040240 + ch * 0x10000) e
  let c3 := c2.capture (0x040260 + ch * 0x10000) e
  let c4 := if e.kind = 1 then c3 else c3.logRecord 4 0 (memUnit e 0) e.sys
  let c5 := if e.source = 14 then c4 else c4.candNote ch e.place e.kind
  if e.critical && !e.spec then c5.withSafe fun c => c.srcAssert 12 e.sys else c5

/-! ### The snapshot and FREEZE -/

/-- Put two words per entry of a list into a snapshot, from an index on. -/
def snapPairs (base : Nat) (ps : List (Nat × Nat)) : List (Nat × Word) :=
  ps.zipIdx.flatMap fun x =>
    [(base + 2 * x.2, BitVec.ofNat 32 x.1.1), (base + 2 * x.2 + 1, BitVec.ofNat 32 x.1.2)]

/-- Put one word per entry of a list into a snapshot, from an index on. -/
def snapWords (base : Nat) (ws : List Nat) : List (Nat × Word) :=
  ws.zipIdx.map fun x => (base + x.2, BitVec.ofNat 32 x.1)

/-- A mask of eight truth values as a number. -/
def maskNat (m : List Bool) : Nat := ((List.range 8).map fun i => if m.getD i false then 2 ^ i else 0).foldl (· + ·) 0

/-- The snapshot of a channel at t0 (Table 8.6). -/
def Chip.snapshotOf (c : Chip) (ch : Nat) (e : MemError) : List (Nat × Word) :=
  let m := c.mc ch
  let trig := (List.range 5).map fun i => (i, c.errWord e i)
  let state := c.mcState ch + m.readQ.length * 2 ^ 3 + m.writeQ.length * 2 ^ 10 + m.nrQ.length * 2 ^ 16
    + min 31 (m.owed.foldl (· + ·) 0) * 2 ^ 21
  let rq := m.readQ.map fun x => (x.line, x.port + min (x.age / 64) 1023 * 2 ^ 4 + 2 ^ 16 + b2n x.spec * 2 ^ 17)
  let wq := m.writeQ.map fun x => (x.line, x.port + maskNat x.mask * 2 ^ 4 + 2 ^ 12)
  let nq := m.nrQ.map fun x => 1 + x.bank * 2 + x.rank * 2 ^ 4 + x.row * 2 ^ 5
  let rows := m.banks.map fun b => match b.row with | some r => 1 + r * 2 | none => 0
  let cmds := m.history.reverse.map fun x =>
    (x.code + x.rank * 2 ^ 4 + x.bank * 2 ^ 5, x.arg % 65536 + min (m.now - x.time) 0xFFFF * 2 ^ 16)
  let cmdBase := 0x100 + 2 * (64 - min 64 cmds.length)
  (trig ++ [(5, BitVec.ofNat 32 state)] ++ snapPairs 0x010 rq ++ snapPairs 0x090 wq ++ snapWords 0x0D0 nq
    ++ snapWords 0x0E0 rows ++ snapPairs cmdBase cmds).filter fun p => decide (p.2 ≠ 0)

/-- FREEZE of one channel starts (R397, Table 8.5): the snapshot, no new request, queued reads abandoned, light dark, a
MEM record of EVENT 2. -/
def Chip.freezeStart (c : Chip) (ch : Nat) (e : MemError) (addr : Nat) : Chip :=
  let c1 := ((c.onMc ch fun m => { m with snapshot := c.snapshotOf ch e, sluiceEntry := false }).wr
    (mcF ch MCA_ECC_STAT_FROZEN) 1).abandonReads ch
  ((c1.onLk fun k => { k with freezeDark := true }).logRecord 4 0
    (memUnit (if e.kind = 6 then { e with kind := 0 } else e) 2) addr).evt evMem

/-- The modes E10 can be taken from (Table 1.4). -/
def Mode.canFreeze (m : Mode) : Bool :=
  m == .load || m == .calibrate || m == .mirror || m == .scan || m == .panel

/-- A policy FREEZE: not in HOLD, not for a channel that is frozen already, and only from a mode that has E10. -/
def Chip.policyFreeze (c : Chip) (e : MemError) : Chip :=
  if c.mode.mode.canFreeze && !c.isFrozen e.place.ch then
    (c.freezeStart e.place.ch e e.sys).forceEdge .e10 .hold causeFreeze
  else c

/-- Migration starts (Table 8.4). -/
def Chip.migStart (c : Chip) (ch : Nat) : Chip :=
  (c.wr ((MCX_MIG_STAT_PROGRESS).at ch) 0).setMig ch 1

/-- The channel has a spare rank (R368). -/
def Chip.hasSpare (c : Chip) (ch : Nat) : Bool := c.mcSpare ch && (c.migState ch == 0 || c.migState ch == 5)

/-- A policy event (R365, R367, Table 8.3): migration starts from IDLE only; an aborted one waits for START (Table 8.4). -/
def Chip.policyEvent (c : Chip) (e : MemError) : Chip :=
  let ch := e.place.ch
  if c.flag (mcF ch MCA_ECC_CTL_POLICY) then c.policyFreeze e
  else if e.source = 14 then c
  else
    let redirected := c.flag ((MCX_MIG_STAT_REDIRECT).at ch)
    if e.place.rank = 0 ∧ c.mcSpare ch = true ∧ c.migState ch = 0 then c.migStart ch
    else if c.hasSpare ch then c
    else if (e.place.rank = 0 ∧ redirected = false) ∨ (e.place.rank = 1 ∧ redirected = true) then
      c.bump (mcF ch MCA_RETRY_CNT_MIG_NOSPARE) 1
    else c

/-- The CEs of physical rank 0 in the scrub pass, and the event when they reach MIG_CE under MIGRATE (R365). -/
def Chip.noteMigCe (c : Chip) (e : MemError) : Chip :=
  let ch := e.place.ch
  if e.kind ≠ 1 ∨ e.place.rank ≠ 0 ∨ e.spec = true ∨ e.seeding = true then c
  else
    let n := (c.mc ch).migCe + 1
    let c1 := c.onMc ch fun m => { m with migCe := n }
    let lim := c.rd (mcF ch MCA_ECC_CTL_MIG_CE)
    if lim ≠ 0 ∧ n = lim ∧ c.flag (mcF ch MCA_ECC_CTL_POLICY) = false then c1.policyEvent e else c1

/-- An error is recorded and its policy judged (R365). -/
def Chip.memError (c : Chip) (e : MemError) : Chip :=
  let c1 := (c.recordError e).noteMigCe e
  if e.kind = 2 ∧ e.source ≠ 15 ∧ e.spec = false ∧ e.seeding = false then c1.policyEvent e else c1

/-- The error that a classified word stands for. -/
def Chip.errorOf (c : Chip) (l : Loc) (sys source : Nat) (spec : Bool) (r : WordRead) : MemError :=
  { place := l, sys := sys, syn := r.syn, kind := r.cls, source := source, spec := spec
    seeding := !c.flag (mcF l.ch MCA_ECC_STAT_SEEDED), critical := c.isCritical sys, checkbit := r.inCheck }

/-- A client's read of a word met an error: recorded with the client's port (R363, R364). -/
def Chip.noteRead (c : Chip) (port a : Nat) (r : WordRead) : Chip :=
  if r.cls = 0 then c
  else
    match c.sysLoc (a / 8 * 8) with
    | none => c
    | some l => c.memError (c.errorOf (c.redirect l) (a / 8 * 8) port false r)

/-- Record the errors of `n` words that a client read from a system address on. -/
def Chip.noteReads (c : Chip) (port a n : Nat) : Chip :=
  (List.range n).foldl
    (fun c i => match c.readSys (a + 8 * i) with | some r => c.noteRead port (a + 8 * i) r | none => c) c

/-! ### Read data -/

/-- One read returns: every word classified, errors recorded, the line delivered in request order (R355, R363, R364). -/
def Chip.readReturn (c : Chip) (ch : Nat) (x : Inflight) (rest : List Inflight) : Chip :=
  let c1 := c.onMc ch fun m => { m with inflight := rest }
  let words : List WordRead := x.raw.map fun p => classify p.1 p.2
  let c2 :=
    match c.sysLoc x.entry.line with
    | none => c1
    | some l =>
      words.zipIdx.foldl
        (fun (c : Chip) (w : WordRead × Nat) =>
          if w.1.cls = 0 then c
          else
            let k := c.redirect { l with off := l.off + 8 * w.2 }
            c.memError (c.errorOf k (x.entry.line + 8 * w.2) x.entry.port x.entry.spec w.1)) c1
  c2.deliver ⟨x.entry.port, x.entry.id, words.map fun w => (w.data, if x.ue then 2 else w.cls)⟩

/-- READ_DATA_RETURN (R355). -/
def execReadDataReturn (ch : Nat) (s : State) : Host.Outcome State Fault Refusal :=
  effect s fun c =>
    if 2 ≤ ch then c
    else
      match (c.mc ch).inflight with
      | [] => c
      | x :: rest => c.readReturn ch x rest

/-- FREEZE_SR_ENTERED (R397, R361, Table 8.5): the write queue has drained, dirty check lines are written back, PREA and the
owed refreshes are issued, SRE is complete. -/
def execFreezeSrEntered (ch : Nat) (s : State) : Host.Outcome State Fault Refusal :=
  effect s fun c =>
    if ch < 2 ∧ c.flag (mcF ch MCA_ECC_STAT_FROZEN) = true ∧ c.mcState ch ≠ mcFrozen ∧ c.mcState ch ≠ mcOff then
      (((c.drainWrites ch).enterSr ch 0).onMc ch fun m => { m with scrubRead := none }).setMcState ch mcFrozen
    else c

/-- SNAP_IDX_WRITE (R398): MCx_SNAP_DATA reads the word it selects. -/
def Chip.snapIdx (c : Chip) (ch : Nat) (v : Word) : Chip := c.wr (mcF ch MCA_SNAP_IDX_IDX) (MCA_SNAP_IDX_IDX.get v)

/-- The snapshot word that MCx_SNAP_IDX selects. -/
def Chip.snapWord (c : Chip) (ch : Nat) : Word :=
  SMap.get (fun _ => 0) (c.mc ch).snapshot (c.rd (mcF ch MCA_SNAP_IDX_IDX))

def execSnapIdxWrite (ch : Nat) (v : Word) (s : State) : Host.Outcome State Fault Refusal :=
  effect s fun c => if ch < 2 then c.guardReg (0x402C0 + ch * 0x10000) fun c => c.snapIdx ch v else c

/-- ERR_FIRST_CLEAR: writing VALID of MCx_ERR_FIRST2 as 1 arms the capture for the next error. -/
def execErrFirstClear (ch : Nat) (s : State) : Host.Outcome State Fault Refusal :=
  effect s fun c =>
    if ch < 2 then c.guardReg (0x40248 + ch * 0x10000) fun c => c.wr (mcF ch MCA_ERR_FIRST2_VALID) 0 else c

/-! ### Alerts (R369-R373) -/

/-- RETRY_WIN and RETRY_MAX as they behave (Table 8.8). -/
def Chip.retryWin (c : Chip) (ch : Nat) : Nat := min 64 (max 16 (c.rd (mcF ch MCA_RETRY_CTL_RETRY_WIN)))
def Chip.retryMax (c : Chip) (ch : Nat) : Nat := max 1 (c.rd (mcF ch MCA_RETRY_CTL_RETRY_MAX))

/-- A write of the window leaves the words it names as the DRAM holds them: which they are is open (R373). -/
def Chip.scrambleLine (c : Chip) (ch : Nat) (d : DramCmd) : Chip :=
  (List.range 8).foldl
    (fun c i =>
      if d.mask.getD i false then
        (c.writeRaw ⟨ch, d.rank, d.bank, d.row, d.arg * 2 + 8 * i⟩ (Config.freeNat c.free)
          (Config.freeNat (c.free + 1))).takeFree.takeFree
      else c) c

/-- The event is exhausted (R373): reads of the window are tagged UE, its writes are open, one UE with SOURCE 14 is
recorded, and the policy is judged. No command follows until ALERT_n rises (R370). -/
def Chip.retryExhaust (c : Chip) (ch : Nat) : Chip :=
  let w := (c.mc ch).alert.window
  let rank := (w.headD (busCmd 0 0 0 0)).rank
  let c1 := c.onMc ch fun m =>
    { m with alert := { m.alert with exhausted := true, window := [] }
             inflight := m.inflight.map fun x =>
               if w.any fun d => d.code == 4 && d.line == x.entry.line then { x with ue := true } else x }
  let c2 := (w.filter fun d => d.code == 5).foldl (fun c d => c.scrambleLine ch d) c1
  let e : MemError :=
    { place := ⟨ch, rank, 0, 0, 0⟩, sys := 0, syn := 0, kind := if (c.mc ch).alert.parity then 4 else 5, source := 14
      spec := false, seeding := !c.flag (mcF ch MCA_ECC_STAT_SEEDED), critical := false, checkbit := false }
  let c3 := (c2.recordError e).bump (mcF ch MCA_RETRY_CNT_RETRY_FAIL) 1
  if e.seeding then c3 else c3.policyEvent e

/-- ALERT_FALL (R369, R370, R373): `width` of the low pulse in tCK. -/
def Chip.alertFall (c : Chip) (ch width : Nat) : Chip :=
  let m := c.mc ch
  if c.tim ch MCA_CFG_CA_PAR_EN = 0 ∧ c.tim ch MCA_CFG_WCRC_EN = 0 then c
  else
    let par := decide (24 ≤ width)
    let again := decide (0 < m.alert.attempts) && decide (m.now ≤ m.alert.replayAt + c.retryWin ch)
    let window := m.history.filter fun d => decide (m.now ≤ d.time + c.retryWin ch)
    let c1 := (c.bump (if par then mcF ch MCA_ALERT_CNT_PAR else mcF ch MCA_ALERT_CNT_WCRC) 1).onMc ch fun m =>
      { m with alert := { m.alert with
          low := true, parity := par, attempts := if again then m.alert.attempts else 0
          window := if again then m.alert.window else window } }
    if again ∧ c.retryMax ch ≤ m.alert.attempts then c1.retryExhaust ch else c1

def execAlertFall (ch width : Nat) (s : State) : Host.Outcome State Fault Refusal :=
  effect s fun c => if ch < 2 then c.alertFall ch width else c

/-- A command of the window is issued again (R372): banks, weir table and history follow it, and a row is reopened for an
RD or WR that needs it. -/
def Chip.replayCmd (c : Chip) (ch : Nat) (d : DramCmd) : Chip :=
  let bank := fun (f : BankState → BankState) => (c.onBank ch d.rank d.bank f).dramCmd ch d
  match d.code with
  | 0 =>
    let c1 := bank fun b => { b with row := some d.arg, actAt := (c.mc ch).now }
    if d.nr then c1 else c1.weirAct ch d.rank d.bank d.arg
  | 1 => bank fun b => { b with row := none, preAt := (c.mc ch).now }
  | 2 => (c.onMc ch fun m => { m with banks := m.banks.map fun b => { b with row := none, preAt := m.now } }).dramCmd ch d
  | 3 => c.issueRef ch d.rank
  | 4 => c.busLine ⟨ch, d.rank, d.bank, d.row, d.arg * 2⟩ false d.line d.mask 12
  | 5 => c.busLine ⟨ch, d.rank, d.bank, d.row, d.arg * 2⟩ true d.line d.mask 12
  | _ => c.dramCmd ch d

/-- After a CA parity alert (R371): PREA, and MR5 of every rank rewritten from MCx_MR5, which the DRAM then holds. -/
def Chip.parityFix (c : Chip) (ch : Nat) : Chip :=
  let a := 0x040024 + ch * 0x10000
  ((c.preAll ch).allRanks ch 6 5 (c.get a).toNat).setEff a (c.get a)

/-- ALERT_RETRY_REPLAY (R371, R372): ALERT_n rises; after parity PREA and MR5, then the commands of the window in their
order. Every command is idempotent, so DRAM keeps what they left. An exhausted event is over. -/
def Chip.alertReplay (c : Chip) (ch : Nat) : Chip :=
  let m := c.mc ch
  if m.alert.low = false then c
  else if m.alert.exhausted then
    c.onMc ch fun m => { m with alert := { m.alert with low := false, exhausted := false, attempts := 0 } }
  else
    let c1 := if m.alert.parity then c.parityFix ch else c
    let c2 := m.alert.window.reverse.foldl (fun c d => c.replayCmd ch d) c1
    c2.onMc ch fun m =>
      { m with alert := { m.alert with low := false, attempts := m.alert.attempts + 1, replayAt := m.now } }

def execAlertRetryReplay (ch : Nat) (s : State) : Host.Outcome State Fault Refusal :=
  effect s fun c => if ch < 2 then c.alertReplay ch else c

/-! ### Seeding and scrubbing (R374-R382) -/

/-- The in-service ranks of a channel in the scrubber's order (R376, R396). -/
def Chip.scrubRanks (c : Chip) (ch : Nat) : List Nat :=
  let first := if c.migState ch = 4 then 1 else 0
  if c.mcTwoRanks ch then (if first = 1 then [1] else [0, 1]) else [first]

/-- The place of a line of a rank: bank, row, line ascending (R376). -/
def Chip.linePlace (c : Chip) (ch rank n : Nat) : Loc :=
  ⟨ch, rank, n / 32 / c.mcDataRows ch, n / 32 % c.mcDataRows ch, n % 32 * 64⟩

/-- The lines of a rank. -/
def Chip.rankLines (c : Chip) (ch : Nat) : Nat := 8 * c.mcDataRows ch * 32

/-- The scrubber's position. -/
def Chip.scrubPlace (c : Chip) (ch : Nat) : Loc :=
  c.linePlace ch (c.rd (MCX_SCRUB_POS_RANK.at ch)) (c.rd (MCX_SCRUB_POS_LINE.at ch))

/-- Put the scrubber at the first line of a rank. -/
def Chip.scrubAt (c : Chip) (ch rank line : Nat) : Chip :=
  (c.wr (MCX_SCRUB_POS_RANK.at ch) rank).wr (MCX_SCRUB_POS_LINE.at ch) line

/-- The scrubber moves on by one line; at the end of the last rank a pass ends: the seeding pass sets SEEDED, every
other raises PASSES (R374, R376), and the CE count of the pass restarts (R365). -/
def Chip.scrubNext (c : Chip) (ch : Nat) : Chip :=
  let n := c.rd (MCX_SCRUB_POS_LINE.at ch) + 1
  let rank := c.rd (MCX_SCRUB_POS_RANK.at ch)
  if n < c.rankLines ch then c.scrubAt ch rank n
  else
    match (c.scrubRanks ch).find? fun r => rank < r with
    | some r => c.scrubAt ch r 0
    | none =>
      let c1 := (c.scrubAt ch ((c.scrubRanks ch).headD 0) 0).onMc ch fun m => { m with migCe := 0 }
      if c.flag (mcF ch MCA_ECC_STAT_SEEDED) then c1.bump (MCX_SCRUB_PASS_PASSES.at ch) 1
      else c1.wr (mcF ch MCA_ECC_STAT_SEEDED) 1

/-- The write queue holds a word of a line. -/
def Chip.wordQueued (c : Chip) (ch line i : Nat) : Bool :=
  (c.mc ch).writeQ.any fun e => e.line == line && e.mask.getD i false

/-- The system address that reaches a physical place. -/
def Chip.placeSys (c : Chip) (l : Loc) : Nat :=
  c.locSys (if c.flag ((MCX_MIG_STAT_REDIRECT).at l.ch) && l.rank == 1 then { l with rank := 0 } else l)

/-- The scrubber's channel is held: the cases of R379, a frozen channel (R397), ALERT_n low (R370), and FLIP_WAIT and FLIP,
in which rank 0 is not covered (R396). -/
def Chip.scrubHeld (c : Chip) (ch : Nat) : Bool :=
  c.mode.moored || c.mode.mode == .standby || c.mode.mode == .hold || c.mode.mode == .deepSleep
    || c.mcState ch == mcSweep || (c.mc ch).pprBusy || c.isFrozen ch || (c.mc ch).alert.low
    || c.migState ch == 2 || c.migState ch == 3

/-- The scrubber pauses (R379, MCX_SCRUB_CTL.EN). -/
def Chip.scrubPaused (c : Chip) (ch : Nat) : Bool :=
  c.scrubHeld ch || !c.flag MCX_SCRUB_CTL_EN || !c.mcConf ch || !c.flag (mcF ch MCA_ECC_STAT_SEEDED)

/-- The words of a line that a visit writes back: nothing reaches the bus where there is none (R377). -/
def Chip.visitWrite (c : Chip) (l : Loc) (line : Nat) (mask : List Bool) : Chip :=
  if mask.any id then (c.lineAccess l true line mask 11).bumpLines 11 else c

/-- A seeding visit writes word `i`: it is not clean, and no queued port write covers it (R374, R380). -/
def Chip.seedWrites (c : Chip) (ch : Nat) (l : Loc) (line i : Nat) : Bool :=
  decide ((c.readPhys { l with off := l.off + 8 * i }).cls ≠ 0) && !c.wordQueued ch line i

/-- SEED_VISIT_DUE (R374, R377, R380): a CE word is written back corrected, a UE or POISON word as data 0 with check 0; a
word that a queued port write covers is left to it. -/
def Chip.seedVisit (c : Chip) (ch : Nat) : Chip :=
  let l := c.scrubPlace ch
  let line := c.placeSys l
  let mask := (List.range 8).map fun i => c.seedWrites ch l line i
  let c1 := ((c.lineAccess l false line [] 11).bumpLines 11).visitWrite l line mask
  let c2 := (List.range 8).foldl
    (fun (d : Chip) i =>
      let k := { l with off := l.off + 8 * i }
      let r := c.readPhys k
      if mask.getD i false then d.writePhys k (if r.cls = 1 then r.data else 0) else d) c1
  c2.scrubNext ch

def execSeedVisitDue (ch : Nat) (s : State) : Host.Outcome State Fault Refusal :=
  effect s fun c =>
    if ch < 2 ∧ c.mcState ch = mcActive ∧ c.flag (mcF ch MCA_ECC_STAT_SEEDED) = false ∧ c.scrubHeld ch = false then
      c.seedVisit ch
    else c

/-- A visit's read is issued through port SYS; its ACTs count in the weir table (R377). -/
def Chip.scrubStart (c : Chip) (ch : Nat) : Chip :=
  let l := c.scrubPlace ch
  ((c.lineAccess l false (c.placeSys l) [] 11).bumpLines 11).onMc ch fun m =>
    { m with scrubRead := some ⟨l, List.replicate 8 false⟩ }

/-- SCRUB_VISIT_DUE (R375, R378, R379). -/
def Chip.scrubDue (c : Chip) (ch : Nat) : Chip :=
  if c.scrubPaused ch then c
  else if c.mcState ch = mcShallow ∨ c.mcState ch = mcDeep then
    let n := min 1024 ((c.mc ch).owedVisits + 1)
    let c1 := c.onMc ch fun m => { m with owedVisits := n }
    if n = 1024 then c1.exitStart ch 4 else c1
  else if c.mcState ch = mcActive ∧ (c.mc ch).scrubRead = none then c.scrubStart ch
  else c

def execScrubVisitDue (ch : Nat) (s : State) : Host.Outcome State Fault Refusal :=
  effect s fun c => if ch < 2 then c.scrubDue ch else c

/-- An owed visit follows, back to back (R378). -/
def Chip.owedVisit (c : Chip) (ch : Nat) : Chip :=
  if 0 < (c.mc ch).owedVisits ∧ c.mcState ch = mcActive ∧ c.scrubPaused ch = false then
    (c.onMc ch fun m => { m with owedVisits := m.owedVisits - 1 }).scrubStart ch
  else c

/-- A visit writes word `i` back: a CE word corrected, a UE word poisoned unless a port read of its line is pending, and
neither where a port write has overtaken it (R375, R380-R382). -/
def Chip.scrubWrites (c : Chip) (l : Loc) (pending : Bool) (r : ScrubRead) (i : Nat) : Bool :=
  let cls := (c.readPhys { l with off := l.off + 8 * i }).cls
  !r.dropped.getD i false && (cls == 1 || cls == 2 && !pending)

/-- One word of a scrub visit (R375, R380-R382): recorded, but for a UE word that a pending port read will meet, and
written back where `write`. -/
def Chip.scrubWord (c : Chip) (ch : Nat) (l : Loc) (line : Nat) (pending write : Bool) (i : Nat) : Chip :=
  let k := { l with off := l.off + 8 * i }
  let r := c.readPhys k
  let e := c.errorOf k (line + 8 * i) 12 false r
  if r.cls = 0 then c
  else if r.cls = 1 then
    let c1 := c.memError e
    if write then c1.writePhys k r.data else c1
  else if r.cls = 3 then (c.memError e).bump (mcF ch MCA_ECC_STAT_POISON_SEEN) 1
  else if pending then c
  else
    let c1 := if write then (c.writeRaw k poisonData 0xF5).bump ((mcF ch MCA_CNT_B_POISONED).off (8 * k.rank)) 1 else c
    c1.memError e

/-- SCRUB_READ_RETURN (R375, R377, R380-R382). -/
def Chip.scrubReturn (c : Chip) (ch : Nat) (r : ScrubRead) : Chip :=
  let line := c.placeSys r.loc
  let pending := (c.mc ch).readQ.any fun e => e.line == line
  let mask := (List.range 8).map fun i => c.scrubWrites r.loc pending r i
  let c1 := (c.onMc ch fun m => { m with scrubRead := none }).visitWrite r.loc line mask
  let c2 := (List.range 8).foldl (fun c i => c.scrubWord ch r.loc line pending (mask.getD i false) i) c1
  (c2.scrubNext ch).owedVisit ch

def execScrubReadReturn (ch : Nat) (s : State) : Host.Outcome State Fault Refusal :=
  effect s fun c =>
    if 2 ≤ ch then c
    else
      match (c.mc ch).scrubRead with
      | none => c
      | some r => c.scrubReturn ch r

/-! ### The end of initialisation and of a Sluice exit -/

/-- MC_INIT_COMPLETE (R318, R374, R389, Table 7.5): the mode registers and ZQCL, up to eight soft repairs re-applied
and the others skipped, STATE = ACTIVE, weir tables empty, seeding from the first line. -/
def Chip.initComplete (c : Chip) (ch : Nat) : Chip :=
  if c.mcState ch ≠ mcInit ∨ (c.mc ch).cke = false then c
  else
    let soft := (c.mc ch).softRecords
    let c1 := [3, 6, 5, 4, 2, 1, 0].foldl
      (fun c r => c.allRanks ch 6 r (c.getEff (0x040010 + 4 * r + ch * 0x10000)).toNat) c
    let c2 := (c1.allRanks ch 7 0 0).onMc ch fun m =>
      { m with everInit := true, srCells := true, now := 65536, weir := List.replicate 16 []
               weirHeld := List.replicate 16 none, nrQ := [], refAt := [0, 0], zqOwed := false, owed := [0, 0]
               pulled := [0, 0], owedVisits := 0, scrubRead := none, migCe := 0, softRows := soft.take 8
               banks := List.replicate 16 BankState.reset, actTimes := [], colAt := 0, pprBusy := false }
    let c3 := c2.bump (mcF ch MCA_PPR_CTL_PPR_SKIP) (soft.length - 8)
    (c3.setMcState ch mcActive).scrubAt ch ((c3.scrubRanks ch).headD 0) 0

def execMcInitComplete (ch : Nat) (s : State) : Host.Outcome State Fault Refusal :=
  effect s fun c => if ch < 2 then c.initComplete ch else c

/-- SLUICE_EXIT_COMPLETE (R347, R343, R339, Table 7.7): reads are allowed again; owed scrub visits start. From SR_DEEP
PLL_M must have held lock. -/
def Chip.exitComplete (c : Chip) (ch : Nat) : Chip :=
  if (c.mc ch).sluiceExit = false ∨ (c.pll 1).held = false then c else (c.wakeChannel ch).owedVisit ch

/-! ### Post-package repair (R386-R389) -/

/-- A repair result: DONE, RESULT, SAVE_UE, and its MEM record of EVENT 3 (R401, Table 17.6). -/
def Chip.pprEnd (c : Chip) (ch result : Nat) (hard ue : Bool) : Chip :=
  let c1 := ((c.wr (mcF ch MCA_PPR_CTL_DONE) 1).wr (mcF ch MCA_PPR_CTL_RESULT) result).wr (mcF ch MCA_PPR_CTL_SAVE_UE)
    (b2n ue)
  (c1.logRecord 4 0 (ch + 0x3000) (result + 8 * b2n hard + 16 * b2n ue)).evt evMem

/-- The row MCx_PPR_ADDR names. -/
def Chip.pprLoc (c : Chip) (ch : Nat) : Loc :=
  ⟨ch, c.rd (mcF ch MCA_PPR_ADDR_RANK), c.rd (mcF ch MCA_PPR_ADDR_BANK), c.rd (mcF ch MCA_PPR_ADDR_ROW), 0⟩

/-- The 32 lines of a repair's row on the bus. A row of check bytes has no check bytes of its own. -/
def Chip.pprLines (c : Chip) (l : Loc) (write : Bool) : Chip :=
  (List.range 32).foldl
    (fun c n =>
      let k := { l with off := 64 * n }
      if l.row < c.mcDataRows l.ch then c.lineAccess k write 0 [] 12 else c.busLine k write 0 [] 12) c

/-- A word of a repair's row as the buffer takes it, with its check byte and whether it was UE (R387): corrected, a UE or
POISON word as poison; a row of check bytes as it is. -/
def Chip.pprRead (c : Chip) (k : Loc) : (Nat × Nat) × Bool :=
  if c.mcDataRows k.ch ≤ k.row then ((c.rawWord k, 0), false)
  else
    let r := c.readPhys k
    if 2 ≤ r.cls then ((poisonData, 0xF5), r.cls == 2) else ((r.data, checkByte r.data), false)

/-- A word of the buffer is written back: with its check byte, or into a row of check bytes as it is. -/
def Chip.pprStore (c : Chip) (k : Loc) (w : Nat × Nat) : Chip :=
  if c.mcDataRows k.ch ≤ k.row then { c with dram := SMap.setRun dramDefault c.dram k.key 1 (toLe 8 w.1) }
  else c.writeRaw k w.1 w.2

/-- MCx_PPR_CTL (R386, R387): GO reads the row into the buffer with correction, or is refused. A row that is never read or
written (R358) is refused too (DESIGN CHOICE, log entry 101). -/
def Chip.pprGo (c : Chip) (ch : Nat) (v : Word) : Chip :=
  let c1 := c.wr (mcF ch MCA_PPR_CTL_HARD) (MCA_PPR_CTL_HARD.get v)
  if MCA_PPR_CTL_GO.get v = 0 ∨ (c.mc ch).pprBusy = true then c1
  else
    let c2 := ((c1.wr (mcF ch MCA_PPR_CTL_DONE) 0).wr (mcF ch MCA_PPR_CTL_RESULT) 0).wr (mcF ch MCA_PPR_CTL_SAVE_UE) 0
    let hard := decide (MCA_PPR_CTL_HARD.get v = 1)
    let l := c.pprLoc ch
    if c.mode.mode ≠ .calibrate ∨ c.mcState ch ≠ mcActive ∨ c.mcUsedRows ch ≤ l.row then c2.pprEnd ch 2 hard false
    else
      let rs := (List.range 256).map fun i => c.pprRead { l with off := 8 * i }
      (c2.pprLines l false).onMc ch fun m =>
        { m with pprBusy := true, pprUe := rs.any fun r => r.2, pprBuf := rs.map fun r => r.1, pprAt := l, pprHard := hard }

def execPprGo (ch : Nat) (v : Word) (s : State) : Host.Outcome State Fault Refusal :=
  effect s fun c => if ch < 2 then c.guardReg (0x40280 + ch * 0x10000) fun c => c.pprGo ch v else c

/-- A repair that matched (R388): the row is mapped out, a soft repair until the DRAM loses power (R389), and a DRAM_PPR
record of the type used is requested (Table 6.7: UNIT bit 1 the channel, bit 0 the rank; DATA bank, row, soft or hard). -/
def Chip.pprKeep (c : Chip) (ch : Nat) (l : Loc) (hard : Bool) : Chip :=
  let c1 := if hard then c else c.onMc ch fun m => { m with softRows := m.softRows ++ [[l.rank, l.bank, l.row]] }
  c1.blockRecord 0x10 (ch * 2 + l.rank) [l.bank / 4, l.bank % 4, l.row % 256, l.row / 256, 0, 0, b2n hard]

/-- PPR_DONE (R387, R388): the repair sequence has activated the row, the buffer is written back, and the row is read back;
`equal`: it compared with the buffer. -/
def Chip.pprDone (c : Chip) (ch : Nat) (equal : Bool) : Chip :=
  let m := c.mc ch
  if m.pprBusy = false then c
  else
    let l := { m.pprAt with ch := ch }
    let c1 := ((((c.preAll ch).openRow l).issuePre ch l.rank l.bank).pprLines l true).pprLines l false
    let c2 := m.pprBuf.zipIdx.foldl (fun (c : Chip) (w : (Nat × Nat) × Nat) => c.pprStore { l with off := 8 * w.2 } w.1) c1
    let c3 := (c2.onMc ch fun m => { m with pprBusy := false, pprBuf := [], pprUe := false }).pprEnd ch
      (if equal then 1 else 3) m.pprHard m.pprUe
    if equal then c3.pprKeep ch l m.pprHard else c3

def execPprDone (ch : Nat) (equal : Bool) (s : State) : Host.Outcome State Fault Refusal :=
  effect s fun c => if ch < 2 then c.pprDone ch equal else c

/-! ### Rank migration (R390-R396, Table 8.4) -/

/-- MIG_START: START is ignored unless the state is IDLE or ABORTED with SPARE_RANK = 1. -/
def Chip.migGo (c : Chip) (ch : Nat) : Chip :=
  if c.hasSpare ch then c.migStart ch else c

def execMigStart (ch : Nat) (s : State) : Host.Outcome State Fault Refusal :=
  effect s fun c => if ch < 2 then c.guardReg 0x60420 fun c => c.migGo ch else c

/-- MIG_ABORT (R394). -/
def execMigAbort (ch : Nat) (s : State) : Host.Outcome State Fault Refusal :=
  effect s fun c => if ch < 2 then c.guardReg 0x60420 fun c => c.migAbort ch else c

/-- A queued read leaves for DRAM outside the scheduler. -/
def Chip.serveRead (c : Chip) (ch : Nat) (e : ReadEntry) : Chip :=
  match c.sysLoc e.line with
  | none => c
  | some l => (c.lineAccess (c.redirect l) false e.line [] e.port).readLeft ch e (c.redirect l)

/-- Both queues of a channel drain (Table 8.4): the reads that no older write of their line precedes, the writes, then the
other reads (R331, R332). -/
def Chip.drainQueues (c : Chip) (ch : Nat) : Chip :=
  let m := c.mc ch
  let behind := fun (r : ReadEntry) => m.writeQ.any fun w => w.line == r.line && decide (w.seq < r.seq)
  let serve := fun (c : Chip) (rs : List ReadEntry) => rs.foldl (fun c e => c.serveRead ch e) c
  let c1 := (serve (c.onMc ch fun m => { m with readQ := [] }) (m.readQ.filter fun r => !behind r)).drainWrites ch
  serve c1 (m.readQ.filter behind)

/-- FLIP starts: the queues drain, new requests are held from now on, REDIRECT is set (Table 8.4). -/
def Chip.migFlip (c : Chip) (ch : Nat) : Chip :=
  ((c.drainQueues ch).setMig ch 3).wr ((MCX_MIG_STAT_REDIRECT).at ch) 1

/-- Scan-out A produces frame boundaries. -/
def Chip.soaRuns (c : Chip) : Bool := c.rd SOA_STAT_STATE != 0

/-- One word is copied from rank 0 to rank 1: corrected, a UE as poison and counted (R391), a POISON word as it is;
each error is recorded (R401). -/
def Chip.copyWord (c : Chip) (ch : Nat) (k : Loc) (sys : Nat) : Chip :=
  let r := c.readPhys k
  let k1 := { k with rank := 1 }
  if r.cls = 2 then
    ((c.recordError (c.errorOf k sys 13 false r)).writeRaw k1 poisonData 0xF5).bump
      ((mcF ch MCA_CNT_B_POISONED).off 8) 1
  else if r.cls = 3 then (c.recordError (c.errorOf k sys 13 false r)).writeRaw k1 poisonData 0xF5
  else
    let c1 := if r.cls = 1 then (c.recordError (c.errorOf k sys 13 false r)).noteMigCe (c.errorOf k sys 13 false r) else c
    c1.writePhys k1 r.data

/-- MIG_COPY_LINE (R390-R393): the next line; after the last one FLIP_WAIT, and FLIP at once when scan-out A produces no
boundary. -/
def Chip.migCopy (c : Chip) (ch : Nat) : Chip :=
  let n := c.rd ((MCX_MIG_STAT_PROGRESS).at ch)
  let l := c.linePlace ch 0 n
  let line := c.locSys l
  let mask := (List.range 8).map fun i => !c.wordQueued ch line i
  let c0 := c.lineAccess l false line [] 12
  let c1 := (List.range 8).foldl
    (fun c i => if mask.getD i false then c.copyWord ch { l with off := l.off + 8 * i } (line + 8 * i) else c)
    (if mask.any id then c0.lineAccess { l with rank := 1 } true line mask 12 else c0)
  let c2 := c1.wr ((MCX_MIG_STAT_PROGRESS).at ch) (n + 1)
  if n + 1 < c.rankLines ch then c2
  else
    let c3 := c2.setMig ch 2
    if c3.soaRuns then c3 else c3.migFlip ch

def execMigCopyLine (ch : Nat) (s : State) : Host.Outcome State Fault Refusal :=
  effect s fun c =>
    if ch < 2 ∧ c.migState ch = 1 ∧ c.mcState ch = mcActive ∧ c.mode.mode ≠ .hold ∧ c.isFrozen ch = false
      ∧ (c.mc ch).alert.low = false ∧ (c.mc ch).pprBusy = false then c.migCopy ch
    else c

/-- The requests that a flip held enter their channel, in their order. -/
def Chip.releaseReqs (c : Chip) (ch : Nat) : Chip :=
  (c.mc ch).heldReqs.foldl
    (fun c r =>
      if r.write then
        match c.sysLoc r.line with
        | none => c
        | some l => c.queueWrite r.port l r.line r.mask r.words
      else c.readEnters r.port r.id ch r.line r.spec)
    ((c.onMc ch fun m => { m with heldReqs := [] }).requestWakes ch)

/-- MIG_FLIP_COMPLETE (R395): RETIRED, with a RANK_MIGRATED record; the held requests go on, and the scrubber covers rank 1
instead (R396). -/
def Chip.migDone (c : Chip) (ch : Nat) : Chip :=
  if c.migState ch ≠ 3 then c
  else
    let c1 := c.setMig ch 4
    let c2 := if c.rd (MCX_SCRUB_POS_RANK.at ch) = 0 then c1.scrubAt ch 1 0 else c1
    let c3 := if (c.mc ch).heldReqs.isEmpty then c2 else c2.releaseReqs ch
    c3.blockRecord 0x11 ch []

/-- Scan-out A produces no more boundaries: a flip that waits for one takes place at once (Table 8.4). -/
def Chip.flipNow (c : Chip) : Chip := [0, 1].foldl (fun c ch => if c.migState ch = 2 then c.migFlip ch else c) c

def execMigFlipComplete (ch : Nat) (s : State) : Host.Outcome State Fault Refusal :=
  effect s fun c => if ch < 2 then c.migDone ch else c

end Sys2Proof.Machine
end

