-- ==== Sys2Proof/Machine/Client.lean ====
section
/-! DEFINITION. What the picture blocks share: client reads and writes of DRAM as part of an event of their own, the
surface formats of Tables 11.2 and 11.3 and of R417-R420, depth placement, and runs of samples. -/

namespace Sys2Proof.Machine

/-! ### Client accesses -/

/-- A port writes bytes: in Mooring every line is dropped and counted (R351), else they are stored (R311). -/
def Chip.writeBytes (c : Chip) (p a : Nat) (bs : List Byte) : Chip :=
  if bs.isEmpty then c
  else if c.mode.moored then (c.bump ((MCX_PORT_DROP_DROP).at p) (linesOf a bs.length)).portErr p 2
  else c.putBytes p a bs

/-- A byte a client reads: corrected data; zero in Mooring (R351) and beyond the installed DRAM (R311). DESIGN CHOICE (log
entry 102): of a channel that answers no request, a free value. -/
def Chip.byteAt (c : Chip) (a : Nat) : Byte :=
  if c.mode.moored then 0
  else
    match c.sysLoc (a / 8 * 8), c.readSys a with
    | some l, some r => if c.mcAnswers l.ch then BitVec.ofNat 8 (r.data / 256 ^ (a % 8)) else Config.freeByte c.free a
    | _, _ => 0

/-- The bytes a client reads from a system address on. -/
def Chip.bytesAt (c : Chip) (a n : Nat) : List Byte := (List.range n).map fun i => c.byteAt (a + i)

/-- A little-endian number of `n` bytes as a client reads it. -/
def Chip.numAt (c : Chip) (a n : Nat) : Nat := leBytes (c.bytesAt a n)

/-- The word at an address is delivered with a UE or POISON tag (R364), which a zero read of Mooring never is. -/
def Chip.badAt (c : Chip) (a : Nat) : Bool :=
  !c.mode.moored &&
    match c.readSys a with
    | none => false
    | some r => decide (2 ≤ r.cls)

/-- The addresses of the words that `n` bytes from `a` on lie in. -/
def wordsOf (a n : Nat) : List Nat :=
  if n = 0 then [] else (List.range ((a + n - 1) / 8 - a / 8 + 1)).map fun i => a / 8 * 8 + 8 * i

/-- How many of the words under `n` bytes are bad. -/
def Chip.badWords (c : Chip) (a n : Nat) : Nat := ((wordsOf a n).filter fun w => c.badAt w).length

/-- What a client's read of bytes leaves behind: lines on the bus and counted, errors recorded, an address beyond the installed DRAM
recorded (R311, R363, R364); in Mooring it is dropped and counted (R351). -/
def Chip.readNote (c : Chip) (p a n : Nat) : Chip :=
  if n = 0 then c
  else if c.mode.moored then (c.bump ((MCX_PORT_DROP_DROP).at p) (linesOf a n)).portErr p 2
  else
    let c1 := if (c.sysLoc a).isNone || (c.sysLoc (a + n - 1)).isNone then c.portErr p 1 else c
    ((c1.clientLines p a n false).noteReads p (a / 8 * 8) (wordsOf a n).length).takeFree

/-- A host write of a register that stores fields under their access codes (Table 0.5): written bits are taken, bits of
other codes stay, and W1C bits written as 1 are cleared. -/
def Chip.storeFields (c : Chip) (a : Nat) (v mask : Word) : Chip :=
  match rowOf a with
  | none => c
  | some r =>
    let m := BitVec.ofNat 32 (Nat.lor (Nat.lor r.rw r.rws) r.rwl) &&& mask
    let w1c := BitVec.ofNat 32 r.w1c &&& v &&& mask
    c.setReg a (((c.get a &&& ~~~ m) ||| (v &&& m)) &&& ~~~ w1c)

/-! ### Samples and surfaces -/

/-- Narrowing of a U12 value to 8 or 10 bits (R417); the flag says that it saturated. -/
def narrow (bits v : Nat) : Nat × Bool := satU bits (roundDiv 0 (v : Int) (2 ^ (12 - bits)))

/-- Depth placement of a component of `w` bits at `d` bits (R556). -/
def placeDepth (w d v : Nat) : Nat := if w ≤ d then v * 2 ^ (d - w) else v / 2 ^ (w - d)

/-- One stored sample (R419). -/
def sampleBytes (depth10 : Bool) (v : Nat) : List Byte :=
  if depth10 then toLe 2 (v * 64) else [BitVec.ofNat 8 v]

/-- The rounded mean of a list, RNE; 0 of an empty list. -/
def meanRne (xs : List Nat) : Nat :=
  if xs.isEmpty then 0 else (roundDiv 0 ((xs.foldl (· + ·) 0 : Nat) : Int) xs.length).toNat

/-- Neighbouring pairs averaged (4:2:2, R418). -/
def pairMeans (cs : List (Nat × Nat)) : List (Nat × Nat) :=
  (List.range (cs.length / 2)).map fun m =>
    let a := cs.getD (2 * m) (0, 0)
    let b := cs.getD (2 * m + 1) (0, 0)
    (meanRne [a.1, b.1], meanRne [a.2, b.2])

/-- 2 × 2 blocks of two rows averaged (4:2:0, R418). -/
def quadMeans (r0 r1 : List (Nat × Nat)) : List (Nat × Nat) :=
  (List.range (min r0.length r1.length / 2)).map fun m =>
    let a := r0.getD (2 * m) (0, 0)
    let b := r0.getD (2 * m + 1) (0, 0)
    let d := r1.getD (2 * m) (0, 0)
    let e := r1.getD (2 * m + 1) (0, 0)
    (meanRne [a.1, b.1, d.1, e.1], meanRne [a.2, b.2, d.2, e.2])

/-- Where a converted frame goes (R419, R420). -/
structure Surface where
  chroma : Nat
  planar : Bool
  depth10 : Bool
  base0 : Nat
  base1 : Nat
  base2 : Nat
  stride0 : Nat
  stride1 : Nat
deriving DecidableEq, Repr

/-- Write chroma row `j` of a surface: pairs in C0, or C0 and C1 apart (R420). -/
def Chip.putChroma (c : Chip) (p : Nat) (s : Surface) (j : Nat) (cs : List (Nat × Nat)) : Chip :=
  if s.planar then
    (c.writeBytes p (s.base1 + j * s.stride1) (cs.flatMap fun x => sampleBytes s.depth10 x.1)).writeBytes p
      (s.base2 + j * s.stride1) (cs.flatMap fun x => sampleBytes s.depth10 x.2)
  else
    c.writeBytes p (s.base1 + j * s.stride1)
      (cs.flatMap fun x => sampleBytes s.depth10 x.1 ++ sampleBytes s.depth10 x.2)

/-- Write row `y` of a surface: its luma, and its chroma when the row completes one. `prev`: the row before it, when
that was written too. -/
def Chip.putRow (c : Chip) (p : Nat) (s : Surface) (y : Nat) (luma : List Nat) (cs : List (Nat × Nat))
    (prev : Option (List (Nat × Nat))) : Chip :=
  let c1 := c.writeBytes p (s.base0 + y * s.stride0) (luma.flatMap fun v => sampleBytes s.depth10 v)
  if s.chroma = 2 then c1.putChroma p s y cs
  else if s.chroma = 1 then c1.putChroma p s y (pairMeans cs)
  else if y % 2 = 0 then c1
  else
    match prev with
    | none => c1
    | some r => c1.putChroma p s (y / 2) (quadMeans r cs)

/-- CHROMA 3 behaves as 0. -/
def chromaCode (v : Nat) : Nat := if v = 3 then 0 else v

/-- The byte of a graphics format's pixel (Table 11.2); codes 4-15 behave as 0. -/
def gfxBytes (fmt : Nat) : Nat := if fmt = 2 ∨ fmt = 3 then 2 else 4

/-- A U5, U6, U8 or U10 component as U12 (R491). -/
def expand (bits v : Nat) : Nat :=
  if bits = 5 then 128 * v + 4 * v + v / 8
  else if bits = 6 then 64 * v + v
  else if bits = 8 then pixel8 v
  else pixel10 v

/-- An alpha of 1, 2 or 8 bits as U1.15 (R492). -/
def expandAlpha (bits v : Nat) : Nat := (roundDiv 0 ((v * 32768 : Nat) : Int) (2 ^ bits - 1)).toNat

/-- A graphics pixel as RED, GRN, BLU in U12 and alpha in U1.15 (R491, R492). -/
def unpackGfx (fmt w : Nat) : (Nat × Nat × Nat) × Nat :=
  match fmt with
  | 1 => ((expand 10 (w / 2 ^ 20 % 1024), expand 10 (w / 2 ^ 10 % 1024), expand 10 (w % 1024)), expandAlpha 2 (w / 2 ^ 30 % 4))
  | 2 => ((expand 5 (w / 2 ^ 11 % 32), expand 6 (w / 2 ^ 5 % 64), expand 5 (w % 32)), 0x8000)
  | 3 => ((expand 5 (w / 2 ^ 10 % 32), expand 5 (w / 2 ^ 5 % 32), expand 5 (w % 32)), expandAlpha 1 (w / 2 ^ 15 % 2))
  | _ => ((expand 8 (w / 2 ^ 16 % 256), expand 8 (w / 2 ^ 8 % 256), expand 8 (w % 256)), expandAlpha 8 (w / 2 ^ 24 % 256))

/-- The top `n` bits of a U12 component (R544). -/
def topBits (n v : Nat) : Nat := v / 2 ^ (12 - n)

/-- A U1.15 alpha at `n` bits (R544). -/
def narrowAlpha (n a : Nat) : Nat := (roundDiv 0 ((a * (2 ^ n - 1) : Nat) : Int) 32768).toNat

/-- A graphics pixel packed into a format (R544). -/
def packGfx (fmt : Nat) (p : (Nat × Nat × Nat) × Nat) : Nat :=
  let r := p.1.1
  let g := p.1.2.1
  let b := p.1.2.2
  match fmt with
  | 1 => narrowAlpha 2 p.2 * 2 ^ 30 + topBits 10 r * 2 ^ 20 + topBits 10 g * 2 ^ 10 + topBits 10 b
  | 2 => topBits 5 r * 2 ^ 11 + topBits 6 g * 2 ^ 5 + topBits 5 b
  | 3 => narrowAlpha 1 p.2 * 2 ^ 15 + topBits 5 r * 2 ^ 10 + topBits 5 g * 2 ^ 5 + topBits 5 b
  | _ => narrowAlpha 8 p.2 * 2 ^ 24 + topBits 8 r * 2 ^ 16 + topBits 8 g * 2 ^ 8 + topBits 8 b

end Sys2Proof.Machine
end

