-- ==== Sys2Proof/Machine/Video.lean ====
section
/-! DEFINITION. Video input (chapter 9): links, the pixel mapping, active lines and their capture, the byte stream of
barge lines as it arrives, loss of input, and the frame lock. -/

namespace Sys2Proof.Machine

/-- Change the video input's state. -/
def Chip.onVin (c : Chip) (f : VideoIn → VideoIn) : Chip := { c with vin := f c.vin }

/-- Change the barge parser. -/
def Chip.onBrg (c : Chip) (f : Barge → Barge) : Chip := { c with brg := f c.brg }

/-! ### Pixels (R402, R406) -/

/-- The 8 grid bits of a colour and its x1, x0 bits, from (pair, slot) places, lowest bit first. -/
def gridBits (ps : List (Nat × Nat)) : Nat :=
  (ps.zipIdx.map fun x => if x.1.1.testBit x.1.2 then 2 ^ x.2 else 0).foldl (· + ·) 0

/-- A colour value from its grid bits under VIN_CFG.MAP (R406). -/
def mapColour (map grid x : Nat) : Nat :=
  match map with
  | 0 => grid
  | 1 => grid % 64 * 4 + grid / 64
  | 2 => grid + x * 256
  | _ => grid % 64 * 16 + grid / 64 * 4 + x

/-- RED, GRN and BLU fields of one clock cycle (Table 9.1). -/
def slotPixel (map : Nat) (s : Slots) : Nat × Nat × Nat :=
  let r := gridBits [(s.dp0, 0), (s.dp0, 1), (s.dp0, 2), (s.dp0, 3), (s.dp0, 4), (s.dp0, 5), (s.dp3, 0), (s.dp3, 1)]
  let g := gridBits [(s.dp0, 6), (s.dp1, 0), (s.dp1, 1), (s.dp1, 2), (s.dp1, 3), (s.dp1, 4), (s.dp3, 2), (s.dp3, 3)]
  let b := gridBits [(s.dp1, 5), (s.dp1, 6), (s.dp2, 0), (s.dp2, 1), (s.dp2, 2), (s.dp2, 3), (s.dp3, 4), (s.dp3, 5)]
  (mapColour map r (gridBits [(s.dp3, 7), (s.dp0, 7)]), mapColour map g (gridBits [(s.dp3, 6), (s.dp1, 7)]),
    mapColour map b (gridBits [(s.dp2, 4), (s.dp2, 7)]))

/-- LINKS in effect: 1, 2 or 4 (R402). -/
def Chip.vinLinks (c : Chip) : Nat :=
  match c.ef VIN_CFG_LINKS with
  | 1 => 2
  | 2 => 4
  | _ => 1

/-- The pixels of a run: pixel `n` arrives on link `n mod L` (R402). -/
def runPixels (map : Nat) (L : Nat) (links : List (List Slots)) : List (Nat × Nat × Nat) :=
  let w := ((links.take L).map fun l => l.length).foldl (· + ·) 0
  (List.range w).map fun n => slotPixel map ((links.getD (n % L) []).getD (n / L) ⟨0, 0, 0, 0⟩)

/-- The mapping has 10 bits per colour. -/
def Chip.vin10 (c : Chip) : Bool := decide (2 ≤ c.ef VIN_CFG_MAP)

/-! ### Links -/

/-- LOCK of a link. -/
def vinLockBit (link : Nat) : Field := ⟨VIN_LINK_STAT_LOCK0.addr, 4 * link, 4 * link, 4⟩

/-- Every selected link is locked. -/
def Chip.vinLocked (c : Chip) : Bool := (List.range c.vinLinks).all fun n => c.flag (vinLockBit n)

/-- VIN_LINK_LOCK (R404). -/
def execVinLinkLock (link : Nat) (s : State) : Host.Outcome State Fault Refusal :=
  effect s fun c => if link < 4 then c.wr (vinLockBit link) 1 else c

/-! ### Frame lock (R425-R428) -/

/-- Frame lock leaves for FREE; an exit from LOCKED is an event (R427). -/
def Chip.lockFree (c : Chip) : Chip :=
  let was := c.rd VIN_LOCK_STAT_STATE
  let c1 := (c.wr VIN_LOCK_STAT_STATE 0).onVin fun v => { v with lockGood := 0, lockBad := 0, tIn := none }
  if was = 2 then c1.evt evVin else c1

/-- An input frame start: FREE goes to ACQUIRE when frame lock is enabled, the input is not LOST and scan-out A is not
stopped (Table 9.2); I continues from the present adjustment (R428). -/
def Chip.lockStart (c : Chip) : Chip :=
  let c1 := c.onVin fun v => { v with tIn := some c.now }
  if c.flag VIN_LOCK_CTL_EN = false ∨ c.flag VIN_LINK_STAT_LOST = true ∨ c.rd VIN_CAP_STAT_STATE = 2
      ∨ c.rd SOA_STAT_STATE = 0 then c1
  else if c.rd VIN_LOCK_STAT_STATE = 0 then
    (c1.wr VIN_LOCK_STAT_STATE 1).wr VIN_LOCK_I_I (ofSigned 32 (toSigned 16 (c.rd CKG_PLLV_TRACK_OFFSET)))
  else c1

/-- The phase error in ns, folded into [-T/2, T/2) (R425). -/
def foldError (e : Int) (T : Nat) : Int :=
  if T = 0 then e
  else
    let m := e % (T : Int)
    if 2 * m < T then m else m - T

/-- Where frame lock goes after a step (Table 9.2). -/
def Chip.lockJudge (c : Chip) (e : Int) : Chip :=
  let lim : Int := (c.rd VIN_LOCK_THR_LOCK_NS : Nat)
  let small := decide (-lim ≤ e ∧ e ≤ lim)
  let large := decide (e < -(8 * lim) ∨ 8 * lim < e)
  let good := if small then c.vin.lockGood + 1 else 0
  let bad := if large then c.vin.lockBad + 1 else 0
  if c.rd VIN_LOCK_STAT_STATE = 1 then
    if 8 ≤ good then
      (((c.wr VIN_LOCK_STAT_STATE 2).bump VIN_LOCK_STAT_LOCK_COUNT 1).evt evVin).onVin fun v =>
        { v with lockGood := 0, lockBad := 0 }
    else c.onVin fun v => { v with lockGood := good, lockBad := 0 }
  else if 2 ≤ bad then
    ((c.wr VIN_LOCK_STAT_STATE 1).evt evVin).onVin fun v => { v with lockGood := 0, lockBad := 0 }
  else c.onVin fun v => { v with lockGood := 0, lockBad := bad }

/-- One step at a boundary of scan-out A (R425, R426): boundaries whose frame counter is a multiple of MULT, one step
per input frame. While the cap of PLL_V limits the output, I is held. -/
def Chip.lockStep (c : Chip) : Chip :=
  match c.vin.tIn with
  | none => c
  | some tIn =>
    let T := c.rd VIN_MEAS_PERIOD_NS
    if c.rd VIN_LOCK_STAT_STATE = 0 ∨ c.rd VIN_LOCK_STAT_STATE = 3 ∨ T = 0
        ∨ c.rd SOA_FRAME_FRAME % (c.rd VIN_LOCK_CTL_MULT + 1) ≠ 0 then c
    else
      let e := foldError ((c.now : Int) - ((tIn : Int) + toSigned 32 (c.rd VIN_LOCK_OFS_PHASE_OFS))) T
      let ppm := roundDiv 0 (e * 1000000) T
      let p := roundDiv 0 ((c.rd VIN_LOCK_CTL_KP : Int) * ppm) 256
      let i := toSigned 32 (c.rd VIN_LOCK_I_I)
      let i' := roundDiv 0 (i * 256 + (c.rd VIN_LOCK_CTL_KI : Int) * ppm) 256
      let t := (c.onVin fun v => { v with tIn := none }).pllvTrack (i' + p)
      let c1 := if t.2 then t.1 else t.1.wr VIN_LOCK_I_I (ofSigned 32 (satS 32 i').1)
      (c1.wr VIN_LOCK_ERR_E (ofSigned 32 (satS 32 e).1)).lockJudge e

/-! ### Capture -/

/-- VIN_CAP_STAT.STATE follows the enable and the input (Table 9.5). -/
def Chip.vinState (c : Chip) : Chip :=
  if c.ef VIN_CAP_CTL_EN = 0 ∨ c.ef VIN_CFG_EN = 0 then c.wr VIN_CAP_STAT_STATE 0
  else if c.rd VIN_CAP_STAT_STATE = 2 then c
  else if c.flag VIN_LINK_STAT_LOST || !c.vin.inFrame then c.wr VIN_CAP_STAT_STATE 3
  else c.wr VIN_CAP_STAT_STATE 1

/-- The frame in progress becomes the latest complete frame (R422, R413). -/
def Chip.vinLatest (c : Chip) (short : Bool) : Chip :=
  if c.vin.capturing = false ∨ c.vin.done = true then c
  else
    ((((c.wr VIN_CAP_STAT_LATEST c.vin.buf).wr VIN_CAP_STAT_VALID 1).wr VIN_CAP_STAT_SHORT (b2n short)).wr
      VIN_CAP_STAT_LONG (b2n c.vin.long)).onVin fun v => { v with done := true }

/-- The frame in progress ends: SHORT when lines are missing (R413). -/
def Chip.vinFrameEnd (c : Chip) : Chip :=
  if c.vin.inFrame = false then c
  else if c.vin.runs < c.ef VIN_TIMING_EXP_VACT then c.vinLatest true
  else c.vinLatest false

/-- The input is LOST (R416). -/
def Chip.inputLost (c : Chip) : Chip :=
  let c1 := ((c.vinFrameEnd.wr VIN_LINK_STAT_LOST 1).onVin fun v =>
    { v with inFrame := false, capturing := false, rowKept := none }).lockFree
  c1.vinState

/-- VIN_LINK_LOSS (R404, R416). -/
def execVinLinkLoss (link : Nat) (s : State) : Host.Outcome State Fault Refusal :=
  effect s fun c =>
    if 4 ≤ link then c
    else
      let c1 := c.wr (vinLockBit link) 0
      if link < c.vinLinks ∧ c.ef VIN_CFG_EN = 1 then c1.inputLost else c1

/-- VIN_INPUT_LOST (R416). -/
def execVinInputLost (s : State) : Host.Outcome State Fault Refusal :=
  effect s fun c => if c.ef VIN_CFG_EN = 1 ∧ c.vin.inFrame = true then c.inputLost else c

/-- VIN_FRAME_COMPLETE (R422): the last active line is written. -/
def execVinFrameComplete (s : State) : Host.Outcome State Fault Refusal :=
  effect s fun c => if c.vin.inFrame = true ∧ c.ef VIN_TIMING_EXP_VACT ≤ c.vin.runs then c.vinLatest false else c

/-- A reader holds a buffer of the capture ring (R423). -/
def Chip.vinHeld (c : Chip) (b : Nat) : Bool :=
  c.cmp.latches.any fun l => match l with | some x => x.src == 1 && x.buf == b | none => false

/-- The ring size (VIN_CAP_CTL.NBUF - 1, values 1-3). -/
def Chip.vinNbuf (c : Chip) : Nat := max 1 (c.ef VIN_CAP_CTL_NBUF) + 1

/-- The surface of a capture buffer, with the values in effect. -/
def Chip.vinSurface (c : Chip) (b : Nat) : Surface :=
  { chroma := chromaCode (c.ef VIN_CAP_CTL_CHROMA), planar := c.eflag VIN_CAP_CTL_PLANAR
    depth10 := c.eflag VIN_CAP_CTL_DEPTH10, base0 := c.ef (VIN_BUF_Y_ADDR.at b), base1 := c.ef (VIN_BUF_C0_ADDR.at b)
    base2 := c.ef (VIN_BUF_C1_ADDR.at b), stride0 := c.ef VIN_CAP_STRIDE_Y, stride1 := c.ef VIN_CAP_STRIDE_C }

/-- Three U12 values to luma, Cb, Cr as captured, with how many matrix outputs and narrowed values saturated (R77, R408,
R417). The R, G, B fields stand for Cr, Y, Cb (R408), also at the matrix outputs: its rows 0, 1, 2 give the components
that take the places of R, G and B, so that luma is G (R418, log entry 50). -/
def Chip.vinConvert (c : Chip) (p : Nat × Nat × Nat) : (Nat × Nat × Nat) × Nat × Nat :=
  let up := if c.vin10 then pixel10 else pixel8
  let xs := [up p.1, up p.2.1, up p.2.2]
  let row := fun (r : Nat) =>
    matrixOut 0 ((List.range 3).map fun j => c.ef (VIN_CSC_M0_M.off (4 * (3 * r + j)))) xs (c.ef (VIN_CSC_O_O.at r))
  let m : List (Nat × Bool) :=
    if c.eflag VIN_CAP_CTL_CONVERT then [row 1, row 2, row 0]
    else [(xs.getD 1 0, false), (xs.getD 2 0, false), (xs.getD 0 0, false)]
  let n := m.map fun x => narrow (if c.eflag VIN_CAP_CTL_DEPTH10 then 10 else 8) x.1
  (((n.getD 0 (0, false)).1, (n.getD 1 (0, false)).1, (n.getD 2 (0, false)).1),
    (m.filter fun x => x.2).length, (n.filter fun x => x.2).length)

/-- Write one active line into the ring (R417-R421). -/
def Chip.vinWriteRow (c : Chip) (row : Nat) (px : List (Nat × Nat × Nat)) : Chip :=
  let conv := px.map c.vinConvert
  let c1 := (c.saturate 0x080000 1 ((conv.map fun x => x.2.1).foldl (· + ·) 0)).saturate 0x080000 2
    ((conv.map fun x => x.2.2).foldl (· + ·) 0)
  let luma := conv.map fun x => x.1.1
  let cs := conv.map fun x => x.1.2
  let prev := match c.vin.rowKept with | some k => (if k.1 + 1 = row then some k.2 else none) | none => none
  (c1.putRow 7 (c.vinSurface c.vin.buf) row luma cs prev).onVin fun v =>
    { v with rowKept := if row % 2 = 0 then some (row, cs) else none }

/-- A run of the active window (R409, R412, R424). -/
def Chip.activeRun (c : Chip) (px : List (Nat × Nat × Nat)) (room : Bool) : Chip :=
  let row := c.vin.runs
  let c1 := c.onVin fun v => { v with runs := v.runs + 1, lastWidth := px.length }
  if px.length ≠ c.ef VIN_TIMING_EXP_HACT then c1.bump VIN_CAP_CNT0_BADLINE 1
  else if c.vin.capturing = false then c1
  else if room = false then c1.bump VIN_CAP_CNT0_LINE_DROP 1
  else c1.vinWriteRow row px

/-! ### Barge lines (R429-R432, R434, R441, R442) -/

/-- The 8 bits that a barge takes of a colour (R429, R430). -/
def Chip.bargeByte (c : Chip) (v : Nat) : Nat := if c.vin10 then v / 4 % 256 else v % 256

/-- The run carries the barge marker (R429). -/
def Chip.isBarge (c : Chip) (px : List (Nat × Nat × Nat)) : Bool :=
  match px with
  | [] => false
  | p :: _ =>
    c.flag VIN_BRG_CTL_EN && c.bargeByte p.1 == 0xB4 && c.bargeByte p.2.1 == 0xA7 && c.bargeByte p.2.2 == 0xC3

/-- A little-endian number in the stream. -/
def streamNum (bs : List Byte) (i n : Nat) : Nat := leBytes ((bs.drop i).take n)

/-- TYPE and LEN of the header at the head of the stream. -/
def Barge.type (b : Barge) : Nat := streamNum b.stream 0 1
def Barge.len (b : Barge) : Nat := streamNum b.stream 4 4
def Barge.dest (b : Barge) : Nat := streamNum b.stream 8 4
def Barge.seq (b : Barge) : Nat := streamNum b.stream 2 2
def Barge.param (b : Barge) : Nat := streamNum b.stream 12 2

/-- The header's LEN and DEST keep Table 9.4 for its TYPE; an unknown TYPE has no rule. -/
def Barge.fieldsOk (b : Barge) : Bool :=
  let n := b.len
  match b.type with
  | 1 => n % 4 == 0 && decide (4 ≤ n) && decide (n ≤ 1048576) && b.dest % 64 == 0
  | 2 => n % 4 == 0 && decide (4 ≤ n) && decide (n ≤ 8192) && b.dest % 4 == 0 && decide (0x140000 ≤ b.dest)
      && decide (b.dest + n ≤ 0x1C0000)
  | 3 => decide (28 ≤ n) && decide (n ≤ 12304)
  | 4 => n == 0
  | _ => true

/-- The header check byte is right (Table 9.3). -/
def Barge.headerOk (b : Barge) : Bool := crc8 (b.stream.take 15) == streamNum b.stream 15 1

/-- The rest of the stream is discarded. -/
def Barge.kill (b : Barge) : Barge := { b with stream := [], dead := true, failed := true, seen := false, full := [] }

/-- One of the bytes of the stream from place `i` on to place `j` came in a line that port CAP could not take. -/
def Barge.cut (b : Barge) (i j : Nat) : Bool := b.full.any fun r => decide (r.1 < j) && decide (i < r.2)

/-- An OSD packet writes nothing: Mooring, or its DRAM channel is in self-refresh (R441). -/
def Chip.osdBlocked (c : Chip) (a : Nat) : Bool :=
  c.mode.moored ||
    match c.sysLoc a with
    | none => false
    | some l => [mcShallow, mcDeep, mcFrozen].contains (c.mcState l.ch)

/-- Look at the header at the head of the stream once its 16 bytes are there (R432, R439, R441). -/
def Chip.bargeHeader (c : Chip) : Chip :=
  let b := c.brg
  if b.seen = true ∨ b.dead = true ∨ b.stream = [] ∨ b.type = 0 ∨ b.stream.length < 16 then c
  else if !b.headerOk || !b.fieldsOk then (c.bump VIN_BRG_CNT1_HDR_ERR 1).onBrg Barge.kill
  else
    let block := if b.type = 1 then c.osdBlocked b.dest else b.type == 2 && decide (2 ≤ b.luts.length)
    c.onBrg fun b => { b with seen := true, blocked := block, osdDone := 0 }

/-- The payload bytes of an OSD packet are written as they arrive (R434); those that port CAP could not take by the end
of their line end the stream (R442). -/
def Chip.osdArrive (c : Chip) : Chip :=
  let b := c.brg
  if b.seen = false ∨ b.type ≠ 1 ∨ b.blocked = true then c
  else
    let have' := min b.len (b.stream.length - 16)
    let bs := (b.stream.drop (16 + b.osdDone)).take (have' - b.osdDone)
    if bs = [] then c
    else if b.cut (16 + b.osdDone) (16 + have') then (c.bump VIN_BRG_CNT2_NOBUF 1).onBrg Barge.kill
    else (c.writeBytes 7 (b.dest + b.osdDone) bs).onBrg fun b => { b with osdDone := have' }

/-- A barge line's bytes join the stream (R430). `room`: port CAP can take the line's OSD bytes by its end (R442). -/
def Chip.bargeLine (c : Chip) (px : List (Nat × Nat × Nat)) (room : Bool) : Chip :=
  if c.brg.dead then c
  else
    let bs : List Byte := (px.drop 1).flatMap fun p =>
      [BitVec.ofNat 8 (c.bargeByte p.1), BitVec.ofNat 8 (c.bargeByte p.2.1), BitVec.ofNat 8 (c.bargeByte p.2.2)]
    let n := c.brg.stream.length
    (c.onBrg fun b =>
      { b with stream := b.stream ++ bs
               full := if room then b.full else b.full ++ [(n, n + bs.length)] }).bargeHeader.osdArrive

/-- A run after the active window: a barge line, or a LONG line (R414, R429). -/
def Chip.porchRun (c : Chip) (px : List (Nat × Nat × Nat)) (room : Bool) : Chip :=
  if c.isBarge px then c.bargeLine px room
  else
    let c1 := (c.bump VIN_CAP_CNT1_LONG 1).onVin fun v =>
      { v with runs := v.runs + 1, lastWidth := px.length, long := true }
    if c.vin.done then c1.wr VIN_CAP_STAT_LONG 1 else c1

/-- A DE run of an input frame (R402, R405, R409). -/
def Chip.vinRun (c : Chip) (links : List (List Slots)) (skew : Nat) (room : Bool) : Chip :=
  if c.ef VIN_CFG_EN = 0 ∨ c.vin.inFrame = false then c
  else
    let c1 := if 4 < skew then (c.wr VIN_LINK_STAT_SKEW 1).onVin fun v => { v with dropUntilStart := true } else c
    let px := runPixels (c.ef VIN_CFG_MAP) c.vinLinks links
    if c1.vin.dropUntilStart then c1.onVin fun v => { v with runs := v.runs + 1, lastWidth := px.length }
    else if c.vin.runs < c.ef VIN_TIMING_EXP_VACT then c1.activeRun px room
    else c1.porchRun px room

/-- VIN_LINE. -/
def execVinLine (links : List (List Slots)) (skew : Nat) (room : Bool) (s : State) : Host.Outcome State Fault Refusal :=
  effect s fun c => c.vinRun links skew room

/-! ### Frame starts (R407, R411, R413, R415, R421, R443) -/

/-- The measurements of the frame that ends (R411); a value beyond its field reads the largest (R20, R65). -/
def Chip.vinMeasure (c : Chip) (totPix totLines : Nat) : Chip :=
  let c1 :=
    if c.vin.inFrame then
      (((c.wr VIN_MEAS_ACT_WIDTH (satAdd 16 c.vin.lastWidth 0)).wr VIN_MEAS_ACT_LINES (satAdd 16 c.vin.runs 0)).wr
        VIN_MEAS_TOT_PIXELS (satAdd 16 totPix 0)).wr VIN_MEAS_TOT_LINES (satAdd 16 totLines 0)
    else c
  let c2 := match c.vin.lastStart with
    | some t => c1.wr VIN_MEAS_PERIOD_NS (satAdd 32 (c.now - t) 0)
    | none => c1
  c2.onVin fun v => { v with lastStart := some c.now }

/-- The mismatch check (R415): two frames in a row stop capture. A capture that has stopped is judged no further. -/
def Chip.vinMismatch (c : Chip) : Chip :=
  if c.vin.inFrame = false ∨ c.ef VIN_CAP_CTL_EN = 0 ∨ c.rd VIN_CAP_STAT_STATE = 2 then c
  else if c.rd VIN_MEAS_ACT_WIDTH = c.ef VIN_TIMING_EXP_HACT ∧ c.rd VIN_MEAS_ACT_LINES = c.ef VIN_TIMING_EXP_VACT then
    c.onVin fun v => { v with mism := 0 }
  else if c.vin.mism = 0 then c.onVin fun v => { v with mism := 1 }
  else
    ((c.wr VIN_CAP_STAT_STATE 2).onVin fun v => { v with mism := 2, timingWritten := false }).lockFree

/-- A write of VIN_TIMING_EXP lets capture restart at the next frame start (R415). -/
def Chip.vinRestart (c : Chip) : Chip :=
  if c.rd VIN_CAP_STAT_STATE = 2 ∧ c.vin.timingWritten = true then
    (c.wr VIN_CAP_STAT_STATE 3).onVin fun v => { v with mism := 0, timingWritten := false }
  else c

/-- Start the capture of input frame k: into buffer k mod NBUF, or skip the whole frame when a reader holds it
(R421, R423). -/
def Chip.vinCapture (c : Chip) : Chip :=
  let k := c.vin.frameNo
  let b := k % c.vinNbuf
  if c.rd VIN_CAP_STAT_STATE = 1 then
    if c.vinHeld b then
      (c.bump VIN_CAP_CNT1_FRAME_SKIP 1).onVin fun v => { v with frameNo := k + 1, capturing := false, buf := b }
    else c.onVin fun v => { v with frameNo := k + 1, capturing := true, buf := b }
  else c.onVin fun v => { v with capturing := false }

/-- A frame start but for the barge stream: the frame in progress ends and is measured, pending VIN values take effect,
the new frame begins. While capture is not enabled the frame number of R421 stays at 0. -/
def Chip.vinStart (c : Chip) (totPix totLines ircCount : Nat) : Chip :=
  let wasOn := decide (c.ef VIN_CAP_CTL_EN = 1)
  let c0 := (((c.vinFrameEnd.vinMeasure totPix totLines).vinMismatch).commitRange 0x080000 0x0800C0).trimFrame 2 ircCount
  let c1 := if wasOn then c0 else c0.onVin fun v => { v with frameNo := 0 }
  if c1.ef VIN_CFG_EN = 0 ∨ c1.vinLocked = false then
    (c1.onVin fun v => { v with inFrame := false, capturing := false }).vinState
  else
    let c2 := (((c1.wr VIN_LINK_STAT_LOST 0).onVin fun v =>
      { v with inFrame := true, dropUntilStart := false, runs := 0, lastWidth := 0, long := false, done := false
               rowKept := none }).vinRestart).vinState
    c2.vinCapture.lockStart

end Sys2Proof.Machine
end

