-- ==== Sys2Proof/Machine/Camera.lean ====
section
/-! DEFINITION. The camera pipeline (chapter 10): the CSI-2 receiver, sharing of pipe 0, the pipe stages, zone
statistics and the proximity outputs, the three outputs, and the return link. -/

namespace Sys2Proof.Machine

/-- Change the camera side. -/
def Chip.onCam (c : Chip) (f : Camera → Camera) : Chip := { c with cam := f c.cam }

/-- Virtual channel `v`. -/
def Chip.vc (c : Chip) (v : Nat) : Vc := c.cam.vcs.getD v Vc.reset

/-- Change virtual channel `v`. -/
def Chip.onVc (c : Chip) (v : Nat) (f : Vc → Vc) : Chip :=
  c.onCam fun k => { k with vcs := k.vcs.zipIdx.map fun x => if x.2 = v then f x.1 else x.1 }

/-- The index of a context: ISP0 contexts 0-3, then ISP1 context 0. -/
def ctxIdx (pipe ctx : Nat) : Nat := if pipe = 0 then ctx % 4 else 4

/-- A context. -/
def Chip.ctx (c : Chip) (i : Nat) : IspCtx := c.cam.ctxs.getD i IspCtx.reset

/-- Change a context. -/
def Chip.onCtx (c : Chip) (i : Nat) (f : IspCtx → IspCtx) : Chip :=
  c.onCam fun k => { k with ctxs := k.ctxs.zipIdx.map fun x => if x.2 = i then f x.1 else x.1 }

/-- The pipe and context of an index. -/
def idxPipe (i : Nat) : Nat := if i = 4 then 1 else 0
def idxCtx (i : Nat) : Nat := if i = 4 then 0 else i

/-- A field of a pipe's own registers. -/
def ispF (i : Nat) (f : Field) : Field := f.off (idxPipe i * 0x10000)

/-- A field of a context's bank (Table 10.11). -/
def bankF (i : Nat) (f : Field) : Field := f.off (idxPipe i * 0x10000 + idxCtx i * 0x1000)

/-- The bank base of a context. -/
def bankBase (i : Nat) : Nat := 0x0B1000 + idxPipe i * 0x10000 + idxCtx i * 0x1000

/-- A field of a virtual channel. -/
def vcF (v : Nat) (f : Field) : Field := f.at v

/-- The context a virtual channel's configuration word names. -/
def cfgIdx (w : Word) : Nat := ctxIdx (CSI_VC_CFG_PIPE.get w) (CSI_VC_CFG_CTX.get w)

/-- The context in use by a virtual channel. -/
def Chip.vcCtx (c : Chip) (v : Nat) : Nat := cfgIdx (c.getEff (0x0A0100 + 0x40 * v))

/-- The nearest permitted dimension (R452); between two equally near ones the lower. -/
def camDim (n : Nat) : Nat :=
  let m := min 4096 (max 16 n)
  m / 4 * 4 + (if 3 ≤ m % 4 then 4 else 0)

/-- WIDTH and HEIGHT of a virtual channel as they behave. -/
def Chip.vcWidth (c : Chip) (v : Nat) : Nat := camDim (c.rd (vcF v CSI_VC_GEOM_WIDTH))
def Chip.vcHeight (c : Chip) (v : Nat) : Nat := camDim (c.rd (vcF v CSI_VC_GEOM_HEIGHT))

/-- CSI_SHARE.MODE as it behaves: 0 SPLIT, 1 FRAME_MUX, 2 STRIPE_MUX. -/
def shareMode (w : Word) : Nat := if CSI_SHARE_MODE.get w = 3 then 0 else CSI_SHARE_MODE.get w
def Chip.share (c : Chip) : Nat := shareMode (c.get 0x0A0040)

/-- STRIPE_LINES as it behaves. -/
def Chip.stripeLines (c : Chip) : Nat := max 4 (c.rd CSI_SHARE_STRIPE_LINES)

/-! ### Sharing rules (R449-R451) -/

/-- The configuration words of the enabled channels. -/
def enabledCfgs (cfgs : List (Nat × Word)) : List (Nat × Word) := cfgs.filter fun x => CSI_VC_CFG_EN.get x.2 == 1

/-- The configuration words as written. -/
def Chip.vcCfgs (c : Chip) : List (Nat × Word) := (List.range 4).map fun v => (v, c.get (0x0A0100 + 0x40 * v))

/-- R449 is broken. -/
def routeBad (mode : Nat) (cfgs : List (Nat × Word)) : Bool :=
  let on := enabledCfgs cfgs
  let pairs := on.map fun x => (CSI_VC_CFG_PIPE.get x.2, CSI_VC_CFG_CTX.get x.2)
  decide (¬pairs.Nodup) || (pairs.any fun p => p.1 == 1 && p.2 != 0)
    || (mode == 0 && decide (2 ≤ (pairs.filter fun p => p.1 == 0).length))

/-- The line RAM the pipe-0 channels need in STRIPE_MUX (R451). -/
def Chip.lineRam (c : Chip) (lines : Nat) (cfgs : List (Nat × Word)) : Nat :=
  (((enabledCfgs cfgs).filter fun x => CSI_VC_CFG_PIPE.get x.2 == 0).map fun x =>
    (lines + 4) * c.vcWidth x.1 * 2).foldl (· + ·) 0

/-- V1 holds the shared line RAM (R499): EN = 1 and BYPASS = 0, applied or pending. -/
def Chip.v1Holds (c : Chip) : Bool :=
  let on := fun (w : Word) => CMP_L0_CTL_EN.get w == 1 && CMP_L0_CTL_BYPASS.get w == 0
  on (c.get 0x100180) || on (c.getEff 0x100180)

/-- A sharing error (CSI_SHARE_STAT.ERR). -/
def Chip.shareErr (c : Chip) (e : Nat) : Chip := c.wr CSI_SHARE_STAT_ERR e

/-- The regions of the line RAM are laid out anew when the sharing mode changes. -/
def Chip.regionsReset (c : Chip) : Chip :=
  c.onCam fun k => { k with ctxs := k.ctxs.map fun x => { x with pendLines := 0, rest := 0 } }

/-- A write of CSI_SHARE (R449-R451); a refused write leaves the register unchanged. -/
def Chip.shareWrite (c : Chip) (v : Word) : Chip :=
  let mode := shareMode v
  if mode = 2 ∧ c.v1Holds = true then c.shareErr 1
  else if mode = 2 ∧ 49152 < c.lineRam (max 4 (CSI_SHARE_STRIPE_LINES.get v)) c.vcCfgs then c.shareErr 2
  else if routeBad mode c.vcCfgs then c.shareErr 3
  else
    let c1 := (c.wr CSI_SHARE_MODE (CSI_SHARE_MODE.get v)).wr CSI_SHARE_STRIPE_LINES (CSI_SHARE_STRIPE_LINES.get v)
    if mode = c.share then c1 else c1.regionsReset

/-- CSI_SHARE_WRITE. -/
def execCsiShareWrite (v : Word) (s : State) : Host.Outcome State Fault Refusal :=
  effect s fun c => c.guardReg 0x0A0040 fun c => c.shareWrite v

/-- A write of CSI_VCv_CFG: an enable that breaks the rules is refused (R449, R451). -/
def Chip.vcEnable (c : Chip) (vc : Nat) (v : Word) : Chip :=
  let a := 0x0A0100 + 0x40 * vc
  let w := BitVec.ofNat 32 (v.toNat % 128 - v.toNat / 8 % 2 * 8)
  let cfgs := c.vcCfgs.map fun x => if x.1 = vc then (vc, w) else x
  if CSI_VC_CFG_EN.get w = 1 ∧ c.share = 2 ∧ 49152 < c.lineRam c.stripeLines cfgs then c.shareErr 2
  else if CSI_VC_CFG_EN.get w = 1 ∧ routeBad c.share cfgs = true then c.shareErr 3
  else c.setReg a w

/-- CSI_VC_ENABLE. -/
def execCsiVcEnable (vc : Nat) (v : Word) (s : State) : Host.Outcome State Fault Refusal :=
  effect s fun c => if vc < 4 then c.guardReg (0x0A0100 + 0x40 * vc) fun c => c.vcEnable vc v else c

/-- A write of CSI_CFG: an enable with routing that breaks R449 is refused. -/
def Chip.csiCfg (c : Chip) (v : Word) : Chip :=
  if CSI_CFG_EN.get v = 1 ∧ c.rd CSI_CFG_EN = 0 ∧ routeBad c.share c.vcCfgs = true then c.shareErr 3
  else c.setReg 0x0A0000 (BitVec.ofNat 32 (v.toNat / 256 % 256 * 256 + v.toNat % 8))

/-! ### Frames and lines of the receiver (R444-R459) -/

/-- The receiver takes packets: PHY and controller are ON, and CSI_CFG.EN is written or still in effect. -/
def Chip.rxOn (c : Chip) : Bool := c.pdOn 18 && c.pdOn 19 && (c.flag CSI_CFG_EN || c.eflag CSI_CFG_EN)

/-- A packet header: counted when corrected, the packet discarded when bad (R445). -/
def Chip.header (c : Chip) (e : Ecc) (f : Chip → Chip) : Chip :=
  if !c.rxOn then c
  else match e with
  | .clean => f c
  | .corrected => f (c.bump CSI_ERR_CNT0_ECC_CORR 1)
  | .bad => c.bump CSI_ERR_CNT0_ECC_UNCORR 1

/-- The receiver and the channel are enabled, as last taken over at a frame start. -/
def Chip.vcOn (c : Chip) (v : Nat) : Bool := c.eflag CSI_CFG_EN && c.eflag (vcF v CSI_VC_CFG_EN)

/-- The channel is in a frame. -/
def Chip.inFrame (c : Chip) (v : Nat) : Bool := c.flag (vcF v CSI_VC_STAT_IN_FRAME)

/-- The lines a frame leaves the receiver with: a missing position repeats the line before it, position 0 is zeros
(R455). -/
def fillLines (width : Nat) (lines : List (Option (List Nat))) (height : Nat) : List (List Nat) :=
  ((List.range height).foldl
    (fun (acc : List (List Nat) × List Nat) i =>
      let l := (lines.getD i none).getD acc.2
      (l :: acc.1, l)) ([], List.replicate width 0)).1.reverse

/-- Embedded bytes are latched into the EMB registers (R447). -/
def Chip.latchEmb (c : Chip) (v : Nat) (bs : List Byte) : Chip :=
  bs.zipIdx.foldl
    (fun (c : Chip) (x : Byte × Nat) =>
      c.wr ⟨0x0A0120 + 0x40 * v + x.2 / 4 * 4, x.2 % 4 * 8 + 7, x.2 % 4 * 8, 4⟩ x.1.toNat) c

/-- The frame end of a channel (R455-R459, R447). -/
def Chip.vcFrameEnd (c : Chip) (v : Nat) : Chip :=
  let k := c.vc v
  let h := c.vcHeight v
  let short := decide (((k.lines.take h).filter fun l => l.isSome).length < h)
  let c1 := ((((c.wr (vcF v CSI_VC_STAT_SHORT) (b2n short)).wr (vcF v CSI_VC_STAT_LONG) (b2n k.long)).wr
    (vcF v CSI_VC_STAT_IN_FRAME) 0).bump (vcF v CSI_VC_CNT0_SHORT_CNT) (b2n short)).bump (vcF v CSI_VC_CNT0_LONG_CNT)
    (b2n k.long)
  let c2 := (c1.latchEmb v k.emb).evt evCam
  if k.skip then c2
  else
    let f : CamFrame :=
      ⟨fillLines (c.vcWidth v) k.lines h, c.rd (vcF v CSI_VC_STAT_FRAME_CNT), short, k.long, k.startTs, k.bank⟩
    c2.onCtx (c.vcCtx v) fun x =>
      { x with vc := v, frames := x.frames ++ [f], rest := x.rest + x.pendLines + (h - k.next), pendLines := 0 }

/-- A pipe works on a frame of a context: one whose end the pipe has not seen, or the one its channel is in. -/
def Chip.ctxActive (c : Chip) (i : Nat) : Bool :=
  let x := c.ctx i
  !x.frames.isEmpty || (c.inFrame x.vc && !(c.vc x.vc).skip && c.vcCtx x.vc == i)

/-- Pipe 0 is processing another context's frame (R463). -/
def Chip.pipeTaken (c : Chip) (i : Nat) : Bool := (List.range 4).any fun j => j != i && c.ctxActive j

/-- ISPn_STAT.BUSY of the pipe of context `i` follows its contexts. -/
def Chip.pipeSettle (c : Chip) (i : Nat) : Chip :=
  c.wr (ispF i ISP0_STAT_BUSY) (b2n ((List.range 5).any fun j => idxPipe j == idxPipe i && c.ctxActive j))

/-- Where a pipe's ROUND_MODE stands. -/
def arithAt (i : Nat) : Nat := 0x0B00F4 + idxPipe i * 0x10000

/-- The bank of a context takes effect at a frame start of its channel (R462); the output count restarts when the
outputs are enabled (R479). -/
def Chip.bankCommit (c : Chip) (i : Nat) : Chip :=
  let ens := fun (c : Chip) => c.ef (bankF i ISP0_C0_OUT_CTL_DISP_EN) + c.ef (bankF i ISP0_C0_OUT_CTL_COD_EN)
    + c.ef (bankF i ISP0_C0_OUT_CTL_VIS_EN)
  let c1 := c.commitRange (bankBase i) (bankBase i + 0x1000)
  if ens c = 0 ∧ 0 < ens c1 then c1.onCtx i fun x => { x with outK := 0 } else c1

/-- The bank of a context and its pipe's ROUND_MODE as they are in effect: what a frame keeps from its start to its
outputs (R94, R462). -/
def Chip.frameBank (c : Chip) (i : Nat) : List (Nat × Word) :=
  SMap.copyRange c.eff (SMap.copyRange c.eff [] (bankBase i) (bankBase i + 0x1000)) (arithAt i) (arithAt i + 4)

/-- The part with the bank and ROUND_MODE of a frame in effect. -/
def Chip.asOf (c : Chip) (i : Nat) (f : CamFrame) : Chip :=
  let eff := SMap.copyRange f.bank c.eff (bankBase i) (bankBase i + 0x1000)
  { c with eff := SMap.copyRange f.bank eff (arithAt i) (arithAt i + 4) }

/-- A frame start of a channel (R453, R458, R462, R463); it is a trim mark when VC0 is the trim source (R178). -/
def Chip.vcFrameStart (c : Chip) (v ircCount : Nat) : Chip :=
  let c1 := if c.inFrame v then (c.vcFrameEnd v).bump (vcF v CSI_VC_CNT2_NO_FE) 1 else c
  let c2 := (c1.commitRange 0x0A0000 0x0A0004).commitRange (0x0A0100 + 0x40 * v) (0x0A0104 + 0x40 * v)
  if !c2.vcOn v then (c2.wr (vcF v CSI_VC_STAT_IN_FRAME) 0).pipeSettle (c2.vcCtx v)
  else
    let i := c2.vcCtx v
    let taken := c2.share == 1 && decide (i < 4) && c2.pipeTaken i
    let skip := taken || !c2.flag (ispF i ISP0_CTL_EN)
    let c3 := ((c2.wr (vcF v CSI_VC_STAT_FRAME_CNT) ((c2.rd (vcF v CSI_VC_STAT_FRAME_CNT) + 1) % 65536)).wr
      (vcF v CSI_VC_STAT_IN_FRAME) 1).bankCommit i
    let c4 := if skip then c3 else c3.commitRange (arithAt i) (arithAt i + 4)
    let c5 := c4.onVc v fun _ => { Vc.reset with skip := skip, startTs := c.now, bank := c4.frameBank i }
    let c6 := if v = 0 then c5.trimFrame 3 ircCount else c5
    if taken then c6.bump (vcF v CSI_VC_CNT3_CTX_SKIP) 1
    else
      let c7 := c6.onCtx i fun x => { x with vc := v }
      if skip then c7 else (c7.wr (ispF i ISP0_STAT_CTX) (idxCtx i)).wr (ispF i ISP0_STAT_BUSY) 1

/-- A pipe that is disabled drops the frames it works on (R463). -/
def Chip.pipeOff (c : Chip) (pipe : Nat) : Chip :=
  let mine := fun (i : Nat) => idxPipe i == pipe
  let c1 := (List.range 4).foldl
    (fun (c : Chip) v => if mine (c.vcCtx v) then c.onVc v fun k => { k with skip := true } else c) c
  (c1.onCam fun k =>
    { k with ctxs := k.ctxs.zipIdx.map fun x =>
        if mine x.2 then { x.1 with frames := [], outFrames := [], pendLines := 0, rest := 0 } else x.1 }).wr
    (ISP0_STAT_BUSY.off (pipe * 0x10000)) 0

/-- CSI_FRAME_START. -/
def execCsiFrameStart (vc : Nat) (ecc : Ecc) (ircCount : Nat) (s : State) : Host.Outcome State Fault Refusal :=
  effect s fun c => if vc < 4 then c.header ecc fun c => c.vcFrameStart vc ircCount else c

/-- CSI_FRAME_END (R445, R459). -/
def execCsiFrameEnd (h : Header) (s : State) : Host.Outcome State Fault Refusal :=
  effect s fun c =>
    if h.vc < 4 then c.header h.ecc fun c => if c.inFrame h.vc then c.vcFrameEnd h.vc else c else c

/-- A raw sample as U12 (R448). -/
def rawScale (dt v : Nat) : Nat :=
  match dt with
  | 1 => v % 1024 * 4
  | 2 => v % 4096
  | _ => v % 256 * 16

/-- The region of a STRIPE_MUX context is full (R461). -/
def Chip.regionFull (c : Chip) (i : Nat) : Bool :=
  c.share == 2 && decide (i < 4) && decide (c.stripeLines ≤ (c.ctx i).pendLines + (c.ctx i).rest)

/-- The next line position of a frame, with a line or missing (R453, R455). In STRIPE_MUX it waits for its stripe; the
last one makes the rest of the frame ready (R464). -/
def Chip.position (c : Chip) (v : Nat) (l : Option (List Nat)) : Chip :=
  let k := c.vc v
  let i := c.vcCtx v
  let c1 := c.onVc v fun k => { k with next := k.next + 1, lines := k.lines ++ [l] }
  if c.share = 2 ∧ i < 4 ∧ k.skip = false then
    c1.onCtx i fun x =>
      if c.vcHeight v ≤ k.next + 1 then { x with rest := x.rest + x.pendLines + 1, pendLines := 0 }
      else { x with pendLines := x.pendLines + 1 }
  else c1

/-- An image line whose CRC fails counts as such, one of another length in BADLEN, wherever they come (R446, R454; the CRC
is judged first, log entry 53). -/
def Chip.lineFault (c : Chip) (v : Nat) (samples : List Nat) (crcOk : Bool) : Chip :=
  if crcOk = false then c.bump (vcF v CSI_VC_CNT1_CRC_ERR) 1
  else if samples.length ≠ c.vcWidth v then c.bump (vcF v CSI_VC_CNT2_BADLEN) 1
  else c

/-- An image line takes the next position of its frame, filled or missing (R446, R453, R454, R457, R461). -/
def Chip.imageLine (c : Chip) (v : Nat) (samples : List Nat) (crcOk room : Bool) : Chip :=
  let k := c.vc v
  let c1 := c.lineFault v samples crcOk
  if !c.vcOn v then c
  else if !c.inFrame v then c1.bump (vcF v CSI_VC_CNT3_NO_FS) 1
  else if c.vcHeight v ≤ k.next then c1.onVc v fun k => { k with long := true }
  else if crcOk = false ∨ samples.length ≠ c.vcWidth v then c1.position v none
  else if room = false ∨ (k.skip = false ∧ c.regionFull (c.vcCtx v) = true) then
    (c.bump (vcF v CSI_VC_CNT1_LINE_DROP) 1).position v none
  else c.position v (some (samples.map (rawScale (c.ef (vcF v CSI_VC_CFG_DT)))))

/-- CSI_IMAGE_LINE. -/
def execCsiImageLine (vc : Nat) (samples : List Nat) (ecc : Ecc) (crcOk room : Bool) (s : State) :
    Host.Outcome State Fault Refusal :=
  effect s fun c => if vc < 4 then c.header ecc fun c => c.imageLine vc samples crcOk room else c

/-- CSI_EMBEDDED_DATA (R447): up to 32 bytes after the frame start are kept. -/
def execCsiEmbeddedData (vc : Nat) (bytes : List Byte) (ecc : Ecc) (s : State) : Host.Outcome State Fault Refusal :=
  effect s fun c =>
    if 4 ≤ vc then c
    else c.header ecc fun c =>
      if c.vcOn vc && c.inFrame vc then c.onVc vc fun k => { k with emb := (k.emb ++ bytes).take 32 } else c

/-- The data type a channel's DT selects (Table 10.1). -/
def dtCode (dt : Nat) : Nat := if dt = 1 then 0x2B else if dt = 2 then 0x2C else 0x2A

/-- CSI_GENERIC_SHORT (R444): generic short packets and unselected long ones are discarded and counted; line start and
line end are ignored. -/
def execCsiGenericShort (vc dt : Nat) (ecc : Ecc) (s : State) : Host.Outcome State Fault Refusal :=
  effect s fun c =>
    if 4 ≤ vc then c
    else c.header ecc fun c =>
      if (8 ≤ dt ∧ dt ≤ 15) ∨ (16 ≤ dt ∧ dt ≠ 0x12 ∧ dt ≠ dtCode (c.ef (vcF vc CSI_VC_CFG_DT))) then
        c.bump CSI_ERR_CNT1_UNKNOWN_DT 1
      else c

/-- The stripe of a context is ready (R464). -/
def Chip.stripeReady (c : Chip) (i : Nat) : Bool :=
  decide (0 < (c.ctx i).rest) || decide (c.stripeLines ≤ (c.ctx i).pendLines)

/-- STRIPE_READY (R464): the next ready context in rotating order is served; its oldest lines leave the region. -/
def Chip.serveStripe (c : Chip) : Chip :=
  match ((List.range 4).map fun k => (c.cam.lastCtx + 1 + k) % 4).find? fun i => c.stripeReady i with
  | none => c
  | some i =>
    (((c.onCtx i fun x =>
      if 0 < x.rest then { x with rest := x.rest - c.stripeLines }
      else { x with pendLines := x.pendLines - c.stripeLines }).onCam fun k => { k with lastCtx := i }).wr
      ISP0_STAT_CTX i).wr ISP0_STAT_BUSY 1

/-- STRIPE_READY. -/
def execStripeReady (s : State) : Host.Outcome State Fault Refusal :=
  effect s fun c => if c.share = 2 ∧ c.flag ISP0_CTL_EN = true then c.serveStripe else c

/-! ### Pipe stages (Table 10.6) -/

/-- The mosaic patterns, rows of colour codes 0 RED, 1 GRN, 2 BLU, 3 X (Tables 10.3-10.5). -/
def mosaicRows (type phaseB : Nat) : List (List Nat) :=
  match type with
  | 1 =>
    if phaseB = 1 then [[0, 1, 2, 1], [1, 3, 1, 3], [2, 1, 0, 1], [1, 3, 1, 3]]
    else [[2, 1, 0, 1], [1, 3, 1, 3], [0, 1, 2, 1], [1, 3, 1, 3]]
  | 2 => [[3, 0, 3, 1], [0, 3, 1, 3], [3, 1, 3, 2], [1, 3, 2, 3]]
  | _ => [[0, 1], [1, 2]]

/-- The colour of a site. -/
def siteColour (rows : List (List Nat)) (ox oy x y : Nat) : Nat :=
  let n := rows.length
  (rows.getD ((y + oy) % n) []).getD ((x + ox) % n) 0

/-- Per-colour black levels and white-balance gains of a context. -/
def Chip.black (c : Chip) (i col : Nat) : Nat :=
  [c.ef (bankF i ISP0_C0_BLACK0_RED), c.ef (bankF i ISP0_C0_BLACK0_GRN), c.ef (bankF i ISP0_C0_BLACK1_BLU),
    c.ef (bankF i ISP0_C0_BLACK1_X)].getD col 0
def Chip.wb (c : Chip) (i col : Nat) : Nat :=
  [c.ef (bankF i ISP0_C0_WB0_RED), c.ef (bankF i ISP0_C0_WB0_GRN), c.ef (bankF i ISP0_C0_WB1_BLU),
    c.ef (bankF i ISP0_C0_WB1_X)].getD col 0

/-- Stages 1 and 2 of one sample (R467): the value and whether stage 2 saturated. -/
def stage12 (black wb s : Nat) : Nat × Bool := satU 12 (roundDiv 0 (((s - black) * wb : Nat) : Int) 16384)

/-- A grid of numbers read at a place. -/
def gridAt (g : List (List Nat)) (x y : Nat) : Nat := (g.getD y []).getD x 0

/-- The places at Chebyshev distance `d` of a site inside a frame of `w` × `h`. -/
def ring (d w h x y : Nat) : List (Nat × Nat) :=
  (List.range (2 * d + 1)).flatMap fun j => (List.range (2 * d + 1)).filterMap fun i =>
    if (i = 0 ∨ i = 2 * d ∨ j = 0 ∨ j = 2 * d) ∧ d ≤ x + i ∧ d ≤ y + j ∧ x + i < w + d ∧ y + j < h + d then
      some (x + i - d, y + j - d)
    else none

/-- One plane of a pixel (R468). -/
def rebuild (rows : List (List Nat)) (ox oy : Nat) (g : List (List Nat)) (w h x y p : Nat) : Nat :=
  let of := fun d => ((ring d w h x y).filter fun q => siteColour rows ox oy q.1 q.2 == p).map fun q => gridAt g q.1 q.2
  if siteColour rows ox oy x y = p then gridAt g x y
  else if (of 1).isEmpty then meanRne (of 2)
  else meanRne (of 1)

/-- A frame after stages 1 to 5: per pixel RED, GRN, BLU and IRD, and the saturations of stages 1, 2 and 3. -/
structure LinearFrame where
  rows : List (List (Nat × Nat × Nat × Nat))
  sat1 : Nat
  sat2 : Nat
  sat3 : Nat
deriving DecidableEq, Repr

/-- Stages 4 and 5 of a pixel (R79). -/
def Chip.irStages (c : Chip) (i : Nat) (planes : List Nat) : (Nat × Nat × Nat × Nat) × Nat × Nat :=
  let rm := c.ef (ispF i ISP0_ARITH_CTL_ROUND_MODE)
  let row := fun (r : Nat) =>
    matrixOut rm ((List.range 4).map fun j => c.ef (bankF i (ISP0_C0_IRM0_COEF.off (4 * (4 * r + j))))) planes 0
  let ir := matrixOut 0 ((List.range 4).map fun j => c.ef (bankF i (ISP0_C0_IRR0_COEF.off (4 * j)))) planes 0
  let r := row 0
  let g := row 1
  let b := row 2
  ((r.1, g.1, b.1, ir.1), b2n r.2 + b2n g.2 + b2n b.2, b2n ir.2)

/-- Stages 1 to 5 of a frame. -/
def Chip.linearFrame (c : Chip) (i : Nat) (f : CamFrame) : LinearFrame :=
  let type := if c.ef (bankF i ISP0_C0_MOSAIC_TYPE) = 3 then 0 else c.ef (bankF i ISP0_C0_MOSAIC_TYPE)
  let pat := mosaicRows type (c.ef (bankF i ISP0_C0_MOSAIC_PHASE_B))
  let ox := c.ef (bankF i ISP0_C0_MOSAIC_OX)
  let oy := c.ef (bankF i ISP0_C0_MOSAIC_OY)
  let h := f.lines.length
  let w := (f.lines.headD []).length
  let s12 : List (List (Nat × Bool)) := f.lines.zipIdx.map fun l => l.1.zipIdx.map fun s =>
    let col := siteColour pat ox oy s.2 l.2
    stage12 (c.black i col) (c.wb i col) s.1
  let g : List (List Nat) := s12.map fun l => l.map fun s => s.1
  let px : List (List ((Nat × Nat × Nat × Nat) × Nat × Nat)) := (List.range h).map fun y => (List.range w).map fun x =>
    c.irStages i [rebuild pat ox oy g w h x y 0, rebuild pat ox oy g w h x y 1, rebuild pat ox oy g w h x y 2,
      if type = 0 then 0 else rebuild pat ox oy g w h x y 3]
  { rows := px.map fun l => l.map fun p => p.1
    sat1 := ((s12.flatten).filter fun s => s.2).length
    sat2 := ((px.flatten).map fun p => p.2.1).foldl (· + ·) 0
    sat3 := ((px.flatten).map fun p => p.2.2).foldl (· + ·) 0 }

/-! ### Zone statistics and proximity (R470-R476) -/

/-- A pixel of a linear frame. -/
def pixelAt (rows : List (List (Nat × Nat × Nat × Nat))) (x y : Nat) : Nat × Nat × Nat × Nat :=
  (rows.getD y []).getD x (0, 0, 0, 0)

/-- L of a pixel. -/
def lumaAt (rows : List (List (Nat × Nat × Nat × Nat))) (x y : Nat) : Nat :=
  let p := pixelAt rows x y
  p.1 + 2 * p.2.1 + p.2.2.1

/-- The pixels of zone `z` inside a frame of `w` × `h`. -/
def zonePixels (x0 y0 zw zh w h z : Nat) : List (Nat × Nat) :=
  let xs := x0 + z % 16 * zw
  let ys := y0 + z / 16 * zh
  (List.range zh).flatMap fun j => (List.range zw).filterMap fun i =>
    if xs + i < w ∧ ys + j < h then some (xs + i, ys + j) else none

/-- One term of SH1 (`d` = 1) or SH2 (`d` = 2): 0 where a neighbour lies outside the frame. -/
def sharpTerm (rows : List (List (Nat × Nat × Nat × Nat))) (w d core : Nat) (q : Nat × Nat) : Nat :=
  if d ≤ q.1 ∧ q.1 + d < w then
    ((2 * (lumaAt rows q.1 q.2 : Int)) - lumaAt rows (q.1 - d) q.2 - lumaAt rows (q.1 + d) q.2).natAbs - core
  else 0

/-- The four results of a zone, and how many sums saturated (R470, R471). -/
def Chip.zoneStats (c : Chip) (i : Nat) (rows : List (List (Nat × Nat × Nat × Nat))) (z : Nat) : List Nat × Nat :=
  let h := rows.length
  let w := (rows.headD []).length
  let ps := zonePixels (c.ef (bankF i ISP0_C0_STAT_WIN_X0)) (c.ef (bankF i ISP0_C0_STAT_WIN_Y0))
    (max 1 (c.ef (bankF i ISP0_C0_STAT_ZONE_ZW))) (max 1 (c.ef (bankF i ISP0_C0_STAT_ZONE_ZH))) w h z
  let sum := fun (f : Nat × Nat → Nat) => (ps.map f).foldl (· + ·) 0
  let raw := [sum (sharpTerm rows w 1 (c.ef (bankF i ISP0_C0_STAT_CORE_CORE1))),
    sum (sharpTerm rows w 2 (c.ef (bankF i ISP0_C0_STAT_CORE_CORE2))), sum fun q => lumaAt rows q.1 q.2]
  let ir := meanRne (ps.map fun q => (pixelAt rows q.1 q.2).2.2.2)
  ((raw.map fun n => min n 0xFFFFFFFF) ++ [ir], (raw.filter fun n => decide (0xFFFFFFFF < n)).length)

/-- The proximity contexts of LKK_CHK_CFG.PROX_SEL whose output holds; the output of a pipe whose domain is not ON is
clamped to its inactive level (R215). -/
def Chip.proxSet (c : Chip) (f : IspCtx → Bool) : Nat :=
  ((List.range 5).map fun i =>
    if c.bit LKK_CHK_CFG_PROX_SEL i && c.pdOn (if i < 4 then 20 else 21) && f (c.ctx i) then 2 ^ i else 0).foldl (· + ·) 0

/-- The hot zones of the lowest asserting context (Table 17.6). -/
def Chip.proxZones (c : Chip) (set : Nat) : Nat :=
  match (List.range 5).find? fun i => set.testBit i with
  | none => 0
  | some i => c.rd ((ispF i ISP0_PROX_STAT_ZONES).off (4 * idxCtx i))

/-- The proximity inputs of the Lockkeeper follow the outputs (Table 17.2). -/
def Chip.proxDrive (c : Chip) : Chip :=
  let drive := fun (c : Chip) (n set : Nat) =>
    if 0 < set then (if c.lk.asserted.testBit n then c else c.srcOn n (set + c.proxZones set * 256))
    else if c.lk.asserted.testBit n then c.srcOff n
    else c
  drive (drive c 4 (c.proxSet fun x => x.hotOut)) 5 (c.proxSet fun x => x.staleOut)

/-- A frame end of a context ends a stale output (R476). With PROX_CTL.EN = 1 it judges the proximity output: asserted
from the FRAMES-th frame in a row with a hot zone to the first frame with none (R474). -/
def Chip.proxJudge (c : Chip) (i : Nat) (irMeans : List Nat) : Chip :=
  let st := fun (f : Field) => (ispF i f).off (4 * idxCtx i)
  let c0 := (c.wr (st ISP0_PROX_STAT_STALE) 0).onCtx i fun x => { x with staleOut := false }
  if c.rd (bankF i ISP0_C0_PROX_CTL_EN) = 0 then c0.proxDrive
  else
    let thr := c.rd (bankF i ISP0_C0_PROX_CTL_THR)
    let hot := (irMeans.zipIdx.filter fun x =>
      (c.rd ((bankF i ISP0_C0_PROX_MASK_MASK).off (x.2 / 32 * 4))).testBit (x.2 % 32) && decide (thr ≤ x.1)).length
    let run := if 0 < hot then min 4 ((c.ctx i).hotRun + 1) else 0
    let out := decide (0 < hot) && ((c.ctx i).hotOut || decide (c.rd (bankF i ISP0_C0_PROX_CTL_FRAMES) + 1 ≤ run))
    (((c0.wr (st ISP0_PROX_STAT_HOT) (b2n out)).wr (st ISP0_PROX_STAT_ZONES) hot).onCtx i fun x =>
      { x with hotRun := run, hotOut := out }).proxDrive

/-- PROX_STALE_TIMEOUT (R476). -/
def execProxStaleTimeout (pipe ctx : Nat) (s : State) : Host.Outcome State Fault Refusal :=
  effect s fun c =>
    let i := ctxIdx pipe ctx
    if c.rd (bankF i ISP0_C0_PROX_CTL_EN) = 1 then
      ((c.wr ((ispF i ISP0_PROX_STAT_STALE).off (4 * idxCtx i)) 1).onCtx i fun x => { x with staleOut := true }).proxDrive
    else c

/-- The pipe finishes a frame (R463, R466-R475), with the bank in effect for it. -/
def Chip.ispFrameEnd (c : Chip) (i : Nat) (f : CamFrame) : Chip :=
  let was := c.asOf i f
  let lin := was.linearFrame i f
  let zs := (List.range 192).map fun z => was.zoneStats i lin.rows z
  let base := 0x0B0000 + idxPipe i * 0x10000
  let c1 := (((c.saturate base 1 lin.sat1).saturate base 2 lin.sat2).saturate base 3 lin.sat3).saturate base 5
    (zs.map fun z => z.2).sum
  let bank := (List.range 4).map fun k => zs.map fun z => z.1.getD k 0
  let tag := BitVec.ofNat 32 (f.count + b2n f.short * 2 ^ 16 + b2n f.long * 2 ^ 17 + 2 ^ 18)
  let c2 := if c.flag (ispF i ISP0_CTL_STAT_HOLD) then c1.bump (ispF i ISP0_STAT_LOST_STAT_LOST) 1
    else c1.onCtx i fun x => { x with bank := bank, tag := tag }
  let c3 := (c2.onCtx i fun x =>
    { x with frames := x.frames.drop 1, outFrames := x.outFrames ++ [f]
             rest := if x.frames.length ≤ 1 then 0 else x.rest }).pipeSettle i
  c3.proxJudge i (bank.getD 3 [])

/-- ISP_FRAME_END. -/
def execIspFrameEnd (pipe ctx : Nat) (s : State) : Host.Outcome State Fault Refusal :=
  effect s fun c =>
    match (c.ctx (ctxIdx pipe ctx)).frames with
    | [] => c
    | f :: _ => c.ispFrameEnd (ctxIdx pipe ctx) f

/-! ### Outputs (R469, R478-R481) -/

/-- The tone table of a context (R469). -/
def Chip.tone (c : Chip) (i v : Nat) : Nat :=
  let t := fun k => c.ef ((bankF i ISP0_C0_TONE_T).off (4 * k))
  let a := t (v / 16)
  let b := t (v / 16 + 1)
  (roundDiv 0 ((16 * a : Int) + ((b : Int) - a) * (v % 16 : Nat)) 16).toNat

/-- Stages 7 and 8 of a pixel: Y, Cb, Cr and the saturations of stage 4. -/
def Chip.colourStages (c : Chip) (i : Nat) (p : Nat × Nat × Nat × Nat) : (Nat × Nat × Nat) × Nat :=
  let xs := [c.tone i p.1, c.tone i p.2.1, c.tone i p.2.2.1]
  let row := fun (r : Nat) =>
    matrixOut (c.ef (ispF i ISP0_ARITH_CTL_ROUND_MODE))
      ((List.range 3).map fun j => c.ef (bankF i (ISP0_C0_CCM0_COEF.off (4 * (3 * r + j))))) xs
      (c.ef ((bankF i ISP0_C0_CCM_OFS_OFS).off (4 * r)))
  let y := row 0
  let cb := row 1
  let cr := row 2
  ((y.1, cb.1, cr.1), b2n y.2 + b2n cb.2 + b2n cr.2)

/-- The reduction of a plane by `n` (R478), and the saturations. -/
def visPlane (n : Nat) (g : List (List Nat)) : List (List (Nat × Bool)) :=
  let w := (g.headD []).length
  (List.range (g.length / n)).map fun v => (List.range (w / n)).map fun u =>
    let s := (List.range n).foldl
      (fun acc j => acc + (List.range n).foldl (fun a i => a + gridAt g (n * u + i) (n * v + j)) 0) 0
    satU 8 (roundDiv 0 (s : Int) (16 * n * n))

/-- VIS_SCALE as a factor. -/
def Chip.visFactor (c : Chip) (i : Nat) : Nat :=
  match c.ef (bankF i ISP0_C0_OUT_CTL_VIS_SCALE) with
  | 0 => 1
  | 1 => 2
  | _ => 4

/-- The ring size of a context. -/
def Chip.ispNbuf (c : Chip) (i : Nat) : Nat := max 1 (c.ef (bankF i ISP0_C0_OUT_CTL_NBUF)) + 1

/-- A buffer address of a context. -/
def Chip.ispBuf (c : Chip) (i b : Nat) (f : Field) : Nat := c.ef ((bankF i f).off (0x20 * b))

/-- A reader holds the buffer of an output (R480): a video layer, or the return link while it sends it. -/
def Chip.ispHeld (c : Chip) (i out b : Nat) : Bool :=
  (out == 0 && c.cmp.latches.any fun l =>
      match l with | some x => x.src == 2 && ctxIdx x.pipe x.ctx == i && x.buf == b | none => false)
    || (!c.cam.direct && c.cam.sending.any fun r =>
      ctxIdx r.pipe r.ctx == i && r.buf == b && (if out = 1 then r.stream == 0 else out == 2 && r.stream != 0))

/-- Write rows of samples of one byte, but for the dropped ones. -/
def Chip.putPlane (c : Chip) (base stride : Nat) (rows : List (List Nat)) (drops : List Nat) : Chip :=
  rows.zipIdx.foldl
    (fun (c : Chip) (r : List Nat × Nat) =>
      if drops.contains r.2 then c else c.writeBytes 8 (base + r.2 * stride) (r.1.map fun v => BitVec.ofNat 8 v)) c

/-- Write the rows of a converted frame but for the dropped ones (R418-R420, R481). -/
def Chip.putFrame (c : Chip) (s : Surface) (rows : List (List (Nat × Nat × Nat))) (drops : List Nat) : Chip :=
  rows.zipIdx.foldl
    (fun (c : Chip) (r : List (Nat × Nat × Nat) × Nat) =>
      if drops.contains r.2 then c
      else
        let prev := if 0 < r.2 ∧ drops.contains (r.2 - 1) = false then
            some ((rows.getD (r.2 - 1) []).map fun p => p.2) else none
        c.putRow 8 s r.2 (r.1.map fun p => p.1) (r.1.map fun p => p.2) prev) c

/-- Narrow every component of a frame; how many saturated. -/
def narrowFrame (bits : Nat) (rows : List (List (Nat × Nat × Nat))) : List (List (Nat × Nat × Nat)) × Nat :=
  let n := rows.map fun l => l.map fun p => (narrow bits p.1, narrow bits p.2.1, narrow bits p.2.2)
  (n.map fun l => l.map fun p => (p.1.1, p.2.1.1, p.2.2.1),
    ((n.flatten).map fun p => b2n p.1.2 + b2n p.2.1.2 + b2n p.2.2.2).foldl (· + ·) 0)

/-- The return link drops the older unsent frame of a stream (R486). -/
def Chip.rtxDropOlder (c : Chip) (s : Nat) : Chip :=
  if c.cam.sendQ.any fun r => r.stream == s then
    (c.bump (RTX_STR_CNT_DROP.at s) 1).onCam fun k => { k with sendQ := k.sendQ.filter fun r => r.stream != s }
  else c

/-- A frame that became latest goes to a stream that sends it (R486). -/
def Chip.rtxOffer (c : Chip) (i s b : Nat) (f : CamFrame) (dropped : Bool) : Chip :=
  if c.flag RTX_CFG_EN && c.flag (RTX_STR_CFG_EN.at s)
      && ctxIdx (c.rd (RTX_STR_CFG_PIPE.at s)) (c.rd (RTX_STR_CFG_CTX.at s)) == i then
    let r : RtxFrame := ⟨s, idxPipe i, idxCtx i, b, f.count,
      b2n f.short + 2 * b2n f.long + 4 * b2n dropped + 16 * idxCtx i + 64 * idxPipe i, f.ts⟩
    (c.rtxDropOlder s).onCam fun k => { k with sendQ := k.sendQ ++ [r] }
  else c

/-- One output: skipped when its buffer is held, else written and named as latest (R479-R481). -/
def Chip.ispOutput (c : Chip) (i out b : Nat) (drops : List Nat) (lines : Nat) (write : Chip → Chip) : Chip :=
  let cnt := fun (f : Field) => (ispF i f).off (4 * idxCtx i)
  if c.ispHeld i out b then c.bump (cnt ISP0_OUT_CNT_OUT_SKIP) 1
  else
    let c1 := (write c).bump (cnt ISP0_OUT_CNT_OUT_DROP) ((drops.filter fun l => decide (l < lines)).eraseDups.length)
    let latest := [ISP0_C0_OUT_STAT_DISP, ISP0_C0_OUT_STAT_COD, ISP0_C0_OUT_STAT_VIS].getD out ISP0_C0_OUT_STAT_DISP
    (c1.wr (bankF i latest) b).setBit (bankF i ISP0_C0_OUT_STAT_VALID) out true

/-- The outputs of a frame (Table 10.7), with the bank in effect for it (R462). -/
def Chip.ispOutputs (c : Chip) (i : Nat) (f : CamFrame) (drops : List (Nat × Nat)) : Chip :=
  let was := c.asOf i f
  let lin := was.linearFrame i f
  let col := lin.rows.map fun l => l.map fun p => was.colourStages i p
  let ycc := col.map fun l => l.map fun p => p.1
  let base := 0x0B0000 + idxPipe i * 0x10000
  let b := (c.ctx i).outK % was.ispNbuf i
  let dr := fun o => (drops.filter fun d => d.1 == o).map fun d => d.2
  let en := fun (g : Field) => was.eflag (bankF i g)
  let h := f.lines.length
  let disp := narrowFrame (if en ISP0_C0_OUT_CTL_DISP_DEPTH10 then 10 else 8) ycc
  let cod := narrowFrame 8 ycc
  let n := was.visFactor i
  let visY := visPlane n (ycc.map fun l => l.map fun p => p.1)
  let visI := visPlane n (lin.rows.map fun l => l.map fun p => p.2.2.2)
  let onD := en ISP0_C0_OUT_CTL_DISP_EN
  let onC := en ISP0_C0_OUT_CTL_COD_EN
  let onV := en ISP0_C0_OUT_CTL_VIS_EN
  let direct := en ISP0_C0_OUT_CTL_VIS_DIRECT
  let sat6 := (if onD then disp.2 else 0) + (if onC then cod.2 else 0)
    + (if onV then (((visY ++ visI).flatten).filter fun p => p.2).length else 0)
  let c1 := (c.saturate base 4 ((col.flatten).map fun p => p.2).sum).saturate base 6 sat6
  let surfD : Surface :=
    { chroma := chromaCode (was.ef (bankF i ISP0_C0_OUT_CTL_DISP_CHROMA)), planar := en ISP0_C0_OUT_CTL_DISP_PLANAR
      depth10 := en ISP0_C0_OUT_CTL_DISP_DEPTH10, base0 := was.ispBuf i b ISP0_C0_BUF_DISP_Y_ADDR
      base1 := was.ispBuf i b ISP0_C0_BUF_DISP_C0_ADDR, base2 := was.ispBuf i b ISP0_C0_BUF_DISP_C1_ADDR
      stride0 := was.ef (bankF i ISP0_C0_DISP_STRIDE_P0), stride1 := was.ef (bankF i ISP0_C0_DISP_STRIDE_P1) }
  let surfC : Surface :=
    { chroma := 0, planar := false, depth10 := false, base0 := was.ispBuf i b ISP0_C0_BUF_COD_Y_ADDR
      base1 := was.ispBuf i b ISP0_C0_BUF_COD_C_ADDR, base2 := 0
      stride0 := was.ef (bankF i ISP0_C0_COD_STRIDE_P0), stride1 := was.ef (bankF i ISP0_C0_COD_STRIDE_P1) }
  let c2 := if onD then c1.ispOutput i 0 b (dr 0) h fun c => c.putFrame surfD disp.1 (dr 0) else c1
  let c3 := if onC then
      let held := c2.ispHeld i 1 b
      let c' := c2.ispOutput i 1 b (dr 1) h fun c => c.putFrame surfC cod.1 (dr 1)
      if held then c' else c'.rtxOffer i 0 b f (!(dr 1).isEmpty)
    else c2
  let c4 := if onV && !direct then
      let held := c3.ispHeld i 2 b
      let ys := visY.map fun l => l.map fun p => p.1
      let is := visI.map fun l => l.map fun p => p.1
      let c' := c3.ispOutput i 2 b (dr 2) (h / n) fun c =>
        (c.putPlane (was.ispBuf i b ISP0_C0_BUF_VIS_Y_ADDR) (was.ef (bankF i ISP0_C0_VIS_STRIDE_P0)) ys (dr 2)).putPlane
          (was.ispBuf i b ISP0_C0_BUF_VIS_IR_ADDR) (was.ef (bankF i ISP0_C0_VIS_STRIDE_P1)) is (dr 2)
      if held then c' else (c'.rtxOffer i 1 b f (!(dr 2).isEmpty)).rtxOffer i 2 b f (!(dr 2).isEmpty)
    else c3
  c4.onCtx i fun x =>
    { x with outFrames := x.outFrames.drop 1, outK := if onD || onC || onV then x.outK + 1 else x.outK }

/-- ISP_OUTPUT_FRAME_DONE. -/
def execIspOutputFrameDone (pipe ctx : Nat) (drops : List (Nat × Nat)) (s : State) : Host.Outcome State Fault Refusal :=
  effect s fun c =>
    match (c.ctx (ctxIdx pipe ctx)).outFrames with
    | [] => c
    | f :: _ => c.ispOutputs (ctxIdx pipe ctx) f drops

/-! ### The return link (R482-R489) -/

/-- The frame number of a return frame's start and end (R483). -/
def rtxNumber (count : Nat) : Nat := count % 65535 + 1

/-- The embedded line of a return frame (R485). -/
def rtxEmbedded (r : RtxFrame) : List Nat :=
  ((toLe 2 r.count ++ toLe 2 r.flags ++ toLe 8 r.ts).map fun b => b.toNat) ++ List.replicate 20 0

/-- The header bits that each ECC bit of a CSI-2 packet header covers (R482). PRESUMED: the Hamming code of CSI-2 (log
entry 87); unsafe where it is another. -/
def csiEccMasks : List Nat := [0xF12CB7, 0xF2555B, 0x749A6D, 0xB8E38E, 0xDF03F0, 0xEFFC00]

/-- The ECC of a packet header: data identifier, then the word, low byte first (R482). -/
def csiEcc (dt vc word : Nat) : Nat :=
  let h := dt % 64 + vc % 4 * 64 + word % 65536 * 256
  let parity := fun m => (List.range 24).countP fun b => (Nat.land h m).testBit b
  csiEccMasks.foldr (fun m e => 2 * e + parity m % 2) 0

/-- One byte into the CRC-16 of a CSI-2 payload: the CCITT polynomial, least significant bit first (R482). PRESUMED:
from CSI-2 (log entry 87); unsafe where it is another. -/
def csiCrcByte (crc b : Nat) : Nat :=
  (List.range 8).foldl (fun x _ => if x % 2 = 1 then Nat.xor (x / 2) 0x8408 else x / 2) (Nat.xor crc (b % 256))

/-- A packet as it goes out, with its header ECC and, of a long packet, its payload CRC (R482). -/
def rtxPacket (dt vc word : Nat) (payload : List Nat) : RtxPacket :=
  { dt := dt, vc := vc, word := word, ecc := csiEcc dt vc word, payload := payload
    crc := if dt < 16 then none else some (payload.foldl csiCrcByte 0xFFFF) }

/-- The virtual channel of a stream. -/
def Chip.rtxVc (c : Chip) (s : Nat) : Nat := c.ef (RTX_STR_CFG_VC.at s)

/-- The start of a return frame: configuration takes effect (R489), frame start and embedded line are sent (R482). -/
def Chip.rtxBegin (c : Chip) (r : RtxFrame) (direct : Bool) : Chip :=
  let c1 := (((c.commitRange 0x0D0000 0x0D0050).wr RTX_STAT_BUSY 1).wr RTX_STAT_STREAM r.stream)
  let vc := c1.rtxVc r.stream
  let ps : List RtxPacket := [rtxPacket 0 vc (rtxNumber r.count) []]
    ++ (if c1.eflag RTX_CFG_EMB_EN then [rtxPacket 0x12 vc 32 (rtxEmbedded r)] else [])
  c1.onCam fun k => { k with sending := k.sending ++ [r], direct := direct, sent := ps }

/-- RTX_FRAME_SEND_START (R486). -/
def execRtxFrameSendStart (s : State) : Host.Outcome State Fault Refusal :=
  effect s fun c =>
    match c.cam.sending, c.cam.sendQ with
    | [], r :: rest => if c.flag RTX_CFG_EN then (c.onCam fun k => { k with sendQ := rest }).rtxBegin r false else c
    | _, _ => c

/-- One line of a CODING frame (R484). -/
def Chip.codingLine (c : Chip) (i b w l : Nat) : List Nat :=
  let y := (c.bytesAt (c.ispBuf i b ISP0_C0_BUF_COD_Y_ADDR + l * c.ef (bankF i ISP0_C0_COD_STRIDE_P0)) w).map
    fun v => v.toNat
  if l % 2 = 0 then y
  else
    let ch := (c.bytesAt (c.ispBuf i b ISP0_C0_BUF_COD_C_ADDR + l / 2 * c.ef (bankF i ISP0_C0_COD_STRIDE_P1)) w).map
      fun v => v.toNat
    (List.range (w / 2)).flatMap fun m => [ch.getD (2 * m) 0, y.getD (2 * m) 0, ch.getD (2 * m + 1) 0, y.getD (2 * m + 1) 0]

/-- The image lines of a return frame (Table 10.8). -/
def Chip.rtxLines (c : Chip) (r : RtxFrame) : List RtxPacket :=
  let i := ctxIdx r.pipe r.ctx
  let v := (c.ctx i).vc
  let vc := c.rtxVc r.stream
  if r.stream = 0 then
    (List.range (c.vcHeight v)).map fun l =>
      let d := c.codingLine i r.buf (c.vcWidth v) l
      rtxPacket 0x18 vc d.length d
  else
    let n := c.visFactor i
    let base := c.ispBuf i r.buf (if r.stream = 1 then ISP0_C0_BUF_VIS_Y_ADDR else ISP0_C0_BUF_VIS_IR_ADDR)
    let stride := c.ef (bankF i (if r.stream = 1 then ISP0_C0_VIS_STRIDE_P0 else ISP0_C0_VIS_STRIDE_P1))
    (List.range (c.vcHeight v / n)).map fun l =>
      let d := (c.bytesAt (base + l * stride) (c.vcWidth v / n)).map fun b => b.toNat
      rtxPacket 0x2A vc d.length d

/-- The reads of a return frame as port RTXR makes them. -/
def Chip.rtxReads (c : Chip) (r : RtxFrame) : Chip :=
  let i := ctxIdx r.pipe r.ctx
  let v := (c.ctx i).vc
  let plane := fun (c : Chip) (base stride rows bytes : Nat) =>
    (List.range rows).foldl (fun (c : Chip) l => c.readNote 9 (base + l * stride) bytes) c
  if r.stream = 0 then
    plane (plane c (c.ispBuf i r.buf ISP0_C0_BUF_COD_Y_ADDR) (c.ef (bankF i ISP0_C0_COD_STRIDE_P0)) (c.vcHeight v)
      (c.vcWidth v)) (c.ispBuf i r.buf ISP0_C0_BUF_COD_C_ADDR) (c.ef (bankF i ISP0_C0_COD_STRIDE_P1)) (c.vcHeight v / 2)
      (c.vcWidth v)
  else
    plane c (c.ispBuf i r.buf (if r.stream = 1 then ISP0_C0_BUF_VIS_Y_ADDR else ISP0_C0_BUF_VIS_IR_ADDR))
      (c.ef (bankF i (if r.stream = 1 then ISP0_C0_VIS_STRIDE_P0 else ISP0_C0_VIS_STRIDE_P1)))
      (c.vcHeight v / c.visFactor i) (c.vcWidth v / c.visFactor i)

/-- RTX_FRAME_SENT (R482): the image lines and the frame end have been sent, the buffer is released. Of two direct
streams of one source frame the one that began first ends first. -/
def Chip.rtxSent (c : Chip) (r : RtxFrame) : Chip :=
  let lines := if c.cam.direct then [] else c.rtxLines r
  let rest := c.cam.sending.drop 1
  let c1 := if c.cam.direct then c else c.rtxReads r
  let c2 := ((c1.onCam fun k =>
      { k with sending := rest, direct := k.direct && !rest.isEmpty
               sent := lines ++ [rtxPacket 1 (c.rtxVc r.stream) (rtxNumber r.count) []] }).wr
    RTX_STAT_BUSY (b2n (!rest.isEmpty))).bump (RTX_STR_CNT_SENT.at r.stream) 1
  (match rest with
    | [] => c2
    | q :: _ => c2.wr RTX_STAT_STREAM q.stream).evt evCam

/-- RTX_FRAME_SENT. -/
def execRtxFrameSent (s : State) : Host.Outcome State Fault Refusal :=
  effect s fun c => match c.cam.sending with | [] => c | r :: _ => c.rtxSent r

/-- A direct line (R487): the first one starts its frame or drops it, a line that finds the queue full becomes zeros. The
two streams of one source frame are sent together, each with a frame of its own. -/
def Chip.rtxDirect (c : Chip) (s : Nat) (line : List Nat) (first room : Bool) : Chip :=
  let i := ctxIdx (c.rd (RTX_STR_CFG_PIPE.at s)) (c.rd (RTX_STR_CFG_CTX.at s))
  let v := (c.ctx i).vc
  let r : RtxFrame := ⟨s, idxPipe i, idxCtx i, 0, c.rd (vcF v CSI_VC_STAT_FRAME_CNT), 16 * idxCtx i + 64 * idxPipe i,
    (c.vc v).startTs⟩
  let clash := c.cam.sending.any fun x =>
    !(c.cam.direct && x.pipe == r.pipe && x.ctx == r.ctx && x.count == r.count && x.stream != s)
  if first = true ∧ clash = true then
    (c.bump (RTX_STR_CNT_DROP.at s) 1).onCam fun k => { k with dropDirect := s :: k.dropDirect }
  else if first = false ∧ (c.cam.dropDirect.contains s || !(c.cam.sending.any fun x => x.stream == s)) = true then c
  else
    let c1 := if first then (c.onCam fun k => { k with dropDirect := k.dropDirect.filter fun x => x != s }).rtxBegin r true
      else c.onCam fun k => { k with sent := [] }
    let data := if room then line else List.replicate line.length 0
    let c2 := if room then c1 else c1.bump (RTX_STR_CNT1_UNDERRUN.at s) 1
    c2.onCam fun k => { k with sent := k.sent ++ [rtxPacket 0x2A (c2.rtxVc s) data.length data] }

/-- RTX_DIRECT_LINE. -/
def execRtxDirectLine (stream : Nat) (line : List Nat) (first room : Bool) (s : State) :
    Host.Outcome State Fault Refusal :=
  effect s fun c =>
    let i := ctxIdx (c.rd (RTX_STR_CFG_PIPE.at stream)) (c.rd (RTX_STR_CFG_CTX.at stream))
    if (stream = 1 ∨ stream = 2) ∧ c.flag RTX_CFG_EN = true ∧ c.flag (RTX_STR_CFG_EN.at stream) = true
        ∧ c.eflag (bankF i ISP0_C0_OUT_CTL_VIS_DIRECT) = true then c.rtxDirect stream line first room
    else c

/-- A write of RTX_STRs_CFG: an enable is refused when another enabled stream has the virtual channel (R488). -/
def Chip.rtxEnable (c : Chip) (s : Nat) (v : Word) : Chip :=
  let clash := RTX_STR_CFG_EN.get v == 1 && [0, 1, 2].any fun k =>
    k != s && c.flag (RTX_STR_CFG_EN.at k) && c.rd (RTX_STR_CFG_VC.at k) == RTX_STR_CFG_VC.get v
  if clash then c.wr RTX_STAT_ERR 1 else c.setReg (0x0D0010 + 0x10 * s) (BitVec.ofNat 32 (v.toNat % 64))

/-- RTX_STREAM_ENABLE. -/
def execRtxStreamEnable (stream : Nat) (v : Word) (s : State) : Host.Outcome State Fault Refusal :=
  effect s fun c =>
    if stream < 3 then c.guardReg (0x0D0010 + 0x10 * stream) fun c => c.rtxEnable stream v else c

end Sys2Proof.Machine
end

