-- ==== Sys2Proof/Machine/Compose.lean ====
section
/-! DEFINITION. Composition (chapter 11): the layers and their pixels, scaling and keystone, blending, occlusion, the
flatten cache, the SAFE layer, the output stages, flip groups and lookahead, and the 2D mover. -/

namespace Sys2Proof.Machine

/-- Change the compositor. -/
def Chip.onCmp (c : Chip) (f : Compose → Compose) : Chip := { c with cmp := f c.cmp }

/-- A field of layer `L`, given that of V0 (Table 11.7). -/
def layF (L : Nat) (f : Field) : Field := f.off (0x80 * L)

/-- CTL.STATIC and FMT.FORMAT, which only graphics layers have. -/
def cmpStatic : Field := ⟨0x100100, 5, 5, 4⟩
def cmpFormat : Field := ⟨0x100104, 3, 0, 4⟩

/-- G5 is the SAFE layer (R282). -/
def Chip.safeLocked (c : Chip) : Bool := c.flag CMP_SAFE_STAT_LOCKED

/-- ROUND_MODE of CMP in effect (R94). -/
def Chip.cmpRound (c : Chip) : Nat := c.ef CMP_ARITH_CTL_ROUND_MODE

/-! ### Canvas and routing (R494) -/

/-- CMP_CTL.ROUTE in effect. -/
def Chip.route (c : Chip) : Bool := c.eflag CMP_CTL_ROUTE

/-- The canvas as it behaves: the nearest permitted size; with ROUTE = 1 a width that is a multiple of 4. -/
def Chip.canvasW (c : Chip) : Nat :=
  let w := min 3840 (max 16 (c.ef CMP_CANVAS_W))
  if c.route then w / 4 * 4 + (if 3 ≤ w % 4 then 4 else 0) else w
def Chip.canvasH (c : Chip) : Nat := min 2160 (max 16 (c.ef CMP_CANVAS_H))

/-- The output depth D of CMP_CTL.DEPTH. -/
def Chip.outDepth (c : Chip) : Nat := 6 + 2 * c.ef CMP_CTL_DEPTH

/-! ### The stack (R495, R509) -/

/-- The layer takes part in composition: enabled, of non-zero size, and not the SAFE layer. -/
def Chip.layerOn (c : Chip) (L : Nat) : Bool :=
  c.eflag (layF L CMP_L0_CTL_EN) && c.ef (layF L CMP_L0_DST_SIZE_W) != 0 && c.ef (layF L CMP_L0_DST_SIZE_H) != 0
    && !(L == 7 && c.safeLocked)

/-- The layers by Z, and by index where Z is equal (R495). -/
def Chip.stack (c : Chip) : List Nat :=
  (List.range 8).flatMap fun z => (List.range 8).filter fun L => c.layerOn L && c.ef (layF L CMP_L0_CTL_Z) == z

/-- The layer covers the canvas position. -/
def Chip.inRect (c : Chip) (L x y : Nat) : Bool :=
  let x0 := c.ef (layF L CMP_L0_DST_POS_X)
  let y0 := c.ef (layF L CMP_L0_DST_POS_Y)
  decide (x0 ≤ x) && decide (x < x0 + c.ef (layF L CMP_L0_DST_SIZE_W)) && decide (y0 ≤ y)
    && decide (y < y0 + c.ef (layF L CMP_L0_DST_SIZE_H))

/-- GALPHA as it behaves. -/
def Chip.galpha (c : Chip) (L : Nat) : Nat := min 0x8000 (c.ef (layF L CMP_L0_GALPHA_A))

/-- An occluder (R509). -/
def Chip.occludes (c : Chip) (L : Nat) : Bool :=
  c.layerOn L && c.eflag (layF L CMP_L0_CTL_OPAQUE) && c.galpha L == 0x8000
    && !(L == 0 && c.eflag (layF 0 CMP_L0_CTL_KS_EN))

/-- A pixel of a layer is covered by an occluder above it in the stack. -/
def Chip.covered (c : Chip) (L x y : Nat) : Bool :=
  (((c.stack).dropWhile fun k => k != L).drop 1).any fun k => c.occludes k && c.inRect k x y

/-! ### Fetched words -/

/-- A word of a layer's source: from the lookahead lines in use, else from memory (R523, R525). -/
def Chip.layerWord (c : Chip) (L a : Nat) : Nat × Bool :=
  let held := match c.cmp.live.getD L none with
    | none => none
    | some h => (h.words.find? fun p => p.1 == a / 8 * 8).map fun p => p.2
  match held with
  | some w => (w, false)
  | none =>
    match c.readSys a with
    | none => (0, false)
    | some r => (r.data, decide (2 ≤ r.cls))

/-- A little-endian value of `n` bytes of a layer's source, and whether its word is bad. -/
def Chip.layerNum (c : Chip) (L a n : Nat) : Nat × Bool :=
  let w := c.layerWord L a
  (w.1 / 256 ^ (a % 8) % 256 ^ n, w.2)

/-! ### Video sources (R493, R521) -/

/-- SRC_MODE as it behaves: 0 FIXED, 1 VIN, 2 ISP. -/
def Chip.srcMode (c : Chip) (L : Nat) : Nat :=
  if c.ef (layF L CMP_L0_CTL_SRC_MODE) = 3 then 0 else c.ef (layF L CMP_L0_CTL_SRC_MODE)

/-- The surface a video layer reads: its own registers, or the ring buffer it has latched. -/
def Chip.videoSurface (c : Chip) (L : Nat) : Option Surface :=
  if c.srcMode L = 0 then
    some
      { chroma := chromaCode (c.ef (layF L CMP_L0_FMT_CHROMA)), planar := c.eflag (layF L CMP_L0_FMT_PLANAR)
        depth10 := c.eflag (layF L CMP_L0_FMT_DEPTH10), base0 := c.ef (layF L CMP_L0_BASE_ADDR)
        base1 := c.ef ((layF L CMP_L0_BASE_ADDR).off 4), base2 := c.ef ((layF L CMP_L0_BASE_ADDR).off 8)
        stride0 := c.ef (layF L CMP_L0_STRIDE_P0), stride1 := c.ef (layF L CMP_L0_STRIDE_C) }
  else
    (c.cmp.latches.getD L none).map fun r =>
      { chroma := r.chroma, planar := r.planar, depth10 := r.depth10, base0 := r.base0, base1 := r.base1
        base2 := r.base2, stride0 := r.stride0, stride1 := r.stride1 }

/-- Bytes of one sample. -/
def Surface.bps (s : Surface) : Nat := if s.depth10 then 2 else 1

/-- The place of the luma sample and of the two chroma samples of a source pixel. -/
def Surface.lumaAddr (s : Surface) (x y : Nat) : Nat := s.base0 + y * s.stride0 + x * s.bps
def Surface.chromaAddr (s : Surface) (second : Bool) (x y : Nat) : Nat :=
  let m := if s.chroma = 2 then x else x / 2
  let j := if s.chroma = 0 then y / 2 else y
  if s.planar then (if second then s.base2 else s.base1) + j * s.stride1 + m * s.bps
  else s.base1 + j * s.stride1 + (2 * m + b2n second) * s.bps

/-- A stored sample as U12 (R67, R419). -/
def Chip.videoSample (c : Chip) (L : Nat) (s : Surface) (a : Nat) : Nat × Bool :=
  let v := c.layerNum L a s.bps
  (if s.depth10 then pixel10 (v.1 / 64) else pixel8 v.1, v.2)

/-- A picture value with its marks: RED, GRN, BLU, a bad word contributed, saturations of the matrix. -/
structure Rgb where
  r : Nat
  g : Nat
  b : Nat
  bad : Bool
  sat : Nat
deriving DecidableEq, Repr

/-- Stage 1 of a video layer: one source pixel (R493). -/
def Chip.videoPixel (c : Chip) (L : Nat) (s : Surface) (x y : Nat) : Rgb :=
  let l := c.videoSample L s (s.lumaAddr x y)
  let u := c.videoSample L s (s.chromaAddr false x y)
  let v := c.videoSample L s (s.chromaAddr true x y)
  let row := fun (k : Nat) =>
    matrixOut 0 ((List.range 3).map fun j => c.ef ((layF L CMP_L0_CSC_M0_M).off (4 * (3 * k + j)))) [l.1, u.1, v.1]
      (c.ef ((layF L CMP_L0_CSC_O_O).at k))
  let r := row 0
  let g := row 1
  let b := row 2
  ⟨r.1, g.1, b.1, l.2 || u.2 || v.2, b2n r.2 + b2n g.2 + b2n b.2⟩

/-! ### Scaling and keystone (R500-R505) -/

/-- The accumulators of a line of V0 or V1 with 24 fraction bits: HSTART, HSTEP, VSTEP, the source line, and how many of
the last sums saturated. -/
structure Accum where
  hstart : Int
  hstep : Int
  vstep : Int
  ys : Int
  sats : Nat
deriving DecidableEq, Repr

/-- A sum limited to a range, and whether it was. -/
def limit (lo hi x : Int) : Int × Bool := if x < lo then (lo, true) else if hi < x then (hi, true) else (x, false)

/-- The accumulators at output line `m` (R502, R504). -/
def Chip.accumAt (c : Chip) (L m : Nat) : Accum :=
  let f := fun (g : Field) => c.ef (layF L g)
  match m with
  | 0 =>
    ⟨toSigned 32 (f CMP_L0_HSTART_V) * 256, (f CMP_L0_HSTEP_V : Int) * 256, (f CMP_L0_VSTEP_V : Int) * 256,
      toSigned 32 (f CMP_L0_VSTART_V) * 256, 0⟩
  | k + 1 =>
    let a := Chip.accumAt c L k
    let ys := a.ys + a.vstep
    if L = 0 ∧ f CMP_L0_CTL_KS_EN = 1 then
      let hs := limit (-(2 : Int) ^ 39) ((2 : Int) ^ 39 - 1) (a.hstart + toSigned 32 (f CMP_L0_KS_DHSTART_V))
      let st := limit 0 ((2 : Int) ^ 32 - 1) (a.hstep + toSigned 26 (f CMP_L0_KS_DHSTEP_V))
      let vs := limit 0 ((2 : Int) ^ 32 - 1) (a.vstep + toSigned 26 (f CMP_L0_KS_DVSTEP_V))
      ⟨hs.1, st.1, vs.1, ys, b2n hs.2 + b2n st.2 + b2n vs.2⟩
    else ⟨a.hstart, a.hstep, a.vstep, ys, 0⟩

/-- A tap coefficient: horizontal tap `t` or vertical tap `t` of a phase (Table 11.9). -/
def Chip.htap (c : Chip) (L p t : Nat) : Nat := c.rd (CMP_HTAP_T.off (0x1000 * L + 0x20 * p + 4 * t))
def Chip.vtap (c : Chip) (L p t : Nat) : Nat := c.rd (CMP_VTAP_T.off (0x1000 * L + 0x20 * p + 4 * t))

/-- The whole part and the phase of a position (R500). -/
def posWhole (x : Int) : Int := x.fdiv (2 ^ 24)
def posPhase (x : Int) : Nat := (x.fmod (2 ^ 24)).toNat * 64 / 2 ^ 24

/-- A tap position inside the source: the nearest pixel or line (R501). -/
def clampTo (i : Int) (n : Nat) : Nat := if i < 0 then 0 else if (n : Int) ≤ i then n - 1 else i.toNat

/-- The scaler pass over the taps of a position: `px` gives the value at a source index. -/
def scaleTaps (mode : Nat) (coefs : List Nat) (vals : List Rgb) : Rgb :=
  let r := scalerPass mode coefs (vals.map fun v => v.r)
  let g := scalerPass mode coefs (vals.map fun v => v.g)
  let b := scalerPass mode coefs (vals.map fun v => v.b)
  ⟨r.1, g.1, b.1, vals.any fun v => v.bad, b2n r.2 + b2n g.2 + b2n b.2⟩

/-- SRC_SIZE as it behaves (16-4,096). -/
def Chip.srcW (c : Chip) (L : Nat) : Nat := min 4096 (max 16 (c.ef (layF L CMP_L0_SRC_SIZE_W)))
def Chip.srcH (c : Chip) (L : Nat) : Nat := min 4096 (max 16 (c.ef (layF L CMP_L0_SRC_SIZE_H)))

/-- A horizontally scaled pixel: source line `j`, position `xs` (R500). -/
def Chip.hScaled (c : Chip) (L : Nat) (s : Surface) (j : Nat) (xs : Int) : Rgb :=
  let p := posPhase xs
  scaleTaps c.cmpRound ((List.range 8).map fun t => c.htap L p t)
    ((List.range 8).map fun (t : Nat) => c.videoPixel L s (clampTo (posWhole xs + (t : Int) - 3) (c.srcW L)) j)

/-- A pixel of a layer as it enters de-gamma: colours in U12, alpha in U1.15, and saturations of stages 1, 2, 3. -/
structure LayerPixel where
  r : Nat
  g : Nat
  b : Nat
  alpha : Nat
  sat1 : Nat
  sat2 : Nat
  sat3 : Nat
deriving DecidableEq, Repr

/-- A transparent pixel. -/
def LayerPixel.clear : LayerPixel := ⟨0, 0, 0, 0, 0, 0, 0⟩

/-- A position outside the source, or saturated (R505). -/
def outside (x : Int) (n : Nat) : Bool :=
  decide (x < 0) || decide ((n : Int) * 2 ^ 24 ≤ x) || decide ((2 : Int) ^ 39 - 1 < x)

/-- Pixel (n, m) of a video layer's destination rectangle (R500-R505, R498, R526). The store keeps horizontally scaled
lines, so the saturations of stages 1 and 2 are those of the lines that this output line is the first to need. -/
def Chip.videoLayerPixel (c : Chip) (L n m : Nat) : LayerPixel :=
  match c.videoSurface L with
  | none => .clear
  | some s =>
    if c.eflag (layF L CMP_L0_CTL_BYPASS) then
      let p := c.videoPixel L s n m
      if p.bad then ⟨0, 0, 0, 0x8000, p.sat, 0, 0⟩ else ⟨p.r, p.g, p.b, 0x8000, p.sat, 0, 0⟩
    else if L = 1 ∧ 1792 ≤ n then .clear
    else
      let a := c.accumAt L m
      let xs := a.hstart + (n : Int) * a.hstep
      if L = 0 ∧ (outside xs (c.srcW 0) = true ∨ outside a.ys (c.srcH 0) = true) then .clear
      else
        let j := posWhole a.ys
        let js := (List.range 6).map fun (t : Nat) => clampTo (j + (t : Int) - 2) (c.srcH L)
        let hs := js.map fun k => c.hScaled L s k xs
        let v := scaleTaps c.cmpRound ((List.range 6).map fun t => c.vtap L (posPhase a.ys) t) hs
        let before := if m = 0 ∨ (L = 0 ∧ c.eflag CMP_L0_CTL_KS_EN = true) then [] else
          (List.range 6).map fun (t : Nat) => clampTo (posWhole (a.ys - a.vstep) + (t : Int) - 2) (c.srcH L)
        let fresh := (js.zip hs).eraseDups.filter fun x => !(before.contains x.1)
        let s2 := (fresh.map fun x => x.2.sat).foldl (· + ·) 0
        if v.bad then ⟨0, 0, 0, 0x8000, 0, s2, v.sat⟩ else ⟨v.r, v.g, v.b, 0x8000, 0, s2, v.sat⟩

/-- The saturations of stage 1 of a scaled line: those of the source lines it is the first to need. -/
def Chip.scaledSat1 (c : Chip) (L m : Nat) : Nat :=
  match c.videoSurface L with
  | none => 0
  | some s =>
    let a := c.accumAt L m
    let win := fun (y : Int) => (List.range 6).map fun (t : Nat) => clampTo (posWhole y + (t : Int) - 2) (c.srcH L)
    let before := if m = 0 then [] else win (a.ys - a.vstep)
    (((win a.ys).eraseDups.filter fun j => !(before.contains j)).map fun j =>
      ((List.range (c.srcW L)).map fun x => (c.videoPixel L s x j).sat).foldl (· + ·) 0).foldl (· + ·) 0

/-- Pixel (n, m) of a graphics layer (R490-R492, R526). -/
def Chip.gfxLayerPixel (c : Chip) (L n m : Nat) : LayerPixel :=
  let fmt := c.ef (layF L cmpFormat)
  let bytes := gfxBytes fmt
  let w := c.layerNum L (c.ef (layF L CMP_L0_BASE_ADDR) + m * c.ef (layF L CMP_L0_STRIDE_P0) + n * bytes) bytes
  if w.2 then .clear
  else
    let p := unpackGfx fmt w.1
    ⟨p.1.1, p.1.2.1, p.1.2.2, p.2, 0, 0, 0⟩

/-- A layer's pixel at a canvas position inside its rectangle. -/
def Chip.layerPixel (c : Chip) (L x y : Nat) : LayerPixel :=
  let n := x - c.ef (layF L CMP_L0_DST_POS_X)
  let m := y - c.ef (layF L CMP_L0_DST_POS_Y)
  if L < 2 then c.videoLayerPixel L n m else c.gfxLayerPixel L n m

/-! ### De-gamma and blending (R506-R508) -/

/-- De-gamma of a component (R506). -/
def Chip.toLinear (c : Chip) (L v : Nat) : Nat :=
  if c.eflag (layF L CMP_L0_CTL_LUT_EN) then degamma (fun i => (c.get (0x140000 + 0x1000 * L + 4 * i)).toNat % 65536) v
  else 8 * v

/-- Effective alpha (R507). -/
def Chip.effAlpha (c : Chip) (L alpha : Nat) : Nat :=
  let a := if c.eflag (layF L CMP_L0_CTL_OPAQUE) then 0x8000 else alpha
  (roundDiv 0 ((a * c.galpha L : Nat) : Int) 32768).toNat

/-- One lane (R508). -/
def blend (col alpha under : Nat) : Nat := (roundDiv 0 ((col * alpha + under * (32768 - alpha) : Nat) : Int) 32768).toNat

/-- A linear colour. -/
abbrev Lin := Nat × Nat × Nat

/-- Blend a colour over another. -/
def blend3 (col : Lin) (alpha : Nat) (under : Lin) : Lin :=
  (blend col.1 alpha under.1, blend col.2.1 alpha under.2.1, blend col.2.2 alpha under.2.2)

/-- The lane of a layer at a canvas position. -/
def Chip.lane (c : Chip) (L x y : Nat) (under : Lin) : Lin :=
  if !c.inRect L x y then under
  else
    let p := c.layerPixel L x y
    blend3 (c.toLinear L p.r, c.toLinear L p.g, c.toLinear L p.b) (c.effAlpha L p.alpha) under

/-! ### The flatten cache (R528-R532) -/

/-- CMP_FLAT_STAT.STATE. -/
def Chip.flatValid (c : Chip) : Bool := c.rd CMP_FLAT_STAT_STATE == 2

/-- The cache's place of a canvas position. -/
def Chip.flatAddr (c : Chip) (x y : Nat) : Nat :=
  let f := c.cmp.flat
  c.ef CMP_FLAT_BASE_ADDR + ((y - f.y0) * f.w + (x - f.x0)) * 8

/-- The lane that reads the cache (R530). -/
def Chip.flatLane (c : Chip) (x y : Nat) (under : Lin) : Lin :=
  let f := c.cmp.flat
  if f.x0 ≤ x ∧ x < f.x0 + f.w ∧ f.y0 ≤ y ∧ y < f.y0 + f.h then
    let w := c.layerWord 8 (c.flatAddr x y)
    let t := w.1 / 2 ^ 48 % 65536
    let out := fun (cp u : Nat) => (roundDiv 0 ((cp * 32768 + u * t : Nat) : Int) 32768).toNat
    if w.2 then under
    else (out (w.1 % 65536) under.1, out (w.1 / 2 ^ 16 % 65536) under.2.1, out (w.1 / 2 ^ 32 % 65536) under.2.2)
  else under

/-- One stack position: a member of a valid cache passes its input through, the lowest member reads the cache. -/
def Chip.stackLane (c : Chip) (L x y : Nat) (under : Lin) : Lin :=
  if c.flatValid && c.cmp.flat.members.contains L then
    (if c.cmp.flat.members.headD 8 = L then c.flatLane x y under else under)
  else c.lane L x y under

/-! ### The SAFE layer (R533, R534) -/

/-- A byte and a little-endian value of the SAFE SRAM. -/
def Chip.safeByte (c : Chip) (i : Nat) : Nat := (SMap.get (fun _ => (0 : Byte)) c.cmp.safe i).toNat
def Chip.safeNum (c : Chip) (i n : Nat) : Nat := ((List.range n).map fun k => c.safeByte (i + k) * 256 ^ k).foldl (· + ·) 0

/-- Header fields (Table 11.5). -/
def Chip.safeBpp (c : Chip) : Nat := c.safeByte 2
def Chip.safeScale (c : Chip) : Nat := max 1 (c.safeByte 3)
def Chip.safeW (c : Chip) : Nat := c.safeNum 4 2
def Chip.safeH (c : Chip) : Nat := c.safeNum 6 2
def Chip.safeX (c : Chip) : Nat := c.safeNum 8 2
def Chip.safeY (c : Chip) : Nat := c.safeNum 10 2
def Chip.safeRects (c : Chip) : Nat := c.safeByte 12

/-- X0, Y0, W, H and EXPECT of guarded rectangle `r`. -/
def Chip.safeRect (c : Chip) (r : Nat) : Nat × Nat × Nat × Nat × Nat :=
  let a := 16 + 12 * r
  (c.safeNum a 2, c.safeNum (a + 2) 2, c.safeNum (a + 4) 2, c.safeNum (a + 6) 2, c.safeNum (a + 8) 4)

/-- Bytes of a row of the bitmap. -/
def Chip.safeRow (c : Chip) : Nat := (c.safeW * c.safeBpp + 7) / 8

/-- The header is valid (R533). -/
def Chip.safeHeaderOk (c : Chip) : Bool :=
  c.safeNum 0 2 == 0x5346 && [1, 2, 4].contains c.safeBpp && [1, 2, 4].contains (c.safeByte 3)
    && decide (c.safeRects ≤ 4) && decide (192 + c.safeH * c.safeRow ≤ 32768)
    && (List.range (min 4 c.safeRects)).all fun r =>
      let q := c.safeRect r
      decide (c.safeX ≤ q.1) && decide (c.safeY ≤ q.2.1) && decide (q.1 + q.2.2.1 ≤ c.safeX + c.safeW * c.safeScale)
        && decide (q.2.1 + q.2.2.2.1 ≤ c.safeY + c.safeH * c.safeScale)

/-- The SAFE lock event: G5 becomes the SAFE layer; a bad header is never shown and asserts SAFE_SIG until reset
(R282, R533). -/
def Chip.safeLock (c : Chip) : Chip :=
  let c1 := (c.wr CMP_SAFE_STAT_LOCKED 1).onCmp fun k =>
    { k with ahead := k.ahead.set 7 none, live := k.live.set 7 none }
  if c1.safeHeaderOk then c1
  else ((c1.wr CMP_SAFE_STAT_HDR_ERR 1).onLk fun k => { k with hdrErr := true }).srcOn 6 0x100

/-- The palette entry of a canvas position: RED, GRN, BLU, ALPHA; none outside the bitmap. -/
def Chip.safePixel (c : Chip) (x y : Nat) : Option (Nat × Nat × Nat × Nat) :=
  let s := c.safeScale
  if c.safeX ≤ x ∧ x < c.safeX + c.safeW * s ∧ c.safeY ≤ y ∧ y < c.safeY + c.safeH * s then
    let k := (x - c.safeX) / s
    let per := 8 / max 1 c.safeBpp
    let byte := c.safeByte (192 + (y - c.safeY) / s * c.safeRow + k * c.safeBpp / 8)
    let e := 64 + 8 * (byte / 2 ^ (c.safeBpp * (k % max 1 per)) % 2 ^ c.safeBpp)
    some (c.safeNum e 2, c.safeNum (e + 2) 2, c.safeNum (e + 4) 2, c.safeNum (e + 6) 2)
  else none

/-- The SAFE lane (R534). -/
def Chip.safeLane (c : Chip) (x y : Nat) (under : Lin) : Lin :=
  if !c.flag CMP_SAFE_STAT_SHOWN then under
  else
    match c.safePixel x y with
    | none => under
    | some p => blend3 (p.1, p.2.1, p.2.2.1) p.2.2.2 under

/-! ### After blending (R511, R512) -/

/-- A canvas pixel: the U12 output of stage 9, and the saturations of stages 5, 6. -/
structure CanvasPixel where
  r : Nat
  g : Nat
  b : Nat
  sat5 : Nat
  sat6 : Nat
deriving DecidableEq, Repr

/-- Stages 8 and 9 of a blended colour. -/
def Chip.outStages (c : Chip) (p : Lin) : CanvasPixel :=
  let l0 := satLinear p.1
  let l1 := satLinear p.2.1
  let l2 := satLinear p.2.2
  let g := fun (k v : Nat) => (c.get (0x148000 + 0x4000 * k + 4 * gammaIndex v)).toNat % 4096
  let xs := [g 0 l0.1, g 1 l1.1, g 2 l2.1]
  let row := fun (k : Nat) =>
    matrixOut c.cmpRound ((List.range 3).map fun j => c.ef (CMP_MAT_M0_M.off (4 * (3 * k + j)))) xs
      (c.ef (CMP_MAT_O_O.at k))
  let r := row 0
  let gr := row 1
  let b := row 2
  ⟨r.1, gr.1, b.1, b2n l0.2 + b2n l1.2 + b2n l2.2, b2n r.2 + b2n gr.2 + b2n b.2⟩

/-- The background (R508). -/
def Chip.background (c : Chip) : Lin := (c.ef CMP_BG_RG_RED, c.ef CMP_BG_RG_GRN, c.ef CMP_BG_B_BLU)

/-- The blended colour of a canvas position: every layer of the stack, then the SAFE lane. -/
def Chip.blended (c : Chip) (x y : Nat) : Lin :=
  c.safeLane x y (c.stack.foldl (fun u L => c.stackLane L x y u) c.background)

/-- The dither thresholds of R512. -/
def ditherM : List (List Nat) := [[0, 8, 2, 10], [12, 4, 14, 6], [3, 11, 1, 9], [15, 7, 13, 5]]

/-- The dither origin for a mode and a frame counter. -/
def ditherOrigin (mode frame : Nat) : Nat × Nat :=
  if mode = 1 then (0, 0) else [(0, 0), (2, 2), (2, 0), (0, 2)].getD (frame % 4) (0, 0)

/-- Stage 11 of a component (R512). -/
def ditherOut (mode depth frame x y v : Nat) : Nat :=
  let s := 12 - depth
  if s = 0 then v
  else if mode = 0 then min (2 ^ depth - 1) (roundDiv 0 (v : Int) (2 ^ s)).toNat
  else
    let o := ditherOrigin mode frame
    let t := (ditherM.getD ((y + o.2) % 4) []).getD ((x + o.1) % 4) 0
    min (2 ^ depth - 1) ((v + t * 2 ^ s / 16) / 2 ^ s)

/-- A column lies in one of the ranges (first, count) that are composed. -/
def inCols (vis : List (Nat × Nat)) (x : Nat) : Bool := vis.any fun r => decide (r.1 ≤ x) && decide (x < r.1 + r.2)

/-- The canvas line `y` after stage 9; none where the pixel is not composed (R552). -/
def Chip.canvasLine (c : Chip) (vis : List (Nat × Nat)) (y : Nat) : List (Option CanvasPixel) :=
  (List.range c.canvasW).map fun x => if inCols vis x then some (c.outStages (c.blended x y)) else none

/-- A canvas line as output codes; a pixel that is not composed reaches no output. -/
def Chip.lineCodes (c : Chip) (y : Nat) (ps : List (Option CanvasPixel)) : List (Nat × Nat × Nat) :=
  let d := fun (x v : Nat) => ditherOut (c.ef CMP_CTL_DITHER) c.outDepth (c.rd SOA_FRAME_FRAME) x y v
  ps.zipIdx.map fun p => match p.1 with
    | some q => (d p.2 q.r, d p.2 q.g, d p.2 q.b)
    | none => (0, 0, 0)

/-! ### What composing a line leaves behind -/

/-- The fetch of a source row of an unscaled layer: the 64-byte segments that hold a pixel that is composed (R552) and
uncovered (R510), their errors, and the words substituted (R526). `addr` gives the byte address of column `n`. -/
def Chip.fetchRow (c : Chip) (vis : List (Nat × Nat)) (port L y : Nat) (bytes : Nat) (addr : Nat → Nat) : Chip :=
  let x0 := c.ef (layF L CMP_L0_DST_POS_X)
  let cols := (List.range (c.ef (layF L CMP_L0_DST_SIZE_W))).filter fun n =>
    decide (x0 + n < c.canvasW) && inCols vis (x0 + n) && !c.covered L (x0 + n) y
  let held := fun (a : Nat) => match c.cmp.live.getD L none with
    | none => false
    | some h => h.words.any fun p => p.1 == a
  let words := ((cols.flatMap fun n => [addr n / 8 * 8, (addr n + bytes - 1) / 8 * 8]).eraseDups).filter fun a => !held a
  let segs := (words.map fun a => a / 64).eraseDups
  let bad := (words.filter fun a => c.badAt a).length
  (segs.foldl (fun (c : Chip) s => c.readNote port (s * 64) 64) c).bump (layF L CMP_L0_LSTAT_SUBST) bad

/-- The fetch of whole source rows of a scaled layer. -/
def Chip.fetchScaled (c : Chip) (L m : Nat) (s : Surface) : Chip :=
  let a := c.accumAt L m
  let win := fun (y : Int) => (List.range 6).map fun (t : Nat) => clampTo (posWhole y + (t : Int) - 2) (c.srcH L)
  let before := if m = 0 then [] else win (a.ys - a.vstep)
  let rows := (win a.ys).eraseDups.filter fun j => !(before.contains j)
  let row := fun (c : Chip) (base n : Nat) =>
    (c.readNote (4 + L) base n).bump (layF L CMP_L0_LSTAT_SUBST) (c.badWords base n)
  let cw := if s.chroma = 2 then c.srcW L else (c.srcW L + 1) / 2
  rows.foldl
    (fun (c : Chip) j =>
      let c1 := row c (s.lumaAddr 0 j) (c.srcW L * s.bps)
      if s.chroma = 0 ∧ j % 2 = 1 then c1
      else if s.planar then row (row c1 (s.chromaAddr false 0 j) (cw * s.bps)) (s.chromaAddr true 0 j) (cw * s.bps)
      else row c1 (s.chromaAddr false 0 j) (2 * cw * s.bps)) c

/-- The fetches of a layer for a canvas line. -/
def Chip.fetchLayer (c : Chip) (vis : List (Nat × Nat)) (L y : Nat) : Chip :=
  let y0 := c.ef (layF L CMP_L0_DST_POS_Y)
  if y < y0 ∨ y0 + c.ef (layF L CMP_L0_DST_SIZE_H) ≤ y then c
  else if c.flatValid && c.cmp.flat.members.contains L then c
  else
    let m := y - y0
    if 2 ≤ L then
      let b := gfxBytes (c.ef (layF L cmpFormat))
      c.fetchRow vis 6 L y b fun n => c.ef (layF L CMP_L0_BASE_ADDR) + m * c.ef (layF L CMP_L0_STRIDE_P0) + n * b
    else
      match c.videoSurface L with
      | none => c
      | some s =>
        if c.eflag (layF L CMP_L0_CTL_BYPASS) then
          let c1 := c.fetchRow vis (4 + L) L y s.bps fun n => s.lumaAddr n m
          let c2 := c1.fetchRow vis (4 + L) L y (if s.planar then s.bps else 2 * s.bps) fun n =>
            s.chromaAddr false n m
          if s.planar then c2.fetchRow vis (4 + L) L y s.bps fun n => s.chromaAddr true n m else c2
        else c.fetchScaled L m s

/-- The read of the cache for a canvas line, segment by segment as for an unscaled layer (R510). -/
def Chip.fetchFlat (c : Chip) (vis : List (Nat × Nat)) (y : Nat) : Chip :=
  let f := c.cmp.flat
  if c.flatValid && decide (f.y0 ≤ y) && decide (y < f.y0 + f.h) then
    let cols := (List.range f.w).filter fun n =>
      inCols vis (f.x0 + n) && !c.covered (f.members.getLastD 0) (f.x0 + n) y
    ((cols.map fun n => c.flatAddr (f.x0 + n) y / 64).eraseDups).foldl (fun (c : Chip) s => c.readNote 6 (s * 64) 64) c
  else c

/-- The saturations of stages 1 to 4 of video layer `L` on a canvas line. -/
def Chip.layerSats (c : Chip) (vis : List (Nat × Nat)) (y L : Nat) : List Nat :=
  let y0 := c.ef (layF L CMP_L0_DST_POS_Y)
  if !c.layerOn L || decide (y < y0) || decide (y0 + c.ef (layF L CMP_L0_DST_SIZE_H) ≤ y) then []
  else
    let m := y - y0
    let ns := (List.range (c.ef (layF L CMP_L0_DST_SIZE_W))).filter fun n =>
      inCols vis (c.ef (layF L CMP_L0_DST_POS_X) + n)
    let ps := ns.map fun n => c.videoLayerPixel L n m
    let scaled := !c.eflag (layF L CMP_L0_CTL_BYPASS)
    [if scaled then c.scaledSat1 L m else (ps.map fun p => p.sat1).sum, (ps.map fun p => p.sat2).sum,
      (ps.map fun p => p.sat3).sum, if scaled then (c.accumAt L m).sats else 0]

/-- The saturations of stages 1 to 4 of a canvas line: those of both video layers, the lowest stage first (R93). -/
def Chip.lineSats (c : Chip) (vis : List (Nat × Nat)) (y : Nat) : Chip :=
  [1, 2, 3, 4].foldl
    (fun (x : Chip) k =>
      x.saturate 0x100000 k ((c.layerSats vis y 0).getD (k - 1) 0 + (c.layerSats vis y 1).getD (k - 1) 0)) c

/-- The ring size of write-back. -/
def Chip.wbNbuf (c : Chip) : Nat := max 1 (c.ef CMP_WB_CTL_NBUF) + 1

/-- A pixel of write-back (R539): its word and how many components saturated. -/
def wbPixel (ten : Bool) (p : CanvasPixel) : Nat × Nat :=
  let bits := if ten then 10 else 8
  let r := narrow bits p.r
  let g := narrow bits p.g
  let b := narrow bits p.b
  (r.1 * 2 ^ (2 * bits) + g.1 * 2 ^ bits + b.1, b2n r.2 + b2n g.2 + b2n b.2)

/-- Write-back of a canvas line (R539, R540): the pixels that are composed, range by range. -/
def Chip.writeBack (c : Chip) (vis : List (Nat × Nat)) (y : Nat) (ps : List (Option CanvasPixel)) (room : Bool) : Chip :=
  if c.cmp.wbOn = false then c
  else if room = false then c.bump CMP_WB_CNT_WB_DROP 1
  else
    let b := (c.cmp.wbK + c.wbNbuf - 1) % c.wbNbuf
    let base := c.ef (CMP_WB_BUF_ADDR.at b) + y * c.ef CMP_WB_STRIDE_S
    vis.foldl
      (fun (c : Chip) r =>
        let ws := (((ps.drop r.1).take r.2).filterMap id).map fun p => wbPixel (c.eflag CMP_WB_CTL_FMT) p
        (c.saturate 0x100000 7 ((ws.map fun w => w.2).foldl (· + ·) 0)).writeBytes 6 (base + 4 * r.1)
          (ws.flatMap fun w => toLe 4 w.1)) c

/-- The saturations of stages 8 and 9 of a line, the lower stage code first (R93). -/
def Chip.outSats (c : Chip) (ps : List CanvasPixel) : Chip :=
  (c.saturate 0x100000 5 (ps.map fun p => p.sat5).sum).saturate 0x100000 6 (ps.map fun p => p.sat6).sum

/-- Compose the columns `vis` of canvas line `y`: its codes, and the part after it. -/
def Chip.composeLine (c : Chip) (vis : List (Nat × Nat)) (y : Nat) (wbRoom : Bool) : List (Nat × Nat × Nat) × Chip :=
  let ps := c.canvasLine vis y
  let codes := c.lineCodes y ps
  let c1 := (c.stack.foldl (fun (c : Chip) L => c.fetchLayer vis L y) c).fetchFlat vis y
  (codes, ((c1.lineSats vis y).outSats (ps.filterMap id)).writeBack vis y ps wbRoom)

end Sys2Proof.Machine
end

