-- ==== Sys2Proof/Machine/Flips.lean ====
section
/-! DEFINITION. Flip groups, fences and lookahead, writes of layers and table RAMs, flattening, the SAFE check, and the
2D mover (chapter 11). -/

namespace Sys2Proof.Machine

/-! ### Flip groups (R513-R519) -/

/-- A pending field of layer `L`. -/
def Chip.pend (c : Chip) (L : Nat) (f : Field) : Nat := c.rd (layF L f)

/-- The layers whose pending CTL names group `g`; the SAFE layer is in none (R535). -/
def Chip.groupMembers (c : Chip) (g : Nat) : List Nat :=
  (List.range 8).filter fun L => c.pend L CMP_L0_CTL_GROUP == g && !(L == 7 && c.safeLocked)

/-- A member has reached its fence target, or has no fence (R515). -/
def Chip.fenceReached (c : Chip) (L : Nat) : Bool :=
  c.pend L CMP_L0_CTL_FENCE_EN == 0
    || reached 16 (c.rd (CMP_FENCE_VALUE.at (c.pend L CMP_L0_CTL_FENCE_IDX))) (c.pend L CMP_L0_FENCE_TARGET_T)

/-- The group is ready (R515). -/
def Chip.groupReady (c : Chip) (g : Nat) : Bool := (c.groupMembers g).all fun L => c.fenceReached L

/-- The group is armed. -/
def Chip.armed (c : Chip) (g : Nat) : Bool := c.bit CMP_FLIP_ARM g

/-! ### Lookahead (R523-R525) -/

/-- An error met by a speculative read (Table 8.2). -/
def Chip.noteSpec (c : Chip) (port a : Nat) : Chip :=
  match c.readSys a, c.sysLoc (a / 8 * 8) with
  | some r, some l => if r.cls = 0 then c else c.memError (c.errorOf (c.redirect l) (a / 8 * 8) port true r)
  | _, _ => c

/-- The bytes of the first `n` source lines of a layer's pending buffer: (address, length) pieces. -/
def Chip.aheadPieces (c : Chip) (L n : Nat) : List (Nat × Nat) :=
  if 2 ≤ L then
    (List.range n).map fun y =>
      (c.pend L CMP_L0_BASE_ADDR + y * c.pend L CMP_L0_STRIDE_P0,
        c.pend L CMP_L0_DST_SIZE_W * gfxBytes (c.pend L cmpFormat))
  else
    let w := if c.pend L CMP_L0_CTL_BYPASS = 1 then c.pend L CMP_L0_DST_SIZE_W
      else min 4096 (max 16 (c.pend L CMP_L0_SRC_SIZE_W))
    let s : Surface :=
      { chroma := chromaCode (c.pend L CMP_L0_FMT_CHROMA), planar := c.pend L CMP_L0_FMT_PLANAR == 1
        depth10 := c.pend L CMP_L0_FMT_DEPTH10 == 1, base0 := c.pend L CMP_L0_BASE_ADDR
        base1 := c.rd ((layF L CMP_L0_BASE_ADDR).off 4), base2 := c.rd ((layF L CMP_L0_BASE_ADDR).off 8)
        stride0 := c.pend L CMP_L0_STRIDE_P0, stride1 := c.pend L CMP_L0_STRIDE_C }
    let cw := if s.chroma = 2 then w else (w + 1) / 2
    (List.range n).flatMap fun y =>
      (s.lumaAddr 0 y, w * s.bps) ::
        (if s.planar then [(s.chromaAddr false 0 y, cw * s.bps), (s.chromaAddr true 0 y, cw * s.bps)]
         else [(s.chromaAddr false 0 y, 2 * cw * s.bps)])

/-- LOOKAHEAD as it behaves. -/
def Chip.lookahead (c : Chip) : Nat := min 8 (c.ef CMP_FLIP_CFG_LOOKAHEAD)

/-- Prefetch the pending buffer of a member. -/
def Chip.aheadFetch (c : Chip) (L : Nat) : Chip :=
  let n := c.lookahead
  let port := if L < 2 then 4 + L else 6
  let pieces := c.aheadPieces L n
  let addrs := (pieces.flatMap fun p => wordsOf p.1 p.2).eraseDups
  let good := addrs.filterMap fun a =>
    match c.readSys a with
    | some r => if r.cls < 2 then some (a, r.data) else none
    | none => some (a, 0)
  let c1 := pieces.foldl (fun (c : Chip) p => c.clientLines port p.1 p.2 false)
    (addrs.foldl (fun (c : Chip) a => c.noteSpec port a) c)
  c1.onCmp fun k => { k with ahead := k.ahead.set L (some ⟨n, good⟩) }

/-- Prefetch for every enabled member with a fixed source of every group that is armed and ready (R523). -/
def Chip.aheadStart (c : Chip) : Chip :=
  if c.lookahead = 0 ∨ c.mode.moored = true then c
  else
    (List.range 8).foldl
      (fun (c : Chip) L =>
        let g := c.pend L CMP_L0_CTL_GROUP
        if c.armed g && c.groupReady g && (c.groupMembers g).contains L && c.pend L CMP_L0_CTL_EN == 1
            && (decide (2 ≤ L) || c.pend L CMP_L0_CTL_SRC_MODE == 0 || c.pend L CMP_L0_CTL_SRC_MODE == 3)
            && (c.cmp.ahead.getD L none).isNone then c.aheadFetch L
        else c) c

/-- Discard a layer's prefetched lines, counted (R524). -/
def Chip.aheadDrop (c : Chip) (L : Nat) : Chip :=
  match c.cmp.ahead.getD L none with
  | none => c
  | some h =>
    (c.bump (layF L CMP_L0_LSTAT_LA_DISCARD) h.lines).onCmp fun k => { k with ahead := k.ahead.set L none }

/-- Discard the lines of every layer. -/
def Chip.aheadDropAll (c : Chip) (ls : List Nat) : Chip := ls.foldl (fun (c : Chip) L => c.aheadDrop L) c

/-! ### Arming and cancelling -/

/-- The result of a group: an event of the manifest that armed it, or CMP_FLIP.EVT (R519). -/
def Chip.groupEvent (c : Chip) (g : Nat) : Chip :=
  if c.cmp.byMfst.testBit g then c.evt evMfst else c.wr CMP_FLIP_EVT 1

/-- A group ends with a result: disarmed. -/
def Chip.groupEnd (c : Chip) (g result : Nat) : Chip :=
  ((((c.setBit CMP_FLIP_ARM g false).wr (CMP_GROUP_STAT_RESULT.at g) result).groupEvent g).onCmp fun k =>
    { k with waits := k.waits.set g 0, byMfst := withBit k.byMfst g false, late := withBit k.late g false })

/-- A cancel or a timeout of an armed group (R517, R518). -/
def Chip.groupStop (c : Chip) (g result : Nat) : Chip := (c.aheadDropAll (c.groupMembers g)).groupEnd g result

/-- A field of scan-out `so`, given that of scan-out A. -/
def soF (so : Nat) (f : Field) : Field := f.off (so * 0x10000)

/-- ARM written as 1 arms the groups named; one armed already keeps its state (R516, R565). Written after scan-out A's
window closed it counts from the boundary after the next one, and is LATE; a manifest group is never late (R566). -/
def Chip.armGroups (c : Chip) (mask : Nat) (mfst : Bool) : Chip :=
  let fresh := (List.range 4).filter fun g => mask.testBit g && !c.armed g
  let late := !mfst && c.soA.closed && !c.mode.moored
  let c1 := fresh.foldl
    (fun (c : Chip) g =>
      (c.setBit CMP_FLIP_ARM g true).onCmp fun k =>
        { k with waits := k.waits.set g 0, byMfst := withBit k.byMfst g mfst, late := withBit k.late g late }) c
  let c2 := if late && !fresh.isEmpty then (c1.wr SOA_COMMIT_LATE 1).bump SOA_CNT0_LATE 1 else c1
  c2.aheadStart

/-- CANCEL disarms the groups named and records CANCELLED (R518); a group that is not armed is left alone. -/
def Chip.cancelGroups (c : Chip) (mask : Nat) : Chip :=
  ((List.range 4).filter fun g => mask.testBit g && c.armed g).foldl (fun (c : Chip) g => c.groupStop g 3) c

/-- A write of CMP_FLIP: EVT cleared, CANCEL, then ARM. -/
def Chip.flipWrite (c : Chip) (v : Word) (mfst : Bool) : Chip :=
  let c1 := if CMP_FLIP_EVT.get v = 1 then c.wr CMP_FLIP_EVT 0 else c
  (c1.cancelGroups (CMP_FLIP_CANCEL.get v)).armGroups (CMP_FLIP_ARM.get v) mfst

/-- FLIP_ARM. -/
def execFlipArm (v : Word) (s : State) : Host.Outcome State Fault Refusal :=
  effect s fun c => c.guardReg 0x100020 fun c => c.armGroups (CMP_FLIP_ARM.get v) false

/-- FLIP_CANCEL. -/
def execFlipCancel (v : Word) (s : State) : Host.Outcome State Fault Refusal :=
  effect s fun c => c.guardReg 0x100020 fun c => c.cancelGroups (CMP_FLIP_CANCEL.get v)

/-- A fence takes a value; a group that becomes ready starts its lookahead (R515, R523). -/
def Chip.fenceSet (c : Chip) (n v : Nat) : Chip := (c.wr (CMP_FENCE_VALUE.at n) (v % 65536)).aheadStart

/-- CMP_FENCE_WRITE. -/
def execCmpFenceWrite (n : Nat) (v : Word) (s : State) : Host.Outcome State Fault Refusal :=
  effect s fun c => if n < 16 then c.guardReg (0x100040 + 4 * n) fun c => c.fenceSet n v.toNat else c

/-- A group flips (R516): its members' pending values take effect together; their prefetched lines serve the new frame.
Scan-out A records the stamp (R576). -/
def Chip.groupFlip (c : Chip) (g : Nat) : Chip :=
  let ms := c.groupMembers g
  let c1 := ms.foldl
    (fun (c : Chip) L =>
      (c.commitRange (0x100100 + 0x80 * L) (0x100180 + 0x80 * L)).onCmp fun k =>
        { k with live := k.live.set L (k.ahead.getD L none), ahead := k.ahead.set L none }) c
  let c2 := c1.wr (CMP_GROUP_STAT_FRAME.at g) (c.rd SOA_FRAME_FRAME % 65536)
  { c2.groupEnd g 1 with soA := { c2.soA with grpStamps := c2.soA.grpStamps.set g c.stamp } }

/-- What a boundary decides for group `g` (R516, R517). -/
def Chip.groupDecide (c : Chip) (g : Nat) : Chip :=
  if !c.armed g then c
  else if c.cmp.late.testBit g then c.onCmp fun k => { k with late := withBit k.late g false }
  else if c.groupReady g then c.groupFlip g
  else
    let n := c.cmp.waits.getD g 0 + 1
    let tmo := c.ef CMP_FLIP_CFG_FENCE_TMO
    if 0 < tmo ∧ tmo ≤ n then c.groupStop g 4
    else (c.wr (CMP_GROUP_STAT_RESULT.at g) 2).onCmp fun k => { k with waits := k.waits.set g n }

/-! ### Layer and table writes (R499, R513, R524, R535, R547) -/

/-- A write of a layer register. `mask`: the bits a manifest or a half write may change. -/
def Chip.layerWrite (c : Chip) (a : Nat) (v mask : Word) : Chip :=
  let L := (a - 0x100100) / 0x80
  let w := (c.get a &&& ~~~ mask) ||| (v &&& mask)
  if L = 7 ∧ c.safeLocked = true then c.whErr erLock
  else if a = 0x100180 ∧ CMP_L0_CTL_EN.get w = 1 ∧ CMP_L0_CTL_BYPASS.get w = 0 ∧ c.share = 2 then
    (c.wr CMP_ERR_CODE 1).wr CMP_ERR_ERR 1
  else
    ((c.aheadDrop L).storeFields a v mask).aheadStart

/-- CMP_LAYER_WRITE. -/
def execCmpLayerWrite (addr : Nat) (v : Word) (s : State) : Host.Outcome State Fault Refusal :=
  effect s fun c =>
    if 0x100100 ≤ addr ∧ addr < 0x100500 then c.guardReg addr fun c => c.layerWrite addr v 0xFFFFFFFF#32 else c

/-- TABLE_RAM_WRITE (R547): LUT RAM at 0x14_0000, coefficient RAM at 0x18_0000. -/
def execTableRamWrite (addr : Nat) (v : Word) (s : State) : Host.Outcome State Fault Refusal :=
  effect s fun c =>
    if 0x140000 ≤ addr ∧ addr < 0x1C0000 then c.guardReg addr fun c => c.storeFields addr v 0xFFFFFFFF#32 else c

/-! ### Ring latches and write-back at a boundary (R521, R540) -/

/-- What a video layer latches (R521). -/
def Chip.ringLatch (c : Chip) (L : Nat) : Option RingLatch :=
  let m := c.srcMode L
  if !c.layerOn L || m = 0 then none
  else if m = 1 then
    if c.flag VIN_CAP_STAT_VALID then
      let b := c.rd VIN_CAP_STAT_LATEST
      let s := c.vinSurface b
      some ⟨1, 0, 0, b, s.chroma, s.planar, s.depth10, s.base0, s.base1, s.base2, s.stride0, s.stride1⟩
    else none
  else
    let i := ctxIdx (c.ef (layF L CMP_L0_FMT_PIPE)) (c.ef (layF L CMP_L0_FMT_CTX))
    if c.bit (bankF i ISP0_C0_OUT_STAT_VALID) 0 then
      let b := c.rd (bankF i ISP0_C0_OUT_STAT_DISP)
      some ⟨2, idxPipe i, idxCtx i, b, chromaCode (c.ef (bankF i ISP0_C0_OUT_CTL_DISP_CHROMA)),
        c.eflag (bankF i ISP0_C0_OUT_CTL_DISP_PLANAR), c.eflag (bankF i ISP0_C0_OUT_CTL_DISP_DEPTH10),
        c.ispBuf i b ISP0_C0_BUF_DISP_Y_ADDR, c.ispBuf i b ISP0_C0_BUF_DISP_C0_ADDR,
        c.ispBuf i b ISP0_C0_BUF_DISP_C1_ADDR, c.ef (bankF i ISP0_C0_DISP_STRIDE_P0),
        c.ef (bankF i ISP0_C0_DISP_STRIDE_P1)⟩
    else none

/-- Both video layers latch. -/
def Chip.latchRings (c : Chip) : Chip := c.onCmp fun k => { k with latches := [c.ringLatch 0, c.ringLatch 1] }

/-- V1 reads write-back buffer `b` (R540). -/
def Chip.wbHeld (c : Chip) (b : Nat) : Bool :=
  c.layerOn 1 && c.srcMode 1 == 0 && c.ef (layF 1 CMP_L0_BASE_ADDR) == c.ef (CMP_WB_BUF_ADDR.at b)

/-- The end of a written-back frame names its buffer; the next frame takes the next buffer or is skipped. -/
def Chip.wbFrame (c : Chip) : Chip :=
  let n := c.wbNbuf
  let c1 := if c.cmp.wbOn then
      (c.wr CMP_WB_STAT_LATEST ((c.cmp.wbK + n - 1) % n)).wr CMP_WB_STAT_VALID 1
    else c
  if c.eflag CMP_WB_CTL_EN && c.cmp.running then
    if c.wbHeld (c.cmp.wbK % n) then
      (c1.bump CMP_WB_CNT_WB_SKIP 1).onCmp fun k => { k with wbOn := false }
    else c1.onCmp fun k => { k with wbOn := true, wbK := k.wbK + 1 }
  else c1.onCmp fun k => { k with wbOn := false }

/-! ### Flattening (R528-R532, R546) -/

/-- The layer is static: G0-G4 with STATIC = 1. -/
def Chip.isStatic (c : Chip) (L : Nat) : Bool := decide (2 ≤ L) && decide (L ≤ 6) && c.eflag (layF L cmpStatic)

/-- The flatten group, and PARTIAL (R528). -/
def Chip.flatGroup (c : Chip) : List Nat × Bool :=
  let from' := (c.stack).dropWhile fun L => !c.isStatic L
  let ms := from'.takeWhile fun L => c.isStatic L
  let rest := from'.drop ms.length
  (if ms.length < 2 then [] else ms, rest.any fun L => c.isStatic L)

/-- The bounding box of the members, clipped to the canvas (R529): x0, y0, w, h. -/
def Chip.flatBox (c : Chip) (ms : List Nat) : Nat × Nat × Nat × Nat :=
  let x0 := (ms.map fun L => c.ef (layF L CMP_L0_DST_POS_X)).foldl min 8192
  let y0 := (ms.map fun L => c.ef (layF L CMP_L0_DST_POS_Y)).foldl min 8192
  let x1 := min c.canvasW ((ms.map fun L => c.ef (layF L CMP_L0_DST_POS_X) + c.ef (layF L CMP_L0_DST_SIZE_W)).foldl max 0)
  let y1 := min c.canvasH ((ms.map fun L => c.ef (layF L CMP_L0_DST_POS_Y) + c.ef (layF L CMP_L0_DST_SIZE_H)).foldl max 0)
  (x0, y0, x1 - x0, y1 - y0)

/-- The flatten cache at a boundary (R531): `flipped` are the layers that flipped. A change makes it INVALID and asks for
a build; a build that ended with no change makes it VALID. -/
def Chip.flatBoundary (c : Chip) (flipped : List Nat) : Chip :=
  let g := c.flatGroup
  let old := c.cmp.flat
  let changed := decide (g.1 ≠ old.members) || flipped.any fun L => old.members.contains L || g.1.contains L
  let c1 := c.wr CMP_FLAT_STAT_PARTIAL (b2n g.2)
  if g.1 = [] then
    (c1.wr CMP_FLAT_STAT_STATE 0).onCmp fun k => { k with flat := { Flatten.reset with dirty := c1.flag MOV_CTL_FLAT_ACTIVE } }
  else if changed then
    let b := c1.flatBox g.1
    let busy := c1.flag MOV_CTL_FLAT_ACTIVE
    let c2 := (c1.wr CMP_FLAT_STAT_STATE (if busy then 1 else 3)).onCmp fun k =>
      { k with flat := { members := g.1, x0 := b.1, y0 := b.2.1, w := b.2.2.1, h := b.2.2.2, pending := true
                         dirty := busy, built := false } }
    if c2.ef CMP_FLAT_SIZE_SIZE < b.2.2.1 * b.2.2.2 * 8 then
      ((c2.wr CMP_FLAT_STAT_ERR 1).wr CMP_FLAT_STAT_STATE 3).onCmp fun k => { k with flat := { k.flat with pending := false } }
    else c2.wr CMP_FLAT_STAT_ERR 0
  else if old.built && !old.dirty then
    (c1.wr CMP_FLAT_STAT_STATE 2).onCmp fun k => { k with flat := { k.flat with built := false } }
  else c1

/-- One member over a cache pixel (R529): colour and transmittance. -/
def Chip.flatStep (c : Chip) (x y : Nat) (acc : Lin × Nat) (L : Nat) : Lin × Nat :=
  if !c.inRect L x y then acc
  else
    let p := c.layerPixel L x y
    let a := c.effAlpha L p.alpha
    (blend3 (c.toLinear L p.r, c.toLinear L p.g, c.toLinear L p.b) a acc.1,
      (roundDiv 0 ((acc.2 * (32768 - a) : Nat) : Int) 32768).toNat)

/-- The bytes of a cache row. -/
def Chip.flatRow (c : Chip) (y : Nat) : List Byte :=
  let f := c.cmp.flat
  (List.range f.w).flatMap fun i =>
    let p := f.members.foldl (c.flatStep (f.x0 + i) y) ((0, 0, 0), 0x8000)
    toLe 2 p.1.1 ++ toLe 2 p.1.2.1 ++ toLe 2 p.1.2.2 ++ toLe 2 p.2

/-- FLATTEN_BUILD_DONE (R529, R531): the cache is written; it becomes VALID at the next boundary if nothing changed. -/
def Chip.flatBuilt (c : Chip) : Chip :=
  let f := c.cmp.flat
  let c1 := (List.range f.h).foldl
    (fun (c : Chip) j => c.writeBytes 10 (c.ef CMP_FLAT_BASE_ADDR + j * f.w * 8) (c.flatRow (f.y0 + j))) c
  ((c1.wr MOV_CTL_FLAT_ACTIVE 0).bump CMP_FLAT_STAT_BUILDS 1).onCmp fun k =>
    { k with flat := { k.flat with built := !f.dirty, dirty := false } }

/-- FLATTEN_BUILD_DONE. -/
def execFlattenBuildDone (s : State) : Host.Outcome State Fault Refusal :=
  effect s fun c => if c.flag MOV_CTL_FLAT_ACTIVE then c.flatBuilt else c

/-! ### The SAFE check (R536-R538) -/

/-- The CRC-32 of a guarded rectangle at the output of the SAFE lane (R536). -/
def Chip.safeRectCrc (c : Chip) (r : Nat) : Nat :=
  let q := c.safeRect r
  crc32 ((List.range q.2.2.2.1).flatMap fun j => (List.range q.2.2.1).flatMap fun i =>
    match c.safePixel (q.1 + i) (q.2.1 + j) with
    | none => List.replicate 6 0
    | some p =>
      if p.2.2.2 = 0x8000 then toLe 2 p.1 ++ toLe 2 p.2.1 ++ toLe 2 p.2.2.1 else List.replicate 6 0)

/-- DATA of a SAFE_SIG record (Table 17.6). -/
def Chip.safeData (c : Chip) (mism : Nat) : Nat :=
  mism + (((List.range 4).map fun r => if (c.cmp.safeCrc.getD r none).isNone && c.cmp.safeDone.testBit r then 2 ^ (4 + r)
    else 0).foldl (· + ·) 0) + 256 * b2n c.lk.hdrErr

/-- SAFE_SIG follows the guarded rectangles and HDR_ERR (Table 17.2); the output of PD26 is clamped while it is not ON
(R215), HDR_ERR is held until reset (R533). -/
def Chip.safeDrive (c : Chip) (data : Nat) : Chip :=
  let now := c.lk.hdrErr || (c.pdOn 26 && c.cmp.safeBad)
  if now && !c.lk.asserted.testBit 6 then c.srcOn 6 data
  else if !now && c.lk.asserted.testBit 6 then c.srcOff 6
  else c

/-- The SAFE signal begins or ends to hold. -/
def Chip.safeSig (c : Chip) (bad : Bool) (data : Nat) : Chip := (c.onCmp fun k => { k with safeBad := bad }).safeDrive data

/-- SAFE_RECT_CHECK (R537, R538): compared with EXPECT, or skipped when a line of it was abandoned. -/
def Chip.safeCheck (c : Chip) (r : Nat) : Chip :=
  let q := c.safeRect r
  let done := fun (c : Chip) => c.onCmp fun k => { k with safeDone := withBit k.safeDone r true }
  if c.cmp.abandoned.any fun l => decide (q.2.1 ≤ l) && decide (l < q.2.1 + q.2.2.2.1) then
    done (c.bump CMP_CNT0_SIG_SKIP 1)
  else
    let crc := c.safeRectCrc r
    let c1 := done ((c.wr ((CMP_SAFE_SIG_CRC).at r) crc).onCmp fun k => { k with safeCrc := k.safeCrc.set r (some crc) })
    if crc = q.2.2.2.2 then c1.onCmp fun k => { k with safeOk := withBit k.safeOk r true }
    else
      let m := withBit (c.rd CMP_SAFE_STAT_MISMATCH) r true
      let c2 := ((c1.wr CMP_SAFE_STAT_MISMATCH m).bump CMP_SAFE_STAT_MISMATCH_CNT 1)
      c2.safeSig true (c2.safeData m)

/-- SAFE_RECT_CHECK. -/
def execSafeRectCheck (r : Nat) (s : State) : Host.Outcome State Fault Refusal :=
  effect s fun c =>
    if r < 4 ∧ r < c.safeRects ∧ c.flag CMP_SAFE_STAT_SHOWN = true ∧ c.cmp.safeDone.testBit r = false then c.safeCheck r
    else c

/-- The end of a frame in which the SAFE layer was shown (Table 17.2): a frame whose checks all match releases
SAFE_SIG; SKIP_LIM frames in a row whose every check was skipped assert it. -/
def Chip.safeFrameEnd (c : Chip) : Chip :=
  let n := min 4 c.safeRects
  if !c.flag CMP_SAFE_STAT_SHOWN || n = 0 || c.lk.hdrErr then c
  else
    let all := 2 ^ n - 1
    let allSkipped := c.cmp.safeDone == all && c.cmp.safeCrc.all fun x => x.isNone
    let skips := if allSkipped then c.cmp.safeSkips + 1 else 0
    let lim := c.rd LKK_CHK_CFG_SKIP_LIM
    let c1 := c.onCmp fun k => { k with safeSkips := skips }
    if c.cmp.safeOk = all then c1.safeSig false 0
    else if 0 < lim ∧ lim ≤ skips then c1.safeSig true (c1.safeData 0)
    else c1

/-- The compositor starts a frame: the SAFE show output is sampled, the checks start over. -/
def Chip.safeFrameStart (c : Chip) : Chip :=
  let shown := c.safeLocked && !c.flag CMP_SAFE_STAT_HDR_ERR && c.safeShow && c.cmp.running
  ((c.wr CMP_SAFE_STAT_SHOWN (b2n shown)).wr CMP_SAFE_STAT_MISMATCH 0).onCmp fun k =>
    { k with safeCrc := List.replicate 4 none, abandoned := [], safeOk := 0, safeDone := 0 }

/-! ### The 2D mover (R541-R546) -/

/-- Source and destination of a mover job as its registers give them. -/
structure MovArgs where
  src : Nat
  srcStride : Nat
  dst : Nat
  dstStride : Nat
  w : Nat
  h : Nat
  srcFmt : Nat
  dstFmt : Nat
deriving DecidableEq, Repr

/-- The arguments of a job. A COPY moves pixels of SRC_FMT, whatever DST_FMT says (R541). -/
def Chip.movArgs (c : Chip) (op : Nat) : MovArgs :=
  let s := c.rd MOV_FMT_SRC_FMT
  { src := c.rd MOV_SRC_ADDR, srcStride := c.rd MOV_SRC_STRIDE_S, dst := c.rd MOV_DST_ADDR
    dstStride := c.rd MOV_DST_STRIDE_S, w := c.rd MOV_SIZE_W, h := c.rd MOV_SIZE_H, srcFmt := s
    dstFmt := if op = 0 then s else c.rd MOV_FMT_DST_FMT }

/-- The end of a span (R542). -/
def spanEnd (base stride w h bytes : Nat) : Nat := base + (h - 1) * stride + w * bytes

/-- The spans overlap. -/
def MovArgs.overlap (m : MovArgs) : Bool :=
  decide (0 < m.w) && decide (0 < m.h) && decide (m.src < spanEnd m.dst m.dstStride m.w m.h (gfxBytes m.dstFmt))
    && decide (m.dst < spanEnd m.src m.srcStride m.w m.h (gfxBytes m.srcFmt))

/-- A row of a COPY or CONVERT: none when a source word is bad (R545). -/
def Chip.movRow (c : Chip) (m : MovArgs) (op y : Nat) : Chip × Bool :=
  let sa := m.src + y * m.srcStride
  let sb := gfxBytes m.srcFmt
  let c1 := c.readNote 10 sa (m.w * sb)
  if 0 < c.badWords sa (m.w * sb) then (c1, true)
  else
    let bytes := if op = 0 then c.bytesAt sa (m.w * sb)
      else (List.range m.w).flatMap fun i =>
        toLe (gfxBytes m.dstFmt) (packGfx m.dstFmt (unpackGfx m.srcFmt (c.numAt (sa + i * sb) sb)))
    (c1.writeBytes 10 (m.dst + y * m.dstStride) bytes, false)

/-- The rows of a job in order, up to a bad one; MOV_STAT.LINE holds the row reached. -/
def Chip.movRows (m : MovArgs) (op : Nat) (rows : List Nat) (c : Chip) : Chip × Bool :=
  match rows with
  | [] => (c, false)
  | y :: rest =>
    let r := (c.wr MOV_STAT_LINE y).movRow m op y
    if r.2 then r else Chip.movRows m op rest r.1

/-- A FILL row. -/
def Chip.fillRow (c : Chip) (m : MovArgs) (y : Nat) : Chip :=
  (c.wr MOV_STAT_LINE y).writeBytes 10 (m.dst + y * m.dstStride)
    ((List.range m.w).flatMap fun _ => toLe (gfxBytes m.dstFmt) (c.rd MOV_FILL_V))

/-- GO with an operation (R541-R546). -/
def Chip.movGo (c : Chip) (op : Nat) : Chip :=
  let c0 := (c.wr MOV_CTL_OP op).wr MOV_CTL_DONE 0
  if c.flag MOV_CTL_FLAT_ACTIVE || c.cmp.job.isSome then c0.wr MOV_CTL_ERR 1
  else
    let m := c.movArgs op
    let c1 := c0.wr MOV_CTL_ERR 0
    if op = 3 then c1
    else if op = 1 then
      let c2 := (List.range m.h).foldl (fun (c : Chip) y => c.fillRow m y)
        ((c1.wr MOV_STAT_ROWS_DESC 0).wr MOV_STAT_COLS_DESC 0)
      c2.onCmp fun k => { k with job := some ⟨op, false⟩ }
    else if m.overlap = true ∧ (m.srcStride ≠ m.dstStride ∨ gfxBytes m.srcFmt ≠ gfxBytes m.dstFmt) then c1.wr MOV_CTL_ERR 2
    else
      let desc := m.overlap && decide (m.src < m.dst)
      let rows := if desc then (List.range m.h).reverse else List.range m.h
      let r := Chip.movRows m op rows ((c1.wr MOV_STAT_ROWS_DESC (b2n desc)).wr MOV_STAT_COLS_DESC (b2n desc))
      r.1.onCmp fun k => { k with job := some ⟨op, r.2⟩ }

/-- MOV_JOB_DONE (R541, R545). -/
def execMovJobDone (s : State) : Host.Outcome State Fault Refusal :=
  effect s fun c =>
    match c.cmp.job with
    | none => c
    | some j =>
      ((c.wr MOV_CTL_DONE 1).wr MOV_CTL_ERR (if j.bad then 3 else 0)).onCmp fun k => { k with job := none }

end Sys2Proof.Machine
end

