-- ==== Sys2Proof/Machine/Scanout.lean ====
section
/-! DEFINITION. The scan-outs (chapter 12): timing, destinations, line sources, commits and the commit window, starting
and stopping, substitution, CRC rectangles, snapshots, urgency, and the moor store. -/

namespace Sys2Proof.Machine

/-- Scan-out `i`: 0 is A, 1 is B. -/
def Chip.so (c : Chip) (i : Nat) : ScanOut := if i = 0 then c.soA else c.soB

/-- Change scan-out `i`. -/
def Chip.onSo (c : Chip) (i : Nat) (f : ScanOut → ScanOut) : Chip :=
  if i = 0 then { c with soA := f c.soA } else { c with soB := f c.soB }

/-- SOx_STAT.STATE: 0 STOPPED, 1 RUN, 2 MOORED. -/
def Chip.soState (c : Chip) (i : Nat) : Nat := c.rd (soF i SOA_STAT_STATE)

/-- The lock of scan-out B is in effect (R560). -/
def Chip.soLocked (c : Chip) : Bool := c.flag (soF 1 SOA_STAT_LOCKED)

/-- SOURCE as it behaves: 0 COMPOSED, 1 DIRECT, 2 COLOUR (Table 12.3). -/
def Chip.soSource (c : Chip) (i : Nat) : Nat := min 2 (c.ef (soF i SOA_CTL_SOURCE))

/-! ### Destinations and timing (R549-R551, R584) -/

/-- Where a scan-out's pixels go. -/
inductive Dest where
  | none | panel | formatter | beam
deriving DecidableEq, Repr

/-- The destination of R549. -/
def Chip.dest (c : Chip) (i : Nat) : Dest :=
  match c.mode.mode with
  | .panel => .panel
  | .mirror => .formatter
  | .scan => if i = 0 then .beam else .none
  | .calibrate =>
    if c.eflag BPS_CTL_EN then .formatter
    else if i = 0 ∧ c.eflag BSC_CTL_EN = true ∧ c.variantS = true then .beam
    else if c.pdOn (39 + i) then .panel else .none
  | _ => .none

/-- A scan-out may run: its mode allows it (R549) and its domain is ON. -/
def Chip.soMay (c : Chip) (i : Nat) : Bool :=
  (c.mode.mode.lit || c.mode.mode == .calibrate) && !(c.mode.mode == .scan && i == 1) && c.pdOn (37 + i)

/-- Line and frame timing as it behaves. -/
structure Timing where
  hact : Nat
  hfp : Nat
  hsync : Nat
  hbp : Nat
  vact : Nat
  vfp : Nat
  vsync : Nat
  vbp : Nat
deriving DecidableEq, Repr

/-- The nearest total of at most 8,191 (R550): the excess leaves the back porch first, then the front porch, the sync
and the active part (DESIGN CHOICE, log entry 60). Parts: active, front porch, sync, back porch. -/
def fitTotal (act fp sync bp : Nat) : Nat × Nat × Nat × Nat :=
  let e0 := act + fp + sync + bp - 8191
  let bp' := bp - min e0 (bp - 1)
  let e1 := act + fp + sync + bp' - 8191
  let fp' := fp - min e1 (fp - 1)
  let e2 := act + fp' + sync + bp' - 8191
  let sync' := sync - min e2 (sync - 1)
  let e3 := act + fp' + sync' + bp' - 8191
  (act - min e3 (act - 16), fp', sync', bp')

/-- The next multiple of the number of links. -/
def roundUp (n v : Nat) : Nat := (v + n - 1) / n * n

/-- LINKS as it behaves (Table 12.3). -/
def Chip.soLinks (c : Chip) (i : Nat) : Nat :=
  match c.ef (soF i SOA_LVDS_CFG_LINKS) with
  | 0 => 1
  | 1 => 2
  | _ => 4

/-- The timing of a scan-out; a locked B uses A's registers (R560), and a panel port rounds up to its links (R584). -/
def Chip.timing (c : Chip) (i : Nat) : Timing :=
  let s := if i = 1 ∧ c.soLocked = true then 0 else i
  let f := fun (g : Field) => c.ef (soF s g)
  let n := if c.dest i = .panel then c.soLinks s else 1
  let h := fitTotal (roundUp n (min 4096 (max 16 (f SOA_HTIM0_HACT)))) (roundUp n (max 1 (f SOA_HTIM0_HFP)))
    (roundUp n (max 1 (f SOA_HTIM1_HSYNC))) (roundUp n (max 1 (f SOA_HTIM1_HBP)))
  let v := fitTotal (min 4096 (max 16 (f SOA_VTIM0_VACT))) (max 1 (f SOA_VTIM0_VFP)) (max 1 (f SOA_VTIM1_VSYNC))
    (max 1 (f SOA_VTIM1_VBP))
  ⟨h.1, h.2.1, h.2.2.1, h.2.2.2, v.1, v.2.1, v.2.2.1, v.2.2.2⟩

/-- CLOSE_LINES as it behaves (Table 12.3). -/
def Chip.closeLines (c : Chip) (i : Nat) : Nat := min (c.ef (soF i SOA_COMMIT_CFG_CLOSE_LINES)) ((c.timing i).vact - 1)

/-- BASIN_LINES (R553). -/
def Chip.basinLines (c : Chip) (i : Nat) : Nat :=
  let h := (c.timing i).hact
  min 1536 (max 1 (if c.outDepth = 12 then 196608 / (h * 9) else 98304 / (h * 4)))

/-! ### Line contents (R552, R555-R557) -/

/-- An output pixel: RED, GRN, BLU codes. -/
abbrev Px := Nat × Nat × Nat

/-- FB_COLOUR; a code above the output depth is its largest code. -/
def Chip.fbColour (c : Chip) (i : Nat) : Px :=
  let top := 2 ^ c.outDepth - 1
  (min top (c.ef (soF i SOA_FB_RG_RED)), min top (c.ef (soF i SOA_FB_RG_GRN)), min top (c.ef (soF i SOA_FB_B_BLU)))

/-- A line of FB_COLOUR. -/
def Chip.fbLine (c : Chip) (i : Nat) : List Px := List.replicate (c.timing i).hact (c.fbColour i)

/-- The output is black until the second boundary of a lit mode (R48). -/
def Chip.blackout (c : Chip) : Bool := c.mode.mode.lit && decide (c.mode.boundaries < 2)

/-- The columns of the canvas that go to a scan-out: the first, and how many (R494). -/
def Chip.routed (c : Chip) (i : Nat) : Nat × Nat :=
  if c.route then (i * (c.canvasW / 2), c.canvasW / 2) else (0, if i = 0 then c.canvasW else 0)

/-- The active line a scan-out makes of a canvas line (R552). -/
def Chip.fromCanvas (c : Chip) (i : Nat) (codes : List Px) : List Px :=
  let q := c.routed i
  let h := (c.timing i).hact
  let px := ((codes.drop q.1).take q.2).take h
  px ++ List.replicate (h - px.length) (c.fbColour i)

/-- The address of row `y` of the DIRECT surface. -/
def Chip.directRow (c : Chip) (i y : Nat) : Nat :=
  c.ef (soF i SOA_DIRECT_BASE_ADDR) + y * c.ef (soF i SOA_DIRECT_CFG_STRIDE)

/-- A DIRECT pixel's codes (R555, R556). -/
def Chip.directPixel (c : Chip) (i v : Nat) : Px :=
  let w := if c.eflag (soF i SOA_DIRECT_CFG_FMT) then 10 else 8
  let d := fun (k : Nat) => placeDepth w c.outDepth (v / 2 ^ (w * k) % 2 ^ w)
  (d 2, d 1, d 0)

/-- A DIRECT line (R555-R557): pixels of a bad word are FB_COLOUR, each such word counts in MEDIA. -/
def Chip.directLine (c : Chip) (i y : Nat) : List Px × Chip :=
  let a := c.directRow i y
  let n := (c.timing i).hact
  let px := (List.range n).map fun x =>
    if c.badAt ((a + 4 * x) / 8 * 8) then c.fbColour i else c.directPixel i (c.numAt (a + 4 * x) 4)
  (px, (c.readNote i a (4 * n)).bump (soF i SOA_CNT2_MEDIA) (c.badWords a (4 * n)))

/-- A finished line enters the frame in progress. -/
def Chip.pushLine (c : Chip) (i : Nat) (px : List Px) : Chip :=
  c.onSo i fun s => { s with lines := s.lines ++ [px], next := s.next + 1 }

/-- Scan-out B shows the right half of the canvas now (R562). -/
def Chip.bComposed (c : Chip) : Bool := c.soState 1 == 1 && c.soLocked && c.soSource 1 == 0

/-- The canvas columns a scan-out shows: its part of the canvas, no wider than its active line (R494, R552). -/
def Chip.shownCols (c : Chip) (i : Nat) : Nat × Nat := ((c.routed i).1, min (c.routed i).2 (c.timing i).hact)

/-- A canvas line for some of the scan-outs, or FB_COLOUR where the compositor makes none. -/
def Chip.composeFor (c : Chip) (outs : List Nat) (y : Nat) (wbRoom : Bool) : Chip :=
  if c.cmp.running && decide (y < c.canvasH) then
    let r := c.composeLine (outs.map c.shownCols) y wbRoom
    outs.foldl (fun (x : Chip) k => x.pushLine k (c.fromCanvas k r.1)) r.2
  else outs.foldl (fun (x : Chip) k => x.pushLine k (c.fbLine k)) c

/-- The next line of a scan-out is composed or read (R554, R555). The compositor composes a canvas line once for both
halves when scan-out A shows the canvas too. -/
def Chip.lineStart (c : Chip) (i : Nat) (wbRoom : Bool) : Chip :=
  let y := (c.so i).next
  if c.soState i ≠ 1 ∨ (c.timing i).vact ≤ y then c
  else
    match c.soSource i with
    | 1 =>
      let r := c.directLine i y
      r.2.pushLine i r.1
    | 0 =>
      if i = 0 then c.composeFor (if c.bComposed then [0, 1] else [0]) y wbRoom
      else if c.bComposed && c.soSource 0 != 0 then c.composeFor [1] y wbRoom
      else c
    | _ => c

/-- COMPOSE_LINE_START. `wbRoom`: the write-back of the line finds room in its port's queue (R540). -/
def execComposeLineStart (so : Nat) (wbRoom : Bool) (s : State) : Host.Outcome State Fault Refusal :=
  effect s fun c => if so < 2 then c.lineStart so wbRoom else c

/-! ### The moor store (R586, Table 12.1) -/

/-- A run continues with an equal pixel, up to 4,096 pixels. -/
def runCons (p : Px) (rs : List (Nat × Nat × Nat × Nat)) : List (Nat × Nat × Nat × Nat) :=
  match rs with
  | [] => [(p.1, p.2.1, p.2.2, 1)]
  | r :: t =>
    if r.1 = p.1 ∧ r.2.1 = p.2.1 ∧ r.2.2.1 = p.2.2 ∧ r.2.2.2 < 4096 then (r.1, r.2.1, r.2.2.1, r.2.2.2 + 1) :: t
    else (p.1, p.2.1, p.2.2, 1) :: r :: t

/-- The runs of a line. -/
def runsOf (line : List Px) : List (Nat × Nat × Nat × Nat) := line.foldr runCons []

/-- A line joins the group of an identical line. -/
def groupCons (rs : List (Nat × Nat × Nat × Nat)) (gs : List MoorGroup) : List MoorGroup :=
  match gs with
  | [] => [⟨1, rs⟩]
  | g :: t => if g.runs = rs then ⟨g.rep + 1, rs⟩ :: t else ⟨1, rs⟩ :: g :: t

/-- A frame as the encoder stores it. -/
def encodeFrame (lines : List (List Px)) : List MoorGroup := (lines.map runsOf).foldr groupCons []

/-- The bytes a store takes (R586). -/
def storeBytesOf (gs : List MoorGroup) : Nat := (gs.map fun g => 4 + 6 * g.runs.length).foldl (· + ·) 0

/-- The bytes in use in a store of `cap` bytes that takes pieces in order while they fit (log entry 63). -/
def fillBytes (cap : Nat) : List Nat → Nat → Nat
  | [], n => n
  | x :: t, n => if n + x ≤ cap then fillBytes cap t (n + x) else n

/-- The line of a group. -/
def MoorGroup.line (g : MoorGroup) : List Px :=
  g.runs.flatMap fun r => List.replicate r.2.2.2 (r.1, r.2.1, r.2.2.1)

/-- The frame a store replays (R588). -/
def decodeStore (gs : List MoorGroup) : List (List Px) := gs.flatMap fun g => List.replicate g.rep g.line

/-! ### The frame -/

/-- The whole frame in progress as it leaves: black (R48), replayed (R588), or its lines; an active line that has no
line behind it is FB_COLOUR. -/
def Chip.wholeFrame (c : Chip) (i : Nat) : List (List Px) :=
  let t := c.timing i
  if c.blackout then List.replicate t.vact (List.replicate t.hact (0, 0, 0))
  else if c.soState i = 2 then
    let ls := decodeStore (c.so i).store
    ls ++ List.replicate (t.vact - ls.length) (c.fbLine i)
  else (c.so i).lines ++ List.replicate (t.vact - (c.so i).lines.length) (c.fbLine i)

/-- Give a scan-out a tolerance (R573). -/
def Chip.soTol (c : Chip) (i t : Nat) : Chip :=
  (c.wr (soF i SOA_TOL_TOL) t).setTol i t

/-- A frame starts: nothing of it is composed, nothing substituted. -/
def Chip.frameStart (c : Chip) (i : Nat) : Chip :=
  let t := c.timing i
  ((c.onSo i fun s => { s with next := 0, lines := [], subst := [], crcDone := 0, crcOk := 0, closed := false }).wr
    (soF i SOA_STAT_IN_VBLANK) 1).wr (soF i SOA_STAT_LINE) t.vact

/-! ### Output CRC rectangles (R578-R580) -/

/-- The word of OUT_CRC's records: the mismatching LKK rectangles of both scan-outs (Table 17.6). -/
def Chip.outCrcData (c : Chip) : Nat :=
  let m := fun (i : Nat) => Nat.land (c.rd (soF i SOA_CRC_STAT_MISMATCH)) (c.rd (soF i SOA_CRC_CTL_LKK))
  m 0 + 256 * m 1

/-- OUT_CRC follows the parts of both scan-outs (Table 17.2); that of a domain that is not ON is clamped (R215). -/
def Chip.outCrcDrive (c : Chip) : Chip :=
  let now := (c.pdOn 37 && c.soA.crcBad) || (c.pdOn 38 && c.soB.crcBad)
  if now && !c.lk.asserted.testBit 7 then c.srcOn 7 c.outCrcData
  else if !now && c.lk.asserted.testBit 7 then c.srcOff 7
  else c

/-- A scan-out's part of OUT_CRC begins or ends to hold. -/
def Chip.outCrc (c : Chip) (i : Nat) (bad : Bool) : Chip := (c.onSo i fun s => { s with crcBad := bad }).outCrcDrive

/-- A rectangle clipped to the active area: x0, y0, x1, y1; none when it is disabled or empty. -/
def Chip.crcRect (c : Chip) (i r : Nat) : Option (Nat × Nat × Nat × Nat) :=
  let t := c.timing i
  let f := fun (g : Field) => c.ef ((soF i g).at r)
  let x0 := f SOA_CRC_POS_X0
  let y0 := f SOA_CRC_POS_Y0
  let x1 := min (x0 + f SOA_CRC_SIZE_W) t.hact
  let y1 := min (y0 + f SOA_CRC_SIZE_H) t.vact
  if (c.ef (soF i SOA_CRC_CTL_EN)).testBit r ∧ x0 < x1 ∧ y0 < y1 then some (x0, y0, x1, y1) else none

/-- The width the codes of a scan-out leave with: in PANEL that of the mapping (R578, R583). -/
def Chip.outPlace (c : Chip) (i v : Nat) : Nat :=
  if c.mode.mode = .panel then
    placeDepth c.outDepth (if 2 ≤ c.ef (soF i SOA_LVDS_CFG_MAP) then 10 else 8) v
  else v

/-- The CRC of a rectangle (R578). -/
def Chip.rectCrc (c : Chip) (i : Nat) (q : Nat × Nat × Nat × Nat) : Nat :=
  crc32 ((((c.wholeFrame i).drop q.2.1).take (q.2.2.2 - q.2.1)).flatMap fun line =>
    ((line.drop q.1).take (q.2.2.1 - q.1)).flatMap fun p =>
      toLe 2 (c.outPlace i p.1) ++ toLe 2 (c.outPlace i p.2.1) ++ toLe 2 (c.outPlace i p.2.2))

/-! ### Panel ports (R582, R583) -/

/-- A colour on the grid of Table 9.1: its 8 grid bits and its x1, x0 bits under MAP (R406). -/
def unmapColour (map v : Nat) : Nat × Nat :=
  match map with
  | 0 => (v % 256, 0)
  | 1 => (v / 4 % 64 + v % 4 * 64, 0)
  | 2 => (v % 256, v / 256 % 4)
  | _ => (v / 16 % 64 + v / 4 % 4 * 64, v % 4)

/-- The slots of a link in one clock cycle, slot 0 in bit 0 of each pair (Table 9.1, R582): the colours, the levels of HS,
VS and DE; the reserved slot is 0, and a 30-bit mapping has no HS. -/
def pixelSlots (map : Nat) (p : Px) (hs vs de : Bool) : Slots :=
  let r := unmapColour map p.1
  let g := unmapColour map p.2.1
  let b := unmapColour map p.2.2
  let wide := decide (2 ≤ map)
  ⟨r.1 % 64 + g.1 % 2 * 64 + r.2 / 2 * 128, g.1 / 2 % 32 + b.1 % 4 * 32 + g.2 / 2 * 128,
    b.1 / 4 % 16 + (if wide then b.2 % 2 else b2n hs) * 16 + b2n vs * 32 + b2n de * 64 + b.2 / 2 * 128,
    r.1 / 64 + g.1 / 64 * 4 + b.1 / 64 * 16 + g.2 % 2 * 64 + r.2 % 2 * 128⟩

/-- A sync level with its polarity: 1 = active high. -/
def syncLevel (pol active : Bool) : Bool := active == pol

/-- What link `n` of the port of scan-out `i` carries in its clock cycle `k` of line `l` of the frame in progress, line 0
the first active line: pixel LINKS × k + n (R582). None while the scan-out does not drive its port, or the link is not
used. -/
def Chip.linkSlots (c : Chip) (i n l k : Nat) : Option Slots :=
  let t := c.timing i
  let x := k * c.soLinks i + n
  if c.soState i = 0 ∨ c.dest i ≠ .panel ∨ c.soLinks i ≤ n then none
  else
    let de := decide (l < t.vact) && decide (x < t.hact)
    let p : Px := if de then ((c.wholeFrame i).getD l []).getD x (0, 0, 0) else (0, 0, 0)
    let hs := decide (t.hact + t.hfp ≤ x) && decide (x < t.hact + t.hfp + t.hsync)
    let vs := decide (t.vact + t.vfp ≤ l) && decide (l < t.vact + t.vfp + t.vsync)
    some (pixelSlots (c.ef (soF i SOA_LVDS_CFG_MAP)) (c.outPlace i p.1, c.outPlace i p.2.1, c.outPlace i p.2.2)
      (syncLevel (c.eflag (soF i SOA_CTL_HS_POL)) hs) (syncLevel (c.eflag (soF i SOA_CTL_VS_POL)) vs) de)

/-- A substituted pixel lies in the rectangle (R580). -/
def ScanOut.substIn (s : ScanOut) (q : Nat × Nat × Nat × Nat) : Bool :=
  s.subst.any fun l => decide (q.2.1 ≤ l.1) && decide (l.1 < q.2.2.2) && decide (l.2 < q.2.2.1)

/-- SO_CRC_CHECK: CRC_STAT holds the results of one frame; the first rectangle judged in a frame clears those of the
frame before. -/
def Chip.crcCheck (c : Chip) (i r : Nat) (q : Nat × Nat × Nat × Nat) : Chip :=
  let lkk := (c.rd (soF i SOA_CRC_CTL_LKK)).testBit r
  let c0 := if (c.so i).crcDone = 0 then
      ((c.wr (soF i SOA_CRC_STAT_MISMATCH) 0).wr (soF i SOA_CRC_STAT_SKIPPED) 0).wr (soF i SOA_CRC_STAT_COMPARED) 0
    else c
  let c1 := c0.onSo i fun s => { s with crcDone := withBit s.crcDone r true }
  if (c.so i).substIn q then
    (c1.setBit (soF i SOA_CRC_STAT_SKIPPED) r true).bump (soF i SOA_CNT1_CRC_SKIP) 1
  else
    let crc := c.rectCrc i q
    let c2 := (c1.wr ((soF i SOA_CRC_RESULT_CRC).at r) crc).setBit (soF i SOA_CRC_STAT_COMPARED) r true
    if crc = c.ef ((soF i SOA_CRC_EXPECT_CRC).at r) then
      if lkk then c2.onSo i fun s => { s with crcOk := withBit s.crcOk r true } else c2
    else
      let c3 := (c2.setBit (soF i SOA_CRC_STAT_MISMATCH) r true).bump (soF i SOA_CNT1_CRC_MISMATCH) 1
      if lkk then c3.outCrc i true else c3

/-- SO_CRC_CHECK. -/
def execSoCrcCheck (so r : Nat) (s : State) : Host.Outcome State Fault Refusal :=
  effect s fun c =>
    if 2 ≤ so ∨ 8 ≤ r ∨ c.soState so = 0 ∨ (c.so so).crcDone.testBit r = true then c
    else
      match c.crcRect so r with
      | none => c
      | some q => c.crcCheck so r q

/-- The enabled rectangles a scan-out reports to the Lockkeeper. -/
def Chip.lkkRects (c : Chip) (i : Nat) : List Nat :=
  (List.range 8).filter fun r => (c.rd (soF i SOA_CRC_CTL_LKK)).testBit r && (c.crcRect i r).isSome

/-- The end of a frame for OUT_CRC (Table 17.2): a clean frame ends it, SKIP_LIM frames in a row whose every check was
skipped begin it. A frame in which no rectangle was judged has no results. -/
def Chip.crcFrameEnd (c : Chip) (i : Nat) : Chip :=
  let rs := c.lkkRects i
  let s := c.so i
  let c0 := if s.crcDone = 0 then
      ((c.wr (soF i SOA_CRC_STAT_MISMATCH) 0).wr (soF i SOA_CRC_STAT_SKIPPED) 0).wr (soF i SOA_CRC_STAT_COMPARED) 0
    else c
  if rs.isEmpty then c0
  else
    let skipped := rs.all fun r => (c0.rd (soF i SOA_CRC_STAT_SKIPPED)).testBit r
    let skips := if skipped then s.crcSkips + 1 else 0
    let lim := c.rd LKK_CHK_CFG_SKIP_LIM
    let c1 := c0.onSo i fun x => { x with crcSkips := skips }
    if rs.all fun r => s.crcOk.testBit r then c1.outCrc i false
    else if 0 < lim ∧ lim ≤ skips then c1.outCrc i true
    else c1

/-! ### Substitution (R569-R571, R527) -/

/-- A line with FB_COLOUR from pixel `x` on. -/
def Chip.substLine (c : Chip) (i x : Nat) (px : List Px) : List Px :=
  px.take x ++ List.replicate (px.length - x) (c.fbColour i)

/-- LINE_SUBSTITUTE: line `l` from pixel `x` on; the compositor abandons the line. -/
def Chip.substitute (c : Chip) (i l x : Nat) : Chip :=
  let s := c.so i
  let lines := if l < s.lines.length then s.lines.set l (c.substLine i x (s.lines.getD l []))
    else s.lines ++ List.replicate (l + 1 - s.lines.length) (c.fbLine i)
  let c1 := (c.onSo i fun s => { s with lines := lines, next := max s.next (l + 1), subst := s.subst ++ [(l, x)] }).bump
    (soF i SOA_CNT0_SUBSTITUTE) 1
  let c2 := if c.flag (soF i SOA_SUB_FIRST_VALID) then c1
    else ((c1.wr (soF i SOA_SUB_FIRST_VALID) 1).wr (soF i SOA_SUB_FIRST_LINE) l).wr (soF i SOA_SUB_FIRST_FRAME)
      (c.rd (soF i SOA_FRAME_FRAME) % 65536)
  let c3 := c2.wr (soF i SOA_STAT_LINE) l
  if c.soSource i = 0 ∧ l < c.canvasH ∧ c.cmp.abandoned.contains l = false then
    (c3.bump CMP_CNT0_LINE_ABANDON 1).onCmp fun k => { k with abandoned := k.abandoned ++ [l] }
  else c3

/-- LINE_SUBSTITUTE. -/
def execLineSubstitute (so line x : Nat) (s : State) : Host.Outcome State Fault Refusal :=
  effect s fun c =>
    if 2 ≤ so ∨ c.soState so ≠ 1 ∨ c.soSource so = 2 ∨ (c.timing so).vact ≤ line ∨ (c.timing so).hact ≤ x
        ∨ ((c.so so).subst.any fun l => l.1 == line) = true then c
    else c.substitute so line x

/-! ### Starting and stopping (R558-R562) -/

/-- ALIGN = 1 and the dividers of SOA and SOB are equal (R164, R560). -/
def Chip.alignOk (c : Chip) : Bool := c.flag CKG_DOM_SOB_ALIGN && c.targetDiv 11 == c.targetDiv 12

/-- A Mooring entry that a stop cuts ends with REFUSED_NOSTORE and CAUSE = SUBST (log entry 61). -/
def Chip.moorCut (c : Chip) : Chip :=
  if c.mode.moorPhase = .capture ∨ c.mode.moorPhase = .decide then
    (((c.wr SOA_MOOR_STAT_CAUSE 2).onMode fun m =>
      { m with moorPhase := .none, edge := none, refuse := 8, tag := m.reqTag, abandoned := false }).evt evMode)
  else if c.mode.moored then c.moorExit 5
  else c

/-- One scan-out stops, with the ERR code of R560-R562 or 0; a rank migration waits for A's boundary no longer,
and the output lock is FREE (Table 9.2). -/
def Chip.soHalt (c : Chip) (i err : Nat) : Chip :=
  if c.soState i = 0 then (if err = 0 then c else c.wr (soF i SOA_STAT_ERR) err)
  else
    let c1 := ((c.wr (soF i SOA_STAT_STATE) 0).wr (soF i SOA_STAT_LOCKED) 0).wr (soF i SOA_STAT_URGENT) 0
    let c2 := if err = 0 then c1 else c1.wr (soF i SOA_STAT_ERR) err
    let c3 := (c2.onSo i fun s => { s with next := 0, lines := [], subst := [], closed := false, snap := none
                                           commitLate := false, capture := false }).soTol i 0xFFFF
    let c4 := ((c3.wr (soF i SOA_STAT_IN_VBLANK) 0).wr (soF i SOA_STAT_LINE) 0)
    if i = 0 then (c4.onCmp fun k => { k with running := false }).lockFree.flipNow else c4

/-- A scan-out stops; with A a locked B stops too, with ERR = LOCK (R561). A mode edge (`edge`) stops both without it. -/
def Chip.soStop (c : Chip) (i err : Nat) (edge : Bool) : Chip :=
  let c1 := c.soHalt i err
  let c2 := if i = 0 ∧ c.soLocked = true then c1.soHalt 1 (if edge then 0 else 1) else c1
  if edge then c2 else c2.moorCut

/-- The compositor starts frames again (R496). -/
def Chip.composeOn (c : Chip) : Chip := c.onCmp fun k => { k with running := c.eflag CMP_CTL_EN && !c.mode.moored }

/-- A scan-out starts at the first line of vertical sync (R558). A B with LOCK = 1 runs on its own timing until the lock
engages (R560). -/
def Chip.soStart (c : Chip) (i : Nat) : Chip :=
  let t := c.timing i
  let c1 := ((c.wr (soF i SOA_STAT_STATE) 1).frameStart i).wr (soF i SOA_STAT_LINE) (t.vact + t.vfp)
  if i = 0 then (c1.latchRings).composeOn.safeFrameStart else c1

/-- A scan-out that may run, is enabled and has no error starts (R549, R558). -/
def Chip.soResume (c : Chip) (i : Nat) : Chip :=
  if c.soState i = 0 ∧ c.soMay i = true ∧ c.eflag (soF i SOA_CTL_EN) = true ∧ c.rd (soF i SOA_STAT_ERR) = 0
  then c.soStart i else c

/-! ### Commits (R514, R563-R568) -/

/-- The registers that the commit of scan-out A carries: CMP's own (R514), BPS's and BSC's (chapters 13 and 14). -/
def commitRanges : List (Nat × Nat) :=
  [(0x100000, 0x100100), (0x100500, 0x110000), (0x240000, 0x250000), (0x260000, 0x270000)]

/-- Values of a range take effect as `src` has them. -/
def Chip.takeFrom (c : Chip) (src : List (Nat × Word)) (r : Nat × Nat) : Chip :=
  { c with eff := SMap.copyRange src c.eff r.1 r.2 }

/-- The pending values of a scan-out take effect: those written before the window closed (R567). -/
def Chip.soTake (c : Chip) (i : Nat) : Chip :=
  let src := ((c.so i).snap).getD c.regs
  let c1 := c.takeFrom src (0x200000 + i * 0x10000, 0x200000 + (i + 1) * 0x10000)
  let c2 := if i = 0 then commitRanges.foldl (fun (c : Chip) r => c.takeFrom src r) c1 else c1
  (c2.wr (soF i SOA_COMMIT_PENDING) 0).onSo i fun s => { s with snap := none, commitLate := false }

/-- What a commit of scan-out B with EN = 1 must meet (R560, R562): its ERR code. -/
def Chip.soCheckB (c : Chip) : Nat :=
  if c.eflag SOB_CTL_LOCK && !c.alignOk then 1
  else if c.soSource 1 = 0 ∧ (c.eflag SOB_CTL_LOCK && c.route) = false then 2
  else 0

/-- B in COMPOSED needs ROUTE = 1, which A's commit carries (R562). -/
def Chip.routeCheck (c : Chip) : Chip :=
  if c.soState 1 ≠ 0 ∧ c.soSource 1 = 0 ∧ c.route = false then c.soStop 1 2 false else c

/-- A commit: EN = 0 stops the scan-out (R559), EN = 1 starts a stopped one (R558). -/
def Chip.soCommit (c : Chip) (i : Nat) : Chip :=
  let c1 := c.soTake i
  let c2 := c1.wr (soF i SOA_BASIN_BASIN_LINES) (c1.basinLines i)
  if !c2.eflag (soF i SOA_CTL_EN) then c2.soStop i 0 false
  else if i = 0 then c2.soResume 0
  else
    let e := c2.soCheckB
    if e ≠ 0 then c2.soStop 1 e false
    else if c2.soLocked && !c2.eflag SOB_CTL_LOCK then ((c2.wr (soF 1 SOA_STAT_LOCKED) 0).frameStart 1)
    else c2.soResume 1

/-- The scan-out whose window and boundary a commit of `i` follows (R568). -/
def Chip.soRef (c : Chip) (i : Nat) : Nat := if i = 1 ∧ c.soLocked = true then 0 else i

/-- GO (R558, R564-R567). A stopped scan-out commits at once. -/
def Chip.soGo (c : Chip) (i : Nat) (mfst : Bool) : Chip :=
  if c.soState i = 0 then (c.wr (soF i SOA_STAT_ERR) 0).soCommit i
  else if c.flag (soF i SOA_COMMIT_PENDING) then c
  else
    let late := !mfst && (c.so (c.soRef i)).closed && !c.mode.moored
    let c1 := (c.wr (soF i SOA_COMMIT_PENDING) 1).onSo i fun s => { s with commitLate := late }
    if late then (c1.wr (soF i SOA_COMMIT_LATE) 1).bump (soF i SOA_CNT0_LATE) 1 else c1

/-- A boundary performs the commit that falls due at it (R564); a late one counts from the next. -/
def Chip.soDue (c : Chip) (i : Nat) : Chip :=
  if !c.flag (soF i SOA_COMMIT_PENDING) then c
  else if (c.so i).commitLate then c.onSo i fun s => { s with commitLate := false }
  else c.soCommit i

/-- The window closes for one scan-out: what is written now stays for a later commit (R567). -/
def Chip.closeFor (c : Chip) (i : Nat) : Chip :=
  let keep := c.flag (soF i SOA_COMMIT_PENDING) && !(c.so i).commitLate
  c.onSo i fun s => { s with closed := true, snap := if keep then some c.regs else s.snap }

/-- COMMIT_WINDOW_CLOSE (R564, R568). -/
def Chip.windowClose (c : Chip) (i : Nat) : Chip :=
  let l := (c.timing i).vact - c.closeLines i
  let c1 := ((c.closeFor i).wr (soF i SOA_STAT_IN_VBLANK) 0).wr (soF i SOA_STAT_LINE) l
  if i = 0 ∧ c.soLocked = true then c1.closeFor 1 else c1

/-- COMMIT_WINDOW_CLOSE: of a scan-out that runs on a timing of its own. In Mooring commits are held (R588). -/
def execCommitWindowClose (so : Nat) (s : State) : Host.Outcome State Fault Refusal :=
  effect s fun c =>
    if so < 2 ∧ c.soState so = 1 ∧ c.soRef so = so ∧ (c.so so).closed = false then c.windowClose so else c

/-- A register that a manifest group wrote at a boundary goes with the commit of that boundary (R147, R566). -/
def Chip.snapWrite (c : Chip) (a : Nat) : Chip :=
  let put := fun (s : ScanOut) => { s with snap := s.snap.map fun m => SMap.copyRange c.regs m a (a + 4) }
  { c with soA := put c.soA, soB := put c.soB }

/-- Scan-out B engages the lock at a boundary of A (R560): it abandons its frame and takes A's counter. -/
def Chip.splitLock (c : Chip) : Chip :=
  if c.soState 0 = 1 ∧ c.soState 1 ≠ 0 ∧ c.eflag SOB_CTL_LOCK = true ∧ c.soLocked = false then
    if c.alignOk then
      (((c.wr (soF 1 SOA_STAT_LOCKED) 1).wr (soF 1 SOA_FRAME_FRAME) (c.rd SOA_FRAME_FRAME)).onSo 1 fun s =>
        { s with stamp := c.soA.stamp, stampFrame := c.soA.stampFrame })
    else c.soStop 1 1 false
  else c

/-- The lock of B is lost (R561). -/
def Chip.lockLost (c : Chip) : Chip :=
  if c.soLocked && !c.alignOk then c.soStop 1 1 false else c

/-! ### Counter, stamps, snapshot (R575-R577) -/

/-- A boundary of a scan-out: the counter, the stamp, and the frame that has left. -/
def Chip.soTick (c : Chip) (i : Nat) : Chip :=
  let n := (c.rd (soF i SOA_FRAME_FRAME) + 1) % 2 ^ 32
  (c.wr (soF i SOA_FRAME_FRAME) n).onSo i fun s =>
    { s with last := c.wholeFrame i, stamp := c.stamp, stampFrame := n }

/-- SNAP (R577). -/
def Chip.soSnap (c : Chip) (i : Nat) : Chip :=
  let s := c.so i
  let c1 := ((c.wr (soF i SOA_SNAP_FRAME_FRAME) s.stampFrame).wr (soF i SOA_SNAP_TS_LO_LO) (s.stamp % 2 ^ 32)).wr
    (soF i SOA_SNAP_TS_HI_HI) (s.stamp / 2 ^ 32)
  if i = 0 then
    (List.range 4).foldl
      (fun (c : Chip) g =>
        (c.wr (SOA_GRP_TS_LO_LO.at g) (s.grpStamps.getD g 0 % 2 ^ 32)).wr (SOA_GRP_TS_HI_HI.at g)
          (s.grpStamps.getD g 0 / 2 ^ 32)) c1
  else c1

/-- SO_SNAP. -/
def execSoSnap (so : Nat) (s : State) : Host.Outcome State Fault Refusal :=
  effect s fun c => if so < 2 then c.guardReg (0x200060 + so * 0x10000) fun c => c.soSnap so else c

/-! ### Tolerance and urgency (R573, R574) -/

/-- A tolerance of a running scan-out: urgency below URG_US, released from 2 × URG_US on. -/
def Chip.urgency (c : Chip) (i tol : Nat) : Chip :=
  let t := min tol 0xFFFE
  let u := max 1 (c.ef (soF i SOA_URG_CFG_URG_US))
  let c1 := c.soTol i t
  if t < u ∧ c.flag (soF i SOA_STAT_URGENT) = false then
    (c1.wr (soF i SOA_STAT_URGENT) 1).bump (soF i SOA_CNT2_URG_ENTRIES) 1
  else if 2 * u ≤ t then c1.wr (soF i SOA_STAT_URGENT) 0
  else c1

/-- BASIN_URGENCY: `tol` whole microseconds until the first pixel the basin does not hold is due. -/
def execBasinUrgency (so tol : Nat) (s : State) : Host.Outcome State Fault Refusal :=
  effect s fun c =>
    if so < 2 ∧ c.soState so = 1 ∧ c.soSource so ≠ 2 then c.urgency so tol else c

/-! ### Mooring of a scan-out (R586-R588) -/

/-- A running scan-out captures the frame that starts now (Table 12.2, B1). -/
def Chip.soCapture (c : Chip) (i : Nat) : Chip :=
  if c.soState i = 1 then c.onSo i fun s => { s with capture := true } else c

/-- The capture of the frame that has just left: 0 it fits, 1 FULL, 2 SUBST (Tables 12.2 and 12.3). -/
def Chip.soCaptured (c : Chip) (i : Nat) : Chip × Nat :=
  let s := c.so i
  let gs := encodeFrame s.last
  let n := storeBytesOf gs
  let cause := if s.subst ≠ [] then 2 else if 131072 < n then 1 else 0
  let c1 := ((c.wr (soF i SOA_MOOR_STAT_BYTES)
      (fillBytes 131072 (gs.map fun g => 4 + 6 * g.runs.length) 0)).wr (soF i SOA_MOOR_STAT_STORE_VALID) (b2n (cause == 0))).wr
    (soF i SOA_MOOR_STAT_CAUSE) cause
  (c1.onSo i fun s => { s with capture := false, store := if cause = 0 then gs else [] }, cause)

end Sys2Proof.Machine
end

