-- ==== Sys2Proof/Machine/Bitplane.lean ====
section
/-! DEFINITION. The bit-plane sequencer (chapter 13): the formatter and its histograms, concealment, the allocator, the
display of planes, strobes and MIF bursts, pixel shift, the stuck map, and Mooring in MIRROR. -/

namespace Sys2Proof.Machine

/-- Change the sequencer. -/
def Chip.onBps (c : Chip) (f : BitPlane → BitPlane) : Chip := { c with bps := f c.bps }

/-! ### Settings -/

/-- P, the pixel-shift positions of SHIFT_POS. -/
def Chip.bpsP (c : Chip) : Nat :=
  match c.ef BPS_CTL_SHIFT_POS with
  | 1 => 2
  | 2 => 4
  | _ => 1

def Chip.bpsMW (c : Chip) : Nat := c.ef BPS_GEOM_MW
def Chip.bpsMH (c : Chip) : Nat := c.ef BPS_GEOM_MH
def Chip.blockRows (c : Chip) : Nat := max 1 (c.ef BPS_BLOCK_BLOCK_ROWS)

/-- The first row of a reset block, and how many rows it has (R593). -/
def Chip.blockSpan (c : Chip) (b : Nat) : Nat × Nat :=
  let first := min c.bpsMH (b * c.blockRows)
  (first, if b = 15 then c.bpsMH - first else min c.blockRows (c.bpsMH - first))

/-- HALF_BYTES and PLANE_BYTES. -/
def Chip.halfBytes (c : Chip) : Nat := 64 * ((c.bpsMW / 2 + 511) / 512)
def Chip.planeBytes (c : Chip) : Nat := 2 * c.halfBytes * c.bpsMH

/-- The sequencer is asked to run (R591). -/
def Chip.bpsWanted (c : Chip) : Bool :=
  (c.mode.mode == .mirror || c.mode.mode == .calibrate) && c.pdOn 41 && c.eflag BPS_CTL_EN

/-- BPS_STAT.ERR: 1 NOLOCK (R591), 2 GEOM (R592). -/
def Chip.bpsErr (c : Chip) : Nat :=
  let s := if c.bpsP = 1 then (c.bpsMW / 2, c.bpsMH) else (c.bpsMW, 2 * c.bpsMH)
  let ok := fun (i : Nat) => decide ((c.timing i).hact = s.1) && decide ((c.timing i).vact = s.2)
  if !(c.soState 0 != 0 && c.soState 1 != 0 && c.soLocked && c.soSource 0 == 0 && c.soSource 1 == 0 && c.route) then 1
  else if ok 0 && ok 1 then 0 else 2

/-- The sequencer runs: it is asked to and nothing is wrong. -/
def Chip.bpsRuns (c : Chip) : Bool := c.bpsWanted && c.bpsErr == 0

/-- The array cleared, every channel off, no display. The last allocation stays readable (Table 13.4). -/
def Chip.bpsDark (c : Chip) : Chip :=
  c.onBps fun b =>
    { b with ready := false, shown := Display.none, next := 0, cur := none, load := none, loadBlock := 0
             loaded := List.replicate 16 none, mirrors := List.replicate 16 none, strobed := 0
             chans := List.replicate 6 false, act := 0, nextSub := 0 }

/-- BPS_STAT and the declared tolerance after a change of mode, commit or lock (R591, R592, R615). The tolerance of a
running sequencer is time-driven and no command reports it: it reads 0 (log entry 62). -/
def Chip.bpsRefresh (c : Chip) : Chip :=
  let c1 := (c.wr BPS_STAT_ERR (if c.bpsWanted then c.bpsErr else 0)).setTol 2
    (if c.bpsRuns && !c.mode.moored then 0 else 0xFFFF)
  if c.bpsRuns then c1.wr BPS_STAT_STATE (if c.mode.moored then 2 else 1)
  else (c1.bpsDark).wr BPS_STAT_STATE (if c.bpsWanted then 3 else 0)

/-! ### The formatter (R594, R595, R616, R619) -/

/-- The offset of a sub-frame (Table 13.3), and its code. -/
def shiftOffset (P s : Nat) : (Nat × Nat) × Nat :=
  if P = 2 then [((0, 0), 0), ((1, 1), 1)].getD s ((0, 0), 0)
  else if P = 4 then [((0, 0), 0), ((1, 0), 1), ((1, 1), 3), ((0, 1), 2)].getD s ((0, 0), 0)
  else ((0, 0), 0)

/-- Component `k` of a pixel. -/
def Px.comp (p : Px) (k : Nat) : Nat := if k = 0 then p.1 else if k = 1 then p.2.1 else p.2.2

/-- The codes of row `y` of the array for a sub-frame and a component, from the two halves of the frame. -/
def Chip.arrayRow (c : Chip) (a b : List (List Px)) (s k y : Nat) : List Nat :=
  let P := c.bpsP
  let o := (shiftOffset P s).1
  let Y := if P = 1 then y else 2 * y + o.2
  let line := a.getD Y [] ++ b.getD Y []
  (List.range c.bpsMW).map fun x => (line.getD (if P = 1 then x else 2 * x + o.1) (0, 0, 0)).comp k

/-- A share added to a neighbour (R619): the row, and one more saturation when it was limited. -/
def addShare (top : Int) (stuckX : List Nat) (acc : List Nat × Nat) (x : Int) (share : Int) : List Nat × Nat :=
  if x < 0 ∨ (acc.1.length : Int) ≤ x ∨ stuckX.contains x.toNat = true then acc
  else
    let v := (acc.1.getD x.toNat 0 : Int) + share
    let l := min top (max 0 v)
    (acc.1.set x.toNat l.toNat, acc.2 + b2n (decide (l ≠ v)))

/-- Concealment of a row (R619). -/
def concealRow (top : Nat) (stuck : List Stuck) (row : List Nat) : List Nat × Nat :=
  let xs := stuck.map fun m => m.x
  stuck.foldl
    (fun (acc : List Nat × Nat) (m : Stuck) =>
      if acc.1.length ≤ m.x then acc
      else
        let vs := if m.on then top else 0
        let e : Int := (acc.1.getD m.x 0 : Int) - (vs : Int)
        let acc1 := (acc.1.set m.x vs, acc.2)
        addShare top xs (addShare top xs acc1 ((m.x : Int) - 1) (e.fdiv 2)) ((m.x : Int) + 1) (e - e.fdiv 2))
    (row, 0)

/-- The stored codes of one sub-frame and component, row by row, and how many shares saturated. -/
def Chip.storedRows (c : Chip) (a b : List (List Px)) (s k : Nat) : List (List Nat × Nat) :=
  (List.range c.bpsMH).map fun y =>
    let row := c.arrayRow a b s k y
    if c.eflag BPS_CTL_CONCEAL_EN then
      concealRow (2 ^ c.outDepth - 1) (c.bps.stuckIn.filter fun m => m.y == y) row
    else (row, 0)

/-- Bytes of bits, bit `x` in byte ⌊x / 8⌋ at place x mod 8. -/
def bitBytes (n : Nat) (bits : List Nat) : List Byte :=
  (List.range n).map fun i =>
    BitVec.ofNat 8 (((List.range 8).map fun k => bits.getD (8 * i + k) 0 * 2 ^ k).foldl (· + ·) 0)

/-- A row of a plane as stored: both halves (R594). -/
def Chip.planeRow (c : Chip) (bits : List Nat) : List Byte :=
  bitBytes c.halfBytes (bits.take (c.bpsMW / 2)) ++ bitBytes c.halfBytes ((bits.drop (c.bpsMW / 2)).take (c.bpsMW / 2))

/-- The place of stored plane `n` of buffer `u`. -/
def Chip.planeAddr (c : Chip) (u n : Nat) : Nat := c.ef (BPS_BUF_ADDR.at u) + n * c.planeBytes

/-- Write stored plane `n`, bit `k` of the rows. -/
def Chip.writePlane (c : Chip) (u n k : Nat) (rows : List (List Nat)) : Chip :=
  c.writeBytes 2 (c.planeAddr u n) (rows.flatMap fun r => c.planeRow (r.map fun v => v / 2 ^ k % 2))

/-- The reset blocks that hold a set bit `k`. -/
def Chip.blockOcc (c : Chip) (k : Nat) (rows : List (List Nat)) : Nat :=
  ((List.range 16).map fun b =>
    let q := c.blockSpan b
    if ((rows.drop q.1).take q.2).any fun r => r.any fun v => v.testBit k then 2 ^ b else 0).foldl (· + ·) 0

/-- BPS_FRAME_WRITTEN: the frame in progress, as it leaves the scan-outs, is stored in buffer u. -/
def Chip.formatFrame (c : Chip) : Chip :=
  let a := c.wholeFrame 0
  let b := c.wholeFrame 1
  let B := c.outDepth
  let P := c.bpsP
  let u := c.bps.nextBuf
  let subs := (List.range (3 * P)).map fun sc => c.storedRows a b (sc / 3) (sc % 3)
  let rowsOf := fun (sc : Nat) => (subs.getD sc []).map fun r => r.1
  let count := fun (k bit : Nat) =>
    (((List.range P).map fun s => ((rowsOf (3 * s + k)).map fun r => r.countP fun v => v.testBit bit).foldl (· + ·) 0)).foldl
      (· + ·) 0
  let peak := fun (k : Nat) =>
    ((List.range P).map fun s => ((rowsOf (3 * s + k)).map fun r => r.foldl max 0).foldl max 0).foldl max 0
  let sats := (subs.map fun r => (r.map fun x => x.2).foldl (· + ·) 0).foldl (· + ·) 0
  let c1 := (List.range (3 * P * B)).foldl (fun (c : Chip) n => c.writePlane u n (n % B) (rowsOf (n / B))) c
  let buf : PlaneBuf :=
    { pos := P, depth := B, counts := (List.range 36).map fun i => count (i / 12) (i % 12)
      peaks := (List.range 3).map peak
      occ := (List.range (3 * P * B)).map fun n => c.blockOcc (n % B) (rowsOf (n / B)) }
  (c1.saturate 0x240000 2 sats).onBps fun x =>
    { x with bufs := x.bufs.set u (some buf), latest := some u, nextBuf := 1 - u }

/-- BPS_FRAME_WRITTEN: in Mooring the formatter writes nothing (R622). -/
def execBpsFrameWritten (s : State) : Host.Outcome State Fault Refusal :=
  effect s fun c => if c.bpsRuns && !c.mode.moored then c.formatFrame else c

/-! ### The allocator (R599-R604) -/

/-- The bits needed for a value; bitlen(0) = 0. -/
def bitlen (v : Nat) : Nat := if v = 0 then 0 else Nat.log2 v + 1

/-- A field's table entries: FIRST and on, modulo 64. -/
def Chip.fieldEntries (c : Chip) (f : Nat) : List Nat :=
  (List.range (c.ef (BPS_FIELD_CFG_COUNT.at f) + 1)).map fun i => (c.ef (BPS_FIELD_CFG_FIRST.at f) + i) % 64

/-- COMP of a field; 3 behaves as 0. -/
def Chip.fieldComp (c : Chip) (f : Nat) : Nat := c.ef (BPS_FIELD_CFG_COMP.at f) % 3

/-- COUNT of a stored bit; of a bit that no plane has (BIT is 4 bits wide) it is 0. -/
def PlaneBuf.count (b : PlaneBuf) (k bit : Nat) : Nat := if bit < 12 then b.counts.getD (12 * k + bit) 0 else 0

/-- The shift h of a component. -/
def Chip.fieldShift (c : Chip) (b : PlaneBuf) (k : Nat) : Nat :=
  if c.eflag BPS_CTL_SHIFT_EN then min (c.ef BPS_CTL_HMAX) (b.depth - bitlen (b.peaks.getD k 0)) else 0

/-- The weight of an entry: 0 when no stored bit or no set bit stands behind it. -/
def Chip.entryWeight (c : Chip) (b : PlaneBuf) (k h e : Nat) : Nat :=
  let bit := c.ef (BPS_PLANE_BIT.at e)
  if bit < h ∨ (c.eflag BPS_CTL_SKIP_EMPTY = true ∧ b.count k (bit - h) = 0) then 0
  else c.ef (BPS_PLANE_WEIGHT.at e)

/-- The attenuation of a plane: the least a ≤ 3 that brings its base to MIN_BASE. -/
def attenuation (minBase base : Nat) : Nat :=
  if minBase ≤ base then 0 else if minBase ≤ 2 * base then 1 else if minBase ≤ 4 * base then 2 else 3

/-- What the allocator makes of a field: its planes from time `t0` on, its scale, and what it counts. -/
structure FieldPlan where
  planes : List Plane
  alloc : FieldAlloc
  range : Nat
  short : Nat
  sat : Nat
  free : Nat
deriving DecidableEq, Repr

/-- The starts of consecutive durations. -/
def startsOf (t0 : Nat) (ds : List Nat) : List Nat :=
  (ds.foldl (fun (acc : List Nat × Nat) d => (acc.1 ++ [acc.2], acc.2 + d)) ([], t0)).1

/-- A dark field of T ticks (R601, R602). -/
def Chip.darkField (c : Chip) (s f k t0 T h range : Nat) : FieldPlan :=
  { planes := if T = 0 then [] else [⟨s, f, k, 64, 0, t0, T, 0, 0⟩]
    alloc := ⟨s, f, T, 0, h, c.ef (BPS_FIELD_CFG_CH_MASK.at f)⟩, range := range, short := 0, sat := 0, free := 0 }

/-- One field (the body of the allocator's loop). With Tp = 0 the scale divides by zero: a free value. -/
def Chip.planField (c : Chip) (b : PlaneBuf) (s f t0 T : Nat) : FieldPlan :=
  let k := c.fieldComp f
  let es := c.fieldEntries f
  let h := c.fieldShift b k
  let ws := es.map fun e => c.entryWeight b k h e
  let blank := c.ef BPS_TIM0_BLANK
  let n := ws.countP fun w => decide (0 < w)
  if 16777215 < T ∨ T < n * blank then c.darkField s f k t0 T h 1
  else if n = 0 then c.darkField s f k t0 T h 0
  else
    let tp := T - n * blank
    let b1 := allocate ws tp
    let minBase := c.ef BPS_TIM1_MIN_BASE
    let as := (ws.zip b1).map fun x => if x.1 = 0 then 0 else attenuation minBase x.2
    let w2 := (ws.zip as).map fun x => x.1 * 2 ^ x.2
    let bs := allocate w2 tp
    let ds := (ws.zip bs).map fun x => if x.1 = 0 then 0 else x.2 + blank
    let wRef := es.map fun e => c.ef (BPS_PLANE_WEIGHT.at e)
    let nRef := wRef.countP fun w => decide (0 < w)
    let num : Int := (weightSum w2 : Int) * ((T : Int) - (nRef : Int) * blank)
    let den := weightSum wRef * tp * 2 ^ h
    let g := if den = 0 then (Config.freeNat c.free % 65536, false) else satU 16 (roundDiv 0 (num * 32768) den)
    let starts := startsOf t0 ds
    { planes := ((List.range es.length).filter fun i => decide (0 < ds.getD i 0)).map fun i =>
        let a := as.getD i 0
        { sub := s, field := f, comp := k, entry := es.getD i 0, bit := c.ef (BPS_PLANE_BIT.at (es.getD i 0)) - h
          start := starts.getD i 0, dur := ds.getD i 0, on := (roundDiv 0 (bs.getD i 0 : Int) (2 ^ a)).toNat, att := a }
      alloc := ⟨s, f, T, g.1, h, c.ef (BPS_FIELD_CFG_CH_MASK.at f)⟩
      range := 0
      short := (ws.zip bs).countP fun x => decide (0 < x.1) && decide (x.2 < minBase)
      sat := b2n g.2, free := b2n (decide (den = 0)) }

/-- The fields of one sub-frame of `T` ticks that starts at `t0`. DESIGN CHOICE (log entry 116): an ACT_DARK of `T` or more
leaves no time for them. -/
def Chip.planSub (c : Chip) (b : PlaneBuf) (s t0 T : Nat) : List FieldPlan :=
  let dark := c.ef BPS_ACT_ACT_DARK
  let fs := (List.range 8).filter fun f => c.eflag (BPS_FIELD_CFG_EN.at f)
  let ts := allocate (fs.map fun f => c.ef (BPS_FIELD_SHARE_SHARE.at f)) (T - dark)
  let starts := startsOf (t0 + min T dark) ts
  (List.range fs.length).map fun i => c.planField b s (fs.getD i 0) (starts.getD i 0) (ts.getD i 0)

/-- Every field of a display frame. -/
def Chip.planFrame (c : Chip) (b : PlaneBuf) (tFrame : Nat) : List FieldPlan :=
  let subs := allocate (List.replicate c.bpsP 1) tFrame
  let starts := startsOf 0 subs
  (List.range c.bpsP).flatMap fun s => c.planSub b s (starts.getD s 0) (subs.getD s 0)

/-! ### Displaying planes (R596-R598, R605, R609, R617) -/

/-- The run lengths of a row of bits: 0-valued and 1-valued runs in turn, beginning with 0 (R622). -/
def bitRuns (row : List Nat) : List Nat :=
  (row.foldl
    (fun (acc : List Nat × Nat) b =>
      if b = acc.2 then (match acc.1 with | [] => ([1], acc.2) | n :: t => ((n + 1) :: t, acc.2))
      else (1 :: (if acc.1.isEmpty then [0] else acc.1), b))
    ([], 0)).1.reverse

/-- The bits of run lengths. -/
def runBits (runs : List Nat) : List Nat :=
  (runs.zipIdx).flatMap fun r => List.replicate r.1 (r.2 % 2)

/-- A line joins the group of an identical one. -/
def lineGroup (r : List Nat) (gs : List (Nat × List Nat)) : List (Nat × List Nat) :=
  match gs with
  | [] => [(1, r)]
  | g :: t => if g.2 = r then (g.1 + 1, r) :: t else (1, r) :: g :: t

/-- The index of a plane among the stored planes of its buffer. -/
def Plane.stored (p : Plane) (B : Nat) : Nat := (p.sub * 3 + p.comp) * B + p.bit

/-- A row of a stored plane as the sequencer reads it: bits of bad words are 0 (R614). -/
def Chip.readPlaneRow (c : Chip) (u n y : Nat) : List Byte :=
  let a := c.planeAddr u n + y * 2 * c.halfBytes
  (List.range (2 * c.halfBytes)).map fun i => if c.badAt ((a + i) / 8 * 8) then 0 else (c.bytesAt (a + i) 1).getD 0 0

/-- The bits of one half, or both halves, of a stored row. -/
def byteBits (bs : List Byte) : List Nat := bs.flatMap fun b => (List.range 8).map fun k => b.toNat / 2 ^ k % 2

/-- The mirror bits of a row. -/
def Chip.planeBits (c : Chip) (u n y : Nat) : List Nat :=
  let bs := c.readPlaneRow u n y
  (byteBits (bs.take c.halfBytes)).take (c.bpsMW / 2) ++ (byteBits (bs.drop c.halfBytes)).take (c.bpsMW / 2)

/-- A plane as the moor store keeps it. -/
def Chip.moorPlane (c : Chip) (u i : Nat) (p : Plane) : MoorPlane :=
  let rows := (List.range c.bpsMH).map fun y => c.planeBits u (p.stored c.outDepth) y
  if rows.all fun r => r.all fun b => b == 0 then ⟨i, []⟩
  else ⟨i, (rows.map bitRuns).foldr lineGroup []⟩

/-- The bytes of a moor plane store. -/
def moorBytes (ps : List MoorPlane) : Nat :=
  (ps.map fun p => 4 + (p.groups.map fun g => 4 + 2 * g.2.length).foldl (· + ·) 0).foldl (· + ·) 0

/-- The pieces of a moor plane store in order: each plane's header, then its line groups. -/
def moorPieces (ps : List MoorPlane) : List Nat := ps.flatMap fun p => 4 :: p.groups.map fun g => 4 + 2 * g.2.length

/-- The moor store of a display (R622): the planes that light, in order. -/
def Chip.moorStore (c : Chip) (d : Display) : List MoorPlane :=
  match d.buf with
  | none => []
  | some u => (d.planes.zipIdx.filter fun x => decide (x.1.entry < 64)).map fun x => c.moorPlane u x.2 x.1

/-- An allocation is made: its display waits for its start, and a capture that was asked for takes its planes (R622). -/
def Chip.setAlloc (c : Chip) (d : Display) : Chip :=
  c.onBps fun x =>
    { x with alloc := d, ready := true, capture := false, store := if x.capture then c.moorStore d else x.store }

/-- The allocation at a boundary (R596, R599, R618, R622): `ticks` since the boundary before. Without a buffer written
with the present P and depth the display is dark. -/
def Chip.bpsAllocate (c : Chip) (ticks : Nat) : Chip :=
  let c0 := c.onBps fun x => { x with latest := none, stuckIn := x.stuck }
  let dark : Display := ⟨none, c.bpsP, [], []⟩
  if !c.bpsRuns then c0
  else
    match (if c.mode.moored then c.bps.shown.buf else c.bps.latest).bind fun k => (c.bps.bufs.getD k none).map fun b => (k, b) with
    | none => c0.setAlloc dark
    | some (k, b) =>
      if b.pos ≠ c.bpsP ∨ b.depth ≠ c.outDepth then c0.setAlloc dark
      else
        let ps := c.planFrame b (ticks - c.ef BPS_TIM0_FRAME_GUARD)
        let sum := fun (f : FieldPlan → Nat) => (ps.map f).foldl (· + ·) 0
        let c1 := ((c0.bump BPS_CNT1_FIELD_RANGE (sum fun p => p.range)).bump BPS_CNT1_SHORT_PLANE
          (sum fun p => p.short)).saturate 0x240000 1 (sum fun p => p.sat)
        let c2 := if sum (fun p => p.free) = 0 then c1 else c1.takeFree
        c2.setAlloc ⟨some k, c.bpsP, ps.flatMap fun p => p.planes, ps.map fun p => p.alloc⟩

/-- Every channel is commanded off. -/
def Chip.channelsOff (c : Chip) : Chip := c.onBps fun b => { b with chans := List.replicate 6 false }

/-- BPS_DISPLAY_START: a display still running is cut (R598); then the allocated one starts. The code of its first
sub-frame, 0b00 in every row of Table 13.3, has been driven ACT_LEAD ticks ago; with ACT_LEAD = 0 its ACT_POS_CHANGE
comes after the start. -/
def Chip.displayStart (c : Chip) : Chip :=
  let c1 := if c.bps.cur.isSome ∨ c.bps.next < c.bps.shown.planes.length then c.bump BPS_CNT0_FRAME_CUT 1 else c
  let c2 := c1.channelsOff.onBps fun b =>
    { b with disp := b.disp + 1, shown := b.alloc, ready := false, next := 0, cur := none, strobed := 0, act := 0
             nextSub := if c.ef BPS_ACT_ACT_LEAD = 0 then 0 else 1 % b.alloc.pos
             mirrors := if b.alloc.buf = none then List.replicate 16 none else b.mirrors }
  match c2.bps.shown.buf with
  | none => c2
  | some u => c2.wr BPS_STAT_BUF u

/-- BPS_DISPLAY_START. -/
def execBpsDisplayStart (s : State) : Host.Outcome State Fault Refusal :=
  effect s fun c => if c.bpsRuns && c.bps.ready then c.displayStart else c

/-- The index of the next plane that is loaded, from index `i` on: dark fields are not. -/
def Display.lit (d : Display) (i : Nat) : Option Nat :=
  (List.range d.planes.length).find? fun k => decide (i ≤ k) && ((d.planes[k]?).any fun p => decide (p.entry < 64))

/-- A plane by its name. -/
def BitPlane.planeOf (b : BitPlane) (k : Nat × Nat) : Option Plane :=
  if k.1 = b.disp then b.shown.planes[k.2]? else if k.1 = b.disp + 1 ∧ b.ready = true then b.alloc.planes[k.2]? else none

/-- The buffer of a plane. -/
def BitPlane.bufOf (b : BitPlane) (k : Nat × Nat) : Option Nat :=
  if k.1 = b.disp then b.shown.buf else b.alloc.buf

/-- The next plane to load after the planes up to index `i` of the display in progress. -/
def BitPlane.loadAfter (b : BitPlane) (i : Nat) : Option (Nat × Nat) :=
  match b.shown.lit i with
  | some k => some (b.disp, k)
  | none => if b.ready then (b.alloc.lit 0).map fun k => (b.disp + 1, k) else none

/-- The loader at the start of plane `i` (R613): a lit plane that it has not begun is begun now, its blocks late or not;
a load of an earlier plane is over. -/
def BitPlane.loadFrom (b : BitPlane) (i : Nat) (lit : Bool) : BitPlane :=
  if b.load = some (b.disp, i) then b
  else if lit then { b with load := some (b.disp, i), loadBlock := 0 }
  else
    { b with load := match b.load with
        | none => none
        | some k => if k.1 = b.disp ∧ k.2 < i then none else some k }

/-- BPS_PLANE_START: the next plane of the display, or its end. At a change of field every channel is off; a dark field
clears the array (R601). -/
def Chip.planeStart (c : Chip) : Chip :=
  let b := c.bps
  match b.shown.planes[b.next]? with
  | none => c.channelsOff.onBps fun x => { x with cur := none }
  | some p =>
    let old := b.cur.bind fun i => b.shown.planes[i]?
    let same := old.any fun q => q.field == p.field && q.sub == p.sub
    let c1 := if same then c else c.channelsOff
    let c2 := if p.entry = 64 then c1.onBps fun x => { x with mirrors := List.replicate 16 none } else c1
    (c2.onBps fun x =>
      { x.loadFrom b.next (decide (p.entry < 64)) with
          cur := some b.next, next := b.next + 1, strobed := if p.entry < 64 then 0 else 16 }).wr
        BPS_STAT_SUB p.sub

/-- BPS_PLANE_START. -/
def execBpsPlaneStart (s : State) : Host.Outcome State Fault Refusal :=
  effect s fun c => if c.bpsRuns then c.planeStart else c

/-- BPS_RESET_STROBE (R605, R606, R613): block `block` of the running plane. -/
def Chip.strobe (c : Chip) (block i : Nat) (p : Plane) : Chip :=
  let k := (c.bps.disp, i)
  let c1 := c.onBps fun x => { x with strobed := max x.strobed (block + 1) }
  if c.bps.loaded.getD block none = some k then c1.onBps fun x => { x with mirrors := x.mirrors.set block (some k) }
  else
    let c2 := (c1.bump BPS_CNT0_PLANE_LATE 1).onBps fun x =>
      if x.load = some k then { x with loadBlock := max x.loadBlock (block + 1) } else x
    if c2.flag BPS_LATE_FIRST_VALID then c2
    else
      ((((c2.wr BPS_LATE_FIRST_VALID 1).wr BPS_LATE_FIRST_BLOCK block).wr BPS_LATE_FIRST_ENTRY p.entry).wr BPS_LATE_FIRST_SUB
        p.sub).wr BPS_LATE_FIRST_FRAME (c.rd SOA_FRAME_FRAME % 65536)

/-- BPS_RESET_STROBE. -/
def execBpsResetStrobe (block : Nat) (s : State) : Host.Outcome State Fault Refusal :=
  effect s fun c =>
    match c.bps.cur with
    | none => c
    | some i =>
      match c.bps.shown.planes[i]? with
      | none => c
      | some p =>
        if c.bpsRuns = true ∧ block < 16 ∧ c.bps.strobed ≤ block ∧ p.entry < 64 then c.strobe block i p else c

/-! ### MIF bursts (R610-R614) -/

/-- A command word (Table 13.2). -/
def mifWord (op block first rows tag : Nat) : Nat :=
  let low := op + 16 * block + 2 ^ 8 * (first % 2048) + 2 ^ 19 * (rows % 2048) + 2 ^ 30 * (tag % 256)
  low + 2 ^ 56 * crc8 (toLe 7 low)

/-- The bytes of a half row that are sent: whole beats of 16 columns. -/
def Chip.mifRowBytes (c : Chip) : Nat := 2 * ((c.bpsMW / 2 + 15) / 16)

/-- The rows of a moored plane. -/
def Chip.moorRows (c : Chip) (i : Nat) : List (List Nat) :=
  match c.bps.store.find? fun p => p.index == i with
  | none => []
  | some p => p.groups.flatMap fun g => List.replicate g.1 (runBits g.2)

/-- The row data of a burst: half A, half B. -/
def Chip.burst (c : Chip) (u n i first rows : Nat) : List (List Byte) :=
  let row := fun (y : Nat) =>
    if c.mode.moored then c.planeRow ((c.moorRows i).getD y []) else c.readPlaneRow u n y
  let n := c.mifRowBytes
  [(List.range rows).flatMap fun y => (row (first + y)).take n,
    (List.range rows).flatMap fun y => ((row (first + y)).drop c.halfBytes).take n]

/-- The block of a plane holds a set bit. -/
def Chip.blockHolds (c : Chip) (u n i block first rows : Nat) : Bool :=
  if c.mode.moored then (((c.moorRows i).drop first).take rows).any fun r => r.any fun b => b == 1
  else (((c.bps.bufs.getD u none).map fun (b : PlaneBuf) => b.occ.getD n 0).getD 0).testBit block

/-- One burst: block `b` of plane `k` reaches the array's memory. -/
def Chip.loadBlock (c : Chip) (k : Nat × Nat) (p : Plane) (u b : Nat) : Chip :=
  let q := c.blockSpan b
  let n := p.stored c.outDepth
  let tag := if c.bps.load = some k ∧ 0 < b ∧ c.bps.loaded.contains (some k) = true then c.bps.tag else (c.bps.tag + 1) % 256
  let full := c.blockHolds u n k.2 b q.1 q.2
  let a := c.planeAddr u n + q.1 * 2 * c.halfBytes
  let len := q.2 * 2 * c.halfBytes
  let c1 := if full && !c.mode.moored then (c.readNote 2 a len).bump BPS_CNT2_MEDIA (c.badWords a len) else c
  c1.onBps fun x =>
    { x with tag := tag, cmd := if full then mifWord 1 b q.1 q.2 tag else mifWord 2 b q.1 0 tag
             beats := if full then c.burst u n k.2 q.1 q.2 else [[], []]
             loaded := x.loaded.set b (some k), load := some k, loadBlock := b + 1 }

/-- The plane the loader works on now: the one begun, else the one after the running plane. -/
def BitPlane.target (b : BitPlane) : Option (Nat × Nat) × Nat :=
  let after := b.loadAfter b.next
  match b.load with
  | none => (after, 0)
  | some k =>
    if b.loadBlock < 16 then (some k, b.loadBlock)
    else if after = some k then (none, 0) else (after, 0)

/-- MIF_BLOCK_LOAD_DONE: a block of the running plane that is not yet strobed, or of the next plane once the block has
been strobed for the running one. -/
def execMifBlockLoadDone (s : State) : Host.Outcome State Fault Refusal :=
  effect s fun c =>
    let t := c.bps.target
    match t.1 with
    | none => c
    | some k =>
      match c.bps.planeOf k, c.bps.bufOf k with
      | some p, some u =>
        let own := c.bps.cur = some k.2 ∧ k.1 = c.bps.disp
        if c.bpsRuns = true ∧ c.pdOn 42 = true ∧ (own ∨ c.bps.cur = none ∨ t.2 < c.bps.strobed) then c.loadBlock k p u t.2
        else c
      | _, _ => c

/-! ### Where strobes and command edges fall (R605, R608, Table 13.1) -/

/-- The ticks of a display at which the reset strobe of a block of a plane rises and falls. -/
def Chip.strobeSpan (c : Chip) (p : Plane) (b : Nat) : Nat × Nat :=
  let t := p.start + b * 4 * max 1 (c.ef BPS_BLOCK_RSKEW)
  (t, t + max 4 (c.ef BPS_BLOCK_RST_W))

/-- A pulse before the pulses that follow it: one whose off edge is at or after the next on edge merges with it. -/
def joinPulse (p : Int × Int) (ps : List (Int × Int)) : List (Int × Int) :=
  match ps with
  | [] => [p]
  | q :: t => if q.1 ≤ p.2 then (p.1, max p.2 q.2) :: t else p :: q :: t

/-- The pulses of a channel in a field of a display, as ticks of their on and off command edges. An edge outside the field
moves to the field's nearest tick; the tick at which the field ends is an edge's place too, as it is that of an undelayed
off edge (Table 13.1 with D = b + BLANK). -/
def Chip.channelPulses (c : Chip) (d : Display) (f : FieldAlloc) (ch : Nat) : List (Int × Int) :=
  let ps := d.planes.filter fun p => p.sub == f.sub && p.field == f.field && decide (p.entry < 64)
  if !f.mask.testBit ch then []
  else
    let t0 : Int := (ps.head?.map fun p => p.start).getD 0
    let move := fun (x : Int) => min (t0 + f.time) (max t0 x)
    ((ps.filter fun p => decide (0 < p.on)).map fun p =>
      let t : Int := p.start + c.ef BPS_TIM0_BLANK
      (move (t + toSigned 8 (c.ef (BPS_CHDLY_DLY_ON.at ch))),
        move (t + p.on + toSigned 8 (c.ef (BPS_CHDLY_DLY_OFF.at ch))))).foldr joinPulse []

/-! ### Light channel commands (R608, R609) -/

/-- The field of the running plane. -/
def BitPlane.curField (b : BitPlane) : Option FieldAlloc :=
  (b.cur.bind fun i => b.shown.planes[i]?).bind fun p => b.shown.fields.find? fun f => f.sub == p.sub && f.field == p.field

/-- The running plane lights channel `ch`. -/
def Chip.lights (c : Chip) (ch : Nat) : Bool :=
  match c.bps.cur.bind fun i => c.bps.shown.planes[i]? with
  | none => false
  | some p => decide (0 < p.on) && (c.bps.curField.any fun f => f.mask.testBit ch)

/-! ### Pixel shift (R617) -/

/-- ACT_POS_CHANGE: the code of the next sub-frame of the display, or, after its last, of the first of the next display. -/
def execActPosChange (s : State) : Host.Outcome State Fault Refusal :=
  effect s fun c =>
    let P := c.bps.shown.pos
    if c.bpsRuns = true ∧ 1 < P then
      c.onBps fun b => { b with act := (shiftOffset P b.nextSub).2, nextSub := (b.nextSub + 1) % P }
    else c

/-! ### The stuck map (R619-R621) -/

/-- An entry goes before another. -/
def Stuck.before (a b : Stuck) : Bool := decide (a.y < b.y) || (a.y == b.y && decide (a.x < b.x))

/-- Insert in ascending (y, x) order. -/
def stuckIns (m : Stuck) (l : List Stuck) : List Stuck :=
  match l with
  | [] => [m]
  | a :: t => if a.x = m.x ∧ a.y = m.y then m :: t else if m.before a then m :: a :: t else a :: stuckIns m t

/-- An insertion: an equal (x, y) replaces its state; into a full map it is dropped and counted. The flag says that it
was stored. -/
def Chip.stuckInsert (c : Chip) (m : Stuck) : Chip × Bool :=
  if decide (256 ≤ c.bps.stuck.length) && !(c.bps.stuck.any fun a => a.x == m.x && a.y == m.y) then
    (c.bump BPS_CNT2_MAP_FULL 1, false)
  else
    let l := stuckIns m c.bps.stuck
    ((c.onBps fun b => { b with stuck := l }).wr BPS_MAP_CTL_COUNT l.length, true)

/-- A write to BPS_MAP_ADD (R620). -/
def Chip.mapAdd (c : Chip) (v : Word) : Chip :=
  let m : Stuck := ⟨BPS_MAP_ADD_X.get v, BPS_MAP_ADD_Y.get v, BPS_MAP_ADD_STATE.get v == 1⟩
  let r := c.stuckInsert m
  if r.2 then
    r.1.blockRecord 0x20 (min 15 (m.y / c.blockRows)) [m.x % 256, m.x / 256, m.y % 256, m.y / 256, b2n m.on]
  else r.1

/-- STUCK_MAP_ADD. -/
def execStuckMapAdd (v : Word) (s : State) : Host.Outcome State Fault Refusal :=
  effect s fun c => c.guardReg 0x240404 fun c => c.mapAdd v

/-- STUCK_MAP_CLEAR. -/
def Chip.mapClear (c : Chip) : Chip := (c.onBps fun b => { b with stuck := [] }).wr BPS_MAP_CTL_COUNT 0

def execStuckMapClear (s : State) : Host.Outcome State Fault Refusal :=
  effect s fun c => c.guardReg 0x240400 Chip.mapClear

/-! ### Mooring in MIRROR (R622) -/

/-- What the capture of MIRROR found at B2: 0 it fits, 1 FULL, 2 SUBST (a line of the frame was substituted). -/
def Chip.bpsCaptured (c : Chip) : Chip × Nat :=
  let n := moorBytes c.bps.store
  let cause := if c.soA.subst ≠ [] ∨ c.soB.subst ≠ [] then 2 else if 262144 < n then 1 else 0
  ((((c.wr BPS_MOOR_STAT_BYTES (fillBytes 262144 (moorPieces c.bps.store) 0)).wr BPS_MOOR_STAT_STORE_VALID (b2n (cause == 0))).wr BPS_MOOR_STAT_CAUSE
    cause).onBps fun b => { b with capture := false }, cause)

end Sys2Proof.Machine
end

