-- ==== Sys2Proof/Machine/Beam.lean ====
section
/-! DEFINITION. Beam scanning (chapter 14): the mirror lock, the arcsine table and pixel boundaries, laser values, the
LDX words, the vertical ramp, and the frame ring. -/

namespace Sys2Proof.Machine

/-- Change the engine. -/
def Chip.onBsc (c : Chip) (f : Beam → Beam) : Chip := { c with bsc := f c.bsc }

/-- BSC_STAT.LSTATE (Table 14.1): 0 IDLE, 1 MEASURE, 2 TRACK, 3 LOCKED, 4 FAULT. -/
def Chip.lstate (c : Chip) : Nat := c.rd BSC_STAT_LSTATE

/-- PH_REF and CENTRE. -/
def Chip.phRef (c : Chip) : Nat := c.rd BSC_PH_REF_LO_LO + 2 ^ 32 * c.rd BSC_PH_REF_HI_HI
def Chip.bscCentre (c : Chip) : Nat := c.ef BSC_CENTRE_LO_LO + 2 ^ 32 * c.ef BSC_CENTRE_HI_HI

/-- SPA ticks pass (the phase accumulator wraps, Table 2.4). -/
def Chip.bscTicks (c : Chip) (n : Nat) : Chip :=
  c.onBsc fun b =>
    { b with acc := (b.acc + n * b.inc) % 2 ^ 48, since := b.since + n, sinceUi := b.sinceUi + 8 * (n : Int) }

/-! ### Running (R623, R624) -/

/-- BSC_STAT.ERR beyond CLOCK: 1 GEOM (R624). -/
def Chip.bscGeom (c : Chip) : Bool :=
  let t := c.timing 0
  c.soState 0 != 0 && decide (c.soSource 0 < 2) && !c.route && decide (t.hact ≤ 2048) && decide (t.vact ≤ 1440)

/-- The engine is asked to run: SCAN or CALIBRATE with EN = 1, on VL-4826-S. -/
def Chip.bscWanted (c : Chip) : Bool :=
  c.variantS && (c.mode.mode == .scan || c.mode.mode == .calibrate) && c.pdOn 43 && c.eflag BSC_CTL_EN

/-- The engine goes IDLE: no lasers, no display. The frames in the ring stay. -/
def Chip.bscIdle (c : Chip) : Chip :=
  (((c.wr BSC_STAT_LSTATE 0).wr BSC_STAT_DRAWING 0).onBsc fun b =>
    { b with lasers := [0, 0, 0], words := [0, 0, 0], draw := .idle, held := none, drawn := false, line := 0
             intervals := [], gotEdge := false }).setTol 3 0xFFFF

/-- The count of frames starts anew with the next enable, and its ring holds no complete buffer before (R647). -/
def Chip.bscForget (c : Chip) : Chip := c.onBsc fun b => { b with frameK := 0, latest := none }

/-- MEASURE begins. -/
def Chip.bscMeasure (c : Chip) : Chip :=
  (c.wr BSC_STAT_LSTATE 1).onBsc fun b => { b with intervals := [], gotEdge := false, good := 0, bad := 0 }

/-- After a change of mode, commit or scan-out A (Table 14.1). The tolerance of a running engine is time-driven and no
command reports it: it reads 0 (log entry 62). -/
def Chip.bscRefresh (c : Chip) : Chip :=
  if !c.bscWanted then
    let c1 := if c.rd BSC_STAT_ERR = 2 ∧ c.flag BSC_CTL_EN = true then c else c.wr BSC_STAT_ERR 0
    if c1.lstate = 0 then c1.bscForget else c1.bscIdle.bscForget
  else if !c.bscGeom then
    let c1 := c.wr BSC_STAT_ERR 1
    if c1.lstate = 0 then c1 else c1.bscIdle
  else
    let c1 := c.wr BSC_STAT_ERR 0
    if c1.lstate = 0 then c1.bscMeasure.setTol 3 0 else c1

/-- BSC_ENABLE_CHECK (R623): a commit of EN = 1 with PLL_L's ODIV not ÷4 is refused. `was`: EN in effect before it. -/
def Chip.bscEnableCheck (c : Chip) (was : Bool) : Chip :=
  if c.eflag BSC_CTL_EN && !was && c.rd (pllF 3 CKG_PLLS_CFG_ODIV) != 3 then
    (c.setEff BSC_CTL_EN.addr (BSC_CTL_EN.put (c.getEff BSC_CTL_EN.addr) 0)).wr BSC_STAT_ERR 2
  else c

/-- GO of a scan-out: a stopped scan-out A commits at once, BSC_CTL.EN with it (R558, R623). -/
def Chip.commitGo (c : Chip) (i : Nat) (mfst : Bool) : Chip := (c.soGo i mfst).bscEnableCheck (c.eflag BSC_CTL_EN)

/-! ### Mirror lock (R628-R633) -/

/-- An interval lies in PER_MIN–PER_MAX as they behave. -/
def Chip.periodOk (c : Chip) (n : Nat) : Bool :=
  let lim := fun (v : Nat) => min 22222 (max 12500 v)
  decide (lim (c.rd BSC_PER_WIN_PER_MIN) ≤ n) && decide (n ≤ lim (c.rd BSC_PER_WIN_PER_MAX))

/-- The signed phase error (R628). -/
def Chip.bscError (c : Chip) : Int := toSigned 48 ((c.bsc.acc + 2 ^ 48 - c.phRef) % 2 ^ 48)

/-- MISS_WIN × 2^32. -/
def Chip.missWin (c : Chip) : Int := (max 1 (c.rd BSC_MFB_CFG_MISS_WIN) : Int) * 2 ^ 32

/-- A value kept within ±l of a centre, and whether that changed it. -/
def clampTo' (mid l x : Int) : Int × Bool :=
  let y := min (max x (mid - l)) (mid + l)
  (y, decide (y ≠ x))

/-- One loop step (R630). -/
def Chip.bscLoop (c : Chip) (e : Int) : Chip :=
  let sh := 2 ^ (16 + c.rd BSC_LOCK_CFG_KSH)
  let p := roundDiv 0 (e * c.rd BSC_LOCK_GAIN_KP) sh
  let q := roundDiv 0 (e * c.rd BSC_LOCK_GAIN_KI) sh
  let l : Int := (c.bsc.incNom / 2 ^ (min 12 (max 4 (c.rd BSC_LOCK_CFG_LIMSH))) : Nat)
  let i := clampTo' 0 l (c.bsc.integ + q)
  let inc := clampTo' c.bsc.incNom l (c.bsc.incNom - p - i.1)
  let c1 := c.onBsc fun b => { b with integ := i.1, inc := inc.1.toNat }
  (c1.wr BSC_LOCK_ERR_E (ofSigned 32 (satS 32 (roundDiv 0 e (2 ^ 24))).1)).saturate 0x260000 1 (b2n i.2 + b2n inc.2)

/-- Loss of lock (R633). -/
def Chip.bscLoss (c : Chip) : Chip :=
  ((((c.wr BSC_STAT_LSTATE 4).bump BSC_CNT3_LOCK_LOSS 1).wr BSC_STAT_DRAWING 0).evt evLight).onBsc (fun b =>
    { b with lasers := [0, 0, 0], words := [0, 0, 0], draw := .idle, held := none, drawn := false, line := 0 })
    |>.srcOn 9 0

/-- The scan-fault input (R633) follows PD43: its output is clamped while the domain is not ON (R215), and a lock lost
before comes back with it. -/
def Chip.scanDrive (c : Chip) : Chip :=
  if !c.pdOn 43 && c.lk.asserted.testBit 9 then c.srcOff 9
  else if c.pdOn 43 && c.lstate == 4 && !c.lk.asserted.testBit 9 then c.srcOn 9 0
  else c

/-- MEASURE takes an edge: after nine good ones the loop starts (Table 14.1). -/
def Chip.bscMeasureEdge (c : Chip) (interval : Nat) : Chip :=
  if !c.bsc.gotEdge then c.onBsc fun b => { b with gotEdge := true }
  else
    let xs := c.bsc.intervals ++ [interval]
    if xs.length < 8 then c.onBsc fun b => { b with intervals := xs }
    else if xs.all fun n => c.periodOk n then
      let nom := (roundDiv 0 ((2 : Int) ^ 51) (xs.foldl (· + ·) 0)).toNat
      (c.wr BSC_STAT_LSTATE 2).onBsc fun b =>
        { b with intervals := [], incNom := nom, inc := nom, integ := 0, acc := c.phRef, good := 0, bad := 0 }
    else (c.bump BSC_CNT4_ACQ_RESTART 1).bscMeasure

/-- An accepted edge in TRACK or LOCKED (R630-R632). -/
def Chip.bscTrackEdge (c : Chip) (interval : Nat) (e : Int) : Chip :=
  let c1 := c.bscLoop e
  let unit : Int := 2 ^ 24
  if c.lstate = 2 then
    if !c.periodOk interval then (c1.bump BSC_CNT4_ACQ_RESTART 1).bscMeasure
    else
      let g := if e.natAbs ≤ (c.rd BSC_LOCK_THR_LOCK_THR : Int) * unit then c.bsc.good + 1 else 0
      let c2 := c1.onBsc fun b => { b with good := g, bad := 0 }
      if 16 ≤ g then (c2.wr BSC_STAT_LSTATE 3).srcOff 9 else c2
  else
    let n := if (c.rd BSC_LOCK_THR_UNLOCK_THR : Int) * unit < e.natAbs then c.bsc.bad + 1 else 0
    let c2 := c1.onBsc fun b => { b with bad := n }
    if !c.periodOk interval || decide (2 ≤ n) then c2.bscLoss else c2

/-- MFB_EDGE: a pickup edge after `ticks` SPA ticks. -/
def Chip.mfbEdge (c : Chip) (ticks : Nat) : Chip :=
  let c1 := c.bscTicks ticks
  let n := c1.bsc.since
  let e := c1.bscError
  let accept := fun (c : Chip) => (c.wr BSC_PERIOD_P (min n 0xFFFF)).onBsc fun b => { b with since := 0 }
  match c1.lstate with
  | 1 => if c1.bsc.gotEdge then (accept c1).bscMeasureEdge n else (c1.onBsc fun b => { b with since := 0 }).bscMeasureEdge 0
  | 2 => if (e.natAbs : Int) ≤ c1.missWin then (accept c1).bscTrackEdge n e else c1.bump BSC_CNT3_MFB_STRAY 1
  | 3 => if (e.natAbs : Int) ≤ c1.missWin then (accept c1).bscTrackEdge n e else c1.bump BSC_CNT3_MFB_STRAY 1
  | _ => c1

/-- MFB_EDGE. The ball is ignored on VL-4826-M (R8) and while PD43 is not ON. -/
def execMfbEdge (ticks : Nat) (s : State) : Host.Outcome State Fault Refusal :=
  effect s fun c => if c.variantS && c.pdOn 43 then c.mfbEdge ticks else c

/-- MFB_EDGE_MISSING: the window after PH_REF ends without an accepted edge. -/
def Chip.mfbMissing (c : Chip) (ticks : Nat) : Chip :=
  let c1 := c.bscTicks ticks
  match c1.lstate with
  | 2 => (c1.bump BSC_CNT4_ACQ_RESTART 1).bscMeasure
  | 3 => c1.bscLoss
  | _ => c1

def execMfbEdgeMissing (ticks : Nat) (s : State) : Host.Outcome State Fault Refusal :=
  effect s fun c => if c.variantS && c.pdOn 43 then c.mfbMissing ticks else c

/-- BSC_FAULT_HOLD_END. -/
def execBscFaultHoldEnd (s : State) : Host.Outcome State Fault Refusal :=
  effect s fun c => if c.lstate = 4 then c.bscMeasure else c

/-! ### Sweeps and the vertical ramp (R625, R642-R645) -/

/-- FLYBACK_N as it behaves. -/
def Chip.flybackN (c : Chip) : Nat := max 1 (c.ef BSC_VFLY_FLYBACK_N)

/-- The sweep after the present one: a drawn line is done, a flyback sweep is done. -/
def Chip.sweepNext (c : Chip) : Chip :=
  let b := c.bsc
  match b.draw with
  | .idle => c
  | .lines =>
    if !b.drawn then c
    else if (c.timing 0).vact ≤ b.line + 1 then
      (c.onBsc fun b => { b with draw := .flyback, line := 0, held := none, first := false }).wr BSC_STAT_DRAWING 0
    else (c.onBsc fun b => { b with line := b.line + 1, first := false }).wr BSC_STAT_LINE (b.line + 1)
  | .flyback =>
    if c.flybackN ≤ b.line + 1 then c.onBsc fun b => { b with draw := .idle, line := 0 }
    else c.onBsc fun b => { b with line := b.line + 1 }

/-- BSC_SWEEP_START: the sweep whose first phase ACC has reached; every sweep is drawn with BIDIR = 1, forward ones only
without. -/
def Chip.sweepStart (c : Chip) (ticks : Nat) : Chip :=
  let c1 := (c.bscTicks ticks).sweepNext
  let first := (c.bscCentre + 2 ^ 48 - 2 ^ 46) % 2 ^ 48
  let back := !(reached 48 c1.bsc.acc first)
  let drawn := c1.bsc.draw == .lines && (!back || c.eflag BSC_CTL_BIDIR)
  (c1.wr BSC_STAT_DIR (b2n back)).onBsc fun b => { b with back := back, drawn := drawn, step := 0, zeroed := false }

/-- BSC_SWEEP_START. -/
def execBscSweepStart (ticks : Nat) (s : State) : Host.Outcome State Fault Refusal :=
  effect s fun c => if c.lstate = 0 then c.bscTicks ticks else c.sweepStart ticks

/-- BSC_DISPLAY_START (R643, R645): at the start of a forward sweep. Without a complete buffer there is nothing to
draw. -/
def Chip.bscDisplay (c : Chip) : Chip :=
  if c.bsc.draw ≠ .idle then c.bump BSC_CNT2_START_MISS 1
  else
    match c.bsc.latest with
    | none => c
    | some u =>
      (((c.wr BSC_STAT_DRAWING 1).wr BSC_STAT_LINE 0).wr BSC_STAT_BUF u).onBsc fun b =>
        { b with draw := .lines, line := 0, held := some u, drawn := true, first := true }

/-- BSC_DISPLAY_START. -/
def execBscDisplayStart (s : State) : Host.Outcome State Fault Refusal :=
  effect s fun c => if c.lstate = 3 ∧ c.bsc.back = false ∧ c.bsc.step = 0 then c.bscDisplay else c

/-- VPOS of a line, and whether it saturated (R644). -/
def Chip.vpos (c : Chip) (l : Nat) : Nat × Bool := satU 16 (((c.ef BSC_VRAMP_V_TOP + l * c.ef BSC_VRAMP_V_STEP : Nat)) : Int)

/-- VPOS of the sweep, and whether it saturated. A dark sweep between two drawn ones has no VPOS in the spec. -/
def Chip.sweepVpos (c : Chip) : Nat × Bool :=
  let top := c.ef BSC_VRAMP_V_TOP
  match c.bsc.draw with
  | .idle => (top, false)
  | .lines => if c.bsc.drawn then c.vpos c.bsc.line else (Config.freeNat c.free % 65536, false)
  | .flyback =>
    let n := c.flybackN
    let vend := (c.vpos ((c.timing 0).vact - 1)).1
    (((roundDiv 0 ((top : Int) * n + ((vend : Int) - top) * ((n : Int) - 1 - c.bsc.line)) n).toNat) % 65536, false)

/-- One bit into the CRC-8 of R111. -/
def crc8Bit (crc : Nat) (b : Bool) : Nat :=
  let x := Nat.xor crc (if b then 128 else 0)
  if 128 ≤ x then Nat.xor (x * 2 % 256) 7 else x * 2 % 256

/-- The CRC-8 of the low `n` bits of a number, most significant first. -/
def crc8Bits (n v : Nat) : Nat := ((List.range n).map fun i => v.testBit (n - 1 - i)).foldl crc8Bit 0xFF

/-- The 14 UI of a word, UI 0 first (Table 14.2). -/
def ldxWord (control : Bool) (payload : Nat) : Nat := 2 ^ 13 + 2 ^ 12 * b2n control + payload % 4096

/-- BSC_CONTROL_RECORD (R642, Table 14.3). -/
def Chip.controlRecord (c : Chip) : Chip :=
  let b := c.bsc
  let v := c.sweepVpos
  let hi := v.1 * 2 ^ 12 + c.ef BSC_VFLY_HAMP * 2 ^ 4 + 8 * b2n b.back + 4 * b2n (b.drawn && b.first) + 2 * b2n (!b.drawn)
    + b2n (b.draw == .flyback)
  let r := hi * 256 + crc8Bits 28 hi
  let c1 := (c.saturate 0x260000 2 (b2n v.2)).onBsc fun x =>
    { x with record := r, words := [ldxWord true (r / 2 ^ 24), ldxWord true (r / 2 ^ 12), ldxWord true r] }
  if b.draw == .lines && !b.drawn then c1.takeFree else c1

/-- BSC_CONTROL_RECORD: no LDX words in IDLE (Table 14.1). -/
def execBscControlRecord (s : State) : Host.Outcome State Fault Refusal :=
  effect s fun c => if c.lstate ≠ 0 ∧ c.pdOn 44 = true then c.controlRecord else c

/-! ### Boundaries and laser values (R626, R627, R635-R641, R649, R650) -/

/-- An entry of the arcsine table. -/
def Chip.asin (c : Chip) (i : Nat) : Nat := if i = 1024 then c.ef BSC_ASIN_END_E else c.rd (BSC_ASIN_E.at i)

/-- Δ_k of R626. -/
def Chip.boundaryDelta (c : Chip) (k : Nat) : Nat :=
  let h := (c.timing 0).hact
  let m := (2 * (k : Int) - h).natAbs * 1024
  let i := m / h
  let e0 := c.asin i
  let e1 := if i = 1024 then e0 else c.asin (i + 1)
  (roundDiv 0 (((e0 : Int) * h + ((e1 : Int) - e0) * (m % h : Nat)) * 2 ^ 24) h).toNat

/-- The phase of boundary `k` (R627). -/
def Chip.boundaryPhase (c : Chip) (back : Bool) (k : Nat) : Nat :=
  let h := (c.timing 0).hact
  let d : Int := if 2 * k < h then -(c.boundaryDelta k : Int) else c.boundaryDelta k
  let x : Int := if back then (c.bscCentre : Int) + 2 ^ 47 - d else c.bscCentre + d
  (x % 2 ^ 48).toNat

/-- The first UI of the tick that follows at which the interpolated phase has reached `phi` (R635). -/
def Chip.boundaryUi (c : Chip) (phi : Nat) : Option Nat :=
  (List.range 8).find? fun q => reached 51 (8 * c.bsc.acc + q * c.bsc.inc) (8 * phi)

/-- The laser value of a code (R637), and whether it saturated. -/
def Chip.laserValue (c : Chip) (ch v : Nat) : Nat × Bool :=
  let v12 := placeDepth c.outDepth 12 v
  if v12 = 0 then (0, false)
  else
    let s := (c.ef (BSC_LASER_OFS.at ch) : Int) + roundDiv 0 ((v12 * c.ef (BSC_LASER_GAIN.at ch) : Nat) : Int) 16384
    let l := satU 12 s
    (min (c.rd (BSC_MAXV_MAXV.at ch)) l.1, l.2)

/-- The address of a pixel of the ring (R647). -/
def Chip.bscAddr (c : Chip) (u y x : Nat) : Nat := c.ef (BSC_BUF_ADDR.at u) + y * c.ef BSC_STRIDE_S + 6 * x

/-- The codes of a pixel; none where a word is bad (R650). -/
def Chip.bscPixel (c : Chip) (u y x : Nat) : Option Px :=
  let a := c.bscAddr u y x
  if 0 < c.badWords a 6 then none
  else
    let w := c.numAt a 6
    some (w % 4096, w / 2 ^ 12 % 4096, w / 2 ^ 24 % 4096)

/-- Values reach the receiver. -/
def Chip.sendValues (c : Chip) (vs : List Nat) : Chip :=
  c.onBsc fun b => { b with lasers := vs, words := vs.map fun v => ldxWord false v }

/-- The words of boundary number `step` of the sweep, at its UI. -/
def Chip.sendBoundary (c : Chip) (u : Nat) (late : Bool) : Chip :=
  let b := c.bsc
  let h := (c.timing 0).hact
  if h ≤ b.step then c.sendValues [0, 0, 0]
  else if b.zeroed then c.sendValues [0, 0, 0]
  else if late then ((c.bump BSC_CNT0_UNDERRUN 1).onBsc fun b => { b with zeroed := true }).sendValues [0, 0, 0]
  else
    match c.bscPixel u b.line (if b.back then h - 1 - b.step else b.step) with
    | none => c.sendValues [0, 0, 0]
    | some p =>
      let ls := [c.laserValue 0 p.1, c.laserValue 1 p.2.1, c.laserValue 2 p.2.2]
      (c.saturate 0x260000 3 ((ls.map fun l => b2n l.2).foldl (· + ·) 0)).sendValues (ls.map fun l => l.1)

/-- The line of the sweep is read into the line store, its bad words counted, by its first boundary (R649, R650). -/
def Chip.readLine (c : Chip) (u : Nat) : Chip :=
  if c.bsc.step ≠ 0 then c
  else
    let a := c.bscAddr u c.bsc.line 0
    let n := 6 * (c.timing 0).hact
    (c.readNote 3 a n).bump BSC_CNT1_MEDIA (c.badWords a n)

/-- Where in the present tick the next boundary of the sweep falls, in UI; none when it does not. -/
def Chip.nextBoundary (c : Chip) : Option Nat :=
  let h := (c.timing 0).hact
  c.boundaryUi (c.boundaryPhase c.bsc.back (if c.bsc.back then h - c.bsc.step else c.bsc.step))

/-- BSC_PIXEL_BOUNDARY: `late`, the pixel's data is not in the line store (R649). -/
def Chip.pixelBoundary (c : Chip) (late : Bool) : Chip :=
  match c.bsc.held with
  | none => c
  | some u =>
    match c.nextBoundary with
    | none => c
    | some q =>
      let c0 := c.readLine u
      let c1 :=
        if c.bsc.sinceUi + (q : Int) < 16 then c0.bump BSC_CNT0_SQUEEZE 1
        else (c0.sendBoundary u late).onBsc fun x => { x with sinceUi := -(q : Int) }
      c1.onBsc fun x => { x with step := x.step + 1 }

/-- BSC_PIXEL_BOUNDARY. -/
def execBscPixelBoundary (ticks : Nat) (late : Bool) (s : State) : Host.Outcome State Fault Refusal :=
  effect s fun c =>
    let c1 := c.bscTicks ticks
    if c1.lstate = 3 ∧ c1.bsc.drawn = true ∧ c1.bsc.step ≤ (c1.timing 0).hact then c1.pixelBoundary late else c1

/-- LDX_CK carries its clock (Table 14.2): PD44 is ON and PLL_L runs. -/
def Chip.ldxClock (c : Chip) : Bool := c.pdOn 44 && (c.pll 3).on

/-! ### The frame ring (R647, R648) -/

/-- The ring's size. -/
def Chip.bscNbuf (c : Chip) : Nat := if 2 ≤ c.ef BSC_CTL_NBUF then 3 else 2

/-- A row of the ring. -/
def bscRow (line : List Px) : List Byte := line.flatMap fun p => toLe 6 (p.1 % 4096 + 2 ^ 12 * (p.2.1 % 4096) + 2 ^ 24 * (p.2.2 % 4096))

/-- BSC_FRAME_WRITTEN: the frame in progress goes to its buffer; `drops`: lines the port could not take. -/
def Chip.bscWrite (c : Chip) (drops : List Nat) : Chip :=
  let u := c.bsc.frameK % c.bscNbuf
  let c0 := c.onBsc fun b => { b with frameK := b.frameK + 1 }
  if c.bsc.held = some u then c0.bump BSC_CNT2_WR_SKIP 1
  else
    let lines := c.wholeFrame 0
    let lost := (List.range lines.length).filter fun y => drops.contains y
    let c1 := ((lines.zipIdx).filter fun (x : List Px × Nat) => !(drops.contains x.2)).foldl
      (fun (c : Chip) (x : List Px × Nat) => c.writeBytes 3 (c.bscAddr u x.2 0) (bscRow x.1)) c0
    ((c1.bump BSC_CNT1_WR_DROP lost.length).wr BSC_STAT_LATEST u).onBsc fun b => { b with latest := some u }

/-- BSC_FRAME_WRITTEN. -/
def execBscFrameWritten (drops : List Nat) (s : State) : Host.Outcome State Fault Refusal :=
  effect s fun c => if c.bscWanted = true ∧ c.bscGeom = true ∧ c.dest 0 = .beam then c.bscWrite drops else c

/-! ### The sequencers of the picture -/

/-- The bit-plane sequencer and the beam-scan engine follow the scan-outs: when one has stopped, or the lock has gone,
since `before`, they do at once what R591 and R624 say (a frame boundary and a mode edge look again at all of it). -/
def Chip.sequencers (c before : Chip) : Chip :=
  if c.soState 0 = before.soState 0 ∧ c.soState 1 = before.soState 1 ∧ c.soLocked = before.soLocked then c
  else c.bpsRefresh.bscRefresh

end Sys2Proof.Machine
end

