-- ==== Sys2Proof/Machine/Light.lean ====
section
/-! DEFINITION. Light drive (chapter 15): lamps and strings, the output pins by mode, setpoints and duties, the sense
ADC, the colour loop, the pin self-test, lamp and string faults. -/

namespace Sys2Proof.Machine

/-- Change the light drive. -/
def Chip.onLtd (c : Chip) (f : Light → Light) : Chip := { c with ltd := f c.ltd }

/-! ### Lamps and strings (R655) -/

/-- String and channel of a lamp. -/
def Chip.lampString (c : Chip) (i : Nat) : Nat := c.ef (SHM_LAMP_CFG_STRING.at i)
def Chip.lampChan (c : Chip) (i : Nat) : Nat := c.ef (SHM_LAMP_CFG_CHAN.at i)

/-- The lamp is in service (R655); CHAN 6 and 7 behave as EN = 0. -/
def Chip.inService (c : Chip) (i : Nat) : Bool :=
  c.eflag (SHM_LAMP_CFG_EN.at i) && decide (c.lampChan i < 6) && !c.ltd.lampOut.getD i false

/-- The in-service lamps of a string, and the channels it carries. -/
def Chip.stringLamps (c : Chip) (s : Nat) : List Nat :=
  (List.range 16).filter fun i => c.inService i && c.lampString i == s
def Chip.stringChans (c : Chip) (s : Nat) : List Nat := ((c.stringLamps s).map fun i => c.lampChan i).eraseDups

/-- The string is mixed (R655). -/
def Chip.mixedString (c : Chip) (s : Nat) : Bool := decide (1 < (c.stringChans s).length)

/-! ### Output pins (R653, R660, Table 15.2) -/

/-- PLL_L runs (R656). -/
def Chip.pllL (c : Chip) : Bool := (c.pll 3).on

/-- The dark state of the light drive (R34, R48, R653, R656, R681, R682). -/
def Chip.ltdDark (c : Chip) : Bool :=
  c.mode.mode == .load || c.mode.mode == .deepSleep || !c.lightEn || !c.eflag LTD_CTL_EN || !c.pdOn 45 || !c.pllL
    || c.ltd.testing || c.flag LTD_PIN_STAT_SHORT || c.blackout

/-- STR_ENs. -/
def Chip.strEn (c : Chip) (s : Nat) : Bool :=
  !c.ltdDark && c.eflag (LTD_STR_CFG_EN.at s) && !c.ltd.strOff.getD s false && !c.flag LTD_STAT_SHF &&
    match c.mode.mode with
    | .mirror => (c.stringChans s).any fun ch => c.bps.chans.getD ch false
    | .scan => c.lstate == 3 && (c.stringChans s).any fun ch => decide (ch < 3)
    | .panel => c.eflag LTD_CTL_BL_ON
    | .calibrate => c.flag LTD_CAL_FORCE_EN && c.bit LTD_CAL_STR s
    | _ => false

/-- SHi is low: the shunt of lamp `i` is open. -/
def Chip.shuntOpen (c : Chip) (i : Nat) : Bool :=
  !c.ltdDark && c.pdOn 46 && c.inService i &&
    match c.mode.mode with
    | .mirror => c.bps.curField.any fun f => f.mask.testBit (c.lampChan i)
    | .scan => decide (c.lampChan i < 3) && c.lstate == 3
    | .panel => c.ltd.windows.getD i false
    | .calibrate => c.flag LTD_CAL_FORCE_EN && c.bit LTD_CAL_LAMP i
    | _ => false

/-- The bit reversal of a 4-bit number. -/
def rev4 (j : Nat) : Nat := j % 2 * 8 + j / 2 % 2 * 4 + j / 4 % 2 * 2 + j / 8 % 2

/-- The SHM cycles of the 256 of PWM period `j` (0 to 15, cycling) in which STR_SETs is high (R658): ⌊s/16⌋ of the setpoint
issued, and one more while the bit reversal of j is below s mod 16. It is low in the dark state (R653), and a setpoint of a
string that is switched off is not driven (Table 15.7). -/
def Chip.strSetHigh (c : Chip) (s j : Nat) : Nat :=
  if c.ltdDark || c.ltd.strOff.getD s false || c.flag LTD_STAT_SHF then 0
  else
    let v := c.rd (LTD_STR_STAT_SET.at s)
    v / 16 + b2n (decide (rev4 j < v % 16))

/-- The level of STR_SETs in SHM cycle `t` of a PWM period. -/
def Chip.strSetPin (c : Chip) (s j t : Nat) : Bool := decide (t < c.strSetHigh s j)

/-- LTD_STAT.ERR: 1 PINSHORT, 2 MIXED, 3 NOPLL. -/
def Chip.ltdErr (c : Chip) : Nat :=
  if c.flag LTD_PIN_STAT_SHORT then 1 else if c.eflag LTD_CTL_EN && !c.pllL then 3 else if c.ltd.mixed then 2 else 0

/-- LTD_STAT.STATE: 0 OFF, 1 SELFTEST, 2 RUN, 3 DARK. -/
def Chip.ltdState (c : Chip) : Nat :=
  if !c.eflag LTD_CTL_EN then 0 else if c.ltd.testing then 1 else if c.ltdDark then 3 else 2

/-! ### Setpoints, duties and the loop's outputs (R659, R662, R666, R676) -/

/-- ROUND_MODE of LTD in effect. -/
def Chip.ltdRound (c : Chip) : Nat := c.ef LTD_ARITH_CTL_ROUND_MODE

/-- A setting times a U2.14 gain, under ROUND_MODE, saturated (Table 2.3, stage 0x05). -/
def Chip.gained (c : Chip) (bits v gain : Nat) : Nat × Bool := satU bits (roundDiv c.ltdRound ((v * gain : Nat) : Int) 16384)

/-- k_c in effect. -/
def Chip.kOf (c : Chip) (ch : Nat) : Nat := c.ltd.applied.getD ch 0x4000

/-- SET_s, and whether it saturated. -/
def Chip.setOf (c : Chip) (s : Nat) : Nat × Bool :=
  let base := c.ef (LTD_STR_CFG_BASE_SET.at s)
  match c.stringChans s with
  | [ch] => if c.ef LTD_CTL_ACT = 0 ∧ ch < 3 then c.gained 12 base (c.kOf ch) else (base, false)
  | _ => (base, false)

/-- D_c of R666. The spec gives no BASE_DUTY for channels 3 to 5: there D is a free value. -/
def Chip.dutyBase (c : Chip) (ch : Nat) : Nat × Bool :=
  if 3 ≤ ch then (Config.freeNat c.free % 4096, false)
  else
    let b := c.ef (LTD_CH_BASE_BASE_DUTY.at ch)
    if c.ef LTD_CTL_ACT = 2 ∧ c.mode.mode = .panel then c.gained 12 b (c.kOf ch) else (b, false)

/-- duty_i, and how many of its products saturated. -/
def Chip.dutyOf (c : Chip) (i : Nat) : Nat × Nat :=
  let d := c.dutyBase (c.lampChan i)
  let v := c.gained 12 d.1 (c.ef (LTD_LAMP_CAL_GAIN.at i))
  (v.1, b2n d.2 + b2n v.2)

/-- Issue SET_s as it stands; in MIRROR that of a single-channel string goes out field by field instead (R662). -/
def Chip.issueSet (c : Chip) (s : Nat) : Chip :=
  let v := c.setOf s
  (if c.mode.mode = .mirror ∧ c.mixedString s = false then c else c.wr (LTD_STR_STAT_SET.at s) v.1).saturate 0x280000 5 (b2n v.2)

/-- A lamp's duty takes effect. -/
def Chip.setDuty (c : Chip) (i : Nat) : Chip :=
  let v := c.dutyOf i
  let c1 := if 3 ≤ c.lampChan i then c.takeFree else c
  (c1.wr (SHM_DUTY_DUTY.at i) v.1).saturate 0x280000 5 v.2

/-- Write a field as a block does: as last written and in effect. -/
def Chip.wrBoth (c : Chip) (f : Field) (v : Nat) : Chip :=
  (c.wr f v).setEff f.addr (f.put (c.getEff f.addr) v)

/-- ACT does not fit the mode and the target block (R677). -/
def Chip.actIdle (c : Chip) : Bool :=
  match c.ef LTD_CTL_ACT with
  | 0 => false
  | 1 => !(c.mode.mode == .mirror && c.eflag BPS_CTL_SHARE_SRC)
  | 2 => !(c.mode.mode == .panel)
  | _ => !(c.mode.mode == .scan && c.eflag BSC_CTL_GAIN_SRC)

/-- The shares and gains the loop writes (R676). -/
def Chip.loopOutputs (c : Chip) : Chip :=
  if c.actIdle then c
  else
    match c.ef LTD_CTL_ACT with
    | 1 =>
      (List.range 8).foldl
        (fun (c : Chip) f =>
          let v := c.gained 16 (c.ef (LTD_FLD_SHARE_BASE_SHARE.at f)) (c.kOf (c.fieldComp f))
          (c.wrBoth (BPS_FIELD_SHARE_SHARE.at f) v.1).saturate 0x280000 5 (b2n v.2)) c
    | 3 =>
      (List.range 3).foldl
        (fun (c : Chip) ch =>
          let v := c.gained 16 (c.ef (LTD_CH_BASE_BASE_LGAIN.at ch)) (c.kOf ch)
          (c.wrBoth (BSC_LASER_GAIN.at ch) v.1).saturate 0x280000 5 (b2n v.2)) c
    | _ => c

/-! ### The pin self-test (R681, R682) -/

/-- PIN_SELFTEST_START: the light is dark while it runs. -/
def Chip.selfTest (c : Chip) : Chip := (c.onLtd fun l => { l with testing := true }).onLk fun k => { k with testDark := true }

/-- A light fault: the event, the Lockkeeper's input and a LIGHT record (Table 17.6). -/
def Chip.lightFault (c : Chip) (unit data : Nat) : Chip := ((c.evt evLight).srcOn 8 0).logRecord 5 0 unit data

/-- PIN_SELFTEST_DONE: `short`, the first pair found. -/
def Chip.selfTestDone (c : Chip) (short : Option (Nat × Nat)) : Chip :=
  let c1 := (c.onLtd fun l => { l with testing := false }).onLk fun k => { k with testDark := false }
  match short with
  | none => c1.wr LTD_PIN_STAT_SHORT 0
  | some p =>
    ((((c1.wr LTD_PIN_STAT_PIN_A p.1).wr LTD_PIN_STAT_PIN_B p.2).wr LTD_PIN_STAT_SHORT 1).lightFault 0x200
      (p.1 % 32 + 256 * (p.2 % 32)))

/-- PIN_SELFTEST_DONE. -/
def execPinSelftestDone (short : Option (Nat × Nat)) (s : State) : Host.Outcome State Fault Refusal :=
  effect s fun c => if c.ltd.testing then c.selfTestDone short else c

/-- A lit mode or CALIBRATE is entered with EN = 1 (R681). -/
def Chip.selfTestOnEntry (c : Chip) : Chip :=
  if (c.mode.mode.lit || c.mode.mode == .calibrate) && c.eflag LTD_CTL_EN then c.selfTest else c

/-! ### The colour loop (R669-R679) -/

/-- The lamp temperature T, S8.8, and whether it saturated; free when no TEMP sample came in the period. -/
def Chip.lampTemp (c : Chip) : Int × Bool × Bool :=
  let c0 := toSigned 16 (c.ef LTD_TEMP_CAL_C0)
  if !c.eflag LTD_CTL_TEMP_SRC then
    let t := satS 16 (toSigned 16 (c.rd LKK_TEMP_T) + c0)
    (t.1, t.2, false)
  else
    let i := c.ef LTD_CTL_TEMP_IN
    let n := c.ltd.adcN.getD i 0
    if n = 0 then (toSigned 16 (Config.freeNat c.free), false, true)
    else
      let t := satS 16 (roundDiv 0 (c0 * (4096 * n) + (c.ltd.adcSum.getD i 0 : Int) * toSigned 16 (c.ef LTD_TEMP_CAL_C1)) (4096 * n))
      (t.1, t.2, false)

/-- u′ and v′ of a lamp at T, each rounded once, and how many saturated (R669, R62). -/
def Chip.lampUv (c : Chip) (T : Int) (i : Nat) : (Nat × Nat) × Nat :=
  let one := fun (base d : Nat) => satU 16 (roundDiv 0 (256 * (base : Int) + toSigned 8 d * (T - 6400)) 256)
  let u := one (c.ef (LTD_LAMP_UV_U0.at i)) (c.ef (LTD_LAMP_CAL_DU.at i))
  let v := one (c.ef (LTD_LAMP_UV_V0.at i)) (c.ef (LTD_LAMP_CAL_DV.at i))
  ((u.1, v.1), b2n u.2 + b2n v.2)

/-- The chromaticity of a channel; none without a lamp. -/
def Chip.chanUv (c : Chip) (T : Int) (ch : Nat) : Option (Nat × Nat) × Nat :=
  let ls := (List.range 16).filter fun i => c.inService i && c.lampChan i == ch
  let uv := ls.map fun i => c.lampUv T i
  (if ls.isEmpty then none else some (meanRne (uv.map fun x => x.1.1), meanRne (uv.map fun x => x.1.2)),
    (uv.map fun x => x.2).foldl (· + ·) 0)

/-- p and q of R670, U8.24, and how many saturated; none when v′ is 0. -/
def uvTerms (uv : Nat × Nat) : Option ((Int × Int) × Nat) :=
  if uv.2 = 0 then none
  else
    let p := satU 32 (roundDiv 0 ((uv.1 * 2 ^ 24 : Nat) : Int) uv.2)
    let q := satU 32 (roundDiv 0 ((2 ^ 40 : Nat) : Int) uv.2)
    some (((p.1 : Int), (q.1 : Int)), b2n p.2 + b2n q.2)

/-- The determinant of a 3 × 3 matrix given by its columns. -/
def det3 (a b d : Int × Int × Int) : Int :=
  a.1 * (b.2.1 * d.2.2 - d.2.1 * b.2.2) - b.1 * (a.2.1 * d.2.2 - d.2.1 * a.2.2) + d.1 * (a.2.1 * b.2.2 - b.2.1 * a.2.2)

/-- A share: a quotient of determinants as U0.16 (R670). -/
def shareOf (num den : Int) : Nat × Bool :=
  satU 16 (if den < 0 then roundDiv 0 (-num * 65536) den.natAbs else roundDiv 0 (num * 65536) den.natAbs)

/-- The target shares: none when the equations are singular (R670, R671); and how many saturated. -/
def shareSolve (r g b w : Int × Int) : Option (List Nat × Nat) :=
  let col := fun (t : Int × Int) => ((1 : Int), t.1, t.2)
  let d := det3 (col r) (col g) (col b)
  if d = 0 then none
  else
    let x := shareOf (det3 (col w) (col g) (col b)) d
    let y := shareOf (det3 (col r) (col w) (col b)) d
    let z := shareOf (det3 (col r) (col g) (col w)) d
    some ([x.1, y.1, z.1], b2n x.2 + b2n y.2 + b2n z.2)

/-- One channel's step (R673-R675), and how many values saturated under stage 3 and under stage 4. DESIGN CHOICE (log entry
103): MEAS_c and u saturate under stage 3. -/
def Chip.loopChannel (c : Chip) (ch : Nat) : Chip × Nat × Nat :=
  let n := c.ltd.counts.getD ch 0
  let f := c.ltd.shares.getD ch 0
  let a := c.ltd.sums.getD ch 0 * c.ef (LTD_PDGAIN_PD_GAIN.at ch)
  let meas := satU 16 (roundDiv 0 (a : Int) (n * 262144))
  let c1 := if n = 0 then c else c.wr (LTD_LOOP_TM_MEAS.at ch) meas.1
  let m := b2n (meas.2 && n != 0)
  if !(c.ef LTD_CTL_LOOP_EN).testBit ch then
    ((c1.onLtd fun l => { l with factors := l.factors.set ch 0x4000 }).wr (LTD_LOOP_K_K.at ch) 0x4000, m, 0)
  else if n < c.ef LTD_LOOP_MIN_N_MIN_N ∨ f = 0 then (c1.bump LTD_CNT0_NO_SAMPLES 1, m, 0)
  else
    let e := if n = 0 then (toSigned 16 (Config.freeNat c.free), false)
      else satS 16 (roundDiv 0 (((f * n * 1024 : Nat) : Int) * 32768 - (a : Int) * 32768) (f * n * 1024))
    let r := piStep e.1 (c.ef LTD_LOOP_GAIN_KP) (c.ef LTD_LOOP_GAIN_KI) (c.ef LTD_LOOP_ILIM_ILIM) (c.ltd.integ.getD ch 0)
    let k := satU 16 (roundDiv 0 ((2 : Int) ^ 24 + r.2.1) 1024)
    let c2 := if n = 0 then c1.takeFree else c1
    ((((c2.onLtd fun l => { l with integ := l.integ.set ch r.1, factors := l.factors.set ch k.1 }).wr (LTD_LOOP_E_E.at ch)
      (ofSigned 16 e.1)).wr (LTD_LOOP_I_I.at ch) (ofSigned 32 r.1)).wr (LTD_LOOP_K_K.at ch) k.1,
      m + b2n e.2 + b2n r.2.2.1 + b2n r.2.2.2, b2n k.2)

/-- The three channels' steps; their saturations are of one event, the lowest stage first (R93). -/
def Chip.loopChannels (c : Chip) : Chip :=
  let r := (List.range 3).foldl
    (fun (r : Chip × Nat × Nat) ch => let x := r.1.loopChannel ch; (x.1, r.2.1 + x.2.1, r.2.2 + x.2.2)) (c, 0, 0)
  (r.1.saturate 0x280000 3 r.2.1).saturate 0x280000 4 r.2.2

/-- COLOUR_LOOP_STEP at the end of a measurement period. DESIGN CHOICE (log entry 103): T saturates under stage 1, and p
and q under stage 2. -/
def Chip.loopStep (c : Chip) : Chip :=
  let t := c.lampTemp
  let uvs := (List.range 3).map fun ch => c.chanUv t.1 ch
  let c0 := if t.2.2 then c.takeFree else c
  let c1 := ((c0.wr LTD_TEMP_T (ofSigned 16 t.1)).saturate 0x280000 1
    (b2n t.2.1 + (uvs.map fun x => x.2).foldl (· + ·) 0))
  let c2 := (List.range 3).foldl
    (fun (c : Chip) ch =>
      match (uvs.getD ch (none, 0)).1 with
      | none => c
      | some uv => (c.wr (LTD_LOOP_UV_U.at ch) uv.1).wr (LTD_LOOP_UV_V.at ch) uv.2) c1
  let term := fun (ch : Nat) => ((uvs.getD ch (none, 0)).1).bind uvTerms
  let white := uvTerms (c.ef LTD_WHITE_U, c.ef LTD_WHITE_V)
  let termSats := ([term 0, term 1, term 2, white].map fun x => (x.map fun y => y.2).getD 0).foldl (· + ·) 0
  let solved := do
    let r ← term 0
    let g ← term 1
    let b ← term 2
    let w ← white
    shareSolve r.1 g.1 b.1 w.1
  match solved with
  | none => (c2.wr LTD_STAT_SINGULAR 1).saturate 0x280000 2 termSats
  | some x =>
    let c3 := ((c2.wr LTD_STAT_SINGULAR 0).saturate 0x280000 2 (termSats + x.2)).onLtd fun l => { l with shares := x.1 }
    let c4 := (List.range 3).foldl (fun (c : Chip) ch => c.wr (LTD_LOOP_TM_F.at ch) (x.1.getD ch 0)) c3
    c4.loopChannels.bump LTD_CNT0_STEPS 1

/-- A measurement period ends: the means, the step (not with a mixed string, R678), the sums start over. -/
def Chip.periodEnd (c : Chip) : Chip :=
  let c1 := (List.range 8).foldl
    (fun (c : Chip) i =>
      let n := c.ltd.adcN.getD i 0
      if n = 0 then c else c.wr (LTD_SNS_LAST_MEAN.at i) (roundDiv 0 (c.ltd.adcSum.getD i 0 : Int) n).toNat) c
  let c2 := if c.ltd.mixed then c1 else c1.loopStep
  c2.onLtd fun l =>
    { l with sums := [0, 0, 0], counts := [0, 0, 0], adcSum := List.replicate 8 0, adcN := List.replicate 8 0, commits := 0 }

/-! ### The LTD commit (R657) -/

/-- LTD_FAULT_CLR takes effect (R687). -/
def Chip.restoreFaults (c : Chip) : Chip :=
  if !c.ltd.restore then c
  else
    let c1 := (List.range 4).foldl
      (fun (c : Chip) s => (c.wr (LTD_STR_STAT_OFF.at s) 0).wr (LTD_STR_STAT_KIND.at s) 0) c
    ((c1.wr SHM_LAMP_STAT_OPEN 0).wr SHM_LAMP_STAT_SHORTED 0).onLtd fun l =>
      { l with lampOut := List.replicate 16 false, strOff := List.replicate 4 false, runs := List.replicate 4 (0, 0, 0)
               restore := false }

/-- The values of the commit go out: setpoints, duties, and the shares or gains of the loop (R657, R676). -/
def Chip.issueOutputs (c : Chip) : Chip :=
  let c1 := (List.range 4).foldl (fun (c : Chip) s => c.issueSet s) c
  ((List.range 16).foldl (fun (c : Chip) i => c.setDuty i) c1).loopOutputs

/-- A measurement period ends at every MEAS_FRAMES-th commit. -/
def Chip.countCommit (c : Chip) : Chip :=
  let n := c.ltd.commits + 1
  if max 1 (c.ef LTD_CTL_MEAS_FRAMES) ≤ n then c.periodEnd else c.onLtd fun l => { l with commits := n }

/-- The LTD commit. The outputs of the last step are applied; a step that this commit ends is applied at the next. Its
saturations come before those of the outputs, of higher stages (R93). -/
def Chip.ltdCommit (c : Chip) : Chip :=
  let was := c.eflag LTD_CTL_EN
  let c1 := (((c.commitRange 0x280000 0x2A0000).onLtd fun l => { l with applied := l.factors })).restoreFaults
  let mixed := c1.ef LTD_CTL_ACT == 0 && (List.range 4).any fun s => c1.mixedString s
  let c2 := (c1.onLtd fun l => { l with mixed := mixed }).wr LTD_STAT_ACT_IDLE (b2n c1.actIdle)
  let c4 := c2.countCommit.issueOutputs
  if c4.eflag LTD_CTL_EN && !was then c4.selfTest
  else if !c4.eflag LTD_CTL_EN && c4.ltd.testing then
    (c4.onLtd fun l => { l with testing := false }).onLk fun k => { k with testDark := false }
  else c4

/-- LOOP_RESET (R679). -/
def Chip.loopReset (c : Chip) : Chip :=
  (List.range 3).foldl (fun (c : Chip) ch => c.wr (LTD_LOOP_I_I.at ch) 0) (c.onLtd fun l => { l with integ := [0, 0, 0] })

/-- LOOP_RESET. -/
def execLoopReset (s : State) : Host.Outcome State Fault Refusal :=
  effect s fun c => c.guardReg 0x280000 Chip.loopReset

/-! ### Faults (R683-R687) -/

/-- String `s` is switched off by a fault. -/
def Chip.stringOff (c : Chip) (s : Nat) : Chip :=
  (c.wr (LTD_STR_STAT_OFF.at s) 1).onLtd fun l => { l with strOff := l.strOff.set s true }

/-- Every string that carries an in-service lamp of one of the channels switches off (Table 15.4). -/
def Chip.stringsOff (c : Chip) (chans : List Nat) : Chip :=
  ((List.range 4).filter fun s => (c.stringChans s).any fun ch => chans.contains ch).foldl (fun (c : Chip) s => c.stringOff s) c

/-- A confirmed fault (R685): verdict 1 open, 2 short; attribution a lamp, or 16 for string `s`. -/
def Chip.confirmFault (c : Chip) (s verdict who : Nat) : Chip :=
  let off := c.ef (LTD_STR_CFG_POLICY.at s) = 1
  let c1 :=
    if who < 16 then
      let c0 := c.setBit (if verdict = 1 then SHM_LAMP_STAT_OPEN else SHM_LAMP_STAT_SHORTED) who true
      if off then c0.stringsOff [c.lampChan who] else c0.onLtd fun l => { l with lampOut := l.lampOut.set who true }
    else
      let c0 := c.wr (LTD_STR_STAT_KIND.at s) verdict
      if off then c0.stringsOff (c.stringChans s) else c0.stringOff s
  let unit := if who < 16 then who else 0x100 + s
  let pol := c.ef (LTD_STR_CFG_POLICY.at s)
  (c1.lightFault unit (verdict - 1 + 2 * pol)).blockRecord 0x40 unit [verdict - 1, pol]

/-- An STRV sample of string `s` (R683). -/
def Chip.judgeString (c : Chip) (s code : Nat) : Chip :=
  if !c.strEn s then c
  else
    let lamps := (c.stringLamps s).filter fun i => c.shuntOpen i
    let want := c.ef (LTD_STR_VCHK_V0.at s) + (lamps.map fun i => c.ef (SHM_LAMP_CFG_VF.at i)).foldl (· + ·) 0
    let d : Int := (code : Int) - want
    let m := lamps.length
    let verdict := if (c.ef (LTD_STR_VCHK_OPEN_MARG.at s) : Int) < d then 1
      else if d < -(c.ef (LTD_STR_VCHK_SHORT_MARG.at s) : Int) ∧ 0 < m then 2 else 0
    let who := if m = 1 then lamps.headD 16 else 16
    let old := c.ltd.runs.getD s (0, 0, 0)
    let n := if verdict = 0 then 0 else if old.1 = verdict ∧ old.2.1 = who then old.2.2 + 1 else 1
    if verdict ≠ 0 ∧ max 1 (c.ef LTD_FAULT_CFG_FAULT_N) ≤ n then
      (c.onLtd fun l => { l with runs := l.runs.set s (0, 0, 0) }).confirmFault s verdict who
    else c.onLtd fun l => { l with runs := l.runs.set s (verdict, who, n) }

/-- The level of ball U12 while it is SHF_N (Table 19.8). -/
def Chip.ballU12 (c : Chip) (high : Bool) : Chip :=
  if c.flag PWR_PINMUX_SHF_SEL then { c with pins := { c.pins with u12 := high } } else c

/-- SHF_FAULT (R684); it cannot occur while ball U12 is not SHF_N (R773). -/
def execShfFault (s : State) : Host.Outcome State Fault Refusal :=
  effect s fun c =>
    if c.pdOn 45 && c.flag PWR_PINMUX_SHF_SEL then ((c.ballU12 false).wr LTD_STAT_SHF 1).lightFault 0x201 0 else c

/-- LTD_FAULT_CLEAR (R684, R687): `shfHigh`, the level of SHF_N, which reads high while U12 has another function
(R773). -/
def Chip.faultClear (c : Chip) (shfHigh : Bool) : Chip :=
  let c1 := c.onLtd fun l => { l with restore := true }
  if shfHigh || !c.flag PWR_PINMUX_SHF_SEL then c1.wr LTD_STAT_SHF 0 else c1

/-- LTD_FAULT_CLEAR. -/
def execLtdFaultClear (shfHigh : Bool) (s : State) : Host.Outcome State Fault Refusal :=
  effect s fun c => c.guardReg 0x280008 fun c => (c.ballU12 shfHigh).faultClear shfHigh

/-! ### The sense ADC (R667, R672, Table 15.3) -/

/-- Channel `ch` is on at capture: its command in a mode with channel commands, else a string that carries it conducts. -/
def Chip.chanOn (c : Chip) (ch : Nat) : Bool :=
  if c.bpsRuns then c.bps.chans.getD ch false
  else (List.range 4).any fun s => c.strEn s && (c.stringChans s).contains ch

/-- A photodiode sample (R672). -/
def Chip.pdSample (c : Chip) (i code : Nat) : Chip :=
  let mask := c.ef (LTD_SNS_CFG_CHMASK.at i)
  let chs := (List.range 3).filter fun ch => mask.testBit ch
  let on := chs.filter fun ch => c.chanOn ch
  let alone := fun (ch : Nat) => !c.eflag (LTD_SNS_CFG_EXCL.at i) || !(on.any fun k => k != ch)
  let rejected := on.any fun ch => !alone ch
  let c1 := chs.foldl
    (fun (c : Chip) ch =>
      c.onLtd fun l =>
        { l with counts := l.counts.set ch (l.counts.getD ch 0 + 1)
                 sums := if on.contains ch && alone ch then l.sums.set ch (l.sums.getD ch 0 + code) else l.sums }) c
  if rejected then c1.bump LTD_CNT1_OVERLAP 1 else c1

/-- A sample of input `i`. -/
def Chip.snsSample (c : Chip) (i code : Nat) : Chip :=
  let c1 := (c.wr (LTD_SNS_LAST_LAST.at i) code).onLtd fun l =>
    { l with adcSum := l.adcSum.set i (l.adcSum.getD i 0 + code), adcN := l.adcN.set i (l.adcN.getD i 0 + 1) }
  match c.ef (LTD_SNS_CFG_ROLE.at i) with
  | 1 => if c.lightEn then c1.pdSample i code else c1
  | 2 =>
    let s := c.ef (LTD_SNS_CFG_STRING.at i)
    (c1.wr (LTD_STR_STAT_LAST.at s) code).judgeString s code
  | 4 =>
    if code < c.ef (LTD_SNS_WIN_LO.at i) ∨ c.ef (LTD_SNS_WIN_HI.at i) < code then
      (c1.bump LTD_CNT1_NODE_FAULT 1).evt evLight
    else c1
  | _ => c1

/-- The schedule entry of a slot: input, and EN. -/
def Chip.adcSlot (c : Chip) (slot : Nat) : Nat × Bool :=
  let n := (c.getEff (LTD_ADC_SCHED_S.at (slot / 8)).addr).toNat / 16 ^ (slot % 8) % 16
  (n % 8, decide (8 ≤ n))

/-- ADC_SAMPLE: slot 0 begins a 16 µs cycle, at which a new schedule applies. -/
def execAdcSample (slot code : Nat) (s : State) : Host.Outcome State Fault Refusal :=
  effect s fun c =>
    if !c.pdOn 47 || !c.pdOn 45 || decide (16 ≤ slot) then c
    else
      let c1 := if slot = 0 then c.commitRange LTD_ADC_SCHED_S.addr (LTD_ADC_SCHED_S.addr + 8) else c
      let e := c1.adcSlot slot
      if e.2 then c1.snsSample e.1 (code % 4096) else c1

/-! ### Shunt PWM (R665) -/

/-- A lamp's window: the cycle it opens at, and its length; `PWM_PER` cycles for a duty of 4,095. -/
def Chip.pwmWindow (c : Chip) (i : Nat) : Nat × Nat :=
  let per := max 256 (c.ef SHM_CTL_PWM_PER)
  let duty := c.rd (SHM_DUTY_DUTY.at i)
  ((roundDiv 0 ((c.ef (SHM_LAMP_CFG_PHASE.at i) * per : Nat) : Int) 256).toNat % per,
    if duty = 4095 then per else (roundDiv 0 ((duty * per : Nat) : Int) 4096).toNat)

/-- SHUNT_PWM_EDGE: the window of a lamp opens or closes; an empty window does not open, a full one does not close. -/
def execShuntPwmEdge (lamp : Nat) (opening : Bool) (s : State) : Host.Outcome State Fault Refusal :=
  effect s fun c =>
    let w := (c.pwmWindow lamp).2
    if c.mode.mode = .panel ∧ lamp < 16 ∧ (if opening then 0 < w else w < max 256 (c.ef SHM_CTL_PWM_PER)) then
      c.onLtd fun l => { l with windows := l.windows.set lamp opening }
    else c

/-! ### Light command edges (R608, R662, R663) -/

/-- The setpoint of a single-channel string for a field, and whether it saturated (R662). -/
def Chip.fieldSet (c : Chip) (s g : Nat) : Nat × Bool := satU 12 (roundDiv 0 (((c.setOf s).1 * g : Nat) : Int) 32768)

/-- STR_SET_ISSUE: a string's setpoint for a field goes out. -/
def Chip.strSetIssue (c : Chip) (s : Nat) (f : FieldAlloc) : Chip :=
  let v := c.fieldSet s f.g
  (c.wr (LTD_STR_STAT_SET.at s) v.1).saturate 0x280000 6 (b2n v.2)

/-- The next field, after the planes up to index `i`, whose planes light one of the channels. -/
def BitPlane.nextField (b : BitPlane) (chans : List Nat) (i : Nat) : Option FieldAlloc :=
  let find := fun (d : Display) (from' : Nat) =>
    ((d.planes.drop from').find? fun p => decide (0 < p.on) &&
      (d.fields.any fun f => f.sub == p.sub && f.field == p.field && chans.any fun ch => f.mask.testBit ch)).bind fun p =>
        d.fields.find? fun f => f.sub == p.sub && f.field == p.field
  match find b.shown i with
  | some f => some f
  | none => if b.ready then find b.alloc 0 else none

/-- The strings that carry a channel. -/
def Chip.stringsOf (c : Chip) (ch : Nat) : List Nat := (List.range 4).filter fun s => (c.stringChans s).contains ch

/-- An edge reaches the single-channel strings of its channel: an on edge finds the field's setpoint issued, an off edge
issues that of the next field. -/
def Chip.edgeSets (c : Chip) (ch : Nat) (on : Bool) : Chip :=
  ((c.stringsOf ch).filter fun s => !c.mixedString s).foldl
    (fun (c : Chip) s =>
      if on then
        match c.bps.curField with
        | none => c
        | some f => if c.rd (LTD_STR_STAT_SET.at s) = (c.fieldSet s f.g).1 then c else c.strSetIssue s f
      else
        match c.bps.nextField (c.stringChans s) c.bps.next with
        | none => c
        | some f => if c.bps.curField = some f then c else c.strSetIssue s f) c

/-- The off edge of a mixed string is limited to the plane's end (R663). -/
def Chip.limitedOff (c : Chip) (ch : Nat) : Bool :=
  match c.bps.cur.bind (fun i => c.bps.shown.planes[i]?), c.bps.curField with
  | some p, some f =>
    decide ((p.dur : Int) < c.ef BPS_TIM0_BLANK + roundDiv 0 ((p.on * f.g : Nat) : Int) 32768
      + toSigned 8 (c.ef (BPS_CHDLY_DLY_OFF.at ch)))
  | _, _ => false

/-- LIGHT_COMMAND_EDGE: an on edge of a channel that the running plane lights, or an off edge. -/
def Chip.lightEdge (c : Chip) (ch : Nat) (on : Bool) : Chip :=
  let c1 := c.onBps fun b => { b with chans := b.chans.set ch on }
  if c.mode.mode ≠ .mirror ∨ c.pdOn 45 = false then c1
  else
    let c2 := c1.edgeSets ch on
    if !on && c.limitedOff ch && (c.stringsOf ch).any fun s => c.mixedString s then c2.saturate 0x280000 6 1 else c2

/-- LIGHT_COMMAND_EDGE. -/
def execLightCommandEdge (ch : Nat) (on : Bool) (s : State) : Host.Outcome State Fault Refusal :=
  effect s fun c =>
    if c.bpsRuns = true ∧ ch < 6 ∧ (on = false ∨ c.lights ch = true) then c.lightEdge ch on else c

/-! ### Lamp hours -/

/-- The lamp burns: its string's STR_EN is high, its shunt is open, and LIGHT_EN_N is high (R747). -/
def Chip.lampLit (c : Chip) (i : Nat) : Bool := c.strEn (c.lampString i) && c.shuntOpen i && c.lightEn

/-- LAMP_SECOND (R747): the cycle that completes a second is one in which the lamp burns. -/
def execLampSecond (lamp : Nat) (s : State) : Host.Outcome State Fault Refusal :=
  effect s fun c =>
    if lamp < 16 ∧ c.lampLit lamp = true then
      (c.hourTick (0x2C0140 + 4 * lamp)).onLk fun k => { k with lampRem := k.lampRem.set lamp 0 }
    else c

end Sys2Proof.Machine
end

