-- ==== Sys2Proof/Machine/Towpath.lean ====
section
/-! DEFINITION. The Towpath (chapter 16): cells and frames, triggers, the return check, ring states and locates, the
pattern engines and TMR0, and the dimming matrix. -/

namespace Sys2Proof.Machine

/-- Change the Towpath. -/
def Chip.onTwp (c : Chip) (f : Towpath → Towpath) : Chip := { c with twp := f c.twp }

/-! ### Cells and frames (R690-R697) -/

/-- The low `n` bits of a number, most significant first. -/
def bitsOf (n v : Nat) : List Bool := (List.range n).map fun i => v.testBit (n - 1 - i)

/-- The number that bits spell, most significant first. -/
def ofBits (bs : List Bool) : Nat := bs.foldl (fun n b => 2 * n + b2n b) 0

/-- CELL as it behaves. -/
def Chip.twpCell (c : Chip) : Nat := min 48 (max 13 (c.ef TWP_CELL_CELL))

/-- The TWP cycles for which a cell is high: H0 or H1 (R690). -/
def cellHigh (cell : Nat) (one : Bool) : Nat := (roundDiv 0 ((if one then 3 * cell else cell : Nat) : Int) 5).toNat

/-- The line during a cell: high first, low for the rest. -/
def cellLine (cell : Nat) (one : Bool) : List Bool :=
  List.replicate (cellHigh cell one) true ++ List.replicate (cell - cellHigh cell one) false

/-- The cells of a received run, and how many were in error (R692). -/
def decodeRun (cell : Nat) (highs : List Nat) : List Bool × Nat :=
  (highs.map fun h => decide (2 * cell ≤ 5 * h),
    highs.countP fun h => decide (2 * cell ≤ 5 * h) && decide (4 * cell < 5 * h))

/-- The bits of a depth code; 3 behaves as 2. -/
def depthBits (code : Nat) : Nat := 8 + 4 * min 2 code

/-- A header (Table 16.3). -/
def chainHeader (seq depth cmd : Nat) : Nat :=
  let v := seq % 256 * 256 + min 2 depth * 64 + cmd * 16
  v + Nat.xor (Nat.xor (v / 4096 % 16) (v / 256 % 16)) (v / 16 % 16)

/-- NODES. -/
def Chip.twpNodes (c : Chip) : Nat := c.ef TWP_CTL_NODES + 1

/-- The three channels of a node. -/
def Chip.nodeVals (c : Chip) (n : Nat) : List Nat :=
  [c.rd (TWP_NODE_A_C0.at n), c.rd (TWP_NODE_A_C1.at n), c.rd (TWP_NODE_B_C2.at n)]

/-- The cells of shares: the top `d` bits of each value. -/
def shareCells (d : Nat) (vals : List Nat) : List Bool := vals.flatMap fun v => bitsOf d (v / 2 ^ (16 - d))

/-- KILL_DARK holds the Towpath dark (R707). -/
def Chip.twpDark (c : Chip) : Bool := c.flag TWP_CTL_KILL_DARK && !c.lightEn

/-- The trailer. -/
def chainTrailer : List Bool := bitsOf 16 0xA53C

/-- TWP_STAT.RING as the ring is (Table 16.4). -/
def Chip.ring (c : Chip) : Nat := c.rd TWP_STAT_RING

/-- SEQ of the frame that starts now (R696). -/
def Chip.nextSeq (c : Chip) : Nat := (c.rd TWP_STAT_SEQ + 1) % 256

/-- A frame of a SEQ with the nodes in the given order; a BLANK frame carries no shares (log entry 65). -/
def Chip.chainCells (c : Chip) (seq : Nat) (dark : Bool) (order : List Nat) : List Bool :=
  let d := depthBits (c.ef TWP_CTL_DEPTH)
  let framed := c.eflag TWP_CTL_FRAMED
  let head := if framed then bitsOf 16 (chainHeader seq (c.ef TWP_CTL_DEPTH) (if dark then 2 else 0)) else []
  let body := if dark && framed then []
    else order.flatMap fun n => shareCells d (if dark then [0, 0, 0] else c.nodeVals n)
  head ++ body ++ chainTrailer

/-- The run a checked frame returns as (R700). -/
def Chip.expectedRun (c : Chip) (seq : Nat) (dark : Bool) : List Bool :=
  if c.eflag TWP_CTL_FRAMED then bitsOf 16 (chainHeader seq (c.ef TWP_CTL_DEPTH) (if dark then 2 else 0)) ++ chainTrailer
  else chainTrailer

/-- No return check, no dual feed (R701): RET_GPIO, or ball U12 is SHF_N (R772). -/
def Chip.retGpio (c : Chip) : Bool := c.flag TWP_CTL_RET_GPIO || c.flag PWR_PINMUX_SHF_SEL

/-- TWP_FRAME_START: the registers of the bus take effect, node RAM is copied, and the frame goes out (R696, R697,
R705, R707). In DUAL with DUAL_EN cleared the frame goes out on TWP_A alone and is checked (log entry 105). -/
def Chip.chainStart (c : Chip) : Chip :=
  let c1 := c.commitRange 0x2A0000 0x2A0044
  let dark := c1.twpDark
  let seq := c1.nextSeq
  let order := List.range c1.twpNodes
  let dual := c1.ring == 4 && c1.eflag TWP_CTL_DUAL_EN && !c1.retGpio
  let heal := dual && decide (max 1 (c1.ef TWP_RING_CFG_HEAL_INT) ≤ c1.twp.heal + 1)
  let both := dual && !heal
  ((c1.wr TWP_STAT_SEQ seq).wr TWP_STAT_BUSY 1).onTwp fun t =>
    { t with due := false, kind := if dark then .blank else .data
             outA := c1.chainCells seq dark order
             outB := if both then c1.chainCells seq dark order.reverse else []
             heal := if both then t.heal + 1 else 0
             await := if both || c1.retGpio then t.await else t.await ++ [c1.expectedRun seq dark] }

/-- E2 lets the frame in progress complete and starts nothing more (R708, Table 5.4). -/
def Chip.twpHalted (c : Chip) : Bool := c.mode.edge == some .e2

/-- TWP_FRAME_START: a triggered frame, or the dark frame of a light kill. -/
def execTwpFrameStart (s : State) : Host.Outcome State Fault Refusal :=
  effect s fun c =>
    if c.pdOn 48 = true ∧ c.twpHalted = false ∧ c.flag TWP_CTL_EN = true ∧ c.twp.kind = .none ∧ c.ring ≠ 3 ∧
      (c.twp.due || c.twpDark) = true
    then c.chainStart else c

/-! ### Triggers (R698, R699) -/

/-- A trigger: a frame is due, or PENDING, or merged. -/
def Chip.twpTrigger (c : Chip) : Chip :=
  if !c.pdOn 48 || c.twpHalted || !c.flag TWP_CTL_EN then c
  else if c.twp.kind = .none ∧ c.ring ≠ 3 ∧ c.twp.due = false then c.onTwp fun t => { t with due := true }
  else if c.flag TWP_STAT_PENDING then c.bump TWP_CNT0_MERGED 1
  else c.wr TWP_STAT_PENDING 1

/-- A write of TWP_TRIG. -/
def Chip.twpTrigWrite (c : Chip) (v : Word) : Chip :=
  let c1 := (c.wr TWP_TRIG_TRIG (TWP_TRIG_TRIG.get v)).wr TWP_TRIG_PERIOD (TWP_TRIG_PERIOD.get v)
  if TWP_TRIG_GO.get v = 1 then c1.twpTrigger else c1

/-- TWP_GO. -/
def execTwpGo (v : Word) (s : State) : Host.Outcome State Fault Refusal :=
  effect s fun c => c.guardReg 0x2A0008 fun c => c.twpTrigWrite v

/-- TWP_PERIOD_TRIGGER. -/
def execTwpPeriodTrigger (s : State) : Host.Outcome State Fault Refusal :=
  effect s fun c => if c.rd TWP_TRIG_TRIG = 1 then c.twpTrigger else c

/-- TWP_BOUNDARY_TRIGGER. -/
def Chip.twpBoundary (c : Chip) : Chip := if c.rd TWP_TRIG_TRIG = 2 then c.twpTrigger else c

/-! ### Locates (R702, R703) -/

/-- TWP_LOCATE_START: the registers of the bus take effect, the 32-cell locate frame goes out, then its output listens. -/
def Chip.locateStart (c0 : Chip) (fromB : Bool) : Chip :=
  let c := c0.commitRange 0x2A0000 0x2A0044
  let seq := c.nextSeq
  let cells := bitsOf 16 (chainHeader seq (c.ef TWP_CTL_DEPTH) 1) ++ List.replicate 16 false
  ((c.wr TWP_STAT_SEQ seq).wr TWP_STAT_BUSY 1).onTwp fun t =>
    { t with kind := if fromB then .locateB else .locateA, outA := if fromB then [] else cells
             outB := if fromB then cells else [], await := [], listening := true }

/-- A RING_BREAK record. -/
def Chip.ringBreak (c : Chip) (unit pos : Nat) : Chip :=
  c.blockRecord 0x30 unit [pos % 256, pos / 256 % 256]

/-- The ring changes; BREAKS and HEALS are counted (R702). -/
def Chip.ringBroken (c : Chip) : Chip := (((c.wr TWP_STAT_RING 2).bump TWP_CNT1_BREAKS 1).evt evTwp).ringBreak 0 0xFFFF
def Chip.ringDual (c : Chip) : Chip :=
  (((((c.wr TWP_STAT_RING 4).bump TWP_CNT1_BREAKS 1).evt evTwp).onTwp fun t =>
    { t with heal := 0, nones := 0, locB := false }).ringBreak 0 (c.rd TWP_LOC_N_A)).ringBreak 1 (c.rd TWP_LOC_N_B)
def Chip.ringIntact (c : Chip) : Chip := ((c.wr TWP_STAT_RING 0).bump TWP_CNT2_HEALS 1).evt evTwp

/-- A locate ends with the number of nodes reached. -/
def Chip.locateEnd (c : Chip) (n : Nat) : Chip :=
  let c1 := c.onTwp fun t => { t with listening := false, locB := true }
  match c.twp.kind with
  | .locateA => c1.wr TWP_LOC_N_A n
  | .locateB => (c1.wr TWP_LOC_N_B n).ringDual
  | _ => c

/-- TWP_LOCATE_REPLY: a 16-bit reply; a run of another length or with a cell error is no reply. -/
def Chip.locateReply (c : Chip) (highs : List Nat) : Chip :=
  let r := decodeRun c.twpCell highs
  (c.bump TWP_CNT1_CELL_ERR r.2).locateEnd (if r.2 = 0 ∧ r.1.length = 16 then ofBits r.1 else 0)

/-- TWP_LOCATE_REPLY. -/
def execTwpLocateReply (highs : List Nat) (s : State) : Host.Outcome State Fault Refusal :=
  effect s fun c => if c.twp.listening then c.locateReply highs else c

/-- TWP_LOCATE_LISTEN_TIMEOUT. -/
def execTwpLocateListenTimeout (s : State) : Host.Outcome State Fault Refusal :=
  effect s fun c => if c.twp.listening then c.locateEnd 0 else c

/-- TWP_FRAME_END: the frame and its idle gap are over; a locate that waits, or a pending trigger, comes next. -/
def Chip.chainEnd (c : Chip) : Chip :=
  let c1 := (c.wr TWP_STAT_BUSY 0).onTwp fun t => { t with kind := .none }
  if c1.twpHalted then c1
  else if c1.ring = 3 then c1.locateStart c1.twp.locB
  else if c1.flag TWP_STAT_PENDING then (c1.wr TWP_STAT_PENDING 0).onTwp fun t => { t with due := true }
  else c1

/-- TWP_FRAME_END. -/
def execTwpFrameEnd (s : State) : Host.Outcome State Fault Refusal :=
  effect s fun c => if c.twp.kind ≠ .none ∧ c.twp.listening = false then c.chainEnd else c

/-! ### The return check (R700, Table 16.4) -/

/-- LAST_RET of a run: 0 OK, 2 LONG, 3 SHORT, 4 DATA_ERR. -/
def judgeRun (expected cells : List Bool) (errors : Nat) : Nat :=
  if errors ≠ 0 then 4
  else if cells = expected then 0
  else if expected.length < cells.length ∧ cells.drop (cells.length - 16) = chainTrailer then 2
  else if cells.length < expected.length then 3
  else 4

/-- TWP_RETURN_RUN. -/
def Chip.returnRun (c : Chip) (expected : List Bool) (highs : List Nat) : Chip :=
  let r := decodeRun c.twpCell highs
  let j := judgeRun expected r.1 r.2
  let c1 := ((c.bump TWP_CNT1_CELL_ERR r.2).wr TWP_STAT_LAST_RET j).onTwp fun t => { t with nones := 0, await := t.await.drop 1 }
  if j = 0 then (if c1.ring = 0 then c1 else c1.ringIntact) else (c1.bump TWP_CNT0_LEN_ERR 1).evt evTwp

/-- TWP_RETURN_RUN: the run on TWP_RET of the oldest frame not yet judged. -/
def execTwpReturnRun (highs : List Nat) (s : State) : Host.Outcome State Fault Refusal :=
  effect s fun c =>
    match c.twp.await with
    | [] => c
    | e :: _ => if c.retGpio || c.ring == 3 then c else c.returnRun e highs

/-- Locating begins: at once, or when the frame in progress and its gap are over. -/
def Chip.locating (c : Chip) : Chip :=
  let c1 := (c.wr TWP_STAT_RING 3).onTwp fun t => { t with locB := false, await := [], due := false }
  let c2 := if c.twp.due then c1.wr TWP_STAT_PENDING 1 else c1
  if c.twp.kind = .none then c2.locateStart false else c2

/-- TWP_RETURN_TIMEOUT: NONE. -/
def Chip.returnNone (c : Chip) : Chip :=
  let n := c.twp.nones + 1
  let c1 := (c.wr TWP_STAT_LAST_RET 1).onTwp fun t => { t with nones := n, await := t.await.drop 1 }
  let c2 := if c1.ring = 0 then c1.wr TWP_STAT_RING 1 else c1
  if c2.ring = 1 ∧ max 1 (c2.ef TWP_RING_CFG_BREAK_N) ≤ n then
    if c2.eflag TWP_CTL_FRAMED && c2.eflag TWP_CTL_DUAL_EN then c2.locating else c2.ringBroken
  else c2

/-- TWP_RETURN_TIMEOUT. -/
def execTwpReturnTimeout (s : State) : Host.Outcome State Fault Refusal :=
  effect s fun c => if c.twp.await.isEmpty || c.retGpio then c else c.returnNone

/-! ### Pattern engines (R711-R713, Tables 16.5 and 16.6) -/

/-- A field of step `s` of engine `k`. -/
def stepF (k s : Nat) (f : Field) : Field := f.off (0x80 * k + 8 * s)

/-- A level: values above 0x8000 behave as 0x8000. -/
def levelOf (v : Nat) : Nat := min 0x8000 v

/-- OP as it behaves: 6 to 15 behave as END. -/
def Chip.patOp (c : Chip) (k s : Nat) : Nat := min 5 (c.rd (stepF k s TWP_STEP0_W0_OP))

/-- DUR as it behaves. -/
def Chip.patDur (c : Chip) (k s : Nat) : Nat := max 1 (c.rd (stepF k s TWP_STEP0_W0_DUR))

/-- Change engine `k`. -/
def Chip.onPat (c : Chip) (k : Nat) (f : Pattern → Pattern) : Chip :=
  c.onTwp fun t => { t with pats := t.pats.zipIdx.map fun x => if x.2 = k then f x.1 else x.1 }

/-- Engine `k`. -/
def Chip.pat (c : Chip) (k : Nat) : Pattern := c.twp.pats.getD k Pattern.reset

/-- JUMP steps are taken at once. A program of jumps alone, which the spec gives no end, stops after `fuel` of them. -/
def Chip.patResolve (c : Chip) (k fuel : Nat) (p : Pattern) : Pattern :=
  match fuel with
  | 0 => p
  | n + 1 =>
    if c.patOp k p.step ≠ 4 then p
    else
      let count := (p.jumps.getD p.step none).getD (c.rd (stepF k p.step TWP_STEP0_W0_REPEAT))
      if 0 < count then
        c.patResolve k n { p with jumps := p.jumps.set p.step (some (count - 1)), step := c.rd (stepF k p.step TWP_STEP0_W0_TARGET) }
      else c.patResolve k n { p with jumps := p.jumps.set p.step none, step := (p.step + 1) % 16 }

/-- Node range and pass length. -/
def Chip.patFirst (c : Chip) (k : Nat) : Nat := c.rd (TWP_PAT_CTL_FIRST.at k)
def Chip.patLast (c : Chip) (k : Nat) : Nat := c.rd (TWP_PAT_CTL_LAST.at k)
def Chip.patSpan (c : Chip) (k : Nat) : Nat := max 1 (c.patLast k + 1 - c.patFirst k)

/-- The ticks a step lasts; END never ends. -/
def Chip.stepTicks (c : Chip) (k s : Nat) : Nat :=
  let d := c.patDur k s
  let n := c.rd (stepF k s TWP_STEP0_W0_REPEAT) + 1
  match c.patOp k s with
  | 2 => n * d
  | 3 => n * d * c.patSpan k
  | _ => d

/-- The level at tick `t` of a step entered at `l0` (Table 16.6). -/
def Chip.stepLevel (c : Chip) (k s t l0 level : Nat) : Nat :=
  let v : Int := levelOf (c.rd (stepF k s TWP_STEP0_W1_V))
  let hi : Int := levelOf (c.rd (stepF k s TWP_STEP0_W1_HI))
  let d := c.patDur k s
  match c.patOp k s with
  | 0 => v.toNat
  | 1 => (roundDiv 0 ((l0 : Int) * d + (v - l0) * t) d).toNat
  | 2 =>
    let w := d - (2 * ((t % d : Nat) : Int) - d).natAbs
    (roundDiv 0 (v * (d * d : Nat) + (hi - v) * (w * w : Nat)) (d * d)).toNat
  | _ => level

/-- L_n (CHASE) at tick `t`. -/
def Chip.nodeLevel (c : Chip) (k s t n level : Nat) : Nat :=
  if c.patOp k s ≠ 3 then level
  else
    let p := c.patFirst k + (t - 1) / c.patDur k s % c.patSpan k
    let w := max 1 (c.rd (TWP_PAT_CHW_W.at k))
    levelOf (c.rd (stepF k s (if p ≤ n ∧ n < p + w then TWP_STEP0_W1_HI else TWP_STEP0_W1_V)))

/-- The field of channel `ch` of a node. -/
def nodeF (n ch : Nat) : Field :=
  if ch = 0 then TWP_NODE_A_C0.at n else if ch = 1 then TWP_NODE_A_C1.at n else TWP_NODE_B_C2.at n

/-- COL of a channel. -/
def Chip.patCol (c : Chip) (k ch : Nat) : Nat :=
  c.rd (if ch = 0 then TWP_PAT_COL0_COL0.at k else if ch = 1 then TWP_PAT_COL0_COL1.at k else TWP_PAT_COL1_COL2.at k)

/-- The channels and nodes an engine writes. -/
def Chip.patTargets (c : Chip) (k : Nat) : List (Nat × Nat) :=
  ((List.range 512).filter fun n => decide (c.patFirst k ≤ n) && decide (n ≤ c.patLast k)).flatMap fun n =>
    ((List.range 3).filter fun ch => (c.rd (TWP_PAT_CTL_CHMASK.at k)).testBit ch).map fun ch => (n, ch)

/-- An engine writes node RAM (R711). -/
def Chip.patWrite (c : Chip) (k s t level : Nat) : Chip :=
  (c.patTargets k).foldl
    (fun (c' : Chip) (x : Nat × Nat) =>
      c'.wr (nodeF x.1 x.2) (roundDiv 0 ((c.patCol k x.2 * c.nodeLevel k s t x.1 level : Nat) : Int) 32768).toNat) c

/-- One tick of an engine: its step sets L, node RAM is written, and a step that is over gives way to the next. -/
def Chip.patTick (c : Chip) (k : Nat) : Chip :=
  let p := c.patResolve k 4352 (c.pat k)
  let t := p.t + 1
  let level := c.stepLevel k p.step t p.l0 p.level
  let c1 := c.patWrite k p.step t level
  let ended := c.patOp k p.step != 5 && decide (c.stepTicks k p.step ≤ t)
  let q : Pattern :=
    if ended then c.patResolve k 4352 { p with t := 0, l0 := level, level := level, step := (p.step + 1) % 16 }
    else { p with t := t, level := level }
  (((c1.onPat k fun _ => q).wr (TWP_PAT_STAT_STEP.at k) q.step).wr (TWP_PAT_STAT_DONE.at k) (b2n (c.patOp k q.step == 5))).wr
    (TWP_PAT_STAT_L.at k) q.level

/-- An engine at a TMR0 boundary: it starts, or ticks when its divider is due; the flag says that it wrote. -/
def Chip.patPeriod (c : Chip) (k : Nat) : Chip × Bool :=
  let p := c.pat k
  if p.start then
    ((((c.onPat k fun _ => { Pattern.reset with running := true }).wr (TWP_PAT_STAT_STEP.at k) 0).wr (TWP_PAT_STAT_DONE.at k)
      0).wr (TWP_PAT_STAT_L.at k) 0, false)
  else if !p.running then (c, false)
  else if c.rd (TWP_PAT_COL1_TICK_DIV.at k) ≤ p.div then
    ((c.onPat k fun p => { p with div := 0 }).patTick k, !(c.patTargets k).isEmpty)
  else (c.onPat k fun p => { p with div := p.div + 1 }, false)

/-- A write of TWP_PATk_CTL (R712): RUN set starts at the next TMR0 boundary, RUN cleared stops, RESTART starts again. -/
def Chip.patCtl (c : Chip) (k : Nat) (v : Word) : Chip :=
  let was := c.flag (TWP_PAT_CTL_RUN.at k)
  let c1 := c.storeFields (TWP_PAT_CTL_RUN.at k).addr v 0xFFFFFFFF#32
  let now := c1.flag (TWP_PAT_CTL_RUN.at k)
  if !now then c1.onPat k fun p => { p with running := false, start := false }
  else if !was || TWP_PAT_CTL_RESTART.get v == 1 then c1.onPat k fun p => { p with start := true }
  else c1

/-! ### The dimming matrix (R714-R717) -/

/-- MODE of the matrix as written; 3 behaves as 0. -/
def Chip.mxMode (c : Chip) : Nat := c.rd TWP_MX_CTL_MODE % 3

/-- The scan in progress is one of LINE mode: the mode that its start put into effect. -/
def Chip.mxLine (c : Chip) : Bool := c.twp.mxBusy && c.ef TWP_MX_CTL_MODE == 1

/-- Geometry as it behaves. -/
def Chip.mxRows (c : Chip) : Nat := c.ef TWP_MX_GEOM_ROWS + 1
def Chip.mxCols (c : Chip) : Nat := max 1 (c.ef TWP_MX_GEOM_COLS)
def Chip.mxZones (c : Chip) : Nat := min 4096 (max 1 (c.ef TWP_MX_GEOM_ZONES))

/-- A zone of the front buffer. -/
def Chip.zone (c : Chip) (z : Nat) : Nat :=
  if 4096 ≤ z then 0 else if z % 2 = 0 then c.rd (TWP_ZONE_FRONT_Z0.at (z / 2)) else c.rd (TWP_ZONE_FRONT_Z1.at (z / 2))

/-- The cells of `n` zones from `z` on: shares padded with zeros, zeros in the dark. -/
def Chip.zoneCells (c : Chip) (z n : Nat) : List Bool :=
  shareCells (depthBits (c.ef TWP_MX_CTL_MX_DEPTH)) ((List.range ((n + 2) / 3 * 3)).map fun i =>
    if i < n ∧ c.twpDark = false then c.zone (z + i) else 0)

/-- Zones `z` on go out on the matrix bus. -/
def Chip.mxSend (c : Chip) (z n : Nat) : Chip :=
  let cells := c.zoneCells z n
  c.onTwp fun t =>
    { t with mxOut := cells, mxRow := none
             mxWait := (cells.length + max 40 (c.rd TWP_CTL_LATCH_CELLS)) * min 48 (max 13 (c.rd TWP_CELL_CELL)) }

/-- Row `r` of a scan: rows off, then its zones. -/
def Chip.mxScanRow (c : Chip) (r : Nat) : Chip :=
  (((c.mxSend (r * c.mxCols) c.mxCols).onTwp fun t => { t with mxNext := r }).wr TWP_MX_STAT_ROW r).wr TWP_MX_STAT_SCANNING 1

/-- A LINE scan or a ZONE frame starts; the registers of the bus take effect. -/
def Chip.mxBegin (c : Chip) : Chip :=
  let c1 := (c.commitRange 0x2A0200 0x2A0210).onTwp fun t => { t with mxBusy := true, mxSync := false }
  if c.mxMode = 1 then c1.mxScanRow 0 else c1.mxSend 0 c1.mxZones

/-- The buffers exchange their contents. -/
def zoneSwap (m : List (Nat × Word)) : List (Nat × Word) :=
  (m.filter fun p => decide (p.1 < 0x2A4000)) ++
    ((m.filter fun p => decide (0x2A6000 ≤ p.1 ∧ p.1 < 0x2A8000)).map fun p => (p.1 - 0x2000, p.2)) ++
    ((m.filter fun p => decide (0x2A4000 ≤ p.1 ∧ p.1 < 0x2A6000)).map fun p => (p.1 + 0x2000, p.2)) ++
    (m.filter fun p => decide (0x2A8000 ≤ p.1))

/-- The swap decision at a sync (R714). -/
def Chip.mxSwap (c : Chip) : Chip :=
  if c.flag TWP_MX_CTL_READY then
    let c1 : Chip := { c with regs := zoneSwap c.regs }
    ((c1.wr TWP_MX_CTL_READY 0).wr TWP_MX_STAT_LOCK_ERR 0).wr TWP_MX_STAT_FRONT (1 - c1.rd TWP_MX_STAT_FRONT)
  else c.bump TWP_MX_CNT0_NOT_READY 1

/-- A matrix sync (R714-R717). -/
def Chip.mxSyncAt (c : Chip) : Chip :=
  if !c.pdOn 49 || c.twpHalted || c.mxMode = 0 then c
  else if !c.twp.mxBusy then c.mxSwap.mxBegin
  else if c.mxLine then (c.mxSwap.bump TWP_MX_CNT0_SCAN_CUT 1).onTwp fun t => { t with mxSync := true }
  else if c.twp.mxSync then c.bump TWP_MX_CNT1_SYNC_MERGE 1
  else c.onTwp fun t => { t with mxSync := true }

/-- The frame boundary as the sync (SYNC_SRC = 0). -/
def Chip.mxBoundary (c : Chip) : Chip := if c.rd TWP_MX_CTL_SYNC_SRC = 0 then c.mxSyncAt else c

/-- MX_SYNC: an active edge of MX_SYNC (`edge`), or with FREE = 1 the end of the previous scan or frame. -/
def execMxSync (edge : Bool) (s : State) : Host.Outcome State Fault Refusal :=
  effect s fun c =>
    if (if edge then c.rd TWP_MX_CTL_SYNC_SRC = 1 else c.flag TWP_MX_CTL_FREE = true ∧ c.twp.mxBusy = false) then c.mxSyncAt else c

/-- The scan or the frame of the matrix bus is over. -/
def Chip.mxDone (c : Chip) : Chip := (c.wr TWP_MX_STAT_SCANNING 0).onTwp fun t => { t with mxBusy := false, mxSync := false }

/-- MX_ROW_ON_END: the row turns off; a cut starts row 0, else the next row, else the scan ends. A MODE written OFF
meanwhile is in effect from a start on, which then does not come. -/
def Chip.mxRowEnd (c : Chip) (r : Nat) : Chip :=
  let c1 := c.onTwp fun t => { t with mxRow := none }
  if c.twp.mxSync then (if c.mxMode = 0 then c1.mxDone else c1.mxBegin)
  else if r + 1 < c.mxRows then c1.mxScanRow (r + 1)
  else c1.mxDone

/-- MX_ROW_ON_END. -/
def execMxRowOnEnd (s : State) : Host.Outcome State Fault Refusal :=
  effect s fun c =>
    match c.twp.mxRow with
    | none => c
    | some r => c.mxRowEnd r

/-- MX_ZONE_FRAME_END: a pending sync is taken, its swap decided now. -/
def execMxZoneFrameEnd (s : State) : Host.Outcome State Fault Refusal :=
  effect s fun c =>
    if c.twp.mxBusy = true ∧ c.mxLine = false then (if c.twp.mxSync then c.mxDone.mxSyncAt else c.mxDone) else c

/-- The row output that is on; none while a light kill holds it off (R707). -/
def Chip.mxRowOut (c : Chip) : Option Nat := if c.twpDark then none else c.twp.mxRow

/-- The level of a row output while PD49 is ON: on or off by ROW_POL (R707, R715). -/
def Chip.mxRowLevel (c : Chip) (r : Nat) : Bool := (c.mxRowOut == some r) == c.flag TWP_MX_CTL_ROW_POL

/-- A write of the back buffer (R714). -/
def Chip.zoneWrite (c : Chip) (a : Nat) (v mask : Word) : Chip :=
  if c.flag TWP_MX_CTL_READY then c.wr TWP_MX_STAT_LOCK_ERR 1 else c.storeFields a v mask

/-- MX_ZONE_BACK_WRITE. -/
def execMxZoneBackWrite (j : Nat) (v : Word) (s : State) : Host.Outcome State Fault Refusal :=
  effect s fun c => if j < 2048 then c.guardReg (0x2A4000 + 4 * j) fun c => c.zoneWrite (0x2A4000 + 4 * j) v 0xFFFFFFFF#32 else c

/-! ### TMR0 (R710, R711, R715) -/

/-- TMR0_PERIOD: engines in ascending order; TRIG = 3; the row whose transfer and gap are over turns on. -/
def Chip.tmr0Period (c : Chip) : Chip :=
  let r := (List.range 8).foldl
    (fun (acc : Chip × Bool) k =>
      let x := acc.1.patPeriod k
      (x.1, acc.2 || x.2)) (c, false)
  let c1 := if r.2 && r.1.rd TWP_TRIG_TRIG == 3 then r.1.twpTrigger else r.1
  if c1.mxLine && c1.twp.mxRow.isNone then
    let left := c1.twp.mxWait - max 1 (c1.rd TWP_TMR0_PER)
    c1.onTwp fun t => { t with mxWait := left, mxRow := if left = 0 then some t.mxNext else none }
  else c1

/-- TMR0_PERIOD. -/
def execTmr0Period (s : State) : Host.Outcome State Fault Refusal :=
  effect s fun c => if c.pdOn 49 && !c.twpHalted then c.tmr0Period else c

/-- TWP_ERR with a code. -/
def Chip.twpErr (c : Chip) (code : Nat) : Chip := (c.wr TWP_ERR_CODE code).wr TWP_ERR_ERR 1

/-- A write of TWP_TMR0. -/
def Chip.tmr0Write (c : Chip) (v : Word) : Chip := if c.mxMode = 1 then c.twpErr 2 else c.wr TWP_TMR0_PER (TWP_TMR0_PER.get v)

/-- TMR0_WRITE. -/
def execTmr0Write (v : Word) (s : State) : Host.Outcome State Fault Refusal :=
  effect s fun c => c.guardReg 0x2A0040 fun c => c.tmr0Write v

/-! ### Leaving ON (R215, R708) -/

/-- Some cells of a run: how many of them went out before the outputs took their low level is left to the moment. -/
def Chip.cutRun (c : Chip) (run : List Bool) : List Bool := run.take (Config.freeNat c.free % (run.length + 1))

/-- PD48 leaves ON: E2 has let the frame complete; otherwise the frame in progress stops where it is (R708). -/
def Chip.twpDown (c : Chip) : Chip :=
  let cut := fun (run : List Bool) => if c.twp.kind = .none ∨ c.twpHalted = true then run else c.cutRun run
  ((c.wr TWP_STAT_BUSY 0).onTwp fun t =>
    { t with kind := .none, listening := false, due := false, await := []
             outA := cut t.outA, outB := cut t.outB }).takeFree

/-- PD49 leaves ON: no row is on and no transfer runs. -/
def Chip.mxDown (c : Chip) : Chip := c.onTwp fun t => { t with mxBusy := false, mxRow := none, mxSync := false }

/-! ### Sharing TWP_B (R688) -/

/-- A write of TWP_MX_CTL: MODE stays when DUAL_EN = 1; READY is set by firmware and cleared by the swap only. -/
def Chip.mxCtlWrite (c : Chip) (v mask : Word) : Chip :=
  let w := (c.get 0x2A0200 &&& ~~~ mask) ||| (v &&& mask)
  let w1 := TWP_MX_CTL_READY.put w (max (TWP_MX_CTL_READY.get w) (c.rd TWP_MX_CTL_READY))
  let m := TWP_MX_CTL_MODE.get w
  if (m = 1 ∨ m = 2) ∧ c.flag TWP_CTL_DUAL_EN = true then
    (c.storeFields 0x2A0200 (TWP_MX_CTL_MODE.put w1 (c.rd TWP_MX_CTL_MODE)) 0xFFFFFFFF#32).twpErr 1
  else c.storeFields 0x2A0200 w1 0xFFFFFFFF#32

/-- A write of TWP_CTL: DUAL_EN stays when the matrix is not OFF. -/
def Chip.twpCtlWrite (c : Chip) (v mask : Word) : Chip :=
  let w := (c.get 0x2A0000 &&& ~~~ mask) ||| (v &&& mask)
  if TWP_CTL_DUAL_EN.get w = 1 ∧ c.flag TWP_CTL_DUAL_EN = false ∧ c.mxMode ≠ 0 then
    (c.storeFields 0x2A0000 (TWP_CTL_DUAL_EN.put w 0) 0xFFFFFFFF#32).twpErr 1
  else c.storeFields 0x2A0000 w 0xFFFFFFFF#32

end Sys2Proof.Machine
end

