-- ==== Sys2Proof/Machine/Uses.lean ====
section
/-! DEFINITION. Clock uses and gates (R167-R173, R189): which block holds a use of which clock domain, writes of
CKG_DOM and CKG_PLL_CTL.OFF; requests for power domains (R227-R231, R234) and the completion of a domain switch. -/

namespace Sys2Proof.Machine

/-! ### Uses -/

/-- Some pattern engine runs or the dimming matrix is enabled. -/
def Chip.patternsRun (c : Chip) : Bool := (c.twp.pats.any fun p => p.running || p.start) || c.mxMode != 0

/-- A lamp of the shunt matrix is enabled. -/
def Chip.shuntsOn (c : Chip) : Bool := (List.range 16).any fun i => c.eflag (SHM_LAMP_CFG_EN.at i)

/-- A memory channel works: it is being initialised, active or in a sweep. -/
def Chip.channelWorks (c : Chip) (ch : Nat) : Bool := [mcInit, mcActive, mcSweep].contains (c.mcState ch)

/-- A manifest is being fetched from flash, or waits for the flash (R157). -/
def Chip.mfstFromFlash (c : Chip) : Bool := c.wh.mfstState == .fetch && !c.wh.runDram

/-- The loader works: LOAD runs, a record waits to be appended (R295), a host flash command or a manifest fetch runs. -/
def Chip.loaderWorks (c : Chip) : Bool :=
  c.mode.mode == .load || !c.ld.queue.isEmpty || c.ld.hostOp != 0 || c.mfstFromFlash

/-- A scan-out that drives its panel port. -/
def Chip.portDrives (c : Chip) (i : Nat) : Bool := c.soState i != 0 && c.dest i == .panel

/-- The blocks of Table 1.1: whether the block is enabled, its power domains, the clock domains that clock it (DEDUCED
from Table 1.1, log entry 80). A block works while its first domain is ON; the loader holds its uses while records are
queued, whatever the state of PD12 (R295). -/
def Chip.blockTable (c : Chip) : List (Bool × List Nat × List Nat) :=
  [ (true, [0], [2, 3])
  , (true, [1], [22])
  , (true, [2], [4, 5])
  , (true, [3], [1, 2])
  , (c.channelWorks 0, [7, 9], [6, 7])
  , (c.channelWorks 1, [8, 10], [6, 7])
  , (true, [11], [5, 6])
  , (c.loaderWorks, [12], [21, 5])
  , (c.eflag VIN_CFG_EN, [17, 13, 14, 15, 16], [16, 8])
  , (c.flag CSI_CFG_EN, [19, 18], [17])
  , (c.flag ISP0_CTL_EN, [20, 22], [9])
  , (c.flag ISP1_CTL_EN, [21, 22], [9])
  , (c.flag RTX_CFG_EN, [23], [18])
  , (c.eflag CMP_CTL_EN, 26 :: (((List.range 9).filter fun l => l != c.laneOut).map (27 + ·)), [10])
  , (c.eflag CMP_CTL_EN && c.eflag CMP_L0_CTL_EN, [24], [10])
  , (c.eflag CMP_CTL_EN && c.eflag CMP_L1_CTL_EN, [25], [10])
  , (c.cmp.job.isSome, [36], [10])
  , (c.soState 0 != 0, [37], [11])
  , (c.soState 1 != 0, [38], [12])
  , (c.portDrives 0, [39], [11])
  , (c.portDrives 1, [40], [12])
  , (c.eflag BPS_CTL_EN, [41, 42], [14, 13])
  , (c.eflag BSC_CTL_EN, [43, 44], [15, 24])
  , (c.eflag LTD_CTL_EN, [45, 47], [14, 23])
  , (c.shuntsOn, [46], [20])
  , (c.flag TWP_CTL_EN, [48], [19])
  , (c.patternsRun, [49], [19])
  , (true, [51], [25, 5]) ]

/-- The blocks that hold uses now. -/
def Chip.blocksOn (c : Chip) : List (Bool × List Nat × List Nat) :=
  c.blockTable.filter fun b =>
    b.1 && (c.pdOn (b.2.1.headD 0) || (b.2.1.headD 0 == 12 && !c.ld.queue.isEmpty))

/-- The clock nodes the mode machine holds (Table 1.2); nodes 26-29 are PLL_S, PLL_M, PLL_V, PLL_L. PD06 in PANEL takes
PLL_L as a block use while it is ON (05, R226). -/
def Chip.modeUses (c : Chip) : List Nat :=
  match c.mode.mode with
  | .deepSleep => [3, 22]
  | .standby => [2, 3, 5, 22]
  | .load => [26, 27, 21]
  | .calibrate => (c.modePlls .calibrate).map (26 + ·)
  | .mirror => [26, 27, 28, 29]
  | .scan => [26, 27, 28, 29, 15]
  | .panel => [26, 27, 28] ++ if c.pdOn 6 then [29] else []
  | .hold => [5]

/-- CKG_DOM.HOLD of a domain. -/
def Chip.domHold (c : Chip) (n : Nat) : Bool := decide (1 ≤ n ∧ n ≤ 25) && c.flag (domF n CKG_DOM_XIN_HOLD)

/-- The use-count of a clock node: the mode machine's, firmware's and the blocks' uses. -/
def Chip.useCount (c : Chip) (n : Nat) : Nat :=
  b2n (c.modeUses.contains n) + b2n (c.domHold n) + (c.blocksOn.filter fun b => b.2.2.contains n).length

/-- The flash works for an append, a host command or a manifest, all of which run with FLD on IRC (06, R157, R297), or
reads an image body whose FLASH_CFG asks for IRC (Table 6.3). -/
def Chip.flashOnIrc (c : Chip) : Bool :=
  if c.mode.mode == .load then c.ld.phase == .body && [0, 3].contains (c.ld.flashCfg / 256 % 4)
  else c.ld.stage != .idle || c.ld.hostOp != 0 || (c.mfstFromFlash && c.wh.runFlash)

/-- FLD runs on IRC: its SRC, or no PLL-derived domain can run (R172), or the flash command in progress asks for it. -/
def Chip.fldOnIrc (c : Chip) : Bool := !c.flag CKG_DOM_FLD_SRC || c.mode.mode == .standby || c.flashOnIrc

/-- The children of a node of the gate tree (Table 4.4). -/
def Chip.gateChildren (c : Chip) (n : Nat) : List Nat :=
  let twp := c.flag CKG_DOM_TWP_SRC
  match n with
  | 1 => [26, 27, 28, 29] ++ if twp then [19] else []
  | 2 => [3, 22, 23] ++ (if twp then [] else [19]) ++ (if c.ck.sysOnIrc then [5] else [])
      ++ if c.fldOnIrc then [21] else []
  | 26 => [8, 9, 10, 13, 18] ++ (if c.ck.sysOnIrc then [] else [5]) ++ if c.fldOnIrc then [] else [21]
  | 27 => [7]
  | 7 => [6]
  | 28 => [11, 12]
  | 29 => [14, 15, 20, 24]
  | _ => []

/-- Every node below a node of the gate tree. -/
def Chip.gateBelow (c : Chip) (n : Nat) : List Nat :=
  let a := c.gateChildren n
  let b := a.flatMap c.gateChildren
  a ++ b ++ b.flatMap c.gateChildren

/-- The node or one below it has a use (R169). -/
def Chip.nodeBusy (c : Chip) (n : Nat) : Bool := (n :: c.gateBelow n).any fun k => decide (0 < c.useCount k)

/-- A domain's enable for the current mode class. -/
def Chip.domEnabled (c : Chip) (n : Nat) : Bool := (c.get (domAddr n)).getLsbD c.classBit

/-- Every domain that `before` had fewer uses of is enabled (R168). -/
def Chip.takeUses (c before : Chip) : Chip :=
  ((List.range 25).map (· + 1)).foldl
    (fun (x : Chip) n => if before.useCount n < c.useCount n then x.domEnable n else x) c

/-- Every domain with a use is enabled, as after a change of the mode class (R168). -/
def Chip.enableUsed (c : Chip) : Chip :=
  ((List.range 25).map (· + 1)).foldl (fun (x : Chip) n => if 0 < c.useCount n then x.domEnable n else x) c

/-! ### What CKG_DOM reads -/

/-- Self-refresh stops MCC and MPH: every channel that is not OFF is asleep, or one is frozen in HOLD (R173). -/
def Chip.srStop (c : Chip) : Bool :=
  let sts := ([0, 1].map c.mcState).filter fun s => s != mcOff
  (!sts.isEmpty && sts.all fun s => [mcShallow, mcDeep, mcFrozen].contains s)
    || (c.mode.mode == .hold && sts.contains mcFrozen)

/-- A channel's gate of MCC and MPH is stopped (R165, R173). -/
def Chip.chStopped (c : Chip) (ch : Nat) : Bool := [mcShallow, mcDeep, mcFrozen].contains (c.mcState ch)

/-- STATE of a domain behind a PLL: 5 NO_SOURCE, 1 LOCKING, 2 RAMP, 3 ON. -/
def Chip.pllDomState (c : Chip) (n : Nat) : Nat :=
  match pllOfDom n with
  | none => 3
  | some p =>
    if !(c.pll p).on then 5
    else if !(c.pll p).held then 1
    else if c.divNow n = 0 then 1
    else if c.targetDiv n < c.divNow n then 2
    else 3

/-- The parent of a domain, where it is itself a clock domain (Table 4.4). -/
def Chip.parentDom (c : Chip) (n : Nat) : Option Nat :=
  match n with
  | 6 => some 7
  | 3 | 22 | 23 => some 2
  | 5 => if c.ck.sysOnIrc then some 2 else none
  | 21 => if c.fldOnIrc then some 2 else none
  | 19 => some (if c.flag CKG_DOM_TWP_SRC then 1 else 2)
  | _ => none

/-- The parent of a domain is stopped by its own enable, so the domain has no source (R167). -/
def Chip.parentOff (c : Chip) (n : Nat) : Bool :=
  match c.parentDom n with
  | some p => !c.domEnabled p
  | none => false

/-- CKG_DOM.STATE (R167, R173, Table 4.12). -/
def Chip.domState (c : Chip) (n : Nat) : Nat :=
  if (n = 6 ∨ n = 7) ∧ c.srStop = true then 4
  else if !c.domEnabled n then 0
  else if c.parentOff n then 5
  else if n = 1 then (if c.ck.xinPresent then 3 else 5)
  else if n = 19 ∧ c.flag CKG_DOM_TWP_SRC = true then (if c.ck.xinPresent then 3 else 5)
  else if n = 5 ∧ c.ck.sysOnIrc = true then
    (if c.flag CKG_DOM_SYS_SRC && (c.pll 0).on && !(c.pll 0).held then 1 else 3)
  else if n = 21 ∧ c.fldOnIrc = true then 3
  else c.pllDomState n

/-- What CKG_DOM of domain `n` reads. -/
def Chip.domRead (c : Chip) (n : Nat) : Word :=
  let stop := if n = 6 ∨ n = 7 then b2n (c.chStopped 0) * 2 ^ 28 + b2n (c.chStopped 1) * 2 ^ 29 else 0
  c.get (domAddr n) ||| BitVec.ofNat 32 (c.domState n * 2 ^ 16 + min 255 (c.useCount n) * 2 ^ 20 + stop)

/-! ### Writes of CKG_DOM and CKG_PLL_CTL -/

/-- A refused gate write (R169). -/
def Chip.gateRefuse (c : Chip) (n : Nat) : Chip :=
  (((c.wr CKG_ERR_DOMAIN n).wr CKG_ERR_CODE 1).wr CKG_ERR_ERR 1).evt evClk

/-- A divider write reaches a domain (R183, R189): up at once, down by the ladder; behind a PLL that locks, ÷16 or
held. -/
def Chip.divTarget (c : Chip) (n : Nat) : Chip :=
  match pllOfDom n with
  | none => c
  | some p =>
    let t := c.targetDiv n
    if p = 1 ∨ (c.pll p).on = false then c
    else if !(c.pll p).held then c.setDiv n (if t ≤ 8 then 16 else 0)
    else if n = 5 ∧ c.ck.sysOnIrc = true then c
    else if c.divNow n < t then c.setDiv n t
    else c

/-- SYS follows SRC: to IRC at once, to PLL_S when it has held lock (R185). -/
def Chip.sysSource (c : Chip) : Chip :=
  if !c.flag CKG_DOM_SYS_SRC then c.onCk fun k => { k with sysOnIrc := true }
  else if c.ck.sysOnIrc && (c.pll 0).held then c.rampStart 5
  else c

/-- A domain that a CAL_SET write in CALIBRATE has selected or released is switched (Table 5.1). -/
def Chip.calPlan (c : Chip) : Chip := if c.mode.mode = .calibrate then c.pdPlan else c

/-- ALIGN holds only if SOA's and SOB's dividers change in one manifest group (`pair`, Table 4.14). -/
def Chip.alignDrop (c : Chip) (n : Nat) (changed pair : Bool) : Chip :=
  if (n = 11 ∨ n = 12) ∧ changed = true ∧ pair = false then c.wr CKG_DOM_SOB_ALIGN 0 else c

/-- CKG_DOM_WRITE (R166, R168, R169, R189): `w` is the whole word; uses are counted as they stand before the write. -/
def Chip.domWrite (c : Chip) (n : Nat) (w : Word) (pair : Bool) : Chip :=
  let a := domAddr n
  let m := rwBits a
  let old := c.get a
  let bit : Word := BitVec.ofNat 32 (2 ^ c.classBit) &&& m
  let clears := old &&& bit &&& ~~~ w
  let refused := clears != 0 && c.nodeBusy n
  let new := (old &&& ~~~ m) ||| (w &&& m) ||| (if refused then bit else 0)
  let c1 := c.setReg a new
  let changed := c1.targetDiv n != c.targetDiv n
  let c2 := if refused then c1.gateRefuse n else c1
  let c3 := (c2.takeUses c).alignDrop n changed pair
  let c4 := if changed then c3.divTarget n else c3
  if n = 5 then c4.sysSource else c4

/-- OFF of PLL `p` written 1 or 0 (R169, Table 4.11). -/
def Chip.pllOffBit (c : Chip) (p : Nat) (off : Bool) : Chip :=
  let old := c.bit CKG_PLL_CTL_OFF p
  if off = old then c
  else if off then
    if c.nodeBusy (26 + p) then c.gateRefuse (26 + p) else (c.setBit CKG_PLL_CTL_OFF p true).stopPll p
  else
    let c1 := c.setBit CKG_PLL_CTL_OFF p false
    if (c.modePlls c.mode.mode).contains p then c1.startPll p else c1

/-- A write of CKG_PLL_CTL: CAL_SET, which PD05 and PD06 follow in CALIBRATE, then OFF per PLL. -/
def Chip.pllCtl (c : Chip) (w : Word) : Chip :=
  [0, 1, 2, 3].foldl (fun (c : Chip) p => c.pllOffBit p (w.getLsbD p))
    (c.wr CKG_PLL_CTL_CAL_SET (CKG_PLL_CTL_CAL_SET.get w)).calPlan

/-- PLL_OFF_REQUEST (R169). -/
def execPllOffRequest (v : Word) (s : State) : Host.Outcome State Fault Refusal :=
  effect s fun c => c.guardReg 0x54 fun c => c.pllCtl v

/-! ### Requests for power domains (R227-R231) -/

/-- The block of a domain is enabled (R228), or records wait to be appended (R295); PD06 is busy while PLL_L or a domain
below it has a block or firmware use. The debug block has no enable beside PD51 itself. -/
def Chip.pdBusy (c : Chip) (d : Nat) : Bool :=
  if d = 6 then (c.gateBelow 29).any fun k => decide (0 < c.useCount k)
  else d != 51 && c.blocksOn.any fun b => b.2.1.contains d

/-- A refused request (R231). -/
def Chip.pdRefuse (c : Chip) (d code : Nat) : Chip := ((c.wr PWR_ERR_PD d).wr PWR_ERR_CODE code).wr PWR_ERR_ERR 1

/-- PLL_L follows PD06 in PANEL (Table 5.1). -/
def Chip.pdPll (c : Chip) (d : Nat) (want : Bool) : Chip :=
  if d = 6 ∧ c.mode.mode = .panel then (if want then c.startPll 3 else c.stopPll 3) else c

/-- One bit of PWR_PDREQ. -/
def Chip.pdBit (c : Chip) (d : Nat) (want : Bool) : Chip :=
  if want = c.pdreq d then c
  else if want then
    if (d = 43 ∨ d = 44) ∧ c.variantS = false then c.pdRefuse d 3
    else if pdRule c.mode.mode d ≠ .en ∨ c.pdForcedOff c.mode.mode d = true then c.pdRefuse d 2
    else (c.setPdreq d true).pdPll d true
  else if c.pdBusy d then c.pdRefuse d 1
  else (c.setPdreq d false).pdPll d false

/-- A PWR_PDREQ write takes effect (R227-R231). -/
def Chip.pdApply (c : Chip) (high : Bool) (w : Word) : Chip :=
  let base := if high then 32 else 0
  ((List.range (if high then 20 else 32)).foldl (fun (c : Chip) i => c.pdBit (base + i) (w.getLsbD i)) c).pdPlan

/-- A PWR_PDREQ write: queued while an edge is in progress (R234). -/
def Chip.pdWrite (c : Chip) (high : Bool) (w : Word) : Chip :=
  if c.inEdge then c.onPw fun p => { p with pdreqQueue := p.pdreqQueue ++ [(high, w)] }
  else c.pdApply high w

/-- PDREQ_WRITE. -/
def execPdreqWrite (high : Bool) (v : Word) (s : State) : Host.Outcome State Fault Refusal :=
  effect s fun c => c.guardReg (if high then 0x010024 else 0x010020) fun c => c.pdWrite high v

/-- The writes that waited for the edge are taken, oldest first (R234). -/
def Chip.pdQueued (c : Chip) : Chip :=
  (c.pw.pdreqQueue.foldl (fun (c : Chip) x => c.pdApply x.1 x.2) (c.onPw fun p => { p with pdreqQueue := [] })).pdPlan

/-- An operation that ends an edge lets the waiting PWR_PDREQ writes in (R234). -/
def Chip.pdLate (c before : Chip) : Chip :=
  if before.mode.edge.isSome && c.mode.edge.isNone then c.pdQueued else c

/-- An operation, the sequencers after a scan-out that it stops or starts, R168 for the uses it takes, and R234 for an edge
it ends. -/
def Chip.withUses (c : Chip) (f : Chip → Chip) : Chip := (((f c).sequencers c).takeUses c).pdLate c

/-- CKG_DOM_WRITE of the host: a lock of the scan-outs that no longer holds ends (R561). -/
def execCkgDomWrite (dom : Nat) (v : Word) (s : State) : Host.Outcome State Fault Refusal :=
  effect s fun c =>
    if 1 ≤ dom ∧ dom ≤ 25 then c.guardReg (domAddr dom) fun c => (((c.domWrite dom v false).lockLost).sequencers c).pdLate c else c

end Sys2Proof.Machine
end

