-- ==== Sys2Proof/Machine/Pins.lean ====
section
/-! DEFINITION. Balls, straps and power-on reset (chapter 19): the owner of the shared pairs, the function of ball U12,
PWR_GPIO, the assertion and the release of power-on reset. -/

namespace Sys2Proof.Machine

/-! ### Shared balls (R769-R775) -/

/-- The owner of the shared pairs (Table 19.8): 0 NONE, 1 PORTB, 2 MIF. -/
def Chip.bOwner (c : Chip) : Nat := if c.pdOn 42 then 2 else if c.pdOn 40 then 1 else 0

/-- PD40 and PD42 are both ON (R771). -/
def Chip.bDenied (c : Chip) : Bool := c.mode.mode == .calibrate && c.pdOn 40 && c.pdOn 42

/-- The function of ball U12 (Table 19.8): 0 TWP_RET, 1 SHF_N, 2 GPIO. -/
def Chip.u12Fn (c : Chip) : Nat :=
  if c.flag PWR_PINMUX_SHF_SEL then 1 else if c.flag TWP_CTL_RET_GPIO then 2 else 0

/-- RET_DENIED (R772). -/
def Chip.retDenied (c : Chip) : Bool :=
  c.flag PWR_PINMUX_SHF_SEL && c.flag TWP_CTL_EN && !c.flag TWP_CTL_RET_GPIO

/-- The level of ball U12 (R774, R775): what PWR_GPIO drives, else what the board drives. -/
def Chip.u12Level (c : Chip) : Bool := if c.flag PWR_GPIO_OE then c.flag PWR_GPIO_OUT else c.pins.u12

/-- What PWR_PIN_STAT reads (Table 19.10). -/
def Chip.pinStat (c : Chip) : Word :=
  c.get 0x10064 ||| BitVec.ofNat 32 (c.bOwner + 4 * b2n c.bDenied + 8 * c.u12Fn + 32 * b2n c.retDenied)

/-- What PWR_STRAP reads. -/
def Pins.word (p : Pins) : Nat := p.strapXs + 8 * p.strapPseq + 32 * b2n p.strapWsel + 64 * p.strapAddr

/-- GPIO_WRITE (R774): OE = 1 while U12 is not GPIO stays 0 and sets GPIO_REF. -/
def Chip.gpioWrite (c : Chip) (w : Word) : Chip :=
  let c1 := c.wr PWR_GPIO_OUT (PWR_GPIO_OUT.get w)
  if PWR_GPIO_OE.get w = 0 then c1.wr PWR_GPIO_OE 0
  else if c.u12Fn = 2 then c1.wr PWR_GPIO_OE 1
  else (c1.wr PWR_GPIO_OE 0).wr PWR_PIN_STAT_GPIO_REF 1

/-- GPIO_WRITE. -/
def execGpioWrite (v : Word) (s : State) : Host.Outcome State Fault Refusal :=
  effect s fun c => c.guardReg 0x010068 fun c => c.gpioWrite v

/-- When U12 stops being GPIO, OE clears (R774); a GPIO output is kept while PD48 is OFF (Table 19.9). -/
def Chip.gpioSync (c : Chip) : Chip :=
  if c.flag PWR_GPIO_OE && c.u12Fn != 2 && c.pdState 48 != .off then c.wr PWR_GPIO_OE 0 else c

/-! ### Balls whose owner is not powered (R776, Table 19.9) -/

/-- The groups of balls of Table 19.9; `ddr` and its kin name the channel. -/
inductive BallGroup where
  | ddrReset (ch : Nat) | ddrCke (ch : Nat) | ddr (ch : Nat) | ddrAlert (ch : Nat)
  | tla | sharedPairs | mifOnly | ldx | lvdsIn (link : Nat) | csiIn | rtx
  | strings | shunts | strobes | mfb | towpath | u12 | rows
  | flashCs | flashSck | flashIo | tdo
deriving DecidableEq, Repr

/-- What a group of balls does: its block drives or reads it; else a level, high-impedance (a receiver with its termination
off), or an input (ignored or not). -/
inductive BallState where
  | block | low | high | hiZ | input | ignored
deriving DecidableEq, Repr

/-- The domain that owns a group. -/
def Chip.ballOwner (c : Chip) (g : BallGroup) : Nat :=
  match g with
  | .ddrReset ch => 9 + ch
  | .ddrCke ch => 9 + ch
  | .ddr ch => 9 + ch
  | .ddrAlert ch => 9 + ch
  | .tla => 39
  | .sharedPairs => if c.bOwner = 1 then 40 else 42
  | .mifOnly => 42
  | .ldx => 44
  | .lvdsIn n => 13 + n
  | .csiIn => 18
  | .rtx => 23
  | .strings => 45
  | .shunts => 46
  | .strobes => 41
  | .mfb => 43
  | .towpath => 48
  | .u12 => if c.flag PWR_PINMUX_SHF_SEL then 45 else 48
  | .rows => 49
  | .flashCs => 12
  | .flashSck => 12
  | .flashIo => 12
  | .tdo => 51

/-- A group during power-on reset, and while its owner is RET or OFF. The dark state of R653 is low on STR_EN and STR_SET,
and high on SH. In RET, DDRx_RESET_n and CKE have the levels that R224 left; U12 keeps a GPIO output. -/
def Chip.ballIdle (c : Chip) (g : BallGroup) : BallState :=
  match g with
  | .ddrReset ch =>
    if c.pins.por || c.pdState (9 + ch) == .off then .low else if (c.mc ch).resetN then .high else .low
  | .ddrCke ch => if c.pins.por || c.pdState (9 + ch) == .off then .low else if (c.mc ch).cke then .high else .low
  | .ddr _ => .hiZ
  | .ddrAlert _ => .ignored
  | .tla => .hiZ
  | .sharedPairs => .hiZ
  | .mifOnly => .hiZ
  | .ldx => if c.pins.por then .hiZ else .low
  | .lvdsIn _ => .hiZ
  | .csiIn => .hiZ
  | .rtx => .hiZ
  | .strings => .low
  | .shunts => .high
  | .strobes => .low
  | .mfb => .ignored
  | .towpath => .low
  | .u12 => if !c.pins.por && c.flag PWR_GPIO_OE then (if c.flag PWR_GPIO_OUT then .high else .low) else .input
  | .rows => .hiZ
  | .flashCs => .high
  | .flashSck => .low
  | .flashIo => .hiZ
  | .tdo => .hiZ

/-- A group of balls now (R776). -/
def Chip.ballState (c : Chip) (g : BallGroup) : BallState :=
  if !c.pins.por && c.pdOn (c.ballOwner g) then .block else c.ballIdle g

/-! ### The completion of a domain switch -/

/-- What happens in a block when its domain leaves ON: PD05 and PD06 take their PLL down, the Towpath and the matrix
stop (R708), a TAP request is dropped. -/
def Chip.leaveOn (c : Chip) (d : Nat) : Chip :=
  match d with
  | 5 => c.stopPll 2
  | 6 => c.stopPll 3
  | 48 => c.twpDown
  | 49 => c.mxDown
  | 51 => { c with tap := { c.tap with busy := false } }
  | _ => c

/-- The level inputs of the Lockkeeper that a domain drives are clamped when it leaves ON and released when it returns
(R215, Table 17.2). -/
def Chip.crossDrive (c : Chip) (d : Nat) : Chip :=
  match d with
  | 20 => c.proxDrive
  | 21 => c.proxDrive
  | 26 => c.safeDrive (c.safeData (c.rd CMP_SAFE_STAT_MISMATCH))
  | 37 => c.outCrcDrive
  | 38 => c.outCrcDrive
  | 43 => c.scanDrive
  | _ => c

/-- The repairs of a domain's macros are copied from the table in PD00 at its power-on (R274, Table 5.2), kept in RET and
lost in OFF; which macros a domain holds the spec does not say (log entry 98). -/
def Chip.copyRepairs (c : Chip) (x : Nat × PdState) : Chip :=
  match x.2 with
  | .on => c.onLd fun l => { l with inMacros := l.inMacros.set x.1 (l.repairs.filter fun r => Config.macroDomain r.macroNo == x.1) }
  | .ret => c
  | .off => c.onLd fun l => { l with inMacros := l.inMacros.set x.1 [] }

/-- A domain switch, the block's reaction, U12's owner, the inputs of the Lockkeeper and the uses that start with it
(R168). -/
def Chip.switchOne (c : Chip) (x : Nat × PdState) : Chip :=
  let c0 := if c.pdOn x.1 && x.2 != .on then c.leaveOn x.1 else c
  ((((c0.copyRepairs x).applySwitch x).gpioSync).crossDrive x.1).takeUses c0

/-- DOMAIN_SWITCH_COMPLETE (R232-R234, R770): the domain that is switching arrives, and the next one is taken. -/
def execDomainSwitchComplete (s : State) : Host.Outcome State Fault Refusal :=
  effect s fun c =>
    match c.pw.queue with
    | [] => c.edgePlls.backoutIfDone
    | x :: rest => ((c.switchOne x).onPw fun p => { p with queue := rest }).edgePlls.backoutIfDone

/-- Every switch that is still outstanding completes. -/
def Chip.finishAll (c : Chip) : Chip := (c.pw.queue.foldl Chip.switchOne c).onPw fun p => { p with queue := [] }

/-! ### Power-on reset (R764-R767) -/

/-- POR_ASSERT: every domain is reset, PD00 and PD01 included; flash and fuses keep their contents, DRAM does not. -/
def Chip.porAssert (c : Chip) : Chip :=
  { Chip.reset with
      variantS := c.variantS, revision := c.revision, flash := c.flash, free := c.free
      ld := { Loader.reset with otp := c.ld.otp }
      pins := { Pins.reset with u12 := c.pins.u12 } }

def execPorAssert (s : State) : Host.Outcome State Fault Refusal := effectAlways s Chip.porAssert

/-- The straps are sampled (R765, R96, R97, R235). -/
def Chip.sampleStraps (c : Chip) (x : Straps) : Chip :=
  let c1 : Chip := { c with
    pins := { c.pins with strapXs := x.xs % 8, strapPseq := x.pseq % 4, strapWsel := x.wsel, strapAddr := x.addr % 4 }
    wh := { c.wh with i2c := x.wsel, i2cAddr := x.addr % 4 } }
  (List.range 4).foldl (fun (c : Chip) n => c.wr (PWR_REG_CFG_USED.at n) (b2n (decide (n ≤ x.pseq % 4)))) c1

/-- POR_RELEASE: straps sampled and the cold start begun from DEEP_SLEEP (R247, Table 1.4); with TMODE = 1 the device stays in reset (R767). -/
def Chip.porRelease (c : Chip) (x : Straps) : Chip :=
  if !c.pins.por || c.pins.tmode then c
  else
    let c1 := c.sampleStraps x
    if x.tmode then { c1 with pins := { c1.pins with tmode := true } }
    else
      let c2 : Chip := { c1 with pins := { c1.pins with por := false }, mode := { c1.mode with mode := .deepSleep } }
      c2.startWake 0 true

def execPorRelease (straps : Straps) (s : State) : Host.Outcome State Fault Refusal :=
  effectAlways s fun c => c.porRelease straps

end Sys2Proof.Machine
end

