-- ==== Sys2Proof/Machine/Modes.lean ====
section
/-! DEFINITION. The mode machine (chapter 1): requests and refusals, the edges of Table 1.4 from their acceptance to
their end, and the boundaries of a Mooring change (R587, R589, R622). -/

namespace Sys2Proof.Machine

/-! ### What a mode edge ends -/

/-- The staging buffer holds a manifest in progress (R153, R155). -/
def Chip.mfstPending (c : Chip) : Bool := [MfstState.fetch, .staged, .applying].contains c.wh.mfstState

/-- Change the Wharf's state. -/
def Chip.onWh (c : Chip) (f : Wharf → Wharf) : Chip := { c with wh := f c.wh }

/-- A manifest ends in DONE or ERROR, which raises WH_EVT.MFST (R156); the staging buffer is free again. -/
def Chip.mfstEnd (c : Chip) (st : MfstState) (err : Nat) : Chip :=
  (c.onWh fun w => { w with mfstState := st, mfstErr := err, mfstGroups := [], mfstWait := 0, mfstOrigin := .none
                            mfstBurst := false }).evt evMfst

/-- A scan-out that the mode no longer allows stops; one that it allows, enabled and without error, starts (R549). -/
def Chip.soSync (c : Chip) (i : Nat) : Chip :=
  if c.soState i ≠ 0 ∧ c.soMay i = false then c.soStop i 0 true else c.soResume i

/-- The blocks follow a mode that has just been entered: scan-outs stop or start, a manifest ends with ABORTED when
scan-out A has stopped (R154), the light drive tests its pins (R681), the sequencers of the picture start or stop, and
every clock domain with a use is enabled (R168). -/
def Chip.settle (c : Chip) : Chip :=
  let ran := c.soState 0 != 0
  let c1 := (c.soSync 0).soSync 1
  let c2 := if ran && c1.soState 0 == 0 && c1.mfstPending then c1.mfstEnd .error 10 else c1
  ((c2.selfTestOnEntry.bpsRefresh).bscRefresh).enableUsed

/-- A mode is entered: every domain has switched, the light is no longer held dark for the edge, the PLLs of the mode
run and the others are stopped (R265), the queued PWR_PDREQ writes are taken (R234). -/
def Chip.enter (c : Chip) (m : Mode) (cause : Nat) : Chip :=
  let c1 := (c.finishAll.startPlls m).onMode fun x =>
    { x with mode := m, cause := cause, edge := none, moored := false, moorPhase := .none }
  (((c1.onLk fun k => { k with leaveDark := false }).stopOthers m).settle).pdQueued

/-- An edge is over: the mode event; a requested edge copies its TAG (R55). -/
def Chip.report (c : Chip) : Chip :=
  (c.onMode fun x =>
    { x with tag := if x.forced then x.tag else x.reqTag, abandoned := if x.forced then x.abandoned else false
             forced := false }).evt evMode

/-- The event log's record of a forced edge (Table 17.6): the cause, the mode left and the mode entered. -/
def Chip.modeRecord (c : Chip) (cause : Nat) (left entered : Mode) : Chip :=
  c.logRecord 1 0 cause (left.code + 16 * entered.code)

/-- A channel leaves self-refresh because a mode edge requires active DRAM (R347). -/
def Chip.wakeMode (c : Chip) (ch : Nat) : Chip :=
  if c.mcState ch = mcShallow ∨ c.mcState ch = mcDeep then (c.exitCause ch 3).wakeChannel ch else c.wakeChannel ch

/-- Both channels leave self-refresh. -/
def Chip.wakeDram (c : Chip) : Chip := (c.wakeMode 0).wakeMode 1

/-- DRAM at the entry to STANDBY: every channel, which the edge put to sleep at its start, sleeps deep (R350), a frozen
one included, then the policy of PWR_STBY_CTL holds, as read now (R224, R267); under the OFF policy the image is no longer
valid (Table 5.10). -/
def Chip.standDram (c : Chip) : Chip :=
  let sleep := fun (c : Chip) (ch : Nat) =>
    let c1 := c.sleepChannel true mcDeep ch
    if c1.mcState ch = mcFrozen ∨ c1.mcState ch = mcShallow then c1.setMcState ch mcDeep else c1
  let c1 := ((sleep (sleep c 0) 1).standbyDram 0).standbyDram 1
  if c1.offPolicy then c1.onMode fun x => { x with imageValid := false } else c1

/-! ### Requests (R39-R55) -/

/-- A request is refused (R54): REFUSE, its TAG, the mode event. -/
def Chip.modeRefuse (c : Chip) (code tag : Nat) : Chip :=
  (c.onMode fun x => { x with refuse := code, tag := tag, abandoned := false }).evt evMode

/-! Refusal codes (Table 1.8). -/
def refusedEdge : Nat := 1
def refusedNoref : Nat := 2
def refusedVariant : Nat := 3
def refusedBusy : Nat := 4
def refusedWakelock : Nat := 5
def refusedNoimage : Nat := 6
def refusedEncoding : Nat := 7
def refusedNostore : Nat := 8

/-! Fields of WH_MODE_REQ (Table 1.6). -/
def reqTarget (w : Half) : Nat := w.toNat % 16
def reqMoor (w : Half) : Bool := w.getLsbD 4
def reqReload (w : Half) : Bool := w.getLsbD 5
def reqHoldCh (w : Half) : Nat := b2n (w.getLsbD 6)
def reqTagOf (w : Half) : Nat := w.toNat / 256

/-- A picture mode or CALIBRATE. -/
def Mode.needsImage (m : Mode) : Bool := m.lit || m == .calibrate

/-- The channel a requested HOLD freezes (R399): the named one, or the other when that is not configured. -/
def Chip.holdChannel (c : Chip) (w : Half) : Option Nat :=
  let ch := reqHoldCh w
  if c.mcConf ch then some ch else if c.mcConf (1 - ch) then some (1 - ch) else none

/-- The edge of Table 1.4 from the current mode to another; R41 leads through LOAD. -/
def Chip.edgeTo (c : Chip) (t : Mode) (w : Half) : Option Edge :=
  match c.mode.mode with
  | .deepSleep => none
  | .standby =>
    if t = .deepSleep then some .e2
    else if t = .load then some .e3
    else if t.needsImage then (if c.mode.imageValid && !reqReload w then some .e6 else some .e3)
    else none
  | .load => if t = .hold ∧ (c.holdChannel w).isSome = true then some .e10 else none
  | .calibrate =>
    if t = .hold then (if (c.holdChannel w).isSome then some .e10 else none)
    else if t = .standby ∨ t = c.mode.calFrom then some .e9 else none
  | .hold => if t = .standby then some .e11 else none
  | _ =>
    if t = .standby then some .e7
    else if t = .calibrate then some .e8
    else if t = .hold ∧ (c.holdChannel w).isSome = true then some .e10
    else none

/-- The refusal of a request for another mode (Tables 1.8 and 1.10), 0 when its edge is taken. -/
def Chip.modeCheck (c : Chip) (t : Mode) (w : Half) : Nat :=
  if t = .scan ∧ c.variantS = false then refusedVariant
  else if c.mode.limp && (t == .load || t.needsImage) then refusedNoref
  else if (c.edgeTo t w).isNone then refusedEdge
  else if c.mode.mode = .standby ∧ t.needsImage = true ∧ c.mode.loadFailed = true ∧ reqReload w = false then
    refusedNoimage
  else 0

/-- A request is accepted (R55): REFUSE = NONE; a request with RELOAD ends the refusals after a failed LOAD (R42). DESIGN
CHOICE (log entry 95): a request with RELOAD that is itself refused does not end them; a LOAD that succeeds and a wake
do. -/
def Chip.acceptReq (c : Chip) (w : Half) : Chip :=
  c.onMode fun x =>
    { x with refuse := 0, reqTag := reqTagOf w, reqMoor := reqMoor w, forced := false
             loadFailed := x.loadFailed && !reqReload w }

/-- The trigger of a requested HOLD's snapshot (R399). -/
def hostHold (ch : Nat) : MemError where
  place := ⟨ch, 0, 0, 0, 0⟩
  sys := 0
  syn := 0
  kind := 6
  source := 0
  spec := false
  seeding := false
  critical := false
  checkbit := false

/-- At t0 of E2 the pattern engines stop, and no chain frame, matrix scan or zone frame starts any more; the frame in
progress completes (Table 5.4, R708). -/
def Chip.towpathRest (c : Chip) : Chip :=
  c.onTwp fun t =>
    { t with due := false, mxBusy := false, mxSync := false, mxRow := none
             pats := t.pats.map fun p => { p with running := false, start := false } }

/-- E2 stops flash traffic after the current command: a manifest that is being fetched from flash, or waits for it, ends
with FETCHFAIL (R254, Table 3.12). -/
def Chip.stopFetch (c : Chip) : Chip := if c.mfstFromFlash then c.mfstEnd .error 8 else c

/-- An edge is taken on request. E2 stops the Towpath's engines (Table 5.4) and flash traffic (R254, R296) and resets DRAM
(Table 5.4); E10 is FREEZE of one channel (R399); E8 remembers the lit mode it leaves and wakes DRAM that Mooring has put
to sleep. -/
def Chip.takeEdge (c : Chip) (e : Edge) (t : Mode) (w : Half) : Chip :=
  let c1 := c.acceptReq w
  match e with
  | .e2 => (((c1.towpathRest.ledgerFlush.stopFetch).resetDram 0).resetDram 1).beginEdge .e2 .deepSleep
  | .e3 => (c1.beginEdge .e3 .load).onMode fun x => { x with target := t }
  | .e8 => (c1.onMode fun x => { x with calFrom := c.mode.mode }).wakeStart.beginEdge .e8 .calibrate
  | .e10 =>
    let ch := (c.holdChannel w).getD 0
    (c1.freezeStart ch (hostHold ch) 0).beginEdge .e10 .hold
  | _ => c1.beginEdge e t

/-- E14 begins (R40): the power settings are those written by now (R267), entry captures from the next boundary on, exit
wakes the channels. -/
def Chip.moorEdge (c : Chip) (w : Half) : Chip :=
  let c1 := c.takeSeqCfg.onMode fun x =>
    { x with edge := some .e14, reqTag := reqTagOf w, reqMoor := reqMoor w, forced := false }
  if reqMoor w then c1.onMode fun x => { x with moorPhase := .capture } else c1.moorExit 3

/-- A request for the current mode completes at once (R40): REFUSE, its TAG, the mode event; a request that is on its way
through LOAD is not touched. The domains that E12 kept ON take their state (R226). -/
def Chip.sameMode (c : Chip) (w : Half) : Chip :=
  let c1 := c.onMode fun x =>
    { x with refuse := 0, tag := reqTagOf w, abandoned := false, loadFailed := x.loadFailed && !reqReload w
             e12KeptHold := false }
  (if c.mode.e12KeptHold then c1.pdPlan else c1).evt evMode

/-- A write of WH_MODE_REQ in a mode in which the Wharf answers. -/
def Chip.modeRequest (c : Chip) (w : Half) : Chip :=
  let c0 := c.onMode fun x => { x with req := w &&& 0xFF7F#16 }
  let tag := reqTagOf w
  if c.mode.edge.isSome then c0.modeRefuse refusedBusy tag
  else
    match modeOfCode (reqTarget w) with
    | none => c0.modeRefuse refusedEncoding tag
    | some t =>
      if reqMoor w && t != .mirror && t != .panel then c0.modeRefuse refusedEncoding tag
      else if t = c.mode.mode then
        if (t == .mirror || t == .panel) && reqMoor w != c.mode.moored then c0.moorEdge w else c0.sameMode w
      else if c.modeCheck t w ≠ 0 then c0.modeRefuse (c.modeCheck t w) tag
      else
        match c.edgeTo t w with
        | none => c0
        | some e => c0.takeEdge e t w

/-- MODE_REQUEST (R39). In DEEP_SLEEP the transaction is only a wake trigger (R43); while writes drain it is
refused (R133). -/
def execModeRequest (w : Half) (s : State) : Host.Outcome State Fault Refusal :=
  effect s fun c => if c.mode.mode = .deepSleep then c.wakeTrigger 1 else c.ifDrained fun c => c.modeRequest w

/-! ### The ends of the edges -/

/-- A lit mode entered with MOOR = 1: E14 follows, and REFUSE, TAG and the mode event come with its end (Table 1.10,
R40, R55). -/
def Chip.entered (c : Chip) : Chip :=
  if c.mode.reqMoor && (c.mode.mode == .mirror || c.mode.mode == .panel) then
    c.takeSeqCfg.onMode fun x => { x with edge := some .e14, moorPhase := .capture }
  else c.report

/-- A lit mode or CALIBRATE is entered from STANDBY or LOAD: channels active, two boundaries of black (R48). -/
def Chip.enterPicture (c : Chip) (m : Mode) : Chip :=
  let c1 := c.wakeDram.onMode fun x =>
    { x with boundaries := 0, calFrom := if m = .calibrate then .standby else x.calFrom }
  (c1.enter m causeHost).entered

/-- PICTURE_MODE_ENTERED: E6 ends, or E4 in a picture mode. -/
def execPictureModeEntered (s : State) : Host.Outcome State Fault Refusal :=
  effect s fun c =>
    if (c.mode.edge = some .e6 ∨ c.mode.edge = some .e4) ∧ c.mode.target.needsImage = true then
      c.enterPicture c.mode.target
    else c

/-- STANDBY_ENTERED: E7 or E11 ends, or E4 of an explicit LOAD request. -/
def execStandbyEntered (s : State) : Host.Outcome State Fault Refusal :=
  effect s fun c =>
    if c.mode.edge = some .e7 ∨ c.mode.edge = some .e11
        ∨ (c.mode.edge = some .e4 ∧ c.mode.target = .standby) then
      (((c.standDram).onLk fun k => { k with freezeDark := false }).enter .standby causeHost).report
    else c

/-- CALIBRATE_ENTERED: E8 ends (R49). -/
def execCalibrateEntered (s : State) : Host.Outcome State Fault Refusal :=
  effect s fun c => if c.mode.edge = some .e8 then (c.wakeDram.enter .calibrate causeHost).report else c

/-- CALIBRATE_EXITED: E9 ends (R49). -/
def execCalibrateExited (s : State) : Host.Outcome State Fault Refusal :=
  effect s fun c =>
    if c.mode.edge = some .e9 then
      if c.mode.target = .standby then (c.standDram.enter .standby causeHost).report
      else ((c.onMode fun x => { x with boundaries := 2 }).enter c.mode.target causeHost).entered
    else c

/-- HOLD_ENTERED: E10 ends (R397, R399); a FREEZE leaves a MODE record, and a LOAD it cut leaves no valid image. -/
def Chip.holdEntered (c : Chip) : Chip :=
  let cause := if c.mode.forced then causeFreeze else causeHost
  let c1 := if c.mode.forced then c.modeRecord cause c.mode.mode .hold else c
  (((c1.dropLoad).enter .hold cause).onLk fun k => { k with freezeDark := false }).report

def execHoldEntered (s : State) : Host.Outcome State Fault Refusal :=
  effect s fun c => if c.mode.edge = some .e10 then c.holdEntered else c

/-- REFLOST_COMPLETE: E12 ends in STANDBY, or in STANDBY-LIMP (Table 4.6, R198, R264); PD07 and PD08 stay ON after
HOLD (R52). DESIGN CHOICE (log entry 96): XIN is present again, and LIMP stays 0, once one gate without a glitch has passed
in window inside the sequence; the timebase stays on IRC when the sequence ends without LIMP, until the next wake. -/
def Chip.reflostEnd (c : Chip) : Chip :=
  let left := c.mode.mode
  let c1 := ([0, 1, 2, 3].foldl Chip.stopPll c).dropLoad.modeRecord causeReflost left .standby
  let c2 := (c1.standDram.onCk fun k => { k with reflost := false }).srcRelease 10
  let c3 := (c2.onLk fun k => { k with freezeDark := false }).enter .standby causeReflost
  ((c3.onMode fun x => { x with limp := !c.ck.xinPresent, e12KeptHold := left == .hold }).report).evt evClk

def execReflostComplete (s : State) : Host.Outcome State Fault Refusal :=
  effect s fun c => if c.mode.edge = some .e12 then c.reflostEnd else c

/-- Every regulator has been backed out. -/
def Chip.backedOut (c : Chip) : Bool := c.pw.backout && c.pw.en.all fun b => !b

/-- The IRC cycles since the last XIN edge when XIN is given up: fewer than the 24 of an XIN stop; how many the spec leaves
to the moment (log entry 97). -/
def Chip.sinceXin (c : Chip) : Nat := Config.freeNat c.free % 24

/-- DEEP_SLEEP is reached: XIN is stopped and its checks disarmed, the timebase moves to IRC (R203, R204). -/
def Chip.asleep (c : Chip) (cause : Nat) : Chip :=
  let c1 := (c.onMode fun x => { x with imageValid := false, limp := false }).enter .deepSleep cause
  let c2 := ((c1.tbToIrc c1.sinceXin).takeFree).onCk fun k =>
    { k with xinPresent := false, xinArmed := false, inWindowUs := 0, glitches := 0, sysOnIrc := true, reflost := false }
  (c2.wr CKG_MON_STAT_XIN_OK 0).onPw fun p => { p with backout := false }

/-- A wake trigger that came during E2 starts E1 now (R246). -/
def Chip.deferredWake (c : Chip) : Chip :=
  match c.mode.wakeDeferred with
  | none => c
  | some src => c.startWake src false

/-- SLEEP_COMPLETE: E2 ends in DEEP_SLEEP (R253). -/
def execSleepComplete (s : State) : Host.Outcome State Fault Refusal :=
  effect s fun c =>
    if c.mode.edge = some .e2 ∧ c.backedOut = true then ((c.asleep causeHost).report).deferredWake else c

/-- WAKE_FAIL_COMPLETE: E13 ends in DEEP_SLEEP (Table 5.5, R257); FAIL_COUNT stays at 3. -/
def Chip.wakeFailEnd (c : Chip) : Chip :=
  let n := min 3 (c.wh.failCount + 1)
  let c1 := c.dropLoad.asleep causeWakeFail
  let c2 := c1.onWh fun w => { w with failCount := n, lockout := w.lockout || n == 3, lastStep := c.rd PWR_WAKE_STAT_FAIL_STEP }
  (c2.onLk fun k => { k with e13Dark := false, freezeDark := false }).report

def execWakeFailComplete (s : State) : Host.Outcome State Fault Refusal :=
  effect s fun c => if c.mode.edge = some .e13 ∧ c.backedOut = true then c.wakeFailEnd else c

/-- WAKE_COMPLETE: E1 ends (Table 5.3, R175, R205, R251, R252). -/
def Chip.wakeEnd (c : Chip) : Chip :=
  let c1 := c.enter .standby (if c.mode.cold then causePor else causeWakeEvent)
  let c2 := c1.onMode fun x => { x with limp := !c.ck.xinPresent, imageValid := false, cold := false, loadFailed := false }
  let c3 := (c2.onWh fun w => { w with failCount := 0 }).report
  if c.ck.xinPresent then c3.tbToXin else c3

def execWakeComplete (s : State) : Host.Outcome State Fault Refusal :=
  effect s fun c =>
    if c.mode.edge = some .e1 ∧ c.pw.step = none ∧ c.ck.xinArmed = true then c.wakeEnd else c

/-- LIMP_EXIT (R36, R205). -/
def execLimpExit (s : State) : Host.Outcome State Fault Refusal :=
  effect s fun c =>
    if c.mode.mode = .standby ∧ c.mode.limp = true ∧ 1000 ≤ c.ck.inWindowUs then
      (((c.onMode fun x => { x with limp := false }).onCk fun k => { k with xinPresent := true }).wr
        CKG_MON_STAT_XIN_OK 1).tbToXin.evt evMode
    else c

/-! ### Mooring at a frame boundary (Table 12.2, R587, R589, R622) -/

/-- Every configured channel reads ACTIVE. -/
def Chip.dramAwake (c : Chip) : Bool := c.mcConfigured.all fun ch => c.mcState ch == mcActive

/-- B1: each running scan-out captures in PANEL, the plane formatter in MIRROR. -/
def Chip.moorCapture (c : Chip) : Chip :=
  let c1 := if c.mode.mode = .panel then (c.soCapture 0).soCapture 1 else c.onBps fun b => { b with capture := true }
  c1.onMode fun x => { x with moorPhase := .decide }

/-- What the captures of B2 found: 0 everything fits. -/
def Chip.moorCaptured (c : Chip) : Chip × Nat :=
  if c.mode.mode = .panel then
    [0, 1].foldl
      (fun (r : Chip × Nat) i =>
        if (c.so i).capture then
          let q := r.1.soCaptured i
          (q.1, if r.2 = 0 then q.2 else r.2)
        else r) (c, 0)
  else c.bpsCaptured

/-- Mooring is in effect: the compositor stops, the scan-outs replay, the channels sleep deep and PLL_M with them
(R225, R350). -/
def Chip.moorEnter (c : Chip) : Chip :=
  let c1 := [0, 1].foldl
    (fun (c : Chip) i => if c.soState i = 1 then (c.wr (soF i SOA_STAT_STATE) 2).soTol i 0xFFFF else c) c
  let c2 := (c1.sleepChannel true mcDeep 0).sleepChannel true mcDeep 1
  let c3 := (c2.applySwitch (4, .ret)).stopPll 1
  ((c3.onCmp fun k => { k with running := false }).setTol 2 0xFFFF).onMode fun x =>
    { x with moored := true, moorPhase := .none, edge := none, refuse := 0 }

/-- B2: Mooring is entered or refused (Table 12.2); E14 is over, and the PWR_PDREQ writes that waited are taken (R234). -/
def Chip.moorDecide (c : Chip) : Chip :=
  let r := c.moorCaptured
  let c1 := if r.2 = 0 then r.1.moorEnter
    else r.1.onMode fun x => { x with moorPhase := .none, edge := none, refuse := refusedNostore }
  c1.report.pdQueued

/-- The exit completes: MOORED clears, the held commits and flips apply at this boundary, the compositor starts the
frame. A request's REFUSE and TAG are written now (R40). -/
def Chip.moorEnd (c : Chip) : Chip :=
  let c1 := [0, 1].foldl
    (fun (c : Chip) i => if c.soState i = 2 then c.wr (soF i SOA_STAT_STATE) 1 else c) c
  let asked := c.mode.edge = some .e14
  let c2 := c1.onMode fun x => { x with moored := false, moorPhase := .none }
  if asked then (c2.onMode fun x => { x with edge := none, refuse := 0 }).report.pdQueued else c2.evt evMode

/-- The Mooring step of a boundary of scan-out A. -/
def Chip.moorStep (c : Chip) : Chip :=
  match c.mode.moorPhase with
  | .none => c
  | .capture => c.moorCapture
  | .decide => c.moorDecide
  | .exiting => if c.dramAwake then c.moorEnd else c

end Sys2Proof.Machine
end

