-- ==== Sys2Proof/Machine/Flash.lean ====
section
/-! DEFINITION. The serial flash and its users outside LOAD (chapter 6): the bytes of the array, the ledger's slots, the
append attempts, the host flash commands, and arming the customer fuses. -/

namespace Sys2Proof.Machine

/-! ### The flash array -/

/-- What a byte of flash that nothing has programmed reads as: erased. -/
def flashDefault : Nat → Byte := fun _ => 0xFF#8

/-- A byte of the flash. -/
def Chip.flashByte (c : Chip) (a : Nat) : Byte := SMap.get flashDefault c.flash a

/-- `n` bytes of the flash. -/
def Chip.flashBytes (c : Chip) (a n : Nat) : List Byte := (List.range n).map fun i => c.flashByte (a + i)

/-- What a fuse that nothing has programmed reads as (chapter 6). -/
def otpDefault : Nat → Word := fun _ => 0#32

/-- The fuses' word `n`. -/
def Loader.fuse (l : Loader) (n : Nat) : Word := SMap.get otpDefault l.otp n

/-- The shadow's word `n`. -/
def Loader.shadowWord (l : Loader) (n : Nat) : Word := SMap.get otpDefault l.shadow n

/-- ADDR4 of OTP word 33 (Table 6.2): every flash command but the read of the image body uses its address width (Table
6.1; DEDUCED for the ledger and host commands, log entry 99). -/
def Loader.addr4 (l : Loader) : Bool := (l.shadowWord 33).getLsbD 1

/-- The place in the array that an address of 3 or 4 bytes names (Table 6.1). -/
def flashPlace (addr4 : Bool) (a : Nat) : Nat := if addr4 then a else a % 2 ^ 24

/-- Bytes of a read with 3-byte or 4-byte addressing (Table 6.1). -/
def Chip.flashRead (c : Chip) (addr4 : Bool) (a n : Nat) : List Byte :=
  (List.range n).map fun i => c.flashByte (flashPlace addr4 (a + i))

/-- Programming clears bits and sets none (PRESUMED of NOR flash, log entry 30). -/
def Chip.flashProgram (c : Chip) (a : Nat) (bs : List Byte) : Chip :=
  { c with flash := SMap.setRun flashDefault c.flash a 1 ((c.flashBytes a bs.length).zipWith (· &&& ·) bs) }

/-- Erasing sets every bit of a range. -/
def Chip.flashErase (c : Chip) (a n : Nat) : Chip := { c with flash := SMap.clearRange c.flash a (a + n) }

/-- A range whose program or erase did not end: what it holds is open. -/
def Chip.flashOpen (c : Chip) (a n : Nat) : Chip :=
  ({ c with flash := SMap.setRun flashDefault c.flash a 1 ((List.range n).map fun i => Config.freeByte c.free i) }).takeFree

/-- A manifest fetch holds the flash (R157). -/
def Chip.flashFetch (c : Chip) : Bool := c.mfstFromFlash && c.wh.runFlash

/-- No append attempt and no host command uses the flash. -/
def Chip.flashIdle (c : Chip) : Bool := c.ld.stage == .idle && c.ld.hostOp == 0

/-- A fetch that waits takes the flash as soon as the flash command in progress has ended (R157). -/
def Chip.giveFlash (c : Chip) : Chip :=
  if c.mfstFromFlash && c.flashIdle then { c with wh := { c.wh with runFlash := true } } else c

/-! ### The ledger's slots (R287, R288, Table 6.6) -/

/-- How many slots the ledger has. -/
def Loader.slots (l : Loader) : Nat := l.ledgerSect * 128

/-- The place in the flash of a slot. -/
def Loader.slotAddr (l : Loader) (n : Nat) : Nat := flashPlace l.addr4 (l.ledgerOff + 32 * n)

/-- The 32 bytes of a slot. -/
def Chip.slot (c : Chip) (n : Nat) : List Byte := c.flashBytes (c.ld.slotAddr n) 32

/-- What the scan makes of a slot. -/
inductive SlotKind where
  | erased | torn | corrupt | valid | other
deriving DecidableEq, Repr

/-- MARK and CRC of a slot (R287). A MARK that the rule does not name makes a slot that is ignored and not counted. -/
def slotKind (b : List Byte) : SlotKind :=
  let mark := (b.getD 0 0).toNat
  if b.all fun x => x == 0xFF#8 then .erased
  else if mark = 0 ∨ mark = 0xFF then .torn
  else if mark = 0x5C then (if crc32 (b.take 28) = leBytes (b.drop 28) then .valid else .corrupt)
  else .other

/-- A field of a record's bytes. -/
def recNum (b : List Byte) (i n : Nat) : Nat := leBytes ((b.drop i).take n)

/-- The key of a valid record: CRC-32 of bytes 1 and 8-27 (R288). -/
def recKey (b : List Byte) : Nat := crc32 (b.getD 1 0 :: (b.drop 8).take 20)

/-- The append pointer: the first erased slot (R287). -/
def Chip.appendPtr (c : Chip) : Nat :=
  ((List.range c.ld.slots).find? fun n => slotKind (c.slot n) == .erased).getD c.ld.slots

/-- The highest SEQ of a list of records. -/
def topSeq (rs : List (List Byte)) : Option Nat :=
  match rs.map fun b => recNum b 2 2 with
  | [] => none
  | x :: xs => some (xs.foldl max x)

/-- The scan (R287, R288): the append pointer, the counts, the key table, the valid records in ledger order. -/
def Chip.scanLedger (c : Chip) : Chip :=
  let next := c.appendPtr
  let used := (List.range next).map c.slot
  let count := fun (k : SlotKind) => (used.filter fun b => slotKind b == k).length
  let valid := used.filter fun b => slotKind b == .valid
  let c1 := ((c.wr LDR_LEDGER_STAT_NEXT next).wr LDR_LEDGER_STAT_TORN (min (count .torn) 2047)).wr
    LDR_LEDGER_STAT_CORRUPT (min (count .corrupt) 511)
  c1.onLd fun l =>
    { l with keys := (valid.map recKey).take 2048, appended := valid, maxSeq := topSeq valid, rescan := false }

/-! ### Appending (R290-R293) -/

/-- The 32 bytes of a record (Table 6.6). -/
def Chip.recordBytes (c : Chip) (r : LedgerReq) : List Byte :=
  let seq := match c.ld.maxSeq with
    | none => 0
    | some m => (m + 1) % 65536
  let body := BitVec.ofNat 8 0x5C :: BitVec.ofNat 8 r.kind :: (toLe 2 seq ++ toLe 4 c.calMinNow ++ r.tail)
  body ++ toLe 4 (crc32 body)

/-- The record at the head of the queue leaves it. -/
def Chip.popRecord (c : Chip) : Chip :=
  c.onLd fun l => { l with queue := l.queue.drop 1, stage := .idle, attempts := 0, slotBytes := [] }

/-- The flash is free for an append (R290, R297, R157). -/
def Chip.appendMay (c : Chip) : Bool :=
  c.pdOn 12 && c.mode.mode != .load && !c.flashStopped && c.ld.stage == .idle && c.ld.hostOp == 0 && !c.flashFetch

/-- An append attempt: the record may be a duplicate by now (R289), no slot may remain (R293), else bytes 1-31 are
programmed. -/
def Chip.attemptStart (c : Chip) : Chip :=
  match c.ld.queue with
  | [] => c
  | r :: _ =>
    let c1 := if c.ld.rescan then c.scanLedger else c
    let n := c1.rd LDR_LEDGER_STAT_NEXT
    if c1.ld.keys.contains r.key then (c1.bump LDR_LEDGER_CNT_SUPPRESSED 1).popRecord
    else if c1.ld.slots ≤ n then (c1.popRecord).ledgerFail r whyFull
    else
      let bs := c1.recordBytes r
      (c1.flashProgram (c1.ld.slotAddr n + 1) (bs.drop 1)).onLd fun l => { l with stage := .body, slotBytes := bs }

/-- LEDGER_ATTEMPT_START. -/
def execLedgerAttemptStart (s : State) : Host.Outcome State Fault Refusal :=
  effect s fun c => if c.appendMay then c.attemptStart else c

/-- The append pointer advances by one slot. -/
def Chip.nextSlot (c : Chip) : Chip := c.wr LDR_LEDGER_STAT_NEXT (c.rd LDR_LEDGER_STAT_NEXT + 1)

/-- A failed attempt programs MARK = 0x00 (R291). -/
def Chip.attemptFail (c : Chip) : Chip :=
  (c.flashProgram (c.ld.slotAddr (c.rd LDR_LEDGER_STAT_NEXT)) [0#8]).onLd fun l => { l with stage := .dead }

/-- The slot has been marked dead: the next attempt takes the next slot; after three the append fails (R291, R293). -/
def Chip.attemptOver (c : Chip) : Chip :=
  let n := c.ld.attempts + 1
  let c1 := c.nextSlot
  match c.ld.queue with
  | [] => c1.onLd fun l => { l with stage := .idle, attempts := 0, slotBytes := [] }
  | r :: _ =>
    if 3 ≤ n then (c1.popRecord).ledgerFail r whyAttempts
    else c1.onLd fun l => { l with stage := .idle, attempts := n, slotBytes := [] }

/-- LEDGER_BUSY_CLEAR: the attempt goes on to MARK, then to the read back. MARK stands in the flash once its program has
ended, so that a slot stopped before is uncommitted (R296). -/
def Chip.appendReady (c : Chip) : Chip :=
  match c.ld.stage with
  | .body => c.onLd fun l => { l with stage := .mark }
  | .mark =>
    (c.flashProgram (c.ld.slotAddr (c.rd LDR_LEDGER_STAT_NEXT)) [0x5C#8]).onLd fun l => { l with stage := .readback }
  | .dead => c.attemptOver
  | _ => c

def execLedgerBusyClear (s : State) : Host.Outcome State Fault Refusal := effect s fun c => c.appendReady.giveFlash

/-- LEDGER_BUSY_TIMEOUT: a wait beyond PROG_TMO fails the attempt; what the flash then holds of it is open. -/
def Chip.appendTimeout (c : Chip) : Chip :=
  let a := c.ld.slotAddr (c.rd LDR_LEDGER_STAT_NEXT)
  match c.ld.stage with
  | .body => (c.flashOpen (a + 1) 31).attemptFail
  | .mark => (c.flashOpen a 1).attemptFail
  | .dead => c.attemptOver
  | _ => c

def execLedgerBusyTimeout (s : State) : Host.Outcome State Fault Refusal := effect s fun c => c.appendTimeout.giveFlash

/-- An append succeeds (R292). -/
def Chip.appended (c : Chip) (r : LedgerReq) : Chip :=
  let bs := c.ld.slotBytes
  let c1 := c.nextSlot.onLd fun l =>
    { l with keys := if l.keys.length < 2048 then l.keys ++ [r.key] else l.keys
             maxSeq := topSeq (bs :: (l.maxSeq.toList.map fun m => [0#8, 0#8] ++ toLe 2 m))
             appended := l.appended ++ [bs] }
  (c1.popRecord.bump LDR_LEDGER_CNT_APPENDED 1).evt evLedger

/-- LEDGER_READBACK_DONE: `got`, the 32 bytes that the flash returned. -/
def execLedgerReadbackDone (got : List Byte) (s : State) : Host.Outcome State Fault Refusal :=
  effect s fun c =>
    match c.ld.stage, c.ld.queue with
    | .readback, r :: _ => if got = c.ld.slotBytes then (c.appended r).giveFlash else c.attemptFail
    | _, _ => c

/-- LEDGER_APPEND_REQUEST: a block's record. -/
def execLedgerAppendRequest (kind unit flags : Nat) (data : List Nat) (s : State) : Host.Outcome State Fault Refusal :=
  effect s fun c => c.ledgerRequest { kind := kind % 256, unit := unit % 65536, flags := flags % 65536, data := data }

/-- LEDGER_IDX_WRITE: the chosen slot is read into LDR_LEDGER_REC0-7; a slot beyond the ledger reads 0 (log entry 31). -/
def Chip.ledgerIdx (c : Chip) (v : Word) : Chip :=
  let n := LDR_LEDGER_IDX_SLOT.get v
  let bs := if n < c.ld.slots then c.slot n else []
  let c1 := (c.wr LDR_LEDGER_IDX_SLOT n).wr LDR_LEDGER_IDX_READY 1
  (List.range 8).foldl (fun (c : Chip) i => c.wr (LDR_LEDGER_REC_REC.at i) (recNum bs (4 * i) 4)) c1

def execLedgerIdxWrite (v : Word) (s : State) : Host.Outcome State Fault Refusal :=
  effect s fun c => c.guardReg 0x2003C fun c => c.ledgerIdx v

/-! ### Host flash commands (R297-R299, Table 6.13) -/

/-- The first `n` bytes of the page buffer. -/
def Chip.hostBuf (c : Chip) (n : Nat) : List Byte :=
  ((List.range 64).flatMap fun i => toLe 4 (c.rd (LDR_FHOST_BUF_WORD.at i))).take n

/-- Give the first bytes of the page buffer. -/
def Chip.setHostBuf (c : Chip) (bs : List Byte) : Chip :=
  let all := bs ++ (c.hostBuf 256).drop bs.length
  (List.range 64).foldl (fun (c : Chip) i => c.wr (LDR_FHOST_BUF_WORD.at i) (recNum all (4 * i) 4)) c

/-- A host command ends: DONE and ERR (0 NONE, 1 BUSY, 2 CROSS_PAGE, 3 TIMEOUT, 4 ALIGN). -/
def Chip.hostEnd (c : Chip) (err : Nat) : Chip := (c.wr LDR_FHOST_CMD_ERR err).wr LDR_FHOST_CMD_DONE 1

/-- GO with an operation, LEN as its field holds it, and what the flash answers to READ_ID or READ_STATUS. The command
takes place when it ends, FHOST_CMD_DONE; GO while one runs is BUSY (log entry 32), an append between two attempts is in
progress (R297), and nothing starts once E2 has stopped the flash (R254). -/
def Chip.hostGo (c : Chip) (op len answer : Nat) : Chip :=
  let c1 := (((c.wr LDR_FHOST_CMD_OP op).wr LDR_FHOST_CMD_LEN len).wr LDR_FHOST_CMD_DONE 0).wr LDR_FHOST_CMD_ERR 0
  let a := c.rd LDR_FHOST_ADDR_ADDR
  let n := len % 256 + 1
  if c.mode.mode = .load ∨ c.ld.stage ≠ .idle ∨ c.ld.attempts ≠ 0 ∨ c.ld.hostOp ≠ 0 then c1.hostEnd 1
  else if op = 0 ∨ 6 ≤ op ∨ c.flashStopped = true then c1
  else if op = 2 ∧ 256 < a % 256 + n then c1.hostEnd 2
  else if op = 3 ∧ a % 4096 ≠ 0 then c1.hostEnd 4
  else c1.onLd fun l =>
    { l with hostOp := op, hostAddr := if op ≤ 3 then a else answer, hostLen := if op = 3 then 4096 else n }

/-- A range of the array touches the ledger (R299). -/
def Loader.touches (l : Loader) (a n : Nat) : Bool :=
  decide (l.ledgerSect ≠ 0 ∧ a < l.slotAddr 0 + l.ledgerSect * 4096 ∧ l.slotAddr 0 < a + n)

/-- A host command that changed the ledger makes the loader scan it again (R299). -/
def Chip.hostTouch (c : Chip) (a n : Nat) : Chip := if c.ld.touches a n then c.scanLedger else c

/-- What a host command does when it ends. -/
def Chip.hostPerform (c : Chip) : Chip :=
  let a := c.ld.hostAddr
  let p := flashPlace c.ld.addr4 a
  let n := c.ld.hostLen
  match c.ld.hostOp with
  | 1 => c.setHostBuf (c.flashRead c.ld.addr4 a n)
  | 2 => (c.flashProgram p (c.hostBuf n)).hostTouch p n
  | 3 => (c.flashErase p n).hostTouch p n
  | 4 => c.setHostBuf (toLe 4 a)
  | 5 => c.setHostBuf (toLe 4 a)
  | _ => c

/-- No host command runs any more. -/
def Chip.hostIdle (c : Chip) : Chip := c.onLd fun l => { l with hostOp := 0 }

/-- FHOST_CMD_DONE; it waits for a manifest fetch (R157). -/
def execFhostCmdDone (s : State) : Host.Outcome State Fault Refusal :=
  effect s fun c => if c.ld.hostOp ≠ 0 ∧ c.flashFetch = false then ((c.hostPerform.hostIdle).hostEnd 0).giveFlash else c

/-- FHOST_TIMEOUT: a PROGRAM or ERASE4K that does not end leaves its bytes open. -/
def execFhostTimeout (s : State) : Host.Outcome State Fault Refusal :=
  effect s fun c =>
    let p := flashPlace c.ld.addr4 c.ld.hostAddr
    if c.ld.hostOp = 2 ∨ c.ld.hostOp = 3 then
      ((((c.flashOpen p c.ld.hostLen).hostTouch p c.ld.hostLen).hostIdle).hostEnd 3).giveFlash
    else c

/-- FHOST_READ (R297). -/
def execFhostRead (len : Nat) (s : State) : Host.Outcome State Fault Refusal :=
  effect s fun c => c.guardReg 0x20100 fun c => c.withUses fun c => c.hostGo 1 len 0

/-- FHOST_PROGRAM (R298). -/
def execFhostProgram (len : Nat) (s : State) : Host.Outcome State Fault Refusal :=
  effect s fun c => c.guardReg 0x20100 fun c => c.withUses fun c => c.hostGo 2 len 0

/-- FHOST_ERASE4K (R298). -/
def execFhostErase4k (s : State) : Host.Outcome State Fault Refusal :=
  effect s fun c => c.guardReg 0x20100 fun c => c.withUses fun c => c.hostGo 3 (c.rd LDR_FHOST_CMD_LEN) 0

/-- FHOST_READ_ID: `jedec`, the identification that the flash returns. -/
def execFhostReadId (jedec : Nat) (s : State) : Host.Outcome State Fault Refusal :=
  effect s fun c => c.guardReg 0x20100 fun c => c.withUses fun c => c.hostGo 4 (c.rd LDR_FHOST_CMD_LEN) jedec

/-- FHOST_READ_STATUS: `status`, the status register that the flash returns. -/
def execFhostReadStatus (status : Nat) (s : State) : Host.Outcome State Fault Refusal :=
  effect s fun c => c.guardReg 0x20100 fun c => c.withUses fun c => c.hostGo 5 (c.rd LDR_FHOST_CMD_LEN) status

/-- A register write of LDR_FHOST_CMD; what the flash answers to READ_ID and READ_STATUS is then a free value. -/
def Chip.hostCmd (c : Chip) (v : Word) : Chip :=
  let op := LDR_FHOST_CMD_OP.get v
  let len := LDR_FHOST_CMD_LEN.get v
  if LDR_FHOST_CMD_GO.get v = 0 then (c.wr LDR_FHOST_CMD_OP op).wr LDR_FHOST_CMD_LEN len
  else if op = 4 then (c.hostGo op len (Config.freeNat c.free % 2 ^ 24)).takeFree
  else if op = 5 then (c.hostGo op len (Config.freeNat c.free % 2 ^ 8)).takeFree
  else c.hostGo op len 0

/-! ### Arming the fuses (R301-R303) -/

/-- LOCK is programmed (Table 6.2). -/
def Loader.otpLock (l : Loader) : Bool := (l.fuse 34).getLsbD 31

/-- How many of the 32 customer words are marked. -/
def Chip.otpMarked (c : Chip) : Nat := ((List.range 32).filter fun n => c.bit LDR_OTP_PMASK_MASK n).length

/-- LDR_OTP_CTL is written: IDX is taken, ARM accepted or refused (R302). -/
def Chip.otpCtl (c : Chip) (v : Word) : Chip :=
  let c1 := c.wr LDR_OTP_CTL_IDX (LDR_OTP_CTL_IDX.get v)
  if LDR_OTP_CTL_ARM.get v = 0 then c1.wr LDR_OTP_CTL_ARM 0
  else if 16 < c.otpMarked ∨ c.ld.otpLock = true then (c1.wr LDR_OTP_CTL_ARM 0).wr LDR_OTP_STAT_REFUSED 1
  else
    (((c1.wr LDR_OTP_CTL_ARM 1).wr LDR_OTP_STAT_REFUSED 0).wr LDR_OTP_CONFLICT_BITS 0).wr LDR_OTP_VERIFY_BITS 0

/-- OTP_ARM. -/
def execOtpArm (v : Word) (s : State) : Host.Outcome State Fault Refusal :=
  effect s fun c => c.guardReg 0x20060 fun c => c.otpCtl v

end Sys2Proof.Machine
end

