-- ==== Sys2Proof/Machine/RegWrite.lean ====
section
/-! DEFINITION. Register access as a whole (R23-R30): what a write of any internal register does, whoever writes it, with
its access codes and lock events; the counters a block clears (R752); and what a register reads, live fields included. -/

namespace Sys2Proof.Machine

/-! ### Access codes and locks -/

/-- The word a write hands to its register: bits that are kept are the old ones where `mask` is 0; bits of W1C and WO
fields count only where they are written. -/
def Chip.operand (c : Chip) (a : Nat) (v mask : Word) : Word :=
  match rowOf a with
  | none => 0
  | some r =>
    let kept := BitVec.ofNat 32 (Nat.lor (Nat.lor r.rw r.rws) r.rwl)
    let once := BitVec.ofNat 32 (Nat.lor r.w1c r.wo)
    (c.get a &&& kept &&& ~~~ mask) ||| (v &&& mask &&& (kept ||| once))

/-- Source `n` is armed. -/
def Chip.isArmed (c : Chip) (n : Nat) : Bool := c.bit LKK_ARMED_ARMED n

/-- The RWL bits of a row. -/
def rwlBits (a : Nat) : Word :=
  match rowOf a with
  | some r => BitVec.ofNat 32 r.rwl
  | none => 0

/-- What arming locks in LKK_CHK_CFG (Table 17.4): PROX_SEL with sources 4 and 5, SKIP_LIM with 6 and 7. -/
def Chip.chkLocked (c : Chip) : Word :=
  (if c.isArmed 4 || c.isArmed 5 then LKK_CHK_CFG_PROX_SEL.mask else 0)
    ||| (if c.isArmed 6 || c.isArmed 7 then LKK_CHK_CFG_SKIP_LIM.mask else 0)

/-- The bits of a register that their lock event has locked (R27, Table 17.4). -/
def Chip.lockedBits (c : Chip) (a : Nat) : Word :=
  match a / 65536 with
  | 0x01 => if c.locks.pinmux then rwlBits a else 0
  | 0x04 => if c.locks.map then rwlBits a else 0
  | 0x05 => if c.locks.map then rwlBits a else 0
  | 0x06 => if c.locks.map then rwlBits a else 0
  | 0x0B => if c.isArmed 4 || c.isArmed 5 then rwlBits a else 0
  | 0x0C => if c.isArmed 4 || c.isArmed 5 then rwlBits a else 0
  | 0x10 => if 0x100480 ≤ a ∧ a < 0x100500 ∧ c.safeLocked = true then 0xFFFFFFFF#32 else 0
  | 0x20 => if c.isArmed 7 then rwlBits a else 0
  | 0x21 => if c.isArmed 7 then rwlBits a else 0
  | 0x26 => if c.locks.maxv then rwlBits a else 0
  | 0x2C =>
    if 0x2C0020 ≤ a ∧ a < 0x2C005C then (if c.isArmed ((a - 0x2C0020) / 4) then rwlBits a else 0)
    else if a = 0x2C0060 then c.chkLocked
    else if a = 0x2C0064 ∧ c.isArmed 11 = true then rwlBits a
    else 0
  | 0x3F => if c.locks.dbg then rwlBits a else 0
  | _ => 0

/-! ### Counters (R752) -/

/-- A sticky saturation record (R90) is cleared together: SAT, SAT_COUNT, FIRST_STAGE and FULL. -/
def Chip.arithClear (c : Chip) (region : Nat) : Chip := c.setReg (region * 0x10000 + 0xF0) 0

/-- A region that has a saturation record: all but the table RAMs. -/
def hasArith (region : Nat) : Bool := region != 0x14 && region != 0x15 && region != 0x18

/-- Whole registers, as `counterRegs` lists them. -/
def wholeRegs (as : List Nat) : List (Nat × Word) := as.map fun a => (a, 0xFFFFFFFF#32)

/-- The counter registers that a block's CNT_CLR clears, with the bits that are counters. -/
def counterRegs (region : Nat) : List (Nat × Word) :=
  match region with
  | 0x04 => (0x40204, MCA_ECC_STAT_POISON_SEEN.mask) :: (0x400A8, MCA_SLUICE_STAT_ENTRIES.mask) ::
      wholeRegs [0x40210, 0x40214, 0x40218, 0x4021C, 0x40230, 0x40234]
  | 0x05 => (0x50204, MCA_ECC_STAT_POISON_SEEN.mask) :: (0x500A8, MCA_SLUICE_STAT_ENTRIES.mask) ::
      wholeRegs [0x50210, 0x50214, 0x50218, 0x5021C, 0x50230, 0x50234]
  | 0x08 => (0x800CC, VIN_LOCK_STAT_LOCK_COUNT.mask) ::
      wholeRegs [0x80074, 0x80078, 0x80108, 0x8010C, 0x80110, 0x80114]
  | 0x0A => wholeRegs ([0xA000C, 0xA0010] ++
      (List.range 4).flatMap fun v => (List.range 4).map fun k => 0xA010C + 0x40 * v + 4 * k)
  | 0x0B => wholeRegs [0xB001C, 0xB0100, 0xB0104, 0xB0108, 0xB010C]
  | 0x0C => wholeRegs [0xC001C, 0xC0100, 0xC0104, 0xC0108, 0xC010C]
  | 0x0D => wholeRegs ((List.range 3).flatMap fun s => [0xD0014 + 16 * s, 0xD0018 + 16 * s])
  | 0x10 => wholeRegs (0x1000C0 :: (List.range 8).map fun L => 0x10012C + 0x80 * L)
  | 0x20 => wholeRegs [0x200090, 0x200094, 0x200098, 0x20009C]
  | 0x21 => wholeRegs [0x210090, 0x210094, 0x210098, 0x21009C]
  | 0x24 => wholeRegs [0x240304, 0x240308, 0x24030C, 0x240310]
  | 0x26 => wholeRegs [0x2600B0, 0x2600B4, 0x2600B8, 0x2600BC, 0x2600C0]
  | 0x28 => wholeRegs [0x280180, 0x280184]
  | 0x2A => wholeRegs [0x2A0020, 0x2A0024, 0x2A0028, 0x2A0210, 0x2A0214]
  | _ => []

/-- The offset of a block's CNT_CLR in its region. -/
def cntClrAt (region : Nat) : Nat := if region = 0x04 ∨ region = 0x05 then 0x23C else 0xE0

/-- CNT_CLR clears the counters of its block. -/
def Chip.countersClear (c : Chip) (region : Nat) : Chip :=
  (counterRegs region).foldl (fun (c : Chip) r => c.setReg r.1 (c.get r.1 &&& ~~~ r.2)) c

/-! ### What a write does, block by block -/

/-- Fields stored under their access codes, `w` the operand word. -/
def Chip.storeWordAt (c : Chip) (a : Nat) (w : Word) : Chip := c.storeFields a w 0xFFFFFFFF#32

/-- CKG (chapter 4). `pair`: a manifest group that writes both scan-out dividers (Table 4.14). DESIGN CHOICE (log entry
107): DISCARD, which Table 4.11 clears on a write to SRC, is cleared by a write that changes SRC, and not by one that leaves
it as it was. -/
def Chip.writeCkg (c : Chip) (a : Nat) (w : Word) (pair : Bool) : Chip :=
  if a = 0x04 then
    let c1 := c.storeWordAt a w
    if CKG_IRC_TRIM_SRC.get w = c.rd CKG_IRC_TRIM_SRC then c1 else c1.wr CKG_IRC_TRIM_DISCARD 0
  else if a = 0x34 then c.pllvFrac w
  else if a = 0x54 then c.pllCtl w
  else if 0x100 ≤ a ∧ a < 0x164 then c.domWrite ((a - 0x100) / 4 + 1) w pair
  else if a = 0x200 then
    if CKG_ERR_ERR.get w = 0 then c else ((c.wr CKG_ERR_ERR 0).wr CKG_ERR_DOMAIN 0).wr CKG_ERR_CODE 0
  else if a = 0x300 then c.fmWrite 0 w
  else if a = 0x310 then c.fmWrite 1 w
  else if a = 0x408 then (if CKG_MON_STAT_EVT.get w = 0 then c else c.monClear)
  else if a = 0x500 then (if CKG_TB_SNAP_SNAP.get w = 0 then c else c.tbSnap)
  else if a = 0x50C ∨ a = 0x510 then (if w = 0 then c else c.setReg a w)
  else c.storeWordAt a w

/-- PWR (chapters 5 and 19). -/
def Chip.writePwr (c : Chip) (a : Nat) (w : Word) : Chip :=
  if a = 0x10020 then c.pdWrite false w
  else if a = 0x10024 then c.pdWrite true w
  else if a = 0x10040 then
    if PWR_ERR_ERR.get w = 0 then c else ((c.wr PWR_ERR_ERR 0).wr PWR_ERR_PD 0).wr PWR_ERR_CODE 0
  else if a = 0x10060 then (c.storeWordAt a w).gpioSync
  else if a = 0x10068 then c.gpioWrite w
  else c.storeWordAt a w

/-- LDR (chapter 6). -/
def Chip.writeLdr (c : Chip) (a : Nat) (w : Word) : Chip :=
  if a = 0x2003C then c.ledgerIdx w
  else if a = 0x20060 then c.otpCtl w
  else if a = 0x20100 then c.hostCmd w
  else c.storeWordAt a w

/-- The weir counters of a channel are cleared (Table 7.8). -/
def Chip.weirClear (c : Chip) (ch : Nat) : Chip := (c.wr (mcF ch MCA_WEIR_STAT_TRIGGERS) 0).wr (mcF ch MCA_WEIR_STAT_STALL) 0

/-- MCA and MCB (chapters 7 and 8). -/
def Chip.writeMc (c : Chip) (ch a : Nat) (w : Word) : Chip :=
  match a % 65536 with
  | 0x004 => if MCA_INIT_CTL_GO.get w = 0 then c else c.initGo ch
  | 0x080 =>
    let c1 := c.storeWordAt a w
    if MCA_WEIR_CTL_CLR.get w = 0 then c1 else c1.weirClear ch
  | 0x088 => c.weirIdx ch w
  | 0x140 => c.sweepGo ch w
  | 0x248 => if MCA_ERR_FIRST2_VALID.get w = 0 then c else c.wr (mcF ch MCA_ERR_FIRST2_VALID) 0
  | 0x280 => c.pprGo ch w
  | 0x2C0 => c.snapIdx ch w
  | 0x0A0 => (c.storeWordAt a w).deepEnter
  | 0x0A4 => (c.storeWordAt a w).deepEnter
  | _ => c.storeWordAt a w

/-- MCX (chapters 7 and 8). -/
def Chip.writeMcx (c : Chip) (a : Nat) (w : Word) : Chip :=
  if a = 0x60000 then (if MCX_MAP_CTL_GO.get w = 0 then c else c.mapGo)
  else if a = 0x60090 then (if MCX_ERR_ERR.get w = 0 then c else c.setReg a 0)
  else if 0x60180 ≤ a ∧ a < 0x601B0 then (if MCX_PORT_WAIT_CLR.get w = 0 then c else c.setReg a 0)
  else if a = 0x60420 then
    let c1 := c.storeWordAt a w
    let c2 := if MCX_MIG_CTL_ABORT_A.get w = 1 then c1.migAbort 0 else c1
    let c3 := if MCX_MIG_CTL_ABORT_B.get w = 1 then c2.migAbort 1 else c2
    let c4 := if MCX_MIG_CTL_START_A.get w = 1 then c3.migGo 0 else c3
    if MCX_MIG_CTL_START_B.get w = 1 then c4.migGo 1 else c4
  else c.storeWordAt a w

/-- VIN (chapter 9). -/
def Chip.writeVin (c : Chip) (a : Nat) (w : Word) : Chip :=
  let c1 := c.storeWordAt a w
  if a = 0x80008 then c1.onVin fun v => { v with timingWritten := true }
  else if a = 0x800C0 then (if VIN_LOCK_CTL_EN.get w = 0 then c1.lockFree else c1)
  else if a = 0x80100 then (if VIN_BRG_CTL_SEQ_RESET.get w = 0 then c1 else c1.wr VIN_BRG_STAT_SEQ_VALID 0)
  else c1

/-- CSI and RTX (chapter 10). -/
def Chip.writeCsi (c : Chip) (a : Nat) (w : Word) : Chip :=
  if a = 0xA0000 then c.csiCfg w
  else if a = 0xA0040 then c.shareWrite w
  else if a = 0xA0044 then (if CSI_SHARE_STAT_CLR.get w = 0 then c else c.setReg a 0)
  else if a = 0xA0100 ∨ a = 0xA0140 ∨ a = 0xA0180 ∨ a = 0xA01C0 then c.vcEnable ((a - 0xA0100) / 0x40) w
  else c.storeWordAt a w

/-- ISP0 and ISP1 (chapter 10). -/
def Chip.writeIsp (c : Chip) (pipe a : Nat) (w : Word) : Chip :=
  let c1 := c.storeWordAt a w
  if a % 65536 = 0 ∧ ISP0_CTL_EN.get w = 0 then c1.pipeOff pipe else c1

def Chip.writeRtx (c : Chip) (a : Nat) (w : Word) : Chip :=
  if a = 0xD0010 ∨ a = 0xD0020 ∨ a = 0xD0030 then c.rtxEnable ((a - 0xD0010) / 0x10) w else c.storeWordAt a w

/-- CMP and MOV (chapter 11). -/
def Chip.writeCmp (c : Chip) (a : Nat) (w : Word) (mfst : Bool) : Chip :=
  if 0x100100 ≤ a ∧ a < 0x100500 then c.layerWrite a w 0xFFFFFFFF#32
  else if a = 0x100010 then (if CMP_ERR_ERR.get w = 0 then c else c.setReg a 0)
  else if a = 0x100020 then c.flipWrite w mfst
  else if 0x100040 ≤ a ∧ a < 0x100080 then c.fenceSet ((a - 0x100040) / 4) w.toNat
  else c.storeWordAt a w

def Chip.writeMov (c : Chip) (a : Nat) (w : Word) : Chip :=
  if a = 0x110000 then
    if MOV_CTL_GO.get w = 0 then c.storeWordAt a w else c.movGo (MOV_CTL_OP.get w)
  else c.storeWordAt a w

/-- SOA and SOB (chapter 12). -/
def Chip.writeSo (c : Chip) (so a : Nat) (w : Word) (mfst : Bool) : Chip :=
  match a % 65536 with
  | 0x004 =>
    let c1 := c.storeWordAt a w
    if SOA_COMMIT_GO.get w = 0 then c1 else c1.commitGo so mfst
  | 0x060 => if SOA_SNAP_CTL_SNAP.get w = 0 then c else c.soSnap so
  | _ => c.storeWordAt a w

/-- BPS (chapter 13): the light drive owns the shares while SHARE_SRC says so. -/
def Chip.writeBps (c : Chip) (a : Nat) (w : Word) : Chip :=
  if a = 0x240400 then (if BPS_MAP_CTL_CLR.get w = 0 then c else c.mapClear)
  else if a = 0x240404 then c.mapAdd w
  else if 0x240040 ≤ a ∧ a < 0x240080 ∧ a % 8 = 4 ∧ c.flag BPS_CTL_SHARE_SRC = true then c
  else c.storeWordAt a w

/-- BSC (chapter 14): the light drive owns the gains while GAIN_SRC says so. -/
def Chip.writeBsc (c : Chip) (a : Nat) (w : Word) : Chip :=
  if 0x260090 ≤ a ∧ a < 0x26009C ∧ c.flag BSC_CTL_GAIN_SRC = true then
    c.storeWordAt a (BSC_LASER_GAIN.put w (BSC_LASER_GAIN.get (c.get a)))
  else c.storeWordAt a w

/-- LTD (chapter 15). -/
def Chip.writeLtd (c : Chip) (a : Nat) (w : Word) : Chip :=
  if a = 0x280000 then
    let c1 := c.storeWordAt a w
    if LTD_CTL_LOOP_RST.get w = 0 then c1 else c1.loopReset
  else if a = 0x280008 then (if LTD_FAULT_CLR_CLR.get w = 0 then c else c.faultClear c.pins.u12)
  else c.storeWordAt a w

/-- TWP (chapter 16). -/
def Chip.writeTwp (c : Chip) (a : Nat) (w : Word) : Chip :=
  if a = 0x2A0000 then (c.twpCtlWrite w 0xFFFFFFFF#32).gpioSync
  else if a = 0x2A0008 then c.twpTrigWrite w
  else if a = 0x2A0018 then (if TWP_ERR_ERR.get w = 0 then c else c.setReg a 0)
  else if a = 0x2A0040 then c.tmr0Write w
  else if 0x2A0100 ≤ a ∧ a < 0x2A0180 ∧ a % 16 = 0 then c.patCtl ((a - 0x2A0100) / 16) w
  else if a = 0x2A0200 then c.mxCtlWrite w 0xFFFFFFFF#32
  else if 0x2A4000 ≤ a ∧ a < 0x2A6000 then c.zoneWrite a w 0xFFFFFFFF#32
  else c.storeWordAt a w

/-- DATA of the KILL record of a source whose condition holds when it is enabled (Table 17.6). -/
def Chip.srcData (c : Chip) (n : Nat) : Nat :=
  let prox := fun (set : Nat) => set + c.proxZones set * 256
  match n with
  | 4 => prox (c.proxSet fun x => x.hotOut)
  | 5 => prox (c.proxSet fun x => x.staleOut)
  | 6 => c.safeData (c.rd CMP_SAFE_STAT_MISMATCH)
  | 7 => c.outCrcData
  | 11 => c.rd LKK_TEMP_T
  | _ => 0

/-- A write of LKK_SRCn_CFG (R720): a source enabled while its condition holds becomes active, a disabled one is neither
active nor latched, and LATCH set on an active one latches it. -/
def Chip.srcWrite (c : Chip) (n a : Nat) (w : Word) : Chip :=
  c.withSafe fun c =>
    let c1 := c.storeWordAt a w
    if !c1.flag (srcF n LKK_SRC0_CFG_EN) then (c1.setBit LKK_ACTIVE_A n false).setBit LKK_LATCHED_L n false
    else if c1.bit LKK_ACTIVE_A n then
      if c1.flag (srcF n LKK_SRC0_CFG_LATCH) then c1.setBit LKK_LATCHED_L n true else c1
    else if c.lk.asserted.testBit n then c1.srcActivate n (c.srcData n)
    else c1

/-- LKK_CAL_CTL: sticky bits cleared, SET, ALARM_SET. -/
def Chip.calCtl (c : Chip) (w : Word) : Chip :=
  let c1 := c.storeWordAt 0x2C0110 w
  let c2 := if LKK_CAL_CTL_SET.get w = 0 then c1 else c1.calSet
  if LKK_CAL_CTL_ALARM_SET.get w = 0 then c2 else c2.alarmSet

/-- LKK_CTL: HOST_KILL, SAFE_FORCE, LOG_POLICY, LOG_CLR. -/
def Chip.lkkCtl (c : Chip) (w : Word) : Chip :=
  let c1 := (c.hostKill (LKK_CTL_HOST_KILL.get w == 1)).safeForce (LKK_CTL_SAFE_FORCE.get w == 1)
  let c2 := c1.wr LKK_CTL_LOG_POLICY (LKK_CTL_LOG_POLICY.get w)
  if LKK_CTL_LOG_CLR.get w = 0 then c2 else c2.logClear

/-- LKK (chapter 17). -/
def Chip.writeLkk (c : Chip) (a : Nat) (w : Word) : Chip :=
  if a = 0x2C0000 then c.lkkCtl w
  else if a = 0x2C000C then c.latchClear w
  else if a = 0x2C0010 then c.arm w
  else if 0x2C0020 ≤ a ∧ a < 0x2C005C then c.srcWrite ((a - 0x2C0020) / 4) a w
  else if a = 0x2C0060 then (c.storeWordAt a w).proxDrive
  else if a = 0x2C0088 then c.logIdx w
  else if a = 0x2C008C then c.hostMarker w
  else if a = 0x2C0110 then c.calCtl w
  else if a = 0x2C0114 then c.calTrim w
  else if 0x2C0140 ≤ a ∧ a ≤ 0x2C0180 then c.lampHours ((a - 0x2C0140) / 4) w
  else c.storeWordAt a w

/-- What a register's write does, by block. -/
def Chip.writeBlock (c : Chip) (a : Nat) (w : Word) (mfst pair : Bool) : Chip :=
  match a / 65536 with
  | 0x00 => c.writeCkg a w pair
  | 0x01 => c.writePwr a w
  | 0x02 => c.writeLdr a w
  | 0x04 => c.writeMc 0 a w
  | 0x05 => c.writeMc 1 a w
  | 0x06 => c.writeMcx a w
  | 0x08 => c.writeVin a w
  | 0x0A => c.writeCsi a w
  | 0x0B => c.writeIsp 0 a w
  | 0x0C => c.writeIsp 1 a w
  | 0x0D => c.writeRtx a w
  | 0x10 => c.writeCmp a w mfst
  | 0x11 => c.writeMov a w
  | 0x20 => c.writeSo 0 a w mfst
  | 0x21 => c.writeSo 1 a w mfst
  | 0x24 => c.writeBps a w
  | 0x26 => c.writeBsc a w
  | 0x28 => c.writeLtd a w
  | 0x2A => c.writeTwp a w
  | 0x2C => c.writeLkk a w
  | _ => c.storeWordAt a w

/-- A write that reaches its register: the records and counters that every block clears in one way, else the block's
own rule. -/
def Chip.writeReg (c : Chip) (a : Nat) (w : Word) (mfst pair : Bool) : Chip :=
  if a % 65536 = 0xF0 ∧ hasArith (a / 65536) = true then (if w.getLsbD 31 then c.arithClear (a / 65536) else c)
  else if a % 65536 = cntClrAt (a / 65536) ∧ (counterRegs (a / 65536)).isEmpty = false then
    (if w.getLsbD 0 then c.countersClear (a / 65536) else c)
  else c.writeBlock a w mfst pair

/-- A write of the host, of the TAP or of the loader to an implemented register of a domain that is ON: locked bits stay
and set LOCK_ERR (R27); uses that begin enable their clock domains (R168); a scan-out lock that no longer holds ends. -/
def Chip.hostStore (c : Chip) (a : Nat) (v mask : Word) : Chip :=
  let lk := c.lockedBits a
  let touched := mask &&& lk
  let c1 := if touched = 0 then c else c.whErr erLock
  c1.withUses fun c => (c.writeReg a (c.operand a v (mask &&& ~~~ lk)) false false).lockLost

/-- A write of the host with the errors of R136. -/
def Chip.hostWrite (c : Chip) (a : Nat) (v mask : Word) : Chip := c.guardReg a fun c => c.hostStore a v mask

/-- ARITH_SAT_CLEAR (R90). -/
def execArithSatClear (region : Nat) (s : State) : Host.Outcome State Fault Refusal :=
  effect s fun c =>
    if hasArith region then c.guardReg (region * 0x10000 + 0xF0) fun c => c.arithClear region else c

/-- The address is that of a CNT_CLR, or of a counter register with a clear bit of its own. -/
def isClear (a : Nat) : Bool :=
  (a % 65536 == cntClrAt (a / 65536) && !(counterRegs (a / 65536)).isEmpty)
    || (0x60180 ≤ a && a < 0x601B0) || a == 0x40080 || a == 0x50080

/-- COUNTER_CLEAR (R752). -/
def execCounterClear (addr : Nat) (v : Word) (s : State) : Host.Outcome State Fault Refusal :=
  effect s fun c => if isClear addr then c.hostWrite addr v 0xFFFFFFFF#32 else c

/-- BARGE_SEQ_RESET (R436). -/
def execBargeSeqReset (s : State) : Host.Outcome State Fault Refusal :=
  effect s fun c => c.guardReg 0x80100 fun c => c.wr VIN_BRG_STAT_SEQ_VALID 0

end Sys2Proof.Machine
end

