-- ==== Sys2Proof/Machine/RegRead.lean ====
section
/-! DEFINITION. What a register reads: the file, with the fields that are live levels, occupancies or selected results
laid over it. Reading changes nothing (R130). -/

namespace Sys2Proof.Machine

/-- A register word with some fields laid over it. -/
def overlay (w : Word) (fs : List (Field × Nat)) : Word := fs.foldl (fun (w : Word) f => f.1.put w f.2) w

/-! ### Clocks, power, pins, loading -/

/-- Live fields of CKG (chapter 4). -/
def Chip.liveCkg (c : Chip) (a : Nat) : Word :=
  let w := c.get a
  if a = 0x000 then overlay w [(CKG_XIN_CFG_XS, c.pins.strapXs), (CKG_XIN_CFG_PRESENT, b2n c.ck.xinPresent)]
  else if a = 0x018 ∨ a = 0x028 ∨ a = 0x038 ∨ a = 0x048 then
    let p := c.pll ((a - 0x018) / 16)
    overlay w [(CKG_PLLS_STAT_LOCK, b2n p.lock), (CKG_PLLS_STAT_HOLDOVER, b2n p.holdover), (CKG_PLLS_STAT_ON, b2n p.on)]
  else if 0x100 ≤ a ∧ a < 0x164 then c.domRead ((a - 0x100) / 4 + 1)
  else if a = 0x514 then overlay w [(CKG_TB_STAT_ON_IRC, b2n c.ck.tbOnIrc)]
  else w

/-- PWR_PDSTAT's code of a domain at rest: 0 OFF, 1 RET, 2 ON. -/
def Chip.pdCode (c : Chip) (d : Nat) : Nat :=
  match c.pdState d with
  | .off => 0
  | .ret => 1
  | .on => 2

/-- PWR_PDSTAT's code of a domain: the one that is switching reads 3. -/
def Chip.pdStat (c : Chip) (d : Nat) : Nat :=
  match c.pw.queue with
  | (x, _) :: _ => if x = d then 3 else c.pdCode d
  | [] => c.pdCode d

/-- The 16 domains of PWR_PDSTAT `k`. -/
def Chip.pdStatWord (c : Chip) (k : Nat) : Word :=
  BitVec.ofNat 32 (((List.range 16).map fun j => if 16 * k + j < 52 then c.pdStat (16 * k + j) * 4 ^ j else 0).foldl (· + ·) 0)

/-- Levels as a number, the first the lowest bit. -/
def boolBits (bs : List Bool) : Nat := bs.foldr (fun b acc => b2n b + 2 * acc) 0

/-- Live fields of PWR (chapters 5 and 19). -/
def Chip.livePwr (c : Chip) (a : Nat) : Word :=
  let w := c.get a
  if 0x10030 ≤ a ∧ a < 0x10040 then c.pdStatWord ((a - 0x10030) / 4)
  else if a = 0x10050 then overlay w [(PWR_WAKE_STAT_PG_NOW, boolBits c.pw.pg)]
  else if a = 0x10064 then c.pinStat
  else if a = 0x10068 then overlay w [(PWR_GPIO_IN, b2n c.u12Level)]
  else if a = 0x1006C then BitVec.ofNat 32 c.pins.word
  else w

/-- LDR_STAT.PHASE (Table 6.11). -/
def LoadPhase.code (p : LoadPhase) : Nat :=
  match p with
  | .idle => 0
  | .otp => 1
  | .bist => 2
  | .body => 3
  | .manifests => 4
  | .done => 5
  | .failed => 6

/-- Live fields of LDR (chapter 6). -/
def Chip.liveLdr (c : Chip) (a : Nat) : Word :=
  let w := c.get a
  if a = 0x20000 then overlay w [(LDR_STAT_PHASE, c.ld.phase.code)]
  else if a = 0x20020 then overlay w [(LDR_BIST_STAT_IN_FORCE, min 255 c.ld.repairs.length)]
  else if a = 0x20024 then overlay w [(LDR_LANE_SPARED, c.ld.spared), (LDR_LANE_LANE8_BAD, b2n c.ld.lane8Bad)]
  else if a = 0x20038 then overlay w [(LDR_LEDGER_CNT_QUEUED, c.ld.queue.length)]
  else if a = 0x20064 then c.ld.shadowWord (c.rd LDR_OTP_CTL_IDX)
  else if a = 0x2006C then overlay w [(LDR_OTP_STAT_LOCKED, b2n c.ld.otpLock)]
  else w

/-! ### Memory, camera, display engines -/

/-- Live fields of MCA and MCB (chapter 7). -/
def Chip.liveMc (c : Chip) (ch a : Nat) : Word :=
  let w := c.get a
  let m := c.mc ch
  match a % 65536 with
  | 0x060 => overlay w [(MCA_REF_CTL_OWED, min 31 (m.owed.foldl (· + ·) 0))]
  | 0x0A8 => overlay w [(MCA_SLUICE_STAT_MIN_TOL, c.minTol)]
  | 0x160 => overlay w [(MCA_QSTAT_RDQ, m.readQ.length), (MCA_QSTAT_WRQ, m.writeQ.length), (MCA_QSTAT_NRQ, m.nrQ.length)]
  | 0x2C4 => c.snapWord ch
  | _ => w

/-- ISPn_STAT_DATA and ISPn_STAT_TAG (R473): `w` is ISPn_STAT_SEL; pipe 1 has context 0 only. -/
def Chip.ispSelected (c : Chip) (pipe : Nat) (w : Word) (tag : Bool) : Word :=
  let n := ISP0_STAT_SEL_CTX.get w
  if pipe = 1 ∧ n ≠ 0 then 0
  else
    let x := c.ctx (if pipe = 0 then n else 4)
    if tag then x.tag
    else BitVec.ofNat 32 ((x.bank.getD (ISP0_STAT_SEL_ZONE.get w) []).getD (ISP0_STAT_SEL_ITEM.get w) 0)

/-- The planes of a field of the last allocation, in the order of its table entries. -/
def Chip.allocPlane (c : Chip) : Option Plane :=
  let s := c.rd BPS_ALLOC_IDX_SUB
  let f := c.rd BPS_ALLOC_IDX_FIELD
  let e := c.rd BPS_ALLOC_IDX_ENTRY
  c.bps.alloc.planes.find? fun p => p.sub == s && p.field == f && p.entry == e

/-- The field BPS_ALLOC_IDX selects. -/
def Chip.allocField (c : Chip) : Option FieldAlloc :=
  c.bps.alloc.fields.find? fun p => p.sub == c.rd BPS_ALLOC_IDX_SUB && p.field == c.rd BPS_ALLOC_IDX_FIELD

/-- The buffer that the last frame was written to. -/
def Chip.lastPlaneBuf (c : Chip) : Option PlaneBuf := c.bps.bufs.getD (1 - c.bps.nextBuf) none

/-- BPS_HIST_DATA: item 0 to 11 is COUNT of that bit, 15 is PEAK. -/
def Chip.histWord (c : Chip) : Nat :=
  let k := c.rd BPS_HIST_IDX_COMP
  let i := c.rd BPS_HIST_IDX_ITEM
  match c.lastPlaneBuf with
  | none => 0
  | some b =>
    if 3 ≤ k then 0 else if i < 12 then b.counts.getD (12 * k + i) 0 else if i = 15 then b.peaks.getD k 0 else 0

/-- Live fields of BPS (Table 13.8): the results that an index selects; what is not there reads 0. -/
def Chip.liveBps (c : Chip) (a : Nat) : Word :=
  let w := c.get a
  if a = 0x240324 then BitVec.ofNat 32 ((c.allocPlane.map fun p => p.dur).getD 0)
  else if a = 0x240328 then BitVec.ofNat 32 ((c.allocPlane.map fun p => p.on % 2 ^ 24 + p.att * 2 ^ 24).getD 0)
  else if a = 0x24032C then BitVec.ofNat 32 ((c.allocField.map fun f => f.time).getD 0)
  else if a = 0x240330 then BitVec.ofNat 32 ((c.allocField.map fun f => f.g % 2 ^ 16 + f.h * 2 ^ 16).getD 0)
  else if a = 0x240344 then BitVec.ofNat 32 c.histWord
  else if a = 0x24040C then
    match c.bps.stuck[c.rd BPS_MAP_IDX_IDX]? with
    | some m => overlay 0 [(BPS_MAP_ENT_X, m.x), (BPS_MAP_ENT_Y, m.y), (BPS_MAP_ENT_STATE, b2n m.on)]
    | none => 0
  else w

/-- Live fields of BSC (Table 14.6). -/
def Chip.liveBsc (c : Chip) (a : Nat) : Word :=
  if a = 0x260058 then BitVec.ofNat 32 c.bsc.incNom
  else if a = 0x26005C then BitVec.ofNat 32 (c.bsc.incNom / 2 ^ 32)
  else if a = 0x260060 then BitVec.ofNat 32 c.bsc.inc
  else if a = 0x260064 then BitVec.ofNat 32 (c.bsc.inc / 2 ^ 32)
  else c.get a

/-- Live fields of LTD (Table 15.9). -/
def Chip.liveLtd (c : Chip) (a : Nat) : Word :=
  let w := c.get a
  if a = 0x280004 then overlay w [(LTD_STAT_STATE, c.ltdState), (LTD_STAT_ERR, c.ltdErr)]
  else if a = 0x280114 then overlay w [(LTD_TEMP_DIE, c.rd LKK_TEMP_T)]
  else w

/-- The level of a kill pin: the command's, unless the pin is stuck (R730). -/
def Chip.killPin (c : Chip) (pin : Nat) : Bool :=
  if c.lk.pinStuck.testBit pin then true else if c.lk.pinStuck.testBit (pin + 2) then false else c.lightEn

/-- Live fields of LKK (chapter 17). -/
def Chip.liveLkk (c : Chip) (a : Nat) : Word :=
  let w := c.get a
  if a = 0x2C0004 then
    overlay w [(LKK_STAT_LIGHT, b2n c.lightEn), (LKK_STAT_SAFE_SHOW, b2n c.safeShow), (LKK_STAT_PIN0, b2n (c.killPin 0)),
      (LKK_STAT_PIN1, b2n (c.killPin 1)), (LKK_STAT_DARK_REQ, b2n c.darkReq)]
  else if a = 0x2C0100 then calTimeWord c.lk
  else if a = 0x2C0104 then calDateWord c.lk
  else if a = 0x2C0118 then BitVec.ofNat 32 c.calMinNow
  else w

/-- What a register reads. CSI_PHY_STAT shows the levels of the camera's lanes, which the spec gives no command for: a
free value (log entry 33). -/
def Chip.readReg (c : Chip) (a : Nat) : Word :=
  match a / 65536 with
  | 0x00 => c.liveCkg a
  | 0x01 => c.livePwr a
  | 0x02 => c.liveLdr a
  | 0x04 => c.liveMc 0 a
  | 0x05 => c.liveMc 1 a
  | 0x0A => if a = 0xA0008 then BitVec.ofNat 32 (Config.freeNat c.free % 512) else c.get a
  | 0x0B => if a = 0xB0014 ∨ a = 0xB0018 then c.ispSelected 0 (c.get 0xB0010) (a == 0xB0018) else c.get a
  | 0x0C => if a = 0xC0014 ∨ a = 0xC0018 then c.ispSelected 1 (c.get 0xC0010) (a == 0xC0018) else c.get a
  | 0x24 => c.liveBps a
  | 0x26 => c.liveBsc a
  | 0x28 => c.liveLtd a
  | 0x2A => if a = 0x2A0010 ∧ c.retGpio = true then overlay (c.get a) [(TWP_STAT_RING, 0)] else c.get a
  | 0x2C => c.liveLkk a
  | 0x3F => if a = 0x3F0000 then BitVec.ofNat 32 (0x04826001 + c.revision % 16 * 2 ^ 28) else c.get a
  | _ => c.get a

/-- The next open value is another one once an open value has been read. -/
def Chip.afterRead (c : Chip) (a : Nat) : Chip := if a = 0xA0008 then c.takeFree else c

end Sys2Proof.Machine
end

