-- ==== Sys2Proof/Machine/Manifest.lean ====
section
/-! DEFINITION. Manifests (R143-R157): reading and checking one, launching it, applying its groups at frame boundaries,
and the burst in which a group is applied. -/

namespace Sys2Proof.Machine

/-! ### The checks of R143 -/

/-- MFST_STAT.ERR (Table 3.12). -/
def meBadMagic : Nat := 1
def meBadVersion : Nat := 2
def meBadCount : Nat := 3
def meNoEnd : Nat := 4
def meBadOp : Nat := 5
def meBadGroup : Nat := 6
def meBadCrc : Nat := 7
def meFetchFail : Nat := 8
def meNoFrame : Nat := 9
def meAborted : Nat := 10

/-- A little-endian number in a byte list. -/
def numIn (bs : List Byte) (i n : Nat) : Nat := leBytes ((bs.drop i).take n)

/-- TAG and COUNT of a manifest's header (Table 3.4). -/
def mfstTagOf (bs : List Byte) : Nat := numIn bs 6 2
def mfstCount (bs : List Byte) : Nat := numIn bs 4 2 % 2048

/-- The `n` entries that a byte list holds, three words each. -/
def mfstWords : Nat → List Byte → List (Nat × Nat × Nat)
  | 0, _ => []
  | n + 1, bs => (numIn bs 0 4, numIn bs 4 4, numIn bs 8 4) :: mfstWords n (bs.drop 12)

/-- OP of an entry (Table 3.5). -/
def mfstOp (e : Nat × Nat × Nat) : Nat := e.1 / 2 ^ 24

/-- An entry joins the groups, the first of the list being the last of the manifest. -/
def groupEntry (gs : List MfstGroup) (e : Nat × Nat × Nat) : List MfstGroup :=
  if mfstOp e = 1 then ⟨e.2.1 % 256, []⟩ :: gs
  else if mfstOp e = 0 then
    match gs with
    | [] => []
    | g :: t =>
      { g with entries := g.entries ++ [⟨e.1 % 2 ^ 24 / 4 * 4, BitVec.ofNat 32 e.2.1, BitVec.ofNat 32 e.2.2⟩] } :: t
  else gs

/-- The groups of a manifest, the implicit first one included. -/
def mfstGroupsOf (es : List (Nat × Nat × Nat)) : List MfstGroup := (es.foldl groupEntry [⟨0, []⟩]).reverse

/-- The header's checks: MAGIC, VERSION, COUNT. -/
def mfstHeaderErr (bs : List Byte) : Nat :=
  if numIn bs 0 2 ≠ 0x4D46 then meBadMagic
  else if numIn bs 2 1 ≠ 1 then meBadVersion
  else if mfstCount bs = 0 ∨ 1024 < mfstCount bs then meBadCount
  else 0

/-- The checks of R143 in its order over a whole manifest; bytes that are missing make COUNT wrong (log entry 34). -/
def mfstErr (bs : List Byte) : Nat :=
  let n := mfstCount bs
  let es := mfstWords n (bs.drop 16)
  let gs := mfstGroupsOf es
  if mfstHeaderErr bs ≠ 0 then mfstHeaderErr bs
  else if bs.length < 16 + 12 * n then meBadCount
  else if (es.map mfstOp).idxOf 0xFF ≠ n - 1 then meNoEnd
  else if es.any fun e => mfstOp e != 0 && mfstOp e != 1 && mfstOp e != 0xFF then meBadOp
  else if 16 < gs.length ∨ ((gs.drop 1).any fun g => g.offset == 0) = true then meBadGroup
  else if crc32 ((bs.drop 16).take (12 * n)) ≠ numIn bs 8 4 then meBadCrc
  else 0

/-! ### Applying a group (R144-R149) -/

/-- A WRITE entry is skipped and counted (R145). -/
def Chip.entrySkipped (c : Chip) : Chip := c.onWh fun w => { w with mfstSkipped := w.mfstSkipped + 1 }

/-- A WRITE entry: applied, or skipped with the errors that every access of that kind sets (R7, R27, R30, R136, R145).
`boundary`: the group applies at a frame boundary, so its values belong to the commit of that boundary (R147). -/
def Chip.mfstWrite (c : Chip) (boundary pair : Bool) (e : MfstEntry) : Chip :=
  if 0x800000 ≤ e.addr then c.entrySkipped
  else
    match c.access e.addr with
    | .unimpl => (c.whErr erUnimpl).entrySkipped
    | .pwroff => (c.whErr erPwroff).entrySkipped
    | .variant => (c.whErr erVariant).entrySkipped
    | .ok =>
      if e.mask &&& c.lockedBits e.addr ≠ 0 then (c.whErr erLock).entrySkipped
      else
        let c1 := c.writeReg e.addr (c.operand e.addr e.value e.mask) true pair
        let c2 := if boundary then c1.snapWrite e.addr else c1
        c2.onWh fun w => { w with mfstApplied := w.mfstApplied + 1 }

/-- The group writes both scan-out dividers (Table 4.14). -/
def MfstGroup.pair (g : MfstGroup) : Bool := (g.entries.any fun e => e.addr == 0x128) && g.entries.any fun e => e.addr == 0x12C

/-- A group's entries in their order. -/
def Chip.mfstApply (c : Chip) (boundary : Bool) (g : MfstGroup) : Chip :=
  c.withUses fun c => (g.entries.foldl (fun (c : Chip) e => c.mfstWrite boundary g.pair e) c).lockLost

/-- All groups back to back (IMMEDIATE, R146). -/
def Chip.mfstAll (c : Chip) (gs : List MfstGroup) : Chip := gs.foldl (fun (c : Chip) g => c.mfstApply false g) c

/-- The next group applies: a burst begins, and the group after it waits for its OFFSET. -/
def Chip.mfstNext (c : Chip) (g : MfstGroup) (rest : List MfstGroup) : Chip :=
  let first := c.wh.mfstState == .staged
  let c1 := c.onWh fun w =>
    { w with mfstState := .applying, mfstBurst := true, mfstGroups := rest, mfstAtFrame := false
             mfstWait := (rest.map fun x => x.offset).headD 0
             mfstGroup := if first then 0 else w.mfstGroup + 1 }
  c1.mfstApply true g

/-- The AT_FRAME target has been reached (R66, R151). -/
def Chip.mfstReached (c : Chip) : Bool := reached 16 (c.rd SOA_FRAME_FRAME % 65536) c.wh.runFrame

/-- The manifest's part of a boundary of scan-out A (R146, R151). -/
def Chip.mfstBoundary (c : Chip) : Chip :=
  match c.wh.mfstState, c.wh.mfstGroups with
  | .staged, g :: rest => if c.wh.mfstAtFrame && !c.mfstReached then c else c.mfstNext g rest
  | .applying, g :: rest =>
    if c.wh.mfstWait ≤ 1 then c.mfstNext g rest else c.onWh fun w => { w with mfstWait := w.mfstWait - 1 }
  | _, _ => c

/-- MFST_BURST_END: OVERRUN when vertical blanking has ended before a burst that began at a boundary; DONE after the
last group (R148, R156). -/
def Chip.mfstBurstOver (c : Chip) (inBlanking : Bool) : Chip :=
  let late := !inBlanking && c.wh.runWhen != 2
  let c1 := c.onWh fun w => { w with mfstBurst := false, mfstOverrun := w.mfstOverrun || late }
  if c.wh.mfstState = .applying ∧ c.wh.mfstGroups = [] then c1.mfstEnd .done 0 else c1

def execMfstBurstEnd (inBlanking : Bool) (s : State) : Host.Outcome State Fault Refusal :=
  effect s fun c => if c.wh.mfstBurst then c.mfstBurstOver inBlanking else c

/-! ### Launching (R151-R157) -/

/-- A checked manifest is staged, or applied at once under IMMEDIATE; NEXT and AT_FRAME need frame boundaries
(R146, R151, R152). -/
def Chip.mfstStage (c : Chip) (gs : List MfstGroup) : Chip :=
  if c.wh.runWhen = 2 then
    (c.onWh fun w =>
      { w with mfstState := .applying, mfstBurst := true, mfstGroups := [], mfstGroup := gs.length - 1 }).mfstAll gs
  else if c.soState 0 = 0 then c.mfstEnd .error meNoFrame
  else
    let atFrame := c.wh.runWhen == 1
    let late := atFrame && c.mfstReached
    c.onWh fun w =>
      { w with mfstState := .staged, mfstGroups := gs, mfstAtFrame := atFrame && !late, mfstLate := late, mfstWait := 0 }

/-- A manifest has arrived whole in the staging buffer: its label is taken, it is checked and staged. -/
def Chip.mfstTake (c : Chip) (bs : List Byte) : Chip :=
  let c1 := c.onWh fun w => { w with mfstTag := mfstTagOf bs }
  if mfstErr bs ≠ 0 then c1.mfstEnd .error (mfstErr bs)
  else c1.mfstStage (mfstGroupsOf (mfstWords (mfstCount bs) (bs.drop 16)))

/-- The fields that a launch clears (Table 3.12). -/
def Chip.mfstClear (c : Chip) (o : MfstOrigin) (w frame : Nat) : Chip :=
  c.onWh fun x =>
    { x with mfstLate := false, mfstOverrun := false, mfstErr := 0, mfstGroup := 0, mfstApplied := 0, mfstSkipped := 0
             mfstOrigin := o, mfstBurst := false, runWhen := w, runFrame := frame }

/-- GO: ignored while a manifest is pending or LOAD owns the buffer (R153, R155); a launch without frame boundaries
fails (R152); else the fetch starts, and takes the flash when that is free (R157). -/
def Chip.mfstLaunch (c : Chip) : Chip :=
  if c.mfstPending || c.mode.mode == .load then c.whErr erMfstBusy
  else
    let c1 := c.mfstClear .wharf c.wh.mfstWhen c.wh.mfstFrame
    if c.wh.mfstWhen ≠ 2 ∧ c.soState 0 = 0 then c1.mfstEnd .error meNoFrame
    else
      c1.onWh fun w =>
        { w with mfstState := .fetch, runDram := w.mfstSrc == 1, runAddr := w.mfstAddr / 4 * 4
                 runFlash := w.mfstSrc == 0 && c.flashIdle }

/-- ABORT ends the manifest in progress (R154). -/
def Chip.mfstStop (c : Chip) : Chip := if c.mfstPending then c.mfstEnd .error meAborted else c

/-- A write of WH_MFST_CTL: SRC and WHEN, then ABORT, then GO (log entry 35). -/
def Chip.mfstCtl (c : Chip) (v : Half) : Chip :=
  c.withUses fun c =>
    let c1 := c.onWh fun w => { w with mfstSrc := b2n (v.getLsbD 2), mfstWhen := v.toNat / 8 % 4 }
    let c2 := if v.getLsbD 1 then c1.mfstStop else c1
    if v.getLsbD 0 then c2.mfstLaunch else c2

/-- A command of the host to a top-level register of PD02: until PD02 is ON the Wharf takes none (R43), and while writes
drain it refuses it (R133). -/
def Chip.hostTop (c : Chip) (f : Chip → Chip) : Chip := if c.pdOn 2 then c.ifDrained f else c

/-- MFST_GO: `v`, the word written to WH_MFST_CTL, with GO. -/
def execMfstGo (v : Half) (s : State) : Host.Outcome State Fault Refusal :=
  effect s fun c => c.hostTop fun c => c.mfstCtl (v ||| 1#16)

/-- MFST_ABORT. -/
def execMfstAbort (s : State) : Host.Outcome State Fault Refusal :=
  effect s fun c => c.hostTop Chip.mfstStop

/-- A read through port SYS can be served from DRAM, all of it good data; beyond the installed DRAM, or in a channel
that takes no request, it is a read error (log entry 36). -/
def Chip.dramServes (c : Chip) (a n : Nat) : Bool :=
  c.mode.moored || (wordsOf a n).all fun w =>
    match c.sysLoc w with
    | none => false
    | some l => c.mcAccepts l.ch && !c.badAt w

/-- The bytes that port SYS reads; in Mooring they are zero (R351). -/
def Chip.sysBytes (c : Chip) (a n : Nat) : List Byte :=
  if c.mode.moored then List.replicate n 0#8 else c.bytesAt a n

/-- The bytes of a manifest from DRAM: its header, and its entries where the header is good. -/
def Chip.dramManifest (c : Chip) (a : Nat) : List Byte :=
  let h := c.sysBytes a 16
  if mfstHeaderErr h = 0 then h ++ c.sysBytes (a + 16) (12 * mfstCount h) else h

/-- The bytes of a manifest from flash, read with the address width of OTP word 33 (R157). -/
def Chip.flashManifest (c : Chip) (a : Nat) : List Byte :=
  let h := c.flashRead c.ld.addr4 a 16
  if mfstHeaderErr h = 0 then h ++ c.flashRead c.ld.addr4 (a + 16) (12 * mfstCount h) else h

/-- A fetch from DRAM ends. -/
def Chip.fetchDram (c : Chip) : Chip :=
  let a := c.wh.runAddr
  let bs := c.dramManifest a
  let c1 := c.readNote 11 a bs.length
  if c.dramServes a bs.length then c1.mfstTake bs else c1.mfstEnd .error meFetchFail

/-- MFST_FETCH_DONE: a fetch from flash needs PD12 ON, and the flash. -/
def Chip.fetchDone (c : Chip) : Chip :=
  if c.wh.mfstState ≠ .fetch then c
  else if c.wh.runDram then c.fetchDram
  else if !c.pdOn 12 then c.mfstEnd .error meFetchFail
  else if !c.wh.runFlash then c
  else c.mfstTake (c.flashManifest c.wh.runAddr)

def execMfstFetchDone (s : State) : Host.Outcome State Fault Refusal := effect s fun c => c.withUses Chip.fetchDone

/-- MFST_FETCH_TIMEOUT: the flash was never free (R157). -/
def execMfstFetchTimeout (s : State) : Host.Outcome State Fault Refusal :=
  effect s fun c => if c.mfstFromFlash && !c.wh.runFlash then c.mfstEnd .error meFetchFail else c

end Sys2Proof.Machine
end

