-- ==== Sys2Proof/Machine/Barges.lean ====
section
/-! DEFINITION. Barge packets (R430-R442): judging the packet at the head of the blanking stream, what an accepted one
does, the LUT packets that wait for a boundary, and the frame start that ends a stream. -/

namespace Sys2Proof.Machine

/-! ### One packet -/

/-- The packet at the head of the stream has come whole, its CRC included. -/
def Barge.whole (b : Barge) : Bool := b.seen && decide (20 + b.len ≤ b.stream.length)

/-- Its CRC-32 is right (R434). -/
def Barge.crcOk (b : Barge) : Bool := crc32 (b.stream.take (16 + b.len)) == streamNum b.stream (16 + b.len) 4

/-- Its payload. -/
def Barge.payload (b : Barge) : List Byte := (b.stream.drop 16).take b.len

/-- The stream goes on after the packet. -/
def Chip.packetOver (c : Chip) : Chip :=
  ((c.onBrg fun b =>
    let n := 20 + b.len
    { b with stream := b.stream.drop n, seen := false, blocked := false, osdDone := 0
             full := b.full.map fun r => (r.1 - n, r.2 - n) }).bargeHeader).osdArrive

/-- The packet repeats one that was accepted (R435). -/
def Chip.packetDup (c : Chip) : Bool :=
  c.flag VIN_BRG_STAT_SEQ_VALID && !reached 16 c.brg.seq ((c.rd VIN_BRG_STAT_LAST_SEQ + 1) % 65536)

/-- The packet is accepted (R435, R436): LAST_SEQ, and GAP by the missing values. -/
def Chip.packetAccept (c : Chip) : Chip :=
  let s := c.brg.seq
  let missing := if c.flag VIN_BRG_STAT_SEQ_VALID then (s + 65535 - c.rd VIN_BRG_STAT_LAST_SEQ) % 65536 else 0
  (((c.bump VIN_BRG_CNT2_GAP missing).bump VIN_BRG_CNT0_ACCEPTED 1).wr VIN_BRG_STAT_LAST_SEQ s).wr VIN_BRG_STAT_SEQ_VALID 1

/-- A whole packet: NOBUF where its resource is taken (R439-R441), CRC_ERR (R434), DUP (R435), else accepted, with the
effect `f` of its type. -/
def Chip.packet (c : Chip) (noBuf : Bool) (f : Chip → Chip) : Chip :=
  if noBuf then (c.bump VIN_BRG_CNT2_NOBUF 1).packetOver
  else if !c.brg.crcOk then
    ((c.bump VIN_BRG_CNT1_CRC_ERR 1).onBrg fun b => { b with failed := true }).packetOver
  else if c.packetDup then (c.bump VIN_BRG_CNT0_DUP 1).packetOver
  else (f c.packetAccept).packetOver

/-! ### The types (Table 9.4) -/

/-- The words of a LUT payload. -/
def payloadWords (bs : List Byte) : List Nat := (List.range (bs.length / 4)).map fun i => numIn bs (4 * i) 4

/-- A LUT packet is kept until its boundary (R438, R439). -/
def Chip.lutKeep (c : Chip) : Chip :=
  c.onBrg fun b => { b with luts := b.luts ++ [⟨b.seq, b.dest, payloadWords b.payload⟩] }

/-- A MANIFEST packet is a launch of its own (R440). -/
def Chip.bargeLaunch (c : Chip) : Chip :=
  (c.mfstClear .barge (c.brg.param % 4) (c.brg.dest % 65536)).mfstTake c.brg.payload

/-- A FENCE packet waits for the OSD writes before it; after a failure in its stream it is discarded (R437). -/
def Chip.fencePacket (c : Chip) : Chip :=
  if c.brg.failed then (c.bump VIN_BRG_CNT1_CRC_ERR 1).packetOver
  else
    c.packet false fun c =>
      c.onBrg fun b => { b with fences := b.fences ++ [(b.param % 16, b.dest % 65536)] }

/-- PAD ends the stream. -/
def Chip.padPacket (c : Chip) : Chip := c.onBrg fun b => { b with stream := [], dead := true, seen := false }

/-- The staging buffer is taken (R440). -/
def Chip.mfstTaken (c : Chip) : Bool := c.mfstPending || c.mode.mode == .load

/-- The whole packet at the head, by its type; a type that Table 9.4 does not list is skipped (R433). -/
def Chip.packetAny (c : Chip) : Chip :=
  match c.brg.type with
  | 1 => c.packet c.brg.blocked id
  | 2 => c.packet c.brg.blocked Chip.lutKeep
  | 3 => c.packet c.mfstTaken Chip.bargeLaunch
  | 4 => c.fencePacket
  | _ => (c.bump VIN_BRG_CNT3_UNKNOWN 1).packetOver

/-- The stream's head is a packet of a type that satisfies `p`, come whole. -/
def Chip.headIs (c : Chip) (p : Nat → Bool) : Bool := !c.brg.dead && c.brg.whole && p c.brg.type

/-- The head is PAD. -/
def Chip.headPad (c : Chip) : Bool := !c.brg.dead && !c.brg.stream.isEmpty && c.brg.type == 0

/-- BARGE_PAD. -/
def execBargePad (s : State) : Host.Outcome State Fault Refusal := effect s fun c => if c.headPad then c.padPacket else c

/-- BARGE_OSD. -/
def execBargeOsd (s : State) : Host.Outcome State Fault Refusal :=
  effect s fun c => if c.headIs (· == 1) then c.packetAny else c

/-- BARGE_LUT. -/
def execBargeLut (s : State) : Host.Outcome State Fault Refusal :=
  effect s fun c => if c.headIs (· == 2) then c.packetAny else c

/-- BARGE_MANIFEST. -/
def execBargeManifest (s : State) : Host.Outcome State Fault Refusal :=
  effect s fun c => if c.headIs (· == 3) then c.withUses Chip.packetAny else c

/-- BARGE_FENCE. -/
def execBargeFence (s : State) : Host.Outcome State Fault Refusal :=
  effect s fun c => if c.headIs (· == 4) then c.packetAny else c

/-- BARGE_UNKNOWN. -/
def execBargeUnknown (s : State) : Host.Outcome State Fault Refusal :=
  effect s fun c => if c.headIs (4 < ·) then c.packetAny else c

/-- BARGE_FENCE_APPLY: the OSD writes before the oldest accepted fence have completed. -/
def Chip.fenceApply (c : Chip) : Chip :=
  match c.brg.fences with
  | [] => c
  | (n, v) :: rest =>
    let c1 := c.onBrg fun b => { b with fences := rest }
    if c.pdOn 26 then c1.fenceSet n v else c1

def execBargeFenceApply (s : State) : Host.Outcome State Fault Refusal := effect s Chip.fenceApply

/-! ### LUT packets at a boundary (R438) -/

/-- Insert a packet in SEQ order (R66). -/
def lutInsert (p : LutPacket) (ps : List LutPacket) : List LutPacket :=
  match ps with
  | [] => [p]
  | q :: t => if reached 16 p.seq q.seq then q :: lutInsert p t else p :: q :: t

/-- One word of a LUT packet. -/
def Chip.lutWord (c : Chip) (a v : Nat) : Chip :=
  c.guardReg a fun c => (c.writeReg a (c.operand a (BitVec.ofNat 32 v) 0xFFFFFFFF#32) false false).snapWrite a

/-- The words of a packet to ascending addresses. -/
def Chip.lutWrite (c : Chip) (p : LutPacket) : Chip :=
  p.words.zipIdx.foldl (fun (c : Chip) x => c.lutWord (p.dest + 4 * x.2) x.1) c

/-- The waiting LUT packets apply in SEQ order; their buffers are free again. -/
def Chip.bargeLuts (c : Chip) : Chip :=
  ((c.brg.luts.foldl (fun ps p => lutInsert p ps) []).foldl Chip.lutWrite c).onBrg fun b => { b with luts := [] }

/-! ### The end of a stream -/

/-- The packets of the stream that are whole and not yet judged. -/
def Chip.drainStream (fuel : Nat) (c : Chip) : Chip :=
  match fuel with
  | 0 => c
  | n + 1 =>
    if c.headPad then c.padPacket else if c.headIs (0 < ·) then Chip.drainStream n c.packetAny else c

/-- A frame start ends the stream; what is left of a packet is TRUNC (R431). -/
def Chip.streamEnd (c : Chip) : Chip :=
  let c1 := Chip.drainStream (c.brg.stream.length + 1) c
  let c2 := if !c1.brg.dead && !c1.brg.stream.isEmpty then c1.bump VIN_BRG_CNT3_TRUNC 1 else c1
  c2.onBrg fun b =>
    { b with stream := [], dead := false, failed := false, seen := false, blocked := false, osdDone := 0, full := [] }

/-- VIN_FRAME_START: the active edge of VS, with what the device measured over the frame that ends. -/
def execVinFrameStart (totPix totLines ircCount : Nat) (s : State) : Host.Outcome State Fault Refusal :=
  effect s fun c => if c.pdOn 17 then c.withUses fun c => c.streamEnd.vinStart totPix totLines ircCount else c

end Sys2Proof.Machine
end

