-- ==== Sys2Proof/Machine/Digest.lean ====
section
/-! DEFINITION. The whole-image digest of R304: SHA-256 as FIPS 180-4 defines it, over 32-bit words. -/

namespace Sys2Proof.Machine

/-- The largest `r` below 2^38 whose `k`-th power does not exceed `n`, bit by bit from the top. -/
def rootFloor (k n : Nat) : Nat :=
  (List.range 38).foldl (fun r i => if (r + 2 ^ (37 - i)) ^ k ≤ n then r + 2 ^ (37 - i) else r) 0

/-- The first 32 fractional bits of the `k`-th root of `p`, from which FIPS 180-4 takes its constants. -/
def rootBits (k p : Nat) : Nat := rootFloor k (p * 2 ^ (32 * k)) % 2 ^ 32

/-- The primes up to the 64th, 311. -/
def smallPrimes : List Nat :=
  (List.range 312).filter fun n => decide (2 ≤ n) && (List.range n).all fun d => decide (d < 2) || n % d != 0

/-- The 64 round constants: cube roots of the first 64 primes. -/
def roundConsts : List Nat := smallPrimes.map (rootBits 3)

/-- The chaining value a digest begins with: square roots of the first eight primes. -/
def firstChain : List Nat := (smallPrimes.take 8).map (rootBits 2)

/-- Rotate a 32-bit word right. -/
def rotr (n x : Nat) : Nat := Nat.lor (x / 2 ^ n) (x * 2 ^ (32 - n) % 2 ^ 32)

/-- Addition modulo 2^32. -/
def add32 (x y : Nat) : Nat := (x + y) % 2 ^ 32

/-- The exclusive or of a word's rotations by each of `rs`, on top of `x0`. -/
def turned (rs : List Nat) (x0 x : Nat) : Nat := rs.foldl (fun acc r => Nat.xor acc (rotr r x)) x0

/-- The sum of words modulo 2^32. -/
def sum32 (ws : List Nat) : Nat := ws.foldl add32 0

/-- The message schedule as a window of sixteen words, oldest first, moved on by one. -/
def slide (w : List Nat) : List Nat :=
  let far := w.getD 1 0
  let near := w.getD 14 0
  w.drop 1 ++ [sum32 [w.getD 0 0, turned [7, 18] (far / 8) far, w.getD 9 0, turned [17, 19] (near / 1024) near]]

/-- Bit by bit, `y` where the selector is 1 and `z` where it is 0. -/
def choose (sel y z : Nat) : Nat := Nat.xor z (Nat.land sel (Nat.xor y z))

/-- Bit by bit, what at least two of the three words have. -/
def majority (x y z : Nat) : Nat := choose (Nat.xor x y) z x

/-- One round: the working words and the window of the schedule. -/
def shaRound (st : List Nat × List Nat) (k : Nat) : List Nat × List Nat :=
  let v := fun (i : Nat) => st.1.getD i 0
  let up := sum32 [v 7, turned [6, 11, 25] 0 (v 4), choose (v 4) (v 5) (v 6), k, st.2.getD 0 0]
  let down := add32 (turned [2, 13, 22] 0 (v 0)) (majority (v 0) (v 1) (v 2))
  ([add32 up down, v 0, v 1, v 2, add32 (v 3) up, v 4, v 5, v 6], slide st.2)

/-- One 64-byte block, as sixteen big-endian words. -/
def shaBlock (h : List Nat) (ws : List Nat) : List Nat :=
  let r := (roundConsts.foldl shaRound (h, ws)).1
  (h.zip r).map fun p => add32 p.1 p.2

/-- Bytes as big-endian 32-bit words. -/
def beWords : Nat → List Byte → List Nat
  | 0, _ => []
  | n + 1, bs => (bs.take 4).foldl (fun acc b => acc * 256 + b.toNat) 0 :: beWords n (bs.drop 4)

/-- The blocks of a padded message, `n` of them. -/
def shaBlocks : Nat → List Nat → List Byte → List Nat
  | 0, h, _ => h
  | n + 1, h, bs => shaBlocks n (shaBlock h (beWords 16 (bs.take 64))) (bs.drop 64)

/-- The SHA-256 digest of a message, 32 bytes. -/
def sha256 (msg : List Byte) : List Byte :=
  let n := msg.length
  let pad := (119 - n % 64) % 64
  let bits := (List.range 8).map fun i => BitVec.ofNat 8 (n * 8 / 256 ^ (7 - i))
  let m := msg ++ [0x80#8] ++ List.replicate pad 0#8 ++ bits
  let h := shaBlocks (m.length / 64) firstChain m
  h.flatMap fun w => (List.range 4).map fun i => BitVec.ofNat 8 (w / 256 ^ (3 - i))

end Sys2Proof.Machine
end

