-- ==== Sys2Proof/Machine/Loading.lean ====
section
/-! DEFINITION. LOAD (chapter 6): programming the fuses, self-test and the allocation of spares, the header and the
directory, the ledger's deliveries, sections, the digest, deferred manifests, and the two ways LOAD ends. -/

namespace Sys2Proof.Machine

/-! ### Reading the flash in LOAD -/

/-- Bytes of the image at an offset, read with FLASH_CFG. -/
def Chip.imageBytes (c : Chip) (ofs n : Nat) : List Byte := c.flashRead (c.ld.flashCfg.testBit 1) (c.ld.imgBase + ofs) n

/-- Bytes of the image at an offset, read with the OTP read settings (Table 6.2). -/
def Chip.headBytes (c : Chip) (ofs n : Nat) : List Byte :=
  c.flashRead c.ld.addr4 (c.ld.imgBase + ofs) n

/-! ### The end of LOAD -/

/-- LDR_TIME: the duration of LOAD by the timebase. -/
def Chip.loadTime (c : Chip) : Chip := c.wr LDR_TIME_US (min (2 ^ 32 - 1) ((c.now + 2 ^ 64 - c.ld.startedAt) % 2 ^ 64 / 1000))

/-- A check fails: LOAD ends at once, the SAFE SRAM is cleared, and E5 begins (R278, R281). -/
def Chip.loadFail (c : Chip) (err : Nat) : Chip :=
  let c1 := ((c.wr LDR_STAT_ERR err).loadTime.onLd fun l => { l with phase := .failed, safePlaced := false }).onCmp fun k =>
    { k with safe := [] }
  (c1.onMode fun x => { x with imageValid := false, loadFailed := true }).beginEdge .e5 .standby

/-- The same at a section: its index and its offset in the image. -/
def Chip.loadFailAt (c : Chip) (err sect ofs : Nat) : Chip :=
  ((c.wr LDR_ERR_POS_SECT sect).wr LDR_ERR_POS_OFS (ofs / 4)).loadFail err

/-- A manifest section fails a check of R143. -/
def Chip.loadMfst (c : Chip) (code sect ofs : Nat) : Chip := (c.wr LDR_STAT_MFST_ERR code).loadFailAt 9 sect ofs

/-! LDR_STAT.ERR (Table 6.9). -/
def leBist : Nat := 1
def leLane : Nat := 2
def leBadMagic : Nat := 3
def leBadHdr : Nat := 4
def leBadDir : Nat := 5
def leBadType : Nat := 6
def leSectCrc : Nat := 7
def leNoDram : Nat := 8
def leDigest : Nat := 10
def leSafeNoDigest : Nat := 11
def leBadSafe : Nat := 12

/-- LOAD runs in a phase. -/
def Chip.inLoad (c : Chip) (p : LoadPhase) : Bool := c.mode.mode == .load && c.mode.edge.isNone && c.ld.phase == p

/-! ### Entry, and the fuses (R301-R303) -/

/-- One marked word: skipped as a CONFLICT where the fuse holds a 1 that the staged word does not. Else its bits are
programmed and the word read again: which of them take is the fuses' own (a free value, log entry 37), and a word that
reads back differently sets its bit of VERIFY. -/
def Chip.otpProgram (c : Chip) (n : Nat) : Chip :=
  let staged := c.get (0x20200 + 4 * n)
  let fuse := c.ld.fuse (32 + n)
  if fuse &&& ~~~ staged ≠ 0 then c.setBit LDR_OTP_CONFLICT_BITS n true
  else
    let got := fuse ||| (staged &&& BitVec.ofNat 32 (Config.freeNat c.free))
    let c1 := (c.onLd fun l => { l with otp := SMap.set otpDefault l.otp (32 + n) got }).takeFree
    if got ≠ staged then c1.setBit LDR_OTP_VERIFY_BITS n true else c1

/-- The marked words in the order in which they are programmed: ascending, word 34 last. -/
def Chip.otpWords (c : Chip) : List Nat :=
  ((List.range 32).filter fun n => n != 2 && c.bit LDR_OTP_PMASK_MASK n) ++ (if c.bit LDR_OTP_PMASK_MASK 2 then [2] else [])

/-- Armed programming at LOAD; ARM clears when it ends. -/
def Chip.loadOtp (c : Chip) : Chip :=
  if !c.flag LDR_OTP_CTL_ARM then c
  else ((if c.ld.otpLock then c else c.otpWords.foldl Chip.otpProgram c)).wr LDR_OTP_CTL_ARM 0

/-- LOAD starts: what the last LOAD left in the loader is cleared, the fuses are programmed and read, self-test
phase 1 starts (Table 6.8). -/
def Chip.loadStart (c : Chip) : Chip :=
  let c1 := (((c.setReg 0x20000 0).setReg 0x20010 0).setReg 0x20020 0).loadOtp
  let c2 := c1.onLd fun l =>
    { l with phase := .bist, headerRead := false, scanned := false, phase1 := false, startedAt := c.now, dir := []
             nextSect := 0, safePlaced := false, shadow := l.otp
             imgBase := (l.fuse 32).toNat / 4096 * 4096 }
  [0, 1].foldl (fun (c : Chip) ch => c.onMc ch fun m => { m with softRecords := [] }) c2

/-- LOAD_ENTERED: E3 ends, LOAD starts, and a manifest that waits ends (R155). No edge is in progress until LOAD ends (log
entry 12); the request keeps its target and its TAG. -/
def Chip.loadEntered (c : Chip) : Chip :=
  ((if c.mfstPending then c.mfstEnd .error meAborted else c).wakeDram.enter .load causeHost).loadStart

def execLoadEntered (s : State) : Host.Outcome State Fault Refusal :=
  effect s fun c => if c.mode.edge = some .e3 then c.loadEntered else c

/-! ### Header and directory (R272, Tables 6.3, 6.4, 6.9) -/

/-- A directory entry. -/
def sectionOf (b : List Byte) : Section :=
  { type := numIn b 0 1, flags := numIn b 1 1, id := numIn b 2 2, offset := numIn b 4 4, length := numIn b 8 4
    dest := numIn b 12 4, crc := numIn b 16 4 }

/-- FLAGS (Table 6.4). -/
def Section.optional (s : Section) : Bool := s.flags.testBit 0
def Section.early (s : Section) : Bool := s.flags.testBit 1

/-- TYPE is one of Table 6.5. -/
def knownType (t : Nat) : Bool := [1, 2, 3, 4, 15].contains t

/-- The error of one entry, `low` being where the one before ends (R272, BADTYPE of Table 6.9). -/
def sectionErr (s : Section) (low imgLen : Nat) : Nat :=
  if s.offset % 4 ≠ 0 ∨ s.length % 4 ≠ 0 ∨ s.length < 4 ∨ s.offset < low ∨ imgLen < s.offset + s.length then leBadDir
  else if s.type = 2 ∧ 0x800000 < s.dest + s.length then leBadDir
  else if (!knownType s.type && !s.optional) || (s.early && s.type != 1) then leBadType
  else 0

/-- The first bad entry: its index, its offset and the error. -/
def dirErr (ss : List Section) (i low imgLen : Nat) : Option (Nat × Nat × Nat) :=
  match ss with
  | [] => none
  | s :: t =>
    if sectionErr s low imgLen ≠ 0 then some (i, s.offset, sectionErr s low imgLen)
    else dirErr t (i + 1) (s.offset + s.length) imgLen

/-- What a whole directory breaks: SAFE_NODIGEST, then BADSAFE (R283). -/
def safeErr (ss : List Section) (digestEn : Bool) : Option (Nat × Nat × Nat) :=
  match ss.zipIdx.filter fun p => p.1.type == 4 with
  | [] => none
  | (s, i) :: t =>
    if !digestEn then some (i, s.offset, leSafeNoDigest)
    else ((s, i) :: t).findSome? fun p => if 32768 < p.1.length then some (p.2, p.1.offset, leBadSafe) else none

/-- The ledger's placement (Table 6.3, R272): sector aligned, at most 16 sectors, outside the image. -/
def ledgerOk (off sect base len : Nat) : Bool :=
  sect == 0 || (decide (sect ≤ 16) && off % 4096 == 0 && (decide (base + len ≤ off) || decide (off + 4096 * sect ≤ base)))

/-- The header's error. -/
def headerErr (h : List Byte) (base : Nat) : Nat :=
  let n := numIn h 6 2
  let len := numIn h 8 4
  if numIn h 0 4 ≠ 0x4D4C4F50 ∨ numIn h 4 2 ≠ 1 then leBadMagic
  else if crc32 (h.take 60) ≠ numIn h 60 4 ∨ n = 0 ∨ 64 < n ∨ len % 4 ≠ 0 ∨ 64 * 1048576 < len
      ∨ ledgerOk (numIn h 20 4) (numIn h 24 1) base len = false then leBadHdr
  else 0

/-- The directory is read and checked. -/
def Chip.dirRead (c : Chip) (h : List Byte) : Chip :=
  let n := numIn h 6 2
  let d := c.headBytes 64 (24 * n)
  let ss := (List.range n).map fun i => sectionOf (d.drop (24 * i))
  let c1 := c.onLd fun l =>
    { l with imgLen := numIn h 8 4, flashCfg := numIn h 12 4, ledgerOff := numIn h 20 4, ledgerSect := numIn h 24 1
             dir := ss, headerRead := true, scanned := numIn h 24 1 == 0, maxSeq := none, keys := [], appended := [] }
  match dirErr ss 0 (64 + 24 * n) (numIn h 8 4) with
  | some e => c1.loadFailAt e.2.2 e.1 e.2.1
  | none =>
    match safeErr ss ((c.ld.shadowWord 34).getLsbD 0) with
    | some e => c1.loadFailAt e.2.2 e.1 e.2.1
    | none => c1

/-- LDR_HEADER_READ: `jedec`, the identification that the flash returns. -/
def Chip.headerRead (c : Chip) (jedec : Nat) : Chip :=
  let h := c.headBytes 0 64
  let c1 := ((c.wr LDR_FLASH_ID_ID jedec).wr LDR_IMG_VER_VER (numIn h 16 4)).wr LDR_IMG_LEN_LEN (numIn h 8 4)
  if headerErr h c.ld.imgBase ≠ 0 then c1.loadFail (headerErr h c.ld.imgBase) else c1.dirRead h

def execLdrHeaderRead (jedec : Nat) (s : State) : Host.Outcome State Fault Refusal :=
  effect s fun c => if c.inLoad .bist && !c.ld.headerRead then c.headerRead jedec else c

/-! ### The ledger's deliveries (R288, Table 6.7) -/

/-- DATA byte `i` of a record. -/
def recData (b : List Byte) (i n : Nat) : Nat := recNum b (12 + i) n

/-- A soft PPR record joins its channel's list (R389). -/
def Chip.deliverPpr (c : Chip) (b : List Byte) : Chip :=
  let u := recNum b 8 2
  if recData b 6 1 = 0 ∧ u < 4 then
    c.onMc (u / 2) fun m =>
      { m with softRecords := m.softRecords ++ [[u % 2, recData b 0 1 * 4 + recData b 1 1, recData b 2 4]] }
  else c

/-- A migrated channel enters RETIRED, redirected to rank 1 (R395, Table 8.4). -/
def Chip.deliverRetired (c : Chip) (b : List Byte) : Chip :=
  let ch := recNum b 8 2
  if ch < 2 ∧ c.migState ch ≠ 4 then ((c.setMig ch 4).wr ((MCX_MIG_STAT_REDIRECT).at ch) 1).scrubAt ch 1 0 else c

/-- A stuck mirror joins the map (R621). -/
def Chip.deliverStuck (c : Chip) (b : List Byte) : Chip :=
  (c.stuckInsert ⟨recData b 0 2, recData b 2 2, recData b 4 1 != 0⟩).1

/-- A valid record goes to the block that owns its KIND. -/
def Chip.deliverRecord (c : Chip) (b : List Byte) : Chip :=
  match (b.getD 1 0).toNat with
  | 0x10 => c.deliverPpr b
  | 0x11 => c.deliverRetired b
  | 0x20 => c.deliverStuck b
  | _ => c

/-- LEDGER_SCAN (R287, R288). -/
def Chip.ledgerScan (c : Chip) : Chip :=
  let c1 := c.scanLedger.onLd fun l => { l with scanned := true }
  c1.ld.appended.foldl Chip.deliverRecord c1

def execLedgerScan (s : State) : Host.Outcome State Fault Refusal :=
  effect s fun c => if c.inLoad .bist && c.ld.headerRead && !c.ld.scanned then c.ledgerScan else c

/-! ### Self-test and spares (R273, R284-R286) -/

/-- The spares of one macro: rows and columns still free, repairs in force (row or column, index), those added at this
LOAD, those of steps 3 to 5, and ledger repairs skipped. -/
structure Spares where
  rows : Nat
  cols : Nat
  force : List (Bool × Nat)
  added : List (Bool × Nat)
  fresh : List (Bool × Nat)
  skipped : Nat
deriving DecidableEq, Repr

/-- A cell is covered. -/
def Spares.covers (x : Spares) (q : Nat × Nat) : Bool := x.force.contains (true, q.1) || x.force.contains (false, q.2)

/-- A spare of the kind is free. -/
def Spares.hasFree (x : Spares) (row : Bool) : Bool := if row then decide (0 < x.rows) else decide (0 < x.cols)

/-- Take a spare of a kind; `fresh`: of steps 3 to 5. -/
def Spares.take (x : Spares) (row : Bool) (i : Nat) (fresh : Bool) : Spares :=
  { x with
      rows := if row then x.rows - 1 else x.rows
      cols := if row then x.cols else x.cols - 1
      force := x.force ++ [(row, i)]
      added := x.added ++ [(row, i)]
      fresh := if fresh then x.fresh ++ [(row, i)] else x.fresh }

/-- Step 2: a ledger repair (R285). -/
def Spares.ledger (x : Spares) (r : Bool × Nat) : Spares :=
  if x.force.contains r then x
  else if x.hasFree r.1 then x.take r.1 r.2 false
  else { x with skipped := x.skipped + 1 }

/-- A failing cell before another in ascending row order, then column. -/
def cellBefore (a b : Nat × Nat) : Bool := decide (a.1 < b.1) || (a.1 == b.1 && decide (a.2 < b.2))

/-- Insert in an order. -/
def insertBy {α : Type} (lt : α → α → Bool) (x : α) (l : List α) : List α :=
  match l with
  | [] => [x]
  | y :: t => if lt x y then x :: y :: t else y :: insertBy lt x t

/-- Sorted by insertion. -/
def sortBy {α : Type} (lt : α → α → Bool) (l : List α) : List α := l.foldr (insertBy lt) []

/-- Steps 3 and 4: each row, or column, with two or more failing cells not yet covered takes a spare of its kind. -/
def Spares.lines (x : Spares) (row : Bool) (cells : List (Nat × Nat)) : Spares :=
  let pos := fun (q : Nat × Nat) => if row then q.1 else q.2
  let lines := sortBy (fun a b => decide (a < b)) (cells.map pos).eraseDups
  lines.foldl
    (fun (x : Spares) v =>
      let n := (cells.filter fun q => pos q == v && !x.covers q).length
      if 2 ≤ n ∧ x.hasFree row = true then x.take row v true else x) x

/-- Step 5: a remaining cell takes a spare row, else a spare column. -/
def Spares.cell (x : Spares) (q : Nat × Nat) : Spares :=
  if x.covers q then x else if x.hasFree true then x.take true q.1 true else if x.hasFree false then x.take false q.2 true else x

/-- The five steps of R284 for one macro. -/
def spareMacro (table ledger : List (Bool × Nat)) (small : Bool) (cells : List (Nat × Nat)) : Spares :=
  let n := if small then 0 else 2
  let used := fun (row : Bool) => (table.filter fun r => r.1 == row).length
  let x0 : Spares := ⟨n - used true, n - used false, table, [], [], 0⟩
  let cs := sortBy cellBefore cells
  let x1 := ledger.foldl Spares.ledger x0
  cs.foldl Spares.cell ((x1.lines true cs).lines false cs)

/-- A macro that its spares do not repair: an uncovered cell, or more than 8 failing cells. -/
def Spares.bad (x : Spares) (cells : List (Nat × Nat)) : Bool := decide (8 < cells.length) || cells.any fun q => !x.covers q

/-- The repairs of the table for one macro. -/
def Loader.tableOf (l : Loader) (m : Nat) : List (Bool × Nat) :=
  (l.repairs.filter fun r => r.macroNo == m).map fun r => (r.isRow, r.index)

/-- The SRAM records of the ledger for one macro. -/
def Loader.ledgerOf (l : Loader) (m : Nat) : List (Bool × Nat) :=
  l.appended.filterMap fun b =>
    let k := (b.getD 1 0).toNat
    if (k = 1 ∨ k = 2) ∧ recNum b 8 2 = m then some (k == 1, recData b 0 2) else none

/-- The lanes that BLEND_LANE records of the ledger name. -/
def Loader.ledgerLanes (l : Loader) : List Nat :=
  l.appended.filterMap fun b => if (b.getD 1 0).toNat = 3 ∧ recNum b 8 2 < 8 then some (recNum b 8 2) else none

/-- The macros with work to do: those that failed and those of the ledger, ascending. -/
def Loader.macros (l : Loader) (fails : List (Nat × List (Nat × Nat))) : List Nat :=
  let led := l.appended.filterMap fun b =>
    if (b.getD 1 0).toNat = 1 ∨ (b.getD 1 0).toNat = 2 then some (recNum b 8 2) else none
  sortBy (fun a b => decide (a < b)) ((fails.map fun f => f.1) ++ led).eraseDups

/-- The failing cells of a macro. -/
def cellsOf (fails : List (Nat × List (Nat × Nat))) (m : Nat) : List (Nat × Nat) :=
  ((fails.filter fun f => f.1 == m).flatMap fun f => f.2).eraseDups

/-- A request for the record of a fresh repair (R286). -/
def Chip.repairRecord (c : Chip) (m : Nat) (r : Bool × Nat) : Chip :=
  c.blockRecord (if r.1 then 1 else 2) m [r.2 % 256, r.2 / 256 % 256]

/-- Repairs join the table and, its domain being ON throughout LOAD, the macro (R274, R286). -/
def Loader.addRepairs (l : Loader) (rs : List Repair) : Loader :=
  { l with repairs := l.repairs ++ rs
           inMacros := l.inMacros.zipIdx.map fun x => x.1 ++ rs.filter fun r => Config.macroDomain r.macroNo == x.2 }

/-- One macro: its repairs enter the table and the counts, fresh ones are requested as records. -/
def Chip.repairMacro (c : Chip) (m : Nat) (x : Spares) : Chip :=
  let c1 := (c.bump LDR_BIST_STAT_NEW_REPAIRS x.fresh.length).bump LDR_BIST_STAT_LEDGER_SKIP x.skipped
  let c2 := c1.onLd fun l => l.addRepairs (x.added.map fun r => ⟨m, r.1, r.2⟩)
  x.fresh.foldl (fun (c : Chip) r => c.repairRecord m r) c2

/-- The lane map (R275, R276): failing lanes, those of the ledger and the one replaced before; a lane newly replaced is
requested as a record. -/
def Chip.laneMap (c : Chip) (lanes : List Nat) : Chip :=
  let kept := c.ld.ledgerLanes ++ (if c.ld.spared < 8 then [c.ld.spared] else [])
  let bad := ((lanes.filter fun n => decide (n < 8)) ++ kept).eraseDups
  let bad8 := lanes.contains 8
  let c1 := c.onLd fun l => { l with lane8Bad := bad8 }
  match bad with
  | [] => c1.onLd fun l => { l with spared := 15, phase1 := true }
  | [n] =>
    if bad8 then c1.loadFail leLane
    else
      let c2 := c1.onLd fun l => { l with spared := n, phase1 := true }
      if kept.contains n then c2 else c2.blockRecord 3 n []
  | _ => c1.loadFail leLane

/-- BIST_PHASE1_DONE: `fails`, the failing (row, column) cells by macro; `small`, the macros of less than 16 KiB, which
have no spares (R273); `lanes`, the lanes that fail with no repair that covers it. -/
def Chip.bistPhase1 (c : Chip) (fails : List (Nat × List (Nat × Nat))) (small lanes : List Nat) : Chip :=
  let xs := (c.ld.macros fails).map fun m =>
    (m, spareMacro (c.ld.tableOf m) (c.ld.ledgerOf m) (small.contains m) (cellsOf fails m))
  let c1 := xs.foldl (fun (c : Chip) x => c.repairMacro x.1 x.2) c
  match xs.find? fun x => x.2.bad (cellsOf fails x.1) with
  | some x => (c1.wr LDR_BIST_STAT_FAIL_MACRO x.1).loadFail leBist
  | none => c1.laneMap lanes

def execBistPhase1Done (fails : List (Nat × List (Nat × Nat))) (small lanes : List Nat) (s : State) :
    Host.Outcome State Fault Refusal :=
  effect s fun c =>
    if c.inLoad .bist && c.ld.headerRead && c.ld.scanned && !c.ld.phase1 then c.bistPhase1 fails small lanes else c

/-- BIST_PHASE2_DONE: the macros and the lanes that are still bad. A lane that fails only now is replaced as in phase 1
(R275, R276); the self-test is over and the lane out of service goes OFF (R222). -/
def Chip.bistPhase2 (c : Chip) (macros lanes : List Nat) : Chip :=
  match sortBy (fun a b => decide (a < b)) macros with
  | m :: _ => (c.wr LDR_BIST_STAT_FAIL_MACRO m).loadFail leBist
  | [] =>
    let c1 := c.laneMap (lanes ++ if c.ld.lane8Bad then [8] else [])
    if c1.ld.phase = .failed then c1 else (c1.onLd fun l => { l with phase := .body }).pdPlan

def execBistPhase2Done (macros lanes : List Nat) (s : State) : Host.Outcome State Fault Refusal :=
  effect s fun c => if c.inLoad .bist && c.ld.phase1 then c.bistPhase2 macros lanes else c

/-! ### The image body (R278-R282) -/

/-- Every word of a range of DRAM can be written now. -/
def Chip.dramReady (c : Chip) (a n : Nat) : Bool :=
  (wordsOf a n).all fun w =>
    match c.sysLoc w with
    | none => false
    | some l => c.mcAccepts l.ch

/-- A manifest of LOAD reports in LDR_STAT only: the counts of the Wharf stay. -/
def Chip.loadApply (c : Chip) (bs : List Byte) : Chip :=
  (c.mfstAll (mfstGroupsOf (mfstWords (mfstCount bs) (bs.drop 16)))).onWh fun w =>
    { w with mfstApplied := c.wh.mfstApplied, mfstSkipped := c.wh.mfstSkipped }

/-- The words of a CSR_BLOCK to ascending addresses. -/
def Chip.csrBlock (c : Chip) (dest : Nat) (bs : List Byte) : Chip :=
  (payloadWords bs).zipIdx.foldl
    (fun (c : Chip) x => c.hostWrite ((dest + 4 * x.2) / 4 * 4) (BitVec.ofNat 32 x.1) 0xFFFFFFFF#32) c

/-- The SAFE bitmap into its SRAM, whose unlisted bytes are 0. -/
def Chip.safeBlock (c : Chip) (bs : List Byte) : Chip :=
  (c.onCmp fun k => { k with safe := SMap.setRun (fun _ => (0 : Byte)) k.safe 0 1 bs }).onLd fun l =>
    { l with safePlaced := true }

/-- The next section follows. -/
def Chip.sectionOver (c : Chip) : Chip := c.onLd fun l => { l with nextSect := l.nextSect + 1 }

/-- A section is placed as it is read; none where DRAM is not ready for it. -/
def Chip.placeSection (c : Chip) (s : Section) (bs : List Byte) : Option Chip :=
  if s.type = 3 ∨ (s.type = 1 ∧ s.early = false) then
    if c.dramReady s.dest bs.length then some (c.writeBytes 11 s.dest bs) else none
  else if s.type = 2 then some (c.csrBlock s.dest bs)
  else if s.type = 4 then some (c.safeBlock bs)
  else some c

/-- SECTION_READ: placed, checked, an EARLY manifest applied at once (R280). -/
def Chip.sectionRead (c : Chip) (s : Section) : Chip :=
  let bs := c.imageBytes s.offset s.length
  match c.placeSection s bs with
  | none => c.loadFailAt leNoDram c.ld.nextSect s.offset
  | some c1 =>
    if crc32 bs ≠ s.crc then c1.loadFailAt leSectCrc c.ld.nextSect s.offset
    else if s.type = 1 ∧ s.early = true then
      if mfstErr bs ≠ 0 then c1.loadMfst (mfstErr bs) c.ld.nextSect s.offset else (c1.loadApply bs).sectionOver
    else c1.sectionOver

def execSectionRead (s : State) : Host.Outcome State Fault Refusal :=
  effect s fun c =>
    if c.inLoad .body then
      match c.ld.dir[c.ld.nextSect]? with
      | some x => c.sectionRead x
      | none => c
    else c

/-- A deferred manifest, from DRAM (R280); one that cannot be read whole is FETCHFAIL. A read whose error takes
    the device to HOLD ends the delivery there (R367). -/
def Chip.deferred (c : Chip) (x : Section × Nat) : Chip :=
  if c.ld.phase ≠ .manifests ∨ c.mode.edge.isSome = true then c
  else
    let bs := c.sysBytes x.1.dest x.1.length
    let c1 := c.readNote 11 x.1.dest x.1.length
    let e := if c.dramServes x.1.dest x.1.length then mfstErr bs else meFetchFail
    if c1.mode.edge.isSome then c1 else if e ≠ 0 then c1.loadMfst e x.2 x.1.offset else c1.loadApply bs

/-- The deferred manifests of the directory, in its order. -/
def Loader.deferredOf (l : Loader) : List (Section × Nat) := l.dir.zipIdx.filter fun p => p.1.type == 1 && !p.1.early

/-- The digest that the fuses expect (Table 6.2). -/
def Loader.digest (l : Loader) : List Byte := (List.range 8).flatMap fun k => toLe 4 (l.shadowWord (40 + k)).toNat

/-- BODY_READ_DONE: the digest binds when DIGEST_EN is set (R304), then the deferred manifests apply. -/
def Chip.bodyDone (c : Chip) : Chip :=
  let on := (c.ld.shadowWord 34).getLsbD 0
  let ok := !on || sha256 (c.imageBytes 0 c.ld.imgLen) == c.ld.digest
  if !ok then c.loadFail leDigest
  else
    let c1 := (c.wr LDR_STAT_DIGEST_OK (b2n on)).onLd fun l => { l with phase := .manifests }
    c.ld.deferredOf.foldl Chip.deferred c1

def execBodyReadDone (s : State) : Host.Outcome State Fault Refusal :=
  effect s fun c => if c.inLoad .body && c.ld.nextSect == c.ld.dir.length then c.bodyDone else c

/-! ### LOAD ends (R41, R42, R282) -/

/-- LOAD ends with a valid image: the lock events of its end, then E4 to the target (Table 1.4). -/
def Chip.loadComplete (c : Chip) : Chip :=
  let t := if c.mode.target = .load then .standby else c.mode.target
  let c1 := (c.loadTime.onLd fun l => { l with phase := .done }).onMode fun x => { x with imageValid := true, loadFailed := false }
  let c2 : Chip :=
    { c1 with locks := { c1.locks with pinmux := true, dbg := true, maxv := true, safe := c1.locks.safe || c.ld.safePlaced } }
  let c3 := if c.ld.safePlaced then (c2.wr LDR_STAT_SAFE_LOCKED 1).withSafe Chip.safeLock else c2
  c3.beginEdge .e4 t

def execLoadComplete (s : State) : Host.Outcome State Fault Refusal :=
  effect s fun c => if c.inLoad .manifests then c.loadComplete else c

/-- LOAD_FAIL_EXIT: E5 ends. -/
def Chip.loadFailEnd (c : Chip) : Chip :=
  ((c.standDram.enter .standby causeLoadFail).onMode fun x => { x with imageValid := false }).report

def execLoadFailExit (s : State) : Host.Outcome State Fault Refusal :=
  effect s fun c => if c.mode.edge = some .e5 then c.loadFailEnd else c

end Sys2Proof.Machine
end

