-- ==== Sys2Proof/Machine/Wharf.lean ====
section
/-! DEFINITION. The Wharf port (chapter 3): top-level registers, the status byte, whole write and read transactions with
their checks, the indirect window, its prefetches and draining writes, and the DRAM aperture. -/

namespace Sys2Proof.Machine

/-! ### The DRAM aperture (R137-R141, R384) -/

/-- The aperture's addresses. -/
def inAperture (a : Nat) : Bool := decide (0x800000 ≤ a)

/-- The system address an aperture address reaches (R137). -/
def Chip.aperSys (c : Chip) (a : Nat) : Nat := c.wh.aperBase * 1048576 + (a - 0x800000)

/-- The access can be performed (R140). -/
def Chip.aperOpen (c : Chip) (sys : Nat) : Bool :=
  match c.sysLoc sys with
  | none => false
  | some l => (c.mcState l.ch == mcActive || c.mcState l.ch == mcSweep) && !c.isFrozen l.ch

/-- An aperture read: the word, and what the access leaves behind. -/
def Chip.aperRead (c : Chip) (a : Nat) : Word × Chip :=
  let sys := c.aperSys a
  if !c.aperOpen sys then (0, c.whErr erAper)
  else
    match c.readSys sys with
    | none => (0, c.whErr erAper)
    | some r =>
      let c1 := (c.clientLine 11 (sys / 64 * 64) false []).noteRead 15 (sys / 8 * 8) r
      if 2 ≤ r.cls then (0, c1.whErr erAperUe) else (BitVec.ofNat 32 (r.data / 2 ^ (32 * (sys / 4 % 2))), c1)

/-- An aperture write: a read-modify-write of its 8-byte word, not performed on a bad word (R138, R384). -/
def Chip.aperWrite (c : Chip) (a : Nat) (v : Word) : Chip :=
  let sys := c.aperSys a
  if !c.aperOpen sys then c.whErr erAper
  else
    match c.readSys sys with
    | none => c.whErr erAper
    | some r =>
      let c1 := (c.clientLine 11 (sys / 64 * 64) false []).noteRead 15 (sys / 8 * 8) r
      if 2 ≤ r.cls then c1.whErr erAperUe
      else
        (c1.clientLine 11 (sys / 64 * 64) true (runMask (sys / 64 * 64) sys 4)).storeWord (sys / 8 * 8)
          (spliceBytes r.data (sys % 8 / 4 * 4) (toLe 4 v.toNat))

/-- An aperture access waits: its channel runs a sweep or a repair and serves no port (R324, R387). -/
def Chip.aperWaits (c : Chip) (a : Nat) : Bool :=
  match c.sysLoc (c.aperSys a) with
  | none => false
  | some l => c.aperOpen (c.aperSys a) && !c.mcServes l.ch

/-! ### Internal accesses -/

/-- An internal read by the host: the word, and the errors it sets (R7, R30, R136). -/
def Chip.hostRead (c : Chip) (a : Nat) : Word × Chip :=
  match c.access a with
  | .ok => (c.readReg a, c.afterRead a)
  | .unimpl => (0, c.whErr erUnimpl)
  | .pwroff => (0, c.whErr erPwroff)
  | .variant => (0, c.whErr erVariant)

/-- The window starts a prefetch of the internal address (R124). -/
def Chip.startPrefetch (c : Chip) : Chip := c.onWh fun w => { w with prefetch := some w.iaddr, ready := false }

/-- The read holder takes a word (R131). -/
def Chip.holderTake (r : Word × Chip) : Chip := r.2.onWh fun w => { w with readHolder := r.1, ready := true, prefetch := none }

/-- The prefetch in progress completes. It follows the writes that drain, so that it sees them (log entry 38). -/
def Chip.prefetchDone (c : Chip) : Chip :=
  match c.wh.prefetch with
  | none => c
  | some a => Chip.holderTake (if inAperture a then c.aperRead a else c.hostRead a)

/-- PREFETCH_COMPLETE: outside the aperture (R131). -/
def execPrefetchComplete (s : State) : Host.Outcome State Fault Refusal :=
  effect s fun c =>
    match c.wh.prefetch with
    | some a => if c.wh.drain = [] ∧ inAperture a = false then c.prefetchDone else c
    | none => c

/-- The oldest draining write leaves the queue. -/
def Chip.drainPop (c : Chip) : Chip := c.onWh fun w => { w with drain := w.drain.drop 1 }

/-- INTERNAL_WRITE_COMPLETE (R132). -/
def execInternalWriteComplete (s : State) : Host.Outcome State Fault Refusal :=
  effect s fun c =>
    match c.wh.drain with
    | (a, v) :: _ => if inAperture a then c else c.drainPop.hostWrite a v 0xFFFFFFFF#32
    | [] => c

/-- APERTURE_COMPLETE: the oldest draining write when it goes to the aperture, else a prefetch from it (R139). -/
def execApertureComplete (s : State) : Host.Outcome State Fault Refusal :=
  effect s fun c =>
    match c.wh.drain, c.wh.prefetch with
    | (a, v) :: _, _ => if inAperture a && !c.aperWaits a then c.drainPop.aperWrite a v else c
    | [], some a => if inAperture a && !c.aperWaits a then c.prefetchDone else c
    | [], none => c

/-! ### The indirect window (R123-R129) -/

/-- A write of WH_IADDR_HI or WH_IADDR_LO (R123, R124). -/
def Chip.iaddrWrite (c : Chip) (high : Bool) (v : Half) : Chip :=
  (c.onWh fun w =>
    { w with iaddr := if high then v.toNat % 256 * 65536 + w.iaddr % 65536
                      else w.iaddr / 65536 * 65536 + v.toNat / 4 * 4 }).startPrefetch

/-- AUTOINC advances the address by 4 modulo 2^24 (R129). -/
def Chip.iaddrNext (c : Chip) : Chip := c.onWh fun w => { w with iaddr := if w.autoinc then (w.iaddr + 4) % 2 ^ 24 else w.iaddr }

/-- A write of WH_IDATA_HI (R127). -/
def Chip.idataHiPut (c : Chip) (v : Half) : Chip := c.onWh fun w => { w with writeHolder := v }

/-- A write of WH_IDATA_LO (R128): the write waits in the drain. -/
def Chip.idataLoPut (c : Chip) (v : Half) : Chip :=
  ((c.onWh fun w => { w with drain := w.drain ++ [(w.iaddr, w.writeHolder ++ v)] }).iaddrNext).startPrefetch

/-- A read of WH_IDATA_HI from a valid read holder (R125). -/
def Chip.idataHiGet (c : Chip) : Half × Chip :=
  let c1 := c.onWh fun w => { w with loLatch := w.readHolder.setWidth 16 }
  ((c.wh.readHolder >>> 16).setWidth 16, if c.wh.autoinc then c1.iaddrNext.startPrefetch else c1)

/-! ### Top-level registers (Table 3.6) -/

/-- WH_MFST_STAT.STATE (Table 3.12). -/
def MfstState.code (s : MfstState) : Nat :=
  match s with
  | .idle => 0
  | .fetch => 1
  | .staged => 2
  | .applying => 3
  | .done => 4
  | .error => 5

/-- ATTN_N is low (R119). -/
def Chip.attn (c : Chip) : Bool := c.wh.evt &&& c.wh.evtEn != 0

/-- WH_MODE_STATE (Table 1.7). -/
def Chip.modeState (c : Chip) : Half :=
  BitVec.ofNat 16 (c.mode.mode.code + 16 * b2n c.mode.limp + 32 * b2n c.mode.moored + 64 * b2n c.mode.edge.isSome
    + 128 * b2n c.mode.imageValid + 256 * (c.mode.refuse % 16) + 4096 * (c.mode.cause % 16))

/-- WH_MFST_STAT (Table 3.12). -/
def Chip.mfstStat (c : Chip) : Half :=
  BitVec.ofNat 16 (c.wh.mfstState.code + 8 * b2n c.wh.mfstLate + 16 * b2n c.wh.mfstOverrun + 32 * (c.wh.mfstErr % 16)
    + 512 * (c.wh.mfstGroup % 16))

/-- What a top-level register reads, WH_IDATA_HI apart; none where Table 3.6 names none. -/
def Chip.topRead (c : Chip) (t : Nat) : Option Half :=
  match t with
  | 0x00 => some 0x4826#16
  | 0x01 => some (BitVec.ofNat 16 ((if c.variantS then 2 else 1) + 256 * c.revision))
  | 0x02 => some c.wh.err
  | 0x03 => some (BitVec.ofNat 16 (b2n c.wh.crcEn + 2 * b2n c.wh.i2c + 4 * c.wh.i2cAddr))
  | 0x04 => some c.mode.req
  | 0x05 => some c.modeState
  | 0x06 => some (BitVec.ofNat 16 (c.mode.tag % 256 + 256 * b2n c.mode.abandoned))
  | 0x07 => some 0
  | 0x08 => some (BitVec.ofNat 16 (c.wh.failCount % 4 + 4 * b2n c.wh.lockout + 16 * (c.wh.lastStep % 4)))
  | 0x09 => some (BitVec.ofNat 16 c.wh.crcCount)
  | 0x0A => some c.wh.evt
  | 0x0B => some c.wh.evtEn
  | 0x10 => some (BitVec.ofNat 16 (c.wh.iaddr / 65536))
  | 0x11 => some (BitVec.ofNat 16 c.wh.iaddr)
  | 0x13 => some c.wh.loLatch
  | 0x14 => some (BitVec.ofNat 16 (b2n c.wh.autoinc))
  | 0x15 => some (BitVec.ofNat 16 (b2n c.wh.ready + 2 * b2n c.wh.mfstBurst + 4 * b2n (!c.wh.drain.isEmpty)))
  | 0x18 => some (BitVec.ofNat 16 c.wh.aperBase)
  | 0x20 => some (BitVec.ofNat 16 (4 * c.wh.mfstSrc + 8 * c.wh.mfstWhen))
  | 0x21 => some (BitVec.ofNat 16 (c.wh.mfstAddr / 65536))
  | 0x22 => some (BitVec.ofNat 16 c.wh.mfstAddr)
  | 0x23 => some (BitVec.ofNat 16 c.wh.mfstFrame)
  | 0x24 => some c.mfstStat
  | 0x25 => some (BitVec.ofNat 16 c.wh.mfstApplied)
  | 0x26 => some (BitVec.ofNat 16 c.wh.mfstSkipped)
  | 0x27 => some (BitVec.ofNat 16 c.wh.mfstTag)
  | 0x28 => some (BitVec.ofNat 16 (c.rd SOA_FRAME_FRAME))
  | 0x30 => some c.wh.scratch0
  | 0x31 => some c.wh.scratch1
  | _ => none

/-- A write of CRC_EN (R115). -/
def Chip.crcEnPut (c : Chip) (v : Half) : Chip := c.onWh fun w => { w with crcEn := v.getLsbD 0 }

/-- W1C of WH_EVT (R121). -/
def Chip.evtClear (c : Chip) (v : Half) : Chip := c.onWh fun w => { w with evt := w.evt &&& ~~~ v }

/-- W1C of WH_ERR; clearing CRC clears WH_CRC_COUNT (Table 3.7). -/
def Chip.errClear (c : Chip) (v : Half) : Chip :=
  c.onWh fun w => { w with err := w.err &&& ~~~ v, crcCount := if v.getLsbD 0 then 0 else w.crcCount }

/-- A write of a top-level register; none where Table 3.6 names none. Read-only registers ignore it. -/
def Chip.topWrite (c : Chip) (t : Nat) (v : Half) : Option Chip :=
  match t with
  | 0x02 => some (c.errClear v)
  | 0x03 => some (c.crcEnPut v)
  | 0x04 => some (c.modeRequest v)
  | 0x07 => some (c.wakeUnlock v)
  | 0x0A => some (c.evtClear v)
  | 0x0B => some (c.onWh fun w => { w with evtEn := v &&& 0x07FF#16 })
  | 0x10 => some (c.iaddrWrite true v)
  | 0x11 => some (c.iaddrWrite false v)
  | 0x12 => some (c.idataHiPut v)
  | 0x13 => some (c.idataLoPut v)
  | 0x14 => some (c.onWh fun w => { w with autoinc := v.getLsbD 0 })
  | 0x18 => some (c.onWh fun w => { w with aperBase := v.toNat % 4096 })
  | 0x20 => some (c.mfstCtl v)
  | 0x21 => some (c.onWh fun w => { w with mfstAddr := v.toNat * 65536 + w.mfstAddr % 65536 })
  | 0x22 => some (c.onWh fun w => { w with mfstAddr := w.mfstAddr / 65536 * 65536 + v.toNat })
  | 0x23 => some (c.onWh fun w => { w with mfstFrame := v.toNat })
  | 0x30 => some (c.onWh fun w => { w with scratch0 := v })
  | 0x31 => some (c.onWh fun w => { w with scratch1 := v })
  | n => if (c.topRead n).isSome then some c else none

/-! ### Transactions (R96-R118) -/

/-- Fields of CMD (Table 3.1). -/
def cmdRead (b : Byte) : Bool := b.getLsbD 7
def cmdFixed (b : Byte) : Bool := b.getLsbD 6
def cmdWords (b : Byte) : Nat := b.toNat % 32 + 1

/-- The address after a word (R100). -/
def nextAddr (fixed : Bool) (a : Nat) : Nat := if fixed then a else if a = 0x13 then 0x12 else a + 1

/-- The addresses of the words of a transaction. -/
def wordAddrs (fixed : Bool) : Nat → Nat → List Nat
  | 0, _ => []
  | n + 1, a => a :: wordAddrs fixed n (nextAddr fixed a)

/-- CRC bytes are in use (R111). -/
def Chip.crcOn (c : Chip) : Bool := c.wh.crcEn && !c.wh.i2c

/-- The status byte (Table 3.3). -/
def Chip.statusByte (c : Chip) : Byte :=
  BitVec.ofNat 8 (128 * b2n c.attn + c.wh.status.toNat % 128 / 4 * 4 + c.wh.seq)

/-- Sending the status byte clears its error bits (R116). -/
def Chip.sendStatus (c : Chip) : Chip := c.onWh fun w => { w with status := 0 }

/-- A transaction is accepted (R117). -/
def Chip.accept (c : Chip) : Chip := c.onWh fun w => { w with seq := (w.seq + 1) % 4 }

/-- A CRC mismatch (R112, R114). -/
def Chip.crcFail (c : Chip) : Chip := (c.onWh fun w => { w with crcCount := satAdd 16 w.crcCount 1 }).whErr erCrc

/-- Change the balls' state. -/
def Chip.onPins (c : Chip) (f : Pins → Pins) : Chip := { c with pins := f c.pins }

/-- The 7-bit address at which the device answers on I2C (R97). -/
def Chip.i2cAddress (c : Chip) : Nat := 0x2C + c.wh.i2cAddr

/-- The transaction is for this device: on SPI it is selected; on I2C the address byte carries its own address, which
neither the general call nor the first byte of a 10-bit address does (R97, R108). -/
def Chip.addressed (c : Chip) (dev : Nat) : Bool := !c.wh.i2c || dev == c.i2cAddress

/-- The bytes that the device drives: on SPI it drives WH_SDO, on I2C it acknowledges its address. -/
def Chip.drive (c : Chip) (bs : List Byte) : Chip :=
  (c.onWh fun w => { w with out := bs, acked := w.i2c }).onPins fun p => { p with sdoDriven := !c.wh.i2c }

/-- The end of a transaction: WH_CS_N is high, so WH_SDO is high-impedance (R105). -/
def Chip.release (c : Chip) : Chip := c.onPins fun p => { p with sdoDriven := false }

/-- A transaction that the device does not answer: nothing driven, the I2C address not acknowledged (R108, R259). -/
def Chip.unanswered (c : Chip) : Chip := c.onWh fun w => { w with out := [], acked := false }

/-- The two bytes of a word, high byte first. -/
def twoBytes (v : Half) : List Byte := [(v >>> 8).setWidth 8, v.setWidth 8]

/-- The words of data bytes. -/
def wordsOfBytes : List Byte → List Half
  | h :: l :: t => (h ++ l) :: wordsOfBytes t
  | _ => []

/-- A transaction in DEEP_SLEEP is a wake trigger and is discarded (R43); under LOCKOUT only the unlock form is decoded,
and on I2C acknowledged (R259). -/
def Chip.sleepTransaction (c : Chip) (bytes : List Byte) : Chip :=
  let c1 := (c.wakeTrigger 1).unanswered
  match bytes with
  | b0 :: b1 :: h :: l :: _ =>
    if c.wh.lockout = true ∧ c.mode.mode = .deepSleep ∧ b0 = 0#8 ∧ b1 = 7#8 then
      (c1.onWh fun w => { w with acked := w.i2c }).wakeUnlock (h ++ l)
    else c1
  | _ => c1

/-- A transaction as it arrives: one for another I2C address is not answered and wakes nothing (R43, R108); while PD02
is not ON it only wakes; else the port serves it with `f` and lets WH_SDO go at its end. -/
def Chip.transaction (c : Chip) (dev : Nat) (bytes : List Byte) (f : Chip → Chip) : Chip :=
  if !c.addressed dev then c.unanswered
  else if !c.pdOn 2 then c.sleepTransaction bytes
  else (f c).release

/-- A manifest burst refuses accesses to the window's addresses (R149). -/
def Chip.burstRefuses (c : Chip) (a : Nat) : Bool := c.wh.mfstBurst && decide (0x10 ≤ a) && decide (a ≤ 0x14)

/-- One word of a write: refused in a burst (R149); past 0xFF and at unnamed addresses it is discarded (R101, R102). -/
def Chip.writeWord (c : Chip) (a : Nat) (v : Half) : Chip :=
  if c.burstRefuses a then c.whErr erBusyMfst
  else
    match c.topWrite a v with
    | some c1 => c1
    | none => c.whErr erUnimpl

/-- A write transaction in a mode in which the Wharf answers: framing, then CRC, then the refusals, then its words in
order. The spec gives no order of the checks: the first that fails is reported alone (log entry 104). A word that a
burst refuses leaves the others served, and the transaction is not accepted (R117, R149). -/
def Chip.writeTransaction (c : Chip) (bytes : List Byte) : Chip :=
  let crc := c.crcOn
  let n := cmdWords (bytes.headD 0)
  let status := c.statusByte
  let c0 := if c.wh.i2c then c.drive []
    else if bytes.isEmpty then c.drive []
    else c.sendStatus.drive (status :: List.replicate (bytes.length - 1) 0#8)
  if bytes.length ≠ 2 + 2 * n + b2n crc then c0.whErr erFrame
  else if crc && crc8 (bytes.take (2 + 2 * n)) != ((bytes.getLastD 0).toNat) then c0.crcFail
  else if !c0.wh.drain.isEmpty then c0.whErr erBusyDrain
  else
    let as := wordAddrs (cmdFixed (bytes.headD 0)) n (bytes.getD 1 0).toNat
    let c1 := (as.zip (wordsOfBytes ((bytes.drop 2).take (2 * n)))).foldl
      (fun (c : Chip) x => c.writeWord x.1 x.2) c0
    if as.any c0.burstRefuses then c1 else c1.accept

/-- WHARF_WRITE_TRANSACTION: the bytes that the host sends, CRC included; CMD has RD = 0. -/
def execWharfWriteTransaction (h : HostBytes) (s : State) : Host.Outcome State Fault Refusal :=
  effect s fun c =>
    if c.pdOn 2 && cmdRead (h.bytes.headD 0) then c
    else c.transaction h.dev h.bytes fun c => c.writeTransaction h.bytes

/-- A read while its words are being served: the part, the words so far, how many prefetches still end in time; no window
word is served any more (R134); no word is (R109, R133); a word has been refused with BUSY. -/
structure ReadRun where
  chip : Chip
  words : List Half
  left : Nat
  dead : Bool
  past : Bool
  busy : Bool
deriving DecidableEq, Repr

/-- A word that returns 0x0000, with an error. -/
def ReadRun.zero (r : ReadRun) (e : Option Nat) : ReadRun :=
  { r with chip := (match e with | some n => r.chip.whErr n | none => r.chip), words := r.words ++ [0#16] }

/-- The prefetch in progress can end: an access to the aperture waits while its channel serves no port. -/
def Chip.prefetchCan (c : Chip) : Bool :=
  match c.wh.prefetch with
  | none => false
  | some a => !(inAperture a && c.aperWaits a)

/-- A prefetch that ends before the word is due. On I2C the clock is stretched until it has (R109). -/
def ReadRun.wait (r : ReadRun) : ReadRun :=
  if !r.chip.wh.ready && r.chip.prefetchCan && (decide (0 < r.left) || r.chip.wh.i2c) then
    { r with chip := r.chip.prefetchDone, left := r.left - 1 }
  else r

/-- A read of WH_IDATA_HI: not ready, it returns zeros (R134), or on I2C is not served within the stretch limit (R109). -/
def ReadRun.high (r0 : ReadRun) : ReadRun :=
  let r := r0.wait
  if r.dead then r.zero none
  else if r.chip.wh.ready then
    let q := r.chip.idataHiGet
    { r with chip := q.2, words := r.words ++ [q.1] }
  else if r.chip.wh.i2c then { r.zero (some erStretch) with past := true, busy := true }
  else { r.zero (some erNotready) with dead := true }

/-- One word of a read. -/
def ReadRun.word (r : ReadRun) (a : Nat) : ReadRun :=
  if r.past then r.zero none
  else if r.chip.burstRefuses a then { r.zero (some erBusyMfst) with busy := true }
  else if a = 0x12 then r.high
  else if a = 0x13 ∧ r.dead = true then r.zero none
  else
    match r.chip.topRead a with
    | some v => { r with words := r.words ++ [v] }
    | none => r.zero (some erUnimpl)

/-- Serve the first words of a read. One that reads window data while writes drain is refused whole (R133), which the
model judges before a burst (log entry 104). -/
def Chip.serve (c : Chip) (as : List Nat) (prefetches : Nat) : ReadRun :=
  if !c.wh.drain.isEmpty && as.any (fun a => a == 0x12 || a == 0x13) then
    as.foldl ReadRun.word ⟨c.whErr erBusyDrain, [], prefetches, false, true, true⟩
  else as.foldl ReadRun.word ⟨c, [], prefetches, false, false, false⟩

/-- What the device sends in a read: on SPI the status byte and zeros while the `got` bytes of CMD, ADDR and CRC1 come,
the data, CRC2 at its end (R113, R114), and zeros for `extra` words that the host reads beyond (R110). -/
def readBytes (spi crc whole bad : Bool) (got extra : Nat) (status : Byte) (ws : List Half) : List Byte :=
  let data := ws.flatMap twoBytes
  let sum := BitVec.ofNat 8 (crc8 (status :: data))
  let tail := if crc && whole then [if bad then ~~~ sum else sum] else []
  (if spi then status :: List.replicate (min (1 + b2n crc) (got - 1)) 0#8 else [status]) ++ data ++ tail
    ++ List.replicate (2 * extra) 0#8

/-- A read transaction in a mode in which the Wharf answers. `begun`: the words begun before the host ends it (R107). On
I2C the status byte follows the repeated START, which comes after CMD and ADDR (R108). -/
def Chip.readTransaction (c : Chip) (bytes : List Byte) (begun prefetches : Nat) : Chip :=
  let crc := c.crcOn
  let cmd := bytes.headD 0
  let head := decide (2 + b2n crc ≤ bytes.length)
  let n := if head then min begun (cmdWords cmd) else 0
  let extra := if head then begun - cmdWords cmd else 0
  let whole := n == cmdWords cmd
  let got := bytes.length
  let status := c.statusByte
  let c0 := c.sendStatus
  if c.wh.i2c && !head then (c.drive []).accept
  else if crc && head && crc8 (bytes.take 2) != (bytes.getD 2 0).toNat then
    (c0.crcFail).drive (readBytes true true whole true got extra status (List.replicate n 0#16))
  else
    let r := c0.serve (wordAddrs (cmdFixed cmd) n (bytes.getD 1 0).toNat) prefetches
    let c1 := r.chip.drive (readBytes (!c.wh.i2c) crc whole false got extra status r.words)
    if r.busy then c1 else c1.accept

/-- WHARF_READ_TRANSACTION: CMD, ADDR and CRC1 as the host sends them, CMD with RD = 1; `begun`, the data words begun;
`prefetches`, how many prefetches end in time for the word that needs them (R131, R135). -/
def execWharfReadTransaction (h : HostBytes) (begun prefetches : Nat) (s : State) : Host.Outcome State Fault Refusal :=
  effect s fun c =>
    if c.pdOn 2 && !cmdRead (h.bytes.headD 0) then c
    else c.transaction h.dev h.bytes fun c => c.readTransaction h.bytes begun prefetches

/-- I2C_STRETCH_TIMEOUT: a read whose word after the first `served` is not ready within 1 ms (R109). Only a word of
WH_IDATA_HI can be not ready: any other read goes on, so that the event does not come. -/
def Chip.stretchTimeout (c : Chip) (bytes : List Byte) (served : Nat) : Chip :=
  let cmd := bytes.headD 0
  let status := c.statusByte
  let as := wordAddrs (cmdFixed cmd) (cmdWords cmd) (bytes.getD 1 0).toNat
  let r := c.sendStatus.serve (as.take served) 0
  if as.getD served 0 ≠ 0x12 ∨ r.past = true ∨ r.chip.wh.drain ≠ [] ∨ r.chip.wh.ready = true
      ∨ r.chip.burstRefuses 0x12 = true then c
  else
    let words := r.words ++ List.replicate (cmdWords cmd - served) 0#16
    ((r.chip.whErr erStretch).drive (readBytes false false true false bytes.length 0 status words)).release

def execI2cStretchTimeout (h : HostBytes) (served : Nat) (s : State) : Host.Outcome State Fault Refusal :=
  effect s fun c =>
    if c.pdOn 2 && c.wh.i2c && c.addressed h.dev && cmdRead (h.bytes.headD 0) then c.stretchTimeout h.bytes served
    else c

/-! ### Registers of the port, each by its own command -/

/-- CRC_EN_WRITE. -/
def execCrcEnWrite (v : Half) (s : State) : Host.Outcome State Fault Refusal :=
  effect s fun c => c.hostTop fun c => c.crcEnPut v

/-- WH_EVT_CLEAR. -/
def execWhEvtClear (v : Half) (s : State) : Host.Outcome State Fault Refusal :=
  effect s fun c => c.hostTop fun c => c.evtClear v

/-- WH_ERR_CLEAR. -/
def execWhErrClear (v : Half) (s : State) : Host.Outcome State Fault Refusal :=
  effect s fun c => c.hostTop fun c => c.errClear v

/-- A window access in a burst is refused (R149), and one while writes drain before that (R133, log entry 104). -/
def Chip.window (c : Chip) (f : Chip → Chip) : Chip :=
  c.hostTop fun c => if c.wh.mfstBurst then c.whErr erBusyMfst else f c

/-- IADDR_WRITE. -/
def execIaddrWrite (high : Bool) (v : Half) (s : State) : Host.Outcome State Fault Refusal :=
  effect s fun c => c.window fun c => c.iaddrWrite high v

/-- A read of WH_IDATA_HI on its own: the word it returns is driven. On I2C the clock is stretched while a prefetch runs
(R109); on SPI a prefetch still running makes it not ready (R134). -/
def Chip.idataHiRead (c : Chip) : Chip :=
  let c1 := if c.wh.i2c && !c.wh.ready && c.prefetchCan then c.prefetchDone else c
  (if c1.wh.ready then (c1.idataHiGet.2).drive (twoBytes c1.idataHiGet.1)
    else if c1.wh.i2c then (c1.whErr erStretch).drive (twoBytes 0)
    else (c1.whErr erNotready).drive (twoBytes 0)).release

/-- IDATA_HI_READ. -/
def execIdataHiRead (s : State) : Host.Outcome State Fault Refusal := effect s fun c => c.window Chip.idataHiRead

/-- IDATA_HI_WRITE. -/
def execIdataHiWrite (v : Half) (s : State) : Host.Outcome State Fault Refusal :=
  effect s fun c => c.window fun c => c.idataHiPut v

/-- IDATA_LO_WRITE. -/
def execIdataLoWrite (v : Half) (s : State) : Host.Outcome State Fault Refusal :=
  effect s fun c => c.window fun c => c.idataLoPut v

/-- REGISTER_WRITE: `addr`, an internal address, an aperture address, or 0x1000000 plus a top-level address. -/
def Chip.registerWrite (c : Chip) (a : Nat) (v mask : Word) : Chip :=
  if 0x1000000 ≤ a then c.hostTop fun c => c.writeWord (a - 0x1000000) (v.setWidth 16)
  else if inAperture a then c.hostTop fun c => c.aperWrite a v
  else c.hostWrite a v mask

def execRegisterWrite (addr : Nat) (v mask : Word) (s : State) : Host.Outcome State Fault Refusal :=
  effect s fun c => c.registerWrite addr v mask

end Sys2Proof.Machine
end

