-- ==== Sys2Proof/Machine/Debug.lean ====
section
/-! DEFINITION. The debug port (R805-R810): the TAP's instructions and its register requests. -/

namespace Sys2Proof.Machine

/-- Change the TAP. -/
def Chip.onTap (c : Chip) (f : Tap → Tap) : Chip := { c with tap := f c.tap }

/-- The TAP answers: PD51 is ON, or TMODE holds the device in power-on reset (Table 21.18). -/
def Chip.tapAnswers (c : Chip) : Bool := c.pins.tmode || c.pdOn 51

/-- A command of the TAP; it reaches the part in power-on reset too (R807). -/
def Chip.atTap (c : Chip) (f : Chip → Chip) : Chip := if c.tapAnswers then f c else c

/-- DBG_ID (Table 21.17). -/
def Chip.idcode (c : Chip) : Nat := 0x04826001 + c.revision % 16 * 2 ^ 28

/-- TAP_RESET. -/
def execTapReset (s : State) : Host.Outcome State Fault Refusal :=
  effectAlways s fun c => c.atTap fun c => (c.onTap fun t => { t with ir := 0xE }).wr DBG_STAT_TAP_RESET 1

/-- An instruction other than a reset: the TAP has left Test-Logic-Reset. -/
def Chip.tapSelect (c : Chip) (ir : Nat) : Chip := (c.onTap fun t => { t with ir := ir }).wr DBG_STAT_TAP_RESET 0

/-- TAP_IDCODE. -/
def execTapIdcode (s : State) : Host.Outcome State Fault Refusal :=
  effectAlways s fun c => c.atTap fun c => (c.tapSelect 0xE).onTap fun t => { t with dr := c.idcode }

/-- TAP_BYPASS: `code`, the instruction, neither IDCODE nor CSR; `bit`, the bit shifted in. The register captures 0. -/
def execTapBypass (code : Nat) (bit : Bool) (s : State) : Host.Outcome State Fault Refusal :=
  effectAlways s fun c => c.atTap fun c =>
    if code % 16 = 0xE ∨ code % 16 = 8 then c
    else (c.tapSelect (code % 16)).onTap fun t => { t with bypass := bit, dr := 0 }

/-- The CSR data register as it is captured (Table 21.2). -/
def Tap.capture (t : Tap) : Nat :=
  t.data.toNat + t.reqAddr * 2 ^ 32 + b2n t.reqWrite * 2 ^ 56 + b2n t.done * 2 ^ 57 + t.err * 2 ^ 58

/-- The request is refused (R807). -/
def Chip.tapDenied (c : Chip) (a : Nat) : Bool := c.pins.tmode || !c.flag DBG_CTL_TAP_CSR || inAperture a

/-- Update-DR of CSR: a request, OVERRUN, or DENIED; a refused request does not complete (log entry 39). -/
def Chip.tapRequest (c : Chip) (dr : Nat) : Chip :=
  let a := dr / 2 ^ 34 % 2 ^ 22 * 4
  let c1 := (c.tapSelect 8).onTap fun t => { t with dr := t.capture }
  if c.tap.busy then c1.wr DBG_STAT_OVERRUN 1
  else
    let c2 := c1.onTap fun t =>
      { t with reqAddr := a, reqWrite := dr.testBit 56, reqData := BitVec.ofNat 32 dr, done := false, err := 0 }
    if c.tapDenied a then (c2.onTap fun t => { t with err := 1, data := 0 }).wr DBG_STAT_DENIED 1
    else c2.onTap fun t => { t with busy := true }

/-- TAP_CSR_REQUEST: `dr`, the 64 bits shifted in. -/
def execTapCsrRequest (dr : Nat) (s : State) : Host.Outcome State Fault Refusal :=
  effectAlways s fun c => c.atTap fun c => c.tapRequest dr

/-- The access of a request (R808, R809). -/
def Chip.tapAccess (c : Chip) : Chip :=
  let a := c.tap.reqAddr
  if c.access a ≠ .ok then
    let c1 := c.wr DBG_STAT_ADDR_ERR 1
    if c.tap.reqWrite then c1 else c1.onTap fun t => { t with data := 0 }
  else if c.tap.reqWrite then c.hostStore a c.tap.reqData 0xFFFFFFFF#32
  else (c.afterRead a).onTap fun t => { t with data := c.readReg a }

/-- TAP_CSR_COMPLETE; it waits for the end of a manifest burst (R810). -/
def execTapCsrComplete (s : State) : Host.Outcome State Fault Refusal :=
  effect s fun c =>
    if c.tap.busy && !c.wh.mfstBurst then
      (c.tapAccess.onTap fun t => { t with busy := false, done := true }).bump DBG_STAT_ACCESSES 1
    else c

end Sys2Proof.Machine
end

