-- ==== Sys2Proof/Machine/Boundary.lean ====
section
/-! DEFINITION. FRAME_BOUNDARY: what a frame boundary of a scan-out does, in the order of R520. -/

namespace Sys2Proof.Machine

/-- CMP's ROUND_MODE takes effect at the next boundary (R94); in Mooring values are held (R588). -/
def Chip.cmpArith (c : Chip) : Chip := if c.mode.moored then c else c.commitRange 0x1000F4 0x1000F8

/-- The commits that fall due at a boundary of scan-out A (R514, R564, R568), then the lock of scan-out B (R560). In
Mooring they are held (R588). -/
def Chip.commitsA (c : Chip) : Chip :=
  if c.mode.moored then c
  else
    let was := c.eflag BSC_CTL_EN
    let c1 := (c.cmpArith.soDue 0).bscEnableCheck was
    let c2 := if c1.soLocked then c1.soDue 1 else c1
    c2.splitLock.routeCheck

/-- The group flips of a boundary in ascending order, and the layers that flipped (R516, R517); held in Mooring. -/
def Chip.flips (c : Chip) : Chip × List Nat :=
  if c.mode.moored then (c, [])
  else
    (List.range 4).foldl
      (fun (r : Chip × List Nat) g =>
        let q := r.1.groupDecide g
        (q, if r.1.armed g && !q.armed g && q.rd (CMP_GROUP_STAT_RESULT.at g) == 1 then r.2 ++ r.1.groupMembers g
            else r.2)) (c, [])

/-- The next frame of scan-out A starts, and with it that of a locked B; lines looked ahead for the frame that has left
are not kept. -/
def Chip.framesA (c : Chip) (flipped : List Nat) : Chip :=
  let c1 := (c.wbFrame.composeOn).onCmp fun k =>
    { k with live := (k.live.zipIdx).map fun x => if flipped.contains x.2 then x.1 else none }
  let c2 := if c1.soState 0 = 0 then c1 else c1.frameStart 0
  let c3 := if c2.soLocked then c2.frameStart 1 else c2
  c3.safeFrameStart

/-- A channel in FLIP_WAIT goes on to FLIP (Table 8.4). -/
def Chip.migBoundary (c : Chip) : Chip :=
  [0, 1].foldl (fun (c : Chip) ch => if c.migState ch = 2 then c.migFlip ch else c) c

/-- What the frame that has left ends: counters and stamps (R575, R576), output CRC, guarded rectangles. -/
def Chip.endsA (c : Chip) : Chip :=
  let c1 := (c.soTick 0).crcFrameEnd 0
  let c2 := if c1.soLocked then (c1.soTick 1).crcFrameEnd 1 else c1
  c2.safeFrameEnd

/-- A boundary of scan-out A; `ticks`: SOA cycles since the one before, for the plane allocator. -/
def Chip.boundaryA (c : Chip) (ticks : Nat) : Chip :=
  let c1 := c.endsA.moorStep
  let c2 := c1.bargeLuts.mfstBoundary.commitsA
  let f := c2.flips
  let c3 := (f.1.latchRings.flatBoundary f.2).framesA f.2
  let c4 := ((c3.lockStep.bpsRefresh.bpsAllocate ticks).bscRefresh).twpBoundary.mxBoundary.migBoundary
  c4.onMode fun m => { m with boundaries := min 2 (m.boundaries + 1) }

/-- A boundary of a scan-out B on a timing of its own. -/
def Chip.boundaryB (c : Chip) : Chip :=
  let c1 := (c.soTick 1).crcFrameEnd 1
  let c2 := if c1.mode.moored then c1 else c1.soDue 1
  if c2.soState 1 = 0 then c2 else c2.frameStart 1

/-- FRAME_BOUNDARY of scan-out `so`: 0 is A, 1 is B. A stopped scan-out has no boundaries, a locked B has those of A. -/
def execFrameBoundary (so ticks : Nat) (s : State) : Host.Outcome State Fault Refusal :=
  effect s fun c =>
    if so = 0 ∧ c.soState 0 ≠ 0 then c.withUses fun c => c.boundaryA ticks
    else if so = 1 ∧ c.soState 1 ≠ 0 ∧ c.soLocked = false then c.withUses Chip.boundaryB
    else c

end Sys2Proof.Machine
end

