-- ==== Sys2Proof/Machine/Enables.lean ====
section
/-! DEFINITION. The commands that begin a use of a clock domain: each is its own operation with the domains it needs
enabled (R168). -/

namespace Sys2Proof.Machine

/-- MC_INIT_GO. -/
def execMcInitGo (ch : Nat) (s : State) : Host.Outcome State Fault Refusal :=
  effect s fun c => c.withUses fun c => if ch < 2 then c.guardReg (0x40004 + ch * 0x10000) fun c => c.initGo ch else c

/-- MOV_COPY (R542). -/
def execMovCopy (s : State) : Host.Outcome State Fault Refusal := effect s fun c => c.withUses fun c => c.guardReg 0x110000 fun c => c.movGo 0

/-- MOV_FILL (R541). -/
def execMovFill (s : State) : Host.Outcome State Fault Refusal := effect s fun c => c.withUses fun c => c.guardReg 0x110000 fun c => c.movGo 1

/-- MOV_CONVERT (R544). -/
def execMovConvert (s : State) : Host.Outcome State Fault Refusal :=
  effect s fun c => c.withUses fun c => c.guardReg 0x110000 fun c => c.movGo 2

/-- FLATTEN_BUILD_START (R531, R546): a build that waits starts once no mover job runs. -/
def execFlattenBuildStart (s : State) : Host.Outcome State Fault Refusal :=
  effect s fun c => c.withUses fun c =>
    if c.cmp.flat.pending = true ∧ c.cmp.job = none ∧ c.flag MOV_CTL_FLAT_ACTIVE = false then
      ((c.wr MOV_CTL_FLAT_ACTIVE 1).wr CMP_FLAT_STAT_STATE 1).onCmp fun k =>
        { k with flat := { k.flat with pending := false, dirty := false, built := false } }
    else c

/-- SO_COMMIT_GO. -/
def execSoCommitGo (so : Nat) (s : State) : Host.Outcome State Fault Refusal :=
  effect s fun c => c.withUses fun c => if so < 2 then c.guardReg (0x200004 + so * 0x10000) fun c => c.commitGo so false else c

/-- LTD_COMMIT. -/
def execLtdCommit (s : State) : Host.Outcome State Fault Refusal := effect s fun c => c.withUses fun c => if c.pdOn 45 then c.ltdCommit else c

/-- TWP_BUS_SELECT_WRITE: of TWP_MX_CTL (`matrix`) or of TWP_CTL. -/
def execTwpBusSelectWrite (matrix : Bool) (v : Word) (s : State) : Host.Outcome State Fault Refusal :=
  effect s fun c => c.withUses fun c =>
    if matrix then c.guardReg 0x2A0200 fun c => c.mxCtlWrite v 0xFFFFFFFF#32
    else c.guardReg 0x2A0000 fun c => c.twpCtlWrite v 0xFFFFFFFF#32

/-- PAT_RUN. -/
def execPatRun (engine : Nat) (v : Word) (s : State) : Host.Outcome State Fault Refusal :=
  effect s fun c => c.withUses fun c => if engine < 8 then c.guardReg (0x2A0100 + 16 * engine) fun c => c.patCtl engine v else c

/-- PAT_RESTART, of an engine that runs. -/
def execPatRestart (engine : Nat) (s : State) : Host.Outcome State Fault Refusal :=
  effect s fun c => c.withUses fun c =>
    if engine < 8 then
      c.guardReg (0x2A0100 + 16 * engine) fun c =>
        if c.flag (TWP_PAT_CTL_RUN.at engine) then c.onPat engine fun p => { p with start := true } else c
    else c

/-- SLUICE_EXIT_COMPLETE. -/
def execSluiceExitComplete (ch : Nat) (s : State) : Host.Outcome State Fault Refusal :=
  effect s fun c => c.withUses fun c => if ch < 2 then c.exitComplete ch else c

end Sys2Proof.Machine
end

