-- ==== Sys2Proof/Machine/Dispatch.lean ====
section
/-! DEFINITION. The meaning of every command, one arm each. -/

namespace Sys2Proof.Machine

open Sys2Proof

def exec (i : Instr) (s : State) : Host.Outcome State Fault Refusal :=
  match i with
  | .modeRequest w => Sys2Proof.Machine.execModeRequest w s
  | .wakeTrigger => Sys2Proof.Machine.execWakeTrigger s
  | .wakeComplete => Sys2Proof.Machine.execWakeComplete s
  | .limpExit => Sys2Proof.Machine.execLimpExit s
  | .loadEntered => Sys2Proof.Machine.execLoadEntered s
  | .loadComplete => Sys2Proof.Machine.execLoadComplete s
  | .loadFailExit => Sys2Proof.Machine.execLoadFailExit s
  | .pictureModeEntered => Sys2Proof.Machine.execPictureModeEntered s
  | .standbyEntered => Sys2Proof.Machine.execStandbyEntered s
  | .calibrateEntered => Sys2Proof.Machine.execCalibrateEntered s
  | .calibrateExited => Sys2Proof.Machine.execCalibrateExited s
  | .holdEntered => Sys2Proof.Machine.execHoldEntered s
  | .reflostComplete => Sys2Proof.Machine.execReflostComplete s
  | .wakeFailComplete => Sys2Proof.Machine.execWakeFailComplete s
  | .sleepComplete => Sys2Proof.Machine.execSleepComplete s
  | .arithSatClear region => Sys2Proof.Machine.execArithSatClear region s
  | .tbIncWrite v => Sys2Proof.Machine.execTbIncWrite v s
  | .tbIrcIncWrite v => Sys2Proof.Machine.execTbIrcIncWrite v s
  | .tbSnap => Sys2Proof.Machine.execTbSnap s
  | .wharfWriteTransaction sent => Sys2Proof.Machine.execWharfWriteTransaction sent s
  | .wharfReadTransaction sent begun prefetches => Sys2Proof.Machine.execWharfReadTransaction sent begun prefetches s
  | .i2cStretchTimeout sent served => Sys2Proof.Machine.execI2cStretchTimeout sent served s
  | .crcEnWrite v => Sys2Proof.Machine.execCrcEnWrite v s
  | .whEvtClear v => Sys2Proof.Machine.execWhEvtClear v s
  | .whErrClear v => Sys2Proof.Machine.execWhErrClear v s
  | .iaddrWrite high v => Sys2Proof.Machine.execIaddrWrite high v s
  | .prefetchComplete => Sys2Proof.Machine.execPrefetchComplete s
  | .idataHiRead => Sys2Proof.Machine.execIdataHiRead s
  | .idataHiWrite v => Sys2Proof.Machine.execIdataHiWrite v s
  | .idataLoWrite v => Sys2Proof.Machine.execIdataLoWrite v s
  | .internalWriteComplete => Sys2Proof.Machine.execInternalWriteComplete s
  | .apertureComplete => Sys2Proof.Machine.execApertureComplete s
  | .mfstGo v => Sys2Proof.Machine.execMfstGo v s
  | .mfstAbort => Sys2Proof.Machine.execMfstAbort s
  | .mfstFetchDone => Sys2Proof.Machine.execMfstFetchDone s
  | .mfstFetchTimeout => Sys2Proof.Machine.execMfstFetchTimeout s
  | .mfstBurstEnd inBlanking => Sys2Proof.Machine.execMfstBurstEnd inBlanking s
  | .wakeUnlock v => Sys2Proof.Machine.execWakeUnlock v s
  | .xinDelayExpire => Sys2Proof.Machine.execXinDelayExpire s
  | .ircTrimXinUpdate count => Sys2Proof.Machine.execIrcTrimXinUpdate count s
  | .pllLock pll us => Sys2Proof.Machine.execPllLock pll us s
  | .pllLockHoldExpire pll => Sys2Proof.Machine.execPllLockHoldExpire pll s
  | .dividerRampStep => Sys2Proof.Machine.execDividerRampStep s
  | .pllLockTimeout pll since => Sys2Proof.Machine.execPllLockTimeout pll since s
  | .pllLockLoss pll since => Sys2Proof.Machine.execPllLockLoss pll since s
  | .monGateEnd edges rates since => Sys2Proof.Machine.execMonGateEnd edges rates since s
  | .xinStop => Sys2Proof.Machine.execXinStop s
  | .xinGlitch since => Sys2Proof.Machine.execXinGlitch since s
  | .ircActivityFault => Sys2Proof.Machine.execIrcActivityFault s
  | .refHoldoverEnd => Sys2Proof.Machine.execRefHoldoverEnd s
  | .ckgDomWrite dom v => Sys2Proof.Machine.execCkgDomWrite dom v s
  | .pllOffRequest v => Sys2Proof.Machine.execPllOffRequest v s
  | .pllvFracWrite v => Sys2Proof.Machine.execPllvFracWrite v s
  | .fmStart meter v => Sys2Proof.Machine.execFmStart meter v s
  | .fmGateEnd meter count => Sys2Proof.Machine.execFmGateEnd meter count s
  | .fmTimeout meter count => Sys2Proof.Machine.execFmTimeout meter count s
  | .monEvtClear => Sys2Proof.Machine.execMonEvtClear s
  | .pdreqWrite high v => Sys2Proof.Machine.execPdreqWrite high v s
  | .domainSwitchComplete => Sys2Proof.Machine.execDomainSwitchComplete s
  | .regStepComplete => Sys2Proof.Machine.execRegStepComplete s
  | .regStepFixedExpire => Sys2Proof.Machine.execRegStepFixedExpire s
  | .regStepTimeout time => Sys2Proof.Machine.execRegStepTimeout time s
  | .pgLost reg time => Sys2Proof.Machine.execPgLost reg time s
  | .backoutDwellExpire => Sys2Proof.Machine.execBackoutDwellExpire s
  | .bistPhase1Done fails small lanes => Sys2Proof.Machine.execBistPhase1Done fails small lanes s
  | .bistPhase2Done macros lanes => Sys2Proof.Machine.execBistPhase2Done macros lanes s
  | .ldrHeaderRead jedec => Sys2Proof.Machine.execLdrHeaderRead jedec s
  | .ledgerScan => Sys2Proof.Machine.execLedgerScan s
  | .sectionRead => Sys2Proof.Machine.execSectionRead s
  | .bodyReadDone => Sys2Proof.Machine.execBodyReadDone s
  | .ledgerAppendRequest kind unit flags data => Sys2Proof.Machine.execLedgerAppendRequest kind unit flags data s
  | .ledgerAttemptStart => Sys2Proof.Machine.execLedgerAttemptStart s
  | .ledgerBusyClear => Sys2Proof.Machine.execLedgerBusyClear s
  | .ledgerBusyTimeout => Sys2Proof.Machine.execLedgerBusyTimeout s
  | .ledgerReadbackDone got => Sys2Proof.Machine.execLedgerReadbackDone got s
  | .fhostRead len => Sys2Proof.Machine.execFhostRead len s
  | .fhostProgram len => Sys2Proof.Machine.execFhostProgram len s
  | .fhostErase4k => Sys2Proof.Machine.execFhostErase4k s
  | .fhostReadId jedec => Sys2Proof.Machine.execFhostReadId jedec s
  | .fhostReadStatus status => Sys2Proof.Machine.execFhostReadStatus status s
  | .fhostCmdDone => Sys2Proof.Machine.execFhostCmdDone s
  | .fhostTimeout => Sys2Proof.Machine.execFhostTimeout s
  | .ledgerIdxWrite v => Sys2Proof.Machine.execLedgerIdxWrite v s
  | .otpArm v => Sys2Proof.Machine.execOtpArm v s
  | .mapGo => Sys2Proof.Machine.execMapGo s
  | .mcInitGo ch => Sys2Proof.Machine.execMcInitGo ch s
  | .mcInitResetRelease ch => Sys2Proof.Machine.execMcInitResetRelease ch s
  | .mcInitCkeRise ch => Sys2Proof.Machine.execMcInitCkeRise ch s
  | .mcInitComplete ch => Sys2Proof.Machine.execMcInitComplete ch s
  | .sweepGo ch v => Sys2Proof.Machine.execSweepGo ch v s
  | .sweepDone ch failMask errors => Sys2Proof.Machine.execSweepDone ch failMask errors s
  | .portRequest port write line mask words spec => Sys2Proof.Machine.execPortRequest port write line mask words spec s
  | .schedulerIssue ch => Sys2Proof.Machine.execSchedulerIssue ch s
  | .readDataReturn ch => Sys2Proof.Machine.execReadDataReturn ch s
  | .requestAgePromote ch => Sys2Proof.Machine.execRequestAgePromote ch s
  | .refreshDue ch rank => Sys2Proof.Machine.execRefreshDue ch rank s
  | .zqcsDue ch => Sys2Proof.Machine.execZqcsDue ch s
  | .weirWindowEnd ch => Sys2Proof.Machine.execWeirWindowEnd ch s
  | .weirIdxWrite ch v => Sys2Proof.Machine.execWeirIdxWrite ch v s
  | .sluiceEntryStart ch => Sys2Proof.Machine.execSluiceEntryStart ch s
  | .sluiceSrEntered ch => Sys2Proof.Machine.execSluiceSrEntered ch s
  | .sluiceExitStart ch cause => Sys2Proof.Machine.execSluiceExitStart ch cause s
  | .sluiceExitComplete ch => Sys2Proof.Machine.execSluiceExitComplete ch s
  | .alertFall ch width => Sys2Proof.Machine.execAlertFall ch width s
  | .alertRetryReplay ch => Sys2Proof.Machine.execAlertRetryReplay ch s
  | .freezeSrEntered ch => Sys2Proof.Machine.execFreezeSrEntered ch s
  | .seedVisitDue ch => Sys2Proof.Machine.execSeedVisitDue ch s
  | .scrubVisitDue ch => Sys2Proof.Machine.execScrubVisitDue ch s
  | .scrubReadReturn ch => Sys2Proof.Machine.execScrubReadReturn ch s
  | .pprGo ch v => Sys2Proof.Machine.execPprGo ch v s
  | .pprDone ch equal => Sys2Proof.Machine.execPprDone ch equal s
  | .migStart ch => Sys2Proof.Machine.execMigStart ch s
  | .migAbort ch => Sys2Proof.Machine.execMigAbort ch s
  | .migCopyLine ch => Sys2Proof.Machine.execMigCopyLine ch s
  | .migFlipComplete ch => Sys2Proof.Machine.execMigFlipComplete ch s
  | .errFirstClear ch => Sys2Proof.Machine.execErrFirstClear ch s
  | .snapIdxWrite ch v => Sys2Proof.Machine.execSnapIdxWrite ch v s
  | .vinLinkLock link => Sys2Proof.Machine.execVinLinkLock link s
  | .vinLinkLoss link => Sys2Proof.Machine.execVinLinkLoss link s
  | .vinFrameStart totPix totLines ircCount => Sys2Proof.Machine.execVinFrameStart totPix totLines ircCount s
  | .vinLine links skew room => Sys2Proof.Machine.execVinLine links skew room s
  | .vinInputLost => Sys2Proof.Machine.execVinInputLost s
  | .vinFrameComplete => Sys2Proof.Machine.execVinFrameComplete s
  | .bargePad => Sys2Proof.Machine.execBargePad s
  | .bargeOsd => Sys2Proof.Machine.execBargeOsd s
  | .bargeLut => Sys2Proof.Machine.execBargeLut s
  | .bargeManifest => Sys2Proof.Machine.execBargeManifest s
  | .bargeFence => Sys2Proof.Machine.execBargeFence s
  | .bargeUnknown => Sys2Proof.Machine.execBargeUnknown s
  | .bargeFenceApply => Sys2Proof.Machine.execBargeFenceApply s
  | .bargeSeqReset => Sys2Proof.Machine.execBargeSeqReset s
  | .csiFrameStart vc ecc ircCount => Sys2Proof.Machine.execCsiFrameStart vc ecc ircCount s
  | .csiFrameEnd header => Sys2Proof.Machine.execCsiFrameEnd header s
  | .csiImageLine vc samples ecc crcOk room => Sys2Proof.Machine.execCsiImageLine vc samples ecc crcOk room s
  | .csiEmbeddedData vc bytes ecc => Sys2Proof.Machine.execCsiEmbeddedData vc bytes ecc s
  | .csiGenericShort vc dt ecc => Sys2Proof.Machine.execCsiGenericShort vc dt ecc s
  | .csiShareWrite v => Sys2Proof.Machine.execCsiShareWrite v s
  | .csiVcEnable vc v => Sys2Proof.Machine.execCsiVcEnable vc v s
  | .stripeReady => Sys2Proof.Machine.execStripeReady s
  | .ispFrameEnd pipe ctx => Sys2Proof.Machine.execIspFrameEnd pipe ctx s
  | .proxStaleTimeout pipe ctx => Sys2Proof.Machine.execProxStaleTimeout pipe ctx s
  | .ispOutputFrameDone pipe ctx drops => Sys2Proof.Machine.execIspOutputFrameDone pipe ctx drops s
  | .rtxFrameSendStart => Sys2Proof.Machine.execRtxFrameSendStart s
  | .rtxFrameSent => Sys2Proof.Machine.execRtxFrameSent s
  | .rtxDirectLine stream line first room => Sys2Proof.Machine.execRtxDirectLine stream line first room s
  | .rtxStreamEnable stream v => Sys2Proof.Machine.execRtxStreamEnable stream v s
  | .frameBoundary so ticks => Sys2Proof.Machine.execFrameBoundary so ticks s
  | .flipArm v => Sys2Proof.Machine.execFlipArm v s
  | .flipCancel v => Sys2Proof.Machine.execFlipCancel v s
  | .cmpFenceWrite n v => Sys2Proof.Machine.execCmpFenceWrite n v s
  | .cmpLayerWrite addr v => Sys2Proof.Machine.execCmpLayerWrite addr v s
  | .tableRamWrite addr v => Sys2Proof.Machine.execTableRamWrite addr v s
  | .composeLineStart so wbRoom => Sys2Proof.Machine.execComposeLineStart so wbRoom s
  | .flattenBuildStart => Sys2Proof.Machine.execFlattenBuildStart s
  | .flattenBuildDone => Sys2Proof.Machine.execFlattenBuildDone s
  | .safeRectCheck r => Sys2Proof.Machine.execSafeRectCheck r s
  | .movCopy => Sys2Proof.Machine.execMovCopy s
  | .movFill => Sys2Proof.Machine.execMovFill s
  | .movConvert => Sys2Proof.Machine.execMovConvert s
  | .movJobDone => Sys2Proof.Machine.execMovJobDone s
  | .soCommitGo so => Sys2Proof.Machine.execSoCommitGo so s
  | .commitWindowClose so => Sys2Proof.Machine.execCommitWindowClose so s
  | .lineSubstitute so line x => Sys2Proof.Machine.execLineSubstitute so line x s
  | .soSnap so => Sys2Proof.Machine.execSoSnap so s
  | .soCrcCheck so r => Sys2Proof.Machine.execSoCrcCheck so r s
  | .bpsFrameWritten => Sys2Proof.Machine.execBpsFrameWritten s
  | .bpsDisplayStart => Sys2Proof.Machine.execBpsDisplayStart s
  | .bpsPlaneStart => Sys2Proof.Machine.execBpsPlaneStart s
  | .bpsResetStrobe block => Sys2Proof.Machine.execBpsResetStrobe block s
  | .lightCommandEdge ch on => Sys2Proof.Machine.execLightCommandEdge ch on s
  | .mifBlockLoadDone => Sys2Proof.Machine.execMifBlockLoadDone s
  | .actPosChange => Sys2Proof.Machine.execActPosChange s
  | .stuckMapAdd v => Sys2Proof.Machine.execStuckMapAdd v s
  | .stuckMapClear => Sys2Proof.Machine.execStuckMapClear s
  | .mfbEdge ticks => Sys2Proof.Machine.execMfbEdge ticks s
  | .mfbEdgeMissing ticks => Sys2Proof.Machine.execMfbEdgeMissing ticks s
  | .bscFaultHoldEnd => Sys2Proof.Machine.execBscFaultHoldEnd s
  | .bscControlRecord => Sys2Proof.Machine.execBscControlRecord s
  | .bscSweepStart ticks => Sys2Proof.Machine.execBscSweepStart ticks s
  | .bscPixelBoundary ticks late => Sys2Proof.Machine.execBscPixelBoundary ticks late s
  | .bscDisplayStart => Sys2Proof.Machine.execBscDisplayStart s
  | .bscFrameWritten drops => Sys2Proof.Machine.execBscFrameWritten drops s
  | .ltdCommit => Sys2Proof.Machine.execLtdCommit s
  | .pinSelftestDone short => Sys2Proof.Machine.execPinSelftestDone short s
  | .adcSample slot code => Sys2Proof.Machine.execAdcSample slot code s
  | .shfFault => Sys2Proof.Machine.execShfFault s
  | .ltdFaultClear shfHigh => Sys2Proof.Machine.execLtdFaultClear shfHigh s
  | .loopReset => Sys2Proof.Machine.execLoopReset s
  | .twpGo v => Sys2Proof.Machine.execTwpGo v s
  | .twpPeriodTrigger => Sys2Proof.Machine.execTwpPeriodTrigger s
  | .twpFrameStart => Sys2Proof.Machine.execTwpFrameStart s
  | .twpFrameEnd => Sys2Proof.Machine.execTwpFrameEnd s
  | .twpReturnRun highs => Sys2Proof.Machine.execTwpReturnRun highs s
  | .twpReturnTimeout => Sys2Proof.Machine.execTwpReturnTimeout s
  | .twpLocateReply highs => Sys2Proof.Machine.execTwpLocateReply highs s
  | .twpLocateListenTimeout => Sys2Proof.Machine.execTwpLocateListenTimeout s
  | .tmr0Period => Sys2Proof.Machine.execTmr0Period s
  | .patRun engine v => Sys2Proof.Machine.execPatRun engine v s
  | .patRestart engine => Sys2Proof.Machine.execPatRestart engine s
  | .tmr0Write v => Sys2Proof.Machine.execTmr0Write v s
  | .twpBusSelectWrite matrix v => Sys2Proof.Machine.execTwpBusSelectWrite matrix v s
  | .mxSync edge => Sys2Proof.Machine.execMxSync edge s
  | .mxRowOnEnd => Sys2Proof.Machine.execMxRowOnEnd s
  | .mxZoneFrameEnd => Sys2Proof.Machine.execMxZoneFrameEnd s
  | .mxZoneBackWrite j v => Sys2Proof.Machine.execMxZoneBackWrite j v s
  | .lkInAssert pin => Sys2Proof.Machine.execLkInAssert pin s
  | .lkInRelease pin => Sys2Proof.Machine.execLkInRelease pin s
  | .eventSourceExpire source => Sys2Proof.Machine.execEventSourceExpire source s
  | .latchClear v => Sys2Proof.Machine.execLatchClear v s
  | .lkkArm v => Sys2Proof.Machine.execLkkArm v s
  | .hostKill on => Sys2Proof.Machine.execHostKill on s
  | .safeForce on => Sys2Proof.Machine.execSafeForce on s
  | .thermSample temp => Sys2Proof.Machine.execThermSample temp s
  | .pinCheckMismatch pin => Sys2Proof.Machine.execPinCheckMismatch pin s
  | .logRecord => Sys2Proof.Machine.execLogRecord s
  | .logClear => Sys2Proof.Machine.execLogClear s
  | .logIdxWrite v => Sys2Proof.Machine.execLogIdxWrite v s
  | .logHostMarker v => Sys2Proof.Machine.execLogHostMarker v s
  | .calSecond => Sys2Proof.Machine.execCalSecond s
  | .calSet => Sys2Proof.Machine.execCalSet s
  | .alarmSet => Sys2Proof.Machine.execAlarmSet s
  | .calTrimWrite v => Sys2Proof.Machine.execCalTrimWrite v s
  | .lampSecond lamp => Sys2Proof.Machine.execLampSecond lamp s
  | .litSecond => Sys2Proof.Machine.execLitSecond s
  | .lampHoursWrite counter v => Sys2Proof.Machine.execLampHoursWrite counter v s
  | .porAssert => Sys2Proof.Machine.execPorAssert s
  | .porRelease straps => Sys2Proof.Machine.execPorRelease straps s
  | .gpioWrite v => Sys2Proof.Machine.execGpioWrite v s
  | .tapReset => Sys2Proof.Machine.execTapReset s
  | .tapIdcode => Sys2Proof.Machine.execTapIdcode s
  | .tapBypass code bit => Sys2Proof.Machine.execTapBypass code bit s
  | .tapCsrRequest dr => Sys2Proof.Machine.execTapCsrRequest dr s
  | .tapCsrComplete => Sys2Proof.Machine.execTapCsrComplete s
  | .counterClear addr v => Sys2Proof.Machine.execCounterClear addr v s
  | .registerWrite addr v mask => Sys2Proof.Machine.execRegisterWrite addr v mask s
  | .basinUrgency so tol => Sys2Proof.Machine.execBasinUrgency so tol s
  | .shuntPwmEdge lamp opening => Sys2Proof.Machine.execShuntPwmEdge lamp opening s

end Sys2Proof.Machine
end

