-- ==== Sys2Proof/Machine/Step.lean ====
section
/-! DEFINITION. The step: the command at the front of the queue has its effect; with none waiting, a tick of the source
that the timebase runs on passes (R203). -/

namespace Sys2Proof.Machine

open Sys2Proof

/-- With no command waiting, time passes: the timebase takes a tick, except in power-on reset (R764). -/
def State.idle (s : State) : State :=
  if s.chip.pins.por then s else { s with chip := s.chip.tbTick }

/-- One step. -/
def step (s : State) : Host.Outcome State Fault Refusal :=
  match s.pending with
  | [] => .next s.idle
  | i :: rest => exec i { s with pending := rest }

/-- The state with a command put at the front of its queue. -/
def State.push (s : State) (i : Instr) : State := { s with pending := i :: s.pending }

/-- The state with the command a table word spells at the front of its queue. -/
def State.withFetchWord (s : State) (nbits w : Nat) : State :=
  match decodeTableWord nbits w with
  | some i => s.push i
  | none => s

end Sys2Proof.Machine
end

