-- ==== Sys2Proof/Safety.lean ====
section
/-! DEFINITION. What claims call a sound state: every sparse map of the part in its canonical form, so that equal
contents are equal data; what the part stores; and what a dark part is. -/

namespace Sys2Proof.Machine

/-- The canonical form of a memory whose unlisted bytes read as `d` says. -/
def Memory.wf (d : Nat → Byte) (m : List Host.Cell) : Bool := SMap.wf d m

/-- What the part stores outside its registers and its working state: DRAM, the serial flash, the SAFE SRAM, the fuses,
and which part it is. -/
structure Stores where
  dram : List Host.Cell
  flash : List Host.Cell
  safe : List Host.Cell
  otp : List (Nat × Word)
  variantS : Bool
  revision : Nat
deriving DecidableEq, Repr

/-- The stores of the part. -/
def Chip.stores (c : Chip) : Stores := ⟨c.dram, c.flash, c.cmp.safe, c.ld.otp, c.variantS, c.revision⟩

/-- An unlisted byte of the SAFE SRAM reads as 0. -/
def safeDefault : Nat → Byte := fun _ => 0

/-- Every store is in its canonical form. -/
def Stores.wf (s : Stores) : Bool :=
  Memory.wf dramDefault s.dram && Memory.wf flashDefault s.flash && Memory.wf safeDefault s.safe
    && SMap.wf otpDefault s.otp

/-- The values a scan-out holds for its pending commit (R567), none when nothing is held. -/
def ScanOut.held (s : ScanOut) : List (Nat × Word) := s.snap.getD []

/-- Every store is in its canonical form, and so are the register maps: as written, in effect, and held for a commit. -/
def Chip.sound (c : Chip) : Bool :=
  c.stores.wf && SMap.wf resetWord c.regs && SMap.wf resetWord c.eff && SMap.wf resetWord c.soA.held
    && SMap.wf resetWord c.soB.held

/-- The mode the part is in, and the cause it was entered with (Table 1.7). -/
def Chip.seat (c : Chip) : Mode × Nat := (c.mode.mode, c.mode.cause)

/-- A state whose part is sound. -/
def State.sound (s : State) : Bool := s.chip.sound

/-- No light is permitted: both LIGHT_EN_N commands are low (R722). -/
def State.dark (s : State) : Bool := s.chip.killLow

end Sys2Proof.Machine
end

