-- ==== Sys2Proof/Certificates/Slice0/Obligations.lean ====
section
/-! DEFINITION. The statements about the block, by family of commands. A command's statement says what the part holds
after it and what it leaves as it was; that it answers a next state, and that the queue is untouched, is the equation
each one begins with. -/

namespace Sys2Proof.Machine

/-- Power-on reset is over: the block runs (R764). -/
def State.runs (s : State) : Prop := s.chip.pins.por = false

/-- A write of the host reaches the register at this internal address (R7, R30, R136). -/
def Chip.reach (c : Chip) (a : Nat) : Prop := c.pdOn 2 = true ∧ c.access a = .ok

/-- Every register but the ones listed reads as before. -/
def Chip.sameBut (c d : Chip) (as : List Nat) : Prop := ∀ a, a ∉ as → d.get a = c.get a

/-- Nothing differs but the registers listed. -/
def Chip.onlyRegs (c d : Chip) (as : List Nat) : Prop := d = { c with regs := d.regs } ∧ c.sameBut d as

/-- The registers of the clock domains, whose enables R168 sets when a block takes a use. -/
def clockDoms : List Nat := (List.range 25).map fun n => domAddr (n + 1)

/-- A failure of a regulator has been taken (Table 5.5): its kind, step and time are recorded, the forced edge to
DEEP_SLEEP is in progress and no light is permitted. -/
def Chip.wakeFailed (d : Chip) (kind step time : Nat) : Prop :=
  d.rd PWR_WAKE_STAT_FAIL_KIND = kind ∧ d.rd PWR_WAKE_STAT_FAIL_STEP = step ∧
    d.rd PWR_WAKE_STAT_FAIL_TIME = min time 0xFFFF ∧ d.mode.edge = some .e13 ∧ d.mode.target = .deepSleep ∧
    d.mode.forced = true ∧ d.killLow = true ∧ d.mcState 0 = mcOff ∧ d.mcState 1 = mcOff

/-- The registers of the event log that a new record changes (R731, R734). -/
def logRegs : List Nat := [LKK_LOG_STAT.addr, LKK_LOG_CNT.addr, LKK_LOG_SEQ.addr]

/-- The slot of the event log. -/
def Chip.logSlot (c : Chip) (n : Nat) : LogRec := SMap.get (fun _ => LogRec.zero) c.lk.slots n

/-- One record of the Lockkeeper's own has entered a log that was not full: stored in the slot WR, counted and
numbered (R731, R733, Table 17.5). -/
def Chip.logged (c d : Chip) (type unit data : Nat) : Prop :=
  (d.logSlot (c.rd LKK_LOG_STAT_WR)).type = type ∧ (d.logSlot (c.rd LKK_LOG_STAT_WR)).unit = unit ∧
    (d.logSlot (c.rd LKK_LOG_STAT_WR)).data = data ∧ (d.logSlot (c.rd LKK_LOG_STAT_WR)).seq = c.rd LKK_LOG_SEQ_SEQ ∧
    (d.logSlot (c.rd LKK_LOG_STAT_WR)).ts = c.stamp ∧
    d.rd LKK_LOG_STAT_COUNT = c.rd LKK_LOG_STAT_COUNT + 1 ∧
    d.rd LKK_LOG_STAT_WR = (c.rd LKK_LOG_STAT_WR + 1) % 256 ∧
    d.rd LKK_LOG_SEQ_SEQ = (c.rd LKK_LOG_SEQ_SEQ + 1) % 65536 ∧
    (∀ n, n ≠ c.rd LKK_LOG_STAT_WR → d.logSlot n = c.logSlot n) ∧ d.wh.evt.getLsbD evLkk = true

/-- Nothing differs but the registers listed, the Lockkeeper and the events of the port. -/
def Chip.onlyLk (c d : Chip) (as : List Nat) : Prop :=
  d = { c with regs := d.regs, lk := d.lk, wh := { c.wh with evt := d.wh.evt } } ∧ c.sameBut d as

/-- The moments of a calendar year 2000 to 2199 (R738). -/
def CalTime.valid (t : CalTime) : Prop :=
  2000 ≤ t.year ∧ t.year ≤ 2199 ∧ 1 ≤ t.month ∧ t.month ≤ 12 ∧ 1 ≤ t.day ∧ t.day ≤ monthDays t.year t.month ∧
    t.hour ≤ 23 ∧ t.minute ≤ 59 ∧ t.second ≤ 59

/-- Seconds from 2000-01-01 00:00:00. -/
def CalTime.seconds (t : CalTime) : Nat :=
  dayNumber t.year t.month t.day * 86400 + t.hour * 3600 + t.minute * 60 + t.second

/-- Nothing differs but the controller of one memory channel and the registers listed. -/
def Chip.onlyMc (c d : Chip) (ch : Nat) (as : List Nat) : Prop :=
  d = { c with regs := d.regs, mcA := d.mcA, mcB := d.mcB } ∧ (∀ k, k < 2 → k ≠ ch → d.mc k = c.mc k) ∧
    c.sameBut d as

/-- MCx_WEIR_STAT, which every ACT of a channel can change (R340). -/
def weirReg (ch : Nat) : Nat := (mcF ch MCA_WEIR_STAT).addr

/-- MCX_PORT_LINES of a port (Table 7.14). -/
def portLines (p : Nat) : List Nat := [(MCX_PORT_LINES_LO.at p).addr, (MCX_PORT_LINES_HI.at p).addr]

/-- The other channel's controller is as before. -/
def Chip.otherMc (c d : Chip) (ch : Nat) : Prop := ∀ k, k < 2 → k ≠ ch → d.mc k = c.mc k

/-- Every byte of DRAM outside one channel reads as before. -/
def Chip.otherDram (c d : Chip) (ch : Nat) : Prop :=
  ∀ k, k < chKeys ch ∨ chKeys (ch + 1) ≤ k → SMap.get dramDefault d.dram k = SMap.get dramDefault c.dram k

/-- Word `i` of the line at a place. -/
def Loc.word (l : Loc) (i : Nat) : Loc := { l with off := l.off + 8 * i }

/-- The barge packet of a type at the head of the stream has come whole, with nothing behind it. -/
def Chip.packetReady (c : Chip) (type : Nat) : Prop :=
  c.headIs (· == type) = true ∧ c.brg.stream.length = 20 + c.brg.len

/-- The stream after the one whole packet it holds: empty, its marks of full lines moved on with it (R442). -/
def Barge.packetEnd (b : Barge) : Barge :=
  { b with
      stream := [], seen := false, blocked := false, osdDone := 0
      full := b.full.map fun r => (r.1 - (20 + b.len), r.2 - (20 + b.len)) }

/-- A barge packet has been accepted (R435, R436): counted, its SEQ the last one, the missing ones counted as GAP. -/
def Chip.packetTaken (c d : Chip) : Prop :=
  c.sameBut d [VIN_BRG_STAT.addr, VIN_BRG_CNT0.addr, VIN_BRG_CNT2.addr] ∧
    d.rd VIN_BRG_CNT0_ACCEPTED = satAdd 16 (c.rd VIN_BRG_CNT0_ACCEPTED) 1 ∧
    d.rd VIN_BRG_CNT0_DUP = c.rd VIN_BRG_CNT0_DUP ∧ d.rd VIN_BRG_STAT_LAST_SEQ = c.brg.seq ∧
    d.rd VIN_BRG_STAT_SEQ_VALID = 1 ∧
    d.rd VIN_BRG_CNT2_GAP = satAdd 16 (c.rd VIN_BRG_CNT2_GAP)
      (if c.flag VIN_BRG_STAT_SEQ_VALID then (c.brg.seq + 65535 - c.rd VIN_BRG_STAT_LAST_SEQ) % 65536 else 0)

/-- The reaction to a loss of reference has begun (R198, Table 4.6): it is recorded under its cause, SYS and the
timebase are on IRC, and the forced edge to STANDBY is in progress. -/
def Chip.reflostBegun (d : Chip) (cause : Nat) : Prop :=
  d.ck.reflost = true ∧ d.ck.sysOnIrc = true ∧ d.ck.tbOnIrc = true ∧ d.rd CKG_MON_STAT_CAUSE = cause ∧
    d.rd CKG_MON_STAT_EVT = 1 ∧ d.mode.edge = some .e12 ∧ d.mode.target = .standby ∧ d.mode.forced = true

/-- The edges of Table 1.4 that a request for mode `t` takes, from the mode the part is in, where the request is not
refused; a request that needs the image leads through LOAD when there is none or RELOAD is set (R41). -/
def Chip.tableEdge (c : Chip) (w : Half) (t : Mode) (e : Edge) : Prop :=
  match c.mode.mode with
  | .standby =>
    (t = .deepSleep ∧ e = .e2) ∨ (t = .load ∧ e = .e3) ∨
      (t ∈ [Mode.calibrate, .mirror, .scan, .panel] ∧ (c.mode.loadFailed = false ∨ reqReload w = true) ∧
        ((c.mode.imageValid = true ∧ reqReload w = false ∧ e = .e6) ∨
          ((c.mode.imageValid = false ∨ reqReload w = true) ∧ e = .e3)))
  | .calibrate =>
    ((t = .standby ∨ (t = c.mode.calFrom ∧ t ∈ [Mode.mirror, .scan, .panel])) ∧ e = .e9) ∨
      (t = .hold ∧ c.mcConfigured ≠ [] ∧ e = .e10)
  | .mirror | .scan | .panel =>
    (t = .standby ∧ e = .e7) ∨ (t = .calibrate ∧ e = .e8) ∨ (t = .hold ∧ c.mcConfigured ≠ [] ∧ e = .e10)
  | .load => t = .hold ∧ c.mcConfigured ≠ [] ∧ e = .e10
  | .hold => t = .standby ∧ e = .e11
  | .deepSleep => False

/-- No rank migration waits for a frame boundary (Table 8.4), so that a scan-out that stops performs no flip. -/
def Chip.noFlip (c : Chip) : Prop := ∀ ch, ch < 2 → c.migState ch ≠ 2

/-- The registers that a domain switch can change beside those of the domain itself: PWR_GPIO (R774), the clock domains
(R168), TWP_STAT (R708), LOCK_US of the PLLs (Table 4.11). -/
def switchRegs : List Nat := PWR_GPIO.addr :: TWP_STAT.addr :: 0x18 :: 0x28 :: 0x38 :: 0x48 :: clockDoms

/-- An edge has ended in a mode, with its CAUSE (Table 1.7); no edge is in progress and WH_EVT.MODE is set (R55). -/
def Chip.arrived (c d : Chip) (m : Mode) (cause : Nat) : Prop :=
  d.seat = (m, cause) ∧ d.mode.edge = none ∧ d.mode.forced = false ∧ d.mode.moored = false ∧
    d.wh.evt.getLsbD evMode = true ∧ d.mode.tag = (if c.mode.forced then c.mode.tag else c.mode.reqTag) ∧
    d.flash = c.flash

/-- A request refused with a code (R54): REFUSE, its TAG and the mode event, and nothing else but the request itself
as written. -/
def Chip.requestRefused (c : Chip) (w : Half) (code : Nat) : Chip :=
  { c with
      mode := { c.mode with req := w &&& 0xFF7F, refuse := code, tag := w.toNat / 256, abandoned := false }
      wh := { c.wh with evt := c.wh.evt ||| 1 } }

/-- A check of LOAD has failed with a code (R278, R281): E5 toward STANDBY begins at once, no image is valid, and the
SAFE SRAM is cleared. -/
def Chip.loadFailing (c d : Chip) (err : Nat) : Prop :=
  d.rd LDR_STAT_ERR = err ∧ d.ld.phase = .failed ∧ d.mode.edge = some .e5 ∧ d.mode.target = .standby ∧
    d.mode.imageValid = false ∧ d.mode.loadFailed = true ∧ d.cmp.safe = [] ∧ d.seat = c.seat ∧ d.flash = c.flash ∧
    d.ld.otp = c.ld.otp

/-- The append of a record has failed for a reason (R293, R296): counted, in the event log, and announced. -/
def Chip.appendFailed (c d : Chip) (r : LedgerReq) (why : Nat) : Prop :=
  d.rd LDR_LEDGER_CNT_FAILED = satAdd 8 (c.rd LDR_LEDGER_CNT_FAILED) 1 ∧ d.wh.evt.getLsbD evLedger = true ∧
    d.stores = c.stores ∧ d.seat = c.seat ∧
    (c.lk.queue = [] → ∃ x rest, d.lk.queue = x :: rest ∧ x.type = 6 ∧ x.unit = r.unit % 65536 ∧
      x.flags / 16 % 16 = why ∧ x.data % 256 = r.kind % 256)

/-- The commands that can change what the part stores: DRAM, the flash, the SAFE SRAM or the fuses. -/
def mayStore : Instr → Bool
  | .alertFall .. | .apertureComplete | .bargeFence | .bargeLut | .bargeManifest | .bargeOsd | .bargeUnknown
    | .bistPhase1Done .. | .bistPhase2Done .. | .bodyReadDone | .bpsFrameWritten | .bscFrameWritten ..
    | .calibrateEntered | .calibrateExited | .ckgDomWrite .. | .composeLineStart .. | .counterClear .. | .domainSwitchComplete
    | .fhostCmdDone | .fhostTimeout | .flattenBuildDone | .frameBoundary .. | .freezeSrEntered .. | .holdEntered
    | .i2cStretchTimeout .. | .idataHiRead | .internalWriteComplete | .ispOutputFrameDone .. | .ldrHeaderRead ..
    | .ledgerAttemptStart | .ledgerBusyClear | .ledgerBusyTimeout | .ledgerReadbackDone .. | .loadComplete | .loadEntered
    | .loadFailExit | .mcInitGo .. | .mfstFetchDone | .migCopyLine .. | .modeRequest .. | .monGateEnd ..
    | .movConvert | .movCopy | .movFill | .pgLost .. | .pictureModeEntered | .pllLockLoss ..
    | .pllLockTimeout .. | .porAssert | .pprDone .. | .prefetchComplete | .reflostComplete | .regStepTimeout ..
    | .registerWrite .. | .schedulerIssue .. | .scrubReadReturn .. | .sectionRead | .seedVisitDue .. | .soCommitGo ..
    | .sleepComplete | .standbyEntered | .sweepGo .. | .tapCsrComplete | .vinFrameStart .. | .vinLine ..
    | .wakeComplete | .wakeFailComplete | .wharfReadTransaction .. | .wharfWriteTransaction .. | .xinGlitch ..
    | .xinStop => true
  | _ => false

/-- The commands that can change the mode: the two of power-on reset and the ends of the edges (Table 1.4). -/
def mayEnter : Instr → Bool
  | .porAssert | .porRelease .. | .pictureModeEntered | .standbyEntered | .calibrateEntered | .calibrateExited
    | .holdEntered | .reflostComplete | .sleepComplete | .wakeFailComplete | .wakeComplete | .loadEntered
    | .loadFailExit => true
  | _ => false

/-- The commands that can change CAUSE with the mode as it is: the XIN checks, which in STANDBY with no PLL make the part
limp at once (R201). -/
def mayLimp : Instr → Bool
  | .xinStop | .xinGlitch .. | .monGateEnd .. => true
  | _ => false

/-- The commands that have an effect in power-on reset: the reset itself and the TAP (R764, R767, R807). -/
def inReset : Instr → Bool
  | .porAssert | .porRelease .. | .tapReset | .tapIdcode | .tapBypass .. | .tapCsrRequest .. => true
  | _ => false

end Sys2Proof.Machine

open Sys2Proof Sys2Proof.Machine

/-- The timebase registers (R88, R206, Table 4.9). -/
def Obligations.TimebaseRegisters : Prop :=
  (∀ (s : State) (v : Word), s.runs → s.chip.reach 0x50C →
    ∃ d, exec (.tbIncWrite v) s = .next { s with chip := d } ∧ s.chip.onlyRegs d [0x50C] ∧
      d.get 0x50C = if v = 0 then s.chip.get 0x50C else v) ∧
  (∀ (s : State) (v : Word), s.runs → s.chip.reach 0x510 →
    ∃ d, exec (.tbIrcIncWrite v) s = .next { s with chip := d } ∧ s.chip.onlyRegs d [0x510] ∧
      d.get 0x510 = if v = 0 then s.chip.get 0x510 else v) ∧
  (∀ s : State, s.runs → s.chip.reach 0x500 →
    ∃ d, exec .tbSnap s = .next { s with chip := d } ∧ s.chip.onlyRegs d [0x504, 0x508] ∧
      (d.get 0x508).toNat * 2 ^ 32 + (d.get 0x504).toNat = s.chip.ck.tb / 2 ^ 24 % 2 ^ 64)

/-- The IRC trim with source XIN (R177, R179, R180). The clock monitor (R174, R194, R196, R202, Tables 4.5, 4.13).
-/
def Obligations.ClockMonitorAndTrim : Prop :=
  ((∀ (s : State) (count : Nat), s.runs → s.chip.rd CKG_IRC_TRIM_SRC = 1 → s.chip.rd CKG_IRC_TRIM_FREEZE = 0 →
    s.chip.ck.xinPresent = true →
    ∃ d, exec (.ircTrimXinUpdate count) s = .next { s with chip := d } ∧
      s.chip.onlyRegs d [CKG_IRC_TRIM.addr, CKG_ARITH.addr] ∧
      (let f := toSigned 8 (s.chip.rd CKG_IRC_TRIM_FTRIM)
       toSigned 8 (d.rd CKG_IRC_TRIM_FTRIM) =
          (if 48006 < count then max (-128) (f - 1) else if count < 47994 then min 127 (f + 1) else f) ∧
        d.rd CKG_ARITH_SAT_COUNT =
          (if 48006 < count ∧ f = -128 ∨ count < 47994 ∧ f = 127 then
            satAdd 16 (s.chip.rd CKG_ARITH_SAT_COUNT) 1 else s.chip.rd CKG_ARITH_SAT_COUNT))) ∧
  (∀ (s : State) (count : Nat), s.runs →
    s.chip.rd CKG_IRC_TRIM_SRC ≠ 1 ∨ s.chip.rd CKG_IRC_TRIM_FREEZE ≠ 0 ∨ s.chip.ck.xinPresent = false →
    exec (.ircTrimXinUpdate count) s = .next s)) ∧
  ((∀ s : State, s.runs → s.chip.mode.edge = some .e1 → s.chip.pw.step = none →
    exec .xinDelayExpire s = .next { s with chip := { s.chip with ck := { s.chip.ck with
        xinArmed := true, inWindowUs := 0, glitches := 0, monCtl := s.chip.get 0x400 } } }) ∧
  (∀ s : State, s.runs → s.chip.reach 0x408 →
    ∃ d, exec .monEvtClear s = .next { s with chip := d } ∧ s.chip.onlyRegs d [0x408, 0x40C] ∧
      d.rd CKG_MON_STAT_CAUSE = 0 ∧ d.rd CKG_MON_STAT_DRAM_LOST = 0 ∧ d.rd CKG_MON_STAT_EVT = 0 ∧
      d.rd CKG_MON_STAT_XIN_OK = s.chip.rd CKG_MON_STAT_XIN_OK ∧ d.rd CKG_MON_GLITCH_GLITCH = 0) ∧
  (∀ s : State, s.runs →
    ∃ d, exec .ircActivityFault s = .next { s with chip := d } ∧
      d = { s.chip with ck := { s.chip.ck with ircDead := true } } ∧ d.killLow = true) ∧
  (∀ (s : State) (since : Nat), s.runs → s.chip.xinWatched = true → s.chip.ck.glitches + 1 ≠ s.chip.glitchLim →
    ∃ d, exec (.xinGlitch since) s = .next { s with chip := d } ∧
      d = { s.chip with regs := d.regs, ck := { s.chip.ck with glitches := s.chip.ck.glitches + 1 } } ∧
      s.chip.sameBut d [0x40C] ∧ d.rd CKG_MON_GLITCH_GLITCH = satAdd 16 (s.chip.rd CKG_MON_GLITCH_GLITCH) 1) ∧
  (∀ (s : State) (edges since : Nat) (rates : List Nat), s.runs → s.chip.xinWatched = true →
    s.chip.inWindow edges = true → s.chip.ck.xinPresent = true → (∀ p < 4, (s.chip.pll p).on = false) →
    exec (.monGateEnd edges rates since) s = .next { s with chip := { s.chip with ck := { s.chip.ck with
        inWindowUs := min 1000 (s.chip.ck.inWindowUs + s.chip.gateUs), glitches := 0, monCtl := s.chip.get 0x400 } } }) ∧
  (∀ s : State, s.runs → s.chip.xinWatched = false →
    exec .xinStop s = .next s ∧ ∀ since, exec (.xinGlitch since) s = .next s))

/-- Loss of reference (R188, R198-R200, Table 4.6). -/
def Obligations.LossOfReference : Prop :=
  (∀ s : State, s.runs → s.chip.xinWatched = true → s.chip.mode.mode ≠ .deepSleep → s.chip.mode.mode ≠ .standby →
    s.chip.ck.reflost = false → s.chip.rankNow < 2 →
    (∃ d, exec .xinStop s = .next { s with chip := d } ∧ d.reflostBegun 1 ∧ d.stores = s.chip.stores ∧
      d.seat = s.chip.seat ∧ d.ck.xinPresent = false ∧ d.rd CKG_MON_STAT_XIN_OK = 0) ∧
    (∀ since, s.chip.ck.glitches + 1 = s.chip.glitchLim →
      ∃ d, exec (.xinGlitch since) s = .next { s with chip := d } ∧ d.reflostBegun 2 ∧ d.stores = s.chip.stores ∧
        d.seat = s.chip.seat ∧ d.ck.xinPresent = false) ∧
    (∀ edges rates since, s.chip.inWindow edges = false → (∀ p < 4, (s.chip.pll p).held = false) →
      ∃ d, exec (.monGateEnd edges rates since) s = .next { s with chip := d } ∧ d.reflostBegun 3 ∧
        d.stores = s.chip.stores ∧ d.seat = s.chip.seat ∧ d.ck.xinPresent = false ∧ d.ck.glitches = 0)) ∧
  (∀ (s : State) (p since : Nat), s.runs → s.chip.ck.reflost = false → s.chip.rankNow < 2 → p < 4 →
    (s.chip.pll p).on = true → (s.chip.pll p).lock = false → (s.chip.pll p).holdover = false →
    ∃ d, exec (.pllLockTimeout p since) s = .next { s with chip := d } ∧ d.reflostBegun 8 ∧
      d.stores = s.chip.stores ∧ d.seat = s.chip.seat) ∧
  (∀ (s : State) (p since : Nat), s.runs → s.chip.ck.reflost = false → s.chip.rankNow < 2 → p < 4 → p ≠ 1 →
    (s.chip.pll p).on = true → (s.chip.pll p).lock = true → (s.chip.pll p).held = true → s.chip.pllChecked p = true →
    ∃ d, exec (.pllLockLoss p since) s = .next { s with chip := d } ∧ d.reflostBegun (4 + p) ∧
      d.stores = s.chip.stores ∧ d.seat = s.chip.seat ∧
      d.rd (pllF p CKG_PLLS_STAT_LOSS_COUNT) = satAdd 8 (s.chip.rd (pllF p CKG_PLLS_STAT_LOSS_COUNT)) 1) ∧
  (∀ s : State, s.runs → s.chip.ck.reflost = true →
    ∃ d, exec .refHoldoverEnd s = .next { s with chip := d } ∧ d = { s.chip with ck := d.ck } ∧
      (∀ p < 4, (d.pll p).on = false) ∧ d.ck.sysOnIrc = true)

/-- PLL lock and the divider ladder (R181, R184-R187, R191). -/
def Obligations.PllLockAndLadder : Prop :=
  (∀ (s : State) (p us : Nat), s.runs → p < 4 → (s.chip.pll p).on = true → (s.chip.pll p).lock = false →
    (s.chip.pll p).holdover = false →
    ∃ d, exec (.pllLock p us) s = .next { s with chip := d } ∧
      d = { s.chip with regs := d.regs, ck := { s.chip.ck with plls := d.ck.plls } } ∧
      d.pll p = { s.chip.pll p with lock := true, held := false } ∧ (∀ q, q ≠ p → d.pll q = s.chip.pll q) ∧
      s.chip.sameBut d [0x18 + 0x10 * p] ∧ d.rd (pllF p CKG_PLLS_STAT_LOCK_US) = min us 0xFFFF) ∧
  (∀ s : State, s.runs → (s.chip.pll 1).on = true → (s.chip.pll 1).lock = true → (s.chip.pll 1).held = false →
    ∃ d, exec (.pllLockHoldExpire 1) s = .next { s with chip := d } ∧
      d = { s.chip with ck := { s.chip.ck with
        plls := d.ck.plls
        divs := if s.chip.dramQuiet then (s.chip.ck.divs.set 5 4).set 6 2 else s.chip.ck.divs } } ∧
      d.pll 1 = { s.chip.pll 1 with held := true } ∧ ∀ q, q ≠ 1 → d.pll q = s.chip.pll q) ∧
  (∀ s : State, s.runs →
    ∃ d, exec .dividerRampStep s = .next { s with chip := d } ∧
      d = { s.chip with ck := { s.chip.ck with divs := d.ck.divs } } ∧
      ∀ n, 1 ≤ n → n ≤ 25 →
        d.divNow n = if s.chip.ramping n then ladderDown (s.chip.divNow n) (s.chip.targetDiv n) else s.chip.divNow n) ∧
  (∀ now target, target < now → now ≤ 16 → target ∈ ladder → now ∈ ladder →
    target ≤ ladderDown now target ∧ ladderDown now target < now ∧ ladderDown now target ∈ ladder ∧
      ∀ x ∈ ladder, target ≤ x → x < now → x ≤ ladderDown now target) ∧
  (∀ (s : State) (v : Word), s.runs → s.chip.reach 0x34 →
    ∃ d, exec (.pllvFracWrite v) s = .next { s with chip := d } ∧
      d = { s.chip with regs := d.regs, ck := { s.chip.ck with plls := d.ck.plls } } ∧ s.chip.sameBut d [0x34] ∧
      d.rd CKG_PLLV_FRAC_FRAC = v.toNat % 2 ^ 24 ∧
      d.pll 2 = (if (s.chip.pll 2).on then { s.chip.pll 2 with frac := v.toNat % 2 ^ 24 } else s.chip.pll 2) ∧
      ∀ q, q ≠ 2 → d.pll q = s.chip.pll q)

/-- The frequency meters (R207-R209). -/
def Obligations.FrequencyMeters : Prop :=
  (∀ (s : State) (m : Nat) (v : Word), s.runs → m < 2 → s.chip.reach (0x300 + 0x10 * m) →
    ∃ d, exec (.fmStart m v) s = .next { s with chip := d } ∧
      s.chip.sameBut d [0x300 + 0x10 * m, 0x308 + 0x10 * m] ∧
      d.rd (fmF m CKG_FM0_CTL_TGT) = v.toNat % 32 ∧ d.rd (fmF m CKG_FM0_CTL_REF) = v.toNat / 2 ^ 8 % 32 ∧
      (if v.toNat / 2 ^ 16 % 2 = 1 then
        d = { s.chip with regs := d.regs, ck := { s.chip.ck with fmBusy := s.chip.ck.fmBusy.set m true } } ∧
        d.rd (fmF m CKG_FM0_COUNT_COUNT) = 0 ∧ d.rd (fmF m CKG_FM0_CTL_DONE) = 0 ∧
        d.rd (fmF m CKG_FM0_CTL_TMO) = 0 ∧ d.rd (fmF m CKG_FM0_CTL_BUSY) = 1
       else s.chip.onlyRegs d [0x300 + 0x10 * m])) ∧
  (∀ (s : State) (m count : Nat), s.runs → s.chip.ck.fmBusy.getD m false = true → count < 2 ^ 32 →
    (∃ d, exec (.fmGateEnd m count) s = .next { s with chip := d } ∧
      d = { s.chip with regs := d.regs, ck := { s.chip.ck with fmBusy := s.chip.ck.fmBusy.set m false } } ∧
      s.chip.sameBut d [0x300 + 0x10 * m, 0x308 + 0x10 * m] ∧
      d.rd (fmF m CKG_FM0_COUNT_COUNT) = count ∧ d.rd (fmF m CKG_FM0_CTL_DONE) = 1 ∧
      d.rd (fmF m CKG_FM0_CTL_TMO) = 0 ∧ d.rd (fmF m CKG_FM0_CTL_BUSY) = 0) ∧
    (∃ d, exec (.fmTimeout m count) s = .next { s with chip := d } ∧
      d = { s.chip with regs := d.regs, ck := { s.chip.ck with fmBusy := s.chip.ck.fmBusy.set m false } } ∧
      s.chip.sameBut d [0x300 + 0x10 * m, 0x308 + 0x10 * m] ∧
      d.rd (fmF m CKG_FM0_COUNT_COUNT) = count ∧ d.rd (fmF m CKG_FM0_CTL_DONE) = 1 ∧
      d.rd (fmF m CKG_FM0_CTL_TMO) = 1 ∧ d.rd (fmF m CKG_FM0_CTL_BUSY) = 0)) ∧
  (∀ (s : State) (m count : Nat), s.runs → s.chip.ck.fmBusy.getD m false = false →
    exec (.fmGateEnd m count) s = .next s ∧ exec (.fmTimeout m count) s = .next s)

/-- Wake triggers and the unlock (R43, R236, R245, R246, R257, R259, R260). -/
def Obligations.WakeTriggers : Prop :=
  (∀ s : State, s.runs → s.chip.wakeArmed 1 = false → exec .wakeTrigger s = .next s) ∧
  (∀ s : State, s.runs → s.chip.wakeArmed 1 = true → s.chip.mode.edge = some .e2 →
    exec .wakeTrigger s =
      .next { s with chip := { s.chip with mode := { s.chip.mode with wakeDeferred := some 1 } } }) ∧
  (∀ s : State, s.runs → s.chip.wakeArmed 1 = true → s.chip.mode.mode = .deepSleep → s.chip.mode.edge = none →
    ∃ d, exec .wakeTrigger s = .next { s with chip := d } ∧ s.chip.sameBut d [PWR_WAKE_STAT.addr] ∧
      if s.chip.wh.lockout then
        d = { s.chip with regs := d.regs, mode := { s.chip.mode with refuse := refusedWakelock } } ∧
        d.rd PWR_WAKE_STAT_IGNORED = 1
      else
        d.rd PWR_WAKE_STAT_SRC = 1 ∧ d.seat = s.chip.seat ∧ d.mode.edge = some .e1 ∧ d.mode.target = .standby ∧
        ∀ n, n < 4 → s.chip.rd (PWR_REG_CFG_USED.at n) = 1 → (∀ m, m < n → s.chip.rd (PWR_REG_CFG_USED.at m) = 0) →
          d.pw.step = some n ∧ d.pw.en = s.chip.pw.en.set n true ∧
          d = { s.chip with regs := d.regs, mode := d.mode, pw := d.pw }) ∧
  (∀ (s : State) (v : Half), s.runs → s.chip.mode.mode = .deepSleep → s.chip.wh.lockout = false →
    exec (.wakeUnlock v) s = exec .wakeTrigger s) ∧
  (∀ (s : State) (v : Half), s.runs → s.chip.mode.mode ≠ .deepSleep ∨ s.chip.wh.lockout = true → s.chip.wh.drain ≠ [] →
    exec (.wakeUnlock v) s = .next { s with chip := s.chip.whErr erBusyDrain }) ∧
  (∀ (s : State) (v : Half), s.runs → s.chip.mode.mode ≠ .deepSleep ∨ s.chip.wh.lockout = true → s.chip.wh.drain = [] →
    v ≠ 0x5A5A#16 → exec (.wakeUnlock v) s = .next s) ∧
  (∀ s : State, s.runs → s.chip.mode.mode ≠ .deepSleep ∨ s.chip.wh.lockout = true → s.chip.wh.drain = [] →
    ∃ d, exec (.wakeUnlock 0x5A5A#16) s = .next { s with chip := d } ∧
      d = { s.chip with regs := d.regs, wh := { s.chip.wh with failCount := 0, lockout := false } } ∧
      s.chip.sameBut d [PWR_WAKE_STAT.addr] ∧
      (s.chip.wh.lockout = true → d.rd PWR_WAKE_STAT_IGNORED = 0))

/-- Regulator steps and the back-out (R236-R241, Table 5.3). Regulator failures (R237, R240, Table 5.5). -/
def Obligations.RegulatorSteps : Prop :=
  ((∀ (s : State) (n m : Nat), s.runs → s.chip.pw.step = some n → s.chip.mode.edge = some .e1 →
    n < m → m < 4 → s.chip.regUsed m = true → (∀ k, n < k → k < m → s.chip.regUsed k = false) →
    (s.chip.regNopg n = false →
      exec .regStepComplete s = .next { s with chip := { s.chip with pw := { s.chip.pw with
        stepsDone := s.chip.pw.stepsDone.set n true, pg := s.chip.pw.pg.set n true
        en := s.chip.pw.en.set m true, step := some m } } } ∧
      exec .regStepFixedExpire s = .next s) ∧
    (s.chip.regNopg n = true →
      exec .regStepFixedExpire s = .next { s with chip := { s.chip with pw := { s.chip.pw with
        stepsDone := s.chip.pw.stepsDone.set n true, en := s.chip.pw.en.set m true, step := some m } } } ∧
      exec .regStepComplete s = .next s ∧ ∀ time, exec (.regStepTimeout time) s = .next s)) ∧
  (∀ (s : State) (n : Nat), s.runs → s.chip.pw.backout = true → n < 4 → s.chip.pw.en.getD n false = true →
    (∀ m, n < m → m < 4 → s.chip.pw.en.getD m false = false) →
    exec .backoutDwellExpire s = .next { s with chip := { s.chip with pw := { s.chip.pw with
      en := s.chip.pw.en.set n false, pg := s.chip.pw.pg.set n false } } }) ∧
  (∀ s : State, s.runs → s.chip.pw.backout = false → exec .backoutDwellExpire s = .next s)) ∧
  ((∀ (s : State) (n time : Nat), s.runs → s.chip.pw.step = some n → n < 4 → s.chip.mode.edge = some .e1 →
    s.chip.regNopg n = false →
    ∃ d, exec (.regStepTimeout time) s = .next { s with chip := d } ∧ d.wakeFailed 1 n time ∧ d.seat = s.chip.seat) ∧
  (∀ (s : State) (n time : Nat), s.runs → n < 4 → s.chip.pgMatters n = true → s.chip.mode.edge ≠ some .e13 →
    ∃ d, exec (.pgLost n time) s = .next { s with chip := d } ∧ d.wakeFailed 2 n time ∧ d.seat = s.chip.seat) ∧
  (∀ (s : State) (n time : Nat), s.runs → s.chip.pgMatters n = false →
    exec (.pgLost n time) s =
      .next { s with chip := { s.chip with pw := { s.chip.pw with pg := s.chip.pw.pg.set n false } } }))

/-- Domain switches (R217, R232-R234). Requests for power domains and clock gates (R169, R227-R231). -/
def Obligations.DomainRequests : Prop :=
  ((∀ (s : State) (x : Nat × PdState) (rest : List (Nat × PdState)), s.runs → s.chip.pw.queue = x :: rest →
    s.chip.sleeping = false →
    ∃ d, exec .domainSwitchComplete s = .next { s with chip := d } ∧
      d.pw = { s.chip.pw with pd := s.chip.pw.pd.set x.1 x.2, queue := rest } ∧ d.seat = s.chip.seat ∧
      (x.2 = .off ∧ s.chip.pdState x.1 ≠ .off →
        (∀ r ∈ pdRanges x.1, ∀ a, r.1 ≤ a → a < r.2 → a ∉ switchRegs → d.get a = resetWord a) ∧
        ∀ a, a ∉ switchRegs → a / 65536 ≠ 0x2C → (∀ r ∈ pdRanges x.1, a < r.1 ∨ r.2 ≤ a) → d.get a = s.chip.get a) ∧
      (x.2 ≠ .off → (∀ a, a ∉ switchRegs → a / 65536 ≠ 0x2C → d.get a = s.chip.get a) ∧ d.stores = s.chip.stores)) ∧
  (∀ (s : State) (high : Bool) (v : Word), s.runs → s.chip.reach (if high then 0x10024 else 0x10020) →
    s.chip.inEdge = true →
    exec (.pdreqWrite high v) s = .next { s with chip := { s.chip with pw := { s.chip.pw with
      pdreqQueue := s.chip.pw.pdreqQueue ++ [(high, v)] } } })) ∧
  ((∀ (s : State) (v : Word) (i : Nat), s.runs → s.chip.reach 0x10020 → s.chip.inEdge = false → i < 32 → i ≠ 6 →
    (∀ j, j < 32 → j ≠ i → v.getLsbD j = s.chip.pdreq j) → v.getLsbD i ≠ s.chip.pdreq i →
    ∃ d, exec (.pdreqWrite false v) s = .next { s with chip := d } ∧
      d = { s.chip with regs := d.regs, pw := { s.chip.pw with queue := d.pw.queue } } ∧
      (if v.getLsbD i = true ∧ (pdRule s.chip.mode.mode i ≠ .en ∨ s.chip.pdForcedOff s.chip.mode.mode i = true) then
        s.chip.sameBut d [PWR_ERR.addr] ∧ d.rd PWR_ERR_PD = i ∧ d.rd PWR_ERR_CODE = 2 ∧ d.rd PWR_ERR_ERR = 1
      else if v.getLsbD i = false ∧ s.chip.pdBusy i = true then
        s.chip.sameBut d [PWR_ERR.addr] ∧ d.rd PWR_ERR_PD = i ∧ d.rd PWR_ERR_CODE = 1 ∧ d.rd PWR_ERR_ERR = 1
      else s.chip.sameBut d [PWR_PDREQ_LO.addr] ∧ d.pdreq i = v.getLsbD i)) ∧
  (∀ (s : State) (n : Nat) (v : Word), s.runs → 1 ≤ n → n ≤ 25 → s.chip.reach (domAddr n) →
    s.chip.domEnabled n = true → (rwBits (domAddr n)).getLsbD s.chip.classBit = true →
    v.getLsbD s.chip.classBit = false → s.chip.nodeBusy n = true →
    ∃ d, exec (.ckgDomWrite n v) s = .next { s with chip := d } ∧ d.domEnabled n = true ∧
      d.rd CKG_ERR_DOMAIN = n ∧ d.rd CKG_ERR_CODE = 1 ∧ d.rd CKG_ERR_ERR = 1 ∧ d.seat = s.chip.seat ∧
      (s.chip.soLocked = false → d.stores = s.chip.stores)) ∧
  (∀ (s : State) (n : Nat) (v : Word), s.runs → 1 ≤ n → n ≤ 25 → n ≠ 5 → n ≠ 11 → n ≠ 12 →
    s.chip.reach (domAddr n) → s.chip.soLocked = false → v.getLsbD s.chip.classBit = true ∨ s.chip.nodeBusy n = false →
    ∃ d, exec (.ckgDomWrite n v) s = .next { s with chip := d } ∧
      d = { s.chip with regs := d.regs, ck := { s.chip.ck with divs := d.ck.divs } } ∧ s.chip.sameBut d clockDoms ∧
      ∀ i, i < 32 → i ≠ s.chip.classBit → (d.get (domAddr n)).getLsbD i =
        if (rwBits (domAddr n)).getLsbD i then v.getLsbD i else (s.chip.get (domAddr n)).getLsbD i) ∧
  (∀ (s : State) (v : Word) (p : Nat), s.runs → s.chip.reach 0x54 → p < 4 → v.getLsbD p = true →
    (∀ q, q < 4 → q ≠ p → v.getLsbD q = s.chip.bit CKG_PLL_CTL_OFF q) → s.chip.bit CKG_PLL_CTL_OFF p = false →
    (∃ d, exec (.pllOffRequest v) s = .next { s with chip := d } ∧ d.stores = s.chip.stores ∧ d.seat = s.chip.seat ∧
      d.rd CKG_PLL_CTL_CAL_SET = CKG_PLL_CTL_CAL_SET.get v ∧
      (s.chip.mode.mode ≠ .calibrate → s.chip.nodeBusy (26 + p) = false →
        d.bit CKG_PLL_CTL_OFF p = true ∧ (d.pll p).on = false))))

/-- Power-on reset and the pins (R235, R247, R764-R767, R774). -/
def Obligations.PowerOnReset : Prop :=
  (∀ s : State, ∃ d, exec .porAssert s = .next { s with chip := d } ∧ d.pins.por = true ∧ d.regs = [] ∧ d.eff = [] ∧
    d.dram = [] ∧ d.flash = s.chip.flash ∧ d.ld.otp = s.chip.ld.otp ∧ d.variantS = s.chip.variantS ∧
    d.revision = s.chip.revision ∧ d.pins.u12 = s.chip.pins.u12 ∧ d.mode = Chip.reset.mode ∧ d.killLow = true) ∧
  (∀ (s : State) (x : Straps), s.chip.pins.por = true → s.chip.pins.tmode = false → x.tmode = false →
    ∃ d, exec (.porRelease x) s = .next { s with chip := d } ∧ d.pins.por = false ∧ d.mode.mode = .deepSleep ∧
      d.mode.edge = some .e1 ∧ d.mode.cold = true ∧ d.mode.target = .standby ∧ d.pins.strapXs = x.xs % 8 ∧
      d.pins.strapPseq = x.pseq % 4 ∧ d.wh.i2c = x.wsel ∧ d.wh.i2cAddr = x.addr % 4 ∧ d.pw.step = some 0 ∧
      d.stores = s.chip.stores ∧ ∀ n, n < 4 → d.rd (PWR_REG_CFG_USED.at n) = b2n (decide (n ≤ x.pseq % 4))) ∧
  (∀ (s : State) (x : Straps), s.chip.pins.por = true → x.tmode = true →
    ∃ d, exec (.porRelease x) s = .next { s with chip := d } ∧ d.pins.por = true ∧ d.seat = s.chip.seat) ∧
  (∀ (s : State) (x : Straps), s.runs → exec (.porRelease x) s = .next s) ∧
  (∀ (s : State) (i : Instr), ¬s.runs → inReset i = false → exec i s = .next s) ∧
  (∀ (s : State) (v : Word), s.runs → s.chip.reach PWR_GPIO.addr →
    ∃ d, exec (.gpioWrite v) s = .next { s with chip := d } ∧
      s.chip.onlyRegs d [PWR_GPIO.addr, PWR_PIN_STAT.addr] ∧ d.rd PWR_GPIO_OUT = PWR_GPIO_OUT.get v ∧
      d.rd PWR_GPIO_OE = (if s.chip.u12Fn = 2 then PWR_GPIO_OE.get v else 0) ∧
      d.rd PWR_PIN_STAT_GPIO_REF =
        (if PWR_GPIO_OE.get v = 1 ∧ s.chip.u12Fn ≠ 2 then 1 else s.chip.rd PWR_PIN_STAT_GPIO_REF))

/-- Refused requests (R47-R54, Tables 1.8 and 1.10); the order of the reasons is the model's choice (log entry 11). -/
def Obligations.ModeRefusals : Prop :=
  ∀ (s : State) (w : Half), s.runs →
    (s.chip.mode.mode = .deepSleep → exec (.modeRequest w) s = exec .wakeTrigger s) ∧
    (s.chip.mode.mode ≠ .deepSleep → s.chip.wh.drain ≠ [] →
      exec (.modeRequest w) s = .next { s with chip := s.chip.whErr erBusyDrain }) ∧
    (s.chip.mode.mode ≠ .deepSleep → s.chip.wh.drain = [] →
      (s.chip.mode.edge ≠ none →
        exec (.modeRequest w) s = .next { s with chip := s.chip.requestRefused w 4 }) ∧
      (s.chip.mode.edge = none →
        (8 ≤ reqTarget w ∨ (reqMoor w = true ∧ reqTarget w ≠ 4 ∧ reqTarget w ≠ 6) →
          exec (.modeRequest w) s = .next { s with chip := s.chip.requestRefused w 7 }) ∧
        (reqMoor w = false → reqTarget w = 5 → s.chip.mode.mode ≠ .scan → s.chip.variantS = false →
          exec (.modeRequest w) s = .next { s with chip := s.chip.requestRefused w 3 }) ∧
        (reqMoor w = false → s.chip.mode.mode = .standby → s.chip.mode.limp = true →
          reqTarget w ∈ [2, 3, 4, 6] ∨ (reqTarget w = 5 ∧ s.chip.variantS = true) →
          exec (.modeRequest w) s = .next { s with chip := s.chip.requestRefused w 2 }) ∧
        (reqMoor w = false → s.chip.mode.limp = false → s.chip.variantS = true →
          (s.chip.mode.mode, reqTarget w) ∈
            [(Mode.standby, 7), (.load, 0), (.load, 1), (.load, 3), (.load, 4), (.load, 5), (.load, 6), (.calibrate, 0),
              (.calibrate, 2), (.mirror, 0), (.mirror, 2), (.mirror, 5), (.mirror, 6),
              (.scan, 0), (.scan, 2), (.scan, 4), (.scan, 6), (.panel, 0), (.panel, 2), (.panel, 4), (.panel, 5),
              (.hold, 0), (.hold, 2), (.hold, 3), (.hold, 4), (.hold, 5), (.hold, 6)] →
          exec (.modeRequest w) s = .next { s with chip := s.chip.requestRefused w 1 }) ∧
        (reqMoor w = false → s.chip.mode.mode = .standby → s.chip.mode.limp = false → s.chip.mode.loadFailed = true →
          reqReload w = false → reqTarget w ∈ [3, 4, 6] ∨ (reqTarget w = 5 ∧ s.chip.variantS = true) →
          exec (.modeRequest w) s = .next { s with chip := s.chip.requestRefused w 6 })))

/-- Accepted requests (R40, R41, R47, R55, Table 1.4). -/
def Obligations.ModeEdgesBegin : Prop :=
  (∀ (s : State) (w : Half) (t : Mode) (e : Edge), s.runs → s.chip.mode.edge = none → s.chip.wh.drain = [] →
    modeOfCode (reqTarget w) = some t →
    s.chip.tableEdge w t e → s.chip.mode.limp = false ∨ t = .deepSleep ∨ t = .standby ∨ t = .hold →
    t ≠ .scan ∨ s.chip.variantS = true → reqMoor w = false ∨ t = .mirror ∨ t = .panel →
    ∃ d, exec (.modeRequest w) s = .next { s with chip := d } ∧ d.mode.edge = some e ∧ d.mode.target = t ∧
      d.mode.refuse = 0 ∧ d.mode.reqTag = w.toNat / 256 ∧ d.mode.forced = false ∧ d.seat = s.chip.seat ∧
      d.flash = s.chip.flash) ∧
  (∀ (s : State) (w : Half), s.runs → s.chip.mode.mode ≠ .deepSleep → s.chip.mode.edge = none → s.chip.wh.drain = [] →
    modeOfCode (reqTarget w) = some s.chip.mode.mode →
    (s.chip.mode.mode ≠ .mirror ∧ s.chip.mode.mode ≠ .panel ∧ reqMoor w = false) ∨
      ((s.chip.mode.mode = .mirror ∨ s.chip.mode.mode = .panel) ∧ reqMoor w = s.chip.mode.moored) →
    ∃ d, exec (.modeRequest w) s = .next { s with chip := d } ∧ d.mode.edge = none ∧ d.mode.refuse = 0 ∧
      d.mode.tag = w.toNat / 256 ∧ d.wh.evt.getLsbD evMode = true ∧ d.seat = s.chip.seat ∧
      d.mode.moored = s.chip.mode.moored ∧ d.regs = s.chip.regs ∧ d.stores = s.chip.stores) ∧
  (∀ (s : State) (w : Half), s.runs → s.chip.mode.edge = none → s.chip.wh.drain = [] →
    s.chip.mode.mode = .mirror ∨ s.chip.mode.mode = .panel → modeOfCode (reqTarget w) = some s.chip.mode.mode →
    reqMoor w ≠ s.chip.mode.moored →
    ∃ d, exec (.modeRequest w) s = .next { s with chip := d } ∧ d.mode.edge = some .e14 ∧
      d.mode.refuse = s.chip.mode.refuse ∧ d.mode.tag = s.chip.mode.tag ∧ d.mode.reqTag = w.toNat / 256 ∧
      d.mode.moored = s.chip.mode.moored ∧ d.seat = s.chip.seat ∧ d.flash = s.chip.flash)

/-- The ends of the edges (Table 1.4, Table 1.7). -/
def Obligations.ModeEdgesEnd : Prop :=
  (∀ (s : State) (i : Instr), s.runs → s.chip.mode.edge = none →
    i ∈ [Instr.pictureModeEntered, .standbyEntered, .calibrateEntered, .calibrateExited, .holdEntered, .reflostComplete,
      .sleepComplete, .wakeFailComplete, .wakeComplete, .loadEntered, .loadFailExit] →
    exec i s = .next s) ∧
  (∀ (s : State) (i : Instr) (e : Edge) (m : Mode) (cause : Nat), s.runs → s.chip.noFlip → s.chip.mode.edge = some e →
    (i, e, m, cause) ∈ [(Instr.standbyEntered, Edge.e7, Mode.standby, 1), (.standbyEntered, .e11, .standby, 1),
      (.calibrateEntered, .e8, .calibrate, 1), (.loadFailExit, .e5, .standby, 5)] →
    ∃ d, exec i s = .next { s with chip := d } ∧ s.chip.arrived d m cause ∧ (e = .e5 → d.mode.imageValid = false)) ∧
  (∀ s : State, s.runs → s.chip.noFlip → s.chip.mode.target.needsImage = true →
    s.chip.mode.edge = some .e6 ∨ (s.chip.mode.edge = some .e4 ∧ s.chip.ld.phase = .done) →
    ∃ d, exec .pictureModeEntered s = .next { s with chip := d } ∧ d.seat = (s.chip.mode.target, 1) ∧
      d.mode.boundaries = 0 ∧ d.flash = s.chip.flash ∧
      if s.chip.mode.reqMoor = true ∧ (s.chip.mode.target = .mirror ∨ s.chip.mode.target = .panel) then
        d.mode.edge = some .e14 ∧ d.mode.moorPhase = .capture
      else s.chip.arrived d s.chip.mode.target 1) ∧
  (∀ s : State, s.runs → s.chip.noFlip → s.chip.mode.edge = some .e4 → s.chip.ld.phase = .done →
    s.chip.mode.target = .standby →
    ∃ d, exec .standbyEntered s = .next { s with chip := d } ∧ s.chip.arrived d .standby 1) ∧
  (∀ s : State, s.runs → s.chip.noFlip → s.chip.mode.edge = some .e9 →
    s.chip.mode.target = .standby ∨ s.chip.mode.reqMoor = false →
    ∃ d, exec .calibrateExited s = .next { s with chip := d } ∧ s.chip.arrived d s.chip.mode.target 1) ∧
  (∀ s : State, s.runs → s.chip.noFlip → s.chip.mode.edge = some .e10 →
    ∃ d, exec .holdEntered s = .next { s with chip := d } ∧
      s.chip.arrived d .hold (if s.chip.mode.forced then 4 else 1) ∧ d.killLow = true) ∧
  (∀ s : State, s.runs → s.chip.noFlip → s.chip.mode.edge = some .e12 →
    ∃ d, exec .reflostComplete s = .next { s with chip := d } ∧ s.chip.arrived d .standby 3 ∧
      d.mode.limp = !s.chip.ck.xinPresent ∧ d.ck.reflost = false ∧
      d.mode.e12KeptHold = (s.chip.mode.mode == .hold)) ∧
  (∀ s : State, s.runs → s.chip.noFlip → s.chip.mode.edge = some .e2 → s.chip.backedOut = true →
    ∃ d, exec .sleepComplete s = .next { s with chip := d } ∧ d.seat = (.deepSleep, 1) ∧ d.ck.xinPresent = false ∧
      d.ck.tbOnIrc = true ∧ d.mode.imageValid = false ∧ d.flash = s.chip.flash ∧
      (s.chip.mode.wakeDeferred = none → s.chip.arrived d .deepSleep 1) ∧
      (∀ src, s.chip.mode.wakeDeferred = some src → d.mode.edge = some .e1 ∧ d.rd PWR_WAKE_STAT_SRC = src % 8)) ∧
  (∀ s : State, s.runs → s.chip.noFlip → s.chip.mode.edge = some .e13 → s.chip.backedOut = true →
    ∃ d, exec .wakeFailComplete s = .next { s with chip := d } ∧ s.chip.arrived d .deepSleep 2 ∧
      d.mode.imageValid = false ∧ d.wh.failCount = min 3 (s.chip.wh.failCount + 1) ∧
      (3 ≤ s.chip.wh.failCount + 1 → d.wh.lockout = true)) ∧
  (∀ s : State, s.runs → s.chip.noFlip → s.chip.mode.edge = some .e1 → s.chip.pw.step = none → s.chip.ck.xinArmed = true →
    ∃ d, exec .wakeComplete s = .next { s with chip := d } ∧
      s.chip.arrived d .standby (if s.chip.mode.cold then 0 else 6) ∧ d.mode.imageValid = false ∧
      d.mode.limp = !s.chip.ck.xinPresent ∧ d.wh.failCount = 0 ∧ (s.chip.ck.xinPresent = true → d.ck.tbOnIrc = false)) ∧
  (∀ s : State, s.runs → s.chip.noFlip → s.chip.mode.edge = some .e3 →
    ∃ d, exec .loadEntered s = .next { s with chip := d } ∧ d.seat = (.load, 1) ∧ d.mode.edge = none ∧
      d.mode.target = s.chip.mode.target ∧ d.ld.phase = .bist ∧ d.flash = s.chip.flash) ∧
  (∀ s : State, s.runs → s.chip.inLoad .manifests = true →
    ∃ d, exec .loadComplete s = .next { s with chip := d } ∧ d.seat = s.chip.seat ∧ d.mode.edge = some .e4 ∧
      d.mode.target = (if s.chip.mode.target = .load then .standby else s.chip.mode.target) ∧
      d.mode.imageValid = true ∧ d.mode.loadFailed = false ∧ d.ld.phase = .done ∧ d.locks.pinmux = true ∧
      d.locks.dbg = true ∧ d.locks.maxv = true ∧ d.flash = s.chip.flash ∧
      (d.mode.target ≠ .standby → d.stores = s.chip.stores)) ∧
  (∀ s : State, s.runs → s.chip.mode.mode = .standby → s.chip.mode.limp = true → 1000 ≤ s.chip.ck.inWindowUs →
    ∃ d, exec .limpExit s = .next { s with chip := d } ∧ s.chip.sameBut d [CKG_MON_STAT.addr] ∧ d.mode.limp = false ∧
      d.seat = s.chip.seat ∧ d.ck.xinPresent = true ∧ d.ck.tbOnIrc = false ∧ d.rd CKG_MON_STAT_XIN_OK = 1 ∧
      d.wh.evt.getLsbD evMode = true ∧ d.stores = s.chip.stores)

/-- Interlock sources (R720, R722, R723, R726). Latches and arming (R725-R727). -/
def Obligations.InterlockSources : Prop :=
  ((∀ (s : State) (n : Nat), s.runs → s.chip.mode.moored = false → s.chip.rd LKK_LOG_STAT_COUNT < 256 → n < 4 →
    s.chip.flag (srcF n LKK_SRC0_CFG_EN) = true → s.chip.bit LKK_ACTIVE_A n = false →
    ∃ d, exec (.lkInAssert n) s = .next { s with chip := d } ∧
      s.chip.onlyLk d (LKK_ACTIVE.addr :: LKK_LATCHED.addr :: logRegs) ∧ s.chip.logged d 2 n 0 ∧
      d.bit LKK_ACTIVE_A n = true ∧ d.lk.asserted.testBit n = true ∧
      d.bit LKK_LATCHED_L n = (s.chip.flag (srcF n LKK_SRC0_CFG_LATCH) || s.chip.bit LKK_LATCHED_L n) ∧
      (∀ m, m ≠ n → d.bit LKK_ACTIVE_A m = s.chip.bit LKK_ACTIVE_A m ∧
        d.bit LKK_LATCHED_L m = s.chip.bit LKK_LATCHED_L m) ∧
      (s.chip.flag (srcF n LKK_SRC0_CFG_KILL) = true → d.killLow = true)) ∧
  (∀ (s : State) (n : Nat), s.runs → n < 4 → s.chip.flag (srcF n LKK_SRC0_CFG_EN) = false →
    exec (.lkInAssert n) s = .next { s with chip := { s.chip with lk :=
      { s.chip.lk with asserted := withBit s.chip.lk.asserted n true } } }) ∧
  (∀ (s : State) (n : Nat), s.runs → s.chip.mode.moored = false → s.chip.rd LKK_LOG_STAT_COUNT < 256 → n < 4 →
    s.chip.bit LKK_ACTIVE_A n = true →
    ∃ d, exec (.lkInRelease n) s = .next { s with chip := d } ∧
      s.chip.onlyLk d (LKK_ACTIVE.addr :: logRegs) ∧ d.bit LKK_ACTIVE_A n = false ∧
      d.lk.asserted.testBit n = false ∧ (∀ m, m ≠ n → d.bit LKK_ACTIVE_A m = s.chip.bit LKK_ACTIVE_A m) ∧
      (if s.chip.flag (srcF n LKK_SRC0_CFG_LATCH) then s.chip.sameBut d [LKK_ACTIVE.addr]
        else s.chip.logged d 3 n 0)) ∧
  (∀ (s : State) (n : Nat), s.runs → s.chip.mode.moored = false → n ∈ [8, 12, 14] →
    ∃ d, exec (.eventSourceExpire n) s = .next { s with chip := d } ∧ s.chip.onlyRegs d [LKK_ACTIVE.addr] ∧
      d.bit LKK_ACTIVE_A n = false ∧ ∀ m, m ≠ n → d.bit LKK_ACTIVE_A m = s.chip.bit LKK_ACTIVE_A m)) ∧
  ((∀ (s : State) (v : Word), s.runs → s.chip.reach LKK_LATCHED.addr → s.chip.mode.moored = false →
    ∃ d, exec (.latchClear v) s = .next { s with chip := d } ∧
      s.chip.onlyLk d (LKK_LATCHED.addr :: logRegs) ∧
      ∀ n, n < 15 → d.bit LKK_LATCHED_L n =
        (s.chip.bit LKK_LATCHED_L n && !(v.getLsbD n && !s.chip.bit LKK_ACTIVE_A n))) ∧
  (∀ (s : State) (v : Word), s.runs → s.chip.reach 0x2C0010 → v.toNat % 2 ^ 15 ≠ 0 → s.chip.rd LKK_LOG_STAT_COUNT < 256 →
    ∃ d, exec (.lkkArm v) s = .next { s with chip := d } ∧ s.chip.onlyLk d (LKK_ARMED.addr :: logRegs) ∧
      s.chip.logged d 10 (v.toNat % 2 ^ 15) 0 ∧
      ∀ n, n < 15 → d.bit LKK_ARMED_ARMED n = (s.chip.bit LKK_ARMED_ARMED n || v.getLsbD n)) ∧
  (∀ (s : State) (v : Word), s.runs → s.chip.reach 0x2C0010 → v.toNat % 2 ^ 15 = 0 →
    exec (.lkkArm v) s = .next s))

/-- Host kill, SAFE, temperature and the pin check (R721, R722, R728, R730). -/
def Obligations.KillAndSensors : Prop :=
  (∀ s : State, s.runs → s.chip.reach LKK_CTL.addr → s.chip.mode.moored = false → s.chip.flag LKK_CTL_HOST_KILL = false →
    ∃ d, exec (.hostKill true) s = .next { s with chip := d } ∧
      s.chip.onlyLk d (LKK_CTL.addr :: LKK_ACTIVE.addr :: LKK_LATCHED.addr :: logRegs) ∧
      d.flag LKK_CTL_HOST_KILL = true ∧ d.lk.asserted.testBit 13 = true ∧
      (s.chip.flag (srcF 13 LKK_SRC0_CFG_EN) = true → d.bit LKK_ACTIVE_A 13 = true ∧
        (s.chip.flag (srcF 13 LKK_SRC0_CFG_KILL) = true → d.killLow = true))) ∧
  (∀ s : State, s.runs → s.chip.reach LKK_CTL.addr → s.chip.mode.moored = false → s.chip.flag LKK_CTL_HOST_KILL = true →
    ∃ d, exec (.hostKill false) s = .next { s with chip := d } ∧
      s.chip.onlyLk d (LKK_CTL.addr :: LKK_ACTIVE.addr :: logRegs) ∧
      d.flag LKK_CTL_HOST_KILL = false ∧ d.bit LKK_ACTIVE_A 13 = false ∧ d.lk.asserted.testBit 13 = false) ∧
  (∀ (s : State) (on : Bool), s.runs → s.chip.reach LKK_CTL.addr → s.chip.mode.moored = false →
    ∃ d, exec (.safeForce on) s = .next { s with chip := d } ∧ s.chip.onlyRegs d [LKK_CTL.addr] ∧
      d.flag LKK_CTL_SAFE_FORCE = on ∧ d.flag LKK_CTL_HOST_KILL = s.chip.flag LKK_CTL_HOST_KILL ∧
      (on = true → d.safeShow = true)) ∧
  (∀ (s : State) (t : Nat), s.runs → s.chip.mode.moored = false →
    ∃ d, exec (.thermSample t) s = .next { s with chip := d } ∧
      s.chip.onlyLk d (LKK_TEMP.addr :: LKK_ACTIVE.addr :: LKK_LATCHED.addr :: logRegs) ∧
      d.rd LKK_TEMP_T = t % 65536 ∧
      d.lk.thermRun = (if toSigned 16 (s.chip.rd LKK_THERM_THERM_HI) ≤ toSigned 16 t then
        min 2 (s.chip.lk.thermRun + 1) else 0) ∧
      (toSigned 16 (s.chip.rd LKK_THERM_THERM_LO) ≤ toSigned 16 (s.chip.rd LKK_THERM_THERM_HI) → d.lk.thermRun = 2 →
        d.lk.asserted.testBit 11 = true)) ∧
  (∀ (s : State) (pin : Nat), s.runs → s.chip.mode.moored = false → pin < 2 →
    ∃ d, exec (.pinCheckMismatch pin) s = .next { s with chip := d } ∧
      s.chip.onlyLk d (LKK_ACTIVE.addr :: LKK_LATCHED.addr :: logRegs) ∧
      d.lk.pinStuck = withBit s.chip.lk.pinStuck (pin + 2 * b2n s.chip.lightEn) true ∧
      (s.chip.flag (srcF 14 LKK_SRC0_CFG_EN) = true → d.bit LKK_ACTIVE_A 14 = true))

/-- The event log (R731-R736, Table 17.5). -/
def Obligations.EventLog : Prop :=
  (∀ (s : State) (r : LogRec) (rest : List LogRec), s.runs → s.chip.lk.queue = r :: rest →
    ∃ d, exec .logRecord s = .next { s with chip := d } ∧
      s.chip.onlyLk d [LKK_LOG_STAT.addr, LKK_LOG_CNT.addr] ∧ d.lk.queue = rest ∧ d.wh.evt.getLsbD evLkk = true ∧
      (∀ n, n ≠ s.chip.rd LKK_LOG_STAT_WR → d.logSlot n = s.chip.logSlot n) ∧
      (s.chip.rd LKK_LOG_STAT_COUNT < 256 →
        d.logSlot (s.chip.rd LKK_LOG_STAT_WR) =
          { r with flags := if s.chip.lk.pendLost then withBit r.flags 1 true else r.flags } ∧
        d.rd LKK_LOG_STAT_COUNT = s.chip.rd LKK_LOG_STAT_COUNT + 1 ∧
        d.rd LKK_LOG_STAT_WR = (s.chip.rd LKK_LOG_STAT_WR + 1) % 256 ∧ d.rd LKK_LOG_CNT_LOST = s.chip.rd LKK_LOG_CNT_LOST) ∧
      (256 ≤ s.chip.rd LKK_LOG_STAT_COUNT →
        d.rd LKK_LOG_CNT_LOST = satAdd 16 (s.chip.rd LKK_LOG_CNT_LOST) 1 ∧
        d.rd LKK_LOG_STAT_COUNT = s.chip.rd LKK_LOG_STAT_COUNT ∧
        if s.chip.flag LKK_CTL_LOG_POLICY then
          d.logSlot (s.chip.rd LKK_LOG_STAT_WR) = s.chip.logSlot (s.chip.rd LKK_LOG_STAT_WR) ∧ d.lk.pendLost = true
        else d.logSlot (s.chip.rd LKK_LOG_STAT_WR) = { r with flags := withBit r.flags 1 true })) ∧
  (∀ s : State, s.runs → s.chip.lk.queue = [] → exec .logRecord s = .next s) ∧
  (∀ (s : State) (v : Word), s.runs → s.chip.reach 0x2C008C →
    ∃ d, exec (.logHostMarker v) s = .next { s with chip := d } ∧
      s.chip.onlyLk d [LKK_LOG_SEQ.addr, LKK_LOG_CNT.addr] ∧
      d.rd LKK_LOG_SEQ_SEQ = (s.chip.rd LKK_LOG_SEQ_SEQ + 1) % 65536 ∧
      if s.chip.lk.queue.length < 8 then
        ∃ r, d.lk.queue = s.chip.lk.queue ++ [r] ∧ r.type = 9 ∧ r.unit = v.toNat % 65536 ∧ r.data = 0 ∧
          r.seq = s.chip.rd LKK_LOG_SEQ_SEQ ∧ r.ts = s.chip.stamp
      else d.lk.queue = s.chip.lk.queue ∧ d.lk.pendLost = true ∧
        d.rd LKK_LOG_CNT_Q_LOST = satAdd 16 (s.chip.rd LKK_LOG_CNT_Q_LOST) 1) ∧
  (∀ (s : State) (v : Word), s.runs → s.chip.reach LKK_LOG_IDX.addr →
    ∃ d, exec (.logIdxWrite v) s = .next { s with chip := d } ∧
      s.chip.onlyRegs d [LKK_LOG_IDX.addr, 0x2C0090, 0x2C0094, 0x2C0098, 0x2C009C] ∧
      d.rd LKK_LOG_IDX_SLOT = v.toNat % 256 ∧
      ∀ i, i < 4 → d.get (0x2C0090 + 4 * i) = recWord (s.chip.logSlot (v.toNat % 256)) i) ∧
  (∀ s : State, s.runs → s.chip.reach LKK_CTL.addr →
    ∃ d, exec .logClear s = .next { s with chip := d } ∧ s.chip.onlyRegs d [LKK_LOG_STAT.addr, LKK_LOG_CNT.addr] ∧
      d.rd LKK_LOG_STAT_WR = 0 ∧ d.rd LKK_LOG_STAT_COUNT = 0 ∧ d.rd LKK_LOG_CNT_LOST = 0 ∧
      d.rd LKK_LOG_CNT_Q_LOST = 0)

/-- The calendar's second (R737-R743). -/
def Obligations.CalendarCounts : Prop :=
  ∀ t : CalTime, t.valid →
    (nextSecond t).1.valid ∧
      if t.year = 2199 ∧ t.month = 12 ∧ t.day = 31 ∧ t.hour = 23 ∧ t.minute = 59 ∧ t.second = 59 then
        nextSecond t = (⟨2000, 1, 1, 0, 0, 0⟩, true)
      else (nextSecond t).1.seconds = t.seconds + 1 ∧ (nextSecond t).2 = false

/-- The calendar's registers (R737, R738, R740, R742, R745). Lamp hours (R747-R749). -/
def Obligations.CalendarAndLampHours : Prop :=
  ((∀ (s : State) (t : CalTime), s.runs → s.chip.reach LKK_CAL_CTL.addr → s.chip.rd LKK_LOG_STAT_COUNT < 256 →
    readBcd (s.chip.get 0x2C0108) (s.chip.get 0x2C010C) = some t →
    ∃ d, exec .calSet s = .next { s with chip := d } ∧ s.chip.onlyLk d (LKK_CAL_CTL.addr :: logRegs) ∧
      d.calNow = t ∧ d.rd LKK_CAL_CTL_CAL_VALID = 1 ∧ d.lk.secCount = 0 ∧
      d.lk.calMin = dayNumber t.year t.month t.day * 1440 + t.hour * 60 + t.minute ∧
      s.chip.logged d 8 0 (d.lk.calMin % 2 ^ 32)) ∧
  (∀ s : State, s.runs → s.chip.reach LKK_CAL_CTL.addr → s.chip.rd LKK_LOG_STAT_COUNT < 256 →
    readBcd (s.chip.get 0x2C0108) (s.chip.get 0x2C010C) = none →
    ∃ d, exec .calSet s = .next { s with chip := d } ∧ s.chip.onlyLk d (LKK_CAL_CTL.addr :: logRegs) ∧
      d.calNow = s.chip.calNow ∧ d.rd LKK_CAL_CTL_CAL_ERR = 1 ∧
      d.rd LKK_CAL_CTL_CAL_VALID = s.chip.rd LKK_CAL_CTL_CAL_VALID ∧
      s.chip.logged d 8 1 (s.chip.get 0x2C010C).toNat) ∧
  (∀ (s : State) (t : CalTime), s.runs → s.chip.reach LKK_CAL_CTL.addr →
    readBcd (s.chip.get 0x2C011C &&& 0x003F7F00#32) (s.chip.get 0x2C0120) = some t →
    ∃ d, exec .alarmSet s = .next { s with chip := d } ∧
      s.chip.onlyRegs d [LKK_ALARM_TIME.addr, LKK_ALARM_DATE.addr, LKK_CAL_CTL.addr] ∧
      d.get 0x2C0124 = s.chip.get 0x2C011C ∧ d.get 0x2C0128 = s.chip.get 0x2C0120 ∧ d.rd LKK_CAL_CTL_ALARM_EN = 1) ∧
  (∀ s : State, s.runs → s.chip.flag LKK_CAL_CTL_ALARM_EN = false → (nextSecond s.chip.calNow).2 = false →
    ∃ d, exec .calSecond s = .next { s with chip := d } ∧ d = { s.chip with lk := d.lk } ∧
      d.calNow = (nextSecond s.chip.calNow).1 ∧ d.lk.secCount = s.chip.lk.secCount - s.chip.secThreshold ∧
      d.lk.slots = s.chip.lk.slots) ∧
  (∀ (s : State) (v : Word), s.runs → s.chip.reach LKK_CAL_TRIM.addr → s.chip.rd LKK_LOG_STAT_COUNT < 256 →
    ∃ d, exec (.calTrimWrite v) s = .next { s with chip := d } ∧ s.chip.onlyLk d (LKK_CAL_TRIM.addr :: logRegs) ∧
      d.rd LKK_CAL_TRIM_TRIM = v.toNat % 65536 ∧ s.chip.logged d 8 4 (v.toNat % 65536))) ∧
  ((∀ (s : State) (n : Nat), s.runs → n < 16 → s.chip.lampLit n = true →
    ∃ d, exec (.lampSecond n) s = .next { s with chip := d } ∧
      d = { s.chip with regs := d.regs, lk := { s.chip.lk with lampRem := s.chip.lk.lampRem.set n 0 } } ∧
      if s.chip.get (0x2C0140 + 4 * n) = 0xFFFFFFFF#32 then
        s.chip.sameBut d [LKK_ARITH.addr] ∧ d.rd LKK_ARITH_SAT_COUNT = satAdd 16 (s.chip.rd LKK_ARITH_SAT_COUNT) 1 ∧
        d.rd LKK_ARITH_SAT = 1
      else s.chip.sameBut d [0x2C0140 + 4 * n] ∧ d.get (0x2C0140 + 4 * n) = s.chip.get (0x2C0140 + 4 * n) + 1) ∧
  (∀ (s : State) (n : Nat), s.runs → s.chip.lampLit n = false → exec (.lampSecond n) s = .next s) ∧
  (∀ s : State, s.runs → s.chip.mode.mode.countsLit = true → s.chip.killLow = false →
    s.chip.get 0x2C0180 ≠ 0xFFFFFFFF#32 →
    ∃ d, exec .litSecond s = .next { s with chip := d } ∧
      d = { s.chip with regs := d.regs, lk := { s.chip.lk with litRem := 0 } } ∧ s.chip.sameBut d [0x2C0180] ∧
      d.get 0x2C0180 = s.chip.get 0x2C0180 + 1) ∧
  (∀ s : State, s.runs → s.chip.mode.mode.countsLit = false ∨ s.chip.killLow = true →
    exec .litSecond s = .next s) ∧
  (∀ (s : State) (n : Nat) (v : Word), s.runs → n < 16 → s.chip.reach (0x2C0140 + 4 * n) →
    ∃ d, exec (.lampHoursWrite n v) s = .next { s with chip := d } ∧
      d = { s.chip with regs := d.regs, lk := { s.chip.lk with lampRem := s.chip.lk.lampRem.set n 0 } } ∧
      s.chip.sameBut d [0x2C0140 + 4 * n] ∧ d.get (0x2C0140 + 4 * n) = v) ∧
  (∀ (s : State) (v : Word), s.runs → s.chip.reach 0x2C0180 →
    ∃ d, exec (.lampHoursWrite 16 v) s = .next { s with chip := d } ∧
      d = { s.chip with regs := d.regs, lk := { s.chip.lk with litRem := 0 } } ∧
      s.chip.sameBut d [0x2C0180] ∧ d.get 0x2C0180 = v))

/-- What the check byte is for (R354-R356, Table 8.1). -/
def Obligations.CheckByteCorrectsAndDetects : Prop :=
  (∀ w, w < 2 ^ 64 →
    classify w (checkByte w) = ⟨0, w, 0, false⟩ ∧
    (∀ i, i < 64 → classify (Nat.xor w (2 ^ i)) (checkByte w) = ⟨1, w, hColumns.getD i 0, false⟩) ∧
    (∀ i, i < 8 → classify w (Nat.xor (checkByte w) (2 ^ i)) = ⟨1, w, 2 ^ i, true⟩) ∧
    (∀ i j, i < j → j < 64 → 2 ≤ (classify (Nat.xor (Nat.xor w (2 ^ i)) (2 ^ j)) (checkByte w)).cls) ∧
    (∀ i j, i < 64 → j < 8 → 2 ≤ (classify (Nat.xor w (2 ^ i)) (Nat.xor (checkByte w) (2 ^ j))).cls) ∧
    (∀ i j, i < j → j < 8 → 2 ≤ (classify w (Nat.xor (Nat.xor (checkByte w) (2 ^ i)) (2 ^ j))).cls)) ∧
  checkByte poisonData = 0x0A ∧ classify poisonData 0xF5 = ⟨3, poisonData, 0xFF, false⟩

/-- Read after write in DRAM (R354, R357, R362). -/
def Obligations.DramReadAfterWrite : Prop :=
  ∀ (c : Chip) (l k : Loc) (w : Nat), w < 2 ^ 64 → l.ch < 2 → l.rank < 2 → l.bank < 8 → l.row < c.mcDataRows l.ch →
    l.off % 8 = 0 → l.off < 2048 → k.ch < 2 → k.rank < 2 → k.bank < 8 → k.row < c.mcDataRows k.ch → k.off % 8 = 0 →
    k.off < 2048 →
    (c.writePhys l w).readPhys l = ⟨0, w, 0, false⟩ ∧
    (c.mcDataRows k.ch = c.mcDataRows l.ch → k ≠ l → (c.writePhys l w).readPhys k = c.readPhys k) ∧
    c.writePhys l w = { c with dram := (c.writePhys l w).dram }

/-- The map and the initialisation of a channel (R308, R318, R374, Table 7.5). The delay sweep (R322, R323). -/
def Obligations.MemoryBringUp : Prop :=
  ((∀ s : State, s.runs → s.chip.reach 0x60000 →
    ∃ d, exec .mapGo s = .next { s with chip := d } ∧ s.chip.sameBut d [MCX_MAP_STAT.addr] ∧
      if s.chip.mcConfigured = [] then d = { s.chip with regs := d.regs } ∧ d.rd MCX_MAP_STAT_MAP_ERR = 2
      else if s.chip.geometryBad = true then
        d = { s.chip with regs := d.regs } ∧ d.rd MCX_MAP_STAT_MAP_ERR = 1 ∧
        d.rd MCX_MAP_STAT_VALID = s.chip.rd MCX_MAP_STAT_VALID
      else
        d = { s.chip with regs := d.regs, locks := { s.chip.locks with map := true }
                          pw := { s.chip.pw with queue := d.pw.queue } } ∧
        d.rd MCX_MAP_STAT_MAP_ERR = 0 ∧ d.rd MCX_MAP_STAT_VALID = 1 ∧
        d.rd MCX_MAP_STAT_CAP_MIB = s.chip.mapCapacity / 2 ^ 20 % 4096) ∧
  (∀ (s : State) (ch : Nat), s.runs → ch < 2 → s.chip.reach (0x40004 + ch * 0x10000) → s.chip.mcState ch = mcOff →
    s.chip.migState ch ≠ 1 → s.chip.migState ch ≠ 2 →
    ∃ d, exec (.mcInitGo ch) s = .next { s with chip := d } ∧
      d = { s.chip with regs := d.regs, eff := d.eff, mcA := d.mcA, mcB := d.mcB, dram := d.dram } ∧
      s.chip.sameBut d ((mcF ch MCA_STAT).addr :: (mcF ch MCA_ECC_STAT).addr :: clockDoms) ∧
      s.chip.otherDram d ch ∧ d.mcState ch = mcInit ∧ d.rd (mcF ch MCA_ECC_STAT_SEEDED) = 0 ∧
      d.rd (mcF ch MCA_ECC_STAT_FROZEN) = 0 ∧ (d.mc ch).resetN = false ∧ (d.mc ch).cke = false) ∧
  (∀ (s : State) (ch : Nat), s.runs → ch < 2 → s.chip.reach (0x40004 + ch * 0x10000) → s.chip.mcState ch ≠ mcOff →
    exec (.mcInitGo ch) s = .next s) ∧
  (∀ (s : State) (ch : Nat), s.runs → ch < 2 → s.chip.mcState ch = mcInit →
    exec (.mcInitResetRelease ch) s = .next { s with chip := s.chip.onMc ch fun m => { m with resetN := true } } ∧
    ((s.chip.mc ch).resetN = true →
      exec (.mcInitCkeRise ch) s = .next { s with chip := s.chip.onMc ch fun m => { m with cke := true } })) ∧
  (∀ (s : State) (ch : Nat), s.runs → ch < 2 → s.chip.mcState ch = mcInit → (s.chip.mc ch).cke = true →
    ∃ d, exec (.mcInitComplete ch) s = .next { s with chip := d } ∧
      s.chip.onlyMc d ch [(mcF ch MCA_STAT).addr, (mcF ch MCA_PPR_CTL).addr, (MCX_SCRUB_POS_LINE.at ch).addr] ∧
      d.mcState ch = mcActive ∧ (d.mc ch).everInit = true ∧ (d.mc ch).owed = [0, 0] ∧
      (d.mc ch).softRows = (s.chip.mc ch).softRecords.take 8 ∧
      d.rd (mcF ch MCA_PPR_CTL_PPR_SKIP) = satAdd MCA_PPR_CTL_PPR_SKIP.width (s.chip.rd (mcF ch MCA_PPR_CTL_PPR_SKIP))
        ((s.chip.mc ch).softRecords.length - 8) ∧
      d.rd (MCX_SCRUB_POS_LINE.at ch) = 0)) ∧
  ((∀ (s : State) (ch : Nat) (v : Word), s.runs → ch < 2 → s.chip.reach (0x40140 + ch * 0x10000) →
    MCA_SWEEP_CTL_GO.get v = 1 →
    ∃ d, exec (.sweepGo ch v) s = .next { s with chip := d } ∧
      s.chip.sameBut d [(mcF ch MCA_SWEEP_CTL).addr, (mcF ch MCA_STAT).addr] ∧ s.chip.otherDram d ch ∧
      d.rd (mcF ch MCA_SWEEP_CTL_DONE) = 0 ∧
      if s.chip.mode.mode = .calibrate ∧ s.chip.mcState ch = mcActive ∧
          s.chip.rd (mcF ch MCA_SWEEP_ADDR_ROW) < s.chip.mcUsedRows ch then
        d.mcState ch = mcSweep ∧ d.rd (mcF ch MCA_SWEEP_CTL_REFUSED) = 0 ∧
        d = { s.chip with regs := d.regs, eff := d.eff, mcA := d.mcA, mcB := d.mcB, dram := d.dram, free := d.free } ∧
        s.chip.otherMc d ch ∧ (∀ b ∈ (d.mc ch).banks, b.row = none) ∧
        (∀ a, a < 0x40100 + ch * 0x10000 ∨ 0x40128 + ch * 0x10000 ≤ a → d.getEff a = s.chip.getEff a) ∧
        (MCA_SWEEP_CTL_PATTERN.get v = 2 → d.dram = s.chip.dram)
      else
        d.mcState ch = s.chip.mcState ch ∧ d.rd (mcF ch MCA_SWEEP_CTL_REFUSED) = 1 ∧
        d = { s.chip with regs := d.regs }) ∧
  (∀ (s : State) (ch failMask errors : Nat), s.runs → ch < 2 → s.chip.mcState ch = mcSweep →
    ∃ d, exec (.sweepDone ch failMask errors) s = .next { s with chip := d } ∧
      s.chip.onlyMc d ch [(mcF ch MCA_SWEEP_RES).addr, (mcF ch MCA_SWEEP_CTL).addr, (mcF ch MCA_STAT).addr] ∧
      d.rd (mcF ch MCA_SWEEP_RES_FAIL_MASK) =
        Nat.lor (s.chip.rd (mcF ch MCA_SWEEP_RES_FAIL_MASK)) failMask % 65536 ∧
      d.rd (mcF ch MCA_SWEEP_RES_ERR_COUNT) = satAdd 16 (s.chip.rd (mcF ch MCA_SWEEP_RES_ERR_COUNT)) errors ∧
      d.rd (mcF ch MCA_SWEEP_CTL_DONE) = 1 ∧ d.mcState ch = mcActive ∧ (∀ b ∈ (d.mc ch).banks, b.row = none)))

/-- Port requests during Mooring (R351). -/
def Obligations.MooringServesNoPort : Prop :=
  ∀ (s : State) (p line : Nat) (write spec : Bool) (mask : List Bool) (words : List Nat), s.runs → p < 12 →
    s.chip.mode.moored = true →
    ∃ d, exec (.portRequest p write line mask words spec) s = .next { s with chip := d } ∧
      s.chip.sameBut d [MCX_ERR.addr, (MCX_PORT_DROP.at p).addr] ∧
      d.rd (MCX_PORT_DROP_DROP.at p) = satAdd 16 (s.chip.rd (MCX_PORT_DROP_DROP.at p)) 1 ∧
      d.rd MCX_ERR_KIND = 2 ∧ d.rd MCX_ERR_PORT = p ∧ d.rd MCX_ERR_ERR = 1 ∧
      if write then d = { s.chip with regs := d.regs }
      else
        d = { s.chip with regs := d.regs, mcx := d.mcx } ∧
        (s.chip.mcx.waiting = [] → s.chip.mcx.nextId.getD p 0 = s.chip.mcx.expect.getD p 0 →
          d.mcx.delivered = [⟨p, s.chip.mcx.nextId.getD p 0, List.replicate 8 (0, 0)⟩])

/-- Port requests (R311, R315, R316, R331). -/
def Obligations.PortRequests : Prop :=
  (∀ (s : State) (p line : Nat) (spec : Bool) (mask : List Bool) (words : List Nat), s.runs → p < 12 →
    s.chip.mode.moored = false → s.chip.sysLoc (line % 2 ^ 32 / 64 * 64) = none →
    ∃ d, exec (.portRequest p true line mask words spec) s = .next { s with chip := d } ∧
      s.chip.onlyRegs d [MCX_ERR.addr] ∧ d.rd MCX_ERR_KIND = 1 ∧ d.rd MCX_ERR_PORT = p ∧ d.rd MCX_ERR_ERR = 1) ∧
  (∀ (s : State) (p line : Nat) (spec : Bool) (mask : List Bool) (words : List Nat) (l : Loc), s.runs → p < 12 →
    s.chip.mode.moored = false → s.chip.sysLoc (line % 2 ^ 32 / 64 * 64) = some l → l.ch < 2 →
    s.chip.mcAccepts l.ch = true → s.chip.mcState l.ch = mcActive →
    (∃ d, exec (.portRequest p true line mask words spec) s = .next { s with chip := d } ∧
      d = { s.chip with mcA := d.mcA, mcB := d.mcB, mcx := d.mcx } ∧
      (∀ k, k < 2 → k ≠ l.ch → d.mc k = s.chip.mc k) ∧ (d.mc l.ch).readQ = (s.chip.mc l.ch).readQ ∧
      (if ((s.chip.mc l.ch).writeQ.any fun e => e.line == line % 2 ^ 32 / 64 * 64) = true then
        (d.mc l.ch).writeQ = (s.chip.mc l.ch).writeQ.map fun e =>
          if e.line = line % 2 ^ 32 / 64 * 64 then mergeEntry e mask words else e
      else if 32 ≤ (s.chip.mc l.ch).writeQ.length then (d.mc l.ch).writeQ = (s.chip.mc l.ch).writeQ
      else ∃ e, (d.mc l.ch).writeQ = (s.chip.mc l.ch).writeQ ++ [e] ∧ e.port = p ∧
        e.line = line % 2 ^ 32 / 64 * 64 ∧ e.age = 0 ∧ ∀ i, i < 8 →
          e.mask.getD i false = mask.getD i false ∧ e.words.getD i 0 = words.getD i 0)) ∧
    (((s.chip.mc l.ch).writeQ.find? fun e => e.line == line % 2 ^ 32 / 64 * 64 && e.mask.all id) = none →
      (s.chip.mc l.ch).readQ.length < 64 →
      ∃ d e, exec (.portRequest p false line mask words spec) s = .next { s with chip := d } ∧
        d = { s.chip with mcA := d.mcA, mcB := d.mcB, mcx := d.mcx } ∧
        (∀ k, k < 2 → k ≠ l.ch → d.mc k = s.chip.mc k) ∧ (d.mc l.ch).writeQ = (s.chip.mc l.ch).writeQ ∧
        (d.mc l.ch).readQ = (s.chip.mc l.ch).readQ ++ [e] ∧ e.port = p ∧ e.line = line % 2 ^ 32 / 64 * 64 ∧
        e.age = 0 ∧ e.spec = spec ∧ e.id = s.chip.mcx.nextId.getD p 0))

/-- The scheduler (R326, R328). -/
def Obligations.SchedulerCycle : Prop :=
  (∀ (s : State) (ch : Nat), s.runs → ch < 2 → s.chip.mcState ch = mcActive → (s.chip.mc ch).alert.low = false →
    (s.chip.mc ch).pprBusy = false →
    ∃ d, exec (.schedulerIssue ch) s = .next { s with chip := d } ∧
      s.chip.otherMc d ch ∧ d.seat = s.chip.seat ∧ (d.mc ch).now = (s.chip.mc ch).now + 2 ∧
      (s.chip.mc ch).readQ.length + (s.chip.mc ch).writeQ.length ≤ (d.mc ch).readQ.length + (d.mc ch).writeQ.length + 1 ∧
      (d.mc ch).readQ.length + (d.mc ch).inflight.length =
        (s.chip.mc ch).readQ.length + (s.chip.mc ch).inflight.length ∧
      ((d.mc ch).writeQ.length = (s.chip.mc ch).writeQ.length → d.stores = s.chip.stores)) ∧
  (∀ (s : State) (ch : Nat), s.runs → s.chip.mcState ch ≠ mcActive → s.chip.mcState ch ≠ mcSweep →
    exec (.schedulerIssue ch) s = .next s) ∧
  (∀ (s : State) (ch : Nat), s.runs → ch < 2 → s.chip.mcState ch = mcActive ∨ s.chip.mcState ch = mcSweep →
    ((s.chip.mc ch).alert.low = true →
      exec (.schedulerIssue ch) s = .next { s with chip := s.chip.cycle ch }) ∧
    ((s.chip.mc ch).alert.low = false → s.chip.mcServes ch = false →
      ∃ d, exec (.schedulerIssue ch) s = .next { s with chip := d } ∧ s.chip.onlyMc d ch [weirReg ch] ∧
        (d.mc ch).now = (s.chip.mc ch).now + 2 ∧ (d.mc ch).readQ = ((s.chip.cycle ch).mc ch).readQ ∧
        (d.mc ch).writeQ = ((s.chip.cycle ch).mc ch).writeQ ∧ (d.mc ch).inflight = (s.chip.mc ch).inflight)) ∧
  (∀ (s : State) (ch : Nat), ch < 2 →
    ((s.chip.cycle ch).mc ch).readQ = ((s.chip.mc ch).readQ.map fun e => { e with age := e.age + 1 }) ∧
      ((s.chip.cycle ch).mc ch).writeQ = ((s.chip.mc ch).writeQ.map fun e => { e with age := e.age + 1 })) ∧
  (∀ (s : State) (ch : Nat), s.runs → ch < 2 →
    ∃ d, exec (.requestAgePromote ch) s = .next { s with chip := d } ∧ s.chip.onlyMc d ch [] ∧
      (d.mc ch).readQ.length = (s.chip.mc ch).readQ.length ∧ (d.mc ch).writeQ.length = (s.chip.mc ch).writeQ.length ∧
      (∀ e ∈ (d.mc ch).readQ,
        (e.class0 = true ↔ s.chip.ageLimit (schedPort e.port) * 64 < e.age) ∧
        (e.overdue = true ↔ 2 * s.chip.ageLimit (schedPort e.port) * 64 < e.age)) ∧
      ∀ e ∈ (d.mc ch).writeQ,
        (e.class0 = true ↔ s.chip.ageLimit (schedPort e.port) * 64 < e.age) ∧
        (e.overdue = true ↔ 2 * s.chip.ageLimit (schedPort e.port) * 64 < e.age))

/-- Refresh, ZQ and the weir (R335, R338, R339, R343, Table 7.8). -/
def Obligations.RefreshAndWeir : Prop :=
  (∀ (s : State) (ch rank : Nat), s.runs → ch < 2 → rank < 2 →
    s.chip.mcState ch = mcActive ∨ s.chip.mcState ch = mcSweep →
    ∃ d, exec (.refreshDue ch rank) s = .next { s with chip := d } ∧
      if 0 < (s.chip.mc ch).pulled.getD rank 0 then
        d = s.chip.onMc ch fun m => { m with pulled := m.pulled.set rank ((s.chip.mc ch).pulled.getD rank 0 - 1) }
      else d = s.chip.onMc ch fun m => { m with owed := m.owed.set rank ((s.chip.mc ch).owed.getD rank 0 + 1) }) ∧
  (∀ (s : State) (ch : Nat), s.runs → ch < 2 →
    ∃ d, exec (.zqcsDue ch) s = .next { s with chip := d } ∧ s.chip.onlyMc d ch [] ∧
      if s.chip.mcState ch = mcActive ∧ (s.chip.mc ch).pprBusy = false ∧ (s.chip.mc ch).alert.low = false then
        (d.mc ch).zqOwed = false ∧ ((d.mc ch).history.headD (busCmd 0 0 0 0)).code = 7
      else d = s.chip.onMc ch fun m => { m with zqOwed := true }) ∧
  (∀ (s : State) (ch : Nat), s.runs → ch < 2 →
    exec (.weirWindowEnd ch) s =
      .next { s with chip := s.chip.onMc ch fun m => { m with weir := List.replicate 16 [] } }) ∧
  (∀ (s : State) (ch : Nat) (v : Word), s.runs → ch < 2 → s.chip.reach (0x40088 + ch * 0x10000) →
    ∃ d, exec (.weirIdxWrite ch v) s = .next { s with chip := d } ∧
      s.chip.onlyRegs d [0x40088 + ch * 0x10000, 0x4008C + ch * 0x10000] ∧
      (let e := ((s.chip.mc ch).weir.getD (MCA_WEIR_IDX_RANK.get v * 8 + MCA_WEIR_IDX_BANK.get v) []).getD
          (MCA_WEIR_IDX_ENTRY.get v) ⟨0, 0⟩
       d.rd (mcF ch MCA_WEIR_IDX_RANK) = MCA_WEIR_IDX_RANK.get v ∧
        d.rd (mcF ch MCA_WEIR_IDX_BANK) = MCA_WEIR_IDX_BANK.get v ∧
        d.rd (mcF ch MCA_WEIR_IDX_ENTRY) = MCA_WEIR_IDX_ENTRY.get v ∧
        d.rd (mcF ch MCA_WEIR_ENT_ROW) = e.row % 65536 ∧ d.rd (mcF ch MCA_WEIR_ENT_COUNT) = e.count % 65536))

/-- The Sluice (R343, R345-R347). -/
def Obligations.SluiceSleepsAndWakes : Prop :=
  (∀ (s : State) (ch : Nat), s.runs → ch < 2 → s.chip.canSleep ch = true →
    ∃ d, exec (.sluiceEntryStart ch) s = .next { s with chip := d } ∧ s.chip.onlyMc d ch [weirReg ch] ∧
      (d.mc ch).sluiceEntry = true ∧ (∀ e ∈ (d.mc ch).cache, e.dirty = false) ∧
      (d.mc ch).readQ = (s.chip.mc ch).readQ ∧ (d.mc ch).writeQ = (s.chip.mc ch).writeQ) ∧
  (∀ (s : State) (ch : Nat), s.runs → s.chip.canSleep ch = false → exec (.sluiceEntryStart ch) s = .next s) ∧
  (∀ (s : State) (ch : Nat), s.runs → ch < 2 → (s.chip.mc ch).sluiceEntry = true →
    ∃ d, exec (.sluiceSrEntered ch) s = .next { s with chip := d } ∧ d.stores = s.chip.stores ∧ d.seat = s.chip.seat ∧
      (d.mcState ch = mcShallow ∨ d.mcState ch = mcDeep ∧ (d.pll 1).on = false) ∧ (d.mc ch).cke = false ∧
      (d.mc ch).srCells = true ∧ (d.mc ch).owed = [0, 0] ∧ (∀ b ∈ (d.mc ch).banks, b.row = none) ∧
      (∀ e ∈ (d.mc ch).cache, e.dirty = false) ∧ (d.mc ch).nrQ = [] ∧
      d.rd (mcF ch MCA_SLUICE_STAT_ENTRIES) = satAdd 12 (s.chip.rd (mcF ch MCA_SLUICE_STAT_ENTRIES)) 1 ∧
      d = { s.chip with regs := d.regs, ck := d.ck, mcA := d.mcA, mcB := d.mcB }) ∧
  (∀ (s : State) (ch cause : Nat), s.runs → ch < 2 → cause = 1 ∨ cause = 3 →
    s.chip.mcState ch = mcShallow ∨ s.chip.mcState ch = mcDeep → (s.chip.mc ch).sluiceExit = false →
    ∃ d, exec (.sluiceExitStart ch cause) s = .next { s with chip := d } ∧
      d.stores = s.chip.stores ∧ d.seat = s.chip.seat ∧ d.rd (mcF ch MCA_SLUICE_STAT_LAST_EXIT) = cause ∧
      (d.mc ch).sluiceExit = true ∧ d.mcState ch = mcShallow ∧
      d.ck = (if s.chip.mcState ch = mcDeep then (s.chip.startPll 1).ck else s.chip.ck) ∧
      d = { s.chip with regs := d.regs, ck := d.ck, mcA := d.mcA, mcB := d.mcB }) ∧
  (∀ (s : State) (ch : Nat), s.runs → ch < 2 → s.chip.tolCovers ch (if s.chip.mcState ch = mcDeep then
      s.chip.rd (mcF ch MCA_SLUICE_EXIT_DEEP_US) else s.chip.rd (mcF ch MCA_SLUICE_EXIT_SHALLOW_US)) = true →
    exec (.sluiceExitStart ch 2) s = .next s) ∧
  (∀ (s : State) (ch : Nat), s.runs → ch < 2 → (s.chip.mc ch).sluiceExit = true → (s.chip.pll 1).held = true →
    s.chip.mcState ch = mcShallow ∨ s.chip.mcState ch = mcDeep → (s.chip.mc ch).owedVisits = 0 →
    ∃ d, exec (.sluiceExitComplete ch) s = .next { s with chip := d } ∧ d.stores = s.chip.stores ∧
      d.seat = s.chip.seat ∧ d.mcState ch = mcActive ∧ (d.mc ch).cke = true ∧ (d.mc ch).sluiceExit = false ∧
      (d.mc ch).weir = List.replicate 16 [] ∧ (d.mc ch).zqOwed = false ∧
      s.chip.sameBut d ((mcF ch MCA_STAT).addr :: clockDoms))

/-- The return of read data (R317, R355). -/
def Obligations.ReadDataReturns : Prop :=
  (∀ (s : State) (ch : Nat) (x : Inflight) (rest : List Inflight), s.runs → ch < 2 →
    (s.chip.mc ch).inflight = x :: rest →
    ∃ d, exec (.readDataReturn ch) s = .next { s with chip := d } ∧ d.stores = s.chip.stores ∧
      ((∀ w ∈ x.raw, w.2 = checkByte w.1) →
        d = { s.chip with mcA := d.mcA, mcB := d.mcB, mcx := d.mcx } ∧ (d.mc ch).inflight = rest ∧
        (∀ k, k < 2 → k ≠ ch → d.mc k = s.chip.mc k) ∧
        (x.ue = false → s.chip.mcx.waiting = [] → x.entry.id = s.chip.mcx.expect.getD x.entry.port 0 →
          d.mcx.delivered = [⟨x.entry.port, x.entry.id, x.raw.map fun w => (w.1, 0)⟩]))) ∧
  (∀ (s : State) (ch : Nat), s.runs → (s.chip.mc ch).inflight = [] → exec (.readDataReturn ch) s = .next s)

/-- FREEZE, the snapshot and the first error (R397, R398, Table 8.9). Alerts and replay (R369-R372). -/
def Obligations.FreezeAlertsAndReplay : Prop :=
  ((∀ (s : State) (ch : Nat), s.runs → ch < 2 → s.chip.rd (mcF ch MCA_ECC_STAT_FROZEN) = 1 →
    s.chip.mcState ch ≠ mcFrozen → s.chip.mcState ch ≠ mcOff →
    ∃ d, exec (.freezeSrEntered ch) s = .next { s with chip := d } ∧
      d = { s.chip with regs := d.regs, dram := d.dram, mcA := d.mcA, mcB := d.mcB } ∧
      d.mcState ch = mcFrozen ∧ (d.mc ch).writeQ = [] ∧ (d.mc ch).cke = false ∧ (d.mc ch).srCells = true ∧
      (∀ b ∈ (d.mc ch).banks, b.row = none) ∧ (d.mc ch).owed = [0, 0] ∧ (∀ e ∈ (d.mc ch).cache, e.dirty = false) ∧
      s.chip.sameBut d ((mcF ch MCA_STAT).addr :: weirReg 0 :: weirReg 1 :: (List.range 12).flatMap portLines) ∧
      ((s.chip.mc ch).writeQ = [] → (∀ r ∈ (s.chip.mc ch).heldReqs, r.write = false) →
        d.dram = s.chip.dram ∧ s.chip.otherMc d ch ∧ s.chip.sameBut d [(mcF ch MCA_STAT).addr, weirReg ch])) ∧
  (∀ (s : State) (ch : Nat) (v : Word), s.runs → ch < 2 → s.chip.reach (0x402C0 + ch * 0x10000) →
    ∃ d, exec (.snapIdxWrite ch v) s = .next { s with chip := d } ∧
      s.chip.onlyRegs d [0x402C0 + ch * 0x10000] ∧
      d.rd (mcF ch MCA_SNAP_IDX_IDX) = MCA_SNAP_IDX_IDX.get v ∧
      d.readReg (0x402C4 + ch * 0x10000) = SMap.get (fun _ => 0) (s.chip.mc ch).snapshot (MCA_SNAP_IDX_IDX.get v)) ∧
  (∀ (s : State) (ch : Nat), s.runs → ch < 2 → s.chip.reach (0x40248 + ch * 0x10000) →
    ∃ d, exec (.errFirstClear ch) s = .next { s with chip := d } ∧ s.chip.onlyRegs d [0x40248 + ch * 0x10000] ∧
      ∀ i, i < 31 → (d.get (0x40248 + ch * 0x10000)).getLsbD i = (s.chip.get (0x40248 + ch * 0x10000)).getLsbD i ∧
        (d.get (0x40248 + ch * 0x10000)).getLsbD 31 = false)) ∧
  ((∀ (s : State) (ch width : Nat), s.runs → ch < 2 →
    s.chip.tim ch MCA_CFG_CA_PAR_EN = 1 ∨ s.chip.tim ch MCA_CFG_WCRC_EN = 1 →
    (s.chip.mc ch).alert.attempts < s.chip.retryMax ch →
    ∃ d, exec (.alertFall ch width) s = .next { s with chip := d } ∧
      s.chip.onlyMc d ch [(mcF ch MCA_ALERT_CNT_PAR).addr] ∧ (d.mc ch).alert.low = true ∧
      (d.mc ch).writeQ = (s.chip.mc ch).writeQ ∧ (d.mc ch).readQ = (s.chip.mc ch).readQ ∧
      if 24 ≤ width then
        d.rd (mcF ch MCA_ALERT_CNT_PAR) = satAdd MCA_ALERT_CNT_PAR.width (s.chip.rd (mcF ch MCA_ALERT_CNT_PAR)) 1
      else d.rd (mcF ch MCA_ALERT_CNT_WCRC) = satAdd MCA_ALERT_CNT_WCRC.width (s.chip.rd (mcF ch MCA_ALERT_CNT_WCRC)) 1) ∧
  (∀ (s : State) (ch width : Nat), s.runs → ch < 2 → s.chip.tim ch MCA_CFG_CA_PAR_EN = 0 →
    s.chip.tim ch MCA_CFG_WCRC_EN = 0 → exec (.alertFall ch width) s = .next s) ∧
  (∀ (s : State) (ch : Nat), s.runs → ch < 2 → (s.chip.mc ch).alert.low = true → (s.chip.mc ch).alert.exhausted = false →
    ∃ d, exec (.alertRetryReplay ch) s = .next { s with chip := d } ∧
      d = { s.chip with regs := d.regs, eff := d.eff, mcA := d.mcA, mcB := d.mcB } ∧ s.chip.otherMc d ch ∧
      s.chip.sameBut d [weirReg ch] ∧ (∀ a, a ≠ 0x40024 + ch * 0x10000 → d.getEff a = s.chip.getEff a) ∧
      ((s.chip.mc ch).alert.parity = true →
        d.getEff (0x40024 + ch * 0x10000) = s.chip.get (0x40024 + ch * 0x10000)) ∧
      (d.mc ch).alert.low = false ∧ (d.mc ch).alert.attempts = (s.chip.mc ch).alert.attempts + 1 ∧
      (d.mc ch).readQ = (s.chip.mc ch).readQ ∧ (d.mc ch).writeQ = (s.chip.mc ch).writeQ) ∧
  (∀ (s : State) (ch : Nat), s.runs → ch < 2 → (s.chip.mc ch).alert.low = true → (s.chip.mc ch).alert.exhausted = true →
    exec (.alertRetryReplay ch) s = .next { s with chip := s.chip.onMc ch fun m =>
      { m with alert := { m.alert with low := false, exhausted := false, attempts := 0 } } }) ∧
  (∀ (s : State) (ch : Nat), s.runs → ch < 2 → (s.chip.mc ch).alert.low = false →
    exec (.alertRetryReplay ch) s = .next s))

/-- Seeding and scrubbing (R374-R380). -/
def Obligations.SeedingAndScrubbing : Prop :=
  (∀ (s : State) (ch : Nat), s.runs → ch < 2 → s.chip.mcState ch = mcActive →
    s.chip.rd (mcF ch MCA_ECC_STAT_SEEDED) = 0 → s.chip.scrubHeld ch = false →
    ∃ d, exec (.seedVisitDue ch) s = .next { s with chip := d } ∧
      d = { s.chip with regs := d.regs, dram := d.dram, mcA := d.mcA, mcB := d.mcB } ∧ s.chip.otherMc d ch ∧
      s.chip.sameBut d ((MCX_SCRUB_POS_LINE.at ch).addr :: (mcF ch MCA_ECC_STAT).addr :: weirReg ch :: portLines 11) ∧
      (s.chip.rd (MCX_SCRUB_POS_LINE.at ch) + 1 < s.chip.rankLines ch →
        d.rd (MCX_SCRUB_POS_LINE.at ch) = s.chip.rd (MCX_SCRUB_POS_LINE.at ch) + 1 ∧
        d.rd (mcF ch MCA_ECC_STAT_SEEDED) = 0) ∧
      ∀ i, i < 8 → s.chip.wordQueued ch (s.chip.placeSys (s.chip.scrubPlace ch)) i = false →
        d.readPhys ((s.chip.scrubPlace ch).word i) =
          ⟨0, if (s.chip.readPhys ((s.chip.scrubPlace ch).word i)).cls ≤ 1 then
            (s.chip.readPhys ((s.chip.scrubPlace ch).word i)).data else 0, 0, false⟩) ∧
  (∀ (s : State) (ch : Nat), s.runs →
    s.chip.mcState ch ≠ mcActive ∨ s.chip.rd (mcF ch MCA_ECC_STAT_SEEDED) ≠ 0 ∨ s.chip.scrubHeld ch = true →
    exec (.seedVisitDue ch) s = .next s) ∧
  (∀ (s : State) (ch : Nat), s.runs → ch < 2 → s.chip.scrubPaused ch = false → s.chip.mcState ch = mcActive →
    (s.chip.mc ch).scrubRead = none →
    ∃ d, exec (.scrubVisitDue ch) s = .next { s with chip := d } ∧ d.stores = s.chip.stores ∧ d.seat = s.chip.seat ∧
      (d.mc ch).scrubRead = some ⟨s.chip.scrubPlace ch, List.replicate 8 false⟩ ∧
      s.chip.onlyMc d ch (weirReg ch :: portLines 11)) ∧
  (∀ (s : State) (ch : Nat), s.runs → s.chip.mcState ch = mcActive → (s.chip.mc ch).scrubRead ≠ none →
    exec (.scrubVisitDue ch) s = .next s) ∧
  (∀ (s : State) (ch : Nat), s.runs → s.chip.scrubPaused ch = true → exec (.scrubVisitDue ch) s = .next s) ∧
  (∀ (s : State) (ch : Nat), s.runs → ch < 2 → s.chip.scrubPaused ch = false →
    s.chip.mcState ch = mcShallow ∨ s.chip.mcState ch = mcDeep → (s.chip.mc ch).owedVisits + 1 < 1024 →
    exec (.scrubVisitDue ch) s = .next { s with chip := s.chip.onMc ch fun m =>
      { m with owedVisits := (s.chip.mc ch).owedVisits + 1 } }) ∧
  (∀ (s : State) (ch : Nat) (r : ScrubRead), s.runs → ch < 2 → (s.chip.mc ch).scrubRead = some r →
    (∀ i, i < 8 → (s.chip.readPhys (r.loc.word i)).cls = 0) → (s.chip.mc ch).owedVisits = 0 →
    ∃ d, exec (.scrubReadReturn ch) s = .next { s with chip := d } ∧ (d.mc ch).scrubRead = none ∧
      s.chip.onlyMc d ch [(MCX_SCRUB_POS_LINE.at ch).addr, (mcF ch MCA_ECC_STAT).addr, (MCX_SCRUB_PASS_PASSES.at ch).addr] ∧
      (s.chip.rd (MCX_SCRUB_POS_LINE.at ch) + 1 < s.chip.rankLines ch →
        d.rd (MCX_SCRUB_POS_LINE.at ch) = s.chip.rd (MCX_SCRUB_POS_LINE.at ch) + 1)) ∧
  (∀ (s : State) (ch : Nat), s.runs → (s.chip.mc ch).scrubRead = none → exec (.scrubReadReturn ch) s = .next s)

/-- Post-package repair (R386-R388). -/
def Obligations.PostPackageRepair : Prop :=
  (∀ (s : State) (ch : Nat) (v : Word), s.runs → ch < 2 → s.chip.reach (0x40280 + ch * 0x10000) →
    MCA_PPR_CTL_GO.get v = 1 → (s.chip.mc ch).pprBusy = false →
    ∃ d, exec (.pprGo ch v) s = .next { s with chip := d } ∧ d.stores = s.chip.stores ∧ d.seat = s.chip.seat ∧
      d.rd (mcF ch MCA_PPR_CTL_HARD) = MCA_PPR_CTL_HARD.get v ∧
      if s.chip.mode.mode = .calibrate ∧ s.chip.mcState ch = mcActive ∧
          s.chip.rd (mcF ch MCA_PPR_ADDR_ROW) < s.chip.mcUsedRows ch then
        s.chip.onlyMc d ch [0x40280 + ch * 0x10000, weirReg ch] ∧ (d.mc ch).pprBusy = true ∧ (d.mc ch).pprBuf.length = 256 ∧
        d.rd (mcF ch MCA_PPR_CTL_DONE) = 0
      else
        d.mc ch = s.chip.mc ch ∧ d.rd (mcF ch MCA_PPR_CTL_DONE) = 1 ∧ d.rd (mcF ch MCA_PPR_CTL_RESULT) = 2) ∧
  (∀ (s : State) (ch : Nat) (v : Word), s.runs → ch < 2 → s.chip.reach (0x40280 + ch * 0x10000) →
    (s.chip.mc ch).pprBusy = true →
    ∃ d, exec (.pprGo ch v) s = .next { s with chip := d } ∧ s.chip.onlyRegs d [0x40280 + ch * 0x10000] ∧
      d.rd (mcF ch MCA_PPR_CTL_HARD) = MCA_PPR_CTL_HARD.get v ∧
      d.rd (mcF ch MCA_PPR_CTL_RESULT) = s.chip.rd (mcF ch MCA_PPR_CTL_RESULT)) ∧
  (∀ (s : State) (ch : Nat) (equal : Bool), s.runs → ch < 2 → (s.chip.mc ch).pprBusy = true →
    ∃ d, exec (.pprDone ch equal) s = .next { s with chip := d } ∧ (d.mc ch).pprBusy = false ∧
      d.rd (mcF ch MCA_PPR_CTL_DONE) = 1 ∧ d.rd (mcF ch MCA_PPR_CTL_RESULT) = (if equal then 1 else 3) ∧
      d.rd (mcF ch MCA_PPR_CTL_SAVE_UE) = b2n (s.chip.mc ch).pprUe ∧ d.flash = s.chip.flash ∧
      d.wh.evt.getLsbD evMem = true)

/-- Rank migration (R390-R396, Table 8.4). -/
def Obligations.RankMigration : Prop :=
  (∀ (s : State) (ch : Nat), s.runs → ch < 2 → s.chip.reach 0x60420 →
    (s.chip.mcSpare ch = true → s.chip.migState ch = 0 ∨ s.chip.migState ch = 5 →
      ∃ d, exec (.migStart ch) s = .next { s with chip := d } ∧ d.migState ch = 1 ∧
        d.rd (MCX_MIG_STAT_PROGRESS.at ch) = 0 ∧
        s.chip.onlyLk d ((MCX_MIG_STAT.at ch).addr :: (mcF ch MCA_ECC_STAT).addr :: logRegs)) ∧
    (s.chip.mcSpare ch = false ∨ s.chip.migState ch ∈ [1, 2, 3, 4] → exec (.migStart ch) s = .next s)) ∧
  (∀ (s : State) (ch : Nat), s.runs → ch < 2 → s.chip.reach 0x60420 →
    (s.chip.migState ch = 1 ∨ s.chip.migState ch = 2 →
      ∃ d, exec (.migAbort ch) s = .next { s with chip := d } ∧ d.migState ch = 5 ∧
        s.chip.onlyLk d ((MCX_MIG_STAT.at ch).addr :: (mcF ch MCA_ECC_STAT).addr :: logRegs)) ∧
    (s.chip.migState ch ≠ 1 → s.chip.migState ch ≠ 2 → exec (.migAbort ch) s = .next s)) ∧
  (∀ (s : State) (ch : Nat), s.runs → ch < 2 → s.chip.migState ch = 1 → s.chip.mcState ch = mcActive →
    s.chip.mode.mode ≠ .hold → s.chip.isFrozen ch = false → (s.chip.mc ch).alert.low = false →
    (s.chip.mc ch).pprBusy = false → s.chip.rd (MCX_MIG_STAT_PROGRESS.at ch) + 1 < s.chip.rankLines ch →
    (∀ i, i < 8 →
      (s.chip.readPhys ((s.chip.linePlace ch 0 (s.chip.rd (MCX_MIG_STAT_PROGRESS.at ch))).word i)).cls = 0 ∧
      s.chip.wordQueued ch (s.chip.locSys (s.chip.linePlace ch 0 (s.chip.rd (MCX_MIG_STAT_PROGRESS.at ch)))) i = false) →
    ∃ d, exec (.migCopyLine ch) s = .next { s with chip := d } ∧
      d = { s.chip with regs := d.regs, dram := d.dram, mcA := d.mcA, mcB := d.mcB } ∧ s.chip.otherMc d ch ∧
      s.chip.sameBut d [(MCX_MIG_STAT.at ch).addr, weirReg ch] ∧ d.migState ch = 1 ∧
      d.rd (MCX_MIG_STAT_PROGRESS.at ch) = s.chip.rd (MCX_MIG_STAT_PROGRESS.at ch) + 1 ∧
      ∀ i, i < 8 → d.readPhys ((s.chip.linePlace ch 1 (s.chip.rd (MCX_MIG_STAT_PROGRESS.at ch))).word i) =
        s.chip.readPhys ((s.chip.linePlace ch 0 (s.chip.rd (MCX_MIG_STAT_PROGRESS.at ch))).word i)) ∧
  (∀ (s : State) (ch : Nat), s.runs → ch < 2 → s.chip.migState ch = 3 →
    ∃ d, exec (.migFlipComplete ch) s = .next { s with chip := d } ∧ d.migState ch = 4 ∧
      d.rd (mcF ch MCA_ECC_STAT_RETIRED) = 1 ∧ d.stores = s.chip.stores ∧ d.seat = s.chip.seat ∧
      (d.mc ch).heldReqs = [] ∧
      (s.chip.rd (MCX_SCRUB_POS_RANK.at ch) = 0 →
        d.rd (MCX_SCRUB_POS_RANK.at ch) = 1 ∧ d.rd (MCX_SCRUB_POS_LINE.at ch) = 0))

/-- Links and loss of input (R404, R416). -/
def Obligations.VideoLinks : Prop :=
  (∀ (s : State) (n : Nat), s.runs → n < 4 →
    (∃ d, exec (.vinLinkLock n) s = .next { s with chip := d } ∧ s.chip.onlyRegs d [VIN_LINK_STAT.addr] ∧
      d.flag (vinLockBit n) = true ∧ ∀ m, m < 4 → m ≠ n → d.flag (vinLockBit m) = s.chip.flag (vinLockBit m)) ∧
    (s.chip.vinLinks ≤ n ∨ s.chip.ef VIN_CFG_EN = 0 →
      ∃ d, exec (.vinLinkLoss n) s = .next { s with chip := d } ∧ s.chip.onlyRegs d [VIN_LINK_STAT.addr] ∧
        d.flag (vinLockBit n) = false) ∧
    (n < s.chip.vinLinks → s.chip.ef VIN_CFG_EN = 1 →
      ∃ d, exec (.vinLinkLoss n) s = .next { s with chip := d } ∧
        d = { s.chip with regs := d.regs, vin := d.vin, wh := { s.chip.wh with evt := d.wh.evt } } ∧
        s.chip.sameBut d [VIN_LINK_STAT.addr, VIN_CAP_STAT.addr, VIN_LOCK_STAT.addr] ∧
        d.flag (vinLockBit n) = false ∧ d.rd VIN_LINK_STAT_LOST = 1 ∧ d.vin.inFrame = false ∧
        d.vin.capturing = false ∧ d.rd VIN_LOCK_STAT_STATE = 0)) ∧
  (∀ s : State, s.runs → s.chip.ef VIN_CFG_EN = 1 → s.chip.vin.inFrame = true →
    ∃ d, exec .vinInputLost s = .next { s with chip := d } ∧
      d = { s.chip with regs := d.regs, vin := d.vin, wh := { s.chip.wh with evt := d.wh.evt } } ∧
      s.chip.sameBut d [VIN_LINK_STAT.addr, VIN_CAP_STAT.addr, VIN_LOCK_STAT.addr] ∧
      d.rd VIN_LINK_STAT_LOST = 1 ∧ d.vin.inFrame = false ∧ d.vin.capturing = false ∧ d.rd VIN_LOCK_STAT_STATE = 0)

/-- Frames and lines of the video input (R405-R424). -/
def Obligations.VideoFramesAndLines : Prop :=
  (∀ (s : State) (totPix totLines n : Nat), s.runs → s.chip.pdOn 17 = true → s.chip.brg.stream = [] →
    s.chip.rd VIN_CFG_EN = 1 → (∀ k, k < 4 → s.chip.flag (vinLockBit k) = true) →
    ∃ d, exec (.vinFrameStart totPix totLines n) s = .next { s with chip := d } ∧ d.stores = s.chip.stores ∧
      d.seat = s.chip.seat ∧ d.vin.inFrame = true ∧ d.vin.runs = 0 ∧ d.vin.lastStart = some s.chip.now ∧
      d.rd VIN_LINK_STAT_LOST = 0 ∧ d.getEff VIN_CFG.addr = s.chip.get VIN_CFG.addr ∧ d.brg.stream = [] ∧
      d.brg.dead = false ∧ d.brg.failed = false) ∧
  (∀ (s : State) (links : List (List Slots)) (skew : Nat) (room : Bool), s.runs →
    s.chip.ef VIN_CFG_EN = 0 ∨ s.chip.vin.inFrame = false → exec (.vinLine links skew room) s = .next s) ∧
  (∀ (s : State) (links : List (List Slots)) (skew : Nat) (room : Bool), s.runs → s.chip.ef VIN_CFG_EN = 1 →
    s.chip.vin.inFrame = true → s.chip.vin.dropUntilStart = false → skew ≤ 4 →
    s.chip.vin.runs < s.chip.ef VIN_TIMING_EXP_VACT →
    ∃ d, exec (.vinLine links skew room) s = .next { s with chip := d } ∧ d.vin.runs = s.chip.vin.runs + 1 ∧
      d.flash = s.chip.flash ∧ d.seat = s.chip.seat ∧
      (let w := (runPixels (s.chip.ef VIN_CFG_MAP) s.chip.vinLinks links).length
       (w ≠ s.chip.ef VIN_TIMING_EXP_HACT →
          d = { s.chip with regs := d.regs, vin := d.vin } ∧ s.chip.sameBut d [VIN_CAP_CNT0.addr] ∧
          d.rd VIN_CAP_CNT0_BADLINE = satAdd 16 (s.chip.rd VIN_CAP_CNT0_BADLINE) 1) ∧
        (w = s.chip.ef VIN_TIMING_EXP_HACT → s.chip.vin.capturing = true → room = false →
          d = { s.chip with regs := d.regs, vin := d.vin } ∧ s.chip.sameBut d [VIN_CAP_CNT0.addr] ∧
          d.rd VIN_CAP_CNT0_LINE_DROP = satAdd 16 (s.chip.rd VIN_CAP_CNT0_LINE_DROP) 1))) ∧
  (∀ (s : State) (links : List (List Slots)) (skew : Nat) (room : Bool), s.runs → s.chip.ef VIN_CFG_EN = 1 →
    s.chip.vin.inFrame = true → s.chip.vin.dropUntilStart = false → skew ≤ 4 →
    s.chip.ef VIN_TIMING_EXP_VACT ≤ s.chip.vin.runs →
    s.chip.isBarge (runPixels (s.chip.ef VIN_CFG_MAP) s.chip.vinLinks links) = false →
    ∃ d, exec (.vinLine links skew room) s = .next { s with chip := d } ∧
      d = { s.chip with regs := d.regs, vin := d.vin } ∧ s.chip.sameBut d [VIN_CAP_CNT1.addr, VIN_CAP_STAT.addr] ∧
      d.rd VIN_CAP_CNT1_LONG = satAdd 16 (s.chip.rd VIN_CAP_CNT1_LONG) 1 ∧ d.vin.long = true) ∧
  (∀ s : State, s.runs → s.chip.vin.inFrame = true → s.chip.vin.capturing = true → s.chip.vin.done = false →
    s.chip.ef VIN_TIMING_EXP_VACT ≤ s.chip.vin.runs →
    ∃ d, exec .vinFrameComplete s = .next { s with chip := d } ∧
      d = { s.chip with regs := d.regs, vin := { s.chip.vin with done := true } } ∧
      s.chip.sameBut d [VIN_CAP_STAT.addr] ∧ d.rd VIN_CAP_STAT_LATEST = s.chip.vin.buf % 4 ∧
      d.rd VIN_CAP_STAT_VALID = 1 ∧ d.rd VIN_CAP_STAT_SHORT = 0 ∧ d.rd VIN_CAP_STAT_LONG = b2n s.chip.vin.long)

/-- Barge packets (R430-R439, Table 9.4). Fences and the sequence reset (R435, R437). -/
def Obligations.BargePackets : Prop :=
  ((∀ s : State, s.runs → s.chip.headPad = true →
    exec .bargePad s =
      .next { s with chip := { s.chip with brg := { s.chip.brg with stream := [], dead := true, seen := false } } }) ∧
  (∀ s : State, s.runs → s.chip.packetReady 1 → s.chip.brg.blocked = false → s.chip.brg.crcOk = true →
    s.chip.packetDup = false →
    ∃ d, exec .bargeOsd s = .next { s with chip := d } ∧ s.chip.packetTaken d ∧
      d = { s.chip with regs := d.regs, brg := s.chip.brg.packetEnd }) ∧
  (∀ s : State, s.runs → s.chip.packetReady 2 → s.chip.brg.blocked = false → s.chip.brg.crcOk = true →
    s.chip.packetDup = false →
    ∃ d, exec .bargeLut s = .next { s with chip := d } ∧ s.chip.packetTaken d ∧
      d = { s.chip with regs := d.regs, brg := { s.chip.brg.packetEnd with
        luts := s.chip.brg.luts ++ [⟨s.chip.brg.seq, s.chip.brg.dest, payloadWords s.chip.brg.payload⟩] } }) ∧
  (∀ s : State, s.runs → s.chip.packetReady 4 → s.chip.brg.failed = false → s.chip.brg.crcOk = true →
    s.chip.packetDup = false →
    ∃ d, exec .bargeFence s = .next { s with chip := d } ∧ s.chip.packetTaken d ∧
      d = { s.chip with regs := d.regs, brg := { s.chip.brg.packetEnd with
        fences := s.chip.brg.fences ++ [(s.chip.brg.param % 16, s.chip.brg.dest % 65536)] } }) ∧
  (∀ (s : State) (t : Nat) (i : Instr), s.runs → (t, i) ∈ [(1, .bargeOsd), (2, .bargeLut)] → s.chip.packetReady t →
    ∃ d, exec i s = .next { s with chip := d } ∧ d = { s.chip with regs := d.regs, brg := d.brg } ∧
      d.brg.stream = [] ∧
      (s.chip.brg.blocked = true →
        s.chip.sameBut d [VIN_BRG_CNT2.addr] ∧
        d.rd VIN_BRG_CNT2_NOBUF = satAdd 16 (s.chip.rd VIN_BRG_CNT2_NOBUF) 1) ∧
      (s.chip.brg.blocked = false → s.chip.brg.crcOk = false →
        s.chip.sameBut d [VIN_BRG_CNT1.addr] ∧ d.brg.failed = true ∧
        d.rd VIN_BRG_CNT1_CRC_ERR = satAdd 16 (s.chip.rd VIN_BRG_CNT1_CRC_ERR) 1) ∧
      (s.chip.brg.blocked = false → s.chip.brg.crcOk = true → s.chip.packetDup = true →
        s.chip.sameBut d [VIN_BRG_CNT0.addr] ∧ d.brg.luts = s.chip.brg.luts ∧
        d.rd VIN_BRG_CNT0_DUP = satAdd 16 (s.chip.rd VIN_BRG_CNT0_DUP) 1)) ∧
  (∀ s : State, s.runs → s.chip.headIs (4 < ·) = true → s.chip.brg.stream.length = 20 + s.chip.brg.len →
    ∃ d, exec .bargeUnknown s = .next { s with chip := d } ∧
      d = { s.chip with regs := d.regs, brg := s.chip.brg.packetEnd } ∧ s.chip.sameBut d [VIN_BRG_CNT3.addr] ∧
      d.rd VIN_BRG_CNT3_UNKNOWN = satAdd 16 (s.chip.rd VIN_BRG_CNT3_UNKNOWN) 1)) ∧
  ((∀ (s : State) (n v : Nat) (rest : List (Nat × Nat)), s.runs → s.chip.brg.fences = (n, v) :: rest → n < 16 →
    ∃ d, exec .bargeFenceApply s = .next { s with chip := d } ∧ d.brg = { s.chip.brg with fences := rest } ∧
      d.stores = s.chip.stores ∧ d.seat = s.chip.seat ∧
      if s.chip.pdOn 26 then d.rd (CMP_FENCE_VALUE.at n) = v % 65536
      else d = { s.chip with brg := { s.chip.brg with fences := rest } }) ∧
  (∀ s : State, s.runs → s.chip.brg.fences = [] → exec .bargeFenceApply s = .next s) ∧
  (∀ s : State, s.runs → s.chip.reach 0x80100 →
    ∃ d, exec .bargeSeqReset s = .next { s with chip := d } ∧ s.chip.onlyRegs d [VIN_BRG_STAT.addr] ∧
      d.rd VIN_BRG_STAT_SEQ_VALID = 0 ∧ d.rd VIN_BRG_STAT_LAST_SEQ = s.chip.rd VIN_BRG_STAT_LAST_SEQ ∧
      d.packetDup = false))

/-- Packets of the receiver (R444-R461). That an uncorrectable header takes no line position is the model's choice
(log entry 53). -/
def Obligations.CameraPackets : Prop :=
  (∀ (s : State) (v dt n : Nat) (l : List Nat) (b : List Byte) (crcOk room : Bool) (mk : Ecc → Instr), s.runs → v < 4 →
    mk ∈ [fun e => Instr.csiImageLine v l e crcOk room, fun e => .csiEmbeddedData v b e, fun e => .csiGenericShort v dt e,
      fun e => .csiFrameStart v e n, fun e => .csiFrameEnd ⟨v, e⟩] →
    (s.chip.rxOn = true →
      exec (mk .bad) s = .next { s with chip := s.chip.bump CSI_ERR_CNT0_ECC_UNCORR 1 } ∧
      exec (mk .corrected) s = exec (mk .clean) { s with chip := s.chip.bump CSI_ERR_CNT0_ECC_CORR 1 }) ∧
    (s.chip.rxOn = false → ∀ e, exec (mk e) s = .next s)) ∧
  (∀ (s : State) (v : Nat) (l : List Nat) (crcOk room : Bool), s.runs → v < 4 → s.chip.rxOn = true →
    (s.chip.vcOn v = false → exec (.csiImageLine v l .clean crcOk room) s = .next s) ∧
    (s.chip.vcOn v = true →
      let judged :=
        if crcOk = false then s.chip.bump (vcF v CSI_VC_CNT1_CRC_ERR) 1
        else if l.length ≠ s.chip.vcWidth v then s.chip.bump (vcF v CSI_VC_CNT2_BADLEN) 1
        else s.chip
      (s.chip.inFrame v = false →
        exec (.csiImageLine v l .clean crcOk room) s =
          .next { s with chip := judged.bump (vcF v CSI_VC_CNT3_NO_FS) 1 }) ∧
      (s.chip.inFrame v = true →
        (s.chip.vcHeight v ≤ (s.chip.vc v).next →
          exec (.csiImageLine v l .clean crcOk room) s =
            .next { s with chip := judged.onVc v fun k => { k with long := true } }) ∧
        ((s.chip.vc v).next < s.chip.vcHeight v →
          let scale := rawScale (s.chip.ef (vcF v CSI_VC_CFG_DT))
          let full := (s.chip.vc v).skip = false ∧ s.chip.regionFull (s.chip.vcCtx v) = true
          (crcOk = false ∨ l.length ≠ s.chip.vcWidth v →
            exec (.csiImageLine v l .clean crcOk room) s = .next { s with chip := judged.position v none }) ∧
          (crcOk = true → l.length = s.chip.vcWidth v → room = false ∨ full →
            exec (.csiImageLine v l .clean crcOk room) s =
              .next { s with chip := (s.chip.bump (vcF v CSI_VC_CNT1_LINE_DROP) 1).position v none }) ∧
          (crcOk = true → l.length = s.chip.vcWidth v → room = true → ¬full →
            exec (.csiImageLine v l .clean crcOk room) s =
              .next { s with chip := s.chip.position v (some (l.map scale)) }))))) ∧
  (∀ (c : Chip) (v : Nat) (l : Option (List Nat)), c.share ≠ 2 →
    c.position v l = c.onVc v fun k => { k with next := k.next + 1, lines := k.lines ++ [l] }) ∧
  (∀ (s : State) (v : Nat) (b : List Byte), s.runs → v < 4 → s.chip.rxOn = true →
    exec (.csiEmbeddedData v b .clean) s =
      if s.chip.vcOn v = true ∧ s.chip.inFrame v = true then
        .next { s with chip := s.chip.onVc v fun k => { k with emb := (k.emb ++ b).take 32 } }
      else .next s) ∧
  (∀ (s : State) (v dt : Nat), s.runs → v < 4 → s.chip.rxOn = true →
    (8 ≤ dt → dt ≤ 15 →
      exec (.csiGenericShort v dt .clean) s = .next { s with chip := s.chip.bump CSI_ERR_CNT1_UNKNOWN_DT 1 }) ∧
    (dt = 2 ∨ dt = 3 ∨ dt = 0x12 → exec (.csiGenericShort v dt .clean) s = .next s))

/-- Frames of the receiver (R453-R459, R462). -/
def Obligations.CameraFrames : Prop :=
  (∀ (s : State) (v n : Nat), s.runs → v < 4 → s.chip.rxOn = true →
    ∃ d, exec (.csiFrameStart v .clean n) s = .next { s with chip := d } ∧ d.stores = s.chip.stores ∧
      d.seat = s.chip.seat ∧ d.getEff CSI_CFG.addr = s.chip.get CSI_CFG.addr ∧
      d.getEff (vcF v CSI_VC_CFG).addr = s.chip.get (vcF v CSI_VC_CFG).addr ∧
      d.rd (vcF v CSI_VC_CNT2_NO_FE) = satAdd 16 (s.chip.rd (vcF v CSI_VC_CNT2_NO_FE)) (b2n (s.chip.inFrame v)) ∧
      if s.chip.rd CSI_CFG_EN = 1 ∧ s.chip.rd (vcF v CSI_VC_CFG_EN) = 1 then
        d.inFrame v = true ∧
        d.rd (vcF v CSI_VC_STAT_FRAME_CNT) = (s.chip.rd (vcF v CSI_VC_STAT_FRAME_CNT) + 1) % 65536
      else
        d.inFrame v = false ∧ d.rd (vcF v CSI_VC_STAT_FRAME_CNT) = s.chip.rd (vcF v CSI_VC_STAT_FRAME_CNT)) ∧
  (∀ (s : State) (v : Nat), s.runs → v < 4 → s.chip.inFrame v = false → exec (.csiFrameEnd ⟨v, .clean⟩) s = .next s) ∧
  (∀ (s : State) (v : Nat), s.runs → v < 4 → s.chip.rxOn = true → s.chip.inFrame v = true →
    ∃ d, exec (.csiFrameEnd ⟨v, .clean⟩) s = .next { s with chip := d } ∧
      d = { s.chip with regs := d.regs, cam := d.cam, wh := { s.chip.wh with evt := d.wh.evt } } ∧
      (∀ a, a < (vcF v CSI_VC_STAT).addr → d.get a = s.chip.get a) ∧ d.wh.evt.getLsbD evCam = true ∧
      d.inFrame v = false ∧
      (let filled := ((s.chip.vc v).lines.take (s.chip.vcHeight v)).filter fun l => l.isSome
       d.rd (vcF v CSI_VC_STAT_SHORT) = (if filled.length < s.chip.vcHeight v then 1 else 0) ∧
       d.rd (vcF v CSI_VC_CNT0_SHORT_CNT) = satAdd 16 (s.chip.rd (vcF v CSI_VC_CNT0_SHORT_CNT))
         (if filled.length < s.chip.vcHeight v then 1 else 0)) ∧
      d.rd (vcF v CSI_VC_STAT_LONG) = b2n (s.chip.vc v).long ∧
      d.rd (vcF v CSI_VC_CNT0_LONG_CNT) = satAdd 16 (s.chip.rd (vcF v CSI_VC_CNT0_LONG_CNT)) (b2n (s.chip.vc v).long) ∧
      d.rd (vcF v CSI_VC_STAT_FRAME_CNT) = s.chip.rd (vcF v CSI_VC_STAT_FRAME_CNT))

/-- Sharing (R449-R451, R464, R488). -/
def Obligations.CameraSharing : Prop :=
  (∀ (s : State) (w : Word), s.runs → s.chip.reach 0x0A0040 →
    ∃ d, exec (.csiShareWrite w) s = .next { s with chip := d } ∧
      (let need := s.chip.lineRam (max 4 (CSI_SHARE_STRIPE_LINES.get w)) s.chip.vcCfgs
       (shareMode w = 2 → s.chip.v1Holds = true →
          s.chip.onlyRegs d [CSI_SHARE_STAT.addr] ∧ d.rd CSI_SHARE_STAT_ERR = 1) ∧
        (shareMode w = 2 → s.chip.v1Holds = false → 49152 < need →
          s.chip.onlyRegs d [CSI_SHARE_STAT.addr] ∧ d.rd CSI_SHARE_STAT_ERR = 2) ∧
        (shareMode w ≠ 2 ∨ (s.chip.v1Holds = false ∧ need ≤ 49152) → routeBad (shareMode w) s.chip.vcCfgs = true →
          s.chip.onlyRegs d [CSI_SHARE_STAT.addr] ∧ d.rd CSI_SHARE_STAT_ERR = 3) ∧
        ((∀ v, v < 4 → s.chip.rd (vcF v CSI_VC_CFG_EN) = 0) → shareMode w ≠ 2 →
          d = { s.chip with regs := d.regs, cam := d.cam } ∧ s.chip.sameBut d [CSI_SHARE.addr] ∧
          d.cam = (if shareMode w = s.chip.share then s.chip.cam else s.chip.regionsReset.cam) ∧
          d.rd CSI_SHARE_MODE = CSI_SHARE_MODE.get w ∧
          d.rd CSI_SHARE_STRIPE_LINES = CSI_SHARE_STRIPE_LINES.get w))) ∧
  (∀ (s : State) (v : Nat) (w : Word), s.runs → v < 4 → s.chip.reach (0x0A0100 + 0x40 * v) →
    ∃ d, exec (.csiVcEnable v w) s = .next { s with chip := d } ∧
      (CSI_VC_CFG_EN.get w = 1 → s.chip.share ≠ 2 →
        (∃ u, u < 4 ∧ u ≠ v ∧ s.chip.rd (vcF u CSI_VC_CFG_EN) = 1 ∧
          s.chip.rd (vcF u CSI_VC_CFG_PIPE) = CSI_VC_CFG_PIPE.get w ∧
          s.chip.rd (vcF u CSI_VC_CFG_CTX) = CSI_VC_CFG_CTX.get w) →
        s.chip.onlyRegs d [CSI_SHARE_STAT.addr] ∧ d.rd CSI_SHARE_STAT_ERR = 3) ∧
      (CSI_VC_CFG_EN.get w = 0 ∨
        (s.chip.share ≠ 2 ∧ (∀ u, u < 4 → u ≠ v → s.chip.rd (vcF u CSI_VC_CFG_EN) = 0) ∧
          (CSI_VC_CFG_PIPE.get w = 0 ∨ CSI_VC_CFG_CTX.get w = 0)) →
        s.chip.onlyRegs d [(vcF v CSI_VC_CFG).addr] ∧ d.rd (vcF v CSI_VC_CFG_EN) = CSI_VC_CFG_EN.get w ∧
        d.rd (vcF v CSI_VC_CFG_DT) = CSI_VC_CFG_DT.get w ∧ d.rd (vcF v CSI_VC_CFG_PIPE) = CSI_VC_CFG_PIPE.get w ∧
        d.rd (vcF v CSI_VC_CFG_CTX) = CSI_VC_CFG_CTX.get w)) ∧
  (∀ (s : State) (n : Nat) (w : Word), s.runs → n < 3 → s.chip.reach (0x0D0010 + 0x10 * n) →
    ∃ d, exec (.rtxStreamEnable n w) s = .next { s with chip := d } ∧
      (let clash := RTX_STR_CFG_EN.get w = 1 ∧
          ∃ k, k < 3 ∧ k ≠ n ∧ s.chip.rd (RTX_STR_CFG_EN.at k) = 1 ∧ s.chip.rd (RTX_STR_CFG_VC.at k) = RTX_STR_CFG_VC.get w
       (clash → s.chip.onlyRegs d [RTX_STAT.addr] ∧ d.rd RTX_STAT_ERR = 1) ∧
        (¬clash →
          s.chip.onlyRegs d [(RTX_STR_CFG.at n).addr] ∧ d.rd (RTX_STR_CFG_EN.at n) = RTX_STR_CFG_EN.get w ∧
          d.rd (RTX_STR_CFG_PIPE.at n) = RTX_STR_CFG_PIPE.get w ∧ d.rd (RTX_STR_CFG_CTX.at n) = RTX_STR_CFG_CTX.get w ∧
          d.rd (RTX_STR_CFG_VC.at n) = RTX_STR_CFG_VC.get w))) ∧
  (∀ s : State, s.runs → s.chip.share ≠ 2 ∨ s.chip.flag ISP0_CTL_EN = false → exec .stripeReady s = .next s) ∧
  (∀ (s : State) (k : Nat), s.runs → s.chip.share = 2 → s.chip.flag ISP0_CTL_EN = true → k < 4 →
    s.chip.stripeReady ((s.chip.cam.lastCtx + 1 + k) % 4) = true →
    (∀ j, j < k → s.chip.stripeReady ((s.chip.cam.lastCtx + 1 + j) % 4) = false) →
    ∃ d, exec .stripeReady s = .next { s with chip := d } ∧ d = { s.chip with regs := d.regs, cam := d.cam } ∧
      s.chip.sameBut d [ISP0_STAT.addr] ∧ d.cam.lastCtx = (s.chip.cam.lastCtx + 1 + k) % 4 ∧
      d.rd ISP0_STAT_CTX = d.cam.lastCtx ∧ d.rd ISP0_STAT_BUSY = 1 ∧
      (let was := s.chip.ctx d.cam.lastCtx
       (d.ctx d.cam.lastCtx).rest = was.rest - s.chip.stripeLines ∧
         (d.ctx d.cam.lastCtx).pendLines =
           if 0 < was.rest then was.pendLines else was.pendLines - s.chip.stripeLines))

/-- The pipes and the return link (R466-R487). -/
def Obligations.CameraPipes : Prop :=
  (∀ (s : State) (p x : Nat), s.runs →
    ((s.chip.ctx (ctxIdx p x)).frames = [] → exec (.ispFrameEnd p x) s = .next s) ∧
    (∀ f rest, (s.chip.ctx (ctxIdx p x)).frames = f :: rest →
      ∃ d, exec (.ispFrameEnd p x) s = .next { s with chip := d } ∧ d.stores = s.chip.stores ∧ d.seat = s.chip.seat ∧
        (let i := ctxIdx p x
         (d.ctx i).frames = rest ∧ (d.ctx i).outFrames = (s.chip.ctx i).outFrames ++ [f] ∧
         (d.ctx i).outK = (s.chip.ctx i).outK ∧
         (d.rd (ispF i ISP0_STAT_BUSY) = 1 ↔ ∃ j, j < 5 ∧ idxPipe j = idxPipe i ∧ d.ctxActive j = true) ∧
         if s.chip.flag (ispF i ISP0_CTL_STAT_HOLD) then
           (d.ctx i).bank = (s.chip.ctx i).bank ∧ (d.ctx i).tag = (s.chip.ctx i).tag ∧
           d.rd (ispF i ISP0_STAT_LOST_STAT_LOST) = satAdd 16 (s.chip.rd (ispF i ISP0_STAT_LOST_STAT_LOST)) 1
         else
           (d.ctx i).tag = BitVec.ofNat 32 (f.count + b2n f.short * 2 ^ 16 + b2n f.long * 2 ^ 17 + 2 ^ 18) ∧
           (d.ctx i).bank.length = 4 ∧ ∀ b, b ∈ (d.ctx i).bank → b.length = 192)) ∧
    (∀ r, (s.chip.ctx (ctxIdx p x)).outFrames = [] → exec (.ispOutputFrameDone p x r) s = .next s) ∧
    (∀ f rest r, (s.chip.ctx (ctxIdx p x)).outFrames = f :: rest →
      ∃ d, exec (.ispOutputFrameDone p x r) s = .next { s with chip := d } ∧ d.flash = s.chip.flash ∧
        d.seat = s.chip.seat ∧
        (let i := ctxIdx p x
         let was := s.chip.asOf i f
         let b := (s.chip.ctx i).outK % was.ispNbuf i
         let en := fun (g : Field) => was.eflag (bankF i g)
         (d.ctx i).outFrames = rest ∧ (d.ctx i).frames = (s.chip.ctx i).frames ∧
         (d.ctx i).outK = (s.chip.ctx i).outK + b2n
           (en ISP0_C0_OUT_CTL_DISP_EN || en ISP0_C0_OUT_CTL_COD_EN || en ISP0_C0_OUT_CTL_VIS_EN) ∧
         (en ISP0_C0_OUT_CTL_DISP_EN = true → en ISP0_C0_OUT_CTL_COD_EN = false → en ISP0_C0_OUT_CTL_VIS_EN = false →
           if s.chip.ispHeld i 0 b then
             d.rd (bankF i ISP0_C0_OUT_STAT_DISP) = s.chip.rd (bankF i ISP0_C0_OUT_STAT_DISP) ∧ d.dram = s.chip.dram ∧
             d.rd ((ispF i ISP0_OUT_CNT_OUT_SKIP).off (4 * idxCtx i)) =
               satAdd 16 (s.chip.rd ((ispF i ISP0_OUT_CNT_OUT_SKIP).off (4 * idxCtx i))) 1
           else
             d.rd (bankF i ISP0_C0_OUT_STAT_DISP) = b ∧ d.bit (bankF i ISP0_C0_OUT_STAT_VALID) 0 = true))) ∧
    (s.chip.rd (bankF (ctxIdx p x) ISP0_C0_PROX_CTL_EN) = 0 → exec (.proxStaleTimeout p x) s = .next s) ∧
    (s.chip.rd (bankF (ctxIdx p x) ISP0_C0_PROX_CTL_EN) = 1 →
      ∃ d, exec (.proxStaleTimeout p x) s = .next { s with chip := d } ∧ d.stores = s.chip.stores ∧
        d.seat = s.chip.seat ∧
        d.rd ((ispF (ctxIdx p x) ISP0_PROX_STAT_STALE).off (4 * idxCtx (ctxIdx p x))) = 1)) ∧
  (∀ (s : State) (r : RtxFrame) (rest : List RtxFrame), s.runs → s.chip.cam.sending = [] →
    s.chip.cam.sendQ = r :: rest → s.chip.flag RTX_CFG_EN = true → r.stream < 3 →
    ∃ d, exec .rtxFrameSendStart s = .next { s with chip := d } ∧
      d = { s.chip with regs := d.regs, eff := d.eff, cam := d.cam } ∧ s.chip.sameBut d [RTX_STAT.addr] ∧
      d.cam.sending = [r] ∧ d.cam.sendQ = rest ∧ d.cam.direct = false ∧ d.rd RTX_STAT_BUSY = 1 ∧
      d.rd RTX_STAT_STREAM = r.stream ∧ d.getEff RTX_CFG.addr = s.chip.get RTX_CFG.addr ∧
      d.cam.sent.head? = some (rtxPacket 0 (d.rtxVc r.stream) (r.count % 65535 + 1) [])) ∧
  (∀ s : State, s.runs → s.chip.cam.sending ≠ [] ∨ s.chip.cam.sendQ = [] ∨ s.chip.flag RTX_CFG_EN = false →
    exec .rtxFrameSendStart s = .next s) ∧
  (∀ (s : State) (r : RtxFrame) (rest : List RtxFrame), s.runs → s.chip.cam.sending = r :: rest → r.stream < 3 →
    ∃ d, exec .rtxFrameSent s = .next { s with chip := d } ∧ d.stores = s.chip.stores ∧ d.seat = s.chip.seat ∧
      d.cam.sending = rest ∧ d.rd RTX_STAT_BUSY = b2n (!rest.isEmpty) ∧
      d.rd (RTX_STR_CNT_SENT.at r.stream) = satAdd 16 (s.chip.rd (RTX_STR_CNT_SENT.at r.stream)) 1 ∧
      d.wh.evt.getLsbD evCam = true ∧
      d.cam.sent.getLast? = some (rtxPacket 1 (s.chip.rtxVc r.stream) (r.count % 65535 + 1) [])) ∧
  (∀ s : State, s.runs → s.chip.cam.sending = [] → exec .rtxFrameSent s = .next s) ∧
  (∀ (s : State) (n : Nat) (l : List Nat) (first room : Bool), s.runs →
    (n = 0 ∨ 3 ≤ n ∨ s.chip.rd RTX_CFG_EN = 0 ∨ s.chip.rd (RTX_STR_CFG_EN.at n) = 0 →
      exec (.rtxDirectLine n l first room) s = .next s) ∧
    (n = 1 ∨ n = 2 → s.chip.rd RTX_CFG_EN = 1 → s.chip.rd (RTX_STR_CFG_EN.at n) = 1 →
      s.chip.eflag (bankF (ctxIdx (s.chip.rd (RTX_STR_CFG_PIPE.at n)) (s.chip.rd (RTX_STR_CFG_CTX.at n)))
        ISP0_C0_OUT_CTL_VIS_DIRECT) = true →
      ∃ d, exec (.rtxDirectLine n l first room) s = .next { s with chip := d } ∧
        d = { s.chip with regs := d.regs, eff := d.eff, cam := d.cam } ∧
        (first = true → s.chip.cam.sending ≠ [] → s.chip.cam.direct = false →
          s.chip.sameBut d [(RTX_STR_CNT.at n).addr] ∧
          d.rd (RTX_STR_CNT_DROP.at n) = satAdd 16 (s.chip.rd (RTX_STR_CNT_DROP.at n)) 1 ∧
          d.cam = { s.chip.cam with dropDirect := n :: s.chip.cam.dropDirect }) ∧
        (first = true → s.chip.cam.sending = [] →
          (∃ r, d.cam.sending = [r] ∧ r.stream = n) ∧ d.cam.direct = true ∧
          d.cam.sent.getLast? = some (rtxPacket 0x2A (d.rtxVc n) l.length
            (if room then l else List.replicate l.length 0))) ∧
        (first = false →
          s.chip.cam.dropDirect.contains n = true ∨ (∀ r, r ∈ s.chip.cam.sending → r.stream ≠ n) → d = s.chip) ∧
        (first = false → s.chip.cam.dropDirect.contains n = false → (∃ r, r ∈ s.chip.cam.sending ∧ r.stream = n) →
          s.chip.sameBut d [(RTX_STR_CNT1.at n).addr] ∧ d.eff = s.chip.eff ∧
          d.rd (RTX_STR_CNT1_UNDERRUN.at n) = satAdd 16 (s.chip.rd (RTX_STR_CNT1_UNDERRUN.at n)) (b2n (!room)) ∧
          d.cam = { s.chip.cam with sent := [rtxPacket 0x2A (s.chip.rtxVc n) l.length
            (if room then l else List.replicate l.length 0)] })))

/-- Frame boundaries and flips (R513-R517, R575, R576, R588). -/
def Obligations.FrameBoundaries : Prop :=
  (∀ (s : State) (so ticks : Nat), s.runs →
    2 ≤ so ∨ (so < 2 ∧ s.chip.soState so = 0) ∨ (so = 1 ∧ s.chip.soLocked = true) →
    exec (.frameBoundary so ticks) s = .next s) ∧
  (∀ (s : State) (ticks : Nat), s.runs → s.chip.soState 0 ≠ 0 → s.chip.mode.moorPhase = .none →
    s.chip.wh.mfstState ≠ .staged → s.chip.wh.mfstState ≠ .applying → s.chip.brg.luts = [] →
    ∃ d, exec (.frameBoundary 0 ticks) s = .next { s with chip := d } ∧ d.seat = s.chip.seat ∧
      d.flash = s.chip.flash ∧ d.mode.boundaries = min 2 (s.chip.mode.boundaries + 1) ∧
      (s.chip.mode.moored = true → s.chip.dramAwake = false →
        (∀ a, 0x100000 ≤ a → a < 0x110000 → d.getEff a = s.chip.getEff a) ∧
        ∀ g, g < 4 → d.armed g = s.chip.armed g) ∧
      (s.chip.mode.moored = false → s.chip.rd SOA_COMMIT_PENDING = 0 →
        d.rd SOA_FRAME_FRAME = (s.chip.rd SOA_FRAME_FRAME + 1) % 2 ^ 32 ∧
        d.soA.stampFrame = d.rd SOA_FRAME_FRAME ∧ d.soA.stamp = s.chip.stamp ∧
        ∀ g, g < 4 → s.chip.armed g = true → s.chip.cmp.late.testBit g = false →
          (∀ h, h < 4 → h ≠ g → s.chip.armed h = false) →
          (s.chip.groupReady g = true →
            d.armed g = false ∧ d.rd (CMP_GROUP_STAT_RESULT.at g) = 1 ∧
            d.rd (CMP_GROUP_STAT_FRAME.at g) = d.rd SOA_FRAME_FRAME % 65536 ∧
            ∀ L, L ∈ s.chip.groupMembers g → ∀ k, k < 32 →
              d.getEff (0x100100 + 0x80 * L + 4 * k) = s.chip.get (0x100100 + 0x80 * L + 4 * k)) ∧
          (s.chip.groupReady g = false → s.chip.ef CMP_FLIP_CFG_FENCE_TMO = 0 →
            d.armed g = true ∧ d.rd (CMP_GROUP_STAT_RESULT.at g) = 2 ∧
            ∀ a, 0x100100 ≤ a → a < 0x100500 → d.getEff a = s.chip.getEff a)))

/-- Flip control, layers and tables (R499, R513-R518, R535, R547). -/
def Obligations.FlipControl : Prop :=
  (∀ (s : State) (w : Word), s.runs → s.chip.reach 0x100020 →
    (∃ d, exec (.flipArm w) s = .next { s with chip := d } ∧ d.stores = s.chip.stores ∧ d.seat = s.chip.seat ∧
      (∀ g, g < 4 → d.armed g = (s.chip.armed g || (CMP_FLIP_ARM.get w).testBit g)) ∧
      (s.chip.soA.closed = true → s.chip.mode.moored = false →
        (∃ g, g < 4 ∧ (CMP_FLIP_ARM.get w).testBit g = true ∧ s.chip.armed g = false) →
        d.rd SOA_COMMIT_LATE = 1 ∧ d.rd SOA_CNT0_LATE = satAdd 16 (s.chip.rd SOA_CNT0_LATE) 1) ∧
      (s.chip.lookahead = 0 ∨ s.chip.mode.moored = true →
        d = { s.chip with regs := d.regs, cmp := d.cmp } ∧
        s.chip.sameBut d [CMP_FLIP.addr, SOA_COMMIT.addr, SOA_CNT0.addr])) ∧
    (∃ d, exec (.flipCancel w) s = .next { s with chip := d } ∧
      d = { s.chip with regs := d.regs, cmp := d.cmp, wh := { s.chip.wh with evt := d.wh.evt } } ∧
      s.chip.sameBut d (CMP_FLIP.addr :: ((List.range 4).map fun g => (CMP_GROUP_STAT_RESULT.at g).addr) ++
        (List.range 8).map fun L => (layF L CMP_L0_LSTAT_LA_DISCARD).addr) ∧
      ∀ g, g < 4 →
        d.armed g = (s.chip.armed g && !(CMP_FLIP_CANCEL.get w).testBit g) ∧
        d.rd (CMP_GROUP_STAT_RESULT.at g) =
          if s.chip.armed g = true ∧ (CMP_FLIP_CANCEL.get w).testBit g = true then 3
          else s.chip.rd (CMP_GROUP_STAT_RESULT.at g))) ∧
  (∀ (s : State) (n : Nat) (w : Word), s.runs → n < 16 → s.chip.reach (0x100040 + 4 * n) →
    ∃ d, exec (.cmpFenceWrite n w) s = .next { s with chip := d } ∧ d.stores = s.chip.stores ∧ d.seat = s.chip.seat ∧
      d.rd (CMP_FENCE_VALUE.at n) = w.toNat % 65536 ∧
      (∀ a, 0x100000 ≤ a → a < 0x110000 → a ≠ (CMP_FENCE_VALUE.at n).addr → d.get a = s.chip.get a) ∧
      (s.chip.lookahead = 0 ∨ s.chip.mode.moored = true → s.chip.onlyRegs d [(CMP_FENCE_VALUE.at n).addr])) ∧
  (∀ (s : State) (L : Nat) (w : Word), s.runs → L < 8 → s.chip.reach (layF L CMP_L0_DST_POS).addr →
    (L = 7 → s.chip.safeLocked = true →
      exec (.cmpLayerWrite (layF L CMP_L0_DST_POS).addr w) s = .next { s with chip := s.chip.whErr erLock }) ∧
    (L ≠ 7 ∨ s.chip.safeLocked = false →
      ∃ d, exec (.cmpLayerWrite (layF L CMP_L0_DST_POS).addr w) s = .next { s with chip := d } ∧
        (∀ a, 0x100100 ≤ a → a < 0x100500 → d.getEff a = s.chip.getEff a) ∧ d.stores = s.chip.stores ∧ d.seat = s.chip.seat ∧
        d.rd (layF L CMP_L0_DST_POS_X) = CMP_L0_DST_POS_X.get w ∧
        d.rd (layF L CMP_L0_DST_POS_Y) = CMP_L0_DST_POS_Y.get w ∧
        (s.chip.lookahead = 0 → s.chip.cmp.ahead.getD L none = none →
          s.chip.onlyRegs d [(layF L CMP_L0_DST_POS).addr]))) ∧
  (∀ (s : State) (w : Word), s.runs → s.chip.reach 0x100180 → s.chip.share = 2 → CMP_L0_CTL_EN.get w = 1 →
    CMP_L0_CTL_BYPASS.get w = 0 →
    ∃ d, exec (.cmpLayerWrite 0x100180 w) s = .next { s with chip := d } ∧ s.chip.onlyRegs d [CMP_ERR.addr] ∧
      d.rd CMP_ERR_CODE = 1 ∧ d.rd CMP_ERR_ERR = 1) ∧
  (∀ (s : State) (L i : Nat) (w : Word), s.runs → L < 8 → i < 1024 → s.chip.reach (0x140000 + 0x1000 * L + 4 * i) →
    ∃ d, exec (.tableRamWrite (0x140000 + 0x1000 * L + 4 * i) w) s = .next { s with chip := d } ∧
      s.chip.onlyRegs d [0x140000 + 0x1000 * L + 4 * i] ∧
      (d.get (0x140000 + 0x1000 * L + 4 * i)).toNat % 65536 = w.toNat % 65536)

/-- Composition, checks, flattening and the mover (R512, R529-R546, R552). -/
def Obligations.ComposeAndMove : Prop :=
  (∀ (s : State) (room : Bool), s.runs →
    (∀ so, 2 ≤ so ∨ s.chip.soState so ≠ 1 ∨ (s.chip.timing so).vact ≤ (s.chip.so so).next ∨ s.chip.soSource so = 2 →
      exec (.composeLineStart so room) s = .next s) ∧
    (s.chip.soState 0 = 1 → s.chip.soA.next < (s.chip.timing 0).vact → s.chip.soSource 0 ≠ 2 →
      ∃ d px, exec (.composeLineStart 0 room) s = .next { s with chip := d } ∧ d.flash = s.chip.flash ∧
        d.seat = s.chip.seat ∧ d.soA.lines = s.chip.soA.lines ++ [px] ∧ d.soA.next = s.chip.soA.next + 1 ∧
        px.length = (s.chip.timing 0).hact ∧
        (s.chip.soSource 0 = 0 →
          ∀ p, p ∈ px → p.1 < 2 ^ s.chip.outDepth ∧ p.2.1 < 2 ^ s.chip.outDepth ∧ p.2.2 < 2 ^ s.chip.outDepth) ∧
        (s.chip.soSource 0 = 0 → s.chip.cmp.running = false ∨ s.chip.canvasH ≤ s.chip.soA.next →
          px = List.replicate (s.chip.timing 0).hact (s.chip.fbColour 0) ∧ d.regs = s.chip.regs))) ∧
  (∀ (s : State) (r : Nat), s.runs →
    (4 ≤ r ∨ s.chip.safeRects ≤ r ∨ s.chip.flag CMP_SAFE_STAT_SHOWN = false ∨ s.chip.cmp.safeDone.testBit r = true →
      exec (.safeRectCheck r) s = .next s) ∧
    (r < 4 → r < s.chip.safeRects → s.chip.flag CMP_SAFE_STAT_SHOWN = true → s.chip.cmp.safeDone.testBit r = false →
      ∃ d, exec (.safeRectCheck r) s = .next { s with chip := d } ∧ d.stores = s.chip.stores ∧ d.seat = s.chip.seat ∧
        d.cmp.safeDone.testBit r = true ∧
        (let q := s.chip.safeRect r
         let gone := s.chip.cmp.abandoned.any fun l => decide (q.2.1 ≤ l) && decide (l < q.2.1 + q.2.2.2.1)
         (gone = true →
            s.chip.sameBut d [CMP_CNT0.addr] ∧ d.rd CMP_CNT0_SIG_SKIP = satAdd 16 (s.chip.rd CMP_CNT0_SIG_SKIP) 1) ∧
          (gone = false → d.rd (CMP_SAFE_SIG_CRC.at r) = s.chip.safeRectCrc r % 2 ^ 32) ∧
          (gone = false → s.chip.safeRectCrc r = q.2.2.2.2 →
            s.chip.sameBut d [(CMP_SAFE_SIG_CRC.at r).addr] ∧ d.cmp.safeOk.testBit r = true) ∧
          (gone = false → s.chip.safeRectCrc r ≠ q.2.2.2.2 →
            d.bit CMP_SAFE_STAT_MISMATCH r = true ∧ (s.chip.pdOn 26 = true → d.lk.asserted.testBit 6 = true) ∧
            d.rd CMP_SAFE_STAT_MISMATCH_CNT = satAdd 16 (s.chip.rd CMP_SAFE_STAT_MISMATCH_CNT) 1)))) ∧
  (∀ s : State, s.runs →
    (s.chip.cmp.flat.pending = false ∨ s.chip.cmp.job ≠ none ∨ s.chip.flag MOV_CTL_FLAT_ACTIVE = true →
      exec .flattenBuildStart s = .next s) ∧
    (s.chip.cmp.flat.pending = true → s.chip.cmp.job = none → s.chip.flag MOV_CTL_FLAT_ACTIVE = false →
      ∃ d, exec .flattenBuildStart s = .next { s with chip := d } ∧
        d = { s.chip with regs := d.regs, eff := d.eff, cmp := { s.chip.cmp with
          flat := { s.chip.cmp.flat with pending := false, dirty := false, built := false } } } ∧
        s.chip.sameBut d (MOV_CTL.addr :: CMP_FLAT_STAT.addr :: clockDoms) ∧ d.rd MOV_CTL_FLAT_ACTIVE = 1 ∧
        d.rd CMP_FLAT_STAT_STATE = 1) ∧
    (s.chip.flag MOV_CTL_FLAT_ACTIVE = false → exec .flattenBuildDone s = .next s) ∧
    (s.chip.flag MOV_CTL_FLAT_ACTIVE = true →
      ∃ d, exec .flattenBuildDone s = .next { s with chip := d } ∧ d.flash = s.chip.flash ∧ d.seat = s.chip.seat ∧
        d.rd MOV_CTL_FLAT_ACTIVE = 0 ∧ d.cmp.flat.built = !s.chip.cmp.flat.dirty ∧
        d.rd CMP_FLAT_STAT_BUILDS = satAdd 16 (s.chip.rd CMP_FLAT_STAT_BUILDS) 1)) ∧
  (∀ (s : State) (i : Instr) (op : Nat), s.runs → (i, op) ∈ [(Instr.movCopy, 0), (.movFill, 1), (.movConvert, 2)] →
    s.chip.reach 0x110000 →
    ∃ d, exec i s = .next { s with chip := d } ∧ d.flash = s.chip.flash ∧ d.seat = s.chip.seat ∧
      d.rd MOV_CTL_OP = op ∧ d.rd MOV_CTL_DONE = 0 ∧
      (let m := s.chip.movArgs op
       let busy := s.chip.flag MOV_CTL_FLAT_ACTIVE || s.chip.cmp.job.isSome
       (busy = true →
          d.rd MOV_CTL_ERR = 1 ∧ d = { s.chip with regs := d.regs } ∧ s.chip.sameBut d [MOV_CTL.addr]) ∧
        (busy = false → op ≠ 1 → m.overlap = true →
          (m.srcStride ≠ m.dstStride ∨ gfxBytes m.srcFmt ≠ gfxBytes m.dstFmt) →
          d.rd MOV_CTL_ERR = 2 ∧ d = { s.chip with regs := d.regs } ∧ s.chip.sameBut d [MOV_CTL.addr]) ∧
        (busy = false → op = 1 ∨ m.overlap = false ∨
            (m.srcStride = m.dstStride ∧ gfxBytes m.srcFmt = gfxBytes m.dstFmt) →
          d.rd MOV_CTL_ERR = 0 ∧ (d.cmp.job.map fun j => j.op) = some op ∧
          d.rd MOV_STAT_ROWS_DESC = b2n (op != 1 && m.overlap && decide (m.src < m.dst))))) ∧
  (∀ s : State, s.runs →
    (s.chip.cmp.job = none → exec .movJobDone s = .next s) ∧
    (∀ j, s.chip.cmp.job = some j →
      ∃ d, exec .movJobDone s = .next { s with chip := d } ∧
        d = { s.chip with regs := d.regs, cmp := { s.chip.cmp with job := none } } ∧
        s.chip.sameBut d [MOV_CTL.addr] ∧ d.rd MOV_CTL_DONE = 1 ∧ d.rd MOV_CTL_ERR = if j.bad then 3 else 0))

/-- Commits of scan-outs (R558-R568). -/
def Obligations.ScanOutCommits : Prop :=
  (∀ (s : State) (so : Nat), s.runs → 2 ≤ so →
    exec (.soCommitGo so) s = .next s ∧ exec (.commitWindowClose so) s = .next s) ∧
  (∀ (s : State) (so : Nat), s.runs → so < 2 → s.chip.reach (0x200004 + so * 0x10000) → s.chip.soState so ≠ 0 →
    (s.chip.flag (soF so SOA_COMMIT_PENDING) = true → exec (.soCommitGo so) s = .next s) ∧
    (s.chip.flag (soF so SOA_COMMIT_PENDING) = false →
      ∃ d, exec (.soCommitGo so) s = .next { s with chip := d } ∧
        d = { s.chip with regs := d.regs, soA := d.soA, soB := d.soB } ∧ d.rd (soF so SOA_COMMIT_PENDING) = 1 ∧
        (let late := (s.chip.so (s.chip.soRef so)).closed && !s.chip.mode.moored
         (d.so so).commitLate = late ∧
         (late = false → s.chip.sameBut d [(soF so SOA_COMMIT).addr]) ∧
         (late = true →
           s.chip.sameBut d [(soF so SOA_COMMIT).addr, (soF so SOA_CNT0).addr] ∧ d.rd (soF so SOA_COMMIT_LATE) = 1 ∧
           d.rd (soF so SOA_CNT0_LATE) = satAdd 16 (s.chip.rd (soF so SOA_CNT0_LATE)) 1)))) ∧
  (∀ s : State, s.runs → s.chip.reach 0x200004 → s.chip.soState 0 = 0 → s.chip.soA.snap = none →
    ∃ d, exec (.soCommitGo 0) s = .next { s with chip := d } ∧ d.stores = s.chip.stores ∧ d.seat = s.chip.seat ∧
      d.rd SOA_COMMIT_PENDING = 0 ∧ d.rd SOA_STAT_ERR = 0 ∧
      (∀ a, a ∈ [SOA_CTL.addr, SOA_HTIM0.addr, CMP_CTL.addr, BPS_CTL.addr] →
        d.getEff a = s.chip.get a) ∧
      d.soState 0 = b2n (s.chip.flag SOA_CTL_EN && s.chip.soMay 0)) ∧
  (∀ (s : State) (so : Nat), s.runs → so < 2 →
    (s.chip.soState so ≠ 1 ∨ s.chip.soRef so ≠ so ∨ (s.chip.so so).closed = true →
      exec (.commitWindowClose so) s = .next s) ∧
    (s.chip.soState so = 1 → s.chip.soRef so = so → (s.chip.so so).closed = false →
      ∃ d, exec (.commitWindowClose so) s = .next { s with chip := d } ∧
        d = { s.chip with regs := d.regs, soA := d.soA, soB := d.soB } ∧ s.chip.sameBut d [(soF so SOA_STAT).addr] ∧
        (d.so so).closed = true ∧ d.rd (soF so SOA_STAT_IN_VBLANK) = 0 ∧
        d.rd (soF so SOA_STAT_LINE) = (s.chip.timing so).vact - s.chip.closeLines so ∧
        (d.so so).snap = if s.chip.flag (soF so SOA_COMMIT_PENDING) = true ∧ (s.chip.so so).commitLate = false
          then some s.chip.regs else (s.chip.so so).snap)) ∧
  (∀ (s : State) (ticks : Nat), s.runs → s.chip.soState 0 ≠ 0 → s.chip.mode.moorPhase = .none →
    s.chip.mode.moored = false → s.chip.wh.mfstState ≠ .staged → s.chip.wh.mfstState ≠ .applying →
    s.chip.brg.luts = [] → s.chip.flag SOA_COMMIT_PENDING = true → s.chip.soA.snap = none →
    ∃ d, exec (.frameBoundary 0 ticks) s = .next { s with chip := d } ∧ d.seat = s.chip.seat ∧
      d.flash = s.chip.flash ∧
      (s.chip.soA.commitLate = true → d.rd SOA_COMMIT_PENDING = 1 ∧ d.soA.commitLate = false ∧
        d.getEff SOA_CTL.addr = s.chip.getEff SOA_CTL.addr) ∧
      (s.chip.soA.commitLate = false → d.rd SOA_COMMIT_PENDING = 0 ∧
        (∀ a, a ∈ [SOA_CTL.addr, SOA_HTIM0.addr, CMP_CTL.addr, BPS_CTL.addr] →
          d.getEff a = s.chip.get a) ∧
        (s.chip.flag SOA_CTL_EN = false → d.soState 0 = 0)))

/-- Substitution, CRC, snapshot, urgency (R569-R580). -/
def Obligations.ScanOutLines : Prop :=
  (∀ (s : State) (so l x : Nat), s.runs →
    (2 ≤ so ∨ s.chip.soState so ≠ 1 ∨ s.chip.soSource so = 2 ∨ (s.chip.timing so).vact ≤ l ∨
        (s.chip.timing so).hact ≤ x ∨ (s.chip.so so).subst.any (fun k => k.1 == l) = true →
      exec (.lineSubstitute so l x) s = .next s) ∧
    (so < 2 → s.chip.soState so = 1 → s.chip.soSource so ≠ 2 → l < (s.chip.timing so).vact →
      x < (s.chip.timing so).hact → (s.chip.so so).subst.any (fun k => k.1 == l) = false →
      ∃ d, exec (.lineSubstitute so l x) s = .next { s with chip := d } ∧
        d = { s.chip with regs := d.regs, soA := d.soA, soB := d.soB, cmp := d.cmp } ∧
        s.chip.sameBut d [(soF so SOA_CNT0).addr, (soF so SOA_SUB_FIRST).addr, (soF so SOA_STAT).addr, CMP_CNT0.addr] ∧
        d.rd (soF so SOA_CNT0_SUBSTITUTE) = satAdd 16 (s.chip.rd (soF so SOA_CNT0_SUBSTITUTE)) 1 ∧
        d.rd (soF so SOA_STAT_LINE) = l ∧ (d.so so).subst = (s.chip.so so).subst ++ [(l, x)] ∧
        (d.so so).lines.getD l [] =
          (if l < (s.chip.so so).lines.length then
            let px := (s.chip.so so).lines.getD l []
            px.take x ++ List.replicate (px.length - x) (s.chip.fbColour so)
          else List.replicate (s.chip.timing so).hact (s.chip.fbColour so)) ∧
        (s.chip.flag (soF so SOA_SUB_FIRST_VALID) = true →
          d.get (soF so SOA_SUB_FIRST).addr = s.chip.get (soF so SOA_SUB_FIRST).addr) ∧
        (s.chip.flag (soF so SOA_SUB_FIRST_VALID) = false →
          d.rd (soF so SOA_SUB_FIRST_VALID) = 1 ∧ d.rd (soF so SOA_SUB_FIRST_LINE) = l ∧
          d.rd (soF so SOA_SUB_FIRST_FRAME) = s.chip.rd (soF so SOA_FRAME_FRAME) % 65536))) ∧
  (∀ (s : State) (so r : Nat), s.runs →
    (2 ≤ so ∨ 8 ≤ r ∨ s.chip.soState so = 0 ∨ (s.chip.so so).crcDone.testBit r = true ∨ s.chip.crcRect so r = none →
      exec (.soCrcCheck so r) s = .next s) ∧
    (∀ q, so < 2 → r < 8 → s.chip.soState so ≠ 0 → (s.chip.so so).crcDone.testBit r = false →
      s.chip.crcRect so r = some q →
      ∃ d, exec (.soCrcCheck so r) s = .next { s with chip := d } ∧ d.stores = s.chip.stores ∧ d.seat = s.chip.seat ∧
        (d.so so).crcDone.testBit r = true ∧
        ((s.chip.so so).substIn q = true →
          s.chip.sameBut d [(soF so SOA_CRC_STAT).addr, (soF so SOA_CNT1).addr] ∧
          d.bit (soF so SOA_CRC_STAT_SKIPPED) r = true ∧
          d.rd (soF so SOA_CNT1_CRC_SKIP) = satAdd 16 (s.chip.rd (soF so SOA_CNT1_CRC_SKIP)) 1) ∧
        ((s.chip.so so).substIn q = false →
          d.rd ((soF so SOA_CRC_RESULT_CRC).at r) = s.chip.rectCrc so q % 2 ^ 32 ∧
          d.bit (soF so SOA_CRC_STAT_COMPARED) r = true ∧
          (s.chip.rectCrc so q ≠ s.chip.ef ((soF so SOA_CRC_EXPECT_CRC).at r) →
            d.bit (soF so SOA_CRC_STAT_MISMATCH) r = true ∧
            d.rd (soF so SOA_CNT1_CRC_MISMATCH) = satAdd 16 (s.chip.rd (soF so SOA_CNT1_CRC_MISMATCH)) 1 ∧
            ((s.chip.rd (soF so SOA_CRC_CTL_LKK)).testBit r = true → s.chip.pdOn (37 + so) = true →
              d.lk.asserted.testBit 7 = true))))) ∧
  (∀ (s : State) (so : Nat), s.runs → so < 2 → s.chip.reach (0x200060 + so * 0x10000) →
    ∃ d, exec (.soSnap so) s = .next { s with chip := d } ∧
      s.chip.onlyRegs d ([(soF so SOA_SNAP_FRAME).addr, (soF so SOA_SNAP_TS_LO).addr, (soF so SOA_SNAP_TS_HI).addr] ++
        if so = 0 then (List.range 4).flatMap fun g => [(SOA_GRP_TS_LO_LO.at g).addr, (SOA_GRP_TS_HI_HI.at g).addr]
        else []) ∧
      d.rd (soF so SOA_SNAP_FRAME_FRAME) = (s.chip.so so).stampFrame % 2 ^ 32 ∧
      d.rd (soF so SOA_SNAP_TS_LO_LO) = (s.chip.so so).stamp % 2 ^ 32 ∧
      d.rd (soF so SOA_SNAP_TS_HI_HI) = (s.chip.so so).stamp / 2 ^ 32 % 65536) ∧
  (∀ (s : State) (so tol : Nat), s.runs →
    (2 ≤ so ∨ s.chip.soState so ≠ 1 ∨ s.chip.soSource so = 2 → exec (.basinUrgency so tol) s = .next s) ∧
    (so < 2 → s.chip.soState so = 1 → s.chip.soSource so ≠ 2 →
      ∃ d, exec (.basinUrgency so tol) s = .next { s with chip := d } ∧
        d.stores = s.chip.stores ∧ d.seat = s.chip.seat ∧ d.mcx.tol = s.chip.mcx.tol.set so (min tol 0xFFFE) ∧
        ((∀ ch, ch < 2 → s.chip.mcState ch ≠ mcShallow) →
          d = { s.chip with regs := d.regs, mcx := { s.chip.mcx with tol := d.mcx.tol } } ∧
          s.chip.sameBut d [(soF so SOA_TOL).addr, (soF so SOA_STAT).addr, (soF so SOA_CNT2).addr]) ∧
        d.rd (soF so SOA_TOL_TOL) = min tol 0xFFFE ∧
        (let u := max 1 (s.chip.ef (soF so SOA_URG_CFG_URG_US))
         d.flag (soF so SOA_STAT_URGENT) =
           (if min tol 0xFFFE < u then true else if 2 * u ≤ min tol 0xFFFE then false
            else s.chip.flag (soF so SOA_STAT_URGENT)) ∧
         d.rd (soF so SOA_CNT2_URG_ENTRIES) = satAdd 16 (s.chip.rd (soF so SOA_CNT2_URG_ENTRIES))
           (if min tol 0xFFFE < u ∧ s.chip.flag (soF so SOA_STAT_URGENT) = false then 1 else 0))))

/-- The bit-plane sequencer (R594-R622). -/
def Obligations.BitPlanes : Prop :=
  (∀ (s : State) (b ch : Nat) (on : Bool) (i : Instr), s.runs → s.chip.bpsRuns = false →
    i ∈ [Instr.bpsFrameWritten, .bpsDisplayStart, .bpsPlaneStart, .bpsResetStrobe b, .mifBlockLoadDone, .actPosChange,
      .lightCommandEdge ch on] →
    exec i s = .next s) ∧
  (∀ s : State, s.runs → s.chip.bpsRuns = true →
    (s.chip.mode.moored = true → exec .bpsFrameWritten s = .next s) ∧
    (s.chip.mode.moored = false →
      ∃ d buf, exec .bpsFrameWritten s = .next { s with chip := d } ∧ d.flash = s.chip.flash ∧ d.seat = s.chip.seat ∧
        d.bps = { s.chip.bps with
          bufs := s.chip.bps.bufs.set s.chip.bps.nextBuf (some buf)
          latest := some s.chip.bps.nextBuf, nextBuf := 1 - s.chip.bps.nextBuf } ∧
        buf.pos = s.chip.bpsP ∧ buf.depth = s.chip.outDepth) ∧
    (s.chip.bps.ready = false → exec .bpsDisplayStart s = .next s) ∧
    (s.chip.bps.ready = true →
      ∃ d, exec .bpsDisplayStart s = .next { s with chip := d } ∧
        d = { s.chip with regs := d.regs, bps := d.bps } ∧ s.chip.sameBut d [BPS_CNT0.addr, BPS_STAT.addr] ∧
        d.bps.shown = s.chip.bps.alloc ∧ d.bps.disp = s.chip.bps.disp + 1 ∧ d.bps.ready = false ∧ d.bps.next = 0 ∧
        d.bps.cur = none ∧ d.bps.chans = List.replicate 6 false ∧ d.bps.act = 0 ∧
        (∀ u, s.chip.bps.alloc.buf = some u → d.rd BPS_STAT_BUF = u % 2) ∧
        d.rd BPS_CNT0_FRAME_CUT = satAdd 16 (s.chip.rd BPS_CNT0_FRAME_CUT)
          (if s.chip.bps.cur ≠ none ∨ s.chip.bps.next < s.chip.bps.shown.planes.length then 1 else 0)) ∧
    (s.chip.bps.shown.planes[s.chip.bps.next]? = none →
      exec .bpsPlaneStart s = .next { s with chip := { s.chip with
        bps := { s.chip.bps with chans := List.replicate 6 false, cur := none } } }) ∧
    (∀ p, s.chip.bps.shown.planes[s.chip.bps.next]? = some p →
      ∃ d, exec .bpsPlaneStart s = .next { s with chip := d } ∧ d = { s.chip with regs := d.regs, bps := d.bps } ∧
        s.chip.sameBut d [BPS_STAT.addr] ∧ d.bps.cur = some s.chip.bps.next ∧ d.bps.next = s.chip.bps.next + 1 ∧
        d.bps.strobed = (if p.entry < 64 then 0 else 16) ∧ d.rd BPS_STAT_SUB = p.sub % 4 ∧ d.bps.shown = s.chip.bps.shown)) ∧
  (∀ (s : State) (b i : Nat) (p : Plane), s.runs → s.chip.bpsRuns = true → s.chip.bps.cur = some i →
    s.chip.bps.shown.planes[i]? = some p → b < 16 → s.chip.bps.strobed ≤ b → p.entry < 64 →
    (s.chip.bps.loaded.getD b none = some (s.chip.bps.disp, i) →
      exec (.bpsResetStrobe b) s = .next { s with chip := { s.chip with bps := { s.chip.bps with
        strobed := b + 1, mirrors := s.chip.bps.mirrors.set b (some (s.chip.bps.disp, i)) } } }) ∧
    (s.chip.bps.loaded.getD b none ≠ some (s.chip.bps.disp, i) →
      ∃ d, exec (.bpsResetStrobe b) s = .next { s with chip := d } ∧
        d = { s.chip with regs := d.regs, bps := d.bps } ∧ s.chip.sameBut d [BPS_CNT0.addr, BPS_LATE_FIRST.addr] ∧
        d.bps.strobed = b + 1 ∧ d.bps.mirrors = s.chip.bps.mirrors ∧
        d.bps.loadBlock = (if s.chip.bps.load = some (s.chip.bps.disp, i) then max s.chip.bps.loadBlock (b + 1)
          else s.chip.bps.loadBlock) ∧
        d.rd BPS_CNT0_PLANE_LATE = satAdd 16 (s.chip.rd BPS_CNT0_PLANE_LATE) 1 ∧
        (s.chip.flag BPS_LATE_FIRST_VALID = true → d.get BPS_LATE_FIRST.addr = s.chip.get BPS_LATE_FIRST.addr) ∧
        (s.chip.flag BPS_LATE_FIRST_VALID = false →
          d.rd BPS_LATE_FIRST_VALID = 1 ∧ d.rd BPS_LATE_FIRST_BLOCK = b ∧ d.rd BPS_LATE_FIRST_ENTRY = p.entry))) ∧
  (∀ (s : State) (k : Nat × Nat) (b u : Nat) (p : Plane), s.runs → s.chip.bpsRuns = true → s.chip.pdOn 42 = true →
    s.chip.bps.target = (some k, b) → s.chip.bps.planeOf k = some p → s.chip.bps.bufOf k = some u →
    (s.chip.bps.cur = none ∨ b < s.chip.bps.strobed ∨ (s.chip.bps.cur = some k.2 ∧ k.1 = s.chip.bps.disp) →
      ∃ d, exec .mifBlockLoadDone s = .next { s with chip := d } ∧ d.stores = s.chip.stores ∧ d.seat = s.chip.seat ∧
        d.bps.loaded = s.chip.bps.loaded.set b (some k) ∧ d.bps.load = some k ∧ d.bps.loadBlock = b + 1 ∧
        d.bps.tag = (if s.chip.bps.load = some k ∧ 0 < b ∧ s.chip.bps.loaded.contains (some k) = true then s.chip.bps.tag
          else (s.chip.bps.tag + 1) % 256) ∧
        d.bps.mirrors = s.chip.bps.mirrors) ∧
    (s.chip.bps.cur ≠ none → s.chip.bps.cur ≠ some k.2 ∨ k.1 ≠ s.chip.bps.disp → s.chip.bps.strobed ≤ b →
      exec .mifBlockLoadDone s = .next s)) ∧
  (∀ s : State, s.runs → s.chip.bpsRuns = true →
    (s.chip.bps.shown.pos ≤ 1 → exec .actPosChange s = .next s) ∧
    (s.chip.bps.shown.pos = 2 ∨ s.chip.bps.shown.pos = 4 → s.chip.bps.nextSub < s.chip.bps.shown.pos →
      exec .actPosChange s = .next { s with chip := { s.chip with bps := { s.chip.bps with
        act := (if s.chip.bps.shown.pos = 2 then [0, 1] else [0, 1, 3, 2]).getD s.chip.bps.nextSub 0
        nextSub := (s.chip.bps.nextSub + 1) % s.chip.bps.shown.pos } } })) ∧
  (∀ (s : State) (ch : Nat) (on : Bool), s.runs → s.chip.bpsRuns = true → ch < 6 →
    (on = true → s.chip.lights ch = false → exec (.lightCommandEdge ch on) s = .next s) ∧
    (on = false ∨ s.chip.lights ch = true →
      ∃ d, exec (.lightCommandEdge ch on) s = .next { s with chip := d } ∧ d.stores = s.chip.stores ∧
        d.seat = s.chip.seat ∧ d.bps = { s.chip.bps with chans := s.chip.bps.chans.set ch on })) ∧
  (∀ (s : State) (w : Word), s.runs → s.chip.reach 0x240404 →
    (let m : Stuck := ⟨BPS_MAP_ADD_X.get w, BPS_MAP_ADD_Y.get w, BPS_MAP_ADD_STATE.get w == 1⟩
     let known := s.chip.bps.stuck.any fun a => a.x == m.x && a.y == m.y
     (256 ≤ s.chip.bps.stuck.length → known = false →
        exec (.stuckMapAdd w) s = .next { s with chip := s.chip.bump BPS_CNT2_MAP_FULL 1 }) ∧
      (s.chip.bps.stuck.length < 256 ∨ known = true →
        ∃ d, exec (.stuckMapAdd w) s = .next { s with chip := d } ∧ d.stores = s.chip.stores ∧ d.seat = s.chip.seat ∧
          m ∈ d.bps.stuck ∧ (∀ a, a ∈ s.chip.bps.stuck → ¬(a.x = m.x ∧ a.y = m.y) → a ∈ d.bps.stuck) ∧
          (known = false → d.bps.stuck.length = s.chip.bps.stuck.length + 1) ∧
          d.rd BPS_MAP_CTL_COUNT = d.bps.stuck.length % 512))) ∧
  (∀ s : State, s.runs → s.chip.reach 0x240400 →
    ∃ d, exec .stuckMapClear s = .next { s with chip := d } ∧
      d = { s.chip with regs := d.regs, bps := { s.chip.bps with stuck := [] } } ∧
      s.chip.sameBut d [BPS_MAP_CTL.addr] ∧ d.rd BPS_MAP_CTL_COUNT = 0)

/-- The beam-scan engine (R628-R650). -/
def Obligations.BeamScan : Prop :=
  (∀ (s : State) (t : Nat), s.runs → s.chip.variantS = false ∨ s.chip.pdOn 43 = false →
    exec (.mfbEdge t) s = .next s ∧ exec (.mfbEdgeMissing t) s = .next s) ∧
  (∀ (s : State) (t : Nat), s.runs → s.chip.variantS = true → s.chip.pdOn 43 = true →
    (let b := s.chip.bscTicks t
     let n := s.chip.bsc.since + t
     let e := b.bscError
     (s.chip.lstate = 0 ∨ 4 ≤ s.chip.lstate → exec (.mfbEdge t) s = .next { s with chip := b }) ∧
     (s.chip.lstate = 1 → s.chip.bsc.gotEdge = false →
       exec (.mfbEdge t) s = .next { s with chip := { b with bsc := { b.bsc with since := 0, gotEdge := true } } }) ∧
     (s.chip.lstate = 1 → s.chip.bsc.gotEdge = true → s.chip.bsc.intervals.length = 7 →
       (s.chip.bsc.intervals ++ [n]).all s.chip.periodOk = true →
       ∃ d, exec (.mfbEdge t) s = .next { s with chip := d } ∧ s.chip.sameBut d [BSC_PERIOD.addr, BSC_STAT.addr] ∧
         d.lstate = 2 ∧ d.bsc.inc = d.bsc.incNom ∧ d.bsc.acc = s.chip.phRef ∧
         d.bsc.incNom = (roundDiv 0 ((2 : Int) ^ 51) ((s.chip.bsc.intervals ++ [n]).foldl (· + ·) 0)).toNat) ∧
     (s.chip.lstate = 2 ∨ s.chip.lstate = 3 →
       (b.missWin < e.natAbs → exec (.mfbEdge t) s = .next { s with chip := b.bump BSC_CNT3_MFB_STRAY 1 }) ∧
       ((e.natAbs : Int) ≤ b.missWin →
         ∃ d, exec (.mfbEdge t) s = .next { s with chip := d } ∧ d.stores = s.chip.stores ∧ d.seat = s.chip.seat ∧
           d.rd BSC_PERIOD_P = min n 0xFFFF ∧ d.bsc.since = 0 ∧
           (s.chip.lstate = 2 → s.chip.periodOk n = false →
             d.lstate = 1 ∧ d.rd BSC_CNT4_ACQ_RESTART = satAdd 16 (s.chip.rd BSC_CNT4_ACQ_RESTART) 1) ∧
           (s.chip.lstate = 2 → s.chip.periodOk n = true → s.chip.bsc.good = 15 →
             (e.natAbs : Int) ≤ s.chip.rd BSC_LOCK_THR_LOCK_THR * 2 ^ 24 →
             d.lstate = 3 ∧ d.lk.asserted.testBit 9 = false) ∧
           (s.chip.lstate = 3 → s.chip.periodOk n = false ∨
               (1 ≤ s.chip.bsc.bad ∧ (s.chip.rd BSC_LOCK_THR_UNLOCK_THR : Int) * 2 ^ 24 < e.natAbs) →
             d.lstate = 4 ∧ d.rd BSC_CNT3_LOCK_LOSS = satAdd 16 (s.chip.rd BSC_CNT3_LOCK_LOSS) 1 ∧
             d.bsc.lasers = [0, 0, 0] ∧ d.lk.asserted.testBit 9 = true ∧ d.wh.evt.getLsbD evLight = true))))) ∧
  (∀ (s : State) (t : Nat), s.runs → s.chip.variantS = true → s.chip.pdOn 43 = true →
    (s.chip.lstate ≠ 2 → s.chip.lstate ≠ 3 →
      exec (.mfbEdgeMissing t) s = .next { s with chip := s.chip.bscTicks t }) ∧
    (s.chip.lstate = 2 ∨ s.chip.lstate = 3 →
      ∃ d, exec (.mfbEdgeMissing t) s = .next { s with chip := d } ∧ d.stores = s.chip.stores ∧ d.seat = s.chip.seat ∧
        (s.chip.lstate = 2 →
          d.lstate = 1 ∧ d.rd BSC_CNT4_ACQ_RESTART = satAdd 16 (s.chip.rd BSC_CNT4_ACQ_RESTART) 1 ∧
          s.chip.sameBut d [BSC_STAT.addr, BSC_CNT4.addr]) ∧
        (s.chip.lstate = 3 →
          d.lstate = 4 ∧ d.rd BSC_CNT3_LOCK_LOSS = satAdd 16 (s.chip.rd BSC_CNT3_LOCK_LOSS) 1 ∧
          d.bsc.lasers = [0, 0, 0] ∧ d.lk.asserted.testBit 9 = true))) ∧
  (∀ s : State, s.runs →
    (s.chip.lstate ≠ 4 → exec .bscFaultHoldEnd s = .next s) ∧
    (s.chip.lstate = 4 →
      ∃ d, exec .bscFaultHoldEnd s = .next { s with chip := d } ∧ d = { s.chip with regs := d.regs, bsc := d.bsc } ∧
        s.chip.sameBut d [BSC_STAT.addr] ∧ d.lstate = 1 ∧ d.bsc.intervals = [] ∧ d.bsc.gotEdge = false) ∧
    (s.chip.lstate = 0 ∨ s.chip.pdOn 44 = false → exec .bscControlRecord s = .next s) ∧
    (s.chip.lstate ≠ 0 → s.chip.pdOn 44 = true →
      ∃ d, exec .bscControlRecord s = .next { s with chip := d } ∧ d.stores = s.chip.stores ∧ d.seat = s.chip.seat ∧
        d.bsc.record % 256 = crc8Bits 28 (d.bsc.record / 256) ∧
        d.bsc.words = [ldxWord true (d.bsc.record / 2 ^ 24), ldxWord true (d.bsc.record / 2 ^ 12),
          ldxWord true d.bsc.record]) ∧
    (s.chip.lstate ≠ 3 ∨ s.chip.bsc.back = true ∨ s.chip.bsc.step ≠ 0 → exec .bscDisplayStart s = .next s) ∧
    (s.chip.lstate = 3 → s.chip.bsc.back = false → s.chip.bsc.step = 0 →
      (s.chip.bsc.draw ≠ .idle →
        exec .bscDisplayStart s = .next { s with chip := s.chip.bump BSC_CNT2_START_MISS 1 }) ∧
      (s.chip.bsc.draw = .idle → s.chip.bsc.latest = none → exec .bscDisplayStart s = .next s) ∧
      (∀ u, s.chip.bsc.draw = .idle → s.chip.bsc.latest = some u →
        ∃ d, exec .bscDisplayStart s = .next { s with chip := d } ∧
          s.chip.sameBut d [BSC_STAT.addr] ∧ d = { s.chip with regs := d.regs, bsc := { s.chip.bsc with
            draw := .lines, line := 0, held := some u, drawn := true, first := true } } ∧
          d.rd BSC_STAT_DRAWING = 1 ∧ d.rd BSC_STAT_LINE = 0 ∧ d.rd BSC_STAT_BUF = u % 4))) ∧
  (∀ (s : State) (t : Nat) (late : Bool), s.runs →
    (s.chip.lstate = 0 → exec (.bscSweepStart t) s = .next { s with chip := s.chip.bscTicks t }) ∧
    (s.chip.lstate ≠ 0 →
      ∃ d, exec (.bscSweepStart t) s = .next { s with chip := d } ∧ d = { s.chip with regs := d.regs, bsc := d.bsc } ∧
        s.chip.sameBut d [BSC_STAT.addr] ∧ d.bsc.acc = (s.chip.bsc.acc + t * s.chip.bsc.inc) % 2 ^ 48 ∧
        d.bsc.step = 0 ∧ d.rd BSC_STAT_DIR = b2n d.bsc.back ∧ d.lstate = s.chip.lstate) ∧
    (s.chip.lstate ≠ 3 ∨ s.chip.bsc.drawn = false ∨ (s.chip.timing 0).hact < s.chip.bsc.step →
      exec (.bscPixelBoundary t late) s = .next { s with chip := s.chip.bscTicks t }) ∧
    (∃ d, exec (.bscPixelBoundary t late) s = .next { s with chip := d } ∧ d.stores = s.chip.stores ∧
      d.seat = s.chip.seat ∧
      (d.bsc.lasers = s.chip.bsc.lasers ∨
        ∀ ch, ch < 3 → d.bsc.lasers.getD ch 0 ≤ s.chip.rd (BSC_MAXV_MAXV.at ch)))) ∧
  (∀ (s : State) (drops : List Nat), s.runs →
    (s.chip.bscWanted = false ∨ s.chip.bscGeom = false → exec (.bscFrameWritten drops) s = .next s) ∧
    (s.chip.bscWanted = true → s.chip.bscGeom = true → s.chip.dest 0 = .beam →
      ∃ d, exec (.bscFrameWritten drops) s = .next { s with chip := d } ∧ d.flash = s.chip.flash ∧
        d.seat = s.chip.seat ∧ d.bsc.frameK = s.chip.bsc.frameK + 1 ∧
        (let u := s.chip.bsc.frameK % s.chip.bscNbuf
         (s.chip.bsc.held = some u →
            d.dram = s.chip.dram ∧ s.chip.sameBut d [BSC_CNT2.addr] ∧ d.bsc.latest = s.chip.bsc.latest ∧
            d.rd BSC_CNT2_WR_SKIP = satAdd 16 (s.chip.rd BSC_CNT2_WR_SKIP) 1) ∧
          (s.chip.bsc.held ≠ some u → d.bsc.latest = some u ∧ d.rd BSC_STAT_LATEST = u))))

/-- Light drive (R657-R687). -/
def Obligations.LightDrive : Prop :=
  (∀ s : State, s.runs →
    (s.chip.pdOn 45 = false → exec .ltdCommit s = .next s) ∧
    (s.chip.pdOn 45 = false ∨ s.chip.flag PWR_PINMUX_SHF_SEL = false → exec .shfFault s = .next s) ∧
    (s.chip.pdOn 45 = true →
      (∃ d, exec .ltdCommit s = .next { s with chip := d } ∧ d.stores = s.chip.stores ∧ d.seat = s.chip.seat ∧
        (∀ a, 0x280000 ≤ a → a < 0x2A0000 → d.getEff a = s.chip.get a) ∧
        (s.chip.eflag LTD_CTL_EN = false → s.chip.flag LTD_CTL_EN = true →
          d.ltd.testing = true ∧ d.killLow = true)) ∧
      (s.chip.flag PWR_PINMUX_SHF_SEL = true →
        ∃ d, exec .shfFault s = .next { s with chip := d } ∧ d.stores = s.chip.stores ∧ d.seat = s.chip.seat ∧
          d.rd LTD_STAT_SHF = 1 ∧ d.wh.evt.getLsbD evLight = true ∧ d.lk.asserted.testBit 8 = true ∧
          d.pins = { s.chip.pins with u12 := false } ∧ ∀ k, d.strEn k = false)) ∧
    (s.chip.ltd.testing = false → ∀ p, exec (.pinSelftestDone p) s = .next s) ∧
    (s.chip.ltd.testing = true →
      (∃ d, exec (.pinSelftestDone none) s = .next { s with chip := d } ∧
        d = { s.chip with regs := d.regs, ltd := { s.chip.ltd with testing := false }
                          lk := { s.chip.lk with testDark := false } } ∧
        s.chip.sameBut d [LTD_PIN_STAT.addr] ∧ d.rd LTD_PIN_STAT_SHORT = 0) ∧
      ∀ a b, ∃ d, exec (.pinSelftestDone (some (a, b))) s = .next { s with chip := d } ∧ d.stores = s.chip.stores ∧
        d.seat = s.chip.seat ∧ d.ltd.testing = false ∧ d.lk.testDark = false ∧ d.rd LTD_PIN_STAT_SHORT = 1 ∧
        d.rd LTD_PIN_STAT_PIN_A = a % 32 ∧ d.rd LTD_PIN_STAT_PIN_B = b % 32 ∧ d.wh.evt.getLsbD evLight = true)) ∧
  (∀ (s : State) (slot code : Nat), s.runs →
    (16 ≤ slot ∨ s.chip.pdOn 47 = false ∨ s.chip.pdOn 45 = false → exec (.adcSample slot code) s = .next s) ∧
    (0 < slot → slot < 16 → s.chip.pdOn 47 = true → s.chip.pdOn 45 = true →
      ((s.chip.adcSlot slot).2 = false → exec (.adcSample slot code) s = .next s) ∧
      ((s.chip.adcSlot slot).2 = true →
        ∃ d, exec (.adcSample slot code) s = .next { s with chip := d } ∧ d.stores = s.chip.stores ∧
          d.seat = s.chip.seat ∧
          (let i := (s.chip.adcSlot slot).1
           d.rd (LTD_SNS_LAST_LAST.at i) = code % 4096 ∧
           (s.chip.ef (LTD_SNS_CFG_ROLE.at i) = 4 →
             s.chip.sameBut d [(LTD_SNS_LAST.at i).addr, LTD_CNT1.addr] ∧
             d.rd LTD_CNT1_NODE_FAULT = satAdd 16 (s.chip.rd LTD_CNT1_NODE_FAULT)
               (if code % 4096 < s.chip.ef (LTD_SNS_WIN_LO.at i) ∨ s.chip.ef (LTD_SNS_WIN_HI.at i) < code % 4096
                then 1 else 0)))))) ∧
  (∀ (s : State) (high : Bool), s.runs → s.chip.reach 0x280008 →
    ∃ d, exec (.ltdFaultClear high) s = .next { s with chip := d } ∧
      d = { s.chip with regs := d.regs, ltd := { s.chip.ltd with restore := true }, pins := d.pins } ∧
      s.chip.sameBut d [LTD_STAT.addr] ∧ d.pins = { s.chip.pins with u12 := d.pins.u12 } ∧
      d.rd LTD_STAT_SHF = if high || !s.chip.flag PWR_PINMUX_SHF_SEL then 0 else s.chip.rd LTD_STAT_SHF) ∧
  (∀ (c : Chip) (k : Nat),
    (c.ltdDark = true ∨ c.ltd.strOff.getD k false = true ∨ c.flag LTD_STAT_SHF = true → ∀ j t, c.strSetPin k j t = false) ∧
    (c.ltdDark = false → c.ltd.strOff.getD k false = false → c.flag LTD_STAT_SHF = false →
      (((List.range 16).map fun j => (List.range 256).countP fun t => c.strSetPin k j t).foldl (· + ·) 0 =
        c.rd (LTD_STR_STAT_SET.at k)))) ∧
  (∀ s : State, s.runs → s.chip.reach 0x280000 →
    ∃ d, exec .loopReset s = .next { s with chip := d } ∧
      d = { s.chip with regs := d.regs, ltd := { s.chip.ltd with integ := [0, 0, 0] } } ∧
      s.chip.sameBut d [LTD_LOOP_I.addr, (LTD_LOOP_I.at 1).addr, (LTD_LOOP_I.at 2).addr] ∧
      ∀ ch, ch < 3 → d.rd (LTD_LOOP_I_I.at ch) = 0) ∧
  (∀ (s : State) (lamp : Nat) (opening : Bool), s.runs →
    (let n := (s.chip.pwmWindow lamp).2
     let full := max 256 (s.chip.ef SHM_CTL_PWM_PER)
     exec (.shuntPwmEdge lamp opening) s =
       if s.chip.mode.mode = .panel ∧ lamp < 16 ∧ (opening = true → 0 < n) ∧ (opening = false → n < full) then
         .next { s with chip := { s.chip with ltd := { s.chip.ltd with windows := s.chip.ltd.windows.set lamp opening } } }
       else .next s))

/-- The chain bus (R692-R707, Table 16.4). -/
def Obligations.TowpathChain : Prop :=
  (∀ (s : State) (i : Instr), s.runs → s.chip.pdOn 48 = true → s.chip.flag TWP_CTL_EN = true →
    s.chip.twpHalted = false →
    (i = .twpPeriodTrigger ∧ s.chip.rd TWP_TRIG_TRIG = 1) ∨
      (∃ w, i = .twpGo w ∧ s.chip.reach 0x2A0008 ∧ TWP_TRIG_GO.get w = 1 ∧ TWP_TRIG_TRIG.get w = s.chip.rd TWP_TRIG_TRIG ∧
        TWP_TRIG_PERIOD.get w = s.chip.rd TWP_TRIG_PERIOD) →
    (let idle := s.chip.twp.kind = .none ∧ s.chip.ring ≠ 3 ∧ s.chip.twp.due = false
     ∃ d, exec i s = .next { s with chip := d } ∧ d = { s.chip with regs := d.regs, twp := d.twp } ∧
       (idle → s.chip.sameBut d [] ∧ d.twp = { s.chip.twp with due := true }) ∧
       (¬idle → d.twp = s.chip.twp ∧
         (s.chip.flag TWP_STAT_PENDING = false → s.chip.sameBut d [TWP_STAT.addr] ∧ d.rd TWP_STAT_PENDING = 1) ∧
         (s.chip.flag TWP_STAT_PENDING = true → s.chip.sameBut d [TWP_CNT0.addr] ∧
           d.rd TWP_CNT0_MERGED = satAdd 16 (s.chip.rd TWP_CNT0_MERGED) 1)))) ∧
  (∀ s : State, s.runs → s.chip.rd TWP_TRIG_TRIG ≠ 1 → exec .twpPeriodTrigger s = .next s) ∧
  (∀ (s : State) (w : Word), s.runs → s.chip.reach 0x2A0008 → TWP_TRIG_GO.get w = 0 →
    ∃ d, exec (.twpGo w) s = .next { s with chip := d } ∧ s.chip.onlyRegs d [TWP_TRIG.addr] ∧
      d.rd TWP_TRIG_TRIG = TWP_TRIG_TRIG.get w ∧ d.rd TWP_TRIG_PERIOD = TWP_TRIG_PERIOD.get w) ∧
  (∀ s : State, s.runs →
    (let go := s.chip.pdOn 48 = true ∧ s.chip.twpHalted = false ∧ s.chip.flag TWP_CTL_EN = true ∧
       s.chip.twp.kind = .none ∧ s.chip.ring ≠ 3 ∧
       (s.chip.twp.due = true ∨ s.chip.twpDark = true)
     (¬go → exec .twpFrameStart s = .next s) ∧
     (go →
       ∃ d l, exec .twpFrameStart s = .next { s with chip := d } ∧
         d = { s.chip with regs := d.regs, eff := d.eff, twp := d.twp } ∧ s.chip.sameBut d [TWP_STAT.addr] ∧
         d.rd TWP_STAT_SEQ = (s.chip.rd TWP_STAT_SEQ + 1) % 256 ∧ d.rd TWP_STAT_BUSY = 1 ∧ d.twp.due = false ∧
         d.twp.kind = (if s.chip.twpDark then .blank else .data) ∧ d.twp.outA = l ++ chainTrailer ∧
         d.getEff TWP_CTL.addr = s.chip.get TWP_CTL.addr))) ∧
  (∀ s : State, s.runs →
    (s.chip.twp.kind = .none ∨ s.chip.twp.listening = true → exec .twpFrameEnd s = .next s) ∧
    (s.chip.twp.kind ≠ .none → s.chip.twp.listening = false →
      ∃ d, exec .twpFrameEnd s = .next { s with chip := d } ∧
        d = { s.chip with regs := d.regs, eff := d.eff, twp := d.twp } ∧ s.chip.sameBut d [TWP_STAT.addr] ∧
        d.ring = s.chip.ring ∧
        (s.chip.twpHalted = true ∨ s.chip.ring ≠ 3 → d.rd TWP_STAT_BUSY = 0 ∧ d.twp.kind = .none ∧ d.eff = s.chip.eff) ∧
        (s.chip.twpHalted = true → d.twp.due = s.chip.twp.due) ∧
        (s.chip.twpHalted = false → s.chip.ring ≠ 3 → d.rd TWP_STAT_PENDING = 0 ∧
          d.twp.due = (s.chip.flag TWP_STAT_PENDING || s.chip.twp.due)) ∧
        (s.chip.twpHalted = false → s.chip.ring = 3 → d.rd TWP_STAT_BUSY = 1 ∧ d.twp.listening = true ∧
          d.twp.kind = (if s.chip.twp.locB then .locateB else .locateA) ∧
          d.getEff TWP_CTL.addr = s.chip.get TWP_CTL.addr ∧
          d.rd TWP_STAT_SEQ = (s.chip.rd TWP_STAT_SEQ + 1) % 256))) ∧
  (∀ (s : State) (highs : List Nat), s.runs →
    (s.chip.twp.await = [] ∨ s.chip.retGpio = true ∨ s.chip.ring = 3 → exec (.twpReturnRun highs) s = .next s) ∧
    (∀ e rest, s.chip.twp.await = e :: rest → s.chip.retGpio = false → s.chip.ring ≠ 3 →
      ∃ d, exec (.twpReturnRun highs) s = .next { s with chip := d } ∧
        d = { s.chip with regs := d.regs, twp := { s.chip.twp with nones := 0, await := rest }
                          wh := { s.chip.wh with evt := d.wh.evt } } ∧
        s.chip.sameBut d [TWP_STAT.addr, TWP_CNT0.addr, TWP_CNT1.addr, TWP_CNT2.addr] ∧
        (let r := decodeRun s.chip.twpCell highs
         d.rd TWP_STAT_LAST_RET = judgeRun e r.1 r.2 ∧
         d.rd TWP_CNT1_CELL_ERR = satAdd 16 (s.chip.rd TWP_CNT1_CELL_ERR) r.2 ∧
         (r.1 = e → r.2 = 0 → d.ring = 0 ∧ d.rd TWP_CNT0_LEN_ERR = s.chip.rd TWP_CNT0_LEN_ERR ∧
           d.rd TWP_CNT2_HEALS = satAdd 16 (s.chip.rd TWP_CNT2_HEALS) (if s.chip.ring = 0 then 0 else 1)) ∧
         (r.1 ≠ e ∨ r.2 ≠ 0 → d.ring = s.chip.ring ∧ d.wh.evt.getLsbD evTwp = true ∧
           d.rd TWP_CNT0_LEN_ERR = satAdd 16 (s.chip.rd TWP_CNT0_LEN_ERR) 1)))) ∧
  (∀ s : State, s.runs →
    (s.chip.twp.await = [] ∨ s.chip.retGpio = true → exec .twpReturnTimeout s = .next s) ∧
    (∀ e rest, s.chip.twp.await = e :: rest → s.chip.retGpio = false →
      ∃ d, exec .twpReturnTimeout s = .next { s with chip := d } ∧ d.stores = s.chip.stores ∧ d.seat = s.chip.seat ∧
        d.rd TWP_STAT_LAST_RET = 1 ∧ d.twp.nones = s.chip.twp.nones + 1 ∧
        (let n := max 1 (s.chip.ef TWP_RING_CFG_BREAK_N)
         let dual := s.chip.eflag TWP_CTL_FRAMED && s.chip.eflag TWP_CTL_DUAL_EN
         (s.chip.ring ≤ 1 → s.chip.twp.nones + 1 < n → d.ring = 1 ∧ d.twp.await = rest) ∧
         (s.chip.ring ≤ 1 → n ≤ s.chip.twp.nones + 1 → dual = false → d.ring = 2 ∧
           d.rd TWP_CNT1_BREAKS = satAdd 16 (s.chip.rd TWP_CNT1_BREAKS) 1 ∧ d.wh.evt.getLsbD evTwp = true) ∧
         (s.chip.ring ≤ 1 → n ≤ s.chip.twp.nones + 1 → dual = true → d.ring = 3 ∧ d.twp.await = [] ∧
           d.twp.due = false) ∧
         (2 ≤ s.chip.ring → d.ring = s.chip.ring ∧ d.twp.await = rest)))) ∧
  (∀ (s : State) (highs : List Nat), s.runs →
    (s.chip.twp.listening = false →
      exec (.twpLocateReply highs) s = .next s ∧ exec .twpLocateListenTimeout s = .next s) ∧
    (s.chip.twp.listening = true →
      (let r := decodeRun s.chip.twpCell highs
       let n := if r.2 = 0 ∧ r.1.length = 16 then ofBits r.1 else 0
       ∀ i m, (i, m) ∈ [(Instr.twpLocateReply highs, n), (.twpLocateListenTimeout, 0)] →
         ∃ d, exec i s = .next { s with chip := d } ∧ d.stores = s.chip.stores ∧ d.seat = s.chip.seat ∧
           (s.chip.twp.kind = .locateA → d.rd TWP_LOC_N_A = m % 65536 ∧ d.ring = s.chip.ring ∧
             d.twp = { s.chip.twp with listening := false, locB := true }) ∧
           (s.chip.twp.kind = .locateB → d.rd TWP_LOC_N_B = m % 65536 ∧ d.ring = 4 ∧ d.twp.listening = false ∧
             d.rd TWP_CNT1_BREAKS = satAdd 16 (s.chip.rd TWP_CNT1_BREAKS) 1 ∧ d.wh.evt.getLsbD evTwp = true))))

/-- Patterns, timer and matrix (R688, R710-R717). -/
def Obligations.TowpathMatrix : Prop :=
  (∀ (s : State) (k : Nat) (w : Word), s.runs →
    (8 ≤ k → exec (.patRun k w) s = .next s ∧ exec (.patRestart k) s = .next s) ∧
    (k < 8 → s.chip.reach (0x2A0100 + 16 * k) →
      (∃ d, exec (.patRun k w) s = .next { s with chip := d } ∧ d.stores = s.chip.stores ∧ d.seat = s.chip.seat ∧
        s.chip.sameBut d ((TWP_PAT_CTL.at k).addr :: clockDoms) ∧
        d.rd (TWP_PAT_CTL_RUN.at k) = TWP_PAT_CTL_RUN.get w ∧ d.rd (TWP_PAT_CTL_FIRST.at k) = TWP_PAT_CTL_FIRST.get w ∧
        d.rd (TWP_PAT_CTL_LAST.at k) = TWP_PAT_CTL_LAST.get w ∧
        (TWP_PAT_CTL_RUN.get w = 0 → (d.pat k).running = false ∧ (d.pat k).start = false) ∧
        (TWP_PAT_CTL_RUN.get w = 1 → s.chip.rd (TWP_PAT_CTL_RUN.at k) = 0 ∨ TWP_PAT_CTL_RESTART.get w = 1 →
          d.twp = (s.chip.onPat k fun p => { p with start := true }).twp)) ∧
      (s.chip.rd (TWP_PAT_CTL_RUN.at k) = 0 → exec (.patRestart k) s = .next s) ∧
      (s.chip.rd (TWP_PAT_CTL_RUN.at k) = 1 →
        ∃ d, exec (.patRestart k) s = .next { s with chip := d } ∧ d.stores = s.chip.stores ∧ d.seat = s.chip.seat ∧
          s.chip.sameBut d clockDoms ∧ d.twp = (s.chip.onPat k fun p => { p with start := true }).twp))) ∧
  (∀ s : State, s.runs →
    (s.chip.pdOn 49 = false ∨ s.chip.twpHalted = true → exec .tmr0Period s = .next s) ∧
    ((∀ k, k < 8 → (s.chip.pat k).running = false ∧ (s.chip.pat k).start = false) → s.chip.twp.mxBusy = false →
      exec .tmr0Period s = .next s) ∧
    (∀ k, s.chip.pdOn 49 = true → s.chip.twpHalted = false → k < 8 → (s.chip.pat k).start = true →
      ∃ d, exec .tmr0Period s = .next { s with chip := d } ∧ d.stores = s.chip.stores ∧ d.seat = s.chip.seat ∧
        (d.pat k).running = true ∧ (d.pat k).start = false ∧ d.rd (TWP_PAT_STAT_STEP.at k) = 0 ∧
        d.rd (TWP_PAT_STAT_DONE.at k) = 0 ∧ d.rd (TWP_PAT_STAT_L.at k) = 0)) ∧
  (∀ (s : State) (w : Word), s.runs → s.chip.reach 0x2A0040 →
    ∃ d, exec (.tmr0Write w) s = .next { s with chip := d } ∧
      if s.chip.mxMode = 1 then s.chip.onlyRegs d [TWP_ERR.addr] ∧ d.rd TWP_ERR_CODE = 2 ∧ d.rd TWP_ERR_ERR = 1
      else s.chip.onlyRegs d [TWP_TMR0.addr] ∧ d.rd TWP_TMR0_PER = TWP_TMR0_PER.get w) ∧
  (∀ (s : State) (w : Word), s.runs →
    (s.chip.reach 0x2A0200 →
      ∃ d, exec (.twpBusSelectWrite true w) s = .next { s with chip := d } ∧ d.stores = s.chip.stores ∧
        d.seat = s.chip.seat ∧
        if (TWP_MX_CTL_MODE.get w = 1 ∨ TWP_MX_CTL_MODE.get w = 2) ∧ s.chip.rd TWP_CTL_DUAL_EN = 1 then
          d.rd TWP_MX_CTL_MODE = s.chip.rd TWP_MX_CTL_MODE ∧ d.rd TWP_ERR_CODE = 1 ∧ d.rd TWP_ERR_ERR = 1
        else
          d.rd TWP_MX_CTL_MODE = TWP_MX_CTL_MODE.get w ∧ s.chip.sameBut d (TWP_MX_CTL.addr :: clockDoms) ∧
          d.rd TWP_MX_CTL_READY = max (TWP_MX_CTL_READY.get w) (s.chip.rd TWP_MX_CTL_READY)) ∧
    (s.chip.reach 0x2A0000 →
      ∃ d, exec (.twpBusSelectWrite false w) s = .next { s with chip := d } ∧ d.stores = s.chip.stores ∧
        d.seat = s.chip.seat ∧ d.rd TWP_CTL_NODES = TWP_CTL_NODES.get w ∧ d.rd TWP_CTL_EN = TWP_CTL_EN.get w ∧
        if TWP_CTL_DUAL_EN.get w = 1 ∧ s.chip.rd TWP_CTL_DUAL_EN = 0 ∧ s.chip.mxMode ≠ 0 then
          d.rd TWP_CTL_DUAL_EN = 0 ∧ d.rd TWP_ERR_CODE = 1 ∧ d.rd TWP_ERR_ERR = 1
        else
          d.rd TWP_CTL_DUAL_EN = TWP_CTL_DUAL_EN.get w ∧ s.chip.sameBut d (TWP_CTL.addr :: clockDoms))) ∧
  (∀ s : State, s.runs →
    (s.chip.rd TWP_MX_CTL_SYNC_SRC ≠ 1 → exec (.mxSync true) s = .next s) ∧
    (s.chip.rd TWP_MX_CTL_SYNC_SRC = 1 → s.chip.pdOn 49 = true → s.chip.twpHalted = false → s.chip.mxMode ≠ 0 →
      (s.chip.twp.mxBusy = false →
        ∃ d, exec (.mxSync true) s = .next { s with chip := d } ∧
          d = { s.chip with regs := d.regs, eff := d.eff, twp := d.twp } ∧ d.twp.mxBusy = true ∧
          (s.chip.flag TWP_MX_CTL_READY = true →
            (∀ j, j < 2048 → d.get (0x2A4000 + 4 * j) = s.chip.get (0x2A6000 + 4 * j) ∧
              d.get (0x2A6000 + 4 * j) = s.chip.get (0x2A4000 + 4 * j)) ∧
            d.rd TWP_MX_CTL_READY = 0 ∧ d.rd TWP_MX_STAT_FRONT = 1 - s.chip.rd TWP_MX_STAT_FRONT) ∧
          (s.chip.flag TWP_MX_CTL_READY = false →
            s.chip.sameBut d [TWP_MX_CNT0.addr, TWP_MX_STAT.addr] ∧
            d.rd TWP_MX_CNT0_NOT_READY = satAdd 16 (s.chip.rd TWP_MX_CNT0_NOT_READY) 1)) ∧
      (s.chip.twp.mxBusy = true → s.chip.mxLine = false → s.chip.twp.mxSync = true →
        exec (.mxSync true) s = .next { s with chip := s.chip.bump TWP_MX_CNT1_SYNC_MERGE 1 }) ∧
      (s.chip.twp.mxBusy = true → s.chip.mxLine = false → s.chip.twp.mxSync = false →
        exec (.mxSync true) s = .next { s with chip := { s.chip with twp := { s.chip.twp with mxSync := true } } }) ∧
      (s.chip.mxLine = true →
        ∃ d, exec (.mxSync true) s = .next { s with chip := d } ∧
          d = { s.chip with regs := d.regs, twp := { s.chip.twp with mxSync := true } } ∧
          d.rd TWP_MX_CNT0_SCAN_CUT = satAdd 16 (s.chip.rd TWP_MX_CNT0_SCAN_CUT) 1)) ∧
    (s.chip.twp.mxRow = none → exec .mxRowOnEnd s = .next s) ∧
    (∀ r, s.chip.twp.mxRow = some r →
      ∃ d, exec .mxRowOnEnd s = .next { s with chip := d } ∧
        d = { s.chip with regs := d.regs, eff := d.eff, twp := d.twp } ∧ s.chip.sameBut d [TWP_MX_STAT.addr] ∧
        d.twp.mxRow = none ∧ d.twp.mxSync = false ∧
        (s.chip.twp.mxSync = false → d.eff = s.chip.eff ∧
          (r + 1 < s.chip.mxRows → d.twp.mxNext = r + 1 ∧ d.rd TWP_MX_STAT_ROW = (r + 1) % 8 ∧
            d.rd TWP_MX_STAT_SCANNING = 1) ∧
          (s.chip.mxRows ≤ r + 1 → d.twp.mxBusy = false ∧ d.rd TWP_MX_STAT_SCANNING = 0)) ∧
        (s.chip.twp.mxSync = true → d.twp.mxBusy = decide (s.chip.mxMode ≠ 0))) ∧
    (s.chip.twp.mxBusy = false ∨ s.chip.mxLine = true → exec .mxZoneFrameEnd s = .next s) ∧
    (s.chip.twp.mxBusy = true → s.chip.mxLine = false → s.chip.twp.mxSync = false →
      ∃ d, exec .mxZoneFrameEnd s = .next { s with chip := d } ∧
        d = { s.chip with regs := d.regs, twp := { s.chip.twp with mxBusy := false } } ∧
        s.chip.sameBut d [TWP_MX_STAT.addr] ∧ d.rd TWP_MX_STAT_SCANNING = 0)) ∧
  (∀ (s : State) (j : Nat) (w : Word), s.runs →
    (2048 ≤ j → exec (.mxZoneBackWrite j w) s = .next s) ∧
    (j < 2048 → s.chip.reach (0x2A4000 + 4 * j) →
      ∃ d, exec (.mxZoneBackWrite j w) s = .next { s with chip := d } ∧
        if s.chip.flag TWP_MX_CTL_READY then s.chip.onlyRegs d [TWP_MX_STAT.addr] ∧ d.rd TWP_MX_STAT_LOCK_ERR = 1
        else s.chip.onlyRegs d [0x2A4000 + 4 * j] ∧ d.get (0x2A4000 + 4 * j) = w))

/-- LOAD (R272-R288, R304, Tables 6.8 and 6.9); that BIST_FAIL is judged before LANE_FAIL, and NODRAM before SECT_CRC, is
the model's choice (log entries 41 and 42). -/
def Obligations.LoadingAnImage : Prop :=
  (∀ (s : State) (jedec : Nat), s.runs →
    (s.chip.inLoad .bist = false ∨ s.chip.ld.headerRead = true → exec (.ldrHeaderRead jedec) s = .next s) ∧
    (s.chip.inLoad .bist = true → s.chip.ld.headerRead = false →
      (let h := s.chip.headBytes 0 64
       let n := numIn h 6 2
       let len := numIn h 8 4
       let magic := numIn h 0 4 = 0x4D4C4F50 ∧ numIn h 4 2 = 1
       let good := crc32 (h.take 60) = numIn h 60 4 ∧ 0 < n ∧ n ≤ 64 ∧ len % 4 = 0 ∧ len ≤ 64 * 1048576 ∧
         ledgerOk (numIn h 20 4) (numIn h 24 1) s.chip.ld.imgBase len = true
       let ss := (List.range n).map fun i => sectionOf ((s.chip.headBytes 64 (24 * n)).drop (24 * i))
       ∃ d, exec (.ldrHeaderRead jedec) s = .next { s with chip := d } ∧ d.rd LDR_FLASH_ID_ID = jedec % 2 ^ 24 ∧
         d.rd LDR_IMG_VER_VER = numIn h 16 4 ∧ d.rd LDR_IMG_LEN_LEN = len ∧
         (¬magic → s.chip.loadFailing d 3) ∧ (magic → ¬good → s.chip.loadFailing d 4) ∧
         (magic → good →
           (dirErr ss 0 (64 + 24 * n) len = none → safeErr ss ((s.chip.ld.shadowWord 34).getLsbD 0) = none →
             d = { s.chip with regs := d.regs, ld := d.ld } ∧
             s.chip.sameBut d [LDR_FLASH_ID.addr, LDR_IMG_VER.addr, LDR_IMG_LEN.addr] ∧ d.ld.headerRead = true ∧
             d.ld.dir = ss ∧ d.ld.imgLen = len ∧ d.ld.ledgerOff = numIn h 20 4 ∧ d.ld.ledgerSect = numIn h 24 1 ∧
             d.ld.scanned = (numIn h 24 1 == 0)) ∧
           ∀ i ofs e, dirErr ss 0 (64 + 24 * n) len = some (i, ofs, e) →
             s.chip.loadFailing d e ∧ d.rd LDR_ERR_POS_SECT = i % 64 ∧ d.rd LDR_ERR_POS_OFS = ofs / 4 % 2 ^ 24)))) ∧
  (∀ s : State, s.runs →
    (s.chip.inLoad .bist = false ∨ s.chip.ld.headerRead = false ∨ s.chip.ld.scanned = true →
      exec .ledgerScan s = .next s) ∧
    (s.chip.inLoad .bist = true → s.chip.ld.headerRead = true → s.chip.ld.scanned = false →
      (let used := (List.range s.chip.appendPtr).map s.chip.slot
       let kind := fun k => used.filter fun b => slotKind b == k
       ∃ d, exec .ledgerScan s = .next { s with chip := d } ∧ d.stores = s.chip.stores ∧ d.seat = s.chip.seat ∧
         d.ld.scanned = true ∧ d.rd LDR_LEDGER_STAT_NEXT = s.chip.appendPtr % 4096 ∧
         d.rd LDR_LEDGER_STAT_TORN = min (kind .torn).length 2047 ∧
         d.rd LDR_LEDGER_STAT_CORRUPT = min (kind .corrupt).length 511 ∧
         d.ld.keys = ((kind .valid).map recKey).take 2048 ∧
         (kind .valid = [] → d = { s.chip with regs := d.regs, ld := d.ld } ∧ s.chip.sameBut d [LDR_LEDGER_STAT.addr]) ∧
         ∀ b, kind .valid = [b] →
           ((b.getD 1 0).toNat = 0x10 → recData b 6 1 = 0 → recNum b 8 2 < 4 →
             (d.mc (recNum b 8 2 / 2)).softRecords = (s.chip.mc (recNum b 8 2 / 2)).softRecords ++
               [[recNum b 8 2 % 2, recData b 0 1 * 4 + recData b 1 1, recData b 2 4]]) ∧
           ((b.getD 1 0).toNat = 0x11 → recNum b 8 2 < 2 → s.chip.migState (recNum b 8 2) ≠ 4 →
             d.migState (recNum b 8 2) = 4 ∧ d.rd (MCX_MIG_STAT_REDIRECT.at (recNum b 8 2)) = 1) ∧
           ((b.getD 1 0).toNat = 0x20 → s.chip.bps.stuck = [] →
             d.bps.stuck = [⟨recData b 0 2, recData b 2 2, recData b 4 1 != 0⟩] ∧ d.rd BPS_MAP_CTL_COUNT = 1)))) ∧
  (∀ (s : State) (fails : List (Nat × List (Nat × Nat))) (small lanes : List Nat), s.runs →
    (s.chip.inLoad .bist = false ∨ s.chip.ld.headerRead = false ∨ s.chip.ld.scanned = false ∨ s.chip.ld.phase1 = true →
      exec (.bistPhase1Done fails small lanes) s = .next s) ∧
    (s.chip.inLoad .bist = true → s.chip.ld.headerRead = true → s.chip.ld.scanned = true → s.chip.ld.phase1 = false →
      ∃ d, exec (.bistPhase1Done fails small lanes) s = .next { s with chip := d } ∧
        (d.ld.phase1 = true → ∀ m cells q, (m, cells) ∈ fails → q ∈ cells →
          ⟨m, true, q.1⟩ ∈ d.ld.repairs ∨ ⟨m, false, q.2⟩ ∈ d.ld.repairs) ∧
        (s.chip.ld.appended = [] → 8 ≤ s.chip.ld.spared →
          (fails = [] → lanes = [] →
            d = { s.chip with ld := { s.chip.ld with lane8Bad := false, spared := 15, phase1 := true } }) ∧
          (fails = [] → ∀ n, n < 8 → lanes = [n] →
            d.ld.phase1 = true ∧ d.ld.spared = n ∧ d.ld.repairs = s.chip.ld.repairs) ∧
          (fails = [] → ∀ a b, a < 8 → b ≤ 8 → a ≠ b → lanes = [a, b] → s.chip.loadFailing d 2) ∧
          (∀ m q, fails = [(m, [q])] → lanes = [] → s.chip.ld.tableOf m = [] →
            (m ∉ small → d.ld.phase1 = true ∧ d.ld.repairs = s.chip.ld.repairs ++ [⟨m, true, q.1⟩] ∧
              d.rd LDR_BIST_STAT_NEW_REPAIRS = satAdd 8 (s.chip.rd LDR_BIST_STAT_NEW_REPAIRS) 1) ∧
            (m ∈ small → s.chip.loadFailing d 1 ∧ d.rd LDR_BIST_STAT_FAIL_MACRO = m % 256)) ∧
          (∀ m cells, fails = [(m, cells)] → 8 < cells.eraseDups.length →
            s.chip.loadFailing d 1 ∧ d.rd LDR_BIST_STAT_FAIL_MACRO = m % 256)))) ∧
  (∀ (s : State) (macros lanes : List Nat), s.runs →
    (s.chip.inLoad .bist = false ∨ s.chip.ld.phase1 = false → exec (.bistPhase2Done macros lanes) s = .next s) ∧
    (s.chip.inLoad .bist = true → s.chip.ld.phase1 = true →
      (let named := (lanes.filter fun n => decide (n < 8)) ++ s.chip.ld.ledgerLanes ++
         (if s.chip.ld.spared < 8 then [s.chip.ld.spared] else [])
       let bad := (∃ a ∈ named, ∃ b ∈ named, a ≠ b) ∨ (named ≠ [] ∧ (s.chip.ld.lane8Bad = true ∨ 8 ∈ lanes))
       ∃ d, exec (.bistPhase2Done macros lanes) s = .next { s with chip := d } ∧
         (∀ m ∈ macros, (∀ k ∈ macros, m ≤ k) →
           s.chip.loadFailing d 1 ∧ d.rd LDR_BIST_STAT_FAIL_MACRO = m % 256) ∧
         (macros = [] → bad → s.chip.loadFailing d 2) ∧
         (macros = [] → ¬bad →
           d.ld.phase = .body ∧ d.ld.lane8Bad = (s.chip.ld.lane8Bad || lanes.contains 8) ∧ d.stores = s.chip.stores ∧
           d.seat = s.chip.seat ∧ d.mode.edge = none ∧ d.ld.repairs = s.chip.ld.repairs ∧ d.ld.dir = s.chip.ld.dir ∧
           d.ld.nextSect = s.chip.ld.nextSect ∧ d.rd LDR_STAT_ERR = s.chip.rd LDR_STAT_ERR ∧
           (named = [] → d.ld.spared = 15) ∧ (∀ n ∈ named, d.ld.spared = n) ∧
           (lanes = [] → d.ld.queue = s.chip.ld.queue))))) ∧
  (∀ s : State, s.runs →
    (s.chip.inLoad .body = false ∨ s.chip.ld.dir.length ≤ s.chip.ld.nextSect → exec .sectionRead s = .next s) ∧
    (∀ x, s.chip.inLoad .body = true → s.chip.ld.dir[s.chip.ld.nextSect]? = some x →
      (let bs := s.chip.imageBytes x.offset x.length
       let toDram := x.type = 3 ∨ (x.type = 1 ∧ x.early = false)
       let at0 := fun (d : Chip) => d.rd LDR_ERR_POS_SECT = s.chip.ld.nextSect % 64 ∧
         d.rd LDR_ERR_POS_OFS = x.offset / 4 % 2 ^ 24
       let ready := s.chip.dramReady x.dest bs.length = true
       let done := fun (l : Loader) => { l with nextSect := l.nextSect + 1 }
       ∃ d, exec .sectionRead s = .next { s with chip := d } ∧
         (toDram → ¬ready → s.chip.loadFailing d 8 ∧ at0 d) ∧
         (x.type = 2 → crc32 bs ≠ x.crc → d.rd LDR_STAT_ERR = 7 ∧ d.ld.phase = .failed ∧ d.mode.edge = some .e5 ∧
           at0 d) ∧
         (x.type ≠ 2 → ¬toDram ∨ ready → crc32 bs ≠ x.crc → s.chip.loadFailing d 7 ∧ at0 d) ∧
         (toDram → ready → crc32 bs = x.crc →
           d = { s.chip.writeBytes 11 x.dest bs with ld := done (s.chip.writeBytes 11 x.dest bs).ld }) ∧
         (x.type = 4 → crc32 bs = x.crc →
           d = { s.chip with cmp := { s.chip.cmp with safe := d.cmp.safe }, ld := { done s.chip.ld with safePlaced := true } } ∧
           ∀ i, SMap.get safeDefault d.cmp.safe i =
             if i < x.length then bs.getD i 0 else SMap.get safeDefault s.chip.cmp.safe i) ∧
         (x.type = 1 → x.early = true → crc32 bs = x.crc → mfstErr bs ≠ 0 →
           s.chip.loadFailing d 9 ∧ d.rd LDR_STAT_MFST_ERR = mfstErr bs ∧ at0 d) ∧
         (x.type ∉ [1, 2, 3, 4] → crc32 bs = x.crc → d = { s.chip with ld := done s.chip.ld })))) ∧
  (∀ s : State, s.runs →
    (s.chip.inLoad .body = false ∨ s.chip.ld.nextSect ≠ s.chip.ld.dir.length → exec .bodyReadDone s = .next s) ∧
    (s.chip.inLoad .body = true → s.chip.ld.nextSect = s.chip.ld.dir.length →
      (let on := (s.chip.ld.shadowWord 34).getLsbD 0
       let same := sha256 (s.chip.imageBytes 0 s.chip.ld.imgLen) = s.chip.ld.digest
       ∃ d, exec .bodyReadDone s = .next { s with chip := d } ∧
         (on = true → ¬same → s.chip.loadFailing d 10) ∧
         (on = false ∨ same →
           (s.chip.ld.deferredOf = [] →
             d = { s.chip with regs := d.regs, ld := { s.chip.ld with phase := .manifests } } ∧
             s.chip.sameBut d [LDR_STAT.addr] ∧ d.rd LDR_STAT_DIGEST_OK = if on then 1 else 0) ∧
           (∀ x i, s.chip.ld.deferredOf = [(x, i)] → s.chip.dramServes x.dest x.length = false →
             (∀ ch, ch < 2 → s.chip.flag (mcF ch MCA_ECC_CTL_POLICY) = false) →
             s.chip.loadFailing d 9 ∧ d.rd LDR_STAT_MFST_ERR = 8)))))

/-- The ledger's appends (R289-R296, Table 6.6). -/
def Obligations.LedgerAppends : Prop :=
  (∀ (s : State) (kind unit flags : Nat) (data : List Nat), s.runs →
    (let r : LedgerReq := ⟨kind % 256, unit % 65536, flags % 65536, data⟩
     ∃ d, exec (.ledgerAppendRequest kind unit flags data) s = .next { s with chip := d } ∧ d.stores = s.chip.stores ∧
       d.seat = s.chip.seat ∧
       (s.chip.flashStopped = true → s.chip.appendFailed d r 5 ∧ d.ld = s.chip.ld) ∧
       (s.chip.flashStopped = false → s.chip.ld.ledgerSect = 0 → s.chip.appendFailed d r 3 ∧ d.ld = s.chip.ld) ∧
       (s.chip.flashStopped = false → s.chip.ld.ledgerSect ≠ 0 →
         (r.key ∈ s.chip.ld.keys → s.chip.onlyRegs d [LDR_LEDGER_CNT.addr] ∧
           d.rd LDR_LEDGER_CNT_SUPPRESSED = satAdd 8 (s.chip.rd LDR_LEDGER_CNT_SUPPRESSED) 1) ∧
         (r.key ∉ s.chip.ld.keys →
           (s.chip.flag LDR_LEDGER_CTL_APPEND_EN = false ∨ 16 ≤ s.chip.ld.queue.length →
             s.chip.appendFailed d r 2 ∧ d.ld = s.chip.ld) ∧
           (s.chip.flag LDR_LEDGER_CTL_APPEND_EN = true → s.chip.ld.queue.length < 16 →
             d.ld = { s.chip.ld with queue := s.chip.ld.queue ++ [r] } ∧ d.pdreq 12 = true))))) ∧
  (∀ s : State, s.runs →
    (s.chip.appendMay = false ∨ s.chip.ld.queue = [] → exec .ledgerAttemptStart s = .next s) ∧
    (∀ r rest, s.chip.appendMay = true → s.chip.ld.queue = r :: rest → s.chip.ld.rescan = false →
      (let n := s.chip.rd LDR_LEDGER_STAT_NEXT
       let at0 := s.chip.ld.slotAddr n
       ∃ d, exec .ledgerAttemptStart s = .next { s with chip := d } ∧ d.seat = s.chip.seat ∧
         (r.key ∈ s.chip.ld.keys → d.ld.queue = rest ∧ d.stores = s.chip.stores ∧
           d.rd LDR_LEDGER_CNT_SUPPRESSED = satAdd 8 (s.chip.rd LDR_LEDGER_CNT_SUPPRESSED) 1) ∧
         (r.key ∉ s.chip.ld.keys → s.chip.ld.slots ≤ n → s.chip.appendFailed d r 1 ∧ d.ld.queue = rest) ∧
         (r.key ∉ s.chip.ld.keys → n < s.chip.ld.slots →
           d = { s.chip with flash := d.flash, ld := { s.chip.ld with stage := .body, slotBytes := s.chip.recordBytes r } } ∧
           ∀ a, d.flashByte a =
             if at0 < a ∧ a < at0 + 32 then s.chip.flashByte a &&& (s.chip.recordBytes r).getD (a - at0) 0
             else s.chip.flashByte a)))) ∧
  (∀ (s : State) (i : Instr), s.runs → i = .ledgerBusyClear ∨ i = .ledgerBusyTimeout →
    (let n := s.chip.rd LDR_LEDGER_STAT_NEXT
     let at0 := s.chip.ld.slotAddr n
     ∃ d, exec i s = .next { s with chip := d } ∧ d.seat = s.chip.seat ∧ d.dram = s.chip.dram ∧
       (∀ a, a < at0 ∨ at0 + 32 ≤ a → d.flashByte a = s.chip.flashByte a) ∧
       (s.chip.ld.stage = .idle ∨ s.chip.ld.stage = .readback →
         d = { s.chip with wh := { s.chip.wh with runFlash := d.wh.runFlash } }) ∧
       (i = .ledgerBusyClear → s.chip.ld.stage = .body →
         d = { s.chip with ld := { s.chip.ld with stage := .mark } }) ∧
       (i = .ledgerBusyClear → s.chip.ld.stage = .mark →
         d = { s.chip with flash := d.flash, ld := { s.chip.ld with stage := .readback } } ∧
         ∀ a, d.flashByte a = if a = at0 then s.chip.flashByte a &&& 0x5C#8 else s.chip.flashByte a) ∧
       (i = .ledgerBusyTimeout → s.chip.ld.stage = .body ∨ s.chip.ld.stage = .mark →
         d.ld = { s.chip.ld with stage := .dead } ∧ d.flashByte at0 = 0 ∧ s.chip.sameBut d []) ∧
       (s.chip.ld.stage = .dead →
         d.rd LDR_LEDGER_STAT_NEXT = (n + 1) % 4096 ∧ d.ld.stage = .idle ∧ d.stores = s.chip.stores ∧
         ∀ r rest, s.chip.ld.queue = r :: rest →
           (2 ≤ s.chip.ld.attempts → s.chip.appendFailed d r 4 ∧ d.ld.queue = rest ∧ d.ld.attempts = 0) ∧
           (s.chip.ld.attempts < 2 → d.ld.queue = s.chip.ld.queue ∧ d.ld.attempts = s.chip.ld.attempts + 1)))) ∧
  (∀ (s : State) (got : List Byte), s.runs →
    (s.chip.ld.stage ≠ .readback ∨ s.chip.ld.queue = [] → exec (.ledgerReadbackDone got) s = .next s) ∧
    (∀ r rest, s.chip.ld.stage = .readback → s.chip.ld.queue = r :: rest →
      (let n := s.chip.rd LDR_LEDGER_STAT_NEXT
       ∃ d, exec (.ledgerReadbackDone got) s = .next { s with chip := d } ∧ d.seat = s.chip.seat ∧
         (got = s.chip.ld.slotBytes →
           d.flash = s.chip.flash ∧ d.ld.queue = rest ∧ d.ld.stage = .idle ∧ d.ld.attempts = 0 ∧
           d.ld.appended = s.chip.ld.appended ++ [got] ∧ (s.chip.ld.keys.length < 2048 → r.key ∈ d.ld.keys) ∧
           s.chip.sameBut d [LDR_LEDGER_STAT.addr, LDR_LEDGER_CNT.addr] ∧ d.rd LDR_LEDGER_STAT_NEXT = (n + 1) % 4096 ∧
           d.rd LDR_LEDGER_CNT_APPENDED = satAdd 8 (s.chip.rd LDR_LEDGER_CNT_APPENDED) 1 ∧
           d.wh.evt.getLsbD evLedger = true) ∧
         (got ≠ s.chip.ld.slotBytes →
           d = { s.chip with flash := d.flash, ld := { s.chip.ld with stage := .dead } } ∧
           ∀ a, d.flashByte a = if a = s.chip.ld.slotAddr n then 0 else s.chip.flashByte a))))

/-- Host flash commands and the fuses (R297-R302, Table 6.13). -/
def Obligations.FlashHostCommands : Prop :=
  (∀ (s : State) (n answer : Nat), s.runs → s.chip.reach 0x20100 →
    (let a := s.chip.rd LDR_FHOST_ADDR_ADDR
     let len := s.chip.rd LDR_FHOST_CMD_LEN
     let busy := s.chip.mode.mode = .load ∨ s.chip.ld.stage ≠ .idle ∨ s.chip.ld.attempts ≠ 0 ∨ s.chip.ld.hostOp ≠ 0
     ∀ i op l x, (i, op, l, x) ∈ [(Instr.fhostRead n, 1, n, a), (.fhostProgram n, 2, n, a), (.fhostErase4k, 3, len, a),
         (.fhostReadId answer, 4, len, answer), (.fhostReadStatus answer, 5, len, answer)] →
       ∃ d, exec i s = .next { s with chip := d } ∧
         d = { s.chip with regs := d.regs, eff := d.eff, ld := d.ld } ∧
         s.chip.sameBut d (LDR_FHOST_CMD.addr :: clockDoms) ∧ d.rd LDR_FHOST_CMD_OP = op ∧
         d.rd LDR_FHOST_CMD_LEN = l % 256 ∧
         (busy → d.ld = s.chip.ld ∧ d.rd LDR_FHOST_CMD_ERR = 1 ∧ d.rd LDR_FHOST_CMD_DONE = 1) ∧
         (¬busy → s.chip.flashStopped = true →
           d.ld = s.chip.ld ∧ d.rd LDR_FHOST_CMD_ERR = 0 ∧ d.rd LDR_FHOST_CMD_DONE = 0) ∧
         (¬busy → s.chip.flashStopped = false →
           (op = 2 → 256 < a % 256 + (l % 256 + 1) →
             d.ld = s.chip.ld ∧ d.rd LDR_FHOST_CMD_ERR = 2 ∧ d.rd LDR_FHOST_CMD_DONE = 1) ∧
           (op = 3 → a % 4096 ≠ 0 →
             d.ld = s.chip.ld ∧ d.rd LDR_FHOST_CMD_ERR = 4 ∧ d.rd LDR_FHOST_CMD_DONE = 1) ∧
           ((op = 2 → a % 256 + (l % 256 + 1) ≤ 256) → (op = 3 → a % 4096 = 0) →
             d.ld = { s.chip.ld with hostOp := op, hostAddr := x, hostLen := if op = 3 then 4096 else l % 256 + 1 } ∧
             d.rd LDR_FHOST_CMD_ERR = 0 ∧ d.rd LDR_FHOST_CMD_DONE = 0)))) ∧
  (∀ s : State, s.runs →
    (s.chip.ld.hostOp = 0 ∨ s.chip.flashFetch = true → exec .fhostCmdDone s = .next s) ∧
    (s.chip.ld.hostOp ≠ 0 → s.chip.flashFetch = false →
      (let a := s.chip.ld.hostAddr
       let p := flashPlace s.chip.ld.addr4 a
       let n := s.chip.ld.hostLen
       ∃ d, exec .fhostCmdDone s = .next { s with chip := d } ∧ d.seat = s.chip.seat ∧ d.dram = s.chip.dram ∧
         d.ld.hostOp = 0 ∧ d.rd LDR_FHOST_CMD_DONE = 1 ∧ d.rd LDR_FHOST_CMD_ERR = 0 ∧
         (s.chip.ld.hostOp ≠ 2 → s.chip.ld.hostOp ≠ 3 → d.flash = s.chip.flash) ∧
         (s.chip.ld.hostOp = 1 → n ≤ 256 → d.hostBuf n = s.chip.flashRead s.chip.ld.addr4 a n) ∧
         (s.chip.ld.hostOp = 2 → n ≤ 256 → ∀ b, d.flashByte b =
           if p ≤ b ∧ b < p + n then s.chip.flashByte b &&& (s.chip.hostBuf n).getD (b - p) 0 else s.chip.flashByte b) ∧
         (s.chip.ld.hostOp = 3 → ∀ b, d.flashByte b = if p ≤ b ∧ b < p + n then 0xFF#8 else s.chip.flashByte b) ∧
         (s.chip.ld.hostOp = 4 ∨ s.chip.ld.hostOp = 5 → d.rd (LDR_FHOST_BUF_WORD.at 0) = a % 2 ^ 32)))) ∧
  (∀ s : State, s.runs →
    (s.chip.ld.hostOp ≠ 2 → s.chip.ld.hostOp ≠ 3 → exec .fhostTimeout s = .next s) ∧
    (s.chip.ld.hostOp = 2 ∨ s.chip.ld.hostOp = 3 →
      ∃ d, exec .fhostTimeout s = .next { s with chip := d } ∧ d.seat = s.chip.seat ∧ d.dram = s.chip.dram ∧
        d.ld.hostOp = 0 ∧ d.rd LDR_FHOST_CMD_DONE = 1 ∧ d.rd LDR_FHOST_CMD_ERR = 3 ∧
        let p := flashPlace s.chip.ld.addr4 s.chip.ld.hostAddr
        ∀ b, b < p ∨ p + s.chip.ld.hostLen ≤ b → d.flashByte b = s.chip.flashByte b)) ∧
  (∀ (s : State) (w : Word), s.runs → s.chip.reach 0x2003C →
    (let n := LDR_LEDGER_IDX_SLOT.get w
     ∃ d, exec (.ledgerIdxWrite w) s = .next { s with chip := d } ∧
       s.chip.onlyRegs d (LDR_LEDGER_IDX.addr :: (List.range 8).map fun i => (LDR_LEDGER_REC.at i).addr) ∧
       d.rd LDR_LEDGER_IDX_SLOT = n ∧ d.rd LDR_LEDGER_IDX_READY = 1 ∧
       ∀ i, i < 8 → d.rd (LDR_LEDGER_REC_REC.at i) = if n < s.chip.ld.slots then recNum (s.chip.slot n) (4 * i) 4 else 0)) ∧
  (∀ (s : State) (w : Word), s.runs → s.chip.reach 0x20060 →
    ∃ d, exec (.otpArm w) s = .next { s with chip := d } ∧
      s.chip.onlyRegs d [LDR_OTP_CTL.addr, LDR_OTP_STAT.addr, LDR_OTP_CONFLICT.addr, LDR_OTP_VERIFY.addr] ∧
      d.rd LDR_OTP_CTL_IDX = LDR_OTP_CTL_IDX.get w ∧
      (LDR_OTP_CTL_ARM.get w = 0 → d.rd LDR_OTP_CTL_ARM = 0 ∧
        d.rd LDR_OTP_STAT_REFUSED = s.chip.rd LDR_OTP_STAT_REFUSED) ∧
      (LDR_OTP_CTL_ARM.get w = 1 →
        (16 < s.chip.otpMarked ∨ s.chip.ld.otpLock = true →
          d.rd LDR_OTP_CTL_ARM = 0 ∧ d.rd LDR_OTP_STAT_REFUSED = 1 ∧
            d.get LDR_OTP_CONFLICT.addr = s.chip.get LDR_OTP_CONFLICT.addr) ∧
        (s.chip.otpMarked ≤ 16 → s.chip.ld.otpLock = false →
          d.rd LDR_OTP_CTL_ARM = 1 ∧ d.rd LDR_OTP_STAT_REFUSED = 0 ∧ d.get LDR_OTP_CONFLICT.addr = 0 ∧
          d.get LDR_OTP_VERIFY.addr = 0)))

/-- Wharf transactions (R97, R100-R121, R133, R149, R259); the order in which the faults of one write are judged is the
model's choice (log entry 104). -/
def Obligations.WharfTransactions : Prop :=
  (∀ (s : State) (dev : Nat) (bytes : List Byte) (begun prefetches : Nat) (i : Instr), s.runs →
    i ∈ [Instr.wharfWriteTransaction ⟨dev, bytes⟩, .wharfReadTransaction ⟨dev, bytes⟩ begun prefetches] →
    (let foreign := s.chip.wh.i2c = true ∧ dev ≠ 0x2C + s.chip.wh.i2cAddr
     let unlock := s.chip.wh.lockout = true ∧ s.chip.mode.mode = .deepSleep ∧ 4 ≤ bytes.length ∧ bytes.take 2 = [0#8, 7#8]
     let code : Half := bytes.getD 2 0 ++ bytes.getD 3 0
     (s.chip.pdOn 2 = true → cmdRead (bytes.headD 0) ≠ (i == .wharfReadTransaction ⟨dev, bytes⟩ begun prefetches) →
       exec i s = .next s) ∧
     (s.chip.pdOn 2 = false ∨ cmdRead (bytes.headD 0) = (i == .wharfReadTransaction ⟨dev, bytes⟩ begun prefetches) →
       foreign →
       exec i s = .next { s with chip := { s.chip with wh := { s.chip.wh with out := [], acked := false } } }) ∧
     (s.chip.pdOn 2 = false → ¬foreign →
       (¬unlock → ∃ d, exec .wakeTrigger s = .next { s with chip := d } ∧
         exec i s = .next { s with chip := { d with wh := { d.wh with out := [], acked := false } } }) ∧
       (unlock → ∃ d, exec i s = .next { s with chip := d } ∧ d.wh.out = [] ∧ d.wh.acked = s.chip.wh.i2c ∧
         d.seat = s.chip.seat ∧ d.stores = s.chip.stores ∧
         (code = 0x5A5A#16 → d.wh.lockout = false ∧ d.wh.failCount = 0 ∧ d.rd PWR_WAKE_STAT_IGNORED = 0) ∧
         (code ≠ 0x5A5A#16 → d.wh.lockout = true ∧ d.wh.failCount = s.chip.wh.failCount))))) ∧
  (∀ (s : State) (dev : Nat) (bytes : List Byte), s.runs → s.chip.pdOn 2 = true → s.chip.addressed dev = true →
    cmdRead (bytes.headD 0) = false →
    (let n := cmdWords (bytes.headD 0)
     let crc := s.chip.crcOn
     let whole := bytes.length = 2 + 2 * n + (if crc then 1 else 0)
     let right := crc = true → crc8 (bytes.take (2 + 2 * n)) = (bytes.getLastD 0).toNat
     let as := wordAddrs (cmdFixed (bytes.headD 0)) n (bytes.getD 1 0).toNat
     let word := fun i => (bytes.getD (2 + 2 * i) 0 ++ bytes.getD (3 + 2 * i) 0 : Half)
     ∃ d, exec (.wharfWriteTransaction ⟨dev, bytes⟩) s = .next { s with chip := d } ∧
       (¬whole ∨ ¬right ∨ s.chip.wh.drain ≠ [] ∨ (s.chip.wh.mfstBurst = true ∧ ∀ a ∈ as, 0x10 ≤ a ∧ a ≤ 0x14) →
         d = { s.chip with pins := { s.chip.pins with sdoDriven := false }
                           wh := { s.chip.wh with err := d.wh.err, crcCount := d.wh.crcCount, status := d.wh.status
                                                  evt := d.wh.evt, out := d.wh.out, acked := s.chip.wh.i2c } } ∧
         d.wh.out = (if s.chip.wh.i2c = true ∨ bytes = [] then []
           else s.chip.statusByte :: List.replicate (bytes.length - 1) 0#8) ∧
         d.wh.evt.getLsbD evWherr = true ∧
         (¬whole → d.wh.err.getLsbD erFrame = true ∧ d.wh.crcCount = s.chip.wh.crcCount) ∧
         (bytes = [] → d.wh.status = s.chip.wh.status ||| 0x40#16) ∧
         (whole → ¬right → d.wh.err.getLsbD erCrc = true ∧ d.wh.crcCount = satAdd 16 s.chip.wh.crcCount 1) ∧
         (whole → right → s.chip.wh.drain ≠ [] → d.wh.err.getLsbD erBusyDrain = true) ∧
         (whole → right → s.chip.wh.drain = [] → d.wh.err.getLsbD erBusyMfst = true)) ∧
       (whole → right → s.chip.wh.drain = [] →
         ((as = [0x30] ∨ as = [0x30, 0x31]) →
           d = { s.chip with pins := d.pins, wh := d.wh } ∧ d.wh.seq = (s.chip.wh.seq + 1) % 4 ∧
           d.wh.scratch0 = word 0 ∧ d.wh.scratch1 = (if n = 2 then word 1 else s.chip.wh.scratch1) ∧
           d.wh.err = s.chip.wh.err ∧ d.pins.sdoDriven = false) ∧
         (as = [0x0B] → d.wh.evtEn = word 0 &&& 0x07FF#16 ∧ d.wh.seq = (s.chip.wh.seq + 1) % 4) ∧
         (as = [0x18] → d.wh.aperBase = (word 0).toNat % 4096 ∧ d.wh.seq = (s.chip.wh.seq + 1) % 4) ∧
         (as = [0x0B, 0x0C, 0x0D, 0x0E, 0x0F, 0x10] → s.chip.wh.mfstBurst = true →
           d.wh.evtEn = word 0 &&& 0x07FF#16 ∧ d.wh.iaddr = s.chip.wh.iaddr ∧ d.wh.seq = s.chip.wh.seq ∧
           d.wh.err.getLsbD erBusyMfst = true ∧ d.wh.err.getLsbD erUnimpl = true) ∧
         (∀ a, as = [a] → s.chip.topRead a = none → a ≠ 0x12 →
           d = { s.chip with pins := d.pins, wh := d.wh } ∧ d.wh.err.getLsbD erUnimpl = true ∧
           d.wh.seq = (s.chip.wh.seq + 1) % 4)))) ∧
  (∀ (s : State) (dev : Nat) (bytes : List Byte) (begun prefetches : Nat), s.runs → s.chip.pdOn 2 = true →
    s.chip.addressed dev = true → cmdRead (bytes.headD 0) = true →
    (let n := cmdWords (bytes.headD 0)
     let a := (bytes.getD 1 0).toNat
     let as := wordAddrs (cmdFixed (bytes.headD 0)) n a
     let first := if s.chip.wh.i2c then [s.chip.statusByte] else [s.chip.statusByte, 0#8]
     ∃ d, exec (.wharfReadTransaction ⟨dev, bytes⟩ begun prefetches) s = .next { s with chip := d } ∧
       d.pins.sdoDriven = false ∧
       (s.chip.crcOn = true → bytes.length = 3 → crc8 (bytes.take 2) ≠ (bytes.getD 2 0).toNat →
         d = { s.chip with pins := d.pins, wh := d.wh } ∧ d.wh.err.getLsbD erCrc = true ∧
         d.wh.crcCount = satAdd 16 s.chip.wh.crcCount 1 ∧ d.wh.seq = s.chip.wh.seq ∧
         (let zeros := List.replicate (2 * n) 0#8
          begun = n → d.wh.out = s.chip.statusByte :: 0#8 :: 0#8 :: zeros ++
            [~~~ BitVec.ofNat 8 (crc8 (s.chip.statusByte :: zeros))])) ∧
       (s.chip.crcOn = false → bytes.length = 2 → n ≤ begun →
         (s.chip.wh.drain ≠ [] → (∃ x ∈ as, x = 0x12 ∨ x = 0x13) →
           d = { s.chip with pins := d.pins, wh := d.wh } ∧ d.wh.err.getLsbD erBusyDrain = true ∧
           d.wh.seq = s.chip.wh.seq ∧ d.wh.out = first ++ List.replicate (2 * begun) 0#8) ∧
         (s.chip.wh.drain = [] → s.chip.wh.mfstBurst = true → n = 1 → 0x10 ≤ a → a ≤ 0x14 →
           d = { s.chip with pins := d.pins, wh := d.wh } ∧ d.wh.err.getLsbD erBusyMfst = true ∧
           d.wh.seq = s.chip.wh.seq ∧ d.wh.out = first ++ List.replicate (2 * begun) 0#8) ∧
         (n = 1 → a = 0x12 → s.chip.wh.drain = [] → s.chip.wh.mfstBurst = false →
           (s.chip.wh.ready = true →
             d.wh.out = first ++ [s.chip.wh.readHolder.extractLsb' 24 8, s.chip.wh.readHolder.extractLsb' 16 8] ++
               List.replicate (2 * (begun - 1)) 0#8 ∧ d.wh.loLatch = s.chip.wh.readHolder.extractLsb' 0 16) ∧
           (s.chip.wh.ready = false → prefetches = 0 → s.chip.wh.i2c = false →
             d = { s.chip with pins := d.pins, wh := d.wh } ∧ d.wh.err.getLsbD erNotready = true ∧
             d.wh.out = first ++ List.replicate (2 * begun) 0#8)) ∧
         (n = 1 → a ≠ 0x12 → (s.chip.wh.mfstBurst = false ∨ a < 0x10 ∨ 0x14 < a) → (s.chip.wh.drain = [] ∨ a ≠ 0x13) →
           d = { s.chip with pins := { s.chip.pins with sdoDriven := false }, wh := d.wh } ∧
           d.wh.seq = (s.chip.wh.seq + 1) % 4 ∧ d.wh.acked = s.chip.wh.i2c ∧
           ∀ v, (s.chip.topRead a = some v ∨ (s.chip.topRead a = none ∧ v = 0)) →
             d.wh.out = first ++ twoBytes v ++ List.replicate (2 * (begun - 1)) 0#8 ∧
             (s.chip.topRead a ≠ none → d.wh.err = s.chip.wh.err ∧ d.wh.status = 0) ∧
             (s.chip.topRead a = none → d.wh.err.getLsbD erUnimpl = true))))) ∧
  (∀ (s : State) (dev : Nat) (bytes : List Byte) (served : Nat), s.runs →
    (s.chip.pdOn 2 = false ∨ s.chip.wh.i2c = false ∨ dev ≠ 0x2C + s.chip.wh.i2cAddr ∨ cmdRead (bytes.headD 0) = false →
      exec (.i2cStretchTimeout ⟨dev, bytes⟩ served) s = .next s) ∧
    (s.chip.pdOn 2 = true → s.chip.wh.i2c = true → dev = 0x2C + s.chip.wh.i2cAddr → cmdRead (bytes.headD 0) = true →
      (let n := cmdWords (bytes.headD 0)
       (bytes.getD 1 0 ≠ 0x12#8 ∨ s.chip.wh.drain ≠ [] ∨ s.chip.wh.ready = true ∨ s.chip.wh.mfstBurst = true →
         exec (.i2cStretchTimeout ⟨dev, bytes⟩ 0) s = .next s) ∧
       (bytes.getD 1 0 = 0x12#8 → s.chip.wh.drain = [] → s.chip.wh.ready = false → s.chip.wh.mfstBurst = false →
         ∃ d, exec (.i2cStretchTimeout ⟨dev, bytes⟩ 0) s = .next { s with chip := d } ∧
           d = { s.chip with pins := { s.chip.pins with sdoDriven := false }, wh := d.wh } ∧
           d.wh.err.getLsbD erStretch = true ∧ d.wh.seq = s.chip.wh.seq ∧
           d.wh.out = s.chip.statusByte :: List.replicate (2 * n) 0#8)))) ∧
  (∀ (s : State) (v : Half), s.runs →
    (s.chip.pdOn 2 = false →
      exec (.crcEnWrite v) s = .next s ∧ exec (.whEvtClear v) s = .next s ∧ exec (.whErrClear v) s = .next s) ∧
    (s.chip.pdOn 2 = true → s.chip.wh.drain ≠ [] → ∀ i ∈ [Instr.crcEnWrite v, .whEvtClear v, .whErrClear v],
      exec i s = .next { s with chip := s.chip.whErr erBusyDrain }) ∧
    (s.chip.pdOn 2 = true → s.chip.wh.drain = [] →
      exec (.crcEnWrite v) s =
        .next { s with chip := { s.chip with wh := { s.chip.wh with crcEn := v.getLsbD 0 } } } ∧
      (∃ d, exec (.whEvtClear v) s = .next { s with chip := d } ∧
        d = { s.chip with wh := { s.chip.wh with evt := d.wh.evt } } ∧
        ∀ n, n < 16 → d.wh.evt.getLsbD n = (s.chip.wh.evt.getLsbD n && !v.getLsbD n)) ∧
      (∃ d, exec (.whErrClear v) s = .next { s with chip := d } ∧
        d = { s.chip with wh := { s.chip.wh with err := d.wh.err, crcCount := d.wh.crcCount } } ∧
        (∀ n, n < 16 → d.wh.err.getLsbD n = (s.chip.wh.err.getLsbD n && !v.getLsbD n)) ∧
        d.wh.crcCount = if v.getLsbD 0 then 0 else s.chip.wh.crcCount)))

/-- The indirect window and internal writes (R123-R140, R27, R90, R752). -/
def Obligations.WindowAndRegisterWrites : Prop :=
  (∀ (s : State) (high : Bool) (v : Half) (i : Instr), s.runs →
    i ∈ [Instr.iaddrWrite high v, .idataHiRead, .idataHiWrite v, .idataLoWrite v] →
    (s.chip.pdOn 2 = false → exec i s = .next s) ∧
    (s.chip.pdOn 2 = true → s.chip.wh.drain ≠ [] →
      exec i s = .next { s with chip := s.chip.whErr erBusyDrain }) ∧
    (s.chip.pdOn 2 = true → s.chip.wh.drain = [] → s.chip.wh.mfstBurst = true →
      exec i s = .next { s with chip := s.chip.whErr erBusyMfst })) ∧
  (∀ (s : State) (high : Bool) (v : Half), s.runs → s.chip.pdOn 2 = true → s.chip.wh.drain = [] →
    s.chip.wh.mfstBurst = false →
    (let next := if s.chip.wh.autoinc then (s.chip.wh.iaddr + 4) % 2 ^ 24 else s.chip.wh.iaddr
     (∃ a, exec (.iaddrWrite high v) s = .next { s with chip := { s.chip with wh := { s.chip.wh with
        iaddr := a, prefetch := some a, ready := false } } } ∧
       a = if high then v.toNat % 256 * 65536 + s.chip.wh.iaddr % 65536
         else s.chip.wh.iaddr / 65536 * 65536 + v.toNat / 4 * 4) ∧
     exec (.idataHiWrite v) s = .next { s with chip := { s.chip with wh := { s.chip.wh with writeHolder := v } } } ∧
     exec (.idataLoWrite v) s = .next { s with chip := { s.chip with wh := { s.chip.wh with
       drain := [(s.chip.wh.iaddr, s.chip.wh.writeHolder ++ v)], iaddr := next, prefetch := some next
       ready := false } } } ∧
     (s.chip.wh.ready = true →
       ∃ d, exec .idataHiRead s = .next { s with chip := d } ∧ d = { s.chip with pins := d.pins, wh := d.wh } ∧
         d.wh.out = [s.chip.wh.readHolder.extractLsb' 24 8, s.chip.wh.readHolder.extractLsb' 16 8] ∧
         d.wh.loLatch = s.chip.wh.readHolder.extractLsb' 0 16 ∧ d.wh.iaddr = next ∧ d.wh.err = s.chip.wh.err ∧
         (s.chip.wh.autoinc = true → d.wh.prefetch = some next ∧ d.wh.ready = false)) ∧
     (∀ a, s.chip.wh.ready = false → s.chip.wh.i2c = true → s.chip.wh.prefetch = some a → inAperture a = false →
       s.chip.access a = .ok →
       ∃ d, exec .idataHiRead s = .next { s with chip := d } ∧
         d = { s.chip with pins := d.pins, wh := d.wh, free := d.free } ∧ d.wh.err = s.chip.wh.err ∧
         d.wh.out = [(s.chip.readReg a).extractLsb' 24 8, (s.chip.readReg a).extractLsb' 16 8]) ∧
     (s.chip.wh.ready = false → s.chip.wh.i2c = false ∨ s.chip.wh.prefetch = none →
       ∃ d, exec .idataHiRead s = .next { s with chip := d } ∧ d = { s.chip with pins := d.pins, wh := d.wh } ∧
         d.pins.sdoDriven = false ∧ d.wh.out = [0#8, 0#8] ∧ d.wh.iaddr = s.chip.wh.iaddr ∧ d.wh.loLatch = s.chip.wh.loLatch ∧
         d.wh.err.getLsbD (if s.chip.wh.i2c then erStretch else erNotready) = true))) ∧
  (∀ s : State, s.runs →
    (s.chip.wh.prefetch = none ∨ s.chip.wh.drain ≠ [] → exec .prefetchComplete s = .next s) ∧
    (s.chip.wh.drain = [] → s.chip.wh.prefetch = none →
      exec .internalWriteComplete s = .next s ∧ exec .apertureComplete s = .next s) ∧
    (∀ a, s.chip.wh.drain = [] → s.chip.wh.prefetch = some a →
      (inAperture a = true → exec .prefetchComplete s = .next s) ∧
      (inAperture a = false → exec .apertureComplete s = .next s ∧
        ∃ d, exec .prefetchComplete s = .next { s with chip := d } ∧ d = { s.chip with wh := d.wh, free := d.free } ∧
          d.wh.ready = true ∧ d.wh.prefetch = none ∧
          (s.chip.access a = .ok → d.wh.readHolder = s.chip.readReg a ∧ d.wh.err = s.chip.wh.err) ∧
          (∀ e, (s.chip.access a, e) ∈ [(Access.unimpl, erUnimpl), (.pwroff, erPwroff), (.variant, erVariant)] →
            d.wh.readHolder = 0 ∧ d.wh.err.getLsbD e = true)) ∧
      (inAperture a = true → s.chip.aperWaits a = true → exec .apertureComplete s = .next s) ∧
      (inAperture a = true → s.chip.aperWaits a = false →
        ∃ d, exec .apertureComplete s = .next { s with chip := d } ∧ d.wh.ready = true ∧ d.wh.prefetch = none ∧
          d.stores = s.chip.stores ∧ d.seat = s.chip.seat ∧
          (s.chip.aperOpen (s.chip.aperSys a) = false → d.wh.readHolder = 0 ∧ d.wh.err.getLsbD erAper = true ∧
            d = { s.chip with wh := d.wh }) ∧
          ∀ r, s.chip.aperOpen (s.chip.aperSys a) = true → s.chip.readSys (s.chip.aperSys a) = some r →
            (2 ≤ r.cls → d.wh.readHolder = 0 ∧ d.wh.err.getLsbD erAperUe = true) ∧
            (r.cls < 2 →
              d.wh.readHolder = BitVec.ofNat 32 (r.data / 2 ^ (32 * (s.chip.aperSys a / 4 % 2)))))) ∧
    (∀ a v rest, s.chip.wh.drain = (a, v) :: rest → a < 2 ^ 24 → s.chip.pdOn 2 = true →
      (let popped : State := { s with chip := { s.chip with wh := { s.chip.wh with drain := rest } } }
       let write := exec (.registerWrite a v 0xFFFFFFFF#32) popped
       (inAperture a = false → exec .internalWriteComplete s = write ∧ exec .apertureComplete s = .next s) ∧
       (inAperture a = true → exec .internalWriteComplete s = .next s) ∧
       (inAperture a = true → s.chip.aperWaits a = true → exec .apertureComplete s = .next s) ∧
       (inAperture a = true → s.chip.aperWaits a = false →
         (rest = [] → exec .apertureComplete s = write) ∧
         (s.chip.aperOpen (s.chip.aperSys a) = false →
           exec .apertureComplete s = .next { popped with chip := popped.chip.whErr erAper }))))) ∧
  (∀ (s : State) (a : Nat) (v mask : Word), s.runs → s.chip.pdOn 2 = true →
    (a < 0x800000 → ∀ e, (s.chip.access a, e) ∈ [(Access.unimpl, erUnimpl), (.pwroff, erPwroff), (.variant, erVariant)] →
      exec (.registerWrite a v mask) s = .next { s with chip := s.chip.whErr e }) ∧
    (0x800000 ≤ a → s.chip.wh.drain ≠ [] →
      exec (.registerWrite a v mask) s = .next { s with chip := s.chip.whErr erBusyDrain }) ∧
    (0x800000 ≤ a → a < 2 ^ 24 → s.chip.wh.drain = [] → s.chip.aperOpen (s.chip.aperSys a) = false →
      exec (.registerWrite a v mask) s = .next { s with chip := s.chip.whErr erAper }) ∧
    (∀ r, s.chip.access a = .ok → rowOf a = some r → a / 65536 ∈ [0x0B, 0x0C, 0x14, 0x15, 0x18, 0x29] →
      a % 65536 ≠ 0xF0 → a % 65536 ≠ 0xE0 → a % 65536 ≠ 0 ∨ 0x140000 ≤ a → s.chip.soLocked = false →
      (let open' := BitVec.ofNat 32 (Nat.lor (Nat.lor r.rw r.rws) r.rwl) &&& mask &&& ~~~ s.chip.lockedBits a
       ∃ d, exec (.registerWrite a v mask) s = .next { s with chip := d } ∧
         d = { s.chip with regs := d.regs, wh := d.wh } ∧ s.chip.sameBut d (a :: clockDoms) ∧
         (r.w1c = 0 → d.get a = (s.chip.get a &&& ~~~ open') ||| (v &&& open')) ∧
         (mask &&& s.chip.lockedBits a = 0 → d.wh = s.chip.wh) ∧
         (mask &&& s.chip.lockedBits a ≠ 0 → d.wh.err.getLsbD erLock = true)))) ∧
  (∀ (s : State) (a : Nat) (v : Word), s.runs → s.chip.pdOn 2 = true →
    (isClear a = false → exec (.counterClear a v) s = .next s) ∧
    (isClear a = true → exec (.counterClear a v) s = exec (.registerWrite a v 0xFFFFFFFF#32) s) ∧
    (∀ k, a = k * 65536 + cntClrAt k → counterRegs k ≠ [] → s.chip.access a = .ok → s.chip.soLocked = false →
      v.getLsbD 0 = true →
      ∃ d, exec (.counterClear a v) s = .next { s with chip := d } ∧ d = { s.chip with regs := d.regs } ∧
        s.chip.sameBut d ((counterRegs k).map (fun x => x.1) ++ clockDoms) ∧
        ∀ r ∈ counterRegs k, d.get r.1 = s.chip.get r.1 &&& ~~~ r.2)) ∧
  (∀ (s : State) (k : Nat), s.runs →
    (hasArith k = false → exec (.arithSatClear k) s = .next s) ∧
    (hasArith k = true → s.chip.reach (k * 0x10000 + 0xF0) →
      ∃ d, exec (.arithSatClear k) s = .next { s with chip := d } ∧ s.chip.onlyRegs d [k * 0x10000 + 0xF0] ∧
        d.get (k * 0x10000 + 0xF0) = 0))

/-- Manifests (R143-R157, R440). -/
def Obligations.Manifests : Prop :=
  (∀ (s : State) (v : Half), s.runs →
    (s.chip.pdOn 2 = false → exec (.mfstGo v) s = .next s ∧ exec .mfstAbort s = .next s) ∧
    (s.chip.pdOn 2 = true → s.chip.wh.drain ≠ [] → ∀ i ∈ [Instr.mfstGo v, .mfstAbort],
      exec i s = .next { s with chip := s.chip.whErr erBusyDrain }) ∧
    (s.chip.pdOn 2 = true → s.chip.wh.drain = [] →
      (let src := if v.getLsbD 2 then 1 else 0
       let at0 := v.toNat / 8 % 4
       ∃ d, exec (.mfstGo v) s = .next { s with chip := d } ∧ d = { s.chip with regs := d.regs, wh := d.wh } ∧
         s.chip.sameBut d clockDoms ∧ d.wh.mfstSrc = src ∧ d.wh.mfstWhen = at0 ∧
         (v.getLsbD 1 = false → s.chip.mfstPending = true ∨ s.chip.mode.mode = .load →
           d.wh.err.getLsbD erMfstBusy = true ∧ d.wh.mfstState = s.chip.wh.mfstState ∧
           d.wh.mfstGroups = s.chip.wh.mfstGroups) ∧
         (v.getLsbD 1 = true ∨ s.chip.mfstPending = false → s.chip.mode.mode ≠ .load →
           d.wh.mfstApplied = 0 ∧ d.wh.mfstSkipped = 0 ∧
           (at0 ≠ 2 → s.chip.soState 0 = 0 →
             d.wh.mfstState = .error ∧ d.wh.mfstErr = 9 ∧ d.wh.evt.getLsbD evMfst = true) ∧
           (at0 = 2 ∨ s.chip.soState 0 ≠ 0 →
             d.wh.mfstState = .fetch ∧ d.wh.mfstErr = 0 ∧ d.wh.runWhen = at0 ∧ d.wh.runDram = v.getLsbD 2 ∧
             d.wh.runAddr = s.chip.wh.mfstAddr / 4 * 4 ∧ d.wh.runFrame = s.chip.wh.mfstFrame ∧
             d.wh.runFlash = (!v.getLsbD 2 && s.chip.flashIdle)))) ∧
      (s.chip.mfstPending = false → exec .mfstAbort s = .next s) ∧
      (s.chip.mfstPending = true →
        ∃ d, exec .mfstAbort s = .next { s with chip := d } ∧ d = { s.chip with wh := d.wh } ∧
          d.wh.mfstState = .error ∧ d.wh.mfstErr = 10 ∧ d.wh.mfstGroups = [] ∧ d.wh.mfstBurst = false ∧
          d.wh.evt.getLsbD evMfst = true))) ∧
  (∀ s : State, s.runs →
    (s.chip.wh.mfstState ≠ .fetch → exec .mfstFetchDone s = .next s ∧ exec .mfstFetchTimeout s = .next s) ∧
    (s.chip.wh.mfstState = .fetch →
      (s.chip.wh.runDram = true ∨ s.chip.wh.runFlash = true → exec .mfstFetchTimeout s = .next s) ∧
      (s.chip.wh.runDram = false → s.chip.wh.runFlash = false →
        (s.chip.pdOn 12 = true → exec .mfstFetchDone s = .next s) ∧
        ∃ d, exec .mfstFetchTimeout s = .next { s with chip := d } ∧ d = { s.chip with wh := d.wh } ∧
          d.wh.mfstState = .error ∧ d.wh.mfstErr = 8 ∧ d.wh.evt.getLsbD evMfst = true) ∧
      (let bs := if s.chip.wh.runDram then s.chip.dramManifest s.chip.wh.runAddr
         else s.chip.flashManifest s.chip.wh.runAddr
       let served := if s.chip.wh.runDram then s.chip.dramServes s.chip.wh.runAddr bs.length else s.chip.pdOn 12
       let gs := mfstGroupsOf (mfstWords (mfstCount bs) (bs.drop 16))
       s.chip.wh.runDram = true ∨ s.chip.wh.runFlash = true →
       ∃ d, exec .mfstFetchDone s = .next { s with chip := d } ∧
         (served = false → d.wh.mfstState = .error ∧ d.wh.mfstErr = 8 ∧ d.stores = s.chip.stores) ∧
         (served = true → mfstErr bs ≠ 0 →
           d.wh.mfstState = .error ∧ d.wh.mfstErr = mfstErr bs ∧ d.wh.mfstTag = mfstTagOf bs ∧
           d.wh.evt.getLsbD evMfst = true ∧ d.stores = s.chip.stores ∧
           (s.chip.wh.runDram = false → s.chip.sameBut d clockDoms)) ∧
         (served = true → mfstErr bs = 0 → s.chip.wh.runWhen ≠ 2 →
           d.wh.mfstTag = mfstTagOf bs ∧ d.stores = s.chip.stores ∧
           (s.chip.wh.runDram = false → s.chip.sameBut d clockDoms) ∧
           (s.chip.soState 0 = 0 → d.wh.mfstState = .error ∧ d.wh.mfstErr = 9) ∧
           (s.chip.soState 0 ≠ 0 →
             (let late := reached 16 (s.chip.rd SOA_FRAME_FRAME % 65536) s.chip.wh.runFrame
              d.wh.mfstState = .staged ∧ d.wh.mfstGroups = gs ∧
              d.wh.mfstLate = (s.chip.wh.runWhen == 1 && late) ∧
              d.wh.mfstAtFrame = (s.chip.wh.runWhen == 1 && !late)))) ∧
         (served = true → mfstErr bs = 0 → s.chip.wh.runWhen = 2 → s.chip.wh.runDram = false →
           s.chip.soLocked = false → ∀ e, gs = [⟨0, [e]⟩] → s.chip.access e.addr ≠ .ok →
             s.chip.sameBut d clockDoms ∧ d.wh.mfstState = .applying ∧ d.wh.mfstBurst = true ∧
             d.wh.mfstApplied = s.chip.wh.mfstApplied ∧ d.wh.mfstSkipped = s.chip.wh.mfstSkipped + 1 ∧
             (s.chip.access e.addr = .pwroff → e.addr < 0x800000 → d.wh.err.getLsbD erPwroff = true))))) ∧
  (∀ (s : State) (inBlanking : Bool), s.runs →
    (s.chip.wh.mfstBurst = false → exec (.mfstBurstEnd inBlanking) s = .next s) ∧
    (s.chip.wh.mfstBurst = true →
      (let last := s.chip.wh.mfstState = .applying ∧ s.chip.wh.mfstGroups = []
       ∃ d, exec (.mfstBurstEnd inBlanking) s = .next { s with chip := d } ∧ d = { s.chip with wh := d.wh } ∧
         d.wh.mfstBurst = false ∧
         d.wh.mfstOverrun = (s.chip.wh.mfstOverrun || (!inBlanking && s.chip.wh.runWhen != 2)) ∧
         (last → d.wh.mfstState = .done ∧ d.wh.mfstErr = 0 ∧ d.wh.evt.getLsbD evMfst = true) ∧
         (¬last → d.wh.mfstState = s.chip.wh.mfstState ∧ d.wh.mfstGroups = s.chip.wh.mfstGroups)))) ∧
  (∀ s : State, s.runs →
    (s.chip.headIs (· == 3) = false → exec .bargeManifest s = .next s) ∧
    (s.chip.packetReady 3 →
      (let taken := s.chip.mfstPending = true ∨ s.chip.mode.mode = .load
       let bs := s.chip.brg.payload
       ∃ d, exec .bargeManifest s = .next { s with chip := d } ∧ d.brg.stream = [] ∧
         (taken → d.wh = s.chip.wh ∧ s.chip.sameBut d (VIN_BRG_CNT2.addr :: clockDoms) ∧
           d.rd VIN_BRG_CNT2_NOBUF = satAdd 16 (s.chip.rd VIN_BRG_CNT2_NOBUF) 1) ∧
         (¬taken → s.chip.brg.crcOk = false → d.wh = s.chip.wh ∧ d.brg.failed = true ∧
           s.chip.sameBut d (VIN_BRG_CNT1.addr :: clockDoms) ∧
           d.rd VIN_BRG_CNT1_CRC_ERR = satAdd 16 (s.chip.rd VIN_BRG_CNT1_CRC_ERR) 1) ∧
         (¬taken → s.chip.brg.crcOk = true → s.chip.packetDup = true → d.wh = s.chip.wh ∧
           s.chip.sameBut d (VIN_BRG_CNT0.addr :: clockDoms) ∧
           d.rd VIN_BRG_CNT0_DUP = satAdd 16 (s.chip.rd VIN_BRG_CNT0_DUP) 1) ∧
         (¬taken → s.chip.brg.crcOk = true → s.chip.packetDup = false →
           d.wh.mfstTag = mfstTagOf bs ∧
           (mfstErr bs ≠ 0 → d.wh.mfstState = .error ∧ d.wh.mfstErr = mfstErr bs) ∧
           (mfstErr bs = 0 → s.chip.brg.param % 4 ≠ 2 → s.chip.soState 0 ≠ 0 →
             d.wh.mfstState = .staged ∧ d.wh.mfstOrigin = .barge ∧ d.wh.runWhen = s.chip.brg.param % 4 ∧
             d.wh.mfstGroups = mfstGroupsOf (mfstWords (mfstCount bs) (bs.drop 16)))))))

/-- The debug port (R805-R810). -/
def Obligations.DebugPort : Prop :=
  (∀ (s : State) (code dr : Nat) (bit : Bool), s.chip.tapAnswers = false →
    exec .tapReset s = .next s ∧ exec .tapIdcode s = .next s ∧ exec (.tapBypass code bit) s = .next s ∧
      exec (.tapCsrRequest dr) s = .next s) ∧
  (∀ (s : State) (code dr : Nat) (bit : Bool), s.chip.tapAnswers = true →
    (∃ d, exec .tapReset s = .next { s with chip := d } ∧
      d = { s.chip with regs := d.regs, tap := { s.chip.tap with ir := 0xE } } ∧ s.chip.sameBut d [DBG_STAT.addr] ∧
      d.rd DBG_STAT_TAP_RESET = 1) ∧
    (∃ d, exec .tapIdcode s = .next { s with chip := d } ∧
      d = { s.chip with regs := d.regs, tap := { s.chip.tap with ir := 0xE, dr := 0x04826001 + s.chip.revision % 16 * 2 ^ 28 } } ∧
      s.chip.sameBut d [DBG_STAT.addr] ∧ d.rd DBG_STAT_TAP_RESET = 0) ∧
    (code % 16 = 0xE ∨ code % 16 = 8 → exec (.tapBypass code bit) s = .next s) ∧
    (code % 16 ≠ 0xE → code % 16 ≠ 8 → ∃ d, exec (.tapBypass code bit) s = .next { s with chip := d } ∧
      d = { s.chip with regs := d.regs, tap := { s.chip.tap with ir := code % 16, bypass := bit, dr := 0 } } ∧
      s.chip.sameBut d [DBG_STAT.addr] ∧ d.rd DBG_STAT_TAP_RESET = 0) ∧
    (let a := dr / 2 ^ 34 % 2 ^ 22 * 4
     let denied := s.chip.pins.tmode = true ∨ s.chip.rd DBG_CTL_TAP_CSR = 0 ∨ 0x800000 ≤ a
     ∃ d, exec (.tapCsrRequest dr) s = .next { s with chip := d } ∧ d = { s.chip with regs := d.regs, tap := d.tap } ∧
       s.chip.sameBut d [DBG_STAT.addr] ∧ d.tap.ir = 8 ∧ d.tap.dr = s.chip.tap.capture ∧
       (s.chip.tap.busy = true → d.rd DBG_STAT_OVERRUN = 1 ∧ d.tap.busy = true ∧ d.tap.reqAddr = s.chip.tap.reqAddr ∧
         d.tap.reqData = s.chip.tap.reqData ∧ d.tap.reqWrite = s.chip.tap.reqWrite) ∧
       (s.chip.tap.busy = false →
         d.tap.reqAddr = a ∧ d.tap.reqWrite = dr.testBit 56 ∧ d.tap.reqData = BitVec.ofNat 32 dr ∧ d.tap.done = false ∧
         (denied → d.tap.busy = false ∧ d.tap.err = 1 ∧ d.tap.data = 0 ∧ d.rd DBG_STAT_DENIED = 1) ∧
         (¬denied → d.tap.busy = true ∧ d.tap.err = 0 ∧ d.rd DBG_STAT_DENIED = s.chip.rd DBG_STAT_DENIED)))) ∧
  (∀ s : State, s.runs →
    (s.chip.tap.busy = false ∨ s.chip.wh.mfstBurst = true → exec .tapCsrComplete s = .next s) ∧
    (s.chip.tap.busy = true → s.chip.wh.mfstBurst = false →
      (let a := s.chip.tap.reqAddr
       ∃ d, exec .tapCsrComplete s = .next { s with chip := d } ∧ d.tap.busy = false ∧ d.tap.done = true ∧
         (s.chip.access a ≠ .ok → d = { s.chip with regs := d.regs, tap := d.tap } ∧ s.chip.sameBut d [DBG_STAT.addr] ∧
           d.rd DBG_STAT_ADDR_ERR = 1 ∧
           d.rd DBG_STAT_ACCESSES = satAdd DBG_STAT_ACCESSES.width (s.chip.rd DBG_STAT_ACCESSES) 1 ∧
           (s.chip.tap.reqWrite = false → d.tap.data = 0)) ∧
         (s.chip.access a = .ok → s.chip.tap.reqWrite = false →
           d = { s.chip with regs := d.regs, tap := d.tap, free := d.free } ∧ s.chip.sameBut d [DBG_STAT.addr] ∧
           d.tap.data = s.chip.readReg a ∧
           d.rd DBG_STAT_ACCESSES = satAdd DBG_STAT_ACCESSES.width (s.chip.rd DBG_STAT_ACCESSES) 1) ∧
         (s.chip.access a = .ok → s.chip.tap.reqWrite = true → s.chip.pdOn 2 = true → a < 0x800000 →
           ∃ e, exec (.registerWrite a s.chip.tap.reqData 0xFFFFFFFF#32) s = .next { s with chip := e } ∧
             d = { e with regs := d.regs, tap := { e.tap with busy := false, done := true } } ∧
             e.sameBut d [DBG_STAT.addr]))))

/-- A step is the front command's effect (log entry 1); the idle tick is the model's choice (log entry 2). -/
def Obligations.StepRunsFrontCommand : Prop :=
  (∀ (s : State) (i : Instr) (rest : List Instr), s.pending = i :: rest → step s = exec i { s with pending := rest }) ∧
  (∀ s : State, s.pending = [] →
    (s.runs → step s = .next { s with chip := s.chip.tbTick }) ∧ (¬s.runs → step s = .next s)) ∧
  (∀ (i : Instr) (s : State), ∃ d, exec i s = .next { s with chip := d })

/-- State.reset (R28, R29, R764). -/
def Obligations.ResetState : Prop :=
  State.reset.pending = [] ∧ State.reset.sound = true ∧ State.reset.chip.pins.por = true ∧ State.reset.dark = true ∧
  (∀ a, State.reset.chip.get a = resetWord a ∧ State.reset.chip.getEff a = resetWord a) ∧
  State.reset.chip.wh.evt = 0 ∧ State.reset.chip.wh.evtEn = 1 ∧ State.reset.chip.wh.err = 0 ∧
  State.reset.chip.locks.pinmux = false ∧ State.reset.chip.locks.map = false ∧ State.reset.chip.locks.maxv = false ∧
  State.reset.chip.locks.dbg = false ∧ State.reset.chip.locks.safe = false ∧
  (∀ n, State.reset.chip.pdOn n = decide (n < 2)) ∧ State.reset.chip.anyPll = false ∧
  State.reset.chip.stores = ⟨[], [], [], [], State.reset.chip.variantS, State.reset.chip.revision⟩

/-- The invariant that every step keeps. -/
def Obligations.EveryStepKeepsSound : Prop :=
  ∀ s t : State, s.sound = true → step s = .next t → t.sound = true

/-- Who can change the stores. -/
def Obligations.OnlyStoringCommandsStore : Prop :=
  ∀ (i : Instr) (s : State), mayStore i = false →
    ∃ d, exec i s = .next { s with chip := d } ∧ d.stores = s.chip.stores

/-- Who can change the mode and its cause (Table 1.4, R201). -/
def Obligations.OnlyEdgesChangeTheMode : Prop :=
  ∀ (i : Instr) (s : State), mayEnter i = false →
    ∃ d, exec i s = .next { s with chip := d } ∧ d.mode.mode = s.chip.mode.mode ∧
      (mayLimp i = false → d.mode.cause = s.chip.mode.cause)

/-- The allocator (R80-R83). -/
def Obligations.PlaneDurations : Prop :=
  ∀ (W : List Nat) (T : Nat), W ≠ [] →
    (allocate W T).length = W.length ∧ (allocate W T).sum = T ∧
    (W.sum ≠ 0 → ∀ i, i < W.length →
      (W.getD i 0 = 0 → (allocate W T).getD i 0 = 0) ∧
      ((allocate W T).getD i 0 = W.getD i 0 * T / W.sum ∨ (allocate W T).getD i 0 = W.getD i 0 * T / W.sum + 1)) ∧
    (W.sum = 0 → ∀ i, i < W.length → (allocate W T).getD i 0 = if i = 0 then T else 0)
end

