-- ==== Sys2Proof/Laws/SMap.lean ====
section
/-! SUPPORT. The sparse map: what a set leaves to be read, and that every operation keeps the canonical form. -/

namespace Sys2Proof.Machine

variable {α : Type}

/-- Every key of a map is larger than `k`. -/
def SMap.above (k : Nat) (m : List (Nat × α)) : Prop := ∀ p ∈ m, k < p.1

theorem SMap.wf_iff [DecidableEq α] (d : Nat → α) (m : List (Nat × α)) :
    SMap.wf d m = true ↔ m.Pairwise (fun p q => p.1 < q.1) ∧ ∀ p ∈ m, p.2 ≠ d p.1 := by
  induction m with
  | nil => simp [SMap.wf]
  | cons x t ih =>
    obtain ⟨a, v⟩ := x
    cases t with
    | nil => simp [SMap.wf]
    | cons y t' =>
      obtain ⟨b, w⟩ := y
      rw [SMap.wf]
      simp only [Bool.and_eq_true, decide_eq_true_eq, ih, List.pairwise_cons, List.mem_cons, forall_eq_or_imp]
      constructor
      · rintro ⟨⟨h1, h2⟩, ⟨h3, h4⟩, h5, h6⟩
        exact ⟨⟨⟨h2, fun q hq => Nat.lt_trans h2 (h3 q hq)⟩, h3, h4⟩, h1, h5, h6⟩
      · rintro ⟨⟨⟨h2, _⟩, h3, h4⟩, h1, h5, h6⟩
        exact ⟨⟨h1, h2⟩, ⟨h3, h4⟩, h5, h6⟩

theorem SMap.mem_ins (k : Nat) (v : α) (m : List (Nat × α)) (p : Nat × α) :
    p ∈ SMap.ins k v m ↔ p = (k, v) ∨ p ∈ m := by
  induction m with
  | nil => simp [SMap.ins]
  | cons x t ih =>
    obtain ⟨a, w⟩ := x
    simp only [SMap.ins]
    split
    · simp
    · simp [ih, or_left_comm]

theorem SMap.ins_pairwise (k : Nat) (v : α) (m : List (Nat × α)) (h : m.Pairwise fun p q => p.1 < q.1)
    (hk : ∀ p ∈ m, p.1 ≠ k) : (SMap.ins k v m).Pairwise fun p q => p.1 < q.1 := by
  induction m with
  | nil => simp [SMap.ins]
  | cons x t ih =>
    obtain ⟨a, w⟩ := x
    rw [List.pairwise_cons] at h
    simp only [SMap.ins]
    split
    next hlt =>
      refine List.pairwise_cons.mpr ⟨fun q hq => ?_, List.pairwise_cons.mpr h⟩
      rcases List.mem_cons.mp hq with rfl | hq
      · exact hlt
      · exact Nat.lt_trans hlt (h.1 q hq)
    next hge =>
      refine List.pairwise_cons.mpr ⟨fun q hq => ?_, ih h.2 fun p hp => hk p (List.mem_cons_of_mem _ hp)⟩
      have ha : a ≠ k := hk (a, w) List.mem_cons_self
      rcases (SMap.mem_ins k v t q).mp hq with rfl | hq
      · show a < k
        omega
      · exact h.1 q hq

@[simp] theorem SMap.wf_filter [DecidableEq α] (d : Nat → α) (f : Nat × α → Bool) (m : List (Nat × α)) (h : SMap.wf d m = true) :
    SMap.wf d (m.filter f) = true := by
  rw [SMap.wf_iff] at h ⊢
  exact ⟨h.1.filter _, fun p hp => h.2 p (List.mem_of_mem_filter hp)⟩

@[simp] theorem SMap.erase_wf [DecidableEq α] (d : Nat → α) (m : List (Nat × α)) (k : Nat) (h : SMap.wf d m = true) :
    SMap.wf d (SMap.erase m k) = true := SMap.wf_filter d _ m h

@[simp] theorem SMap.clearRange_wf [DecidableEq α] (d : Nat → α) (m : List (Nat × α)) (lo hi : Nat) (h : SMap.wf d m = true) :
    SMap.wf d (SMap.clearRange m lo hi) = true := SMap.wf_filter d _ m h

/-- A set keeps the canonical form. -/
@[simp] theorem SMap.set_wf [DecidableEq α] (d : Nat → α) (m : List (Nat × α)) (k : Nat) (v : α) (h : SMap.wf d m = true) :
    SMap.wf d (SMap.set d m k v) = true := by
  unfold SMap.set
  split
  · exact SMap.erase_wf d m k h
  next hv =>
    have he := SMap.erase_wf d m k h
    rw [SMap.wf_iff] at he ⊢
    refine ⟨SMap.ins_pairwise k v _ he.1 fun p hp => ?_, fun p hp => ?_⟩
    · simpa [SMap.erase] using (List.mem_filter.mp hp).2
    · rcases (SMap.mem_ins k v _ p).mp hp with rfl | hp
      · exact hv
      · exact he.2 p hp

@[simp] theorem SMap.setRun_wf [DecidableEq α] (d : Nat → α) (vs : List α) (m : List (Nat × α)) (k step : Nat)
    (h : SMap.wf d m = true) : SMap.wf d (SMap.setRun d m k step vs) = true := by
  induction vs generalizing m k with
  | nil => exact h
  | cons v t ih => exact ih _ _ (SMap.set_wf d m k v h)

/-- A commit of a range keeps the canonical form. -/
@[simp] theorem SMap.copyRange_wf [DecidableEq α] (d : Nat → α) (src m : List (Nat × α)) (lo hi : Nat)
    (hs : SMap.wf d src = true) (hm : SMap.wf d m = true) : SMap.wf d (SMap.copyRange src m lo hi) = true := by
  rw [SMap.wf_iff] at hs hm ⊢
  unfold SMap.copyRange
  refine ⟨?_, fun p hp => ?_⟩
  · rw [List.pairwise_append, List.pairwise_append]
    refine ⟨⟨hm.1.filter _, hs.1.filter _, fun a ha b hb => ?_⟩, hm.1.filter _, fun a ha b hb => ?_⟩
    · simp only [List.mem_filter, decide_eq_true_eq] at ha hb
      omega
    · simp only [List.mem_append, List.mem_filter, decide_eq_true_eq] at ha hb
      omega
  · simp only [List.mem_append, List.mem_filter] at hp
    rcases hp with (⟨hp, _⟩ | ⟨hp, _⟩) | ⟨hp, _⟩
    · exact hm.2 p hp
    · exact hs.2 p hp
    · exact hm.2 p hp

/-! ### Reading back -/

theorem SMap.get_ins_self (d : Nat → α) (k : Nat) (v : α) (m : List (Nat × α)) (hk : ∀ p ∈ m, p.1 ≠ k) :
    SMap.get d (SMap.ins k v m) k = v := by
  induction m with
  | nil => simp [SMap.ins, SMap.get]
  | cons x t ih =>
    obtain ⟨a, w⟩ := x
    have ha : a ≠ k := hk (a, w) List.mem_cons_self
    simp only [SMap.ins]
    split
    · simp [SMap.get]
    · simp only [SMap.get, ha, if_false]
      exact ih fun p hp => hk p (List.mem_cons_of_mem _ hp)

theorem SMap.get_ins_ne (d : Nat → α) (k j : Nat) (v : α) (m : List (Nat × α)) (hj : j ≠ k) :
    SMap.get d (SMap.ins k v m) j = SMap.get d m j := by
  induction m with
  | nil => simp [SMap.ins, SMap.get, hj.symm]
  | cons x t ih =>
    obtain ⟨a, w⟩ := x
    simp only [SMap.ins]
    split
    · simp [SMap.get, hj.symm]
    · simp only [SMap.get, ih]

theorem SMap.get_erase_self (d : Nat → α) (m : List (Nat × α)) (k : Nat) : SMap.get d (SMap.erase m k) k = d k := by
  induction m with
  | nil => rfl
  | cons x t ih =>
    obtain ⟨a, w⟩ := x
    by_cases ha : a = k
    · simpa [SMap.erase, ha] using ih
    · simpa [SMap.erase, ha, SMap.get] using ih

theorem SMap.get_erase_ne (d : Nat → α) (m : List (Nat × α)) (k j : Nat) (hj : j ≠ k) :
    SMap.get d (SMap.erase m k) j = SMap.get d m j := by
  induction m with
  | nil => rfl
  | cons x t ih =>
    obtain ⟨a, w⟩ := x
    by_cases ha : a = k
    · simpa [SMap.erase, ha, SMap.get, hj.symm] using ih
    · simp only [SMap.erase, ne_eq, ha, not_false_eq_true, decide_true, List.filter_cons_of_pos, SMap.get]
      split
      · rfl
      · simpa [SMap.erase] using ih

/-- A key reads as it was set. -/
@[simp] theorem SMap.get_set_self [DecidableEq α] (d : Nat → α) (m : List (Nat × α)) (k : Nat) (v : α) :
    SMap.get d (SMap.set d m k v) k = v := by
  unfold SMap.set
  split
  next hv => rw [SMap.get_erase_self, hv]
  next hv =>
    exact SMap.get_ins_self d k v _ fun p hp => by simpa [SMap.erase] using (List.mem_filter.mp hp).2

/-- Every other key reads as before. -/
theorem SMap.get_set_ne [DecidableEq α] (d : Nat → α) (m : List (Nat × α)) (k j : Nat) (v : α) (hj : j ≠ k) :
    SMap.get d (SMap.set d m k v) j = SMap.get d m j := by
  unfold SMap.set
  split
  · exact SMap.get_erase_ne d m k j hj
  · rw [SMap.get_ins_ne d k j v _ hj, SMap.get_erase_ne d m k j hj]

/-- A run leaves every key below it as it was. -/
theorem SMap.get_setRun_below [DecidableEq α] (d : Nat → α) (vs : List α) (m : List (Nat × α)) (k step j : Nat)
    (hj : j < k) : SMap.get d (SMap.setRun d m k step vs) j = SMap.get d m j := by
  induction vs generalizing m k with
  | nil => rfl
  | cons v t ih =>
    rw [SMap.setRun, ih _ _ (by omega), SMap.get_set_ne d m k j v (by omega)]

/-- A run of bytes leaves every key behind it as it was. -/
theorem SMap.get_setRun_behind [DecidableEq α] (d : Nat → α) (vs : List α) (m : List (Nat × α)) (k j : Nat)
    (hj : k + vs.length ≤ j) : SMap.get d (SMap.setRun d m k 1 vs) j = SMap.get d m j := by
  induction vs generalizing m k with
  | nil => rfl
  | cons v t ih =>
    simp only [List.length_cons] at hj
    rw [SMap.setRun, ih _ _ (by omega), SMap.get_set_ne d m k j v (by omega)]

/-- A run of bytes reads back. -/
theorem SMap.get_setRun_inside [DecidableEq α] (d : Nat → α) (vs : List α) (m : List (Nat × α)) (k i : Nat)
    (hi : i < vs.length) : SMap.get d (SMap.setRun d m k 1 vs) (k + i) = vs[i] := by
  induction vs generalizing m k i with
  | nil => simp at hi
  | cons v t ih =>
    cases i with
    | zero => simp [SMap.setRun, SMap.get_setRun_below]
    | succ n =>
      have := ih (SMap.set d m k v) (k + 1) n (by simpa using hi)
      simpa [SMap.setRun, Nat.add_assoc, Nat.add_comm 1 n] using this

end Sys2Proof.Machine
end

