-- ==== Sys2Proof/Laws/Chip.lean ====
section
/-! SUPPORT. Soundness and the stores of a part: how they follow from the parts of a part, through a choice, a fold, an
option and a change of one field. The other files of laws prove of every operation that it keeps a part sound
(`_sound`), of those that touch no store that they leave the stores as they are (`_stores`), and of those that enter no
mode that they leave the mode and its cause (`_seat`). -/

namespace Sys2Proof.Machine

theorem Chip.sound_iff (c : Chip) :
    c.sound = true ↔ c.stores.wf = true ∧ SMap.wf resetWord c.regs = true ∧ SMap.wf resetWord c.eff = true
      ∧ SMap.wf resetWord (c.soA.snap.getD []) = true ∧ SMap.wf resetWord (c.soB.snap.getD []) = true := by
  simp [Chip.sound, ScanOut.held, and_assoc]

@[simp] theorem Chip.regs_wf (c : Chip) (h : c.sound = true) : SMap.wf resetWord c.regs = true := (c.sound_iff.mp h).2.1

@[simp] theorem Chip.eff_wf (c : Chip) (h : c.sound = true) : SMap.wf resetWord c.eff = true := (c.sound_iff.mp h).2.2.1

@[simp] theorem Chip.heldA_wf (c : Chip) (h : c.sound = true) : SMap.wf resetWord (c.soA.snap.getD []) = true :=
  (c.sound_iff.mp h).2.2.2.1

@[simp] theorem Chip.heldB_wf (c : Chip) (h : c.sound = true) : SMap.wf resetWord (c.soB.snap.getD []) = true :=
  (c.sound_iff.mp h).2.2.2.2

@[simp] theorem Chip.stores_wf (c : Chip) (h : c.sound = true) : c.stores.wf = true := (c.sound_iff.mp h).1

@[simp] theorem Memory.wf_eq (d : Nat → Byte) (m : List Host.Cell) : Memory.wf d m = SMap.wf d m := rfl

theorem Stores.wf_iff (s : Stores) :
    s.wf = true ↔ SMap.wf dramDefault s.dram = true ∧ SMap.wf flashDefault s.flash = true
      ∧ SMap.wf safeDefault s.safe = true ∧ SMap.wf otpDefault s.otp = true := by
  simp [Stores.wf, and_assoc]

@[simp] theorem Chip.dram_wf (c : Chip) (h : c.sound = true) : SMap.wf dramDefault c.dram = true :=
  (c.stores.wf_iff.mp (c.stores_wf h)).1

@[simp] theorem Chip.flash_wf (c : Chip) (h : c.sound = true) : SMap.wf flashDefault c.flash = true :=
  (c.stores.wf_iff.mp (c.stores_wf h)).2.1

@[simp] theorem Chip.safe_wf (c : Chip) (h : c.sound = true) : SMap.wf safeDefault c.cmp.safe = true :=
  (c.stores.wf_iff.mp (c.stores_wf h)).2.2.1

@[simp] theorem Chip.otp_wf (c : Chip) (h : c.sound = true) : SMap.wf otpDefault c.ld.otp = true :=
  (c.stores.wf_iff.mp (c.stores_wf h)).2.2.2

@[simp] theorem Chip.sound_ite (p : Prop) [Decidable p] (a b : Chip) (ha : a.sound = true) (hb : b.sound = true) :
    (if p then a else b).sound = true := by
  split <;> assumption

@[simp] theorem Chip.stores_ite (p : Prop) [Decidable p] (a b : Chip) :
    (if p then a else b).stores = if p then a.stores else b.stores := apply_ite _ _ _ _

@[simp] theorem Chip.foldl_sound {α : Type} (f : Chip → α → Chip) (l : List α) (c : Chip) (h : c.sound = true)
    (hf : ∀ (c : Chip) (x : α), c.sound = true → (f c x).sound = true) : (l.foldl f c).sound = true := by
  induction l generalizing c with
  | nil => exact h
  | cons x t ih => exact ih _ (hf c x h)

@[simp] theorem Chip.foldr_sound {α : Type} (f : α → Chip → Chip) (l : List α) (c : Chip) (h : c.sound = true)
    (hf : ∀ (x : α) (c : Chip), c.sound = true → (f x c).sound = true) : (l.foldr f c).sound = true := by
  induction l with
  | nil => exact h
  | cons x t ih => exact hf x _ ih

@[simp] theorem Chip.foldr_stores {α : Type} (f : α → Chip → Chip) (l : List α) (c : Chip)
    (hf : ∀ (x : α) (c : Chip), (f x c).stores = c.stores) : (l.foldr f c).stores = c.stores := by
  induction l with
  | nil => rfl
  | cons x t ih => rw [List.foldr_cons, hf, ih]

@[simp] theorem Chip.seat_ite (p : Prop) [Decidable p] (a b : Chip) :
    (if p then a else b).seat = if p then a.seat else b.seat := apply_ite _ _ _ _

@[simp] theorem Chip.foldl_seat {α : Type} (f : Chip → α → Chip) (l : List α) (c : Chip)
    (hf : ∀ (c : Chip) (x : α), (f c x).seat = c.seat) : (l.foldl f c).seat = c.seat := by
  induction l generalizing c with
  | nil => rfl
  | cons x t ih => rw [List.foldl_cons, ih, hf]

@[simp] theorem Chip.foldr_seat {α : Type} (f : α → Chip → Chip) (l : List α) (c : Chip)
    (hf : ∀ (x : α) (c : Chip), (f x c).seat = c.seat) : (l.foldr f c).seat = c.seat := by
  induction l with
  | nil => rfl
  | cons x t ih => rw [List.foldr_cons, hf, ih]

@[simp] theorem Chip.foldl_stores {α : Type} (f : Chip → α → Chip) (l : List α) (c : Chip)
    (hf : ∀ (c : Chip) (x : α), (f c x).stores = c.stores) : (l.foldl f c).stores = c.stores := by
  induction l generalizing c with
  | nil => rfl
  | cons x t ih => rw [List.foldl_cons, ih, hf]

/-! What is empty after reset is canonical. -/

@[simp] theorem SMap.wf_nil {α : Type} [DecidableEq α] (d : Nat → α) : SMap.wf d ([] : List (Nat × α)) = true := rfl

@[simp] theorem Loader.reset_otp : Loader.reset.otp = [] := rfl

@[simp] theorem Loader.slept_otp (l : Loader) : l.slept.otp = l.otp := rfl

@[simp] theorem ScanOut.reset_snap : ScanOut.reset.snap = none := rfl

@[simp] theorem Compose.reset_safe : Compose.reset.safe = [] := rfl

/-! A part written out field by field. -/

@[simp] theorem Chip.stores_mk (variantS : Bool) (revision : Nat) (regs : List (Nat × Word)) (eff : List (Nat ×
    Word)) (mode : ModeMachine) (wh : Wharf) (ck : Clocks) (pw : Power) (ld : Loader) (lk : Lockkeeper) (pins :
    Pins) (tap : Tap) (locks : Locks) (mcA : Channel) (mcB : Channel) (mcx : MemShared) (dram : List Host.Cell)
    (flash : List Host.Cell) (vin : VideoIn) (brg : Barge) (cam : Camera) (cmp : Compose) (soA : ScanOut) (soB :
    ScanOut) (bps : BitPlane) (bsc : Beam) (ltd : Light) (twp : Towpath) (free : Nat) :
(Chip.mk variantS revision regs eff mode wh ck pw ld lk pins tap locks mcA mcB mcx dram flash vin brg cam cmp
    soA soB bps bsc ltd twp free).stores = ⟨dram, flash, cmp.safe, ld.otp, variantS, revision⟩ := (rfl)

@[simp] theorem Chip.stores_eta (c : Chip) :
    (⟨c.dram, c.flash, c.cmp.safe, c.ld.otp, c.variantS, c.revision⟩ : Stores) = c.stores := (rfl)

@[simp] theorem Chip.seat_mk (variantS : Bool) (revision : Nat) (regs : List (Nat × Word)) (eff : List (Nat ×
    Word)) (mode : ModeMachine) (wh : Wharf) (ck : Clocks) (pw : Power) (ld : Loader) (lk : Lockkeeper) (pins :
    Pins) (tap : Tap) (locks : Locks) (mcA : Channel) (mcB : Channel) (mcx : MemShared) (dram : List Host.Cell)
    (flash : List Host.Cell) (vin : VideoIn) (brg : Barge) (cam : Camera) (cmp : Compose) (soA : ScanOut) (soB :
    ScanOut) (bps : BitPlane) (bsc : Beam) (ltd : Light) (twp : Towpath) (free : Nat) :
(Chip.mk variantS revision regs eff mode wh ck pw ld lk pins tap locks mcA mcB mcx dram flash vin brg cam cmp
    soA soB bps bsc ltd twp free).seat = (mode.mode, mode.cause) := (rfl)

@[simp] theorem Chip.seat_eta (c : Chip) : (c.mode.mode, c.mode.cause) = c.seat := (rfl)

@[simp] theorem Chip.sound_mk (variantS : Bool) (revision : Nat) (regs : List (Nat × Word)) (eff : List (Nat ×
    Word)) (mode : ModeMachine) (wh : Wharf) (ck : Clocks) (pw : Power) (ld : Loader) (lk : Lockkeeper) (pins :
    Pins) (tap : Tap) (locks : Locks) (mcA : Channel) (mcB : Channel) (mcx : MemShared) (dram : List Host.Cell)
    (flash : List Host.Cell) (vin : VideoIn) (brg : Barge) (cam : Camera) (cmp : Compose) (soA : ScanOut) (soB :
    ScanOut) (bps : BitPlane) (bsc : Beam) (ltd : Light) (twp : Towpath) (free : Nat) :
((Chip.mk variantS revision regs eff mode wh ck pw ld lk pins tap locks mcA mcB mcx dram flash vin brg cam cmp
    soA soB bps bsc ltd twp free).sound = true) =
      (Stores.wf ⟨dram, flash, cmp.safe, ld.otp, variantS, revision⟩ = true ∧ SMap.wf resetWord regs = true
        ∧ SMap.wf resetWord eff = true ∧ SMap.wf resetWord (soA.snap.getD []) = true
        ∧ SMap.wf resetWord (soB.snap.getD []) = true) := propext (Chip.sound_iff _)

end Sys2Proof.Machine
end

