-- ==== Sys2Proof/Laws/Flags.lean ====
section
/-! SUPPORT. Every operation of Machine/Flags.lean keeps the part sound; those that touch no store leave the stores as
they are, and those that enter no mode leave the mode and its cause. -/

namespace Sys2Proof.Machine

open Sys2Proof

@[simp] theorem Chip.setReg_sound (c : Chip) (a : Nat) (w : Word) (h : c.sound = true) : (Chip.setReg c a
    w).sound = true := by
  simp (contextual := true) (maxDischargeDepth := 60) [Chip.setReg, h]

@[simp] theorem Chip.setReg_stores (c : Chip) (a : Nat) (w : Word) : (Chip.setReg c a w).stores = c.stores := by
  rfl

@[simp] theorem Chip.setReg_seat (c : Chip) (a : Nat) (w : Word) : (Chip.setReg c a w).seat = c.seat := by
  rfl

@[simp] theorem Chip.wr_sound (c : Chip) (f : Field) (v : Nat) (h : c.sound = true) : (Chip.wr c f v).sound =
    true := by
  simp (contextual := true) (maxDischargeDepth := 60) [Chip.wr, h]

@[simp] theorem Chip.wr_stores (c : Chip) (f : Field) (v : Nat) : (Chip.wr c f v).stores = c.stores := by
  rfl

@[simp] theorem Chip.wr_seat (c : Chip) (f : Field) (v : Nat) : (Chip.wr c f v).seat = c.seat := by
  rfl

@[simp] theorem Chip.setEff_sound (c : Chip) (a : Nat) (w : Word) (h : c.sound = true) : (Chip.setEff c a
    w).sound = true := by
  simp (contextual := true) (maxDischargeDepth := 60) [Chip.setEff, h]

@[simp] theorem Chip.setEff_stores (c : Chip) (a : Nat) (w : Word) : (Chip.setEff c a w).stores = c.stores := by
  rfl

@[simp] theorem Chip.setEff_seat (c : Chip) (a : Nat) (w : Word) : (Chip.setEff c a w).seat = c.seat := by
  rfl

@[simp] theorem Chip.commitRange_sound (c : Chip) (lo : Nat) (hi : Nat) (h : c.sound = true) : (Chip.commitRange
    c lo hi).sound = true := by
  simp (contextual := true) (maxDischargeDepth := 60) [Chip.commitRange, h]

@[simp] theorem Chip.commitRange_stores (c : Chip) (lo : Nat) (hi : Nat) : (Chip.commitRange c lo hi).stores =
    c.stores := by
  rfl

@[simp] theorem Chip.commitRange_seat (c : Chip) (lo : Nat) (hi : Nat) : (Chip.commitRange c lo hi).seat =
    c.seat := by
  rfl

@[simp] theorem Chip.bump_sound (c : Chip) (f : Field) (k : Nat) (h : c.sound = true) : (Chip.bump c f k).sound
    = true := by
  simp (contextual := true) (maxDischargeDepth := 60) [Chip.bump, h]

@[simp] theorem Chip.bump_stores (c : Chip) (f : Field) (k : Nat) : (Chip.bump c f k).stores = c.stores := by
  rfl

@[simp] theorem Chip.bump_seat (c : Chip) (f : Field) (k : Nat) : (Chip.bump c f k).seat = c.seat := by
  rfl

@[simp] theorem Chip.setBit_sound (c : Chip) (f : Field) (n : Nat) (b : Bool) (h : c.sound = true) :
    (Chip.setBit c f n b).sound = true := by
  simp (contextual := true) (maxDischargeDepth := 60) [Chip.setBit, h]

@[simp] theorem Chip.setBit_stores (c : Chip) (f : Field) (n : Nat) (b : Bool) : (Chip.setBit c f n b).stores =
    c.stores := by
  rfl

@[simp] theorem Chip.setBit_seat (c : Chip) (f : Field) (n : Nat) (b : Bool) : (Chip.setBit c f n b).seat =
    c.seat := by
  rfl

@[simp] theorem Chip.evt_sound (c : Chip) (n : Nat) (h : c.sound = true) : (Chip.evt c n).sound = true := by
  simp (contextual := true) (maxDischargeDepth := 60) [Chip.evt, h]

@[simp] theorem Chip.evt_stores (c : Chip) (n : Nat) : (Chip.evt c n).stores = c.stores := by
  rfl

@[simp] theorem Chip.evt_seat (c : Chip) (n : Nat) : (Chip.evt c n).seat = c.seat := by
  rfl

@[simp] theorem Chip.whErr_sound (c : Chip) (e : Nat) (h : c.sound = true) : (Chip.whErr c e).sound = true := by
  simp (contextual := true) (maxDischargeDepth := 60) [Chip.whErr, h]

@[simp] theorem Chip.whErr_stores (c : Chip) (e : Nat) : (Chip.whErr c e).stores = c.stores := by
  rfl

@[simp] theorem Chip.whErr_seat (c : Chip) (e : Nat) : (Chip.whErr c e).seat = c.seat := by
  rfl

@[simp] theorem Chip.saturate_sound (c : Chip) (base : Nat) (stage : Nat) (k : Nat) (h : c.sound = true) :
    (Chip.saturate c base stage k).sound = true := by
  simp (contextual := true) (maxDischargeDepth := 60) [Chip.saturate, h]

@[simp] theorem Chip.saturate_stores (c : Chip) (base : Nat) (stage : Nat) (k : Nat) : (Chip.saturate c base
    stage k).stores = c.stores := by
  simp [Chip.saturate]

@[simp] theorem Chip.saturate_seat (c : Chip) (base : Nat) (stage : Nat) (k : Nat) : (Chip.saturate c base stage
    k).seat = c.seat := by
  simp [Chip.saturate]

@[simp] theorem Chip.takeFree_sound (c : Chip) (h : c.sound = true) : (Chip.takeFree c).sound = true := by
  simp (contextual := true) (maxDischargeDepth := 60) [Chip.takeFree, h]

@[simp] theorem Chip.takeFree_stores (c : Chip) : (Chip.takeFree c).stores = c.stores := by
  rfl

@[simp] theorem Chip.takeFree_seat (c : Chip) : (Chip.takeFree c).seat = c.seat := by
  rfl

end Sys2Proof.Machine
end

