-- ==== Sys2Proof/Laws/Dram.lean ====
section
/-! SUPPORT. Every operation of Machine/Dram.lean keeps the part sound; those that touch no store leave the stores as
they are, and those that enter no mode leave the mode and its cause. -/

namespace Sys2Proof.Machine

open Sys2Proof

@[simp] theorem Chip.onMc_sound (c : Chip) (ch : Nat) (f : Channel → Channel) (h : c.sound = true) : (Chip.onMc
    c ch f).sound = true := by
  simp (contextual := true) (maxDischargeDepth := 60) [Chip.onMc, h]

@[simp] theorem Chip.onMc_stores (c : Chip) (ch : Nat) (f : Channel → Channel) : (Chip.onMc c ch f).stores =
    c.stores := by
  simp [Chip.onMc]

@[simp] theorem Chip.onMc_seat (c : Chip) (ch : Nat) (f : Channel → Channel) : (Chip.onMc c ch f).seat = c.seat := by
  simp [Chip.onMc]

@[simp] theorem Chip.setDramByte_sound (c : Chip) (l : Loc) (b : Byte) (h : c.sound = true) : (Chip.setDramByte
    c l b).sound = true := by
  simp (contextual := true) (maxDischargeDepth := 60) [Chip.setDramByte, Stores.wf_iff, h]

@[simp] theorem Chip.setDramByte_seat (c : Chip) (l : Loc) (b : Byte) : (Chip.setDramByte c l b).seat = c.seat := by
  rfl

@[simp] theorem Chip.writeRaw_sound (c : Chip) (l : Loc) (w : Nat) (check : Nat) (h : c.sound = true) :
    (Chip.writeRaw c l w check).sound = true := by
  simp (contextual := true) (maxDischargeDepth := 60) [Chip.writeRaw, Stores.wf_iff, h]

@[simp] theorem Chip.writeRaw_seat (c : Chip) (l : Loc) (w : Nat) (check : Nat) : (Chip.writeRaw c l w
    check).seat = c.seat := by
  rfl

@[simp] theorem Chip.writePhys_sound (c : Chip) (l : Loc) (w : Nat) (h : c.sound = true) : (Chip.writePhys c l
    w).sound = true := by
  simp (contextual := true) (maxDischargeDepth := 60) [Chip.writePhys, h]

@[simp] theorem Chip.writePhys_seat (c : Chip) (l : Loc) (w : Nat) : (Chip.writePhys c l w).seat = c.seat := by
  rfl

@[simp] theorem Chip.writeLoc_sound (c : Chip) (l : Loc) (w : Nat) (h : c.sound = true) : (Chip.writeLoc c l
    w).sound = true := by
  simp (contextual := true) (maxDischargeDepth := 60) [Chip.writeLoc, h]

@[simp] theorem Chip.writeLoc_seat (c : Chip) (l : Loc) (w : Nat) : (Chip.writeLoc c l w).seat = c.seat := by
  simp [Chip.writeLoc]

@[simp] theorem Chip.writeSys_sound (c : Chip) (a : Nat) (w : Nat) (h : c.sound = true) : (Chip.writeSys c a
    w).sound = true := by
  unfold Chip.writeSys; split <;> simp (contextual := true) (maxDischargeDepth := 60) [h]

@[simp] theorem Chip.writeSys_seat (c : Chip) (a : Nat) (w : Nat) : (Chip.writeSys c a w).seat = c.seat := by
  unfold Chip.writeSys; split <;> simp

@[simp] theorem Chip.performWrite_sound (c : Chip) (e : WriteEntry) (h : c.sound = true) : (Chip.performWrite c
    e).sound = true := by
  simp (contextual := true) (maxDischargeDepth := 60) [Chip.performWrite, h]

@[simp] theorem Chip.performWrite_seat (c : Chip) (e : WriteEntry) : (Chip.performWrite c e).seat = c.seat := by
  simp [Chip.performWrite]

@[simp] theorem Chip.dramLost_sound (c : Chip) (ch : Nat) (h : c.sound = true) : (Chip.dramLost c ch).sound =
    true := by
  simp (contextual := true) (maxDischargeDepth := 60) [Chip.dramLost, Stores.wf_iff, h]

@[simp] theorem Chip.dramLost_seat (c : Chip) (ch : Nat) : (Chip.dramLost c ch).seat = c.seat := by
  rfl

end Sys2Proof.Machine
end

