-- ==== Sys2Proof/Laws/Bus.lean ====
section
/-! SUPPORT. Every operation of Machine/Bus.lean keeps the part sound; those that touch no store leave the stores as
they are, and those that enter no mode leave the mode and its cause. -/

namespace Sys2Proof.Machine

open Sys2Proof

@[simp] theorem Chip.onMcx_sound (c : Chip) (f : MemShared → MemShared) (h : c.sound = true) : (Chip.onMcx c
    f).sound = true := by
  simp (contextual := true) (maxDischargeDepth := 60) [Chip.onMcx, h]

@[simp] theorem Chip.onMcx_stores (c : Chip) (f : MemShared → MemShared) : (Chip.onMcx c f).stores = c.stores := by
  rfl

@[simp] theorem Chip.onMcx_seat (c : Chip) (f : MemShared → MemShared) : (Chip.onMcx c f).seat = c.seat := by
  rfl

@[simp] theorem Chip.deliverAll_sound (c : Chip) (ds : List Delivery) (h : c.sound = true) : (Chip.deliverAll c
    ds).sound = true := by
  simp (contextual := true) (maxDischargeDepth := 60) [Chip.deliverAll, h]

@[simp] theorem Chip.deliverAll_stores (c : Chip) (ds : List Delivery) : (Chip.deliverAll c ds).stores = c.stores :=
    by
  rfl

@[simp] theorem Chip.deliverAll_seat (c : Chip) (ds : List Delivery) : (Chip.deliverAll c ds).seat = c.seat := by
  rfl

@[simp] theorem Chip.deliver_sound (c : Chip) (d : Delivery) (h : c.sound = true) : (Chip.deliver c d).sound = true
    := by
  simp (contextual := true) (maxDischargeDepth := 60) [Chip.deliver, h]

@[simp] theorem Chip.deliver_stores (c : Chip) (d : Delivery) : (Chip.deliver c d).stores = c.stores := by
  rfl

@[simp] theorem Chip.deliver_seat (c : Chip) (d : Delivery) : (Chip.deliver c d).seat = c.seat := by
  rfl

@[simp] theorem Chip.bumpLines_sound (c : Chip) (p : Nat) (h : c.sound = true) : (Chip.bumpLines c p).sound = true
    := by
  simp (contextual := true) (maxDischargeDepth := 60) [Chip.bumpLines, h]

@[simp] theorem Chip.bumpLines_stores (c : Chip) (p : Nat) : (Chip.bumpLines c p).stores = c.stores := by
  rfl

@[simp] theorem Chip.bumpLines_seat (c : Chip) (p : Nat) : (Chip.bumpLines c p).seat = c.seat := by
  rfl

@[simp] theorem Chip.dramCmd_sound (c : Chip) (ch : Nat) (x : DramCmd) (h : c.sound = true) : (Chip.dramCmd c ch
    x).sound = true := by
  simp (contextual := true) (maxDischargeDepth := 60) [Chip.dramCmd, h]

@[simp] theorem Chip.dramCmd_stores (c : Chip) (ch : Nat) (x : DramCmd) : (Chip.dramCmd c ch x).stores = c.stores :=
    by
  simp [Chip.dramCmd]

@[simp] theorem Chip.dramCmd_seat (c : Chip) (ch : Nat) (x : DramCmd) : (Chip.dramCmd c ch x).seat = c.seat := by
  simp [Chip.dramCmd]

@[simp] theorem Chip.allRanks_sound (c : Chip) (ch : Nat) (code : Nat) (bank : Nat) (arg : Nat) (h : c.sound = true)
    : (Chip.allRanks c ch code bank arg).sound = true := by
  simp (contextual := true) (maxDischargeDepth := 60) [Chip.allRanks, h]

@[simp] theorem Chip.allRanks_stores (c : Chip) (ch : Nat) (code : Nat) (bank : Nat) (arg : Nat) : (Chip.allRanks c
    ch code bank arg).stores = c.stores := by
  simp [Chip.allRanks]

@[simp] theorem Chip.allRanks_seat (c : Chip) (ch : Nat) (code : Nat) (bank : Nat) (arg : Nat) : (Chip.allRanks c ch
    code bank arg).seat = c.seat := by
  simp [Chip.allRanks]

@[simp] theorem Chip.onBank_sound (c : Chip) (ch : Nat) (rank : Nat) (bank : Nat) (f : BankState → BankState) (h :
    c.sound = true) : (Chip.onBank c ch rank bank f).sound = true := by
  simp (contextual := true) (maxDischargeDepth := 60) [Chip.onBank, h]

@[simp] theorem Chip.onBank_stores (c : Chip) (ch : Nat) (rank : Nat) (bank : Nat) (f : BankState → BankState) :
    (Chip.onBank c ch rank bank f).stores = c.stores := by
  simp [Chip.onBank]

@[simp] theorem Chip.onBank_seat (c : Chip) (ch : Nat) (rank : Nat) (bank : Nat) (f : BankState → BankState) :
    (Chip.onBank c ch rank bank f).seat = c.seat := by
  simp [Chip.onBank]

@[simp] theorem Chip.queueNr_sound (c : Chip) (ch : Nat) (rank : Nat) (bank : Nat) (row : Nat) (h : c.sound = true)
    : (Chip.queueNr c ch rank bank row).sound = true := by
  simp (contextual := true) (maxDischargeDepth := 60) [Chip.queueNr, h]

@[simp] theorem Chip.queueNr_stores (c : Chip) (ch : Nat) (rank : Nat) (bank : Nat) (row : Nat) : (Chip.queueNr c ch
    rank bank row).stores = c.stores := by
  simp [Chip.queueNr]

@[simp] theorem Chip.queueNr_seat (c : Chip) (ch : Nat) (rank : Nat) (bank : Nat) (row : Nat) : (Chip.queueNr c ch
    rank bank row).seat = c.seat := by
  simp [Chip.queueNr]

@[simp] theorem Chip.weirAct_sound (c : Chip) (ch : Nat) (rank : Nat) (bank : Nat) (row : Nat) (h : c.sound = true)
    : (Chip.weirAct c ch rank bank row).sound = true := by
  simp (contextual := true) (maxDischargeDepth := 60) [Chip.weirAct, h]

@[simp] theorem Chip.weirAct_stores (c : Chip) (ch : Nat) (rank : Nat) (bank : Nat) (row : Nat) : (Chip.weirAct c ch
    rank bank row).stores = c.stores := by
  simp [Chip.weirAct]

@[simp] theorem Chip.weirAct_seat (c : Chip) (ch : Nat) (rank : Nat) (bank : Nat) (row : Nat) : (Chip.weirAct c ch
    rank bank row).seat = c.seat := by
  simp [Chip.weirAct]

@[simp] theorem Chip.releaseHeld_sound (c : Chip) (ch : Nat) (h : c.sound = true) : (Chip.releaseHeld c ch).sound =
    true := by
  unfold Chip.releaseHeld; split <;> simp (contextual := true) (maxDischargeDepth := 60) [h]

@[simp] theorem Chip.releaseHeld_stores (c : Chip) (ch : Nat) : (Chip.releaseHeld c ch).stores = c.stores := by
  unfold Chip.releaseHeld; split <;> simp

@[simp] theorem Chip.releaseHeld_seat (c : Chip) (ch : Nat) : (Chip.releaseHeld c ch).seat = c.seat := by
  unfold Chip.releaseHeld; split <;> simp

@[simp] theorem Chip.issueAct_sound (c : Chip) (ch : Nat) (rank : Nat) (bank : Nat) (row : Nat) (nr : Bool) (h :
    c.sound = true) : (Chip.issueAct c ch rank bank row nr).sound = true := by
  simp (contextual := true) (maxDischargeDepth := 60) [Chip.issueAct, h]

@[simp] theorem Chip.issueAct_stores (c : Chip) (ch : Nat) (rank : Nat) (bank : Nat) (row : Nat) (nr : Bool) :
    (Chip.issueAct c ch rank bank row nr).stores = c.stores := by
  simp [Chip.issueAct]

@[simp] theorem Chip.issueAct_seat (c : Chip) (ch : Nat) (rank : Nat) (bank : Nat) (row : Nat) (nr : Bool) :
    (Chip.issueAct c ch rank bank row nr).seat = c.seat := by
  simp [Chip.issueAct]

@[simp] theorem Chip.issuePre_sound (c : Chip) (ch : Nat) (rank : Nat) (bank : Nat) (h : c.sound = true) :
    (Chip.issuePre c ch rank bank).sound = true := by
  unfold Chip.issuePre; split <;> simp (contextual := true) (maxDischargeDepth := 60) [h]

@[simp] theorem Chip.issuePre_stores (c : Chip) (ch : Nat) (rank : Nat) (bank : Nat) : (Chip.issuePre c ch rank
    bank).stores = c.stores := by
  unfold Chip.issuePre; split <;> simp

@[simp] theorem Chip.issuePre_seat (c : Chip) (ch : Nat) (rank : Nat) (bank : Nat) : (Chip.issuePre c ch rank
    bank).seat = c.seat := by
  unfold Chip.issuePre; split <;> simp

@[simp] theorem Chip.performNr_sound (c : Chip) (ch : Nat) (n : NeighbourRefresh) (h : c.sound = true) :
    (Chip.performNr c ch n).sound = true := by
  simp (contextual := true) (maxDischargeDepth := 60) [Chip.performNr, h]

@[simp] theorem Chip.performNr_stores (c : Chip) (ch : Nat) (n : NeighbourRefresh) : (Chip.performNr c ch n).stores
    = c.stores := by
  simp [Chip.performNr]

@[simp] theorem Chip.performNr_seat (c : Chip) (ch : Nat) (n : NeighbourRefresh) : (Chip.performNr c ch n).seat =
    c.seat := by
  simp [Chip.performNr]

@[simp] theorem Chip.drainNr_sound (c : Chip) (ch : Nat) (h : c.sound = true) : (Chip.drainNr c ch).sound = true :=
    by
  simp (contextual := true) (maxDischargeDepth := 60) [Chip.drainNr, h]

@[simp] theorem Chip.drainNr_stores (c : Chip) (ch : Nat) : (Chip.drainNr c ch).stores = c.stores := by
  simp [Chip.drainNr]

@[simp] theorem Chip.drainNr_seat (c : Chip) (ch : Nat) : (Chip.drainNr c ch).seat = c.seat := by
  simp [Chip.drainNr]

@[simp] theorem Chip.preAll_sound (c : Chip) (ch : Nat) (h : c.sound = true) : (Chip.preAll c ch).sound = true := by
  simp (contextual := true) (maxDischargeDepth := 60) [Chip.preAll, h]

@[simp] theorem Chip.preAll_stores (c : Chip) (ch : Nat) : (Chip.preAll c ch).stores = c.stores := by
  simp [Chip.preAll]

@[simp] theorem Chip.preAll_seat (c : Chip) (ch : Nat) : (Chip.preAll c ch).seat = c.seat := by
  simp [Chip.preAll]

@[simp] theorem Chip.floorCount_sound (c : Chip) (ch : Nat) (class3 : Bool) (h : c.sound = true) : (Chip.floorCount
    c ch class3).sound = true := by
  simp (contextual := true) (maxDischargeDepth := 60) [Chip.floorCount, h]

@[simp] theorem Chip.floorCount_stores (c : Chip) (ch : Nat) (class3 : Bool) : (Chip.floorCount c ch class3).stores
    = c.stores := by
  simp [Chip.floorCount]

@[simp] theorem Chip.floorCount_seat (c : Chip) (ch : Nat) (class3 : Bool) : (Chip.floorCount c ch class3).seat =
    c.seat := by
  simp [Chip.floorCount]

@[simp] theorem Chip.issueLine_sound (c : Chip) (l : Loc) (write : Bool) (line : Nat) (mask : List Bool) (port :
    Nat) (h : c.sound = true) : (Chip.issueLine c l write line mask port).sound = true := by
  simp (contextual := true) (maxDischargeDepth := 60) [Chip.issueLine, h]

@[simp] theorem Chip.issueLine_stores (c : Chip) (l : Loc) (write : Bool) (line : Nat) (mask : List Bool) (port :
    Nat) : (Chip.issueLine c l write line mask port).stores = c.stores := by
  simp [Chip.issueLine]

@[simp] theorem Chip.issueLine_seat (c : Chip) (l : Loc) (write : Bool) (line : Nat) (mask : List Bool) (port : Nat)
    : (Chip.issueLine c l write line mask port).seat = c.seat := by
  simp [Chip.issueLine]

@[simp] theorem Chip.openRow_sound (c : Chip) (l : Loc) (h : c.sound = true) : (Chip.openRow c l).sound = true := by
  simp (contextual := true) (maxDischargeDepth := 60) [Chip.openRow, h]

@[simp] theorem Chip.openRow_stores (c : Chip) (l : Loc) : (Chip.openRow c l).stores = c.stores := by
  simp [Chip.openRow]

@[simp] theorem Chip.openRow_seat (c : Chip) (l : Loc) : (Chip.openRow c l).seat = c.seat := by
  simp [Chip.openRow]

@[simp] theorem Chip.busLine_sound (c : Chip) (l : Loc) (write : Bool) (line : Nat) (mask : List Bool) (port : Nat)
    (h : c.sound = true) : (Chip.busLine c l write line mask port).sound = true := by
  simp (contextual := true) (maxDischargeDepth := 60) [Chip.busLine, h]

@[simp] theorem Chip.busLine_stores (c : Chip) (l : Loc) (write : Bool) (line : Nat) (mask : List Bool) (port : Nat)
    : (Chip.busLine c l write line mask port).stores = c.stores := by
  simp [Chip.busLine]

@[simp] theorem Chip.busLine_seat (c : Chip) (l : Loc) (write : Bool) (line : Nat) (mask : List Bool) (port : Nat) :
    (Chip.busLine c l write line mask port).seat = c.seat := by
  simp [Chip.busLine]

@[simp] theorem Chip.writeCheck_sound (c : Chip) (ch : Nat) (e : CheckLine) (h : c.sound = true) : (Chip.writeCheck
    c ch e).sound = true := by
  simp (contextual := true) (maxDischargeDepth := 60) [Chip.writeCheck, h]

@[simp] theorem Chip.writeCheck_stores (c : Chip) (ch : Nat) (e : CheckLine) : (Chip.writeCheck c ch e).stores =
    c.stores := by
  simp [Chip.writeCheck]

@[simp] theorem Chip.writeCheck_seat (c : Chip) (ch : Nat) (e : CheckLine) : (Chip.writeCheck c ch e).seat = c.seat
    := by
  simp [Chip.writeCheck]

@[simp] theorem Chip.cacheRoom_sound (c : Chip) (ch : Nat) (k : Loc) (dirty : Bool) (h : c.sound = true) :
    (Chip.cacheRoom c ch k dirty).sound = true := by
  simp only [Chip.cacheRoom]; (repeat' split) <;> simp (contextual := true) (maxDischargeDepth := 60) [h]

@[simp] theorem Chip.cacheRoom_stores (c : Chip) (ch : Nat) (k : Loc) (dirty : Bool) : (Chip.cacheRoom c ch k
    dirty).stores = c.stores := by
  simp only [Chip.cacheRoom]; (repeat' split) <;> simp

@[simp] theorem Chip.cacheRoom_seat (c : Chip) (ch : Nat) (k : Loc) (dirty : Bool) : (Chip.cacheRoom c ch k
    dirty).seat = c.seat := by
  simp only [Chip.cacheRoom]; (repeat' split) <;> simp

@[simp] theorem Chip.cacheUse_sound (c : Chip) (ch : Nat) (k : Loc) (dirty : Bool) (h : c.sound = true) :
    (Chip.cacheUse c ch k dirty).sound = true := by
  simp (contextual := true) (maxDischargeDepth := 60) [Chip.cacheUse, h]

@[simp] theorem Chip.cacheUse_stores (c : Chip) (ch : Nat) (k : Loc) (dirty : Bool) : (Chip.cacheUse c ch k
    dirty).stores = c.stores := by
  simp [Chip.cacheUse]

@[simp] theorem Chip.cacheUse_seat (c : Chip) (ch : Nat) (k : Loc) (dirty : Bool) : (Chip.cacheUse c ch k
    dirty).seat = c.seat := by
  simp [Chip.cacheUse]

@[simp] theorem Chip.flushCache_sound (c : Chip) (ch : Nat) (h : c.sound = true) : (Chip.flushCache c ch).sound =
    true := by
  simp (contextual := true) (maxDischargeDepth := 60) [Chip.flushCache, h]

@[simp] theorem Chip.flushCache_stores (c : Chip) (ch : Nat) : (Chip.flushCache c ch).stores = c.stores := by
  simp [Chip.flushCache]

@[simp] theorem Chip.flushCache_seat (c : Chip) (ch : Nat) : (Chip.flushCache c ch).seat = c.seat := by
  simp [Chip.flushCache]

@[simp] theorem Chip.lineAccess_sound (c : Chip) (l : Loc) (write : Bool) (line : Nat) (mask : List Bool) (port :
    Nat) (h : c.sound = true) : (Chip.lineAccess c l write line mask port).sound = true := by
  simp (contextual := true) (maxDischargeDepth := 60) [Chip.lineAccess, h]

@[simp] theorem Chip.lineAccess_stores (c : Chip) (l : Loc) (write : Bool) (line : Nat) (mask : List Bool) (port :
    Nat) : (Chip.lineAccess c l write line mask port).stores = c.stores := by
  simp [Chip.lineAccess]

@[simp] theorem Chip.lineAccess_seat (c : Chip) (l : Loc) (write : Bool) (line : Nat) (mask : List Bool) (port :
    Nat) : (Chip.lineAccess c l write line mask port).seat = c.seat := by
  simp [Chip.lineAccess]

@[simp] theorem Chip.serveWrite_sound (c : Chip) (e : WriteEntry) (h : c.sound = true) : (Chip.serveWrite c e).sound
    = true := by
  unfold Chip.serveWrite; split <;> simp (contextual := true) (maxDischargeDepth := 60) [h]

@[simp] theorem Chip.serveWrite_seat (c : Chip) (e : WriteEntry) : (Chip.serveWrite c e).seat = c.seat := by
  unfold Chip.serveWrite; split <;> simp

@[simp] theorem Chip.drainWrites_sound (c : Chip) (ch : Nat) (h : c.sound = true) : (Chip.drainWrites c ch).sound =
    true := by
  simp (contextual := true) (maxDischargeDepth := 60) [Chip.drainWrites, h]

@[simp] theorem Chip.drainWrites_seat (c : Chip) (ch : Nat) : (Chip.drainWrites c ch).seat = c.seat := by
  simp [Chip.drainWrites]

@[simp] theorem Chip.abandonReads_sound (c : Chip) (ch : Nat) (h : c.sound = true) : (Chip.abandonReads c ch).sound
    = true := by
  simp (contextual := true) (maxDischargeDepth := 60) [Chip.abandonReads, h]

@[simp] theorem Chip.abandonReads_stores (c : Chip) (ch : Nat) : (Chip.abandonReads c ch).stores = c.stores := by
  simp [Chip.abandonReads]

@[simp] theorem Chip.abandonReads_seat (c : Chip) (ch : Nat) : (Chip.abandonReads c ch).seat = c.seat := by
  simp [Chip.abandonReads]

@[simp] theorem Chip.abandonInflight_sound (c : Chip) (ch : Nat) (h : c.sound = true) : (Chip.abandonInflight c
    ch).sound = true := by
  simp (contextual := true) (maxDischargeDepth := 60) [Chip.abandonInflight, h]

@[simp] theorem Chip.abandonInflight_stores (c : Chip) (ch : Nat) : (Chip.abandonInflight c ch).stores = c.stores :=
    by
  simp [Chip.abandonInflight]

@[simp] theorem Chip.abandonInflight_seat (c : Chip) (ch : Nat) : (Chip.abandonInflight c ch).seat = c.seat := by
  simp [Chip.abandonInflight]

@[simp] theorem Chip.enterSr_sound (c : Chip) (ch : Nat) (extra : Nat) (h : c.sound = true) : (Chip.enterSr c ch
    extra).sound = true := by
  simp (contextual := true) (maxDischargeDepth := 60) [Chip.enterSr, h]

@[simp] theorem Chip.enterSr_stores (c : Chip) (ch : Nat) (extra : Nat) : (Chip.enterSr c ch extra).stores =
    c.stores := by
  simp [Chip.enterSr]

@[simp] theorem Chip.enterSr_seat (c : Chip) (ch : Nat) (extra : Nat) : (Chip.enterSr c ch extra).seat = c.seat :=
    by
  simp [Chip.enterSr]

end Sys2Proof.Machine
end

