-- ==== Sys2Proof/Laws/Ops.lean ====
section
/-! SUPPORT. Every operation of Machine/Ops.lean keeps the part sound; those that touch no store leave the stores as
they are, and those that enter no mode leave the mode and its cause. -/

namespace Sys2Proof.Machine

open Sys2Proof

@[simp] theorem Chip.ifDrained_sound (c : Chip) (f : Chip → Chip) (h : c.sound = true) (hf : ∀ c : Chip, c.sound =
    true → (f c).sound = true) : (Chip.ifDrained c f).sound = true := by
  simp (contextual := true) (maxDischargeDepth := 60) [Chip.ifDrained, h, hf]

@[simp] theorem Chip.ifDrained_stores (c : Chip) (f : Chip → Chip) (hf : ∀ c : Chip, (f c).stores = c.stores) :
    (Chip.ifDrained c f).stores = c.stores := by
  simp [Chip.ifDrained, hf]

@[simp] theorem Chip.ifDrained_seat (c : Chip) (f : Chip → Chip) (hf : ∀ c : Chip, (f c).seat = c.seat) :
    (Chip.ifDrained c f).seat = c.seat := by
  simp [Chip.ifDrained, hf]

@[simp] theorem Chip.guardReg_sound (c : Chip) (a : Nat) (f : Chip → Chip) (h : c.sound = true) (hf : ∀ c :
    Chip, c.sound = true → (f c).sound = true) : (Chip.guardReg c a f).sound = true := by
  unfold Chip.guardReg; (repeat' split) <;> simp (contextual := true) (maxDischargeDepth := 60) [h, hf]

@[simp] theorem Chip.guardReg_stores (c : Chip) (a : Nat) (f : Chip → Chip) (hf : ∀ c : Chip, (f c).stores =
    c.stores) : (Chip.guardReg c a f).stores = c.stores := by
  unfold Chip.guardReg; (repeat' split) <;> simp [hf]

@[simp] theorem Chip.guardReg_seat (c : Chip) (a : Nat) (f : Chip → Chip) (hf : ∀ c : Chip, (f c).seat = c.seat)
    : (Chip.guardReg c a f).seat = c.seat := by
  unfold Chip.guardReg; (repeat' split) <;> simp [hf]

@[simp] theorem Chip.clearRegs_sound (c : Chip) (rs : List (Nat × Nat)) (h : c.sound = true) : (Chip.clearRegs c
    rs).sound = true := by
  simp (contextual := true) (maxDischargeDepth := 60) [Chip.clearRegs, h]

@[simp] theorem Chip.clearRegs_stores (c : Chip) (rs : List (Nat × Nat)) : (Chip.clearRegs c rs).stores =
    c.stores := by
  simp [Chip.clearRegs]

@[simp] theorem Chip.clearRegs_seat (c : Chip) (rs : List (Nat × Nat)) : (Chip.clearRegs c rs).seat = c.seat := by
  simp [Chip.clearRegs]

@[simp] theorem Chip.onLk_sound (c : Chip) (f : Lockkeeper → Lockkeeper) (h : c.sound = true) : (Chip.onLk c
    f).sound = true := by
  simp (contextual := true) (maxDischargeDepth := 60) [Chip.onLk, h]

@[simp] theorem Chip.onLk_stores (c : Chip) (f : Lockkeeper → Lockkeeper) : (Chip.onLk c f).stores = c.stores := by
  rfl

@[simp] theorem Chip.onLk_seat (c : Chip) (f : Lockkeeper → Lockkeeper) : (Chip.onLk c f).seat = c.seat := by
  rfl

@[simp] theorem Chip.takeSeq_sound (c : Chip) (h : c.sound = true) : (Chip.takeSeq c).sound = true := by
  simp (contextual := true) (maxDischargeDepth := 60) [Chip.takeSeq, h]

@[simp] theorem Chip.takeSeq_stores (c : Chip) : (Chip.takeSeq c).stores = c.stores := by
  rfl

@[simp] theorem Chip.takeSeq_seat (c : Chip) : (Chip.takeSeq c).seat = c.seat := by
  rfl

@[simp] theorem Chip.putSlot_sound (c : Chip) (r : LogRec) (lostBefore : Bool) (h : c.sound = true) :
    (Chip.putSlot c r lostBefore).sound = true := by
  simp (contextual := true) (maxDischargeDepth := 60) [Chip.putSlot, h]

@[simp] theorem Chip.putSlot_stores (c : Chip) (r : LogRec) (lostBefore : Bool) : (Chip.putSlot c r
    lostBefore).stores = c.stores := by
  rfl

@[simp] theorem Chip.putSlot_seat (c : Chip) (r : LogRec) (lostBefore : Bool) : (Chip.putSlot c r
    lostBefore).seat = c.seat := by
  rfl

@[simp] theorem Chip.storeRec_sound (c : Chip) (r : LogRec) (h : c.sound = true) : (Chip.storeRec c r).sound =
    true := by
  simp (contextual := true) (maxDischargeDepth := 60) [Chip.storeRec, h]

@[simp] theorem Chip.storeRec_stores (c : Chip) (r : LogRec) : (Chip.storeRec c r).stores = c.stores := by
  simp [Chip.storeRec]

@[simp] theorem Chip.storeRec_seat (c : Chip) (r : LogRec) : (Chip.storeRec c r).seat = c.seat := by
  simp [Chip.storeRec]

@[simp] theorem Chip.lkRecord_sound (c : Chip) (type : Nat) (flags : Nat) (unit : Nat) (data : Nat) (h : c.sound
    = true) : (Chip.lkRecord c type flags unit data).sound = true := by
  simp (contextual := true) (maxDischargeDepth := 60) [Chip.lkRecord, h]

@[simp] theorem Chip.lkRecord_stores (c : Chip) (type : Nat) (flags : Nat) (unit : Nat) (data : Nat) :
    (Chip.lkRecord c type flags unit data).stores = c.stores := by
  simp [Chip.lkRecord]

@[simp] theorem Chip.lkRecord_seat (c : Chip) (type : Nat) (flags : Nat) (unit : Nat) (data : Nat) :
    (Chip.lkRecord c type flags unit data).seat = c.seat := by
  simp [Chip.lkRecord]

@[simp] theorem Chip.logRecord_sound (c : Chip) (type : Nat) (flags : Nat) (unit : Nat) (data : Nat) (h :
    c.sound = true) : (Chip.logRecord c type flags unit data).sound = true := by
  simp (contextual := true) (maxDischargeDepth := 60) [Chip.logRecord, h]

@[simp] theorem Chip.logRecord_stores (c : Chip) (type : Nat) (flags : Nat) (unit : Nat) (data : Nat) :
    (Chip.logRecord c type flags unit data).stores = c.stores := by
  simp [Chip.logRecord]

@[simp] theorem Chip.logRecord_seat (c : Chip) (type : Nat) (flags : Nat) (unit : Nat) (data : Nat) :
    (Chip.logRecord c type flags unit data).seat = c.seat := by
  simp [Chip.logRecord]

@[simp] theorem Chip.srcActivate_sound (c : Chip) (n : Nat) (data : Nat) (h : c.sound = true) :
    (Chip.srcActivate c n data).sound = true := by
  simp (contextual := true) (maxDischargeDepth := 60) [Chip.srcActivate, h]

@[simp] theorem Chip.srcActivate_stores (c : Chip) (n : Nat) (data : Nat) : (Chip.srcActivate c n data).stores =
    c.stores := by
  simp [Chip.srcActivate]

@[simp] theorem Chip.srcActivate_seat (c : Chip) (n : Nat) (data : Nat) : (Chip.srcActivate c n data).seat =
    c.seat := by
  simp [Chip.srcActivate]

@[simp] theorem Chip.srcAssert_sound (c : Chip) (n : Nat) (data : Nat) (h : c.sound = true) : (Chip.srcAssert c
    n data).sound = true := by
  simp (contextual := true) (maxDischargeDepth := 60) [Chip.srcAssert, h]

@[simp] theorem Chip.srcAssert_stores (c : Chip) (n : Nat) (data : Nat) : (Chip.srcAssert c n data).stores =
    c.stores := by
  simp [Chip.srcAssert]

@[simp] theorem Chip.srcAssert_seat (c : Chip) (n : Nat) (data : Nat) : (Chip.srcAssert c n data).seat = c.seat := by
  simp [Chip.srcAssert]

@[simp] theorem Chip.srcDeactivate_sound (c : Chip) (n : Nat) (h : c.sound = true) : (Chip.srcDeactivate c
    n).sound = true := by
  simp (contextual := true) (maxDischargeDepth := 60) [Chip.srcDeactivate, h]

@[simp] theorem Chip.srcDeactivate_stores (c : Chip) (n : Nat) : (Chip.srcDeactivate c n).stores = c.stores := by
  simp [Chip.srcDeactivate]

@[simp] theorem Chip.srcDeactivate_seat (c : Chip) (n : Nat) : (Chip.srcDeactivate c n).seat = c.seat := by
  simp [Chip.srcDeactivate]

@[simp] theorem Chip.srcRelease_sound (c : Chip) (n : Nat) (h : c.sound = true) : (Chip.srcRelease c n).sound =
    true := by
  simp (contextual := true) (maxDischargeDepth := 60) [Chip.srcRelease, h]

@[simp] theorem Chip.srcRelease_stores (c : Chip) (n : Nat) : (Chip.srcRelease c n).stores = c.stores := by
  simp [Chip.srcRelease]

@[simp] theorem Chip.srcRelease_seat (c : Chip) (n : Nat) : (Chip.srcRelease c n).seat = c.seat := by
  simp [Chip.srcRelease]

@[simp] theorem Chip.onLd_sound (c : Chip) (f : Loader → Loader) (h : c.sound = true)
    (hf : SMap.wf otpDefault (f c.ld).otp = true) : (c.onLd f).sound = true := by
  simp [Chip.onLd, Stores.wf_iff, h, hf]

@[simp] theorem Chip.onLd_stores (c : Chip) (f : Loader → Loader) (hf : (f c.ld).otp = c.ld.otp) :
    (c.onLd f).stores = c.stores := by
  simp [Chip.onLd, hf]

@[simp] theorem Chip.onLd_seat (c : Chip) (f : Loader → Loader) : (Chip.onLd c f).seat = c.seat := by
  rfl

@[simp] theorem Chip.onCk_sound (c : Chip) (f : Clocks → Clocks) (h : c.sound = true) : (Chip.onCk c f).sound =
    true := by
  simp (contextual := true) (maxDischargeDepth := 60) [Chip.onCk, h]

@[simp] theorem Chip.onCk_stores (c : Chip) (f : Clocks → Clocks) : (Chip.onCk c f).stores = c.stores := by
  rfl

@[simp] theorem Chip.onCk_seat (c : Chip) (f : Clocks → Clocks) : (Chip.onCk c f).seat = c.seat := by
  rfl

@[simp] theorem Chip.onPll_sound (c : Chip) (p : Nat) (f : Pll → Pll) (h : c.sound = true) : (Chip.onPll c p
    f).sound = true := by
  simp (contextual := true) (maxDischargeDepth := 60) [Chip.onPll, h]

@[simp] theorem Chip.onPll_stores (c : Chip) (p : Nat) (f : Pll → Pll) : (Chip.onPll c p f).stores = c.stores := by
  rfl

@[simp] theorem Chip.onPll_seat (c : Chip) (p : Nat) (f : Pll → Pll) : (Chip.onPll c p f).seat = c.seat := by
  rfl

@[simp] theorem Chip.setDiv_sound (c : Chip) (n : Nat) (d : Nat) (h : c.sound = true) : (Chip.setDiv c n
    d).sound = true := by
  simp (contextual := true) (maxDischargeDepth := 60) [Chip.setDiv, h]

@[simp] theorem Chip.setDiv_stores (c : Chip) (n : Nat) (d : Nat) : (Chip.setDiv c n d).stores = c.stores := by
  rfl

@[simp] theorem Chip.setDiv_seat (c : Chip) (n : Nat) (d : Nat) : (Chip.setDiv c n d).seat = c.seat := by
  rfl

@[simp] theorem Chip.startPll_sound (c : Chip) (p : Nat) (h : c.sound = true) : (Chip.startPll c p).sound = true := by
  simp (contextual := true) (maxDischargeDepth := 60) [Chip.startPll, h]

@[simp] theorem Chip.startPll_stores (c : Chip) (p : Nat) : (Chip.startPll c p).stores = c.stores := by
  simp [Chip.startPll]

@[simp] theorem Chip.startPll_seat (c : Chip) (p : Nat) : (Chip.startPll c p).seat = c.seat := by
  simp [Chip.startPll]

@[simp] theorem Chip.stopPll_sound (c : Chip) (p : Nat) (h : c.sound = true) : (Chip.stopPll c p).sound = true := by
  simp (contextual := true) (maxDischargeDepth := 60) [Chip.stopPll, h]

@[simp] theorem Chip.stopPll_stores (c : Chip) (p : Nat) : (Chip.stopPll c p).stores = c.stores := by
  simp [Chip.stopPll]

@[simp] theorem Chip.stopPll_seat (c : Chip) (p : Nat) : (Chip.stopPll c p).seat = c.seat := by
  simp [Chip.stopPll]

@[simp] theorem Chip.edgeClocks_sound (c : Chip) (m : Mode) (h : c.sound = true) : (Chip.edgeClocks c m).sound =
    true := by
  simp (contextual := true) (maxDischargeDepth := 60) [Chip.edgeClocks, h]

@[simp] theorem Chip.edgeClocks_stores (c : Chip) (m : Mode) : (Chip.edgeClocks c m).stores = c.stores := by
  simp [Chip.edgeClocks]

@[simp] theorem Chip.edgeClocks_seat (c : Chip) (m : Mode) : (Chip.edgeClocks c m).seat = c.seat := by
  simp [Chip.edgeClocks]

@[simp] theorem Chip.stopOthers_sound (c : Chip) (m : Mode) (h : c.sound = true) : (Chip.stopOthers c m).sound =
    true := by
  simp (contextual := true) (maxDischargeDepth := 60) [Chip.stopOthers, h]

@[simp] theorem Chip.stopOthers_stores (c : Chip) (m : Mode) : (Chip.stopOthers c m).stores = c.stores := by
  simp [Chip.stopOthers]

@[simp] theorem Chip.stopOthers_seat (c : Chip) (m : Mode) : (Chip.stopOthers c m).seat = c.seat := by
  simp [Chip.stopOthers]

@[simp] theorem Chip.sleepChannel_sound (c : Chip) (drain : Bool) (state : Nat) (ch : Nat) (h : c.sound = true)
    : (Chip.sleepChannel c drain state ch).sound = true := by
  simp (contextual := true) (maxDischargeDepth := 60) [Chip.sleepChannel, h]

@[simp] theorem Chip.sleepChannel_seat (c : Chip) (drain : Bool) (state : Nat) (ch : Nat) : (Chip.sleepChannel c
    drain state ch).seat = c.seat := by
  simp [Chip.sleepChannel]

@[simp] theorem Chip.exitCommit_sound (c : Chip) (ch : Nat) (h : c.sound = true) : (Chip.exitCommit c ch).sound =
    true := by
  simp (contextual := true) (maxDischargeDepth := 60) [Chip.exitCommit, h]

@[simp] theorem Chip.exitCommit_stores (c : Chip) (ch : Nat) : (Chip.exitCommit c ch).stores = c.stores := by
  rfl

@[simp] theorem Chip.exitCommit_seat (c : Chip) (ch : Nat) : (Chip.exitCommit c ch).seat = c.seat := by
  rfl

@[simp] theorem Chip.wakeChannel_sound (c : Chip) (ch : Nat) (h : c.sound = true) : (Chip.wakeChannel c
    ch).sound = true := by
  simp (contextual := true) (maxDischargeDepth := 60) [Chip.wakeChannel, h]

@[simp] theorem Chip.wakeChannel_stores (c : Chip) (ch : Nat) : (Chip.wakeChannel c ch).stores = c.stores := by
  simp [Chip.wakeChannel]

@[simp] theorem Chip.wakeChannel_seat (c : Chip) (ch : Nat) : (Chip.wakeChannel c ch).seat = c.seat := by
  simp [Chip.wakeChannel]

@[simp] theorem Chip.resetDram_sound (c : Chip) (ch : Nat) (h : c.sound = true) : (Chip.resetDram c ch).sound =
    true := by
  simp (contextual := true) (maxDischargeDepth := 60) [Chip.resetDram, h]

@[simp] theorem Chip.resetDram_seat (c : Chip) (ch : Nat) : (Chip.resetDram c ch).seat = c.seat := by
  simp [Chip.resetDram]

@[simp] theorem Chip.standbyDram_sound (c : Chip) (ch : Nat) (h : c.sound = true) : (Chip.standbyDram c
    ch).sound = true := by
  simp (contextual := true) (maxDischargeDepth := 60) [Chip.standbyDram, h]

@[simp] theorem Chip.standbyDram_seat (c : Chip) (ch : Nat) : (Chip.standbyDram c ch).seat = c.seat := by
  simp [Chip.standbyDram]

@[simp] theorem Chip.setPdreq_sound (c : Chip) (d : Nat) (b : Bool) (h : c.sound = true) : (Chip.setPdreq c d
    b).sound = true := by
  simp (contextual := true) (maxDischargeDepth := 60) [Chip.setPdreq, h]

@[simp] theorem Chip.setPdreq_stores (c : Chip) (d : Nat) (b : Bool) : (Chip.setPdreq c d b).stores = c.stores := by
  simp [Chip.setPdreq]

@[simp] theorem Chip.setPdreq_seat (c : Chip) (d : Nat) (b : Bool) : (Chip.setPdreq c d b).seat = c.seat := by
  simp [Chip.setPdreq]

@[simp] theorem Chip.onPw_sound (c : Chip) (f : Power → Power) (h : c.sound = true) : (Chip.onPw c f).sound =
    true := by
  simp (contextual := true) (maxDischargeDepth := 60) [Chip.onPw, h]

@[simp] theorem Chip.onPw_stores (c : Chip) (f : Power → Power) : (Chip.onPw c f).stores = c.stores := by
  rfl

@[simp] theorem Chip.onPw_seat (c : Chip) (f : Power → Power) : (Chip.onPw c f).seat = c.seat := by
  rfl

@[simp] theorem Chip.pdPlan_sound (c : Chip) (h : c.sound = true) : (Chip.pdPlan c).sound = true := by
  simp (contextual := true) (maxDischargeDepth := 60) [Chip.pdPlan, h]

@[simp] theorem Chip.pdPlan_stores (c : Chip) : (Chip.pdPlan c).stores = c.stores := by
  simp [Chip.pdPlan]

@[simp] theorem Chip.pdPlan_seat (c : Chip) : (Chip.pdPlan c).seat = c.seat := by
  simp [Chip.pdPlan]

@[simp] theorem Chip.edgePdreq_sound (c : Chip) (m : Mode) (h : c.sound = true) : (Chip.edgePdreq c m).sound =
    true := by
  simp (contextual := true) (maxDischargeDepth := 60) [Chip.edgePdreq, h]

@[simp] theorem Chip.edgePdreq_stores (c : Chip) (m : Mode) : (Chip.edgePdreq c m).stores = c.stores := by
  simp [Chip.edgePdreq]

@[simp] theorem Chip.edgePdreq_seat (c : Chip) (m : Mode) : (Chip.edgePdreq c m).seat = c.seat := by
  simp [Chip.edgePdreq]

@[simp] theorem Chip.ledgerToLog_sound (c : Chip) (r : LedgerReq) (why : Nat) (h : c.sound = true) :
    (Chip.ledgerToLog c r why).sound = true := by
  simp (contextual := true) (maxDischargeDepth := 60) [Chip.ledgerToLog, h]

@[simp] theorem Chip.ledgerToLog_stores (c : Chip) (r : LedgerReq) (why : Nat) : (Chip.ledgerToLog c r
    why).stores = c.stores := by
  simp [Chip.ledgerToLog]

@[simp] theorem Chip.ledgerToLog_seat (c : Chip) (r : LedgerReq) (why : Nat) : (Chip.ledgerToLog c r why).seat =
    c.seat := by
  simp [Chip.ledgerToLog]

@[simp] theorem Chip.ledgerFail_sound (c : Chip) (r : LedgerReq) (why : Nat) (h : c.sound = true) :
    (Chip.ledgerFail c r why).sound = true := by
  simp (contextual := true) (maxDischargeDepth := 60) [Chip.ledgerFail, h]

@[simp] theorem Chip.ledgerFail_stores (c : Chip) (r : LedgerReq) (why : Nat) : (Chip.ledgerFail c r why).stores
    = c.stores := by
  simp [Chip.ledgerFail]

@[simp] theorem Chip.ledgerFail_seat (c : Chip) (r : LedgerReq) (why : Nat) : (Chip.ledgerFail c r why).seat =
    c.seat := by
  simp [Chip.ledgerFail]

@[simp] theorem Chip.domEnable_sound (c : Chip) (n : Nat) (h : c.sound = true) : (Chip.domEnable c n).sound =
    true := by
  simp (contextual := true) (maxDischargeDepth := 60) [Chip.domEnable, h]

@[simp] theorem Chip.domEnable_stores (c : Chip) (n : Nat) : (Chip.domEnable c n).stores = c.stores := by
  rfl

@[simp] theorem Chip.domEnable_seat (c : Chip) (n : Nat) : (Chip.domEnable c n).seat = c.seat := by
  rfl

@[simp] theorem Chip.ledgerHold_sound (c : Chip) (h : c.sound = true) : (Chip.ledgerHold c).sound = true := by
  simp (contextual := true) (maxDischargeDepth := 60) [Chip.ledgerHold, h]

@[simp] theorem Chip.ledgerHold_stores (c : Chip) : (Chip.ledgerHold c).stores = c.stores := by
  simp [Chip.ledgerHold]

@[simp] theorem Chip.ledgerHold_seat (c : Chip) : (Chip.ledgerHold c).seat = c.seat := by
  simp [Chip.ledgerHold]

@[simp] theorem Chip.ledgerRequest_sound (c : Chip) (r : LedgerReq) (h : c.sound = true) : (Chip.ledgerRequest c
    r).sound = true := by
  simp (contextual := true) (maxDischargeDepth := 60) [Chip.ledgerRequest, h]

@[simp] theorem Chip.ledgerRequest_stores (c : Chip) (r : LedgerReq) : (Chip.ledgerRequest c r).stores =
    c.stores := by
  simp [Chip.ledgerRequest]

@[simp] theorem Chip.ledgerRequest_seat (c : Chip) (r : LedgerReq) : (Chip.ledgerRequest c r).seat = c.seat := by
  simp [Chip.ledgerRequest]

@[simp] theorem Chip.blockRecord_sound (c : Chip) (kind : Nat) (unit : Nat) (data : List Nat) (h : c.sound =
    true) : (Chip.blockRecord c kind unit data).sound = true := by
  simp (contextual := true) (maxDischargeDepth := 60) [Chip.blockRecord, h]

@[simp] theorem Chip.blockRecord_stores (c : Chip) (kind : Nat) (unit : Nat) (data : List Nat) :
    (Chip.blockRecord c kind unit data).stores = c.stores := by
  simp [Chip.blockRecord]

@[simp] theorem Chip.blockRecord_seat (c : Chip) (kind : Nat) (unit : Nat) (data : List Nat) : (Chip.blockRecord
    c kind unit data).seat = c.seat := by
  simp [Chip.blockRecord]

@[simp] theorem Chip.ledgerFlush_sound (c : Chip) (h : c.sound = true) : (Chip.ledgerFlush c).sound = true := by
  simp (contextual := true) (maxDischargeDepth := 60) [Chip.ledgerFlush, h]

@[simp] theorem Chip.ledgerFlush_stores (c : Chip) : (Chip.ledgerFlush c).stores = c.stores := by
  simp [Chip.ledgerFlush]

@[simp] theorem Chip.ledgerFlush_seat (c : Chip) : (Chip.ledgerFlush c).seat = c.seat := by
  simp [Chip.ledgerFlush]

@[simp] theorem Chip.onMode_sound (c : Chip) (f : ModeMachine → ModeMachine) (h : c.sound = true) : (Chip.onMode
    c f).sound = true := by
  simp (contextual := true) (maxDischargeDepth := 60) [Chip.onMode, h]

@[simp] theorem Chip.onMode_stores (c : Chip) (f : ModeMachine → ModeMachine) : (Chip.onMode c f).stores =
    c.stores := by
  rfl

@[simp] theorem Chip.onMode_seat (c : Chip) (f : ModeMachine → ModeMachine) (hm : (f c.mode).mode = c.mode.mode)
    (hc : (f c.mode).cause = c.mode.cause) : (c.onMode f).seat = c.seat := by
  simp [Chip.onMode, hm, hc]

@[simp] theorem Chip.takeSeqCfg_sound (c : Chip) (h : c.sound = true) : (Chip.takeSeqCfg c).sound = true := by
  simp (contextual := true) (maxDischargeDepth := 60) [Chip.takeSeqCfg, h]

@[simp] theorem Chip.takeSeqCfg_stores (c : Chip) : (Chip.takeSeqCfg c).stores = c.stores := by
  rfl

@[simp] theorem Chip.takeSeqCfg_seat (c : Chip) : (Chip.takeSeqCfg c).seat = c.seat := by
  rfl

@[simp] theorem Chip.edgeDram_sound (c : Chip) (e : Edge) (m : Mode) (h : c.sound = true) : (Chip.edgeDram c e
    m).sound = true := by
  simp (contextual := true) (maxDischargeDepth := 60) [Chip.edgeDram, h]

@[simp] theorem Chip.edgeDram_seat (c : Chip) (e : Edge) (m : Mode) : (Chip.edgeDram c e m).seat = c.seat := by
  simp [Chip.edgeDram]

@[simp] theorem Chip.startPlls_sound (c : Chip) (m : Mode) (h : c.sound = true) : (Chip.startPlls c m).sound = true
    := by
  simp (contextual := true) (maxDischargeDepth := 60) [Chip.startPlls, h]

@[simp] theorem Chip.startPlls_stores (c : Chip) (m : Mode) : (Chip.startPlls c m).stores = c.stores := by
  simp [Chip.startPlls]

@[simp] theorem Chip.startPlls_seat (c : Chip) (m : Mode) : (Chip.startPlls c m).seat = c.seat := by
  simp [Chip.startPlls]

@[simp] theorem Chip.edgePlls_sound (c : Chip) (h : c.sound = true) : (Chip.edgePlls c).sound = true := by
  simp (contextual := true) (maxDischargeDepth := 60) [Chip.edgePlls, h]

@[simp] theorem Chip.edgePlls_stores (c : Chip) : (Chip.edgePlls c).stores = c.stores := by
  simp [Chip.edgePlls]

@[simp] theorem Chip.edgePlls_seat (c : Chip) : (Chip.edgePlls c).seat = c.seat := by
  simp [Chip.edgePlls]

@[simp] theorem Chip.beginEdge_sound (c : Chip) (e : Edge) (m : Mode) (h : c.sound = true) : (Chip.beginEdge c e
    m).sound = true := by
  simp (contextual := true) (maxDischargeDepth := 60) [Chip.beginEdge, h]

@[simp] theorem Chip.beginEdge_seat (c : Chip) (e : Edge) (m : Mode) : (Chip.beginEdge c e m).seat = c.seat := by
  simp [Chip.beginEdge]

/-- Only an edge into STANDBY lets queued writes leave for DRAM at its start (R350). -/
theorem Chip.beginEdge_stores (c : Chip) (e : Edge) (m : Mode) (hm : m ≠ .standby) :
    (Chip.beginEdge c e m).stores = c.stores := by
  simp [Chip.beginEdge, Chip.edgeDram, hm]

end Sys2Proof.Machine
end

