-- ==== Sys2Proof/Laws/Edges.lean ====
section
/-! SUPPORT. Every operation of Machine/Edges.lean keeps the part sound; those that touch no store leave the stores as
they are, and those that enter no mode leave the mode and its cause. -/

namespace Sys2Proof.Machine

open Sys2Proof

/-- A domain that comes ON loses nothing. -/
@[simp] theorem Chip.applySwitch_on_stores (c : Chip) (d : Nat) : (c.applySwitch (d, .on)).stores = c.stores := by
  simp [Chip.applySwitch]

@[simp] theorem Chip.clearPllStat_sound (c : Chip) (h : c.sound = true) : (Chip.clearPllStat c).sound = true := by
  simp (contextual := true) (maxDischargeDepth := 60) [Chip.clearPllStat, h]

@[simp] theorem Chip.clearPllStat_stores (c : Chip) : (Chip.clearPllStat c).stores = c.stores := by
  rfl

@[simp] theorem Chip.clearPllStat_seat (c : Chip) : (Chip.clearPllStat c).seat = c.seat := by
  rfl

@[simp] theorem Chip.clearHidden_sound (c : Chip) (d : Nat) (h : c.sound = true) : (Chip.clearHidden c d).sound
    = true := by
  unfold Chip.clearHidden; split <;> simp (contextual := true) (maxDischargeDepth := 60) [Stores.wf_iff, h]

@[simp] theorem Chip.clearHidden_seat (c : Chip) (d : Nat) : (Chip.clearHidden c d).seat = c.seat := by
  unfold Chip.clearHidden; split <;> simp

@[simp] theorem Chip.applySwitch_sound (c : Chip) (x : Nat × PdState) (h : c.sound = true) : (Chip.applySwitch c
    x).sound = true := by
  simp (contextual := true) (maxDischargeDepth := 60) [Chip.applySwitch, h]

/-- PD50 holds nothing that is stored. -/
@[simp] theorem Chip.applySwitch_fuse_stores (c : Chip) (s : PdState) : (c.applySwitch (50, s)).stores = c.stores := by
  unfold Chip.applySwitch
  split
  · simp [Chip.clearHidden]
  · simp

@[simp] theorem Chip.applySwitch_seat (c : Chip) (x : Nat × PdState) : (Chip.applySwitch c x).seat = c.seat := by
  simp [Chip.applySwitch]

@[simp] theorem Chip.lostCause_sound (c : Chip) (cause : Nat) (h : c.sound = true) : (Chip.lostCause c
    cause).sound = true := by
  simp (contextual := true) (maxDischargeDepth := 60) [Chip.lostCause, h]

@[simp] theorem Chip.lostCause_stores (c : Chip) (cause : Nat) : (Chip.lostCause c cause).stores = c.stores := by
  simp [Chip.lostCause]

@[simp] theorem Chip.lostCause_seat (c : Chip) (cause : Nat) : (Chip.lostCause c cause).seat = c.seat := by
  simp [Chip.lostCause]

@[simp] theorem Chip.abandonEdge_sound (c : Chip) (h : c.sound = true) : (Chip.abandonEdge c).sound = true := by
  simp (contextual := true) (maxDischargeDepth := 60) [Chip.abandonEdge, h]

@[simp] theorem Chip.abandonEdge_stores (c : Chip) : (Chip.abandonEdge c).stores = c.stores := by
  rfl

@[simp] theorem Chip.abandonEdge_seat (c : Chip) : (Chip.abandonEdge c).seat = c.seat := by
  rfl

@[simp] theorem Chip.dropLoad_sound (c : Chip) (h : c.sound = true) : (Chip.dropLoad c).sound = true := by
  simp (contextual := true) (maxDischargeDepth := 60) [Chip.dropLoad, h]

@[simp] theorem Chip.dropLoad_stores (c : Chip) : (Chip.dropLoad c).stores = c.stores := by
  simp [Chip.dropLoad]

@[simp] theorem Chip.dropLoad_seat (c : Chip) : (Chip.dropLoad c).seat = c.seat := by
  simp [Chip.dropLoad]

@[simp] theorem Chip.forceEdge_sound (c : Chip) (e : Edge) (m : Mode) (cause : Nat) (h : c.sound = true) :
    (Chip.forceEdge c e m cause).sound = true := by
  simp (contextual := true) (maxDischargeDepth := 60) [Chip.forceEdge, h]

@[simp] theorem Chip.forceEdge_seat (c : Chip) (e : Edge) (m : Mode) (cause : Nat) : (Chip.forceEdge c e m
    cause).seat = c.seat := by
  simp [Chip.forceEdge]

/-- A forced edge that does not lead to STANDBY stores nothing. -/
theorem Chip.forceEdge_stores (c : Chip) (e : Edge) (m : Mode) (cause : Nat) (hm : m ≠ .standby) :
    (Chip.forceEdge c e m cause).stores = c.stores := by
  unfold Chip.forceEdge; split <;> simp [Chip.beginEdge_stores, hm]

@[simp] theorem Chip.exitCause_sound (c : Chip) (ch : Nat) (cause : Nat) (h : c.sound = true) : (Chip.exitCause c ch
    cause).sound = true := by
  simp (contextual := true) (maxDischargeDepth := 60) [Chip.exitCause, h]

@[simp] theorem Chip.exitCause_stores (c : Chip) (ch : Nat) (cause : Nat) : (Chip.exitCause c ch cause).stores =
    c.stores := by
  simp [Chip.exitCause]

@[simp] theorem Chip.exitCause_seat (c : Chip) (ch : Nat) (cause : Nat) : (Chip.exitCause c ch cause).seat = c.seat
    := by
  simp [Chip.exitCause]

@[simp] theorem Chip.wakeStart_sound (c : Chip) (h : c.sound = true) : (Chip.wakeStart c).sound = true := by
  simp (contextual := true) (maxDischargeDepth := 60) [Chip.wakeStart, h]

@[simp] theorem Chip.wakeStart_stores (c : Chip) : (Chip.wakeStart c).stores = c.stores := by
  simp [Chip.wakeStart]

@[simp] theorem Chip.wakeStart_seat (c : Chip) : (Chip.wakeStart c).seat = c.seat := by
  simp [Chip.wakeStart]

@[simp] theorem Chip.moorCause_sound (c : Chip) (cause : Nat) (h : c.sound = true) : (Chip.moorCause c
    cause).sound = true := by
  simp (contextual := true) (maxDischargeDepth := 60) [Chip.moorCause, h]

@[simp] theorem Chip.moorCause_stores (c : Chip) (cause : Nat) : (Chip.moorCause c cause).stores = c.stores := by
  simp [Chip.moorCause]

@[simp] theorem Chip.moorCause_seat (c : Chip) (cause : Nat) : (Chip.moorCause c cause).seat = c.seat := by
  simp [Chip.moorCause]

@[simp] theorem Chip.moorExit_sound (c : Chip) (cause : Nat) (h : c.sound = true) : (Chip.moorExit c
    cause).sound = true := by
  simp (contextual := true) (maxDischargeDepth := 60) [Chip.moorExit, h]

@[simp] theorem Chip.moorExit_stores (c : Chip) (cause : Nat) : (Chip.moorExit c cause).stores = c.stores := by
  simp [Chip.moorExit]

@[simp] theorem Chip.moorExit_seat (c : Chip) (cause : Nat) : (Chip.moorExit c cause).seat = c.seat := by
  simp [Chip.moorExit]

@[simp] theorem Chip.withSafe_sound (c : Chip) (f : Chip → Chip) (h : c.sound = true) (hf : ∀ c : Chip, c.sound
    = true → (f c).sound = true) : (Chip.withSafe c f).sound = true := by
  simp (contextual := true) (maxDischargeDepth := 60) [Chip.withSafe, h, hf]

@[simp] theorem Chip.withSafe_stores (c : Chip) (f : Chip → Chip) (hf : ∀ c : Chip, (f c).stores = c.stores) :
    (Chip.withSafe c f).stores = c.stores := by
  simp [Chip.withSafe, hf]

@[simp] theorem Chip.withSafe_seat (c : Chip) (f : Chip → Chip) (hf : ∀ c : Chip, (f c).seat = c.seat) :
    (Chip.withSafe c f).seat = c.seat := by
  simp [Chip.withSafe, hf]

end Sys2Proof.Machine
end

