-- ==== Sys2Proof/Laws/Clocks.lean ====
section
/-! SUPPORT. Every operation of Machine/Clocks.lean keeps the part sound; those that touch no store leave the stores as
they are, and those that enter no mode leave the mode and its cause. -/

namespace Sys2Proof.Machine

open Sys2Proof

/-- Setting one key after another keeps the canonical form. -/
@[simp] theorem SMap.foldl_set_wf {α β : Type} [DecidableEq α] (d : Nat → α) (k : β → Nat) (v : β → α) (l : List β)
    (m : List (Nat × α)) (h : SMap.wf d m = true) :
    SMap.wf d (l.foldl (fun m p => SMap.set d m (k p) (v p)) m) = true := by
  induction l generalizing m with
  | nil => exact h
  | cons x t ih => exact ih _ (SMap.set_wf d m (k x) (v x) h)

@[simp] theorem Chip.tbAdd_sound (c : Chip) (k : Nat) (h : c.sound = true) : (Chip.tbAdd c k).sound = true := by
  simp (contextual := true) (maxDischargeDepth := 60) [Chip.tbAdd, h]

@[simp] theorem Chip.tbAdd_stores (c : Chip) (k : Nat) : (Chip.tbAdd c k).stores = c.stores := by
  rfl

@[simp] theorem Chip.tbAdd_seat (c : Chip) (k : Nat) : (Chip.tbAdd c k).seat = c.seat := by
  rfl

@[simp] theorem Chip.tbToIrc_sound (c : Chip) (since : Nat) (h : c.sound = true) : (Chip.tbToIrc c since).sound
    = true := by
  simp (contextual := true) (maxDischargeDepth := 60) [Chip.tbToIrc, h]

@[simp] theorem Chip.tbToIrc_stores (c : Chip) (since : Nat) : (Chip.tbToIrc c since).stores = c.stores := by
  simp [Chip.tbToIrc]

@[simp] theorem Chip.tbToIrc_seat (c : Chip) (since : Nat) : (Chip.tbToIrc c since).seat = c.seat := by
  simp [Chip.tbToIrc]

@[simp] theorem Chip.tbToXin_sound (c : Chip) (h : c.sound = true) : (Chip.tbToXin c).sound = true := by
  simp (contextual := true) (maxDischargeDepth := 60) [Chip.tbToXin, h]

@[simp] theorem Chip.tbToXin_stores (c : Chip) : (Chip.tbToXin c).stores = c.stores := by
  rfl

@[simp] theorem Chip.tbToXin_seat (c : Chip) : (Chip.tbToXin c).seat = c.seat := by
  rfl

@[simp] theorem Chip.tbTick_sound (c : Chip) (h : c.sound = true) : (Chip.tbTick c).sound = true := by
  simp (contextual := true) (maxDischargeDepth := 60) [Chip.tbTick, h]

@[simp] theorem Chip.tbTick_stores (c : Chip) : (Chip.tbTick c).stores = c.stores := by
  rfl

@[simp] theorem Chip.tbTick_seat (c : Chip) : (Chip.tbTick c).seat = c.seat := by
  rfl

@[simp] theorem Chip.tbSnap_sound (c : Chip) (h : c.sound = true) : (Chip.tbSnap c).sound = true := by
  simp (contextual := true) (maxDischargeDepth := 60) [Chip.tbSnap, h]

@[simp] theorem Chip.tbSnap_stores (c : Chip) : (Chip.tbSnap c).stores = c.stores := by
  rfl

@[simp] theorem Chip.tbSnap_seat (c : Chip) : (Chip.tbSnap c).seat = c.seat := by
  rfl

@[simp] theorem Chip.ftrimStep_sound (c : Chip) (up : Bool) (h : c.sound = true) : (Chip.ftrimStep c up).sound =
    true := by
  simp (contextual := true) (maxDischargeDepth := 60) [Chip.ftrimStep, h]

@[simp] theorem Chip.ftrimStep_stores (c : Chip) (up : Bool) : (Chip.ftrimStep c up).stores = c.stores := by
  simp [Chip.ftrimStep]

@[simp] theorem Chip.ftrimStep_seat (c : Chip) (up : Bool) : (Chip.ftrimStep c up).seat = c.seat := by
  simp [Chip.ftrimStep]

@[simp] theorem Chip.trimXin_sound (c : Chip) (count : Nat) (h : c.sound = true) : (Chip.trimXin c count).sound
    = true := by
  simp (contextual := true) (maxDischargeDepth := 60) [Chip.trimXin, h]

@[simp] theorem Chip.trimXin_stores (c : Chip) (count : Nat) : (Chip.trimXin c count).stores = c.stores := by
  simp [Chip.trimXin]

@[simp] theorem Chip.trimXin_seat (c : Chip) (count : Nat) : (Chip.trimXin c count).seat = c.seat := by
  simp [Chip.trimXin]

@[simp] theorem Chip.trimFrame_sound (c : Chip) (src : Nat) (count : Nat) (h : c.sound = true) : (Chip.trimFrame
    c src count).sound = true := by
  simp (contextual := true) (maxDischargeDepth := 60) [Chip.trimFrame, h]

@[simp] theorem Chip.trimFrame_stores (c : Chip) (src : Nat) (count : Nat) : (Chip.trimFrame c src count).stores
    = c.stores := by
  simp [Chip.trimFrame]

@[simp] theorem Chip.trimFrame_seat (c : Chip) (src : Nat) (count : Nat) : (Chip.trimFrame c src count).seat =
    c.seat := by
  simp [Chip.trimFrame]

@[simp] theorem Chip.monFault_sound (c : Chip) (cause : Nat) (h : c.sound = true) : (Chip.monFault c
    cause).sound = true := by
  simp (contextual := true) (maxDischargeDepth := 60) [Chip.monFault, h]

@[simp] theorem Chip.monFault_stores (c : Chip) (cause : Nat) : (Chip.monFault c cause).stores = c.stores := by
  simp [Chip.monFault]

@[simp] theorem Chip.monFault_seat (c : Chip) (cause : Nat) : (Chip.monFault c cause).seat = c.seat := by
  simp [Chip.monFault]

@[simp] theorem Chip.clocksToIrc_sound (c : Chip) (since : Nat) (h : c.sound = true) : (Chip.clocksToIrc c
    since).sound = true := by
  simp (contextual := true) (maxDischargeDepth := 60) [Chip.clocksToIrc, h]

@[simp] theorem Chip.clocksToIrc_stores (c : Chip) (since : Nat) : (Chip.clocksToIrc c since).stores = c.stores := by
  simp [Chip.clocksToIrc]

@[simp] theorem Chip.clocksToIrc_seat (c : Chip) (since : Nat) : (Chip.clocksToIrc c since).seat = c.seat := by
  simp [Chip.clocksToIrc]

@[simp] theorem Chip.scrambleDram_sound (c : Chip) (ch : Nat) (h : c.sound = true) : (Chip.scrambleDram c
    ch).sound = true := by
  refine Chip.takeFree_sound _ ?_
  rw [Chip.sound_mk, Stores.wf_iff]
  exact ⟨⟨SMap.foldl_set_wf dramDefault (fun p : Nat × Byte => p.1) (fun p => Config.freeByte c.free p.1) _ c.dram
    (c.dram_wf h), c.flash_wf h, c.safe_wf h, c.otp_wf h⟩, c.regs_wf h, c.eff_wf h, c.heldA_wf h, c.heldB_wf h⟩

@[simp] theorem Chip.scrambleDram_seat (c : Chip) (ch : Nat) : (Chip.scrambleDram c ch).seat = c.seat := by
  rfl

@[simp] theorem Chip.holdover_sound (c : Chip) (faulty : Option Nat) (p : Nat) (h : c.sound = true) :
    (Chip.holdover c faulty p).sound = true := by
  simp (contextual := true) (maxDischargeDepth := 60) [Chip.holdover, h]

@[simp] theorem Chip.holdover_stores (c : Chip) (faulty : Option Nat) (p : Nat) : (Chip.holdover c faulty
    p).stores = c.stores := by
  simp [Chip.holdover]

@[simp] theorem Chip.holdover_seat (c : Chip) (faulty : Option Nat) (p : Nat) : (Chip.holdover c faulty p).seat
    = c.seat := by
  simp [Chip.holdover]

@[simp] theorem Chip.reflostSleep_sound (c : Chip) (ch : Nat) (h : c.sound = true) : (Chip.reflostSleep c ch).sound
    = true := by
  simp (contextual := true) (maxDischargeDepth := 60) [Chip.reflostSleep, h]

@[simp] theorem Chip.reflostSleep_seat (c : Chip) (ch : Nat) : (Chip.reflostSleep c ch).seat = c.seat := by
  simp [Chip.reflostSleep]

@[simp] theorem Chip.reflostLose_sound (c : Chip) (ch : Nat) (h : c.sound = true) : (Chip.reflostLose c ch).sound =
    true := by
  simp (contextual := true) (maxDischargeDepth := 60) [Chip.reflostLose, h]

@[simp] theorem Chip.reflostLose_seat (c : Chip) (ch : Nat) : (Chip.reflostLose c ch).seat = c.seat := by
  simp [Chip.reflostLose]

@[simp] theorem Chip.reflostDram_sound (c : Chip) (faulty : Option Nat) (h : c.sound = true) : (Chip.reflostDram
    c faulty).sound = true := by
  simp (contextual := true) (maxDischargeDepth := 60) [Chip.reflostDram, h]

@[simp] theorem Chip.reflostDram_seat (c : Chip) (faulty : Option Nat) : (Chip.reflostDram c faulty).seat =
    c.seat := by
  simp [Chip.reflostDram]

@[simp] theorem Chip.refFault_sound (c : Chip) (cause : Nat) (faulty : Option Nat) (since : Nat) (h : c.sound =
    true) : (Chip.refFault c cause faulty since).sound = true := by
  simp (contextual := true) (maxDischargeDepth := 60) [Chip.refFault, h]

@[simp] theorem Chip.refFault_seat (c : Chip) (cause : Nat) (faulty : Option Nat) (since : Nat) : (Chip.refFault
    c cause faulty since).seat = c.seat := by
  simp [Chip.refFault]

@[simp] theorem Chip.standbyFault_sound (c : Chip) (cause : Nat) (since : Nat) (h : c.sound = true) :
    (Chip.standbyFault c cause since).sound = true := by
  simp (contextual := true) (maxDischargeDepth := 60) [Chip.standbyFault, h]

@[simp] theorem Chip.standbyFault_stores (c : Chip) (cause : Nat) (since : Nat) : (Chip.standbyFault c cause
    since).stores = c.stores := by
  simp [Chip.standbyFault]

@[simp] theorem Chip.xinFault_sound (c : Chip) (cause : Nat) (since : Nat) (h : c.sound = true) : (Chip.xinFault
    c cause since).sound = true := by
  simp (contextual := true) (maxDischargeDepth := 60) [Chip.xinFault, h]

@[simp] theorem Chip.xinGlitch_sound (c : Chip) (since : Nat) (h : c.sound = true) : (Chip.xinGlitch c
    since).sound = true := by
  simp (contextual := true) (maxDischargeDepth := 60) [Chip.xinGlitch, h]

@[simp] theorem Chip.gateXin_sound (c : Chip) (edges : Nat) (since : Nat) (h : c.sound = true) : (Chip.gateXin c
    edges since).sound = true := by
  simp (contextual := true) (maxDischargeDepth := 60) [Chip.gateXin, h]

@[simp] theorem Chip.gatePlls_sound (c : Chip) (rates : List Nat) (since : Nat) (h : c.sound = true) :
    (Chip.gatePlls c rates since).sound = true := by
  unfold Chip.gatePlls; split <;> simp (contextual := true) (maxDischargeDepth := 60) [h]

@[simp] theorem Chip.gatePlls_seat (c : Chip) (rates : List Nat) (since : Nat) : (Chip.gatePlls c rates
    since).seat = c.seat := by
  unfold Chip.gatePlls; split <;> simp

@[simp] theorem Chip.monGate_sound (c : Chip) (edges : Nat) (rates : List Nat) (since : Nat) (h : c.sound =
    true) : (Chip.monGate c edges rates since).sound = true := by
  simp (contextual := true) (maxDischargeDepth := 60) [Chip.monGate, h]

@[simp] theorem Chip.monClear_sound (c : Chip) (h : c.sound = true) : (Chip.monClear c).sound = true := by
  simp (contextual := true) (maxDischargeDepth := 60) [Chip.monClear, h]

@[simp] theorem Chip.monClear_stores (c : Chip) : (Chip.monClear c).stores = c.stores := by
  rfl

@[simp] theorem Chip.monClear_seat (c : Chip) : (Chip.monClear c).seat = c.seat := by
  rfl

@[simp] theorem Chip.pllLock_sound (c : Chip) (p : Nat) (us : Nat) (h : c.sound = true) : (Chip.pllLock c p
    us).sound = true := by
  simp (contextual := true) (maxDischargeDepth := 60) [Chip.pllLock, h]

@[simp] theorem Chip.pllLock_stores (c : Chip) (p : Nat) (us : Nat) : (Chip.pllLock c p us).stores = c.stores := by
  simp [Chip.pllLock]

@[simp] theorem Chip.pllLock_seat (c : Chip) (p : Nat) (us : Nat) : (Chip.pllLock c p us).seat = c.seat := by
  simp [Chip.pllLock]

@[simp] theorem Chip.rampStart_sound (c : Chip) (n : Nat) (h : c.sound = true) : (Chip.rampStart c n).sound =
    true := by
  simp (contextual := true) (maxDischargeDepth := 60) [Chip.rampStart, h]

@[simp] theorem Chip.rampStart_stores (c : Chip) (n : Nat) : (Chip.rampStart c n).stores = c.stores := by
  simp [Chip.rampStart]

@[simp] theorem Chip.rampStart_seat (c : Chip) (n : Nat) : (Chip.rampStart c n).seat = c.seat := by
  simp [Chip.rampStart]

@[simp] theorem Chip.lockHold_sound (c : Chip) (p : Nat) (h : c.sound = true) : (Chip.lockHold c p).sound = true := by
  simp (contextual := true) (maxDischargeDepth := 60) [Chip.lockHold, h]

@[simp] theorem Chip.lockHold_stores (c : Chip) (p : Nat) : (Chip.lockHold c p).stores = c.stores := by
  simp [Chip.lockHold]

@[simp] theorem Chip.lockHold_seat (c : Chip) (p : Nat) : (Chip.lockHold c p).seat = c.seat := by
  simp [Chip.lockHold]

@[simp] theorem Chip.lockLoss_sound (c : Chip) (p : Nat) (since : Nat) (h : c.sound = true) : (Chip.lockLoss c p
    since).sound = true := by
  simp (contextual := true) (maxDischargeDepth := 60) [Chip.lockLoss, h]

@[simp] theorem Chip.lockLoss_seat (c : Chip) (p : Nat) (since : Nat) : (Chip.lockLoss c p since).seat = c.seat := by
  simp [Chip.lockLoss]

@[simp] theorem Chip.pllvFrac_sound (c : Chip) (v : Word) (h : c.sound = true) : (Chip.pllvFrac c v).sound =
    true := by
  simp (contextual := true) (maxDischargeDepth := 60) [Chip.pllvFrac, h]

@[simp] theorem Chip.pllvFrac_stores (c : Chip) (v : Word) : (Chip.pllvFrac c v).stores = c.stores := by
  simp [Chip.pllvFrac]

@[simp] theorem Chip.pllvFrac_seat (c : Chip) (v : Word) : (Chip.pllvFrac c v).seat = c.seat := by
  simp [Chip.pllvFrac]

@[simp] theorem Chip.pllvTrack_sound (c : Chip) (ppm : Int) (h : c.sound = true) : (Chip.pllvTrack c
    ppm).1.sound = true := by
  simp only [Chip.pllvTrack]; (repeat' split) <;> simp (contextual := true) (maxDischargeDepth := 60) [h]

@[simp] theorem Chip.pllvTrack_stores (c : Chip) (ppm : Int) : (Chip.pllvTrack c ppm).1.stores = c.stores := by
  simp only [Chip.pllvTrack]; (repeat' split) <;> simp

@[simp] theorem Chip.pllvTrack_seat (c : Chip) (ppm : Int) : (Chip.pllvTrack c ppm).1.seat = c.seat := by
  simp only [Chip.pllvTrack]; (repeat' split) <;> simp

@[simp] theorem Chip.fmWrite_sound (c : Chip) (m : Nat) (v : Word) (h : c.sound = true) : (Chip.fmWrite c m
    v).sound = true := by
  simp (contextual := true) (maxDischargeDepth := 60) [Chip.fmWrite, h]

@[simp] theorem Chip.fmWrite_stores (c : Chip) (m : Nat) (v : Word) : (Chip.fmWrite c m v).stores = c.stores := by
  simp [Chip.fmWrite]

@[simp] theorem Chip.fmWrite_seat (c : Chip) (m : Nat) (v : Word) : (Chip.fmWrite c m v).seat = c.seat := by
  simp [Chip.fmWrite]

@[simp] theorem Chip.fmEnd_sound (c : Chip) (m : Nat) (count : Nat) (tmo : Bool) (h : c.sound = true) :
    (Chip.fmEnd c m count tmo).sound = true := by
  simp (contextual := true) (maxDischargeDepth := 60) [Chip.fmEnd, h]

@[simp] theorem Chip.fmEnd_stores (c : Chip) (m : Nat) (count : Nat) (tmo : Bool) : (Chip.fmEnd c m count
    tmo).stores = c.stores := by
  simp [Chip.fmEnd]

@[simp] theorem Chip.fmEnd_seat (c : Chip) (m : Nat) (count : Nat) (tmo : Bool) : (Chip.fmEnd c m count
    tmo).seat = c.seat := by
  simp [Chip.fmEnd]

end Sys2Proof.Machine
end

