-- ==== Sys2Proof/Laws/Power.lean ====
section
/-! SUPPORT. Every operation of Machine/Power.lean keeps the part sound; those that touch no store leave the stores as
they are, and those that enter no mode leave the mode and its cause. -/

namespace Sys2Proof.Machine

open Sys2Proof

@[simp] theorem Chip.startStep_sound (c : Chip) (n : Nat) (h : c.sound = true) : (Chip.startStep c n).sound =
    true := by
  simp (contextual := true) (maxDischargeDepth := 60) [Chip.startStep, h]

@[simp] theorem Chip.startStep_stores (c : Chip) (n : Nat) : (Chip.startStep c n).stores = c.stores := by
  rfl

@[simp] theorem Chip.startStep_seat (c : Chip) (n : Nat) : (Chip.startStep c n).seat = c.seat := by
  rfl

@[simp] theorem Chip.coldCopy_sound (c : Chip) (h : c.sound = true) : (Chip.coldCopy c).sound = true := by
  simp (contextual := true) (maxDischargeDepth := 60) [Chip.coldCopy, h]

@[simp] theorem Chip.coldCopy_stores (c : Chip) : (Chip.coldCopy c).stores = c.stores := by
  simp [Chip.coldCopy]

@[simp] theorem Chip.coldCopy_seat (c : Chip) : (Chip.coldCopy c).seat = c.seat := by
  simp [Chip.coldCopy]

@[simp] theorem Chip.stepsEnd_sound (c : Chip) (h : c.sound = true) : (Chip.stepsEnd c).sound = true := by
  simp (contextual := true) (maxDischargeDepth := 60) [Chip.stepsEnd, h]

@[simp] theorem Chip.stepsEnd_stores (c : Chip) : (Chip.stepsEnd c).stores = c.stores := by
  unfold Chip.stepsEnd
  split <;> simp

@[simp] theorem Chip.stepsEnd_seat (c : Chip) : (Chip.stepsEnd c).seat = c.seat := by
  simp [Chip.stepsEnd]

@[simp] theorem Chip.nextStep_sound (c : Chip) (n : Nat) (h : c.sound = true) : (Chip.nextStep c n).sound = true := by
  unfold Chip.nextStep; split <;> simp (contextual := true) (maxDischargeDepth := 60) [h]

@[simp] theorem Chip.nextStep_stores (c : Chip) (n : Nat) : (Chip.nextStep c n).stores = c.stores := by
  unfold Chip.nextStep; split <;> simp

@[simp] theorem Chip.nextStep_seat (c : Chip) (n : Nat) : (Chip.nextStep c n).seat = c.seat := by
  unfold Chip.nextStep; split <;> simp

@[simp] theorem Chip.startWake_sound (c : Chip) (src : Nat) (cold : Bool) (h : c.sound = true) : (Chip.startWake
    c src cold).sound = true := by
  simp (contextual := true) (maxDischargeDepth := 60) [Chip.startWake, h]

@[simp] theorem Chip.startWake_stores (c : Chip) (src : Nat) (cold : Bool) : (Chip.startWake c src cold).stores =
    c.stores := by
  simp [Chip.startWake]

@[simp] theorem Chip.startWake_seat (c : Chip) (src : Nat) (cold : Bool) : (Chip.startWake c src cold).seat =
    c.seat := by
  simp [Chip.startWake]

@[simp] theorem Chip.wakeTrigger_sound (c : Chip) (src : Nat) (h : c.sound = true) : (Chip.wakeTrigger c
    src).sound = true := by
  simp (contextual := true) (maxDischargeDepth := 60) [Chip.wakeTrigger, h]

@[simp] theorem Chip.wakeTrigger_stores (c : Chip) (src : Nat) : (Chip.wakeTrigger c src).stores = c.stores := by
  simp [Chip.wakeTrigger]

@[simp] theorem Chip.wakeTrigger_seat (c : Chip) (src : Nat) : (Chip.wakeTrigger c src).seat = c.seat := by
  simp [Chip.wakeTrigger]

@[simp] theorem Chip.lowerEn_sound (c : Chip) (h : c.sound = true) : (Chip.lowerEn c).sound = true := by
  unfold Chip.lowerEn; split <;> simp (contextual := true) (maxDischargeDepth := 60) [h]

@[simp] theorem Chip.lowerEn_stores (c : Chip) : (Chip.lowerEn c).stores = c.stores := by
  unfold Chip.lowerEn; split <;> simp

@[simp] theorem Chip.lowerEn_seat (c : Chip) : (Chip.lowerEn c).seat = c.seat := by
  unfold Chip.lowerEn; split <;> simp

@[simp] theorem Chip.lowerAll_sound (c : Chip) (h : c.sound = true) : (Chip.lowerAll c).sound = true := by
  simp (contextual := true) (maxDischargeDepth := 60) [Chip.lowerAll, h]

@[simp] theorem Chip.lowerAll_stores (c : Chip) : (Chip.lowerAll c).stores = c.stores := by
  rfl

@[simp] theorem Chip.lowerAll_seat (c : Chip) : (Chip.lowerAll c).seat = c.seat := by
  rfl

@[simp] theorem Chip.backoutIfDone_sound (c : Chip) (h : c.sound = true) : (Chip.backoutIfDone c).sound = true := by
  simp (contextual := true) (maxDischargeDepth := 60) [Chip.backoutIfDone, h]

@[simp] theorem Chip.backoutIfDone_stores (c : Chip) : (Chip.backoutIfDone c).stores = c.stores := by
  simp [Chip.backoutIfDone]

@[simp] theorem Chip.backoutIfDone_seat (c : Chip) : (Chip.backoutIfDone c).seat = c.seat := by
  simp [Chip.backoutIfDone]

@[simp] theorem Chip.wakeFail_sound (c : Chip) (kind : Nat) (n : Nat) (time : Nat) (h : c.sound = true) :
    (Chip.wakeFail c kind n time).sound = true := by
  simp (contextual := true) (maxDischargeDepth := 60) [Chip.wakeFail, h]

@[simp] theorem Chip.wakeFail_seat (c : Chip) (kind : Nat) (n : Nat) (time : Nat) : (Chip.wakeFail c kind n
    time).seat = c.seat := by
  simp [Chip.wakeFail]

@[simp] theorem Chip.stepDone_sound (c : Chip) (n : Nat) (h : c.sound = true) : (Chip.stepDone c n).sound = true := by
  simp (contextual := true) (maxDischargeDepth := 60) [Chip.stepDone, h]

@[simp] theorem Chip.stepDone_stores (c : Chip) (n : Nat) : (Chip.stepDone c n).stores = c.stores := by
  simp [Chip.stepDone]

@[simp] theorem Chip.stepDone_seat (c : Chip) (n : Nat) : (Chip.stepDone c n).seat = c.seat := by
  simp [Chip.stepDone]

@[simp] theorem Chip.wakeUnlock_sound (c : Chip) (v : Half) (h : c.sound = true) : (Chip.wakeUnlock c v).sound =
    true := by
  simp (contextual := true) (maxDischargeDepth := 60) [Chip.wakeUnlock, h]

@[simp] theorem Chip.wakeUnlock_stores (c : Chip) (v : Half) : (Chip.wakeUnlock c v).stores = c.stores := by
  simp [Chip.wakeUnlock]

@[simp] theorem Chip.wakeUnlock_seat (c : Chip) (v : Half) : (Chip.wakeUnlock c v).seat = c.seat := by
  simp [Chip.wakeUnlock]

end Sys2Proof.Machine
end

