-- ==== Sys2Proof/Laws/Lock.lean ====
section
/-! SUPPORT. Every operation of Machine/Lock.lean keeps the part sound; those that touch no store leave the stores as
they are, and those that enter no mode leave the mode and its cause. -/

namespace Sys2Proof.Machine

open Sys2Proof

@[simp] theorem Chip.srcOn_sound (c : Chip) (n : Nat) (data : Nat) (h : c.sound = true) : (Chip.srcOn c n
    data).sound = true := by
  simp (contextual := true) (maxDischargeDepth := 60) [Chip.srcOn, h]

@[simp] theorem Chip.srcOn_stores (c : Chip) (n : Nat) (data : Nat) : (Chip.srcOn c n data).stores = c.stores := by
  simp [Chip.srcOn]

@[simp] theorem Chip.srcOn_seat (c : Chip) (n : Nat) (data : Nat) : (Chip.srcOn c n data).seat = c.seat := by
  simp [Chip.srcOn]

@[simp] theorem Chip.srcOff_sound (c : Chip) (n : Nat) (h : c.sound = true) : (Chip.srcOff c n).sound = true := by
  simp (contextual := true) (maxDischargeDepth := 60) [Chip.srcOff, h]

@[simp] theorem Chip.srcOff_stores (c : Chip) (n : Nat) : (Chip.srcOff c n).stores = c.stores := by
  simp [Chip.srcOff]

@[simp] theorem Chip.srcOff_seat (c : Chip) (n : Nat) : (Chip.srcOff c n).seat = c.seat := by
  simp [Chip.srcOff]

@[simp] theorem Chip.clearLatch_sound (c : Chip) (n : Nat) (h : c.sound = true) : (Chip.clearLatch c n).sound =
    true := by
  simp (contextual := true) (maxDischargeDepth := 60) [Chip.clearLatch, h]

@[simp] theorem Chip.clearLatch_stores (c : Chip) (n : Nat) : (Chip.clearLatch c n).stores = c.stores := by
  simp [Chip.clearLatch]

@[simp] theorem Chip.clearLatch_seat (c : Chip) (n : Nat) : (Chip.clearLatch c n).seat = c.seat := by
  simp [Chip.clearLatch]

@[simp] theorem Chip.latchClear_sound (c : Chip) (v : Word) (h : c.sound = true) : (Chip.latchClear c v).sound =
    true := by
  simp (contextual := true) (maxDischargeDepth := 60) [Chip.latchClear, h]

@[simp] theorem Chip.latchClear_stores (c : Chip) (v : Word) : (Chip.latchClear c v).stores = c.stores := by
  simp [Chip.latchClear]

@[simp] theorem Chip.latchClear_seat (c : Chip) (v : Word) : (Chip.latchClear c v).seat = c.seat := by
  simp [Chip.latchClear]

@[simp] theorem Chip.arm_sound (c : Chip) (v : Word) (h : c.sound = true) : (Chip.arm c v).sound = true := by
  simp (contextual := true) (maxDischargeDepth := 60) [Chip.arm, h]

@[simp] theorem Chip.arm_stores (c : Chip) (v : Word) : (Chip.arm c v).stores = c.stores := by
  simp [Chip.arm]

@[simp] theorem Chip.arm_seat (c : Chip) (v : Word) : (Chip.arm c v).seat = c.seat := by
  simp [Chip.arm]

@[simp] theorem Chip.hostKill_sound (c : Chip) (on : Bool) (h : c.sound = true) : (Chip.hostKill c on).sound =
    true := by
  simp (contextual := true) (maxDischargeDepth := 60) [Chip.hostKill, h]

@[simp] theorem Chip.hostKill_stores (c : Chip) (on : Bool) : (Chip.hostKill c on).stores = c.stores := by
  simp [Chip.hostKill]

@[simp] theorem Chip.hostKill_seat (c : Chip) (on : Bool) : (Chip.hostKill c on).seat = c.seat := by
  simp [Chip.hostKill]

@[simp] theorem Chip.safeForce_sound (c : Chip) (on : Bool) (h : c.sound = true) : (Chip.safeForce c on).sound =
    true := by
  simp (contextual := true) (maxDischargeDepth := 60) [Chip.safeForce, h]

@[simp] theorem Chip.safeForce_stores (c : Chip) (on : Bool) : (Chip.safeForce c on).stores = c.stores := by
  simp [Chip.safeForce]

@[simp] theorem Chip.safeForce_seat (c : Chip) (on : Bool) : (Chip.safeForce c on).seat = c.seat := by
  simp [Chip.safeForce]

@[simp] theorem Chip.thermSample_sound (c : Chip) (temp : Nat) (h : c.sound = true) : (Chip.thermSample c
    temp).sound = true := by
  simp (contextual := true) (maxDischargeDepth := 60) [Chip.thermSample, h]

@[simp] theorem Chip.thermSample_stores (c : Chip) (temp : Nat) : (Chip.thermSample c temp).stores = c.stores := by
  simp [Chip.thermSample]

@[simp] theorem Chip.thermSample_seat (c : Chip) (temp : Nat) : (Chip.thermSample c temp).seat = c.seat := by
  simp [Chip.thermSample]

@[simp] theorem Chip.logArrive_sound (c : Chip) (h : c.sound = true) : (Chip.logArrive c).sound = true := by
  unfold Chip.logArrive; split <;> simp (contextual := true) (maxDischargeDepth := 60) [h]

@[simp] theorem Chip.logArrive_stores (c : Chip) : (Chip.logArrive c).stores = c.stores := by
  unfold Chip.logArrive; split <;> simp

@[simp] theorem Chip.logArrive_seat (c : Chip) : (Chip.logArrive c).seat = c.seat := by
  unfold Chip.logArrive; split <;> simp

@[simp] theorem Chip.logClear_sound (c : Chip) (h : c.sound = true) : (Chip.logClear c).sound = true := by
  simp (contextual := true) (maxDischargeDepth := 60) [Chip.logClear, h]

@[simp] theorem Chip.logClear_stores (c : Chip) : (Chip.logClear c).stores = c.stores := by
  rfl

@[simp] theorem Chip.logClear_seat (c : Chip) : (Chip.logClear c).seat = c.seat := by
  rfl

@[simp] theorem Chip.logIdx_sound (c : Chip) (v : Word) (h : c.sound = true) : (Chip.logIdx c v).sound = true := by
  simp (contextual := true) (maxDischargeDepth := 60) [Chip.logIdx, h]

@[simp] theorem Chip.logIdx_stores (c : Chip) (v : Word) : (Chip.logIdx c v).stores = c.stores := by
  rfl

@[simp] theorem Chip.logIdx_seat (c : Chip) (v : Word) : (Chip.logIdx c v).seat = c.seat := by
  rfl

@[simp] theorem Chip.hostMarker_sound (c : Chip) (v : Word) (h : c.sound = true) : (Chip.hostMarker c v).sound =
    true := by
  simp (contextual := true) (maxDischargeDepth := 60) [Chip.hostMarker, h]

@[simp] theorem Chip.hostMarker_stores (c : Chip) (v : Word) : (Chip.hostMarker c v).stores = c.stores := by
  simp [Chip.hostMarker]

@[simp] theorem Chip.hostMarker_seat (c : Chip) (v : Word) : (Chip.hostMarker c v).seat = c.seat := by
  simp [Chip.hostMarker]

@[simp] theorem Chip.calRecord_sound (c : Chip) (unit : Nat) (data : Nat) (h : c.sound = true) : (Chip.calRecord
    c unit data).sound = true := by
  simp (contextual := true) (maxDischargeDepth := 60) [Chip.calRecord, h]

@[simp] theorem Chip.calRecord_stores (c : Chip) (unit : Nat) (data : Nat) : (Chip.calRecord c unit data).stores
    = c.stores := by
  simp [Chip.calRecord]

@[simp] theorem Chip.calRecord_seat (c : Chip) (unit : Nat) (data : Nat) : (Chip.calRecord c unit data).seat =
    c.seat := by
  simp [Chip.calRecord]

@[simp] theorem Chip.calPut_sound (c : Chip) (t : CalTime) (h : c.sound = true) : (Chip.calPut c t).sound = true := by
  simp (contextual := true) (maxDischargeDepth := 60) [Chip.calPut, h]

@[simp] theorem Chip.calPut_stores (c : Chip) (t : CalTime) : (Chip.calPut c t).stores = c.stores := by
  rfl

@[simp] theorem Chip.calPut_seat (c : Chip) (t : CalTime) : (Chip.calPut c t).seat = c.seat := by
  rfl

@[simp] theorem Chip.calReject_sound (c : Chip) (date : Word) (h : c.sound = true) : (Chip.calReject c
    date).sound = true := by
  simp (contextual := true) (maxDischargeDepth := 60) [Chip.calReject, h]

@[simp] theorem Chip.calReject_stores (c : Chip) (date : Word) : (Chip.calReject c date).stores = c.stores := by
  simp [Chip.calReject]

@[simp] theorem Chip.calReject_seat (c : Chip) (date : Word) : (Chip.calReject c date).seat = c.seat := by
  simp [Chip.calReject]

@[simp] theorem Chip.calSet_sound (c : Chip) (h : c.sound = true) : (Chip.calSet c).sound = true := by
  unfold Chip.calSet; split <;> simp (contextual := true) (maxDischargeDepth := 60) [h]

@[simp] theorem Chip.calSet_stores (c : Chip) : (Chip.calSet c).stores = c.stores := by
  unfold Chip.calSet; split <;> simp

@[simp] theorem Chip.calSet_seat (c : Chip) : (Chip.calSet c).seat = c.seat := by
  unfold Chip.calSet; split <;> simp

@[simp] theorem Chip.alarmSet_sound (c : Chip) (h : c.sound = true) : (Chip.alarmSet c).sound = true := by
  unfold Chip.alarmSet; split <;> simp (contextual := true) (maxDischargeDepth := 60) [h]

@[simp] theorem Chip.alarmSet_stores (c : Chip) : (Chip.alarmSet c).stores = c.stores := by
  unfold Chip.alarmSet; split <;> simp

@[simp] theorem Chip.alarmSet_seat (c : Chip) : (Chip.alarmSet c).seat = c.seat := by
  unfold Chip.alarmSet; split <;> simp

@[simp] theorem Chip.alarmMatch_sound (c : Chip) (h : c.sound = true) : (Chip.alarmMatch c).sound = true := by
  simp (contextual := true) (maxDischargeDepth := 60) [Chip.alarmMatch, h]

@[simp] theorem Chip.alarmMatch_stores (c : Chip) : (Chip.alarmMatch c).stores = c.stores := by
  simp [Chip.alarmMatch]

@[simp] theorem Chip.alarmMatch_seat (c : Chip) : (Chip.alarmMatch c).seat = c.seat := by
  simp [Chip.alarmMatch]

@[simp] theorem Chip.calSecond_sound (c : Chip) (h : c.sound = true) : (Chip.calSecond c).sound = true := by
  simp (contextual := true) (maxDischargeDepth := 60) [Chip.calSecond, h]

@[simp] theorem Chip.calSecond_stores (c : Chip) : (Chip.calSecond c).stores = c.stores := by
  simp [Chip.calSecond]

@[simp] theorem Chip.calSecond_seat (c : Chip) : (Chip.calSecond c).seat = c.seat := by
  simp [Chip.calSecond]

@[simp] theorem Chip.calTrim_sound (c : Chip) (v : Word) (h : c.sound = true) : (Chip.calTrim c v).sound = true := by
  simp (contextual := true) (maxDischargeDepth := 60) [Chip.calTrim, h]

@[simp] theorem Chip.calTrim_stores (c : Chip) (v : Word) : (Chip.calTrim c v).stores = c.stores := by
  simp [Chip.calTrim]

@[simp] theorem Chip.calTrim_seat (c : Chip) (v : Word) : (Chip.calTrim c v).seat = c.seat := by
  simp [Chip.calTrim]

@[simp] theorem Chip.hourTick_sound (c : Chip) (a : Nat) (h : c.sound = true) : (Chip.hourTick c a).sound = true := by
  simp (contextual := true) (maxDischargeDepth := 60) [Chip.hourTick, h]

@[simp] theorem Chip.hourTick_stores (c : Chip) (a : Nat) : (Chip.hourTick c a).stores = c.stores := by
  simp [Chip.hourTick]

@[simp] theorem Chip.hourTick_seat (c : Chip) (a : Nat) : (Chip.hourTick c a).seat = c.seat := by
  simp [Chip.hourTick]

@[simp] theorem Chip.lampHours_sound (c : Chip) (n : Nat) (v : Word) (h : c.sound = true) : (Chip.lampHours c n
    v).sound = true := by
  simp (contextual := true) (maxDischargeDepth := 60) [Chip.lampHours, h]

@[simp] theorem Chip.lampHours_stores (c : Chip) (n : Nat) (v : Word) : (Chip.lampHours c n v).stores = c.stores := by
  simp [Chip.lampHours]

@[simp] theorem Chip.lampHours_seat (c : Chip) (n : Nat) (v : Word) : (Chip.lampHours c n v).seat = c.seat := by
  simp [Chip.lampHours]

end Sys2Proof.Machine
end

