-- ==== Sys2Proof/Laws/Memory.lean ====
section
/-! SUPPORT. Every operation of Machine/Memory.lean keeps the part sound; those that touch no store leave the stores as
they are, and those that enter no mode leave the mode and its cause. -/

namespace Sys2Proof.Machine

open Sys2Proof

@[simp] theorem Chip.mapGo_sound (c : Chip) (h : c.sound = true) : (Chip.mapGo c).sound = true := by
  simp (contextual := true) (maxDischargeDepth := 60) [Chip.mapGo, h]

@[simp] theorem Chip.mapGo_stores (c : Chip) : (Chip.mapGo c).stores = c.stores := by
  simp [Chip.mapGo]

@[simp] theorem Chip.mapGo_seat (c : Chip) : (Chip.mapGo c).seat = c.seat := by
  simp [Chip.mapGo]

@[simp] theorem Chip.setMcState_sound (c : Chip) (ch : Nat) (st : Nat) (h : c.sound = true) : (Chip.setMcState c
    ch st).sound = true := by
  simp (contextual := true) (maxDischargeDepth := 60) [Chip.setMcState, h]

@[simp] theorem Chip.setMcState_stores (c : Chip) (ch : Nat) (st : Nat) : (Chip.setMcState c ch st).stores =
    c.stores := by
  rfl

@[simp] theorem Chip.setMcState_seat (c : Chip) (ch : Nat) (st : Nat) : (Chip.setMcState c ch st).seat = c.seat := by
  rfl

@[simp] theorem Chip.mcCommit_sound (c : Chip) (ch : Nat) (h : c.sound = true) : (Chip.mcCommit c ch).sound =
    true := by
  simp (contextual := true) (maxDischargeDepth := 60) [Chip.mcCommit, h]

@[simp] theorem Chip.mcCommit_stores (c : Chip) (ch : Nat) : (Chip.mcCommit c ch).stores = c.stores := by
  rfl

@[simp] theorem Chip.mcCommit_seat (c : Chip) (ch : Nat) : (Chip.mcCommit c ch).seat = c.seat := by
  rfl

@[simp] theorem Chip.setMig_sound (c : Chip) (ch : Nat) (st : Nat) (h : c.sound = true) : (Chip.setMig c ch
    st).sound = true := by
  simp (contextual := true) (maxDischargeDepth := 60) [Chip.setMig, h]

@[simp] theorem Chip.setMig_stores (c : Chip) (ch : Nat) (st : Nat) : (Chip.setMig c ch st).stores = c.stores := by
  simp [Chip.setMig]

@[simp] theorem Chip.setMig_seat (c : Chip) (ch : Nat) (st : Nat) : (Chip.setMig c ch st).seat = c.seat := by
  simp [Chip.setMig]

@[simp] theorem Chip.migAbort_sound (c : Chip) (ch : Nat) (h : c.sound = true) : (Chip.migAbort c ch).sound =
    true := by
  simp (contextual := true) (maxDischargeDepth := 60) [Chip.migAbort, h]

@[simp] theorem Chip.migAbort_stores (c : Chip) (ch : Nat) : (Chip.migAbort c ch).stores = c.stores := by
  simp [Chip.migAbort]

@[simp] theorem Chip.migAbort_seat (c : Chip) (ch : Nat) : (Chip.migAbort c ch).seat = c.seat := by
  simp [Chip.migAbort]

@[simp] theorem Chip.initGo_sound (c : Chip) (ch : Nat) (h : c.sound = true) : (Chip.initGo c ch).sound = true := by
  simp (contextual := true) (maxDischargeDepth := 60) [Chip.initGo, h]

@[simp] theorem Chip.initGo_seat (c : Chip) (ch : Nat) : (Chip.initGo c ch).seat = c.seat := by
  simp [Chip.initGo]

@[simp] theorem Chip.sweepFill_sound (c : Chip) (l : Loc) (pattern : Nat) (lines : Nat) (h : c.sound = true) :
    (Chip.sweepFill c l pattern lines).sound = true := by
  simp (contextual := true) (maxDischargeDepth := 60) [Chip.sweepFill, Stores.wf_iff, h]

@[simp] theorem Chip.sweepFill_seat (c : Chip) (l : Loc) (pattern : Nat) (lines : Nat) : (Chip.sweepFill c l pattern
    lines).seat = c.seat := by
  rfl

@[simp] theorem Chip.sweepBus_sound (c : Chip) (l : Loc) (write : Bool) (lines : Nat) (h : c.sound = true) :
    (Chip.sweepBus c l write lines).sound = true := by
  simp (contextual := true) (maxDischargeDepth := 60) [Chip.sweepBus, h]

@[simp] theorem Chip.sweepBus_stores (c : Chip) (l : Loc) (write : Bool) (lines : Nat) : (Chip.sweepBus c l write
    lines).stores = c.stores := by
  simp [Chip.sweepBus]

@[simp] theorem Chip.sweepBus_seat (c : Chip) (l : Loc) (write : Bool) (lines : Nat) : (Chip.sweepBus c l write
    lines).seat = c.seat := by
  simp [Chip.sweepBus]

@[simp] theorem Chip.sweepGo_sound (c : Chip) (ch : Nat) (v : Word) (h : c.sound = true) : (Chip.sweepGo c ch
    v).sound = true := by
  simp (contextual := true) (maxDischargeDepth := 60) [Chip.sweepGo, h]

@[simp] theorem Chip.sweepGo_seat (c : Chip) (ch : Nat) (v : Word) : (Chip.sweepGo c ch v).seat = c.seat := by
  simp [Chip.sweepGo]

@[simp] theorem Chip.sweepDone_sound (c : Chip) (ch : Nat) (failMask : Nat) (errors : Nat) (h : c.sound = true) :
    (Chip.sweepDone c ch failMask errors).sound = true := by
  simp (contextual := true) (maxDischargeDepth := 60) [Chip.sweepDone, h]

@[simp] theorem Chip.sweepDone_stores (c : Chip) (ch : Nat) (failMask : Nat) (errors : Nat) : (Chip.sweepDone c ch
    failMask errors).stores = c.stores := by
  simp [Chip.sweepDone]

@[simp] theorem Chip.sweepDone_seat (c : Chip) (ch : Nat) (failMask : Nat) (errors : Nat) : (Chip.sweepDone c ch
    failMask errors).seat = c.seat := by
  simp [Chip.sweepDone]

@[simp] theorem Chip.portErr_sound (c : Chip) (p : Nat) (kind : Nat) (h : c.sound = true) : (Chip.portErr c p
    kind).sound = true := by
  simp (contextual := true) (maxDischargeDepth := 60) [Chip.portErr, h]

@[simp] theorem Chip.portErr_stores (c : Chip) (p : Nat) (kind : Nat) : (Chip.portErr c p kind).stores =
    c.stores := by
  rfl

@[simp] theorem Chip.portErr_seat (c : Chip) (p : Nat) (kind : Nat) : (Chip.portErr c p kind).seat = c.seat := by
  rfl

@[simp] theorem Chip.takeId_sound (c : Chip) (p : Nat) (h : c.sound = true) : (Chip.takeId c p).sound = true := by
  simp (contextual := true) (maxDischargeDepth := 60) [Chip.takeId, h]

@[simp] theorem Chip.takeId_stores (c : Chip) (p : Nat) : (Chip.takeId c p).stores = c.stores := by
  rfl

@[simp] theorem Chip.takeId_seat (c : Chip) (p : Nat) : (Chip.takeId c p).seat = c.seat := by
  rfl

@[simp] theorem Chip.zeroRead_sound (c : Chip) (p : Nat) (h : c.sound = true) : (Chip.zeroRead c p).sound = true := by
  simp (contextual := true) (maxDischargeDepth := 60) [Chip.zeroRead, h]

@[simp] theorem Chip.zeroRead_stores (c : Chip) (p : Nat) : (Chip.zeroRead c p).stores = c.stores := by
  rfl

@[simp] theorem Chip.zeroRead_seat (c : Chip) (p : Nat) : (Chip.zeroRead c p).seat = c.seat := by
  rfl

@[simp] theorem Chip.exitStart_sound (c : Chip) (ch : Nat) (cause : Nat) (h : c.sound = true) : (Chip.exitStart
    c ch cause).sound = true := by
  simp (contextual := true) (maxDischargeDepth := 60) [Chip.exitStart, h]

@[simp] theorem Chip.exitStart_stores (c : Chip) (ch : Nat) (cause : Nat) : (Chip.exitStart c ch cause).stores =
    c.stores := by
  simp [Chip.exitStart]

@[simp] theorem Chip.exitStart_seat (c : Chip) (ch : Nat) (cause : Nat) : (Chip.exitStart c ch cause).seat =
    c.seat := by
  simp [Chip.exitStart]

@[simp] theorem Chip.requestWakes_sound (c : Chip) (ch : Nat) (h : c.sound = true) : (Chip.requestWakes c
    ch).sound = true := by
  simp (contextual := true) (maxDischargeDepth := 60) [Chip.requestWakes, h]

@[simp] theorem Chip.requestWakes_stores (c : Chip) (ch : Nat) : (Chip.requestWakes c ch).stores = c.stores := by
  simp [Chip.requestWakes]

@[simp] theorem Chip.requestWakes_seat (c : Chip) (ch : Nat) : (Chip.requestWakes c ch).seat = c.seat := by
  simp [Chip.requestWakes]

@[simp] theorem Chip.markScrub_sound (c : Chip) (l : Loc) (mask : List Bool) (h : c.sound = true) : (Chip.markScrub
    c l mask).sound = true := by
  simp (contextual := true) (maxDischargeDepth := 60) [Chip.markScrub, h]

@[simp] theorem Chip.markScrub_stores (c : Chip) (l : Loc) (mask : List Bool) : (Chip.markScrub c l mask).stores =
    c.stores := by
  simp [Chip.markScrub]

@[simp] theorem Chip.markScrub_seat (c : Chip) (l : Loc) (mask : List Bool) : (Chip.markScrub c l mask).seat =
    c.seat := by
  simp [Chip.markScrub]

@[simp] theorem Chip.queueWrite_sound (c : Chip) (p : Nat) (l : Loc) (line : Nat) (mask : List Bool) (words :
    List Nat) (h : c.sound = true) : (Chip.queueWrite c p l line mask words).sound = true := by
  simp (contextual := true) (maxDischargeDepth := 60) [Chip.queueWrite, h]

@[simp] theorem Chip.queueWrite_stores (c : Chip) (p : Nat) (l : Loc) (line : Nat) (mask : List Bool) (words :
    List Nat) : (Chip.queueWrite c p l line mask words).stores = c.stores := by
  simp [Chip.queueWrite]

@[simp] theorem Chip.queueWrite_seat (c : Chip) (p : Nat) (l : Loc) (line : Nat) (mask : List Bool) (words :
    List Nat) : (Chip.queueWrite c p l line mask words).seat = c.seat := by
  simp [Chip.queueWrite]

@[simp] theorem Chip.readEnters_sound (c : Chip) (p : Nat) (id : Nat) (ch : Nat) (line : Nat) (spec : Bool) (h :
    c.sound = true) : (Chip.readEnters c p id ch line spec).sound = true := by
  unfold Chip.readEnters; split <;> simp (contextual := true) (maxDischargeDepth := 60) [h]

@[simp] theorem Chip.readEnters_stores (c : Chip) (p : Nat) (id : Nat) (ch : Nat) (line : Nat) (spec : Bool) :
    (Chip.readEnters c p id ch line spec).stores = c.stores := by
  unfold Chip.readEnters; split <;> simp

@[simp] theorem Chip.readEnters_seat (c : Chip) (p : Nat) (id : Nat) (ch : Nat) (line : Nat) (spec : Bool) :
    (Chip.readEnters c p id ch line spec).seat = c.seat := by
  unfold Chip.readEnters; split <;> simp

@[simp] theorem Chip.queueRead_sound (c : Chip) (p : Nat) (ch : Nat) (line : Nat) (spec : Bool) (h : c.sound =
    true) : (Chip.queueRead c p ch line spec).sound = true := by
  simp only [Chip.queueRead]; (repeat' split) <;> simp (contextual := true) (maxDischargeDepth := 60) [h]

@[simp] theorem Chip.queueRead_stores (c : Chip) (p : Nat) (ch : Nat) (line : Nat) (spec : Bool) :
    (Chip.queueRead c p ch line spec).stores = c.stores := by
  simp only [Chip.queueRead]; (repeat' split) <;> simp

@[simp] theorem Chip.queueRead_seat (c : Chip) (p : Nat) (ch : Nat) (line : Nat) (spec : Bool) : (Chip.queueRead
    c p ch line spec).seat = c.seat := by
  simp only [Chip.queueRead]; (repeat' split) <;> simp

@[simp] theorem Chip.holdRequest_sound (c : Chip) (p : Nat) (ch : Nat) (write : Bool) (line : Nat) (mask : List
    Bool) (words : List Nat) (spec : Bool) (h : c.sound = true) : (Chip.holdRequest c p ch write line mask words
    spec).sound = true := by
  simp (contextual := true) (maxDischargeDepth := 60) [Chip.holdRequest, h]

@[simp] theorem Chip.holdRequest_stores (c : Chip) (p : Nat) (ch : Nat) (write : Bool) (line : Nat) (mask : List
    Bool) (words : List Nat) (spec : Bool) : (Chip.holdRequest c p ch write line mask words spec).stores = c.stores
    := by
  simp [Chip.holdRequest]

@[simp] theorem Chip.holdRequest_seat (c : Chip) (p : Nat) (ch : Nat) (write : Bool) (line : Nat) (mask : List Bool)
    (words : List Nat) (spec : Bool) : (Chip.holdRequest c p ch write line mask words spec).seat = c.seat := by
  simp [Chip.holdRequest]

@[simp] theorem Chip.portRequest_sound (c : Chip) (p : Nat) (write : Bool) (line : Nat) (mask : List Bool)
    (words : List Nat) (spec : Bool) (h : c.sound = true) : (Chip.portRequest c p write line mask words
    spec).sound = true := by
  simp only [Chip.portRequest]; (repeat' split) <;> simp (contextual := true) (maxDischargeDepth := 60) [h]

@[simp] theorem Chip.portRequest_stores (c : Chip) (p : Nat) (write : Bool) (line : Nat) (mask : List Bool)
    (words : List Nat) (spec : Bool) : (Chip.portRequest c p write line mask words spec).stores = c.stores := by
  simp only [Chip.portRequest]; (repeat' split) <;> simp

@[simp] theorem Chip.portRequest_seat (c : Chip) (p : Nat) (write : Bool) (line : Nat) (mask : List Bool) (words
    : List Nat) (spec : Bool) : (Chip.portRequest c p write line mask words spec).seat = c.seat := by
  simp only [Chip.portRequest]; (repeat' split) <;> simp

@[simp] theorem Chip.issueRef_sound (c : Chip) (ch : Nat) (rank : Nat) (h : c.sound = true) : (Chip.issueRef c
    ch rank).sound = true := by
  simp (contextual := true) (maxDischargeDepth := 60) [Chip.issueRef, h]

@[simp] theorem Chip.issueRef_stores (c : Chip) (ch : Nat) (rank : Nat) : (Chip.issueRef c ch rank).stores =
    c.stores := by
  simp [Chip.issueRef]

@[simp] theorem Chip.issueRef_seat (c : Chip) (ch : Nat) (rank : Nat) : (Chip.issueRef c ch rank).seat = c.seat := by
  simp [Chip.issueRef]

@[simp] theorem Chip.noteWait_sound (c : Chip) (p : Nat) (age : Nat) (h : c.sound = true) : (Chip.noteWait c p
    age).sound = true := by
  simp (contextual := true) (maxDischargeDepth := 60) [Chip.noteWait, h]

@[simp] theorem Chip.noteWait_stores (c : Chip) (p : Nat) (age : Nat) : (Chip.noteWait c p age).stores =
    c.stores := by
  simp [Chip.noteWait]

@[simp] theorem Chip.noteWait_seat (c : Chip) (p : Nat) (age : Nat) : (Chip.noteWait c p age).seat = c.seat := by
  simp [Chip.noteWait]

@[simp] theorem Chip.readLeft_sound (c : Chip) (ch : Nat) (e : ReadEntry) (here : Loc) (h : c.sound = true) :
    (Chip.readLeft c ch e here).sound = true := by
  simp (contextual := true) (maxDischargeDepth := 60) [Chip.readLeft, h]

@[simp] theorem Chip.readLeft_stores (c : Chip) (ch : Nat) (e : ReadEntry) (here : Loc) : (Chip.readLeft c ch e
    here).stores = c.stores := by
  simp [Chip.readLeft]

@[simp] theorem Chip.readLeft_seat (c : Chip) (ch : Nat) (e : ReadEntry) (here : Loc) : (Chip.readLeft c ch e
    here).seat = c.seat := by
  simp [Chip.readLeft]

@[simp] theorem Chip.issueCol_sound (c : Chip) (ch : Nat) (w : Want) (h : c.sound = true) : (Chip.issueCol c ch
    w).sound = true := by
  simp only [Chip.issueCol]; (repeat' split) <;> simp (contextual := true) (maxDischargeDepth := 60) [h]

@[simp] theorem Chip.issueCol_seat (c : Chip) (ch : Nat) (w : Want) : (Chip.issueCol c ch w).seat = c.seat := by
  simp only [Chip.issueCol]; (repeat' split) <;> simp

@[simp] theorem Chip.schedDo_sound (c : Chip) (ch : Nat) (x : SchedCmd) (h : c.sound = true) : (Chip.schedDo c
    ch x).sound = true := by
  unfold Chip.schedDo; split <;> simp (contextual := true) (maxDischargeDepth := 60) [h]

@[simp] theorem Chip.schedDo_seat (c : Chip) (ch : Nat) (x : SchedCmd) : (Chip.schedDo c ch x).seat = c.seat := by
  unfold Chip.schedDo; split <;> simp

@[simp] theorem Chip.cycle_sound (c : Chip) (ch : Nat) (h : c.sound = true) : (Chip.cycle c ch).sound = true := by
  simp (contextual := true) (maxDischargeDepth := 60) [Chip.cycle, h]

@[simp] theorem Chip.cycle_stores (c : Chip) (ch : Nat) : (Chip.cycle c ch).stores = c.stores := by
  simp [Chip.cycle]

@[simp] theorem Chip.cycle_seat (c : Chip) (ch : Nat) : (Chip.cycle c ch).seat = c.seat := by
  simp [Chip.cycle]

@[simp] theorem Chip.zqcs_sound (c : Chip) (ch : Nat) (h : c.sound = true) : (Chip.zqcs c ch).sound = true := by
  simp (contextual := true) (maxDischargeDepth := 60) [Chip.zqcs, h]

@[simp] theorem Chip.zqcs_stores (c : Chip) (ch : Nat) : (Chip.zqcs c ch).stores = c.stores := by
  simp [Chip.zqcs]

@[simp] theorem Chip.zqcs_seat (c : Chip) (ch : Nat) : (Chip.zqcs c ch).seat = c.seat := by
  simp [Chip.zqcs]

@[simp] theorem Chip.rowDo_sound (c : Chip) (ch : Nat) (x : Option SchedCmd) (h : c.sound = true) : (Chip.rowDo c ch
    x).sound = true := by
  unfold Chip.rowDo; split <;> simp (contextual := true) (maxDischargeDepth := 60) [h]

@[simp] theorem Chip.rowDo_seat (c : Chip) (ch : Nat) (x : Option SchedCmd) : (Chip.rowDo c ch x).seat = c.seat :=
    by
  unfold Chip.rowDo; split <;> simp

@[simp] theorem Chip.refreshOnly_sound (c : Chip) (ch : Nat) (h : c.sound = true) : (Chip.refreshOnly c ch).sound =
    true := by
  simp (contextual := true) (maxDischargeDepth := 60) [Chip.refreshOnly, h]

@[simp] theorem Chip.refreshOnly_seat (c : Chip) (ch : Nat) : (Chip.refreshOnly c ch).seat = c.seat := by
  simp [Chip.refreshOnly]

@[simp] theorem Chip.schedule_sound (c : Chip) (ch : Nat) (h : c.sound = true) : (Chip.schedule c ch).sound =
    true := by
  simp only [Chip.schedule]; (repeat' split) <;> simp (contextual := true) (maxDischargeDepth := 60) [h]

@[simp] theorem Chip.schedule_seat (c : Chip) (ch : Nat) : (Chip.schedule c ch).seat = c.seat := by
  simp only [Chip.schedule]; (repeat' split) <;> simp

@[simp] theorem Chip.schedCycle_sound (c : Chip) (ch : Nat) (h : c.sound = true) : (Chip.schedCycle c ch).sound =
    true := by
  simp (contextual := true) (maxDischargeDepth := 60) [Chip.schedCycle, h]

@[simp] theorem Chip.schedCycle_seat (c : Chip) (ch : Nat) : (Chip.schedCycle c ch).seat = c.seat := by
  simp [Chip.schedCycle]

@[simp] theorem Chip.weirIdx_sound (c : Chip) (ch : Nat) (v : Word) (h : c.sound = true) : (Chip.weirIdx c ch
    v).sound = true := by
  simp (contextual := true) (maxDischargeDepth := 60) [Chip.weirIdx, h]

@[simp] theorem Chip.weirIdx_stores (c : Chip) (ch : Nat) (v : Word) : (Chip.weirIdx c ch v).stores = c.stores := by
  rfl

@[simp] theorem Chip.weirIdx_seat (c : Chip) (ch : Nat) (v : Word) : (Chip.weirIdx c ch v).seat = c.seat := by
  rfl

@[simp] theorem Chip.deepEnter_sound (c : Chip) (h : c.sound = true) : (Chip.deepEnter c).sound = true := by
  simp (contextual := true) (maxDischargeDepth := 60) [Chip.deepEnter, h]

@[simp] theorem Chip.deepEnter_stores (c : Chip) : (Chip.deepEnter c).stores = c.stores := by
  simp [Chip.deepEnter]

@[simp] theorem Chip.deepEnter_seat (c : Chip) : (Chip.deepEnter c).seat = c.seat := by
  simp [Chip.deepEnter]

@[simp] theorem Chip.setTol_sound (c : Chip) (i : Nat) (t : Nat) (h : c.sound = true) : (Chip.setTol c i t).sound =
    true := by
  simp (contextual := true) (maxDischargeDepth := 60) [Chip.setTol, h]

@[simp] theorem Chip.setTol_stores (c : Chip) (i : Nat) (t : Nat) : (Chip.setTol c i t).stores = c.stores := by
  simp [Chip.setTol]

@[simp] theorem Chip.setTol_seat (c : Chip) (i : Nat) (t : Nat) : (Chip.setTol c i t).seat = c.seat := by
  simp [Chip.setTol]

@[simp] theorem Chip.clientLine_sound (c : Chip) (port : Nat) (line : Nat) (write : Bool) (mask : List Bool) (h :
    c.sound = true) : (Chip.clientLine c port line write mask).sound = true := by
  unfold Chip.clientLine; split <;> simp (contextual := true) (maxDischargeDepth := 60) [h]

@[simp] theorem Chip.clientLine_stores (c : Chip) (port : Nat) (line : Nat) (write : Bool) (mask : List Bool) :
    (Chip.clientLine c port line write mask).stores = c.stores := by
  unfold Chip.clientLine; split <;> simp

@[simp] theorem Chip.clientLine_seat (c : Chip) (port : Nat) (line : Nat) (write : Bool) (mask : List Bool) :
    (Chip.clientLine c port line write mask).seat = c.seat := by
  unfold Chip.clientLine; split <;> simp

@[simp] theorem Chip.clientLines_sound (c : Chip) (port : Nat) (a : Nat) (n : Nat) (write : Bool) (h : c.sound =
    true) : (Chip.clientLines c port a n write).sound = true := by
  simp (contextual := true) (maxDischargeDepth := 60) [Chip.clientLines, h]

@[simp] theorem Chip.clientLines_stores (c : Chip) (port : Nat) (a : Nat) (n : Nat) (write : Bool) :
    (Chip.clientLines c port a n write).stores = c.stores := by
  simp [Chip.clientLines]

@[simp] theorem Chip.clientLines_seat (c : Chip) (port : Nat) (a : Nat) (n : Nat) (write : Bool) : (Chip.clientLines
    c port a n write).seat = c.seat := by
  simp [Chip.clientLines]

@[simp] theorem Chip.flushLine_sound (c : Chip) (l : Loc) (line : Nat) (h : c.sound = true) : (Chip.flushLine c
    l line).sound = true := by
  unfold Chip.flushLine; split <;> simp (contextual := true) (maxDischargeDepth := 60) [h]

@[simp] theorem Chip.flushLine_seat (c : Chip) (l : Loc) (line : Nat) : (Chip.flushLine c l line).seat = c.seat := by
  unfold Chip.flushLine; split <;> simp

@[simp] theorem Chip.storeWord_sound (c : Chip) (a : Nat) (w : Nat) (h : c.sound = true) : (Chip.storeWord c a
    w).sound = true := by
  unfold Chip.storeWord; split <;> simp (contextual := true) (maxDischargeDepth := 60) [h]

@[simp] theorem Chip.storeWord_seat (c : Chip) (a : Nat) (w : Nat) : (Chip.storeWord c a w).seat = c.seat := by
  unfold Chip.storeWord; split <;> simp

@[simp] theorem Chip.storeBytes_sound (fuel : Nat) (c : Chip) (a : Nat) (bs : List Byte) (h : c.sound = true) :
    (Chip.storeBytes fuel c a bs).sound = true := by
  induction fuel generalizing c a bs with
  | zero => simpa [Chip.storeBytes] using h
  | succ n ih =>
    unfold Chip.storeBytes
    split
    · exact h
    · exact ih _ _ _ (by simp [h])

@[simp] theorem Chip.storeBytes_seat (fuel : Nat) (c : Chip) (a : Nat) (bs : List Byte) : (Chip.storeBytes fuel
    c a bs).seat = c.seat := by
  induction fuel generalizing c a bs with
  | zero => rfl
  | succ n ih =>
    unfold Chip.storeBytes
    split
    · rfl
    · simp [ih]

@[simp] theorem Chip.putBytes_sound (c : Chip) (port : Nat) (a : Nat) (bs : List Byte) (h : c.sound = true) :
    (Chip.putBytes c port a bs).sound = true := by
  simp (contextual := true) (maxDischargeDepth := 60) [Chip.putBytes, h]

@[simp] theorem Chip.putBytes_seat (c : Chip) (port : Nat) (a : Nat) (bs : List Byte) : (Chip.putBytes c port a
    bs).seat = c.seat := by
  simp [Chip.putBytes]

end Sys2Proof.Machine
end

