-- ==== Sys2Proof/Laws/Integrity.lean ====
section
/-! SUPPORT. Every operation of Machine/Integrity.lean keeps the part sound; those that touch no store leave the stores as
they are, and those that enter no mode leave the mode and its cause. -/

namespace Sys2Proof.Machine

open Sys2Proof

@[simp] theorem Chip.capture_sound (c : Chip) (base : Nat) (e : MemError) (h : c.sound = true) : (Chip.capture c
    base e).sound = true := by
  simp (contextual := true) (maxDischargeDepth := 60) [Chip.capture, h]

@[simp] theorem Chip.capture_stores (c : Chip) (base : Nat) (e : MemError) : (Chip.capture c base e).stores =
    c.stores := by
  simp [Chip.capture]

@[simp] theorem Chip.capture_seat (c : Chip) (base : Nat) (e : MemError) : (Chip.capture c base e).seat = c.seat := by
  simp [Chip.capture]

@[simp] theorem Chip.candPut_sound (c : Chip) (ch : Nat) (l : Loc) (i : Nat) (ue : Bool) (h : c.sound = true) :
    (Chip.candPut c ch l i ue).sound = true := by
  simp (contextual := true) (maxDischargeDepth := 60) [Chip.candPut, h]

@[simp] theorem Chip.candPut_stores (c : Chip) (ch : Nat) (l : Loc) (i : Nat) (ue : Bool) : (Chip.candPut c ch l
    i ue).stores = c.stores := by
  rfl

@[simp] theorem Chip.candPut_seat (c : Chip) (ch : Nat) (l : Loc) (i : Nat) (ue : Bool) : (Chip.candPut c ch l i
    ue).seat = c.seat := by
  rfl

@[simp] theorem Chip.candNote_sound (c : Chip) (ch : Nat) (l : Loc) (kind : Nat) (h : c.sound = true) :
    (Chip.candNote c ch l kind).sound = true := by
  unfold Chip.candNote; (repeat' split) <;> simp (contextual := true) (maxDischargeDepth := 60) [h]

@[simp] theorem Chip.candNote_stores (c : Chip) (ch : Nat) (l : Loc) (kind : Nat) : (Chip.candNote c ch l
    kind).stores = c.stores := by
  unfold Chip.candNote; (repeat' split) <;> simp

@[simp] theorem Chip.candNote_seat (c : Chip) (ch : Nat) (l : Loc) (kind : Nat) : (Chip.candNote c ch l
    kind).seat = c.seat := by
  unfold Chip.candNote; (repeat' split) <;> simp

@[simp] theorem Chip.countError_sound (c : Chip) (e : MemError) (h : c.sound = true) : (Chip.countError c
    e).sound = true := by
  simp (contextual := true) (maxDischargeDepth := 60) [Chip.countError, h]

@[simp] theorem Chip.countError_stores (c : Chip) (e : MemError) : (Chip.countError c e).stores = c.stores := by
  simp [Chip.countError]

@[simp] theorem Chip.countError_seat (c : Chip) (e : MemError) : (Chip.countError c e).seat = c.seat := by
  simp [Chip.countError]

@[simp] theorem Chip.recordError_sound (c : Chip) (e : MemError) (h : c.sound = true) : (Chip.recordError c
    e).sound = true := by
  simp (contextual := true) (maxDischargeDepth := 60) [Chip.recordError, h]

@[simp] theorem Chip.recordError_stores (c : Chip) (e : MemError) : (Chip.recordError c e).stores = c.stores := by
  simp [Chip.recordError]

@[simp] theorem Chip.recordError_seat (c : Chip) (e : MemError) : (Chip.recordError c e).seat = c.seat := by
  simp [Chip.recordError]

@[simp] theorem Chip.freezeStart_sound (c : Chip) (ch : Nat) (e : MemError) (addr : Nat) (h : c.sound = true) :
    (Chip.freezeStart c ch e addr).sound = true := by
  simp (contextual := true) (maxDischargeDepth := 60) [Chip.freezeStart, h]

@[simp] theorem Chip.freezeStart_stores (c : Chip) (ch : Nat) (e : MemError) (addr : Nat) : (Chip.freezeStart c
    ch e addr).stores = c.stores := by
  simp [Chip.freezeStart]

@[simp] theorem Chip.freezeStart_seat (c : Chip) (ch : Nat) (e : MemError) (addr : Nat) : (Chip.freezeStart c ch
    e addr).seat = c.seat := by
  simp [Chip.freezeStart]

@[simp] theorem Chip.policyFreeze_sound (c : Chip) (e : MemError) (h : c.sound = true) : (Chip.policyFreeze c
    e).sound = true := by
  simp (contextual := true) (maxDischargeDepth := 60) [Chip.policyFreeze, h]

@[simp] theorem Chip.policyFreeze_stores (c : Chip) (e : MemError) : (Chip.policyFreeze c e).stores = c.stores := by
  unfold Chip.policyFreeze; split <;> simp [Chip.forceEdge_stores]

@[simp] theorem Chip.policyFreeze_seat (c : Chip) (e : MemError) : (Chip.policyFreeze c e).seat = c.seat := by
  simp [Chip.policyFreeze]

@[simp] theorem Chip.migStart_sound (c : Chip) (ch : Nat) (h : c.sound = true) : (Chip.migStart c ch).sound =
    true := by
  simp (contextual := true) (maxDischargeDepth := 60) [Chip.migStart, h]

@[simp] theorem Chip.migStart_stores (c : Chip) (ch : Nat) : (Chip.migStart c ch).stores = c.stores := by
  simp [Chip.migStart]

@[simp] theorem Chip.migStart_seat (c : Chip) (ch : Nat) : (Chip.migStart c ch).seat = c.seat := by
  simp [Chip.migStart]

@[simp] theorem Chip.policyEvent_sound (c : Chip) (e : MemError) (h : c.sound = true) : (Chip.policyEvent c
    e).sound = true := by
  simp (contextual := true) (maxDischargeDepth := 60) [Chip.policyEvent, h]

@[simp] theorem Chip.policyEvent_stores (c : Chip) (e : MemError) : (Chip.policyEvent c e).stores = c.stores := by
  simp [Chip.policyEvent]

@[simp] theorem Chip.policyEvent_seat (c : Chip) (e : MemError) : (Chip.policyEvent c e).seat = c.seat := by
  simp [Chip.policyEvent]

@[simp] theorem Chip.noteMigCe_sound (c : Chip) (e : MemError) (h : c.sound = true) : (Chip.noteMigCe c e).sound
    = true := by
  simp (contextual := true) (maxDischargeDepth := 60) [Chip.noteMigCe, h]

@[simp] theorem Chip.noteMigCe_stores (c : Chip) (e : MemError) : (Chip.noteMigCe c e).stores = c.stores := by
  simp [Chip.noteMigCe]

@[simp] theorem Chip.noteMigCe_seat (c : Chip) (e : MemError) : (Chip.noteMigCe c e).seat = c.seat := by
  simp [Chip.noteMigCe]

@[simp] theorem Chip.memError_sound (c : Chip) (e : MemError) (h : c.sound = true) : (Chip.memError c e).sound =
    true := by
  simp (contextual := true) (maxDischargeDepth := 60) [Chip.memError, h]

@[simp] theorem Chip.memError_stores (c : Chip) (e : MemError) : (Chip.memError c e).stores = c.stores := by
  simp [Chip.memError]

@[simp] theorem Chip.memError_seat (c : Chip) (e : MemError) : (Chip.memError c e).seat = c.seat := by
  simp [Chip.memError]

/-- The error of a speculative read is recorded and nothing more. -/
theorem Chip.memError_spec (c : Chip) (e : MemError) (h : e.spec = true) : c.memError e = c.recordError e := by
  simp [Chip.memError, Chip.noteMigCe, h]

@[simp] theorem Chip.noteRead_sound (c : Chip) (port : Nat) (a : Nat) (r : WordRead) (h : c.sound = true) :
    (Chip.noteRead c port a r).sound = true := by
  unfold Chip.noteRead; (repeat' split) <;> simp (contextual := true) (maxDischargeDepth := 60) [h]

@[simp] theorem Chip.noteRead_stores (c : Chip) (port : Nat) (a : Nat) (r : WordRead) : (Chip.noteRead c port a
    r).stores = c.stores := by
  unfold Chip.noteRead; (repeat' split) <;> simp

@[simp] theorem Chip.noteRead_seat (c : Chip) (port : Nat) (a : Nat) (r : WordRead) : (Chip.noteRead c port a
    r).seat = c.seat := by
  unfold Chip.noteRead; (repeat' split) <;> simp

@[simp] theorem Chip.noteReads_sound (c : Chip) (port : Nat) (a : Nat) (n : Nat) (h : c.sound = true) :
    (Chip.noteReads c port a n).sound = true := by
  unfold Chip.noteReads
  refine Chip.foldl_sound _ _ _ h fun c x hc => ?_
  split <;> simp [hc]

@[simp] theorem Chip.noteReads_stores (c : Chip) (port : Nat) (a : Nat) (n : Nat) : (Chip.noteReads c port a
    n).stores = c.stores := by
  unfold Chip.noteReads
  refine (Chip.foldl_stores _ _ _ fun c x => ?_).trans (by simp)
  (repeat' split) <;> simp

@[simp] theorem Chip.noteReads_seat (c : Chip) (port : Nat) (a : Nat) (n : Nat) : (Chip.noteReads c port a
    n).seat = c.seat := by
  unfold Chip.noteReads
  refine Chip.foldl_seat _ _ _ fun c x => ?_
  split <;> simp

@[simp] theorem Chip.readReturn_sound (c : Chip) (ch : Nat) (x : Inflight) (rest : List Inflight) (h : c.sound =
    true) : (Chip.readReturn c ch x rest).sound = true := by
  unfold Chip.readReturn; split <;> simp (contextual := true) (maxDischargeDepth := 60) [h]

@[simp] theorem Chip.readReturn_stores (c : Chip) (ch : Nat) (x : Inflight) (rest : List Inflight) :
    (Chip.readReturn c ch x rest).stores = c.stores := by
  unfold Chip.readReturn; split <;> simp

@[simp] theorem Chip.readReturn_seat (c : Chip) (ch : Nat) (x : Inflight) (rest : List Inflight) :
    (Chip.readReturn c ch x rest).seat = c.seat := by
  unfold Chip.readReturn; split <;> simp

@[simp] theorem Chip.snapIdx_sound (c : Chip) (ch : Nat) (v : Word) (h : c.sound = true) : (Chip.snapIdx c ch
    v).sound = true := by
  simp (contextual := true) (maxDischargeDepth := 60) [Chip.snapIdx, h]

@[simp] theorem Chip.snapIdx_stores (c : Chip) (ch : Nat) (v : Word) : (Chip.snapIdx c ch v).stores = c.stores := by
  rfl

@[simp] theorem Chip.snapIdx_seat (c : Chip) (ch : Nat) (v : Word) : (Chip.snapIdx c ch v).seat = c.seat := by
  rfl

@[simp] theorem Chip.scrambleLine_sound (c : Chip) (ch : Nat) (d : DramCmd) (h : c.sound = true) :
    (Chip.scrambleLine c ch d).sound = true := by
  simp (contextual := true) (maxDischargeDepth := 60) [Chip.scrambleLine, h]

@[simp] theorem Chip.scrambleLine_seat (c : Chip) (ch : Nat) (d : DramCmd) : (Chip.scrambleLine c ch d).seat =
    c.seat := by
  simp [Chip.scrambleLine]

@[simp] theorem Chip.retryExhaust_sound (c : Chip) (ch : Nat) (h : c.sound = true) : (Chip.retryExhaust c
    ch).sound = true := by
  simp (contextual := true) (maxDischargeDepth := 60) [Chip.retryExhaust, h]

@[simp] theorem Chip.retryExhaust_seat (c : Chip) (ch : Nat) : (Chip.retryExhaust c ch).seat = c.seat := by
  simp [Chip.retryExhaust]

@[simp] theorem Chip.alertFall_sound (c : Chip) (ch : Nat) (width : Nat) (h : c.sound = true) : (Chip.alertFall
    c ch width).sound = true := by
  simp (contextual := true) (maxDischargeDepth := 60) [Chip.alertFall, h]

@[simp] theorem Chip.alertFall_seat (c : Chip) (ch : Nat) (width : Nat) : (Chip.alertFall c ch width).seat =
    c.seat := by
  simp [Chip.alertFall]

@[simp] theorem Chip.replayCmd_sound (c : Chip) (ch : Nat) (d : DramCmd) (h : c.sound = true) : (Chip.replayCmd c ch
    d).sound = true := by
  unfold Chip.replayCmd; split <;> simp (contextual := true) (maxDischargeDepth := 60) [h]

@[simp] theorem Chip.replayCmd_stores (c : Chip) (ch : Nat) (d : DramCmd) : (Chip.replayCmd c ch d).stores =
    c.stores := by
  unfold Chip.replayCmd; split <;> simp

@[simp] theorem Chip.replayCmd_seat (c : Chip) (ch : Nat) (d : DramCmd) : (Chip.replayCmd c ch d).seat = c.seat :=
    by
  unfold Chip.replayCmd; split <;> simp

@[simp] theorem Chip.parityFix_sound (c : Chip) (ch : Nat) (h : c.sound = true) : (Chip.parityFix c ch).sound = true
    := by
  simp (contextual := true) (maxDischargeDepth := 60) [Chip.parityFix, h]

@[simp] theorem Chip.parityFix_stores (c : Chip) (ch : Nat) : (Chip.parityFix c ch).stores = c.stores := by
  simp [Chip.parityFix]

@[simp] theorem Chip.parityFix_seat (c : Chip) (ch : Nat) : (Chip.parityFix c ch).seat = c.seat := by
  simp [Chip.parityFix]

@[simp] theorem Chip.alertReplay_sound (c : Chip) (ch : Nat) (h : c.sound = true) : (Chip.alertReplay c
    ch).sound = true := by
  simp (contextual := true) (maxDischargeDepth := 60) [Chip.alertReplay, h]

@[simp] theorem Chip.alertReplay_stores (c : Chip) (ch : Nat) : (Chip.alertReplay c ch).stores = c.stores := by
  simp [Chip.alertReplay]

@[simp] theorem Chip.alertReplay_seat (c : Chip) (ch : Nat) : (Chip.alertReplay c ch).seat = c.seat := by
  simp [Chip.alertReplay]

@[simp] theorem Chip.scrubAt_sound (c : Chip) (ch : Nat) (rank : Nat) (line : Nat) (h : c.sound = true) :
    (Chip.scrubAt c ch rank line).sound = true := by
  simp (contextual := true) (maxDischargeDepth := 60) [Chip.scrubAt, h]

@[simp] theorem Chip.scrubAt_stores (c : Chip) (ch : Nat) (rank : Nat) (line : Nat) : (Chip.scrubAt c ch rank
    line).stores = c.stores := by
  rfl

@[simp] theorem Chip.scrubAt_seat (c : Chip) (ch : Nat) (rank : Nat) (line : Nat) : (Chip.scrubAt c ch rank
    line).seat = c.seat := by
  rfl

@[simp] theorem Chip.scrubNext_sound (c : Chip) (ch : Nat) (h : c.sound = true) : (Chip.scrubNext c ch).sound =
    true := by
  simp only [Chip.scrubNext]; (repeat' split) <;> simp (contextual := true) (maxDischargeDepth := 60) [h]

@[simp] theorem Chip.scrubNext_stores (c : Chip) (ch : Nat) : (Chip.scrubNext c ch).stores = c.stores := by
  simp only [Chip.scrubNext]; (repeat' split) <;> simp

@[simp] theorem Chip.scrubNext_seat (c : Chip) (ch : Nat) : (Chip.scrubNext c ch).seat = c.seat := by
  simp only [Chip.scrubNext]; (repeat' split) <;> simp

@[simp] theorem Chip.visitWrite_sound (c : Chip) (l : Loc) (line : Nat) (mask : List Bool) (h : c.sound = true) :
    (Chip.visitWrite c l line mask).sound = true := by
  simp (contextual := true) (maxDischargeDepth := 60) [Chip.visitWrite, h]

@[simp] theorem Chip.visitWrite_stores (c : Chip) (l : Loc) (line : Nat) (mask : List Bool) : (Chip.visitWrite c l
    line mask).stores = c.stores := by
  simp [Chip.visitWrite]

@[simp] theorem Chip.visitWrite_seat (c : Chip) (l : Loc) (line : Nat) (mask : List Bool) : (Chip.visitWrite c l
    line mask).seat = c.seat := by
  simp [Chip.visitWrite]

@[simp] theorem Chip.seedVisit_sound (c : Chip) (ch : Nat) (h : c.sound = true) : (Chip.seedVisit c ch).sound =
    true := by
  simp (contextual := true) (maxDischargeDepth := 60) [Chip.seedVisit, h]

@[simp] theorem Chip.seedVisit_seat (c : Chip) (ch : Nat) : (Chip.seedVisit c ch).seat = c.seat := by
  simp [Chip.seedVisit]

@[simp] theorem Chip.scrubStart_sound (c : Chip) (ch : Nat) (h : c.sound = true) : (Chip.scrubStart c ch).sound
    = true := by
  simp (contextual := true) (maxDischargeDepth := 60) [Chip.scrubStart, h]

@[simp] theorem Chip.scrubStart_stores (c : Chip) (ch : Nat) : (Chip.scrubStart c ch).stores = c.stores := by
  simp [Chip.scrubStart]

@[simp] theorem Chip.scrubStart_seat (c : Chip) (ch : Nat) : (Chip.scrubStart c ch).seat = c.seat := by
  simp [Chip.scrubStart]

@[simp] theorem Chip.scrubDue_sound (c : Chip) (ch : Nat) (h : c.sound = true) : (Chip.scrubDue c ch).sound =
    true := by
  simp (contextual := true) (maxDischargeDepth := 60) [Chip.scrubDue, h]

@[simp] theorem Chip.scrubDue_stores (c : Chip) (ch : Nat) : (Chip.scrubDue c ch).stores = c.stores := by
  simp [Chip.scrubDue]

@[simp] theorem Chip.scrubDue_seat (c : Chip) (ch : Nat) : (Chip.scrubDue c ch).seat = c.seat := by
  simp [Chip.scrubDue]

@[simp] theorem Chip.owedVisit_sound (c : Chip) (ch : Nat) (h : c.sound = true) : (Chip.owedVisit c ch).sound = true
    := by
  simp (contextual := true) (maxDischargeDepth := 60) [Chip.owedVisit, h]

@[simp] theorem Chip.owedVisit_stores (c : Chip) (ch : Nat) : (Chip.owedVisit c ch).stores = c.stores := by
  simp [Chip.owedVisit]

@[simp] theorem Chip.owedVisit_seat (c : Chip) (ch : Nat) : (Chip.owedVisit c ch).seat = c.seat := by
  simp [Chip.owedVisit]

@[simp] theorem Chip.scrubWord_sound (c : Chip) (ch : Nat) (l : Loc) (line : Nat) (pending : Bool) (write : Bool) (i
    : Nat) (h : c.sound = true) : (Chip.scrubWord c ch l line pending write i).sound = true := by
  simp (contextual := true) (maxDischargeDepth := 60) [Chip.scrubWord, h]

@[simp] theorem Chip.scrubWord_seat (c : Chip) (ch : Nat) (l : Loc) (line : Nat) (pending : Bool) (write : Bool) (i
    : Nat) : (Chip.scrubWord c ch l line pending write i).seat = c.seat := by
  simp [Chip.scrubWord]

@[simp] theorem Chip.scrubReturn_sound (c : Chip) (ch : Nat) (r : ScrubRead) (h : c.sound = true) :
    (Chip.scrubReturn c ch r).sound = true := by
  simp (contextual := true) (maxDischargeDepth := 60) [Chip.scrubReturn, h]

@[simp] theorem Chip.scrubReturn_seat (c : Chip) (ch : Nat) (r : ScrubRead) : (Chip.scrubReturn c ch r).seat =
    c.seat := by
  simp [Chip.scrubReturn]

@[simp] theorem Chip.initComplete_sound (c : Chip) (ch : Nat) (h : c.sound = true) : (Chip.initComplete c
    ch).sound = true := by
  simp (contextual := true) (maxDischargeDepth := 60) [Chip.initComplete, h]

@[simp] theorem Chip.initComplete_stores (c : Chip) (ch : Nat) : (Chip.initComplete c ch).stores = c.stores := by
  simp [Chip.initComplete]

@[simp] theorem Chip.initComplete_seat (c : Chip) (ch : Nat) : (Chip.initComplete c ch).seat = c.seat := by
  simp [Chip.initComplete]

@[simp] theorem Chip.exitComplete_sound (c : Chip) (ch : Nat) (h : c.sound = true) : (Chip.exitComplete c
    ch).sound = true := by
  simp (contextual := true) (maxDischargeDepth := 60) [Chip.exitComplete, h]

@[simp] theorem Chip.exitComplete_stores (c : Chip) (ch : Nat) : (Chip.exitComplete c ch).stores = c.stores := by
  simp [Chip.exitComplete]

@[simp] theorem Chip.exitComplete_seat (c : Chip) (ch : Nat) : (Chip.exitComplete c ch).seat = c.seat := by
  simp [Chip.exitComplete]

@[simp] theorem Chip.pprEnd_sound (c : Chip) (ch : Nat) (result : Nat) (hard : Bool) (ue : Bool) (h : c.sound =
    true) : (Chip.pprEnd c ch result hard ue).sound = true := by
  simp (contextual := true) (maxDischargeDepth := 60) [Chip.pprEnd, h]

@[simp] theorem Chip.pprEnd_stores (c : Chip) (ch : Nat) (result : Nat) (hard : Bool) (ue : Bool) : (Chip.pprEnd c
    ch result hard ue).stores = c.stores := by
  simp [Chip.pprEnd]

@[simp] theorem Chip.pprEnd_seat (c : Chip) (ch : Nat) (result : Nat) (hard : Bool) (ue : Bool) : (Chip.pprEnd c ch
    result hard ue).seat = c.seat := by
  simp [Chip.pprEnd]

@[simp] theorem Chip.pprLines_sound (c : Chip) (l : Loc) (write : Bool) (h : c.sound = true) : (Chip.pprLines c l
    write).sound = true := by
  simp (contextual := true) (maxDischargeDepth := 60) [Chip.pprLines, h]

@[simp] theorem Chip.pprLines_stores (c : Chip) (l : Loc) (write : Bool) : (Chip.pprLines c l write).stores =
    c.stores := by
  simp [Chip.pprLines]

@[simp] theorem Chip.pprLines_seat (c : Chip) (l : Loc) (write : Bool) : (Chip.pprLines c l write).seat = c.seat :=
    by
  simp [Chip.pprLines]

@[simp] theorem Chip.pprStore_sound (c : Chip) (k : Loc) (w : Nat × Nat) (h : c.sound = true) : (Chip.pprStore c k
    w).sound = true := by
  simp (contextual := true) (maxDischargeDepth := 60) [Chip.pprStore, Stores.wf_iff, h]

@[simp] theorem Chip.pprStore_seat (c : Chip) (k : Loc) (w : Nat × Nat) : (Chip.pprStore c k w).seat = c.seat := by
  simp [Chip.pprStore]

@[simp] theorem Chip.pprGo_sound (c : Chip) (ch : Nat) (v : Word) (h : c.sound = true) : (Chip.pprGo c ch
    v).sound = true := by
  simp (contextual := true) (maxDischargeDepth := 60) [Chip.pprGo, h]

@[simp] theorem Chip.pprGo_stores (c : Chip) (ch : Nat) (v : Word) : (Chip.pprGo c ch v).stores = c.stores := by
  simp [Chip.pprGo]

@[simp] theorem Chip.pprGo_seat (c : Chip) (ch : Nat) (v : Word) : (Chip.pprGo c ch v).seat = c.seat := by
  simp [Chip.pprGo]

@[simp] theorem Chip.pprKeep_sound (c : Chip) (ch : Nat) (l : Loc) (hard : Bool) (h : c.sound = true) :
    (Chip.pprKeep c ch l hard).sound = true := by
  simp (contextual := true) (maxDischargeDepth := 60) [Chip.pprKeep, h]

@[simp] theorem Chip.pprKeep_stores (c : Chip) (ch : Nat) (l : Loc) (hard : Bool) : (Chip.pprKeep c ch l
    hard).stores = c.stores := by
  simp [Chip.pprKeep]

@[simp] theorem Chip.pprKeep_seat (c : Chip) (ch : Nat) (l : Loc) (hard : Bool) : (Chip.pprKeep c ch l hard).seat =
    c.seat := by
  simp [Chip.pprKeep]

@[simp] theorem Chip.pprDone_sound (c : Chip) (ch : Nat) (equal : Bool) (h : c.sound = true) : (Chip.pprDone c
    ch equal).sound = true := by
  simp (contextual := true) (maxDischargeDepth := 60) [Chip.pprDone, h]

@[simp] theorem Chip.pprDone_seat (c : Chip) (ch : Nat) (equal : Bool) : (Chip.pprDone c ch equal).seat = c.seat := by
  simp [Chip.pprDone]

@[simp] theorem Chip.migGo_sound (c : Chip) (ch : Nat) (h : c.sound = true) : (Chip.migGo c ch).sound = true := by
  simp (contextual := true) (maxDischargeDepth := 60) [Chip.migGo, h]

@[simp] theorem Chip.migGo_stores (c : Chip) (ch : Nat) : (Chip.migGo c ch).stores = c.stores := by
  simp [Chip.migGo]

@[simp] theorem Chip.migGo_seat (c : Chip) (ch : Nat) : (Chip.migGo c ch).seat = c.seat := by
  simp [Chip.migGo]

@[simp] theorem Chip.serveRead_sound (c : Chip) (ch : Nat) (e : ReadEntry) (h : c.sound = true) : (Chip.serveRead c
    ch e).sound = true := by
  unfold Chip.serveRead; split <;> simp (contextual := true) (maxDischargeDepth := 60) [h]

@[simp] theorem Chip.serveRead_stores (c : Chip) (ch : Nat) (e : ReadEntry) : (Chip.serveRead c ch e).stores =
    c.stores := by
  unfold Chip.serveRead; split <;> simp

@[simp] theorem Chip.serveRead_seat (c : Chip) (ch : Nat) (e : ReadEntry) : (Chip.serveRead c ch e).seat = c.seat :=
    by
  unfold Chip.serveRead; split <;> simp

@[simp] theorem Chip.drainQueues_sound (c : Chip) (ch : Nat) (h : c.sound = true) : (Chip.drainQueues c ch).sound =
    true := by
  simp (contextual := true) (maxDischargeDepth := 60) [Chip.drainQueues, h]

@[simp] theorem Chip.drainQueues_seat (c : Chip) (ch : Nat) : (Chip.drainQueues c ch).seat = c.seat := by
  simp [Chip.drainQueues]

@[simp] theorem Chip.migFlip_sound (c : Chip) (ch : Nat) (h : c.sound = true) : (Chip.migFlip c ch).sound = true := by
  simp (contextual := true) (maxDischargeDepth := 60) [Chip.migFlip, h]

@[simp] theorem Chip.migFlip_seat (c : Chip) (ch : Nat) : (Chip.migFlip c ch).seat = c.seat := by
  simp [Chip.migFlip]

@[simp] theorem Chip.copyWord_sound (c : Chip) (ch : Nat) (k : Loc) (sys : Nat) (h : c.sound = true) :
    (Chip.copyWord c ch k sys).sound = true := by
  simp (contextual := true) (maxDischargeDepth := 60) [Chip.copyWord, h]

@[simp] theorem Chip.copyWord_seat (c : Chip) (ch : Nat) (k : Loc) (sys : Nat) : (Chip.copyWord c ch k sys).seat
    = c.seat := by
  simp [Chip.copyWord]

@[simp] theorem Chip.migCopy_sound (c : Chip) (ch : Nat) (h : c.sound = true) : (Chip.migCopy c ch).sound = true := by
  simp (contextual := true) (maxDischargeDepth := 60) [Chip.migCopy, h]

@[simp] theorem Chip.migCopy_seat (c : Chip) (ch : Nat) : (Chip.migCopy c ch).seat = c.seat := by
  simp [Chip.migCopy]

@[simp] theorem Chip.releaseReqs_sound (c : Chip) (ch : Nat) (h : c.sound = true) : (Chip.releaseReqs c ch).sound =
    true := by
  unfold Chip.releaseReqs
  refine Chip.foldl_sound _ _ _ (by simp [h]) fun c x hc => ?_
  (repeat' split) <;> simp [hc]

@[simp] theorem Chip.releaseReqs_stores (c : Chip) (ch : Nat) : (Chip.releaseReqs c ch).stores = c.stores := by
  unfold Chip.releaseReqs
  refine (Chip.foldl_stores _ _ _ fun c x => ?_).trans (by simp)
  (repeat' split) <;> simp

@[simp] theorem Chip.releaseReqs_seat (c : Chip) (ch : Nat) : (Chip.releaseReqs c ch).seat = c.seat := by
  unfold Chip.releaseReqs
  refine (Chip.foldl_seat _ _ _ fun c x => ?_).trans (by simp)
  (repeat' split) <;> simp

@[simp] theorem Chip.migDone_sound (c : Chip) (ch : Nat) (h : c.sound = true) : (Chip.migDone c ch).sound =
    true := by
  simp (contextual := true) (maxDischargeDepth := 60) [Chip.migDone, h]

@[simp] theorem Chip.migDone_stores (c : Chip) (ch : Nat) : (Chip.migDone c ch).stores = c.stores := by
  unfold Chip.migDone
  dsimp only
  (repeat' split) <;> simp

@[simp] theorem Chip.migDone_seat (c : Chip) (ch : Nat) : (Chip.migDone c ch).seat = c.seat := by
  simp [Chip.migDone]

@[simp] theorem Chip.flipNow_sound (c : Chip) (h : c.sound = true) : (Chip.flipNow c).sound = true := by
  simp (contextual := true) (maxDischargeDepth := 60) [Chip.flipNow, h]

@[simp] theorem Chip.flipNow_seat (c : Chip) : (Chip.flipNow c).seat = c.seat := by
  simp [Chip.flipNow]

end Sys2Proof.Machine
end

