-- ==== Sys2Proof/Laws/Client.lean ====
section
/-! SUPPORT. Every operation of Machine/Client.lean keeps the part sound; those that touch no store leave the stores as
they are, and those that enter no mode leave the mode and its cause. -/

namespace Sys2Proof.Machine

open Sys2Proof

@[simp] theorem Chip.writeBytes_sound (c : Chip) (p : Nat) (a : Nat) (bs : List Byte) (h : c.sound = true) :
    (Chip.writeBytes c p a bs).sound = true := by
  simp (contextual := true) (maxDischargeDepth := 60) [Chip.writeBytes, h]

@[simp] theorem Chip.writeBytes_seat (c : Chip) (p : Nat) (a : Nat) (bs : List Byte) : (Chip.writeBytes c p a
    bs).seat = c.seat := by
  simp [Chip.writeBytes]

@[simp] theorem Chip.readNote_sound (c : Chip) (p : Nat) (a : Nat) (n : Nat) (h : c.sound = true) :
    (Chip.readNote c p a n).sound = true := by
  simp (contextual := true) (maxDischargeDepth := 60) [Chip.readNote, h]

@[simp] theorem Chip.readNote_stores (c : Chip) (p : Nat) (a : Nat) (n : Nat) : (Chip.readNote c p a n).stores =
    c.stores := by
  simp [Chip.readNote]

@[simp] theorem Chip.readNote_seat (c : Chip) (p : Nat) (a : Nat) (n : Nat) : (Chip.readNote c p a n).seat =
    c.seat := by
  simp [Chip.readNote]

@[simp] theorem Chip.storeFields_sound (c : Chip) (a : Nat) (v : Word) (mask : Word) (h : c.sound = true) :
    (Chip.storeFields c a v mask).sound = true := by
  unfold Chip.storeFields; split <;> simp (contextual := true) (maxDischargeDepth := 60) [h]

@[simp] theorem Chip.storeFields_stores (c : Chip) (a : Nat) (v : Word) (mask : Word) : (Chip.storeFields c a v
    mask).stores = c.stores := by
  unfold Chip.storeFields; split <;> simp

@[simp] theorem Chip.storeFields_seat (c : Chip) (a : Nat) (v : Word) (mask : Word) : (Chip.storeFields c a v
    mask).seat = c.seat := by
  unfold Chip.storeFields; split <;> simp

@[simp] theorem Chip.putChroma_sound (c : Chip) (p : Nat) (s : Surface) (j : Nat) (cs : List (Nat × Nat)) (h :
    c.sound = true) : (Chip.putChroma c p s j cs).sound = true := by
  simp (contextual := true) (maxDischargeDepth := 60) [Chip.putChroma, h]

@[simp] theorem Chip.putChroma_seat (c : Chip) (p : Nat) (s : Surface) (j : Nat) (cs : List (Nat × Nat)) :
    (Chip.putChroma c p s j cs).seat = c.seat := by
  simp [Chip.putChroma]

@[simp] theorem Chip.putRow_sound (c : Chip) (p : Nat) (s : Surface) (y : Nat) (luma : List Nat) (cs : List (Nat
    × Nat)) (prev : Option (List (Nat × Nat))) (h : c.sound = true) : (Chip.putRow c p s y luma cs prev).sound =
    true := by
  unfold Chip.putRow; (repeat' split) <;> simp (contextual := true) (maxDischargeDepth := 60) [h]

@[simp] theorem Chip.putRow_seat (c : Chip) (p : Nat) (s : Surface) (y : Nat) (luma : List Nat) (cs : List (Nat
    × Nat)) (prev : Option (List (Nat × Nat))) : (Chip.putRow c p s y luma cs prev).seat = c.seat := by
  unfold Chip.putRow; (repeat' split) <;> simp

end Sys2Proof.Machine
end

