-- ==== Sys2Proof/Laws/Video.lean ====
section
/-! SUPPORT. Every operation of Machine/Video.lean keeps the part sound; those that touch no store leave the stores as
they are, and those that enter no mode leave the mode and its cause. -/

namespace Sys2Proof.Machine

open Sys2Proof

@[simp] theorem Chip.onVin_sound (c : Chip) (f : VideoIn → VideoIn) (h : c.sound = true) : (Chip.onVin c
    f).sound = true := by
  simp (contextual := true) (maxDischargeDepth := 60) [Chip.onVin, h]

@[simp] theorem Chip.onVin_stores (c : Chip) (f : VideoIn → VideoIn) : (Chip.onVin c f).stores = c.stores := by
  rfl

@[simp] theorem Chip.onVin_seat (c : Chip) (f : VideoIn → VideoIn) : (Chip.onVin c f).seat = c.seat := by
  rfl

@[simp] theorem Chip.onBrg_sound (c : Chip) (f : Barge → Barge) (h : c.sound = true) : (Chip.onBrg c f).sound =
    true := by
  simp (contextual := true) (maxDischargeDepth := 60) [Chip.onBrg, h]

@[simp] theorem Chip.onBrg_stores (c : Chip) (f : Barge → Barge) : (Chip.onBrg c f).stores = c.stores := by
  rfl

@[simp] theorem Chip.onBrg_seat (c : Chip) (f : Barge → Barge) : (Chip.onBrg c f).seat = c.seat := by
  rfl

@[simp] theorem Chip.lockFree_sound (c : Chip) (h : c.sound = true) : (Chip.lockFree c).sound = true := by
  simp (contextual := true) (maxDischargeDepth := 60) [Chip.lockFree, h]

@[simp] theorem Chip.lockFree_stores (c : Chip) : (Chip.lockFree c).stores = c.stores := by
  simp [Chip.lockFree]

@[simp] theorem Chip.lockFree_seat (c : Chip) : (Chip.lockFree c).seat = c.seat := by
  simp [Chip.lockFree]

@[simp] theorem Chip.lockStart_sound (c : Chip) (h : c.sound = true) : (Chip.lockStart c).sound = true := by
  simp (contextual := true) (maxDischargeDepth := 60) [Chip.lockStart, h]

@[simp] theorem Chip.lockStart_stores (c : Chip) : (Chip.lockStart c).stores = c.stores := by
  simp [Chip.lockStart]

@[simp] theorem Chip.lockStart_seat (c : Chip) : (Chip.lockStart c).seat = c.seat := by
  simp [Chip.lockStart]

@[simp] theorem Chip.lockJudge_sound (c : Chip) (e : Int) (h : c.sound = true) : (Chip.lockJudge c e).sound =
    true := by
  simp (contextual := true) (maxDischargeDepth := 60) [Chip.lockJudge, h]

@[simp] theorem Chip.lockJudge_stores (c : Chip) (e : Int) : (Chip.lockJudge c e).stores = c.stores := by
  simp [Chip.lockJudge]

@[simp] theorem Chip.lockJudge_seat (c : Chip) (e : Int) : (Chip.lockJudge c e).seat = c.seat := by
  simp [Chip.lockJudge]

@[simp] theorem Chip.lockStep_sound (c : Chip) (h : c.sound = true) : (Chip.lockStep c).sound = true := by
  unfold Chip.lockStep; split <;> simp (contextual := true) (maxDischargeDepth := 60) [h]

@[simp] theorem Chip.lockStep_stores (c : Chip) : (Chip.lockStep c).stores = c.stores := by
  unfold Chip.lockStep; split <;> simp

@[simp] theorem Chip.lockStep_seat (c : Chip) : (Chip.lockStep c).seat = c.seat := by
  unfold Chip.lockStep; split <;> simp

@[simp] theorem Chip.vinState_sound (c : Chip) (h : c.sound = true) : (Chip.vinState c).sound = true := by
  simp (contextual := true) (maxDischargeDepth := 60) [Chip.vinState, h]

@[simp] theorem Chip.vinState_stores (c : Chip) : (Chip.vinState c).stores = c.stores := by
  simp [Chip.vinState]

@[simp] theorem Chip.vinState_seat (c : Chip) : (Chip.vinState c).seat = c.seat := by
  simp [Chip.vinState]

@[simp] theorem Chip.vinLatest_sound (c : Chip) (short : Bool) (h : c.sound = true) : (Chip.vinLatest c
    short).sound = true := by
  simp (contextual := true) (maxDischargeDepth := 60) [Chip.vinLatest, h]

@[simp] theorem Chip.vinLatest_stores (c : Chip) (short : Bool) : (Chip.vinLatest c short).stores = c.stores := by
  simp [Chip.vinLatest]

@[simp] theorem Chip.vinLatest_seat (c : Chip) (short : Bool) : (Chip.vinLatest c short).seat = c.seat := by
  simp [Chip.vinLatest]

@[simp] theorem Chip.vinFrameEnd_sound (c : Chip) (h : c.sound = true) : (Chip.vinFrameEnd c).sound = true := by
  simp (contextual := true) (maxDischargeDepth := 60) [Chip.vinFrameEnd, h]

@[simp] theorem Chip.vinFrameEnd_stores (c : Chip) : (Chip.vinFrameEnd c).stores = c.stores := by
  simp [Chip.vinFrameEnd]

@[simp] theorem Chip.vinFrameEnd_seat (c : Chip) : (Chip.vinFrameEnd c).seat = c.seat := by
  simp [Chip.vinFrameEnd]

@[simp] theorem Chip.inputLost_sound (c : Chip) (h : c.sound = true) : (Chip.inputLost c).sound = true := by
  simp (contextual := true) (maxDischargeDepth := 60) [Chip.inputLost, h]

@[simp] theorem Chip.inputLost_stores (c : Chip) : (Chip.inputLost c).stores = c.stores := by
  simp [Chip.inputLost]

@[simp] theorem Chip.inputLost_seat (c : Chip) : (Chip.inputLost c).seat = c.seat := by
  simp [Chip.inputLost]

@[simp] theorem Chip.vinWriteRow_sound (c : Chip) (row : Nat) (px : List (Nat × Nat × Nat)) (h : c.sound = true)
    : (Chip.vinWriteRow c row px).sound = true := by
  simp (contextual := true) (maxDischargeDepth := 60) [Chip.vinWriteRow, h]

@[simp] theorem Chip.vinWriteRow_seat (c : Chip) (row : Nat) (px : List (Nat × Nat × Nat)) : (Chip.vinWriteRow c
    row px).seat = c.seat := by
  simp [Chip.vinWriteRow]

@[simp] theorem Chip.activeRun_sound (c : Chip) (px : List (Nat × Nat × Nat)) (room : Bool) (h : c.sound = true)
    : (Chip.activeRun c px room).sound = true := by
  simp (contextual := true) (maxDischargeDepth := 60) [Chip.activeRun, h]

@[simp] theorem Chip.activeRun_seat (c : Chip) (px : List (Nat × Nat × Nat)) (room : Bool) : (Chip.activeRun c
    px room).seat = c.seat := by
  simp [Chip.activeRun]

@[simp] theorem Chip.bargeHeader_sound (c : Chip) (h : c.sound = true) : (Chip.bargeHeader c).sound = true := by
  simp (contextual := true) (maxDischargeDepth := 60) [Chip.bargeHeader, h]

@[simp] theorem Chip.bargeHeader_stores (c : Chip) : (Chip.bargeHeader c).stores = c.stores := by
  simp [Chip.bargeHeader]

@[simp] theorem Chip.bargeHeader_seat (c : Chip) : (Chip.bargeHeader c).seat = c.seat := by
  simp [Chip.bargeHeader]

@[simp] theorem Chip.osdArrive_sound (c : Chip) (h : c.sound = true) : (Chip.osdArrive c).sound = true := by
  simp (contextual := true) (maxDischargeDepth := 60) [Chip.osdArrive, h]

@[simp] theorem Chip.osdArrive_seat (c : Chip) : (Chip.osdArrive c).seat = c.seat := by
  simp [Chip.osdArrive]

@[simp] theorem Chip.bargeLine_sound (c : Chip) (px : List (Nat × Nat × Nat)) (room : Bool) (h : c.sound = true)
    : (Chip.bargeLine c px room).sound = true := by
  simp (contextual := true) (maxDischargeDepth := 60) [Chip.bargeLine, h]

@[simp] theorem Chip.bargeLine_seat (c : Chip) (px : List (Nat × Nat × Nat)) (room : Bool) : (Chip.bargeLine c
    px room).seat = c.seat := by
  simp [Chip.bargeLine]

@[simp] theorem Chip.porchRun_sound (c : Chip) (px : List (Nat × Nat × Nat)) (room : Bool) (h : c.sound = true)
    : (Chip.porchRun c px room).sound = true := by
  simp (contextual := true) (maxDischargeDepth := 60) [Chip.porchRun, h]

@[simp] theorem Chip.porchRun_seat (c : Chip) (px : List (Nat × Nat × Nat)) (room : Bool) : (Chip.porchRun c px
    room).seat = c.seat := by
  simp [Chip.porchRun]

@[simp] theorem Chip.vinRun_sound (c : Chip) (links : List (List Slots)) (skew : Nat) (room : Bool) (h : c.sound
    = true) : (Chip.vinRun c links skew room).sound = true := by
  simp (contextual := true) (maxDischargeDepth := 60) [Chip.vinRun, h]

@[simp] theorem Chip.vinRun_seat (c : Chip) (links : List (List Slots)) (skew : Nat) (room : Bool) :
    (Chip.vinRun c links skew room).seat = c.seat := by
  simp [Chip.vinRun]

@[simp] theorem Chip.vinMeasure_sound (c : Chip) (totPix : Nat) (totLines : Nat) (h : c.sound = true) :
    (Chip.vinMeasure c totPix totLines).sound = true := by
  unfold Chip.vinMeasure; (repeat' split) <;> simp (contextual := true) (maxDischargeDepth := 60) [h]

@[simp] theorem Chip.vinMeasure_stores (c : Chip) (totPix : Nat) (totLines : Nat) : (Chip.vinMeasure c totPix
    totLines).stores = c.stores := by
  unfold Chip.vinMeasure; (repeat' split) <;> simp

@[simp] theorem Chip.vinMeasure_seat (c : Chip) (totPix : Nat) (totLines : Nat) : (Chip.vinMeasure c totPix
    totLines).seat = c.seat := by
  unfold Chip.vinMeasure; (repeat' split) <;> simp

@[simp] theorem Chip.vinMismatch_sound (c : Chip) (h : c.sound = true) : (Chip.vinMismatch c).sound = true := by
  simp (contextual := true) (maxDischargeDepth := 60) [Chip.vinMismatch, h]

@[simp] theorem Chip.vinMismatch_stores (c : Chip) : (Chip.vinMismatch c).stores = c.stores := by
  simp [Chip.vinMismatch]

@[simp] theorem Chip.vinMismatch_seat (c : Chip) : (Chip.vinMismatch c).seat = c.seat := by
  simp [Chip.vinMismatch]

@[simp] theorem Chip.vinRestart_sound (c : Chip) (h : c.sound = true) : (Chip.vinRestart c).sound = true := by
  simp (contextual := true) (maxDischargeDepth := 60) [Chip.vinRestart, h]

@[simp] theorem Chip.vinRestart_stores (c : Chip) : (Chip.vinRestart c).stores = c.stores := by
  simp [Chip.vinRestart]

@[simp] theorem Chip.vinRestart_seat (c : Chip) : (Chip.vinRestart c).seat = c.seat := by
  simp [Chip.vinRestart]

@[simp] theorem Chip.vinCapture_sound (c : Chip) (h : c.sound = true) : (Chip.vinCapture c).sound = true := by
  simp (contextual := true) (maxDischargeDepth := 60) [Chip.vinCapture, h]

@[simp] theorem Chip.vinCapture_stores (c : Chip) : (Chip.vinCapture c).stores = c.stores := by
  simp [Chip.vinCapture]

@[simp] theorem Chip.vinCapture_seat (c : Chip) : (Chip.vinCapture c).seat = c.seat := by
  simp [Chip.vinCapture]

@[simp] theorem Chip.vinStart_sound (c : Chip) (totPix : Nat) (totLines : Nat) (ircCount : Nat) (h : c.sound =
    true) : (Chip.vinStart c totPix totLines ircCount).sound = true := by
  simp (contextual := true) (maxDischargeDepth := 60) [Chip.vinStart, h]

@[simp] theorem Chip.vinStart_stores (c : Chip) (totPix : Nat) (totLines : Nat) (ircCount : Nat) :
    (Chip.vinStart c totPix totLines ircCount).stores = c.stores := by
  simp [Chip.vinStart]

@[simp] theorem Chip.vinStart_seat (c : Chip) (totPix : Nat) (totLines : Nat) (ircCount : Nat) : (Chip.vinStart
    c totPix totLines ircCount).seat = c.seat := by
  simp [Chip.vinStart]

end Sys2Proof.Machine
end

