-- ==== Sys2Proof/Laws/Camera.lean ====
section
/-! SUPPORT. Every operation of Machine/Camera.lean keeps the part sound; those that touch no store leave the stores as
they are, and those that enter no mode leave the mode and its cause. -/

namespace Sys2Proof.Machine

open Sys2Proof

@[simp] theorem Chip.onCam_sound (c : Chip) (f : Camera → Camera) (h : c.sound = true) : (Chip.onCam c f).sound
    = true := by
  simp (contextual := true) (maxDischargeDepth := 60) [Chip.onCam, h]

@[simp] theorem Chip.onCam_stores (c : Chip) (f : Camera → Camera) : (Chip.onCam c f).stores = c.stores := by
  rfl

@[simp] theorem Chip.onCam_seat (c : Chip) (f : Camera → Camera) : (Chip.onCam c f).seat = c.seat := by
  rfl

@[simp] theorem Chip.onVc_sound (c : Chip) (v : Nat) (f : Vc → Vc) (h : c.sound = true) : (Chip.onVc c v
    f).sound = true := by
  simp (contextual := true) (maxDischargeDepth := 60) [Chip.onVc, h]

@[simp] theorem Chip.onVc_stores (c : Chip) (v : Nat) (f : Vc → Vc) : (Chip.onVc c v f).stores = c.stores := by
  rfl

@[simp] theorem Chip.onVc_seat (c : Chip) (v : Nat) (f : Vc → Vc) : (Chip.onVc c v f).seat = c.seat := by
  rfl

@[simp] theorem Chip.onCtx_sound (c : Chip) (i : Nat) (f : IspCtx → IspCtx) (h : c.sound = true) : (Chip.onCtx c
    i f).sound = true := by
  simp (contextual := true) (maxDischargeDepth := 60) [Chip.onCtx, h]

@[simp] theorem Chip.onCtx_stores (c : Chip) (i : Nat) (f : IspCtx → IspCtx) : (Chip.onCtx c i f).stores =
    c.stores := by
  rfl

@[simp] theorem Chip.onCtx_seat (c : Chip) (i : Nat) (f : IspCtx → IspCtx) : (Chip.onCtx c i f).seat = c.seat := by
  rfl

@[simp] theorem Chip.shareErr_sound (c : Chip) (e : Nat) (h : c.sound = true) : (Chip.shareErr c e).sound = true := by
  simp (contextual := true) (maxDischargeDepth := 60) [Chip.shareErr, h]

@[simp] theorem Chip.shareErr_stores (c : Chip) (e : Nat) : (Chip.shareErr c e).stores = c.stores := by
  rfl

@[simp] theorem Chip.shareErr_seat (c : Chip) (e : Nat) : (Chip.shareErr c e).seat = c.seat := by
  rfl

@[simp] theorem Chip.regionsReset_sound (c : Chip) (h : c.sound = true) : (Chip.regionsReset c).sound = true := by
  simp (contextual := true) (maxDischargeDepth := 60) [Chip.regionsReset, h]

@[simp] theorem Chip.regionsReset_stores (c : Chip) : (Chip.regionsReset c).stores = c.stores := by
  rfl

@[simp] theorem Chip.regionsReset_seat (c : Chip) : (Chip.regionsReset c).seat = c.seat := by
  rfl

@[simp] theorem Chip.shareWrite_sound (c : Chip) (v : Word) (h : c.sound = true) : (Chip.shareWrite c v).sound =
    true := by
  simp (contextual := true) (maxDischargeDepth := 60) [Chip.shareWrite, h]

@[simp] theorem Chip.shareWrite_stores (c : Chip) (v : Word) : (Chip.shareWrite c v).stores = c.stores := by
  simp [Chip.shareWrite]

@[simp] theorem Chip.shareWrite_seat (c : Chip) (v : Word) : (Chip.shareWrite c v).seat = c.seat := by
  simp [Chip.shareWrite]

@[simp] theorem Chip.vcEnable_sound (c : Chip) (vc : Nat) (v : Word) (h : c.sound = true) : (Chip.vcEnable c vc
    v).sound = true := by
  simp (contextual := true) (maxDischargeDepth := 60) [Chip.vcEnable, h]

@[simp] theorem Chip.vcEnable_stores (c : Chip) (vc : Nat) (v : Word) : (Chip.vcEnable c vc v).stores = c.stores := by
  simp [Chip.vcEnable]

@[simp] theorem Chip.vcEnable_seat (c : Chip) (vc : Nat) (v : Word) : (Chip.vcEnable c vc v).seat = c.seat := by
  simp [Chip.vcEnable]

@[simp] theorem Chip.csiCfg_sound (c : Chip) (v : Word) (h : c.sound = true) : (Chip.csiCfg c v).sound = true := by
  simp (contextual := true) (maxDischargeDepth := 60) [Chip.csiCfg, h]

@[simp] theorem Chip.csiCfg_stores (c : Chip) (v : Word) : (Chip.csiCfg c v).stores = c.stores := by
  simp [Chip.csiCfg]

@[simp] theorem Chip.csiCfg_seat (c : Chip) (v : Word) : (Chip.csiCfg c v).seat = c.seat := by
  simp [Chip.csiCfg]

@[simp] theorem Chip.header_sound (c : Chip) (e : Ecc) (f : Chip → Chip) (h : c.sound = true) (hf : ∀ c : Chip,
    c.sound = true → (f c).sound = true) : (Chip.header c e f).sound = true := by
  unfold Chip.header; (repeat' split) <;> simp (contextual := true) (maxDischargeDepth := 60) [h, hf]

@[simp] theorem Chip.header_stores (c : Chip) (e : Ecc) (f : Chip → Chip) (hf : ∀ c : Chip, (f c).stores = c.stores)
    : (Chip.header c e f).stores = c.stores := by
  unfold Chip.header; (repeat' split) <;> simp [hf]

@[simp] theorem Chip.header_seat (c : Chip) (e : Ecc) (f : Chip → Chip) (hf : ∀ c : Chip, (f c).seat = c.seat) :
    (Chip.header c e f).seat = c.seat := by
  unfold Chip.header; (repeat' split) <;> simp [hf]

@[simp] theorem Chip.latchEmb_sound (c : Chip) (v : Nat) (bs : List Byte) (h : c.sound = true) : (Chip.latchEmb
    c v bs).sound = true := by
  simp (contextual := true) (maxDischargeDepth := 60) [Chip.latchEmb, h]

@[simp] theorem Chip.latchEmb_stores (c : Chip) (v : Nat) (bs : List Byte) : (Chip.latchEmb c v bs).stores =
    c.stores := by
  simp [Chip.latchEmb]

@[simp] theorem Chip.latchEmb_seat (c : Chip) (v : Nat) (bs : List Byte) : (Chip.latchEmb c v bs).seat = c.seat := by
  simp [Chip.latchEmb]

@[simp] theorem Chip.vcFrameEnd_sound (c : Chip) (v : Nat) (h : c.sound = true) : (Chip.vcFrameEnd c v).sound =
    true := by
  simp (contextual := true) (maxDischargeDepth := 60) [Chip.vcFrameEnd, h]

@[simp] theorem Chip.vcFrameEnd_stores (c : Chip) (v : Nat) : (Chip.vcFrameEnd c v).stores = c.stores := by
  simp [Chip.vcFrameEnd]

@[simp] theorem Chip.vcFrameEnd_seat (c : Chip) (v : Nat) : (Chip.vcFrameEnd c v).seat = c.seat := by
  simp [Chip.vcFrameEnd]

@[simp] theorem Chip.pipeSettle_sound (c : Chip) (i : Nat) (h : c.sound = true) : (Chip.pipeSettle c i).sound = true
    := by
  simp (contextual := true) (maxDischargeDepth := 60) [Chip.pipeSettle, h]

@[simp] theorem Chip.pipeSettle_stores (c : Chip) (i : Nat) : (Chip.pipeSettle c i).stores = c.stores := by
  rfl

@[simp] theorem Chip.pipeSettle_seat (c : Chip) (i : Nat) : (Chip.pipeSettle c i).seat = c.seat := by
  rfl

@[simp] theorem Chip.bankCommit_sound (c : Chip) (i : Nat) (h : c.sound = true) : (Chip.bankCommit c i).sound =
    true := by
  simp (contextual := true) (maxDischargeDepth := 60) [Chip.bankCommit, h]

@[simp] theorem Chip.bankCommit_stores (c : Chip) (i : Nat) : (Chip.bankCommit c i).stores = c.stores := by
  simp [Chip.bankCommit]

@[simp] theorem Chip.bankCommit_seat (c : Chip) (i : Nat) : (Chip.bankCommit c i).seat = c.seat := by
  simp [Chip.bankCommit]


@[simp] theorem Chip.asOf_stores (c : Chip) (i : Nat) (f : CamFrame) : (Chip.asOf c i f).stores = c.stores := by
  rfl

@[simp] theorem Chip.asOf_seat (c : Chip) (i : Nat) (f : CamFrame) : (Chip.asOf c i f).seat = c.seat := by
  rfl

@[simp] theorem Chip.vcFrameStart_sound (c : Chip) (v : Nat) (ircCount : Nat) (h : c.sound = true) :
    (Chip.vcFrameStart c v ircCount).sound = true := by
  simp (contextual := true) (maxDischargeDepth := 60) [Chip.vcFrameStart, h]

@[simp] theorem Chip.vcFrameStart_stores (c : Chip) (v : Nat) (ircCount : Nat) : (Chip.vcFrameStart c v
    ircCount).stores = c.stores := by
  simp [Chip.vcFrameStart]

@[simp] theorem Chip.vcFrameStart_seat (c : Chip) (v : Nat) (ircCount : Nat) : (Chip.vcFrameStart c v
    ircCount).seat = c.seat := by
  simp [Chip.vcFrameStart]

@[simp] theorem Chip.pipeOff_sound (c : Chip) (pipe : Nat) (h : c.sound = true) : (Chip.pipeOff c pipe).sound = true
    := by
  simp (contextual := true) (maxDischargeDepth := 60) [Chip.pipeOff, h]

@[simp] theorem Chip.pipeOff_stores (c : Chip) (pipe : Nat) : (Chip.pipeOff c pipe).stores = c.stores := by
  simp [Chip.pipeOff]

@[simp] theorem Chip.pipeOff_seat (c : Chip) (pipe : Nat) : (Chip.pipeOff c pipe).seat = c.seat := by
  simp [Chip.pipeOff]

@[simp] theorem Chip.position_sound (c : Chip) (v : Nat) (l : Option (List Nat)) (h : c.sound = true) :
    (Chip.position c v l).sound = true := by
  simp (contextual := true) (maxDischargeDepth := 60) [Chip.position, h]

@[simp] theorem Chip.position_stores (c : Chip) (v : Nat) (l : Option (List Nat)) : (Chip.position c v l).stores =
    c.stores := by
  simp [Chip.position]

@[simp] theorem Chip.position_seat (c : Chip) (v : Nat) (l : Option (List Nat)) : (Chip.position c v l).seat =
    c.seat := by
  simp [Chip.position]

@[simp] theorem Chip.lineFault_sound (c : Chip) (v : Nat) (samples : List Nat) (crcOk : Bool) (h : c.sound = true) :
    (Chip.lineFault c v samples crcOk).sound = true := by
  simp (contextual := true) (maxDischargeDepth := 60) [Chip.lineFault, h]

@[simp] theorem Chip.lineFault_stores (c : Chip) (v : Nat) (samples : List Nat) (crcOk : Bool) : (Chip.lineFault c v
    samples crcOk).stores = c.stores := by
  simp [Chip.lineFault]

@[simp] theorem Chip.lineFault_seat (c : Chip) (v : Nat) (samples : List Nat) (crcOk : Bool) : (Chip.lineFault c v
    samples crcOk).seat = c.seat := by
  simp [Chip.lineFault]

@[simp] theorem Chip.imageLine_sound (c : Chip) (v : Nat) (samples : List Nat) (crcOk : Bool) (room : Bool) (h :
    c.sound = true) : (Chip.imageLine c v samples crcOk room).sound = true := by
  simp (contextual := true) (maxDischargeDepth := 60) [Chip.imageLine, h]

@[simp] theorem Chip.imageLine_stores (c : Chip) (v : Nat) (samples : List Nat) (crcOk : Bool) (room : Bool) :
    (Chip.imageLine c v samples crcOk room).stores = c.stores := by
  simp [Chip.imageLine]

@[simp] theorem Chip.imageLine_seat (c : Chip) (v : Nat) (samples : List Nat) (crcOk : Bool) (room : Bool) :
    (Chip.imageLine c v samples crcOk room).seat = c.seat := by
  simp [Chip.imageLine]

@[simp] theorem Chip.serveStripe_sound (c : Chip) (h : c.sound = true) : (Chip.serveStripe c).sound = true := by
  unfold Chip.serveStripe; split <;> simp (contextual := true) (maxDischargeDepth := 60) [h]

@[simp] theorem Chip.serveStripe_stores (c : Chip) : (Chip.serveStripe c).stores = c.stores := by
  unfold Chip.serveStripe; split <;> simp

@[simp] theorem Chip.serveStripe_seat (c : Chip) : (Chip.serveStripe c).seat = c.seat := by
  unfold Chip.serveStripe; split <;> simp

@[simp] theorem Chip.proxDrive_sound (c : Chip) (h : c.sound = true) : (Chip.proxDrive c).sound = true := by
  simp (contextual := true) (maxDischargeDepth := 60) [Chip.proxDrive, h]

@[simp] theorem Chip.proxDrive_stores (c : Chip) : (Chip.proxDrive c).stores = c.stores := by
  simp [Chip.proxDrive]

@[simp] theorem Chip.proxDrive_seat (c : Chip) : (Chip.proxDrive c).seat = c.seat := by
  simp [Chip.proxDrive]

@[simp] theorem Chip.proxJudge_sound (c : Chip) (i : Nat) (irMeans : List Nat) (h : c.sound = true) :
    (Chip.proxJudge c i irMeans).sound = true := by
  simp (contextual := true) (maxDischargeDepth := 60) [Chip.proxJudge, h]

@[simp] theorem Chip.proxJudge_stores (c : Chip) (i : Nat) (irMeans : List Nat) : (Chip.proxJudge c i
    irMeans).stores = c.stores := by
  simp [Chip.proxJudge]

@[simp] theorem Chip.proxJudge_seat (c : Chip) (i : Nat) (irMeans : List Nat) : (Chip.proxJudge c i
    irMeans).seat = c.seat := by
  simp [Chip.proxJudge]

@[simp] theorem Chip.ispFrameEnd_sound (c : Chip) (i : Nat) (f : CamFrame) (h : c.sound = true) :
    (Chip.ispFrameEnd c i f).sound = true := by
  simp (contextual := true) (maxDischargeDepth := 60) [Chip.ispFrameEnd, h]

@[simp] theorem Chip.ispFrameEnd_stores (c : Chip) (i : Nat) (f : CamFrame) : (Chip.ispFrameEnd c i f).stores =
    c.stores := by
  simp [Chip.ispFrameEnd]

@[simp] theorem Chip.ispFrameEnd_seat (c : Chip) (i : Nat) (f : CamFrame) : (Chip.ispFrameEnd c i f).seat =
    c.seat := by
  simp [Chip.ispFrameEnd]

@[simp] theorem Chip.putPlane_sound (c : Chip) (base : Nat) (stride : Nat) (rows : List (List Nat)) (drops :
    List Nat) (h : c.sound = true) : (Chip.putPlane c base stride rows drops).sound = true := by
  simp (contextual := true) (maxDischargeDepth := 60) [Chip.putPlane, h]

@[simp] theorem Chip.putPlane_seat (c : Chip) (base : Nat) (stride : Nat) (rows : List (List Nat)) (drops : List
    Nat) : (Chip.putPlane c base stride rows drops).seat = c.seat := by
  simp [Chip.putPlane]

@[simp] theorem Chip.putFrame_sound (c : Chip) (s : Surface) (rows : List (List (Nat × Nat × Nat))) (drops :
    List Nat) (h : c.sound = true) : (Chip.putFrame c s rows drops).sound = true := by
  simp (contextual := true) (maxDischargeDepth := 60) [Chip.putFrame, h]

@[simp] theorem Chip.putFrame_seat (c : Chip) (s : Surface) (rows : List (List (Nat × Nat × Nat))) (drops : List
    Nat) : (Chip.putFrame c s rows drops).seat = c.seat := by
  simp [Chip.putFrame]

@[simp] theorem Chip.rtxDropOlder_sound (c : Chip) (s : Nat) (h : c.sound = true) : (Chip.rtxDropOlder c
    s).sound = true := by
  simp (contextual := true) (maxDischargeDepth := 60) [Chip.rtxDropOlder, h]

@[simp] theorem Chip.rtxDropOlder_stores (c : Chip) (s : Nat) : (Chip.rtxDropOlder c s).stores = c.stores := by
  simp [Chip.rtxDropOlder]

@[simp] theorem Chip.rtxDropOlder_seat (c : Chip) (s : Nat) : (Chip.rtxDropOlder c s).seat = c.seat := by
  simp [Chip.rtxDropOlder]

@[simp] theorem Chip.rtxOffer_sound (c : Chip) (i : Nat) (s : Nat) (b : Nat) (f : CamFrame) (dropped : Bool) (h
    : c.sound = true) : (Chip.rtxOffer c i s b f dropped).sound = true := by
  simp (contextual := true) (maxDischargeDepth := 60) [Chip.rtxOffer, h]

@[simp] theorem Chip.rtxOffer_stores (c : Chip) (i : Nat) (s : Nat) (b : Nat) (f : CamFrame) (dropped : Bool) :
    (Chip.rtxOffer c i s b f dropped).stores = c.stores := by
  simp [Chip.rtxOffer]

@[simp] theorem Chip.rtxOffer_seat (c : Chip) (i : Nat) (s : Nat) (b : Nat) (f : CamFrame) (dropped : Bool) :
    (Chip.rtxOffer c i s b f dropped).seat = c.seat := by
  simp [Chip.rtxOffer]

@[simp] theorem Chip.ispOutput_sound (c : Chip) (i : Nat) (out : Nat) (b : Nat) (drops : List Nat) (lines : Nat)
    (write : Chip → Chip) (h : c.sound = true) (hwrite : ∀ c : Chip, c.sound = true → (write c).sound = true) :
    (Chip.ispOutput c i out b drops lines write).sound = true := by
  simp (contextual := true) (maxDischargeDepth := 60) [Chip.ispOutput, h, hwrite]

@[simp] theorem Chip.ispOutput_stores (c : Chip) (i : Nat) (out : Nat) (b : Nat) (drops : List Nat) (lines :
    Nat) (write : Chip → Chip) (hwrite : ∀ c : Chip, (write c).stores = c.stores) : (Chip.ispOutput c i out b
    drops lines write).stores = c.stores := by
  simp [Chip.ispOutput, hwrite]

@[simp] theorem Chip.ispOutput_seat (c : Chip) (i : Nat) (out : Nat) (b : Nat) (drops : List Nat) (lines : Nat)
    (write : Chip → Chip) (hwrite : ∀ c : Chip, (write c).seat = c.seat) : (Chip.ispOutput c i out b drops lines
    write).seat = c.seat := by
  simp [Chip.ispOutput, hwrite]

@[simp] theorem Chip.ispOutputs_sound (c : Chip) (i : Nat) (f : CamFrame) (drops : List (Nat × Nat)) (h :
    c.sound = true) : (Chip.ispOutputs c i f drops).sound = true := by
  unfold Chip.ispOutputs
  extract_lets was lin col ycc base b dr en ht disp cod n visY visI onD onC onV direct sat6 c1 surfD surfC c2 held2 d3 c3
    held3 ys is d4 c4
  have h1 : c1.sound = true := Chip.saturate_sound _ _ _ _ (Chip.saturate_sound _ _ _ _ h)
  have h2 : c2.sound = true := by
    clear_value c1 surfD disp
    simp (contextual := true) (maxDischargeDepth := 60) [c2, h1]
  have h3 : c3.sound = true := by
    clear_value c2 surfC cod held2
    simp (contextual := true) (maxDischargeDepth := 60) [c3, d3, h2]
  have h4 : c4.sound = true := by
    clear_value c3 ys is held3
    simp (contextual := true) (maxDischargeDepth := 60) [c4, d4, h3]
  exact Chip.onCtx_sound _ _ _ h4

@[simp] theorem Chip.ispOutputs_seat (c : Chip) (i : Nat) (f : CamFrame) (drops : List (Nat × Nat)) :
    (Chip.ispOutputs c i f drops).seat = c.seat := by
  simp [Chip.ispOutputs]

@[simp] theorem Chip.rtxBegin_sound (c : Chip) (r : RtxFrame) (direct : Bool) (h : c.sound = true) :
    (Chip.rtxBegin c r direct).sound = true := by
  simp (contextual := true) (maxDischargeDepth := 60) [Chip.rtxBegin, h]

@[simp] theorem Chip.rtxBegin_stores (c : Chip) (r : RtxFrame) (direct : Bool) : (Chip.rtxBegin c r
    direct).stores = c.stores := by
  rfl

@[simp] theorem Chip.rtxBegin_seat (c : Chip) (r : RtxFrame) (direct : Bool) : (Chip.rtxBegin c r direct).seat =
    c.seat := by
  rfl

@[simp] theorem Chip.rtxReads_sound (c : Chip) (r : RtxFrame) (h : c.sound = true) : (Chip.rtxReads c r).sound =
    true := by
  simp (contextual := true) (maxDischargeDepth := 60) [Chip.rtxReads, h]

@[simp] theorem Chip.rtxReads_stores (c : Chip) (r : RtxFrame) : (Chip.rtxReads c r).stores = c.stores := by
  simp [Chip.rtxReads]

@[simp] theorem Chip.rtxReads_seat (c : Chip) (r : RtxFrame) : (Chip.rtxReads c r).seat = c.seat := by
  simp [Chip.rtxReads]

@[simp] theorem Chip.rtxSent_sound (c : Chip) (r : RtxFrame) (h : c.sound = true) : (Chip.rtxSent c r).sound = true
    := by
  simp only [Chip.rtxSent]; (repeat' split) <;> simp (contextual := true) (maxDischargeDepth := 60) [h]

@[simp] theorem Chip.rtxSent_stores (c : Chip) (r : RtxFrame) : (Chip.rtxSent c r).stores = c.stores := by
  simp only [Chip.rtxSent]; (repeat' split) <;> simp

@[simp] theorem Chip.rtxSent_seat (c : Chip) (r : RtxFrame) : (Chip.rtxSent c r).seat = c.seat := by
  simp only [Chip.rtxSent]; (repeat' split) <;> simp

@[simp] theorem Chip.rtxDirect_sound (c : Chip) (s : Nat) (line : List Nat) (first : Bool) (room : Bool) (h :
    c.sound = true) : (Chip.rtxDirect c s line first room).sound = true := by
  simp (contextual := true) (maxDischargeDepth := 60) [Chip.rtxDirect, h]

@[simp] theorem Chip.rtxDirect_stores (c : Chip) (s : Nat) (line : List Nat) (first : Bool) (room : Bool) :
    (Chip.rtxDirect c s line first room).stores = c.stores := by
  simp [Chip.rtxDirect]

@[simp] theorem Chip.rtxDirect_seat (c : Chip) (s : Nat) (line : List Nat) (first : Bool) (room : Bool) :
    (Chip.rtxDirect c s line first room).seat = c.seat := by
  simp [Chip.rtxDirect]

@[simp] theorem Chip.rtxEnable_sound (c : Chip) (s : Nat) (v : Word) (h : c.sound = true) : (Chip.rtxEnable c s
    v).sound = true := by
  simp (contextual := true) (maxDischargeDepth := 60) [Chip.rtxEnable, h]

@[simp] theorem Chip.rtxEnable_stores (c : Chip) (s : Nat) (v : Word) : (Chip.rtxEnable c s v).stores = c.stores := by
  simp [Chip.rtxEnable]

@[simp] theorem Chip.rtxEnable_seat (c : Chip) (s : Nat) (v : Word) : (Chip.rtxEnable c s v).seat = c.seat := by
  simp [Chip.rtxEnable]

end Sys2Proof.Machine
end

