-- ==== Sys2Proof/Laws/Compose.lean ====
section
/-! SUPPORT. Every operation of Machine/Compose.lean keeps the part sound; those that touch no store leave the stores as
they are, and those that enter no mode leave the mode and its cause. -/

namespace Sys2Proof.Machine

open Sys2Proof

@[simp] theorem Chip.onCmp_sound (c : Chip) (f : Compose → Compose) (h : c.sound = true)
    (hf : SMap.wf safeDefault (f c.cmp).safe = true) : (c.onCmp f).sound = true := by
  simp [Chip.onCmp, Stores.wf_iff, h, hf]

@[simp] theorem Chip.onCmp_stores (c : Chip) (f : Compose → Compose) (hf : (f c.cmp).safe = c.cmp.safe) :
    (c.onCmp f).stores = c.stores := by
  simp [Chip.onCmp, hf]

@[simp] theorem Chip.onCmp_seat (c : Chip) (f : Compose → Compose) : (Chip.onCmp c f).seat = c.seat := by
  rfl

@[simp] theorem Chip.safeLock_sound (c : Chip) (h : c.sound = true) : (Chip.safeLock c).sound = true := by
  simp (contextual := true) (maxDischargeDepth := 60) [Chip.safeLock, h]

@[simp] theorem Chip.safeLock_stores (c : Chip) : (Chip.safeLock c).stores = c.stores := by
  simp [Chip.safeLock]

@[simp] theorem Chip.safeLock_seat (c : Chip) : (Chip.safeLock c).seat = c.seat := by
  simp [Chip.safeLock]

@[simp] theorem Chip.fetchRow_sound (c : Chip) (vis : List (Nat × Nat)) (port : Nat) (L : Nat) (y : Nat) (bytes
    : Nat) (addr : Nat → Nat) (h : c.sound = true) : (Chip.fetchRow c vis port L y bytes addr).sound = true :=
    by
  simp (contextual := true) (maxDischargeDepth := 60) [Chip.fetchRow, h]

@[simp] theorem Chip.fetchRow_stores (c : Chip) (vis : List (Nat × Nat)) (port : Nat) (L : Nat) (y : Nat) (bytes :
    Nat) (addr : Nat → Nat) : (Chip.fetchRow c vis port L y bytes addr).stores = c.stores := by
  simp [Chip.fetchRow]

@[simp] theorem Chip.fetchRow_seat (c : Chip) (vis : List (Nat × Nat)) (port : Nat) (L : Nat) (y : Nat) (bytes :
    Nat) (addr : Nat → Nat) : (Chip.fetchRow c vis port L y bytes addr).seat = c.seat := by
  simp [Chip.fetchRow]

@[simp] theorem Chip.fetchScaled_sound (c : Chip) (L : Nat) (m : Nat) (s : Surface) (h : c.sound = true) :
    (Chip.fetchScaled c L m s).sound = true := by
  simp (contextual := true) (maxDischargeDepth := 60) [Chip.fetchScaled, h]

@[simp] theorem Chip.fetchScaled_stores (c : Chip) (L : Nat) (m : Nat) (s : Surface) : (Chip.fetchScaled c L m
    s).stores = c.stores := by
  simp [Chip.fetchScaled]

@[simp] theorem Chip.fetchScaled_seat (c : Chip) (L : Nat) (m : Nat) (s : Surface) : (Chip.fetchScaled c L m
    s).seat = c.seat := by
  simp [Chip.fetchScaled]

@[simp] theorem Chip.fetchLayer_sound (c : Chip) (vis : List (Nat × Nat)) (L : Nat) (y : Nat) (h : c.sound =
    true) : (Chip.fetchLayer c vis L y).sound = true := by
  unfold Chip.fetchLayer; (repeat' split) <;> simp (contextual := true) (maxDischargeDepth := 60) [h]

@[simp] theorem Chip.fetchLayer_stores (c : Chip) (vis : List (Nat × Nat)) (L : Nat) (y : Nat) : (Chip.fetchLayer c
    vis L y).stores = c.stores := by
  unfold Chip.fetchLayer; (repeat' split) <;> simp

@[simp] theorem Chip.fetchLayer_seat (c : Chip) (vis : List (Nat × Nat)) (L : Nat) (y : Nat) : (Chip.fetchLayer
    c vis L y).seat = c.seat := by
  unfold Chip.fetchLayer; (repeat' split) <;> simp

@[simp] theorem Chip.fetchFlat_sound (c : Chip) (vis : List (Nat × Nat)) (y : Nat) (h : c.sound = true) :
    (Chip.fetchFlat c vis y).sound = true := by
  simp (contextual := true) (maxDischargeDepth := 60) [Chip.fetchFlat, h]

@[simp] theorem Chip.fetchFlat_stores (c : Chip) (vis : List (Nat × Nat)) (y : Nat) : (Chip.fetchFlat c vis
    y).stores = c.stores := by
  simp [Chip.fetchFlat]

@[simp] theorem Chip.fetchFlat_seat (c : Chip) (vis : List (Nat × Nat)) (y : Nat) : (Chip.fetchFlat c vis
    y).seat = c.seat := by
  simp [Chip.fetchFlat]

@[simp] theorem Chip.lineSats_sound (c : Chip) (vis : List (Nat × Nat)) (y : Nat) (h : c.sound = true) :
    (Chip.lineSats c vis y).sound = true := by
  simp (contextual := true) (maxDischargeDepth := 60) [Chip.lineSats, h]

@[simp] theorem Chip.lineSats_stores (c : Chip) (vis : List (Nat × Nat)) (y : Nat) : (Chip.lineSats c vis
    y).stores = c.stores := by
  simp [Chip.lineSats]

@[simp] theorem Chip.lineSats_seat (c : Chip) (vis : List (Nat × Nat)) (y : Nat) : (Chip.lineSats c vis y).seat
    = c.seat := by
  simp [Chip.lineSats]

@[simp] theorem Chip.writeBack_sound (c : Chip) (vis : List (Nat × Nat)) (y : Nat) (ps : List (Option
    CanvasPixel)) (room : Bool) (h : c.sound = true) : (Chip.writeBack c vis y ps room).sound = true := by
  simp (contextual := true) (maxDischargeDepth := 60) [Chip.writeBack, h]

@[simp] theorem Chip.writeBack_seat (c : Chip) (vis : List (Nat × Nat)) (y : Nat) (ps : List (Option
    CanvasPixel)) (room : Bool) : (Chip.writeBack c vis y ps room).seat = c.seat := by
  simp [Chip.writeBack]

@[simp] theorem Chip.outSats_sound (c : Chip) (ps : List CanvasPixel) (h : c.sound = true) : (Chip.outSats c
    ps).sound = true := by
  simp (contextual := true) (maxDischargeDepth := 60) [Chip.outSats, h]

@[simp] theorem Chip.outSats_stores (c : Chip) (ps : List CanvasPixel) : (Chip.outSats c ps).stores = c.stores := by
  simp [Chip.outSats]

@[simp] theorem Chip.outSats_seat (c : Chip) (ps : List CanvasPixel) : (Chip.outSats c ps).seat = c.seat := by
  simp [Chip.outSats]

@[simp] theorem Chip.composeLine_sound (c : Chip) (vis : List (Nat × Nat)) (y : Nat) (wbRoom : Bool) (h :
    c.sound = true) : (Chip.composeLine c vis y wbRoom).2.sound = true := by
  simp (contextual := true) (maxDischargeDepth := 60) [Chip.composeLine, h]

@[simp] theorem Chip.composeLine_seat (c : Chip) (vis : List (Nat × Nat)) (y : Nat) (wbRoom : Bool) :
    (Chip.composeLine c vis y wbRoom).2.seat = c.seat := by
  simp [Chip.composeLine]

end Sys2Proof.Machine
end

