-- ==== Sys2Proof/Laws/Flips.lean ====
section
/-! SUPPORT. Every operation of Machine/Flips.lean keeps the part sound; those that touch no store leave the stores as
they are, and those that enter no mode leave the mode and its cause. -/

namespace Sys2Proof.Machine

open Sys2Proof

@[simp] theorem Chip.noteSpec_sound (c : Chip) (port : Nat) (a : Nat) (h : c.sound = true) : (Chip.noteSpec c
    port a).sound = true := by
  unfold Chip.noteSpec; split <;> simp (contextual := true) (maxDischargeDepth := 60) [h]

@[simp] theorem Chip.noteSpec_stores (c : Chip) (port : Nat) (a : Nat) : (Chip.noteSpec c port a).stores = c.stores := by
  unfold Chip.noteSpec
  split
  · split
    · rfl
    · rw [Chip.memError_spec _ _ rfl]; simp
  · rfl

@[simp] theorem Chip.noteSpec_seat (c : Chip) (port : Nat) (a : Nat) : (Chip.noteSpec c port a).seat = c.seat := by
  unfold Chip.noteSpec; split <;> simp

@[simp] theorem Chip.aheadFetch_sound (c : Chip) (L : Nat) (h : c.sound = true) : (Chip.aheadFetch c L).sound =
    true := by
  simp (contextual := true) (maxDischargeDepth := 60) [Chip.aheadFetch, h]

@[simp] theorem Chip.aheadFetch_stores (c : Chip) (L : Nat) : (Chip.aheadFetch c L).stores = c.stores := by
  simp [Chip.aheadFetch]

@[simp] theorem Chip.aheadFetch_seat (c : Chip) (L : Nat) : (Chip.aheadFetch c L).seat = c.seat := by
  simp [Chip.aheadFetch]

@[simp] theorem Chip.aheadStart_sound (c : Chip) (h : c.sound = true) : (Chip.aheadStart c).sound = true := by
  simp (contextual := true) (maxDischargeDepth := 60) [Chip.aheadStart, h]

@[simp] theorem Chip.aheadStart_stores (c : Chip) : (Chip.aheadStart c).stores = c.stores := by
  simp [Chip.aheadStart]

@[simp] theorem Chip.aheadStart_seat (c : Chip) : (Chip.aheadStart c).seat = c.seat := by
  simp [Chip.aheadStart]

@[simp] theorem Chip.aheadDrop_sound (c : Chip) (L : Nat) (h : c.sound = true) : (Chip.aheadDrop c L).sound =
    true := by
  unfold Chip.aheadDrop; split <;> simp (contextual := true) (maxDischargeDepth := 60) [h]

@[simp] theorem Chip.aheadDrop_stores (c : Chip) (L : Nat) : (Chip.aheadDrop c L).stores = c.stores := by
  unfold Chip.aheadDrop; split <;> simp

@[simp] theorem Chip.aheadDrop_seat (c : Chip) (L : Nat) : (Chip.aheadDrop c L).seat = c.seat := by
  unfold Chip.aheadDrop; split <;> simp

@[simp] theorem Chip.aheadDropAll_sound (c : Chip) (ls : List Nat) (h : c.sound = true) : (Chip.aheadDropAll c
    ls).sound = true := by
  simp (contextual := true) (maxDischargeDepth := 60) [Chip.aheadDropAll, h]

@[simp] theorem Chip.aheadDropAll_stores (c : Chip) (ls : List Nat) : (Chip.aheadDropAll c ls).stores = c.stores := by
  simp [Chip.aheadDropAll]

@[simp] theorem Chip.aheadDropAll_seat (c : Chip) (ls : List Nat) : (Chip.aheadDropAll c ls).seat = c.seat := by
  simp [Chip.aheadDropAll]

@[simp] theorem Chip.groupEvent_sound (c : Chip) (g : Nat) (h : c.sound = true) : (Chip.groupEvent c g).sound =
    true := by
  simp (contextual := true) (maxDischargeDepth := 60) [Chip.groupEvent, h]

@[simp] theorem Chip.groupEvent_stores (c : Chip) (g : Nat) : (Chip.groupEvent c g).stores = c.stores := by
  simp [Chip.groupEvent]

@[simp] theorem Chip.groupEvent_seat (c : Chip) (g : Nat) : (Chip.groupEvent c g).seat = c.seat := by
  simp [Chip.groupEvent]

@[simp] theorem Chip.groupEnd_sound (c : Chip) (g : Nat) (result : Nat) (h : c.sound = true) : (Chip.groupEnd c
    g result).sound = true := by
  simp (contextual := true) (maxDischargeDepth := 60) [Chip.groupEnd, h]

@[simp] theorem Chip.groupEnd_stores (c : Chip) (g : Nat) (result : Nat) : (Chip.groupEnd c g result).stores =
    c.stores := by
  simp [Chip.groupEnd]

@[simp] theorem Chip.groupEnd_seat (c : Chip) (g : Nat) (result : Nat) : (Chip.groupEnd c g result).seat =
    c.seat := by
  simp [Chip.groupEnd]

@[simp] theorem Chip.groupStop_sound (c : Chip) (g : Nat) (result : Nat) (h : c.sound = true) : (Chip.groupStop
    c g result).sound = true := by
  simp (contextual := true) (maxDischargeDepth := 60) [Chip.groupStop, h]

@[simp] theorem Chip.groupStop_stores (c : Chip) (g : Nat) (result : Nat) : (Chip.groupStop c g result).stores =
    c.stores := by
  simp [Chip.groupStop]

@[simp] theorem Chip.groupStop_seat (c : Chip) (g : Nat) (result : Nat) : (Chip.groupStop c g result).seat =
    c.seat := by
  simp [Chip.groupStop]

@[simp] theorem Chip.armGroups_sound (c : Chip) (mask : Nat) (mfst : Bool) (h : c.sound = true) :
    (Chip.armGroups c mask mfst).sound = true := by
  simp (contextual := true) (maxDischargeDepth := 60) [Chip.armGroups, h]

@[simp] theorem Chip.armGroups_stores (c : Chip) (mask : Nat) (mfst : Bool) : (Chip.armGroups c mask mfst).stores =
    c.stores := by
  simp [Chip.armGroups]

@[simp] theorem Chip.armGroups_seat (c : Chip) (mask : Nat) (mfst : Bool) : (Chip.armGroups c mask mfst).seat =
    c.seat := by
  simp [Chip.armGroups]

@[simp] theorem Chip.cancelGroups_sound (c : Chip) (mask : Nat) (h : c.sound = true) : (Chip.cancelGroups c
    mask).sound = true := by
  simp (contextual := true) (maxDischargeDepth := 60) [Chip.cancelGroups, h]

@[simp] theorem Chip.cancelGroups_stores (c : Chip) (mask : Nat) : (Chip.cancelGroups c mask).stores = c.stores := by
  simp [Chip.cancelGroups]

@[simp] theorem Chip.cancelGroups_seat (c : Chip) (mask : Nat) : (Chip.cancelGroups c mask).seat = c.seat := by
  simp [Chip.cancelGroups]

@[simp] theorem Chip.flipWrite_sound (c : Chip) (v : Word) (mfst : Bool) (h : c.sound = true) : (Chip.flipWrite
    c v mfst).sound = true := by
  simp (contextual := true) (maxDischargeDepth := 60) [Chip.flipWrite, h]

@[simp] theorem Chip.flipWrite_stores (c : Chip) (v : Word) (mfst : Bool) : (Chip.flipWrite c v mfst).stores =
    c.stores := by
  simp [Chip.flipWrite]

@[simp] theorem Chip.flipWrite_seat (c : Chip) (v : Word) (mfst : Bool) : (Chip.flipWrite c v mfst).seat =
    c.seat := by
  simp [Chip.flipWrite]

@[simp] theorem Chip.fenceSet_sound (c : Chip) (n : Nat) (v : Nat) (h : c.sound = true) : (Chip.fenceSet c n
    v).sound = true := by
  simp (contextual := true) (maxDischargeDepth := 60) [Chip.fenceSet, h]

@[simp] theorem Chip.fenceSet_stores (c : Chip) (n : Nat) (v : Nat) : (Chip.fenceSet c n v).stores = c.stores := by
  simp [Chip.fenceSet]

@[simp] theorem Chip.fenceSet_seat (c : Chip) (n : Nat) (v : Nat) : (Chip.fenceSet c n v).seat = c.seat := by
  simp [Chip.fenceSet]

@[simp] theorem Chip.groupFlip_sound (c : Chip) (g : Nat) (h : c.sound = true) : (Chip.groupFlip c g).sound =
    true := by
  simp (contextual := true) (maxDischargeDepth := 60) [Chip.groupFlip, h]

@[simp] theorem Chip.groupFlip_stores (c : Chip) (g : Nat) : (Chip.groupFlip c g).stores = c.stores := by
  simp [Chip.groupFlip]

@[simp] theorem Chip.groupFlip_seat (c : Chip) (g : Nat) : (Chip.groupFlip c g).seat = c.seat := by
  simp [Chip.groupFlip]

@[simp] theorem Chip.groupDecide_sound (c : Chip) (g : Nat) (h : c.sound = true) : (Chip.groupDecide c g).sound
    = true := by
  simp (contextual := true) (maxDischargeDepth := 60) [Chip.groupDecide, h]

@[simp] theorem Chip.groupDecide_stores (c : Chip) (g : Nat) : (Chip.groupDecide c g).stores = c.stores := by
  simp [Chip.groupDecide]

@[simp] theorem Chip.groupDecide_seat (c : Chip) (g : Nat) : (Chip.groupDecide c g).seat = c.seat := by
  simp [Chip.groupDecide]

@[simp] theorem Chip.layerWrite_sound (c : Chip) (a : Nat) (v : Word) (mask : Word) (h : c.sound = true) :
    (Chip.layerWrite c a v mask).sound = true := by
  simp (contextual := true) (maxDischargeDepth := 60) [Chip.layerWrite, h]

@[simp] theorem Chip.layerWrite_stores (c : Chip) (a : Nat) (v : Word) (mask : Word) : (Chip.layerWrite c a v
    mask).stores = c.stores := by
  simp [Chip.layerWrite]

@[simp] theorem Chip.layerWrite_seat (c : Chip) (a : Nat) (v : Word) (mask : Word) : (Chip.layerWrite c a v
    mask).seat = c.seat := by
  simp [Chip.layerWrite]

@[simp] theorem Chip.latchRings_sound (c : Chip) (h : c.sound = true) : (Chip.latchRings c).sound = true := by
  simp (contextual := true) (maxDischargeDepth := 60) [Chip.latchRings, h]

@[simp] theorem Chip.latchRings_stores (c : Chip) : (Chip.latchRings c).stores = c.stores := by
  rfl

@[simp] theorem Chip.latchRings_seat (c : Chip) : (Chip.latchRings c).seat = c.seat := by
  rfl

@[simp] theorem Chip.wbFrame_sound (c : Chip) (h : c.sound = true) : (Chip.wbFrame c).sound = true := by
  simp (contextual := true) (maxDischargeDepth := 60) [Chip.wbFrame, h]

@[simp] theorem Chip.wbFrame_stores (c : Chip) : (Chip.wbFrame c).stores = c.stores := by
  simp [Chip.wbFrame]

@[simp] theorem Chip.wbFrame_seat (c : Chip) : (Chip.wbFrame c).seat = c.seat := by
  simp [Chip.wbFrame]

@[simp] theorem Chip.flatBoundary_sound (c : Chip) (flipped : List Nat) (h : c.sound = true) :
    (Chip.flatBoundary c flipped).sound = true := by
  simp (contextual := true) (maxDischargeDepth := 60) [Chip.flatBoundary, h]

@[simp] theorem Chip.flatBoundary_stores (c : Chip) (flipped : List Nat) : (Chip.flatBoundary c flipped).stores
    = c.stores := by
  simp [Chip.flatBoundary]

@[simp] theorem Chip.flatBoundary_seat (c : Chip) (flipped : List Nat) : (Chip.flatBoundary c flipped).seat =
    c.seat := by
  simp [Chip.flatBoundary]

@[simp] theorem Chip.flatBuilt_sound (c : Chip) (h : c.sound = true) : (Chip.flatBuilt c).sound = true := by
  simp (contextual := true) (maxDischargeDepth := 60) [Chip.flatBuilt, h]

@[simp] theorem Chip.flatBuilt_seat (c : Chip) : (Chip.flatBuilt c).seat = c.seat := by
  simp [Chip.flatBuilt]

@[simp] theorem Chip.safeDrive_sound (c : Chip) (data : Nat) (h : c.sound = true) : (Chip.safeDrive c data).sound =
    true := by
  simp (contextual := true) (maxDischargeDepth := 60) [Chip.safeDrive, h]

@[simp] theorem Chip.safeDrive_stores (c : Chip) (data : Nat) : (Chip.safeDrive c data).stores = c.stores := by
  simp [Chip.safeDrive]

@[simp] theorem Chip.safeDrive_seat (c : Chip) (data : Nat) : (Chip.safeDrive c data).seat = c.seat := by
  simp [Chip.safeDrive]

@[simp] theorem Chip.safeSig_sound (c : Chip) (bad : Bool) (data : Nat) (h : c.sound = true) : (Chip.safeSig c bad
    data).sound = true := by
  simp (contextual := true) (maxDischargeDepth := 60) [Chip.safeSig, h]

@[simp] theorem Chip.safeSig_stores (c : Chip) (bad : Bool) (data : Nat) : (Chip.safeSig c bad data).stores =
    c.stores := by
  simp [Chip.safeSig]

@[simp] theorem Chip.safeSig_seat (c : Chip) (bad : Bool) (data : Nat) : (Chip.safeSig c bad data).seat = c.seat :=
    by
  simp [Chip.safeSig]

@[simp] theorem Chip.safeCheck_sound (c : Chip) (r : Nat) (h : c.sound = true) : (Chip.safeCheck c r).sound =
    true := by
  simp (contextual := true) (maxDischargeDepth := 60) [Chip.safeCheck, h]

@[simp] theorem Chip.safeCheck_stores (c : Chip) (r : Nat) : (Chip.safeCheck c r).stores = c.stores := by
  simp [Chip.safeCheck]

@[simp] theorem Chip.safeCheck_seat (c : Chip) (r : Nat) : (Chip.safeCheck c r).seat = c.seat := by
  simp [Chip.safeCheck]

@[simp] theorem Chip.safeFrameEnd_sound (c : Chip) (h : c.sound = true) : (Chip.safeFrameEnd c).sound = true := by
  simp (contextual := true) (maxDischargeDepth := 60) [Chip.safeFrameEnd, h]

@[simp] theorem Chip.safeFrameEnd_stores (c : Chip) : (Chip.safeFrameEnd c).stores = c.stores := by
  simp [Chip.safeFrameEnd]

@[simp] theorem Chip.safeFrameEnd_seat (c : Chip) : (Chip.safeFrameEnd c).seat = c.seat := by
  simp [Chip.safeFrameEnd]

@[simp] theorem Chip.safeFrameStart_sound (c : Chip) (h : c.sound = true) : (Chip.safeFrameStart c).sound = true := by
  simp (contextual := true) (maxDischargeDepth := 60) [Chip.safeFrameStart, h]

@[simp] theorem Chip.safeFrameStart_stores (c : Chip) : (Chip.safeFrameStart c).stores = c.stores := by
  rfl

@[simp] theorem Chip.safeFrameStart_seat (c : Chip) : (Chip.safeFrameStart c).seat = c.seat := by
  rfl

@[simp] theorem Chip.movRow_sound (c : Chip) (m : MovArgs) (op : Nat) (y : Nat) (h : c.sound = true) :
    (Chip.movRow c m op y).1.sound = true := by
  simp only [Chip.movRow]; (repeat' split) <;> simp (contextual := true) (maxDischargeDepth := 60) [h]

@[simp] theorem Chip.movRow_seat (c : Chip) (m : MovArgs) (op : Nat) (y : Nat) : (Chip.movRow c m op y).1.seat =
    c.seat := by
  simp only [Chip.movRow]; (repeat' split) <;> simp

@[simp] theorem Chip.movRows_sound (m : MovArgs) (op : Nat) (rows : List Nat) (c : Chip) (h : c.sound = true) :
    (Chip.movRows m op rows c).1.sound = true := by
  induction rows generalizing c with
  | nil => simpa [Chip.movRows] using h
  | cons y t ih =>
    unfold Chip.movRows
    dsimp only
    split
    · simp [h]
    · exact ih _ (by simp [h])

@[simp] theorem Chip.movRows_seat (m : MovArgs) (op : Nat) (rows : List Nat) (c : Chip) : (Chip.movRows m op
    rows c).1.seat = c.seat := by
  induction rows generalizing c with
  | nil => rfl
  | cons y rest ih =>
    unfold Chip.movRows
    dsimp only
    split
    · simp
    · simp [ih]

@[simp] theorem Chip.fillRow_sound (c : Chip) (m : MovArgs) (y : Nat) (h : c.sound = true) : (Chip.fillRow c m
    y).sound = true := by
  simp (contextual := true) (maxDischargeDepth := 60) [Chip.fillRow, h]

@[simp] theorem Chip.fillRow_seat (c : Chip) (m : MovArgs) (y : Nat) : (Chip.fillRow c m y).seat = c.seat := by
  simp [Chip.fillRow]

@[simp] theorem Chip.movGo_sound (c : Chip) (op : Nat) (h : c.sound = true) : (Chip.movGo c op).sound = true := by
  simp (contextual := true) (maxDischargeDepth := 60) [Chip.movGo, h]

@[simp] theorem Chip.movGo_seat (c : Chip) (op : Nat) : (Chip.movGo c op).seat = c.seat := by
  simp [Chip.movGo]

end Sys2Proof.Machine
end

