-- ==== Sys2Proof/Laws/Scanout.lean ====
section
/-! SUPPORT. Every operation of Machine/Scanout.lean keeps the part sound; those that touch no store leave the stores as
they are, and those that enter no mode leave the mode and its cause. -/

namespace Sys2Proof.Machine

open Sys2Proof

@[simp] theorem Chip.so_held_wf (c : Chip) (i : Nat) (h : c.sound = true) :
    SMap.wf resetWord ((c.so i).snap.getD []) = true := by
  unfold Chip.so; split <;> simp [h]

@[simp] theorem Chip.onSo_sound (c : Chip) (i : Nat) (f : ScanOut → ScanOut) (h : c.sound = true)
    (hf : SMap.wf resetWord ((f (c.so i)).snap.getD []) = true) : (c.onSo i f).sound = true := by
  unfold Chip.so at hf; unfold Chip.onSo
  split <;> simp_all

@[simp] theorem Chip.onSo_stores (c : Chip) (i : Nat) (f : ScanOut → ScanOut) : (Chip.onSo c i f).stores =
    c.stores := by
  simp [Chip.onSo]

@[simp] theorem Chip.onSo_seat (c : Chip) (i : Nat) (f : ScanOut → ScanOut) : (Chip.onSo c i f).seat = c.seat := by
  simp [Chip.onSo]

@[simp] theorem Chip.directLine_sound (c : Chip) (i : Nat) (y : Nat) (h : c.sound = true) : (Chip.directLine c i
    y).2.sound = true := by
  simp (contextual := true) (maxDischargeDepth := 60) [Chip.directLine, h]

@[simp] theorem Chip.directLine_seat (c : Chip) (i : Nat) (y : Nat) : (Chip.directLine c i y).2.seat = c.seat := by
  simp [Chip.directLine]

@[simp] theorem Chip.pushLine_sound (c : Chip) (i : Nat) (px : List Px) (h : c.sound = true) : (Chip.pushLine c
    i px).sound = true := by
  simp (contextual := true) (maxDischargeDepth := 60) [Chip.pushLine, h]

@[simp] theorem Chip.pushLine_stores (c : Chip) (i : Nat) (px : List Px) : (Chip.pushLine c i px).stores =
    c.stores := by
  simp [Chip.pushLine]

@[simp] theorem Chip.pushLine_seat (c : Chip) (i : Nat) (px : List Px) : (Chip.pushLine c i px).seat = c.seat := by
  simp [Chip.pushLine]

@[simp] theorem Chip.composeFor_sound (c : Chip) (outs : List Nat) (y : Nat) (wbRoom : Bool) (h : c.sound =
    true) : (Chip.composeFor c outs y wbRoom).sound = true := by
  simp (contextual := true) (maxDischargeDepth := 60) [Chip.composeFor, h]

@[simp] theorem Chip.composeFor_seat (c : Chip) (outs : List Nat) (y : Nat) (wbRoom : Bool) : (Chip.composeFor c
    outs y wbRoom).seat = c.seat := by
  simp [Chip.composeFor]

@[simp] theorem Chip.lineStart_sound (c : Chip) (i : Nat) (wbRoom : Bool) (h : c.sound = true) : (Chip.lineStart
    c i wbRoom).sound = true := by
  unfold Chip.lineStart; split <;> simp (contextual := true) (maxDischargeDepth := 60) [h]

@[simp] theorem Chip.lineStart_seat (c : Chip) (i : Nat) (wbRoom : Bool) : (Chip.lineStart c i wbRoom).seat =
    c.seat := by
  unfold Chip.lineStart; split <;> simp

@[simp] theorem Chip.soTol_sound (c : Chip) (i : Nat) (t : Nat) (h : c.sound = true) : (Chip.soTol c i t).sound
    = true := by
  simp (contextual := true) (maxDischargeDepth := 60) [Chip.soTol, h]

@[simp] theorem Chip.soTol_stores (c : Chip) (i : Nat) (t : Nat) : (Chip.soTol c i t).stores = c.stores := by
  simp [Chip.soTol]

@[simp] theorem Chip.soTol_seat (c : Chip) (i : Nat) (t : Nat) : (Chip.soTol c i t).seat = c.seat := by
  simp [Chip.soTol]

@[simp] theorem Chip.frameStart_sound (c : Chip) (i : Nat) (h : c.sound = true) : (Chip.frameStart c i).sound =
    true := by
  simp (contextual := true) (maxDischargeDepth := 60) [Chip.frameStart, h]

@[simp] theorem Chip.frameStart_stores (c : Chip) (i : Nat) : (Chip.frameStart c i).stores = c.stores := by
  simp [Chip.frameStart]

@[simp] theorem Chip.frameStart_seat (c : Chip) (i : Nat) : (Chip.frameStart c i).seat = c.seat := by
  simp [Chip.frameStart]

@[simp] theorem Chip.outCrcDrive_sound (c : Chip) (h : c.sound = true) : (Chip.outCrcDrive c).sound = true := by
  simp (contextual := true) (maxDischargeDepth := 60) [Chip.outCrcDrive, h]

@[simp] theorem Chip.outCrcDrive_stores (c : Chip) : (Chip.outCrcDrive c).stores = c.stores := by
  simp [Chip.outCrcDrive]

@[simp] theorem Chip.outCrcDrive_seat (c : Chip) : (Chip.outCrcDrive c).seat = c.seat := by
  simp [Chip.outCrcDrive]

@[simp] theorem Chip.outCrc_sound (c : Chip) (i : Nat) (bad : Bool) (h : c.sound = true) : (Chip.outCrc c i
    bad).sound = true := by
  simp (contextual := true) (maxDischargeDepth := 60) [Chip.outCrc, h]

@[simp] theorem Chip.outCrc_stores (c : Chip) (i : Nat) (bad : Bool) : (Chip.outCrc c i bad).stores = c.stores := by
  simp [Chip.outCrc]

@[simp] theorem Chip.outCrc_seat (c : Chip) (i : Nat) (bad : Bool) : (Chip.outCrc c i bad).seat = c.seat := by
  simp [Chip.outCrc]

@[simp] theorem Chip.crcCheck_sound (c : Chip) (i : Nat) (r : Nat) (q : Nat × Nat × Nat × Nat) (h : c.sound =
    true) : (Chip.crcCheck c i r q).sound = true := by
  simp (contextual := true) (maxDischargeDepth := 60) [Chip.crcCheck, h]

@[simp] theorem Chip.crcCheck_stores (c : Chip) (i : Nat) (r : Nat) (q : Nat × Nat × Nat × Nat) : (Chip.crcCheck
    c i r q).stores = c.stores := by
  simp [Chip.crcCheck]

@[simp] theorem Chip.crcCheck_seat (c : Chip) (i : Nat) (r : Nat) (q : Nat × Nat × Nat × Nat) : (Chip.crcCheck c
    i r q).seat = c.seat := by
  simp [Chip.crcCheck]

@[simp] theorem Chip.crcFrameEnd_sound (c : Chip) (i : Nat) (h : c.sound = true) : (Chip.crcFrameEnd c i).sound
    = true := by
  simp (contextual := true) (maxDischargeDepth := 60) [Chip.crcFrameEnd, h]

@[simp] theorem Chip.crcFrameEnd_stores (c : Chip) (i : Nat) : (Chip.crcFrameEnd c i).stores = c.stores := by
  simp [Chip.crcFrameEnd]

@[simp] theorem Chip.crcFrameEnd_seat (c : Chip) (i : Nat) : (Chip.crcFrameEnd c i).seat = c.seat := by
  simp [Chip.crcFrameEnd]

@[simp] theorem Chip.substitute_sound (c : Chip) (i : Nat) (l : Nat) (x : Nat) (h : c.sound = true) :
    (Chip.substitute c i l x).sound = true := by
  simp (contextual := true) (maxDischargeDepth := 60) [Chip.substitute, h]

@[simp] theorem Chip.substitute_stores (c : Chip) (i : Nat) (l : Nat) (x : Nat) : (Chip.substitute c i l
    x).stores = c.stores := by
  simp [Chip.substitute]

@[simp] theorem Chip.substitute_seat (c : Chip) (i : Nat) (l : Nat) (x : Nat) : (Chip.substitute c i l x).seat =
    c.seat := by
  simp [Chip.substitute]

@[simp] theorem Chip.moorCut_sound (c : Chip) (h : c.sound = true) : (Chip.moorCut c).sound = true := by
  simp (contextual := true) (maxDischargeDepth := 60) [Chip.moorCut, h]

@[simp] theorem Chip.moorCut_stores (c : Chip) : (Chip.moorCut c).stores = c.stores := by
  simp [Chip.moorCut]

@[simp] theorem Chip.moorCut_seat (c : Chip) : (Chip.moorCut c).seat = c.seat := by
  simp [Chip.moorCut]

@[simp] theorem Chip.soHalt_sound (c : Chip) (i : Nat) (err : Nat) (h : c.sound = true) : (Chip.soHalt c i
    err).sound = true := by
  unfold Chip.soHalt
  split
  · split <;> simp [h]
  · extract_lets c1 c2 c3 c4
    have h2 : c2.sound = true := by
      simp only [c2, c1]; split <;> simp (maxDischargeDepth := 60) [h]
    have h3 : c3.sound = true := Chip.soTol_sound _ _ _ (Chip.onSo_sound _ _ _ h2 (by simp))
    have h4 : c4.sound = true := by simp [c4, h3]
    split
    · exact Chip.flipNow_sound _ (Chip.lockFree_sound _ (Chip.onCmp_sound _ _ h4 (c4.safe_wf h4)))
    · exact h4

@[simp] theorem Chip.soHalt_seat (c : Chip) (i : Nat) (err : Nat) : (Chip.soHalt c i err).seat = c.seat := by
  simp [Chip.soHalt]

@[simp] theorem Chip.soStop_sound (c : Chip) (i : Nat) (err : Nat) (edge : Bool) (h : c.sound = true) : (Chip.soStop
    c i err edge).sound = true := by
  simp (contextual := true) (maxDischargeDepth := 60) [Chip.soStop, h]

@[simp] theorem Chip.soStop_seat (c : Chip) (i : Nat) (err : Nat) (edge : Bool) : (Chip.soStop c i err
    edge).seat = c.seat := by
  simp [Chip.soStop]

@[simp] theorem Chip.composeOn_sound (c : Chip) (h : c.sound = true) : (Chip.composeOn c).sound = true := by
  simp (contextual := true) (maxDischargeDepth := 60) [Chip.composeOn, h]

@[simp] theorem Chip.composeOn_stores (c : Chip) : (Chip.composeOn c).stores = c.stores := by
  rfl

@[simp] theorem Chip.composeOn_seat (c : Chip) : (Chip.composeOn c).seat = c.seat := by
  rfl

@[simp] theorem Chip.soStart_sound (c : Chip) (i : Nat) (h : c.sound = true) : (Chip.soStart c i).sound = true := by
  simp (contextual := true) (maxDischargeDepth := 60) [Chip.soStart, h]

@[simp] theorem Chip.soStart_stores (c : Chip) (i : Nat) : (Chip.soStart c i).stores = c.stores := by
  simp [Chip.soStart]

@[simp] theorem Chip.soStart_seat (c : Chip) (i : Nat) : (Chip.soStart c i).seat = c.seat := by
  simp [Chip.soStart]

@[simp] theorem Chip.soResume_sound (c : Chip) (i : Nat) (h : c.sound = true) : (Chip.soResume c i).sound = true := by
  simp (contextual := true) (maxDischargeDepth := 60) [Chip.soResume, h]

@[simp] theorem Chip.soResume_stores (c : Chip) (i : Nat) : (Chip.soResume c i).stores = c.stores := by
  simp [Chip.soResume]

@[simp] theorem Chip.soResume_seat (c : Chip) (i : Nat) : (Chip.soResume c i).seat = c.seat := by
  simp [Chip.soResume]

@[simp] theorem Chip.takeFrom_sound (c : Chip) (src : List (Nat × Word)) (r : Nat × Nat) (h : c.sound = true)
    (hs : SMap.wf resetWord src = true) : (c.takeFrom src r).sound = true := by
  simp [Chip.takeFrom, h, hs]

@[simp] theorem Chip.takeFrom_stores (c : Chip) (src : List (Nat × Word)) (r : Nat × Nat) : (Chip.takeFrom c src
    r).stores = c.stores := by
  rfl

@[simp] theorem Chip.takeFrom_seat (c : Chip) (src : List (Nat × Word)) (r : Nat × Nat) : (Chip.takeFrom c src
    r).seat = c.seat := by
  rfl

@[simp] theorem Chip.so_snap_wf (c : Chip) (i : Nat) (h : c.sound = true) :
    SMap.wf resetWord ((c.so i).snap.getD c.regs) = true := by
  have := c.so_held_wf i h
  cases hs : (c.so i).snap <;> simp_all

@[simp] theorem Chip.soTake_sound (c : Chip) (i : Nat) (h : c.sound = true) : (Chip.soTake c i).sound = true := by
  have hs := c.so_snap_wf i h
  unfold Chip.soTake
  extract_lets src c1 c2
  have h1 : c1.sound = true := Chip.takeFrom_sound _ _ _ h hs
  have h2 : c2.sound = true := by
    simp only [c2]
    split
    · exact Chip.foldl_sound _ _ _ h1 fun c x hc => Chip.takeFrom_sound _ _ _ hc hs
    · exact h1
  exact Chip.onSo_sound _ _ _ (Chip.wr_sound _ _ _ h2) (by simp)

@[simp] theorem Chip.soTake_stores (c : Chip) (i : Nat) : (Chip.soTake c i).stores = c.stores := by
  simp [Chip.soTake]

@[simp] theorem Chip.soTake_seat (c : Chip) (i : Nat) : (Chip.soTake c i).seat = c.seat := by
  simp [Chip.soTake]

@[simp] theorem Chip.routeCheck_sound (c : Chip) (h : c.sound = true) : (Chip.routeCheck c).sound = true := by
  simp (contextual := true) (maxDischargeDepth := 60) [Chip.routeCheck, h]

@[simp] theorem Chip.routeCheck_seat (c : Chip) : (Chip.routeCheck c).seat = c.seat := by
  simp [Chip.routeCheck]

@[simp] theorem Chip.soCommit_sound (c : Chip) (i : Nat) (h : c.sound = true) : (Chip.soCommit c i).sound = true :=
    by
  simp (contextual := true) (maxDischargeDepth := 60) [Chip.soCommit, h]

@[simp] theorem Chip.soCommit_seat (c : Chip) (i : Nat) : (Chip.soCommit c i).seat = c.seat := by
  simp [Chip.soCommit]

@[simp] theorem Chip.soGo_sound (c : Chip) (i : Nat) (mfst : Bool) (h : c.sound = true) : (Chip.soGo c i mfst).sound
    = true := by
  simp (contextual := true) (maxDischargeDepth := 60) [Chip.soGo, h]

@[simp] theorem Chip.soGo_seat (c : Chip) (i : Nat) (mfst : Bool) : (Chip.soGo c i mfst).seat = c.seat := by
  simp [Chip.soGo]

@[simp] theorem Chip.soDue_sound (c : Chip) (i : Nat) (h : c.sound = true) : (Chip.soDue c i).sound = true := by
  simp (contextual := true) (maxDischargeDepth := 60) [Chip.soDue, h]

@[simp] theorem Chip.soDue_seat (c : Chip) (i : Nat) : (Chip.soDue c i).seat = c.seat := by
  simp [Chip.soDue]

@[simp] theorem Chip.closeFor_sound (c : Chip) (i : Nat) (h : c.sound = true) : (Chip.closeFor c i).sound = true := by
  simp only [Chip.closeFor]; (repeat' split) <;> simp (contextual := true) (maxDischargeDepth := 60) [h]

@[simp] theorem Chip.closeFor_stores (c : Chip) (i : Nat) : (Chip.closeFor c i).stores = c.stores := by
  simp [Chip.closeFor]

@[simp] theorem Chip.closeFor_seat (c : Chip) (i : Nat) : (Chip.closeFor c i).seat = c.seat := by
  simp [Chip.closeFor]

@[simp] theorem Chip.windowClose_sound (c : Chip) (i : Nat) (h : c.sound = true) : (Chip.windowClose c i).sound
    = true := by
  simp (contextual := true) (maxDischargeDepth := 60) [Chip.windowClose, h]

@[simp] theorem Chip.windowClose_stores (c : Chip) (i : Nat) : (Chip.windowClose c i).stores = c.stores := by
  simp [Chip.windowClose]

@[simp] theorem Chip.windowClose_seat (c : Chip) (i : Nat) : (Chip.windowClose c i).seat = c.seat := by
  simp [Chip.windowClose]

@[simp] theorem Chip.snapWrite_sound (c : Chip) (a : Nat) (h : c.sound = true) : (Chip.snapWrite c a).sound =
    true := by
  have hA := c.heldA_wf h
  have hB := c.heldB_wf h
  simp only [Chip.snapWrite, Chip.sound_mk]
  refine ⟨c.stores_wf h, c.regs_wf h, c.eff_wf h, ?_, ?_⟩
  · cases hs : c.soA.snap <;> simp_all
  · cases hs : c.soB.snap <;> simp_all

@[simp] theorem Chip.snapWrite_stores (c : Chip) (a : Nat) : (Chip.snapWrite c a).stores = c.stores := by
  rfl

@[simp] theorem Chip.snapWrite_seat (c : Chip) (a : Nat) : (Chip.snapWrite c a).seat = c.seat := by
  rfl

@[simp] theorem Chip.splitLock_sound (c : Chip) (h : c.sound = true) : (Chip.splitLock c).sound = true := by
  simp (contextual := true) (maxDischargeDepth := 60) [Chip.splitLock, h]

@[simp] theorem Chip.splitLock_seat (c : Chip) : (Chip.splitLock c).seat = c.seat := by
  simp [Chip.splitLock]

@[simp] theorem Chip.lockLost_sound (c : Chip) (h : c.sound = true) : (Chip.lockLost c).sound = true := by
  simp (contextual := true) (maxDischargeDepth := 60) [Chip.lockLost, h]

@[simp] theorem Chip.lockLost_seat (c : Chip) : (Chip.lockLost c).seat = c.seat := by
  simp [Chip.lockLost]

@[simp] theorem Chip.soTick_sound (c : Chip) (i : Nat) (h : c.sound = true) : (Chip.soTick c i).sound = true := by
  simp (contextual := true) (maxDischargeDepth := 60) [Chip.soTick, h]

@[simp] theorem Chip.soTick_stores (c : Chip) (i : Nat) : (Chip.soTick c i).stores = c.stores := by
  simp [Chip.soTick]

@[simp] theorem Chip.soTick_seat (c : Chip) (i : Nat) : (Chip.soTick c i).seat = c.seat := by
  simp [Chip.soTick]

@[simp] theorem Chip.soSnap_sound (c : Chip) (i : Nat) (h : c.sound = true) : (Chip.soSnap c i).sound = true := by
  simp (contextual := true) (maxDischargeDepth := 60) [Chip.soSnap, h]

@[simp] theorem Chip.soSnap_stores (c : Chip) (i : Nat) : (Chip.soSnap c i).stores = c.stores := by
  simp [Chip.soSnap]

@[simp] theorem Chip.soSnap_seat (c : Chip) (i : Nat) : (Chip.soSnap c i).seat = c.seat := by
  simp [Chip.soSnap]

@[simp] theorem Chip.urgency_sound (c : Chip) (i : Nat) (tol : Nat) (h : c.sound = true) : (Chip.urgency c i
    tol).sound = true := by
  simp (contextual := true) (maxDischargeDepth := 60) [Chip.urgency, h]

@[simp] theorem Chip.urgency_stores (c : Chip) (i : Nat) (tol : Nat) : (Chip.urgency c i tol).stores = c.stores := by
  simp [Chip.urgency]

@[simp] theorem Chip.urgency_seat (c : Chip) (i : Nat) (tol : Nat) : (Chip.urgency c i tol).seat = c.seat := by
  simp [Chip.urgency]

@[simp] theorem Chip.soCapture_sound (c : Chip) (i : Nat) (h : c.sound = true) : (Chip.soCapture c i).sound =
    true := by
  simp (contextual := true) (maxDischargeDepth := 60) [Chip.soCapture, h]

@[simp] theorem Chip.soCapture_stores (c : Chip) (i : Nat) : (Chip.soCapture c i).stores = c.stores := by
  simp [Chip.soCapture]

@[simp] theorem Chip.soCapture_seat (c : Chip) (i : Nat) : (Chip.soCapture c i).seat = c.seat := by
  simp [Chip.soCapture]

@[simp] theorem Chip.soCaptured_sound (c : Chip) (i : Nat) (h : c.sound = true) : (Chip.soCaptured c i).1.sound
    = true := by
  simp (contextual := true) (maxDischargeDepth := 60) [Chip.soCaptured, h]

@[simp] theorem Chip.soCaptured_stores (c : Chip) (i : Nat) : (Chip.soCaptured c i).1.stores = c.stores := by
  simp [Chip.soCaptured]

@[simp] theorem Chip.soCaptured_seat (c : Chip) (i : Nat) : (Chip.soCaptured c i).1.seat = c.seat := by
  simp [Chip.soCaptured]

end Sys2Proof.Machine
end

