-- ==== Sys2Proof/Laws/Bitplane.lean ====
section
/-! SUPPORT. Every operation of Machine/Bitplane.lean keeps the part sound; those that touch no store leave the stores as
they are, and those that enter no mode leave the mode and its cause. -/

namespace Sys2Proof.Machine

open Sys2Proof

@[simp] theorem Chip.onBps_sound (c : Chip) (f : BitPlane → BitPlane) (h : c.sound = true) : (Chip.onBps c
    f).sound = true := by
  simp (contextual := true) (maxDischargeDepth := 60) [Chip.onBps, h]

@[simp] theorem Chip.onBps_stores (c : Chip) (f : BitPlane → BitPlane) : (Chip.onBps c f).stores = c.stores := by
  rfl

@[simp] theorem Chip.onBps_seat (c : Chip) (f : BitPlane → BitPlane) : (Chip.onBps c f).seat = c.seat := by
  rfl

@[simp] theorem Chip.bpsDark_sound (c : Chip) (h : c.sound = true) : (Chip.bpsDark c).sound = true := by
  simp (contextual := true) (maxDischargeDepth := 60) [Chip.bpsDark, h]

@[simp] theorem Chip.bpsDark_stores (c : Chip) : (Chip.bpsDark c).stores = c.stores := by
  rfl

@[simp] theorem Chip.bpsDark_seat (c : Chip) : (Chip.bpsDark c).seat = c.seat := by
  rfl

@[simp] theorem Chip.bpsRefresh_sound (c : Chip) (h : c.sound = true) : (Chip.bpsRefresh c).sound = true := by
  simp (contextual := true) (maxDischargeDepth := 60) [Chip.bpsRefresh, h]

@[simp] theorem Chip.bpsRefresh_stores (c : Chip) : (Chip.bpsRefresh c).stores = c.stores := by
  simp [Chip.bpsRefresh]

@[simp] theorem Chip.bpsRefresh_seat (c : Chip) : (Chip.bpsRefresh c).seat = c.seat := by
  simp [Chip.bpsRefresh]

@[simp] theorem Chip.writePlane_sound (c : Chip) (u : Nat) (n : Nat) (k : Nat) (rows : List (List Nat)) (h :
    c.sound = true) : (Chip.writePlane c u n k rows).sound = true := by
  simp (contextual := true) (maxDischargeDepth := 60) [Chip.writePlane, h]

@[simp] theorem Chip.writePlane_seat (c : Chip) (u : Nat) (n : Nat) (k : Nat) (rows : List (List Nat)) :
    (Chip.writePlane c u n k rows).seat = c.seat := by
  simp [Chip.writePlane]

@[simp] theorem Chip.formatFrame_sound (c : Chip) (h : c.sound = true) : (Chip.formatFrame c).sound = true := by
  simp (contextual := true) (maxDischargeDepth := 60) [Chip.formatFrame, h]

@[simp] theorem Chip.formatFrame_seat (c : Chip) : (Chip.formatFrame c).seat = c.seat := by
  simp [Chip.formatFrame]

@[simp] theorem Chip.setAlloc_sound (c : Chip) (d : Display) (h : c.sound = true) : (Chip.setAlloc c d).sound = true
    := by
  simp (contextual := true) (maxDischargeDepth := 60) [Chip.setAlloc, h]

@[simp] theorem Chip.setAlloc_stores (c : Chip) (d : Display) : (Chip.setAlloc c d).stores = c.stores := by
  rfl

@[simp] theorem Chip.setAlloc_seat (c : Chip) (d : Display) : (Chip.setAlloc c d).seat = c.seat := by
  rfl

@[simp] theorem Chip.bpsAllocate_sound (c : Chip) (ticks : Nat) (h : c.sound = true) : (Chip.bpsAllocate c
    ticks).sound = true := by
  simp only [Chip.bpsAllocate]; (repeat' split) <;> simp (contextual := true) (maxDischargeDepth := 60) [h]

@[simp] theorem Chip.bpsAllocate_stores (c : Chip) (ticks : Nat) : (Chip.bpsAllocate c ticks).stores = c.stores := by
  simp only [Chip.bpsAllocate]; (repeat' split) <;> simp

@[simp] theorem Chip.bpsAllocate_seat (c : Chip) (ticks : Nat) : (Chip.bpsAllocate c ticks).seat = c.seat := by
  simp only [Chip.bpsAllocate]; (repeat' split) <;> simp

@[simp] theorem Chip.channelsOff_sound (c : Chip) (h : c.sound = true) : (Chip.channelsOff c).sound = true := by
  simp (contextual := true) (maxDischargeDepth := 60) [Chip.channelsOff, h]

@[simp] theorem Chip.channelsOff_stores (c : Chip) : (Chip.channelsOff c).stores = c.stores := by
  rfl

@[simp] theorem Chip.channelsOff_seat (c : Chip) : (Chip.channelsOff c).seat = c.seat := by
  rfl

@[simp] theorem Chip.displayStart_sound (c : Chip) (h : c.sound = true) : (Chip.displayStart c).sound = true := by
  simp only [Chip.displayStart]; (repeat' split) <;> simp (contextual := true) (maxDischargeDepth := 60) [h]

@[simp] theorem Chip.displayStart_stores (c : Chip) : (Chip.displayStart c).stores = c.stores := by
  simp only [Chip.displayStart]; (repeat' split) <;> simp

@[simp] theorem Chip.displayStart_seat (c : Chip) : (Chip.displayStart c).seat = c.seat := by
  simp only [Chip.displayStart]; (repeat' split) <;> simp

@[simp] theorem Chip.planeStart_sound (c : Chip) (h : c.sound = true) : (Chip.planeStart c).sound = true := by
  simp only [Chip.planeStart]; (repeat' split) <;> simp (contextual := true) (maxDischargeDepth := 60) [h]

@[simp] theorem Chip.planeStart_stores (c : Chip) : (Chip.planeStart c).stores = c.stores := by
  simp only [Chip.planeStart]; (repeat' split) <;> simp

@[simp] theorem Chip.planeStart_seat (c : Chip) : (Chip.planeStart c).seat = c.seat := by
  simp only [Chip.planeStart]; (repeat' split) <;> simp

@[simp] theorem Chip.strobe_sound (c : Chip) (block : Nat) (i : Nat) (p : Plane) (h : c.sound = true) :
    (Chip.strobe c block i p).sound = true := by
  simp (contextual := true) (maxDischargeDepth := 60) [Chip.strobe, h]

@[simp] theorem Chip.strobe_stores (c : Chip) (block : Nat) (i : Nat) (p : Plane) : (Chip.strobe c block i
    p).stores = c.stores := by
  simp [Chip.strobe]

@[simp] theorem Chip.strobe_seat (c : Chip) (block : Nat) (i : Nat) (p : Plane) : (Chip.strobe c block i p).seat
    = c.seat := by
  simp [Chip.strobe]

@[simp] theorem Chip.loadBlock_sound (c : Chip) (k : Nat × Nat) (p : Plane) (u : Nat) (b : Nat) (h : c.sound =
    true) : (Chip.loadBlock c k p u b).sound = true := by
  simp (contextual := true) (maxDischargeDepth := 60) [Chip.loadBlock, h]

@[simp] theorem Chip.loadBlock_stores (c : Chip) (k : Nat × Nat) (p : Plane) (u : Nat) (b : Nat) : (Chip.loadBlock c
    k p u b).stores = c.stores := by
  simp [Chip.loadBlock]

@[simp] theorem Chip.loadBlock_seat (c : Chip) (k : Nat × Nat) (p : Plane) (u : Nat) (b : Nat) : (Chip.loadBlock
    c k p u b).seat = c.seat := by
  simp [Chip.loadBlock]

@[simp] theorem Chip.stuckInsert_sound (c : Chip) (m : Stuck) (h : c.sound = true) : (Chip.stuckInsert c
    m).1.sound = true := by
  unfold Chip.stuckInsert; split <;> simp (contextual := true) (maxDischargeDepth := 60) [h]

@[simp] theorem Chip.stuckInsert_stores (c : Chip) (m : Stuck) : (Chip.stuckInsert c m).1.stores = c.stores := by
  unfold Chip.stuckInsert; split <;> simp

@[simp] theorem Chip.stuckInsert_seat (c : Chip) (m : Stuck) : (Chip.stuckInsert c m).1.seat = c.seat := by
  unfold Chip.stuckInsert; split <;> simp

@[simp] theorem Chip.mapAdd_sound (c : Chip) (v : Word) (h : c.sound = true) : (Chip.mapAdd c v).sound = true := by
  simp (contextual := true) (maxDischargeDepth := 60) [Chip.mapAdd, h]

@[simp] theorem Chip.mapAdd_stores (c : Chip) (v : Word) : (Chip.mapAdd c v).stores = c.stores := by
  simp [Chip.mapAdd]

@[simp] theorem Chip.mapAdd_seat (c : Chip) (v : Word) : (Chip.mapAdd c v).seat = c.seat := by
  simp [Chip.mapAdd]

@[simp] theorem Chip.mapClear_sound (c : Chip) (h : c.sound = true) : (Chip.mapClear c).sound = true := by
  simp (contextual := true) (maxDischargeDepth := 60) [Chip.mapClear, h]

@[simp] theorem Chip.mapClear_stores (c : Chip) : (Chip.mapClear c).stores = c.stores := by
  rfl

@[simp] theorem Chip.mapClear_seat (c : Chip) : (Chip.mapClear c).seat = c.seat := by
  rfl

@[simp] theorem Chip.bpsCaptured_sound (c : Chip) (h : c.sound = true) : (Chip.bpsCaptured c).1.sound = true := by
  simp (contextual := true) (maxDischargeDepth := 60) [Chip.bpsCaptured, h]

@[simp] theorem Chip.bpsCaptured_stores (c : Chip) : (Chip.bpsCaptured c).1.stores = c.stores := by
  rfl

@[simp] theorem Chip.bpsCaptured_seat (c : Chip) : (Chip.bpsCaptured c).1.seat = c.seat := by
  rfl

end Sys2Proof.Machine
end

