-- ==== Sys2Proof/Laws/Beam.lean ====
section
/-! SUPPORT. Every operation of Machine/Beam.lean keeps the part sound; those that touch no store leave the stores as
they are, and those that enter no mode leave the mode and its cause. -/

namespace Sys2Proof.Machine

open Sys2Proof

@[simp] theorem Chip.onBsc_sound (c : Chip) (f : Beam → Beam) (h : c.sound = true) : (Chip.onBsc c f).sound =
    true := by
  simp (contextual := true) (maxDischargeDepth := 60) [Chip.onBsc, h]

@[simp] theorem Chip.onBsc_stores (c : Chip) (f : Beam → Beam) : (Chip.onBsc c f).stores = c.stores := by
  rfl

@[simp] theorem Chip.onBsc_seat (c : Chip) (f : Beam → Beam) : (Chip.onBsc c f).seat = c.seat := by
  rfl

@[simp] theorem Chip.bscTicks_sound (c : Chip) (n : Nat) (h : c.sound = true) : (Chip.bscTicks c n).sound = true := by
  simp (contextual := true) (maxDischargeDepth := 60) [Chip.bscTicks, h]

@[simp] theorem Chip.bscTicks_stores (c : Chip) (n : Nat) : (Chip.bscTicks c n).stores = c.stores := by
  rfl

@[simp] theorem Chip.bscTicks_seat (c : Chip) (n : Nat) : (Chip.bscTicks c n).seat = c.seat := by
  rfl

@[simp] theorem Chip.bscIdle_sound (c : Chip) (h : c.sound = true) : (Chip.bscIdle c).sound = true := by
  simp (contextual := true) (maxDischargeDepth := 60) [Chip.bscIdle, h]

@[simp] theorem Chip.bscIdle_stores (c : Chip) : (Chip.bscIdle c).stores = c.stores := by
  simp [Chip.bscIdle]

@[simp] theorem Chip.bscIdle_seat (c : Chip) : (Chip.bscIdle c).seat = c.seat := by
  simp [Chip.bscIdle]

@[simp] theorem Chip.bscForget_sound (c : Chip) (h : c.sound = true) : (Chip.bscForget c).sound = true := by
  simp (contextual := true) (maxDischargeDepth := 60) [Chip.bscForget, h]

@[simp] theorem Chip.bscForget_stores (c : Chip) : (Chip.bscForget c).stores = c.stores := by
  rfl

@[simp] theorem Chip.bscForget_seat (c : Chip) : (Chip.bscForget c).seat = c.seat := by
  rfl

@[simp] theorem Chip.bscMeasure_sound (c : Chip) (h : c.sound = true) : (Chip.bscMeasure c).sound = true := by
  simp (contextual := true) (maxDischargeDepth := 60) [Chip.bscMeasure, h]

@[simp] theorem Chip.bscMeasure_stores (c : Chip) : (Chip.bscMeasure c).stores = c.stores := by
  rfl

@[simp] theorem Chip.bscMeasure_seat (c : Chip) : (Chip.bscMeasure c).seat = c.seat := by
  rfl

@[simp] theorem Chip.bscRefresh_sound (c : Chip) (h : c.sound = true) : (Chip.bscRefresh c).sound = true := by
  simp (contextual := true) (maxDischargeDepth := 60) [Chip.bscRefresh, h]

@[simp] theorem Chip.bscRefresh_stores (c : Chip) : (Chip.bscRefresh c).stores = c.stores := by
  simp [Chip.bscRefresh]

@[simp] theorem Chip.bscRefresh_seat (c : Chip) : (Chip.bscRefresh c).seat = c.seat := by
  simp [Chip.bscRefresh]

@[simp] theorem Chip.bscEnableCheck_sound (c : Chip) (was : Bool) (h : c.sound = true) : (Chip.bscEnableCheck c
    was).sound = true := by
  simp (contextual := true) (maxDischargeDepth := 60) [Chip.bscEnableCheck, h]

@[simp] theorem Chip.bscEnableCheck_stores (c : Chip) (was : Bool) : (Chip.bscEnableCheck c was).stores =
    c.stores := by
  simp [Chip.bscEnableCheck]

@[simp] theorem Chip.bscEnableCheck_seat (c : Chip) (was : Bool) : (Chip.bscEnableCheck c was).seat = c.seat := by
  simp [Chip.bscEnableCheck]

@[simp] theorem Chip.commitGo_sound (c : Chip) (i : Nat) (mfst : Bool) (h : c.sound = true) : (Chip.commitGo c i
    mfst).sound = true := by
  simp (contextual := true) (maxDischargeDepth := 60) [Chip.commitGo, h]

@[simp] theorem Chip.commitGo_seat (c : Chip) (i : Nat) (mfst : Bool) : (Chip.commitGo c i mfst).seat = c.seat := by
  simp [Chip.commitGo]

@[simp] theorem Chip.bscLoop_sound (c : Chip) (e : Int) (h : c.sound = true) : (Chip.bscLoop c e).sound = true := by
  simp (contextual := true) (maxDischargeDepth := 60) [Chip.bscLoop, h]

@[simp] theorem Chip.bscLoop_stores (c : Chip) (e : Int) : (Chip.bscLoop c e).stores = c.stores := by
  simp [Chip.bscLoop]

@[simp] theorem Chip.bscLoop_seat (c : Chip) (e : Int) : (Chip.bscLoop c e).seat = c.seat := by
  simp [Chip.bscLoop]

@[simp] theorem Chip.bscLoss_sound (c : Chip) (h : c.sound = true) : (Chip.bscLoss c).sound = true := by
  simp (contextual := true) (maxDischargeDepth := 60) [Chip.bscLoss, h]

@[simp] theorem Chip.bscLoss_stores (c : Chip) : (Chip.bscLoss c).stores = c.stores := by
  simp [Chip.bscLoss]

@[simp] theorem Chip.bscLoss_seat (c : Chip) : (Chip.bscLoss c).seat = c.seat := by
  simp [Chip.bscLoss]

@[simp] theorem Chip.scanDrive_sound (c : Chip) (h : c.sound = true) : (Chip.scanDrive c).sound = true := by
  simp (contextual := true) (maxDischargeDepth := 60) [Chip.scanDrive, h]

@[simp] theorem Chip.scanDrive_stores (c : Chip) : (Chip.scanDrive c).stores = c.stores := by
  simp [Chip.scanDrive]

@[simp] theorem Chip.scanDrive_seat (c : Chip) : (Chip.scanDrive c).seat = c.seat := by
  simp [Chip.scanDrive]

@[simp] theorem Chip.bscMeasureEdge_sound (c : Chip) (interval : Nat) (h : c.sound = true) :
    (Chip.bscMeasureEdge c interval).sound = true := by
  simp (contextual := true) (maxDischargeDepth := 60) [Chip.bscMeasureEdge, h]

@[simp] theorem Chip.bscMeasureEdge_stores (c : Chip) (interval : Nat) : (Chip.bscMeasureEdge c interval).stores
    = c.stores := by
  simp [Chip.bscMeasureEdge]

@[simp] theorem Chip.bscMeasureEdge_seat (c : Chip) (interval : Nat) : (Chip.bscMeasureEdge c interval).seat =
    c.seat := by
  simp [Chip.bscMeasureEdge]

@[simp] theorem Chip.bscTrackEdge_sound (c : Chip) (interval : Nat) (e : Int) (h : c.sound = true) :
    (Chip.bscTrackEdge c interval e).sound = true := by
  simp (contextual := true) (maxDischargeDepth := 60) [Chip.bscTrackEdge, h]

@[simp] theorem Chip.bscTrackEdge_stores (c : Chip) (interval : Nat) (e : Int) : (Chip.bscTrackEdge c interval
    e).stores = c.stores := by
  simp [Chip.bscTrackEdge]

@[simp] theorem Chip.bscTrackEdge_seat (c : Chip) (interval : Nat) (e : Int) : (Chip.bscTrackEdge c interval
    e).seat = c.seat := by
  simp [Chip.bscTrackEdge]

@[simp] theorem Chip.mfbEdge_sound (c : Chip) (ticks : Nat) (h : c.sound = true) : (Chip.mfbEdge c ticks).sound
    = true := by
  simp only [Chip.mfbEdge]; (repeat' split) <;> simp (contextual := true) (maxDischargeDepth := 60) [h]

@[simp] theorem Chip.mfbEdge_stores (c : Chip) (ticks : Nat) : (Chip.mfbEdge c ticks).stores = c.stores := by
  simp only [Chip.mfbEdge]; (repeat' split) <;> simp

@[simp] theorem Chip.mfbEdge_seat (c : Chip) (ticks : Nat) : (Chip.mfbEdge c ticks).seat = c.seat := by
  simp only [Chip.mfbEdge]; (repeat' split) <;> simp

@[simp] theorem Chip.mfbMissing_sound (c : Chip) (ticks : Nat) (h : c.sound = true) : (Chip.mfbMissing c
    ticks).sound = true := by
  simp only [Chip.mfbMissing]; (repeat' split) <;> simp (contextual := true) (maxDischargeDepth := 60) [h]

@[simp] theorem Chip.mfbMissing_stores (c : Chip) (ticks : Nat) : (Chip.mfbMissing c ticks).stores = c.stores := by
  simp only [Chip.mfbMissing]; (repeat' split) <;> simp

@[simp] theorem Chip.mfbMissing_seat (c : Chip) (ticks : Nat) : (Chip.mfbMissing c ticks).seat = c.seat := by
  simp only [Chip.mfbMissing]; (repeat' split) <;> simp

@[simp] theorem Chip.sweepNext_sound (c : Chip) (h : c.sound = true) : (Chip.sweepNext c).sound = true := by
  simp only [Chip.sweepNext]; (repeat' split) <;> simp (contextual := true) (maxDischargeDepth := 60) [h]

@[simp] theorem Chip.sweepNext_stores (c : Chip) : (Chip.sweepNext c).stores = c.stores := by
  simp only [Chip.sweepNext]; (repeat' split) <;> simp

@[simp] theorem Chip.sweepNext_seat (c : Chip) : (Chip.sweepNext c).seat = c.seat := by
  simp only [Chip.sweepNext]; (repeat' split) <;> simp

@[simp] theorem Chip.sweepStart_sound (c : Chip) (ticks : Nat) (h : c.sound = true) : (Chip.sweepStart c
    ticks).sound = true := by
  simp (contextual := true) (maxDischargeDepth := 60) [Chip.sweepStart, h]

@[simp] theorem Chip.sweepStart_stores (c : Chip) (ticks : Nat) : (Chip.sweepStart c ticks).stores = c.stores := by
  simp [Chip.sweepStart]

@[simp] theorem Chip.sweepStart_seat (c : Chip) (ticks : Nat) : (Chip.sweepStart c ticks).seat = c.seat := by
  simp [Chip.sweepStart]

@[simp] theorem Chip.bscDisplay_sound (c : Chip) (h : c.sound = true) : (Chip.bscDisplay c).sound = true := by
  unfold Chip.bscDisplay; (repeat' split) <;> simp (contextual := true) (maxDischargeDepth := 60) [h]

@[simp] theorem Chip.bscDisplay_stores (c : Chip) : (Chip.bscDisplay c).stores = c.stores := by
  unfold Chip.bscDisplay; (repeat' split) <;> simp

@[simp] theorem Chip.bscDisplay_seat (c : Chip) : (Chip.bscDisplay c).seat = c.seat := by
  unfold Chip.bscDisplay; (repeat' split) <;> simp

@[simp] theorem Chip.controlRecord_sound (c : Chip) (h : c.sound = true) : (Chip.controlRecord c).sound = true := by
  simp (contextual := true) (maxDischargeDepth := 60) [Chip.controlRecord, h]

@[simp] theorem Chip.controlRecord_stores (c : Chip) : (Chip.controlRecord c).stores = c.stores := by
  simp [Chip.controlRecord]

@[simp] theorem Chip.controlRecord_seat (c : Chip) : (Chip.controlRecord c).seat = c.seat := by
  simp [Chip.controlRecord]

@[simp] theorem Chip.sendValues_sound (c : Chip) (vs : List Nat) (h : c.sound = true) : (Chip.sendValues c
    vs).sound = true := by
  simp (contextual := true) (maxDischargeDepth := 60) [Chip.sendValues, h]

@[simp] theorem Chip.sendValues_stores (c : Chip) (vs : List Nat) : (Chip.sendValues c vs).stores = c.stores := by
  rfl

@[simp] theorem Chip.sendValues_seat (c : Chip) (vs : List Nat) : (Chip.sendValues c vs).seat = c.seat := by
  rfl

@[simp] theorem Chip.sendBoundary_sound (c : Chip) (u : Nat) (late : Bool) (h : c.sound = true) :
    (Chip.sendBoundary c u late).sound = true := by
  simp only [Chip.sendBoundary]; (repeat' split) <;> simp (contextual := true) (maxDischargeDepth := 60) [h]

@[simp] theorem Chip.sendBoundary_stores (c : Chip) (u : Nat) (late : Bool) : (Chip.sendBoundary c u
    late).stores = c.stores := by
  simp only [Chip.sendBoundary]; (repeat' split) <;> simp

@[simp] theorem Chip.sendBoundary_seat (c : Chip) (u : Nat) (late : Bool) : (Chip.sendBoundary c u late).seat =
    c.seat := by
  simp only [Chip.sendBoundary]; (repeat' split) <;> simp

@[simp] theorem Chip.readLine_sound (c : Chip) (u : Nat) (h : c.sound = true) : (Chip.readLine c u).sound = true :=
    by
  simp (contextual := true) (maxDischargeDepth := 60) [Chip.readLine, h]

@[simp] theorem Chip.readLine_stores (c : Chip) (u : Nat) : (Chip.readLine c u).stores = c.stores := by
  simp [Chip.readLine]

@[simp] theorem Chip.readLine_seat (c : Chip) (u : Nat) : (Chip.readLine c u).seat = c.seat := by
  simp [Chip.readLine]

@[simp] theorem Chip.pixelBoundary_sound (c : Chip) (late : Bool) (h : c.sound = true) : (Chip.pixelBoundary c
    late).sound = true := by
  unfold Chip.pixelBoundary
  generalize c.nextBoundary = o
  generalize c.bsc.held = u
  cases u with
  | none => exact h
  | some x =>
    cases o with
    | none => exact h
    | some q => simp (contextual := true) (maxDischargeDepth := 60) [h]

@[simp] theorem Chip.pixelBoundary_stores (c : Chip) (late : Bool) : (Chip.pixelBoundary c late).stores = c.stores := by
  unfold Chip.pixelBoundary
  generalize c.nextBoundary = o
  generalize c.bsc.held = u
  cases u with
  | none => rfl
  | some x =>
    cases o with
    | none => rfl
    | some q => simp

@[simp] theorem Chip.pixelBoundary_seat (c : Chip) (late : Bool) : (Chip.pixelBoundary c late).seat = c.seat := by
  unfold Chip.pixelBoundary
  generalize c.nextBoundary = o
  generalize c.bsc.held = u
  cases u with
  | none => rfl
  | some x =>
    cases o with
    | none => rfl
    | some q => simp

@[simp] theorem Chip.bscWrite_sound (c : Chip) (drops : List Nat) (h : c.sound = true) : (Chip.bscWrite c
    drops).sound = true := by
  simp (contextual := true) (maxDischargeDepth := 60) [Chip.bscWrite, h]

@[simp] theorem Chip.bscWrite_seat (c : Chip) (drops : List Nat) : (Chip.bscWrite c drops).seat = c.seat := by
  simp [Chip.bscWrite]

@[simp] theorem Chip.sequencers_sound (c : Chip) (before : Chip) (h : c.sound = true) : (Chip.sequencers c
    before).sound = true := by
  simp (contextual := true) (maxDischargeDepth := 60) [Chip.sequencers, h]

@[simp] theorem Chip.sequencers_stores (c : Chip) (before : Chip) : (Chip.sequencers c before).stores = c.stores :=
    by
  simp [Chip.sequencers]

@[simp] theorem Chip.sequencers_seat (c : Chip) (before : Chip) : (Chip.sequencers c before).seat = c.seat := by
  simp [Chip.sequencers]

end Sys2Proof.Machine
end

