-- ==== Sys2Proof/Laws/Light.lean ====
section
/-! SUPPORT. Every operation of Machine/Light.lean keeps the part sound; those that touch no store leave the stores as
they are, and those that enter no mode leave the mode and its cause. -/

namespace Sys2Proof.Machine

open Sys2Proof

@[simp] theorem Chip.onLtd_sound (c : Chip) (f : Light → Light) (h : c.sound = true) : (Chip.onLtd c f).sound =
    true := by
  simp (contextual := true) (maxDischargeDepth := 60) [Chip.onLtd, h]

@[simp] theorem Chip.onLtd_stores (c : Chip) (f : Light → Light) : (Chip.onLtd c f).stores = c.stores := by
  rfl

@[simp] theorem Chip.onLtd_seat (c : Chip) (f : Light → Light) : (Chip.onLtd c f).seat = c.seat := by
  rfl

@[simp] theorem Chip.issueSet_sound (c : Chip) (s : Nat) (h : c.sound = true) : (Chip.issueSet c s).sound = true := by
  simp (contextual := true) (maxDischargeDepth := 60) [Chip.issueSet, h]

@[simp] theorem Chip.issueSet_stores (c : Chip) (s : Nat) : (Chip.issueSet c s).stores = c.stores := by
  simp [Chip.issueSet]

@[simp] theorem Chip.issueSet_seat (c : Chip) (s : Nat) : (Chip.issueSet c s).seat = c.seat := by
  simp [Chip.issueSet]

@[simp] theorem Chip.setDuty_sound (c : Chip) (i : Nat) (h : c.sound = true) : (Chip.setDuty c i).sound = true := by
  simp (contextual := true) (maxDischargeDepth := 60) [Chip.setDuty, h]

@[simp] theorem Chip.setDuty_stores (c : Chip) (i : Nat) : (Chip.setDuty c i).stores = c.stores := by
  simp [Chip.setDuty]

@[simp] theorem Chip.setDuty_seat (c : Chip) (i : Nat) : (Chip.setDuty c i).seat = c.seat := by
  simp [Chip.setDuty]

@[simp] theorem Chip.wrBoth_sound (c : Chip) (f : Field) (v : Nat) (h : c.sound = true) : (Chip.wrBoth c f
    v).sound = true := by
  simp (contextual := true) (maxDischargeDepth := 60) [Chip.wrBoth, h]

@[simp] theorem Chip.wrBoth_stores (c : Chip) (f : Field) (v : Nat) : (Chip.wrBoth c f v).stores = c.stores := by
  rfl

@[simp] theorem Chip.wrBoth_seat (c : Chip) (f : Field) (v : Nat) : (Chip.wrBoth c f v).seat = c.seat := by
  rfl

@[simp] theorem Chip.loopOutputs_sound (c : Chip) (h : c.sound = true) : (Chip.loopOutputs c).sound = true := by
  unfold Chip.loopOutputs; (repeat' split) <;> simp (contextual := true) (maxDischargeDepth := 60) [h]

@[simp] theorem Chip.loopOutputs_stores (c : Chip) : (Chip.loopOutputs c).stores = c.stores := by
  unfold Chip.loopOutputs; (repeat' split) <;> simp

@[simp] theorem Chip.loopOutputs_seat (c : Chip) : (Chip.loopOutputs c).seat = c.seat := by
  unfold Chip.loopOutputs; (repeat' split) <;> simp

@[simp] theorem Chip.selfTest_sound (c : Chip) (h : c.sound = true) : (Chip.selfTest c).sound = true := by
  simp (contextual := true) (maxDischargeDepth := 60) [Chip.selfTest, h]

@[simp] theorem Chip.selfTest_stores (c : Chip) : (Chip.selfTest c).stores = c.stores := by
  rfl

@[simp] theorem Chip.selfTest_seat (c : Chip) : (Chip.selfTest c).seat = c.seat := by
  rfl

@[simp] theorem Chip.lightFault_sound (c : Chip) (unit : Nat) (data : Nat) (h : c.sound = true) :
    (Chip.lightFault c unit data).sound = true := by
  simp (contextual := true) (maxDischargeDepth := 60) [Chip.lightFault, h]

@[simp] theorem Chip.lightFault_stores (c : Chip) (unit : Nat) (data : Nat) : (Chip.lightFault c unit
    data).stores = c.stores := by
  simp [Chip.lightFault]

@[simp] theorem Chip.lightFault_seat (c : Chip) (unit : Nat) (data : Nat) : (Chip.lightFault c unit data).seat =
    c.seat := by
  simp [Chip.lightFault]

@[simp] theorem Chip.selfTestDone_sound (c : Chip) (short : Option (Nat × Nat)) (h : c.sound = true) :
    (Chip.selfTestDone c short).sound = true := by
  unfold Chip.selfTestDone; split <;> simp (contextual := true) (maxDischargeDepth := 60) [h]

@[simp] theorem Chip.selfTestDone_stores (c : Chip) (short : Option (Nat × Nat)) : (Chip.selfTestDone c
    short).stores = c.stores := by
  unfold Chip.selfTestDone; split <;> simp

@[simp] theorem Chip.selfTestDone_seat (c : Chip) (short : Option (Nat × Nat)) : (Chip.selfTestDone c
    short).seat = c.seat := by
  unfold Chip.selfTestDone; split <;> simp

@[simp] theorem Chip.selfTestOnEntry_sound (c : Chip) (h : c.sound = true) : (Chip.selfTestOnEntry c).sound =
    true := by
  simp (contextual := true) (maxDischargeDepth := 60) [Chip.selfTestOnEntry, h]

@[simp] theorem Chip.selfTestOnEntry_stores (c : Chip) : (Chip.selfTestOnEntry c).stores = c.stores := by
  simp [Chip.selfTestOnEntry]

@[simp] theorem Chip.selfTestOnEntry_seat (c : Chip) : (Chip.selfTestOnEntry c).seat = c.seat := by
  simp [Chip.selfTestOnEntry]

@[simp] theorem Chip.loopChannel_sound (c : Chip) (ch : Nat) (h : c.sound = true) : (Chip.loopChannel c ch).1.sound
    = true := by
  simp only [Chip.loopChannel]; (repeat' split) <;> simp (contextual := true) (maxDischargeDepth := 60) [h]

@[simp] theorem Chip.loopChannel_stores (c : Chip) (ch : Nat) : (Chip.loopChannel c ch).1.stores = c.stores := by
  simp only [Chip.loopChannel]; (repeat' split) <;> simp

@[simp] theorem Chip.loopChannel_seat (c : Chip) (ch : Nat) : (Chip.loopChannel c ch).1.seat = c.seat := by
  simp only [Chip.loopChannel]; (repeat' split) <;> simp

@[simp] theorem Chip.loopChannels_sound (c : Chip) (h : c.sound = true) : (Chip.loopChannels c).sound = true := by
  simp (maxDischargeDepth := 60) [Chip.loopChannels, List.range_succ, h]

@[simp] theorem Chip.loopChannels_stores (c : Chip) : (Chip.loopChannels c).stores = c.stores := by
  simp [Chip.loopChannels, List.range_succ]

@[simp] theorem Chip.loopChannels_seat (c : Chip) : (Chip.loopChannels c).seat = c.seat := by
  simp [Chip.loopChannels, List.range_succ]

@[simp] theorem Chip.loopStep_sound (c : Chip) (h : c.sound = true) : (Chip.loopStep c).sound = true := by
  unfold Chip.loopStep
  extract_lets t uvs c0 c1 c2 term white termSats solved
  have h0 : c0.sound = true := by
    simp only [c0]; split
    · exact c.takeFree_sound h
    · exact h
  have h1 : c1.sound = true := Chip.saturate_sound _ _ _ _ (Chip.wr_sound _ _ _ h0)
  have h2 : c2.sound = true := by
    refine Chip.foldl_sound _ _ _ h1 fun c x hc => ?_
    split <;> simp [hc]
  clear_value c2 solved
  cases solved with
  | none => simp [h2]
  | some x => simp (contextual := true) (maxDischargeDepth := 60) [h2]

@[simp] theorem Chip.loopStep_stores (c : Chip) : (Chip.loopStep c).stores = c.stores := by
  unfold Chip.loopStep
  extract_lets t uvs c0 c1 c2 term white termSats solved
  have h0 : c0.stores = c.stores := by simp only [c0]; split <;> simp
  have h1 : c1.stores = c.stores := by simp [c1, h0]
  have h2 : c2.stores = c.stores := by
    refine (Chip.foldl_stores _ _ _ fun c x => ?_).trans h1
    split <;> simp
  clear_value c2 solved
  cases solved with
  | none => simp [h2]
  | some x => simp [h2]

@[simp] theorem Chip.loopStep_seat (c : Chip) : (Chip.loopStep c).seat = c.seat := by
  unfold Chip.loopStep
  extract_lets t uvs c0 c1 c2 term white termSats solved
  have h0 : c0.seat = c.seat := by simp only [c0]; split <;> simp
  have h1 : c1.seat = c.seat := by simp [c1, h0]
  have h2 : c2.seat = c.seat := by
    refine (Chip.foldl_seat _ _ _ fun c x => ?_).trans h1
    split <;> simp
  clear_value c2 solved
  cases solved with
  | none => simp [h2]
  | some x => simp [h2]

@[simp] theorem Chip.periodEnd_sound (c : Chip) (h : c.sound = true) : (Chip.periodEnd c).sound = true := by
  simp (contextual := true) (maxDischargeDepth := 60) [Chip.periodEnd, h]

@[simp] theorem Chip.periodEnd_stores (c : Chip) : (Chip.periodEnd c).stores = c.stores := by
  simp [Chip.periodEnd]

@[simp] theorem Chip.periodEnd_seat (c : Chip) : (Chip.periodEnd c).seat = c.seat := by
  simp [Chip.periodEnd]

@[simp] theorem Chip.restoreFaults_sound (c : Chip) (h : c.sound = true) : (Chip.restoreFaults c).sound = true := by
  simp (contextual := true) (maxDischargeDepth := 60) [Chip.restoreFaults, h]

@[simp] theorem Chip.restoreFaults_stores (c : Chip) : (Chip.restoreFaults c).stores = c.stores := by
  simp [Chip.restoreFaults]

@[simp] theorem Chip.restoreFaults_seat (c : Chip) : (Chip.restoreFaults c).seat = c.seat := by
  simp [Chip.restoreFaults]

@[simp] theorem Chip.issueOutputs_sound (c : Chip) (h : c.sound = true) : (Chip.issueOutputs c).sound = true := by
  simp (contextual := true) (maxDischargeDepth := 60) [Chip.issueOutputs, h]

@[simp] theorem Chip.issueOutputs_stores (c : Chip) : (Chip.issueOutputs c).stores = c.stores := by
  simp [Chip.issueOutputs]

@[simp] theorem Chip.issueOutputs_seat (c : Chip) : (Chip.issueOutputs c).seat = c.seat := by
  simp [Chip.issueOutputs]

@[simp] theorem Chip.countCommit_sound (c : Chip) (h : c.sound = true) : (Chip.countCommit c).sound = true := by
  simp (contextual := true) (maxDischargeDepth := 60) [Chip.countCommit, h]

@[simp] theorem Chip.countCommit_stores (c : Chip) : (Chip.countCommit c).stores = c.stores := by
  simp [Chip.countCommit]

@[simp] theorem Chip.countCommit_seat (c : Chip) : (Chip.countCommit c).seat = c.seat := by
  simp [Chip.countCommit]

@[simp] theorem Chip.ltdCommit_sound (c : Chip) (h : c.sound = true) : (Chip.ltdCommit c).sound = true := by
  simp (contextual := true) (maxDischargeDepth := 60) [Chip.ltdCommit, h]

@[simp] theorem Chip.ltdCommit_stores (c : Chip) : (Chip.ltdCommit c).stores = c.stores := by
  simp [Chip.ltdCommit]

@[simp] theorem Chip.ltdCommit_seat (c : Chip) : (Chip.ltdCommit c).seat = c.seat := by
  simp [Chip.ltdCommit]

@[simp] theorem Chip.loopReset_sound (c : Chip) (h : c.sound = true) : (Chip.loopReset c).sound = true := by
  simp (contextual := true) (maxDischargeDepth := 60) [Chip.loopReset, h]

@[simp] theorem Chip.loopReset_stores (c : Chip) : (Chip.loopReset c).stores = c.stores := by
  rfl

@[simp] theorem Chip.loopReset_seat (c : Chip) : (Chip.loopReset c).seat = c.seat := by
  rfl

@[simp] theorem Chip.stringOff_sound (c : Chip) (s : Nat) (h : c.sound = true) : (Chip.stringOff c s).sound =
    true := by
  simp (contextual := true) (maxDischargeDepth := 60) [Chip.stringOff, h]

@[simp] theorem Chip.stringOff_stores (c : Chip) (s : Nat) : (Chip.stringOff c s).stores = c.stores := by
  rfl

@[simp] theorem Chip.stringOff_seat (c : Chip) (s : Nat) : (Chip.stringOff c s).seat = c.seat := by
  rfl

@[simp] theorem Chip.stringsOff_sound (c : Chip) (chans : List Nat) (h : c.sound = true) : (Chip.stringsOff c
    chans).sound = true := by
  simp (contextual := true) (maxDischargeDepth := 60) [Chip.stringsOff, h]

@[simp] theorem Chip.stringsOff_stores (c : Chip) (chans : List Nat) : (Chip.stringsOff c chans).stores =
    c.stores := by
  simp [Chip.stringsOff]

@[simp] theorem Chip.stringsOff_seat (c : Chip) (chans : List Nat) : (Chip.stringsOff c chans).seat = c.seat := by
  simp [Chip.stringsOff]

@[simp] theorem Chip.confirmFault_sound (c : Chip) (s : Nat) (verdict : Nat) (who : Nat) (h : c.sound = true) :
    (Chip.confirmFault c s verdict who).sound = true := by
  simp (contextual := true) (maxDischargeDepth := 60) [Chip.confirmFault, h]

@[simp] theorem Chip.confirmFault_stores (c : Chip) (s : Nat) (verdict : Nat) (who : Nat) : (Chip.confirmFault c
    s verdict who).stores = c.stores := by
  simp [Chip.confirmFault]

@[simp] theorem Chip.confirmFault_seat (c : Chip) (s : Nat) (verdict : Nat) (who : Nat) : (Chip.confirmFault c s
    verdict who).seat = c.seat := by
  simp [Chip.confirmFault]

@[simp] theorem Chip.judgeString_sound (c : Chip) (s : Nat) (code : Nat) (h : c.sound = true) :
    (Chip.judgeString c s code).sound = true := by
  simp (contextual := true) (maxDischargeDepth := 60) [Chip.judgeString, h]

@[simp] theorem Chip.judgeString_stores (c : Chip) (s : Nat) (code : Nat) : (Chip.judgeString c s code).stores =
    c.stores := by
  simp [Chip.judgeString]

@[simp] theorem Chip.judgeString_seat (c : Chip) (s : Nat) (code : Nat) : (Chip.judgeString c s code).seat =
    c.seat := by
  simp [Chip.judgeString]

@[simp] theorem Chip.ballU12_sound (c : Chip) (high : Bool) (h : c.sound = true) : (Chip.ballU12 c high).sound =
    true := by
  simp (contextual := true) (maxDischargeDepth := 60) [Chip.ballU12, h]

@[simp] theorem Chip.ballU12_stores (c : Chip) (high : Bool) : (Chip.ballU12 c high).stores = c.stores := by
  simp [Chip.ballU12]

@[simp] theorem Chip.ballU12_seat (c : Chip) (high : Bool) : (Chip.ballU12 c high).seat = c.seat := by
  simp [Chip.ballU12]

@[simp] theorem Chip.faultClear_sound (c : Chip) (shfHigh : Bool) (h : c.sound = true) : (Chip.faultClear c
    shfHigh).sound = true := by
  simp (contextual := true) (maxDischargeDepth := 60) [Chip.faultClear, h]

@[simp] theorem Chip.faultClear_stores (c : Chip) (shfHigh : Bool) : (Chip.faultClear c shfHigh).stores =
    c.stores := by
  simp [Chip.faultClear]

@[simp] theorem Chip.faultClear_seat (c : Chip) (shfHigh : Bool) : (Chip.faultClear c shfHigh).seat = c.seat := by
  simp [Chip.faultClear]

@[simp] theorem Chip.pdSample_sound (c : Chip) (i : Nat) (code : Nat) (h : c.sound = true) : (Chip.pdSample c i
    code).sound = true := by
  simp (contextual := true) (maxDischargeDepth := 60) [Chip.pdSample, h]

@[simp] theorem Chip.pdSample_stores (c : Chip) (i : Nat) (code : Nat) : (Chip.pdSample c i code).stores =
    c.stores := by
  simp [Chip.pdSample]

@[simp] theorem Chip.pdSample_seat (c : Chip) (i : Nat) (code : Nat) : (Chip.pdSample c i code).seat = c.seat := by
  simp [Chip.pdSample]

@[simp] theorem Chip.snsSample_sound (c : Chip) (i : Nat) (code : Nat) (h : c.sound = true) : (Chip.snsSample c
    i code).sound = true := by
  unfold Chip.snsSample; split <;> simp (contextual := true) (maxDischargeDepth := 60) [h]

@[simp] theorem Chip.snsSample_stores (c : Chip) (i : Nat) (code : Nat) : (Chip.snsSample c i code).stores =
    c.stores := by
  unfold Chip.snsSample; split <;> simp

@[simp] theorem Chip.snsSample_seat (c : Chip) (i : Nat) (code : Nat) : (Chip.snsSample c i code).seat = c.seat := by
  unfold Chip.snsSample; split <;> simp

@[simp] theorem Chip.strSetIssue_sound (c : Chip) (s : Nat) (f : FieldAlloc) (h : c.sound = true) :
    (Chip.strSetIssue c s f).sound = true := by
  simp (contextual := true) (maxDischargeDepth := 60) [Chip.strSetIssue, h]

@[simp] theorem Chip.strSetIssue_stores (c : Chip) (s : Nat) (f : FieldAlloc) : (Chip.strSetIssue c s f).stores
    = c.stores := by
  simp [Chip.strSetIssue]

@[simp] theorem Chip.strSetIssue_seat (c : Chip) (s : Nat) (f : FieldAlloc) : (Chip.strSetIssue c s f).seat =
    c.seat := by
  simp [Chip.strSetIssue]

@[simp] theorem Chip.edgeSets_sound (c : Chip) (ch : Nat) (on : Bool) (h : c.sound = true) : (Chip.edgeSets c ch
    on).sound = true := by
  unfold Chip.edgeSets
  refine Chip.foldl_sound _ _ _ h fun c x hc => ?_
  (repeat' split) <;> simp [hc]

@[simp] theorem Chip.edgeSets_stores (c : Chip) (ch : Nat) (on : Bool) : (Chip.edgeSets c ch on).stores =
    c.stores := by
  unfold Chip.edgeSets
  refine Chip.foldl_stores _ _ _ fun c x => ?_
  (repeat' split) <;> simp

@[simp] theorem Chip.edgeSets_seat (c : Chip) (ch : Nat) (on : Bool) : (Chip.edgeSets c ch on).seat = c.seat := by
  unfold Chip.edgeSets
  refine Chip.foldl_seat _ _ _ fun c x => ?_
  (repeat' split) <;> simp

@[simp] theorem Chip.lightEdge_sound (c : Chip) (ch : Nat) (on : Bool) (h : c.sound = true) : (Chip.lightEdge c
    ch on).sound = true := by
  simp (contextual := true) (maxDischargeDepth := 60) [Chip.lightEdge, h]

@[simp] theorem Chip.lightEdge_stores (c : Chip) (ch : Nat) (on : Bool) : (Chip.lightEdge c ch on).stores =
    c.stores := by
  simp [Chip.lightEdge]

@[simp] theorem Chip.lightEdge_seat (c : Chip) (ch : Nat) (on : Bool) : (Chip.lightEdge c ch on).seat = c.seat := by
  simp [Chip.lightEdge]

end Sys2Proof.Machine
end

