-- ==== Sys2Proof/Laws/Towpath.lean ====
section
/-! SUPPORT. Every operation of Machine/Towpath.lean keeps the part sound; those that touch no store leave the stores as
they are, and those that enter no mode leave the mode and its cause. -/

namespace Sys2Proof.Machine

open Sys2Proof

/-- The zone buffers reset to 0. -/
theorem resetWord_zone (a : Nat) (h1 : 0x2A4000 ≤ a) (h2 : a < 0x2A8000) : resetWord a = 0 := by
  have hr : ∀ r ∈ regionRows 0x2A, r.addr + r.count * r.stride ≤ 0x2A4000 ∨ r.reset = 0 := by decide
  have ha : a / 65536 = 0x2A := by omega
  unfold resetWord
  split
  · rfl
  next r hrow =>
    unfold rowOf at hrow
    rw [ha] at hrow
    have hh := List.find?_some hrow
    have hm := List.mem_of_find?_eq_some hrow
    have ht : toneReset a = none := by
      unfold toneReset; rw [if_neg]; omega
    rw [ht]
    rcases hr r hm with hlt | h0
    · simp only [RegRow.holds, Bool.and_eq_true, decide_eq_true_eq] at hh
      omega
    · simp [h0]

/-- The swap of the zone buffers keeps the canonical form. -/
@[simp] theorem zoneSwap_wf (m : List (Nat × Word)) (h : SMap.wf resetWord m = true) :
    SMap.wf resetWord (zoneSwap m) = true := by
  rw [SMap.wf_iff] at h ⊢
  obtain ⟨hp, hv⟩ := h
  unfold zoneSwap
  refine ⟨?_, fun p hm => ?_⟩
  · simp only [List.pairwise_append, List.pairwise_map, List.mem_append, List.mem_filter, List.mem_map,
      decide_eq_true_eq]
    refine ⟨⟨⟨hp.filter _, ?_, ?_⟩, ?_, ?_⟩, hp.filter _, ?_⟩
    · refine (hp.filter _).imp_of_mem fun ha hb hlt => ?_
      simp only [List.mem_filter, decide_eq_true_eq] at ha hb
      (try dsimp only); omega
    · rintro a ⟨_, ha⟩ b ⟨q, ⟨_, hq⟩, rfl⟩
      (try dsimp only); omega
    · refine (hp.filter _).imp_of_mem fun ha hb hlt => ?_
      (try dsimp only); omega
    · rintro a (⟨_, ha⟩ | ⟨q, ⟨_, hq⟩, rfl⟩) b ⟨r, ⟨_, hr⟩, rfl⟩ <;> (try dsimp only) <;> omega
    · rintro a ((⟨_, ha⟩ | ⟨q, ⟨_, hq⟩, rfl⟩) | ⟨q, ⟨_, hq⟩, rfl⟩) b ⟨_, hb⟩ <;> (try dsimp only) <;> omega
  · simp only [List.mem_append, List.mem_filter, List.mem_map, decide_eq_true_eq] at hm
    rcases hm with ((⟨hm, _⟩ | ⟨q, ⟨hq, hq2⟩, rfl⟩) | ⟨q, ⟨hq, hq2⟩, rfl⟩) | ⟨hm, _⟩
    · exact hv p hm
    · have := hv q hq
      rw [resetWord_zone q.1 (by omega) (by omega)] at this
      rw [resetWord_zone _ (by dsimp only; omega) (by dsimp only; omega)]
      exact this
    · have := hv q hq
      rw [resetWord_zone q.1 (by omega) (by omega)] at this
      rw [resetWord_zone _ (by dsimp only; omega) (by dsimp only; omega)]
      exact this
    · exact hv p hm

@[simp] theorem Chip.onTwp_sound (c : Chip) (f : Towpath → Towpath) (h : c.sound = true) : (Chip.onTwp c
    f).sound = true := by
  simp (contextual := true) (maxDischargeDepth := 60) [Chip.onTwp, h]

@[simp] theorem Chip.onTwp_stores (c : Chip) (f : Towpath → Towpath) : (Chip.onTwp c f).stores = c.stores := by
  rfl

@[simp] theorem Chip.onTwp_seat (c : Chip) (f : Towpath → Towpath) : (Chip.onTwp c f).seat = c.seat := by
  rfl

@[simp] theorem Chip.chainStart_sound (c : Chip) (h : c.sound = true) : (Chip.chainStart c).sound = true := by
  simp (contextual := true) (maxDischargeDepth := 60) [Chip.chainStart, h]

@[simp] theorem Chip.chainStart_stores (c : Chip) : (Chip.chainStart c).stores = c.stores := by
  rfl

@[simp] theorem Chip.chainStart_seat (c : Chip) : (Chip.chainStart c).seat = c.seat := by
  rfl

@[simp] theorem Chip.twpTrigger_sound (c : Chip) (h : c.sound = true) : (Chip.twpTrigger c).sound = true := by
  simp (contextual := true) (maxDischargeDepth := 60) [Chip.twpTrigger, h]

@[simp] theorem Chip.twpTrigger_stores (c : Chip) : (Chip.twpTrigger c).stores = c.stores := by
  simp [Chip.twpTrigger]

@[simp] theorem Chip.twpTrigger_seat (c : Chip) : (Chip.twpTrigger c).seat = c.seat := by
  simp [Chip.twpTrigger]

@[simp] theorem Chip.twpTrigWrite_sound (c : Chip) (v : Word) (h : c.sound = true) : (Chip.twpTrigWrite c
    v).sound = true := by
  simp (contextual := true) (maxDischargeDepth := 60) [Chip.twpTrigWrite, h]

@[simp] theorem Chip.twpTrigWrite_stores (c : Chip) (v : Word) : (Chip.twpTrigWrite c v).stores = c.stores := by
  simp [Chip.twpTrigWrite]

@[simp] theorem Chip.twpTrigWrite_seat (c : Chip) (v : Word) : (Chip.twpTrigWrite c v).seat = c.seat := by
  simp [Chip.twpTrigWrite]

@[simp] theorem Chip.twpBoundary_sound (c : Chip) (h : c.sound = true) : (Chip.twpBoundary c).sound = true := by
  simp (contextual := true) (maxDischargeDepth := 60) [Chip.twpBoundary, h]

@[simp] theorem Chip.twpBoundary_stores (c : Chip) : (Chip.twpBoundary c).stores = c.stores := by
  simp [Chip.twpBoundary]

@[simp] theorem Chip.twpBoundary_seat (c : Chip) : (Chip.twpBoundary c).seat = c.seat := by
  simp [Chip.twpBoundary]

@[simp] theorem Chip.locateStart_sound (c0 : Chip) (fromB : Bool) (h : c0.sound = true) : (Chip.locateStart c0
    fromB).sound = true := by
  simp (contextual := true) (maxDischargeDepth := 60) [Chip.locateStart, h]

@[simp] theorem Chip.locateStart_stores (c0 : Chip) (fromB : Bool) : (Chip.locateStart c0 fromB).stores = c0.stores
    := by
  rfl

@[simp] theorem Chip.locateStart_seat (c0 : Chip) (fromB : Bool) : (Chip.locateStart c0 fromB).seat = c0.seat := by
  rfl

@[simp] theorem Chip.ringBreak_sound (c : Chip) (unit : Nat) (pos : Nat) (h : c.sound = true) : (Chip.ringBreak
    c unit pos).sound = true := by
  simp (contextual := true) (maxDischargeDepth := 60) [Chip.ringBreak, h]

@[simp] theorem Chip.ringBreak_stores (c : Chip) (unit : Nat) (pos : Nat) : (Chip.ringBreak c unit pos).stores =
    c.stores := by
  simp [Chip.ringBreak]

@[simp] theorem Chip.ringBreak_seat (c : Chip) (unit : Nat) (pos : Nat) : (Chip.ringBreak c unit pos).seat =
    c.seat := by
  simp [Chip.ringBreak]

@[simp] theorem Chip.ringBroken_sound (c : Chip) (h : c.sound = true) : (Chip.ringBroken c).sound = true := by
  simp (contextual := true) (maxDischargeDepth := 60) [Chip.ringBroken, h]

@[simp] theorem Chip.ringBroken_stores (c : Chip) : (Chip.ringBroken c).stores = c.stores := by
  simp [Chip.ringBroken]

@[simp] theorem Chip.ringBroken_seat (c : Chip) : (Chip.ringBroken c).seat = c.seat := by
  simp [Chip.ringBroken]

@[simp] theorem Chip.ringDual_sound (c : Chip) (h : c.sound = true) : (Chip.ringDual c).sound = true := by
  simp (contextual := true) (maxDischargeDepth := 60) [Chip.ringDual, h]

@[simp] theorem Chip.ringDual_stores (c : Chip) : (Chip.ringDual c).stores = c.stores := by
  simp [Chip.ringDual]

@[simp] theorem Chip.ringDual_seat (c : Chip) : (Chip.ringDual c).seat = c.seat := by
  simp [Chip.ringDual]

@[simp] theorem Chip.ringIntact_sound (c : Chip) (h : c.sound = true) : (Chip.ringIntact c).sound = true := by
  simp (contextual := true) (maxDischargeDepth := 60) [Chip.ringIntact, h]

@[simp] theorem Chip.ringIntact_stores (c : Chip) : (Chip.ringIntact c).stores = c.stores := by
  rfl

@[simp] theorem Chip.ringIntact_seat (c : Chip) : (Chip.ringIntact c).seat = c.seat := by
  rfl

@[simp] theorem Chip.locateEnd_sound (c : Chip) (n : Nat) (h : c.sound = true) : (Chip.locateEnd c n).sound =
    true := by
  unfold Chip.locateEnd; split <;> simp (contextual := true) (maxDischargeDepth := 60) [h]

@[simp] theorem Chip.locateEnd_stores (c : Chip) (n : Nat) : (Chip.locateEnd c n).stores = c.stores := by
  unfold Chip.locateEnd; split <;> simp

@[simp] theorem Chip.locateEnd_seat (c : Chip) (n : Nat) : (Chip.locateEnd c n).seat = c.seat := by
  unfold Chip.locateEnd; split <;> simp

@[simp] theorem Chip.locateReply_sound (c : Chip) (highs : List Nat) (h : c.sound = true) : (Chip.locateReply c
    highs).sound = true := by
  simp (contextual := true) (maxDischargeDepth := 60) [Chip.locateReply, h]

@[simp] theorem Chip.locateReply_stores (c : Chip) (highs : List Nat) : (Chip.locateReply c highs).stores =
    c.stores := by
  simp [Chip.locateReply]

@[simp] theorem Chip.locateReply_seat (c : Chip) (highs : List Nat) : (Chip.locateReply c highs).seat = c.seat := by
  simp [Chip.locateReply]

@[simp] theorem Chip.chainEnd_sound (c : Chip) (h : c.sound = true) : (Chip.chainEnd c).sound = true := by
  simp (contextual := true) (maxDischargeDepth := 60) [Chip.chainEnd, h]

@[simp] theorem Chip.chainEnd_stores (c : Chip) : (Chip.chainEnd c).stores = c.stores := by
  simp [Chip.chainEnd]

@[simp] theorem Chip.chainEnd_seat (c : Chip) : (Chip.chainEnd c).seat = c.seat := by
  simp [Chip.chainEnd]

@[simp] theorem Chip.returnRun_sound (c : Chip) (expected : List Bool) (highs : List Nat) (h : c.sound = true) :
    (Chip.returnRun c expected highs).sound = true := by
  simp (contextual := true) (maxDischargeDepth := 60) [Chip.returnRun, h]

@[simp] theorem Chip.returnRun_stores (c : Chip) (expected : List Bool) (highs : List Nat) : (Chip.returnRun c
    expected highs).stores = c.stores := by
  simp [Chip.returnRun]

@[simp] theorem Chip.returnRun_seat (c : Chip) (expected : List Bool) (highs : List Nat) : (Chip.returnRun c
    expected highs).seat = c.seat := by
  simp [Chip.returnRun]

@[simp] theorem Chip.locating_sound (c : Chip) (h : c.sound = true) : (Chip.locating c).sound = true := by
  simp (contextual := true) (maxDischargeDepth := 60) [Chip.locating, h]

@[simp] theorem Chip.locating_stores (c : Chip) : (Chip.locating c).stores = c.stores := by
  simp [Chip.locating]

@[simp] theorem Chip.locating_seat (c : Chip) : (Chip.locating c).seat = c.seat := by
  simp [Chip.locating]

@[simp] theorem Chip.returnNone_sound (c : Chip) (h : c.sound = true) : (Chip.returnNone c).sound = true := by
  simp (contextual := true) (maxDischargeDepth := 60) [Chip.returnNone, h]

@[simp] theorem Chip.returnNone_stores (c : Chip) : (Chip.returnNone c).stores = c.stores := by
  simp [Chip.returnNone]

@[simp] theorem Chip.returnNone_seat (c : Chip) : (Chip.returnNone c).seat = c.seat := by
  simp [Chip.returnNone]

@[simp] theorem Chip.onPat_sound (c : Chip) (k : Nat) (f : Pattern → Pattern) (h : c.sound = true) : (Chip.onPat
    c k f).sound = true := by
  simp (contextual := true) (maxDischargeDepth := 60) [Chip.onPat, h]

@[simp] theorem Chip.onPat_stores (c : Chip) (k : Nat) (f : Pattern → Pattern) : (Chip.onPat c k f).stores =
    c.stores := by
  rfl

@[simp] theorem Chip.onPat_seat (c : Chip) (k : Nat) (f : Pattern → Pattern) : (Chip.onPat c k f).seat = c.seat := by
  rfl

@[simp] theorem Chip.patWrite_sound (c : Chip) (k : Nat) (s : Nat) (t : Nat) (level : Nat) (h : c.sound = true)
    : (Chip.patWrite c k s t level).sound = true := by
  simp (contextual := true) (maxDischargeDepth := 60) [Chip.patWrite, h]

@[simp] theorem Chip.patWrite_stores (c : Chip) (k : Nat) (s : Nat) (t : Nat) (level : Nat) : (Chip.patWrite c k
    s t level).stores = c.stores := by
  simp [Chip.patWrite]

@[simp] theorem Chip.patWrite_seat (c : Chip) (k : Nat) (s : Nat) (t : Nat) (level : Nat) : (Chip.patWrite c k s
    t level).seat = c.seat := by
  simp [Chip.patWrite]

@[simp] theorem Chip.patTick_sound (c : Chip) (k : Nat) (h : c.sound = true) : (Chip.patTick c k).sound = true := by
  simp (contextual := true) (maxDischargeDepth := 60) [Chip.patTick, h]

@[simp] theorem Chip.patTick_stores (c : Chip) (k : Nat) : (Chip.patTick c k).stores = c.stores := by
  simp [Chip.patTick]

@[simp] theorem Chip.patTick_seat (c : Chip) (k : Nat) : (Chip.patTick c k).seat = c.seat := by
  simp [Chip.patTick]

@[simp] theorem Chip.patPeriod_sound (c : Chip) (k : Nat) (h : c.sound = true) : (Chip.patPeriod c k).1.sound =
    true := by
  simp only [Chip.patPeriod]; (repeat' split) <;> simp (contextual := true) (maxDischargeDepth := 60) [h]

@[simp] theorem Chip.patPeriod_stores (c : Chip) (k : Nat) : (Chip.patPeriod c k).1.stores = c.stores := by
  simp only [Chip.patPeriod]; (repeat' split) <;> simp

@[simp] theorem Chip.patPeriod_seat (c : Chip) (k : Nat) : (Chip.patPeriod c k).1.seat = c.seat := by
  simp only [Chip.patPeriod]; (repeat' split) <;> simp

@[simp] theorem Chip.patCtl_sound (c : Chip) (k : Nat) (v : Word) (h : c.sound = true) : (Chip.patCtl c k
    v).sound = true := by
  simp (contextual := true) (maxDischargeDepth := 60) [Chip.patCtl, h]

@[simp] theorem Chip.patCtl_stores (c : Chip) (k : Nat) (v : Word) : (Chip.patCtl c k v).stores = c.stores := by
  simp [Chip.patCtl]

@[simp] theorem Chip.patCtl_seat (c : Chip) (k : Nat) (v : Word) : (Chip.patCtl c k v).seat = c.seat := by
  simp [Chip.patCtl]

@[simp] theorem Chip.mxSend_sound (c : Chip) (z : Nat) (n : Nat) (h : c.sound = true) : (Chip.mxSend c z
    n).sound = true := by
  simp (contextual := true) (maxDischargeDepth := 60) [Chip.mxSend, h]

@[simp] theorem Chip.mxSend_stores (c : Chip) (z : Nat) (n : Nat) : (Chip.mxSend c z n).stores = c.stores := by
  rfl

@[simp] theorem Chip.mxSend_seat (c : Chip) (z : Nat) (n : Nat) : (Chip.mxSend c z n).seat = c.seat := by
  rfl

@[simp] theorem Chip.mxScanRow_sound (c : Chip) (r : Nat) (h : c.sound = true) : (Chip.mxScanRow c r).sound =
    true := by
  simp (contextual := true) (maxDischargeDepth := 60) [Chip.mxScanRow, h]

@[simp] theorem Chip.mxScanRow_stores (c : Chip) (r : Nat) : (Chip.mxScanRow c r).stores = c.stores := by
  rfl

@[simp] theorem Chip.mxScanRow_seat (c : Chip) (r : Nat) : (Chip.mxScanRow c r).seat = c.seat := by
  rfl

@[simp] theorem Chip.mxBegin_sound (c : Chip) (h : c.sound = true) : (Chip.mxBegin c).sound = true := by
  simp (contextual := true) (maxDischargeDepth := 60) [Chip.mxBegin, h]

@[simp] theorem Chip.mxBegin_stores (c : Chip) : (Chip.mxBegin c).stores = c.stores := by
  simp [Chip.mxBegin]

@[simp] theorem Chip.mxBegin_seat (c : Chip) : (Chip.mxBegin c).seat = c.seat := by
  simp [Chip.mxBegin]

@[simp] theorem Chip.mxSwap_sound (c : Chip) (h : c.sound = true) : (Chip.mxSwap c).sound = true := by
  unfold Chip.mxSwap
  split
  · have hz : ({ c with regs := zoneSwap c.regs } : Chip).sound = true := by
      rw [Chip.sound_mk]
      exact ⟨c.stores_wf h, zoneSwap_wf _ (c.regs_wf h), c.eff_wf h, c.heldA_wf h, c.heldB_wf h⟩
    exact Chip.wr_sound _ _ _ (Chip.wr_sound _ _ _ (Chip.wr_sound _ _ _ hz))
  · simp [h]

@[simp] theorem Chip.mxSwap_stores (c : Chip) : (Chip.mxSwap c).stores = c.stores := by
  simp [Chip.mxSwap]

@[simp] theorem Chip.mxSwap_seat (c : Chip) : (Chip.mxSwap c).seat = c.seat := by
  simp [Chip.mxSwap]

@[simp] theorem Chip.mxSyncAt_sound (c : Chip) (h : c.sound = true) : (Chip.mxSyncAt c).sound = true := by
  simp (contextual := true) (maxDischargeDepth := 60) [Chip.mxSyncAt, h]

@[simp] theorem Chip.mxSyncAt_stores (c : Chip) : (Chip.mxSyncAt c).stores = c.stores := by
  simp [Chip.mxSyncAt]

@[simp] theorem Chip.mxSyncAt_seat (c : Chip) : (Chip.mxSyncAt c).seat = c.seat := by
  simp [Chip.mxSyncAt]

@[simp] theorem Chip.mxBoundary_sound (c : Chip) (h : c.sound = true) : (Chip.mxBoundary c).sound = true := by
  simp (contextual := true) (maxDischargeDepth := 60) [Chip.mxBoundary, h]

@[simp] theorem Chip.mxBoundary_stores (c : Chip) : (Chip.mxBoundary c).stores = c.stores := by
  simp [Chip.mxBoundary]

@[simp] theorem Chip.mxBoundary_seat (c : Chip) : (Chip.mxBoundary c).seat = c.seat := by
  simp [Chip.mxBoundary]

@[simp] theorem Chip.mxDone_sound (c : Chip) (h : c.sound = true) : (Chip.mxDone c).sound = true := by
  simp (contextual := true) (maxDischargeDepth := 60) [Chip.mxDone, h]

@[simp] theorem Chip.mxDone_stores (c : Chip) : (Chip.mxDone c).stores = c.stores := by
  rfl

@[simp] theorem Chip.mxDone_seat (c : Chip) : (Chip.mxDone c).seat = c.seat := by
  rfl

@[simp] theorem Chip.mxRowEnd_sound (c : Chip) (r : Nat) (h : c.sound = true) : (Chip.mxRowEnd c r).sound = true := by
  simp (contextual := true) (maxDischargeDepth := 60) [Chip.mxRowEnd, h]

@[simp] theorem Chip.mxRowEnd_stores (c : Chip) (r : Nat) : (Chip.mxRowEnd c r).stores = c.stores := by
  simp [Chip.mxRowEnd]

@[simp] theorem Chip.mxRowEnd_seat (c : Chip) (r : Nat) : (Chip.mxRowEnd c r).seat = c.seat := by
  simp [Chip.mxRowEnd]

@[simp] theorem Chip.zoneWrite_sound (c : Chip) (a : Nat) (v : Word) (mask : Word) (h : c.sound = true) :
    (Chip.zoneWrite c a v mask).sound = true := by
  simp (contextual := true) (maxDischargeDepth := 60) [Chip.zoneWrite, h]

@[simp] theorem Chip.zoneWrite_stores (c : Chip) (a : Nat) (v : Word) (mask : Word) : (Chip.zoneWrite c a v
    mask).stores = c.stores := by
  simp [Chip.zoneWrite]

@[simp] theorem Chip.zoneWrite_seat (c : Chip) (a : Nat) (v : Word) (mask : Word) : (Chip.zoneWrite c a v
    mask).seat = c.seat := by
  simp [Chip.zoneWrite]

@[simp] theorem Chip.tmr0Period_sound (c : Chip) (h : c.sound = true) : (Chip.tmr0Period c).sound = true := by
  have hr : ∀ (l : List Nat) (b : Bool) (c : Chip), c.sound = true → (l.foldl (fun (acc : Chip × Bool) k =>
      let x := acc.1.patPeriod k
      (x.1, acc.2 || x.2)) (c, b)).1.sound = true := by
    intro l
    induction l with
    | nil => exact fun _ _ hc => hc
    | cons k t ih => exact fun b c hc => ih _ _ (by simp [hc])
  have h1 := hr (List.range 8) false c h
  unfold Chip.tmr0Period
  extract_lets r c1
  have hc1 : c1.sound = true := by simp only [c1]; split <;> simp [r, h1]
  clear_value c1
  split <;> simp [hc1]

@[simp] theorem Chip.tmr0Period_stores (c : Chip) : (Chip.tmr0Period c).stores = c.stores := by
  have hr : ∀ (l : List Nat) (b : Bool) (c : Chip), (l.foldl (fun (acc : Chip × Bool) k =>
      let x := acc.1.patPeriod k
      (x.1, acc.2 || x.2)) (c, b)).1.stores = c.stores := by
    intro l
    induction l with
    | nil => exact fun _ _ => rfl
    | cons k t ih => exact fun b c => (ih _ _).trans (by simp)
  have h1 := hr (List.range 8) false c
  unfold Chip.tmr0Period
  extract_lets r c1
  have hc1 : c1.stores = c.stores := by simp only [c1]; split <;> simp [r, h1]
  clear_value c1
  split <;> simp [hc1]

@[simp] theorem Chip.tmr0Period_seat (c : Chip) : (Chip.tmr0Period c).seat = c.seat := by
  have hr : ∀ (l : List Nat) (b : Bool) (c : Chip), (l.foldl (fun (acc : Chip × Bool) k =>
      let x := acc.1.patPeriod k
      (x.1, acc.2 || x.2)) (c, b)).1.seat = c.seat := by
    intro l
    induction l with
    | nil => exact fun _ _ => rfl
    | cons k t ih => exact fun b c => (ih _ _).trans (by simp)
  have h1 := hr (List.range 8) false c
  unfold Chip.tmr0Period
  extract_lets r c1
  have hc1 : c1.seat = c.seat := by simp only [c1]; split <;> simp [r, h1]
  clear_value c1
  split <;> simp [hc1]

@[simp] theorem Chip.twpErr_sound (c : Chip) (code : Nat) (h : c.sound = true) : (Chip.twpErr c code).sound =
    true := by
  simp (contextual := true) (maxDischargeDepth := 60) [Chip.twpErr, h]

@[simp] theorem Chip.twpErr_stores (c : Chip) (code : Nat) : (Chip.twpErr c code).stores = c.stores := by
  rfl

@[simp] theorem Chip.twpErr_seat (c : Chip) (code : Nat) : (Chip.twpErr c code).seat = c.seat := by
  rfl

@[simp] theorem Chip.tmr0Write_sound (c : Chip) (v : Word) (h : c.sound = true) : (Chip.tmr0Write c v).sound =
    true := by
  simp (contextual := true) (maxDischargeDepth := 60) [Chip.tmr0Write, h]

@[simp] theorem Chip.tmr0Write_stores (c : Chip) (v : Word) : (Chip.tmr0Write c v).stores = c.stores := by
  simp [Chip.tmr0Write]

@[simp] theorem Chip.tmr0Write_seat (c : Chip) (v : Word) : (Chip.tmr0Write c v).seat = c.seat := by
  simp [Chip.tmr0Write]

@[simp] theorem Chip.twpDown_sound (c : Chip) (h : c.sound = true) : (Chip.twpDown c).sound = true := by
  simp (contextual := true) (maxDischargeDepth := 60) [Chip.twpDown, h]

@[simp] theorem Chip.twpDown_stores (c : Chip) : (Chip.twpDown c).stores = c.stores := by
  rfl

@[simp] theorem Chip.twpDown_seat (c : Chip) : (Chip.twpDown c).seat = c.seat := by
  rfl

@[simp] theorem Chip.mxDown_sound (c : Chip) (h : c.sound = true) : (Chip.mxDown c).sound = true := by
  simp (contextual := true) (maxDischargeDepth := 60) [Chip.mxDown, h]

@[simp] theorem Chip.mxDown_stores (c : Chip) : (Chip.mxDown c).stores = c.stores := by
  rfl

@[simp] theorem Chip.mxDown_seat (c : Chip) : (Chip.mxDown c).seat = c.seat := by
  rfl

@[simp] theorem Chip.mxCtlWrite_sound (c : Chip) (v : Word) (mask : Word) (h : c.sound = true) :
    (Chip.mxCtlWrite c v mask).sound = true := by
  simp (contextual := true) (maxDischargeDepth := 60) [Chip.mxCtlWrite, h]

@[simp] theorem Chip.mxCtlWrite_stores (c : Chip) (v : Word) (mask : Word) : (Chip.mxCtlWrite c v mask).stores =
    c.stores := by
  simp [Chip.mxCtlWrite]

@[simp] theorem Chip.mxCtlWrite_seat (c : Chip) (v : Word) (mask : Word) : (Chip.mxCtlWrite c v mask).seat =
    c.seat := by
  simp [Chip.mxCtlWrite]

@[simp] theorem Chip.twpCtlWrite_sound (c : Chip) (v : Word) (mask : Word) (h : c.sound = true) :
    (Chip.twpCtlWrite c v mask).sound = true := by
  simp (contextual := true) (maxDischargeDepth := 60) [Chip.twpCtlWrite, h]

@[simp] theorem Chip.twpCtlWrite_stores (c : Chip) (v : Word) (mask : Word) : (Chip.twpCtlWrite c v mask).stores
    = c.stores := by
  simp [Chip.twpCtlWrite]

@[simp] theorem Chip.twpCtlWrite_seat (c : Chip) (v : Word) (mask : Word) : (Chip.twpCtlWrite c v mask).seat =
    c.seat := by
  simp [Chip.twpCtlWrite]

end Sys2Proof.Machine
end

