-- ==== Sys2Proof/Laws/Uses.lean ====
section
/-! SUPPORT. Every operation of Machine/Uses.lean keeps the part sound; those that touch no store leave the stores as
they are, and those that enter no mode leave the mode and its cause. -/

namespace Sys2Proof.Machine

open Sys2Proof

@[simp] theorem Chip.takeUses_sound (c : Chip) (before : Chip) (h : c.sound = true) : (Chip.takeUses c
    before).sound = true := by
  simp (contextual := true) (maxDischargeDepth := 60) [Chip.takeUses, h]

@[simp] theorem Chip.takeUses_stores (c : Chip) (before : Chip) : (Chip.takeUses c before).stores = c.stores := by
  simp [Chip.takeUses]

@[simp] theorem Chip.takeUses_seat (c : Chip) (before : Chip) : (Chip.takeUses c before).seat = c.seat := by
  simp [Chip.takeUses]

@[simp] theorem Chip.enableUsed_sound (c : Chip) (h : c.sound = true) : (Chip.enableUsed c).sound = true := by
  simp (contextual := true) (maxDischargeDepth := 60) [Chip.enableUsed, h]

@[simp] theorem Chip.enableUsed_stores (c : Chip) : (Chip.enableUsed c).stores = c.stores := by
  simp [Chip.enableUsed]

@[simp] theorem Chip.enableUsed_seat (c : Chip) : (Chip.enableUsed c).seat = c.seat := by
  simp [Chip.enableUsed]

@[simp] theorem Chip.gateRefuse_sound (c : Chip) (n : Nat) (h : c.sound = true) : (Chip.gateRefuse c n).sound =
    true := by
  simp (contextual := true) (maxDischargeDepth := 60) [Chip.gateRefuse, h]

@[simp] theorem Chip.gateRefuse_stores (c : Chip) (n : Nat) : (Chip.gateRefuse c n).stores = c.stores := by
  rfl

@[simp] theorem Chip.gateRefuse_seat (c : Chip) (n : Nat) : (Chip.gateRefuse c n).seat = c.seat := by
  rfl

@[simp] theorem Chip.divTarget_sound (c : Chip) (n : Nat) (h : c.sound = true) : (Chip.divTarget c n).sound =
    true := by
  unfold Chip.divTarget; split <;> simp (contextual := true) (maxDischargeDepth := 60) [h]

@[simp] theorem Chip.divTarget_stores (c : Chip) (n : Nat) : (Chip.divTarget c n).stores = c.stores := by
  unfold Chip.divTarget; split <;> simp

@[simp] theorem Chip.divTarget_seat (c : Chip) (n : Nat) : (Chip.divTarget c n).seat = c.seat := by
  unfold Chip.divTarget; split <;> simp

@[simp] theorem Chip.sysSource_sound (c : Chip) (h : c.sound = true) : (Chip.sysSource c).sound = true := by
  simp (contextual := true) (maxDischargeDepth := 60) [Chip.sysSource, h]

@[simp] theorem Chip.sysSource_stores (c : Chip) : (Chip.sysSource c).stores = c.stores := by
  simp [Chip.sysSource]

@[simp] theorem Chip.sysSource_seat (c : Chip) : (Chip.sysSource c).seat = c.seat := by
  simp [Chip.sysSource]

@[simp] theorem Chip.calPlan_sound (c : Chip) (h : c.sound = true) : (Chip.calPlan c).sound = true := by
  simp (contextual := true) (maxDischargeDepth := 60) [Chip.calPlan, h]

@[simp] theorem Chip.calPlan_stores (c : Chip) : (Chip.calPlan c).stores = c.stores := by
  simp [Chip.calPlan]

@[simp] theorem Chip.calPlan_seat (c : Chip) : (Chip.calPlan c).seat = c.seat := by
  simp [Chip.calPlan]

@[simp] theorem Chip.alignDrop_sound (c : Chip) (n : Nat) (changed : Bool) (pair : Bool) (h : c.sound = true) :
    (Chip.alignDrop c n changed pair).sound = true := by
  simp (contextual := true) (maxDischargeDepth := 60) [Chip.alignDrop, h]

@[simp] theorem Chip.alignDrop_stores (c : Chip) (n : Nat) (changed : Bool) (pair : Bool) : (Chip.alignDrop c n
    changed pair).stores = c.stores := by
  simp [Chip.alignDrop]

@[simp] theorem Chip.alignDrop_seat (c : Chip) (n : Nat) (changed : Bool) (pair : Bool) : (Chip.alignDrop c n
    changed pair).seat = c.seat := by
  simp [Chip.alignDrop]

@[simp] theorem Chip.domWrite_sound (c : Chip) (n : Nat) (w : Word) (pair : Bool) (h : c.sound = true) :
    (Chip.domWrite c n w pair).sound = true := by
  simp (contextual := true) (maxDischargeDepth := 60) [Chip.domWrite, h]

@[simp] theorem Chip.domWrite_stores (c : Chip) (n : Nat) (w : Word) (pair : Bool) : (Chip.domWrite c n w
    pair).stores = c.stores := by
  simp [Chip.domWrite]

@[simp] theorem Chip.domWrite_seat (c : Chip) (n : Nat) (w : Word) (pair : Bool) : (Chip.domWrite c n w
    pair).seat = c.seat := by
  simp [Chip.domWrite]

@[simp] theorem Chip.pllOffBit_sound (c : Chip) (p : Nat) (off : Bool) (h : c.sound = true) : (Chip.pllOffBit c
    p off).sound = true := by
  simp (contextual := true) (maxDischargeDepth := 60) [Chip.pllOffBit, h]

@[simp] theorem Chip.pllOffBit_stores (c : Chip) (p : Nat) (off : Bool) : (Chip.pllOffBit c p off).stores =
    c.stores := by
  simp [Chip.pllOffBit]

@[simp] theorem Chip.pllOffBit_seat (c : Chip) (p : Nat) (off : Bool) : (Chip.pllOffBit c p off).seat = c.seat := by
  simp [Chip.pllOffBit]

@[simp] theorem Chip.pllCtl_sound (c : Chip) (w : Word) (h : c.sound = true) : (Chip.pllCtl c w).sound = true := by
  simp (contextual := true) (maxDischargeDepth := 60) [Chip.pllCtl, h]

@[simp] theorem Chip.pllCtl_stores (c : Chip) (w : Word) : (Chip.pllCtl c w).stores = c.stores := by
  simp [Chip.pllCtl]

@[simp] theorem Chip.pllCtl_seat (c : Chip) (w : Word) : (Chip.pllCtl c w).seat = c.seat := by
  simp [Chip.pllCtl]

@[simp] theorem Chip.pdRefuse_sound (c : Chip) (d : Nat) (code : Nat) (h : c.sound = true) : (Chip.pdRefuse c d
    code).sound = true := by
  simp (contextual := true) (maxDischargeDepth := 60) [Chip.pdRefuse, h]

@[simp] theorem Chip.pdRefuse_stores (c : Chip) (d : Nat) (code : Nat) : (Chip.pdRefuse c d code).stores =
    c.stores := by
  rfl

@[simp] theorem Chip.pdRefuse_seat (c : Chip) (d : Nat) (code : Nat) : (Chip.pdRefuse c d code).seat = c.seat := by
  rfl

@[simp] theorem Chip.pdPll_sound (c : Chip) (d : Nat) (want : Bool) (h : c.sound = true) : (Chip.pdPll c d
    want).sound = true := by
  simp (contextual := true) (maxDischargeDepth := 60) [Chip.pdPll, h]

@[simp] theorem Chip.pdPll_stores (c : Chip) (d : Nat) (want : Bool) : (Chip.pdPll c d want).stores = c.stores := by
  simp [Chip.pdPll]

@[simp] theorem Chip.pdPll_seat (c : Chip) (d : Nat) (want : Bool) : (Chip.pdPll c d want).seat = c.seat := by
  simp [Chip.pdPll]

@[simp] theorem Chip.pdBit_sound (c : Chip) (d : Nat) (want : Bool) (h : c.sound = true) : (Chip.pdBit c d
    want).sound = true := by
  simp (contextual := true) (maxDischargeDepth := 60) [Chip.pdBit, h]

@[simp] theorem Chip.pdBit_stores (c : Chip) (d : Nat) (want : Bool) : (Chip.pdBit c d want).stores = c.stores := by
  simp [Chip.pdBit]

@[simp] theorem Chip.pdBit_seat (c : Chip) (d : Nat) (want : Bool) : (Chip.pdBit c d want).seat = c.seat := by
  simp [Chip.pdBit]

@[simp] theorem Chip.pdApply_sound (c : Chip) (high : Bool) (w : Word) (h : c.sound = true) : (Chip.pdApply c
    high w).sound = true := by
  simp (contextual := true) (maxDischargeDepth := 60) [Chip.pdApply, h]

@[simp] theorem Chip.pdApply_stores (c : Chip) (high : Bool) (w : Word) : (Chip.pdApply c high w).stores =
    c.stores := by
  simp [Chip.pdApply]

@[simp] theorem Chip.pdApply_seat (c : Chip) (high : Bool) (w : Word) : (Chip.pdApply c high w).seat = c.seat := by
  simp [Chip.pdApply]

@[simp] theorem Chip.pdWrite_sound (c : Chip) (high : Bool) (w : Word) (h : c.sound = true) : (Chip.pdWrite c
    high w).sound = true := by
  simp (contextual := true) (maxDischargeDepth := 60) [Chip.pdWrite, h]

@[simp] theorem Chip.pdWrite_stores (c : Chip) (high : Bool) (w : Word) : (Chip.pdWrite c high w).stores =
    c.stores := by
  simp [Chip.pdWrite]

@[simp] theorem Chip.pdWrite_seat (c : Chip) (high : Bool) (w : Word) : (Chip.pdWrite c high w).seat = c.seat := by
  simp [Chip.pdWrite]

@[simp] theorem Chip.pdQueued_sound (c : Chip) (h : c.sound = true) : (Chip.pdQueued c).sound = true := by
  simp (contextual := true) (maxDischargeDepth := 60) [Chip.pdQueued, h]

@[simp] theorem Chip.pdQueued_stores (c : Chip) : (Chip.pdQueued c).stores = c.stores := by
  simp [Chip.pdQueued]

@[simp] theorem Chip.pdQueued_seat (c : Chip) : (Chip.pdQueued c).seat = c.seat := by
  simp [Chip.pdQueued]

@[simp] theorem Chip.pdLate_sound (c : Chip) (before : Chip) (h : c.sound = true) : (Chip.pdLate c before).sound =
    true := by
  simp (contextual := true) (maxDischargeDepth := 60) [Chip.pdLate, h]

@[simp] theorem Chip.pdLate_stores (c : Chip) (before : Chip) : (Chip.pdLate c before).stores = c.stores := by
  simp [Chip.pdLate]

@[simp] theorem Chip.pdLate_seat (c : Chip) (before : Chip) : (Chip.pdLate c before).seat = c.seat := by
  simp [Chip.pdLate]

@[simp] theorem Chip.withUses_sound (c : Chip) (f : Chip → Chip) (h : c.sound = true) (hf : ∀ c : Chip, c.sound
    = true → (f c).sound = true) : (Chip.withUses c f).sound = true := by
  simp (contextual := true) (maxDischargeDepth := 60) [Chip.withUses, h, hf]

@[simp] theorem Chip.withUses_stores (c : Chip) (f : Chip → Chip) (hf : ∀ c : Chip, (f c).stores = c.stores) :
    (Chip.withUses c f).stores = c.stores := by
  simp [Chip.withUses, hf]

@[simp] theorem Chip.withUses_seat (c : Chip) (f : Chip → Chip) (hf : ∀ c : Chip, (f c).seat = c.seat) :
    (Chip.withUses c f).seat = c.seat := by
  simp [Chip.withUses, hf]

end Sys2Proof.Machine
end

