-- ==== Sys2Proof/Laws/Pins.lean ====
section
/-! SUPPORT. Every operation of Machine/Pins.lean keeps the part sound; those that touch no store leave the stores as
they are, and those that enter no mode leave the mode and its cause. -/

namespace Sys2Proof.Machine

open Sys2Proof

@[simp] theorem Chip.gpioWrite_sound (c : Chip) (w : Word) (h : c.sound = true) : (Chip.gpioWrite c w).sound =
    true := by
  simp (contextual := true) (maxDischargeDepth := 60) [Chip.gpioWrite, h]

@[simp] theorem Chip.gpioWrite_stores (c : Chip) (w : Word) : (Chip.gpioWrite c w).stores = c.stores := by
  simp [Chip.gpioWrite]

@[simp] theorem Chip.gpioWrite_seat (c : Chip) (w : Word) : (Chip.gpioWrite c w).seat = c.seat := by
  simp [Chip.gpioWrite]

@[simp] theorem Chip.gpioSync_sound (c : Chip) (h : c.sound = true) : (Chip.gpioSync c).sound = true := by
  simp (contextual := true) (maxDischargeDepth := 60) [Chip.gpioSync, h]

@[simp] theorem Chip.gpioSync_stores (c : Chip) : (Chip.gpioSync c).stores = c.stores := by
  simp [Chip.gpioSync]

@[simp] theorem Chip.gpioSync_seat (c : Chip) : (Chip.gpioSync c).seat = c.seat := by
  simp [Chip.gpioSync]

@[simp] theorem Chip.leaveOn_sound (c : Chip) (d : Nat) (h : c.sound = true) : (Chip.leaveOn c d).sound = true := by
  unfold Chip.leaveOn; split <;> simp (contextual := true) (maxDischargeDepth := 60) [h]

@[simp] theorem Chip.leaveOn_stores (c : Chip) (d : Nat) : (Chip.leaveOn c d).stores = c.stores := by
  unfold Chip.leaveOn; split <;> simp

@[simp] theorem Chip.leaveOn_seat (c : Chip) (d : Nat) : (Chip.leaveOn c d).seat = c.seat := by
  unfold Chip.leaveOn; split <;> simp

@[simp] theorem Chip.crossDrive_sound (c : Chip) (d : Nat) (h : c.sound = true) : (Chip.crossDrive c d).sound = true
    := by
  unfold Chip.crossDrive; split <;> simp (contextual := true) (maxDischargeDepth := 60) [h]

@[simp] theorem Chip.crossDrive_stores (c : Chip) (d : Nat) : (Chip.crossDrive c d).stores = c.stores := by
  unfold Chip.crossDrive; split <;> simp

@[simp] theorem Chip.crossDrive_seat (c : Chip) (d : Nat) : (Chip.crossDrive c d).seat = c.seat := by
  unfold Chip.crossDrive; split <;> simp

@[simp] theorem Chip.copyRepairs_sound (c : Chip) (x : Nat × PdState) (h : c.sound = true) : (Chip.copyRepairs c
    x).sound = true := by
  unfold Chip.copyRepairs; split <;> simp (contextual := true) (maxDischargeDepth := 60) [h]

@[simp] theorem Chip.copyRepairs_stores (c : Chip) (x : Nat × PdState) : (Chip.copyRepairs c x).stores = c.stores :=
    by
  unfold Chip.copyRepairs; split <;> simp

@[simp] theorem Chip.copyRepairs_seat (c : Chip) (x : Nat × PdState) : (Chip.copyRepairs c x).seat = c.seat := by
  unfold Chip.copyRepairs; split <;> simp

@[simp] theorem Chip.switchOne_sound (c : Chip) (x : Nat × PdState) (h : c.sound = true) : (Chip.switchOne c
    x).sound = true := by
  simp (contextual := true) (maxDischargeDepth := 60) [Chip.switchOne, h]

@[simp] theorem Chip.switchOne_seat (c : Chip) (x : Nat × PdState) : (Chip.switchOne c x).seat = c.seat := by
  simp [Chip.switchOne]

@[simp] theorem Chip.finishAll_sound (c : Chip) (h : c.sound = true) : (Chip.finishAll c).sound = true := by
  simp (contextual := true) (maxDischargeDepth := 60) [Chip.finishAll, h]

@[simp] theorem Chip.finishAll_seat (c : Chip) : (Chip.finishAll c).seat = c.seat := by
  simp [Chip.finishAll]

@[simp] theorem Chip.porAssert_sound (c : Chip) (h : c.sound = true) : (Chip.porAssert c).sound = true := by
  simp [Chip.porAssert, Stores.wf_iff, Chip.reset, h]

@[simp] theorem Chip.sampleStraps_sound (c : Chip) (x : Straps) (h : c.sound = true) : (Chip.sampleStraps c
    x).sound = true := by
  simp (contextual := true) (maxDischargeDepth := 60) [Chip.sampleStraps, h]

@[simp] theorem Chip.sampleStraps_stores (c : Chip) (x : Straps) : (Chip.sampleStraps c x).stores = c.stores := by
  rfl

@[simp] theorem Chip.sampleStraps_seat (c : Chip) (x : Straps) : (Chip.sampleStraps c x).seat = c.seat := by
  rfl

@[simp] theorem Chip.porRelease_sound (c : Chip) (x : Straps) (h : c.sound = true) : (Chip.porRelease c x).sound
    = true := by
  simp (contextual := true) (maxDischargeDepth := 60) [Chip.porRelease, h]

@[simp] theorem Chip.porRelease_stores (c : Chip) (x : Straps) : (Chip.porRelease c x).stores = c.stores := by
  simp [Chip.porRelease]

end Sys2Proof.Machine
end

