-- ==== Sys2Proof/Laws/Modes.lean ====
section
/-! SUPPORT. Every operation of Machine/Modes.lean keeps the part sound; those that touch no store leave the stores as
they are, and those that enter no mode leave the mode and its cause. -/

namespace Sys2Proof.Machine

open Sys2Proof

@[simp] theorem Chip.onWh_sound (c : Chip) (f : Wharf → Wharf) (h : c.sound = true) : (Chip.onWh c f).sound =
    true := by
  simp (contextual := true) (maxDischargeDepth := 60) [Chip.onWh, h]

@[simp] theorem Chip.onWh_stores (c : Chip) (f : Wharf → Wharf) : (Chip.onWh c f).stores = c.stores := by
  rfl

@[simp] theorem Chip.onWh_seat (c : Chip) (f : Wharf → Wharf) : (Chip.onWh c f).seat = c.seat := by
  rfl

@[simp] theorem Chip.mfstEnd_sound (c : Chip) (st : MfstState) (err : Nat) (h : c.sound = true) : (Chip.mfstEnd
    c st err).sound = true := by
  simp (contextual := true) (maxDischargeDepth := 60) [Chip.mfstEnd, h]

@[simp] theorem Chip.mfstEnd_stores (c : Chip) (st : MfstState) (err : Nat) : (Chip.mfstEnd c st err).stores =
    c.stores := by
  rfl

@[simp] theorem Chip.mfstEnd_seat (c : Chip) (st : MfstState) (err : Nat) : (Chip.mfstEnd c st err).seat =
    c.seat := by
  rfl

@[simp] theorem Chip.soSync_sound (c : Chip) (i : Nat) (h : c.sound = true) : (Chip.soSync c i).sound = true := by
  simp (contextual := true) (maxDischargeDepth := 60) [Chip.soSync, h]

@[simp] theorem Chip.soSync_seat (c : Chip) (i : Nat) : (Chip.soSync c i).seat = c.seat := by
  simp [Chip.soSync]

@[simp] theorem Chip.settle_sound (c : Chip) (h : c.sound = true) : (Chip.settle c).sound = true := by
  simp (contextual := true) (maxDischargeDepth := 60) [Chip.settle, h]

@[simp] theorem Chip.settle_seat (c : Chip) : (Chip.settle c).seat = c.seat := by
  simp [Chip.settle]

@[simp] theorem Chip.enter_sound (c : Chip) (m : Mode) (cause : Nat) (h : c.sound = true) : (Chip.enter c m
    cause).sound = true := by
  simp (contextual := true) (maxDischargeDepth := 60) [Chip.enter, h]

@[simp] theorem Chip.report_sound (c : Chip) (h : c.sound = true) : (Chip.report c).sound = true := by
  simp (contextual := true) (maxDischargeDepth := 60) [Chip.report, h]

@[simp] theorem Chip.report_stores (c : Chip) : (Chip.report c).stores = c.stores := by
  rfl

@[simp] theorem Chip.report_seat (c : Chip) : (Chip.report c).seat = c.seat := by
  rfl

@[simp] theorem Chip.modeRecord_sound (c : Chip) (cause : Nat) (left : Mode) (entered : Mode) (h : c.sound =
    true) : (Chip.modeRecord c cause left entered).sound = true := by
  simp (contextual := true) (maxDischargeDepth := 60) [Chip.modeRecord, h]

@[simp] theorem Chip.modeRecord_stores (c : Chip) (cause : Nat) (left : Mode) (entered : Mode) :
    (Chip.modeRecord c cause left entered).stores = c.stores := by
  simp [Chip.modeRecord]

@[simp] theorem Chip.modeRecord_seat (c : Chip) (cause : Nat) (left : Mode) (entered : Mode) : (Chip.modeRecord
    c cause left entered).seat = c.seat := by
  simp [Chip.modeRecord]

@[simp] theorem Chip.wakeMode_sound (c : Chip) (ch : Nat) (h : c.sound = true) : (Chip.wakeMode c ch).sound = true
    := by
  simp (contextual := true) (maxDischargeDepth := 60) [Chip.wakeMode, h]

@[simp] theorem Chip.wakeMode_stores (c : Chip) (ch : Nat) : (Chip.wakeMode c ch).stores = c.stores := by
  simp [Chip.wakeMode]

@[simp] theorem Chip.wakeMode_seat (c : Chip) (ch : Nat) : (Chip.wakeMode c ch).seat = c.seat := by
  simp [Chip.wakeMode]

@[simp] theorem Chip.wakeDram_sound (c : Chip) (h : c.sound = true) : (Chip.wakeDram c).sound = true := by
  simp (contextual := true) (maxDischargeDepth := 60) [Chip.wakeDram, h]

@[simp] theorem Chip.wakeDram_stores (c : Chip) : (Chip.wakeDram c).stores = c.stores := by
  simp [Chip.wakeDram]

@[simp] theorem Chip.wakeDram_seat (c : Chip) : (Chip.wakeDram c).seat = c.seat := by
  simp [Chip.wakeDram]

@[simp] theorem Chip.standDram_sound (c : Chip) (h : c.sound = true) : (Chip.standDram c).sound = true := by
  simp (contextual := true) (maxDischargeDepth := 60) [Chip.standDram, h]

@[simp] theorem Chip.standDram_seat (c : Chip) : (Chip.standDram c).seat = c.seat := by
  simp [Chip.standDram]

@[simp] theorem Chip.modeRefuse_sound (c : Chip) (code : Nat) (tag : Nat) (h : c.sound = true) :
    (Chip.modeRefuse c code tag).sound = true := by
  simp (contextual := true) (maxDischargeDepth := 60) [Chip.modeRefuse, h]

@[simp] theorem Chip.modeRefuse_stores (c : Chip) (code : Nat) (tag : Nat) : (Chip.modeRefuse c code tag).stores
    = c.stores := by
  rfl

@[simp] theorem Chip.modeRefuse_seat (c : Chip) (code : Nat) (tag : Nat) : (Chip.modeRefuse c code tag).seat =
    c.seat := by
  rfl

@[simp] theorem Chip.acceptReq_sound (c : Chip) (w : Half) (h : c.sound = true) : (Chip.acceptReq c w).sound =
    true := by
  simp (contextual := true) (maxDischargeDepth := 60) [Chip.acceptReq, h]

@[simp] theorem Chip.acceptReq_stores (c : Chip) (w : Half) : (Chip.acceptReq c w).stores = c.stores := by
  rfl

@[simp] theorem Chip.acceptReq_seat (c : Chip) (w : Half) : (Chip.acceptReq c w).seat = c.seat := by
  rfl

@[simp] theorem Chip.towpathRest_sound (c : Chip) (h : c.sound = true) : (Chip.towpathRest c).sound = true := by
  simp (contextual := true) (maxDischargeDepth := 60) [Chip.towpathRest, h]

@[simp] theorem Chip.towpathRest_stores (c : Chip) : (Chip.towpathRest c).stores = c.stores := by
  rfl

@[simp] theorem Chip.towpathRest_seat (c : Chip) : (Chip.towpathRest c).seat = c.seat := by
  rfl

@[simp] theorem Chip.stopFetch_sound (c : Chip) (h : c.sound = true) : (Chip.stopFetch c).sound = true := by
  simp (contextual := true) (maxDischargeDepth := 60) [Chip.stopFetch, h]

@[simp] theorem Chip.stopFetch_stores (c : Chip) : (Chip.stopFetch c).stores = c.stores := by
  simp [Chip.stopFetch]

@[simp] theorem Chip.stopFetch_seat (c : Chip) : (Chip.stopFetch c).seat = c.seat := by
  simp [Chip.stopFetch]

@[simp] theorem Chip.takeEdge_sound (c : Chip) (e : Edge) (t : Mode) (w : Half) (h : c.sound = true) :
    (Chip.takeEdge c e t w).sound = true := by
  unfold Chip.takeEdge; split <;> simp (contextual := true) (maxDischargeDepth := 60) [h]

@[simp] theorem Chip.takeEdge_seat (c : Chip) (e : Edge) (t : Mode) (w : Half) : (Chip.takeEdge c e t w).seat =
    c.seat := by
  unfold Chip.takeEdge; split <;> simp

@[simp] theorem Chip.moorEdge_sound (c : Chip) (w : Half) (h : c.sound = true) : (Chip.moorEdge c w).sound =
    true := by
  simp (contextual := true) (maxDischargeDepth := 60) [Chip.moorEdge, h]

@[simp] theorem Chip.moorEdge_stores (c : Chip) (w : Half) : (Chip.moorEdge c w).stores = c.stores := by
  simp [Chip.moorEdge]

@[simp] theorem Chip.moorEdge_seat (c : Chip) (w : Half) : (Chip.moorEdge c w).seat = c.seat := by
  simp [Chip.moorEdge]

@[simp] theorem Chip.sameMode_sound (c : Chip) (w : Half) (h : c.sound = true) : (Chip.sameMode c w).sound =
    true := by
  simp (contextual := true) (maxDischargeDepth := 60) [Chip.sameMode, h]

@[simp] theorem Chip.sameMode_stores (c : Chip) (w : Half) : (Chip.sameMode c w).stores = c.stores := by
  simp [Chip.sameMode]

@[simp] theorem Chip.sameMode_seat (c : Chip) (w : Half) : (Chip.sameMode c w).seat = c.seat := by
  simp [Chip.sameMode]

@[simp] theorem Chip.modeRequest_sound (c : Chip) (w : Half) (h : c.sound = true) : (Chip.modeRequest c w).sound
    = true := by
  unfold Chip.modeRequest; (repeat' split) <;> simp (contextual := true) (maxDischargeDepth := 60) [h]

@[simp] theorem Chip.modeRequest_seat (c : Chip) (w : Half) : (Chip.modeRequest c w).seat = c.seat := by
  unfold Chip.modeRequest; (repeat' split) <;> simp

@[simp] theorem Chip.entered_sound (c : Chip) (h : c.sound = true) : (Chip.entered c).sound = true := by
  simp (contextual := true) (maxDischargeDepth := 60) [Chip.entered, h]

@[simp] theorem Chip.entered_stores (c : Chip) : (Chip.entered c).stores = c.stores := by
  simp [Chip.entered]

@[simp] theorem Chip.entered_seat (c : Chip) : (Chip.entered c).seat = c.seat := by
  simp [Chip.entered]

@[simp] theorem Chip.enterPicture_sound (c : Chip) (m : Mode) (h : c.sound = true) : (Chip.enterPicture c
    m).sound = true := by
  simp (contextual := true) (maxDischargeDepth := 60) [Chip.enterPicture, h]

@[simp] theorem Chip.holdEntered_sound (c : Chip) (h : c.sound = true) : (Chip.holdEntered c).sound = true := by
  simp (contextual := true) (maxDischargeDepth := 60) [Chip.holdEntered, h]

@[simp] theorem Chip.reflostEnd_sound (c : Chip) (h : c.sound = true) : (Chip.reflostEnd c).sound = true := by
  simp (contextual := true) (maxDischargeDepth := 60) [Chip.reflostEnd, h]

@[simp] theorem Chip.asleep_sound (c : Chip) (cause : Nat) (h : c.sound = true) : (Chip.asleep c cause).sound =
    true := by
  simp (contextual := true) (maxDischargeDepth := 60) [Chip.asleep, h]

@[simp] theorem Chip.deferredWake_sound (c : Chip) (h : c.sound = true) : (Chip.deferredWake c).sound = true := by
  unfold Chip.deferredWake; split <;> simp (contextual := true) (maxDischargeDepth := 60) [h]

@[simp] theorem Chip.deferredWake_stores (c : Chip) : (Chip.deferredWake c).stores = c.stores := by
  unfold Chip.deferredWake; split <;> simp

@[simp] theorem Chip.deferredWake_seat (c : Chip) : (Chip.deferredWake c).seat = c.seat := by
  unfold Chip.deferredWake; split <;> simp

@[simp] theorem Chip.wakeFailEnd_sound (c : Chip) (h : c.sound = true) : (Chip.wakeFailEnd c).sound = true := by
  simp (contextual := true) (maxDischargeDepth := 60) [Chip.wakeFailEnd, h]

@[simp] theorem Chip.wakeEnd_sound (c : Chip) (h : c.sound = true) : (Chip.wakeEnd c).sound = true := by
  simp (contextual := true) (maxDischargeDepth := 60) [Chip.wakeEnd, h]

@[simp] theorem Chip.moorCapture_sound (c : Chip) (h : c.sound = true) : (Chip.moorCapture c).sound = true := by
  simp (contextual := true) (maxDischargeDepth := 60) [Chip.moorCapture, h]

@[simp] theorem Chip.moorCapture_stores (c : Chip) : (Chip.moorCapture c).stores = c.stores := by
  simp [Chip.moorCapture]

@[simp] theorem Chip.moorCapture_seat (c : Chip) : (Chip.moorCapture c).seat = c.seat := by
  simp [Chip.moorCapture]

@[simp] theorem Chip.moorCaptured_sound (c : Chip) (h : c.sound = true) : (Chip.moorCaptured c).1.sound = true := by
  unfold Chip.moorCaptured; repeat' first | split | simp (contextual := true) (maxDischargeDepth := 60) [*]

@[simp] theorem Chip.moorCaptured_stores (c : Chip) : (Chip.moorCaptured c).1.stores = c.stores := by
  unfold Chip.moorCaptured; repeat' first | split | simp [*]

@[simp] theorem Chip.moorCaptured_seat (c : Chip) : (Chip.moorCaptured c).1.seat = c.seat := by
  unfold Chip.moorCaptured; repeat' first | split | simp [*]

@[simp] theorem Chip.moorEnter_sound (c : Chip) (h : c.sound = true) : (Chip.moorEnter c).sound = true := by
  simp (contextual := true) (maxDischargeDepth := 60) [Chip.moorEnter, h]

@[simp] theorem Chip.moorEnter_seat (c : Chip) : (Chip.moorEnter c).seat = c.seat := by
  simp [Chip.moorEnter]

@[simp] theorem Chip.moorDecide_sound (c : Chip) (h : c.sound = true) : (Chip.moorDecide c).sound = true := by
  simp (contextual := true) (maxDischargeDepth := 60) [Chip.moorDecide, h]

@[simp] theorem Chip.moorDecide_seat (c : Chip) : (Chip.moorDecide c).seat = c.seat := by
  simp [Chip.moorDecide]

@[simp] theorem Chip.moorEnd_sound (c : Chip) (h : c.sound = true) : (Chip.moorEnd c).sound = true := by
  simp (contextual := true) (maxDischargeDepth := 60) [Chip.moorEnd, h]

@[simp] theorem Chip.moorEnd_stores (c : Chip) : (Chip.moorEnd c).stores = c.stores := by
  simp [Chip.moorEnd]

@[simp] theorem Chip.moorEnd_seat (c : Chip) : (Chip.moorEnd c).seat = c.seat := by
  simp [Chip.moorEnd]

@[simp] theorem Chip.moorStep_sound (c : Chip) (h : c.sound = true) : (Chip.moorStep c).sound = true := by
  unfold Chip.moorStep; split <;> simp (contextual := true) (maxDischargeDepth := 60) [h]

@[simp] theorem Chip.moorStep_seat (c : Chip) : (Chip.moorStep c).seat = c.seat := by
  unfold Chip.moorStep; split <;> simp

end Sys2Proof.Machine
end

