-- ==== Sys2Proof/Laws/Flash.lean ====
section
/-! SUPPORT. Every operation of Machine/Flash.lean keeps the part sound; those that touch no store leave the stores as
they are, and those that enter no mode leave the mode and its cause. -/

namespace Sys2Proof.Machine

open Sys2Proof

@[simp] theorem Chip.flashProgram_sound (c : Chip) (a : Nat) (bs : List Byte) (h : c.sound = true) :
    (Chip.flashProgram c a bs).sound = true := by
  simp (contextual := true) (maxDischargeDepth := 60) [Chip.flashProgram, Stores.wf_iff, h]

@[simp] theorem Chip.flashProgram_seat (c : Chip) (a : Nat) (bs : List Byte) : (Chip.flashProgram c a bs).seat =
    c.seat := by
  rfl

@[simp] theorem Chip.flashErase_sound (c : Chip) (a : Nat) (n : Nat) (h : c.sound = true) : (Chip.flashErase c a
    n).sound = true := by
  simp (contextual := true) (maxDischargeDepth := 60) [Chip.flashErase, Stores.wf_iff, h]

@[simp] theorem Chip.flashErase_seat (c : Chip) (a : Nat) (n : Nat) : (Chip.flashErase c a n).seat = c.seat := by
  rfl

@[simp] theorem Chip.flashOpen_sound (c : Chip) (a : Nat) (n : Nat) (h : c.sound = true) : (Chip.flashOpen c a
    n).sound = true := by
  simp (contextual := true) (maxDischargeDepth := 60) [Chip.flashOpen, Stores.wf_iff, h]

@[simp] theorem Chip.flashOpen_seat (c : Chip) (a : Nat) (n : Nat) : (Chip.flashOpen c a n).seat = c.seat := by
  rfl

@[simp] theorem Chip.giveFlash_sound (c : Chip) (h : c.sound = true) : (Chip.giveFlash c).sound = true := by
  simp (contextual := true) (maxDischargeDepth := 60) [Chip.giveFlash, h]

@[simp] theorem Chip.giveFlash_stores (c : Chip) : (Chip.giveFlash c).stores = c.stores := by
  simp [Chip.giveFlash]

@[simp] theorem Chip.giveFlash_seat (c : Chip) : (Chip.giveFlash c).seat = c.seat := by
  simp [Chip.giveFlash]

@[simp] theorem Chip.scanLedger_sound (c : Chip) (h : c.sound = true) : (Chip.scanLedger c).sound = true := by
  simp (contextual := true) (maxDischargeDepth := 60) [Chip.scanLedger, h]

@[simp] theorem Chip.scanLedger_stores (c : Chip) : (Chip.scanLedger c).stores = c.stores := by
  rfl

@[simp] theorem Chip.scanLedger_seat (c : Chip) : (Chip.scanLedger c).seat = c.seat := by
  rfl

@[simp] theorem Chip.popRecord_sound (c : Chip) (h : c.sound = true) : (Chip.popRecord c).sound = true := by
  simp (contextual := true) (maxDischargeDepth := 60) [Chip.popRecord, h]

@[simp] theorem Chip.popRecord_stores (c : Chip) : (Chip.popRecord c).stores = c.stores := by
  rfl

@[simp] theorem Chip.popRecord_seat (c : Chip) : (Chip.popRecord c).seat = c.seat := by
  rfl

@[simp] theorem Chip.attemptStart_sound (c : Chip) (h : c.sound = true) : (Chip.attemptStart c).sound = true := by
  unfold Chip.attemptStart; split <;> simp (contextual := true) (maxDischargeDepth := 60) [h]

@[simp] theorem Chip.attemptStart_seat (c : Chip) : (Chip.attemptStart c).seat = c.seat := by
  unfold Chip.attemptStart; split <;> simp

@[simp] theorem Chip.nextSlot_sound (c : Chip) (h : c.sound = true) : (Chip.nextSlot c).sound = true := by
  simp (contextual := true) (maxDischargeDepth := 60) [Chip.nextSlot, h]

@[simp] theorem Chip.nextSlot_stores (c : Chip) : (Chip.nextSlot c).stores = c.stores := by
  rfl

@[simp] theorem Chip.nextSlot_seat (c : Chip) : (Chip.nextSlot c).seat = c.seat := by
  rfl

@[simp] theorem Chip.attemptFail_sound (c : Chip) (h : c.sound = true) : (Chip.attemptFail c).sound = true := by
  simp (contextual := true) (maxDischargeDepth := 60) [Chip.attemptFail, h]

@[simp] theorem Chip.attemptFail_seat (c : Chip) : (Chip.attemptFail c).seat = c.seat := by
  rfl

@[simp] theorem Chip.attemptOver_sound (c : Chip) (h : c.sound = true) : (Chip.attemptOver c).sound = true := by
  unfold Chip.attemptOver; split <;> simp (contextual := true) (maxDischargeDepth := 60) [h]

@[simp] theorem Chip.attemptOver_stores (c : Chip) : (Chip.attemptOver c).stores = c.stores := by
  unfold Chip.attemptOver; split <;> simp

@[simp] theorem Chip.attemptOver_seat (c : Chip) : (Chip.attemptOver c).seat = c.seat := by
  unfold Chip.attemptOver; split <;> simp

@[simp] theorem Chip.appendReady_sound (c : Chip) (h : c.sound = true) : (Chip.appendReady c).sound = true := by
  unfold Chip.appendReady; split <;> simp (contextual := true) (maxDischargeDepth := 60) [h]

@[simp] theorem Chip.appendReady_seat (c : Chip) : (Chip.appendReady c).seat = c.seat := by
  unfold Chip.appendReady; split <;> simp

@[simp] theorem Chip.appendTimeout_sound (c : Chip) (h : c.sound = true) : (Chip.appendTimeout c).sound = true := by
  unfold Chip.appendTimeout; split <;> simp (contextual := true) (maxDischargeDepth := 60) [h]

@[simp] theorem Chip.appendTimeout_seat (c : Chip) : (Chip.appendTimeout c).seat = c.seat := by
  unfold Chip.appendTimeout; split <;> simp

@[simp] theorem Chip.appended_sound (c : Chip) (r : LedgerReq) (h : c.sound = true) : (Chip.appended c r).sound
    = true := by
  simp (contextual := true) (maxDischargeDepth := 60) [Chip.appended, h]

@[simp] theorem Chip.appended_stores (c : Chip) (r : LedgerReq) : (Chip.appended c r).stores = c.stores := by
  rfl

@[simp] theorem Chip.appended_seat (c : Chip) (r : LedgerReq) : (Chip.appended c r).seat = c.seat := by
  rfl

@[simp] theorem Chip.ledgerIdx_sound (c : Chip) (v : Word) (h : c.sound = true) : (Chip.ledgerIdx c v).sound =
    true := by
  simp (contextual := true) (maxDischargeDepth := 60) [Chip.ledgerIdx, h]

@[simp] theorem Chip.ledgerIdx_stores (c : Chip) (v : Word) : (Chip.ledgerIdx c v).stores = c.stores := by
  simp [Chip.ledgerIdx]

@[simp] theorem Chip.ledgerIdx_seat (c : Chip) (v : Word) : (Chip.ledgerIdx c v).seat = c.seat := by
  simp [Chip.ledgerIdx]

@[simp] theorem Chip.setHostBuf_sound (c : Chip) (bs : List Byte) (h : c.sound = true) : (Chip.setHostBuf c
    bs).sound = true := by
  simp (contextual := true) (maxDischargeDepth := 60) [Chip.setHostBuf, h]

@[simp] theorem Chip.setHostBuf_stores (c : Chip) (bs : List Byte) : (Chip.setHostBuf c bs).stores = c.stores := by
  simp [Chip.setHostBuf]

@[simp] theorem Chip.setHostBuf_seat (c : Chip) (bs : List Byte) : (Chip.setHostBuf c bs).seat = c.seat := by
  simp [Chip.setHostBuf]

@[simp] theorem Chip.hostEnd_sound (c : Chip) (err : Nat) (h : c.sound = true) : (Chip.hostEnd c err).sound =
    true := by
  simp (contextual := true) (maxDischargeDepth := 60) [Chip.hostEnd, h]

@[simp] theorem Chip.hostEnd_stores (c : Chip) (err : Nat) : (Chip.hostEnd c err).stores = c.stores := by
  rfl

@[simp] theorem Chip.hostEnd_seat (c : Chip) (err : Nat) : (Chip.hostEnd c err).seat = c.seat := by
  rfl

@[simp] theorem Chip.hostGo_sound (c : Chip) (op : Nat) (len : Nat) (answer : Nat) (h : c.sound = true) :
    (Chip.hostGo c op len answer).sound = true := by
  simp (contextual := true) (maxDischargeDepth := 60) [Chip.hostGo, h]

@[simp] theorem Chip.hostGo_stores (c : Chip) (op : Nat) (len : Nat) (answer : Nat) : (Chip.hostGo c op len
    answer).stores = c.stores := by
  simp [Chip.hostGo]

@[simp] theorem Chip.hostGo_seat (c : Chip) (op : Nat) (len : Nat) (answer : Nat) : (Chip.hostGo c op len
    answer).seat = c.seat := by
  simp [Chip.hostGo]

@[simp] theorem Chip.hostTouch_sound (c : Chip) (a : Nat) (n : Nat) (h : c.sound = true) : (Chip.hostTouch c a
    n).sound = true := by
  simp (contextual := true) (maxDischargeDepth := 60) [Chip.hostTouch, h]

@[simp] theorem Chip.hostTouch_stores (c : Chip) (a : Nat) (n : Nat) : (Chip.hostTouch c a n).stores = c.stores := by
  simp [Chip.hostTouch]

@[simp] theorem Chip.hostTouch_seat (c : Chip) (a : Nat) (n : Nat) : (Chip.hostTouch c a n).seat = c.seat := by
  simp [Chip.hostTouch]

@[simp] theorem Chip.hostPerform_sound (c : Chip) (h : c.sound = true) : (Chip.hostPerform c).sound = true := by
  unfold Chip.hostPerform; split <;> simp (contextual := true) (maxDischargeDepth := 60) [h]

@[simp] theorem Chip.hostPerform_seat (c : Chip) : (Chip.hostPerform c).seat = c.seat := by
  unfold Chip.hostPerform; split <;> simp

@[simp] theorem Chip.hostIdle_sound (c : Chip) (h : c.sound = true) : (Chip.hostIdle c).sound = true := by
  simp (contextual := true) (maxDischargeDepth := 60) [Chip.hostIdle, h]

@[simp] theorem Chip.hostIdle_stores (c : Chip) : (Chip.hostIdle c).stores = c.stores := by
  rfl

@[simp] theorem Chip.hostIdle_seat (c : Chip) : (Chip.hostIdle c).seat = c.seat := by
  rfl

@[simp] theorem Chip.hostCmd_sound (c : Chip) (v : Word) (h : c.sound = true) : (Chip.hostCmd c v).sound = true := by
  simp (contextual := true) (maxDischargeDepth := 60) [Chip.hostCmd, h]

@[simp] theorem Chip.hostCmd_stores (c : Chip) (v : Word) : (Chip.hostCmd c v).stores = c.stores := by
  simp [Chip.hostCmd]

@[simp] theorem Chip.hostCmd_seat (c : Chip) (v : Word) : (Chip.hostCmd c v).seat = c.seat := by
  simp [Chip.hostCmd]

@[simp] theorem Chip.otpCtl_sound (c : Chip) (v : Word) (h : c.sound = true) : (Chip.otpCtl c v).sound = true := by
  simp (contextual := true) (maxDischargeDepth := 60) [Chip.otpCtl, h]

@[simp] theorem Chip.otpCtl_stores (c : Chip) (v : Word) : (Chip.otpCtl c v).stores = c.stores := by
  simp [Chip.otpCtl]

@[simp] theorem Chip.otpCtl_seat (c : Chip) (v : Word) : (Chip.otpCtl c v).seat = c.seat := by
  simp [Chip.otpCtl]

end Sys2Proof.Machine
end

