-- ==== Sys2Proof/Laws/RegWrite.lean ====
section
/-! SUPPORT. Every operation of Machine/RegWrite.lean keeps the part sound; those that touch no store leave the stores as
they are, and those that enter no mode leave the mode and its cause. -/

namespace Sys2Proof.Machine

open Sys2Proof

@[simp] theorem Chip.arithClear_sound (c : Chip) (region : Nat) (h : c.sound = true) : (Chip.arithClear c
    region).sound = true := by
  simp (contextual := true) (maxDischargeDepth := 60) [Chip.arithClear, h]

@[simp] theorem Chip.arithClear_stores (c : Chip) (region : Nat) : (Chip.arithClear c region).stores = c.stores := by
  rfl

@[simp] theorem Chip.arithClear_seat (c : Chip) (region : Nat) : (Chip.arithClear c region).seat = c.seat := by
  rfl

@[simp] theorem Chip.countersClear_sound (c : Chip) (region : Nat) (h : c.sound = true) : (Chip.countersClear c
    region).sound = true := by
  simp (contextual := true) (maxDischargeDepth := 60) [Chip.countersClear, h]

@[simp] theorem Chip.countersClear_stores (c : Chip) (region : Nat) : (Chip.countersClear c region).stores =
    c.stores := by
  simp [Chip.countersClear]

@[simp] theorem Chip.countersClear_seat (c : Chip) (region : Nat) : (Chip.countersClear c region).seat = c.seat := by
  simp [Chip.countersClear]

@[simp] theorem Chip.storeWordAt_sound (c : Chip) (a : Nat) (w : Word) (h : c.sound = true) : (Chip.storeWordAt
    c a w).sound = true := by
  simp (contextual := true) (maxDischargeDepth := 60) [Chip.storeWordAt, h]

@[simp] theorem Chip.storeWordAt_stores (c : Chip) (a : Nat) (w : Word) : (Chip.storeWordAt c a w).stores =
    c.stores := by
  simp [Chip.storeWordAt]

@[simp] theorem Chip.storeWordAt_seat (c : Chip) (a : Nat) (w : Word) : (Chip.storeWordAt c a w).seat = c.seat := by
  simp [Chip.storeWordAt]

@[simp] theorem Chip.writeCkg_sound (c : Chip) (a : Nat) (w : Word) (pair : Bool) (h : c.sound = true) :
    (Chip.writeCkg c a w pair).sound = true := by
  unfold Chip.writeCkg; split <;> simp (contextual := true) (maxDischargeDepth := 60) [h]

@[simp] theorem Chip.writeCkg_stores (c : Chip) (a : Nat) (w : Word) (pair : Bool) : (Chip.writeCkg c a w
    pair).stores = c.stores := by
  simp [Chip.writeCkg]

@[simp] theorem Chip.writeCkg_seat (c : Chip) (a : Nat) (w : Word) (pair : Bool) : (Chip.writeCkg c a w
    pair).seat = c.seat := by
  simp [Chip.writeCkg]

@[simp] theorem Chip.writePwr_sound (c : Chip) (a : Nat) (w : Word) (h : c.sound = true) : (Chip.writePwr c a
    w).sound = true := by
  simp (contextual := true) (maxDischargeDepth := 60) [Chip.writePwr, h]

@[simp] theorem Chip.writePwr_stores (c : Chip) (a : Nat) (w : Word) : (Chip.writePwr c a w).stores = c.stores := by
  simp [Chip.writePwr]

@[simp] theorem Chip.writePwr_seat (c : Chip) (a : Nat) (w : Word) : (Chip.writePwr c a w).seat = c.seat := by
  simp [Chip.writePwr]

@[simp] theorem Chip.writeLdr_sound (c : Chip) (a : Nat) (w : Word) (h : c.sound = true) : (Chip.writeLdr c a
    w).sound = true := by
  simp (contextual := true) (maxDischargeDepth := 60) [Chip.writeLdr, h]

@[simp] theorem Chip.writeLdr_stores (c : Chip) (a : Nat) (w : Word) : (Chip.writeLdr c a w).stores = c.stores := by
  simp [Chip.writeLdr]

@[simp] theorem Chip.writeLdr_seat (c : Chip) (a : Nat) (w : Word) : (Chip.writeLdr c a w).seat = c.seat := by
  simp [Chip.writeLdr]

@[simp] theorem Chip.weirClear_sound (c : Chip) (ch : Nat) (h : c.sound = true) : (Chip.weirClear c ch).sound =
    true := by
  simp (contextual := true) (maxDischargeDepth := 60) [Chip.weirClear, h]

@[simp] theorem Chip.weirClear_stores (c : Chip) (ch : Nat) : (Chip.weirClear c ch).stores = c.stores := by
  rfl

@[simp] theorem Chip.weirClear_seat (c : Chip) (ch : Nat) : (Chip.weirClear c ch).seat = c.seat := by
  rfl

@[simp] theorem Chip.writeMc_sound (c : Chip) (ch : Nat) (a : Nat) (w : Word) (h : c.sound = true) :
    (Chip.writeMc c ch a w).sound = true := by
  unfold Chip.writeMc; split <;> simp (contextual := true) (maxDischargeDepth := 60) [h]

@[simp] theorem Chip.writeMc_seat (c : Chip) (ch : Nat) (a : Nat) (w : Word) : (Chip.writeMc c ch a w).seat =
    c.seat := by
  unfold Chip.writeMc; split <;> simp

@[simp] theorem Chip.writeMcx_sound (c : Chip) (a : Nat) (w : Word) (h : c.sound = true) : (Chip.writeMcx c a
    w).sound = true := by
  simp (contextual := true) (maxDischargeDepth := 60) [Chip.writeMcx, h]

@[simp] theorem Chip.writeMcx_stores (c : Chip) (a : Nat) (w : Word) : (Chip.writeMcx c a w).stores = c.stores := by
  simp [Chip.writeMcx]

@[simp] theorem Chip.writeMcx_seat (c : Chip) (a : Nat) (w : Word) : (Chip.writeMcx c a w).seat = c.seat := by
  simp [Chip.writeMcx]

@[simp] theorem Chip.writeVin_sound (c : Chip) (a : Nat) (w : Word) (h : c.sound = true) : (Chip.writeVin c a
    w).sound = true := by
  simp (contextual := true) (maxDischargeDepth := 60) [Chip.writeVin, h]

@[simp] theorem Chip.writeVin_stores (c : Chip) (a : Nat) (w : Word) : (Chip.writeVin c a w).stores = c.stores := by
  simp [Chip.writeVin]

@[simp] theorem Chip.writeVin_seat (c : Chip) (a : Nat) (w : Word) : (Chip.writeVin c a w).seat = c.seat := by
  simp [Chip.writeVin]

@[simp] theorem Chip.writeCsi_sound (c : Chip) (a : Nat) (w : Word) (h : c.sound = true) : (Chip.writeCsi c a
    w).sound = true := by
  simp (contextual := true) (maxDischargeDepth := 60) [Chip.writeCsi, h]

@[simp] theorem Chip.writeCsi_stores (c : Chip) (a : Nat) (w : Word) : (Chip.writeCsi c a w).stores = c.stores := by
  simp [Chip.writeCsi]

@[simp] theorem Chip.writeCsi_seat (c : Chip) (a : Nat) (w : Word) : (Chip.writeCsi c a w).seat = c.seat := by
  simp [Chip.writeCsi]

@[simp] theorem Chip.writeIsp_sound (c : Chip) (pipe : Nat) (a : Nat) (w : Word) (h : c.sound = true) :
    (Chip.writeIsp c pipe a w).sound = true := by
  simp (contextual := true) (maxDischargeDepth := 60) [Chip.writeIsp, h]

@[simp] theorem Chip.writeIsp_stores (c : Chip) (pipe : Nat) (a : Nat) (w : Word) : (Chip.writeIsp c pipe a
    w).stores = c.stores := by
  simp [Chip.writeIsp]

@[simp] theorem Chip.writeIsp_seat (c : Chip) (pipe : Nat) (a : Nat) (w : Word) : (Chip.writeIsp c pipe a w).seat =
    c.seat := by
  simp [Chip.writeIsp]

@[simp] theorem Chip.writeRtx_sound (c : Chip) (a : Nat) (w : Word) (h : c.sound = true) : (Chip.writeRtx c a
    w).sound = true := by
  simp (contextual := true) (maxDischargeDepth := 60) [Chip.writeRtx, h]

@[simp] theorem Chip.writeRtx_stores (c : Chip) (a : Nat) (w : Word) : (Chip.writeRtx c a w).stores = c.stores := by
  simp [Chip.writeRtx]

@[simp] theorem Chip.writeRtx_seat (c : Chip) (a : Nat) (w : Word) : (Chip.writeRtx c a w).seat = c.seat := by
  simp [Chip.writeRtx]

@[simp] theorem Chip.writeCmp_sound (c : Chip) (a : Nat) (w : Word) (mfst : Bool) (h : c.sound = true) :
    (Chip.writeCmp c a w mfst).sound = true := by
  simp (contextual := true) (maxDischargeDepth := 60) [Chip.writeCmp, h]

@[simp] theorem Chip.writeCmp_stores (c : Chip) (a : Nat) (w : Word) (mfst : Bool) : (Chip.writeCmp c a w
    mfst).stores = c.stores := by
  simp [Chip.writeCmp]

@[simp] theorem Chip.writeCmp_seat (c : Chip) (a : Nat) (w : Word) (mfst : Bool) : (Chip.writeCmp c a w
    mfst).seat = c.seat := by
  simp [Chip.writeCmp]

@[simp] theorem Chip.writeMov_sound (c : Chip) (a : Nat) (w : Word) (h : c.sound = true) : (Chip.writeMov c a
    w).sound = true := by
  simp (contextual := true) (maxDischargeDepth := 60) [Chip.writeMov, h]

@[simp] theorem Chip.writeMov_seat (c : Chip) (a : Nat) (w : Word) : (Chip.writeMov c a w).seat = c.seat := by
  simp [Chip.writeMov]

@[simp] theorem Chip.writeSo_sound (c : Chip) (so : Nat) (a : Nat) (w : Word) (mfst : Bool) (h : c.sound = true)
    : (Chip.writeSo c so a w mfst).sound = true := by
  unfold Chip.writeSo; split <;> simp (contextual := true) (maxDischargeDepth := 60) [h]

@[simp] theorem Chip.writeSo_seat (c : Chip) (so : Nat) (a : Nat) (w : Word) (mfst : Bool) : (Chip.writeSo c so
    a w mfst).seat = c.seat := by
  unfold Chip.writeSo; split <;> simp

@[simp] theorem Chip.writeBps_sound (c : Chip) (a : Nat) (w : Word) (h : c.sound = true) : (Chip.writeBps c a
    w).sound = true := by
  simp (contextual := true) (maxDischargeDepth := 60) [Chip.writeBps, h]

@[simp] theorem Chip.writeBps_stores (c : Chip) (a : Nat) (w : Word) : (Chip.writeBps c a w).stores = c.stores := by
  simp [Chip.writeBps]

@[simp] theorem Chip.writeBps_seat (c : Chip) (a : Nat) (w : Word) : (Chip.writeBps c a w).seat = c.seat := by
  simp [Chip.writeBps]

@[simp] theorem Chip.writeBsc_sound (c : Chip) (a : Nat) (w : Word) (h : c.sound = true) : (Chip.writeBsc c a
    w).sound = true := by
  simp (contextual := true) (maxDischargeDepth := 60) [Chip.writeBsc, h]

@[simp] theorem Chip.writeBsc_stores (c : Chip) (a : Nat) (w : Word) : (Chip.writeBsc c a w).stores = c.stores := by
  simp [Chip.writeBsc]

@[simp] theorem Chip.writeBsc_seat (c : Chip) (a : Nat) (w : Word) : (Chip.writeBsc c a w).seat = c.seat := by
  simp [Chip.writeBsc]

@[simp] theorem Chip.writeLtd_sound (c : Chip) (a : Nat) (w : Word) (h : c.sound = true) : (Chip.writeLtd c a
    w).sound = true := by
  simp (contextual := true) (maxDischargeDepth := 60) [Chip.writeLtd, h]

@[simp] theorem Chip.writeLtd_stores (c : Chip) (a : Nat) (w : Word) : (Chip.writeLtd c a w).stores = c.stores := by
  simp [Chip.writeLtd]

@[simp] theorem Chip.writeLtd_seat (c : Chip) (a : Nat) (w : Word) : (Chip.writeLtd c a w).seat = c.seat := by
  simp [Chip.writeLtd]

@[simp] theorem Chip.writeTwp_sound (c : Chip) (a : Nat) (w : Word) (h : c.sound = true) : (Chip.writeTwp c a
    w).sound = true := by
  simp (contextual := true) (maxDischargeDepth := 60) [Chip.writeTwp, h]

@[simp] theorem Chip.writeTwp_stores (c : Chip) (a : Nat) (w : Word) : (Chip.writeTwp c a w).stores = c.stores := by
  simp [Chip.writeTwp]

@[simp] theorem Chip.writeTwp_seat (c : Chip) (a : Nat) (w : Word) : (Chip.writeTwp c a w).seat = c.seat := by
  simp [Chip.writeTwp]

@[simp] theorem Chip.srcWrite_sound (c : Chip) (n : Nat) (a : Nat) (w : Word) (h : c.sound = true) :
    (Chip.srcWrite c n a w).sound = true := by
  simp (contextual := true) (maxDischargeDepth := 60) [Chip.srcWrite, h]

@[simp] theorem Chip.srcWrite_stores (c : Chip) (n : Nat) (a : Nat) (w : Word) : (Chip.srcWrite c n a w).stores
    = c.stores := by
  simp [Chip.srcWrite]

@[simp] theorem Chip.srcWrite_seat (c : Chip) (n : Nat) (a : Nat) (w : Word) : (Chip.srcWrite c n a w).seat =
    c.seat := by
  simp [Chip.srcWrite]

@[simp] theorem Chip.calCtl_sound (c : Chip) (w : Word) (h : c.sound = true) : (Chip.calCtl c w).sound = true := by
  simp (contextual := true) (maxDischargeDepth := 60) [Chip.calCtl, h]

@[simp] theorem Chip.calCtl_stores (c : Chip) (w : Word) : (Chip.calCtl c w).stores = c.stores := by
  simp [Chip.calCtl]

@[simp] theorem Chip.calCtl_seat (c : Chip) (w : Word) : (Chip.calCtl c w).seat = c.seat := by
  simp [Chip.calCtl]

@[simp] theorem Chip.lkkCtl_sound (c : Chip) (w : Word) (h : c.sound = true) : (Chip.lkkCtl c w).sound = true := by
  simp (contextual := true) (maxDischargeDepth := 60) [Chip.lkkCtl, h]

@[simp] theorem Chip.lkkCtl_stores (c : Chip) (w : Word) : (Chip.lkkCtl c w).stores = c.stores := by
  simp [Chip.lkkCtl]

@[simp] theorem Chip.lkkCtl_seat (c : Chip) (w : Word) : (Chip.lkkCtl c w).seat = c.seat := by
  simp [Chip.lkkCtl]

@[simp] theorem Chip.writeLkk_sound (c : Chip) (a : Nat) (w : Word) (h : c.sound = true) : (Chip.writeLkk c a
    w).sound = true := by
  unfold Chip.writeLkk; (repeat' split) <;> simp (contextual := true) (maxDischargeDepth := 60) [h]

@[simp] theorem Chip.writeLkk_stores (c : Chip) (a : Nat) (w : Word) : (Chip.writeLkk c a w).stores = c.stores := by
  simp [Chip.writeLkk]

@[simp] theorem Chip.writeLkk_seat (c : Chip) (a : Nat) (w : Word) : (Chip.writeLkk c a w).seat = c.seat := by
  simp [Chip.writeLkk]

@[simp] theorem Chip.writeBlock_sound (c : Chip) (a : Nat) (w : Word) (mfst : Bool) (pair : Bool) (h : c.sound =
    true) : (Chip.writeBlock c a w mfst pair).sound = true := by
  unfold Chip.writeBlock; (repeat' split) <;> simp (contextual := true) (maxDischargeDepth := 60) [h]

@[simp] theorem Chip.writeBlock_seat (c : Chip) (a : Nat) (w : Word) (mfst : Bool) (pair : Bool) :
    (Chip.writeBlock c a w mfst pair).seat = c.seat := by
  unfold Chip.writeBlock; split <;> simp

@[simp] theorem Chip.writeReg_sound (c : Chip) (a : Nat) (w : Word) (mfst : Bool) (pair : Bool) (h : c.sound =
    true) : (Chip.writeReg c a w mfst pair).sound = true := by
  unfold Chip.writeReg; (repeat' split) <;> simp (contextual := true) (maxDischargeDepth := 60) [h]

@[simp] theorem Chip.writeReg_seat (c : Chip) (a : Nat) (w : Word) (mfst : Bool) (pair : Bool) : (Chip.writeReg
    c a w mfst pair).seat = c.seat := by
  simp [Chip.writeReg]

@[simp] theorem Chip.hostStore_sound (c : Chip) (a : Nat) (v : Word) (mask : Word) (h : c.sound = true) :
    (Chip.hostStore c a v mask).sound = true := by
  unfold Chip.hostStore; (repeat' split) <;> simp (contextual := true) (maxDischargeDepth := 60) [h]

@[simp] theorem Chip.hostStore_seat (c : Chip) (a : Nat) (v : Word) (mask : Word) : (Chip.hostStore c a v
    mask).seat = c.seat := by
  simp [Chip.hostStore]

@[simp] theorem Chip.hostWrite_sound (c : Chip) (a : Nat) (v : Word) (mask : Word) (h : c.sound = true) :
    (Chip.hostWrite c a v mask).sound = true := by
  simp (contextual := true) (maxDischargeDepth := 60) [Chip.hostWrite, h]

@[simp] theorem Chip.hostWrite_seat (c : Chip) (a : Nat) (v : Word) (mask : Word) : (Chip.hostWrite c a v
    mask).seat = c.seat := by
  simp [Chip.hostWrite]

end Sys2Proof.Machine
end

