-- ==== Sys2Proof/Laws/RegRead.lean ====
section
/-! SUPPORT. Every operation of Machine/RegRead.lean keeps the part sound; those that touch no store leave the stores as
they are, and those that enter no mode leave the mode and its cause. -/

namespace Sys2Proof.Machine

open Sys2Proof

@[simp] theorem Chip.afterRead_sound (c : Chip) (a : Nat) (h : c.sound = true) : (Chip.afterRead c a).sound =
    true := by
  simp (contextual := true) (maxDischargeDepth := 60) [Chip.afterRead, h]

@[simp] theorem Chip.afterRead_stores (c : Chip) (a : Nat) : (Chip.afterRead c a).stores = c.stores := by
  simp [Chip.afterRead]

@[simp] theorem Chip.afterRead_seat (c : Chip) (a : Nat) : (Chip.afterRead c a).seat = c.seat := by
  simp [Chip.afterRead]

end Sys2Proof.Machine
end

