-- ==== Sys2Proof/Laws/Manifest.lean ====
section
/-! SUPPORT. Every operation of Machine/Manifest.lean keeps the part sound; those that touch no store leave the stores as
they are, and those that enter no mode leave the mode and its cause. -/

namespace Sys2Proof.Machine

open Sys2Proof

@[simp] theorem Chip.entrySkipped_sound (c : Chip) (h : c.sound = true) : (Chip.entrySkipped c).sound = true := by
  simp (contextual := true) (maxDischargeDepth := 60) [Chip.entrySkipped, h]

@[simp] theorem Chip.entrySkipped_stores (c : Chip) : (Chip.entrySkipped c).stores = c.stores := by
  rfl

@[simp] theorem Chip.entrySkipped_seat (c : Chip) : (Chip.entrySkipped c).seat = c.seat := by
  rfl

@[simp] theorem Chip.mfstWrite_sound (c : Chip) (boundary : Bool) (pair : Bool) (e : MfstEntry) (h : c.sound =
    true) : (Chip.mfstWrite c boundary pair e).sound = true := by
  unfold Chip.mfstWrite; (repeat' split) <;> simp (contextual := true) (maxDischargeDepth := 60) [h]

@[simp] theorem Chip.mfstWrite_seat (c : Chip) (boundary : Bool) (pair : Bool) (e : MfstEntry) : (Chip.mfstWrite
    c boundary pair e).seat = c.seat := by
  unfold Chip.mfstWrite; (repeat' split) <;> simp

@[simp] theorem Chip.mfstApply_sound (c : Chip) (boundary : Bool) (g : MfstGroup) (h : c.sound = true) :
    (Chip.mfstApply c boundary g).sound = true := by
  simp (contextual := true) (maxDischargeDepth := 60) [Chip.mfstApply, h]

@[simp] theorem Chip.mfstApply_seat (c : Chip) (boundary : Bool) (g : MfstGroup) : (Chip.mfstApply c boundary
    g).seat = c.seat := by
  simp [Chip.mfstApply]

@[simp] theorem Chip.mfstAll_sound (c : Chip) (gs : List MfstGroup) (h : c.sound = true) : (Chip.mfstAll c
    gs).sound = true := by
  simp (contextual := true) (maxDischargeDepth := 60) [Chip.mfstAll, h]

@[simp] theorem Chip.mfstAll_seat (c : Chip) (gs : List MfstGroup) : (Chip.mfstAll c gs).seat = c.seat := by
  simp [Chip.mfstAll]

@[simp] theorem Chip.mfstNext_sound (c : Chip) (g : MfstGroup) (rest : List MfstGroup) (h : c.sound = true) :
    (Chip.mfstNext c g rest).sound = true := by
  simp (contextual := true) (maxDischargeDepth := 60) [Chip.mfstNext, h]

@[simp] theorem Chip.mfstNext_seat (c : Chip) (g : MfstGroup) (rest : List MfstGroup) : (Chip.mfstNext c g
    rest).seat = c.seat := by
  simp [Chip.mfstNext]

@[simp] theorem Chip.mfstBoundary_sound (c : Chip) (h : c.sound = true) : (Chip.mfstBoundary c).sound = true := by
  unfold Chip.mfstBoundary; split <;> simp (contextual := true) (maxDischargeDepth := 60) [h]

@[simp] theorem Chip.mfstBoundary_seat (c : Chip) : (Chip.mfstBoundary c).seat = c.seat := by
  unfold Chip.mfstBoundary; split <;> simp

@[simp] theorem Chip.mfstBurstOver_sound (c : Chip) (inBlanking : Bool) (h : c.sound = true) :
    (Chip.mfstBurstOver c inBlanking).sound = true := by
  simp (contextual := true) (maxDischargeDepth := 60) [Chip.mfstBurstOver, h]

@[simp] theorem Chip.mfstBurstOver_stores (c : Chip) (inBlanking : Bool) : (Chip.mfstBurstOver c
    inBlanking).stores = c.stores := by
  simp [Chip.mfstBurstOver]

@[simp] theorem Chip.mfstBurstOver_seat (c : Chip) (inBlanking : Bool) : (Chip.mfstBurstOver c inBlanking).seat
    = c.seat := by
  simp [Chip.mfstBurstOver]

@[simp] theorem Chip.mfstStage_sound (c : Chip) (gs : List MfstGroup) (h : c.sound = true) : (Chip.mfstStage c
    gs).sound = true := by
  simp (contextual := true) (maxDischargeDepth := 60) [Chip.mfstStage, h]

@[simp] theorem Chip.mfstStage_seat (c : Chip) (gs : List MfstGroup) : (Chip.mfstStage c gs).seat = c.seat := by
  simp [Chip.mfstStage]

@[simp] theorem Chip.mfstTake_sound (c : Chip) (bs : List Byte) (h : c.sound = true) : (Chip.mfstTake c
    bs).sound = true := by
  simp (contextual := true) (maxDischargeDepth := 60) [Chip.mfstTake, h]

@[simp] theorem Chip.mfstTake_seat (c : Chip) (bs : List Byte) : (Chip.mfstTake c bs).seat = c.seat := by
  simp [Chip.mfstTake]

@[simp] theorem Chip.mfstClear_sound (c : Chip) (o : MfstOrigin) (w : Nat) (frame : Nat) (h : c.sound = true) :
    (Chip.mfstClear c o w frame).sound = true := by
  simp (contextual := true) (maxDischargeDepth := 60) [Chip.mfstClear, h]

@[simp] theorem Chip.mfstClear_stores (c : Chip) (o : MfstOrigin) (w : Nat) (frame : Nat) : (Chip.mfstClear c o
    w frame).stores = c.stores := by
  rfl

@[simp] theorem Chip.mfstClear_seat (c : Chip) (o : MfstOrigin) (w : Nat) (frame : Nat) : (Chip.mfstClear c o w
    frame).seat = c.seat := by
  rfl

@[simp] theorem Chip.mfstLaunch_sound (c : Chip) (h : c.sound = true) : (Chip.mfstLaunch c).sound = true := by
  simp (contextual := true) (maxDischargeDepth := 60) [Chip.mfstLaunch, h]

@[simp] theorem Chip.mfstLaunch_stores (c : Chip) : (Chip.mfstLaunch c).stores = c.stores := by
  simp [Chip.mfstLaunch]

@[simp] theorem Chip.mfstLaunch_seat (c : Chip) : (Chip.mfstLaunch c).seat = c.seat := by
  simp [Chip.mfstLaunch]

@[simp] theorem Chip.mfstStop_sound (c : Chip) (h : c.sound = true) : (Chip.mfstStop c).sound = true := by
  simp (contextual := true) (maxDischargeDepth := 60) [Chip.mfstStop, h]

@[simp] theorem Chip.mfstStop_stores (c : Chip) : (Chip.mfstStop c).stores = c.stores := by
  simp [Chip.mfstStop]

@[simp] theorem Chip.mfstStop_seat (c : Chip) : (Chip.mfstStop c).seat = c.seat := by
  simp [Chip.mfstStop]

@[simp] theorem Chip.mfstCtl_sound (c : Chip) (v : Half) (h : c.sound = true) : (Chip.mfstCtl c v).sound = true := by
  unfold Chip.mfstCtl; (repeat' split) <;> simp (contextual := true) (maxDischargeDepth := 60) [h]

@[simp] theorem Chip.mfstCtl_stores (c : Chip) (v : Half) : (Chip.mfstCtl c v).stores = c.stores := by
  simp [Chip.mfstCtl]

@[simp] theorem Chip.mfstCtl_seat (c : Chip) (v : Half) : (Chip.mfstCtl c v).seat = c.seat := by
  simp [Chip.mfstCtl]

@[simp] theorem Chip.hostTop_sound (c : Chip) (f : Chip → Chip) (h : c.sound = true) (hf : ∀ c : Chip, c.sound =
    true → (f c).sound = true) : (Chip.hostTop c f).sound = true := by
  simp (contextual := true) (maxDischargeDepth := 60) [Chip.hostTop, h, hf]

@[simp] theorem Chip.hostTop_stores (c : Chip) (f : Chip → Chip) (hf : ∀ c : Chip, (f c).stores = c.stores) :
    (Chip.hostTop c f).stores = c.stores := by
  simp [Chip.hostTop, hf]

@[simp] theorem Chip.hostTop_seat (c : Chip) (f : Chip → Chip) (hf : ∀ c : Chip, (f c).seat = c.seat) :
    (Chip.hostTop c f).seat = c.seat := by
  simp [Chip.hostTop, hf]

@[simp] theorem Chip.fetchDram_sound (c : Chip) (h : c.sound = true) : (Chip.fetchDram c).sound = true := by
  simp (contextual := true) (maxDischargeDepth := 60) [Chip.fetchDram, h]

@[simp] theorem Chip.fetchDram_seat (c : Chip) : (Chip.fetchDram c).seat = c.seat := by
  simp [Chip.fetchDram]

@[simp] theorem Chip.fetchDone_sound (c : Chip) (h : c.sound = true) : (Chip.fetchDone c).sound = true := by
  simp (contextual := true) (maxDischargeDepth := 60) [Chip.fetchDone, h]

@[simp] theorem Chip.fetchDone_seat (c : Chip) : (Chip.fetchDone c).seat = c.seat := by
  simp [Chip.fetchDone]

end Sys2Proof.Machine
end

