-- ==== Sys2Proof/Laws/Barges.lean ====
section
/-! SUPPORT. Every operation of Machine/Barges.lean keeps the part sound; those that touch no store leave the stores as
they are, and those that enter no mode leave the mode and its cause. -/

namespace Sys2Proof.Machine

open Sys2Proof

@[simp] theorem Chip.packetOver_sound (c : Chip) (h : c.sound = true) : (Chip.packetOver c).sound = true := by
  simp (contextual := true) (maxDischargeDepth := 60) [Chip.packetOver, h]

@[simp] theorem Chip.packetOver_seat (c : Chip) : (Chip.packetOver c).seat = c.seat := by
  simp [Chip.packetOver]

@[simp] theorem Chip.packetAccept_sound (c : Chip) (h : c.sound = true) : (Chip.packetAccept c).sound = true := by
  simp (contextual := true) (maxDischargeDepth := 60) [Chip.packetAccept, h]

@[simp] theorem Chip.packetAccept_stores (c : Chip) : (Chip.packetAccept c).stores = c.stores := by
  rfl

@[simp] theorem Chip.packetAccept_seat (c : Chip) : (Chip.packetAccept c).seat = c.seat := by
  rfl

@[simp] theorem Chip.packet_sound (c : Chip) (noBuf : Bool) (f : Chip → Chip) (h : c.sound = true) (hf : ∀ c :
    Chip, c.sound = true → (f c).sound = true) : (Chip.packet c noBuf f).sound = true := by
  simp (contextual := true) (maxDischargeDepth := 60) [Chip.packet, h, hf]

@[simp] theorem Chip.packet_seat (c : Chip) (noBuf : Bool) (f : Chip → Chip) (hf : ∀ c : Chip, (f c).seat =
    c.seat) : (Chip.packet c noBuf f).seat = c.seat := by
  simp [Chip.packet, hf]

@[simp] theorem Chip.lutKeep_sound (c : Chip) (h : c.sound = true) : (Chip.lutKeep c).sound = true := by
  simp (contextual := true) (maxDischargeDepth := 60) [Chip.lutKeep, h]

@[simp] theorem Chip.lutKeep_stores (c : Chip) : (Chip.lutKeep c).stores = c.stores := by
  rfl

@[simp] theorem Chip.lutKeep_seat (c : Chip) : (Chip.lutKeep c).seat = c.seat := by
  rfl

@[simp] theorem Chip.bargeLaunch_sound (c : Chip) (h : c.sound = true) : (Chip.bargeLaunch c).sound = true := by
  simp (contextual := true) (maxDischargeDepth := 60) [Chip.bargeLaunch, h]

@[simp] theorem Chip.bargeLaunch_seat (c : Chip) : (Chip.bargeLaunch c).seat = c.seat := by
  simp [Chip.bargeLaunch]

@[simp] theorem Chip.fencePacket_sound (c : Chip) (h : c.sound = true) : (Chip.fencePacket c).sound = true := by
  simp (contextual := true) (maxDischargeDepth := 60) [Chip.fencePacket, h]

@[simp] theorem Chip.fencePacket_seat (c : Chip) : (Chip.fencePacket c).seat = c.seat := by
  simp [Chip.fencePacket]

@[simp] theorem Chip.padPacket_sound (c : Chip) (h : c.sound = true) : (Chip.padPacket c).sound = true := by
  simp (contextual := true) (maxDischargeDepth := 60) [Chip.padPacket, h]

@[simp] theorem Chip.padPacket_stores (c : Chip) : (Chip.padPacket c).stores = c.stores := by
  rfl

@[simp] theorem Chip.padPacket_seat (c : Chip) : (Chip.padPacket c).seat = c.seat := by
  rfl

@[simp] theorem Chip.packetAny_sound (c : Chip) (h : c.sound = true) : (Chip.packetAny c).sound = true := by
  unfold Chip.packetAny; split <;> simp (contextual := true) (maxDischargeDepth := 60) [h]

@[simp] theorem Chip.packetAny_seat (c : Chip) : (Chip.packetAny c).seat = c.seat := by
  unfold Chip.packetAny; split <;> simp

@[simp] theorem Chip.fenceApply_sound (c : Chip) (h : c.sound = true) : (Chip.fenceApply c).sound = true := by
  unfold Chip.fenceApply; split <;> simp (contextual := true) (maxDischargeDepth := 60) [h]

@[simp] theorem Chip.fenceApply_stores (c : Chip) : (Chip.fenceApply c).stores = c.stores := by
  unfold Chip.fenceApply; split <;> simp

@[simp] theorem Chip.fenceApply_seat (c : Chip) : (Chip.fenceApply c).seat = c.seat := by
  unfold Chip.fenceApply; split <;> simp

@[simp] theorem Chip.lutWord_sound (c : Chip) (a : Nat) (v : Nat) (h : c.sound = true) : (Chip.lutWord c a
    v).sound = true := by
  simp (contextual := true) (maxDischargeDepth := 60) [Chip.lutWord, h]

@[simp] theorem Chip.lutWord_seat (c : Chip) (a : Nat) (v : Nat) : (Chip.lutWord c a v).seat = c.seat := by
  simp [Chip.lutWord]

@[simp] theorem Chip.lutWrite_sound (c : Chip) (p : LutPacket) (h : c.sound = true) : (Chip.lutWrite c p).sound
    = true := by
  simp (contextual := true) (maxDischargeDepth := 60) [Chip.lutWrite, h]

@[simp] theorem Chip.lutWrite_seat (c : Chip) (p : LutPacket) : (Chip.lutWrite c p).seat = c.seat := by
  simp [Chip.lutWrite]

@[simp] theorem Chip.bargeLuts_sound (c : Chip) (h : c.sound = true) : (Chip.bargeLuts c).sound = true := by
  simp (contextual := true) (maxDischargeDepth := 60) [Chip.bargeLuts, h]

@[simp] theorem Chip.bargeLuts_seat (c : Chip) : (Chip.bargeLuts c).seat = c.seat := by
  simp [Chip.bargeLuts]

@[simp] theorem Chip.drainStream_sound (fuel : Nat) (c : Chip) (h : c.sound = true) : (Chip.drainStream fuel
    c).sound = true := by
  induction fuel generalizing c with
  | zero => simpa [Chip.drainStream] using h
  | succ n ih =>
    unfold Chip.drainStream
    split
    · simp [h]
    · split
      · exact ih _ (by simp [h])
      · exact h

@[simp] theorem Chip.drainStream_seat (fuel : Nat) (c : Chip) : (Chip.drainStream fuel c).seat = c.seat := by
  induction fuel generalizing c with
  | zero => rfl
  | succ n ih =>
    unfold Chip.drainStream
    split
    · simp
    · split
      · simp [ih]
      · rfl

@[simp] theorem Chip.streamEnd_sound (c : Chip) (h : c.sound = true) : (Chip.streamEnd c).sound = true := by
  simp (contextual := true) (maxDischargeDepth := 60) [Chip.streamEnd, h]

@[simp] theorem Chip.streamEnd_seat (c : Chip) : (Chip.streamEnd c).seat = c.seat := by
  simp [Chip.streamEnd]

end Sys2Proof.Machine
end

