-- ==== Sys2Proof/Laws/Loading.lean ====
section
/-! SUPPORT. Every operation of Machine/Loading.lean keeps the part sound; those that touch no store leave the stores as
they are, and those that enter no mode leave the mode and its cause. -/

namespace Sys2Proof.Machine

open Sys2Proof

/-- Adding repairs leaves the fuses alone. -/
@[simp] theorem Loader.addRepairs_otp (l : Loader) (rs : List Repair) : (l.addRepairs rs).otp = l.otp := rfl

@[simp] theorem Chip.loadTime_sound (c : Chip) (h : c.sound = true) : (Chip.loadTime c).sound = true := by
  simp (contextual := true) (maxDischargeDepth := 60) [Chip.loadTime, h]

@[simp] theorem Chip.loadTime_stores (c : Chip) : (Chip.loadTime c).stores = c.stores := by
  rfl

@[simp] theorem Chip.loadTime_seat (c : Chip) : (Chip.loadTime c).seat = c.seat := by
  rfl

@[simp] theorem Chip.loadFail_sound (c : Chip) (err : Nat) (h : c.sound = true) : (Chip.loadFail c err).sound =
    true := by
  unfold Chip.loadFail
  refine Chip.beginEdge_sound _ _ _ (Chip.onMode_sound _ _ (Chip.onCmp_sound _ _ ?_ rfl))
  exact Chip.onLd_sound _ _ (by simp [h]) (Chip.otp_wf _ (by simp [h]))

@[simp] theorem Chip.loadFail_seat (c : Chip) (err : Nat) : (Chip.loadFail c err).seat = c.seat := by
  simp [Chip.loadFail]

@[simp] theorem Chip.loadFailAt_sound (c : Chip) (err : Nat) (sect : Nat) (ofs : Nat) (h : c.sound = true) :
    (Chip.loadFailAt c err sect ofs).sound = true := by
  simp (contextual := true) (maxDischargeDepth := 60) [Chip.loadFailAt, h]

@[simp] theorem Chip.loadFailAt_seat (c : Chip) (err : Nat) (sect : Nat) (ofs : Nat) : (Chip.loadFailAt c err
    sect ofs).seat = c.seat := by
  simp [Chip.loadFailAt]

@[simp] theorem Chip.loadMfst_sound (c : Chip) (code : Nat) (sect : Nat) (ofs : Nat) (h : c.sound = true) :
    (Chip.loadMfst c code sect ofs).sound = true := by
  simp (contextual := true) (maxDischargeDepth := 60) [Chip.loadMfst, h]

@[simp] theorem Chip.loadMfst_seat (c : Chip) (code : Nat) (sect : Nat) (ofs : Nat) : (Chip.loadMfst c code sect
    ofs).seat = c.seat := by
  simp [Chip.loadMfst]

@[simp] theorem Chip.otpProgram_sound (c : Chip) (n : Nat) (h : c.sound = true) : (Chip.otpProgram c n).sound =
    true := by
  simp (contextual := true) (maxDischargeDepth := 60) [Chip.otpProgram, h]

@[simp] theorem Chip.otpProgram_seat (c : Chip) (n : Nat) : (Chip.otpProgram c n).seat = c.seat := by
  simp [Chip.otpProgram]

@[simp] theorem Chip.loadOtp_sound (c : Chip) (h : c.sound = true) : (Chip.loadOtp c).sound = true := by
  simp (contextual := true) (maxDischargeDepth := 60) [Chip.loadOtp, h]

@[simp] theorem Chip.loadOtp_seat (c : Chip) : (Chip.loadOtp c).seat = c.seat := by
  simp [Chip.loadOtp]

@[simp] theorem Chip.loadStart_sound (c : Chip) (h : c.sound = true) : (Chip.loadStart c).sound = true := by
  simp (contextual := true) (maxDischargeDepth := 60) [Chip.loadStart, h]

@[simp] theorem Chip.loadStart_seat (c : Chip) : (Chip.loadStart c).seat = c.seat := by
  simp [Chip.loadStart]

@[simp] theorem Chip.loadEntered_sound (c : Chip) (h : c.sound = true) : (Chip.loadEntered c).sound = true := by
  simp (contextual := true) (maxDischargeDepth := 60) [Chip.loadEntered, h]

@[simp] theorem Chip.dirRead_sound (c : Chip) (h : List Byte) (hs : c.sound = true) : (Chip.dirRead c h).sound =
    true := by
  unfold Chip.dirRead
  extract_lets n d ss c1
  have h1 : c1.sound = true := Chip.onLd_sound _ _ hs (c.otp_wf hs)
  split
  · simp [h1]
  · split <;> simp [h1]

@[simp] theorem Chip.dirRead_seat (c : Chip) (h : List Byte) : (Chip.dirRead c h).seat = c.seat := by
  simp only [Chip.dirRead]; (repeat' split) <;> simp

@[simp] theorem Chip.headerRead_sound (c : Chip) (jedec : Nat) (h : c.sound = true) : (Chip.headerRead c
    jedec).sound = true := by
  simp (contextual := true) (maxDischargeDepth := 60) [Chip.headerRead, h]

@[simp] theorem Chip.headerRead_seat (c : Chip) (jedec : Nat) : (Chip.headerRead c jedec).seat = c.seat := by
  simp [Chip.headerRead]

@[simp] theorem Chip.deliverPpr_sound (c : Chip) (b : List Byte) (h : c.sound = true) : (Chip.deliverPpr c
    b).sound = true := by
  simp (contextual := true) (maxDischargeDepth := 60) [Chip.deliverPpr, h]

@[simp] theorem Chip.deliverPpr_stores (c : Chip) (b : List Byte) : (Chip.deliverPpr c b).stores = c.stores := by
  simp [Chip.deliverPpr]

@[simp] theorem Chip.deliverPpr_seat (c : Chip) (b : List Byte) : (Chip.deliverPpr c b).seat = c.seat := by
  simp [Chip.deliverPpr]

@[simp] theorem Chip.deliverRetired_sound (c : Chip) (b : List Byte) (h : c.sound = true) : (Chip.deliverRetired
    c b).sound = true := by
  simp (contextual := true) (maxDischargeDepth := 60) [Chip.deliverRetired, h]

@[simp] theorem Chip.deliverRetired_stores (c : Chip) (b : List Byte) : (Chip.deliverRetired c b).stores =
    c.stores := by
  simp [Chip.deliverRetired]

@[simp] theorem Chip.deliverRetired_seat (c : Chip) (b : List Byte) : (Chip.deliverRetired c b).seat = c.seat := by
  simp [Chip.deliverRetired]

@[simp] theorem Chip.deliverStuck_sound (c : Chip) (b : List Byte) (h : c.sound = true) : (Chip.deliverStuck c
    b).sound = true := by
  simp (contextual := true) (maxDischargeDepth := 60) [Chip.deliverStuck, h]

@[simp] theorem Chip.deliverStuck_stores (c : Chip) (b : List Byte) : (Chip.deliverStuck c b).stores = c.stores := by
  simp [Chip.deliverStuck]

@[simp] theorem Chip.deliverStuck_seat (c : Chip) (b : List Byte) : (Chip.deliverStuck c b).seat = c.seat := by
  simp [Chip.deliverStuck]

@[simp] theorem Chip.deliverRecord_sound (c : Chip) (b : List Byte) (h : c.sound = true) : (Chip.deliverRecord c
    b).sound = true := by
  unfold Chip.deliverRecord; split <;> simp (contextual := true) (maxDischargeDepth := 60) [h]

@[simp] theorem Chip.deliverRecord_stores (c : Chip) (b : List Byte) : (Chip.deliverRecord c b).stores =
    c.stores := by
  unfold Chip.deliverRecord; split <;> simp

@[simp] theorem Chip.deliverRecord_seat (c : Chip) (b : List Byte) : (Chip.deliverRecord c b).seat = c.seat := by
  unfold Chip.deliverRecord; split <;> simp

@[simp] theorem Chip.ledgerScan_sound (c : Chip) (h : c.sound = true) : (Chip.ledgerScan c).sound = true := by
  simp (contextual := true) (maxDischargeDepth := 60) [Chip.ledgerScan, h]

@[simp] theorem Chip.ledgerScan_stores (c : Chip) : (Chip.ledgerScan c).stores = c.stores := by
  simp [Chip.ledgerScan]

@[simp] theorem Chip.ledgerScan_seat (c : Chip) : (Chip.ledgerScan c).seat = c.seat := by
  simp [Chip.ledgerScan]

@[simp] theorem Chip.repairRecord_sound (c : Chip) (m : Nat) (r : Bool × Nat) (h : c.sound = true) :
    (Chip.repairRecord c m r).sound = true := by
  simp (contextual := true) (maxDischargeDepth := 60) [Chip.repairRecord, h]

@[simp] theorem Chip.repairRecord_stores (c : Chip) (m : Nat) (r : Bool × Nat) : (Chip.repairRecord c m
    r).stores = c.stores := by
  simp [Chip.repairRecord]

@[simp] theorem Chip.repairRecord_seat (c : Chip) (m : Nat) (r : Bool × Nat) : (Chip.repairRecord c m r).seat =
    c.seat := by
  simp [Chip.repairRecord]

@[simp] theorem Chip.repairMacro_sound (c : Chip) (m : Nat) (x : Spares) (h : c.sound = true) : (Chip.repairMacro c
    m x).sound = true := by
  simp (contextual := true) (maxDischargeDepth := 60) [Chip.repairMacro, h]

@[simp] theorem Chip.repairMacro_seat (c : Chip) (m : Nat) (x : Spares) : (Chip.repairMacro c m x).seat = c.seat := by
  simp [Chip.repairMacro]

@[simp] theorem Chip.laneMap_sound (c : Chip) (lanes : List Nat) (h : c.sound = true) : (Chip.laneMap c
    lanes).sound = true := by
  simp only [Chip.laneMap]; (repeat' split) <;> simp (contextual := true) (maxDischargeDepth := 60) [h]

@[simp] theorem Chip.laneMap_seat (c : Chip) (lanes : List Nat) : (Chip.laneMap c lanes).seat = c.seat := by
  simp only [Chip.laneMap]; (repeat' split) <;> simp

@[simp] theorem Chip.bistPhase1_sound (c : Chip) (fails : List (Nat × List (Nat × Nat))) (small : List Nat) (lanes :
    List Nat) (h : c.sound = true) : (Chip.bistPhase1 c fails small lanes).sound = true := by
  simp only [Chip.bistPhase1]; (repeat' split) <;> simp (contextual := true) (maxDischargeDepth := 60) [h]

@[simp] theorem Chip.bistPhase1_seat (c : Chip) (fails : List (Nat × List (Nat × Nat))) (small : List Nat)
    (lanes : List Nat) : (Chip.bistPhase1 c fails small lanes).seat = c.seat := by
  simp only [Chip.bistPhase1]; (repeat' split) <;> simp

@[simp] theorem Chip.bistPhase2_sound (c : Chip) (macros : List Nat) (lanes : List Nat) (h : c.sound = true) :
    (Chip.bistPhase2 c macros lanes).sound = true := by
  unfold Chip.bistPhase2; split <;> simp (contextual := true) (maxDischargeDepth := 60) [h]

@[simp] theorem Chip.bistPhase2_seat (c : Chip) (macros : List Nat) (lanes : List Nat) : (Chip.bistPhase2 c
    macros lanes).seat = c.seat := by
  unfold Chip.bistPhase2; split <;> simp

@[simp] theorem Chip.loadApply_sound (c : Chip) (bs : List Byte) (h : c.sound = true) : (Chip.loadApply c
    bs).sound = true := by
  simp (contextual := true) (maxDischargeDepth := 60) [Chip.loadApply, h]

@[simp] theorem Chip.loadApply_seat (c : Chip) (bs : List Byte) : (Chip.loadApply c bs).seat = c.seat := by
  simp [Chip.loadApply]

@[simp] theorem Chip.csrBlock_sound (c : Chip) (dest : Nat) (bs : List Byte) (h : c.sound = true) :
    (Chip.csrBlock c dest bs).sound = true := by
  simp (contextual := true) (maxDischargeDepth := 60) [Chip.csrBlock, h]

@[simp] theorem Chip.csrBlock_seat (c : Chip) (dest : Nat) (bs : List Byte) : (Chip.csrBlock c dest bs).seat =
    c.seat := by
  simp [Chip.csrBlock]

@[simp] theorem Chip.safeBlock_sound (c : Chip) (bs : List Byte) (h : c.sound = true) : (Chip.safeBlock c
    bs).sound = true := by
  unfold Chip.safeBlock
  have h1 := Chip.onCmp_sound c (fun k => { k with safe := SMap.setRun (fun _ => (0 : Byte)) k.safe 0 1 bs }) h
    (SMap.setRun_wf safeDefault bs c.cmp.safe 0 1 (c.safe_wf h))
  exact Chip.onLd_sound _ _ h1 (Chip.otp_wf _ h1)

@[simp] theorem Chip.safeBlock_seat (c : Chip) (bs : List Byte) : (Chip.safeBlock c bs).seat = c.seat := by
  rfl

@[simp] theorem Chip.sectionOver_sound (c : Chip) (h : c.sound = true) : (Chip.sectionOver c).sound = true := by
  simp (contextual := true) (maxDischargeDepth := 60) [Chip.sectionOver, h]

@[simp] theorem Chip.sectionOver_stores (c : Chip) : (Chip.sectionOver c).stores = c.stores := by
  rfl

@[simp] theorem Chip.sectionOver_seat (c : Chip) : (Chip.sectionOver c).seat = c.seat := by
  rfl

theorem Chip.placeSection_sound (c : Chip) (s : Section) (bs : List Byte) (d : Chip) (h : c.sound = true)
    (hd : c.placeSection s bs = some d) : d.sound = true := by
  unfold Chip.placeSection at hd
  (repeat' split at hd) <;> simp at hd <;> subst hd <;> simp [h]

@[simp] theorem Chip.sectionRead_sound (c : Chip) (s : Section) (h : c.sound = true) : (Chip.sectionRead c
    s).sound = true := by
  unfold Chip.sectionRead
  extract_lets bs
  split
  · simp [h]
  next c1 hp =>
    have h1 := c.placeSection_sound s bs c1 h hp
    (repeat' split) <;> simp [h1]

@[simp] theorem Chip.deferred_sound (c : Chip) (x : Section × Nat) (h : c.sound = true) : (Chip.deferred c
    x).sound = true := by
  simp (contextual := true) (maxDischargeDepth := 60) [Chip.deferred, h]

@[simp] theorem Chip.deferred_seat (c : Chip) (x : Section × Nat) : (Chip.deferred c x).seat = c.seat := by
  simp [Chip.deferred]

@[simp] theorem Chip.bodyDone_sound (c : Chip) (h : c.sound = true) : (Chip.bodyDone c).sound = true := by
  simp only [Chip.bodyDone]; (repeat' split) <;> simp (contextual := true) (maxDischargeDepth := 60) [h]

@[simp] theorem Chip.bodyDone_seat (c : Chip) : (Chip.bodyDone c).seat = c.seat := by
  simp [Chip.bodyDone]

@[simp] theorem Chip.loadComplete_sound (c : Chip) (h : c.sound = true) : (Chip.loadComplete c).sound = true := by
  simp (contextual := true) (maxDischargeDepth := 60) [Chip.loadComplete, h]

@[simp] theorem Chip.loadComplete_seat (c : Chip) : (Chip.loadComplete c).seat = c.seat := by
  simp [Chip.loadComplete]

@[simp] theorem Chip.loadFailEnd_sound (c : Chip) (h : c.sound = true) : (Chip.loadFailEnd c).sound = true := by
  simp (contextual := true) (maxDischargeDepth := 60) [Chip.loadFailEnd, h]

end Sys2Proof.Machine
end

