-- ==== Sys2Proof/Laws/Wharf.lean ====
section
/-! SUPPORT. Every operation of Machine/Wharf.lean keeps the part sound; those that touch no store leave the stores as
they are, and those that enter no mode leave the mode and its cause. -/

namespace Sys2Proof.Machine

open Sys2Proof

@[simp] theorem Chip.aperRead_sound (c : Chip) (a : Nat) (h : c.sound = true) : (Chip.aperRead c a).2.sound =
    true := by
  simp only [Chip.aperRead]; (repeat' split) <;> simp (contextual := true) (maxDischargeDepth := 60) [h]

@[simp] theorem Chip.aperRead_stores (c : Chip) (a : Nat) : (Chip.aperRead c a).2.stores = c.stores := by
  simp only [Chip.aperRead]; (repeat' split) <;> simp

@[simp] theorem Chip.aperRead_seat (c : Chip) (a : Nat) : (Chip.aperRead c a).2.seat = c.seat := by
  simp only [Chip.aperRead]; (repeat' split) <;> simp

@[simp] theorem Chip.aperWrite_sound (c : Chip) (a : Nat) (v : Word) (h : c.sound = true) : (Chip.aperWrite c a
    v).sound = true := by
  simp only [Chip.aperWrite]; (repeat' split) <;> simp (contextual := true) (maxDischargeDepth := 60) [h]

@[simp] theorem Chip.aperWrite_seat (c : Chip) (a : Nat) (v : Word) : (Chip.aperWrite c a v).seat = c.seat := by
  simp only [Chip.aperWrite]; (repeat' split) <;> simp

@[simp] theorem Chip.hostRead_sound (c : Chip) (a : Nat) (h : c.sound = true) : (Chip.hostRead c a).2.sound =
    true := by
  unfold Chip.hostRead; split <;> simp (contextual := true) (maxDischargeDepth := 60) [h]

@[simp] theorem Chip.hostRead_stores (c : Chip) (a : Nat) : (Chip.hostRead c a).2.stores = c.stores := by
  unfold Chip.hostRead; split <;> simp

@[simp] theorem Chip.hostRead_seat (c : Chip) (a : Nat) : (Chip.hostRead c a).2.seat = c.seat := by
  unfold Chip.hostRead; split <;> simp

@[simp] theorem Chip.startPrefetch_sound (c : Chip) (h : c.sound = true) : (Chip.startPrefetch c).sound = true := by
  simp (contextual := true) (maxDischargeDepth := 60) [Chip.startPrefetch, h]

@[simp] theorem Chip.startPrefetch_stores (c : Chip) : (Chip.startPrefetch c).stores = c.stores := by
  rfl

@[simp] theorem Chip.startPrefetch_seat (c : Chip) : (Chip.startPrefetch c).seat = c.seat := by
  rfl

@[simp] theorem Chip.holderTake_sound (r : Word × Chip) (h : r.2.sound = true) : (Chip.holderTake r).sound = true := by
  simp [Chip.holderTake, h]

@[simp] theorem Chip.holderTake_seat (r : Word × Chip) : (Chip.holderTake r).seat = r.2.seat := by
  simp [Chip.holderTake]

@[simp] theorem Chip.prefetchDone_sound (c : Chip) (h : c.sound = true) : (Chip.prefetchDone c).sound = true := by
  unfold Chip.prefetchDone
  split
  · exact h
  · split <;> simp [h]

@[simp] theorem Chip.prefetchDone_seat (c : Chip) : (Chip.prefetchDone c).seat = c.seat := by
  unfold Chip.prefetchDone; (repeat' split) <;> simp

@[simp] theorem Chip.drainPop_sound (c : Chip) (h : c.sound = true) : (Chip.drainPop c).sound = true := by
  simp (contextual := true) (maxDischargeDepth := 60) [Chip.drainPop, h]

@[simp] theorem Chip.drainPop_stores (c : Chip) : (Chip.drainPop c).stores = c.stores := by
  rfl

@[simp] theorem Chip.drainPop_seat (c : Chip) : (Chip.drainPop c).seat = c.seat := by
  rfl

@[simp] theorem Chip.iaddrWrite_sound (c : Chip) (high : Bool) (v : Half) (h : c.sound = true) :
    (Chip.iaddrWrite c high v).sound = true := by
  simp (contextual := true) (maxDischargeDepth := 60) [Chip.iaddrWrite, h]

@[simp] theorem Chip.iaddrWrite_stores (c : Chip) (high : Bool) (v : Half) : (Chip.iaddrWrite c high v).stores =
    c.stores := by
  rfl

@[simp] theorem Chip.iaddrWrite_seat (c : Chip) (high : Bool) (v : Half) : (Chip.iaddrWrite c high v).seat =
    c.seat := by
  rfl

@[simp] theorem Chip.iaddrNext_sound (c : Chip) (h : c.sound = true) : (Chip.iaddrNext c).sound = true := by
  simp (contextual := true) (maxDischargeDepth := 60) [Chip.iaddrNext, h]

@[simp] theorem Chip.iaddrNext_stores (c : Chip) : (Chip.iaddrNext c).stores = c.stores := by
  rfl

@[simp] theorem Chip.iaddrNext_seat (c : Chip) : (Chip.iaddrNext c).seat = c.seat := by
  rfl

@[simp] theorem Chip.idataHiPut_sound (c : Chip) (v : Half) (h : c.sound = true) : (Chip.idataHiPut c v).sound =
    true := by
  simp (contextual := true) (maxDischargeDepth := 60) [Chip.idataHiPut, h]

@[simp] theorem Chip.idataHiPut_stores (c : Chip) (v : Half) : (Chip.idataHiPut c v).stores = c.stores := by
  rfl

@[simp] theorem Chip.idataHiPut_seat (c : Chip) (v : Half) : (Chip.idataHiPut c v).seat = c.seat := by
  rfl

@[simp] theorem Chip.idataLoPut_sound (c : Chip) (v : Half) (h : c.sound = true) : (Chip.idataLoPut c v).sound =
    true := by
  simp (contextual := true) (maxDischargeDepth := 60) [Chip.idataLoPut, h]

@[simp] theorem Chip.idataLoPut_stores (c : Chip) (v : Half) : (Chip.idataLoPut c v).stores = c.stores := by
  rfl

@[simp] theorem Chip.idataLoPut_seat (c : Chip) (v : Half) : (Chip.idataLoPut c v).seat = c.seat := by
  rfl

@[simp] theorem Chip.idataHiGet_sound (c : Chip) (h : c.sound = true) : (Chip.idataHiGet c).2.sound = true := by
  simp (contextual := true) (maxDischargeDepth := 60) [Chip.idataHiGet, h]

@[simp] theorem Chip.idataHiGet_stores (c : Chip) : (Chip.idataHiGet c).2.stores = c.stores := by
  simp [Chip.idataHiGet]

@[simp] theorem Chip.idataHiGet_seat (c : Chip) : (Chip.idataHiGet c).2.seat = c.seat := by
  simp [Chip.idataHiGet]

@[simp] theorem Chip.crcEnPut_sound (c : Chip) (v : Half) (h : c.sound = true) : (Chip.crcEnPut c v).sound =
    true := by
  simp (contextual := true) (maxDischargeDepth := 60) [Chip.crcEnPut, h]

@[simp] theorem Chip.crcEnPut_stores (c : Chip) (v : Half) : (Chip.crcEnPut c v).stores = c.stores := by
  rfl

@[simp] theorem Chip.crcEnPut_seat (c : Chip) (v : Half) : (Chip.crcEnPut c v).seat = c.seat := by
  rfl

@[simp] theorem Chip.evtClear_sound (c : Chip) (v : Half) (h : c.sound = true) : (Chip.evtClear c v).sound =
    true := by
  simp (contextual := true) (maxDischargeDepth := 60) [Chip.evtClear, h]

@[simp] theorem Chip.evtClear_stores (c : Chip) (v : Half) : (Chip.evtClear c v).stores = c.stores := by
  rfl

@[simp] theorem Chip.evtClear_seat (c : Chip) (v : Half) : (Chip.evtClear c v).seat = c.seat := by
  rfl

@[simp] theorem Chip.errClear_sound (c : Chip) (v : Half) (h : c.sound = true) : (Chip.errClear c v).sound =
    true := by
  unfold Chip.errClear; split <;> simp (contextual := true) (maxDischargeDepth := 60) [h]

@[simp] theorem Chip.errClear_stores (c : Chip) (v : Half) : (Chip.errClear c v).stores = c.stores := by
  rfl

@[simp] theorem Chip.errClear_seat (c : Chip) (v : Half) : (Chip.errClear c v).seat = c.seat := by
  rfl

theorem Chip.topWrite_sound (c : Chip) (t : Nat) (v : Half) (d : Chip) (h : c.sound = true)
    (hd : c.topWrite t v = some d) : d.sound = true := by
  unfold Chip.topWrite at hd
  split at hd
  case h_19 => split at hd <;> simp_all
  all_goals
    simp only [Option.some.injEq] at hd
    subst hd
    simp [h]

@[simp] theorem Chip.sendStatus_sound (c : Chip) (h : c.sound = true) : (Chip.sendStatus c).sound = true := by
  simp (contextual := true) (maxDischargeDepth := 60) [Chip.sendStatus, h]

@[simp] theorem Chip.sendStatus_stores (c : Chip) : (Chip.sendStatus c).stores = c.stores := by
  rfl

@[simp] theorem Chip.sendStatus_seat (c : Chip) : (Chip.sendStatus c).seat = c.seat := by
  rfl

@[simp] theorem Chip.accept_sound (c : Chip) (h : c.sound = true) : (Chip.accept c).sound = true := by
  simp (contextual := true) (maxDischargeDepth := 60) [Chip.accept, h]

@[simp] theorem Chip.accept_stores (c : Chip) : (Chip.accept c).stores = c.stores := by
  rfl

@[simp] theorem Chip.accept_seat (c : Chip) : (Chip.accept c).seat = c.seat := by
  rfl

@[simp] theorem Chip.crcFail_sound (c : Chip) (h : c.sound = true) : (Chip.crcFail c).sound = true := by
  simp (contextual := true) (maxDischargeDepth := 60) [Chip.crcFail, h]

@[simp] theorem Chip.crcFail_stores (c : Chip) : (Chip.crcFail c).stores = c.stores := by
  rfl

@[simp] theorem Chip.crcFail_seat (c : Chip) : (Chip.crcFail c).seat = c.seat := by
  rfl

@[simp] theorem Chip.onPins_sound (c : Chip) (f : Pins → Pins) (h : c.sound = true) : (Chip.onPins c f).sound =
    true := by
  simp (contextual := true) (maxDischargeDepth := 60) [Chip.onPins, h]

@[simp] theorem Chip.onPins_stores (c : Chip) (f : Pins → Pins) : (Chip.onPins c f).stores = c.stores := by
  rfl

@[simp] theorem Chip.onPins_seat (c : Chip) (f : Pins → Pins) : (Chip.onPins c f).seat = c.seat := by
  rfl

@[simp] theorem Chip.drive_sound (c : Chip) (bs : List Byte) (h : c.sound = true) : (Chip.drive c bs).sound =
    true := by
  simp (contextual := true) (maxDischargeDepth := 60) [Chip.drive, h]

@[simp] theorem Chip.drive_stores (c : Chip) (bs : List Byte) : (Chip.drive c bs).stores = c.stores := by
  rfl

@[simp] theorem Chip.drive_seat (c : Chip) (bs : List Byte) : (Chip.drive c bs).seat = c.seat := by
  rfl

@[simp] theorem Chip.release_sound (c : Chip) (h : c.sound = true) : (Chip.release c).sound = true := by
  simp (contextual := true) (maxDischargeDepth := 60) [Chip.release, h]

@[simp] theorem Chip.release_stores (c : Chip) : (Chip.release c).stores = c.stores := by
  rfl

@[simp] theorem Chip.release_seat (c : Chip) : (Chip.release c).seat = c.seat := by
  rfl

@[simp] theorem Chip.unanswered_sound (c : Chip) (h : c.sound = true) : (Chip.unanswered c).sound = true := by
  simp (contextual := true) (maxDischargeDepth := 60) [Chip.unanswered, h]

@[simp] theorem Chip.unanswered_stores (c : Chip) : (Chip.unanswered c).stores = c.stores := by
  rfl

@[simp] theorem Chip.unanswered_seat (c : Chip) : (Chip.unanswered c).seat = c.seat := by
  rfl

@[simp] theorem Chip.sleepTransaction_sound (c : Chip) (bytes : List Byte) (h : c.sound = true) :
    (Chip.sleepTransaction c bytes).sound = true := by
  unfold Chip.sleepTransaction; split <;> simp (contextual := true) (maxDischargeDepth := 60) [h]

@[simp] theorem Chip.sleepTransaction_seat (c : Chip) (bytes : List Byte) : (Chip.sleepTransaction c bytes).seat
    = c.seat := by
  unfold Chip.sleepTransaction; split <;> simp

@[simp] theorem Chip.transaction_sound (c : Chip) (dev : Nat) (bytes : List Byte) (f : Chip → Chip) (h : c.sound =
    true) (hf : ∀ c : Chip, c.sound = true → (f c).sound = true) : (Chip.transaction c dev bytes f).sound = true :=
    by
  simp (contextual := true) (maxDischargeDepth := 60) [Chip.transaction, h, hf]

@[simp] theorem Chip.transaction_seat (c : Chip) (dev : Nat) (bytes : List Byte) (f : Chip → Chip) (hf : ∀ c : Chip,
    (f c).seat = c.seat) : (Chip.transaction c dev bytes f).seat = c.seat := by
  simp [Chip.transaction, hf]

@[simp] theorem Chip.writeWord_sound (c : Chip) (a : Nat) (v : Half) (h : c.sound = true) : (Chip.writeWord c a
    v).sound = true := by
  unfold Chip.writeWord
  split
  · simp [h]
  · split
    next c1 hw => exact c.topWrite_sound a v c1 h hw
    · simp [h]

@[simp] theorem Chip.writeTransaction_sound (c : Chip) (bytes : List Byte) (h : c.sound = true) :
    (Chip.writeTransaction c bytes).sound = true := by
  unfold Chip.writeTransaction
  extract_lets crc n status c0 as c1
  have h0 : c0.sound = true := by simp only [c0]; (repeat' split) <;> simp [h]
  have h1 : c1.sound = true := Chip.foldl_sound _ _ _ h0 fun c x hc => c.writeWord_sound _ _ hc
  clear_value c0 c1
  (repeat' split) <;> simp [h0, h1]

theorem ReadRun.zero_sound (r : ReadRun) (e : Option Nat) (h : r.chip.sound = true) : (r.zero e).chip.sound = true := by
  unfold ReadRun.zero; cases e <;> simp [h]

theorem ReadRun.wait_sound (r : ReadRun) (h : r.chip.sound = true) : r.wait.chip.sound = true := by
  unfold ReadRun.wait; split <;> simp [h]

@[simp] theorem ReadRun.wait_seat (r : ReadRun) : r.wait.chip.seat = r.chip.seat := by
  unfold ReadRun.wait; split <;> simp

theorem ReadRun.high_sound (r : ReadRun) (h : r.chip.sound = true) : r.high.chip.sound = true := by
  have hw := r.wait_sound h
  unfold ReadRun.high
  generalize r.wait = w at hw
  by_cases hd : w.dead = true
  · rw [if_pos hd]; exact w.zero_sound none hw
  · rw [if_neg hd]
    by_cases hy : w.chip.wh.ready = true
    · rw [if_pos hy]; exact Chip.idataHiGet_sound _ hw
    · rw [if_neg hy]
      by_cases hi : w.chip.wh.i2c = true
      · rw [if_pos hi]; exact w.zero_sound (some erStretch) hw
      · rw [if_neg hi]; exact w.zero_sound (some erNotready) hw

theorem ReadRun.ite_sound (p : Prop) [Decidable p] (a b : ReadRun) (ha : a.chip.sound = true)
    (hb : b.chip.sound = true) : (if p then a else b).chip.sound = true := by
  split <;> assumption

theorem ReadRun.word_sound (r : ReadRun) (a : Nat) (h : r.chip.sound = true) : (r.word a).chip.sound = true := by
  unfold ReadRun.word
  refine ReadRun.ite_sound _ _ _ (r.zero_sound none h) ?_
  refine ReadRun.ite_sound _ _ _ (r.zero_sound (some erBusyMfst) h) ?_
  refine ReadRun.ite_sound _ _ _ (r.high_sound h) ?_
  refine ReadRun.ite_sound _ _ _ (r.zero_sound none h) ?_
  cases r.chip.topRead a with
  | some v => exact h
  | none => exact r.zero_sound (some erUnimpl) h

@[simp] theorem Chip.serve_sound (c : Chip) (as : List Nat) (n : Nat) (h : c.sound = true) :
    (c.serve as n).chip.sound = true := by
  have hf : ∀ (l : List Nat) (r : ReadRun), r.chip.sound = true → (l.foldl ReadRun.word r).chip.sound = true := by
    intro l
    induction l with
    | nil => exact fun _ hr => hr
    | cons a t ih => exact fun r hr => ih _ (r.word_sound a hr)
  unfold Chip.serve
  split
  · exact hf as _ (by simp [h])
  · exact hf as _ h

@[simp] theorem Chip.readTransaction_sound (c : Chip) (bytes : List Byte) (begun : Nat) (prefetches : Nat) (h :
    c.sound = true) : (Chip.readTransaction c bytes begun prefetches).sound = true := by
  unfold Chip.readTransaction
  extract_lets crc cmd head n extra whole got status c0 r c1
  have h0 : c0.sound = true := by simp [c0, h]
  have hr : r.chip.sound = true := Chip.serve_sound _ _ _ h0
  have h1 : c1.sound = true := by simp [c1, hr]
  clear_value c0 r c1
  (repeat' split) <;> simp [h, h0, h1]

@[simp] theorem Chip.stretchTimeout_sound (c : Chip) (bytes : List Byte) (served : Nat) (h : c.sound = true) :
    (Chip.stretchTimeout c bytes served).sound = true := by
  unfold Chip.stretchTimeout
  extract_lets cmd status as r words
  have hr : r.chip.sound = true := Chip.serve_sound _ _ _ (by simp [h])
  clear_value r
  split
  · exact h
  · exact Chip.release_sound _ (Chip.drive_sound _ _ (Chip.whErr_sound _ _ hr))

@[simp] theorem Chip.window_sound (c : Chip) (f : Chip → Chip) (h : c.sound = true) (hf : ∀ c : Chip, c.sound = true
    → (f c).sound = true) : (Chip.window c f).sound = true := by
  simp (contextual := true) (maxDischargeDepth := 60) [Chip.window, h, hf]

@[simp] theorem Chip.window_stores (c : Chip) (f : Chip → Chip) (hf : ∀ c : Chip, (f c).stores = c.stores) :
    (Chip.window c f).stores = c.stores := by
  simp [Chip.window, hf]

@[simp] theorem Chip.window_seat (c : Chip) (f : Chip → Chip) (hf : ∀ c : Chip, (f c).seat = c.seat) : (Chip.window
    c f).seat = c.seat := by
  simp [Chip.window, hf]

@[simp] theorem Chip.idataHiRead_sound (c : Chip) (h : c.sound = true) : (Chip.idataHiRead c).sound = true := by
  simp (contextual := true) (maxDischargeDepth := 60) [Chip.idataHiRead, h]

@[simp] theorem Chip.idataHiRead_seat (c : Chip) : (Chip.idataHiRead c).seat = c.seat := by
  simp [Chip.idataHiRead]

@[simp] theorem Chip.registerWrite_sound (c : Chip) (a : Nat) (v : Word) (mask : Word) (h : c.sound = true) :
    (Chip.registerWrite c a v mask).sound = true := by
  simp (contextual := true) (maxDischargeDepth := 60) [Chip.registerWrite, h]

end Sys2Proof.Machine
end

