-- ==== Sys2Proof/Laws/Debug.lean ====
section
/-! SUPPORT. Every operation of Machine/Debug.lean keeps the part sound; those that touch no store leave the stores as
they are, and those that enter no mode leave the mode and its cause. -/

namespace Sys2Proof.Machine

open Sys2Proof

@[simp] theorem Chip.onTap_sound (c : Chip) (f : Tap → Tap) (h : c.sound = true) : (Chip.onTap c f).sound = true := by
  simp (contextual := true) (maxDischargeDepth := 60) [Chip.onTap, h]

@[simp] theorem Chip.onTap_stores (c : Chip) (f : Tap → Tap) : (Chip.onTap c f).stores = c.stores := by
  rfl

@[simp] theorem Chip.onTap_seat (c : Chip) (f : Tap → Tap) : (Chip.onTap c f).seat = c.seat := by
  rfl

@[simp] theorem Chip.atTap_sound (c : Chip) (f : Chip → Chip) (h : c.sound = true) (hf : ∀ c : Chip, c.sound =
    true → (f c).sound = true) : (Chip.atTap c f).sound = true := by
  simp (contextual := true) (maxDischargeDepth := 60) [Chip.atTap, h, hf]

@[simp] theorem Chip.atTap_stores (c : Chip) (f : Chip → Chip) (hf : ∀ c : Chip, (f c).stores = c.stores) :
    (Chip.atTap c f).stores = c.stores := by
  simp [Chip.atTap, hf]

@[simp] theorem Chip.atTap_seat (c : Chip) (f : Chip → Chip) (hf : ∀ c : Chip, (f c).seat = c.seat) :
    (Chip.atTap c f).seat = c.seat := by
  simp [Chip.atTap, hf]

@[simp] theorem Chip.tapSelect_sound (c : Chip) (ir : Nat) (h : c.sound = true) : (Chip.tapSelect c ir).sound =
    true := by
  simp (contextual := true) (maxDischargeDepth := 60) [Chip.tapSelect, h]

@[simp] theorem Chip.tapSelect_stores (c : Chip) (ir : Nat) : (Chip.tapSelect c ir).stores = c.stores := by
  rfl

@[simp] theorem Chip.tapSelect_seat (c : Chip) (ir : Nat) : (Chip.tapSelect c ir).seat = c.seat := by
  rfl

@[simp] theorem Chip.tapRequest_sound (c : Chip) (dr : Nat) (h : c.sound = true) : (Chip.tapRequest c dr).sound
    = true := by
  simp (contextual := true) (maxDischargeDepth := 60) [Chip.tapRequest, h]

@[simp] theorem Chip.tapRequest_stores (c : Chip) (dr : Nat) : (Chip.tapRequest c dr).stores = c.stores := by
  simp [Chip.tapRequest]

@[simp] theorem Chip.tapRequest_seat (c : Chip) (dr : Nat) : (Chip.tapRequest c dr).seat = c.seat := by
  simp [Chip.tapRequest]

@[simp] theorem Chip.tapAccess_sound (c : Chip) (h : c.sound = true) : (Chip.tapAccess c).sound = true := by
  simp (contextual := true) (maxDischargeDepth := 60) [Chip.tapAccess, h]

@[simp] theorem Chip.tapAccess_seat (c : Chip) : (Chip.tapAccess c).seat = c.seat := by
  simp [Chip.tapAccess]

end Sys2Proof.Machine
end

