-- ==== Sys2Proof/Laws/Boundary.lean ====
section
/-! SUPPORT. Every operation of Machine/Boundary.lean keeps the part sound; those that touch no store leave the stores as
they are, and those that enter no mode leave the mode and its cause. -/

namespace Sys2Proof.Machine

open Sys2Proof

@[simp] theorem Chip.cmpArith_sound (c : Chip) (h : c.sound = true) : (Chip.cmpArith c).sound = true := by
  simp (contextual := true) (maxDischargeDepth := 60) [Chip.cmpArith, h]

@[simp] theorem Chip.cmpArith_stores (c : Chip) : (Chip.cmpArith c).stores = c.stores := by
  simp [Chip.cmpArith]

@[simp] theorem Chip.cmpArith_seat (c : Chip) : (Chip.cmpArith c).seat = c.seat := by
  simp [Chip.cmpArith]

@[simp] theorem Chip.commitsA_sound (c : Chip) (h : c.sound = true) : (Chip.commitsA c).sound = true := by
  simp (contextual := true) (maxDischargeDepth := 60) [Chip.commitsA, h]

@[simp] theorem Chip.commitsA_seat (c : Chip) : (Chip.commitsA c).seat = c.seat := by
  simp [Chip.commitsA]

@[simp] theorem Chip.flips_sound (c : Chip) (h : c.sound = true) : (Chip.flips c).1.sound = true := by
  have hf : ∀ (l : List Nat) (r : Chip × List Nat), r.1.sound = true → (l.foldl (fun (r : Chip × List Nat) g =>
        let q := r.1.groupDecide g
        (q, if r.1.armed g && !q.armed g && q.rd (CMP_GROUP_STAT_RESULT.at g) == 1 then r.2 ++ r.1.groupMembers g
            else r.2)) r).1.sound = true := by
    intro l
    induction l with
    | nil => exact fun _ hr => hr
    | cons g t ih => exact fun r hr => ih _ (Chip.groupDecide_sound _ _ hr)
  unfold Chip.flips
  split
  · exact h
  · exact hf _ _ h

@[simp] theorem Chip.flips_stores (c : Chip) : (Chip.flips c).1.stores = c.stores := by
  have hf : ∀ (l : List Nat) (r : Chip × List Nat), (l.foldl (fun (r : Chip × List Nat) g =>
        let q := r.1.groupDecide g
        (q, if r.1.armed g && !q.armed g && q.rd (CMP_GROUP_STAT_RESULT.at g) == 1 then r.2 ++ r.1.groupMembers g
            else r.2)) r).1.stores = r.1.stores := by
    intro l
    induction l with
    | nil => exact fun _ => rfl
    | cons g t ih => exact fun r => (ih _).trans (Chip.groupDecide_stores _ _)
  unfold Chip.flips
  split
  · rfl
  · exact hf _ _

@[simp] theorem Chip.flips_seat (c : Chip) : (Chip.flips c).1.seat = c.seat := by
  have hf : ∀ (l : List Nat) (r : Chip × List Nat), (l.foldl (fun (r : Chip × List Nat) g =>
        let q := r.1.groupDecide g
        (q, if r.1.armed g && !q.armed g && q.rd (CMP_GROUP_STAT_RESULT.at g) == 1 then r.2 ++ r.1.groupMembers g
            else r.2)) r).1.seat = r.1.seat := by
    intro l
    induction l with
    | nil => exact fun _ => rfl
    | cons g t ih => exact fun r => (ih _).trans (Chip.groupDecide_seat _ _)
  unfold Chip.flips
  split
  · rfl
  · exact hf _ _

@[simp] theorem Chip.framesA_sound (c : Chip) (flipped : List Nat) (h : c.sound = true) : (Chip.framesA c
    flipped).sound = true := by
  simp (contextual := true) (maxDischargeDepth := 60) [Chip.framesA, h]

@[simp] theorem Chip.framesA_stores (c : Chip) (flipped : List Nat) : (Chip.framesA c flipped).stores = c.stores := by
  simp [Chip.framesA]

@[simp] theorem Chip.framesA_seat (c : Chip) (flipped : List Nat) : (Chip.framesA c flipped).seat = c.seat := by
  simp [Chip.framesA]

@[simp] theorem Chip.migBoundary_sound (c : Chip) (h : c.sound = true) : (Chip.migBoundary c).sound = true := by
  simp (contextual := true) (maxDischargeDepth := 60) [Chip.migBoundary, h]

@[simp] theorem Chip.migBoundary_seat (c : Chip) : (Chip.migBoundary c).seat = c.seat := by
  simp [Chip.migBoundary]

@[simp] theorem Chip.endsA_sound (c : Chip) (h : c.sound = true) : (Chip.endsA c).sound = true := by
  simp (contextual := true) (maxDischargeDepth := 60) [Chip.endsA, h]

@[simp] theorem Chip.endsA_stores (c : Chip) : (Chip.endsA c).stores = c.stores := by
  simp [Chip.endsA]

@[simp] theorem Chip.endsA_seat (c : Chip) : (Chip.endsA c).seat = c.seat := by
  simp [Chip.endsA]

@[simp] theorem Chip.boundaryA_sound (c : Chip) (ticks : Nat) (h : c.sound = true) : (Chip.boundaryA c
    ticks).sound = true := by
  simp (contextual := true) (maxDischargeDepth := 60) [Chip.boundaryA, h]

@[simp] theorem Chip.boundaryA_seat (c : Chip) (ticks : Nat) : (Chip.boundaryA c ticks).seat = c.seat := by
  simp [Chip.boundaryA]

@[simp] theorem Chip.boundaryB_sound (c : Chip) (h : c.sound = true) : (Chip.boundaryB c).sound = true := by
  simp (contextual := true) (maxDischargeDepth := 60) [Chip.boundaryB, h]

@[simp] theorem Chip.boundaryB_seat (c : Chip) : (Chip.boundaryB c).seat = c.seat := by
  simp [Chip.boundaryB]

end Sys2Proof.Machine
end

