-- ==== Sys2Proof/Laws/Registers.lean ====
section
/-! SUPPORT. Fields and registers: what a field reads after a write of it, of another field of its register, or of
another register. -/

namespace Sys2Proof.Machine

/-- A field lies inside a 32-bit register. -/
def Field.fits (f : Field) : Prop := f.lo ≤ f.hi ∧ f.hi < 32

theorem Field.mask_getLsbD (f : Field) (h : f.fits) (i : Nat) :
    f.mask.getLsbD i = decide (f.lo ≤ i ∧ i ≤ f.hi) := by
  obtain ⟨h1, h2⟩ := h
  simp only [Field.mask, Field.width, BitVec.getLsbD_ofNat, Nat.testBit_mul_two_pow, Nat.testBit_two_pow_sub_one]
  by_cases a : f.lo ≤ i <;> by_cases b : i ≤ f.hi <;> simp [a, b] <;> omega

theorem Field.get_testBit (f : Field) (w : Word) (i : Nat) :
    (f.get w).testBit i = (decide (i < f.width) && w.getLsbD (f.lo + i)) := by
  simp [Field.get, Nat.testBit_mod_two_pow, Nat.testBit_div_two_pow, BitVec.getLsbD, Nat.add_comm]

theorem Field.put_getLsbD (f : Field) (h : f.fits) (w : Word) (v i : Nat) :
    (f.put w v).getLsbD i =
      if f.lo ≤ i ∧ i ≤ f.hi then v.testBit (i - f.lo) else w.getLsbD i := by
  simp only [Field.put, BitVec.getLsbD_or, BitVec.getLsbD_and, BitVec.getLsbD_not, Field.mask_getLsbD f h,
    BitVec.getLsbD_ofNat, Nat.testBit_mul_two_pow]
  obtain ⟨h1, h2⟩ := h
  by_cases a : f.lo ≤ i
  · by_cases b : i ≤ f.hi
    · have : i < 32 := by omega
      simp [a, b, this]
    · simp [a, b]
      exact fun hw => BitVec.lt_of_getLsbD hw
  · simp [a]
    exact fun hw => BitVec.lt_of_getLsbD hw

/-- A field reads as it was put, less the bits that it has no room for. -/
theorem Field.get_put (f : Field) (h : f.fits) (w : Word) (v : Nat) : f.get (f.put w v) = v % 2 ^ f.width := by
  apply Nat.eq_of_testBit_eq
  intro i
  rw [Field.get_testBit, Field.put_getLsbD f h, Nat.testBit_mod_two_pow]
  have hw : f.width = f.hi + 1 - f.lo := rfl
  by_cases hi : i < f.width
  · rw [if_pos (by omega)]
    simp [hi]
  · simp [hi]

/-- A field that fits reads as it was put. -/
theorem Field.get_put_lt (f : Field) (h : f.fits) (w : Word) (v : Nat) (hv : v < 2 ^ f.width) :
    f.get (f.put w v) = v := by
  rw [Field.get_put f h, Nat.mod_eq_of_lt hv]

/-- Two fields have no bit in common. -/
def Field.apart (f g : Field) : Prop := f.hi < g.lo ∨ g.hi < f.lo

/-- Putting one field leaves another of the same register. -/
theorem Field.get_put_apart (f g : Field) (h : f.fits) (hg : g.fits) (hfg : f.apart g) (w : Word) (v : Nat) :
    g.get (f.put w v) = g.get w := by
  apply Nat.eq_of_testBit_eq
  intro i
  rw [Field.get_testBit, Field.get_testBit, Field.put_getLsbD f h]
  obtain ⟨h1, h2⟩ := h
  obtain ⟨g1, g2⟩ := hg
  have hw : g.width = g.hi + 1 - g.lo := rfl
  by_cases hi : i < g.width
  · rw [if_neg]
    rcases hfg with hl | hl <;> omega
  · simp [hi]

theorem Field.get_lt (f : Field) (w : Word) : f.get w < 2 ^ f.width := Nat.mod_lt _ (Nat.two_pow_pos _)

/-! ### Registers -/

@[simp] theorem Chip.get_setReg_self (c : Chip) (a : Nat) (w : Word) : (c.setReg a w).get a = w := by
  simp [Chip.get, Chip.setReg]

theorem Chip.get_setReg_ne (c : Chip) (a b : Nat) (w : Word) (h : b ≠ a) : (c.setReg a w).get b = c.get b := by
  simp [Chip.get, Chip.setReg, SMap.get_set_ne, h]

@[simp] theorem Chip.getEff_setReg (c : Chip) (a b : Nat) (w : Word) : (c.setReg a w).getEff b = c.getEff b := rfl

/-- A field reads as it was written. -/
theorem Chip.rd_wr_self (c : Chip) (f : Field) (v : Nat) (h : f.fits) : (c.wr f v).rd f = v % 2 ^ f.width := by
  simp [Chip.rd, Chip.wr, Field.get_put f h]

theorem Chip.rd_wr_lt (c : Chip) (f : Field) (v : Nat) (h : f.fits) (hv : v < 2 ^ f.width) : (c.wr f v).rd f = v := by
  rw [Chip.rd_wr_self c f v h, Nat.mod_eq_of_lt hv]

/-- A field of another register reads as before. -/
theorem Chip.rd_wr_ne (c : Chip) (f g : Field) (v : Nat) (h : g.addr ≠ f.addr) : (c.wr f v).rd g = c.rd g := by
  simp [Chip.rd, Chip.wr, Chip.get_setReg_ne _ _ _ _ h]

/-- A field of the same register that has no bit in common reads as before. -/
theorem Chip.rd_wr_apart (c : Chip) (f g : Field) (v : Nat) (h : f.fits) (hg : g.fits) (hfg : f.apart g) :
    (c.wr f v).rd g = c.rd g := by
  by_cases ha : g.addr = f.addr
  · simp [Chip.rd, Chip.wr, ha, Field.get_put_apart f g h hg hfg]
  · exact c.rd_wr_ne f g v ha

theorem Chip.get_wr_ne (c : Chip) (f : Field) (v a : Nat) (h : a ≠ f.addr) : (c.wr f v).get a = c.get a := by
  simp [Chip.wr, Chip.get_setReg_ne _ _ _ _ h]

@[simp] theorem Chip.get_wr_self (c : Chip) (f : Field) (v : Nat) : (c.wr f v).get f.addr = f.put (c.get f.addr) v := by
  simp [Chip.wr]

@[simp] theorem Chip.getEff_wr (c : Chip) (f : Field) (v a : Nat) : (c.wr f v).getEff a = c.getEff a := rfl

@[simp] theorem Chip.ef_wr (c : Chip) (f g : Field) (v : Nat) : (c.wr f v).ef g = c.ef g := rfl

@[simp] theorem Chip.getEff_setEff_self (c : Chip) (a : Nat) (w : Word) : (c.setEff a w).getEff a = w := by
  simp [Chip.getEff, Chip.setEff]

/-- A counter that has room rises. -/
theorem Chip.rd_bump (c : Chip) (f : Field) (k : Nat) (h : f.fits) :
    (c.bump f k).rd f = satAdd f.width (c.rd f) k % 2 ^ f.width := c.rd_wr_self f _ h

end Sys2Proof.Machine
end

