-- ==== Sys2Proof/Laws/State.lean ====
section
/-! SUPPORT. One lemma per field of a part and per update: what an update leaves alone, and what it gives the one field that
it changes. -/

namespace Sys2Proof.Machine

/-! ### `Chip.onBsc` -/

@[simp] theorem Chip.onBsc_variantS (c : Chip) (f : Beam → Beam) : (c.onBsc f).variantS = c.variantS := (rfl)

@[simp] theorem Chip.onBsc_revision (c : Chip) (f : Beam → Beam) : (c.onBsc f).revision = c.revision := (rfl)

@[simp] theorem Chip.onBsc_regs (c : Chip) (f : Beam → Beam) : (c.onBsc f).regs = c.regs := (rfl)

@[simp] theorem Chip.onBsc_eff (c : Chip) (f : Beam → Beam) : (c.onBsc f).eff = c.eff := (rfl)

@[simp] theorem Chip.onBsc_mode (c : Chip) (f : Beam → Beam) : (c.onBsc f).mode = c.mode := (rfl)

@[simp] theorem Chip.onBsc_wh (c : Chip) (f : Beam → Beam) : (c.onBsc f).wh = c.wh := (rfl)

@[simp] theorem Chip.onBsc_ck (c : Chip) (f : Beam → Beam) : (c.onBsc f).ck = c.ck := (rfl)

@[simp] theorem Chip.onBsc_pw (c : Chip) (f : Beam → Beam) : (c.onBsc f).pw = c.pw := (rfl)

@[simp] theorem Chip.onBsc_ld (c : Chip) (f : Beam → Beam) : (c.onBsc f).ld = c.ld := (rfl)

@[simp] theorem Chip.onBsc_lk (c : Chip) (f : Beam → Beam) : (c.onBsc f).lk = c.lk := (rfl)

@[simp] theorem Chip.onBsc_pins (c : Chip) (f : Beam → Beam) : (c.onBsc f).pins = c.pins := (rfl)

@[simp] theorem Chip.onBsc_tap (c : Chip) (f : Beam → Beam) : (c.onBsc f).tap = c.tap := (rfl)

@[simp] theorem Chip.onBsc_locks (c : Chip) (f : Beam → Beam) : (c.onBsc f).locks = c.locks := (rfl)

@[simp] theorem Chip.onBsc_mcA (c : Chip) (f : Beam → Beam) : (c.onBsc f).mcA = c.mcA := (rfl)

@[simp] theorem Chip.onBsc_mcB (c : Chip) (f : Beam → Beam) : (c.onBsc f).mcB = c.mcB := (rfl)

@[simp] theorem Chip.onBsc_mcx (c : Chip) (f : Beam → Beam) : (c.onBsc f).mcx = c.mcx := (rfl)

@[simp] theorem Chip.onBsc_dram (c : Chip) (f : Beam → Beam) : (c.onBsc f).dram = c.dram := (rfl)

@[simp] theorem Chip.onBsc_flash (c : Chip) (f : Beam → Beam) : (c.onBsc f).flash = c.flash := (rfl)

@[simp] theorem Chip.onBsc_vin (c : Chip) (f : Beam → Beam) : (c.onBsc f).vin = c.vin := (rfl)

@[simp] theorem Chip.onBsc_brg (c : Chip) (f : Beam → Beam) : (c.onBsc f).brg = c.brg := (rfl)

@[simp] theorem Chip.onBsc_cam (c : Chip) (f : Beam → Beam) : (c.onBsc f).cam = c.cam := (rfl)

@[simp] theorem Chip.onBsc_cmp (c : Chip) (f : Beam → Beam) : (c.onBsc f).cmp = c.cmp := (rfl)

@[simp] theorem Chip.onBsc_soA (c : Chip) (f : Beam → Beam) : (c.onBsc f).soA = c.soA := (rfl)

@[simp] theorem Chip.onBsc_soB (c : Chip) (f : Beam → Beam) : (c.onBsc f).soB = c.soB := (rfl)

@[simp] theorem Chip.onBsc_bps (c : Chip) (f : Beam → Beam) : (c.onBsc f).bps = c.bps := (rfl)

@[simp] theorem Chip.onBsc_bsc (c : Chip) (f : Beam → Beam) : (c.onBsc f).bsc = f c.bsc := (rfl)

@[simp] theorem Chip.onBsc_ltd (c : Chip) (f : Beam → Beam) : (c.onBsc f).ltd = c.ltd := (rfl)

@[simp] theorem Chip.onBsc_twp (c : Chip) (f : Beam → Beam) : (c.onBsc f).twp = c.twp := (rfl)

@[simp] theorem Chip.onBsc_free (c : Chip) (f : Beam → Beam) : (c.onBsc f).free = c.free := (rfl)

@[simp] theorem Chip.onBsc_get (c : Chip) (f : Beam → Beam) (a : Nat) : (c.onBsc f).get a = c.get a := (rfl)

@[simp] theorem Chip.onBsc_getEff (c : Chip) (f : Beam → Beam) (a : Nat) : (c.onBsc f).getEff a = c.getEff a := (rfl)

@[simp] theorem Chip.onBsc_rd (c : Chip) (f : Beam → Beam) (g : Field) : (c.onBsc f).rd g = c.rd g := (rfl)

@[simp] theorem Chip.onBsc_ef (c : Chip) (f : Beam → Beam) (g : Field) : (c.onBsc f).ef g = c.ef g := (rfl)

/-! ### `Chip.onBps` -/

@[simp] theorem Chip.onBps_variantS (c : Chip) (f : BitPlane → BitPlane) : (c.onBps f).variantS = c.variantS := (rfl)

@[simp] theorem Chip.onBps_revision (c : Chip) (f : BitPlane → BitPlane) : (c.onBps f).revision = c.revision := (rfl)

@[simp] theorem Chip.onBps_regs (c : Chip) (f : BitPlane → BitPlane) : (c.onBps f).regs = c.regs := (rfl)

@[simp] theorem Chip.onBps_eff (c : Chip) (f : BitPlane → BitPlane) : (c.onBps f).eff = c.eff := (rfl)

@[simp] theorem Chip.onBps_mode (c : Chip) (f : BitPlane → BitPlane) : (c.onBps f).mode = c.mode := (rfl)

@[simp] theorem Chip.onBps_wh (c : Chip) (f : BitPlane → BitPlane) : (c.onBps f).wh = c.wh := (rfl)

@[simp] theorem Chip.onBps_ck (c : Chip) (f : BitPlane → BitPlane) : (c.onBps f).ck = c.ck := (rfl)

@[simp] theorem Chip.onBps_pw (c : Chip) (f : BitPlane → BitPlane) : (c.onBps f).pw = c.pw := (rfl)

@[simp] theorem Chip.onBps_ld (c : Chip) (f : BitPlane → BitPlane) : (c.onBps f).ld = c.ld := (rfl)

@[simp] theorem Chip.onBps_lk (c : Chip) (f : BitPlane → BitPlane) : (c.onBps f).lk = c.lk := (rfl)

@[simp] theorem Chip.onBps_pins (c : Chip) (f : BitPlane → BitPlane) : (c.onBps f).pins = c.pins := (rfl)

@[simp] theorem Chip.onBps_tap (c : Chip) (f : BitPlane → BitPlane) : (c.onBps f).tap = c.tap := (rfl)

@[simp] theorem Chip.onBps_locks (c : Chip) (f : BitPlane → BitPlane) : (c.onBps f).locks = c.locks := (rfl)

@[simp] theorem Chip.onBps_mcA (c : Chip) (f : BitPlane → BitPlane) : (c.onBps f).mcA = c.mcA := (rfl)

@[simp] theorem Chip.onBps_mcB (c : Chip) (f : BitPlane → BitPlane) : (c.onBps f).mcB = c.mcB := (rfl)

@[simp] theorem Chip.onBps_mcx (c : Chip) (f : BitPlane → BitPlane) : (c.onBps f).mcx = c.mcx := (rfl)

@[simp] theorem Chip.onBps_dram (c : Chip) (f : BitPlane → BitPlane) : (c.onBps f).dram = c.dram := (rfl)

@[simp] theorem Chip.onBps_flash (c : Chip) (f : BitPlane → BitPlane) : (c.onBps f).flash = c.flash := (rfl)

@[simp] theorem Chip.onBps_vin (c : Chip) (f : BitPlane → BitPlane) : (c.onBps f).vin = c.vin := (rfl)

@[simp] theorem Chip.onBps_brg (c : Chip) (f : BitPlane → BitPlane) : (c.onBps f).brg = c.brg := (rfl)

@[simp] theorem Chip.onBps_cam (c : Chip) (f : BitPlane → BitPlane) : (c.onBps f).cam = c.cam := (rfl)

@[simp] theorem Chip.onBps_cmp (c : Chip) (f : BitPlane → BitPlane) : (c.onBps f).cmp = c.cmp := (rfl)

@[simp] theorem Chip.onBps_soA (c : Chip) (f : BitPlane → BitPlane) : (c.onBps f).soA = c.soA := (rfl)

@[simp] theorem Chip.onBps_soB (c : Chip) (f : BitPlane → BitPlane) : (c.onBps f).soB = c.soB := (rfl)

@[simp] theorem Chip.onBps_bps (c : Chip) (f : BitPlane → BitPlane) : (c.onBps f).bps = f c.bps := (rfl)

@[simp] theorem Chip.onBps_bsc (c : Chip) (f : BitPlane → BitPlane) : (c.onBps f).bsc = c.bsc := (rfl)

@[simp] theorem Chip.onBps_ltd (c : Chip) (f : BitPlane → BitPlane) : (c.onBps f).ltd = c.ltd := (rfl)

@[simp] theorem Chip.onBps_twp (c : Chip) (f : BitPlane → BitPlane) : (c.onBps f).twp = c.twp := (rfl)

@[simp] theorem Chip.onBps_free (c : Chip) (f : BitPlane → BitPlane) : (c.onBps f).free = c.free := (rfl)

@[simp] theorem Chip.onBps_get (c : Chip) (f : BitPlane → BitPlane) (a : Nat) : (c.onBps f).get a = c.get a := (rfl)

@[simp] theorem Chip.onBps_getEff (c : Chip) (f : BitPlane → BitPlane) (a : Nat) : (c.onBps f).getEff a =
    c.getEff a := (rfl)

@[simp] theorem Chip.onBps_rd (c : Chip) (f : BitPlane → BitPlane) (g : Field) : (c.onBps f).rd g = c.rd g := (rfl)

@[simp] theorem Chip.onBps_ef (c : Chip) (f : BitPlane → BitPlane) (g : Field) : (c.onBps f).ef g = c.ef g := (rfl)

/-! ### `Chip.onCam` -/

@[simp] theorem Chip.onCam_variantS (c : Chip) (f : Camera → Camera) : (c.onCam f).variantS = c.variantS := (rfl)

@[simp] theorem Chip.onCam_revision (c : Chip) (f : Camera → Camera) : (c.onCam f).revision = c.revision := (rfl)

@[simp] theorem Chip.onCam_regs (c : Chip) (f : Camera → Camera) : (c.onCam f).regs = c.regs := (rfl)

@[simp] theorem Chip.onCam_eff (c : Chip) (f : Camera → Camera) : (c.onCam f).eff = c.eff := (rfl)

@[simp] theorem Chip.onCam_mode (c : Chip) (f : Camera → Camera) : (c.onCam f).mode = c.mode := (rfl)

@[simp] theorem Chip.onCam_wh (c : Chip) (f : Camera → Camera) : (c.onCam f).wh = c.wh := (rfl)

@[simp] theorem Chip.onCam_ck (c : Chip) (f : Camera → Camera) : (c.onCam f).ck = c.ck := (rfl)

@[simp] theorem Chip.onCam_pw (c : Chip) (f : Camera → Camera) : (c.onCam f).pw = c.pw := (rfl)

@[simp] theorem Chip.onCam_ld (c : Chip) (f : Camera → Camera) : (c.onCam f).ld = c.ld := (rfl)

@[simp] theorem Chip.onCam_lk (c : Chip) (f : Camera → Camera) : (c.onCam f).lk = c.lk := (rfl)

@[simp] theorem Chip.onCam_pins (c : Chip) (f : Camera → Camera) : (c.onCam f).pins = c.pins := (rfl)

@[simp] theorem Chip.onCam_tap (c : Chip) (f : Camera → Camera) : (c.onCam f).tap = c.tap := (rfl)

@[simp] theorem Chip.onCam_locks (c : Chip) (f : Camera → Camera) : (c.onCam f).locks = c.locks := (rfl)

@[simp] theorem Chip.onCam_mcA (c : Chip) (f : Camera → Camera) : (c.onCam f).mcA = c.mcA := (rfl)

@[simp] theorem Chip.onCam_mcB (c : Chip) (f : Camera → Camera) : (c.onCam f).mcB = c.mcB := (rfl)

@[simp] theorem Chip.onCam_mcx (c : Chip) (f : Camera → Camera) : (c.onCam f).mcx = c.mcx := (rfl)

@[simp] theorem Chip.onCam_dram (c : Chip) (f : Camera → Camera) : (c.onCam f).dram = c.dram := (rfl)

@[simp] theorem Chip.onCam_flash (c : Chip) (f : Camera → Camera) : (c.onCam f).flash = c.flash := (rfl)

@[simp] theorem Chip.onCam_vin (c : Chip) (f : Camera → Camera) : (c.onCam f).vin = c.vin := (rfl)

@[simp] theorem Chip.onCam_brg (c : Chip) (f : Camera → Camera) : (c.onCam f).brg = c.brg := (rfl)

@[simp] theorem Chip.onCam_cam (c : Chip) (f : Camera → Camera) : (c.onCam f).cam = f c.cam := (rfl)

@[simp] theorem Chip.onCam_cmp (c : Chip) (f : Camera → Camera) : (c.onCam f).cmp = c.cmp := (rfl)

@[simp] theorem Chip.onCam_soA (c : Chip) (f : Camera → Camera) : (c.onCam f).soA = c.soA := (rfl)

@[simp] theorem Chip.onCam_soB (c : Chip) (f : Camera → Camera) : (c.onCam f).soB = c.soB := (rfl)

@[simp] theorem Chip.onCam_bps (c : Chip) (f : Camera → Camera) : (c.onCam f).bps = c.bps := (rfl)

@[simp] theorem Chip.onCam_bsc (c : Chip) (f : Camera → Camera) : (c.onCam f).bsc = c.bsc := (rfl)

@[simp] theorem Chip.onCam_ltd (c : Chip) (f : Camera → Camera) : (c.onCam f).ltd = c.ltd := (rfl)

@[simp] theorem Chip.onCam_twp (c : Chip) (f : Camera → Camera) : (c.onCam f).twp = c.twp := (rfl)

@[simp] theorem Chip.onCam_free (c : Chip) (f : Camera → Camera) : (c.onCam f).free = c.free := (rfl)

@[simp] theorem Chip.onCam_get (c : Chip) (f : Camera → Camera) (a : Nat) : (c.onCam f).get a = c.get a := (rfl)

@[simp] theorem Chip.onCam_getEff (c : Chip) (f : Camera → Camera) (a : Nat) : (c.onCam f).getEff a = c.getEff a
    := (rfl)

@[simp] theorem Chip.onCam_rd (c : Chip) (f : Camera → Camera) (g : Field) : (c.onCam f).rd g = c.rd g := (rfl)

@[simp] theorem Chip.onCam_ef (c : Chip) (f : Camera → Camera) (g : Field) : (c.onCam f).ef g = c.ef g := (rfl)

/-! ### `Chip.onCmp` -/

@[simp] theorem Chip.onCmp_variantS (c : Chip) (f : Compose → Compose) : (c.onCmp f).variantS = c.variantS := (rfl)

@[simp] theorem Chip.onCmp_revision (c : Chip) (f : Compose → Compose) : (c.onCmp f).revision = c.revision := (rfl)

@[simp] theorem Chip.onCmp_regs (c : Chip) (f : Compose → Compose) : (c.onCmp f).regs = c.regs := (rfl)

@[simp] theorem Chip.onCmp_eff (c : Chip) (f : Compose → Compose) : (c.onCmp f).eff = c.eff := (rfl)

@[simp] theorem Chip.onCmp_mode (c : Chip) (f : Compose → Compose) : (c.onCmp f).mode = c.mode := (rfl)

@[simp] theorem Chip.onCmp_wh (c : Chip) (f : Compose → Compose) : (c.onCmp f).wh = c.wh := (rfl)

@[simp] theorem Chip.onCmp_ck (c : Chip) (f : Compose → Compose) : (c.onCmp f).ck = c.ck := (rfl)

@[simp] theorem Chip.onCmp_pw (c : Chip) (f : Compose → Compose) : (c.onCmp f).pw = c.pw := (rfl)

@[simp] theorem Chip.onCmp_ld (c : Chip) (f : Compose → Compose) : (c.onCmp f).ld = c.ld := (rfl)

@[simp] theorem Chip.onCmp_lk (c : Chip) (f : Compose → Compose) : (c.onCmp f).lk = c.lk := (rfl)

@[simp] theorem Chip.onCmp_pins (c : Chip) (f : Compose → Compose) : (c.onCmp f).pins = c.pins := (rfl)

@[simp] theorem Chip.onCmp_tap (c : Chip) (f : Compose → Compose) : (c.onCmp f).tap = c.tap := (rfl)

@[simp] theorem Chip.onCmp_locks (c : Chip) (f : Compose → Compose) : (c.onCmp f).locks = c.locks := (rfl)

@[simp] theorem Chip.onCmp_mcA (c : Chip) (f : Compose → Compose) : (c.onCmp f).mcA = c.mcA := (rfl)

@[simp] theorem Chip.onCmp_mcB (c : Chip) (f : Compose → Compose) : (c.onCmp f).mcB = c.mcB := (rfl)

@[simp] theorem Chip.onCmp_mcx (c : Chip) (f : Compose → Compose) : (c.onCmp f).mcx = c.mcx := (rfl)

@[simp] theorem Chip.onCmp_dram (c : Chip) (f : Compose → Compose) : (c.onCmp f).dram = c.dram := (rfl)

@[simp] theorem Chip.onCmp_flash (c : Chip) (f : Compose → Compose) : (c.onCmp f).flash = c.flash := (rfl)

@[simp] theorem Chip.onCmp_vin (c : Chip) (f : Compose → Compose) : (c.onCmp f).vin = c.vin := (rfl)

@[simp] theorem Chip.onCmp_brg (c : Chip) (f : Compose → Compose) : (c.onCmp f).brg = c.brg := (rfl)

@[simp] theorem Chip.onCmp_cam (c : Chip) (f : Compose → Compose) : (c.onCmp f).cam = c.cam := (rfl)

@[simp] theorem Chip.onCmp_cmp (c : Chip) (f : Compose → Compose) : (c.onCmp f).cmp = f c.cmp := (rfl)

@[simp] theorem Chip.onCmp_soA (c : Chip) (f : Compose → Compose) : (c.onCmp f).soA = c.soA := (rfl)

@[simp] theorem Chip.onCmp_soB (c : Chip) (f : Compose → Compose) : (c.onCmp f).soB = c.soB := (rfl)

@[simp] theorem Chip.onCmp_bps (c : Chip) (f : Compose → Compose) : (c.onCmp f).bps = c.bps := (rfl)

@[simp] theorem Chip.onCmp_bsc (c : Chip) (f : Compose → Compose) : (c.onCmp f).bsc = c.bsc := (rfl)

@[simp] theorem Chip.onCmp_ltd (c : Chip) (f : Compose → Compose) : (c.onCmp f).ltd = c.ltd := (rfl)

@[simp] theorem Chip.onCmp_twp (c : Chip) (f : Compose → Compose) : (c.onCmp f).twp = c.twp := (rfl)

@[simp] theorem Chip.onCmp_free (c : Chip) (f : Compose → Compose) : (c.onCmp f).free = c.free := (rfl)

@[simp] theorem Chip.onCmp_get (c : Chip) (f : Compose → Compose) (a : Nat) : (c.onCmp f).get a = c.get a := (rfl)

@[simp] theorem Chip.onCmp_getEff (c : Chip) (f : Compose → Compose) (a : Nat) : (c.onCmp f).getEff a = c.getEff
    a := (rfl)

@[simp] theorem Chip.onCmp_rd (c : Chip) (f : Compose → Compose) (g : Field) : (c.onCmp f).rd g = c.rd g := (rfl)

@[simp] theorem Chip.onCmp_ef (c : Chip) (f : Compose → Compose) (g : Field) : (c.onCmp f).ef g = c.ef g := (rfl)

/-! ### `Chip.onTap` -/

@[simp] theorem Chip.onTap_variantS (c : Chip) (f : Tap → Tap) : (c.onTap f).variantS = c.variantS := (rfl)

@[simp] theorem Chip.onTap_revision (c : Chip) (f : Tap → Tap) : (c.onTap f).revision = c.revision := (rfl)

@[simp] theorem Chip.onTap_regs (c : Chip) (f : Tap → Tap) : (c.onTap f).regs = c.regs := (rfl)

@[simp] theorem Chip.onTap_eff (c : Chip) (f : Tap → Tap) : (c.onTap f).eff = c.eff := (rfl)

@[simp] theorem Chip.onTap_mode (c : Chip) (f : Tap → Tap) : (c.onTap f).mode = c.mode := (rfl)

@[simp] theorem Chip.onTap_wh (c : Chip) (f : Tap → Tap) : (c.onTap f).wh = c.wh := (rfl)

@[simp] theorem Chip.onTap_ck (c : Chip) (f : Tap → Tap) : (c.onTap f).ck = c.ck := (rfl)

@[simp] theorem Chip.onTap_pw (c : Chip) (f : Tap → Tap) : (c.onTap f).pw = c.pw := (rfl)

@[simp] theorem Chip.onTap_ld (c : Chip) (f : Tap → Tap) : (c.onTap f).ld = c.ld := (rfl)

@[simp] theorem Chip.onTap_lk (c : Chip) (f : Tap → Tap) : (c.onTap f).lk = c.lk := (rfl)

@[simp] theorem Chip.onTap_pins (c : Chip) (f : Tap → Tap) : (c.onTap f).pins = c.pins := (rfl)

@[simp] theorem Chip.onTap_tap (c : Chip) (f : Tap → Tap) : (c.onTap f).tap = f c.tap := (rfl)

@[simp] theorem Chip.onTap_locks (c : Chip) (f : Tap → Tap) : (c.onTap f).locks = c.locks := (rfl)

@[simp] theorem Chip.onTap_mcA (c : Chip) (f : Tap → Tap) : (c.onTap f).mcA = c.mcA := (rfl)

@[simp] theorem Chip.onTap_mcB (c : Chip) (f : Tap → Tap) : (c.onTap f).mcB = c.mcB := (rfl)

@[simp] theorem Chip.onTap_mcx (c : Chip) (f : Tap → Tap) : (c.onTap f).mcx = c.mcx := (rfl)

@[simp] theorem Chip.onTap_dram (c : Chip) (f : Tap → Tap) : (c.onTap f).dram = c.dram := (rfl)

@[simp] theorem Chip.onTap_flash (c : Chip) (f : Tap → Tap) : (c.onTap f).flash = c.flash := (rfl)

@[simp] theorem Chip.onTap_vin (c : Chip) (f : Tap → Tap) : (c.onTap f).vin = c.vin := (rfl)

@[simp] theorem Chip.onTap_brg (c : Chip) (f : Tap → Tap) : (c.onTap f).brg = c.brg := (rfl)

@[simp] theorem Chip.onTap_cam (c : Chip) (f : Tap → Tap) : (c.onTap f).cam = c.cam := (rfl)

@[simp] theorem Chip.onTap_cmp (c : Chip) (f : Tap → Tap) : (c.onTap f).cmp = c.cmp := (rfl)

@[simp] theorem Chip.onTap_soA (c : Chip) (f : Tap → Tap) : (c.onTap f).soA = c.soA := (rfl)

@[simp] theorem Chip.onTap_soB (c : Chip) (f : Tap → Tap) : (c.onTap f).soB = c.soB := (rfl)

@[simp] theorem Chip.onTap_bps (c : Chip) (f : Tap → Tap) : (c.onTap f).bps = c.bps := (rfl)

@[simp] theorem Chip.onTap_bsc (c : Chip) (f : Tap → Tap) : (c.onTap f).bsc = c.bsc := (rfl)

@[simp] theorem Chip.onTap_ltd (c : Chip) (f : Tap → Tap) : (c.onTap f).ltd = c.ltd := (rfl)

@[simp] theorem Chip.onTap_twp (c : Chip) (f : Tap → Tap) : (c.onTap f).twp = c.twp := (rfl)

@[simp] theorem Chip.onTap_free (c : Chip) (f : Tap → Tap) : (c.onTap f).free = c.free := (rfl)

@[simp] theorem Chip.onTap_get (c : Chip) (f : Tap → Tap) (a : Nat) : (c.onTap f).get a = c.get a := (rfl)

@[simp] theorem Chip.onTap_getEff (c : Chip) (f : Tap → Tap) (a : Nat) : (c.onTap f).getEff a = c.getEff a := (rfl)

@[simp] theorem Chip.onTap_rd (c : Chip) (f : Tap → Tap) (g : Field) : (c.onTap f).rd g = c.rd g := (rfl)

@[simp] theorem Chip.onTap_ef (c : Chip) (f : Tap → Tap) (g : Field) : (c.onTap f).ef g = c.ef g := (rfl)

/-! ### `Chip.onLtd` -/

@[simp] theorem Chip.onLtd_variantS (c : Chip) (f : Light → Light) : (c.onLtd f).variantS = c.variantS := (rfl)

@[simp] theorem Chip.onLtd_revision (c : Chip) (f : Light → Light) : (c.onLtd f).revision = c.revision := (rfl)

@[simp] theorem Chip.onLtd_regs (c : Chip) (f : Light → Light) : (c.onLtd f).regs = c.regs := (rfl)

@[simp] theorem Chip.onLtd_eff (c : Chip) (f : Light → Light) : (c.onLtd f).eff = c.eff := (rfl)

@[simp] theorem Chip.onLtd_mode (c : Chip) (f : Light → Light) : (c.onLtd f).mode = c.mode := (rfl)

@[simp] theorem Chip.onLtd_wh (c : Chip) (f : Light → Light) : (c.onLtd f).wh = c.wh := (rfl)

@[simp] theorem Chip.onLtd_ck (c : Chip) (f : Light → Light) : (c.onLtd f).ck = c.ck := (rfl)

@[simp] theorem Chip.onLtd_pw (c : Chip) (f : Light → Light) : (c.onLtd f).pw = c.pw := (rfl)

@[simp] theorem Chip.onLtd_ld (c : Chip) (f : Light → Light) : (c.onLtd f).ld = c.ld := (rfl)

@[simp] theorem Chip.onLtd_lk (c : Chip) (f : Light → Light) : (c.onLtd f).lk = c.lk := (rfl)

@[simp] theorem Chip.onLtd_pins (c : Chip) (f : Light → Light) : (c.onLtd f).pins = c.pins := (rfl)

@[simp] theorem Chip.onLtd_tap (c : Chip) (f : Light → Light) : (c.onLtd f).tap = c.tap := (rfl)

@[simp] theorem Chip.onLtd_locks (c : Chip) (f : Light → Light) : (c.onLtd f).locks = c.locks := (rfl)

@[simp] theorem Chip.onLtd_mcA (c : Chip) (f : Light → Light) : (c.onLtd f).mcA = c.mcA := (rfl)

@[simp] theorem Chip.onLtd_mcB (c : Chip) (f : Light → Light) : (c.onLtd f).mcB = c.mcB := (rfl)

@[simp] theorem Chip.onLtd_mcx (c : Chip) (f : Light → Light) : (c.onLtd f).mcx = c.mcx := (rfl)

@[simp] theorem Chip.onLtd_dram (c : Chip) (f : Light → Light) : (c.onLtd f).dram = c.dram := (rfl)

@[simp] theorem Chip.onLtd_flash (c : Chip) (f : Light → Light) : (c.onLtd f).flash = c.flash := (rfl)

@[simp] theorem Chip.onLtd_vin (c : Chip) (f : Light → Light) : (c.onLtd f).vin = c.vin := (rfl)

@[simp] theorem Chip.onLtd_brg (c : Chip) (f : Light → Light) : (c.onLtd f).brg = c.brg := (rfl)

@[simp] theorem Chip.onLtd_cam (c : Chip) (f : Light → Light) : (c.onLtd f).cam = c.cam := (rfl)

@[simp] theorem Chip.onLtd_cmp (c : Chip) (f : Light → Light) : (c.onLtd f).cmp = c.cmp := (rfl)

@[simp] theorem Chip.onLtd_soA (c : Chip) (f : Light → Light) : (c.onLtd f).soA = c.soA := (rfl)

@[simp] theorem Chip.onLtd_soB (c : Chip) (f : Light → Light) : (c.onLtd f).soB = c.soB := (rfl)

@[simp] theorem Chip.onLtd_bps (c : Chip) (f : Light → Light) : (c.onLtd f).bps = c.bps := (rfl)

@[simp] theorem Chip.onLtd_bsc (c : Chip) (f : Light → Light) : (c.onLtd f).bsc = c.bsc := (rfl)

@[simp] theorem Chip.onLtd_ltd (c : Chip) (f : Light → Light) : (c.onLtd f).ltd = f c.ltd := (rfl)

@[simp] theorem Chip.onLtd_twp (c : Chip) (f : Light → Light) : (c.onLtd f).twp = c.twp := (rfl)

@[simp] theorem Chip.onLtd_free (c : Chip) (f : Light → Light) : (c.onLtd f).free = c.free := (rfl)

@[simp] theorem Chip.onLtd_get (c : Chip) (f : Light → Light) (a : Nat) : (c.onLtd f).get a = c.get a := (rfl)

@[simp] theorem Chip.onLtd_getEff (c : Chip) (f : Light → Light) (a : Nat) : (c.onLtd f).getEff a = c.getEff a
    := (rfl)

@[simp] theorem Chip.onLtd_rd (c : Chip) (f : Light → Light) (g : Field) : (c.onLtd f).rd g = c.rd g := (rfl)

@[simp] theorem Chip.onLtd_ef (c : Chip) (f : Light → Light) (g : Field) : (c.onLtd f).ef g = c.ef g := (rfl)

/-! ### `Chip.onMcx` -/

@[simp] theorem Chip.onMcx_variantS (c : Chip) (f : MemShared → MemShared) : (c.onMcx f).variantS = c.variantS
    := (rfl)

@[simp] theorem Chip.onMcx_revision (c : Chip) (f : MemShared → MemShared) : (c.onMcx f).revision = c.revision
    := (rfl)

@[simp] theorem Chip.onMcx_regs (c : Chip) (f : MemShared → MemShared) : (c.onMcx f).regs = c.regs := (rfl)

@[simp] theorem Chip.onMcx_eff (c : Chip) (f : MemShared → MemShared) : (c.onMcx f).eff = c.eff := (rfl)

@[simp] theorem Chip.onMcx_mode (c : Chip) (f : MemShared → MemShared) : (c.onMcx f).mode = c.mode := (rfl)

@[simp] theorem Chip.onMcx_wh (c : Chip) (f : MemShared → MemShared) : (c.onMcx f).wh = c.wh := (rfl)

@[simp] theorem Chip.onMcx_ck (c : Chip) (f : MemShared → MemShared) : (c.onMcx f).ck = c.ck := (rfl)

@[simp] theorem Chip.onMcx_pw (c : Chip) (f : MemShared → MemShared) : (c.onMcx f).pw = c.pw := (rfl)

@[simp] theorem Chip.onMcx_ld (c : Chip) (f : MemShared → MemShared) : (c.onMcx f).ld = c.ld := (rfl)

@[simp] theorem Chip.onMcx_lk (c : Chip) (f : MemShared → MemShared) : (c.onMcx f).lk = c.lk := (rfl)

@[simp] theorem Chip.onMcx_pins (c : Chip) (f : MemShared → MemShared) : (c.onMcx f).pins = c.pins := (rfl)

@[simp] theorem Chip.onMcx_tap (c : Chip) (f : MemShared → MemShared) : (c.onMcx f).tap = c.tap := (rfl)

@[simp] theorem Chip.onMcx_locks (c : Chip) (f : MemShared → MemShared) : (c.onMcx f).locks = c.locks := (rfl)

@[simp] theorem Chip.onMcx_mcA (c : Chip) (f : MemShared → MemShared) : (c.onMcx f).mcA = c.mcA := (rfl)

@[simp] theorem Chip.onMcx_mcB (c : Chip) (f : MemShared → MemShared) : (c.onMcx f).mcB = c.mcB := (rfl)

@[simp] theorem Chip.onMcx_mcx (c : Chip) (f : MemShared → MemShared) : (c.onMcx f).mcx = f c.mcx := (rfl)

@[simp] theorem Chip.onMcx_dram (c : Chip) (f : MemShared → MemShared) : (c.onMcx f).dram = c.dram := (rfl)

@[simp] theorem Chip.onMcx_flash (c : Chip) (f : MemShared → MemShared) : (c.onMcx f).flash = c.flash := (rfl)

@[simp] theorem Chip.onMcx_vin (c : Chip) (f : MemShared → MemShared) : (c.onMcx f).vin = c.vin := (rfl)

@[simp] theorem Chip.onMcx_brg (c : Chip) (f : MemShared → MemShared) : (c.onMcx f).brg = c.brg := (rfl)

@[simp] theorem Chip.onMcx_cam (c : Chip) (f : MemShared → MemShared) : (c.onMcx f).cam = c.cam := (rfl)

@[simp] theorem Chip.onMcx_cmp (c : Chip) (f : MemShared → MemShared) : (c.onMcx f).cmp = c.cmp := (rfl)

@[simp] theorem Chip.onMcx_soA (c : Chip) (f : MemShared → MemShared) : (c.onMcx f).soA = c.soA := (rfl)

@[simp] theorem Chip.onMcx_soB (c : Chip) (f : MemShared → MemShared) : (c.onMcx f).soB = c.soB := (rfl)

@[simp] theorem Chip.onMcx_bps (c : Chip) (f : MemShared → MemShared) : (c.onMcx f).bps = c.bps := (rfl)

@[simp] theorem Chip.onMcx_bsc (c : Chip) (f : MemShared → MemShared) : (c.onMcx f).bsc = c.bsc := (rfl)

@[simp] theorem Chip.onMcx_ltd (c : Chip) (f : MemShared → MemShared) : (c.onMcx f).ltd = c.ltd := (rfl)

@[simp] theorem Chip.onMcx_twp (c : Chip) (f : MemShared → MemShared) : (c.onMcx f).twp = c.twp := (rfl)

@[simp] theorem Chip.onMcx_free (c : Chip) (f : MemShared → MemShared) : (c.onMcx f).free = c.free := (rfl)

@[simp] theorem Chip.onMcx_get (c : Chip) (f : MemShared → MemShared) (a : Nat) : (c.onMcx f).get a = c.get a := (rfl)

@[simp] theorem Chip.onMcx_getEff (c : Chip) (f : MemShared → MemShared) (a : Nat) : (c.onMcx f).getEff a =
    c.getEff a := (rfl)

@[simp] theorem Chip.onMcx_rd (c : Chip) (f : MemShared → MemShared) (g : Field) : (c.onMcx f).rd g = c.rd g := (rfl)

@[simp] theorem Chip.onMcx_ef (c : Chip) (f : MemShared → MemShared) (g : Field) : (c.onMcx f).ef g = c.ef g := (rfl)

/-! ### `Chip.onWh` -/

@[simp] theorem Chip.onWh_variantS (c : Chip) (f : Wharf → Wharf) : (c.onWh f).variantS = c.variantS := (rfl)

@[simp] theorem Chip.onWh_revision (c : Chip) (f : Wharf → Wharf) : (c.onWh f).revision = c.revision := (rfl)

@[simp] theorem Chip.onWh_regs (c : Chip) (f : Wharf → Wharf) : (c.onWh f).regs = c.regs := (rfl)

@[simp] theorem Chip.onWh_eff (c : Chip) (f : Wharf → Wharf) : (c.onWh f).eff = c.eff := (rfl)

@[simp] theorem Chip.onWh_mode (c : Chip) (f : Wharf → Wharf) : (c.onWh f).mode = c.mode := (rfl)

@[simp] theorem Chip.onWh_wh (c : Chip) (f : Wharf → Wharf) : (c.onWh f).wh = f c.wh := (rfl)

@[simp] theorem Chip.onWh_ck (c : Chip) (f : Wharf → Wharf) : (c.onWh f).ck = c.ck := (rfl)

@[simp] theorem Chip.onWh_pw (c : Chip) (f : Wharf → Wharf) : (c.onWh f).pw = c.pw := (rfl)

@[simp] theorem Chip.onWh_ld (c : Chip) (f : Wharf → Wharf) : (c.onWh f).ld = c.ld := (rfl)

@[simp] theorem Chip.onWh_lk (c : Chip) (f : Wharf → Wharf) : (c.onWh f).lk = c.lk := (rfl)

@[simp] theorem Chip.onWh_pins (c : Chip) (f : Wharf → Wharf) : (c.onWh f).pins = c.pins := (rfl)

@[simp] theorem Chip.onWh_tap (c : Chip) (f : Wharf → Wharf) : (c.onWh f).tap = c.tap := (rfl)

@[simp] theorem Chip.onWh_locks (c : Chip) (f : Wharf → Wharf) : (c.onWh f).locks = c.locks := (rfl)

@[simp] theorem Chip.onWh_mcA (c : Chip) (f : Wharf → Wharf) : (c.onWh f).mcA = c.mcA := (rfl)

@[simp] theorem Chip.onWh_mcB (c : Chip) (f : Wharf → Wharf) : (c.onWh f).mcB = c.mcB := (rfl)

@[simp] theorem Chip.onWh_mcx (c : Chip) (f : Wharf → Wharf) : (c.onWh f).mcx = c.mcx := (rfl)

@[simp] theorem Chip.onWh_dram (c : Chip) (f : Wharf → Wharf) : (c.onWh f).dram = c.dram := (rfl)

@[simp] theorem Chip.onWh_flash (c : Chip) (f : Wharf → Wharf) : (c.onWh f).flash = c.flash := (rfl)

@[simp] theorem Chip.onWh_vin (c : Chip) (f : Wharf → Wharf) : (c.onWh f).vin = c.vin := (rfl)

@[simp] theorem Chip.onWh_brg (c : Chip) (f : Wharf → Wharf) : (c.onWh f).brg = c.brg := (rfl)

@[simp] theorem Chip.onWh_cam (c : Chip) (f : Wharf → Wharf) : (c.onWh f).cam = c.cam := (rfl)

@[simp] theorem Chip.onWh_cmp (c : Chip) (f : Wharf → Wharf) : (c.onWh f).cmp = c.cmp := (rfl)

@[simp] theorem Chip.onWh_soA (c : Chip) (f : Wharf → Wharf) : (c.onWh f).soA = c.soA := (rfl)

@[simp] theorem Chip.onWh_soB (c : Chip) (f : Wharf → Wharf) : (c.onWh f).soB = c.soB := (rfl)

@[simp] theorem Chip.onWh_bps (c : Chip) (f : Wharf → Wharf) : (c.onWh f).bps = c.bps := (rfl)

@[simp] theorem Chip.onWh_bsc (c : Chip) (f : Wharf → Wharf) : (c.onWh f).bsc = c.bsc := (rfl)

@[simp] theorem Chip.onWh_ltd (c : Chip) (f : Wharf → Wharf) : (c.onWh f).ltd = c.ltd := (rfl)

@[simp] theorem Chip.onWh_twp (c : Chip) (f : Wharf → Wharf) : (c.onWh f).twp = c.twp := (rfl)

@[simp] theorem Chip.onWh_free (c : Chip) (f : Wharf → Wharf) : (c.onWh f).free = c.free := (rfl)

@[simp] theorem Chip.onWh_get (c : Chip) (f : Wharf → Wharf) (a : Nat) : (c.onWh f).get a = c.get a := (rfl)

@[simp] theorem Chip.onWh_getEff (c : Chip) (f : Wharf → Wharf) (a : Nat) : (c.onWh f).getEff a = c.getEff a := (rfl)

@[simp] theorem Chip.onWh_rd (c : Chip) (f : Wharf → Wharf) (g : Field) : (c.onWh f).rd g = c.rd g := (rfl)

@[simp] theorem Chip.onWh_ef (c : Chip) (f : Wharf → Wharf) (g : Field) : (c.onWh f).ef g = c.ef g := (rfl)

/-! ### `Chip.onLk` -/

@[simp] theorem Chip.onLk_variantS (c : Chip) (f : Lockkeeper → Lockkeeper) : (c.onLk f).variantS = c.variantS
    := (rfl)

@[simp] theorem Chip.onLk_revision (c : Chip) (f : Lockkeeper → Lockkeeper) : (c.onLk f).revision = c.revision
    := (rfl)

@[simp] theorem Chip.onLk_regs (c : Chip) (f : Lockkeeper → Lockkeeper) : (c.onLk f).regs = c.regs := (rfl)

@[simp] theorem Chip.onLk_eff (c : Chip) (f : Lockkeeper → Lockkeeper) : (c.onLk f).eff = c.eff := (rfl)

@[simp] theorem Chip.onLk_mode (c : Chip) (f : Lockkeeper → Lockkeeper) : (c.onLk f).mode = c.mode := (rfl)

@[simp] theorem Chip.onLk_wh (c : Chip) (f : Lockkeeper → Lockkeeper) : (c.onLk f).wh = c.wh := (rfl)

@[simp] theorem Chip.onLk_ck (c : Chip) (f : Lockkeeper → Lockkeeper) : (c.onLk f).ck = c.ck := (rfl)

@[simp] theorem Chip.onLk_pw (c : Chip) (f : Lockkeeper → Lockkeeper) : (c.onLk f).pw = c.pw := (rfl)

@[simp] theorem Chip.onLk_ld (c : Chip) (f : Lockkeeper → Lockkeeper) : (c.onLk f).ld = c.ld := (rfl)

@[simp] theorem Chip.onLk_lk (c : Chip) (f : Lockkeeper → Lockkeeper) : (c.onLk f).lk = f c.lk := (rfl)

@[simp] theorem Chip.onLk_pins (c : Chip) (f : Lockkeeper → Lockkeeper) : (c.onLk f).pins = c.pins := (rfl)

@[simp] theorem Chip.onLk_tap (c : Chip) (f : Lockkeeper → Lockkeeper) : (c.onLk f).tap = c.tap := (rfl)

@[simp] theorem Chip.onLk_locks (c : Chip) (f : Lockkeeper → Lockkeeper) : (c.onLk f).locks = c.locks := (rfl)

@[simp] theorem Chip.onLk_mcA (c : Chip) (f : Lockkeeper → Lockkeeper) : (c.onLk f).mcA = c.mcA := (rfl)

@[simp] theorem Chip.onLk_mcB (c : Chip) (f : Lockkeeper → Lockkeeper) : (c.onLk f).mcB = c.mcB := (rfl)

@[simp] theorem Chip.onLk_mcx (c : Chip) (f : Lockkeeper → Lockkeeper) : (c.onLk f).mcx = c.mcx := (rfl)

@[simp] theorem Chip.onLk_dram (c : Chip) (f : Lockkeeper → Lockkeeper) : (c.onLk f).dram = c.dram := (rfl)

@[simp] theorem Chip.onLk_flash (c : Chip) (f : Lockkeeper → Lockkeeper) : (c.onLk f).flash = c.flash := (rfl)

@[simp] theorem Chip.onLk_vin (c : Chip) (f : Lockkeeper → Lockkeeper) : (c.onLk f).vin = c.vin := (rfl)

@[simp] theorem Chip.onLk_brg (c : Chip) (f : Lockkeeper → Lockkeeper) : (c.onLk f).brg = c.brg := (rfl)

@[simp] theorem Chip.onLk_cam (c : Chip) (f : Lockkeeper → Lockkeeper) : (c.onLk f).cam = c.cam := (rfl)

@[simp] theorem Chip.onLk_cmp (c : Chip) (f : Lockkeeper → Lockkeeper) : (c.onLk f).cmp = c.cmp := (rfl)

@[simp] theorem Chip.onLk_soA (c : Chip) (f : Lockkeeper → Lockkeeper) : (c.onLk f).soA = c.soA := (rfl)

@[simp] theorem Chip.onLk_soB (c : Chip) (f : Lockkeeper → Lockkeeper) : (c.onLk f).soB = c.soB := (rfl)

@[simp] theorem Chip.onLk_bps (c : Chip) (f : Lockkeeper → Lockkeeper) : (c.onLk f).bps = c.bps := (rfl)

@[simp] theorem Chip.onLk_bsc (c : Chip) (f : Lockkeeper → Lockkeeper) : (c.onLk f).bsc = c.bsc := (rfl)

@[simp] theorem Chip.onLk_ltd (c : Chip) (f : Lockkeeper → Lockkeeper) : (c.onLk f).ltd = c.ltd := (rfl)

@[simp] theorem Chip.onLk_twp (c : Chip) (f : Lockkeeper → Lockkeeper) : (c.onLk f).twp = c.twp := (rfl)

@[simp] theorem Chip.onLk_free (c : Chip) (f : Lockkeeper → Lockkeeper) : (c.onLk f).free = c.free := (rfl)

@[simp] theorem Chip.onLk_get (c : Chip) (f : Lockkeeper → Lockkeeper) (a : Nat) : (c.onLk f).get a = c.get a := (rfl)

@[simp] theorem Chip.onLk_getEff (c : Chip) (f : Lockkeeper → Lockkeeper) (a : Nat) : (c.onLk f).getEff a =
    c.getEff a := (rfl)

@[simp] theorem Chip.onLk_rd (c : Chip) (f : Lockkeeper → Lockkeeper) (g : Field) : (c.onLk f).rd g = c.rd g := (rfl)

@[simp] theorem Chip.onLk_ef (c : Chip) (f : Lockkeeper → Lockkeeper) (g : Field) : (c.onLk f).ef g = c.ef g := (rfl)

/-! ### `Chip.onLd` -/

@[simp] theorem Chip.onLd_variantS (c : Chip) (f : Loader → Loader) : (c.onLd f).variantS = c.variantS := (rfl)

@[simp] theorem Chip.onLd_revision (c : Chip) (f : Loader → Loader) : (c.onLd f).revision = c.revision := (rfl)

@[simp] theorem Chip.onLd_regs (c : Chip) (f : Loader → Loader) : (c.onLd f).regs = c.regs := (rfl)

@[simp] theorem Chip.onLd_eff (c : Chip) (f : Loader → Loader) : (c.onLd f).eff = c.eff := (rfl)

@[simp] theorem Chip.onLd_mode (c : Chip) (f : Loader → Loader) : (c.onLd f).mode = c.mode := (rfl)

@[simp] theorem Chip.onLd_wh (c : Chip) (f : Loader → Loader) : (c.onLd f).wh = c.wh := (rfl)

@[simp] theorem Chip.onLd_ck (c : Chip) (f : Loader → Loader) : (c.onLd f).ck = c.ck := (rfl)

@[simp] theorem Chip.onLd_pw (c : Chip) (f : Loader → Loader) : (c.onLd f).pw = c.pw := (rfl)

@[simp] theorem Chip.onLd_ld (c : Chip) (f : Loader → Loader) : (c.onLd f).ld = f c.ld := (rfl)

@[simp] theorem Chip.onLd_lk (c : Chip) (f : Loader → Loader) : (c.onLd f).lk = c.lk := (rfl)

@[simp] theorem Chip.onLd_pins (c : Chip) (f : Loader → Loader) : (c.onLd f).pins = c.pins := (rfl)

@[simp] theorem Chip.onLd_tap (c : Chip) (f : Loader → Loader) : (c.onLd f).tap = c.tap := (rfl)

@[simp] theorem Chip.onLd_locks (c : Chip) (f : Loader → Loader) : (c.onLd f).locks = c.locks := (rfl)

@[simp] theorem Chip.onLd_mcA (c : Chip) (f : Loader → Loader) : (c.onLd f).mcA = c.mcA := (rfl)

@[simp] theorem Chip.onLd_mcB (c : Chip) (f : Loader → Loader) : (c.onLd f).mcB = c.mcB := (rfl)

@[simp] theorem Chip.onLd_mcx (c : Chip) (f : Loader → Loader) : (c.onLd f).mcx = c.mcx := (rfl)

@[simp] theorem Chip.onLd_dram (c : Chip) (f : Loader → Loader) : (c.onLd f).dram = c.dram := (rfl)

@[simp] theorem Chip.onLd_flash (c : Chip) (f : Loader → Loader) : (c.onLd f).flash = c.flash := (rfl)

@[simp] theorem Chip.onLd_vin (c : Chip) (f : Loader → Loader) : (c.onLd f).vin = c.vin := (rfl)

@[simp] theorem Chip.onLd_brg (c : Chip) (f : Loader → Loader) : (c.onLd f).brg = c.brg := (rfl)

@[simp] theorem Chip.onLd_cam (c : Chip) (f : Loader → Loader) : (c.onLd f).cam = c.cam := (rfl)

@[simp] theorem Chip.onLd_cmp (c : Chip) (f : Loader → Loader) : (c.onLd f).cmp = c.cmp := (rfl)

@[simp] theorem Chip.onLd_soA (c : Chip) (f : Loader → Loader) : (c.onLd f).soA = c.soA := (rfl)

@[simp] theorem Chip.onLd_soB (c : Chip) (f : Loader → Loader) : (c.onLd f).soB = c.soB := (rfl)

@[simp] theorem Chip.onLd_bps (c : Chip) (f : Loader → Loader) : (c.onLd f).bps = c.bps := (rfl)

@[simp] theorem Chip.onLd_bsc (c : Chip) (f : Loader → Loader) : (c.onLd f).bsc = c.bsc := (rfl)

@[simp] theorem Chip.onLd_ltd (c : Chip) (f : Loader → Loader) : (c.onLd f).ltd = c.ltd := (rfl)

@[simp] theorem Chip.onLd_twp (c : Chip) (f : Loader → Loader) : (c.onLd f).twp = c.twp := (rfl)

@[simp] theorem Chip.onLd_free (c : Chip) (f : Loader → Loader) : (c.onLd f).free = c.free := (rfl)

@[simp] theorem Chip.onLd_get (c : Chip) (f : Loader → Loader) (a : Nat) : (c.onLd f).get a = c.get a := (rfl)

@[simp] theorem Chip.onLd_getEff (c : Chip) (f : Loader → Loader) (a : Nat) : (c.onLd f).getEff a = c.getEff a
    := (rfl)

@[simp] theorem Chip.onLd_rd (c : Chip) (f : Loader → Loader) (g : Field) : (c.onLd f).rd g = c.rd g := (rfl)

@[simp] theorem Chip.onLd_ef (c : Chip) (f : Loader → Loader) (g : Field) : (c.onLd f).ef g = c.ef g := (rfl)

/-! ### `Chip.onCk` -/

@[simp] theorem Chip.onCk_variantS (c : Chip) (f : Clocks → Clocks) : (c.onCk f).variantS = c.variantS := (rfl)

@[simp] theorem Chip.onCk_revision (c : Chip) (f : Clocks → Clocks) : (c.onCk f).revision = c.revision := (rfl)

@[simp] theorem Chip.onCk_regs (c : Chip) (f : Clocks → Clocks) : (c.onCk f).regs = c.regs := (rfl)

@[simp] theorem Chip.onCk_eff (c : Chip) (f : Clocks → Clocks) : (c.onCk f).eff = c.eff := (rfl)

@[simp] theorem Chip.onCk_mode (c : Chip) (f : Clocks → Clocks) : (c.onCk f).mode = c.mode := (rfl)

@[simp] theorem Chip.onCk_wh (c : Chip) (f : Clocks → Clocks) : (c.onCk f).wh = c.wh := (rfl)

@[simp] theorem Chip.onCk_ck (c : Chip) (f : Clocks → Clocks) : (c.onCk f).ck = f c.ck := (rfl)

@[simp] theorem Chip.onCk_pw (c : Chip) (f : Clocks → Clocks) : (c.onCk f).pw = c.pw := (rfl)

@[simp] theorem Chip.onCk_ld (c : Chip) (f : Clocks → Clocks) : (c.onCk f).ld = c.ld := (rfl)

@[simp] theorem Chip.onCk_lk (c : Chip) (f : Clocks → Clocks) : (c.onCk f).lk = c.lk := (rfl)

@[simp] theorem Chip.onCk_pins (c : Chip) (f : Clocks → Clocks) : (c.onCk f).pins = c.pins := (rfl)

@[simp] theorem Chip.onCk_tap (c : Chip) (f : Clocks → Clocks) : (c.onCk f).tap = c.tap := (rfl)

@[simp] theorem Chip.onCk_locks (c : Chip) (f : Clocks → Clocks) : (c.onCk f).locks = c.locks := (rfl)

@[simp] theorem Chip.onCk_mcA (c : Chip) (f : Clocks → Clocks) : (c.onCk f).mcA = c.mcA := (rfl)

@[simp] theorem Chip.onCk_mcB (c : Chip) (f : Clocks → Clocks) : (c.onCk f).mcB = c.mcB := (rfl)

@[simp] theorem Chip.onCk_mcx (c : Chip) (f : Clocks → Clocks) : (c.onCk f).mcx = c.mcx := (rfl)

@[simp] theorem Chip.onCk_dram (c : Chip) (f : Clocks → Clocks) : (c.onCk f).dram = c.dram := (rfl)

@[simp] theorem Chip.onCk_flash (c : Chip) (f : Clocks → Clocks) : (c.onCk f).flash = c.flash := (rfl)

@[simp] theorem Chip.onCk_vin (c : Chip) (f : Clocks → Clocks) : (c.onCk f).vin = c.vin := (rfl)

@[simp] theorem Chip.onCk_brg (c : Chip) (f : Clocks → Clocks) : (c.onCk f).brg = c.brg := (rfl)

@[simp] theorem Chip.onCk_cam (c : Chip) (f : Clocks → Clocks) : (c.onCk f).cam = c.cam := (rfl)

@[simp] theorem Chip.onCk_cmp (c : Chip) (f : Clocks → Clocks) : (c.onCk f).cmp = c.cmp := (rfl)

@[simp] theorem Chip.onCk_soA (c : Chip) (f : Clocks → Clocks) : (c.onCk f).soA = c.soA := (rfl)

@[simp] theorem Chip.onCk_soB (c : Chip) (f : Clocks → Clocks) : (c.onCk f).soB = c.soB := (rfl)

@[simp] theorem Chip.onCk_bps (c : Chip) (f : Clocks → Clocks) : (c.onCk f).bps = c.bps := (rfl)

@[simp] theorem Chip.onCk_bsc (c : Chip) (f : Clocks → Clocks) : (c.onCk f).bsc = c.bsc := (rfl)

@[simp] theorem Chip.onCk_ltd (c : Chip) (f : Clocks → Clocks) : (c.onCk f).ltd = c.ltd := (rfl)

@[simp] theorem Chip.onCk_twp (c : Chip) (f : Clocks → Clocks) : (c.onCk f).twp = c.twp := (rfl)

@[simp] theorem Chip.onCk_free (c : Chip) (f : Clocks → Clocks) : (c.onCk f).free = c.free := (rfl)

@[simp] theorem Chip.onCk_get (c : Chip) (f : Clocks → Clocks) (a : Nat) : (c.onCk f).get a = c.get a := (rfl)

@[simp] theorem Chip.onCk_getEff (c : Chip) (f : Clocks → Clocks) (a : Nat) : (c.onCk f).getEff a = c.getEff a
    := (rfl)

@[simp] theorem Chip.onCk_rd (c : Chip) (f : Clocks → Clocks) (g : Field) : (c.onCk f).rd g = c.rd g := (rfl)

@[simp] theorem Chip.onCk_ef (c : Chip) (f : Clocks → Clocks) (g : Field) : (c.onCk f).ef g = c.ef g := (rfl)

/-! ### `Chip.onPw` -/

@[simp] theorem Chip.onPw_variantS (c : Chip) (f : Power → Power) : (c.onPw f).variantS = c.variantS := (rfl)

@[simp] theorem Chip.onPw_revision (c : Chip) (f : Power → Power) : (c.onPw f).revision = c.revision := (rfl)

@[simp] theorem Chip.onPw_regs (c : Chip) (f : Power → Power) : (c.onPw f).regs = c.regs := (rfl)

@[simp] theorem Chip.onPw_eff (c : Chip) (f : Power → Power) : (c.onPw f).eff = c.eff := (rfl)

@[simp] theorem Chip.onPw_mode (c : Chip) (f : Power → Power) : (c.onPw f).mode = c.mode := (rfl)

@[simp] theorem Chip.onPw_wh (c : Chip) (f : Power → Power) : (c.onPw f).wh = c.wh := (rfl)

@[simp] theorem Chip.onPw_ck (c : Chip) (f : Power → Power) : (c.onPw f).ck = c.ck := (rfl)

@[simp] theorem Chip.onPw_pw (c : Chip) (f : Power → Power) : (c.onPw f).pw = f c.pw := (rfl)

@[simp] theorem Chip.onPw_ld (c : Chip) (f : Power → Power) : (c.onPw f).ld = c.ld := (rfl)

@[simp] theorem Chip.onPw_lk (c : Chip) (f : Power → Power) : (c.onPw f).lk = c.lk := (rfl)

@[simp] theorem Chip.onPw_pins (c : Chip) (f : Power → Power) : (c.onPw f).pins = c.pins := (rfl)

@[simp] theorem Chip.onPw_tap (c : Chip) (f : Power → Power) : (c.onPw f).tap = c.tap := (rfl)

@[simp] theorem Chip.onPw_locks (c : Chip) (f : Power → Power) : (c.onPw f).locks = c.locks := (rfl)

@[simp] theorem Chip.onPw_mcA (c : Chip) (f : Power → Power) : (c.onPw f).mcA = c.mcA := (rfl)

@[simp] theorem Chip.onPw_mcB (c : Chip) (f : Power → Power) : (c.onPw f).mcB = c.mcB := (rfl)

@[simp] theorem Chip.onPw_mcx (c : Chip) (f : Power → Power) : (c.onPw f).mcx = c.mcx := (rfl)

@[simp] theorem Chip.onPw_dram (c : Chip) (f : Power → Power) : (c.onPw f).dram = c.dram := (rfl)

@[simp] theorem Chip.onPw_flash (c : Chip) (f : Power → Power) : (c.onPw f).flash = c.flash := (rfl)

@[simp] theorem Chip.onPw_vin (c : Chip) (f : Power → Power) : (c.onPw f).vin = c.vin := (rfl)

@[simp] theorem Chip.onPw_brg (c : Chip) (f : Power → Power) : (c.onPw f).brg = c.brg := (rfl)

@[simp] theorem Chip.onPw_cam (c : Chip) (f : Power → Power) : (c.onPw f).cam = c.cam := (rfl)

@[simp] theorem Chip.onPw_cmp (c : Chip) (f : Power → Power) : (c.onPw f).cmp = c.cmp := (rfl)

@[simp] theorem Chip.onPw_soA (c : Chip) (f : Power → Power) : (c.onPw f).soA = c.soA := (rfl)

@[simp] theorem Chip.onPw_soB (c : Chip) (f : Power → Power) : (c.onPw f).soB = c.soB := (rfl)

@[simp] theorem Chip.onPw_bps (c : Chip) (f : Power → Power) : (c.onPw f).bps = c.bps := (rfl)

@[simp] theorem Chip.onPw_bsc (c : Chip) (f : Power → Power) : (c.onPw f).bsc = c.bsc := (rfl)

@[simp] theorem Chip.onPw_ltd (c : Chip) (f : Power → Power) : (c.onPw f).ltd = c.ltd := (rfl)

@[simp] theorem Chip.onPw_twp (c : Chip) (f : Power → Power) : (c.onPw f).twp = c.twp := (rfl)

@[simp] theorem Chip.onPw_free (c : Chip) (f : Power → Power) : (c.onPw f).free = c.free := (rfl)

@[simp] theorem Chip.onPw_get (c : Chip) (f : Power → Power) (a : Nat) : (c.onPw f).get a = c.get a := (rfl)

@[simp] theorem Chip.onPw_getEff (c : Chip) (f : Power → Power) (a : Nat) : (c.onPw f).getEff a = c.getEff a := (rfl)

@[simp] theorem Chip.onPw_rd (c : Chip) (f : Power → Power) (g : Field) : (c.onPw f).rd g = c.rd g := (rfl)

@[simp] theorem Chip.onPw_ef (c : Chip) (f : Power → Power) (g : Field) : (c.onPw f).ef g = c.ef g := (rfl)

/-! ### `Chip.onMode` -/

@[simp] theorem Chip.onMode_variantS (c : Chip) (f : ModeMachine → ModeMachine) : (c.onMode f).variantS =
    c.variantS := (rfl)

@[simp] theorem Chip.onMode_revision (c : Chip) (f : ModeMachine → ModeMachine) : (c.onMode f).revision =
    c.revision := (rfl)

@[simp] theorem Chip.onMode_regs (c : Chip) (f : ModeMachine → ModeMachine) : (c.onMode f).regs = c.regs := (rfl)

@[simp] theorem Chip.onMode_eff (c : Chip) (f : ModeMachine → ModeMachine) : (c.onMode f).eff = c.eff := (rfl)

@[simp] theorem Chip.onMode_mode (c : Chip) (f : ModeMachine → ModeMachine) : (c.onMode f).mode = f c.mode := (rfl)

@[simp] theorem Chip.onMode_wh (c : Chip) (f : ModeMachine → ModeMachine) : (c.onMode f).wh = c.wh := (rfl)

@[simp] theorem Chip.onMode_ck (c : Chip) (f : ModeMachine → ModeMachine) : (c.onMode f).ck = c.ck := (rfl)

@[simp] theorem Chip.onMode_pw (c : Chip) (f : ModeMachine → ModeMachine) : (c.onMode f).pw = c.pw := (rfl)

@[simp] theorem Chip.onMode_ld (c : Chip) (f : ModeMachine → ModeMachine) : (c.onMode f).ld = c.ld := (rfl)

@[simp] theorem Chip.onMode_lk (c : Chip) (f : ModeMachine → ModeMachine) : (c.onMode f).lk = c.lk := (rfl)

@[simp] theorem Chip.onMode_pins (c : Chip) (f : ModeMachine → ModeMachine) : (c.onMode f).pins = c.pins := (rfl)

@[simp] theorem Chip.onMode_tap (c : Chip) (f : ModeMachine → ModeMachine) : (c.onMode f).tap = c.tap := (rfl)

@[simp] theorem Chip.onMode_locks (c : Chip) (f : ModeMachine → ModeMachine) : (c.onMode f).locks = c.locks := (rfl)

@[simp] theorem Chip.onMode_mcA (c : Chip) (f : ModeMachine → ModeMachine) : (c.onMode f).mcA = c.mcA := (rfl)

@[simp] theorem Chip.onMode_mcB (c : Chip) (f : ModeMachine → ModeMachine) : (c.onMode f).mcB = c.mcB := (rfl)

@[simp] theorem Chip.onMode_mcx (c : Chip) (f : ModeMachine → ModeMachine) : (c.onMode f).mcx = c.mcx := (rfl)

@[simp] theorem Chip.onMode_dram (c : Chip) (f : ModeMachine → ModeMachine) : (c.onMode f).dram = c.dram := (rfl)

@[simp] theorem Chip.onMode_flash (c : Chip) (f : ModeMachine → ModeMachine) : (c.onMode f).flash = c.flash := (rfl)

@[simp] theorem Chip.onMode_vin (c : Chip) (f : ModeMachine → ModeMachine) : (c.onMode f).vin = c.vin := (rfl)

@[simp] theorem Chip.onMode_brg (c : Chip) (f : ModeMachine → ModeMachine) : (c.onMode f).brg = c.brg := (rfl)

@[simp] theorem Chip.onMode_cam (c : Chip) (f : ModeMachine → ModeMachine) : (c.onMode f).cam = c.cam := (rfl)

@[simp] theorem Chip.onMode_cmp (c : Chip) (f : ModeMachine → ModeMachine) : (c.onMode f).cmp = c.cmp := (rfl)

@[simp] theorem Chip.onMode_soA (c : Chip) (f : ModeMachine → ModeMachine) : (c.onMode f).soA = c.soA := (rfl)

@[simp] theorem Chip.onMode_soB (c : Chip) (f : ModeMachine → ModeMachine) : (c.onMode f).soB = c.soB := (rfl)

@[simp] theorem Chip.onMode_bps (c : Chip) (f : ModeMachine → ModeMachine) : (c.onMode f).bps = c.bps := (rfl)

@[simp] theorem Chip.onMode_bsc (c : Chip) (f : ModeMachine → ModeMachine) : (c.onMode f).bsc = c.bsc := (rfl)

@[simp] theorem Chip.onMode_ltd (c : Chip) (f : ModeMachine → ModeMachine) : (c.onMode f).ltd = c.ltd := (rfl)

@[simp] theorem Chip.onMode_twp (c : Chip) (f : ModeMachine → ModeMachine) : (c.onMode f).twp = c.twp := (rfl)

@[simp] theorem Chip.onMode_free (c : Chip) (f : ModeMachine → ModeMachine) : (c.onMode f).free = c.free := (rfl)

@[simp] theorem Chip.onMode_get (c : Chip) (f : ModeMachine → ModeMachine) (a : Nat) : (c.onMode f).get a =
    c.get a := (rfl)

@[simp] theorem Chip.onMode_getEff (c : Chip) (f : ModeMachine → ModeMachine) (a : Nat) : (c.onMode f).getEff a
    = c.getEff a := (rfl)

@[simp] theorem Chip.onMode_rd (c : Chip) (f : ModeMachine → ModeMachine) (g : Field) : (c.onMode f).rd g = c.rd
    g := (rfl)

@[simp] theorem Chip.onMode_ef (c : Chip) (f : ModeMachine → ModeMachine) (g : Field) : (c.onMode f).ef g = c.ef
    g := (rfl)

/-! ### `Chip.onTwp` -/

@[simp] theorem Chip.onTwp_variantS (c : Chip) (f : Towpath → Towpath) : (c.onTwp f).variantS = c.variantS := (rfl)

@[simp] theorem Chip.onTwp_revision (c : Chip) (f : Towpath → Towpath) : (c.onTwp f).revision = c.revision := (rfl)

@[simp] theorem Chip.onTwp_regs (c : Chip) (f : Towpath → Towpath) : (c.onTwp f).regs = c.regs := (rfl)

@[simp] theorem Chip.onTwp_eff (c : Chip) (f : Towpath → Towpath) : (c.onTwp f).eff = c.eff := (rfl)

@[simp] theorem Chip.onTwp_mode (c : Chip) (f : Towpath → Towpath) : (c.onTwp f).mode = c.mode := (rfl)

@[simp] theorem Chip.onTwp_wh (c : Chip) (f : Towpath → Towpath) : (c.onTwp f).wh = c.wh := (rfl)

@[simp] theorem Chip.onTwp_ck (c : Chip) (f : Towpath → Towpath) : (c.onTwp f).ck = c.ck := (rfl)

@[simp] theorem Chip.onTwp_pw (c : Chip) (f : Towpath → Towpath) : (c.onTwp f).pw = c.pw := (rfl)

@[simp] theorem Chip.onTwp_ld (c : Chip) (f : Towpath → Towpath) : (c.onTwp f).ld = c.ld := (rfl)

@[simp] theorem Chip.onTwp_lk (c : Chip) (f : Towpath → Towpath) : (c.onTwp f).lk = c.lk := (rfl)

@[simp] theorem Chip.onTwp_pins (c : Chip) (f : Towpath → Towpath) : (c.onTwp f).pins = c.pins := (rfl)

@[simp] theorem Chip.onTwp_tap (c : Chip) (f : Towpath → Towpath) : (c.onTwp f).tap = c.tap := (rfl)

@[simp] theorem Chip.onTwp_locks (c : Chip) (f : Towpath → Towpath) : (c.onTwp f).locks = c.locks := (rfl)

@[simp] theorem Chip.onTwp_mcA (c : Chip) (f : Towpath → Towpath) : (c.onTwp f).mcA = c.mcA := (rfl)

@[simp] theorem Chip.onTwp_mcB (c : Chip) (f : Towpath → Towpath) : (c.onTwp f).mcB = c.mcB := (rfl)

@[simp] theorem Chip.onTwp_mcx (c : Chip) (f : Towpath → Towpath) : (c.onTwp f).mcx = c.mcx := (rfl)

@[simp] theorem Chip.onTwp_dram (c : Chip) (f : Towpath → Towpath) : (c.onTwp f).dram = c.dram := (rfl)

@[simp] theorem Chip.onTwp_flash (c : Chip) (f : Towpath → Towpath) : (c.onTwp f).flash = c.flash := (rfl)

@[simp] theorem Chip.onTwp_vin (c : Chip) (f : Towpath → Towpath) : (c.onTwp f).vin = c.vin := (rfl)

@[simp] theorem Chip.onTwp_brg (c : Chip) (f : Towpath → Towpath) : (c.onTwp f).brg = c.brg := (rfl)

@[simp] theorem Chip.onTwp_cam (c : Chip) (f : Towpath → Towpath) : (c.onTwp f).cam = c.cam := (rfl)

@[simp] theorem Chip.onTwp_cmp (c : Chip) (f : Towpath → Towpath) : (c.onTwp f).cmp = c.cmp := (rfl)

@[simp] theorem Chip.onTwp_soA (c : Chip) (f : Towpath → Towpath) : (c.onTwp f).soA = c.soA := (rfl)

@[simp] theorem Chip.onTwp_soB (c : Chip) (f : Towpath → Towpath) : (c.onTwp f).soB = c.soB := (rfl)

@[simp] theorem Chip.onTwp_bps (c : Chip) (f : Towpath → Towpath) : (c.onTwp f).bps = c.bps := (rfl)

@[simp] theorem Chip.onTwp_bsc (c : Chip) (f : Towpath → Towpath) : (c.onTwp f).bsc = c.bsc := (rfl)

@[simp] theorem Chip.onTwp_ltd (c : Chip) (f : Towpath → Towpath) : (c.onTwp f).ltd = c.ltd := (rfl)

@[simp] theorem Chip.onTwp_twp (c : Chip) (f : Towpath → Towpath) : (c.onTwp f).twp = f c.twp := (rfl)

@[simp] theorem Chip.onTwp_free (c : Chip) (f : Towpath → Towpath) : (c.onTwp f).free = c.free := (rfl)

@[simp] theorem Chip.onTwp_get (c : Chip) (f : Towpath → Towpath) (a : Nat) : (c.onTwp f).get a = c.get a := (rfl)

@[simp] theorem Chip.onTwp_getEff (c : Chip) (f : Towpath → Towpath) (a : Nat) : (c.onTwp f).getEff a = c.getEff
    a := (rfl)

@[simp] theorem Chip.onTwp_rd (c : Chip) (f : Towpath → Towpath) (g : Field) : (c.onTwp f).rd g = c.rd g := (rfl)

@[simp] theorem Chip.onTwp_ef (c : Chip) (f : Towpath → Towpath) (g : Field) : (c.onTwp f).ef g = c.ef g := (rfl)

/-! ### `Chip.onVin` -/

@[simp] theorem Chip.onVin_variantS (c : Chip) (f : VideoIn → VideoIn) : (c.onVin f).variantS = c.variantS := (rfl)

@[simp] theorem Chip.onVin_revision (c : Chip) (f : VideoIn → VideoIn) : (c.onVin f).revision = c.revision := (rfl)

@[simp] theorem Chip.onVin_regs (c : Chip) (f : VideoIn → VideoIn) : (c.onVin f).regs = c.regs := (rfl)

@[simp] theorem Chip.onVin_eff (c : Chip) (f : VideoIn → VideoIn) : (c.onVin f).eff = c.eff := (rfl)

@[simp] theorem Chip.onVin_mode (c : Chip) (f : VideoIn → VideoIn) : (c.onVin f).mode = c.mode := (rfl)

@[simp] theorem Chip.onVin_wh (c : Chip) (f : VideoIn → VideoIn) : (c.onVin f).wh = c.wh := (rfl)

@[simp] theorem Chip.onVin_ck (c : Chip) (f : VideoIn → VideoIn) : (c.onVin f).ck = c.ck := (rfl)

@[simp] theorem Chip.onVin_pw (c : Chip) (f : VideoIn → VideoIn) : (c.onVin f).pw = c.pw := (rfl)

@[simp] theorem Chip.onVin_ld (c : Chip) (f : VideoIn → VideoIn) : (c.onVin f).ld = c.ld := (rfl)

@[simp] theorem Chip.onVin_lk (c : Chip) (f : VideoIn → VideoIn) : (c.onVin f).lk = c.lk := (rfl)

@[simp] theorem Chip.onVin_pins (c : Chip) (f : VideoIn → VideoIn) : (c.onVin f).pins = c.pins := (rfl)

@[simp] theorem Chip.onVin_tap (c : Chip) (f : VideoIn → VideoIn) : (c.onVin f).tap = c.tap := (rfl)

@[simp] theorem Chip.onVin_locks (c : Chip) (f : VideoIn → VideoIn) : (c.onVin f).locks = c.locks := (rfl)

@[simp] theorem Chip.onVin_mcA (c : Chip) (f : VideoIn → VideoIn) : (c.onVin f).mcA = c.mcA := (rfl)

@[simp] theorem Chip.onVin_mcB (c : Chip) (f : VideoIn → VideoIn) : (c.onVin f).mcB = c.mcB := (rfl)

@[simp] theorem Chip.onVin_mcx (c : Chip) (f : VideoIn → VideoIn) : (c.onVin f).mcx = c.mcx := (rfl)

@[simp] theorem Chip.onVin_dram (c : Chip) (f : VideoIn → VideoIn) : (c.onVin f).dram = c.dram := (rfl)

@[simp] theorem Chip.onVin_flash (c : Chip) (f : VideoIn → VideoIn) : (c.onVin f).flash = c.flash := (rfl)

@[simp] theorem Chip.onVin_vin (c : Chip) (f : VideoIn → VideoIn) : (c.onVin f).vin = f c.vin := (rfl)

@[simp] theorem Chip.onVin_brg (c : Chip) (f : VideoIn → VideoIn) : (c.onVin f).brg = c.brg := (rfl)

@[simp] theorem Chip.onVin_cam (c : Chip) (f : VideoIn → VideoIn) : (c.onVin f).cam = c.cam := (rfl)

@[simp] theorem Chip.onVin_cmp (c : Chip) (f : VideoIn → VideoIn) : (c.onVin f).cmp = c.cmp := (rfl)

@[simp] theorem Chip.onVin_soA (c : Chip) (f : VideoIn → VideoIn) : (c.onVin f).soA = c.soA := (rfl)

@[simp] theorem Chip.onVin_soB (c : Chip) (f : VideoIn → VideoIn) : (c.onVin f).soB = c.soB := (rfl)

@[simp] theorem Chip.onVin_bps (c : Chip) (f : VideoIn → VideoIn) : (c.onVin f).bps = c.bps := (rfl)

@[simp] theorem Chip.onVin_bsc (c : Chip) (f : VideoIn → VideoIn) : (c.onVin f).bsc = c.bsc := (rfl)

@[simp] theorem Chip.onVin_ltd (c : Chip) (f : VideoIn → VideoIn) : (c.onVin f).ltd = c.ltd := (rfl)

@[simp] theorem Chip.onVin_twp (c : Chip) (f : VideoIn → VideoIn) : (c.onVin f).twp = c.twp := (rfl)

@[simp] theorem Chip.onVin_free (c : Chip) (f : VideoIn → VideoIn) : (c.onVin f).free = c.free := (rfl)

@[simp] theorem Chip.onVin_get (c : Chip) (f : VideoIn → VideoIn) (a : Nat) : (c.onVin f).get a = c.get a := (rfl)

@[simp] theorem Chip.onVin_getEff (c : Chip) (f : VideoIn → VideoIn) (a : Nat) : (c.onVin f).getEff a = c.getEff
    a := (rfl)

@[simp] theorem Chip.onVin_rd (c : Chip) (f : VideoIn → VideoIn) (g : Field) : (c.onVin f).rd g = c.rd g := (rfl)

@[simp] theorem Chip.onVin_ef (c : Chip) (f : VideoIn → VideoIn) (g : Field) : (c.onVin f).ef g = c.ef g := (rfl)

/-! ### `Chip.onBrg` -/

@[simp] theorem Chip.onBrg_variantS (c : Chip) (f : Barge → Barge) : (c.onBrg f).variantS = c.variantS := (rfl)

@[simp] theorem Chip.onBrg_revision (c : Chip) (f : Barge → Barge) : (c.onBrg f).revision = c.revision := (rfl)

@[simp] theorem Chip.onBrg_regs (c : Chip) (f : Barge → Barge) : (c.onBrg f).regs = c.regs := (rfl)

@[simp] theorem Chip.onBrg_eff (c : Chip) (f : Barge → Barge) : (c.onBrg f).eff = c.eff := (rfl)

@[simp] theorem Chip.onBrg_mode (c : Chip) (f : Barge → Barge) : (c.onBrg f).mode = c.mode := (rfl)

@[simp] theorem Chip.onBrg_wh (c : Chip) (f : Barge → Barge) : (c.onBrg f).wh = c.wh := (rfl)

@[simp] theorem Chip.onBrg_ck (c : Chip) (f : Barge → Barge) : (c.onBrg f).ck = c.ck := (rfl)

@[simp] theorem Chip.onBrg_pw (c : Chip) (f : Barge → Barge) : (c.onBrg f).pw = c.pw := (rfl)

@[simp] theorem Chip.onBrg_ld (c : Chip) (f : Barge → Barge) : (c.onBrg f).ld = c.ld := (rfl)

@[simp] theorem Chip.onBrg_lk (c : Chip) (f : Barge → Barge) : (c.onBrg f).lk = c.lk := (rfl)

@[simp] theorem Chip.onBrg_pins (c : Chip) (f : Barge → Barge) : (c.onBrg f).pins = c.pins := (rfl)

@[simp] theorem Chip.onBrg_tap (c : Chip) (f : Barge → Barge) : (c.onBrg f).tap = c.tap := (rfl)

@[simp] theorem Chip.onBrg_locks (c : Chip) (f : Barge → Barge) : (c.onBrg f).locks = c.locks := (rfl)

@[simp] theorem Chip.onBrg_mcA (c : Chip) (f : Barge → Barge) : (c.onBrg f).mcA = c.mcA := (rfl)

@[simp] theorem Chip.onBrg_mcB (c : Chip) (f : Barge → Barge) : (c.onBrg f).mcB = c.mcB := (rfl)

@[simp] theorem Chip.onBrg_mcx (c : Chip) (f : Barge → Barge) : (c.onBrg f).mcx = c.mcx := (rfl)

@[simp] theorem Chip.onBrg_dram (c : Chip) (f : Barge → Barge) : (c.onBrg f).dram = c.dram := (rfl)

@[simp] theorem Chip.onBrg_flash (c : Chip) (f : Barge → Barge) : (c.onBrg f).flash = c.flash := (rfl)

@[simp] theorem Chip.onBrg_vin (c : Chip) (f : Barge → Barge) : (c.onBrg f).vin = c.vin := (rfl)

@[simp] theorem Chip.onBrg_brg (c : Chip) (f : Barge → Barge) : (c.onBrg f).brg = f c.brg := (rfl)

@[simp] theorem Chip.onBrg_cam (c : Chip) (f : Barge → Barge) : (c.onBrg f).cam = c.cam := (rfl)

@[simp] theorem Chip.onBrg_cmp (c : Chip) (f : Barge → Barge) : (c.onBrg f).cmp = c.cmp := (rfl)

@[simp] theorem Chip.onBrg_soA (c : Chip) (f : Barge → Barge) : (c.onBrg f).soA = c.soA := (rfl)

@[simp] theorem Chip.onBrg_soB (c : Chip) (f : Barge → Barge) : (c.onBrg f).soB = c.soB := (rfl)

@[simp] theorem Chip.onBrg_bps (c : Chip) (f : Barge → Barge) : (c.onBrg f).bps = c.bps := (rfl)

@[simp] theorem Chip.onBrg_bsc (c : Chip) (f : Barge → Barge) : (c.onBrg f).bsc = c.bsc := (rfl)

@[simp] theorem Chip.onBrg_ltd (c : Chip) (f : Barge → Barge) : (c.onBrg f).ltd = c.ltd := (rfl)

@[simp] theorem Chip.onBrg_twp (c : Chip) (f : Barge → Barge) : (c.onBrg f).twp = c.twp := (rfl)

@[simp] theorem Chip.onBrg_free (c : Chip) (f : Barge → Barge) : (c.onBrg f).free = c.free := (rfl)

@[simp] theorem Chip.onBrg_get (c : Chip) (f : Barge → Barge) (a : Nat) : (c.onBrg f).get a = c.get a := (rfl)

@[simp] theorem Chip.onBrg_getEff (c : Chip) (f : Barge → Barge) (a : Nat) : (c.onBrg f).getEff a = c.getEff a
    := (rfl)

@[simp] theorem Chip.onBrg_rd (c : Chip) (f : Barge → Barge) (g : Field) : (c.onBrg f).rd g = c.rd g := (rfl)

@[simp] theorem Chip.onBrg_ef (c : Chip) (f : Barge → Barge) (g : Field) : (c.onBrg f).ef g = c.ef g := (rfl)

/-! ### `Chip.onPins` -/

@[simp] theorem Chip.onPins_variantS (c : Chip) (f : Pins → Pins) : (c.onPins f).variantS = c.variantS := (rfl)

@[simp] theorem Chip.onPins_revision (c : Chip) (f : Pins → Pins) : (c.onPins f).revision = c.revision := (rfl)

@[simp] theorem Chip.onPins_regs (c : Chip) (f : Pins → Pins) : (c.onPins f).regs = c.regs := (rfl)

@[simp] theorem Chip.onPins_eff (c : Chip) (f : Pins → Pins) : (c.onPins f).eff = c.eff := (rfl)

@[simp] theorem Chip.onPins_mode (c : Chip) (f : Pins → Pins) : (c.onPins f).mode = c.mode := (rfl)

@[simp] theorem Chip.onPins_wh (c : Chip) (f : Pins → Pins) : (c.onPins f).wh = c.wh := (rfl)

@[simp] theorem Chip.onPins_ck (c : Chip) (f : Pins → Pins) : (c.onPins f).ck = c.ck := (rfl)

@[simp] theorem Chip.onPins_pw (c : Chip) (f : Pins → Pins) : (c.onPins f).pw = c.pw := (rfl)

@[simp] theorem Chip.onPins_ld (c : Chip) (f : Pins → Pins) : (c.onPins f).ld = c.ld := (rfl)

@[simp] theorem Chip.onPins_lk (c : Chip) (f : Pins → Pins) : (c.onPins f).lk = c.lk := (rfl)

@[simp] theorem Chip.onPins_pins (c : Chip) (f : Pins → Pins) : (c.onPins f).pins = f c.pins := (rfl)

@[simp] theorem Chip.onPins_tap (c : Chip) (f : Pins → Pins) : (c.onPins f).tap = c.tap := (rfl)

@[simp] theorem Chip.onPins_locks (c : Chip) (f : Pins → Pins) : (c.onPins f).locks = c.locks := (rfl)

@[simp] theorem Chip.onPins_mcA (c : Chip) (f : Pins → Pins) : (c.onPins f).mcA = c.mcA := (rfl)

@[simp] theorem Chip.onPins_mcB (c : Chip) (f : Pins → Pins) : (c.onPins f).mcB = c.mcB := (rfl)

@[simp] theorem Chip.onPins_mcx (c : Chip) (f : Pins → Pins) : (c.onPins f).mcx = c.mcx := (rfl)

@[simp] theorem Chip.onPins_dram (c : Chip) (f : Pins → Pins) : (c.onPins f).dram = c.dram := (rfl)

@[simp] theorem Chip.onPins_flash (c : Chip) (f : Pins → Pins) : (c.onPins f).flash = c.flash := (rfl)

@[simp] theorem Chip.onPins_vin (c : Chip) (f : Pins → Pins) : (c.onPins f).vin = c.vin := (rfl)

@[simp] theorem Chip.onPins_brg (c : Chip) (f : Pins → Pins) : (c.onPins f).brg = c.brg := (rfl)

@[simp] theorem Chip.onPins_cam (c : Chip) (f : Pins → Pins) : (c.onPins f).cam = c.cam := (rfl)

@[simp] theorem Chip.onPins_cmp (c : Chip) (f : Pins → Pins) : (c.onPins f).cmp = c.cmp := (rfl)

@[simp] theorem Chip.onPins_soA (c : Chip) (f : Pins → Pins) : (c.onPins f).soA = c.soA := (rfl)

@[simp] theorem Chip.onPins_soB (c : Chip) (f : Pins → Pins) : (c.onPins f).soB = c.soB := (rfl)

@[simp] theorem Chip.onPins_bps (c : Chip) (f : Pins → Pins) : (c.onPins f).bps = c.bps := (rfl)

@[simp] theorem Chip.onPins_bsc (c : Chip) (f : Pins → Pins) : (c.onPins f).bsc = c.bsc := (rfl)

@[simp] theorem Chip.onPins_ltd (c : Chip) (f : Pins → Pins) : (c.onPins f).ltd = c.ltd := (rfl)

@[simp] theorem Chip.onPins_twp (c : Chip) (f : Pins → Pins) : (c.onPins f).twp = c.twp := (rfl)

@[simp] theorem Chip.onPins_free (c : Chip) (f : Pins → Pins) : (c.onPins f).free = c.free := (rfl)

@[simp] theorem Chip.onPins_get (c : Chip) (f : Pins → Pins) (a : Nat) : (c.onPins f).get a = c.get a := (rfl)

@[simp] theorem Chip.onPins_getEff (c : Chip) (f : Pins → Pins) (a : Nat) : (c.onPins f).getEff a = c.getEff a
    := (rfl)

@[simp] theorem Chip.onPins_rd (c : Chip) (f : Pins → Pins) (g : Field) : (c.onPins f).rd g = c.rd g := (rfl)

@[simp] theorem Chip.onPins_ef (c : Chip) (f : Pins → Pins) (g : Field) : (c.onPins f).ef g = c.ef g := (rfl)

/-! ### `Chip.setReg` -/

@[simp] theorem Chip.setReg_variantS (c : Chip) (a : Nat) (w : Word) : (c.setReg a w).variantS = c.variantS := (rfl)

@[simp] theorem Chip.setReg_revision (c : Chip) (a : Nat) (w : Word) : (c.setReg a w).revision = c.revision := (rfl)

@[simp] theorem Chip.setReg_eff (c : Chip) (a : Nat) (w : Word) : (c.setReg a w).eff = c.eff := (rfl)

@[simp] theorem Chip.setReg_mode (c : Chip) (a : Nat) (w : Word) : (c.setReg a w).mode = c.mode := (rfl)

@[simp] theorem Chip.setReg_wh (c : Chip) (a : Nat) (w : Word) : (c.setReg a w).wh = c.wh := (rfl)

@[simp] theorem Chip.setReg_ck (c : Chip) (a : Nat) (w : Word) : (c.setReg a w).ck = c.ck := (rfl)

@[simp] theorem Chip.setReg_pw (c : Chip) (a : Nat) (w : Word) : (c.setReg a w).pw = c.pw := (rfl)

@[simp] theorem Chip.setReg_ld (c : Chip) (a : Nat) (w : Word) : (c.setReg a w).ld = c.ld := (rfl)

@[simp] theorem Chip.setReg_lk (c : Chip) (a : Nat) (w : Word) : (c.setReg a w).lk = c.lk := (rfl)

@[simp] theorem Chip.setReg_pins (c : Chip) (a : Nat) (w : Word) : (c.setReg a w).pins = c.pins := (rfl)

@[simp] theorem Chip.setReg_tap (c : Chip) (a : Nat) (w : Word) : (c.setReg a w).tap = c.tap := (rfl)

@[simp] theorem Chip.setReg_locks (c : Chip) (a : Nat) (w : Word) : (c.setReg a w).locks = c.locks := (rfl)

@[simp] theorem Chip.setReg_mcA (c : Chip) (a : Nat) (w : Word) : (c.setReg a w).mcA = c.mcA := (rfl)

@[simp] theorem Chip.setReg_mcB (c : Chip) (a : Nat) (w : Word) : (c.setReg a w).mcB = c.mcB := (rfl)

@[simp] theorem Chip.setReg_mcx (c : Chip) (a : Nat) (w : Word) : (c.setReg a w).mcx = c.mcx := (rfl)

@[simp] theorem Chip.setReg_dram (c : Chip) (a : Nat) (w : Word) : (c.setReg a w).dram = c.dram := (rfl)

@[simp] theorem Chip.setReg_flash (c : Chip) (a : Nat) (w : Word) : (c.setReg a w).flash = c.flash := (rfl)

@[simp] theorem Chip.setReg_vin (c : Chip) (a : Nat) (w : Word) : (c.setReg a w).vin = c.vin := (rfl)

@[simp] theorem Chip.setReg_brg (c : Chip) (a : Nat) (w : Word) : (c.setReg a w).brg = c.brg := (rfl)

@[simp] theorem Chip.setReg_cam (c : Chip) (a : Nat) (w : Word) : (c.setReg a w).cam = c.cam := (rfl)

@[simp] theorem Chip.setReg_cmp (c : Chip) (a : Nat) (w : Word) : (c.setReg a w).cmp = c.cmp := (rfl)

@[simp] theorem Chip.setReg_soA (c : Chip) (a : Nat) (w : Word) : (c.setReg a w).soA = c.soA := (rfl)

@[simp] theorem Chip.setReg_soB (c : Chip) (a : Nat) (w : Word) : (c.setReg a w).soB = c.soB := (rfl)

@[simp] theorem Chip.setReg_bps (c : Chip) (a : Nat) (w : Word) : (c.setReg a w).bps = c.bps := (rfl)

@[simp] theorem Chip.setReg_bsc (c : Chip) (a : Nat) (w : Word) : (c.setReg a w).bsc = c.bsc := (rfl)

@[simp] theorem Chip.setReg_ltd (c : Chip) (a : Nat) (w : Word) : (c.setReg a w).ltd = c.ltd := (rfl)

@[simp] theorem Chip.setReg_twp (c : Chip) (a : Nat) (w : Word) : (c.setReg a w).twp = c.twp := (rfl)

@[simp] theorem Chip.setReg_free (c : Chip) (a : Nat) (w : Word) : (c.setReg a w).free = c.free := (rfl)

/-! ### `Chip.wr` -/

@[simp] theorem Chip.wr_variantS (c : Chip) (g : Field) (v : Nat) : (c.wr g v).variantS = c.variantS := (rfl)

@[simp] theorem Chip.wr_revision (c : Chip) (g : Field) (v : Nat) : (c.wr g v).revision = c.revision := (rfl)

@[simp] theorem Chip.wr_eff (c : Chip) (g : Field) (v : Nat) : (c.wr g v).eff = c.eff := (rfl)

@[simp] theorem Chip.wr_mode (c : Chip) (g : Field) (v : Nat) : (c.wr g v).mode = c.mode := (rfl)

@[simp] theorem Chip.wr_wh (c : Chip) (g : Field) (v : Nat) : (c.wr g v).wh = c.wh := (rfl)

@[simp] theorem Chip.wr_ck (c : Chip) (g : Field) (v : Nat) : (c.wr g v).ck = c.ck := (rfl)

@[simp] theorem Chip.wr_pw (c : Chip) (g : Field) (v : Nat) : (c.wr g v).pw = c.pw := (rfl)

@[simp] theorem Chip.wr_ld (c : Chip) (g : Field) (v : Nat) : (c.wr g v).ld = c.ld := (rfl)

@[simp] theorem Chip.wr_lk (c : Chip) (g : Field) (v : Nat) : (c.wr g v).lk = c.lk := (rfl)

@[simp] theorem Chip.wr_pins (c : Chip) (g : Field) (v : Nat) : (c.wr g v).pins = c.pins := (rfl)

@[simp] theorem Chip.wr_tap (c : Chip) (g : Field) (v : Nat) : (c.wr g v).tap = c.tap := (rfl)

@[simp] theorem Chip.wr_locks (c : Chip) (g : Field) (v : Nat) : (c.wr g v).locks = c.locks := (rfl)

@[simp] theorem Chip.wr_mcA (c : Chip) (g : Field) (v : Nat) : (c.wr g v).mcA = c.mcA := (rfl)

@[simp] theorem Chip.wr_mcB (c : Chip) (g : Field) (v : Nat) : (c.wr g v).mcB = c.mcB := (rfl)

@[simp] theorem Chip.wr_mcx (c : Chip) (g : Field) (v : Nat) : (c.wr g v).mcx = c.mcx := (rfl)

@[simp] theorem Chip.wr_dram (c : Chip) (g : Field) (v : Nat) : (c.wr g v).dram = c.dram := (rfl)

@[simp] theorem Chip.wr_flash (c : Chip) (g : Field) (v : Nat) : (c.wr g v).flash = c.flash := (rfl)

@[simp] theorem Chip.wr_vin (c : Chip) (g : Field) (v : Nat) : (c.wr g v).vin = c.vin := (rfl)

@[simp] theorem Chip.wr_brg (c : Chip) (g : Field) (v : Nat) : (c.wr g v).brg = c.brg := (rfl)

@[simp] theorem Chip.wr_cam (c : Chip) (g : Field) (v : Nat) : (c.wr g v).cam = c.cam := (rfl)

@[simp] theorem Chip.wr_cmp (c : Chip) (g : Field) (v : Nat) : (c.wr g v).cmp = c.cmp := (rfl)

@[simp] theorem Chip.wr_soA (c : Chip) (g : Field) (v : Nat) : (c.wr g v).soA = c.soA := (rfl)

@[simp] theorem Chip.wr_soB (c : Chip) (g : Field) (v : Nat) : (c.wr g v).soB = c.soB := (rfl)

@[simp] theorem Chip.wr_bps (c : Chip) (g : Field) (v : Nat) : (c.wr g v).bps = c.bps := (rfl)

@[simp] theorem Chip.wr_bsc (c : Chip) (g : Field) (v : Nat) : (c.wr g v).bsc = c.bsc := (rfl)

@[simp] theorem Chip.wr_ltd (c : Chip) (g : Field) (v : Nat) : (c.wr g v).ltd = c.ltd := (rfl)

@[simp] theorem Chip.wr_twp (c : Chip) (g : Field) (v : Nat) : (c.wr g v).twp = c.twp := (rfl)

@[simp] theorem Chip.wr_free (c : Chip) (g : Field) (v : Nat) : (c.wr g v).free = c.free := (rfl)

/-! ### `Chip.bump` -/

@[simp] theorem Chip.bump_variantS (c : Chip) (g : Field) (k : Nat) : (c.bump g k).variantS = c.variantS := (rfl)

@[simp] theorem Chip.bump_revision (c : Chip) (g : Field) (k : Nat) : (c.bump g k).revision = c.revision := (rfl)

@[simp] theorem Chip.bump_eff (c : Chip) (g : Field) (k : Nat) : (c.bump g k).eff = c.eff := (rfl)

@[simp] theorem Chip.bump_mode (c : Chip) (g : Field) (k : Nat) : (c.bump g k).mode = c.mode := (rfl)

@[simp] theorem Chip.bump_wh (c : Chip) (g : Field) (k : Nat) : (c.bump g k).wh = c.wh := (rfl)

@[simp] theorem Chip.bump_ck (c : Chip) (g : Field) (k : Nat) : (c.bump g k).ck = c.ck := (rfl)

@[simp] theorem Chip.bump_pw (c : Chip) (g : Field) (k : Nat) : (c.bump g k).pw = c.pw := (rfl)

@[simp] theorem Chip.bump_ld (c : Chip) (g : Field) (k : Nat) : (c.bump g k).ld = c.ld := (rfl)

@[simp] theorem Chip.bump_lk (c : Chip) (g : Field) (k : Nat) : (c.bump g k).lk = c.lk := (rfl)

@[simp] theorem Chip.bump_pins (c : Chip) (g : Field) (k : Nat) : (c.bump g k).pins = c.pins := (rfl)

@[simp] theorem Chip.bump_tap (c : Chip) (g : Field) (k : Nat) : (c.bump g k).tap = c.tap := (rfl)

@[simp] theorem Chip.bump_locks (c : Chip) (g : Field) (k : Nat) : (c.bump g k).locks = c.locks := (rfl)

@[simp] theorem Chip.bump_mcA (c : Chip) (g : Field) (k : Nat) : (c.bump g k).mcA = c.mcA := (rfl)

@[simp] theorem Chip.bump_mcB (c : Chip) (g : Field) (k : Nat) : (c.bump g k).mcB = c.mcB := (rfl)

@[simp] theorem Chip.bump_mcx (c : Chip) (g : Field) (k : Nat) : (c.bump g k).mcx = c.mcx := (rfl)

@[simp] theorem Chip.bump_dram (c : Chip) (g : Field) (k : Nat) : (c.bump g k).dram = c.dram := (rfl)

@[simp] theorem Chip.bump_flash (c : Chip) (g : Field) (k : Nat) : (c.bump g k).flash = c.flash := (rfl)

@[simp] theorem Chip.bump_vin (c : Chip) (g : Field) (k : Nat) : (c.bump g k).vin = c.vin := (rfl)

@[simp] theorem Chip.bump_brg (c : Chip) (g : Field) (k : Nat) : (c.bump g k).brg = c.brg := (rfl)

@[simp] theorem Chip.bump_cam (c : Chip) (g : Field) (k : Nat) : (c.bump g k).cam = c.cam := (rfl)

@[simp] theorem Chip.bump_cmp (c : Chip) (g : Field) (k : Nat) : (c.bump g k).cmp = c.cmp := (rfl)

@[simp] theorem Chip.bump_soA (c : Chip) (g : Field) (k : Nat) : (c.bump g k).soA = c.soA := (rfl)

@[simp] theorem Chip.bump_soB (c : Chip) (g : Field) (k : Nat) : (c.bump g k).soB = c.soB := (rfl)

@[simp] theorem Chip.bump_bps (c : Chip) (g : Field) (k : Nat) : (c.bump g k).bps = c.bps := (rfl)

@[simp] theorem Chip.bump_bsc (c : Chip) (g : Field) (k : Nat) : (c.bump g k).bsc = c.bsc := (rfl)

@[simp] theorem Chip.bump_ltd (c : Chip) (g : Field) (k : Nat) : (c.bump g k).ltd = c.ltd := (rfl)

@[simp] theorem Chip.bump_twp (c : Chip) (g : Field) (k : Nat) : (c.bump g k).twp = c.twp := (rfl)

@[simp] theorem Chip.bump_free (c : Chip) (g : Field) (k : Nat) : (c.bump g k).free = c.free := (rfl)

/-! ### `Chip.setEff` -/

@[simp] theorem Chip.setEff_variantS (c : Chip) (a : Nat) (w : Word) : (c.setEff a w).variantS = c.variantS := (rfl)

@[simp] theorem Chip.setEff_revision (c : Chip) (a : Nat) (w : Word) : (c.setEff a w).revision = c.revision := (rfl)

@[simp] theorem Chip.setEff_regs (c : Chip) (a : Nat) (w : Word) : (c.setEff a w).regs = c.regs := (rfl)

@[simp] theorem Chip.setEff_mode (c : Chip) (a : Nat) (w : Word) : (c.setEff a w).mode = c.mode := (rfl)

@[simp] theorem Chip.setEff_wh (c : Chip) (a : Nat) (w : Word) : (c.setEff a w).wh = c.wh := (rfl)

@[simp] theorem Chip.setEff_ck (c : Chip) (a : Nat) (w : Word) : (c.setEff a w).ck = c.ck := (rfl)

@[simp] theorem Chip.setEff_pw (c : Chip) (a : Nat) (w : Word) : (c.setEff a w).pw = c.pw := (rfl)

@[simp] theorem Chip.setEff_ld (c : Chip) (a : Nat) (w : Word) : (c.setEff a w).ld = c.ld := (rfl)

@[simp] theorem Chip.setEff_lk (c : Chip) (a : Nat) (w : Word) : (c.setEff a w).lk = c.lk := (rfl)

@[simp] theorem Chip.setEff_pins (c : Chip) (a : Nat) (w : Word) : (c.setEff a w).pins = c.pins := (rfl)

@[simp] theorem Chip.setEff_tap (c : Chip) (a : Nat) (w : Word) : (c.setEff a w).tap = c.tap := (rfl)

@[simp] theorem Chip.setEff_locks (c : Chip) (a : Nat) (w : Word) : (c.setEff a w).locks = c.locks := (rfl)

@[simp] theorem Chip.setEff_mcA (c : Chip) (a : Nat) (w : Word) : (c.setEff a w).mcA = c.mcA := (rfl)

@[simp] theorem Chip.setEff_mcB (c : Chip) (a : Nat) (w : Word) : (c.setEff a w).mcB = c.mcB := (rfl)

@[simp] theorem Chip.setEff_mcx (c : Chip) (a : Nat) (w : Word) : (c.setEff a w).mcx = c.mcx := (rfl)

@[simp] theorem Chip.setEff_dram (c : Chip) (a : Nat) (w : Word) : (c.setEff a w).dram = c.dram := (rfl)

@[simp] theorem Chip.setEff_flash (c : Chip) (a : Nat) (w : Word) : (c.setEff a w).flash = c.flash := (rfl)

@[simp] theorem Chip.setEff_vin (c : Chip) (a : Nat) (w : Word) : (c.setEff a w).vin = c.vin := (rfl)

@[simp] theorem Chip.setEff_brg (c : Chip) (a : Nat) (w : Word) : (c.setEff a w).brg = c.brg := (rfl)

@[simp] theorem Chip.setEff_cam (c : Chip) (a : Nat) (w : Word) : (c.setEff a w).cam = c.cam := (rfl)

@[simp] theorem Chip.setEff_cmp (c : Chip) (a : Nat) (w : Word) : (c.setEff a w).cmp = c.cmp := (rfl)

@[simp] theorem Chip.setEff_soA (c : Chip) (a : Nat) (w : Word) : (c.setEff a w).soA = c.soA := (rfl)

@[simp] theorem Chip.setEff_soB (c : Chip) (a : Nat) (w : Word) : (c.setEff a w).soB = c.soB := (rfl)

@[simp] theorem Chip.setEff_bps (c : Chip) (a : Nat) (w : Word) : (c.setEff a w).bps = c.bps := (rfl)

@[simp] theorem Chip.setEff_bsc (c : Chip) (a : Nat) (w : Word) : (c.setEff a w).bsc = c.bsc := (rfl)

@[simp] theorem Chip.setEff_ltd (c : Chip) (a : Nat) (w : Word) : (c.setEff a w).ltd = c.ltd := (rfl)

@[simp] theorem Chip.setEff_twp (c : Chip) (a : Nat) (w : Word) : (c.setEff a w).twp = c.twp := (rfl)

@[simp] theorem Chip.setEff_free (c : Chip) (a : Nat) (w : Word) : (c.setEff a w).free = c.free := (rfl)

@[simp] theorem Chip.setEff_get (c : Chip) (a : Nat) (w : Word) (b : Nat) : (c.setEff a w).get b = c.get b := (rfl)

@[simp] theorem Chip.setEff_rd (c : Chip) (a : Nat) (w : Word) (h : Field) : (c.setEff a w).rd h = c.rd h := (rfl)

/-! ### `Chip.commitRange` -/

@[simp] theorem Chip.commitRange_variantS (c : Chip) (lo hi : Nat) : (c.commitRange lo hi).variantS = c.variantS
    := (rfl)

@[simp] theorem Chip.commitRange_revision (c : Chip) (lo hi : Nat) : (c.commitRange lo hi).revision = c.revision
    := (rfl)

@[simp] theorem Chip.commitRange_regs (c : Chip) (lo hi : Nat) : (c.commitRange lo hi).regs = c.regs := (rfl)

@[simp] theorem Chip.commitRange_mode (c : Chip) (lo hi : Nat) : (c.commitRange lo hi).mode = c.mode := (rfl)

@[simp] theorem Chip.commitRange_wh (c : Chip) (lo hi : Nat) : (c.commitRange lo hi).wh = c.wh := (rfl)

@[simp] theorem Chip.commitRange_ck (c : Chip) (lo hi : Nat) : (c.commitRange lo hi).ck = c.ck := (rfl)

@[simp] theorem Chip.commitRange_pw (c : Chip) (lo hi : Nat) : (c.commitRange lo hi).pw = c.pw := (rfl)

@[simp] theorem Chip.commitRange_ld (c : Chip) (lo hi : Nat) : (c.commitRange lo hi).ld = c.ld := (rfl)

@[simp] theorem Chip.commitRange_lk (c : Chip) (lo hi : Nat) : (c.commitRange lo hi).lk = c.lk := (rfl)

@[simp] theorem Chip.commitRange_pins (c : Chip) (lo hi : Nat) : (c.commitRange lo hi).pins = c.pins := (rfl)

@[simp] theorem Chip.commitRange_tap (c : Chip) (lo hi : Nat) : (c.commitRange lo hi).tap = c.tap := (rfl)

@[simp] theorem Chip.commitRange_locks (c : Chip) (lo hi : Nat) : (c.commitRange lo hi).locks = c.locks := (rfl)

@[simp] theorem Chip.commitRange_mcA (c : Chip) (lo hi : Nat) : (c.commitRange lo hi).mcA = c.mcA := (rfl)

@[simp] theorem Chip.commitRange_mcB (c : Chip) (lo hi : Nat) : (c.commitRange lo hi).mcB = c.mcB := (rfl)

@[simp] theorem Chip.commitRange_mcx (c : Chip) (lo hi : Nat) : (c.commitRange lo hi).mcx = c.mcx := (rfl)

@[simp] theorem Chip.commitRange_dram (c : Chip) (lo hi : Nat) : (c.commitRange lo hi).dram = c.dram := (rfl)

@[simp] theorem Chip.commitRange_flash (c : Chip) (lo hi : Nat) : (c.commitRange lo hi).flash = c.flash := (rfl)

@[simp] theorem Chip.commitRange_vin (c : Chip) (lo hi : Nat) : (c.commitRange lo hi).vin = c.vin := (rfl)

@[simp] theorem Chip.commitRange_brg (c : Chip) (lo hi : Nat) : (c.commitRange lo hi).brg = c.brg := (rfl)

@[simp] theorem Chip.commitRange_cam (c : Chip) (lo hi : Nat) : (c.commitRange lo hi).cam = c.cam := (rfl)

@[simp] theorem Chip.commitRange_cmp (c : Chip) (lo hi : Nat) : (c.commitRange lo hi).cmp = c.cmp := (rfl)

@[simp] theorem Chip.commitRange_soA (c : Chip) (lo hi : Nat) : (c.commitRange lo hi).soA = c.soA := (rfl)

@[simp] theorem Chip.commitRange_soB (c : Chip) (lo hi : Nat) : (c.commitRange lo hi).soB = c.soB := (rfl)

@[simp] theorem Chip.commitRange_bps (c : Chip) (lo hi : Nat) : (c.commitRange lo hi).bps = c.bps := (rfl)

@[simp] theorem Chip.commitRange_bsc (c : Chip) (lo hi : Nat) : (c.commitRange lo hi).bsc = c.bsc := (rfl)

@[simp] theorem Chip.commitRange_ltd (c : Chip) (lo hi : Nat) : (c.commitRange lo hi).ltd = c.ltd := (rfl)

@[simp] theorem Chip.commitRange_twp (c : Chip) (lo hi : Nat) : (c.commitRange lo hi).twp = c.twp := (rfl)

@[simp] theorem Chip.commitRange_free (c : Chip) (lo hi : Nat) : (c.commitRange lo hi).free = c.free := (rfl)

@[simp] theorem Chip.commitRange_get (c : Chip) (lo hi : Nat) (b : Nat) : (c.commitRange lo hi).get b = c.get b
    := (rfl)

@[simp] theorem Chip.commitRange_rd (c : Chip) (lo hi : Nat) (h : Field) : (c.commitRange lo hi).rd h = c.rd h
    := (rfl)

/-! ### `Chip.takeFree` -/

@[simp] theorem Chip.takeFree_variantS (c : Chip) : (c.takeFree).variantS = c.variantS := (rfl)

@[simp] theorem Chip.takeFree_revision (c : Chip) : (c.takeFree).revision = c.revision := (rfl)

@[simp] theorem Chip.takeFree_regs (c : Chip) : (c.takeFree).regs = c.regs := (rfl)

@[simp] theorem Chip.takeFree_eff (c : Chip) : (c.takeFree).eff = c.eff := (rfl)

@[simp] theorem Chip.takeFree_mode (c : Chip) : (c.takeFree).mode = c.mode := (rfl)

@[simp] theorem Chip.takeFree_wh (c : Chip) : (c.takeFree).wh = c.wh := (rfl)

@[simp] theorem Chip.takeFree_ck (c : Chip) : (c.takeFree).ck = c.ck := (rfl)

@[simp] theorem Chip.takeFree_pw (c : Chip) : (c.takeFree).pw = c.pw := (rfl)

@[simp] theorem Chip.takeFree_ld (c : Chip) : (c.takeFree).ld = c.ld := (rfl)

@[simp] theorem Chip.takeFree_lk (c : Chip) : (c.takeFree).lk = c.lk := (rfl)

@[simp] theorem Chip.takeFree_pins (c : Chip) : (c.takeFree).pins = c.pins := (rfl)

@[simp] theorem Chip.takeFree_tap (c : Chip) : (c.takeFree).tap = c.tap := (rfl)

@[simp] theorem Chip.takeFree_locks (c : Chip) : (c.takeFree).locks = c.locks := (rfl)

@[simp] theorem Chip.takeFree_mcA (c : Chip) : (c.takeFree).mcA = c.mcA := (rfl)

@[simp] theorem Chip.takeFree_mcB (c : Chip) : (c.takeFree).mcB = c.mcB := (rfl)

@[simp] theorem Chip.takeFree_mcx (c : Chip) : (c.takeFree).mcx = c.mcx := (rfl)

@[simp] theorem Chip.takeFree_dram (c : Chip) : (c.takeFree).dram = c.dram := (rfl)

@[simp] theorem Chip.takeFree_flash (c : Chip) : (c.takeFree).flash = c.flash := (rfl)

@[simp] theorem Chip.takeFree_vin (c : Chip) : (c.takeFree).vin = c.vin := (rfl)

@[simp] theorem Chip.takeFree_brg (c : Chip) : (c.takeFree).brg = c.brg := (rfl)

@[simp] theorem Chip.takeFree_cam (c : Chip) : (c.takeFree).cam = c.cam := (rfl)

@[simp] theorem Chip.takeFree_cmp (c : Chip) : (c.takeFree).cmp = c.cmp := (rfl)

@[simp] theorem Chip.takeFree_soA (c : Chip) : (c.takeFree).soA = c.soA := (rfl)

@[simp] theorem Chip.takeFree_soB (c : Chip) : (c.takeFree).soB = c.soB := (rfl)

@[simp] theorem Chip.takeFree_bps (c : Chip) : (c.takeFree).bps = c.bps := (rfl)

@[simp] theorem Chip.takeFree_bsc (c : Chip) : (c.takeFree).bsc = c.bsc := (rfl)

@[simp] theorem Chip.takeFree_ltd (c : Chip) : (c.takeFree).ltd = c.ltd := (rfl)

@[simp] theorem Chip.takeFree_twp (c : Chip) : (c.takeFree).twp = c.twp := (rfl)

@[simp] theorem Chip.takeFree_get (c : Chip) (b : Nat) : (c.takeFree).get b = c.get b := (rfl)

@[simp] theorem Chip.takeFree_rd (c : Chip) (h : Field) : (c.takeFree).rd h = c.rd h := (rfl)

/-! ### `Chip.evt` -/

@[simp] theorem Chip.evt_variantS (c : Chip) (n : Nat) : (c.evt n).variantS = c.variantS := (rfl)

@[simp] theorem Chip.evt_revision (c : Chip) (n : Nat) : (c.evt n).revision = c.revision := (rfl)

@[simp] theorem Chip.evt_regs (c : Chip) (n : Nat) : (c.evt n).regs = c.regs := (rfl)

@[simp] theorem Chip.evt_eff (c : Chip) (n : Nat) : (c.evt n).eff = c.eff := (rfl)

@[simp] theorem Chip.evt_mode (c : Chip) (n : Nat) : (c.evt n).mode = c.mode := (rfl)

@[simp] theorem Chip.evt_ck (c : Chip) (n : Nat) : (c.evt n).ck = c.ck := (rfl)

@[simp] theorem Chip.evt_pw (c : Chip) (n : Nat) : (c.evt n).pw = c.pw := (rfl)

@[simp] theorem Chip.evt_ld (c : Chip) (n : Nat) : (c.evt n).ld = c.ld := (rfl)

@[simp] theorem Chip.evt_lk (c : Chip) (n : Nat) : (c.evt n).lk = c.lk := (rfl)

@[simp] theorem Chip.evt_pins (c : Chip) (n : Nat) : (c.evt n).pins = c.pins := (rfl)

@[simp] theorem Chip.evt_tap (c : Chip) (n : Nat) : (c.evt n).tap = c.tap := (rfl)

@[simp] theorem Chip.evt_locks (c : Chip) (n : Nat) : (c.evt n).locks = c.locks := (rfl)

@[simp] theorem Chip.evt_mcA (c : Chip) (n : Nat) : (c.evt n).mcA = c.mcA := (rfl)

@[simp] theorem Chip.evt_mcB (c : Chip) (n : Nat) : (c.evt n).mcB = c.mcB := (rfl)

@[simp] theorem Chip.evt_mcx (c : Chip) (n : Nat) : (c.evt n).mcx = c.mcx := (rfl)

@[simp] theorem Chip.evt_dram (c : Chip) (n : Nat) : (c.evt n).dram = c.dram := (rfl)

@[simp] theorem Chip.evt_flash (c : Chip) (n : Nat) : (c.evt n).flash = c.flash := (rfl)

@[simp] theorem Chip.evt_vin (c : Chip) (n : Nat) : (c.evt n).vin = c.vin := (rfl)

@[simp] theorem Chip.evt_brg (c : Chip) (n : Nat) : (c.evt n).brg = c.brg := (rfl)

@[simp] theorem Chip.evt_cam (c : Chip) (n : Nat) : (c.evt n).cam = c.cam := (rfl)

@[simp] theorem Chip.evt_cmp (c : Chip) (n : Nat) : (c.evt n).cmp = c.cmp := (rfl)

@[simp] theorem Chip.evt_soA (c : Chip) (n : Nat) : (c.evt n).soA = c.soA := (rfl)

@[simp] theorem Chip.evt_soB (c : Chip) (n : Nat) : (c.evt n).soB = c.soB := (rfl)

@[simp] theorem Chip.evt_bps (c : Chip) (n : Nat) : (c.evt n).bps = c.bps := (rfl)

@[simp] theorem Chip.evt_bsc (c : Chip) (n : Nat) : (c.evt n).bsc = c.bsc := (rfl)

@[simp] theorem Chip.evt_ltd (c : Chip) (n : Nat) : (c.evt n).ltd = c.ltd := (rfl)

@[simp] theorem Chip.evt_twp (c : Chip) (n : Nat) : (c.evt n).twp = c.twp := (rfl)

@[simp] theorem Chip.evt_free (c : Chip) (n : Nat) : (c.evt n).free = c.free := (rfl)

@[simp] theorem Chip.evt_get (c : Chip) (n : Nat) (b : Nat) : (c.evt n).get b = c.get b := (rfl)

@[simp] theorem Chip.evt_rd (c : Chip) (n : Nat) (h : Field) : (c.evt n).rd h = c.rd h := (rfl)

/-! ### `Chip.whErr` -/

@[simp] theorem Chip.whErr_variantS (c : Chip) (e : Nat) : (c.whErr e).variantS = c.variantS := (rfl)

@[simp] theorem Chip.whErr_revision (c : Chip) (e : Nat) : (c.whErr e).revision = c.revision := (rfl)

@[simp] theorem Chip.whErr_regs (c : Chip) (e : Nat) : (c.whErr e).regs = c.regs := (rfl)

@[simp] theorem Chip.whErr_eff (c : Chip) (e : Nat) : (c.whErr e).eff = c.eff := (rfl)

@[simp] theorem Chip.whErr_mode (c : Chip) (e : Nat) : (c.whErr e).mode = c.mode := (rfl)

@[simp] theorem Chip.whErr_ck (c : Chip) (e : Nat) : (c.whErr e).ck = c.ck := (rfl)

@[simp] theorem Chip.whErr_pw (c : Chip) (e : Nat) : (c.whErr e).pw = c.pw := (rfl)

@[simp] theorem Chip.whErr_ld (c : Chip) (e : Nat) : (c.whErr e).ld = c.ld := (rfl)

@[simp] theorem Chip.whErr_lk (c : Chip) (e : Nat) : (c.whErr e).lk = c.lk := (rfl)

@[simp] theorem Chip.whErr_pins (c : Chip) (e : Nat) : (c.whErr e).pins = c.pins := (rfl)

@[simp] theorem Chip.whErr_tap (c : Chip) (e : Nat) : (c.whErr e).tap = c.tap := (rfl)

@[simp] theorem Chip.whErr_locks (c : Chip) (e : Nat) : (c.whErr e).locks = c.locks := (rfl)

@[simp] theorem Chip.whErr_mcA (c : Chip) (e : Nat) : (c.whErr e).mcA = c.mcA := (rfl)

@[simp] theorem Chip.whErr_mcB (c : Chip) (e : Nat) : (c.whErr e).mcB = c.mcB := (rfl)

@[simp] theorem Chip.whErr_mcx (c : Chip) (e : Nat) : (c.whErr e).mcx = c.mcx := (rfl)

@[simp] theorem Chip.whErr_dram (c : Chip) (e : Nat) : (c.whErr e).dram = c.dram := (rfl)

@[simp] theorem Chip.whErr_flash (c : Chip) (e : Nat) : (c.whErr e).flash = c.flash := (rfl)

@[simp] theorem Chip.whErr_vin (c : Chip) (e : Nat) : (c.whErr e).vin = c.vin := (rfl)

@[simp] theorem Chip.whErr_brg (c : Chip) (e : Nat) : (c.whErr e).brg = c.brg := (rfl)

@[simp] theorem Chip.whErr_cam (c : Chip) (e : Nat) : (c.whErr e).cam = c.cam := (rfl)

@[simp] theorem Chip.whErr_cmp (c : Chip) (e : Nat) : (c.whErr e).cmp = c.cmp := (rfl)

@[simp] theorem Chip.whErr_soA (c : Chip) (e : Nat) : (c.whErr e).soA = c.soA := (rfl)

@[simp] theorem Chip.whErr_soB (c : Chip) (e : Nat) : (c.whErr e).soB = c.soB := (rfl)

@[simp] theorem Chip.whErr_bps (c : Chip) (e : Nat) : (c.whErr e).bps = c.bps := (rfl)

@[simp] theorem Chip.whErr_bsc (c : Chip) (e : Nat) : (c.whErr e).bsc = c.bsc := (rfl)

@[simp] theorem Chip.whErr_ltd (c : Chip) (e : Nat) : (c.whErr e).ltd = c.ltd := (rfl)

@[simp] theorem Chip.whErr_twp (c : Chip) (e : Nat) : (c.whErr e).twp = c.twp := (rfl)

@[simp] theorem Chip.whErr_free (c : Chip) (e : Nat) : (c.whErr e).free = c.free := (rfl)

@[simp] theorem Chip.whErr_get (c : Chip) (e : Nat) (b : Nat) : (c.whErr e).get b = c.get b := (rfl)

@[simp] theorem Chip.whErr_rd (c : Chip) (e : Nat) (h : Field) : (c.whErr e).rd h = c.rd h := (rfl)

/-! ### A state and its queue -/

@[simp] theorem State.push_chip (s : State) (i : Instr) : (s.push i).chip = s.chip := rfl

@[simp] theorem State.push_pending (s : State) (i : Instr) : (s.push i).pending = i :: s.pending := rfl

/-- What a command's effect answers. -/
@[simp] theorem effectAlways_eq (s : State) (f : Chip → Chip) :
    effectAlways s f = .next { s with chip := f s.chip } := rfl

/-- In power-on reset a command has no effect. -/
theorem effect_por (s : State) (f : Chip → Chip) (h : s.chip.pins.por = true) : effect s f = .next s := by
  simp [effect, h]

/-- Out of power-on reset a command has its effect. -/
theorem effect_run (s : State) (f : Chip → Chip) (h : s.chip.pins.por = false) :
    effect s f = .next { s with chip := f s.chip } := by
  simp [effect, h]

/-- A command that answers leaves the queue to the step. -/
theorem effect_pending (s t : State) (f : Chip → Chip) (h : effect s f = .next t) : t.pending = s.pending := by
  simp only [effect, effectAlways_eq, Host.Outcome.next.injEq] at h
  subst h; rfl

/-- A write that reaches its register. -/
theorem Chip.guardReg_ok (c : Chip) (a : Nat) (f : Chip → Chip) (h2 : c.pdOn 2 = true) (ha : c.access a = .ok) :
    c.guardReg a f = f c := by
  simp [Chip.guardReg, h2, ha]

/-- Before the Wharf's domain is ON no write arrives. -/
theorem Chip.guardReg_dark (c : Chip) (a : Nat) (f : Chip → Chip) (h2 : c.pdOn 2 = false) : c.guardReg a f = c := by
  simp [Chip.guardReg, h2]

/-- A write that does not reach a register sets the error of its access and changes the Wharf's state only. -/
theorem Chip.guardReg_refused (c : Chip) (a : Nat) (f : Chip → Chip) (ha : c.access a ≠ .ok) :
    c.guardReg a f = { c with wh := (c.guardReg a f).wh } := by
  unfold Chip.guardReg
  split
  · rfl
  · cases hx : c.access a <;> first | exact absurd hx ha | rfl

end Sys2Proof.Machine
end

