-- ==== Sys2Proof/Tests/Slice0.lean ====
section
/-! SUPPORT. Tests. First the operands that WellFormed refuses, then values the spec works out, then for each statement
a state and operands that meet its hypotheses: `witness_<Name>` is for
`Obligations.<Name>`, one part for each of its clauses or for several that one state meets. -/

namespace Sys2Proof.Machine

/-- Give a shadowed field a value in effect. -/
def Chip.putEff (c : Chip) (f : Field) (v : Nat) : Chip := c.setEff f.addr (f.put (c.getEff f.addr) v)

/-- Bytes in the flash. -/
def Chip.withFlash (c : Chip) (a : Nat) (bs : List Byte) : Chip :=
  { c with flash := SMap.setRun flashDefault c.flash a 1 bs }

end Sys2Proof.Machine

namespace Sys2Proof.Tests

open Sys2Proof Sys2Proof.Machine

set_option Elab.async false

/-- The part out of reset, every domain ON. -/
def upChip : Chip :=
  { Chip.reset with
      variantS := true
      pins := { Pins.reset with por := false }
      pw := { Power.reset with pd := List.replicate 52 .on } }

/-- The part with something changed. -/
def tune (f : Chip → Chip) : State := ⟨f upChip, []⟩

/-- The part as it is. -/
def up : State := tune id

/-- The part in a mode, with something changed. -/
def inMode (m : Mode) (f : Chip → Chip) : State := tune fun c => f (c.onMode fun x => { x with mode := m })

/-- The part on an edge, with something changed. -/
def onEdge (m : Mode) (e : Edge) (f : Chip → Chip) : State :=
  tune fun c => f (c.onMode fun x => { x with mode := m, edge := some e })

/-- A barge packet (Table 9.3). -/
def packet (type seq dest : Nat) (payload : List Byte) : List Byte :=
  let head := toLe 2 type ++ toLe 2 seq ++ toLe 4 payload.length ++ toLe 4 dest ++ toLe 3 0
  let body := head ++ toLe 1 (crc8 head) ++ payload
  body ++ toLe 4 (crc32 body)

/-- The first line of channel B written with words that read well. -/
def eightWords (c : Chip) : Chip :=
  (List.range 8).foldl (fun c i => c.writePhys ((⟨1, 0, 0, 0, 0⟩ : Loc).word i) i) c

/-- A manifest (Table 3.4) of the entries given. -/
def manifest (es : List (Nat × Nat × Nat)) : List Byte :=
  let body := es.flatMap fun e => toLe 4 e.1 ++ toLe 4 e.2.1 ++ toLe 4 e.2.2
  toLe 2 0x4D46 ++ toLe 1 1 ++ toLe 1 0 ++ toLe 2 es.length ++ toLe 2 7 ++ toLe 4 (crc32 body) ++ toLe 4 0 ++ body

/-- An image header (Table 6.3) without a ledger. -/
def imageHead (sections len : Nat) : List Byte :=
  let body := toLe 4 0x4D4C4F50 ++ toLe 2 1 ++ toLe 2 sections ++ toLe 4 len ++ toLe 48 0
  body ++ toLe 4 (crc32 body)

/-- A directory entry (Table 6.4). -/
def sectionEntry (type offset length : Nat) : List Byte :=
  toLe 4 type ++ toLe 4 offset ++ toLe 4 length ++ toLe 12 0

/-- A valid ledger record (Table 6.6). -/
def ledgerRecord (kind unit : Nat) (data : List Nat) : List Byte :=
  let body := toLe 1 0x5C ++ toLe 1 kind ++ toLe 6 0 ++ toLe 4 unit ++
    ((data ++ List.replicate 16 0).take 16).map (BitVec.ofNat 8)
  body ++ toLe 4 (crc32 body)

/-- Lamps 0 and 15 lit by calibration (LTD_CAL), with something changed. -/
def litLamp (f : Chip → Chip) : State :=
  inMode .calibrate fun c =>
    let c1 := (((c.putEff LTD_CTL_EN 1).putEff (LTD_STR_CFG_EN.at 0) 1).putEff (SHM_LAMP_CFG_EN.at 0) 1).putEff
      (SHM_LAMP_CFG_EN.at 15) 1
    f ((((c1.wr LTD_CAL_FORCE_EN 1).wr LTD_CAL_STR 1).wr LTD_CAL_LAMP 0x8001).onPll 3 fun x =>
      { x with on := true, lock := true, held := true })

/-- The sequencer of the bit planes running in MIRROR, with something changed. -/
def planesRun (f : Chip → Chip) : State :=
  inMode .mirror fun c =>
    let c1 := (((c.putEff BPS_CTL_EN 1).putEff CMP_CTL_ROUTE 1).wr SOA_STAT_STATE 1).wr (soF 1 SOA_STAT_STATE) 1
    f (((c1.wr (soF 1 SOA_STAT_LOCKED) 1).putEff SOA_HTIM0_HACT (c.bpsMW / 2)).putEff SOA_VTIM0_VACT c.bpsMH)


/-! ### WellFormed: an ill-formed command for each check -/

/-- No command of a list is well formed. -/
abbrev refusesAll (l : List Instr) : Prop := ∀ i ∈ l, i.wellFormed = false

theorem test_refuses_clock_units : refusesAll
    [.arithSatClear 48, .pllLock 4 0, .pllLockHoldExpire 4, .pllLockTimeout 4 0, .pllLockLoss 4 0,
      .ckgDomWrite 0 0, .ckgDomWrite 26 0, .fmStart 2 0, .fmGateEnd 2 0, .fmTimeout 2 0, .pgLost 4 0] := by decide

theorem test_refuses_ledger_and_flash_operands : refusesAll
    [.ledgerAppendRequest 256 0 0 [], .ledgerAppendRequest 0 65536 0 [], .ledgerAppendRequest 0 0 65536 [],
      .ledgerAppendRequest 0 0 0 (List.replicate 17 0), .ledgerAppendRequest 0 0 0 [256],
      .fhostRead 65536, .fhostProgram 65536] := by decide

theorem test_refuses_memory_channels : refusesAll
    [.mcInitGo 2, .mcInitResetRelease 2, .mcInitCkeRise 2, .mcInitComplete 2, .sweepGo 2 0, .sweepDone 2 0 0,
      .sweepDone 0 65536 0, .schedulerIssue 2, .readDataReturn 2, .requestAgePromote 2, .refreshDue 2 0,
      .refreshDue 0 2, .zqcsDue 2, .weirWindowEnd 2, .weirIdxWrite 2 0, .sluiceEntryStart 2, .sluiceSrEntered 2,
      .sluiceExitStart 2 1, .sluiceExitStart 0 0, .sluiceExitStart 0 5, .sluiceExitComplete 2] := by decide

theorem test_refuses_memory_errors_and_migration : refusesAll
    [.alertFall 2 0, .alertRetryReplay 2, .freezeSrEntered 2, .seedVisitDue 2, .scrubVisitDue 2,
      .scrubReadReturn 2, .pprGo 2 0, .pprDone 2 false, .migStart 2, .migAbort 2, .migCopyLine 2,
      .migFlipComplete 2, .errFirstClear 2, .snapIdxWrite 2 0] := by decide

theorem test_refuses_port_requests :
    let mask := List.replicate 64 false
    let words := List.replicate 8 0
    refusesAll [.portRequest 12 false 0 mask words false, .portRequest 0 false 2 mask words false,
      .portRequest 0 false 0x100000000 mask words false, .portRequest 0 false 0 [] words false,
      .portRequest 0 false 0 mask [] false] := by decide

theorem test_refuses_video_and_camera_units : refusesAll
    [.vinLinkLock 4, .vinLinkLoss 4, .csiFrameStart 4 .clean 0, .csiFrameEnd ⟨4, .clean⟩, .csiImageLine 4 [] .clean true true,
      .csiEmbeddedData 4 [] .clean, .csiGenericShort 4 8 .clean, .csiGenericShort 0 64 .clean, .csiVcEnable 4 0,
      .ispFrameEnd 2 0, .ispFrameEnd 0 4, .ispFrameEnd 1 1, .proxStaleTimeout 2 0, .proxStaleTimeout 1 1,
      .ispOutputFrameDone 2 0 [], .ispOutputFrameDone 1 1 [], .rtxDirectLine 0 [] true true,
      .rtxDirectLine 3 [] true true, .rtxStreamEnable 3 0] := by decide

theorem test_refuses_picture_units : refusesAll
    [.frameBoundary 2 0, .cmpFenceWrite 16 0, .cmpLayerWrite 0x1000FC 0, .cmpLayerWrite 0x100500 0,
      .cmpLayerWrite 0x100102 0, .tableRamWrite 0x13FFFC 0, .tableRamWrite 0x1C0000 0, .tableRamWrite 0x140002 0,
      .composeLineStart 2 true, .safeRectCheck 4, .soCommitGo 2, .commitWindowClose 2, .lineSubstitute 2 0 0,
      .soSnap 2, .soCrcCheck 2 0, .soCrcCheck 0 8, .basinUrgency 2 0] := by decide

theorem test_refuses_light_and_lock_units : refusesAll
    [.bpsResetStrobe 16, .lightCommandEdge 6 true, .adcSample 16 0, .adcSample 0 4096, .patRun 8 0, .patRestart 8,
      .mxZoneBackWrite 2048 0, .lkInAssert 4, .lkInRelease 4, .eventSourceExpire 15, .pinCheckMismatch 2,
      .lampSecond 16, .lampHoursWrite 17 0, .shuntPwmEdge 16 true] := by decide

theorem test_refuses_straps_tap_and_places : refusesAll
    [.porRelease ⟨8, 0, false, 0, false⟩, .porRelease ⟨0, 4, false, 0, false⟩, .porRelease ⟨0, 0, false, 4, false⟩,
      .tapBypass 16 false, .tapCsrRequest (2 ^ 64), .counterClear 0x1000000 0, .counterClear 2 0,
      .registerWrite 2 0 0, .registerWrite 0x1000100 0 0] := by decide

theorem test_accepts_the_last_of_each_range :
    ∀ i ∈ [Instr.arithSatClear 47, .pllLock 3 0, .ckgDomWrite 1 0, .ckgDomWrite 25 0, .sluiceExitStart 1 4,
      .ispFrameEnd 0 3, .ispFrameEnd 1 0, .rtxDirectLine 2 [] true true, .cmpLayerWrite 0x1004FC 0,
      .tableRamWrite 0x1BFFFC 0, .porRelease ⟨7, 3, true, 3, false⟩, .registerWrite 0x10000FC 0 0,
      .tapCsrRequest (2 ^ 64 - 1)], i.wellFormed = true := by decide

/-! ### Values the spec works out -/

/-- The part after a command. -/
def after (i : Instr) (s : State) : Chip :=
  match exec i s with
  | .next t => t.chip
  | _ => s.chip

/-- Chapter 0: 2.5 and -2.5 in the three rounding modes. -/
theorem test_rounding_of_ties :
    [0, 1, 2].map (fun m => (roundDiv m 5 2, roundDiv m (-5) 2)) = [(2, -2), (3, -3), (2, -3)] := by decide +kernel

/-- Chapter 2: a scaler phase that ties. -/
theorem test_scaler_tie :
    let coefs := [0x7F8, 0x028, 0x788, 0x258, 0x258, 0x788, 0x028, 0x7F8]
    let pixels := [246, 220, 400, 800, 1600, 1700, 1720, 1730]
    [0, 1, 2].map (fun m => scalerPass m coefs pixels) = [(1220, false), (1221, false), (1220, false)] := by
  decide +kernel

/-- Chapter 2: de-gamma at the last segment. -/
theorem test_degamma_last_segment :
    [4092, 4094, 4095].map (degamma fun _ => 0x7F3B) = [0x7F3B, 0x7F9E, 0x7FCF] := by decide +kernel

/-- Chapter 2: a matrix that saturates above and below. -/
theorem test_matrix_saturates :
    matrixOut 0 [0x1800, 0x7C00, 0x7C00] [4000, 500, 300] 64 = (4095, true) ∧
    matrixOut 0 [0x7E00, 0x1400, 0x7E00] [4000, 500, 300] 0 = (88, false) ∧
    matrixOut 0 [0, 0x7800, 0x1800] [4000, 500, 300] 0x1ED4 = (0, true) := by decide +kernel

/-- Chapter 2: a plane allocation with a remainder. -/
theorem test_allocation_remainder :
    allocate [1, 2, 4, 8, 13] 2222222 = [79365, 158730, 317460, 634921, 1031746] := by decide +kernel

/-- Chapter 2: a PI step at its clamp. -/
theorem test_pi_step_clamped : piStep 3277 0x4000 0x1001 0x800000 8338276 = (8388608, 8808064, true, false) := by
  decide +kernel

/-- Chapter 3: the CRCs of the three transactions. -/
theorem test_wharf_crcs :
    crc8 [0x00, 0x30, 0x12, 0x34] = 0xC1 ∧ crc8 [0x01, 0x10, 0x00, 0x28, 0x00, 0x00] = 0xA6 ∧
    crc8 [0x9F, 0x12] = 0x8B := by decide +kernel

/-- Chapter 3, transaction 2: the internal address, and SEQ. -/
theorem test_wharf_address_write :
    let d := after (.wharfWriteTransaction ⟨0, [0x01, 0x10, 0x00, 0x28, 0x00, 0x00, 0xA6]⟩)
      (tune fun c => { c with wh := { c.wh with crcEn := true } })
    d.wh.iaddr = 0x280000 ∧ d.wh.seq = 1 ∧ d.wh.err = 0#16 := by decide +kernel

/-- Chapter 5: the unlock words end the lockout after three failed wakes, in DEEP_SLEEP. -/
theorem test_wake_unlock_in_deep_sleep :
    let d := after (.wakeUnlock 0x5A5A#16)
      (inMode .deepSleep fun c => { c with wh := { c.wh with failCount := 3, lockout := true } })
    d.wh.failCount = 0 ∧ d.wh.lockout = false := by decide +kernel

/-- Chapter 6: one macro repaired: the ledger's row, then a new row and two new columns. -/
theorem test_macro_repaired :
    let x := spareMacro [] [(true, 0x0C4)] false [(0x1A2, 17), (0x1A2, 200), (0x200, 5), (0x3F0, 17), (0x512, 17)]
    x.fresh = [(true, 0x1A2), (false, 17), (false, 5)] ∧ x.rows = 0 ∧ x.cols = 0 := by decide +kernel

/-- Give fields values. -/
def withFields (c : Chip) (l : List (Field × Nat)) : Chip := l.foldl (fun c x => c.wr x.1 x.2) c

/-- Give shadowed fields values in effect. -/
def withEff (c : Chip) (l : List (Field × Nat)) : Chip := l.foldl (fun c x => c.putEff x.1 x.2) c

/-- Chapter 6: the flash address of slot 137. -/
theorem test_ledger_slot_address : ({ upChip.ld with ledgerOff := 0xF00000 }).slotAddr 137 = 0xF01120 := by decide +kernel

/-- Chapter 7's part: two channels of two ranks of 8 Gb devices, and the hash masks. -/
def hashed : Chip :=
  withFields upChip [(MCA_CFG_ENABLE, 1), (MCA_CFG_RANKS, 1), (MCA_CFG_DENSITY, 1), (mcF 1 MCA_CFG_ENABLE, 1),
    (mcF 1 MCA_CFG_RANKS, 1), (mcF 1 MCA_CFG_DENSITY, 1), (MCX_HASH_CH_ROWMASK, 0x0F0F),
    (MCX_HASH_BG0_ROWMASK, 0x1111), (MCX_HASH_BA0_ROWMASK, 0x2222), (MCX_HASH_BA1_ROWMASK, 0x4444),
    (MCX_MAP_STAT_VALID, 1)]

/-- Chapter 7: hashing one address and the one of the next row. -/
theorem test_address_hash :
    hashed.mapCapacity = 0xE0000000 ∧ hashed.sysLoc 0x8A5C3E40 = some ⟨1, 0, 0, 0x8A5C, 1600⟩ ∧
    hashed.sysLoc 0x8A5D3E40 = some ⟨0, 0, 4, 0x8A5D, 1600⟩ ∧ hashed.locSys ⟨1, 0, 0, 0x8A5C, 1600⟩ = 0x8A5C3E40 ∧
    hashed.sysLoc 0xE0000000 = none := by decide +kernel

/-- Chapter 8: where a check byte lies, the poison word, and three syndromes. -/
theorem test_check_bytes_and_syndromes :
    checkLoc 57344 ⟨1, 0, 0, 0x8A5C, 1600⟩ = ⟨1, 0, 4, 61771, 1224⟩ ∧ checkByte poisonData = 0x0A ∧
    classify poisonData 0xF5 = ⟨3, poisonData, 0xFF, false⟩ ∧ classify (2 ^ 10) 0 = ⟨1, 0, 0x23, false⟩ ∧
    classify 0 4 = ⟨1, 0, 4, true⟩ ∧ (classify 0 3).cls = 2 := by decide +kernel

/-- Chapter 9: the first step of frame lock is capped, and I stays. -/
theorem test_frame_lock_capped :
    let c := withFields upChip [(VIN_MEAS_PERIOD_NS, 16666667), (VIN_LOCK_STAT_STATE, 1), (VIN_LOCK_CTL_KP, 128),
      (VIN_LOCK_CTL_KI, 16), (CKG_PLLV_TRACK_RANGE, 100)]
    let d := ((c.onVin fun v => { v with tIn := some 0 }).onCk fun k => { k with tb := 3000000 * 2 ^ 24 }).lockStep
    d.rd CKG_PLLV_TRACK_OFFSET = 10000 ∧ d.rd VIN_LOCK_I_I = 0 ∧ d.rd CKG_ARITH_FIRST_STAGE = 2 ∧
    d.rd CKG_ARITH_SAT_COUNT = 1 := by decide +kernel

/-- Chapter 10: the RED site (4, 2) of phase A, and its neighbours. -/
def rgbIr : List (List Nat) :=
  [[0, 0, 0, 0, 900, 0, 0], [0, 0, 0, 600, 1200, 610, 0], [0, 0, 904, 1210, 1800, 1190, 898],
    [0, 0, 0, 590, 1205, 602, 0], [0, 0, 0, 0, 906, 0, 0]]

theorem test_mosaic_rebuilt :
    (List.range 4).map (rebuild (mosaicRows 1 0) 0 0 rgbIr 7 5 4 2) = [1800, 1201, 902, 600] := by decide +kernel

/-- Chapter 10: IR subtraction. -/
theorem test_ir_subtraction :
    let x := [1800, 1201, 902, 600]
    matrixOut 0 [0x1000, 0, 0, 0x7000] x 0 = (1200, false) ∧ matrixOut 0 [0, 0x1000, 0, 0x7200] x 0 = (676, false) ∧
    matrixOut 0 [0, 0, 0x1000, 0x719A] x 0 = (362, false) ∧
    matrixOut 0 [0x1000, 0, 0, 0x7000] [2400, 0, 0, 3000] 0 = (0, true) := by decide +kernel

/-- R482; the header 0x37, 0x01F0 has ECC 0x3F, an example of the CSI-2 standard (log entry 87). -/
theorem test_csi_header_ecc : csiEcc 0x37 0 0x01F0 = 0x3F := by decide +kernel

/-- Chapter 11: line 540 of the keystone. -/
theorem test_keystone_line :
    let c := withEff upChip [(CMP_L0_CTL_KS_EN, 1), (CMP_L0_HSTEP_V, 0x11C72), (CMP_L0_HSTART_V, 0xFF955555),
      (CMP_L0_KS_DHSTEP_V, ofSigned 26 (-1728)), (CMP_L0_KS_DHSTART_V, 1658545)]
    let a := c.accumAt 0 540
    a.hstart = -893955492 ∧ a.hstep = 17708288 ∧ posWhole (a.hstart + 51 * a.hstep) = 0 ∧
    posPhase (a.hstart + 51 * a.hstep) = 34 := by decide +kernel

/-- Chapter 12: the basin of half a 4K line, the store of half A, and flat white under the dither. -/
theorem test_basin_store_and_dither :
    let run := (2160, 0, 0, 0)
    (withEff upChip [(SOA_HTIM0_HACT, 1920), (CMP_CTL_DEPTH, 2)]).basinLines 0 = 12 ∧
    storeBytesOf (⟨900, [run]⟩ :: List.replicate 90 ⟨4, List.replicate 17 run⟩ ++ [⟨900, [run]⟩]) = 9560 ∧
    [(0, 0), (1, 2), (3, 3)].map (fun p => ditherOut 2 10 0 p.1 p.2 4095) = [1023, 1023, 1023] ∧
    [(0, 0), (1, 2), (3, 3)].map (fun p => ditherOut 2 10 0 p.1 p.2 0) = [0, 0, 0] := by decide +kernel

/-- Chapter 13: sub-frames, fields, pass 1 and pass 2 of a red field. -/
theorem test_red_field_times :
    allocate [1, 1] 6666267 = [3333134, 3333133] ∧ allocate [9000, 12000, 7000] 3325134 = [1068793, 1425057, 831284] ∧
    bitlen 90 = 7 ∧ [33885, 16942].map (attenuation 22000) = [0, 1] ∧
    allocate [64, 64, 32, 16, 8, 8, 0, 0, 64] 1067393 =
      [266849, 266848, 133424, 66712, 33356, 33356, 0, 0, 266848] := by decide +kernel

/-- Chapter 14: eight intervals of 16,000 ticks end MEASURE. -/
theorem test_mirror_acquired :
    let c := withFields upChip [(BSC_STAT_LSTATE, 1), (BSC_PER_WIN_PER_MAX, 22222)]
    let d := after (.mfbEdge 16000)
      ⟨c.onBsc fun b => { b with gotEdge := true, since := 0, intervals := List.replicate 7 16000 }, []⟩
    d.lstate = 2 ∧ d.bsc.incNom = 17592186044 ∧ d.bsc.inc = 17592186044 := by decide +kernel

/-- Chapter 14: one loop step. -/
theorem test_mirror_step :
    let c := withFields upChip [(BSC_LOCK_GAIN_KP, 0x8000), (BSC_LOCK_GAIN_KI, 0x0400), (BSC_LOCK_CFG_KSH, 14),
      (BSC_LOCK_CFG_LIMSH, 6)]
    let d := (c.onBsc fun b => { b with incNom := 17592186044, integ := 0 }).bscLoop (2 ^ 36)
    d.bsc.inc = 17590023356 ∧ d.bsc.integ = 65536 ∧ d.rd CKG_ARITH_SAT = 0 := by decide +kernel

/-- Chapter 14: boundaries beside the centre, and one laser value. -/
theorem test_beam_boundary_and_laser :
    let c := withFields (withEff upChip [(SOA_HTIM0_HACT, 1280), (CMP_CTL_DEPTH, 3), (BSC_LASER_GAIN, 0x3000),
      (BSC_LASER_OFS, 400)]) [(BSC_ASIN_E.at 1, 2086), (BSC_ASIN_E.at 2, 4172), (BSC_MAXV_MAXV, 3000)]
    c.boundaryDelta 640 = 0 ∧ c.boundaryDelta 641 = 55995636122 ∧ c.laserValue 0 2048 = (1936, false) ∧
    ldxWord false 1936 = 0x2790 := by decide +kernel

/-- Chapter 15: target shares. -/
theorem test_target_shares :
    uvTerms (32768, 32768) = some ((16777216, 33554432), 0) ∧ uvTerms (4096, 32768) = some ((2097152, 33554432), 0) ∧
    uvTerms (12288, 8192) = some ((25165824, 134217728), 0) ∧
    uvTerms (12288, 30720) = some ((6710886, 35791394), 0) ∧
    shareSolve (16777216, 33554432) (2097152, 33554432) (25165824, 134217728) (6710886, 35791394) =
      some ([18308, 45771, 1456], 0) := by decide +kernel

/-- Chapter 15: one blue step and its setpoint. -/
theorem test_blue_step :
    let c := withEff upChip [(LTD_CTL_LOOP_EN, 4), (LTD_PDGAIN_PD_GAIN.at 2, 1434), (LTD_LOOP_GAIN_KP, 0x2000),
      (LTD_LOOP_GAIN_KI, 0x0400), (LTD_LOOP_ILIM_ILIM, 0x800000)]
    let l := { c.ltd with sums := [0, 0, 256000], counts := [0, 0, 256], shares := [0, 0, 1456] }
    let d := ((c.onLtd fun _ => l).loopChannel 2).1
    d.rd (LTD_LOOP_TM_MEAS.at 2) = 5 ∧ d.rd (LTD_LOOP_E_E.at 2) = 0x04E4 ∧ d.rd (LTD_LOOP_I_I.at 2) = 10016 ∧
    d.rd (LTD_LOOP_K_K.at 2) = 0x4058 ∧ c.gained 12 2000 0x4058 = (2011, false) := by decide +kernel

/-- Chapter 16: a header. -/
theorem test_chain_header : chainHeader 0x38 1 0 = 0x384F := by decide +kernel

/-- Chapter 17: the four words of a KILL record. -/
theorem test_record_words :
    (List.range 4).map (recWord ⟨0x00031B2F6A40, 0x01A7, 2, 0x0C, 4, 0x101⟩) =
      [0x1B2F6A40#32, 0x01A70003#32, 0x00040C02#32, 0x00000101#32] := by decide +kernel

/-- The part at a date and time. -/
def dated (date time : Word) : State :=
  ⟨after .calSet (tune fun c => (c.setReg LKK_CAL_SET_DATE.addr date).setReg LKK_CAL_SET_TIME.addr time), []⟩

/-- Chapter 17: 29 February 2100 does not exist. -/
theorem test_impossible_date :
    let c := (dated 0x21000229#32 0x00120000#32).chip
    c.rd LKK_CAL_CTL_CAL_ERR = 1 ∧ c.rd LKK_CAL_CTL_CAL_VALID = 0 ∧ (c.logSlot 0).data = 0x21000229 := by decide +kernel

/-- Chapter 17: the second after 2100-02-28 23:59:59. -/
theorem test_century_date :
    let c := after .calSecond (dated 0x21000228#32 0x00235959#32)
    calDateWord c.lk = 0x21000301#32 ∧ calTimeWord c.lk = 0x01000000#32 ∧ c.lk.dayNo = 36584 ∧
    c.calMinNow = 0x0323D900 := by decide +kernel

/-- Chapter 17: the threshold under a trim of 20.5 ppm. -/
theorem test_calendar_trim :
    (after (.calTrimWrite 0x1480#32) up).secThreshold = 255994752000 := by decide +kernel

/-- Chapter 19: the straps of the projector board. -/
theorem test_straps_sampled :
    let c := after (.porRelease ⟨4, 2, true, 2, false⟩) State.reset
    c.pins.word = 0xB4 ∧ c.wh.i2c = true ∧ c.wh.i2cAddr = 2 ∧
    (List.range 4).map (fun n => c.rd (PWR_REG_CFG_USED.at n)) = [1, 1, 1, 0] := by decide +kernel

/-- Chapter 21: a register read through the TAP. -/
theorem test_tap_register_read :
    let s := tune fun c => ((c.wr DBG_CTL_TAP_CSR 1).wr SOB_CRC_SIZE_W 960).wr SOB_CRC_SIZE_H 540
    let d := after .tapCsrComplete ⟨after (.tapCsrRequest 0x0021010400000000) s, []⟩
    d.tap.capture = 0x02210104021C03C0 ∧ d.rd DBG_STAT_ACCESSES = 1 := by decide +kernel

/-- FIPS 180-4: the digest of the empty message begins so. -/
theorem test_sha256_of_nothing : (sha256 []).take 4 = [0xE3#8, 0xB0#8, 0xC4#8, 0x42#8] := by decide +kernel

/-! ### Witnesses -/

theorem witness_TimebaseRegisters :
    up.runs ∧ up.chip.reach 0x50C ∧ up.chip.reach 0x510 ∧ up.chip.reach 0x500 := by
  unfold State.runs Chip.reach; decide +kernel

theorem witness_ClockMonitorAndTrim :
    (let s := tune fun c => (c.wr CKG_IRC_TRIM_SRC 1).onCk fun k => { k with xinPresent := true }
     s.runs ∧ s.chip.rd CKG_IRC_TRIM_SRC = 1 ∧ s.chip.rd CKG_IRC_TRIM_FREEZE = 0 ∧ s.chip.ck.xinPresent = true) ∧
    (up.runs ∧ (up.chip.rd CKG_IRC_TRIM_SRC ≠ 1 ∨ up.chip.rd CKG_IRC_TRIM_FREEZE ≠ 0 ∨ up.chip.ck.xinPresent = false)) ∧
    (let s := onEdge .deepSleep .e1 id
     s.runs ∧ s.chip.mode.edge = some .e1 ∧ s.chip.pw.step = none) ∧
    (up.runs ∧ up.chip.reach 0x408) ∧
    (let s := tune fun c => c.onCk
         fun k => { k with xinArmed := true, monCtl := (c.wr CKG_MON_CTL_GLITCH_LIM 2).get 0x400 }
     s.runs ∧ s.chip.xinWatched = true ∧ s.chip.ck.glitches + 1 ≠ s.chip.glitchLim) ∧
    (let s := tune fun c => c.onCk fun k => { k with xinArmed := true, xinPresent := true }
     s.runs ∧ s.chip.xinWatched = true ∧ s.chip.inWindow (24 * s.chip.gateUs) = true ∧ s.chip.ck.xinPresent = true ∧
     ∀ p < 4, (s.chip.pll p).on = false) ∧
    (up.runs ∧ up.chip.xinWatched = false) := by
  refine ⟨?_, ?_, ?_, ?_, ?_, ?_, ?_⟩
  · unfold State.runs; decide +kernel
  · unfold State.runs; decide +kernel
  · unfold State.runs; decide +kernel
  · unfold State.runs Chip.reach; decide +kernel
  · unfold State.runs; decide +kernel
  · unfold State.runs; decide +kernel
  · unfold State.runs; decide +kernel

theorem witness_LossOfReference :
    (let s := inMode .mirror fun c => c.onCk
         fun k => { k with xinArmed := true, xinPresent := true, glitches := c.glitchLim - 1 }
     s.runs ∧ s.chip.xinWatched = true ∧ s.chip.mode.mode ≠ .deepSleep ∧ s.chip.mode.mode ≠ .standby ∧
     s.chip.ck.reflost = false ∧ s.chip.rankNow < 2 ∧ s.chip.ck.glitches + 1 = s.chip.glitchLim ∧
     s.chip.inWindow 0 = false ∧ ∀ p < 4, (s.chip.pll p).held = false) ∧
    (let s := inMode .mirror fun c => c.onPll 3 fun x => { x with on := true }
     s.runs ∧ s.chip.ck.reflost = false ∧ s.chip.rankNow < 2 ∧ 3 < 4 ∧ (s.chip.pll 3).on = true ∧
     (s.chip.pll 3).lock = false ∧ (s.chip.pll 3).holdover = false) ∧
    (let s := inMode .mirror fun c => c.onPll 2 fun x => { x with on := true, lock := true, held := true }
     s.runs ∧ s.chip.ck.reflost = false ∧ s.chip.rankNow < 2 ∧ 2 < 4 ∧ 2 ≠ 1 ∧ (s.chip.pll 2).on = true ∧
     (s.chip.pll 2).lock = true ∧ (s.chip.pll 2).held = true ∧ s.chip.pllChecked 2 = true) ∧
    (let s := tune fun c => c.onCk fun k => { k with reflost := true }
     s.runs ∧ s.chip.ck.reflost = true) := by
  refine ⟨?_, ?_, ?_, ?_⟩
  · unfold State.runs; decide +kernel
  · unfold State.runs; decide +kernel
  · unfold State.runs; decide +kernel
  · unfold State.runs; decide +kernel

theorem witness_PllLockAndLadder :
    (let s := tune fun c => c.onPll 0 fun x => { x with on := true }
     s.runs ∧ 0 < 4 ∧ (s.chip.pll 0).on = true ∧ (s.chip.pll 0).lock = false ∧ (s.chip.pll 0).holdover = false) ∧
    (let s := tune fun c => c.onPll 1 fun x => { x with on := true, lock := true }
     s.runs ∧ (s.chip.pll 1).on = true ∧ (s.chip.pll 1).lock = true ∧ (s.chip.pll 1).held = false) ∧
    (up.runs ∧ 1 ≤ 25 ∧ 25 ≤ 25 ∧ up.chip.reach 0x34) ∧
    (2 < 16 ∧ 16 ≤ 16 ∧ 2 ∈ ladder ∧ 16 ∈ ladder) := by
  refine ⟨?_, ?_, ?_, ?_⟩
  · unfold State.runs; decide +kernel
  · unfold State.runs; decide +kernel
  · unfold State.runs Chip.reach; decide +kernel
  · decide +kernel

theorem witness_FrequencyMeters :
    (up.runs ∧ 1 < 2 ∧ up.chip.reach (0x300 + 0x10 * 1)) ∧
    (let s := tune fun c => c.onCk fun k => { k with fmBusy := [false, true] }
     s.runs ∧ s.chip.ck.fmBusy.getD 1 false = true ∧ 0xFFFFFFFF < 2 ^ 32 ∧ s.chip.ck.fmBusy.getD 0 false = false) := by
  refine ⟨?_, ?_⟩
  · unfold State.runs Chip.reach; decide +kernel
  · unfold State.runs; decide +kernel

theorem witness_WakeTriggers :
    (let s := inMode .deepSleep fun c => c.onPw fun p => { p with cfg := [0, 1, 1, 1, 1] }
     s.runs ∧ s.chip.wakeArmed 1 = false) ∧
    (let s := onEdge .standby .e2 id
     s.runs ∧ s.chip.wakeArmed 1 = true ∧ s.chip.mode.edge = some .e2) ∧
    (let s := inMode .deepSleep fun c => c.wr (PWR_REG_CFG_USED.at 3) 1
     s.runs ∧ s.chip.wakeArmed 1 = true ∧ s.chip.mode.mode = .deepSleep ∧ s.chip.mode.edge = none ∧
     s.chip.wh.lockout = false ∧ 3 < 4 ∧ s.chip.rd (PWR_REG_CFG_USED.at 3) = 1 ∧
     ∀ m, m < 3 → s.chip.rd (PWR_REG_CFG_USED.at m) = 0) ∧
    (let s := inMode .deepSleep fun c => c.onWh fun w => { w with lockout := true }
     s.runs ∧ s.chip.wakeArmed 1 = true ∧ s.chip.mode.mode = .deepSleep ∧ s.chip.mode.edge = none ∧
     s.chip.wh.lockout = true ∧ s.chip.wh.drain = [] ∧ (0x5A5B#16 : Half) ≠ 0x5A5A#16) ∧
    (let s := inMode .mirror fun c => c.onWh fun w => { w with drain := [(0x50C, 1#32)] }
     s.runs ∧ s.chip.mode.mode ≠ .deepSleep ∧ s.chip.wh.drain ≠ []) := by
  refine ⟨?_, ?_, ?_, ?_, ?_⟩
  · unfold State.runs; decide +kernel
  · unfold State.runs; decide +kernel
  · unfold State.runs; decide +kernel
  · unfold State.runs; decide +kernel
  · unfold State.runs; decide +kernel

theorem witness_RegulatorSteps :
    (let s := onEdge .deepSleep .e1 fun c => c.onPw
         fun p => { p with step := some 2, cfg := [0, 0, 0, 0x00000001, 0x00000001] }
     s.runs ∧ s.chip.pw.step = some 2 ∧ s.chip.mode.edge = some .e1 ∧ 2 < 3 ∧ 3 < 4 ∧ s.chip.regUsed 3 = true ∧
     s.chip.regNopg 2 = false ∧ ∀ k < 4, 2 < k → k < 3 → s.chip.regUsed k = false) ∧
    (let s := onEdge .deepSleep .e1 fun c => c.onPw
         fun p => { p with step := some 0, cfg := [0, PWR_REG_CFG_NOPG.put 0 1, 0, 0, 1] }
     s.runs ∧ s.chip.pw.step = some 0 ∧ s.chip.mode.edge = some .e1 ∧ s.chip.regNopg 0 = true ∧
     s.chip.regUsed 3 = true ∧
     ∀ k < 4, 0 < k → k < 3 → s.chip.regUsed k = false) ∧
    (let s := tune fun c => c.onPw fun p => { p with backout := true, en := [true, true, true, true] }
     s.runs ∧ s.chip.pw.backout = true ∧ 3 < 4 ∧ s.chip.pw.en.getD 3 false = true ∧
     ∀ m < 4, 3 < m → s.chip.pw.en.getD m false = false) ∧
    (up.runs ∧ up.chip.pw.backout = false) ∧
    (let s := inMode .standby fun c => c.onPw
         fun p => { p with en := [true, true, true, true], cfg := [0, 1, 1, 1, 1] }
     s.runs ∧ 3 < 4 ∧ s.chip.pgMatters 3 = true ∧ s.chip.mode.edge ≠ some .e13 ∧ up.chip.pgMatters 3 = false) := by
  refine ⟨?_, ?_, ?_, ?_, ?_⟩
  · unfold State.runs; decide +kernel
  · unfold State.runs; decide +kernel
  · unfold State.runs; decide +kernel
  · unfold State.runs; decide +kernel
  · unfold State.runs; decide +kernel

theorem witness_DomainRequests :
    (let s := inMode .standby fun c => c.onPw fun p => { p with queue := [(27, .off)] }
     s.runs ∧ s.chip.pw.queue = (27, .off) :: [] ∧ s.chip.sleeping = false ∧ 27 ≠ 51 ∧ 27 ≠ 48 ∧
     s.chip.pdState 27 ≠ .off) ∧
    (let s := onEdge .standby .e3 id
     s.runs ∧ s.chip.reach 0x10020 ∧ s.chip.reach 0x10024 ∧ s.chip.inEdge = true) ∧
    (let s := inMode .standby id
     let v := 0x00001000#32
     s.runs ∧ s.chip.reach 0x10020 ∧ s.chip.inEdge = false ∧ 12 < 32 ∧ 12 ≠ 6 ∧
     (∀ j, j < 32 → j ≠ 12 → v.getLsbD j = s.chip.pdreq j) ∧ v.getLsbD 12 ≠ s.chip.pdreq 12 ∧
     pdRule s.chip.mode.mode 12 = .en ∧ s.chip.pdForcedOff s.chip.mode.mode 12 = false) ∧
    (let s := inMode .calibrate fun c => c.onLd fun l => { l with spared := 3 }
     let v := 0x40000000#32
     s.runs ∧ s.chip.reach 0x10020 ∧ s.chip.inEdge = false ∧ 30 < 32 ∧ v.getLsbD 30 = true ∧
     (∀ j, j < 32 → j ≠ 30 → v.getLsbD j = s.chip.pdreq j) ∧ v.getLsbD 30 ≠ s.chip.pdreq 30 ∧
     pdRule s.chip.mode.mode 30 = .en ∧ s.chip.pdForcedOff s.chip.mode.mode 30 = true) ∧
    (let s := inMode .mirror fun c => c.wr TWP_CTL_EN 1
     s.runs ∧ s.chip.reach (domAddr 19) ∧ s.chip.domEnabled 19 = true ∧
     (rwBits (domAddr 19)).getLsbD s.chip.classBit = true ∧
     (0#32).getLsbD s.chip.classBit = false ∧ s.chip.nodeBusy 19 = true) ∧
    (let s := inMode .mirror id
     s.runs ∧ 1 ≤ 25 ∧ 25 ≤ 25 ∧ 25 ≠ 5 ∧ 25 ≠ 11 ∧ 25 ≠ 12 ∧ s.chip.reach (domAddr 25) ∧ s.chip.soLocked = false ∧
     (1#32).getLsbD s.chip.classBit = true) ∧
    (let s := inMode .mirror id
     let v := 8#32
     s.runs ∧ s.chip.reach 0x54 ∧ 3 < 4 ∧ v.getLsbD 3 = true ∧
     (∀ q, q < 4 → q ≠ 3 → v.getLsbD q = s.chip.bit CKG_PLL_CTL_OFF q) ∧ s.chip.bit CKG_PLL_CTL_OFF 3 = false) := by
  refine ⟨?_, ?_, ?_, ?_, ?_, ?_, ?_⟩
  · unfold State.runs; decide +kernel
  · unfold State.runs Chip.reach; decide +kernel
  · unfold State.runs Chip.reach; decide +kernel
  · unfold State.runs Chip.reach; decide +kernel
  · unfold State.runs Chip.reach; decide +kernel
  · unfold State.runs Chip.reach; decide +kernel
  · unfold State.runs Chip.reach; decide +kernel

theorem witness_PowerOnReset :
    (let s := State.reset
     let x : Straps := ⟨7, 3, true, 3, false⟩
     s.chip.pins.por = true ∧ s.chip.pins.tmode = false ∧ x.tmode = false) ∧
    (State.reset.chip.pins.por = true ∧ (⟨0, 0, false, 0, true⟩ : Straps).tmode = true) ∧
    (up.runs ∧ ¬State.reset.runs ∧ inReset (.pllLock 0 0) = false) ∧
    (up.runs ∧ up.chip.reach PWR_GPIO.addr) := by
  refine ⟨?_, ?_, ?_, ?_⟩
  · decide +kernel
  · decide +kernel
  · unfold State.runs; decide +kernel
  · unfold State.runs Chip.reach; decide +kernel

theorem witness_ModeRefusals :
    (let s := inMode .deepSleep id
     s.runs ∧ s.chip.mode.mode = .deepSleep) ∧
    (let s := onEdge .standby .e3 id
     let t := inMode .standby fun c => c.onWh fun w => { w with drain := [(0x50C, 1#32)] }
     s.runs ∧ s.chip.mode.mode ≠ .deepSleep ∧ s.chip.wh.drain = [] ∧ s.chip.mode.edge ≠ none ∧
     t.runs ∧ t.chip.mode.mode ≠ .deepSleep ∧ t.chip.wh.drain ≠ []) ∧
    (let s := inMode .mirror id
     s.runs ∧ s.chip.mode.mode ≠ .deepSleep ∧ s.chip.wh.drain = [] ∧ s.chip.mode.edge = none ∧ 8 ≤ reqTarget 0x0008#16 ∧
     reqMoor 0x0015#16 = true ∧ reqTarget 0x0015#16 ≠ 4 ∧ reqTarget 0x0015#16 ≠ 6) ∧
    (let s := inMode .standby fun c => { c with variantS := false }
     s.runs ∧ s.chip.wh.drain = [] ∧ s.chip.mode.edge = none ∧ reqMoor 0x0005#16 = false ∧ reqTarget 0x0005#16 = 5 ∧
     s.chip.mode.mode ≠ .scan ∧
     s.chip.variantS = false) ∧
    (let s := inMode .standby fun c => c.onMode fun x => { x with limp := true }
     s.runs ∧ s.chip.wh.drain = [] ∧ s.chip.mode.edge = none ∧ s.chip.mode.limp = true ∧ reqMoor 0x0002#16 = false ∧
     reqTarget 0x0002#16 ∈ [2, 3, 4, 6] ∧ reqTarget 0x0005#16 = 5 ∧ s.chip.variantS = true) ∧
    (let s := inMode .hold id
     s.runs ∧ s.chip.wh.drain = [] ∧ s.chip.mode.edge = none ∧ reqMoor 0x0006#16 = false ∧
     s.chip.mode.limp = false ∧ s.chip.variantS = true ∧
     (s.chip.mode.mode, reqTarget 0x0006#16) ∈ [(Mode.standby, 7), (.hold, 5), (.hold, 6)] ∧
     (let x := inMode .load id
      x.runs ∧ x.chip.wh.drain = [] ∧ x.chip.mode.edge = none ∧ x.chip.mode.mode = .load ∧ reqTarget 0x0000#16 = 0)) ∧
    (let s := inMode .standby fun c => c.onMode fun x => { x with loadFailed := true }
     s.runs ∧ s.chip.wh.drain = [] ∧ s.chip.mode.edge = none ∧ s.chip.mode.limp = false ∧ s.chip.mode.loadFailed = true ∧
     reqMoor 0x0003#16 = false ∧ reqReload 0x0003#16 = false ∧ reqTarget 0x0003#16 ∈ [3, 4, 6]) := by
  refine ⟨?_, ?_, ?_, ?_, ?_, ?_, ?_⟩
  · unfold State.runs; decide +kernel
  · unfold State.runs; decide +kernel
  · unfold State.runs; decide +kernel
  · unfold State.runs; decide +kernel
  · unfold State.runs; decide +kernel
  · unfold State.runs; decide +kernel
  · unfold State.runs; decide +kernel

theorem witness_ModeEdgesBegin :
    (let s := inMode .standby fun c => c.onMode fun x => { x with imageValid := true }
     let w := 0x7714#16
     s.runs ∧ s.chip.mode.edge = none ∧ s.chip.wh.drain = [] ∧ modeOfCode (reqTarget w) = some .mirror ∧ s.chip.tableEdge w .mirror .e6 ∧
     s.chip.mode.limp = false ∧ (reqMoor w = false ∨ Mode.mirror = .mirror)) ∧
    (let s := inMode .standby id
     let w := 0x0023#16
     s.runs ∧ s.chip.mode.edge = none ∧ s.chip.wh.drain = [] ∧ modeOfCode (reqTarget w) = some .calibrate ∧
     s.chip.tableEdge w .calibrate .e3 ∧
     s.chip.mode.limp = false ∧ reqMoor w = false) ∧
    (let s := inMode .standby fun c => c.onMode fun x => { x with limp := true }
     let w := 0x0000#16
     s.runs ∧ s.chip.mode.edge = none ∧ s.chip.wh.drain = [] ∧ modeOfCode (reqTarget w) = some .deepSleep ∧ s.chip.tableEdge w .deepSleep .e2) ∧
    (let s := inMode .panel fun c => c.wr MCA_CFG_ENABLE 1
     let w := 0x0007#16
     s.runs ∧ s.chip.mode.edge = none ∧ s.chip.wh.drain = [] ∧ modeOfCode (reqTarget w) = some .hold ∧ s.chip.tableEdge w .hold .e10) ∧
    (let s := inMode .scan id
     s.runs ∧ s.chip.mode.edge = none ∧ s.chip.wh.drain = [] ∧ modeOfCode (reqTarget 5) = some s.chip.mode.mode ∧
     s.chip.mode.mode ≠ .deepSleep ∧
     s.chip.mode.mode ≠ .mirror ∧ s.chip.mode.mode ≠ .panel ∧ reqMoor 5 = false) ∧
    (let s := inMode .panel fun c => c.onMode fun x => { x with moored := true }
     s.runs ∧ s.chip.mode.edge = none ∧ s.chip.wh.drain = [] ∧ modeOfCode (reqTarget 0x16) = some s.chip.mode.mode ∧
     s.chip.mode.mode = .panel ∧ reqMoor 0x16 = s.chip.mode.moored ∧ modeOfCode (reqTarget 6) = some s.chip.mode.mode ∧
     reqMoor 6 ≠ s.chip.mode.moored) ∧
    (let s := inMode .load fun c => c.wr MCA_CFG_ENABLE 1
     let w := 0x0007#16
     s.runs ∧ s.chip.mode.edge = none ∧ s.chip.wh.drain = [] ∧ modeOfCode (reqTarget w) = some .hold ∧
     s.chip.tableEdge w .hold .e10) := by
  refine ⟨?_, ?_, ?_, ?_, ?_, ?_, ?_⟩
  · exact ⟨rfl, rfl, rfl, rfl, .inr (.inr ⟨by decide, .inl rfl, .inl ⟨rfl, rfl, rfl⟩⟩), rfl, .inr rfl⟩
  · exact ⟨rfl, rfl, rfl, rfl, .inr (.inr ⟨by decide, .inl rfl, .inr ⟨.inr rfl, rfl⟩⟩), rfl, rfl⟩
  · exact ⟨rfl, rfl, rfl, rfl, .inl ⟨rfl, rfl⟩⟩
  · exact ⟨rfl, rfl, rfl, rfl, .inr (.inr ⟨rfl, by decide +kernel, rfl⟩)⟩
  · unfold State.runs; decide +kernel
  · unfold State.runs; decide +kernel
  · exact ⟨rfl, rfl, rfl, rfl, ⟨rfl, by decide +kernel, rfl⟩⟩

theorem witness_ModeEdgesEnd :
    (let s := inMode .mirror id
     s.runs ∧ s.chip.noFlip ∧ s.chip.mode.edge = none) ∧
    (let s := onEdge .load .e5 id
     s.runs ∧ s.chip.noFlip ∧ s.chip.mode.edge = some .e5) ∧
    (let s := onEdge .standby .e6 fun c => c.onMode fun x => { x with target := .panel, reqMoor := true }
     s.runs ∧ s.chip.noFlip ∧ s.chip.mode.target.needsImage = true ∧ s.chip.mode.edge = some .e6 ∧ s.chip.mode.reqMoor = true ∧
     s.chip.mode.target = .panel) ∧
    (let s := onEdge .load .e4 fun c => (c.onMode fun x => { x with target := .scan }).onLd
         fun l => { l with phase := .done }
     s.runs ∧ s.chip.noFlip ∧ s.chip.mode.target.needsImage = true ∧ s.chip.mode.edge = some .e4 ∧ s.chip.ld.phase = .done) ∧
    (let s := onEdge .load .e4 fun c => (c.onMode fun x => { x with target := .standby }).onLd
         fun l => { l with phase := .done }
     s.runs ∧ s.chip.noFlip ∧ s.chip.mode.edge = some .e4 ∧ s.chip.ld.phase = .done ∧ s.chip.mode.target = .standby) ∧
    (let s := onEdge .calibrate .e9 fun c => c.onMode fun x => { x with target := .mirror, reqMoor := false }
     s.runs ∧ s.chip.noFlip ∧ s.chip.mode.edge = some .e9 ∧ s.chip.mode.reqMoor = false) ∧
    (let s := onEdge .mirror .e10 id
     s.runs ∧ s.chip.noFlip ∧ s.chip.mode.edge = some .e10) ∧
    (let s := onEdge .hold .e12 id
     s.runs ∧ s.chip.noFlip ∧ s.chip.mode.edge = some .e12) ∧
    (let s := onEdge .standby .e2 fun c => (c.onPw
         fun p => { p with backout := true, en := [false, false, false, false] }).onMode
         fun x => { x with wakeDeferred := some 1 }
     s.runs ∧ s.chip.noFlip ∧ s.chip.mode.edge = some .e2 ∧ s.chip.backedOut = true ∧ s.chip.mode.wakeDeferred = some 1) ∧
    (let s := onEdge .standby .e2 fun c => c.onPw
         fun p => { p with backout := true, en := [false, false, false, false] }
     s.runs ∧ s.chip.noFlip ∧ s.chip.mode.edge = some .e2 ∧ s.chip.backedOut = true ∧ s.chip.mode.wakeDeferred = none) ∧
    (let s := onEdge .standby .e13 fun c => (c.onPw
         fun p => { p with backout := true, en := [false, false, false, false] }).onWh
         fun w => { w with failCount := 2 }
     s.runs ∧ s.chip.noFlip ∧ s.chip.mode.edge = some .e13 ∧ s.chip.backedOut = true ∧ 3 ≤ s.chip.wh.failCount + 1) ∧
    (let s := onEdge .deepSleep .e1 fun c => c.onCk fun k => { k with xinArmed := true, xinPresent := true }
     s.runs ∧ s.chip.noFlip ∧ s.chip.mode.edge = some .e1 ∧ s.chip.pw.step = none ∧ s.chip.ck.xinArmed = true ∧
     s.chip.ck.xinPresent = true) ∧
    (let s := onEdge .standby .e3 id
     s.runs ∧ s.chip.noFlip ∧ s.chip.mode.edge = some .e3) ∧
    (let s := inMode .load fun c => (c.onMode fun x => { x with target := .load }).onLd
         fun l => { l with phase := .manifests }
     s.runs ∧ s.chip.noFlip ∧ s.chip.inLoad .manifests = true ∧ s.chip.mode.target = .load) ∧
    (let s := inMode .standby fun c => (c.onMode fun x => { x with limp := true }).onCk
         fun k => { k with inWindowUs := 1000 }
     s.runs ∧ s.chip.noFlip ∧ s.chip.mode.mode = .standby ∧ s.chip.mode.limp = true ∧ 1000 ≤ s.chip.ck.inWindowUs) := by
  refine ⟨?_, ?_, ?_, ?_, ?_, ?_, ?_, ?_, ?_, ?_, ?_, ?_, ?_, ?_, ?_⟩
  · unfold State.runs Chip.noFlip; decide +kernel
  · unfold State.runs Chip.noFlip; decide +kernel
  · unfold State.runs Chip.noFlip; decide +kernel
  · unfold State.runs Chip.noFlip; decide +kernel
  · unfold State.runs Chip.noFlip; decide +kernel
  · unfold State.runs Chip.noFlip; decide +kernel
  · unfold State.runs Chip.noFlip; decide +kernel
  · unfold State.runs Chip.noFlip; decide +kernel
  · unfold State.runs Chip.noFlip; decide +kernel
  · unfold State.runs Chip.noFlip; decide +kernel
  · unfold State.runs Chip.noFlip; decide +kernel
  · unfold State.runs Chip.noFlip; decide +kernel
  · unfold State.runs Chip.noFlip; decide +kernel
  · unfold State.runs Chip.noFlip; decide +kernel
  · unfold State.runs Chip.noFlip; decide +kernel

theorem witness_InterlockSources :
    (let s := tune
         fun c => ((c.wr (srcF 3 LKK_SRC0_CFG_EN) 1).wr (srcF 3 LKK_SRC0_CFG_KILL) 1).wr LKK_LOG_STAT_COUNT 255
     s.runs ∧ s.chip.mode.moored = false ∧ s.chip.rd LKK_LOG_STAT_COUNT < 256 ∧ 3 < 4 ∧
     s.chip.flag (srcF 3 LKK_SRC0_CFG_EN) = true ∧ s.chip.bit LKK_ACTIVE_A 3 = false ∧
     s.chip.flag (srcF 3 LKK_SRC0_CFG_KILL) = true) ∧
    (let s := tune fun c => c.wr (srcF 0 LKK_SRC0_CFG_EN) 0
     s.runs ∧ 0 < 4 ∧ s.chip.flag (srcF 0 LKK_SRC0_CFG_EN) = false) ∧
    (let s := tune fun c => c.wr LKK_ACTIVE_A 8
     s.runs ∧ s.chip.mode.moored = false ∧ s.chip.rd LKK_LOG_STAT_COUNT < 256 ∧ 3 < 4 ∧
     s.chip.bit LKK_ACTIVE_A 3 = true) ∧
    (up.runs ∧ up.chip.mode.moored = false ∧ 14 ∈ [8, 12, 14]) ∧
    (up.runs ∧ up.chip.reach LKK_LATCHED.addr ∧ up.chip.reach 0x2C0010 ∧ (0x4000#32).toNat % 2 ^ 15 ≠ 0 ∧
     up.chip.rd LKK_LOG_STAT_COUNT < 256 ∧ (0x8000#32).toNat % 2 ^ 15 = 0) := by
  refine ⟨?_, ?_, ?_, ?_, ?_⟩
  · unfold State.runs; decide +kernel
  · unfold State.runs; decide +kernel
  · unfold State.runs; decide +kernel
  · unfold State.runs; decide +kernel
  · unfold State.runs Chip.reach; decide +kernel

theorem witness_KillAndSensors :
    (let s := tune fun c => (c.wr (srcF 13 LKK_SRC0_CFG_EN) 1).wr (srcF 13 LKK_SRC0_CFG_KILL) 1
     s.runs ∧ s.chip.reach LKK_CTL.addr ∧ s.chip.mode.moored = false ∧ s.chip.flag LKK_CTL_HOST_KILL = false ∧
     s.chip.flag (srcF 13 LKK_SRC0_CFG_EN) = true ∧ s.chip.flag (srcF 13 LKK_SRC0_CFG_KILL) = true) ∧
    (let s := tune fun c => c.wr LKK_CTL_HOST_KILL 1
     s.runs ∧ s.chip.reach LKK_CTL.addr ∧ s.chip.mode.moored = false ∧ s.chip.flag LKK_CTL_HOST_KILL = true) ∧
    (let s := tune fun c => c.onLk fun k => { k with thermRun := 1 }
     s.runs ∧ s.chip.mode.moored = false ∧
     toSigned 16 (s.chip.rd LKK_THERM_THERM_LO) ≤ toSigned 16 (s.chip.rd LKK_THERM_THERM_HI) ∧
     toSigned 16 (s.chip.rd LKK_THERM_THERM_HI) ≤ toSigned 16 0x7FFF) ∧
    (let s := tune fun c => c.wr (srcF 14 LKK_SRC0_CFG_EN) 1
     s.runs ∧ s.chip.mode.moored = false ∧ 1 < 2 ∧ s.chip.flag (srcF 14 LKK_SRC0_CFG_EN) = true) := by
  refine ⟨?_, ?_, ?_, ?_⟩
  · unfold State.runs Chip.reach; decide +kernel
  · unfold State.runs Chip.reach; decide +kernel
  · unfold State.runs; decide +kernel
  · unfold State.runs; decide +kernel

theorem witness_EventLog :
    (let s := tune fun c => (c.onLk fun k => { k with queue := [⟨1, 2, 3, 4, 5, 6⟩] }).wr LKK_LOG_STAT_COUNT 255
     s.runs ∧ s.chip.lk.queue = ⟨1, 2, 3, 4, 5, 6⟩ :: [] ∧ s.chip.rd LKK_LOG_STAT_COUNT < 256) ∧
    (let s := tune fun c => (c.onLk fun k => { k with queue := [⟨1, 2, 3, 4, 5, 6⟩] }).wr LKK_LOG_STAT_COUNT 256
     s.runs ∧ s.chip.lk.queue = ⟨1, 2, 3, 4, 5, 6⟩ :: [] ∧ 256 ≤ s.chip.rd LKK_LOG_STAT_COUNT) ∧
    (up.runs ∧ up.chip.lk.queue = [] ∧ up.chip.lk.queue.length < 8 ∧ up.chip.reach 0x2C008C ∧
     up.chip.reach LKK_LOG_IDX.addr ∧ up.chip.reach LKK_CTL.addr) := by
  refine ⟨?_, ?_, ?_⟩
  · unfold State.runs; decide +kernel
  · unfold State.runs; decide +kernel
  · unfold State.runs Chip.reach; decide +kernel

theorem witness_CalendarCounts :
    CalTime.valid ⟨2199, 12, 31, 23, 59, 59⟩ ∧ CalTime.valid ⟨2000, 2, 29, 23, 59, 59⟩ ∧
    ¬CalTime.valid ⟨2100, 2, 29, 0, 0, 0⟩ := by
  unfold CalTime.valid; decide +kernel

theorem witness_CalendarAndLampHours :
    (let s := tune fun c => (c.setReg 0x2C0108 0x00235959#32).setReg 0x2C010C 0x20000229#32
     s.runs ∧ s.chip.reach LKK_CAL_CTL.addr ∧ s.chip.rd LKK_LOG_STAT_COUNT < 256 ∧
     readBcd (s.chip.get 0x2C0108) (s.chip.get 0x2C010C) = some ⟨2000, 2, 29, 23, 59, 59⟩) ∧
    (let s := tune fun c => (c.setReg 0x2C0108 0#32).setReg 0x2C010C 0x21000229#32
     s.runs ∧ s.chip.reach LKK_CAL_CTL.addr ∧ s.chip.rd LKK_LOG_STAT_COUNT < 256 ∧
     readBcd (s.chip.get 0x2C0108) (s.chip.get 0x2C010C) = none) ∧
    (let s := tune fun c => (c.setReg 0x2C011C 0x00063000#32).setReg 0x2C0120 0x20260101#32
     s.runs ∧ s.chip.reach LKK_CAL_CTL.addr ∧ s.chip.reach LKK_CAL_TRIM.addr ∧
     readBcd (s.chip.get 0x2C011C &&& 0x003F7F00#32) (s.chip.get 0x2C0120) = some ⟨2026, 1, 1, 6, 30, 0⟩) ∧
    (up.runs ∧ up.chip.flag LKK_CAL_CTL_ALARM_EN = false ∧ (nextSecond up.chip.calNow).2 = false) ∧
    (let s := litLamp fun c => c.setReg 0x2C017C 0xFFFFFFFF#32
     s.runs ∧ 15 < 16 ∧ s.chip.lampLit 15 = true ∧ s.chip.lampLit 0 = true ∧ up.chip.lampLit 15 = false ∧
     s.chip.reach (0x2C0140 + 4 * 15) ∧ s.chip.reach 0x2C0180 ∧ s.chip.get (0x2C0140 + 4 * 15) = 0xFFFFFFFF#32 ∧ s.chip.get (0x2C0140 + 4 * 0) ≠ 0xFFFFFFFF#32) ∧
    (let s := inMode .calibrate id
     s.runs ∧ s.chip.mode.mode.countsLit = true ∧ s.chip.killLow = false ∧ s.chip.get 0x2C0180 ≠ 0xFFFFFFFF#32) ∧
    (let s := inMode .hold id
     s.runs ∧ (s.chip.mode.mode.countsLit = false ∨ s.chip.killLow = true)) := by
  refine ⟨?_, ?_, ?_, ?_, ?_, ?_, ?_⟩
  · unfold State.runs Chip.reach; decide +kernel
  · unfold State.runs Chip.reach; decide +kernel
  · unfold State.runs Chip.reach; decide +kernel
  · unfold State.runs; decide +kernel
  · unfold State.runs Chip.reach; decide +kernel
  · unfold State.runs; decide +kernel
  · unfold State.runs; decide +kernel

theorem witness_CheckByteCorrectsAndDetects :
    2 ^ 64 - 1 < 2 ^ 64 ∧ 63 < 64 ∧ 62 < 63 ∧ 7 < 8 ∧ 6 < 7 := by
  decide +kernel

theorem witness_DramReadAfterWrite :
    let c := (tune fun c => c.wr MCA_CFG_DENSITY 1).chip
    let l : Loc := ⟨0, 1, 7, 57343, 2040⟩
    let k : Loc := ⟨0, 0, 0, 0, 0⟩
    2 ^ 64 - 1 < 2 ^ 64 ∧ l.ch < 2 ∧ l.rank < 2 ∧ l.bank < 8 ∧ l.row < c.mcDataRows l.ch ∧ l.off % 8 = 0 ∧
    l.off < 2048 ∧
    k.row < c.mcDataRows k.ch ∧ c.mcDataRows k.ch = c.mcDataRows l.ch ∧ k ≠ l := by
  decide +kernel

theorem witness_MemoryBringUp :
    (let s := inMode .standby id
     s.runs ∧ s.chip.reach 0x60000 ∧ s.chip.mcConfigured = []) ∧
    (let s := inMode .standby fun c => (((c.wr MCA_CFG_ENABLE 1).wr MCA_CFG_DENSITY 0).wr (mcF 1 MCA_CFG_ENABLE) 1).wr
         (mcF 1 MCA_CFG_DENSITY) 1
     s.runs ∧ s.chip.reach 0x60000 ∧ s.chip.mcConfigured ≠ [] ∧ s.chip.geometryBad = true) ∧
    (let s := inMode .standby fun c => (c.wr MCA_CFG_ENABLE 1).wr (mcF 1 MCA_CFG_ENABLE) 1
     s.runs ∧ s.chip.reach 0x60000 ∧ s.chip.mcConfigured = [0, 1] ∧ s.chip.geometryBad = false) ∧
    (up.runs ∧ 1 < 2 ∧ up.chip.reach (0x40004 + 1 * 0x10000) ∧ up.chip.mcState 1 = mcOff ∧ up.chip.migState 1 ≠ 1 ∧
     up.chip.migState 1 ≠ 2) ∧
    (let s := tune fun c => c.wr (mcF 1 MCA_STAT_STATE) mcActive
     s.runs ∧ 1 < 2 ∧ s.chip.reach (0x40004 + 1 * 0x10000) ∧ s.chip.mcState 1 ≠ mcOff) ∧
    (let s := tune fun c => (c.wr (mcF 1 MCA_STAT_STATE) mcInit).onMc 1 fun m => { m with resetN := true, cke := true }
     s.runs ∧ 1 < 2 ∧ s.chip.mcState 1 = mcInit ∧ (s.chip.mc 1).resetN = true ∧ (s.chip.mc 1).cke = true) ∧
    (let s := inMode .calibrate fun c => c.wr (mcF 1 MCA_STAT_STATE) mcActive
     s.runs ∧ 1 < 2 ∧ s.chip.reach (0x40140 + 1 * 0x10000) ∧ MCA_SWEEP_CTL_GO.get (MCA_SWEEP_CTL_GO.put 0 1) = 1 ∧
     s.chip.mode.mode = .calibrate ∧ s.chip.mcState 1 = mcActive ∧
     s.chip.rd (mcF 1 MCA_SWEEP_ADDR_ROW) < s.chip.mcUsedRows 1 ∧ MCA_SWEEP_CTL_PATTERN.get (MCA_SWEEP_CTL_PATTERN.put 0 2) = 2) ∧
    (let s := inMode .calibrate fun c => (c.wr (mcF 1 MCA_STAT_STATE) mcActive).wr (mcF 1 MCA_SWEEP_ADDR_ROW) 0xFFFF
     s.runs ∧ 1 < 2 ∧ s.chip.reach (0x40140 + 1 * 0x10000) ∧
     ¬s.chip.rd (mcF 1 MCA_SWEEP_ADDR_ROW) < s.chip.mcUsedRows 1) ∧
    (let s := inMode .calibrate fun c => c.wr (mcF 1 MCA_STAT_STATE) mcSweep
     s.runs ∧ 1 < 2 ∧ s.chip.mcState 1 = mcSweep) := by
  refine ⟨?_, ?_, ?_, ?_, ?_, ?_, ?_, ?_, ?_⟩
  · unfold State.runs Chip.reach; decide +kernel
  · unfold State.runs Chip.reach; decide +kernel
  · unfold State.runs Chip.reach; decide +kernel
  · unfold State.runs Chip.reach; decide +kernel
  · unfold State.runs Chip.reach; decide +kernel
  · unfold State.runs; decide +kernel
  · unfold State.runs Chip.reach; decide +kernel
  · unfold State.runs Chip.reach; decide +kernel
  · unfold State.runs; decide +kernel

theorem witness_MooringServesNoPort :
    let s := inMode .mirror fun c => c.onMode fun x => { x with moored := true }
    s.runs ∧ 11 < 12 ∧ s.chip.mode.moored = true ∧ s.chip.mcx.waiting = [] ∧
    s.chip.mcx.nextId.getD 11 0 = s.chip.mcx.expect.getD 11 0 := by
  unfold State.runs; decide +kernel

theorem witness_PortRequests :
    (up.runs ∧ 11 < 12 ∧ up.chip.mode.moored = false ∧ up.chip.sysLoc (0xFFFFFFFF % 2 ^ 32 / 64 * 64) = none) ∧
    (let s := tune fun c => ((c.wr MCA_CFG_ENABLE 1).wr MCX_MAP_STAT_VALID 1).wr MCA_STAT_STATE mcActive
     s.runs ∧ 0 < 12 ∧ s.chip.mode.moored = false ∧ s.chip.sysLoc (64 % 2 ^ 32 / 64 * 64) = some ⟨0, 0, 0, 0, 64⟩ ∧
     s.chip.mcAccepts 0 = true ∧ s.chip.mcState 0 = mcActive ∧
     ((s.chip.mc 0).writeQ.find? fun e => e.line == 64 % 2 ^ 32 / 64 * 64 && e.mask.all id) = none ∧
     (s.chip.mc 0).readQ.length < 64) := by
  refine ⟨?_, ?_⟩
  · unfold State.runs; decide +kernel
  · unfold State.runs; decide +kernel

theorem witness_SchedulerCycle :
    (let s := tune fun c => c.wr (mcF 1 MCA_STAT_STATE) mcActive
     s.runs ∧ 1 < 2 ∧ s.chip.mcState 1 = mcActive ∧ (s.chip.mc 1).alert.low = false ∧ (s.chip.mc 1).pprBusy = false) ∧
    (up.runs ∧ 0 < 2 ∧ up.chip.mcState 0 ≠ mcActive ∧ up.chip.mcState 0 ≠ mcSweep) ∧
    (let s := tune fun c => (c.wr (mcF 1 MCA_STAT_STATE) mcActive).onMc 1 fun m =>
         { m with alert := { m.alert with low := true } }
     s.runs ∧ 1 < 2 ∧ s.chip.mcState 1 = mcActive ∧ (s.chip.mc 1).alert.low = true) ∧
    (let s := tune fun c => c.wr (mcF 1 MCA_STAT_STATE) mcSweep
     let t := tune fun c => (c.wr MCA_STAT_STATE mcActive).onMc 0 fun m => { m with pprBusy := true }
     s.runs ∧ s.chip.mcState 1 = mcSweep ∧ (s.chip.mc 1).alert.low = false ∧ s.chip.mcServes 1 = false ∧
     t.runs ∧ t.chip.mcState 0 = mcActive ∧ (t.chip.mc 0).alert.low = false ∧ t.chip.mcServes 0 = false) := by
  refine ⟨?_, ?_, ?_, ?_⟩
  · unfold State.runs; decide +kernel
  · unfold State.runs; decide +kernel
  · unfold State.runs; decide +kernel
  · unfold State.runs; decide +kernel

theorem witness_RefreshAndWeir :
    (let s := tune fun c => (c.wr (mcF 1 MCA_STAT_STATE) mcSweep).onMc 1 fun m => { m with pulled := [0, 1] }
     s.runs ∧ 1 < 2 ∧ s.chip.mcState 1 = mcSweep ∧ 0 < (s.chip.mc 1).pulled.getD 1 0 ∧
     ¬0 < (s.chip.mc 1).pulled.getD 0 0) ∧
    (let s := tune fun c => c.wr MCA_STAT_STATE mcActive
     s.runs ∧ s.chip.mcState 0 = mcActive ∧ s.chip.mcState 1 ≠ mcActive ∧ s.chip.reach (0x40088 + 1 * 0x10000)) := by
  refine ⟨?_, ?_⟩
  · unfold State.runs; decide +kernel
  · unfold State.runs Chip.reach; decide +kernel

theorem witness_SluiceSleepsAndWakes :
    (let s := tune
         fun c => (((c.wr MCA_STAT_STATE mcActive).wr MCA_SLUICE_CFG_SHALLOW_EN 1).wr MCA_SLUICE_EXIT_SHALLOW_US
         5).onMcx
         fun x => { x with tol := List.replicate 6 0xFFFF }
     s.runs ∧ 0 < 2 ∧ s.chip.canSleep 0 = true ∧ up.chip.canSleep 0 = false) ∧
    (let s := tune fun c => c.onMc 1 fun m => { m with sluiceEntry := true }
     s.runs ∧ 1 < 2 ∧ (s.chip.mc 1).sluiceEntry = true) ∧
    (let s := tune fun c => c.wr (mcF 1 MCA_STAT_STATE) mcDeep
     s.runs ∧ 1 < 2 ∧ s.chip.mcState 1 = mcDeep ∧ (s.chip.mc 1).sluiceExit = false) ∧
    (let s := tune fun c => (c.wr (mcF 1 MCA_STAT_STATE) mcDeep).onMcx
         fun x => { x with tol := List.replicate 6 0xFFFF }
     s.runs ∧ s.chip.tolCovers 1 (s.chip.rd (mcF 1 MCA_SLUICE_EXIT_DEEP_US)) = true ∧ s.chip.mcState 1 = mcDeep) ∧
    (let s := tune fun c => ((c.wr (mcF 1 MCA_STAT_STATE) mcShallow).onMc 1
         fun m => { m with sluiceExit := true }).onPll 1
         fun x => { x with on := true, lock := true, held := true }
     s.runs ∧ 1 < 2 ∧ (s.chip.mc 1).sluiceExit = true ∧ (s.chip.pll 1).held = true ∧ s.chip.mcState 1 = mcShallow ∧
     (s.chip.mc 1).owedVisits = 0) := by
  refine ⟨?_, ?_, ?_, ?_, ?_⟩
  · unfold State.runs; decide +kernel
  · unfold State.runs; decide +kernel
  · unfold State.runs; decide +kernel
  · unfold State.runs; decide +kernel
  · unfold State.runs; decide +kernel

theorem witness_ReadDataReturns :
    (let e : ReadEntry := ⟨0, 0, 3, 64, 0, false, false, false⟩
     let x : Inflight := ⟨e, (List.range 8).map fun w => (w, checkByte w), false⟩
     let s := tune fun c => c.onMc 1 fun m => { m with inflight := [x] }
     s.runs ∧ 1 < 2 ∧ (s.chip.mc 1).inflight = x :: [] ∧ (∀ w ∈ x.raw, w.2 = checkByte w.1) ∧ x.ue = false ∧
     s.chip.mcx.waiting = [] ∧ x.entry.id = s.chip.mcx.expect.getD x.entry.port 0) ∧
    (up.runs ∧ (up.chip.mc 0).inflight = []) := by
  refine ⟨?_, ?_⟩
  · unfold State.runs; decide +kernel
  · unfold State.runs; decide +kernel

theorem witness_FreezeAlertsAndReplay :
    (let s := tune fun c => (c.wr (mcF 1 MCA_ECC_STAT_FROZEN) 1).wr (mcF 1 MCA_STAT_STATE) mcActive
     s.runs ∧ 1 < 2 ∧ s.chip.rd (mcF 1 MCA_ECC_STAT_FROZEN) = 1 ∧ s.chip.mcState 1 ≠ mcFrozen ∧
     s.chip.mcState 1 ≠ mcOff ∧ (s.chip.mc 1).writeQ = [] ∧ (s.chip.mc 1).heldReqs = []) ∧
    (up.runs ∧ up.chip.reach (0x402C0 + 1 * 0x10000) ∧ up.chip.reach (0x40248 + 1 * 0x10000)) ∧
    (let s := tune fun c => c.putEff (mcF 1 MCA_CFG_CA_PAR_EN) 1
     s.runs ∧ 1 < 2 ∧ s.chip.tim 1 MCA_CFG_CA_PAR_EN = 1 ∧ (s.chip.mc 1).alert.attempts < s.chip.retryMax 1) ∧
    (up.runs ∧ 0 < 2 ∧ up.chip.tim 0 MCA_CFG_CA_PAR_EN = 0 ∧ up.chip.tim 0 MCA_CFG_WCRC_EN = 0 ∧
     (up.chip.mc 0).alert.low = false) ∧
    (let s := tune fun c => c.onMc 1 fun m => { m with alert := { m.alert with low := true, parity := true } }
     let t := tune fun c => c.onMc 1 fun m => { m with alert := { m.alert with low := true, exhausted := true } }
     s.runs ∧ 1 < 2 ∧ (s.chip.mc 1).alert.low = true ∧ (s.chip.mc 1).alert.exhausted = false ∧
     (s.chip.mc 1).alert.parity = true ∧ t.runs ∧ (t.chip.mc 1).alert.low = true ∧
     (t.chip.mc 1).alert.exhausted = true) := by
  refine ⟨?_, ?_, ?_, ?_, ?_⟩
  · unfold State.runs; decide +kernel
  · unfold State.runs Chip.reach; decide +kernel
  · unfold State.runs; decide +kernel
  · unfold State.runs; decide +kernel
  · unfold State.runs; decide +kernel

theorem witness_SeedingAndScrubbing :
    (let s := inMode .mirror fun c => c.wr (mcF 1 MCA_STAT_STATE) mcActive
     s.runs ∧ 1 < 2 ∧ s.chip.mcState 1 = mcActive ∧ s.chip.rd (mcF 1 MCA_ECC_STAT_SEEDED) = 0 ∧
     s.chip.scrubHeld 1 = false ∧ s.chip.rd (MCX_SCRUB_POS_LINE.at 1) + 1 < s.chip.rankLines 1 ∧
     ∀ i, i < 8 → s.chip.wordQueued 1 (s.chip.placeSys (s.chip.scrubPlace 1)) i = false) ∧
    (let s := inMode .mirror fun c => (c.wr (mcF 1 MCA_STAT_STATE) mcActive).wr (mcF 1 MCA_ECC_STAT_SEEDED) 1
     let t := inMode .hold fun c => c.wr (mcF 1 MCA_STAT_STATE) mcActive
     s.runs ∧ s.chip.mcState 1 = mcActive ∧ s.chip.rd (mcF 1 MCA_ECC_STAT_SEEDED) ≠ 0 ∧ up.chip.mcState 1 ≠ mcActive ∧
     t.runs ∧ t.chip.scrubHeld 1 = true) ∧
    (let s := inMode .mirror fun c => (((c.wr (mcF 1 MCA_STAT_STATE) mcActive).wr (mcF 1 MCA_CFG_ENABLE) 1).wr
         (mcF 1 MCA_ECC_STAT_SEEDED) 1).wr MCX_SCRUB_CTL_EN 1
     s.runs ∧ 1 < 2 ∧ s.chip.scrubPaused 1 = false ∧ s.chip.mcState 1 = mcActive ∧ (s.chip.mc 1).scrubRead = none ∧
     s.chip.scrubPaused 0 = true) ∧
    (let s := inMode .mirror fun c => (((c.wr (mcF 1 MCA_STAT_STATE) mcDeep).wr (mcF 1 MCA_CFG_ENABLE) 1).wr
         (mcF 1 MCA_ECC_STAT_SEEDED) 1).wr MCX_SCRUB_CTL_EN 1
     s.runs ∧ 1 < 2 ∧ s.chip.scrubPaused 1 = false ∧ s.chip.mcState 1 = mcDeep ∧ (s.chip.mc 1).owedVisits + 1 < 1024) ∧
    (let l : Loc := ⟨1, 0, 0, 0, 0⟩
     let s := tune fun c => (eightWords c).onMc 1 fun m =>
         { m with scrubRead := some ⟨l, List.replicate 8 false⟩ }
     s.runs ∧ 1 < 2 ∧ (s.chip.mc 1).scrubRead = some ⟨l, List.replicate 8 false⟩ ∧
     (∀ i, i < 8 → (s.chip.readPhys (l.word i)).cls = 0) ∧ (s.chip.mc 1).owedVisits = 0 ∧
     s.chip.rd (MCX_SCRUB_POS_LINE.at 1) + 1 < s.chip.rankLines 1 ∧ (up.chip.mc 1).scrubRead = none) ∧
    (let s := inMode .mirror fun c => (c.wr (mcF 1 MCA_STAT_STATE) mcActive).onMc 1 fun m =>
         { m with scrubRead := some ⟨⟨1, 0, 0, 0, 0⟩, List.replicate 8 false⟩ }
     s.runs ∧ s.chip.mcState 1 = mcActive ∧ (s.chip.mc 1).scrubRead ≠ none) := by
  refine ⟨?_, ?_, ?_, ?_, ?_, ?_⟩
  · unfold State.runs; decide +kernel
  · unfold State.runs; decide +kernel
  · unfold State.runs; decide +kernel
  · unfold State.runs; decide +kernel
  · unfold State.runs; decide +kernel
  · unfold State.runs; decide +kernel

theorem witness_PostPackageRepair :
    (let s := inMode .calibrate fun c => c.wr (mcF 1 MCA_STAT_STATE) mcActive
     s.runs ∧ 1 < 2 ∧ s.chip.reach (0x40280 + 1 * 0x10000) ∧ MCA_PPR_CTL_GO.get (MCA_PPR_CTL_GO.put 0 1) = 1 ∧
     (s.chip.mc 1).pprBusy = false ∧ s.chip.mode.mode = .calibrate ∧ s.chip.mcState 1 = mcActive ∧
     s.chip.rd (mcF 1 MCA_PPR_ADDR_ROW) < s.chip.mcUsedRows 1) ∧
    (let s := inMode .calibrate fun c => (c.wr (mcF 1 MCA_STAT_STATE) mcActive).wr (mcF 1 MCA_PPR_ADDR_ROW) 0xFFFF
     s.runs ∧ s.chip.reach (0x40280 + 1 * 0x10000) ∧ (s.chip.mc 1).pprBusy = false ∧
     ¬s.chip.rd (mcF 1 MCA_PPR_ADDR_ROW) < s.chip.mcUsedRows 1) ∧
    (let s := inMode .calibrate fun c => c.onMc 1 fun m => { m with pprBusy := true }
     s.runs ∧ 1 < 2 ∧ s.chip.reach (0x40280 + 1 * 0x10000) ∧ (s.chip.mc 1).pprBusy = true) := by
  refine ⟨?_, ?_, ?_⟩
  · unfold State.runs Chip.reach; decide +kernel
  · unfold State.runs Chip.reach; decide +kernel
  · unfold State.runs Chip.reach; decide +kernel

theorem witness_RankMigration :
    (let s := tune fun c => (c.wr (mcF 1 MCA_CFG_RANKS) 1).wr (mcF 1 MCA_CFG_SPARE_RANK) 1
     s.runs ∧ 1 < 2 ∧ s.chip.reach 0x60420 ∧ s.chip.mcSpare 1 = true ∧ s.chip.migState 1 = 0 ∧
     s.chip.mcSpare 0 = false ∧ s.chip.migState 0 ≠ 1 ∧ s.chip.migState 0 ≠ 2) ∧
    (let s := tune fun c => c.wr (MCX_MIG_STAT_STATE.at 1) 2
     s.runs ∧ 1 < 2 ∧ s.chip.reach 0x60420 ∧ s.chip.migState 1 = 2) ∧
    (let s := inMode .mirror
         fun c => eightWords ((c.wr (MCX_MIG_STAT_STATE.at 1) 1).wr (mcF 1 MCA_STAT_STATE) mcActive)
     s.runs ∧ 1 < 2 ∧ s.chip.migState 1 = 1 ∧ s.chip.mcState 1 = mcActive ∧ s.chip.mode.mode ≠ .hold ∧
     s.chip.isFrozen 1 = false ∧ (s.chip.mc 1).alert.low = false ∧ (s.chip.mc 1).pprBusy = false ∧
     s.chip.rd (MCX_MIG_STAT_PROGRESS.at 1) + 1 < s.chip.rankLines 1 ∧ ∀ i, i < 8 →
     (s.chip.readPhys ((s.chip.linePlace 1 0 (s.chip.rd (MCX_MIG_STAT_PROGRESS.at 1))).word i)).cls = 0 ∧
     s.chip.wordQueued 1 (s.chip.locSys (s.chip.linePlace 1 0 (s.chip.rd (MCX_MIG_STAT_PROGRESS.at 1)))) i = false) ∧
    (let s := tune fun c => c.wr (MCX_MIG_STAT_STATE.at 1) 3
     s.runs ∧ 1 < 2 ∧ s.chip.migState 1 = 3 ∧ s.chip.rd (MCX_SCRUB_POS_RANK.at 1) = 0) := by
  refine ⟨?_, ?_, ?_, ?_⟩
  · unfold State.runs Chip.reach; decide +kernel
  · unfold State.runs Chip.reach; decide +kernel
  · unfold State.runs; decide +kernel
  · unfold State.runs; decide +kernel

theorem witness_VideoLinks :
    (let s := tune fun c => (c.putEff VIN_CFG_EN 1).putEff VIN_CFG_LINKS 2
     s.runs ∧ 3 < 4 ∧ 3 < s.chip.vinLinks ∧ s.chip.ef VIN_CFG_EN = 1 ∧ up.chip.ef VIN_CFG_EN = 0) ∧
    (let s := tune fun c => (c.putEff VIN_CFG_EN 1).onVin fun v => { v with inFrame := true }
     s.runs ∧ s.chip.ef VIN_CFG_EN = 1 ∧ s.chip.vin.inFrame = true) := by
  refine ⟨?_, ?_⟩
  · unfold State.runs; decide +kernel
  · unfold State.runs; decide +kernel

theorem witness_VideoFramesAndLines :
    (let s := tune fun c => (List.range 4).foldl (fun c k => c.wr (vinLockBit k) 1) (c.wr VIN_CFG_EN 1)
     s.runs ∧ s.chip.pdOn 17 = true ∧ s.chip.brg.stream = [] ∧ s.chip.rd VIN_CFG_EN = 1 ∧
     ∀ k, k < 4 → s.chip.flag (vinLockBit k) = true) ∧
    (up.runs ∧ up.chip.ef VIN_CFG_EN = 0) ∧
    (let s := tune
         fun c => (((c.putEff VIN_CFG_EN 1).putEff VIN_TIMING_EXP_VACT 2).putEff VIN_TIMING_EXP_HACT 1).onVin fun v =>
         { v with inFrame := true, capturing := true, runs := 1 }
     s.runs ∧ s.chip.ef VIN_CFG_EN = 1 ∧ s.chip.vin.inFrame = true ∧ s.chip.vin.dropUntilStart = false ∧ 4 ≤ 4 ∧
     s.chip.vin.runs < s.chip.ef VIN_TIMING_EXP_VACT ∧ s.chip.vin.capturing = true ∧
     (runPixels (s.chip.ef VIN_CFG_MAP) s.chip.vinLinks [[⟨0, 0, 0, 0⟩]]).length = s.chip.ef VIN_TIMING_EXP_HACT ∧
     (runPixels (s.chip.ef VIN_CFG_MAP) s.chip.vinLinks []).length ≠ s.chip.ef VIN_TIMING_EXP_HACT) ∧
    (let s := tune fun c => ((c.putEff VIN_CFG_EN 1).putEff VIN_TIMING_EXP_VACT 2).onVin fun v =>
         { v with inFrame := true, capturing := true, runs := 2 }
     s.runs ∧ s.chip.ef VIN_CFG_EN = 1 ∧ s.chip.vin.inFrame = true ∧ s.chip.vin.dropUntilStart = false ∧ 4 ≤ 4 ∧
     s.chip.ef VIN_TIMING_EXP_VACT ≤ s.chip.vin.runs ∧
     s.chip.isBarge (runPixels (s.chip.ef VIN_CFG_MAP) s.chip.vinLinks []) = false ∧ s.chip.vin.capturing = true ∧
     s.chip.vin.done = false) := by
  refine ⟨?_, ?_, ?_, ?_⟩
  · unfold State.runs; decide +kernel
  · unfold State.runs; decide +kernel
  · unfold State.runs; decide +kernel
  · unfold State.runs; decide +kernel

theorem witness_BargePackets :
    (let s := tune fun c => c.onBrg fun b => { b with stream := List.replicate 20 0#8 }
     s.runs ∧ s.chip.headPad = true) ∧
    (let s := tune fun c => c.onBrg fun b => { b with stream := packet 1 0 0 (toLe 4 7), seen := true }
     s.runs ∧ s.chip.packetReady 1 ∧ s.chip.brg.blocked = false ∧ s.chip.brg.crcOk = true ∧ s.chip.packetDup = false) ∧
    (let s := tune fun c => c.onBrg fun b => { b with stream := packet 2 0 0x140000 (toLe 4 7), seen := true }
     s.runs ∧ s.chip.packetReady 2 ∧ s.chip.brg.blocked = false ∧ s.chip.brg.crcOk = true ∧ s.chip.packetDup = false) ∧
    (let s := tune fun c => c.onBrg fun b => { b with stream := packet 4 0 0 [], seen := true }
     s.runs ∧ s.chip.packetReady 4 ∧ s.chip.brg.failed = false ∧ s.chip.brg.crcOk = true ∧ s.chip.packetDup = false) ∧
    (let s := tune fun c => c.onBrg
         fun b => { b with stream := packet 2 0 0x140000 (toLe 4 7), seen := true, blocked := true }
     s.runs ∧ s.chip.packetReady 2 ∧ s.chip.brg.blocked = true) ∧
    (let s := tune fun c => c.onBrg fun b => { b with stream := (packet 1 0 0 (toLe 4 7)).set 17 9#8, seen := true }
     s.runs ∧ s.chip.packetReady 1 ∧ s.chip.brg.blocked = false ∧ s.chip.brg.crcOk = false) ∧
    (let s := tune fun c => ((c.wr VIN_BRG_STAT_SEQ_VALID 1).wr VIN_BRG_STAT_LAST_SEQ 9).onBrg fun b =>
         { b with stream := packet 1 9 0 (toLe 4 7), seen := true }
     s.runs ∧ s.chip.packetReady 1 ∧ s.chip.brg.blocked = false ∧ s.chip.brg.crcOk = true ∧ s.chip.packetDup = true) ∧
    (let s := tune fun c => c.onBrg fun b => { b with stream := packet 5 0 0 [], seen := true }
     s.runs ∧ s.chip.headIs (4 < ·) = true ∧ s.chip.brg.stream.length = 20 + s.chip.brg.len) ∧
    (let s := tune fun c => c.onBrg fun b => { b with fences := [(15, 7)] }
     s.runs ∧ s.chip.brg.fences = (15, 7) :: [] ∧ 15 < 16 ∧ s.chip.pdOn 26 = true ∧ up.chip.brg.fences = [] ∧
     s.chip.reach 0x80100) := by
  refine ⟨?_, ?_, ?_, ?_, ?_, ?_, ?_, ?_, ?_⟩
  · unfold State.runs; decide +kernel
  · unfold State.runs Chip.packetReady; decide +kernel
  · unfold State.runs Chip.packetReady; decide +kernel
  · unfold State.runs Chip.packetReady; decide +kernel
  · unfold State.runs Chip.packetReady; decide +kernel
  · unfold State.runs Chip.packetReady; decide +kernel
  · unfold State.runs Chip.packetReady; decide +kernel
  · unfold State.runs; decide +kernel
  · unfold State.runs Chip.reach; decide +kernel

/-- The receiver on, with a virtual channel on in effect and something changed. -/
def received (v : Nat) (f : Chip → Chip) : State :=
  tune fun c => f (((c.wr CSI_CFG_EN 1).putEff CSI_CFG_EN 1).putEff (vcF v CSI_VC_CFG_EN) 1)

theorem witness_CameraPackets :
    (up.runs ∧ 3 < 4 ∧ up.chip.rxOn = false) ∧
    (let s := received 3 fun c => c.wr (vcF 3 CSI_VC_STAT_IN_FRAME) 1
     s.runs ∧ 3 < 4 ∧ s.chip.rxOn = true ∧ s.chip.vcOn 3 = true ∧ s.chip.inFrame 3 = true ∧
     (s.chip.vc 3).next < s.chip.vcHeight 3 ∧ (List.replicate (s.chip.vcWidth 3) 0).length = s.chip.vcWidth 3 ∧
     ([] : List Nat).length ≠ s.chip.vcWidth 3 ∧ s.chip.regionFull (s.chip.vcCtx 3) = false ∧ s.chip.share ≠ 2 ∧
     s.chip.vcOn 2 = false) ∧
    (let s := received 3 fun c => ((c.wr (vcF 3 CSI_VC_STAT_IN_FRAME) 1).wr CSI_SHARE_MODE 2).onCtx (c.vcCtx 3) fun x =>
         { x with pendLines := c.stripeLines }
     s.runs ∧ s.chip.rxOn = true ∧ s.chip.vcOn 3 = true ∧ s.chip.inFrame 3 = true ∧
     (s.chip.vc 3).next < s.chip.vcHeight 3 ∧ (s.chip.vc 3).skip = false ∧
     s.chip.regionFull (s.chip.vcCtx 3) = true) ∧
    (let s := received 0 fun c => (c.wr (vcF 0 CSI_VC_STAT_IN_FRAME) 1).onVc 0 fun k => { k with next := c.vcHeight 0 }
     s.runs ∧ s.chip.rxOn = true ∧ s.chip.vcOn 0 = true ∧ s.chip.inFrame 0 = true ∧
     s.chip.vcHeight 0 ≤ (s.chip.vc 0).next) ∧
    (let s := received 2 id
     s.runs ∧ 2 < 4 ∧ s.chip.rxOn = true ∧ s.chip.vcOn 2 = true ∧ s.chip.inFrame 2 = false ∧ 8 ≤ 15 ∧ 15 ≤ 15) := by
  refine ⟨?_, ?_, ?_, ?_, ?_⟩
  · unfold State.runs; decide +kernel
  · unfold State.runs; decide +kernel
  · unfold State.runs; decide +kernel
  · unfold State.runs; decide +kernel
  · unfold State.runs; decide +kernel

theorem witness_CameraFrames :
    (let s := tune fun c => (c.wr CSI_CFG_EN 1).wr (vcF 3 CSI_VC_CFG_EN) 1
     s.runs ∧ 3 < 4 ∧ s.chip.rxOn = true ∧ s.chip.rd CSI_CFG_EN = 1 ∧ s.chip.rd (vcF 3 CSI_VC_CFG_EN) = 1 ∧
     s.chip.inFrame 3 = false ∧ s.chip.rd (vcF 2 CSI_VC_CFG_EN) ≠ 1) ∧
    (let s := received 3 fun c => c.wr (vcF 3 CSI_VC_STAT_IN_FRAME) 1
     s.runs ∧ 3 < 4 ∧ s.chip.rxOn = true ∧ s.chip.inFrame 3 = true) := by
  refine ⟨?_, ?_⟩
  · unfold State.runs; decide +kernel
  · unfold State.runs; decide +kernel

theorem witness_CameraSharing :
    (let s := tune fun c => c.setReg 0x100180 (CMP_L0_CTL_EN.put 0 1)
     s.runs ∧ s.chip.reach 0x0A0040 ∧ shareMode (CSI_SHARE_MODE.put 0 2) = 2 ∧ s.chip.v1Holds = true) ∧
    (let s := tune fun c => (c.wr (vcF 0 CSI_VC_CFG_EN) 1).wr (vcF 0 CSI_VC_GEOM_WIDTH) 4096
     let w := CSI_SHARE_STRIPE_LINES.put (CSI_SHARE_MODE.put 0 2) 63
     s.runs ∧ s.chip.reach 0x0A0040 ∧ shareMode w = 2 ∧ s.chip.v1Holds = false ∧
     49152 < s.chip.lineRam (max 4 (CSI_SHARE_STRIPE_LINES.get w)) s.chip.vcCfgs) ∧
    (let s := tune fun c => (c.wr (vcF 0 CSI_VC_CFG_EN) 1).wr (vcF 1 CSI_VC_CFG_EN) 1
     let w := CSI_SHARE_MODE.put 0 0
     s.runs ∧ s.chip.reach 0x0A0040 ∧ shareMode w ≠ 2 ∧ routeBad (shareMode w) s.chip.vcCfgs = true) ∧
    (up.runs ∧ up.chip.reach 0x0A0040 ∧ (∀ v, v < 4 → up.chip.rd (vcF v CSI_VC_CFG_EN) = 0) ∧
     shareMode (CSI_SHARE_MODE.put 0 1) ≠ 2) ∧
    (let s := tune fun c => c.wr (vcF 0 CSI_VC_CFG_EN) 1
     let w := CSI_VC_CFG_EN.put 0 1
     s.runs ∧ 3 < 4 ∧ s.chip.reach (0x0A0100 + 0x40 * 3) ∧ CSI_VC_CFG_EN.get w = 1 ∧ s.chip.share ≠ 2 ∧ 0 ≠ 3 ∧
     s.chip.rd (vcF 0 CSI_VC_CFG_EN) = 1 ∧ s.chip.rd (vcF 0 CSI_VC_CFG_PIPE) = CSI_VC_CFG_PIPE.get w ∧
     s.chip.rd (vcF 0 CSI_VC_CFG_CTX) = CSI_VC_CFG_CTX.get w) ∧
    (let w := CSI_VC_CFG_EN.put 0 1
     up.runs ∧ up.chip.reach (0x0A0100 + 0x40 * 3) ∧ up.chip.share ≠ 2 ∧
     (∀ u, u < 4 → u ≠ 3 → up.chip.rd (vcF u CSI_VC_CFG_EN) = 0) ∧ CSI_VC_CFG_PIPE.get w = 0) ∧
    (let s := tune fun c => c.wr (RTX_STR_CFG_EN.at 0) 1
     let w := RTX_STR_CFG_EN.put 0 1
     s.runs ∧ 2 < 3 ∧ s.chip.reach (0x0D0010 + 0x10 * 2) ∧ RTX_STR_CFG_EN.get w = 1 ∧ 0 ≠ 2 ∧
     s.chip.rd (RTX_STR_CFG_EN.at 0) = 1 ∧ s.chip.rd (RTX_STR_CFG_VC.at 0) = RTX_STR_CFG_VC.get w) ∧
    (let s := tune fun c => ((c.wr CSI_SHARE_MODE 2).wr ISP0_CTL_EN 1).onCtx c.cam.lastCtx fun x =>
         { x with pendLines := 1, rest := 1 }
     s.runs ∧ s.chip.share = 2 ∧ s.chip.flag ISP0_CTL_EN = true ∧ 3 < 4 ∧
     s.chip.stripeReady ((s.chip.cam.lastCtx + 1 + 3) % 4) = true ∧
     (∀ j, j < 3 → s.chip.stripeReady ((s.chip.cam.lastCtx + 1 + j) % 4) = false) ∧ up.chip.share ≠ 2) := by
  refine ⟨?_, ?_, ?_, ?_, ?_, ?_, ?_, ?_⟩
  · unfold State.runs Chip.reach; decide +kernel
  · unfold State.runs Chip.reach; decide +kernel
  · unfold State.runs Chip.reach; decide +kernel
  · unfold State.runs Chip.reach; decide +kernel
  · unfold State.runs Chip.reach; decide +kernel
  · unfold State.runs Chip.reach; decide +kernel
  · unfold State.runs Chip.reach; decide +kernel
  · unfold State.runs; decide +kernel

theorem witness_CameraPipes :
    (let f : CamFrame := ⟨[], 7, true, false, 0, [((bankF 4 ISP0_C0_OUT_CTL_DISP_EN).addr, ISP0_C0_OUT_CTL_DISP_EN.put 0 1)]⟩
     let s := tune fun c => c.onCtx 4 fun x => { x with frames := [f], outFrames := [f] }
     let was := s.chip.asOf 4 f
     s.runs ∧ (s.chip.ctx (ctxIdx 1 0)).frames = f :: [] ∧ (s.chip.ctx (ctxIdx 1 0)).outFrames = f :: [] ∧
     ctxIdx 1 0 = 4 ∧ was.eflag (bankF 4 ISP0_C0_OUT_CTL_DISP_EN) = true ∧
     was.eflag (bankF 4 ISP0_C0_OUT_CTL_COD_EN) = false ∧ was.eflag (bankF 4 ISP0_C0_OUT_CTL_VIS_EN) = false ∧
     s.chip.ispHeld 4 0 ((s.chip.ctx 4).outK % was.ispNbuf 4) = false ∧ s.chip.flag (ispF 4 ISP0_CTL_STAT_HOLD) = false ∧
     (s.chip.ctx (ctxIdx 0 3)).frames = [] ∧ (s.chip.ctx (ctxIdx 0 3)).outFrames = [] ∧
     s.chip.rd (bankF (ctxIdx 0 3) ISP0_C0_PROX_CTL_EN) = 0) ∧
    (let s := tune fun c => c.wr (bankF 3 ISP0_C0_PROX_CTL_EN) 1
     s.runs ∧ s.chip.rd (bankF (ctxIdx 0 3) ISP0_C0_PROX_CTL_EN) = 1) ∧
    (let r : RtxFrame := ⟨2, 0, 0, 0, 5, 0, 0⟩
     let s := tune fun c => (c.wr RTX_CFG_EN 1).onCam fun k => { k with sendQ := [r] }
     s.runs ∧ s.chip.cam.sending = [] ∧ s.chip.cam.sendQ = r :: [] ∧ s.chip.flag RTX_CFG_EN = true ∧ r.stream < 3) ∧
    (let r : RtxFrame := ⟨2, 0, 0, 0, 5, 0, 0⟩
     let s := tune fun c => c.onCam fun k => { k with sending := [r] }
     s.runs ∧ s.chip.cam.sending = r :: [] ∧ r.stream < 3 ∧ up.chip.cam.sending = [] ∧ up.chip.cam.sendQ = []) ∧
    (let s := tune fun c => (((c.wr RTX_CFG_EN 1).wr (RTX_STR_CFG_EN.at 2) 1).putEff ISP0_C0_OUT_CTL_VIS_DIRECT 1)
     s.runs ∧ s.chip.rd RTX_CFG_EN = 1 ∧ s.chip.rd (RTX_STR_CFG_EN.at 2) = 1 ∧
     s.chip.eflag (bankF (ctxIdx (s.chip.rd (RTX_STR_CFG_PIPE.at 2)) (s.chip.rd (RTX_STR_CFG_CTX.at 2)))
         ISP0_C0_OUT_CTL_VIS_DIRECT) = true ∧ s.chip.cam.sending = [] ∧ s.chip.cam.dropDirect.contains 2 = false ∧
     s.chip.rd (RTX_STR_CFG_EN.at 1) = 0) ∧
    (let r : RtxFrame := ⟨2, 0, 0, 0, 5, 0, 0⟩
     let f := fun (c : Chip) => ((c.wr RTX_CFG_EN 1).wr (RTX_STR_CFG_EN.at 2) 1).putEff ISP0_C0_OUT_CTL_VIS_DIRECT 1
     let s := tune fun c => (f c).onCam fun k => { k with sending := [r], direct := true }
     let t := tune fun c => (f c).onCam fun k => { k with sending := [r], direct := false }
     s.runs ∧ s.chip.cam.dropDirect.contains 2 = false ∧ s.chip.cam.sending.any (fun x => x.stream == 2) = true ∧
     t.runs ∧ t.chip.cam.sending ≠ [] ∧ t.chip.cam.direct = false) := by
  refine ⟨?_, ?_, ?_, ?_, ?_, ?_⟩
  · unfold State.runs; decide +kernel
  · unfold State.runs; decide +kernel
  · unfold State.runs; decide +kernel
  · unfold State.runs; decide +kernel
  · unfold State.runs; decide +kernel
  · unfold State.runs; decide +kernel

theorem witness_FrameBoundaries :
    (up.runs ∧ 1 < 2 ∧ up.chip.soState 1 = 0) ∧
    (let s := inMode .mirror fun c => ((c.wr SOA_STAT_STATE 1).wr CMP_FLIP_ARM 8).wr (layF 6 CMP_L0_CTL_GROUP) 3
     s.runs ∧ s.chip.soState 0 ≠ 0 ∧ s.chip.mode.moorPhase = .none ∧ s.chip.wh.mfstState ≠ .staged ∧
     s.chip.wh.mfstState ≠ .applying ∧ s.chip.brg.luts = [] ∧ s.chip.mode.moored = false ∧
     s.chip.rd SOA_COMMIT_PENDING = 0 ∧
     s.chip.armed 3 = true ∧ s.chip.cmp.late.testBit 3 = false ∧ (∀ h, h < 4 → h ≠ 3 → s.chip.armed h = false) ∧
     s.chip.groupReady 3 = true ∧ 6 ∈ s.chip.groupMembers 3) ∧
    (let s := inMode .mirror fun c => (((((c.wr SOA_STAT_STATE 1).wr CMP_FLIP_ARM 8).wr (layF 6 CMP_L0_CTL_GROUP) 3).wr
         (layF 6 CMP_L0_CTL_FENCE_EN) 1).wr (layF 6 CMP_L0_FENCE_TARGET_T) 5).putEff CMP_FLIP_CFG_FENCE_TMO 0
     s.runs ∧ s.chip.soState 0 ≠ 0 ∧ s.chip.mode.moorPhase = .none ∧ s.chip.wh.mfstState ≠ .staged ∧
     s.chip.wh.mfstState ≠ .applying ∧ s.chip.brg.luts = [] ∧ s.chip.mode.moored = false ∧
     s.chip.rd SOA_COMMIT_PENDING = 0 ∧
     s.chip.armed 3 = true ∧ s.chip.cmp.late.testBit 3 = false ∧ (∀ h, h < 4 → h ≠ 3 → s.chip.armed h = false) ∧
     s.chip.groupReady 3 = false ∧ s.chip.ef CMP_FLIP_CFG_FENCE_TMO = 0) ∧
    (let s := inMode .mirror fun c => ((c.wr SOA_STAT_STATE 2).wr MCA_CFG_ENABLE 1).onMode
         fun x => { x with moored := true }
     s.runs ∧ s.chip.soState 0 ≠ 0 ∧ s.chip.mode.moorPhase = .none ∧ s.chip.brg.luts = [] ∧ s.chip.mode.moored = true ∧
     s.chip.dramAwake = false) := by
  refine ⟨?_, ?_, ?_, ?_⟩
  · unfold State.runs; decide +kernel
  · unfold State.runs; decide +kernel
  · unfold State.runs; decide +kernel
  · unfold State.runs; decide +kernel

theorem witness_FlipControl :
    (let s := inMode .mirror fun c => c.onSo 0 fun x => { x with closed := true }
     s.runs ∧ s.chip.reach 0x100020 ∧ s.chip.soA.closed = true ∧ s.chip.mode.moored = false ∧ 3 < 4 ∧
     (CMP_FLIP_ARM.get 8#32).testBit 3 = true ∧ s.chip.armed 3 = false) ∧
    (let s := tune fun c => (c.putEff CMP_FLIP_CFG_LOOKAHEAD 0).wr CMP_FLIP_ARM 8
     s.runs ∧ 15 < 16 ∧ s.chip.reach (0x100040 + 4 * 15) ∧ s.chip.reach 0x100020 ∧ s.chip.lookahead = 0 ∧
     s.chip.armed 3 = true ∧ (CMP_FLIP_CANCEL.get (CMP_FLIP_CANCEL.put 0 8)).testBit 3 = true) ∧
    (let s := tune fun c => c.wr CMP_SAFE_STAT_LOCKED 1
     s.runs ∧ 7 < 8 ∧ s.chip.reach (layF 7 CMP_L0_DST_POS).addr ∧ s.chip.safeLocked = true ∧
     s.chip.reach (layF 6 CMP_L0_DST_POS).addr) ∧
    (let s := tune fun c => c.wr CSI_SHARE_MODE 2
     let w := CMP_L0_CTL_EN.put 0 1
     s.runs ∧ s.chip.reach 0x100180 ∧ s.chip.share = 2 ∧ CMP_L0_CTL_EN.get w = 1 ∧ CMP_L0_CTL_BYPASS.get w = 0) ∧
    (up.runs ∧ 7 < 8 ∧ 1023 < 1024 ∧ up.chip.reach (0x140000 + 0x1000 * 7 + 4 * 1023)) := by
  refine ⟨?_, ?_, ?_, ?_, ?_⟩
  · unfold State.runs Chip.reach; decide +kernel
  · unfold State.runs Chip.reach; decide +kernel
  · unfold State.runs Chip.reach; decide +kernel
  · unfold State.runs Chip.reach; decide +kernel
  · unfold State.runs Chip.reach; decide +kernel

theorem witness_ComposeAndMove :
    (up.runs ∧ up.chip.soState 0 ≠ 1 ∧ up.chip.cmp.job = none ∧ up.chip.flag MOV_CTL_FLAT_ACTIVE = false) ∧
    (let s := inMode .mirror fun c => c.wr SOA_STAT_STATE 1
     s.runs ∧ s.chip.soState 0 = 1 ∧ s.chip.soA.next < (s.chip.timing 0).vact ∧ s.chip.soSource 0 ≠ 2 ∧
     s.chip.soSource 0 = 0 ∧ s.chip.cmp.running = false) ∧
    (let s := tune fun c => (c.wr CMP_SAFE_STAT_SHOWN 1).onCmp fun x => { x with safe := [(12, 4#8)] }
     s.runs ∧ 3 < 4 ∧ 3 < s.chip.safeRects ∧ s.chip.flag CMP_SAFE_STAT_SHOWN = true ∧
     s.chip.cmp.safeDone.testBit 3 = false ∧ s.chip.cmp.abandoned = [] ∧ s.chip.pdOn 26 = true) ∧
    (let s := tune fun c => c.onCmp fun x => { x with flat := { x.flat with pending := true } }
     s.runs ∧ s.chip.cmp.flat.pending = true ∧ s.chip.cmp.job = none ∧ s.chip.flag MOV_CTL_FLAT_ACTIVE = false) ∧
    (let s := tune fun c => c.wr MOV_CTL_FLAT_ACTIVE 1
     s.runs ∧ s.chip.reach 0x110000 ∧ s.chip.flag MOV_CTL_FLAT_ACTIVE = true) ∧
    (let s := tune fun c => (((c.wr MOV_SIZE_W 4).wr MOV_SIZE_H 4).wr MOV_SRC_STRIDE_S 64).wr MOV_DST_STRIDE_S 128
     s.runs ∧ s.chip.reach 0x110000 ∧ (s.chip.flag MOV_CTL_FLAT_ACTIVE || s.chip.cmp.job.isSome) = false ∧
     (s.chip.movArgs 0).overlap = true ∧ (s.chip.movArgs 0).srcStride ≠ (s.chip.movArgs 0).dstStride) ∧
    (let s := tune
         fun c => ((((c.wr MOV_SIZE_W 4).wr MOV_SIZE_H 4).wr MOV_SRC_STRIDE_S 64).wr MOV_DST_STRIDE_S 64).wr
         MOV_DST_ADDR 0x10000
     s.runs ∧ s.chip.reach 0x110000 ∧ (s.chip.flag MOV_CTL_FLAT_ACTIVE || s.chip.cmp.job.isSome) = false ∧
     (s.chip.movArgs 0).overlap = false) ∧
    (let s := tune fun c => c.onCmp fun x => { x with job := some ⟨0, true⟩ }
     s.runs ∧ s.chip.cmp.job = some ⟨0, true⟩) := by
  refine ⟨?_, ?_, ?_, ?_, ?_, ?_, ?_, ?_⟩
  · unfold State.runs; decide +kernel
  · unfold State.runs; decide +kernel
  · unfold State.runs; decide +kernel
  · unfold State.runs; decide +kernel
  · unfold State.runs Chip.reach; decide +kernel
  · unfold State.runs Chip.reach; decide +kernel
  · unfold State.runs Chip.reach; decide +kernel
  · unfold State.runs; decide +kernel

theorem witness_ScanOutCommits :
    (let s := inMode .mirror fun c => (c.wr (soF 1 SOA_STAT_STATE) 1).onSo 1 fun x => { x with closed := true }
     s.runs ∧ 1 < 2 ∧ s.chip.reach (0x200004 + 1 * 0x10000) ∧ s.chip.soState 1 ≠ 0 ∧
     s.chip.flag (soF 1 SOA_COMMIT_PENDING) = false ∧ (s.chip.so (s.chip.soRef 1)).closed = true ∧
     s.chip.mode.moored = false) ∧
    (let s := inMode .mirror fun c => (c.wr SOA_STAT_STATE 1).wr SOA_COMMIT_PENDING 1
     s.runs ∧ 0 < 2 ∧ s.chip.reach (0x200004 + 0 * 0x10000) ∧ s.chip.soState 0 ≠ 0 ∧
     s.chip.flag (soF 0 SOA_COMMIT_PENDING) = true) ∧
    (up.runs ∧ up.chip.reach 0x200004 ∧ up.chip.soState 0 = 0 ∧ up.chip.soA.snap = none ∧ 2 ≤ 2) ∧
    (let s := inMode .mirror fun c => c.wr (soF 1 SOA_STAT_STATE) 1
     s.runs ∧ 1 < 2 ∧ s.chip.soState 1 = 1 ∧ s.chip.soRef 1 = 1 ∧ (s.chip.so 1).closed = false ∧ s.chip.soState 0 ≠ 1) ∧
    (let s := inMode .mirror fun c => ((c.wr SOA_STAT_STATE 1).wr SOA_COMMIT_PENDING 1).wr SOA_CTL_EN 0
     s.runs ∧ s.chip.soState 0 ≠ 0 ∧ s.chip.mode.moorPhase = .none ∧ s.chip.mode.moored = false ∧
     s.chip.wh.mfstState ≠ .staged ∧ s.chip.wh.mfstState ≠ .applying ∧ s.chip.brg.luts = [] ∧
     s.chip.flag SOA_COMMIT_PENDING = true ∧ s.chip.soA.snap = none ∧ s.chip.soA.commitLate = false ∧
     s.chip.flag SOA_CTL_EN = false) := by
  refine ⟨?_, ?_, ?_, ?_, ?_⟩
  · unfold State.runs Chip.reach; decide +kernel
  · unfold State.runs Chip.reach; decide +kernel
  · unfold State.runs Chip.reach; decide +kernel
  · unfold State.runs; decide +kernel
  · unfold State.runs; decide +kernel

theorem witness_ScanOutLines :
    (let s := inMode .mirror fun c => c.wr (soF 1 SOA_STAT_STATE) 1
     s.runs ∧ 1 < 2 ∧ s.chip.soState 1 = 1 ∧ s.chip.soSource 1 ≠ 2 ∧ 15 < (s.chip.timing 1).vact ∧
     15 < (s.chip.timing 1).hact ∧ (s.chip.so 1).subst.any (fun k => k.1 == 15) = false ∧
     s.chip.flag (soF 1 SOA_SUB_FIRST_VALID) = false ∧ s.chip.soState 0 ≠ 1 ∧ s.chip.reach (0x200060 + 1 * 0x10000)) ∧
    (let s := inMode .mirror fun c => (((c.wr (soF 1 SOA_STAT_STATE) 1).putEff (soF 1 SOA_CRC_CTL_EN) 128).putEff
         ((soF 1 SOA_CRC_SIZE_W).at 7) 4).putEff ((soF 1 SOA_CRC_SIZE_H).at 7) 2
     s.runs ∧ 1 < 2 ∧ 7 < 8 ∧ s.chip.soState 1 ≠ 0 ∧ (s.chip.so 1).crcDone.testBit 7 = false ∧
     s.chip.crcRect 1 7 = some (0, 0, 4, 2) ∧ (s.chip.so 1).substIn (0, 0, 4, 2) = false ∧
     s.chip.crcRect 1 6 = none ∧ s.chip.pdOn (37 + 1) = true ∧ ∀ ch, ch < 2 → s.chip.mcState ch ≠ mcShallow) ∧
    (let s := inMode .mirror fun c => ((((c.wr (soF 1 SOA_STAT_STATE) 1).putEff (soF 1 SOA_CRC_CTL_EN) 128).putEff
         ((soF 1 SOA_CRC_SIZE_W).at 7) 4).putEff ((soF 1 SOA_CRC_SIZE_H).at 7) 2).onSo 1
             fun x => { x with subst := [(1, 3)] }
     s.runs ∧ s.chip.crcRect 1 7 = some (0, 0, 4, 2) ∧ (s.chip.so 1).substIn (0, 0, 4, 2) = true) := by
  refine ⟨?_, ?_, ?_⟩
  · unfold State.runs Chip.reach; decide +kernel
  · unfold State.runs; decide +kernel
  · unfold State.runs; decide +kernel

theorem witness_BitPlanes :
    (up.runs ∧ up.chip.bpsRuns = false) ∧
    (let s := planesRun id
     s.runs ∧ s.chip.bpsRuns = true ∧ s.chip.mode.moored = false ∧ s.chip.bps.ready = false ∧
     s.chip.bps.shown.planes[s.chip.bps.next]? = none ∧ s.chip.bpsP = 1 ∧ 5 < 6 ∧ s.chip.lights 5 = false) ∧
    (let p : Plane := ⟨0, 0, 0, 63, 0, 0, 8, 8, 0⟩
     let s := planesRun fun c => c.onBps
         fun b => { b with cur := some 0, shown := ⟨some 0, 1, [p], []⟩, strobed := 15, ready := true }
     s.runs ∧ s.chip.bpsRuns = true ∧ s.chip.bps.cur = some 0 ∧ s.chip.bps.shown.planes[0]? = some p ∧ 15 < 16 ∧
     s.chip.bps.strobed ≤ 15 ∧ p.entry < 64 ∧ s.chip.bps.loaded.getD 15 none ≠ some (s.chip.bps.disp, 0) ∧
     s.chip.bps.ready = true ∧ s.chip.bps.shown.planes[s.chip.bps.next]? = some p ∧
     s.chip.flag BPS_LATE_FIRST_VALID = false) ∧
    (let p : Plane := ⟨0, 0, 0, 63, 0, 0, 8, 8, 0⟩
     let s := planesRun fun c => c.onBps
         fun b => { b with cur := some 0, shown := ⟨some 0, 1, [p], []⟩, loaded := List.replicate 16 (some (c.bps.disp,
         0)) }
     s.runs ∧ s.chip.bpsRuns = true ∧ s.chip.bps.strobed ≤ 0 ∧
     s.chip.bps.loaded.getD 0 none = some (s.chip.bps.disp, 0)) ∧
    (let p : Plane := ⟨0, 0, 0, 63, 0, 0, 8, 8, 0⟩
     let s := planesRun fun c => c.onBps fun b => { b with shown := ⟨some 0, 1, [p], []⟩ }
     let k := (s.chip.bps.disp, 0)
     s.runs ∧ s.chip.bpsRuns = true ∧ s.chip.pdOn 42 = true ∧ s.chip.bps.target = (some k, 0) ∧
     s.chip.bps.planeOf k = some p ∧
     s.chip.bps.bufOf k = some 0 ∧ s.chip.bps.cur = none) ∧
    (let p : Plane := ⟨0, 0, 0, 63, 0, 0, 8, 8, 0⟩
     let s := planesRun fun c => c.onBps fun b => { b with shown := ⟨some 0, 1, [p, p], []⟩, cur := some 0, next := 1 }
     let k := (s.chip.bps.disp, 1)
     s.runs ∧ s.chip.bpsRuns = true ∧ s.chip.pdOn 42 = true ∧ s.chip.bps.target = (some k, 0) ∧
     s.chip.bps.planeOf k = some p ∧
     s.chip.bps.bufOf k = some 0 ∧ s.chip.bps.cur ≠ none ∧ s.chip.bps.cur ≠ some k.2 ∧ s.chip.bps.strobed ≤ 0) ∧
    (let s := tune fun c => c.onBps fun b => { b with stuck := (List.range 256).map fun n => ⟨n, 0, true⟩ }
     s.runs ∧ s.chip.reach 0x240404 ∧ 256 ≤ s.chip.bps.stuck.length ∧ up.chip.bps.stuck.length < 256 ∧
     (s.chip.bps.stuck.any fun a => a.x == BPS_MAP_ADD_X.get (BPS_MAP_ADD_Y.put 0 1) && a.y == 1) = false ∧
     s.chip.reach 0x240400) ∧
    (let s := planesRun fun c => c.onBps fun b => { b with shown := ⟨some 0, 4, [], []⟩, nextSub := 3 }
     s.runs ∧ s.chip.bpsRuns = true ∧ s.chip.bps.shown.pos = 4 ∧ s.chip.bps.nextSub < s.chip.bps.shown.pos) := by
  refine ⟨?_, ?_, ?_, ?_, ?_, ?_, ?_, ?_⟩
  · unfold State.runs; decide +kernel
  · unfold State.runs; decide +kernel
  · unfold State.runs; decide +kernel
  · unfold State.runs; decide +kernel
  · unfold State.runs; decide +kernel
  · unfold State.runs; decide +kernel
  · unfold State.runs Chip.reach; decide +kernel
  · unfold State.runs; decide +kernel

theorem witness_BeamScan :
    (let s := tune fun c => { c with variantS := false }
     let t := tune fun c => c.onPw fun p => { p with pd := p.pd.set 43 .off }
     s.runs ∧ s.chip.variantS = false ∧ t.runs ∧ t.chip.pdOn 43 = false ∧ up.chip.variantS = true ∧
     up.chip.pdOn 43 = true) ∧
    (let s := tune fun c => (c.wr BSC_STAT_LSTATE 1).onBsc
         fun b => { b with gotEdge := true, intervals := List.replicate 7 15000 }
     s.runs ∧ s.chip.variantS = true ∧ s.chip.pdOn 43 = true ∧ s.chip.lstate = 1 ∧ s.chip.bsc.gotEdge = true ∧ s.chip.bsc.intervals.length = 7 ∧
     (s.chip.bsc.intervals ++ [s.chip.bsc.since + 15000]).all s.chip.periodOk = true) ∧
    (let s := tune fun c => (c.wr BSC_STAT_LSTATE 1)
     s.runs ∧ s.chip.variantS = true ∧ s.chip.pdOn 43 = true ∧ s.chip.lstate = 1 ∧ s.chip.bsc.gotEdge = false ∧ up.chip.lstate = 0 ∧ s.chip.pdOn 44 = true) ∧
    (let s := tune fun c => (c.wr BSC_STAT_LSTATE 2).onBsc fun b => { b with acc := c.phRef, good := 15 }
     s.runs ∧ s.chip.variantS = true ∧ s.chip.pdOn 43 = true ∧ s.chip.lstate = 2 ∧ ((s.chip.bscTicks 15000).bscError.natAbs : Int) ≤ (s.chip.bscTicks 15000).missWin ∧
     s.chip.periodOk (s.chip.bsc.since + 15000) = true ∧ s.chip.periodOk (s.chip.bsc.since + 0) = false ∧
     s.chip.bsc.good = 15 ∧
     ((s.chip.bscTicks 15000).bscError.natAbs : Int) ≤ s.chip.rd BSC_LOCK_THR_LOCK_THR * 2 ^ 24) ∧
    (let s := tune fun c => (c.wr BSC_STAT_LSTATE 3).onBsc fun b => { b with acc := (c.phRef + 2 ^ 47) % 2 ^ 48 }
     s.runs ∧ s.chip.variantS = true ∧ s.chip.pdOn 43 = true ∧ s.chip.lstate = 3 ∧ (s.chip.bscTicks 0).missWin < (s.chip.bscTicks 0).bscError.natAbs ∧
     s.chip.bsc.back = false ∧
     s.chip.bsc.step = 0 ∧ s.chip.bsc.draw = .idle ∧ s.chip.bsc.latest = none) ∧
    (let s := tune fun c => (c.wr BSC_STAT_LSTATE 3).onBsc fun b => { b with latest := some 2, acc := c.phRef }
     s.runs ∧ s.chip.variantS = true ∧ s.chip.pdOn 43 = true ∧ s.chip.lstate = 3 ∧ s.chip.bsc.back = false ∧ s.chip.bsc.step = 0 ∧ s.chip.bsc.draw = .idle ∧
     s.chip.bsc.latest = some 2 ∧ ((s.chip.bscTicks 0).bscError.natAbs : Int) ≤ (s.chip.bscTicks 0).missWin ∧
     s.chip.periodOk (s.chip.bsc.since + 0) = false) ∧
    (let s := tune fun c => c.wr BSC_STAT_LSTATE 4
     s.runs ∧ s.chip.variantS = true ∧ s.chip.pdOn 43 = true ∧ s.chip.lstate = 4) ∧
    (let s := inMode .scan
         fun c => (c.putEff BSC_CTL_EN 1).wr SOA_STAT_STATE 1 |>.putEff SOA_HTIM0_HACT 1024 |>.putEff SOA_VTIM0_VACT
         600
     s.runs ∧ s.chip.bscWanted = true ∧ s.chip.bscGeom = true ∧ s.chip.dest 0 = .beam ∧
     s.chip.bsc.held ≠ some (s.chip.bsc.frameK % s.chip.bscNbuf)) ∧
    (let s := inMode .scan
         fun c => ((c.putEff BSC_CTL_EN 1).wr SOA_STAT_STATE 1 |>.putEff SOA_HTIM0_HACT 1024 |>.putEff SOA_VTIM0_VACT
         600).onBsc
         fun b => { b with held := some 0 }
     s.runs ∧ s.chip.bscWanted = true ∧ s.chip.bscGeom = true ∧ s.chip.dest 0 = .beam ∧
     s.chip.bsc.held = some (s.chip.bsc.frameK % s.chip.bscNbuf) ∧ up.chip.bscWanted = false) := by
  refine ⟨?_, ?_, ?_, ?_, ?_, ?_, ?_, ?_, ?_⟩
  · unfold State.runs; decide +kernel
  · unfold State.runs; decide +kernel
  · unfold State.runs; decide +kernel
  · unfold State.runs; decide +kernel
  · unfold State.runs; decide +kernel
  · unfold State.runs; decide +kernel
  · unfold State.runs; decide +kernel
  · unfold State.runs; decide +kernel
  · unfold State.runs; decide +kernel

theorem witness_LightDrive :
    (let s := tune fun c => c.wr LTD_CTL_EN 1
     s.runs ∧ s.chip.pdOn 45 = true ∧ s.chip.eflag LTD_CTL_EN = false ∧ s.chip.flag LTD_CTL_EN = true ∧
     s.chip.ltd.testing = false ∧ s.chip.reach 0x280008 ∧ s.chip.reach 0x280000) ∧
    (let s := tune fun c => c.wr PWR_PINMUX_SHF_SEL 1
     let t := tune fun c => c.wr PWR_PINMUX_SHF_SEL 0
     s.runs ∧ s.chip.pdOn 45 = true ∧ s.chip.flag PWR_PINMUX_SHF_SEL = true ∧ t.runs ∧
     t.chip.flag PWR_PINMUX_SHF_SEL = false) ∧
    (let c := (litLamp id).chip
     c.ltdDark = false ∧ c.ltd.strOff.getD 0 false = false ∧ c.flag LTD_STAT_SHF = false ∧ up.chip.ltdDark = true) ∧
    (let s := tune fun c => c.onLtd fun l => { l with testing := true }
     s.runs ∧ s.chip.ltd.testing = true) ∧
    (let s := tune fun c => (c.putEff (LTD_ADC_SCHED.at 1) 0xF0000000).putEff (LTD_SNS_CFG_ROLE.at 7) 4
     s.runs ∧ 0 < 15 ∧ 15 < 16 ∧ s.chip.pdOn 47 = true ∧ s.chip.pdOn 45 = true ∧ s.chip.adcSlot 15 = (7, true) ∧
     s.chip.ef (LTD_SNS_CFG_ROLE.at 7) = 4 ∧ (s.chip.adcSlot 14).2 = false) ∧
    (let s := inMode .panel fun c => c.wr (SHM_DUTY_DUTY.at 15) 2048
     s.runs ∧ s.chip.mode.mode = .panel ∧ 15 < 16 ∧ 0 < (s.chip.pwmWindow 15).2 ∧
     (s.chip.pwmWindow 15).2 < max 256 (s.chip.ef SHM_CTL_PWM_PER)) := by
  refine ⟨?_, ?_, ?_, ?_, ?_, ?_⟩
  · unfold State.runs Chip.reach; decide +kernel
  · unfold State.runs; decide +kernel
  · decide +kernel
  · unfold State.runs; decide +kernel
  · unfold State.runs; decide +kernel
  · unfold State.runs; decide +kernel

theorem witness_TowpathChain :
    (let s := tune fun c => (c.wr TWP_CTL_EN 1).wr TWP_TRIG_TRIG 1
     let w := TWP_TRIG_GO.put (s.chip.get 0x2A0008) 1
     s.runs ∧ s.chip.pdOn 48 = true ∧ s.chip.flag TWP_CTL_EN = true ∧ s.chip.twpHalted = false ∧ s.chip.rd TWP_TRIG_TRIG = 1 ∧
     s.chip.reach 0x2A0008 ∧
     TWP_TRIG_GO.get w = 1 ∧ TWP_TRIG_TRIG.get w = s.chip.rd TWP_TRIG_TRIG ∧
     TWP_TRIG_PERIOD.get w = s.chip.rd TWP_TRIG_PERIOD ∧
     s.chip.twp.kind = .none ∧ s.chip.ring ≠ 3 ∧ s.chip.twp.due = false) ∧
    (let s := tune fun c => (c.wr TWP_CTL_EN 1).onTwp fun t => { t with due := true, kind := .data }
     s.runs ∧ s.chip.pdOn 48 = true ∧ s.chip.flag TWP_CTL_EN = true ∧ s.chip.twpHalted = false ∧ ¬(s.chip.twp.kind = .none) ∧
     s.chip.flag TWP_STAT_PENDING = false ∧ s.chip.twp.listening = false ∧ s.chip.ring ≠ 3) ∧
    (up.runs ∧ up.chip.rd TWP_TRIG_TRIG ≠ 1 ∧ up.chip.reach 0x2A0008 ∧ TWP_TRIG_GO.get 0 = 0 ∧ up.chip.twp.await = []) ∧
    (let s := tune fun c => (c.wr TWP_CTL_EN 1).onTwp fun t => { t with due := true }
     s.runs ∧ s.chip.pdOn 48 = true ∧ s.chip.flag TWP_CTL_EN = true ∧ s.chip.twpHalted = false ∧ s.chip.twp.kind = .none ∧ s.chip.ring ≠ 3 ∧
     s.chip.twp.due = true) ∧
    (let s := tune fun c => (c.wr TWP_STAT_RING 3).onTwp fun t => { t with kind := .data }
     s.runs ∧ s.chip.twp.kind ≠ .none ∧ s.chip.twp.listening = false ∧ s.chip.twpHalted = false ∧
     s.chip.ring = 3) ∧
    (let s := onEdge .standby .e2 fun c => c.onTwp fun t => { t with kind := .data }
     s.runs ∧ s.chip.twp.kind ≠ .none ∧ s.chip.twp.listening = false ∧ s.chip.twpHalted = true) ∧
    (let e := bitsOf 4 9
     let s := tune fun c => (c.wr TWP_STAT_RING 1).onTwp fun t => { t with await := [e], nones := 1 }
     s.runs ∧ s.chip.twp.await = e :: [] ∧ s.chip.retGpio = false ∧ s.chip.ring ≠ 3 ∧ s.chip.ring ≤ 1) ∧
    (let s := tune fun c => c.onTwp fun t => { t with listening := true, kind := .locateB }
     s.runs ∧ s.chip.twp.listening = true ∧ s.chip.twp.kind = .locateB ∧ up.chip.twp.listening = false) := by
  refine ⟨?_, ?_, ?_, ?_, ?_, ?_, ?_, ?_⟩
  · unfold State.runs Chip.reach; decide +kernel
  · unfold State.runs; decide +kernel
  · unfold State.runs Chip.reach; decide +kernel
  · unfold State.runs; decide +kernel
  · unfold State.runs; decide +kernel
  · unfold State.runs; decide +kernel
  · unfold State.runs; decide +kernel
  · unfold State.runs; decide +kernel

theorem witness_TowpathMatrix :
    (let s := tune fun c => c.wr (TWP_PAT_CTL_RUN.at 7) 1
     s.runs ∧ 7 < 8 ∧ s.chip.reach (0x2A0100 + 16 * 7) ∧ s.chip.rd (TWP_PAT_CTL_RUN.at 7) = 1 ∧
     s.chip.rd (TWP_PAT_CTL_RUN.at 0) = 0 ∧ TWP_PAT_CTL_RUN.get (TWP_PAT_CTL_RUN.put 0 1) = 1) ∧
    (let s := tune fun c => c.onPat 7 fun p => { p with start := true }
     s.runs ∧ s.chip.pdOn 49 = true ∧ s.chip.twpHalted = false ∧ 7 < 8 ∧ (s.chip.pat 7).start = true) ∧
    (up.runs ∧ (∀ k, k < 8 → (up.chip.pat k).running = false ∧ (up.chip.pat k).start = false) ∧
     up.chip.twp.mxBusy = false ∧
     up.chip.reach 0x2A0040 ∧ up.chip.reach 0x2A0200 ∧ up.chip.reach 0x2A0000 ∧ up.chip.rd TWP_MX_CTL_SYNC_SRC ≠ 1 ∧
     up.chip.twp.mxRow = none) ∧
    (let s := tune fun c => ((c.wr TWP_MX_CTL_SYNC_SRC 1).wr TWP_MX_CTL_MODE 2).wr TWP_MX_CTL_READY 1
     s.runs ∧ s.chip.rd TWP_MX_CTL_SYNC_SRC = 1 ∧ s.chip.pdOn 49 = true ∧ s.chip.twpHalted = false ∧ s.chip.mxMode ≠ 0 ∧
     s.chip.twp.mxBusy = false ∧
     s.chip.flag TWP_MX_CTL_READY = true ∧ 2047 < 2048 ∧ s.chip.reach (0x2A4000 + 4 * 2047)) ∧
    (let s := tune fun c => ((c.wr TWP_MX_CTL_SYNC_SRC 1).wr TWP_MX_CTL_MODE 2).onTwp
         fun t => { t with mxBusy := true }
     s.runs ∧ s.chip.rd TWP_MX_CTL_SYNC_SRC = 1 ∧ s.chip.pdOn 49 = true ∧ s.chip.twpHalted = false ∧ s.chip.twp.mxBusy = true ∧
     s.chip.mxMode = 2 ∧ s.chip.twp.mxSync = false ∧ s.chip.mxLine = false) ∧
    (let s := tune fun c => (((c.wr TWP_MX_CTL_SYNC_SRC 1).wr TWP_MX_CTL_MODE 1).putEff TWP_MX_CTL_MODE 1).onTwp
         fun t => { t with mxBusy := true }
     let t := onEdge .standby .e2 id
     s.runs ∧ s.chip.rd TWP_MX_CTL_SYNC_SRC = 1 ∧ s.chip.mxMode ≠ 0 ∧ s.chip.mxLine = true ∧ t.runs ∧
     t.chip.twpHalted = true) ∧
    (let s := tune fun c => ((c.wr TWP_MX_CTL_MODE 1).putEff TWP_MX_CTL_MODE 1).onTwp fun t =>
         { t with mxRow := some 7 }
     s.runs ∧ s.chip.twp.mxRow = some 7 ∧ s.chip.mxMode = 1 ∧ s.chip.twp.mxSync = false ∧ s.chip.mxRows ≤ 7 + 1) := by
  refine ⟨?_, ?_, ?_, ?_, ?_, ?_, ?_⟩
  · unfold State.runs Chip.reach; decide +kernel
  · unfold State.runs; decide +kernel
  · unfold State.runs Chip.reach; decide +kernel
  · unfold State.runs Chip.reach; decide +kernel
  · unfold State.runs; decide +kernel
  · unfold State.runs; decide +kernel
  · unfold State.runs; decide +kernel

theorem witness_LoadingAnImage :
    (let s := inMode .load fun c => (c.onLd
         fun l => { l with phase := .bist }).withFlash 0 (imageHead 1 92 ++ sectionEntry 15 88 4)
     let h := s.chip.headBytes 0 64
     s.runs ∧ s.chip.inLoad .bist = true ∧ s.chip.ld.headerRead = false ∧ s.chip.ld.imgBase = 0 ∧
     numIn h 0 4 = 0x4D4C4F50 ∧
     numIn h 4 2 = 1 ∧ crc32 (h.take 60) = numIn h 60 4 ∧ numIn h 6 2 = 1 ∧ numIn h 8 4 = 92 ∧
     ledgerOk (numIn h 20 4) (numIn h 24 1) s.chip.ld.imgBase 92 = true ∧
     dirErr [sectionOf (s.chip.headBytes 64 24)] 0 88 92 = none ∧
     safeErr [sectionOf (s.chip.headBytes 64 24)] ((s.chip.ld.shadowWord 34).getLsbD 0) = none) ∧
    (let s := inMode .load fun c => c.onLd fun l => { l with phase := .bist }
     s.runs ∧ s.chip.inLoad .bist = true ∧ s.chip.ld.headerRead = false ∧
     numIn (s.chip.headBytes 0 64) 0 4 ≠ 0x4D4C4F50) ∧
    (let b := ledgerRecord 0x20 0 [5, 0, 6, 0, 1]
     let s := inMode .load fun c => (c.withFlash 4096 b).onLd fun l =>
         { l with phase := .bist, headerRead := true, ledgerSect := 1, ledgerOff := 4096 }
     s.runs ∧ s.chip.inLoad .bist = true ∧ s.chip.ld.headerRead = true ∧ s.chip.ld.scanned = false ∧
     s.chip.appendPtr = 1 ∧
     slotKind (s.chip.slot 0) = .valid ∧ ((s.chip.slot 0).getD 1 0).toNat = 0x20 ∧ s.chip.bps.stuck = []) ∧
    (let s := inMode .load fun c => c.onLd fun l => { l with phase := .bist, headerRead := true, scanned := true }
     s.runs ∧ s.chip.inLoad .bist = true ∧ s.chip.ld.headerRead = true ∧ s.chip.ld.scanned = true ∧
     s.chip.ld.phase1 = false ∧
     s.chip.ld.appended = [] ∧ 8 ≤ s.chip.ld.spared ∧ s.chip.ld.tableOf 3 = [] ∧ 7 < 8 ∧ 8 ≤ 8) ∧
    (let s := inMode .load fun c => c.onLd fun l => { l with phase := .bist, phase1 := true }
     s.runs ∧ s.chip.inLoad .bist = true ∧ s.chip.ld.phase1 = true ∧ 8 ≤ s.chip.ld.spared ∧
     s.chip.ld.ledgerLanes = [] ∧ s.chip.ld.lane8Bad = false) ∧
    (let s := inMode .load fun c => c.onLd fun l => { l with phase := .bist, phase1 := true, spared := 7 }
     s.runs ∧ s.chip.inLoad .bist = true ∧ s.chip.ld.phase1 = true ∧ s.chip.ld.spared < 8 ∧ 0 ≠ s.chip.ld.spared ∧
     s.chip.ld.lane8Bad = false) ∧
    (let x : Section := ⟨4, 0, 0, 88, 4, 0, crc32 (List.replicate 4 0xFF#8)⟩
     let s := inMode .load fun c => c.onLd fun l => { l with phase := .body, dir := [x] }
     s.runs ∧ s.chip.inLoad .body = true ∧ s.chip.ld.dir[s.chip.ld.nextSect]? = some x ∧ x.type = 4 ∧
     crc32 (s.chip.imageBytes x.offset x.length) = x.crc) ∧
    (let x : Section := ⟨3, 0, 0, 88, 4, 0, 0⟩
     let s := inMode .load fun c => c.onLd fun l => { l with phase := .body, dir := [x] }
     s.runs ∧ s.chip.inLoad .body = true ∧ s.chip.ld.dir[s.chip.ld.nextSect]? = some x ∧ x.type = 3 ∧
     s.chip.dramReady x.dest (s.chip.imageBytes x.offset x.length).length = false ∧
     crc32 (s.chip.imageBytes x.offset x.length) ≠ x.crc) ∧
    (let s := inMode .load fun c => c.onLd fun l => { l with phase := .body }
     s.runs ∧ s.chip.inLoad .body = true ∧ s.chip.ld.nextSect = s.chip.ld.dir.length ∧
     (s.chip.ld.shadowWord 34).getLsbD 0 = false ∧ s.chip.ld.deferredOf = []) ∧
    (let x : Section := ⟨1, 0, 0, 88, 4, 0, 0⟩
     let s := inMode .load fun c => c.onLd fun l => { l with phase := .body, dir := [x], nextSect := 1 }
     s.runs ∧ s.chip.inLoad .body = true ∧ s.chip.ld.nextSect = s.chip.ld.dir.length ∧
     s.chip.ld.deferredOf = [(x, 0)] ∧ s.chip.dramServes x.dest x.length = false ∧
     ∀ ch, ch < 2 → s.chip.flag (mcF ch MCA_ECC_CTL_POLICY) = false) := by
  refine ⟨?_, ?_, ?_, ?_, ?_, ?_, ?_, ?_, ?_, ?_⟩
  · unfold State.runs; decide +kernel
  · unfold State.runs; decide +kernel
  · unfold State.runs; decide +kernel
  · unfold State.runs; decide +kernel
  · unfold State.runs; decide +kernel
  · unfold State.runs; decide +kernel
  · unfold State.runs; decide +kernel
  · unfold State.runs; decide +kernel
  · unfold State.runs; decide +kernel
  · unfold State.runs; decide +kernel

theorem witness_LedgerAppends :
    (let s := inMode .mirror fun c => (c.wr LDR_LEDGER_CTL_APPEND_EN 1).onLd fun l => { l with ledgerSect := 16 }
     let t := onEdge .standby .e2 id
     let r : LedgerReq := ⟨255, 65535, 0, []⟩
     s.runs ∧ s.chip.flashStopped = false ∧ s.chip.ld.ledgerSect ≠ 0 ∧ r.key ∉ s.chip.ld.keys ∧ s.chip.flag LDR_LEDGER_CTL_APPEND_EN = true ∧
     s.chip.ld.queue.length < 16 ∧ (inMode .mirror id).chip.flashStopped = false ∧
     (inMode .mirror id).chip.ld.ledgerSect = 0 ∧ t.runs ∧ t.chip.flashStopped = true) ∧
    (let r : LedgerReq := ⟨1, 2, 0, [3]⟩
     let s := inMode .mirror fun c => c.onLd fun l => { l with ledgerSect := 1, queue := [r] }
     s.runs ∧ s.chip.appendMay = true ∧ s.chip.ld.queue = r :: [] ∧ s.chip.ld.rescan = false ∧ r.key ∉ s.chip.ld.keys ∧
     s.chip.rd LDR_LEDGER_STAT_NEXT < s.chip.ld.slots ∧ s.chip.ld.attempts < 2 ∧ s.chip.ld.stage ≠ .readback) ∧
    (let r : LedgerReq := ⟨1, 2, 0, [3]⟩
     let s := inMode .mirror fun c => c.onLd
         fun l => { l with stage := .dead, ledgerSect := 1, queue := [r], attempts := 2 }
     s.runs ∧ s.chip.ld.stage = .dead ∧ s.chip.ld.queue = r :: [] ∧ 2 ≤ s.chip.ld.attempts) ∧
    (let s := inMode .mirror fun c => c.onLd fun l => { l with stage := .mark, ledgerSect := 1 }
     s.runs ∧ s.chip.ld.stage = .mark) ∧
    (let r : LedgerReq := ⟨1, 2, 0, [3]⟩
     let s := inMode .mirror fun c => c.onLd fun l => { l with stage := .readback, ledgerSect := 1, queue := [r] }
     s.runs ∧ s.chip.ld.stage = .readback ∧ s.chip.ld.queue = r :: [] ∧ s.chip.ld.keys.length < 2048 ∧
     s.chip.ld.slotBytes ≠ [0#8]) := by
  refine ⟨?_, ?_, ?_, ?_, ?_⟩
  · unfold State.runs; decide +kernel
  · unfold State.runs; decide +kernel
  · unfold State.runs; decide +kernel
  · unfold State.runs; decide +kernel
  · unfold State.runs; decide +kernel

theorem witness_FlashHostCommands :
    (let s := inMode .standby fun c => c.wr LDR_FHOST_ADDR_ADDR 255
     s.runs ∧ s.chip.reach 0x20100 ∧ s.chip.mode.mode ≠ .load ∧ s.chip.ld.stage = .idle ∧ s.chip.ld.hostOp = 0 ∧
     s.chip.ld.attempts = 0 ∧ s.chip.flashStopped = false ∧
     256 < s.chip.rd LDR_FHOST_ADDR_ADDR % 256 + (1 % 256 + 1) ∧
     s.chip.rd LDR_FHOST_ADDR_ADDR % 256 + (0 % 256 + 1) ≤ 256 ∧
     s.chip.rd LDR_FHOST_ADDR_ADDR % 4096 ≠ 0 ∧ s.chip.reach 0x2003C ∧ s.chip.reach 0x20060) ∧
    (let s := onEdge .standby .e2 id
     let t := inMode .mirror fun c => c.onLd fun l => { l with attempts := 1 }
     s.runs ∧ s.chip.reach 0x20100 ∧ s.chip.mode.mode ≠ .load ∧ s.chip.ld.stage = .idle ∧ s.chip.ld.attempts = 0 ∧
     s.chip.ld.hostOp = 0 ∧ s.chip.flashStopped = true ∧ t.runs ∧ t.chip.reach 0x20100 ∧ t.chip.ld.attempts ≠ 0) ∧
    (let s := inMode .standby fun c => c.onLd fun l => { l with hostOp := 2, hostLen := 256 }
     s.runs ∧ s.chip.ld.hostOp ≠ 0 ∧ s.chip.flashFetch = false ∧ s.chip.ld.hostOp = 2 ∧ s.chip.ld.hostLen ≤ 256) ∧
    (let s := tune fun c => c.onLd fun l => { l with hostOp := 1, hostLen := 1 }
     s.runs ∧ s.chip.ld.hostOp ≠ 2 ∧ s.chip.ld.hostOp ≠ 3 ∧ s.chip.ld.hostLen ≤ 256) ∧
    (let w := LDR_OTP_CTL_ARM.put 0 1
     LDR_OTP_CTL_ARM.get w = 1 ∧ up.chip.otpMarked ≤ 16 ∧ up.chip.ld.otpLock = false) := by
  refine ⟨?_, ?_, ?_, ?_, ?_⟩
  · unfold State.runs Chip.reach; decide +kernel
  · unfold State.runs Chip.reach; decide +kernel
  · unfold State.runs; decide +kernel
  · unfold State.runs; decide +kernel
  · decide +kernel

theorem witness_WharfTransactions :
    (let s := inMode .deepSleep fun c =>
         (c.onPw fun p => { p with pd := p.pd.set 2 .off }).onWh fun w => { w with lockout := true }
     s.runs ∧ s.chip.pdOn 2 = false ∧ s.chip.wh.i2c = false ∧ s.chip.wh.lockout = true ∧
     s.chip.mode.mode = .deepSleep ∧ 4 ≤ [0#8, 7#8, 0x5A#8, 0x5A#8].length ∧
     [0#8, 7#8, 0x5A#8, 0x5A#8].take 2 = [0#8, 7#8] ∧ [0#8].length < 4) ∧
    (let s := tune fun c => c.onWh fun w => { w with i2c := true, i2cAddr := 3 }
     s.runs ∧ s.chip.pdOn 2 = true ∧ s.chip.wh.i2c = true ∧ 0 ≠ 0x2C + s.chip.wh.i2cAddr ∧
     s.chip.addressed 0x2F = true ∧ 0x2F = 0x2C + s.chip.wh.i2cAddr ∧ s.chip.addressed 0 = false ∧
     cmdRead ([0x80#8, 0x12#8].headD 0) = true ∧ [0x80#8, 0x12#8].getD 1 0 = 0x12#8 ∧ s.chip.wh.drain = [] ∧
     s.chip.wh.ready = false ∧ s.chip.wh.mfstBurst = false) ∧
    (up.runs ∧ up.chip.pdOn 2 = true ∧ up.chip.addressed 0 = true ∧ cmdRead 0x80#8 = true ∧ cmdRead 0x00#8 = false) ∧
    (let b := [0x01#8, 0x30#8, 1#8, 2#8, 3#8, 4#8]
     up.runs ∧ up.chip.pdOn 2 = true ∧ cmdRead (b.headD 0) = false ∧ up.chip.crcOn = false ∧
     b.length = 2 + 2 * cmdWords (b.headD 0) + 0 ∧ up.chip.wh.drain = [] ∧ up.chip.wh.mfstBurst = false ∧
     wordAddrs (cmdFixed (b.headD 0)) (cmdWords (b.headD 0)) (b.getD 1 0).toNat = [0x30, 0x31]) ∧
    (let s := tune fun c => c.onWh fun w => { w with crcEn := true }
     let b := [0x00#8, 0x0B#8, 0#8, 1#8, BitVec.ofNat 8 (crc8 [0x00#8, 0x0B#8, 0#8, 1#8])]
     s.runs ∧ s.chip.crcOn = true ∧ b.length = 2 + 2 * cmdWords (b.headD 0) + 1 ∧
     crc8 (b.take (2 + 2 * cmdWords (b.headD 0))) = (b.getLastD 0).toNat ∧
     crc8 ([0x80#8, 0#8, 0#8].take 2) ≠ ([0x80#8, 0#8, 0#8].getD 2 0).toNat ∧ [0x80#8, 0#8, 0#8].length = 3 ∧
     wordAddrs (cmdFixed (b.headD 0)) (cmdWords (b.headD 0)) (b.getD 1 0).toNat = [0x0B]) ∧
    (let s := tune fun c => c.onWh fun w => { w with mfstBurst := true }
     s.runs ∧ s.chip.wh.mfstBurst = true ∧ s.chip.wh.drain = [] ∧ (∀ a ∈ wordAddrs false 1 0x14, 0x10 ≤ a ∧ a ≤ 0x14) ∧
     wordAddrs false 6 0x0B = [0x0B, 0x0C, 0x0D, 0x0E, 0x0F, 0x10] ∧ up.chip.topRead 0x7F = none ∧
     up.chip.topRead 0 = some 0x4826#16 ∧ cmdWords 0x80#8 = 1) ∧
    (let s := tune fun c => c.onWh fun w => { w with drain := [(0x50C, 1#32)] }
     let t := tune fun c => c.onWh fun w => { w with ready := true }
     s.runs ∧ s.chip.pdOn 2 = true ∧ s.chip.crcOn = false ∧ s.chip.wh.drain ≠ [] ∧ 0x13 ∈ wordAddrs false 1 0x13 ∧
     t.runs ∧ t.chip.wh.ready = true ∧ t.chip.wh.drain = [] ∧ t.chip.wh.mfstBurst = false ∧
     wordAddrs false 1 0x12 = [0x12]) ∧
    (let s := tune fun c => c.onPw fun p => { p with pd := p.pd.set 2 .off }
     s.runs ∧ s.chip.pdOn 2 = false) := by
  refine ⟨?_, ?_, ?_, ?_, ?_, ?_, ?_, ?_⟩
  · unfold State.runs; decide +kernel
  · unfold State.runs; decide +kernel
  · unfold State.runs; decide +kernel
  · unfold State.runs; decide +kernel
  · unfold State.runs; decide +kernel
  · unfold State.runs; decide +kernel
  · unfold State.runs; decide +kernel
  · unfold State.runs; decide +kernel

theorem witness_WindowAndRegisterWrites :
    (up.runs ∧ up.chip.pdOn 2 = true ∧ up.chip.wh.drain = [] ∧ up.chip.wh.mfstBurst = false ∧
     up.chip.wh.ready = false ∧ up.chip.wh.prefetch = none) ∧
    (let s := tune fun c => c.onPw fun p => { p with pd := p.pd.set 2 .off }
     let t := tune fun c => c.onWh fun w => { w with mfstBurst := true }
     let u := tune fun c => c.onWh fun w => { w with i2c := true, prefetch := some 0x50C }
     s.runs ∧ s.chip.pdOn 2 = false ∧ t.runs ∧ t.chip.pdOn 2 = true ∧ t.chip.wh.drain = [] ∧
     t.chip.wh.mfstBurst = true ∧ u.runs ∧ u.chip.wh.ready = false ∧ u.chip.wh.i2c = true ∧
     u.chip.wh.prefetch = some 0x50C ∧ inAperture 0x50C = false ∧ u.chip.access 0x50C = .ok) ∧
    (let s := tune fun c => c.onWh fun w => { w with ready := true, drain := [] }
     let t := tune fun c => c.onWh fun w => { w with drain := [(0x50C, 1#32)] }
     s.runs ∧ s.chip.wh.ready = true ∧ t.runs ∧ t.chip.wh.drain = (0x50C, 1#32) :: [] ∧ t.chip.pdOn 2 = true ∧
     0x50C < 2 ^ 24 ∧ inAperture 0x50C = false ∧ inAperture 0x800000 = true) ∧
    (let s := tune fun c => c.onWh fun w => { w with drain := [(0xFFFFFC, 1#32)] }
     s.runs ∧ s.chip.wh.drain = (0xFFFFFC, 1#32) :: [] ∧ 0xFFFFFC < 2 ^ 24 ∧ s.chip.pdOn 2 = true ∧
     inAperture 0xFFFFFC = true ∧ s.chip.aperWaits 0xFFFFFC = false ∧
     s.chip.aperOpen (s.chip.aperSys 0xFFFFFC) = false) ∧
    (let s := tune fun c => (((c.wr MCA_CFG_ENABLE 1).wr MCX_MAP_STAT_VALID 1).wr MCA_STAT_STATE mcSweep).onWh fun w =>
         { w with prefetch := some 0x800004 }
     s.runs ∧ s.chip.wh.drain = [] ∧ s.chip.wh.prefetch = some 0x800004 ∧ inAperture 0x800004 = true ∧
     s.chip.aperWaits 0x800004 = true) ∧
    (let s := tune fun c => c.onWh fun w => { w with prefetch := some 0x50C }
     s.runs ∧ s.chip.wh.drain = [] ∧ s.chip.wh.prefetch = some 0x50C ∧ s.chip.access 0x50C = .ok ∧
     s.chip.access 0x7FFFFC = .unimpl) ∧
    (let s := tune fun c => c.onWh fun w => { w with prefetch := some 0x800000 }
     s.runs ∧ s.chip.wh.drain = [] ∧ s.chip.wh.prefetch = some 0x800000 ∧ s.chip.aperWaits 0x800000 = false ∧
     s.chip.aperOpen (s.chip.aperSys 0x800000) = false) ∧
    (let s := tune
         fun c => (eightWords ((((c.wr MCA_CFG_ENABLE 1).wr MCX_MAP_STAT_VALID 1).wr MCA_STAT_STATE
         mcActive).writePhys ⟨0, 0, 0, 0, 0⟩ 5)).onWh
         fun w => { w with prefetch := some 0x800004 }
     s.runs ∧ s.chip.wh.prefetch = some 0x800004 ∧ s.chip.aperWaits 0x800004 = false ∧
     s.chip.aperOpen (s.chip.aperSys 0x800004) = true ∧
     s.chip.readSys (s.chip.aperSys 0x800004) = some ⟨0, 5, 0, false⟩) ∧
    (let a := 0x140000
     up.runs ∧ up.chip.access a = .ok ∧ (rowOf a).isSome = true ∧ a / 65536 ∈ [0x0B, 0x0C, 0x14, 0x15, 0x18, 0x29] ∧
     a % 65536 ≠ 0xF0 ∧ a % 65536 ≠ 0xE0 ∧ (a % 65536 ≠ 0 ∨ 0x140000 ≤ a) ∧ up.chip.soLocked = false ∧
     0xFFFFFFFF#32 &&& up.chip.lockedBits a = 0) ∧
    (let k := 0x10
     up.runs ∧ isClear (k * 65536 + cntClrAt k) = true ∧ counterRegs k ≠ [] ∧
     up.chip.access (k * 65536 + cntClrAt k) = .ok ∧
     (1#32).getLsbD 0 = true ∧ isClear 0 = false ∧ hasArith 0x14 = false ∧ hasArith k = true ∧
     up.chip.reach (k * 0x10000 + 0xF0)) := by
  refine ⟨?_, ?_, ?_, ?_, ?_, ?_, ?_, ?_, ?_, ?_⟩
  · unfold State.runs; decide +kernel
  · unfold State.runs; decide +kernel
  · unfold State.runs; decide +kernel
  · unfold State.runs; decide +kernel
  · unfold State.runs; decide +kernel
  · unfold State.runs; decide +kernel
  · unfold State.runs; decide +kernel
  · unfold State.runs; decide +kernel
  · unfold State.runs; decide +kernel
  · unfold State.runs Chip.reach; decide +kernel

theorem witness_Manifests :
    (let s := inMode .standby id
     s.runs ∧ s.chip.pdOn 2 = true ∧ s.chip.wh.drain = [] ∧ s.chip.mfstPending = false ∧ s.chip.mode.mode ≠ .load ∧
     s.chip.soState 0 = 0 ∧
     s.chip.wh.mfstState ≠ .fetch ∧ s.chip.wh.mfstBurst = false) ∧
    (let s := inMode .mirror fun c => (c.wr SOA_STAT_STATE 1).onWh fun w => { w with mfstState := .staged }
     let t := inMode .mirror fun c => c.onWh fun w => { w with drain := [(0x50C, 1#32)] }
     s.runs ∧ s.chip.pdOn 2 = true ∧ s.chip.wh.drain = [] ∧ s.chip.mfstPending = true ∧ (0x0002#16).getLsbD 1 = true ∧
     s.chip.soState 0 ≠ 0 ∧ t.runs ∧ t.chip.pdOn 2 = true ∧ t.chip.wh.drain ≠ []) ∧
    (let s := tune fun c => (c.withFlash 0 (manifest [(0x50C, 1, 0xFFFFFFFF), (0xFF000000, 0, 0)])).onWh fun w =>
         { w with mfstState := .fetch, runDram := false, runFlash := true, runWhen := 1 }
     let bs := s.chip.flashManifest s.chip.wh.runAddr
     s.runs ∧ s.chip.wh.mfstState = .fetch ∧ s.chip.wh.runFlash = true ∧ s.chip.pdOn 12 = true ∧ mfstErr bs = 0 ∧
     s.chip.wh.runWhen ≠ 2) ∧
    (let s := tune fun c => (c.withFlash 0 (manifest [(0x7FFFFC, 1, 0xFFFFFFFF), (0xFF000000, 0, 0)])).onWh fun w =>
         { w with mfstState := .fetch, runDram := false, runFlash := true, runWhen := 2 }
     let bs := s.chip.flashManifest s.chip.wh.runAddr
     let e : MfstEntry := ⟨0x7FFFFC, 1#32, 0xFFFFFFFF#32⟩
     s.runs ∧ s.chip.wh.mfstState = .fetch ∧ mfstErr bs = 0 ∧ s.chip.wh.runWhen = 2 ∧ s.chip.soLocked = false ∧
     mfstGroupsOf (mfstWords (mfstCount bs) (bs.drop 16)) = [⟨0, [e]⟩] ∧ s.chip.access e.addr ≠ .ok) ∧
    (let s := tune fun c => c.onWh fun w => { w with mfstState := .fetch, runDram := false, runFlash := false }
     s.runs ∧ s.chip.wh.mfstState = .fetch ∧ s.chip.wh.runDram = false ∧ s.chip.wh.runFlash = false) ∧
    (let s := tune fun c => c.onWh fun w => { w with mfstState := .applying, mfstBurst := true }
     s.runs ∧ s.chip.wh.mfstBurst = true ∧ s.chip.wh.mfstState = .applying ∧ s.chip.wh.mfstGroups = []) ∧
    (let s := inMode .mirror fun c => (c.wr SOA_STAT_STATE 1).onBrg fun b =>
         { b with stream := packet 3 0 0 (manifest [(0xFF000000, 0, 0)]), seen := true }
     s.runs ∧ s.chip.packetReady 3 ∧ s.chip.mfstPending = false ∧ s.chip.mode.mode ≠ .load ∧ s.chip.brg.crcOk = true ∧
     s.chip.packetDup = false ∧ mfstErr s.chip.brg.payload = 0 ∧ s.chip.brg.param % 4 ≠ 2 ∧ s.chip.soState 0 ≠ 0) := by
  refine ⟨?_, ?_, ?_, ?_, ?_, ?_, ?_⟩
  · unfold State.runs; decide +kernel
  · unfold State.runs; decide +kernel
  · unfold State.runs; decide +kernel
  · unfold State.runs; decide +kernel
  · unfold State.runs; decide +kernel
  · unfold State.runs; decide +kernel
  · unfold State.runs Chip.packetReady; decide +kernel

theorem witness_DebugPort :
    (let s := tune fun c => c.onPw fun p => { p with pd := p.pd.set 51 .off }
     s.chip.tapAnswers = false ∧ up.chip.tapAnswers = true ∧ State.reset.chip.tapAnswers = false) ∧
    (let dr := 2 ^ 56 + 0x143 * 2 ^ 34 + 7
     let s := tune fun c => c.wr DBG_CTL_TAP_CSR 1
     s.chip.tapAnswers = true ∧ s.chip.tap.busy = false ∧
     ¬(s.chip.pins.tmode = true ∨ s.chip.rd DBG_CTL_TAP_CSR = 0 ∨ 0x800000 ≤ dr / 2 ^ 34 % 2 ^ 22 * 4)) ∧
    (let s := tune fun c => c.onTap fun t => { t with busy := true, reqAddr := 0x50C, reqWrite := true }
     s.runs ∧ s.chip.tap.busy = true ∧ s.chip.wh.mfstBurst = false ∧ s.chip.access s.chip.tap.reqAddr = .ok ∧
     s.chip.tap.reqWrite = true ∧ s.chip.pdOn 2 = true ∧ s.chip.tap.reqAddr < 0x800000 ∧ up.chip.tap.busy = false) := by
  refine ⟨?_, ?_, ?_⟩
  · decide +kernel
  · decide +kernel
  · unfold State.runs; decide +kernel

theorem witness_StepRunsFrontCommand :
    let s : State := ⟨upChip, [.tbSnap, .xinStop]⟩
    s.pending = .tbSnap :: [.xinStop] ∧ up.pending = [] ∧ up.runs ∧ ¬State.reset.runs := by
  unfold State.runs; decide +kernel

theorem witness_EveryStepKeepsSound :
    up.sound = true ∧ State.reset.sound = true ∧ ∃ t, step up = .next t := by
  exact ⟨by decide +kernel, by decide +kernel, _, rfl⟩

theorem witness_OnlyStoringCommandsStore :
    mayStore .tbSnap = false ∧ mayStore .limpExit = false := by
  decide +kernel

theorem witness_OnlyEdgesChangeTheMode :
    mayEnter .xinStop = false ∧ mayLimp .xinStop = true ∧ mayEnter (.modeRequest 0) = false ∧
    mayLimp (.modeRequest 0) = false := by
  decide +kernel

theorem witness_PlaneDurations :
    [3, 0, 5] ≠ [] ∧ [3, 0, 5].sum ≠ 0 ∧ 1 < [3, 0, 5].length ∧ [3, 0, 5].getD 1 0 = 0 ∧ [0, 0].sum = 0 := by
  decide +kernel

end Sys2Proof.Tests
end

section
/-! SUPPORT. That a step keeps the part sound (R24, R305, R567): the effect of every command, by the gate it passes. -/

namespace Sys2Proof.Machine

open Sys2Proof

/-- If the answer is a next state, that state is sound. -/
def AnswersSound (o : Host.Outcome State Fault Refusal) : Prop := ∀ t, o = .next t → t.sound = true

/-! ### What an effect answers, by its gate -/

section

variable {s : State} {f : Chip → Chip} {a : Nat} (hs : s.sound = true)
  (hf : ∀ c : Chip, c.sound = true → (f c).sound = true)

include hs hf

theorem effectAlways_sound : AnswersSound (effectAlways s f) := by
  rintro _ ⟨⟩
  exact hf s.chip hs

theorem effect_sound : AnswersSound (effect s f) :=
  effectAlways_sound hs fun c h => c.sound_ite _ _ h (hf c h)

theorem effect_guardReg_sound : AnswersSound (effect s fun c => c.guardReg a f) :=
  effect_sound hs fun c h => c.guardReg_sound a f h hf

theorem effect_guardReg_if_sound {p : Prop} [Decidable p] :
    AnswersSound (effect s fun c => if p then c.guardReg a f else c) :=
  effect_sound hs fun c h => Chip.sound_ite _ _ _ (c.guardReg_sound a f h hf) h

theorem effect_withUses_sound : AnswersSound (effect s fun c => c.withUses f) :=
  effect_sound hs fun c h => c.withUses_sound f h hf

theorem effect_withUses_guardReg_sound : AnswersSound (effect s fun c => c.withUses fun c => c.guardReg a f) :=
  effect_withUses_sound hs fun c h => c.guardReg_sound a f h hf

theorem effect_withUses_guardReg_if_sound {p : Prop} [Decidable p] :
    AnswersSound (effect s fun c => c.withUses fun c => if p then c.guardReg a f else c) :=
  effect_withUses_sound hs fun c h => Chip.sound_ite _ _ _ (c.guardReg_sound a f h hf) h

end

/-- The cases stand together by the gate that their effect passes; behind it stand operations of which Laws/ says that
each keeps the part sound. -/
theorem exec_sound (i : Instr) (s : State) (hs : s.sound = true) : AnswersSound (exec i s) := by
  cases i with dsimp only [exec]
  -- One operation, or a choice between operations.
  | wakeTrigger | wakeComplete | loadEntered | loadComplete | loadFailExit | pictureModeEntered | holdEntered |
    reflostComplete | wakeFailComplete | i2cStretchTimeout | mfstFetchTimeout | mfstBurstEnd | xinDelayExpire |
    ircTrimXinUpdate | pllLock | pllLockHoldExpire | pllLockLoss | monGateEnd | xinStop | xinGlitch |
    ircActivityFault | fmGateEnd | fmTimeout | backoutDwellExpire | bistPhase1Done | bistPhase2Done | ldrHeaderRead |
    ledgerScan | bodyReadDone | ledgerAppendRequest | ledgerAttemptStart | ledgerBusyClear | ledgerBusyTimeout |
    mcInitResetRelease | mcInitCkeRise | mcInitComplete | sweepDone | portRequest | schedulerIssue |
    requestAgePromote | refreshDue | zqcsDue | weirWindowEnd | alertFall | alertRetryReplay | seedVisitDue |
    scrubVisitDue | pprDone | migCopyLine | migFlipComplete | vinLinkLock | vinLine | vinInputLost |
    vinFrameComplete | bargePad | bargeOsd | bargeLut | bargeFence | bargeUnknown | bargeFenceApply | stripeReady |
    rtxDirectLine | composeLineStart | flattenBuildDone | safeRectCheck | commitWindowClose | lineSubstitute |
    bpsFrameWritten | bpsDisplayStart | bpsPlaneStart | lightCommandEdge | actPosChange | mfbEdge | mfbEdgeMissing |
    bscFaultHoldEnd | bscControlRecord | bscSweepStart | bscDisplayStart | bscFrameWritten | pinSelftestDone |
    twpPeriodTrigger | twpFrameStart | twpFrameEnd | twpReturnTimeout | twpLocateReply | twpLocateListenTimeout |
    tmr0Period | mxSync | lkInAssert | lkInRelease | thermSample | logRecord | calSecond | counterClear |
    registerWrite | basinUrgency | shuntPwmEdge =>
    refine effect_sound hs fun c h => ?_
    simp [h]
  -- A write that reaches its register.
  | tbIncWrite | tbIrcIncWrite | tbSnap | pllOffRequest | pllvFracWrite | monEvtClear | pdreqWrite | ledgerIdxWrite |
    otpArm | mapGo | bargeSeqReset | csiShareWrite | flipArm | flipCancel | stuckMapAdd | stuckMapClear |
    ltdFaultClear | loopReset | twpGo | tmr0Write | latchClear | lkkArm | hostKill | safeForce | logClear |
    logIdxWrite | logHostMarker | calSet | alarmSet | calTrimWrite | gpioWrite =>
    refine effect_guardReg_sound hs fun c h => ?_
    simp [h]
  -- A write of a register of one of several units.
  | arithSatClear | fmStart | sweepGo | weirIdxWrite | pprGo | migStart | migAbort | errFirstClear | snapIdxWrite |
    csiVcEnable | rtxStreamEnable | cmpFenceWrite | cmpLayerWrite | tableRamWrite | soSnap | mxZoneBackWrite |
    lampHoursWrite =>
    refine effect_guardReg_if_sound hs fun c h => ?_
    simp [h]
  -- A command that begins a use of a clock domain (R168).
  | mfstFetchDone | ltdCommit | sluiceExitComplete =>
    refine effect_withUses_sound hs fun c h => ?_
    simp [h]
  | movCopy | movFill | movConvert =>
    refine effect_withUses_guardReg_sound hs fun c h => ?_
    simp [h]
  | mcInitGo | soCommitGo | patRun | patRestart =>
    refine effect_withUses_guardReg_if_sound hs fun c h => ?_
    simp [h]
  | fhostRead | fhostProgram | fhostErase4k | fhostReadId | fhostReadStatus =>
    refine effect_guardReg_sound hs fun c h => c.withUses_sound _ h fun c h => ?_
    simp [h]
  -- A write of a top-level register.
  | crcEnWrite | whEvtClear | whErrClear | mfstGo | mfstAbort =>
    refine effect_sound hs fun c h => c.hostTop_sound _ h fun c h => ?_
    simp [h]
  -- An access through the indirect window.
  | iaddrWrite | idataHiRead | idataHiWrite | idataLoWrite =>
    refine effect_sound hs fun c h => c.window_sound _ h fun c h => ?_
    simp [h]
  -- A command of the TAP, and power-on reset: not held back by power-on reset.
  | porAssert | porRelease =>
    refine effectAlways_sound hs fun c h => ?_
    simp [h]
  | tapReset | tapIdcode | tapCsrRequest =>
    refine effectAlways_sound hs fun c h => c.atTap_sound _ h fun c h => ?_
    simp [h]
  | tapBypass =>
    refine effectAlways_sound hs fun c h => c.atTap_sound _ h fun c h => Chip.sound_ite _ _ _ h ?_
    simp [h]
  -- A camera packet, behind its header.
  | csiFrameStart | csiFrameEnd | csiImageLine =>
    refine effect_sound hs fun c h => Chip.sound_ite _ _ _ (c.header_sound _ _ h fun c h => ?_) h
    simp [h]
  | csiEmbeddedData | csiGenericShort =>
    refine effect_sound hs fun c h => Chip.sound_ite _ _ _ h (c.header_sound _ _ h fun c h => ?_)
    simp [h]
  -- A mode request or an unlock, which in DEEP_SLEEP is a wake trigger.
  | modeRequest | wakeUnlock =>
    refine effect_sound hs fun c h =>
      Chip.sound_ite _ _ _ (c.wakeTrigger_sound _ h) (c.ifDrained_sound _ h fun c h => ?_)
    simp [h]
  -- A transaction of the Wharf.
  | wharfWriteTransaction | wharfReadTransaction =>
    refine effect_sound hs fun c h => Chip.sound_ite _ _ _ h (c.transaction_sound _ _ _ h fun c h => ?_)
    simp [h]
  -- A change of the Lockkeeper's sources.
  | eventSourceExpire | pinCheckMismatch =>
    refine effect_sound hs fun c h => Chip.sound_ite _ _ _ (Chip.withSafe_sound _ _ ?_ fun c h => ?_) h <;> simp [h]
  -- A use that begins at an input frame, a packet or a boundary.
  | vinFrameStart | bargeManifest =>
    refine effect_sound hs fun c h => Chip.sound_ite _ _ _ (c.withUses_sound _ h fun c h => ?_) h
    simp [h]
  | frameBoundary =>
    exact effect_sound hs fun c h => Chip.sound_ite _ _ _ (c.withUses_sound _ h fun c h => c.boundaryA_sound _ h)
      (Chip.sound_ite _ _ _ (c.withUses_sound _ h Chip.boundaryB_sound) h)
  | twpBusSelectWrite =>
    refine effect_withUses_sound hs fun c h => ?_
    split
    · exact c.guardReg_sound _ _ h fun c h => c.mxCtlWrite_sound _ _ h
    · exact c.guardReg_sound _ _ h fun c h => c.twpCtlWrite_sound _ _ h
  | flattenBuildStart =>
    refine effect_withUses_sound hs fun c h => Chip.sound_ite _ _ _ ?_ h
    simp (maxDischargeDepth := 8) [h]
  | ckgDomWrite =>
    refine effect_guardReg_if_sound hs fun c h => ?_
    simp (maxDischargeDepth := 8) [h]
  -- Every domain that ramps, every PLL.
  | dividerRampStep => exact effect_sound hs fun c h => Chip.foldl_sound _ _ c h fun c n h => c.setDiv_sound _ _ h
  | refHoldoverEnd =>
    exact effect_sound hs fun c h => Chip.sound_ite _ _ _ (Chip.foldl_sound _ _ c h Chip.stopPll_sound) h
  -- A choice, by a condition or by what is waiting, between runs of operations; below it, one with local values.
  | prefetchComplete | internalWriteComplete | apertureComplete | limpExit | standbyEntered | calibrateEntered |
    calibrateExited | sleepComplete | domainSwitchComplete | regStepFixedExpire | pllLockTimeout |
    regStepComplete | regStepTimeout | sluiceEntryStart | ispFrameEnd | ispOutputFrameDone | rtxFrameSent |
    twpReturnRun | mxRowOnEnd | lampSecond | litSecond | sectionRead | ledgerReadbackDone | fhostCmdDone |
    readDataReturn | sluiceSrEntered | freezeSrEntered | scrubReadReturn | rtxFrameSendStart | movJobDone |
    soCrcCheck | bpsResetStrobe | shfFault | mxZoneFrameEnd | tapCsrComplete =>
    refine effect_sound hs fun c h => ?_
    repeat' split
    all_goals simp (maxDischargeDepth := 8) [h]
  | pgLost | fhostTimeout | sluiceExitStart | vinLinkLoss | proxStaleTimeout | mifBlockLoadDone |
    bscPixelBoundary | adcSample =>
    refine effect_sound hs fun c h => ?_
    dsimp only
    repeat' split
    all_goals simp (maxDischargeDepth := 8) [h]

theorem State.idle_sound (s : State) (hs : s.sound = true) : s.idle.sound = true := by
  unfold State.idle
  split
  · exact hs
  · exact s.chip.tbTick_sound hs

theorem step_sound (s : State) (hs : s.sound = true) : AnswersSound (step s) := by
  unfold step
  split
  · rintro _ ⟨⟩
    exact s.idle_sound hs
  · exact exec_sound _ _ hs

/-- Settles O57: a step is an idle step or the front command's effect, and neither leaves the canonical form. -/
theorem everyStepKeepsSound : Obligations.EveryStepKeepsSound := by
  unfold Obligations.EveryStepKeepsSound
  exact fun s t hs h => step_sound s hs t h

/-! ### The part after reset -/

theorem Chip.pdOn_reset (n : Nat) : Chip.reset.pdOn n = decide (n < 2) := by
  match n with
  | 0 => rfl
  | 1 => rfl
  | n + 2 =>
    have off : Chip.reset.pdState (n + 2) = .off := List.getElem?_getD_replicate_default_eq _ 50 n
    simp [Chip.pdOn, off]

/-- Settles O56: no register and no store holds an entry after reset, and the rest is read off the reset part. -/
theorem resetState : Obligations.ResetState := by
  unfold Obligations.ResetState
  exact ⟨rfl, rfl, rfl, rfl, fun _ => ⟨rfl, rfl⟩, rfl, rfl, rfl, rfl, rfl, rfl, rfl, rfl, Chip.pdOn_reset, rfl, rfl⟩

end Sys2Proof.Machine
end

section
/-! SUPPORT. That the mode changes at power-on reset and at the ends of edges only (Table 1.4, R40): the laws of the
operations that the model's own laws leave out, and what every other command answers. -/

namespace Sys2Proof.Machine

open Sys2Proof

/-! ### Operations that enter no mode -/

/-- A write of a top-level register enters no mode, WH_MODE_REQ included: it only begins an edge (R39). -/
theorem Chip.topWrite_seat (c : Chip) (t : Nat) (v : Half) (d : Chip) (hd : c.topWrite t v = some d) :
    d.seat = c.seat := by
  unfold Chip.topWrite at hd
  split at hd
  case h_19 => split at hd <;> simp_all
  all_goals
    simp only [Option.some.injEq] at hd
    subst hd
    simp

@[simp] theorem Chip.writeWord_seat (c : Chip) (a : Nat) (v : Half) : (c.writeWord a v).seat = c.seat := by
  unfold Chip.writeWord
  split
  · simp
  · split
    next c1 hw => exact c.topWrite_seat a v c1 hw
    · simp

@[simp] theorem Chip.writeTransaction_seat (c : Chip) (bytes : List Byte) :
    (c.writeTransaction bytes).seat = c.seat := by
  unfold Chip.writeTransaction
  extract_lets crc n status c0 as c1
  have h0 : c0.seat = c.seat := by simp only [c0]; (repeat' split) <;> simp
  have h1 : c1.seat = c.seat := (Chip.foldl_seat _ _ _ fun c x => c.writeWord_seat _ _).trans h0
  clear_value c0 c1
  (repeat' split) <;> simp [h0, h1]

@[simp] theorem ReadRun.zero_seat (r : ReadRun) (e : Option Nat) : (r.zero e).chip.seat = r.chip.seat := by
  unfold ReadRun.zero; cases e <;> simp

@[simp] theorem ReadRun.high_seat (r : ReadRun) : r.high.chip.seat = r.chip.seat := by
  unfold ReadRun.high
  extract_lets w q stretched early
  have hw : w.chip.seat = r.chip.seat := r.wait_seat
  clear_value w
  (repeat' split) <;> simp [q, stretched, early, hw]

@[simp] theorem ReadRun.word_seat (r : ReadRun) (a : Nat) : (r.word a).chip.seat = r.chip.seat := by
  unfold ReadRun.word
  (repeat' split) <;> simp

@[simp] theorem ReadRun.foldl_word_seat (as : List Nat) (r : ReadRun) :
    (as.foldl ReadRun.word r).chip.seat = r.chip.seat := by
  induction as generalizing r with
  | nil => rfl
  | cons a t ih => rw [List.foldl_cons, ih, r.word_seat]

@[simp] theorem Chip.serve_seat (c : Chip) (as : List Nat) (n : Nat) : (c.serve as n).chip.seat = c.seat := by
  unfold Chip.serve; split <;> simp

@[simp] theorem Chip.readTransaction_seat (c : Chip) (bytes : List Byte) (begun prefetches : Nat) :
    (c.readTransaction bytes begun prefetches).seat = c.seat := by
  simp [Chip.readTransaction]

@[simp] theorem Chip.stretchTimeout_seat (c : Chip) (bytes : List Byte) (served : Nat) :
    (c.stretchTimeout bytes served).seat = c.seat := by
  simp [Chip.stretchTimeout]

@[simp] theorem Chip.registerWrite_seat (c : Chip) (a : Nat) (v mask : Word) :
    (c.registerWrite a v mask).seat = c.seat := by
  simp [Chip.registerWrite]

theorem Chip.placeSection_seat (c : Chip) (s : Section) (bs : List Byte) (d : Chip)
    (hd : c.placeSection s bs = some d) : d.seat = c.seat := by
  unfold Chip.placeSection at hd
  (repeat' split at hd) <;> simp at hd <;> subst hd <;> simp

@[simp] theorem Chip.sectionRead_seat (c : Chip) (s : Section) : (c.sectionRead s).seat = c.seat := by
  unfold Chip.sectionRead
  extract_lets bs
  split
  · simp
  next c1 hp =>
    have h1 := c.placeSection_seat s bs c1 hp
    (repeat' split) <;> simp [h1]

/-! ### The XIN checks, which in STANDBY write CAUSE (R201) -/

theorem Chip.mode_of_seat {c d : Chip} (h : d.seat = c.seat) : d.mode.mode = c.mode.mode := congrArg Prod.fst h

theorem Chip.standbyFault_mode (c : Chip) (cause since : Nat) :
    (c.standbyFault cause since).mode.mode = c.mode.mode := by
  unfold Chip.standbyFault
  extract_lets c1 c2
  split
  · exact Chip.mode_of_seat (c.monFault_seat cause)
  · exact Chip.mode_of_seat (d := c2) (by simp [c2, c1])

theorem Chip.xinFault_mode (c : Chip) (cause since : Nat) : (c.xinFault cause since).mode.mode = c.mode.mode := by
  unfold Chip.xinFault
  extract_lets c1
  have h1 : c1.seat = c.seat := by simp [c1]
  split
  · exact Chip.mode_of_seat (by simp [h1])
  · split
    · exact (c1.standbyFault_mode cause since).trans (Chip.mode_of_seat h1)
    · exact Chip.mode_of_seat (by simp [h1])

theorem Chip.xinGlitch_mode (c : Chip) (since : Nat) : (c.xinGlitch since).mode.mode = c.mode.mode := by
  unfold Chip.xinGlitch
  extract_lets c1
  have h1 : c1.seat = c.seat := by simp [c1]
  split
  · rfl
  · split
    · exact (c1.xinFault_mode 2 since).trans (Chip.mode_of_seat h1)
    · exact Chip.mode_of_seat h1

theorem Chip.gateXin_mode (c : Chip) (edges since : Nat) : (c.gateXin edges since).mode.mode = c.mode.mode := by
  unfold Chip.gateXin
  split
  · rfl
  · split
    · exact Chip.mode_of_seat (by simp)
    · exact c.xinFault_mode 3 since

theorem Chip.monGate_mode (c : Chip) (edges : Nat) (rates : List Nat) (since : Nat) :
    (c.monGate edges rates since).mode.mode = c.mode.mode := by
  have h : (c.monGate edges rates since).seat = (c.gateXin edges since).seat := by simp [Chip.monGate]
  exact (Chip.mode_of_seat h).trans (c.gateXin_mode edges since)

/-! ### What a command answers -/

/-- The command answers a next state in which `g` of the part is as it was. -/
def Answers {α : Type} (g : Chip → α) (s : State) (o : Host.Outcome State Fault Refusal) : Prop :=
  ∃ d, o = .next { s with chip := d } ∧ g d = g s.chip

theorem effectAlways_answers {α : Type} {g : Chip → α} {s : State} {f : Chip → Chip}
    (hf : ∀ c : Chip, g (f c) = g c) : Answers g s (effectAlways s f) :=
  ⟨f s.chip, rfl, hf s.chip⟩

theorem effect_answers {α : Type} {g : Chip → α} {s : State} {f : Chip → Chip} (hf : ∀ c : Chip, g (f c) = g c) :
    Answers g s (effect s f) :=
  effectAlways_answers fun c => by
    split
    · rfl
    · exact hf c

/-- The commands stand together by what their effect is made of; every gate and every operation of a command that
neither ends an edge nor is an XIN check leaves the mode and its cause. -/
theorem exec_seat (i : Instr) (s : State) (he : mayEnter i = false) (hl : mayLimp i = false) :
    Answers Chip.seat s (exec i s) := by
  cases i with dsimp only [exec]
  -- The commands that may enter a mode, and those that may write CAUSE.
  | porAssert | porRelease | pictureModeEntered | standbyEntered | calibrateEntered | calibrateExited | holdEntered |
    reflostComplete | sleepComplete | wakeFailComplete | wakeComplete | loadEntered | loadFailExit => cases he
  | xinStop | xinGlitch | monGateEnd => cases hl
  -- A command of the TAP: not held back by power-on reset.
  | tapReset | tapIdcode | tapCsrRequest | tapBypass =>
    refine effectAlways_answers fun c => ?_
    simp
  -- A choice by what is waiting.
  | mifBlockLoadDone =>
    refine effect_answers fun c => ?_
    dsimp only
    (repeat' split) <;> simp
  | apertureComplete | sectionRead | readDataReturn | scrubReadReturn | soCrcCheck | twpReturnRun | prefetchComplete |
    internalWriteComplete | domainSwitchComplete | regStepComplete | regStepFixedExpire | regStepTimeout |
    ledgerReadbackDone | ispFrameEnd | ispOutputFrameDone | rtxFrameSendStart | rtxFrameSent | movJobDone |
    bpsResetStrobe | mxRowOnEnd =>
    refine effect_answers fun c => ?_
    (repeat' split) <;> simp
  -- Operations behind a gate, or a choice between them by a condition.
  | _ =>
    refine effect_answers fun c => ?_
    simp

/-- The XIN checks leave the mode; those of STANDBY write its CAUSE (R201). -/
theorem exec_mode_of_mayLimp (i : Instr) (s : State) (hl : mayLimp i = true) :
    Answers (fun c => c.mode.mode) s (exec i s) := by
  cases i with dsimp only [exec]
  | xinStop =>
    refine effect_answers fun c => ?_
    split
    · exact c.xinFault_mode 1 24
    · rfl
  | xinGlitch since => exact effect_answers fun c => c.xinGlitch_mode since
  | monGateEnd edges rates since => exact effect_answers fun c => c.monGate_mode edges rates since
  | _ => cases hl

/-- Settles O59: an XIN check leaves the mode, and every other command that ends no edge the mode and its cause. -/
theorem onlyEdgesChangeTheMode : Obligations.OnlyEdgesChangeTheMode := by
  unfold Obligations.OnlyEdgesChangeTheMode
  intro i s he
  cases hl : mayLimp i with
  | true =>
    obtain ⟨d, hd, hm⟩ := exec_mode_of_mayLimp i s hl
    exact ⟨d, hd, hm, fun h => absurd h (by simp)⟩
  | false =>
    obtain ⟨d, hd, hs⟩ := exec_seat i s he hl
    exact ⟨d, hd, congrArg Prod.fst hs, fun _ => congrArg Prod.snd hs⟩

end Sys2Proof.Machine
end

section
/-! SUPPORT. A write of WH_MODE_REQ (R39-R55), by what the mode machine answers with no edge in progress: one equation
for each way a well formed request ends. -/

namespace Sys2Proof.Machine

open Sys2Proof

/-! ### The gate of the command -/

theorem State.effect_of_runs {s : State} (hs : s.runs) (f : Chip → Chip) :
    effect s f = .next { s with chip := f s.chip } := by
  unfold State.runs at hs
  simp [effect, effectAlways, hs]

/-- Out of DEEP_SLEEP and with no write draining, the request is judged (R43, R133). -/
theorem exec_modeRequest {s : State} (w : Half) (hs : s.runs) (hm : s.chip.mode.mode ≠ .deepSleep)
    (hd : s.chip.wh.drain = []) :
    exec (.modeRequest w) s = .next { s with chip := s.chip.modeRequest w } := by
  simp [exec, execModeRequest, State.effect_of_runs hs, hm, Chip.ifDrained, hd]

/-! ### How a request ends -/

/-- The part with the request written (Table 1.6), before it is judged. -/
def Chip.requested (c : Chip) (w : Half) : Chip := c.onMode fun x => { x with req := w &&& 0xFF7F#16 }

/-- MOOR with a mode that has no Mooring (Table 1.8). -/
def badMoor (w : Half) (t : Mode) : Bool := reqMoor w && t != .mirror && t != .panel

section

variable {c : Chip} {w : Half} {t : Mode} (he : c.mode.edge = none) (ht : modeOfCode (reqTarget w) = some t)
  (hb : badMoor w t = false)

include he ht hb

/-- A request for the current mode completes at once, or begins a Mooring change (R40). -/
theorem Chip.modeRequest_of_same (hm : t = c.mode.mode) :
    c.modeRequest w = if (t == .mirror || t == .panel) && reqMoor w != c.mode.moored then (c.requested w).moorEdge w
      else (c.requested w).sameMode w := by
  unfold badMoor at hb
  unfold Chip.modeRequest
  simp only [he, ht, Option.isSome_none, hb, if_pos hm, Bool.false_eq_true, if_false]
  rfl

/-- A request for another mode is refused with the reason that the check finds. -/
theorem Chip.modeRequest_of_modeCheck (hm : t ≠ c.mode.mode) {code : Nat} (hc : c.modeCheck t w = code)
    (h0 : code ≠ 0) : c.modeRequest w = c.requestRefused w code := by
  unfold badMoor at hb
  unfold Chip.modeRequest
  simp only [he, ht, Option.isSome_none, hb, if_neg hm, Bool.false_eq_true, if_false, hc, if_pos h0]
  rfl

/-- A request for another mode that the check lets pass begins the edge of Table 1.4. -/
theorem Chip.modeRequest_of_edgeTo (hm : t ≠ c.mode.mode) (hc : c.modeCheck t w = 0) {e : Edge}
    (hE : c.edgeTo t w = some e) : c.modeRequest w = (c.requested w).takeEdge e t w := by
  unfold badMoor at hb
  unfold Chip.modeRequest
  simp only [he, ht, Option.isSome_none, hb, if_neg hm, Bool.false_eq_true, if_false, hc, hE, ne_eq, not_true_eq_false]
  rfl

end

end Sys2Proof.Machine
end

section
/-! SUPPORT. What the switches, clocks and blocks that follow a mode leave alone: the mode machine, the flash, whether
the sequence of Table 4.6 runs, and, but for a domain that goes OFF, the phase of a LOAD and the lock events. One law
per operation, in the order of the model's files; an operation that enters a mode or begins an edge is then described by
what it does to these (Table 1.4). -/

namespace Sys2Proof.Machine

open Sys2Proof

/-- What a mode edge carries from its request to its end: the mode machine but for what Mooring waits for, which a
release of the SAFE show output can change on the way (R589); the flash; whether the sequence of Table 4.6 runs; and
what is looked at of the phase of a LOAD and the lock events. -/
structure Course (α : Type) where
  mode : ModeMachine
  flash : List Host.Cell
  reflost : Bool
  loaded : α

/-- The course of the part, with a view `g` of the phase of a LOAD and the lock events. -/
def Chip.course {α : Type} (c : Chip) (g : LoadPhase × Locks → α) : Course α :=
  ⟨{ c.mode with moorPhase := .none }, c.flash, c.ck.reflost, g (c.ld.phase, c.locks)⟩

/-- The course with the phase of a LOAD and the lock events out of view. -/
abbrev Bearing : Type := Course Unit

/-- What of its course the part keeps even when domains go OFF. -/
abbrev Chip.bearing (c : Chip) : Bearing := c.course fun _ => ()

section

variable {α : Type} {g : LoadPhase × Locks → α}

@[simp] theorem Chip.course_ite (p : Prop) [Decidable p] (a b : Chip) :
    (if p then a else b).course g = if p then a.course g else b.course g :=
  apply_ite (Chip.course · g) p a b

@[simp] theorem Chip.foldl_course {β : Type} (f : Chip → β → Chip) (l : List β) (c : Chip)
    (hf : ∀ (c : Chip) (x : β), (f c x).course g = c.course g) : (l.foldl f c).course g = c.course g := by
  induction l generalizing c with
  | nil => rfl
  | cons x t ih => rw [List.foldl_cons, ih, hf]


/-! ### Machine/Flags.lean -/

@[simp] theorem Chip.setReg_course (c : Chip) (a : Nat) (w : Word) : (c.setReg a w).course g = c.course g := (rfl)

@[simp] theorem Chip.wr_course (c : Chip) (f : Field) (v : Nat) : (c.wr f v).course g = c.course g := (rfl)

@[simp] theorem Chip.bump_course (c : Chip) (f : Field) (k : Nat) : (c.bump f k).course g = c.course g := (rfl)

@[simp] theorem Chip.setBit_course (c : Chip) (f : Field) (n : Nat) (b : Bool) :
    (c.setBit f n b).course g = c.course g := (rfl)

@[simp] theorem Chip.evt_course (c : Chip) (n : Nat) : (c.evt n).course g = c.course g := (rfl)

@[simp] theorem Chip.takeFree_course (c : Chip) : c.takeFree.course g = c.course g := (rfl)

/-! ### Machine/Dram.lean -/

@[simp] theorem Chip.onMc_course (c : Chip) (ch : Nat) (f : Channel → Channel) :
    (c.onMc ch f).course g = c.course g := by
  unfold Chip.onMc; split <;> rfl

@[simp] theorem Chip.writePhys_course (c : Chip) (l : Loc) (w : Nat) : (c.writePhys l w).course g = c.course g := (rfl)

@[simp] theorem Chip.writeLoc_course (c : Chip) (l : Loc) (w : Nat) : (c.writeLoc l w).course g = c.course g := by
  simp [Chip.writeLoc]

@[simp] theorem Chip.writeSys_course (c : Chip) (a w : Nat) : (c.writeSys a w).course g = c.course g := by
  unfold Chip.writeSys; split <;> simp

@[simp] theorem Chip.performWrite_course (c : Chip) (e : WriteEntry) : (c.performWrite e).course g = c.course g := by
  simp [Chip.performWrite]

@[simp] theorem Chip.dramLost_course (c : Chip) (ch : Nat) : (c.dramLost ch).course g = c.course g := (rfl)

/-! ### Machine/Bus.lean -/

@[simp] theorem Chip.onMcx_course (c : Chip) (f : MemShared → MemShared) : (c.onMcx f).course g = c.course g := (rfl)

@[simp] theorem Chip.deliverAll_course (c : Chip) (ds : List Delivery) :
    (c.deliverAll ds).course g = c.course g := (rfl)

@[simp] theorem Chip.bumpLines_course (c : Chip) (p : Nat) : (c.bumpLines p).course g = c.course g := (rfl)

@[simp] theorem Chip.dramCmd_course (c : Chip) (ch : Nat) (x : DramCmd) : (c.dramCmd ch x).course g = c.course g := by
  simp [Chip.dramCmd]

@[simp] theorem Chip.allRanks_course (c : Chip) (ch code bank arg : Nat) :
    (c.allRanks ch code bank arg).course g = c.course g := by
  simp [Chip.allRanks]

@[simp] theorem Chip.onBank_course (c : Chip) (ch rank bank : Nat) (f : BankState → BankState) :
    (c.onBank ch rank bank f).course g = c.course g := by
  simp [Chip.onBank]

@[simp] theorem Chip.queueNr_course (c : Chip) (ch rank bank row : Nat) :
    (c.queueNr ch rank bank row).course g = c.course g := by
  simp [Chip.queueNr]

@[simp] theorem Chip.weirAct_course (c : Chip) (ch rank bank row : Nat) :
    (c.weirAct ch rank bank row).course g = c.course g := by
  simp [Chip.weirAct]

@[simp] theorem Chip.releaseHeld_course (c : Chip) (ch : Nat) : (c.releaseHeld ch).course g = c.course g := by
  unfold Chip.releaseHeld; split <;> simp

@[simp] theorem Chip.issueAct_course (c : Chip) (ch rank bank row : Nat) (nr : Bool) :
    (c.issueAct ch rank bank row nr).course g = c.course g := by
  simp [Chip.issueAct]

@[simp] theorem Chip.issuePre_course (c : Chip) (ch rank bank : Nat) :
    (c.issuePre ch rank bank).course g = c.course g := by
  unfold Chip.issuePre; split <;> simp

@[simp] theorem Chip.performNr_course (c : Chip) (ch : Nat) (n : NeighbourRefresh) :
    (c.performNr ch n).course g = c.course g := by
  simp [Chip.performNr]

@[simp] theorem Chip.drainNr_course (c : Chip) (ch : Nat) : (c.drainNr ch).course g = c.course g := by
  simp [Chip.drainNr]

@[simp] theorem Chip.preAll_course (c : Chip) (ch : Nat) : (c.preAll ch).course g = c.course g := by
  simp [Chip.preAll]

@[simp] theorem Chip.floorCount_course (c : Chip) (ch : Nat) (class3 : Bool) :
    (c.floorCount ch class3).course g = c.course g := by
  simp [Chip.floorCount]

@[simp] theorem Chip.issueLine_course (c : Chip) (l : Loc) (write : Bool) (line : Nat) (mask : List Bool)
    (port : Nat) :
    (c.issueLine l write line mask port).course g = c.course g := by
  simp [Chip.issueLine]

@[simp] theorem Chip.openRow_course (c : Chip) (l : Loc) : (c.openRow l).course g = c.course g := by
  simp [Chip.openRow]

@[simp] theorem Chip.busLine_course (c : Chip) (l : Loc) (write : Bool) (line : Nat) (mask : List Bool)
    (port : Nat) :
    (c.busLine l write line mask port).course g = c.course g := by
  simp [Chip.busLine]

@[simp] theorem Chip.writeCheck_course (c : Chip) (ch : Nat) (e : CheckLine) :
    (c.writeCheck ch e).course g = c.course g := by
  simp [Chip.writeCheck]

@[simp] theorem Chip.cacheRoom_course (c : Chip) (ch : Nat) (k : Loc) (dirty : Bool) :
    (c.cacheRoom ch k dirty).course g = c.course g := by
  simp only [Chip.cacheRoom]; (repeat' split) <;> simp

@[simp] theorem Chip.cacheUse_course (c : Chip) (ch : Nat) (k : Loc) (dirty : Bool) :
    (c.cacheUse ch k dirty).course g = c.course g := by
  simp [Chip.cacheUse]

@[simp] theorem Chip.flushCache_course (c : Chip) (ch : Nat) : (c.flushCache ch).course g = c.course g := by
  simp [Chip.flushCache]

@[simp] theorem Chip.lineAccess_course (c : Chip) (l : Loc) (write : Bool) (line : Nat) (mask : List Bool)
    (port : Nat) :
    (c.lineAccess l write line mask port).course g = c.course g := by
  simp [Chip.lineAccess]

@[simp] theorem Chip.serveWrite_course (c : Chip) (e : WriteEntry) : (c.serveWrite e).course g = c.course g := by
  unfold Chip.serveWrite; split <;> simp

@[simp] theorem Chip.drainWrites_course (c : Chip) (ch : Nat) : (c.drainWrites ch).course g = c.course g := by
  simp [Chip.drainWrites]

@[simp] theorem Chip.abandonReads_course (c : Chip) (ch : Nat) : (c.abandonReads ch).course g = c.course g := by
  simp [Chip.abandonReads]

@[simp] theorem Chip.abandonInflight_course (c : Chip) (ch : Nat) : (c.abandonInflight ch).course g = c.course g := by
  simp [Chip.abandonInflight]

@[simp] theorem Chip.enterSr_course (c : Chip) (ch extra : Nat) : (c.enterSr ch extra).course g = c.course g := by
  simp [Chip.enterSr]

/-! ### Machine/Ops.lean -/

@[simp] theorem Chip.clearRegs_course (c : Chip) (rs : List (Nat × Nat)) : (c.clearRegs rs).course g = c.course g := by
  exact Chip.foldl_course _ _ _ fun _ _ => rfl

@[simp] theorem Chip.onLk_course (c : Chip) (f : Lockkeeper → Lockkeeper) : (c.onLk f).course g = c.course g := (rfl)

@[simp] theorem Chip.takeSeq_course (c : Chip) : c.takeSeq.course g = c.course g := (rfl)

@[simp] theorem Chip.putSlot_course (c : Chip) (r : LogRec) (lostBefore : Bool) :
    (c.putSlot r lostBefore).course g = c.course g := (rfl)

@[simp] theorem Chip.storeRec_course (c : Chip) (r : LogRec) : (c.storeRec r).course g = c.course g := by
  simp [Chip.storeRec]

@[simp] theorem Chip.lkRecord_course (c : Chip) (type flags unit data : Nat) :
    (c.lkRecord type flags unit data).course g = c.course g := by
  simp [Chip.lkRecord]

@[simp] theorem Chip.logRecord_course (c : Chip) (type flags unit data : Nat) :
    (c.logRecord type flags unit data).course g = c.course g := by
  simp [Chip.logRecord]

@[simp] theorem Chip.srcActivate_course (c : Chip) (n data : Nat) : (c.srcActivate n data).course g = c.course g := by
  simp [Chip.srcActivate]

@[simp] theorem Chip.srcAssert_course (c : Chip) (n data : Nat) : (c.srcAssert n data).course g = c.course g := by
  simp [Chip.srcAssert]

@[simp] theorem Chip.srcDeactivate_course (c : Chip) (n : Nat) : (c.srcDeactivate n).course g = c.course g := by
  simp [Chip.srcDeactivate]

@[simp] theorem Chip.srcRelease_course (c : Chip) (n : Nat) : (c.srcRelease n).course g = c.course g := by
  simp [Chip.srcRelease]

@[simp] theorem Chip.onLd_course (c : Chip) (f : Loader → Loader) (h : (f c.ld).phase = c.ld.phase) :
    (c.onLd f).course g = c.course g := by
  simp [Chip.course, h]

@[simp] theorem Chip.onLd_bearing (c : Chip) (f : Loader → Loader) : (c.onLd f).bearing = c.bearing := (rfl)

@[simp] theorem Chip.onCk_course (c : Chip) (f : Clocks → Clocks) (h : (f c.ck).reflost = c.ck.reflost) :
    (c.onCk f).course g = c.course g := by
  simp [Chip.course, h]

@[simp] theorem Chip.onPll_course (c : Chip) (p : Nat) (f : Pll → Pll) : (c.onPll p f).course g = c.course g := (rfl)

@[simp] theorem Chip.setDiv_course (c : Chip) (n d : Nat) : (c.setDiv n d).course g = c.course g := (rfl)

@[simp] theorem Chip.startPll_course (c : Chip) (p : Nat) : (c.startPll p).course g = c.course g := by
  simp [Chip.startPll]

@[simp] theorem Chip.stopPll_course (c : Chip) (p : Nat) : (c.stopPll p).course g = c.course g := by
  simp [Chip.stopPll]

@[simp] theorem Chip.edgeClocks_course (c : Chip) (m : Mode) : (c.edgeClocks m).course g = c.course g := by
  simp [Chip.edgeClocks]

@[simp] theorem Chip.stopOthers_course (c : Chip) (m : Mode) : (c.stopOthers m).course g = c.course g := by
  simp [Chip.stopOthers]

@[simp] theorem Chip.sleepChannel_course (c : Chip) (drain : Bool) (state ch : Nat) :
    (c.sleepChannel drain state ch).course g = c.course g := by
  simp [Chip.sleepChannel]

@[simp] theorem Chip.exitCommit_course (c : Chip) (ch : Nat) : (c.exitCommit ch).course g = c.course g := (rfl)

@[simp] theorem Chip.wakeChannel_course (c : Chip) (ch : Nat) : (c.wakeChannel ch).course g = c.course g := by
  simp [Chip.wakeChannel]

@[simp] theorem Chip.resetDram_course (c : Chip) (ch : Nat) : (c.resetDram ch).course g = c.course g := by
  simp [Chip.resetDram]

@[simp] theorem Chip.standbyDram_course (c : Chip) (ch : Nat) : (c.standbyDram ch).course g = c.course g := by
  simp [Chip.standbyDram]

@[simp] theorem Chip.setPdreq_course (c : Chip) (d : Nat) (b : Bool) : (c.setPdreq d b).course g = c.course g := by
  simp [Chip.setPdreq]

@[simp] theorem Chip.onPw_course (c : Chip) (f : Power → Power) : (c.onPw f).course g = c.course g := (rfl)

@[simp] theorem Chip.pdPlan_course (c : Chip) : c.pdPlan.course g = c.course g := by
  simp [Chip.pdPlan]

@[simp] theorem Chip.edgePdreq_course (c : Chip) (m : Mode) : (c.edgePdreq m).course g = c.course g := by
  simp [Chip.edgePdreq]

@[simp] theorem Chip.ledgerToLog_course (c : Chip) (r : LedgerReq) (why : Nat) :
    (c.ledgerToLog r why).course g = c.course g := by
  simp [Chip.ledgerToLog]

@[simp] theorem Chip.ledgerFail_course (c : Chip) (r : LedgerReq) (why : Nat) :
    (c.ledgerFail r why).course g = c.course g := by
  simp [Chip.ledgerFail]

@[simp] theorem Chip.domEnable_course (c : Chip) (n : Nat) : (c.domEnable n).course g = c.course g := (rfl)

@[simp] theorem Chip.ledgerFlush_course (c : Chip) : c.ledgerFlush.course g = c.course g := by
  simp [Chip.ledgerFlush]

@[simp] theorem Chip.onMode_moorPhase_course (c : Chip) (p : MoorPhase) :
    (c.onMode fun m => { m with moorPhase := p }).course g = c.course g := rfl

@[simp] theorem Chip.takeSeqCfg_course (c : Chip) : c.takeSeqCfg.course g = c.course g := (rfl)

@[simp] theorem Chip.edgeDram_course (c : Chip) (e : Edge) (m : Mode) : (c.edgeDram e m).course g = c.course g := by
  simp [Chip.edgeDram]

@[simp] theorem Chip.startPlls_course (c : Chip) (m : Mode) : (c.startPlls m).course g = c.course g := by
  simp [Chip.startPlls]

@[simp] theorem Chip.edgePlls_course (c : Chip) : c.edgePlls.course g = c.course g := by
  simp [Chip.edgePlls]

/-! ### Machine/Edges.lean -/

@[simp] theorem Chip.clearHidden_bearing (c : Chip) (d : Nat) : (c.clearHidden d).bearing = c.bearing := by
  unfold Chip.clearHidden; split <;> rfl

@[simp] theorem Chip.applySwitch_bearing (c : Chip) (x : Nat × PdState) : (c.applySwitch x).bearing = c.bearing := by
  simp [Chip.applySwitch]

/-- A domain that comes up loses nothing. -/
@[simp] theorem Chip.applySwitch_on_course (c : Chip) (d : Nat) : (c.applySwitch (d, .on)).course g = c.course g := by
  simp [Chip.applySwitch]

@[simp] theorem Chip.exitCause_course (c : Chip) (ch cause : Nat) : (c.exitCause ch cause).course g = c.course g := by
  simp [Chip.exitCause]

@[simp] theorem Chip.wakeStart_course (c : Chip) : c.wakeStart.course g = c.course g := by
  simp [Chip.wakeStart]

@[simp] theorem Chip.moorCause_course (c : Chip) (cause : Nat) : (c.moorCause cause).course g = c.course g := by
  simp [Chip.moorCause]

@[simp] theorem Chip.moorExit_course (c : Chip) (cause : Nat) : (c.moorExit cause).course g = c.course g := by
  simp [Chip.moorExit]

@[simp] theorem Chip.withSafe_course (c : Chip) (f : Chip → Chip) (hf : ∀ c : Chip, (f c).course g = c.course g) :
    (c.withSafe f).course g = c.course g := by
  simp [Chip.withSafe, hf]

/-! ### Machine/Clocks.lean -/

@[simp] theorem Chip.tbAdd_course (c : Chip) (k : Nat) : (c.tbAdd k).course g = c.course g := (rfl)

@[simp] theorem Chip.tbToIrc_course (c : Chip) (since : Nat) : (c.tbToIrc since).course g = c.course g := by
  simp [Chip.tbToIrc]

/-! ### Machine/Lock.lean -/

@[simp] theorem Chip.srcOn_course (c : Chip) (n data : Nat) : (c.srcOn n data).course g = c.course g := by
  simp [Chip.srcOn]

@[simp] theorem Chip.srcOff_course (c : Chip) (n : Nat) : (c.srcOff n).course g = c.course g := by
  simp [Chip.srcOff]

/-! ### Machine/Memory.lean -/

@[simp] theorem Chip.setMcState_course (c : Chip) (ch st : Nat) : (c.setMcState ch st).course g = c.course g := (rfl)

@[simp] theorem Chip.setMig_course (c : Chip) (ch st : Nat) : (c.setMig ch st).course g = c.course g := by
  simp [Chip.setMig]

@[simp] theorem Chip.noteWait_course (c : Chip) (p age : Nat) : (c.noteWait p age).course g = c.course g := by
  simp [Chip.noteWait]

@[simp] theorem Chip.readLeft_course (c : Chip) (ch : Nat) (e : ReadEntry) (here : Loc) :
    (c.readLeft ch e here).course g = c.course g := by
  simp [Chip.readLeft]

@[simp] theorem Chip.deepEnter_course (c : Chip) : c.deepEnter.course g = c.course g := by
  simp [Chip.deepEnter]

@[simp] theorem Chip.setTol_course (c : Chip) (i t : Nat) : (c.setTol i t).course g = c.course g := by
  simp [Chip.setTol]

/-! ### Machine/Integrity.lean -/

@[simp] theorem Chip.freezeStart_course (c : Chip) (ch : Nat) (e : MemError) (addr : Nat) :
    (c.freezeStart ch e addr).course g = c.course g := by
  simp [Chip.freezeStart]

@[simp] theorem Chip.serveRead_course (c : Chip) (ch : Nat) (e : ReadEntry) :
    (c.serveRead ch e).course g = c.course g := by
  unfold Chip.serveRead; split <;> simp

@[simp] theorem Chip.drainQueues_course (c : Chip) (ch : Nat) : (c.drainQueues ch).course g = c.course g := by
  simp [Chip.drainQueues]

@[simp] theorem Chip.migFlip_course (c : Chip) (ch : Nat) : (c.migFlip ch).course g = c.course g := by
  simp [Chip.migFlip]

@[simp] theorem Chip.flipNow_course (c : Chip) : c.flipNow.course g = c.course g := by
  simp [Chip.flipNow]

/-! ### Machine/Video.lean -/

@[simp] theorem Chip.onVin_course (c : Chip) (f : VideoIn → VideoIn) : (c.onVin f).course g = c.course g := (rfl)

@[simp] theorem Chip.lockFree_course (c : Chip) : c.lockFree.course g = c.course g := by
  simp [Chip.lockFree]

/-! ### Machine/Camera.lean -/

@[simp] theorem Chip.proxDrive_course (c : Chip) : c.proxDrive.course g = c.course g := by
  simp [Chip.proxDrive]

/-! ### Machine/Compose.lean -/

@[simp] theorem Chip.onCmp_course (c : Chip) (f : Compose → Compose) : (c.onCmp f).course g = c.course g := (rfl)

@[simp] theorem Chip.safeLock_course (c : Chip) : c.safeLock.course g = c.course g := by
  simp [Chip.safeLock]

/-! ### Machine/Flips.lean -/

@[simp] theorem Chip.latchRings_course (c : Chip) : c.latchRings.course g = c.course g := (rfl)

@[simp] theorem Chip.safeDrive_course (c : Chip) (data : Nat) : (c.safeDrive data).course g = c.course g := by
  simp [Chip.safeDrive]

@[simp] theorem Chip.safeFrameStart_course (c : Chip) : c.safeFrameStart.course g = c.course g := (rfl)

/-! ### Machine/Scanout.lean -/

@[simp] theorem Chip.onSo_course (c : Chip) (i : Nat) (f : ScanOut → ScanOut) :
    (c.onSo i f).course g = c.course g := by
  unfold Chip.onSo; split <;> rfl

@[simp] theorem Chip.soTol_course (c : Chip) (i t : Nat) : (c.soTol i t).course g = c.course g := by
  simp [Chip.soTol]

@[simp] theorem Chip.frameStart_course (c : Chip) (i : Nat) : (c.frameStart i).course g = c.course g := by
  simp [Chip.frameStart]

@[simp] theorem Chip.outCrcDrive_course (c : Chip) : c.outCrcDrive.course g = c.course g := by
  simp [Chip.outCrcDrive]

@[simp] theorem Chip.soHalt_course (c : Chip) (i err : Nat) : (c.soHalt i err).course g = c.course g := by
  simp [Chip.soHalt]

/-- A scan-out that a mode edge stops cuts no Mooring change (R561). -/
@[simp] theorem Chip.soStop_edge_course (c : Chip) (i err : Nat) : (c.soStop i err true).course g = c.course g := by
  simp [Chip.soStop]

@[simp] theorem Chip.composeOn_course (c : Chip) : c.composeOn.course g = c.course g := by
  simp [Chip.composeOn]

@[simp] theorem Chip.soStart_course (c : Chip) (i : Nat) : (c.soStart i).course g = c.course g := by
  simp [Chip.soStart]

@[simp] theorem Chip.soResume_course (c : Chip) (i : Nat) : (c.soResume i).course g = c.course g := by
  simp [Chip.soResume]

/-! ### Machine/Bitplane.lean -/

@[simp] theorem Chip.bpsDark_course (c : Chip) : c.bpsDark.course g = c.course g := (rfl)

@[simp] theorem Chip.bpsRefresh_course (c : Chip) : c.bpsRefresh.course g = c.course g := by
  simp [Chip.bpsRefresh]

/-! ### Machine/Beam.lean -/

@[simp] theorem Chip.onBsc_course (c : Chip) (f : Beam → Beam) : (c.onBsc f).course g = c.course g := (rfl)

@[simp] theorem Chip.bscIdle_course (c : Chip) : c.bscIdle.course g = c.course g := by
  simp [Chip.bscIdle]

@[simp] theorem Chip.bscForget_course (c : Chip) : c.bscForget.course g = c.course g := (rfl)

@[simp] theorem Chip.bscMeasure_course (c : Chip) : c.bscMeasure.course g = c.course g := (rfl)

@[simp] theorem Chip.bscRefresh_course (c : Chip) : c.bscRefresh.course g = c.course g := by
  simp [Chip.bscRefresh]

@[simp] theorem Chip.scanDrive_course (c : Chip) : c.scanDrive.course g = c.course g := by
  simp [Chip.scanDrive]

/-! ### Machine/Light.lean -/

@[simp] theorem Chip.selfTest_course (c : Chip) : c.selfTest.course g = c.course g := (rfl)

@[simp] theorem Chip.selfTestOnEntry_course (c : Chip) : c.selfTestOnEntry.course g = c.course g := by
  simp [Chip.selfTestOnEntry]

/-! ### Machine/Towpath.lean -/

@[simp] theorem Chip.twpDown_course (c : Chip) : c.twpDown.course g = c.course g := (rfl)

@[simp] theorem Chip.mxDown_course (c : Chip) : c.mxDown.course g = c.course g := (rfl)

/-! ### Machine/Uses.lean -/

@[simp] theorem Chip.takeUses_course (c before : Chip) : (c.takeUses before).course g = c.course g := by
  simp [Chip.takeUses]

@[simp] theorem Chip.enableUsed_course (c : Chip) : c.enableUsed.course g = c.course g := by
  simp [Chip.enableUsed]

@[simp] theorem Chip.pdRefuse_course (c : Chip) (d code : Nat) : (c.pdRefuse d code).course g = c.course g := (rfl)

@[simp] theorem Chip.pdPll_course (c : Chip) (d : Nat) (want : Bool) : (c.pdPll d want).course g = c.course g := by
  simp [Chip.pdPll]

@[simp] theorem Chip.pdBit_course (c : Chip) (d : Nat) (want : Bool) : (c.pdBit d want).course g = c.course g := by
  simp [Chip.pdBit]

@[simp] theorem Chip.pdApply_course (c : Chip) (high : Bool) (w : Word) :
    (c.pdApply high w).course g = c.course g := by
  simp [Chip.pdApply]

@[simp] theorem Chip.pdQueued_course (c : Chip) : c.pdQueued.course g = c.course g := by
  simp [Chip.pdQueued]

/-! ### Machine/Pins.lean -/

@[simp] theorem Chip.gpioSync_course (c : Chip) : c.gpioSync.course g = c.course g := by
  simp [Chip.gpioSync]

@[simp] theorem Chip.leaveOn_course (c : Chip) (d : Nat) : (c.leaveOn d).course g = c.course g := by
  unfold Chip.leaveOn
  split
  case h_5 => rfl
  all_goals simp

@[simp] theorem Chip.crossDrive_course (c : Chip) (d : Nat) : (c.crossDrive d).course g = c.course g := by
  unfold Chip.crossDrive; split <;> simp

@[simp] theorem Chip.copyRepairs_course (c : Chip) (x : Nat × PdState) : (c.copyRepairs x).course g = c.course g := by
  unfold Chip.copyRepairs; split <;> simp

@[simp] theorem Chip.switchOne_bearing (c : Chip) (x : Nat × PdState) : (c.switchOne x).bearing = c.bearing := by
  simp [Chip.switchOne]

@[simp] theorem Chip.finishAll_bearing (c : Chip) : c.finishAll.bearing = c.bearing := by
  simp [Chip.finishAll]

/-! ### Machine/Modes.lean -/

@[simp] theorem Chip.mfstEnd_course (c : Chip) (st : MfstState) (err : Nat) :
    (c.mfstEnd st err).course g = c.course g := (rfl)

@[simp] theorem Chip.soSync_course (c : Chip) (i : Nat) : (c.soSync i).course g = c.course g := by
  simp [Chip.soSync]

@[simp] theorem Chip.settle_course (c : Chip) : c.settle.course g = c.course g := by
  simp [Chip.settle]

@[simp] theorem Chip.modeRecord_course (c : Chip) (cause : Nat) (left entered : Mode) :
    (c.modeRecord cause left entered).course g = c.course g := by
  simp [Chip.modeRecord]

@[simp] theorem Chip.wakeMode_course (c : Chip) (ch : Nat) : (c.wakeMode ch).course g = c.course g := by
  simp [Chip.wakeMode]

@[simp] theorem Chip.wakeDram_course (c : Chip) : c.wakeDram.course g = c.course g := by
  simp [Chip.wakeDram]

@[simp] theorem Chip.towpathRest_course (c : Chip) : c.towpathRest.course g = c.course g := (rfl)

@[simp] theorem Chip.stopFetch_course (c : Chip) : c.stopFetch.course g = c.course g := by
  simp [Chip.stopFetch]

/-! ### Machine/Loading.lean -/

@[simp] theorem Chip.otpProgram_course (c : Chip) (n : Nat) : (c.otpProgram n).course g = c.course g := by
  simp [Chip.otpProgram]

@[simp] theorem Chip.loadOtp_course (c : Chip) : c.loadOtp.course g = c.course g := by
  simp [Chip.loadOtp]

@[simp] theorem Chip.loadStart_bearing (c : Chip) : c.loadStart.bearing = c.bearing := by
  simp [Chip.loadStart]

end

end Sys2Proof.Machine
end

section
/-! SUPPORT. The edges of Table 1.4: what is in progress after an edge has begun, and what the part holds when the mode
of an edge has been entered (R55, R265). -/

namespace Sys2Proof.Machine

open Sys2Proof

/-! ### An edge begins -/

/-- An edge toward a mode has begun: the switches that E12 kept are taken with it (R226). -/
def Course.heading {α : Type} (b : Course α) (e : Edge) (m : Mode) : Course α :=
  { b with mode := { b.mode with edge := some e, target := m, e12KeptHold := false } }

theorem Chip.beginEdge_course (c : Chip) {α : Type} (g : LoadPhase × Locks → α) (e : Edge) (m : Mode) :
    (c.beginEdge e m).course g = (c.course g).heading e m := by
  unfold Chip.beginEdge
  extract_lets c1 c2 c3
  have h1 : c1.course g = (c.course g).heading e m := by
    have h : c.takeSeqCfg.course g = c.course g := by simp
    exact congrArg (fun b => b.heading e m) h
  have h2 : c2.course g = c1.course g := by simp only [c2]; split <;> simp
  have h3 : c3.course g = c2.course g := by simp [c3]
  simp [h1, h2, h3]

theorem Chip.beginEdge_bearing (c : Chip) (e : Edge) (m : Mode) :
    (c.beginEdge e m).bearing = c.bearing.heading e m :=
  c.beginEdge_course _ e m

/-- A request has been accepted (R55). -/
def Course.accepted {α : Type} (b : Course α) (w : Half) : Course α :=
  { b with mode := { b.mode with
      refuse := 0, reqTag := reqTagOf w, reqMoor := reqMoor w, forced := false
      loadFailed := b.mode.loadFailed && !reqReload w } }

theorem Chip.acceptReq_bearing (c : Chip) (w : Half) : (c.acceptReq w).bearing = c.bearing.accepted w := (rfl)

/-! ### Requests: the edges of Table 1.4 -/

/-- A HOLD has a channel to freeze where one is configured (R399). -/
theorem Chip.holdChannel_isSome_iff (c : Chip) (w : Half) : (c.holdChannel w).isSome = true ↔ c.mcConfigured ≠ [] := by
  unfold Chip.holdChannel Chip.mcConfigured reqHoldCh
  cases w.getLsbD 6 <;> cases h0 : c.mcConf 0 <;> cases h1 : c.mcConf 1 <;> simp [b2n, h0, h1]

theorem Mode.needsImage_iff (t : Mode) : t.needsImage = true ↔ t ∈ [Mode.calibrate, .mirror, .scan, .panel] := by
  cases t <;> decide

/-- A request that Table 1.4 has an edge for takes that edge. -/
theorem Chip.edgeTo_of_tableEdge {c : Chip} {w : Half} {t : Mode} {e : Edge} (h : c.tableEdge w t e) :
    c.edgeTo t w = some e := by
  have hold : t = .hold → c.mcConfigured ≠ [] → (c.holdChannel w).isSome = true :=
    fun _ => (c.holdChannel_isSome_iff w).mpr
  unfold Chip.tableEdge at h
  unfold Chip.edgeTo
  cases hm : c.mode.mode with
  | deepSleep => simp [hm] at h
  | standby =>
    simp only [hm] at h ⊢
    rcases h with ⟨rfl, rfl⟩ | ⟨rfl, rfl⟩ | ⟨ht, -, hi⟩
    · rfl
    · rfl
    · have hn : t.needsImage = true := t.needsImage_iff.mpr ht
      have hd : t ≠ .deepSleep ∧ t ≠ .load := by constructor <;> rintro rfl <;> cases hn
      rcases hi with ⟨hv, hr, rfl⟩ | ⟨hi, rfl⟩
      · simp [hd, hn, hv, hr]
      · rcases hi with hv | hr
        · simp [hd, hn, hv]
        · simp [hd, hn, hr]
  | load =>
    simp only [hm] at h ⊢
    obtain ⟨rfl, hc, rfl⟩ := h
    simp [hold rfl hc]
  | calibrate =>
    simp only [hm] at h ⊢
    rcases h with ⟨rfl | ⟨rfl, ht⟩, rfl⟩ | ⟨rfl, hc, rfl⟩
    · rfl
    · have hh : c.mode.calFrom ≠ .hold := by rintro hh; simp [hh] at ht
      simp [hh]
    · simp [hold rfl hc]
  | mirror | scan | panel =>
    simp only [hm] at h ⊢
    rcases h with ⟨rfl, rfl⟩ | ⟨rfl, rfl⟩ | ⟨rfl, hc, rfl⟩
    · rfl
    · rfl
    · simp [hold rfl hc]
  | hold =>
    simp only [hm] at h ⊢
    obtain ⟨rfl, rfl⟩ := h
    rfl

/-- Table 1.4 has no edge from a mode to itself. -/
theorem Chip.ne_mode_of_tableEdge {c : Chip} {w : Half} {t : Mode} {e : Edge} (h : c.tableEdge w t e) :
    t ≠ c.mode.mode := by
  rintro rfl
  unfold Chip.tableEdge at h
  cases hm : c.mode.mode <;> simp [hm] at h

/-- Nothing refuses a request that Table 1.4 has an edge for, with XIN present where the mode needs it (R36), a beam
scanner for SCAN, and an image that did not fail to load (R42). -/
theorem Chip.modeCheck_of_tableEdge {c : Chip} {w : Half} {t : Mode} {e : Edge} (h : c.tableEdge w t e)
    (hl : c.mode.limp = false ∨ t = .deepSleep ∨ t = .standby ∨ t = .hold)
    (hv : t ≠ .scan ∨ c.variantS = true) : c.modeCheck t w = 0 := by
  have hscan : ¬(t = .scan ∧ c.variantS = false) := by
    rintro ⟨ht, hv'⟩
    simp [ht, hv'] at hv
  have hlimp : (c.mode.limp && (t == .load || t.needsImage)) = false := by
    rcases hl with hl | rfl | rfl | rfl
    · simp [hl]
    all_goals simp [Mode.needsImage, Mode.lit]
  have himage : ¬(c.mode.mode = .standby ∧ t.needsImage = true ∧ c.mode.loadFailed = true ∧ reqReload w = false) := by
    rintro ⟨hm, hn, hf, hr⟩
    simp only [Chip.tableEdge, hm] at h
    rcases h with ⟨rfl, -⟩ | ⟨rfl, -⟩ | ⟨-, hg, -⟩
    · cases hn
    · cases hn
    · simp [hf, hr] at hg
  unfold Chip.modeCheck
  rw [if_neg hscan, hlimp, Chip.edgeTo_of_tableEdge h, if_neg himage]
  rfl

/-- The modes that the edges taken on request lead to are those asked for; E3 leads through LOAD (R41). -/
theorem Chip.target_of_edgeTo {c : Chip} {w : Half} {t : Mode} {e : Edge} (h : c.edgeTo t w = some e) :
    (e = .e2 → t = .deepSleep) ∧ (e = .e8 → t = .calibrate) ∧ (e = .e10 → t = .hold) := by
  unfold Chip.edgeTo at h
  (repeat' split at h) <;> simp_all <;> subst h <;> simp

/-- CALIBRATE is left for the mode it was entered from (E9). -/
def Course.leaving {α : Type} (b : Course α) (m : Mode) : Course α := { b with mode := { b.mode with calFrom := m } }

/-- An edge taken on request: the acceptance, the mode that E8 leaves, and the edge toward the mode. -/
theorem Chip.takeEdge_bearing (c : Chip) (e : Edge) (t : Mode) (w : Half) (h : c.edgeTo t w = some e) :
    (c.takeEdge e t w).bearing =
      ((c.bearing.accepted w).leaving (if e = .e8 then c.mode.mode else c.mode.calFrom)).heading e t := by
  obtain ⟨h2, h8, h10⟩ := Chip.target_of_edgeTo h
  have ha : (c.acceptReq w).bearing = c.bearing.accepted w := c.acceptReq_bearing w
  unfold Chip.takeEdge
  split
  · simp [Chip.beginEdge_bearing, ha, h2]
    rfl
  · have h3 := (c.acceptReq w).beginEdge_bearing .e3 .load
    rw [ha] at h3
    exact congrArg (fun b : Bearing => { b with mode := { b.mode with target := t } }) h3
  · simp [Chip.beginEdge_bearing, h8]
    rfl
  · simp [Chip.beginEdge_bearing, ha, h10]
    rfl
  next _ _ he _ =>
    rw [if_neg he, Chip.beginEdge_bearing, ha]
    rfl

theorem Chip.takeEdge_edge (c : Chip) (e : Edge) (t : Mode) (w : Half) (h : c.edgeTo t w = some e) :
    (c.takeEdge e t w).mode.edge = some e :=
  congrArg (·.mode.edge) (c.takeEdge_bearing e t w h)

/-- E14 in progress for a request (R40): REFUSE and TAG are those of the last request until it ends. -/
def Course.mooring {α : Type} (b : Course α) (w : Half) : Course α :=
  { b with mode := { b.mode with edge := some .e14, reqTag := reqTagOf w, reqMoor := reqMoor w, forced := false } }

theorem Chip.moorEdge_bearing (c : Chip) (w : Half) : (c.moorEdge w).bearing = c.bearing.mooring w := by
  have h : (c.takeSeqCfg.onMode fun x =>
      { x with edge := some .e14, reqTag := reqTagOf w, reqMoor := reqMoor w, forced := false }).bearing =
        c.bearing.mooring w :=
    congrArg (Course.mooring · w) (c.takeSeqCfg_course (g := fun _ => ()))
  unfold Chip.moorEdge
  split
  · exact h
  · exact (Chip.moorExit_course _ 3).trans h

/-- A plan of switches changes the power sequencer only. -/
theorem Chip.pdPlan_onlyPw (c : Chip) : c.pdPlan = { c with pw := c.pdPlan.pw } := by
  unfold Chip.pdPlan; split <;> rfl

theorem Chip.evt_getLsbD (c : Chip) (n : Nat) (h : n < 16) : (c.evt n).wh.evt.getLsbD n = true := by
  unfold Chip.evt
  rw [BitVec.getLsbD_or, BitVec.getLsbD_ofNat, Nat.testBit_two_pow_self]
  simp [h]

/-- A request for the current mode changes nothing but what the mode machine and the port report, and the plan of
switches of the domains that E12 kept (R40, R226). -/
theorem Chip.sameMode_eq (c : Chip) (w : Half) :
    c.sameMode w = { c with
      mode := { c.mode with
        refuse := 0, tag := reqTagOf w, abandoned := false, loadFailed := c.mode.loadFailed && !reqReload w
        e12KeptHold := false }
      wh := { c.wh with evt := c.wh.evt ||| 1 }
      pw := (c.sameMode w).pw } := by
  unfold Chip.sameMode
  extract_lets c1
  split
  · rw [Chip.pdPlan_onlyPw]
    rfl
  · rfl

theorem Chip.mode_ne_deepSleep_of_tableEdge {c : Chip} {w : Half} {t : Mode} {e : Edge} (h : c.tableEdge w t e) :
    c.mode.mode ≠ .deepSleep := by
  intro hm
  simp [Chip.tableEdge, hm] at h

/-- A request that Table 1.4 has an edge for begins it (R55): REFUSE = NONE, and the mode stays. -/
theorem edgeBegins {s : State} {w : Half} {t : Mode} {e : Edge} (hs : s.runs) (he : s.chip.mode.edge = none)
    (hd : s.chip.wh.drain = []) (ht : modeOfCode (reqTarget w) = some t) (hE : s.chip.tableEdge w t e)
    (hl : s.chip.mode.limp = false ∨ t = .deepSleep ∨ t = .standby ∨ t = .hold)
    (hv : t ≠ .scan ∨ s.chip.variantS = true) (hb : badMoor w t = false) :
    ∃ d, exec (.modeRequest w) s = .next { s with chip := d } ∧ d.seat = s.chip.seat ∧
      d.bearing = (((s.chip.requested w).bearing.accepted w).leaving
        (if e = .e8 then s.chip.mode.mode else s.chip.mode.calFrom)).heading e t := by
  refine ⟨(s.chip.requested w).takeEdge e t w, ?_, ?_, ?_⟩
  · rw [exec_modeRequest w hs (Chip.mode_ne_deepSleep_of_tableEdge hE) hd,
      Chip.modeRequest_of_edgeTo he ht hb (Chip.ne_mode_of_tableEdge hE) (Chip.modeCheck_of_tableEdge hE hl hv)
        (Chip.edgeTo_of_tableEdge hE)]
  · rw [Chip.takeEdge_seat]
    rfl
  · exact (s.chip.requested w).takeEdge_bearing e t w (Chip.edgeTo_of_tableEdge hE)

/-- Settles O11: by the reason a request has to begin an edge, to complete at once, or to begin a Mooring change. -/
theorem modeEdgesBegin : Obligations.ModeEdgesBegin := by
  unfold Obligations.ModeEdgesBegin
  refine ⟨?_, ?_, ?_⟩
  · intro s w t e hs he hd ht hE hl hv hb
    have hb' : badMoor w t = false := by rcases hb with hb | rfl | rfl <;> simp [badMoor, *]
    obtain ⟨d, hx, hseat, h⟩ := edgeBegins hs he hd ht hE hl hv hb'
    exact ⟨d, hx, congrArg (·.mode.edge) h, congrArg (·.mode.target) h, congrArg (·.mode.refuse) h,
      congrArg (·.mode.reqTag) h, congrArg (·.mode.forced) h, hseat, congrArg (·.flash) h⟩
  · intro s w hs hm he hd ht hmoor
    have hb : badMoor w s.chip.mode.mode = false := by
      rcases hmoor with ⟨h4, h6, h⟩ | ⟨h | h, -⟩ <;> simp [badMoor, h]
    have hsame : ((s.chip.mode.mode == .mirror || s.chip.mode.mode == .panel) &&
        reqMoor w != s.chip.mode.moored) = false := by
      rcases hmoor with ⟨h4, h6, -⟩ | ⟨-, h⟩ <;> simp [*]
    refine ⟨(s.chip.requested w).sameMode w, ?_, ?_⟩
    · rw [exec_modeRequest w hs hm hd, Chip.modeRequest_of_same he ht hb rfl, hsame]
      rfl
    · rw [Chip.sameMode_eq]
      exact ⟨he, rfl, rfl, Chip.evt_getLsbD _ evMode (by decide), rfl, rfl, rfl, rfl⟩
  · intro s w hs he hd hm ht hmoor
    have hmm : s.chip.mode.mode ≠ .deepSleep := by rcases hm with h | h <;> simp [h]
    have hb : badMoor w s.chip.mode.mode = false := by rcases hm with h | h <;> simp [badMoor, h]
    have hchange : ((s.chip.mode.mode == .mirror || s.chip.mode.mode == .panel) &&
        reqMoor w != s.chip.mode.moored) = true := by
      rcases hm with h | h <;> simp [h, hmoor]
    have h := (s.chip.requested w).moorEdge_bearing w
    refine ⟨(s.chip.requested w).moorEdge w, ?_, congrArg (·.mode.edge) h, congrArg (·.mode.refuse) h,
      congrArg (·.mode.tag) h, congrArg (·.mode.reqTag) h, congrArg (·.mode.moored) h, ?_, congrArg (·.flash) h⟩
    · rw [exec_modeRequest w hs hmm hd, Chip.modeRequest_of_same he ht hb rfl, hchange]
      rfl
    · rw [Chip.moorEdge_seat]
      rfl

end Sys2Proof.Machine
end

section
/-! SUPPORT. Where the table of refused requests fails (R47, R49, Table 1.8): a part in CALIBRATE that remembers a mode
from which CALIBRATE is never entered. -/

namespace Sys2Proof.Machine

open Sys2Proof

/-- CALIBRATE, out of reset, remembered as entered from DEEP_SLEEP: every value the model itself writes there is STANDBY
or a lit mode, but the statement is about every state. -/
def strayCalibrate : State :=
  { State.reset with chip := { Chip.reset with
      pins := { Pins.reset with por := false }
      mode := { ModeMachine.reset with mode := .calibrate, calFrom := .deepSleep } } }

/-- A request that Table 1.4 lacks an edge for is refused with EDGE, with XIN present and a beam scanner for SCAN. -/
theorem Chip.modeRequest_of_noEdge {c : Chip} {w : Half} {t : Mode} (he : c.mode.edge = none)
    (ht : modeOfCode (reqTarget w) = some t) (hb : badMoor w t = false) (hm : t ≠ c.mode.mode)
    (hl : c.mode.limp = false) (hv : t ≠ .scan ∨ c.variantS = true) (hE : c.edgeTo t w = none) :
    c.modeRequest w = c.requestRefused w refusedEdge := by
  have hscan : ¬(t = .scan ∧ c.variantS = false) := by
    rintro ⟨ht, hv'⟩
    simp [ht, hv'] at hv
  exact Chip.modeRequest_of_modeCheck he ht hb hm (by simp [Chip.modeCheck, hscan, hl, hE]) (by decide)

/-- The clause of O10 that fails holds in CALIBRATE as the model enters it: DEEP_SLEEP and LOAD have no edge there. -/
theorem Chip.modeRequest_of_calibrate {c : Chip} {w : Half} {t : Mode} (hm : c.mode.mode = .calibrate)
    (he : c.mode.edge = none) (hl : c.mode.limp = false) (hf : c.mode.calFrom = .standby ∨ c.mode.calFrom.lit = true)
    (ht : modeOfCode (reqTarget w) = some t) (hb : badMoor w t = false) (htm : t = .deepSleep ∨ t = .load) :
    c.modeRequest w = c.requestRefused w refusedEdge := by
  have hne : t ≠ c.mode.calFrom := by
    rintro rfl
    rcases htm with h | h <;> simp [h, Mode.lit] at hf
  have hE : c.edgeTo t w = none := by
    rcases htm with rfl | rfl <;> simp [Chip.edgeTo, hm, hne]
  refine Chip.modeRequest_of_noEdge he ht hb ?_ hl ?_ hE
  · rcases htm with rfl | rfl <;> simp [hm]
  · rcases htm with rfl | rfl <;> simp

/-- Refutes O10: in CALIBRATE remembered as entered from DEEP_SLEEP, a request for DEEP_SLEEP is not refused with
EDGE: it begins E9. -/
theorem not_modeRefusals : ¬ Obligations.ModeRefusals := by
  unfold Obligations.ModeRefusals
  intro h
  obtain ⟨-, -, h⟩ := h strayCalibrate 0 rfl
  obtain ⟨-, h⟩ := h (by decide) rfl
  obtain ⟨-, -, -, hedge, -⟩ := h rfl
  have refused := hedge rfl rfl rfl (by decide)
  have begun : exec (.modeRequest 0) strayCalibrate =
      .next { strayCalibrate with chip := (strayCalibrate.chip.requested 0).takeEdge .e9 .deepSleep 0 } := by
    rw [exec_modeRequest (s := strayCalibrate) 0 rfl (by decide) rfl,
      Chip.modeRequest_of_edgeTo (t := .deepSleep) (e := .e9) rfl rfl rfl (by decide) rfl rfl]
  have same := begun.symm.trans refused
  simp only [Host.Outcome.next.injEq, State.mk.injEq] at same
  have e9 : ((strayCalibrate.chip.requested 0).takeEdge .e9 .deepSleep 0).mode.edge = some .e9 :=
    Chip.takeEdge_edge _ .e9 .deepSleep 0 rfl
  rw [same.1] at e9
  cases e9

end Sys2Proof.Machine
end

section
/-! SUPPORT. The ends of the edges (Table 1.4, R55): what an edge carries to its end, the entry into its mode, and the
report that closes it. -/

namespace Sys2Proof.Machine

open Sys2Proof

/-! ### What the edge still carries -/

/-- The edge in progress in `c` is still to be reported in `d` as it was (R55), and the flash is as it was. -/
structure Chip.SameRequest (c d : Chip) : Prop where
  forced : d.mode.forced = c.mode.forced
  tag : d.mode.tag = c.mode.tag
  reqTag : d.mode.reqTag = c.mode.reqTag
  flash : d.flash = c.flash

theorem Chip.SameRequest.refl (c : Chip) : c.SameRequest c := ⟨rfl, rfl, rfl, rfl⟩

theorem Chip.SameRequest.trans {c d e : Chip} (h : c.SameRequest d) (k : d.SameRequest e) : c.SameRequest e :=
  ⟨k.forced.trans h.forced, k.tag.trans h.tag, k.reqTag.trans h.reqTag, k.flash.trans h.flash⟩

theorem Chip.SameRequest.of_bearing {c d : Chip} (h : d.bearing = c.bearing) : c.SameRequest d :=
  ⟨congrArg (·.mode.forced) h, congrArg (·.mode.tag) h, congrArg (·.mode.reqTag) h, congrArg (·.flash) h⟩

/-- The entry to STANDBY and the end of a LOAD that was cut can leave no valid image (Tables 5.10 and 6.14). -/
def Course.imaged {α : Type} (b : Course α) (v : Bool) : Course α := { b with mode := { b.mode with imageValid := v } }

theorem Chip.standDram_bearing (c : Chip) : ∃ v, c.standDram.bearing = c.bearing.imaged v := by
  unfold Chip.standDram
  extract_lets sleep c1
  have hsleep : ∀ (c : Chip) (ch : Nat), (sleep c ch).bearing = c.bearing := fun c ch => by simp [sleep]
  have h1 : c1.bearing = c.bearing := by simp [c1, hsleep]
  split
  · exact ⟨false, congrArg (·.imaged false) h1⟩
  · exact ⟨_, h1⟩

theorem Chip.dropLoad_bearing (c : Chip) : ∃ v, c.dropLoad.bearing = c.bearing.imaged v := by
  unfold Chip.dropLoad
  split
  · exact ⟨false, rfl⟩
  · exact ⟨_, rfl⟩

theorem Chip.SameRequest.of_imaged {c d : Chip} (h : ∃ v, d.bearing = c.bearing.imaged v) : c.SameRequest d := by
  obtain ⟨v, h⟩ := h
  exact ⟨congrArg (·.mode.forced) h, congrArg (·.mode.tag) h, congrArg (·.mode.reqTag) h, congrArg (·.flash) h⟩

/-! ### The entry into a mode -/

/-- A mode has been entered: no edge is in progress and nothing is moored. -/
def Course.arrived {α : Type} (b : Course α) (m : Mode) (cause : Nat) : Course α :=
  { b with mode := { b.mode with mode := m, cause := cause, edge := none, moored := false } }

theorem Chip.enter_bearing (c : Chip) (m : Mode) (cause : Nat) :
    (c.enter m cause).bearing = c.bearing.arrived m cause := by
  have h : (c.finishAll.startPlls m).bearing = c.bearing := by simp
  unfold Chip.enter
  simp only [Chip.pdQueued_course, Chip.settle_course, Chip.stopOthers_course, Chip.onLk_course]
  exact congrArg (·.arrived m cause) h

theorem Chip.enter_reflost (c : Chip) (m : Mode) (cause : Nat) : (c.enter m cause).ck.reflost = c.ck.reflost := by
  have hb := c.enter_bearing m cause
  generalize c.enter m cause = d at hb ⊢
  exact congrArg (·.reflost) hb

theorem Chip.enter_reqMoor (c : Chip) (m : Mode) (cause : Nat) : (c.enter m cause).mode.reqMoor = c.mode.reqMoor := by
  have hb := c.enter_bearing m cause
  generalize c.enter m cause = d at hb ⊢
  exact congrArg (·.mode.reqMoor) hb

/-- The edge in progress in `c` has brought the part into its mode; what is left of it is the report. -/
structure Chip.StandsIn (c d : Chip) (m : Mode) (cause : Nat) : Prop extends c.SameRequest d where
  seat : d.seat = (m, cause)
  edge : d.mode.edge = none
  moored : d.mode.moored = false

theorem Chip.enter_standsIn {c d : Chip} (h : c.SameRequest d) (m : Mode) (cause : Nat) :
    c.StandsIn (d.enter m cause) m cause := by
  have hb := d.enter_bearing m cause
  generalize d.enter m cause = x at hb ⊢
  exact
    { forced := (congrArg (·.mode.forced) hb).trans h.forced
      tag := (congrArg (·.mode.tag) hb).trans h.tag
      reqTag := (congrArg (·.mode.reqTag) hb).trans h.reqTag
      flash := (congrArg (·.flash) hb).trans h.flash
      seat := congrArg (fun b => (b.mode.mode, b.mode.cause)) hb
      edge := congrArg (·.mode.edge) hb
      moored := congrArg (·.mode.moored) hb }

/-- Once the report is made the edge has arrived (R55). -/
theorem Chip.StandsIn.report {c d : Chip} {m : Mode} {cause : Nat} (h : c.StandsIn d m cause) :
    c.arrived d.report m cause := by
  refine ⟨h.seat, h.edge, rfl, h.moored, Chip.evt_getLsbD _ evMode (by decide), ?_, h.flash⟩
  rw [← h.forced, ← h.tag, ← h.reqTag]
  rfl

/-- Another event leaves the mode event set. -/
theorem Chip.arrived.evt {c d : Chip} {m : Mode} {cause : Nat} (h : c.arrived d m cause) (n : Nat) :
    c.arrived (d.evt n) m cause := by
  obtain ⟨hseat, hedge, hforced, hmoored, hevt, htag, hflash⟩ := h
  refine ⟨hseat, hedge, hforced, hmoored, ?_, htag, hflash⟩
  simp only [Chip.evt, BitVec.getLsbD_or, hevt, Bool.true_or]

theorem Chip.StandsIn.onLk {c d : Chip} {m : Mode} {cause : Nat} (h : c.StandsIn d m cause)
    (f : Lockkeeper → Lockkeeper) : c.StandsIn (d.onLk f) m cause :=
  ⟨⟨h.forced, h.tag, h.reqTag, h.flash⟩, h.seat, h.edge, h.moored⟩

theorem Chip.StandsIn.onWh {c d : Chip} {m : Mode} {cause : Nat} (h : c.StandsIn d m cause) (f : Wharf → Wharf) :
    c.StandsIn (d.onWh f) m cause :=
  ⟨⟨h.forced, h.tag, h.reqTag, h.flash⟩, h.seat, h.edge, h.moored⟩

/-- DEEP_SLEEP has been entered (R203): no image is valid, and nothing is left of LIMP and of the sequence of
Table 4.6. -/
def Course.asleep {α : Type} (b : Course α) (cause : Nat) : Course α :=
  { b with
    mode := { (b.arrived .deepSleep cause).mode with imageValid := false, limp := false }
    reflost := false }

theorem Chip.asleep_bearing (c : Chip) (cause : Nat) : (c.asleep cause).bearing = c.bearing.asleep cause := by
  unfold Chip.asleep
  extract_lets c1 c2
  have h1 : c1.bearing = { c.bearing with
      mode := { (c.bearing.arrived .deepSleep cause).mode with imageValid := false, limp := false } } := by
    simp only [c1]
    rw [Chip.enter_bearing]
    rfl
  clear_value c1
  have h2 : ((c1.tbToIrc c1.sinceXin).takeFree).bearing = c1.bearing := by simp
  simp only [c2]
  generalize (c1.tbToIrc c1.sinceXin).takeFree = x at h2 ⊢
  exact congrArg (fun b : Bearing => { b with reflost := false }) (h2.trans h1)

theorem Chip.asleep_wakeDeferred (c : Chip) (cause : Nat) :
    (c.asleep cause).mode.wakeDeferred = c.mode.wakeDeferred := by
  have hb := c.asleep_bearing cause
  generalize c.asleep cause = d at hb ⊢
  exact congrArg (·.mode.wakeDeferred) hb

theorem Chip.tbToIrc_tbOnIrc (c : Chip) (since : Nat) : (c.tbToIrc since).ck.tbOnIrc = true := by
  unfold Chip.tbToIrc
  split
  · assumption
  · rfl

theorem Chip.asleep_ck (c : Chip) (cause : Nat) :
    (c.asleep cause).ck.xinPresent = false ∧ (c.asleep cause).ck.tbOnIrc = true := by
  unfold Chip.asleep
  extract_lets c1 c2
  clear_value c1
  exact ⟨rfl, c1.tbToIrc_tbOnIrc _⟩

theorem Chip.asleep_standsIn {c d : Chip} (h : c.SameRequest d) (cause : Nat) :
    c.StandsIn (d.asleep cause) .deepSleep cause ∧ (d.asleep cause).mode.imageValid = false := by
  have hb := d.asleep_bearing cause
  generalize d.asleep cause = x at hb ⊢
  exact ⟨
    { forced := (congrArg (·.mode.forced) hb).trans h.forced
      tag := (congrArg (·.mode.tag) hb).trans h.tag
      reqTag := (congrArg (·.mode.reqTag) hb).trans h.reqTag
      flash := (congrArg (·.flash) hb).trans h.flash
      seat := congrArg (fun b => (b.mode.mode, b.mode.cause)) hb
      edge := congrArg (·.mode.edge) hb
      moored := congrArg (·.mode.moored) hb },
    congrArg (·.mode.imageValid) hb⟩

/-! ### Commands that end an edge -/

/-- With no edge in progress the commands that end edges do nothing. -/
theorem exec_of_noEdge {s : State} {i : Instr} (he : s.chip.mode.edge = none)
    (hi : i ∈ [Instr.pictureModeEntered, .standbyEntered, .calibrateEntered, .calibrateExited, .holdEntered,
      .reflostComplete, .sleepComplete, .wakeFailComplete, .wakeComplete, .loadEntered, .loadFailExit]) :
    exec i s = .next s := by
  simp only [List.mem_cons, List.not_mem_nil, or_false] at hi
  rcases hi with rfl | rfl | rfl | rfl | rfl | rfl | rfl | rfl | rfl | rfl | rfl <;>
    simp [exec, execPictureModeEntered, execStandbyEntered, execCalibrateEntered, execCalibrateExited, execHoldEntered,
      execReflostComplete, execSleepComplete, execWakeFailComplete, execWakeComplete, execLoadEntered, execLoadFailExit,
      effect, effectAlways, he]

/-- A lit mode asked for with MOOR goes on to E14 (R40, log entry 14). -/
def moorsOn (moor : Bool) (m : Mode) : Prop := moor = true ∧ (m = .mirror ∨ m = .panel)

theorem Chip.entered_of_moorsOn {d : Chip} (h : moorsOn d.mode.reqMoor d.mode.mode) :
    d.entered = d.takeSeqCfg.onMode fun x => { x with edge := some .e14, moorPhase := .capture } := by
  obtain ⟨hr, hm⟩ := h
  unfold Chip.entered
  rw [if_pos]
  rcases hm with hm | hm <;> simp [hr, hm]

theorem Chip.entered_of_not_moorsOn {d : Chip} (h : ¬moorsOn d.mode.reqMoor d.mode.mode) : d.entered = d.report := by
  unfold Chip.entered
  rw [if_neg]
  intro hc
  simp only [Bool.and_eq_true, Bool.or_eq_true, beq_iff_eq] at hc
  exact h hc

/-- E6 and E4: a picture mode or CALIBRATE has been entered with no boundary passed (R48), and the report is made unless
E14 follows. -/
theorem Chip.enterPicture_ends (c : Chip) (m : Mode) :
    (c.enterPicture m).seat = (m, causeHost) ∧ (c.enterPicture m).mode.boundaries = 0 ∧
      (c.enterPicture m).flash = c.flash ∧
      (moorsOn c.mode.reqMoor m → (c.enterPicture m).mode.edge = some .e14 ∧
        (c.enterPicture m).mode.moorPhase = .capture) ∧
      (¬moorsOn c.mode.reqMoor m → c.arrived (c.enterPicture m) m causeHost) := by
  unfold Chip.enterPicture
  extract_lets c1
  have hw : c.SameRequest c.wakeDram := .of_bearing c.wakeDram_course
  have hc1 : c.SameRequest c1 := hw.trans ⟨rfl, rfl, rfl, rfl⟩
  have hr : c1.mode.reqMoor = c.mode.reqMoor := congrArg (·.mode.reqMoor) (c.wakeDram_course (g := fun _ => ()))
  have hb0 : c1.mode.boundaries = 0 := rfl
  have hd := Chip.enter_standsIn hc1 m causeHost
  have hb := c1.enter_bearing m causeHost
  clear_value c1
  generalize c1.enter m causeHost = d at hd hb ⊢
  have hmoor : d.mode.reqMoor = c.mode.reqMoor := (congrArg (·.mode.reqMoor) hb).trans hr
  have hmode : d.mode.mode = m := congrArg Prod.fst hd.seat
  have hbound : d.mode.boundaries = 0 := (congrArg (·.mode.boundaries) hb).trans hb0
  rw [← hmoor]
  by_cases h : moorsOn d.mode.reqMoor m
  · rw [Chip.entered_of_moorsOn (hmode.symm ▸ h)]
    exact ⟨hd.seat, hbound, hd.flash, fun _ => ⟨rfl, rfl⟩, fun hn => absurd h hn⟩
  · rw [Chip.entered_of_not_moorsOn (hmode.symm ▸ h)]
    exact ⟨hd.seat, hbound, hd.flash, fun hm => absurd hm h, fun _ => hd.report⟩

theorem Chip.standDram_enter_standsIn (c : Chip) (m : Mode) (cause : Nat) :
    c.StandsIn (c.standDram.enter m cause) m cause :=
  Chip.enter_standsIn (.of_imaged c.standDram_bearing) m cause

/-- A wake from sleep records its source and begins E1; what else it changes is the sequencer's. -/
theorem Chip.startWake_warm (c : Chip) (src : Nat) :
    ∃ pw, c.startWake src false = { c.wr PWR_WAKE_STAT_SRC src with
      mode := { c.mode with edge := some .e1, target := .standby, forced := true, cold := false, wakeDeferred := none }
      pw := pw } := by
  unfold Chip.startWake Chip.nextStep
  extract_lets c1 c2
  split
  · exact ⟨_, rfl⟩
  · exact ⟨_, rfl⟩

/-- No light is permitted in HOLD (R399). -/
theorem Chip.killLow_of_hold {c : Chip} {cause : Nat} (h : c.seat = (.hold, cause)) : c.killLow = true := by
  have hm : c.mode.mode = .hold := congrArg Prod.fst h
  simp [Chip.killLow, Chip.darkReq, hm]

section

variable {s : State} (hs : s.runs)

include hs

/-- E7, E11, and E4 of an explicit LOAD. -/
theorem standbyEntered_ends (he : s.chip.mode.edge = some .e7 ∨ s.chip.mode.edge = some .e11 ∨
      (s.chip.mode.edge = some .e4 ∧ s.chip.mode.target = .standby)) :
    ∃ d, exec .standbyEntered s = .next { s with chip := d } ∧ s.chip.arrived d .standby 1 := by
  refine ⟨(((s.chip.standDram).onLk fun k => { k with freezeDark := false }).enter .standby causeHost).report, ?_, ?_⟩
  · simp only [exec, execStandbyEntered, State.effect_of_runs hs, if_pos he]
  have h : s.chip.SameRequest (s.chip.standDram.onLk fun k => { k with freezeDark := false }) :=
    (Chip.SameRequest.of_imaged s.chip.standDram_bearing).trans ⟨rfl, rfl, rfl, rfl⟩
  exact (Chip.enter_standsIn h .standby causeHost).report

/-- E8. -/
theorem calibrateEntered_ends (he : s.chip.mode.edge = some .e8) :
    ∃ d, exec .calibrateEntered s = .next { s with chip := d } ∧ s.chip.arrived d .calibrate 1 := by
  refine ⟨(s.chip.wakeDram.enter .calibrate causeHost).report, ?_, ?_⟩
  · simp only [exec, execCalibrateEntered, State.effect_of_runs hs, if_pos he]
  exact (Chip.enter_standsIn (.of_bearing s.chip.wakeDram_course) .calibrate causeHost).report

/-- E5: the LOAD has failed, and no image is valid (R42). -/
theorem loadFailExit_ends (he : s.chip.mode.edge = some .e5) :
    ∃ d, exec .loadFailExit s = .next { s with chip := d } ∧ s.chip.arrived d .standby 5 ∧
      d.mode.imageValid = false := by
  refine ⟨s.chip.loadFailEnd, ?_, ?_, rfl⟩
  · simp only [exec, execLoadFailExit, State.effect_of_runs hs, if_pos he]
  have h := s.chip.standDram_enter_standsIn .standby causeLoadFail
  unfold Chip.loadFailEnd
  generalize s.chip.standDram.enter .standby causeLoadFail = d at h ⊢
  exact Chip.StandsIn.report ⟨⟨h.forced, h.tag, h.reqTag, h.flash⟩, h.seat, h.edge, h.moored⟩

/-- E9, to STANDBY or without MOOR. -/
theorem calibrateExited_ends (he : s.chip.mode.edge = some .e9)
    (ht : s.chip.mode.target = .standby ∨ s.chip.mode.reqMoor = false) :
    ∃ d, exec .calibrateExited s = .next { s with chip := d } ∧ s.chip.arrived d s.chip.mode.target 1 := by
  by_cases hst : s.chip.mode.target = .standby
  · refine ⟨(s.chip.standDram.enter .standby causeHost).report, ?_, ?_⟩
    · simp only [exec, execCalibrateExited, State.effect_of_runs hs, if_pos he, if_pos hst]
    · rw [hst]
      exact (s.chip.standDram_enter_standsIn .standby causeHost).report
  · let c1 := s.chip.onMode fun x => { x with boundaries := 2 }
    refine ⟨(c1.enter s.chip.mode.target causeHost).entered, ?_, ?_⟩
    · simp only [exec, execCalibrateExited, State.effect_of_runs hs, if_pos he, if_neg hst, c1]
    have hd := Chip.enter_standsIn (c := s.chip) (d := c1) ⟨rfl, rfl, rfl, rfl⟩ s.chip.mode.target causeHost
    have hm : (c1.enter s.chip.mode.target causeHost).mode.reqMoor = false :=
      (c1.enter_reqMoor s.chip.mode.target causeHost).trans (ht.resolve_left hst)
    rw [Chip.entered_of_not_moorsOn fun h => by simp [moorsOn, hm] at h]
    exact hd.report

/-- E10 (R399), with the light killed. -/
theorem holdEntered_ends (he : s.chip.mode.edge = some .e10) :
    ∃ d, exec .holdEntered s = .next { s with chip := d } ∧
      s.chip.arrived d .hold (if s.chip.mode.forced then 4 else 1) ∧ d.killLow = true := by
  refine ⟨s.chip.holdEntered, ?_, ?_⟩
  · simp only [exec, execHoldEntered, State.effect_of_runs hs, if_pos he]
  unfold Chip.holdEntered
  extract_lets cause c1
  have h1 : s.chip.SameRequest c1 := .of_bearing (by simp [c1])
  have hd := (Chip.enter_standsIn (h1.trans (.of_imaged c1.dropLoad_bearing)) .hold cause).onLk
    fun k => { k with freezeDark := false }
  exact ⟨hd.report, Chip.killLow_of_hold hd.report.1⟩

/-- E12 (Table 4.6, R52): LIMP where XIN is absent, and what HOLD kept. -/
theorem reflostComplete_ends (he : s.chip.mode.edge = some .e12) :
    ∃ d, exec .reflostComplete s = .next { s with chip := d } ∧ s.chip.arrived d .standby 3 ∧
      d.mode.limp = !s.chip.ck.xinPresent ∧ d.ck.reflost = false ∧
      d.mode.e12KeptHold = (s.chip.mode.mode == .hold) := by
  refine ⟨s.chip.reflostEnd, ?_, ?_⟩
  · simp only [exec, execReflostComplete, State.effect_of_runs hs, if_pos he]
  unfold Chip.reflostEnd
  extract_lets left c1 c2 c3
  have h1 : s.chip.SameRequest c1 := by
    have hpll : s.chip.SameRequest ([0, 1, 2, 3].foldl Chip.stopPll s.chip) := .of_bearing (by simp)
    exact (hpll.trans (.of_imaged (Chip.dropLoad_bearing _))).trans (.of_bearing (by simp [c1, Chip.modeRecord]))
  clear_value c1
  have hx : s.chip.SameRequest (c1.standDram.onCk fun k => { k with reflost := false }) :=
    (h1.trans (.of_imaged c1.standDram_bearing)).trans ⟨rfl, rfl, rfl, rfl⟩
  have hx0 : (c1.standDram.onCk fun k => { k with reflost := false }).ck.reflost = false := rfl
  simp only [c3, c2]
  generalize (c1.standDram.onCk fun k => { k with reflost := false }) = x at hx hx0
  have hb : ((x.srcRelease 10).onLk fun k => { k with freezeDark := false }).bearing = x.bearing := by simp
  generalize ((x.srcRelease 10).onLk fun k => { k with freezeDark := false }) = y at hb
  have hd := Chip.enter_standsIn (hx.trans (.of_bearing hb)) .standby causeReflost
  have hr := (y.enter_reflost .standby causeReflost).trans ((congrArg (·.reflost) hb).trans hx0)
  generalize y.enter .standby causeReflost = d at hd hr ⊢
  have hd' : s.chip.StandsIn (d.onMode fun x => { x with limp := !s.chip.ck.xinPresent, e12KeptHold := left == .hold })
      .standby causeReflost :=
    ⟨⟨hd.forced, hd.tag, hd.reqTag, hd.flash⟩, hd.seat, hd.edge, hd.moored⟩
  exact ⟨hd'.report.evt evClk, rfl, hr, rfl⟩

/-- E2 (R203, R204): XIN is stopped, and a wake trigger that came on the way begins E1 (R246). -/
theorem sleepComplete_ends (he : s.chip.mode.edge = some .e2) (hb : s.chip.backedOut = true) :
    ∃ d, exec .sleepComplete s = .next { s with chip := d } ∧ d.seat = (.deepSleep, 1) ∧ d.ck.xinPresent = false ∧
      d.ck.tbOnIrc = true ∧ d.mode.imageValid = false ∧ d.flash = s.chip.flash ∧
      (s.chip.mode.wakeDeferred = none → s.chip.arrived d .deepSleep 1) ∧
      (∀ src, s.chip.mode.wakeDeferred = some src → d.mode.edge = some .e1 ∧ d.rd PWR_WAKE_STAT_SRC = src % 8) := by
  refine ⟨(s.chip.asleep causeHost).report.deferredWake, ?_, ?_⟩
  · simp only [exec, execSleepComplete, State.effect_of_runs hs, if_pos (And.intro he hb)]
  obtain ⟨hd, hi⟩ := Chip.asleep_standsIn (.refl s.chip) causeHost
  obtain ⟨hx, ht⟩ := s.chip.asleep_ck causeHost
  have hw := s.chip.asleep_wakeDeferred causeHost
  generalize s.chip.asleep causeHost = d at hd hi hx ht hw ⊢
  have hwr : d.report.mode.wakeDeferred = s.chip.mode.wakeDeferred := hw
  unfold Chip.deferredWake
  cases hsrc : s.chip.mode.wakeDeferred with
  | none =>
    simp only [hwr, hsrc]
    exact ⟨hd.seat, hx, ht, hi, hd.flash, fun _ => hd.report, nofun⟩
  | some src =>
    simp only [hwr, hsrc]
    obtain ⟨pw, h⟩ := d.report.startWake_warm src
    rw [h]
    refine ⟨hd.seat, hx, ht, hi, hd.flash, nofun, fun src' hs' => ⟨rfl, ?_⟩⟩
    obtain rfl := Option.some.inj hs'
    exact d.report.rd_wr_self PWR_WAKE_STAT_SRC src (by simp [Field.fits, PWR_WAKE_STAT_SRC])

/-- E13 (R257): the failures are counted, and the third locks the part out. -/
theorem wakeFailComplete_ends (he : s.chip.mode.edge = some .e13) (hb : s.chip.backedOut = true) :
    ∃ d, exec .wakeFailComplete s = .next { s with chip := d } ∧ s.chip.arrived d .deepSleep 2 ∧
      d.mode.imageValid = false ∧ d.wh.failCount = min 3 (s.chip.wh.failCount + 1) ∧
      (3 ≤ s.chip.wh.failCount + 1 → d.wh.lockout = true) := by
  refine ⟨s.chip.wakeFailEnd, ?_, ?_⟩
  · simp only [exec, execWakeFailComplete, State.effect_of_runs hs, if_pos (And.intro he hb)]
  unfold Chip.wakeFailEnd
  extract_lets n c1 c2
  obtain ⟨hc1, hi⟩ := Chip.asleep_standsIn (Chip.SameRequest.of_imaged s.chip.dropLoad_bearing) causeWakeFail
  have h1 : c1 = s.chip.dropLoad.asleep causeWakeFail := rfl
  rw [← h1] at hc1 hi
  clear_value c1
  have h2 : s.chip.StandsIn c2 .deepSleep causeWakeFail := hc1.onWh _
  refine ⟨(h2.onLk _).report, hi, ?_, fun h3 => ?_⟩
  · simp [Chip.report, Chip.evt, c2, n]
  · have hn : n = 3 := Nat.min_eq_left h3
    simp [Chip.report, Chip.evt, c2, hn]

/-- E1 (R175, R205, R252): no image is valid, and the timebase runs on XIN where it is present. -/
theorem wakeComplete_ends (he : s.chip.mode.edge = some .e1) (hp : s.chip.pw.step = none)
    (ha : s.chip.ck.xinArmed = true) :
    ∃ d, exec .wakeComplete s = .next { s with chip := d } ∧
      s.chip.arrived d .standby (if s.chip.mode.cold then 0 else 6) ∧ d.mode.imageValid = false ∧
      d.mode.limp = !s.chip.ck.xinPresent ∧ d.wh.failCount = 0 ∧
      (s.chip.ck.xinPresent = true → d.ck.tbOnIrc = false) := by
  refine ⟨s.chip.wakeEnd, ?_, ?_⟩
  · simp only [exec, execWakeComplete, State.effect_of_runs hs, if_pos (And.intro he (And.intro hp ha))]
  unfold Chip.wakeEnd
  extract_lets c1 c2 c3
  have h1 : s.chip.StandsIn c1 .standby (if s.chip.mode.cold then causePor else causeWakeEvent) :=
    Chip.enter_standsIn (.refl s.chip) .standby _
  clear_value c1
  have h2 : s.chip.StandsIn (c2.onWh fun w => { w with failCount := 0 }) .standby
      (if s.chip.mode.cold then causePor else causeWakeEvent) :=
    ⟨⟨h1.forced, h1.tag, h1.reqTag, h1.flash⟩, h1.seat, h1.edge, h1.moored⟩
  have h3 := h2.report
  split
  next hx => exact ⟨h3, rfl, rfl, rfl, fun _ => rfl⟩
  next hx => exact ⟨h3, rfl, rfl, rfl, fun h => absurd h hx⟩

end

end Sys2Proof.Machine
end

section
/-! SUPPORT. The ends of LOAD (E3 and the start of E4), the exit from LIMP (R36), and what the ends of all edges come to
(Table 1.4, Table 1.7). -/

namespace Sys2Proof.Machine

open Sys2Proof

/-! ### LOAD -/

theorem Chip.loadStart_phase (c : Chip) : c.loadStart.ld.phase = .bist := by
  unfold Chip.loadStart
  extract_lets c1 c2
  have h : ([0, 1].foldl (fun (c : Chip) ch => c.onMc ch fun m => { m with softRecords := [] }) c2).course Prod.fst =
      c2.course Prod.fst := by simp
  exact congrArg (·.loaded) h

/-- E3 has ended: LOAD has been entered, with no edge in progress and the request's target kept (log entry 12). -/
theorem Chip.loadEntered_bearing (c : Chip) : c.loadEntered.bearing = c.bearing.arrived .load causeHost := by
  unfold Chip.loadEntered
  rw [Chip.loadStart_bearing, Chip.enter_bearing]
  have h : (if c.mfstPending then c.mfstEnd .error meAborted else c).wakeDram.bearing = c.bearing := by simp
  rw [h]

/-- LOAD has ended with a valid image, and its lock events are set (Table 6.8). -/
def Course.loadDone (b : Course (LoadPhase × Locks)) (safe : Bool) : Course (LoadPhase × Locks) :=
  { b with
    mode := { b.mode with imageValid := true, loadFailed := false }
    loaded := (.done, { b.loaded.2 with pinmux := true, dbg := true, maxv := true, safe := b.loaded.2.safe || safe }) }

theorem Chip.loadComplete_course (c : Chip) : c.loadComplete.course id =
    ((c.course id).loadDone c.ld.safePlaced).heading .e4
      (if c.mode.target = .load then .standby else c.mode.target) := by
  unfold Chip.loadComplete
  extract_lets t c1 locks c2 c3
  have h2 : c2.course id = (c.course id).loadDone c.ld.safePlaced := rfl
  have h3 : c3.course id = c2.course id := by simp [c3]
  rw [Chip.beginEdge_course, h3, h2]

/-- On the way to a mode other than STANDBY no channel drains its writes. -/
theorem Chip.loadComplete_stores (c : Chip)
    (h : (if c.mode.target = .load then .standby else c.mode.target) ≠ Mode.standby) :
    c.loadComplete.stores = c.stores := by
  unfold Chip.loadComplete
  extract_lets t c1 locks c2 c3
  have h2 : c2.stores = c.stores := rfl
  have h3 : c3.stores = c2.stores := by simp [c3]
  rw [Chip.beginEdge_stores _ _ _ h, h3, h2]

section

variable {s : State} (hs : s.runs)

include hs

/-- E3. -/
theorem loadEntered_ends (he : s.chip.mode.edge = some .e3) :
    ∃ d, exec .loadEntered s = .next { s with chip := d } ∧ d.seat = (.load, 1) ∧ d.mode.edge = none ∧
      d.mode.target = s.chip.mode.target ∧ d.ld.phase = .bist ∧ d.flash = s.chip.flash := by
  refine ⟨s.chip.loadEntered, ?_, ?_⟩
  · simp only [exec, execLoadEntered, State.effect_of_runs hs, if_pos he]
  have hb := s.chip.loadEntered_bearing
  have hp : s.chip.loadEntered.ld.phase = .bist := Chip.loadStart_phase _
  generalize s.chip.loadEntered = d at hb hp ⊢
  exact ⟨congrArg (fun b => (b.mode.mode, b.mode.cause)) hb, congrArg (·.mode.edge) hb, congrArg (·.mode.target) hb, hp,
    congrArg (·.flash) hb⟩

/-- LOAD ends in E4 (Table 1.4). -/
theorem loadComplete_ends (hl : s.chip.inLoad .manifests = true) :
    ∃ d, exec .loadComplete s = .next { s with chip := d } ∧ d.seat = s.chip.seat ∧ d.mode.edge = some .e4 ∧
      d.mode.target = (if s.chip.mode.target = .load then .standby else s.chip.mode.target) ∧
      d.mode.imageValid = true ∧ d.mode.loadFailed = false ∧ d.ld.phase = .done ∧ d.locks.pinmux = true ∧
      d.locks.dbg = true ∧ d.locks.maxv = true ∧ d.flash = s.chip.flash ∧
      (d.mode.target ≠ .standby → d.stores = s.chip.stores) := by
  refine ⟨s.chip.loadComplete, ?_, s.chip.loadComplete_seat, ?_⟩
  · simp only [exec, execLoadComplete, State.effect_of_runs hs, if_pos hl]
  have h := s.chip.loadComplete_course
  have hst := s.chip.loadComplete_stores
  generalize s.chip.loadComplete = d at h hst ⊢
  have ht : d.mode.target = if s.chip.mode.target = .load then .standby else s.chip.mode.target :=
    congrArg (·.mode.target) h
  exact ⟨congrArg (·.mode.edge) h, ht, congrArg (·.mode.imageValid) h, congrArg (·.mode.loadFailed) h,
    congrArg (·.loaded.1) h, congrArg (·.loaded.2.pinmux) h, congrArg (·.loaded.2.dbg) h, congrArg (·.loaded.2.maxv) h,
    congrArg (·.flash) h, fun hne => hst (ht ▸ hne)⟩

/-- XIN has been in its window for 1 ms in STANDBY-LIMP (R36, R205). -/
theorem limpExit_ends (hm : s.chip.mode.mode = .standby) (hl : s.chip.mode.limp = true)
    (hx : 1000 ≤ s.chip.ck.inWindowUs) :
    ∃ d, exec .limpExit s = .next { s with chip := d } ∧ s.chip.sameBut d [CKG_MON_STAT.addr] ∧ d.mode.limp = false ∧
      d.seat = s.chip.seat ∧ d.ck.xinPresent = true ∧ d.ck.tbOnIrc = false ∧ d.rd CKG_MON_STAT_XIN_OK = 1 ∧
      d.wh.evt.getLsbD evMode = true ∧ d.stores = s.chip.stores := by
  let c1 := (s.chip.onMode fun x => { x with limp := false }).onCk fun k => { k with xinPresent := true }
  refine ⟨((c1.wr CKG_MON_STAT_XIN_OK 1).tbToXin).evt evMode, ?_, ?_, rfl, rfl, rfl, rfl, ?_,
    Chip.evt_getLsbD _ evMode (by decide), rfl⟩
  · simp only [exec, execLimpExit, State.effect_of_runs hs, if_pos (And.intro hm (And.intro hl hx)), c1]
  · intro a ha
    exact c1.get_wr_ne CKG_MON_STAT_XIN_OK 1 a fun h => ha (List.mem_singleton.mpr h)
  · exact c1.rd_wr_lt CKG_MON_STAT_XIN_OK 1 (by simp [Field.fits, CKG_MON_STAT_XIN_OK]) (by decide)

end

/-! ### The ends of the edges -/

/-- Settles O12: one lemma for each command that ends an edge; where two edges end in one mode, by the edge. -/
theorem modeEdgesEnd : Obligations.ModeEdgesEnd := by
  unfold Obligations.ModeEdgesEnd
  refine ⟨fun s i _ he hi => exec_of_noEdge he hi, ?_, ?_, ?_, ?_, ?_, ?_, ?_, ?_, ?_, ?_, ?_, ?_⟩
  · intro s i e m cause hs _ he hi
    simp only [List.mem_cons, List.not_mem_nil, or_false, Prod.mk.injEq] at hi
    rcases hi with ⟨rfl, rfl, rfl, rfl⟩ | ⟨rfl, rfl, rfl, rfl⟩ | ⟨rfl, rfl, rfl, rfl⟩ | ⟨rfl, rfl, rfl, rfl⟩
    · obtain ⟨d, hd, ha⟩ := standbyEntered_ends hs (.inl he)
      exact ⟨d, hd, ha, nofun⟩
    · obtain ⟨d, hd, ha⟩ := standbyEntered_ends hs (.inr (.inl he))
      exact ⟨d, hd, ha, nofun⟩
    · obtain ⟨d, hd, ha⟩ := calibrateEntered_ends hs he
      exact ⟨d, hd, ha, nofun⟩
    · obtain ⟨d, hd, ha, hv⟩ := loadFailExit_ends hs he
      exact ⟨d, hd, ha, fun _ => hv⟩
  · intro s hs _ hn he
    have hedge : s.chip.mode.edge = some .e6 ∨ s.chip.mode.edge = some .e4 := he.imp_right And.left
    obtain ⟨hseat, hbound, hflash, hmoor, harr⟩ := s.chip.enterPicture_ends s.chip.mode.target
    refine ⟨s.chip.enterPicture s.chip.mode.target, ?_, hseat, hbound, hflash, ?_⟩
    · simp only [exec, execPictureModeEntered, State.effect_of_runs hs, if_pos (And.intro hedge hn)]
    · split
      next h => exact hmoor h
      next h => exact harr h
  · exact fun s hs _ he _ ht => standbyEntered_ends hs (.inr (.inr ⟨he, ht⟩))
  · exact fun s hs _ he ht => calibrateExited_ends hs he ht
  · exact fun s hs _ he => holdEntered_ends hs he
  · exact fun s hs _ he => reflostComplete_ends hs he
  · exact fun s hs _ he hb => sleepComplete_ends hs he hb
  · exact fun s hs _ he hb => wakeFailComplete_ends hs he hb
  · exact fun s hs _ he hp ha => wakeComplete_ends hs he hp ha
  · exact fun s hs _ he => loadEntered_ends hs he
  · exact fun s hs hl => loadComplete_ends hs hl
  · exact fun s hs hm hl hx => limpExit_ends hs hm hl hx

end Sys2Proof.Machine
end

section
/-! SUPPORT. The plane durations of a field (R80-R83): the rank order is a strict total order, so that exactly as many
planes as there are remainder ticks stand in its first places, and each of those has a remainder. -/

namespace Sys2Proof.Machine

open Sys2Proof

/-! ### The rank order -/

theorem rankBefore_iff {a b : Nat × Nat × Nat} : rankBefore a b = true ↔
    b.1 < a.1 ∨ a.1 = b.1 ∧ (b.2.1 < a.2.1 ∨ a.2.1 = b.2.1 ∧ a.2.2 < b.2.2) := by
  simp [rankBefore]

@[simp] theorem rankBefore_irrefl (a : Nat × Nat × Nat) : rankBefore a a = false := by
  simp [rankBefore]

theorem rankBefore_trans {a b c : Nat × Nat × Nat} (hab : rankBefore a b = true) (hbc : rankBefore b c = true) :
    rankBefore a c = true := by
  rw [rankBefore_iff] at *
  omega

theorem rankBefore_total {a b : Nat × Nat × Nat} (h : a ≠ b) : rankBefore a b = true ∨ rankBefore b a = true := by
  rw [rankBefore_iff, rankBefore_iff]
  rw [Ne, Prod.ext_iff, Prod.ext_iff] at h
  omega

/-! ### The rank of a plane -/

theorem rankOf_lt_length {xs : List (Nat × Nat × Nat)} {x : Nat × Nat × Nat} (hx : x ∈ xs) :
    rankOf xs x < xs.length :=
  List.length_filter_lt_length_iff_exists.mpr ⟨x, hx, by simp⟩

theorem rankOf_lt_of_before {xs : List (Nat × Nat × Nat)} {a b : Nat × Nat × Nat} (ha : a ∈ xs)
    (hab : rankBefore a b = true) : rankOf xs a < rankOf xs b := by
  have hsub : (xs.filter (rankBefore · a)).Sublist (xs.filter (rankBefore · b)) :=
    List.monotone_filter_right xs fun _ hy => rankBefore_trans hy hab
  refine lt_of_le_of_ne hsub.length_le fun hlen => ?_
  have hmem : a ∈ xs.filter (rankBefore · b) := List.mem_filter.mpr ⟨ha, hab⟩
  rw [← hsub.eq_of_length hlen] at hmem
  simp at hmem

/-- The ranks of distinct planes are the places `0, 1, …` of the rank order, each taken once. -/
theorem map_rankOf_perm_range {xs : List (Nat × Nat × Nat)} (hnd : xs.Nodup) :
    (xs.map (rankOf xs)).Perm (List.range xs.length) := by
  have inj : ∀ a ∈ xs, ∀ b ∈ xs, rankOf xs a = rankOf xs b → a = b := by
    intro a ha b hb heq
    by_contra hne
    rcases rankBefore_total hne with h | h
    · exact (rankOf_lt_of_before ha h).ne heq
    · exact (rankOf_lt_of_before hb h).ne' heq
  have sub : xs.map (rankOf xs) ⊆ List.range xs.length := by
    intro r hr
    obtain ⟨x, hx, rfl⟩ := List.mem_map.mp hr
    exact List.mem_range.mpr (rankOf_lt_length hx)
  exact ((hnd.map_on inj).subperm sub).perm_of_length_le (by simp)

theorem countP_lt_range {R n : Nat} (h : R ≤ n) : (List.range n).countP (· < R) = R := by
  obtain ⟨k, rfl⟩ := Nat.exists_eq_add_of_le h
  rw [List.range_add, List.countP_append, List.countP_eq_length.mpr (by simp),
    List.countP_eq_zero.mpr (by simp), List.length_range, Nat.add_zero]

/-- Of distinct planes, `R` have a rank below `R`. -/
theorem countP_rankOf_lt {xs : List (Nat × Nat × Nat)} (hnd : xs.Nodup) {R : Nat} (hR : R ≤ xs.length) :
    xs.countP (rankOf xs · < R) = R := by
  have h := (map_rankOf_perm_range hnd).countP_eq (· < R)
  rwa [List.countP_map, countP_lt_range hR] at h

/-- A plane without a remainder stands behind all that have one. -/
theorem countP_pos_le_rankOf {xs : List (Nat × Nat × Nat)} {x : Nat × Nat × Nat} (hx : x.1 = 0) :
    xs.countP (0 < ·.1) ≤ rankOf xs x := by
  rw [rankOf, ← List.countP_eq_length_filter]
  refine List.countP_mono_left fun y _ hy => rankBefore_iff.mpr (.inl ?_)
  rw [hx]
  exact of_decide_eq_true hy

/-! ### The allocator, over one list of keys -/

theorem weightSum_eq_sum (W : List Nat) : weightSum W = W.sum := List.sum_eq_foldl.symm

/-- The keys that R80 ranks: the remainder, the weight and the index of each plane. -/
def planeKeys (W : List Nat) (T : Nat) : List (Nat × Nat × Nat) :=
  W.zipIdx.map fun p => (p.1 * T % W.sum, p.1, p.2)

/-- The integer quotient of a plane of weight `w` (R80). -/
def planeBase (W : List Nat) (T w : Nat) : Nat := w * T / W.sum

/-- The remainder ticks of a field (`R` of R80). -/
def restTicks (W : List Nat) (T : Nat) : Nat := T - (W.map (planeBase W T)).sum

/-- The duration of the plane of key `k` (R80). -/
def planeDuration (W : List Nat) (T : Nat) (k : Nat × Nat × Nat) : Nat :=
  planeBase W T k.2.1 + if rankOf (planeKeys W T) k < restTicks W T then 1 else 0

section
variable (W : List Nat) (T : Nat)

theorem planeKeys_nodup : (planeKeys W T).Nodup := by
  refine .of_map (fun k => k.2.2) ?_
  rw [planeKeys, List.map_map]
  exact List.nodup_zipIdx_map_snd W

@[simp] theorem length_planeKeys : (planeKeys W T).length = W.length := by
  simp [planeKeys]

theorem map_zipIdx_fst {α β : Type} (f : α → β) (xs : List α) : (xs.zipIdx.map fun p => f p.1) = xs.map f := by
  conv_rhs => rw [← List.zipIdx_map_fst 0 xs, List.map_map]
  rfl

theorem map_weight_planeKeys (g : Nat → Nat) : ((planeKeys W T).map fun k => g k.2.1) = W.map g := by
  rw [planeKeys, List.map_map]
  exact map_zipIdx_fst g W

theorem map_remainder_planeKeys : (planeKeys W T).map (·.1) = W.map fun w => w * T % W.sum := by
  rw [planeKeys, List.map_map]
  exact map_zipIdx_fst (fun w => w * T % W.sum) W

theorem allocate_of_dark (h : W.sum = 0) :
    allocate W T = (List.range W.length).map fun i => if i = 0 then T else 0 := by
  simp only [allocate, weightSum_eq_sum, if_pos h]

theorem allocate_of_lit (h : W.sum ≠ 0) : allocate W T = (planeKeys W T).map (planeDuration W T) := by
  have hzip : (W.map (planeBase W T)).zip (planeKeys W T) =
      (planeKeys W T).map fun k => (planeBase W T k.2.1, k) := by
    rw [← map_weight_planeKeys W T (planeBase W T)]
    simpa using List.zip_map' (f := fun k => planeBase W T k.2.1) (g := id) (l := planeKeys W T)
  have hdef : allocate W T = ((W.map (planeBase W T)).zip (planeKeys W T)).map fun p =>
      if rankOf (planeKeys W T) p.2 < restTicks W T then p.1 + 1 else p.1 := by
    simp only [allocate, weightSum_eq_sum, if_neg h]
    rfl
  rw [hdef, hzip, List.map_map]
  refine List.map_congr_left fun k _ => ?_
  simp only [planeDuration, Function.comp_apply]
  split <;> rfl

theorem length_allocate : (allocate W T).length = W.length := by
  by_cases h : W.sum = 0
  · simp [allocate_of_dark W T h]
  · simp [allocate_of_lit W T h]

/-! ### The remainder ticks -/

/-- Quotients and remainders of the planes together make up the field time, `S` times over. -/
theorem sum_planeBase_add_remainders :
    W.sum * (W.map (planeBase W T)).sum + ((planeKeys W T).map (·.1)).sum = W.sum * T := by
  rw [map_remainder_planeKeys, ← List.sum_map_mul_left, ← List.sum_map_add]
  simp only [planeBase, Nat.div_add_mod, List.sum_map_mul_right, List.map_id']

variable {W}

theorem sum_planeBase_add_restTicks (h : W.sum ≠ 0) : (W.map (planeBase W T)).sum + restTicks W T = T := by
  have hle : W.sum * (W.map (planeBase W T)).sum ≤ W.sum * T :=
    (Nat.le_add_right _ _).trans_eq (sum_planeBase_add_remainders W T)
  exact Nat.add_sub_of_le (Nat.le_of_mul_le_mul_left hle (Nat.pos_of_ne_zero h))

/-- The remainders of a field make up its remainder ticks, `S` times over. -/
theorem sum_remainders_eq_mul_restTicks (h : W.sum ≠ 0) :
    ((planeKeys W T).map (·.1)).sum = W.sum * restTicks W T := by
  have hall := sum_planeBase_add_remainders W T
  conv_rhs at hall => rw [← sum_planeBase_add_restTicks T h, Nat.mul_add]
  exact Nat.add_left_cancel hall

/-- A sum of terms at most `S` is at most `S` for each term that is not 0. -/
theorem sum_map_le_mul_countP_pos {α : Type} {f : α → Nat} {S : Nat} {xs : List α} (h : ∀ x ∈ xs, f x ≤ S) :
    (xs.map f).sum ≤ S * xs.countP (0 < f ·) := by
  induction xs with
  | nil => simp
  | cons x xs ih =>
    obtain ⟨hx, hxs⟩ := List.forall_mem_cons.mp h
    have ih := ih hxs
    rw [List.map_cons, List.sum_cons, List.countP_cons]
    by_cases hpos : 0 < f x
    · rw [if_pos (decide_eq_true hpos), Nat.mul_add]
      omega
    · simpa [Nat.eq_zero_of_not_pos hpos] using ih

/-- No more remainder ticks than planes with a remainder (R82). -/
theorem restTicks_le_countP_pos (h : W.sum ≠ 0) : restTicks W T ≤ (planeKeys W T).countP (0 < ·.1) := by
  have hS : 0 < W.sum := Nat.pos_of_ne_zero h
  have hle : ∀ k ∈ planeKeys W T, k.1 ≤ W.sum := by
    intro k hk
    obtain ⟨p, -, rfl⟩ := List.mem_map.mp hk
    exact (Nat.mod_lt _ hS).le
  refine Nat.le_of_mul_le_mul_left ?_ hS
  rw [← sum_remainders_eq_mul_restTicks T h]
  exact sum_map_le_mul_countP_pos hle

theorem restTicks_le_length (h : W.sum ≠ 0) : restTicks W T ≤ (planeKeys W T).length :=
  (restTicks_le_countP_pos T h).trans List.countP_le_length

/-! ### What the durations come to -/

theorem sum_map_ite_one_zero {α : Type} (p : α → Prop) [DecidablePred p] (xs : List α) :
    (xs.map fun x => if p x then 1 else 0).sum = xs.countP (p ·) := by
  induction xs with
  | nil => rfl
  | cons x xs ih => simp [ih, List.countP_cons, Nat.add_comm]

/-- R81, where some plane has a weight. -/
theorem sum_allocate_of_lit (h : W.sum ≠ 0) : (allocate W T).sum = T := by
  calc (allocate W T).sum
      = ((planeKeys W T).map fun k => planeBase W T k.2.1).sum +
          ((planeKeys W T).map fun k => if rankOf (planeKeys W T) k < restTicks W T then 1 else 0).sum := by
        rw [allocate_of_lit W T h, ← List.sum_map_add]
        rfl
    _ = (W.map (planeBase W T)).sum + restTicks W T := by
        rw [sum_map_ite_one_zero, countP_rankOf_lt (planeKeys_nodup W T) (restTicks_le_length T h),
          map_weight_planeKeys W T (planeBase W T)]
    _ = T := sum_planeBase_add_restTicks T h

/-- R81 of a dark field (R83). -/
theorem sum_allocate_of_dark (hne : W ≠ []) (h : W.sum = 0) : (allocate W T).sum = T := by
  obtain ⟨w, ws, rfl⟩ := List.exists_cons_of_ne_nil hne
  rw [allocate_of_dark _ T h, List.length_cons, List.range_succ_eq_map]
  simp [Function.comp_def]

/-- The key of plane `i`, and its duration by it. -/
theorem allocate_getD_of_lit (h : W.sum ≠ 0) {i : Nat} (hi : i < W.length) :
    (allocate W T).getD i 0 = planeDuration W T (W.getD i 0 * T % W.sum, W.getD i 0, i) := by
  simp [allocate_of_lit W T h, planeKeys, hi]

theorem allocate_getD_of_dark (h : W.sum = 0) {i : Nat} (hi : i < W.length) :
    (allocate W T).getD i 0 = if i = 0 then T else 0 := by
  simp [allocate_of_dark W T h, hi]

/-- R82: the planes with a remainder use up the remainder ticks before a plane of weight 0 is reached. -/
theorem planeDuration_of_weight_zero (h : W.sum ≠ 0) (i : Nat) : planeDuration W T (0, 0, i) = 0 := by
  have hrank : ¬rankOf (planeKeys W T) (0, 0, i) < restTicks W T :=
    Nat.not_lt.mpr ((restTicks_le_countP_pos T h).trans (countP_pos_le_rankOf rfl))
  simp [planeDuration, planeBase, hrank]

variable (W) in
theorem planeDuration_eq_or (k : Nat × Nat × Nat) :
    planeDuration W T k = planeBase W T k.2.1 ∨ planeDuration W T k = planeBase W T k.2.1 + 1 := by
  unfold planeDuration
  split
  · exact .inr rfl
  · exact .inl rfl

end

/-- Settles O60: the quotients fall short of the field time by the remainder ticks, the places of the rank order below
that number are as many, and all of them are held by planes with a remainder. -/
theorem planeDurations : Obligations.PlaneDurations := by
  unfold Obligations.PlaneDurations
  intro W T hne
  refine ⟨length_allocate W T, ?_, fun h i hi => ⟨fun hw => ?_, ?_⟩, fun h i hi => allocate_getD_of_dark T h hi⟩
  · by_cases h : W.sum = 0
    · exact sum_allocate_of_dark T hne h
    · exact sum_allocate_of_lit T h
  · rw [allocate_getD_of_lit T h hi, hw, Nat.zero_mul, Nat.zero_mod]
    exact planeDuration_of_weight_zero T h i
  · rw [allocate_getD_of_lit T h hi]
    exact planeDuration_eq_or W T _

end Sys2Proof.Machine
end

section
/-! SUPPORT. Registers changed and registers left: writes that stay inside a list of registers, and what an operation
leaves once the sequencers, the clock uses (R168) and the waiting requests for domains (R234) have followed it. -/

namespace Sys2Proof.Machine

open Sys2Proof

/-! ### Fields, with side conditions that can be decided -/

/-- The field lies inside its register. -/
abbrev Field.inside (f : Field) : Bool := decide (f.lo ≤ f.hi) && decide (f.hi < 32)

/-- The fields have no bit of a register in common. -/
abbrev Field.clear (f g : Field) : Bool :=
  f.inside && g.inside && (decide (g.addr ≠ f.addr) || decide (f.hi < g.lo) || decide (g.hi < f.lo))

theorem Field.fits_of_inside {f : Field} (h : f.inside = true) : f.fits := by
  simpa [Field.inside, Field.fits] using h

theorem Chip.rd_wr_same (c : Chip) (f : Field) (v : Nat) (h : f.inside = true) : (c.wr f v).rd f = v % 2 ^ f.width :=
  c.rd_wr_self f v (Field.fits_of_inside h)

theorem Chip.rd_wr_clear (c : Chip) (f g : Field) (v : Nat) (h : f.clear g = true) : (c.wr f v).rd g = c.rd g := by
  simp only [Field.clear, Bool.and_eq_true, Bool.or_eq_true, decide_eq_true_eq] at h
  obtain ⟨⟨hf, hg⟩, (ha | hl) | hl⟩ := h
  · exact c.rd_wr_ne f g v ha
  · exact c.rd_wr_apart f g v (Field.fits_of_inside (by simpa using hf)) (Field.fits_of_inside (by simpa using hg)) (.inl hl)
  · exact c.rd_wr_apart f g v (Field.fits_of_inside (by simpa using hf)) (Field.fits_of_inside (by simpa using hg)) (.inr hl)

/-! ### Registers left as they were -/

section

variable {c d e : Chip} {as bs : List Nat}

theorem Chip.sameBut.refl (c : Chip) (as : List Nat) : c.sameBut c as := fun _ _ => rfl

theorem Chip.sameBut.trans (h : c.sameBut d as) (k : d.sameBut e bs) : c.sameBut e (as ++ bs) := fun a ha =>
  (k a fun hb => ha (List.mem_append_right _ hb)).trans (h a fun hb => ha (List.mem_append_left _ hb))

theorem Chip.sameBut.mono (h : c.sameBut d as) (hs : as ⊆ bs) : c.sameBut d bs := fun a ha => h a fun hb => ha (hs hb)

theorem Chip.sameBut.rd (h : c.sameBut d as) {f : Field} (hf : f.addr ∉ as) : d.rd f = c.rd f :=
  congrArg f.get (h f.addr hf)

theorem Chip.sameBut.flag (h : c.sameBut d as) {f : Field} (hf : f.addr ∉ as) : d.flag f = c.flag f := by
  unfold Chip.flag
  rw [h.rd hf]

theorem Chip.sameBut.setReg (h : c.sameBut d as) {a : Nat} (w : Word) (ha : a ∈ as) : c.sameBut (d.setReg a w) as :=
  fun b hb => (d.get_setReg_ne a b w fun hab => hb (hab ▸ ha)).trans (h b hb)

theorem Chip.sameBut.wr (h : c.sameBut d as) {f : Field} (v : Nat) (hf : f.addr ∈ as) : c.sameBut (d.wr f v) as :=
  h.setReg _ hf

theorem Chip.onlyRegs.refl (c : Chip) (as : List Nat) : c.onlyRegs c as := ⟨rfl, .refl c as⟩

theorem Chip.onlyRegs_iff : c.onlyRegs d as ↔ ∃ r, d = { c with regs := r } ∧ c.sameBut d as :=
  ⟨fun h => ⟨d.regs, h⟩, fun ⟨r, h, hs⟩ => ⟨by rw [h], hs⟩⟩

theorem Chip.onlyRegs.ld (h : c.onlyRegs d as) : d.ld = c.ld := by rw [h.1]

theorem Chip.onlyRegs.dram (h : c.onlyRegs d as) : d.dram = c.dram := by rw [h.1]

theorem Chip.onlyRegs.flash (h : c.onlyRegs d as) : d.flash = c.flash := by rw [h.1]

theorem Chip.onlyRegs.ld_frame (h : c.onlyRegs d as) : d = { c with regs := d.regs, ld := d.ld } := by
  obtain ⟨r, rfl, -⟩ : ∃ r, d = { c with regs := r } ∧ c.sameBut d as := ⟨d.regs, h⟩
  rfl

theorem Chip.onlyRegs.setReg (h : c.onlyRegs d as) {a : Nat} (w : Word) (ha : a ∈ as) : c.onlyRegs (d.setReg a w) as := by
  refine ⟨?_, h.2.setReg w ha⟩
  rw [h.1]
  rfl

theorem Chip.onlyRegs.wr (h : c.onlyRegs d as) {f : Field} (v : Nat) (hf : f.addr ∈ as) : c.onlyRegs (d.wr f v) as :=
  h.setReg _ hf

theorem Chip.onlyRegs.foldl {α : Type} (h : c.onlyRegs d as) (f : Chip → α → Chip) (l : List α)
    (hf : ∀ (e : Chip) (x : α), x ∈ l → c.onlyRegs e as → c.onlyRegs (f e x) as) : c.onlyRegs (l.foldl f d) as := by
  induction l generalizing d with
  | nil => exact h
  | cons x t ih =>
    exact ih (hf d x List.mem_cons_self h) fun e y hy he => hf e y (List.mem_cons_of_mem _ hy) he

end

/-! ### Uses (R168) -/

theorem domAddr_mem_clockDoms {n : Nat} (h : n ∈ (List.range 25).map (· + 1)) : domAddr n ∈ clockDoms := by
  obtain ⟨k, hk, rfl⟩ := List.mem_map.mp h
  exact List.mem_map.mpr ⟨k, hk, rfl⟩

/-- Taking uses sets enables of clock domains and nothing else. -/
theorem Chip.takeUses_onlyRegs (c before : Chip) : c.onlyRegs (c.takeUses before) clockDoms := by
  refine (Chip.onlyRegs.refl c clockDoms).foldl _ _ fun e n hn he => ?_
  split
  · exact he.setReg _ (domAddr_mem_clockDoms hn)
  · exact he

/-- The scan-outs run as before, and the edge in progress is the same. -/
structure Chip.SameRun (c d : Chip) : Prop where
  stateA : d.soState 0 = c.soState 0
  stateB : d.soState 1 = c.soState 1
  locked : d.soLocked = c.soLocked
  edge : d.mode.edge = c.mode.edge

theorem Chip.SameRun.of_sameBut {c d : Chip} {as : List Nat} (h : c.sameBut d as) (hA : SOA_STAT.addr ∉ as)
    (hB : (soF 1 SOA_STAT).addr ∉ as) (he : d.mode.edge = c.mode.edge) : c.SameRun d :=
  ⟨h.rd (f := soF 0 SOA_STAT_STATE) hA, h.rd (f := soF 1 SOA_STAT_STATE) hB, h.flag (f := soF 1 SOA_STAT_LOCKED) hB, he⟩

/-- An operation that stops and starts no scan-out and ends no edge takes its uses, and nothing else follows it. -/
theorem Chip.withUses_of_sameRun {c : Chip} {f : Chip → Chip} (h : c.SameRun (f c)) :
    c.withUses f = (f c).takeUses c := by
  obtain ⟨r, hr, -⟩ := Chip.onlyRegs_iff.mp ((f c).takeUses_onlyRegs c)
  have hedge : ((f c).takeUses c).mode.edge = c.mode.edge := by rw [hr]; exact h.edge
  have hseq : (f c).sequencers c = f c := if_pos ⟨h.stateA, h.stateB, h.locked⟩
  unfold Chip.withUses Chip.pdLate
  rw [hseq, hedge]
  cases c.mode.edge <;> rfl

theorem Chip.withUses_congr {c : Chip} {f g : Chip → Chip} (h : f c = g c) : c.withUses f = c.withUses g := by
  unfold Chip.withUses
  rw [h]

/-- Such an operation changes beyond its own doing only enables of clock domains. -/
theorem Chip.withUses_onlyRegs {c : Chip} {f : Chip → Chip} (h : c.SameRun (f c)) :
    (f c).onlyRegs (c.withUses f) clockDoms := by
  rw [Chip.withUses_of_sameRun h]
  exact (f c).takeUses_onlyRegs c

end Sys2Proof.Machine
end

section
/-! SUPPORT. Host flash commands (R297-R299, Table 6.13), the read of a ledger slot and the arming of the fuses (R302). -/

namespace Sys2Proof.Machine

open Sys2Proof

/-! ### The bytes of the array -/

theorem SMap.get_clearRange {α : Type} (d : Nat → α) (m : List (Nat × α)) (lo hi k : Nat) :
    SMap.get d (SMap.clearRange m lo hi) k = if lo ≤ k ∧ k < hi then d k else SMap.get d m k := by
  induction m with
  | nil => simp [SMap.clearRange, SMap.get]
  | cons x t ih =>
    obtain ⟨a, v⟩ := x
    unfold SMap.clearRange at ih ⊢
    by_cases ha : a < lo ∨ hi ≤ a
    · rw [List.filter_cons_of_pos (by simpa using ha)]
      by_cases hk : a = k
      · subst hk
        simp only [SMap.get, if_pos]
        rw [if_neg (by omega)]
      · simp only [SMap.get, if_neg hk, ih]
    · rw [List.filter_cons_of_neg (by simpa using ha), ih]
      by_cases hk : a = k
      · subst hk
        rw [if_pos (by omega), if_pos (by omega)]
      · simp only [SMap.get, if_neg hk]

theorem SMap.get_setRun {α : Type} [DecidableEq α] (d : Nat → α) (m : List (Nat × α)) (k j : Nat) (vs : List α)
    (x : α) : SMap.get d (SMap.setRun d m k 1 vs) j =
      if k ≤ j ∧ j < k + vs.length then vs.getD (j - k) x else SMap.get d m j := by
  split
  next h =>
    obtain ⟨i, rfl⟩ := Nat.exists_eq_add_of_le h.1
    have hi : i < vs.length := by omega
    rw [SMap.get_setRun_inside d vs m k i hi]
    simp [hi]
  next h =>
    by_cases hj : j < k
    · exact SMap.get_setRun_below d vs m k 1 j hj
    · exact SMap.get_setRun_behind d vs m k j (by omega)

theorem Chip.flashByte_flashErase (c : Chip) (a n b : Nat) :
    (c.flashErase a n).flashByte b = if a ≤ b ∧ b < a + n then 0xFF#8 else c.flashByte b :=
  SMap.get_clearRange flashDefault c.flash a (a + n) b

theorem Chip.flashByte_flashOpen (c : Chip) (a n b : Nat) (h : b < a ∨ a + n ≤ b) :
    (c.flashOpen a n).flashByte b = c.flashByte b := by
  refine (SMap.get_setRun flashDefault c.flash a b _ 0).trans (if_neg ?_)
  simp only [List.length_map, List.length_range]
  omega

/-- Programming ands the bytes given into those that stand there (log entry 30). -/
theorem Chip.flashByte_flashProgram (c : Chip) (a : Nat) (bs : List Byte) (b : Nat) :
    (c.flashProgram a bs).flashByte b =
      if a ≤ b ∧ b < a + bs.length then c.flashByte b &&& bs.getD (b - a) 0 else c.flashByte b := by
  refine (SMap.get_setRun flashDefault c.flash a b _ 0).trans ?_
  have hlen : ((c.flashBytes a bs.length).zipWith (· &&& ·) bs).length = bs.length := by simp [Chip.flashBytes]
  rw [hlen]
  split
  next h =>
    obtain ⟨i, rfl⟩ := Nat.exists_eq_add_of_le h.1
    have hi : i < bs.length := by omega
    simp [Chip.flashBytes, hi]
  next => rfl

/-! ### Little-endian words -/

theorem leBytes_lt (bs : List Byte) : leBytes bs < 256 ^ bs.length := by
  induction bs with
  | nil => simp [leBytes]
  | cons b t ih =>
    have h : leBytes (b :: t) = b.toNat + 256 * leBytes t := rfl
    have hb := b.isLt
    rw [h, List.length_cons, Nat.pow_succ]
    omega

theorem toLe_succ (n v : Nat) : toLe (n + 1) v = BitVec.ofNat 8 v :: toLe n (v / 256) := by
  simp [toLe, List.range_succ_eq_map, Nat.div_div_eq_div_mul, Function.comp_def, Nat.pow_succ, Nat.mul_comm]

theorem leBytes_toLe (n v : Nat) : leBytes (toLe n v) = v % 256 ^ n := by
  induction n generalizing v with
  | zero => simp [toLe, leBytes, Nat.mod_one]
  | succ n ih =>
    have h : leBytes (BitVec.ofNat 8 v :: toLe n (v / 256)) = (BitVec.ofNat 8 v).toNat + 256 * leBytes (toLe n (v / 256)) := rfl
    rw [toLe_succ, h, ih, Nat.pow_succ, Nat.mul_comm (256 ^ n), Nat.mod_mul]
    simp

theorem toLe_leBytes (bs : List Byte) : toLe bs.length (leBytes bs) = bs := by
  induction bs with
  | nil => rfl
  | cons b t ih =>
    have h : leBytes (b :: t) = b.toNat + 256 * leBytes t := rfl
    have hb := b.isLt
    have h1 : BitVec.ofNat 8 (b.toNat + 256 * leBytes t) = b := by
      apply BitVec.eq_of_toNat_eq
      simp only [BitVec.toNat_ofNat]
      omega
    have h2 : (b.toNat + 256 * leBytes t) / 256 = leBytes t := by omega
    rw [List.length_cons, toLe_succ, h, h1, h2, ih]

theorem recNum_lt (b : List Byte) (i n : Nat) : recNum b i n < 256 ^ n :=
  (leBytes_lt _).trans_le (Nat.pow_le_pow_right (by omega) (List.length_take_le ..))

/-- The words of a list of bytes, taken apart again, are the list. -/
theorem flatMap_toLe_recNum (bs : List Byte) (n : Nat) (h : bs.length = 4 * n) :
    ((List.range n).flatMap fun i => toLe 4 (recNum bs (4 * i) 4)) = bs := by
  induction n generalizing bs with
  | zero =>
    obtain rfl : bs = [] := List.eq_nil_of_length_eq_zero (by omega)
    rfl
  | succ n ih =>
    have h4 : (bs.take 4).length = 4 := by simp; omega
    have hd : (bs.drop 4).length = 4 * n := by simp; omega
    have hhead : toLe 4 (recNum bs 0 4) = bs.take 4 := by
      have := toLe_leBytes (bs.take 4)
      rwa [h4] at this
    have htail : ∀ i, recNum bs (4 * (i + 1)) 4 = recNum (bs.drop 4) (4 * i) 4 := by
      intro i
      simp only [recNum, List.drop_drop]
      congr 3
      omega
    rw [List.range_succ_eq_map, List.flatMap_cons, List.flatMap_map, Nat.mul_zero, hhead]
    simp only [htail]
    rw [ih _ hd, List.take_append_drop]

/-! ### An array of registers written from its first element on -/

/-- The registers of the first `n` elements of an array. -/
def Field.arrayAddrs (f : Field) (n : Nat) : List Nat := (List.range n).map fun i => (f.at i).addr

/-- The first `n` elements of an array of registers written. -/
def Chip.wrArray (c : Chip) (f : Field) (g : Nat → Nat) (n : Nat) : Chip :=
  (List.range n).foldl (fun (c : Chip) i => c.wr (f.at i) (g i)) c

section

variable (c : Chip) (f : Field) (g : Nat → Nat)

theorem Chip.wrArray_succ (n : Nat) : c.wrArray f g (n + 1) = (c.wrArray f g n).wr (f.at n) (g n) := by
  simp [Chip.wrArray, List.range_succ]

theorem Chip.wrArray_onlyRegs (n : Nat) : c.onlyRegs (c.wrArray f g n) (f.arrayAddrs n) :=
  (Chip.onlyRegs.refl c _).foldl _ _ fun _ i hi he => he.wr _ (List.mem_map.mpr ⟨i, hi, rfl⟩)

theorem Chip.rd_wrArray (hf : f.inside = true) (hs : 0 < f.stride) {n i : Nat} (hi : i < n) :
    (c.wrArray f g n).rd (f.at i) = g i % 2 ^ f.width := by
  induction n with
  | zero => omega
  | succ n ih =>
    rw [Chip.wrArray_succ]
    by_cases h : i = n
    · subst h
      exact Chip.rd_wr_same _ (f.at i) _ hf
    · have ha : (f.at i).addr ≠ (f.at n).addr := by
        intro ha
        have : i * f.stride = n * f.stride := Nat.add_left_cancel ha
        exact h (Nat.eq_of_mul_eq_mul_right hs this)
      rw [Chip.rd_wr_ne _ _ _ _ ha]
      exact ih (by omega)

end

/-! ### The page buffer -/

theorem toLe_length (n v : Nat) : (toLe n v).length = n := by simp [toLe]

theorem Chip.hostBuf_length (c : Chip) {n : Nat} (h : n ≤ 256) : (c.hostBuf n).length = n := by
  have hall : ((List.range 64).flatMap fun i => toLe 4 (c.rd (LDR_FHOST_BUF_WORD.at i))).length = 256 := by
    simp [List.length_flatMap, toLe_length]
  unfold Chip.hostBuf
  rw [List.length_take, hall]
  omega

/-- The bytes that the page buffer holds once the first of them have been given. -/
def Chip.bufBytes (c : Chip) (bs : List Byte) : List Byte := bs ++ (c.hostBuf 256).drop bs.length

theorem Chip.setHostBuf_eq (c : Chip) (bs : List Byte) :
    c.setHostBuf bs = c.wrArray LDR_FHOST_BUF_WORD (fun i => recNum (c.bufBytes bs) (4 * i) 4) 64 := rfl

theorem Chip.setHostBuf_onlyRegs (c : Chip) (bs : List Byte) :
    c.onlyRegs (c.setHostBuf bs) (LDR_FHOST_BUF_WORD.arrayAddrs 64) :=
  c.wrArray_onlyRegs LDR_FHOST_BUF_WORD _ 64

theorem Chip.rd_setHostBuf (c : Chip) (bs : List Byte) {i : Nat} (hi : i < 64) :
    (c.setHostBuf bs).rd (LDR_FHOST_BUF_WORD.at i) = recNum (c.bufBytes bs) (4 * i) 4 := by
  rw [Chip.setHostBuf_eq, Chip.rd_wrArray _ _ _ (by decide) (by decide) hi]
  exact Nat.mod_eq_of_lt (recNum_lt _ _ 4)

/-- The bytes given are read back. -/
theorem Chip.hostBuf_setHostBuf (c : Chip) (bs : List Byte) (h : bs.length ≤ 256) :
    (c.setHostBuf bs).hostBuf bs.length = bs := by
  have hlen : (c.bufBytes bs).length = 4 * 64 := by
    simp only [Chip.bufBytes, List.length_append, List.length_drop, c.hostBuf_length (Nat.le_refl 256)]
    omega
  have hw : ((List.range 64).flatMap fun i => toLe 4 ((c.setHostBuf bs).rd (LDR_FHOST_BUF_WORD.at i))) =
      (List.range 64).flatMap fun i => toLe 4 (recNum (c.bufBytes bs) (4 * i) 4) := by
    refine List.flatMap_congr fun i hi => ?_
    rw [c.rd_setHostBuf bs (List.mem_range.mp hi)]
  unfold Chip.hostBuf
  rw [hw, flatMap_toLe_recNum _ 64 hlen]
  exact List.take_left

theorem Chip.hostBuf_congr {c d : Chip} (h : ∀ i, i < 64 → d.get (LDR_FHOST_BUF_WORD.at i).addr = c.get (LDR_FHOST_BUF_WORD.at i).addr)
    (n : Nat) : d.hostBuf n = c.hostBuf n := by
  unfold Chip.hostBuf
  congr 1
  refine List.flatMap_congr fun i hi => ?_
  unfold Chip.rd
  rw [h i (List.mem_range.mp hi)]

theorem Chip.rd_setHostBuf_word0 (c : Chip) (a : Nat) :
    (c.setHostBuf (toLe 4 a)).rd (LDR_FHOST_BUF_WORD.at 0) = a % 2 ^ 32 := by
  rw [c.rd_setHostBuf _ (by decide)]
  have h : recNum (c.bufBytes (toLe 4 a)) (4 * 0) 4 = leBytes (toLe 4 a) :=
    congrArg leBytes (List.take_left' (toLe_length 4 a))
  rw [h, leBytes_toLe]
  norm_num

/-! ### GO (R297, R298) -/

/-- The command is written (Table 6.13), before it is judged. -/
def Chip.hostWritten (c : Chip) (op len : Nat) : Chip :=
  (((c.wr LDR_FHOST_CMD_OP op).wr LDR_FHOST_CMD_LEN len).wr LDR_FHOST_CMD_DONE 0).wr LDR_FHOST_CMD_ERR 0

theorem Chip.onlyRegs.hostEnd {c d : Chip} {as : List Nat} (h : c.onlyRegs d (LDR_FHOST_CMD.addr :: as)) (err : Nat) :
    c.onlyRegs (d.hostEnd err) (LDR_FHOST_CMD.addr :: as) :=
  (h.wr (f := LDR_FHOST_CMD_ERR) err List.mem_cons_self).wr (f := LDR_FHOST_CMD_DONE) 1 List.mem_cons_self

/-- What `d` reports of a host command: its operation, LEN, ERR and DONE, and no register of `c` but its own changed. -/
structure Chip.HostReport (c d : Chip) (op len err done : Nat) : Prop where
  same : c.sameBut d [LDR_FHOST_CMD.addr]
  op : d.rd LDR_FHOST_CMD_OP = op % 8
  len : d.rd LDR_FHOST_CMD_LEN = len % 256
  err : d.rd LDR_FHOST_CMD_ERR = err % 8
  done : d.rd LDR_FHOST_CMD_DONE = done % 2

theorem Chip.hostWritten_onlyRegs (c : Chip) (op len : Nat) : c.onlyRegs (c.hostWritten op len) [LDR_FHOST_CMD.addr] :=
  ((((Chip.onlyRegs.refl c _).wr (f := LDR_FHOST_CMD_OP) _ (by decide)).wr (f := LDR_FHOST_CMD_LEN) _ (by decide)).wr
    (f := LDR_FHOST_CMD_DONE) _ (by decide)).wr (f := LDR_FHOST_CMD_ERR) _ (by decide)

theorem Chip.hostWritten_report (c : Chip) (op len : Nat) : c.HostReport (c.hostWritten op len) op len 0 0 := by
  refine ⟨?_, ?_, ?_, ?_, ?_⟩
  · exact (c.hostWritten_onlyRegs op len).2
  all_goals
    unfold Chip.hostWritten
    simp (disch := decide) only [Chip.rd_wr_same, Chip.rd_wr_clear]
    rfl

/-- The loader's state stands beside the registers. -/
theorem Chip.HostReport.onLd {c d : Chip} {op len e n : Nat} (h : c.HostReport d op len e n) (f : Loader → Loader) :
    c.HostReport (d.onLd f) op len e n := by
  refine ⟨fun a ha => (d.onLd_get f a).trans (h.same a ha), ?_, ?_, ?_, ?_⟩
  all_goals rw [Chip.onLd_rd]
  · exact h.op
  · exact h.len
  · exact h.err
  · exact h.done

theorem Chip.HostReport.hostEnd {c d : Chip} {op len e n : Nat} (h : c.HostReport d op len e n) (err : Nat) :
    c.HostReport (d.hostEnd err) op len err 1 := by
  refine ⟨(h.same.wr (f := LDR_FHOST_CMD_ERR) _ (by decide)).wr (f := LDR_FHOST_CMD_DONE) _ (by decide), ?_, ?_, ?_, ?_⟩
  all_goals
    unfold Chip.hostEnd
    simp (disch := decide) only [Chip.rd_wr_same, Chip.rd_wr_clear]
  · exact h.op
  · exact h.len
  · rfl
  · rfl

/-- A host command, an append or LOAD uses the flash (R297). -/
def Chip.hostBusy (c : Chip) : Prop :=
  c.mode.mode = .load ∨ c.ld.stage ≠ .idle ∨ c.ld.attempts ≠ 0 ∨ c.ld.hostOp ≠ 0

section

variable {c : Chip} {op len answer : Nat}

theorem Chip.hostGo_busy (h : c.hostBusy) : c.hostGo op len answer = (c.hostWritten op len).hostEnd 1 := if_pos h

theorem Chip.hostGo_stopped (hb : ¬c.hostBusy) (h : c.flashStopped = true) :
    c.hostGo op len answer = c.hostWritten op len :=
  (if_neg hb).trans (if_pos (.inr (.inr h)))

theorem Chip.hostGo_judged (hb : ¬c.hostBusy) (hop : 0 < op ∧ op < 6) (h : c.flashStopped = false) :
    c.hostGo op len answer =
      if op = 2 ∧ 256 < c.rd LDR_FHOST_ADDR_ADDR % 256 + (len % 256 + 1) then (c.hostWritten op len).hostEnd 2
      else if op = 3 ∧ c.rd LDR_FHOST_ADDR_ADDR % 4096 ≠ 0 then (c.hostWritten op len).hostEnd 4
      else (c.hostWritten op len).onLd fun l =>
        { l with hostOp := op, hostAddr := if op ≤ 3 then c.rd LDR_FHOST_ADDR_ADDR else answer
                 hostLen := if op = 3 then 4096 else len % 256 + 1 } := by
  refine (if_neg hb).trans (if_neg ?_)
  rw [h]
  rintro (h0 | h6 | hf)
  · omega
  · omega
  · cases hf

end

/-- What a host command tells: its registers, and the loader's state that stands beside them; all else is as it was. -/
structure Chip.HostTold (c d : Chip) (op len err done : Nat) (l : Loader) : Prop where
  frame : d = { c with regs := d.regs, eff := d.eff, ld := d.ld }
  same : c.sameBut d (LDR_FHOST_CMD.addr :: clockDoms)
  op : d.rd LDR_FHOST_CMD_OP = op % 8
  len : d.rd LDR_FHOST_CMD_LEN = len % 256
  err : d.rd LDR_FHOST_CMD_ERR = err % 8
  done : d.rd LDR_FHOST_CMD_DONE = done % 2
  ld : d.ld = l

/-- A report stays told through the clock uses that follow it (R168). -/
theorem Chip.HostReport.told {c d e : Chip} {op len err done : Nat} (h : c.HostReport d op len err done)
    (hd : d = { c with regs := d.regs, ld := d.ld }) (k : d.onlyRegs e clockDoms) :
    c.HostTold e op len err done d.ld := by
  obtain ⟨he, hs⟩ := k
  refine ⟨?_, h.same.trans hs, ?_, ?_, ?_, ?_, ?_⟩
  · rw [he, hd]
  · exact (hs.rd (f := LDR_FHOST_CMD_OP) (by decide)).trans h.op
  · exact (hs.rd (f := LDR_FHOST_CMD_LEN) (by decide)).trans h.len
  · exact (hs.rd (f := LDR_FHOST_CMD_ERR) (by decide)).trans h.err
  · exact (hs.rd (f := LDR_FHOST_CMD_DONE) (by decide)).trans h.done
  · rw [he]

/-- GO runs and stops no scan-out: what it reports stays told. -/
theorem Chip.hostGo_told {c d : Chip} {op len answer err done : Nat} (hgo : c.hostGo op len answer = d)
    (h : c.HostReport d op len err done) (hd : d = { c with regs := d.regs, ld := d.ld }) :
    c.HostTold (c.withUses fun c => c.hostGo op len answer) op len err done d.ld := by
  subst hgo
  refine h.told hd (Chip.withUses_onlyRegs (.of_sameBut h.same (by decide) (by decide) ?_))
  rw [hd]

/-- GO that is judged BUSY, CROSS_PAGE or ALIGN ends the command; the loader's state is untouched. -/
theorem Chip.hostGo_told_ended {c : Chip} {op len answer err : Nat}
    (hgo : c.hostGo op len answer = (c.hostWritten op len).hostEnd err) :
    c.HostTold (c.withUses fun c => c.hostGo op len answer) op len err 1 c.ld := by
  have hw := (c.hostWritten_onlyRegs op len).hostEnd err
  rw [← hw.ld]
  exact Chip.hostGo_told hgo ((c.hostWritten_report op len).hostEnd err) hw.ld_frame

/-- GO after the flash has stopped is only written. -/
theorem Chip.hostGo_told_written {c : Chip} {op len answer : Nat} (hgo : c.hostGo op len answer = c.hostWritten op len) :
    c.HostTold (c.withUses fun c => c.hostGo op len answer) op len 0 0 c.ld := by
  have hw := c.hostWritten_onlyRegs op len
  rw [← hw.ld]
  exact Chip.hostGo_told hgo (c.hostWritten_report op len) hw.ld_frame

/-- GO that starts its command. -/
theorem Chip.hostGo_told_started {c : Chip} {op len answer : Nat} {f : Loader → Loader}
    (hgo : c.hostGo op len answer = (c.hostWritten op len).onLd f) :
    c.HostTold (c.withUses fun c => c.hostGo op len answer) op len 0 0 (f c.ld) := by
  have hw := c.hostWritten_onlyRegs op len
  have h := c.hostWritten_report op len
  generalize c.hostWritten op len = d at hw h hgo
  rw [← hw.ld]
  refine Chip.hostGo_told hgo (h.onLd f) ?_
  obtain ⟨r, rfl, -⟩ := Chip.onlyRegs_iff.mp hw
  rfl

/-- What GO of a command answers: BUSY; nothing once the flash has stopped; CROSS_PAGE or ALIGN; or the command runs. -/
def Chip.hostAnswers (c d : Chip) (op len x : Nat) : Prop :=
  let a := c.rd LDR_FHOST_ADDR_ADDR
  d = { c with regs := d.regs, eff := d.eff, ld := d.ld } ∧
  c.sameBut d (LDR_FHOST_CMD.addr :: clockDoms) ∧ d.rd LDR_FHOST_CMD_OP = op ∧ d.rd LDR_FHOST_CMD_LEN = len % 256 ∧
  (c.hostBusy → d.ld = c.ld ∧ d.rd LDR_FHOST_CMD_ERR = 1 ∧ d.rd LDR_FHOST_CMD_DONE = 1) ∧
  (¬c.hostBusy → c.flashStopped = true → d.ld = c.ld ∧ d.rd LDR_FHOST_CMD_ERR = 0 ∧ d.rd LDR_FHOST_CMD_DONE = 0) ∧
  (¬c.hostBusy → c.flashStopped = false →
    (op = 2 → 256 < a % 256 + (len % 256 + 1) →
      d.ld = c.ld ∧ d.rd LDR_FHOST_CMD_ERR = 2 ∧ d.rd LDR_FHOST_CMD_DONE = 1) ∧
    (op = 3 → a % 4096 ≠ 0 → d.ld = c.ld ∧ d.rd LDR_FHOST_CMD_ERR = 4 ∧ d.rd LDR_FHOST_CMD_DONE = 1) ∧
    ((op = 2 → a % 256 + (len % 256 + 1) ≤ 256) → (op = 3 → a % 4096 = 0) →
      d.ld = { c.ld with hostOp := op, hostAddr := x, hostLen := if op = 3 then 4096 else len % 256 + 1 } ∧
      d.rd LDR_FHOST_CMD_ERR = 0 ∧ d.rd LDR_FHOST_CMD_DONE = 0))

/-- Each of the five ways in which GO is judged. -/
theorem Chip.hostGo_answers (c : Chip) (op len answer : Nat) (hop : 0 < op ∧ op < 6) :
    c.hostAnswers (c.withUses fun c => c.hostGo op len answer) op len
      (if op ≤ 3 then c.rd LDR_FHOST_ADDR_ADDR else answer) := by
  have h8 : op % 8 = op := Nat.mod_eq_of_lt (by omega)
  by_cases hb : c.hostBusy
  · have t := Chip.hostGo_told_ended (Chip.hostGo_busy (op := op) (len := len) (answer := answer) hb)
    exact ⟨t.frame, t.same, t.op.trans h8, t.len, fun _ => ⟨t.ld, t.err, t.done⟩, fun h => absurd hb h,
      fun h => absurd hb h⟩
  cases hf : c.flashStopped with
  | true =>
    have t := Chip.hostGo_told_written (Chip.hostGo_stopped (op := op) (len := len) (answer := answer) hb hf)
    exact ⟨t.frame, t.same, t.op.trans h8, t.len, fun h => absurd h hb, fun _ _ => ⟨t.ld, t.err, t.done⟩,
      fun _ h => absurd (hf.symm.trans h) (by decide)⟩
  | false =>
    have hrun : c.flashStopped ≠ true := by rw [hf]; decide
    have hgo := Chip.hostGo_judged (len := len) (answer := answer) hb hop hf
    by_cases hx : op = 2 ∧ 256 < c.rd LDR_FHOST_ADDR_ADDR % 256 + (len % 256 + 1)
    · rw [if_pos hx] at hgo
      have t := Chip.hostGo_told_ended hgo
      exact ⟨t.frame, t.same, t.op.trans h8, t.len, fun h => absurd h hb, fun _ h => absurd h hrun,
        fun _ _ => ⟨fun _ _ => ⟨t.ld, t.err, t.done⟩, fun h3 _ => by omega, fun h2 _ => by omega⟩⟩
    rw [if_neg hx] at hgo
    by_cases ha : op = 3 ∧ c.rd LDR_FHOST_ADDR_ADDR % 4096 ≠ 0
    · rw [if_pos ha] at hgo
      have t := Chip.hostGo_told_ended hgo
      exact ⟨t.frame, t.same, t.op.trans h8, t.len, fun h => absurd h hb, fun _ h => absurd h hrun,
        fun _ _ => ⟨fun h2 _ => by omega, fun _ _ => ⟨t.ld, t.err, t.done⟩, fun _ h3 => absurd (h3 ha.1) ha.2⟩⟩
    rw [if_neg ha] at hgo
    have t := Chip.hostGo_told_started hgo
    exact ⟨t.frame, t.same, t.op.trans h8, t.len, fun h => absurd h hb, fun _ h => absurd h hrun,
      fun _ _ => ⟨fun h2 h => absurd ⟨h2, h⟩ hx, fun h3 h => absurd ⟨h3, h⟩ ha, fun _ _ => ⟨t.ld, t.err, t.done⟩⟩⟩

/-- A host command that reaches its register is answered. -/
theorem hostCommand_answers {s : State} {i : Instr} {op answer : Nat} {len : Chip → Nat} (hs : s.runs)
    (hr : s.chip.reach 0x20100) (hop : 0 < op ∧ op < 6)
    (hi : exec i s = effect s fun c => c.guardReg 0x20100 fun c => c.withUses fun c => c.hostGo op (len c) answer) :
    ∃ d, exec i s = .next { s with chip := d } ∧
      s.chip.hostAnswers d op (len s.chip) (if op ≤ 3 then s.chip.rd LDR_FHOST_ADDR_ADDR else answer) := by
  have hu : s.chip.withUses (fun c => c.hostGo op (len c) answer) = s.chip.withUses fun c => c.hostGo op (len s.chip) answer :=
    Chip.withUses_congr rfl
  refine ⟨_, hi.trans (State.effect_of_runs hs _), ?_⟩
  rw [s.chip.guardReg_ok _ _ hr.1 hr.2, hu]
  exact s.chip.hostGo_answers op (len s.chip) answer hop

/-! ### The end of a host command (R297-R299) -/

/-- A host command ends with this error and lets a manifest fetch have the flash. -/
def Chip.hostFinish (c : Chip) (err : Nat) : Chip := ((c.hostIdle).hostEnd err).giveFlash

section

variable (c : Chip) (err : Nat)

theorem Chip.giveFlash_frame : c.giveFlash = { c with wh := c.giveFlash.wh } := by
  unfold Chip.giveFlash
  split <;> rfl

theorem Chip.hostFinish_frame : c.hostFinish err =
    { c with regs := (c.hostIdle.hostEnd err).regs, ld := c.hostIdle.ld, wh := (c.hostFinish err).wh } := by
  have h := ((Chip.onlyRegs.refl c.hostIdle [LDR_FHOST_CMD.addr]).hostEnd err).1
  unfold Chip.hostFinish
  generalize c.hostIdle.hostEnd err = d at h
  rw [d.giveFlash_frame, h]
  rfl

theorem Chip.hostFinish_hostOp : (c.hostFinish err).ld.hostOp = 0 := by
  rw [c.hostFinish_frame err]
  rfl

theorem Chip.hostFinish_dram : (c.hostFinish err).dram = c.dram := by rw [c.hostFinish_frame err]

theorem Chip.hostFinish_flash : (c.hostFinish err).flash = c.flash := by rw [c.hostFinish_frame err]

theorem Chip.hostFinish_get (a : Nat) : (c.hostFinish err).get a = (c.hostIdle.hostEnd err).get a := by
  unfold Chip.get
  rw [c.hostFinish_frame err]

theorem Chip.hostFinish_sameBut : c.sameBut (c.hostFinish err) [LDR_FHOST_CMD.addr] := by
  have h := ((Chip.sameBut.refl c [LDR_FHOST_CMD.addr]).wr (f := LDR_FHOST_CMD_ERR) err (by decide)).wr
    (f := LDR_FHOST_CMD_DONE) 1 (by decide)
  exact fun a ha => (c.hostFinish_get err a).trans (h a ha)

theorem Chip.hostFinish_done : (c.hostFinish err).rd LDR_FHOST_CMD_DONE = 1 :=
  (congrArg LDR_FHOST_CMD_DONE.get (c.hostFinish_get err _)).trans (Chip.rd_wr_same _ _ 1 (by decide))

theorem Chip.hostFinish_err : (c.hostFinish err).rd LDR_FHOST_CMD_ERR = err % 8 := by
  refine (congrArg LDR_FHOST_CMD_ERR.get (c.hostFinish_get err _)).trans ?_
  exact (Chip.rd_wr_clear _ LDR_FHOST_CMD_DONE _ 1 (by decide)).trans (Chip.rd_wr_same _ _ err (by decide))

theorem Chip.hostFinish_seat : (c.hostFinish err).seat = c.seat := by
  unfold Chip.seat
  rw [c.hostFinish_frame err]

end

/-- The scan of the ledger that may follow writes no byte of flash. -/
theorem Chip.hostTouch_flash (c : Chip) (a n : Nat) : (c.hostTouch a n).flash = c.flash := by
  unfold Chip.hostTouch
  split <;> rfl

theorem Chip.hostTouch_dram (c : Chip) (a n : Nat) : (c.hostTouch a n).dram = c.dram := by
  unfold Chip.hostTouch
  split <;> rfl

section

variable {c : Chip}

theorem Chip.hostPerform_read (h : c.ld.hostOp = 1) :
    c.hostPerform = c.setHostBuf (c.flashRead c.ld.addr4 c.ld.hostAddr c.ld.hostLen) := by
  simp [Chip.hostPerform, h]

theorem Chip.hostPerform_program (h : c.ld.hostOp = 2) :
    c.hostPerform = (c.flashProgram (flashPlace c.ld.addr4 c.ld.hostAddr) (c.hostBuf c.ld.hostLen)).hostTouch
      (flashPlace c.ld.addr4 c.ld.hostAddr) c.ld.hostLen := by
  simp [Chip.hostPerform, h]

theorem Chip.hostPerform_erase (h : c.ld.hostOp = 3) :
    c.hostPerform = (c.flashErase (flashPlace c.ld.addr4 c.ld.hostAddr) c.ld.hostLen).hostTouch
      (flashPlace c.ld.addr4 c.ld.hostAddr) c.ld.hostLen := by
  simp [Chip.hostPerform, h]

theorem Chip.hostPerform_answer (h : c.ld.hostOp = 4 ∨ c.ld.hostOp = 5) :
    c.hostPerform = c.setHostBuf (toLe 4 c.ld.hostAddr) := by
  rcases h with h | h <;> simp [Chip.hostPerform, h]

/-- What the end of a host command does: it gives bytes, programs, erases, or nothing. -/
theorem Chip.hostPerform_cases :
    (∃ bs, c.hostPerform = c.setHostBuf bs) ∨
    (c.ld.hostOp = 2 ∧ ∃ a bs p n, c.hostPerform = (c.flashProgram a bs).hostTouch p n) ∨
    (c.ld.hostOp = 3 ∧ ∃ a m p n, c.hostPerform = (c.flashErase a m).hostTouch p n) ∨
    c.hostPerform = c := by
  unfold Chip.hostPerform
  split
  · exact .inl ⟨_, rfl⟩
  · next h => exact .inr (.inl ⟨h, _, _, _, _, rfl⟩)
  · next h => exact .inr (.inr (.inl ⟨h, _, _, _, _, rfl⟩))
  · exact .inl ⟨_, rfl⟩
  · exact .inl ⟨_, rfl⟩
  · exact .inr (.inr (.inr rfl))

theorem Chip.hostPerform_dram : c.hostPerform.dram = c.dram := by
  obtain ⟨bs, h⟩ | ⟨-, a, bs, p, n, h⟩ | ⟨-, a, m, p, n, h⟩ | h := Chip.hostPerform_cases (c := c)
  · rw [h, (c.setHostBuf_onlyRegs bs).dram]
  · rw [h, Chip.hostTouch_dram]
    rfl
  · rw [h, Chip.hostTouch_dram]
    rfl
  · rw [h]

/-- Only a program and an erase change the array. -/
theorem Chip.hostPerform_flash (h2 : c.ld.hostOp ≠ 2) (h3 : c.ld.hostOp ≠ 3) : c.hostPerform.flash = c.flash := by
  obtain ⟨bs, h⟩ | ⟨h, -⟩ | ⟨h, -⟩ | h := Chip.hostPerform_cases (c := c)
  · rw [h, (c.setHostBuf_onlyRegs bs).flash]
  · contradiction
  · contradiction
  · rw [h]

theorem Chip.flashByte_congr {d : Chip} (h : d.flash = c.flash) (b : Nat) : d.flashByte b = c.flashByte b := by
  unfold Chip.flashByte
  rw [h]

end

/-! ### The read of a ledger slot -/

theorem Chip.ledgerIdx_eq (c : Chip) (w : Word) : c.ledgerIdx w =
    ((c.wr LDR_LEDGER_IDX_SLOT (LDR_LEDGER_IDX_SLOT.get w)).wr LDR_LEDGER_IDX_READY 1).wrArray LDR_LEDGER_REC_REC
      (fun i => recNum (if LDR_LEDGER_IDX_SLOT.get w < c.ld.slots then c.slot (LDR_LEDGER_IDX_SLOT.get w) else [])
        (4 * i) 4) 8 := rfl

theorem recNum_nil (i n : Nat) : recNum [] i n = 0 := by simp [recNum, leBytes]

theorem Chip.ledgerIdx_onlyRegs (c : Chip) (w : Word) :
    c.onlyRegs (c.ledgerIdx w) (LDR_LEDGER_IDX.addr :: (List.range 8).map fun i => (LDR_LEDGER_REC.at i).addr) := by
  refine Chip.onlyRegs.foldl ?_ _ _ fun _ i hi he => he.wr _ (List.mem_cons_of_mem _ (List.mem_map.mpr ⟨i, hi, rfl⟩))
  exact ((Chip.onlyRegs.refl c _).wr (f := LDR_LEDGER_IDX_SLOT) _ List.mem_cons_self).wr (f := LDR_LEDGER_IDX_READY) _
    List.mem_cons_self

/-- Reading the slot into the record registers leaves the choice of the slot. -/
theorem Chip.rd_ledgerIdx (c : Chip) (w : Word) {f : Field} (hf : f.addr ∉ LDR_LEDGER_REC_REC.arrayAddrs 8) :
    (c.ledgerIdx w).rd f = ((c.wr LDR_LEDGER_IDX_SLOT (LDR_LEDGER_IDX_SLOT.get w)).wr LDR_LEDGER_IDX_READY 1).rd f := by
  rw [Chip.ledgerIdx_eq]
  exact (Chip.wrArray_onlyRegs ..).2.rd hf

theorem Chip.rd_ledgerIdx_slot (c : Chip) (w : Word) :
    (c.ledgerIdx w).rd LDR_LEDGER_IDX_SLOT = LDR_LEDGER_IDX_SLOT.get w := by
  rw [c.rd_ledgerIdx w (by decide)]
  simp (disch := decide) only [Chip.rd_wr_clear, Chip.rd_wr_same]
  exact Nat.mod_eq_of_lt (LDR_LEDGER_IDX_SLOT.get_lt w)

theorem Chip.rd_ledgerIdx_ready (c : Chip) (w : Word) : (c.ledgerIdx w).rd LDR_LEDGER_IDX_READY = 1 := by
  rw [c.rd_ledgerIdx w (by decide)]
  exact Chip.rd_wr_same _ _ 1 (by decide)

/-- The record registers, once a slot has been read into them. -/
theorem Chip.rd_ledgerIdx_rec (c : Chip) (w : Word) {i : Nat} (hi : i < 8) :
    (c.ledgerIdx w).rd (LDR_LEDGER_REC_REC.at i) =
      if LDR_LEDGER_IDX_SLOT.get w < c.ld.slots then recNum (c.slot (LDR_LEDGER_IDX_SLOT.get w)) (4 * i) 4 else 0 := by
  rw [Chip.ledgerIdx_eq, Chip.rd_wrArray _ _ _ (by decide) (by decide) hi]
  split
  · exact Nat.mod_eq_of_lt (recNum_lt _ _ 4)
  · rw [recNum_nil]
    rfl


/-! ### Arming the fuses (R302) -/

/-- A register whose whole word is a field of its own. -/
theorem Chip.get_eq_zero_of_rd {c : Chip} {f : Field} (hlo : f.lo = 0) (hhi : f.hi = 31) (h : c.rd f = 0) :
    c.get f.addr = 0 := by
  apply BitVec.eq_of_toNat_eq
  have hw := (c.get f.addr).isLt
  simp only [Chip.rd, Field.get, Field.width, hlo, hhi, Nat.pow_zero, Nat.div_one, Nat.sub_zero] at h
  rwa [Nat.mod_eq_of_lt hw] at h

/-- The registers that a write of LDR_OTP_CTL may change. -/
def otpArmAddrs : List Nat := [LDR_OTP_CTL.addr, LDR_OTP_STAT.addr, LDR_OTP_CONFLICT.addr, LDR_OTP_VERIFY.addr]

theorem Chip.otpCtl_unarmed {c : Chip} {w : Word} (h : LDR_OTP_CTL_ARM.get w = 0) :
    c.otpCtl w = (c.wr LDR_OTP_CTL_IDX (LDR_OTP_CTL_IDX.get w)).wr LDR_OTP_CTL_ARM 0 := if_pos h

theorem Chip.otpCtl_refused {c : Chip} {w : Word} (h : LDR_OTP_CTL_ARM.get w = 1)
    (hr : 16 < c.otpMarked ∨ c.ld.otpLock = true) : c.otpCtl w =
      ((c.wr LDR_OTP_CTL_IDX (LDR_OTP_CTL_IDX.get w)).wr LDR_OTP_CTL_ARM 0).wr LDR_OTP_STAT_REFUSED 1 :=
  (if_neg (by omega)).trans (if_pos hr)

theorem Chip.otpCtl_armed {c : Chip} {w : Word} (h : LDR_OTP_CTL_ARM.get w = 1) (hm : c.otpMarked ≤ 16)
    (hl : c.ld.otpLock = false) : c.otpCtl w =
      ((((c.wr LDR_OTP_CTL_IDX (LDR_OTP_CTL_IDX.get w)).wr LDR_OTP_CTL_ARM 1).wr LDR_OTP_STAT_REFUSED 0).wr
        LDR_OTP_CONFLICT_BITS 0).wr LDR_OTP_VERIFY_BITS 0 := by
  refine (if_neg (by omega)).trans (if_neg ?_)
  rintro (h16 | hk)
  · omega
  · exact absurd (hl.symm.trans hk) (by decide)

theorem Chip.otpCtl_onlyRegs (c : Chip) (w : Word) : c.onlyRegs (c.otpCtl w) otpArmAddrs := by
  have h := (Chip.onlyRegs.refl c otpArmAddrs).wr (f := LDR_OTP_CTL_IDX) (LDR_OTP_CTL_IDX.get w) (by decide)
  unfold Chip.otpCtl
  dsimp only
  split
  · exact h.wr _ (by decide)
  split
  · exact (h.wr _ (by decide)).wr _ (by decide)
  · exact (((h.wr _ (by decide)).wr _ (by decide)).wr _ (by decide)).wr _ (by decide)

theorem Chip.otpCtl_idx (c : Chip) (w : Word) : (c.otpCtl w).rd LDR_OTP_CTL_IDX = LDR_OTP_CTL_IDX.get w := by
  have hlt : LDR_OTP_CTL_IDX.get w % 2 ^ LDR_OTP_CTL_IDX.width = LDR_OTP_CTL_IDX.get w :=
    Nat.mod_eq_of_lt (LDR_OTP_CTL_IDX.get_lt w)
  unfold Chip.otpCtl
  dsimp only
  split
  · simp (disch := decide) only [Chip.rd_wr_clear, Chip.rd_wr_same, hlt]
  split <;> simp (disch := decide) only [Chip.rd_wr_clear, Chip.rd_wr_same, hlt]

theorem Chip.otpCtl_rd_unarmed {c : Chip} {w : Word} (h : LDR_OTP_CTL_ARM.get w = 0) :
    (c.otpCtl w).rd LDR_OTP_CTL_ARM = 0 ∧ (c.otpCtl w).rd LDR_OTP_STAT_REFUSED = c.rd LDR_OTP_STAT_REFUSED := by
  rw [Chip.otpCtl_unarmed h]
  simp (disch := decide) only [Chip.rd_wr_clear, Chip.rd_wr_same, Nat.zero_mod, and_self]

theorem Chip.otpCtl_rd_refused {c : Chip} {w : Word} (h : LDR_OTP_CTL_ARM.get w = 1)
    (hr : 16 < c.otpMarked ∨ c.ld.otpLock = true) :
    (c.otpCtl w).rd LDR_OTP_CTL_ARM = 0 ∧ (c.otpCtl w).rd LDR_OTP_STAT_REFUSED = 1 ∧
      (c.otpCtl w).get LDR_OTP_CONFLICT.addr = c.get LDR_OTP_CONFLICT.addr := by
  rw [Chip.otpCtl_refused h hr]
  refine ⟨?_, ?_, ?_⟩
  · simp (disch := decide) only [Chip.rd_wr_clear, Chip.rd_wr_same]
    rfl
  · simp (disch := decide) only [Chip.rd_wr_same]
    rfl
  · exact ((((Chip.sameBut.refl c [LDR_OTP_CTL.addr, LDR_OTP_STAT.addr]).wr (f := LDR_OTP_CTL_IDX) _ (by decide)).wr
      (f := LDR_OTP_CTL_ARM) 0 (by decide)).wr (f := LDR_OTP_STAT_REFUSED) 1 (by decide)) _ (by decide)

theorem Chip.otpCtl_rd_armed {c : Chip} {w : Word} (h : LDR_OTP_CTL_ARM.get w = 1) (hm : c.otpMarked ≤ 16)
    (hl : c.ld.otpLock = false) :
    (c.otpCtl w).rd LDR_OTP_CTL_ARM = 1 ∧ (c.otpCtl w).rd LDR_OTP_STAT_REFUSED = 0 ∧
      (c.otpCtl w).get LDR_OTP_CONFLICT.addr = 0 ∧ (c.otpCtl w).get LDR_OTP_VERIFY.addr = 0 := by
  rw [Chip.otpCtl_armed h hm hl]
  refine ⟨?_, ?_, Chip.get_eq_zero_of_rd (f := LDR_OTP_CONFLICT_BITS) rfl rfl ?_,
    Chip.get_eq_zero_of_rd (f := LDR_OTP_VERIFY_BITS) rfl rfl ?_⟩
  all_goals simp (disch := decide) only [Chip.rd_wr_clear, Chip.rd_wr_same]
  all_goals rfl

/-! ### O50 -/

/-- A command of the list in O50 is a host command that reaches LDR_FHOST_CMD. -/
theorem fhost_answers (s : State) (n answer : Nat) (hs : s.runs) (hr : s.chip.reach 0x20100) (i : Instr) (op l x : Nat)
    (hi : (i, op, l, x) ∈ [(Instr.fhostRead n, 1, n, s.chip.rd LDR_FHOST_ADDR_ADDR),
      (Instr.fhostProgram n, 2, n, s.chip.rd LDR_FHOST_ADDR_ADDR),
      (.fhostErase4k, 3, s.chip.rd LDR_FHOST_CMD_LEN, s.chip.rd LDR_FHOST_ADDR_ADDR),
      (.fhostReadId answer, 4, s.chip.rd LDR_FHOST_CMD_LEN, answer),
      (.fhostReadStatus answer, 5, s.chip.rd LDR_FHOST_CMD_LEN, answer)]) :
    ∃ d, exec i s = .next { s with chip := d } ∧ s.chip.hostAnswers d op l x := by
  simp only [List.mem_cons, Prod.mk.injEq, List.not_mem_nil, or_false] at hi
  obtain ⟨rfl, rfl, rfl, rfl⟩ | ⟨rfl, rfl, rfl, rfl⟩ | ⟨rfl, rfl, rfl, rfl⟩ | ⟨rfl, rfl, rfl, rfl⟩ |
    ⟨rfl, rfl, rfl, rfl⟩ := hi
  · exact hostCommand_answers (op := 1) (len := fun _ => l) hs hr (by decide) rfl
  · exact hostCommand_answers (op := 2) (len := fun _ => l) hs hr (by decide) rfl
  · exact hostCommand_answers (op := 3) (len := fun c => c.rd LDR_FHOST_CMD_LEN) hs hr (by decide) rfl
  · exact hostCommand_answers (op := 4) (len := fun c => c.rd LDR_FHOST_CMD_LEN) hs hr (by decide) rfl
  · exact hostCommand_answers (op := 5) (len := fun c => c.rd LDR_FHOST_CMD_LEN) hs hr (by decide) rfl

/-- The bytes that a host command gives stand in the page buffer when it has ended. -/
theorem Chip.hostBuf_hostFinish (c : Chip) (err n : Nat) : (c.hostFinish err).hostBuf n = c.hostBuf n :=
  Chip.hostBuf_congr (fun i hi => c.hostFinish_sameBut err _
    ((show ∀ i < 64, (LDR_FHOST_BUF_WORD.at i).addr ∉ [LDR_FHOST_CMD.addr] by decide) i hi)) n

theorem Chip.flashByte_hostFinish (c : Chip) (err b : Nat) : (c.hostFinish err).flashByte b = c.flashByte b :=
  Chip.flashByte_congr (c.hostFinish_flash err) b

/-- FHOST_CMD_DONE, once a command has the flash. -/
theorem exec_fhostCmdDone {s : State} (hs : s.runs) (ho : s.chip.ld.hostOp ≠ 0) (hf : s.chip.flashFetch = false) :
    exec .fhostCmdDone s = .next { s with chip := s.chip.hostPerform.hostFinish 0 } := by
  refine (State.effect_of_runs hs _).trans ?_
  rw [if_pos ⟨ho, hf⟩]
  rfl

/-- FHOST_TIMEOUT of a program or an erase. -/
theorem exec_fhostTimeout {s : State} (hs : s.runs) (ho : s.chip.ld.hostOp = 2 ∨ s.chip.ld.hostOp = 3) :
    exec .fhostTimeout s = .next { s with chip :=
      ((s.chip.flashOpen (flashPlace s.chip.ld.addr4 s.chip.ld.hostAddr) s.chip.ld.hostLen).hostTouch
        (flashPlace s.chip.ld.addr4 s.chip.ld.hostAddr) s.chip.ld.hostLen).hostFinish 3 } := by
  refine (State.effect_of_runs hs _).trans ?_
  rw [if_pos ho]
  rfl

/-- Settles O50: GO is judged case by case; a command takes place when it ends (log entry 32), at the place that its
address names under ADDR4 (log entry 99), and what it leaves beside its own bytes is the loader's scan of the ledger. -/
theorem flashHostCommands : Obligations.FlashHostCommands := by
  refine ⟨fun s n answer hs hr i op l x hi => fhost_answers s n answer hs hr i op l x hi,
    fun s hs => ⟨fun h => ?_, fun ho hf => ?_⟩,
    fun s hs => ⟨fun h2 h3 => ?_, fun ho => ?_⟩, fun s w hs hr => ?_, fun s w hs hr => ?_⟩
  · refine (State.effect_of_runs hs _).trans ?_
    rw [if_neg (by rintro ⟨h0, hf⟩; rcases h with h | h <;> simp_all)]
  · refine ⟨_, exec_fhostCmdDone hs ho hf, ?_, ?_, ?_, Chip.hostFinish_done _ _, Chip.hostFinish_err _ _, ?_, ?_, ?_, ?_, ?_⟩
    · rw [Chip.hostFinish_seat, Chip.hostPerform_seat]
    · exact (Chip.hostFinish_dram _ 0).trans Chip.hostPerform_dram
    · exact Chip.hostFinish_hostOp _ 0
    · intro h2 h3
      exact (Chip.hostFinish_flash _ 0).trans (Chip.hostPerform_flash h2 h3)
    · intro h1 hn
      have hlen : (s.chip.flashRead s.chip.ld.addr4 s.chip.ld.hostAddr s.chip.ld.hostLen).length = s.chip.ld.hostLen := by
        simp [Chip.flashRead]
      have := s.chip.hostBuf_setHostBuf (s.chip.flashRead s.chip.ld.addr4 s.chip.ld.hostAddr s.chip.ld.hostLen)
        (by rwa [hlen])
      rw [Chip.hostBuf_hostFinish, Chip.hostPerform_read h1]
      rwa [hlen] at this
    · intro h2 hn b
      rw [Chip.flashByte_hostFinish, Chip.hostPerform_program h2, Chip.flashByte_congr (Chip.hostTouch_flash ..),
        Chip.flashByte_flashProgram, s.chip.hostBuf_length hn]
    · intro h3 b
      rw [Chip.flashByte_hostFinish, Chip.hostPerform_erase h3, Chip.flashByte_congr (Chip.hostTouch_flash ..),
        Chip.flashByte_flashErase]
    · intro h45
      rw [(Chip.hostFinish_sameBut _ 0).rd (by decide), Chip.hostPerform_answer h45, Chip.rd_setHostBuf_word0]
  · refine (State.effect_of_runs hs _).trans ?_
    rw [if_neg (by omega)]
  · refine ⟨_, exec_fhostTimeout hs ho, ?_, ?_, ?_, Chip.hostFinish_done _ _, Chip.hostFinish_err _ _, fun b hb => ?_⟩
    · rw [Chip.hostFinish_seat]
      simp
    · exact (Chip.hostFinish_dram _ 3).trans (Chip.hostTouch_dram ..)
    · exact Chip.hostFinish_hostOp _ 3
    · rw [Chip.flashByte_hostFinish, Chip.flashByte_congr (Chip.hostTouch_flash ..), Chip.flashByte_flashOpen _ _ _ _ hb]
  · have hg : s.chip.guardReg 0x2003C (fun c => c.ledgerIdx w) = s.chip.ledgerIdx w := s.chip.guardReg_ok _ _ hr.1 hr.2
    refine ⟨_, State.effect_of_runs hs fun c => c.guardReg 0x2003C fun c => c.ledgerIdx w, ?_⟩
    rw [hg]
    exact ⟨s.chip.ledgerIdx_onlyRegs w, s.chip.rd_ledgerIdx_slot w, s.chip.rd_ledgerIdx_ready w,
      fun i hi => s.chip.rd_ledgerIdx_rec w hi⟩
  · have hg : s.chip.guardReg 0x20060 (fun c => c.otpCtl w) = s.chip.otpCtl w := s.chip.guardReg_ok _ _ hr.1 hr.2
    refine ⟨_, State.effect_of_runs hs fun c => c.guardReg 0x20060 fun c => c.otpCtl w, ?_⟩
    rw [hg]
    refine ⟨s.chip.otpCtl_onlyRegs w, s.chip.otpCtl_idx w, fun h0 => ?_, fun h1 => ⟨fun hno => ?_, fun hm hl => ?_⟩⟩
    · exact Chip.otpCtl_rd_unarmed h0
    · exact Chip.otpCtl_rd_refused h1 hno
    · exact Chip.otpCtl_rd_armed h1 hm hl

end Sys2Proof.Machine
end

section
/-! SUPPORT. Whole transactions of the Wharf port (R96-R118): which of them it serves, what a write and a read leave
behind, and the port's own registers. -/

namespace Sys2Proof.Machine

open Sys2Proof

/-! ### Errors of the port -/

theorem getLsbD_one_shift {n : Nat} (h : n < 16) : (BitVec.ofNat 16 (2 ^ n)).getLsbD n = true := by
  rw [BitVec.getLsbD_ofNat, Nat.testBit_two_pow_self]
  simp [h]

section

variable (c : Chip) (e : Nat)

theorem Chip.whErr_err_self (h : e < 16) : (c.whErr e).wh.err.getLsbD e = true := by
  unfold Chip.whErr
  rw [BitVec.getLsbD_or, getLsbD_one_shift h, Bool.or_true]

theorem Chip.whErr_evt : (c.whErr e).wh.evt.getLsbD evWherr = true := by
  simp [Chip.whErr, evWherr]

theorem Chip.whErr_err_mono {n : Nat} (h : c.wh.err.getLsbD n = true) : (c.whErr e).wh.err.getLsbD n = true := by
  simp [Chip.whErr, h]

end

/-! ### Which transactions are served (R43, R97, R108, R259) -/

/-- The transaction's address is another device's. -/
theorem Chip.addressed_eq_false {c : Chip} {dev : Nat} :
    c.addressed dev = false ↔ c.wh.i2c = true ∧ dev ≠ 0x2C + c.wh.i2cAddr := by
  simp [Chip.addressed, Chip.i2cAddress]

/-- Under LOCKOUT, and in DEEP_SLEEP, these bytes are the unlock. -/
def Chip.isUnlock (c : Chip) (bytes : List Byte) : Prop :=
  c.wh.lockout = true ∧ c.mode.mode = .deepSleep ∧ 4 ≤ bytes.length ∧ bytes.take 2 = [0#8, 7#8]

theorem Chip.sleepTransaction_of_not_unlock {c : Chip} {bytes : List Byte} (h : ¬c.isUnlock bytes) :
    c.sleepTransaction bytes = (c.wakeTrigger 1).unanswered := by
  unfold Chip.sleepTransaction
  split
  next b0 b1 x y t =>
    refine if_neg fun ⟨hl, hm, h0, h1⟩ => h ⟨hl, hm, by simp, by simp [h0, h1]⟩
  next => rfl

/-- Under LOCKOUT a trigger only leaves its mark. -/
theorem Chip.wakeTrigger_wh_of_lockout {c : Chip} (src : Nat) (h : c.wh.lockout = true) :
    (c.wakeTrigger src).wh = c.wh := by
  unfold Chip.wakeTrigger
  simp only [h, if_true]
  split
  · rfl
  split
  · rfl
  split <;> rfl

theorem Chip.sleepTransaction_of_unlock {c : Chip} {bytes : List Byte} (h : c.isUnlock bytes) :
    c.sleepTransaction bytes = ((c.wakeTrigger 1).onWh fun w => { w with out := [], acked := w.i2c }).wakeUnlock
      (bytes.getD 2 0 ++ bytes.getD 3 0) := by
  obtain ⟨hl, hm, hlen, htake⟩ := h
  match bytes, hlen with
  | b0 :: b1 :: x :: y :: t, _ =>
    simp only [List.take_succ_cons, List.take_zero, List.cons.injEq, and_true] at htake
    obtain ⟨rfl, rfl⟩ := htake
    exact if_pos ⟨hl, hm, rfl, rfl⟩

theorem Chip.wakeUnlock_right {c : Chip} {v : Half} (h : v = 0x5A5A#16) (hl : c.wh.lockout = true) :
    c.wakeUnlock v = (c.onWh fun w => { w with failCount := 0, lockout := false }).wr PWR_WAKE_STAT_IGNORED 0 := by
  unfold Chip.wakeUnlock
  rw [if_neg (by simp [h]), if_pos hl]
  rfl

theorem Chip.wakeUnlock_wrong {c : Chip} {v : Half} (h : v ≠ 0x5A5A#16) : c.wakeUnlock v = c := if_pos h

theorem Chip.wakeUnlock_out (c : Chip) (v : Half) : (c.wakeUnlock v).wh.out = c.wh.out := by
  unfold Chip.wakeUnlock
  split
  · rfl
  · dsimp only
    split <;> rfl

theorem Chip.wakeUnlock_acked (c : Chip) (v : Half) : (c.wakeUnlock v).wh.acked = c.wh.acked := by
  unfold Chip.wakeUnlock
  split
  · rfl
  · dsimp only
    split <;> rfl

/-- The unlock as a transaction (R259). -/
theorem Chip.sleepTransaction_unlock {c : Chip} {bytes : List Byte} (h : c.isUnlock bytes) :
    let d := c.sleepTransaction bytes
    let code : Half := bytes.getD 2 0 ++ bytes.getD 3 0
    d.wh.out = [] ∧ d.wh.acked = c.wh.i2c ∧ d.seat = c.seat ∧ d.stores = c.stores ∧
      (code = 0x5A5A#16 → d.wh.lockout = false ∧ d.wh.failCount = 0 ∧ d.rd PWR_WAKE_STAT_IGNORED = 0) ∧
      (code ≠ 0x5A5A#16 → d.wh.lockout = true ∧ d.wh.failCount = c.wh.failCount) := by
  have hl := h.1
  have hw := Chip.wakeTrigger_wh_of_lockout 1 hl
  rw [Chip.sleepTransaction_of_unlock h]
  dsimp only
  refine ⟨?_, ?_, by simp, by simp, fun hc => ?_, fun hc => ?_⟩
  · rw [Chip.wakeUnlock_out]
    rfl
  · rw [Chip.wakeUnlock_acked]
    exact congrArg Wharf.i2c hw
  · rw [Chip.wakeUnlock_right hc (by simpa [hw] using hl)]
    refine ⟨rfl, rfl, Chip.rd_wr_same _ _ _ (by decide)⟩
  · rw [Chip.wakeUnlock_wrong hc]
    change (c.wakeTrigger 1).wh.lockout = true ∧ (c.wakeTrigger 1).wh.failCount = c.wh.failCount
    rw [hw]
    exact ⟨hl, rfl⟩

/-- A transaction as it arrives, of either direction: RD of CMD tells what the port takes it for. -/
theorem exec_transaction {s : State} {i : Instr} {dev : Nat} {bytes : List Byte} {isRead : Bool} {f : Chip → Chip}
    (hs : s.runs)
    (hi : exec i s = effect s fun c =>
      if c.pdOn 2 && (cmdRead (bytes.headD 0) != isRead) then c else c.transaction dev bytes f) :
    let foreign := s.chip.wh.i2c = true ∧ dev ≠ 0x2C + s.chip.wh.i2cAddr
    (s.chip.pdOn 2 = true → cmdRead (bytes.headD 0) ≠ isRead → exec i s = .next s) ∧
    (s.chip.pdOn 2 = false ∨ cmdRead (bytes.headD 0) = isRead → foreign →
      exec i s = .next { s with chip := s.chip.unanswered }) ∧
    (s.chip.pdOn 2 = false → ¬foreign → exec i s = .next { s with chip := s.chip.sleepTransaction bytes }) ∧
    (s.chip.pdOn 2 = true → cmdRead (bytes.headD 0) = isRead → ¬foreign →
      exec i s = .next { s with chip := (f s.chip).release }) := by
  rw [State.effect_of_runs hs] at hi
  generalize cmdRead (bytes.headD 0) = r at hi ⊢
  refine ⟨fun hp hr => ?_, fun hp hf => ?_, fun hp hf => ?_, fun hp hr hf => ?_⟩ <;> rw [hi]
  · simp [hp, hr]
  · have ha := Chip.addressed_eq_false.mpr hf
    rcases hp with hp | hp <;> simp [hp, Chip.transaction, ha]
  · have ha : s.chip.addressed dev = true := by
      rw [← Bool.not_eq_false, Chip.addressed_eq_false]
      exact hf
    simp [hp, Chip.transaction, ha]
  · have ha : s.chip.addressed dev = true := by
      rw [← Bool.not_eq_false, Chip.addressed_eq_false]
      exact hf
    simp [hp, hr, Chip.transaction, ha]

theorem exec_wharfWriteTransaction (s : State) (dev : Nat) (bytes : List Byte) :
    exec (.wharfWriteTransaction ⟨dev, bytes⟩) s = effect s fun c =>
      if c.pdOn 2 && (cmdRead (bytes.headD 0) != false) then c
      else c.transaction dev bytes fun c => c.writeTransaction bytes := by
  rw [Bool.bne_false]
  rfl

theorem exec_wharfReadTransaction (s : State) (dev : Nat) (bytes : List Byte) (begun prefetches : Nat) :
    exec (.wharfReadTransaction ⟨dev, bytes⟩ begun prefetches) s = effect s fun c =>
      if c.pdOn 2 && (cmdRead (bytes.headD 0) != true) then c
      else c.transaction dev bytes fun c => c.readTransaction bytes begun prefetches := by
  rw [Bool.bne_true]
  rfl

/-! ### What every transaction leaves behind -/

/-- `d` differs from `c` in the port's error record, CRC count, status bits and events alone. -/
def Chip.errsOnly (c d : Chip) : Prop :=
  d = { c with wh := { c.wh with err := d.wh.err, crcCount := d.wh.crcCount, status := d.wh.status, evt := d.wh.evt } }

theorem Chip.errsOnly.refl (c : Chip) : c.errsOnly c := rfl

theorem Chip.errsOnly.whErr {c d : Chip} (h : c.errsOnly d) (e : Nat) : c.errsOnly (d.whErr e) := by
  rw [h]
  rfl

theorem Chip.errsOnly.crcFail {c d : Chip} (h : c.errsOnly d) : c.errsOnly d.crcFail := by
  rw [h]
  rfl

/-! ### Words and their addresses (R100) -/

theorem wordAddrs_length (fixed : Bool) (n a : Nat) : (wordAddrs fixed n a).length = n := by
  induction n generalizing a with
  | zero => rfl
  | succ n ih => simp [wordAddrs, ih]

theorem wordsOfBytes_eq_map (bs : List Byte) (n : Nat) (h : bs.length = 2 * n) :
    wordsOfBytes bs = (List.range n).map fun i => (bs.getD (2 * i) 0 ++ bs.getD (2 * i + 1) 0 : Half) := by
  induction n generalizing bs with
  | zero =>
    obtain rfl : bs = [] := List.eq_nil_of_length_eq_zero (by omega)
    rfl
  | succ n ih =>
    match bs, h with
    | x :: y :: t, h =>
      have ht : t.length = 2 * n := by
        simp only [List.length_cons] at h
        omega
      rw [List.range_succ_eq_map, List.map_cons, List.map_map]
      refine (congrArg _ (ih t ht)).trans ?_
      rfl

/-- Word `i` of a write. -/
def wordOf (bytes : List Byte) (i : Nat) : Half := bytes.getD (2 + 2 * i) 0 ++ bytes.getD (3 + 2 * i) 0

/-- The words of a write of the right length, as its bytes stand in it. -/
theorem writeWords_eq_map (bytes : List Byte) (n : Nat) (h : 2 + 2 * n ≤ bytes.length) :
    wordsOfBytes ((bytes.drop 2).take (2 * n)) = (List.range n).map (wordOf bytes) := by
  have hlen : ((bytes.drop 2).take (2 * n)).length = 2 * n := by
    simp only [List.length_take, List.length_drop]
    omega
  rw [wordsOfBytes_eq_map _ n hlen]
  refine List.map_congr_left fun i hi => ?_
  have hi := List.mem_range.mp hi
  simp only [wordOf, List.getD_eq_getElem?_getD, List.getElem?_take, List.getElem?_drop]
  rw [if_pos (by omega), if_pos (by omega), show 2 + (2 * i + 1) = 3 + 2 * i by omega]

/-! ### A write transaction (R102, R112, R117, R133, R149) -/

/-- The part while a write comes: what it drives, and the status byte sent. -/
def Chip.writeAnswer (c : Chip) (bytes : List Byte) : Chip :=
  if c.wh.i2c then c.drive []
  else if bytes.isEmpty then c.drive []
  else c.sendStatus.drive (c.statusByte :: List.replicate (bytes.length - 1) 0#8)

/-- The write has the length that its CMD asks for. -/
def Chip.wholeWrite (c : Chip) (bytes : List Byte) : Prop :=
  bytes.length = 2 + 2 * cmdWords (bytes.headD 0) + (if c.crcOn then 1 else 0)

/-- The write's CRC is right, or none is in use. -/
def Chip.rightCrc (c : Chip) (bytes : List Byte) : Prop :=
  c.crcOn = true → crc8 (bytes.take (2 + 2 * cmdWords (bytes.headD 0))) = (bytes.getLastD 0).toNat

/-- The addresses of the words of a write or a read. -/
def addrsOf (bytes : List Byte) : List Nat :=
  wordAddrs (cmdFixed (bytes.headD 0)) (cmdWords (bytes.headD 0)) (bytes.getD 1 0).toNat

/-- The words of a write, with their addresses, take effect in order. -/
def Chip.writeWords (c : Chip) (l : List (Nat × Half)) : Chip := l.foldl (fun (c : Chip) x => c.writeWord x.1 x.2) c

section

variable {c : Chip} {bytes : List Byte}

theorem Chip.writeAnswer_eq : c.writeAnswer bytes =
    { c with
      pins := { c.pins with sdoDriven := !c.wh.i2c }
      wh := { c.wh with
        status := if c.wh.i2c = true ∨ bytes = [] then c.wh.status else 0
        out := if c.wh.i2c = true ∨ bytes = [] then []
          else c.statusByte :: List.replicate (bytes.length - 1) 0#8
        acked := c.wh.i2c } } := by
  unfold Chip.writeAnswer
  split
  next hi => simp [Chip.drive, Chip.onWh, Chip.onPins, hi]
  next hi =>
    split
    next he =>
      obtain rfl : bytes = [] := by simpa using he
      simp [Chip.drive, Chip.onWh, Chip.onPins, hi]
    next he =>
      have hne : bytes ≠ [] := by simpa using he
      simp [Chip.drive, Chip.sendStatus, Chip.onWh, Chip.onPins, hi, hne]

theorem b2n_eq_ite (b : Bool) : b2n b = if b then 1 else 0 := by cases b <;> rfl

theorem Chip.writeTransaction_frame (h : ¬c.wholeWrite bytes) :
    c.writeTransaction bytes = (c.writeAnswer bytes).whErr erFrame := by
  unfold Chip.wholeWrite at h
  rw [← b2n_eq_ite] at h
  exact if_pos h

theorem Chip.writeTransaction_crc (h : c.wholeWrite bytes) (hr : ¬c.rightCrc bytes) :
    c.writeTransaction bytes = (c.writeAnswer bytes).crcFail := by
  unfold Chip.wholeWrite at h
  rw [← b2n_eq_ite] at h
  refine (if_neg (not_not.mpr h)).trans (if_pos ?_)
  unfold Chip.rightCrc at hr
  simpa using hr

theorem Chip.writeTransaction_checked (h : c.wholeWrite bytes) (hr : c.rightCrc bytes) :
    c.writeTransaction bytes =
      if !c.wh.drain.isEmpty then (c.writeAnswer bytes).whErr erBusyDrain
      else
        let d := (c.writeAnswer bytes).writeWords
          ((addrsOf bytes).zip ((List.range (cmdWords (bytes.headD 0))).map (wordOf bytes)))
        if (addrsOf bytes).any c.burstRefuses then d else d.accept := by
  have hlen : 2 + 2 * cmdWords (bytes.headD 0) ≤ bytes.length := by
    rw [h]
    omega
  have hdrain : (c.writeAnswer bytes).wh.drain = c.wh.drain := by rw [Chip.writeAnswer_eq]
  have hburst : (c.writeAnswer bytes).burstRefuses = c.burstRefuses := by
    unfold Chip.burstRefuses
    rw [Chip.writeAnswer_eq]
  unfold Chip.wholeWrite at h
  rw [← b2n_eq_ite] at h
  refine (if_neg (not_not.mpr h)).trans ((if_neg ?_).trans ?_)
  · unfold Chip.rightCrc at hr
    simpa using hr
  · rw [← hdrain, ← hburst, Chip.writeWords, ← writeWords_eq_map bytes _ hlen]
    rfl

theorem Chip.writeWords_cons (c : Chip) (a : Nat) (v : Half) (l : List (Nat × Half)) :
    c.writeWords ((a, v) :: l) = (c.writeWord a v).writeWords l := rfl

/-- A window word in a burst is refused (R149). -/
theorem Chip.writeWord_refused {a : Nat} (v : Half) (hb : c.wh.mfstBurst = true) (ha : 0x10 ≤ a ∧ a ≤ 0x14) :
    c.writeWord a v = c.whErr erBusyMfst :=
  if_pos (by simp [Chip.burstRefuses, hb, ha])

/-- A burst refuses each word of a write to the window. -/
theorem Chip.writeWords_refused {l : List (Nat × Half)} (hl : l ≠ []) (hb : c.wh.mfstBurst = true)
    (ha : ∀ x ∈ l, 0x10 ≤ x.1 ∧ x.1 ≤ 0x14) :
    c.errsOnly (c.writeWords l) ∧ (c.writeWords l).wh.err.getLsbD erBusyMfst = true ∧
      (c.writeWords l).wh.evt.getLsbD evWherr = true ∧ (c.writeWords l).wh.crcCount = c.wh.crcCount := by
  induction l using List.reverseRecOn with
  | nil => exact absurd rfl hl
  | append_singleton t x ih =>
    have hcat : c.writeWords (t ++ [x]) = (c.writeWords t).writeWord x.1 x.2 := by simp [Chip.writeWords]
    have ht : c.errsOnly (c.writeWords t) ∧ (c.writeWords t).wh.crcCount = c.wh.crcCount := by
      by_cases h : t = []
      · subst h
        exact ⟨.refl c, rfl⟩
      · obtain ⟨he, -, -, hn⟩ := ih h fun y hy => ha y (List.mem_append_left _ hy)
        exact ⟨he, hn⟩
    have hbt : (c.writeWords t).wh.mfstBurst = true := by
      rw [ht.1]
      exact hb
    rw [hcat, Chip.writeWord_refused x.2 hbt (ha x (by simp))]
    exact ⟨ht.1.whErr _, Chip.whErr_err_self _ _ (by decide), Chip.whErr_evt _ _, ht.2⟩

/-- A write that is judged faulty leaves the port's errors, its answer and nothing else. -/
theorem Chip.writeAnswer_errsOnly {e : Chip} (h : (c.writeAnswer bytes).errsOnly e) :
    e.release = { c with
      pins := { c.pins with sdoDriven := false }
      wh := { c.wh with err := e.wh.err, crcCount := e.wh.crcCount, status := e.wh.status, evt := e.wh.evt
                        out := e.wh.out, acked := c.wh.i2c } } ∧
    e.wh.out = if c.wh.i2c = true ∨ bytes = [] then []
      else c.statusByte :: List.replicate (bytes.length - 1) 0#8 := by
  unfold Chip.errsOnly at h
  rw [Chip.writeAnswer_eq] at h
  rw [h]
  exact ⟨rfl, rfl⟩

end

/-- The addresses and words of a whole write. -/
def writeList (bytes : List Byte) : List (Nat × Half) :=
  (addrsOf bytes).zip ((List.range (cmdWords (bytes.headD 0))).map (wordOf bytes))

section

variable {c : Chip} {bytes : List Byte}

theorem Chip.writeTransaction_drain (h : c.wholeWrite bytes) (hr : c.rightCrc bytes) (hd : c.wh.drain ≠ []) :
    c.writeTransaction bytes = (c.writeAnswer bytes).whErr erBusyDrain :=
  (Chip.writeTransaction_checked h hr).trans (if_pos (by simpa using hd))

theorem Chip.writeTransaction_served (h : c.wholeWrite bytes) (hr : c.rightCrc bytes) (hd : c.wh.drain = []) :
    c.writeTransaction bytes =
      if (addrsOf bytes).any c.burstRefuses then (c.writeAnswer bytes).writeWords (writeList bytes)
      else ((c.writeAnswer bytes).writeWords (writeList bytes)).accept :=
  (Chip.writeTransaction_checked h hr).trans (if_neg (by simp [hd]))

theorem cmdWords_pos (b : Byte) : 0 < cmdWords b := Nat.succ_pos _

theorem addrsOf_ne_nil (bytes : List Byte) : addrsOf bytes ≠ [] := by
  rw [← List.length_pos_iff, addrsOf, wordAddrs_length]
  exact cmdWords_pos _

theorem writeList_ne_nil (bytes : List Byte) : writeList bytes ≠ [] := by
  rw [← List.length_pos_iff, writeList, List.length_zip, List.length_map, List.length_range, addrsOf, wordAddrs_length,
    Nat.min_self]
  exact cmdWords_pos _

theorem Chip.burstRefuses_eq_true {a : Nat} : c.burstRefuses a = true ↔ c.wh.mfstBurst = true ∧ 0x10 ≤ a ∧ a ≤ 0x14 := by
  simp [Chip.burstRefuses, and_assoc]

/-- In a burst a write to the window alone is refused whole. -/
theorem Chip.writeTransaction_burst (h : c.wholeWrite bytes) (hr : c.rightCrc bytes) (hd : c.wh.drain = [])
    (hb : c.wh.mfstBurst = true) (ha : ∀ a ∈ addrsOf bytes, 0x10 ≤ a ∧ a ≤ 0x14) :
    c.writeTransaction bytes = (c.writeAnswer bytes).writeWords (writeList bytes) := by
  rw [Chip.writeTransaction_served h hr hd, if_pos]
  obtain ⟨a, hmem⟩ := List.exists_mem_of_ne_nil _ (addrsOf_ne_nil bytes)
  exact List.any_eq_true.mpr ⟨a, hmem, Chip.burstRefuses_eq_true.mpr ⟨hb, ha a hmem⟩⟩

/-- What a write that is judged faulty sets, in the order of the checks (log entry 104). -/
theorem Chip.writeTransaction_faulty
    (hf : ¬c.wholeWrite bytes ∨ ¬c.rightCrc bytes ∨ c.wh.drain ≠ [] ∨
      (c.wh.mfstBurst = true ∧ ∀ a ∈ addrsOf bytes, 0x10 ≤ a ∧ a ≤ 0x14)) :
    let e := c.writeTransaction bytes
    (c.writeAnswer bytes).errsOnly e ∧ e.wh.evt.getLsbD evWherr = true ∧
    (¬c.wholeWrite bytes → e.wh.err.getLsbD erFrame = true ∧ e.wh.crcCount = c.wh.crcCount) ∧
    (bytes = [] → e.wh.status = c.wh.status ||| 0x40#16) ∧
    (c.wholeWrite bytes → ¬c.rightCrc bytes →
      e.wh.err.getLsbD erCrc = true ∧ e.wh.crcCount = satAdd 16 c.wh.crcCount 1) ∧
    (c.wholeWrite bytes → c.rightCrc bytes → c.wh.drain ≠ [] → e.wh.err.getLsbD erBusyDrain = true) ∧
    (c.wholeWrite bytes → c.rightCrc bytes → c.wh.drain = [] → e.wh.err.getLsbD erBusyMfst = true) := by
  have hempty : bytes = [] → ¬c.wholeWrite bytes := by
    rintro rfl h
    unfold Chip.wholeWrite at h
    simp only [List.length_nil] at h
    omega
  have hn : (c.writeAnswer bytes).wh.crcCount = c.wh.crcCount := by rw [Chip.writeAnswer_eq]
  by_cases h : c.wholeWrite bytes
  swap
  · dsimp only
    rw [Chip.writeTransaction_frame h]
    refine ⟨(Chip.errsOnly.refl _).whErr _, Chip.whErr_evt _ _, fun _ => ⟨Chip.whErr_err_self _ _ (by decide), hn⟩,
      fun hb => ?_, fun h' => absurd h' h, fun h' => absurd h' h, fun h' => absurd h' h⟩
    rw [Chip.writeAnswer_eq, if_pos (.inr hb)]
    rfl
  by_cases hr : c.rightCrc bytes
  swap
  · dsimp only
    rw [Chip.writeTransaction_crc h hr]
    refine ⟨(Chip.errsOnly.refl _).crcFail, Chip.whErr_evt _ _, fun h' => absurd h h', fun hb => absurd h (hempty hb),
      fun _ _ => ⟨Chip.whErr_err_self _ _ (by decide), ?_⟩, fun _ h' => absurd h' hr, fun _ h' => absurd h' hr⟩
    change satAdd 16 (c.writeAnswer bytes).wh.crcCount 1 = _
    rw [hn]
  by_cases hd : c.wh.drain = []
  swap
  · dsimp only
    rw [Chip.writeTransaction_drain h hr hd]
    exact ⟨(Chip.errsOnly.refl _).whErr _, Chip.whErr_evt _ _, fun h' => absurd h h', fun hb => absurd h (hempty hb),
      fun _ h' => absurd hr h', fun _ _ _ => Chip.whErr_err_self _ _ (by decide), fun _ _ h' => absurd h' hd⟩
  · obtain hf | hf | hf | ⟨hb, ha⟩ := hf
    · exact absurd h hf
    · exact absurd hr hf
    · exact absurd hd hf
    have hb' : (c.writeAnswer bytes).wh.mfstBurst = true := by
      rw [Chip.writeAnswer_eq]
      exact hb
    obtain ⟨he, herr, hevt, -⟩ := Chip.writeWords_refused (writeList_ne_nil bytes) hb'
      fun x hx => ha x.1 (List.of_mem_zip hx).1
    dsimp only
    rw [Chip.writeTransaction_burst h hr hd hb ha]
    exact ⟨he, hevt, fun h' => absurd h h', fun hb => absurd h (hempty hb), fun _ h' => absurd hr h',
      fun _ _ h' => absurd hd h', fun _ _ _ => herr⟩

/-- The words of a write of one word. -/
theorem writeList_one {a : Nat} (h : addrsOf bytes = [a]) : writeList bytes = [(a, wordOf bytes 0)] := by
  have hn : cmdWords (bytes.headD 0) = 1 := by
    rw [← wordAddrs_length (cmdFixed (bytes.headD 0)) (cmdWords (bytes.headD 0)) (bytes.getD 1 0).toNat]
    exact congrArg List.length h
  rw [writeList, h, hn]
  rfl

theorem cmdWords_eq_length (bytes : List Byte) : cmdWords (bytes.headD 0) = (addrsOf bytes).length :=
  (wordAddrs_length ..).symm

/-- A word at an address outside the window is never refused by a burst. -/
theorem Chip.writeWord_eq {a : Nat} {v : Half} {d : Chip} (ha : ¬(0x10 ≤ a ∧ a ≤ 0x14)) (h : c.topWrite a v = some d) :
    c.writeWord a v = d := by
  refine (if_neg fun hb => ha (Chip.burstRefuses_eq_true.mp hb).2).trans ?_
  rw [h]

theorem Chip.writeWord_unnamed {a : Nat} {v : Half} (ha : ¬(0x10 ≤ a ∧ a ≤ 0x14)) (h : c.topWrite a v = none) :
    c.writeWord a v = c.whErr erUnimpl := by
  refine (if_neg fun hb => ha (Chip.burstRefuses_eq_true.mp hb).2).trans ?_
  rw [h]

/-- A served write whose addresses lie outside the window is accepted. -/
theorem Chip.writeTransaction_accepted (h : c.wholeWrite bytes) (hr : c.rightCrc bytes) (hd : c.wh.drain = [])
    (ha : ∀ a ∈ addrsOf bytes, ¬(0x10 ≤ a ∧ a ≤ 0x14)) :
    c.writeTransaction bytes = ((c.writeAnswer bytes).writeWords (writeList bytes)).accept := by
  rw [Chip.writeTransaction_served h hr hd, if_neg]
  intro hany
  obtain ⟨a, hmem, hb⟩ := List.any_eq_true.mp hany
  exact ha a hmem (Chip.burstRefuses_eq_true.mp hb).2

theorem Chip.writeTransaction_one {a : Nat} (h : c.wholeWrite bytes) (hr : c.rightCrc bytes) (hd : c.wh.drain = [])
    (has : addrsOf bytes = [a]) (ha : ¬(0x10 ≤ a ∧ a ≤ 0x14)) :
    c.writeTransaction bytes = ((c.writeAnswer bytes).writeWord a (wordOf bytes 0)).accept := by
  rw [Chip.writeTransaction_accepted h hr hd fun b hb => by rw [has, List.mem_singleton] at hb; rwa [hb],
    writeList_one has]
  rfl

/-- Whether an address is named (Table 3.6) does not depend on the state. -/
theorem Chip.topRead_isSome (c d : Chip) (t : Nat) : (c.topRead t).isSome = (d.topRead t).isSome := by
  unfold Chip.topRead
  split <;> rfl

theorem Chip.topRead_window {a : Nat} (h : c.topRead a = none) (h12 : a ≠ 0x12) : ¬(0x10 ≤ a ∧ a ≤ 0x14) := by
  rintro ⟨h1, h2⟩
  interval_cases a <;> contradiction

/-- A write of an address that reads nothing, WH_IDATA_HI apart, is of an unnamed one. -/
theorem Chip.topWrite_eq_none {a : Nat} (v : Half) (h : c.topRead a = none) (h12 : a ≠ 0x12) : c.topWrite a v = none := by
  unfold Chip.topWrite
  split <;> try contradiction
  rw [h]
  rfl

section

variable (c : Chip) (v : Half)

theorem Chip.writeWord_scratch0 : c.writeWord 0x30 v = c.onWh fun w => { w with scratch0 := v } :=
  Chip.writeWord_eq (by decide) rfl

theorem Chip.writeWord_scratch1 : c.writeWord 0x31 v = c.onWh fun w => { w with scratch1 := v } :=
  Chip.writeWord_eq (by decide) rfl

theorem Chip.writeWord_evtEn : c.writeWord 0x0B v = c.onWh fun w => { w with evtEn := v &&& 0x07FF#16 } :=
  Chip.writeWord_eq (by decide) rfl

theorem Chip.writeWord_aperBase : c.writeWord 0x18 v = c.onWh fun w => { w with aperBase := v.toNat % 4096 } :=
  Chip.writeWord_eq (by decide) rfl

/-- The addresses between WH_EVT_EN and the window are unnamed (Table 3.6). -/
theorem Chip.writeWord_gap {a : Nat} (ha : a ∈ [0x0C, 0x0D, 0x0E, 0x0F]) : c.writeWord a v = c.whErr erUnimpl := by
  have hnone : c.topRead a = none := by fin_cases ha <;> rfl
  refine Chip.writeWord_unnamed ?_ (Chip.topWrite_eq_none v hnone ?_) <;> fin_cases ha <;> decide

end

/-- A write of the two scratch registers, or of the first. -/
theorem Chip.writeTransaction_scratch (h : c.wholeWrite bytes) (hr : c.rightCrc bytes) (hd : c.wh.drain = [])
    (has : addrsOf bytes = [0x30] ∨ addrsOf bytes = [0x30, 0x31]) :
    let d := (c.writeTransaction bytes).release
    d = { c with pins := d.pins, wh := d.wh } ∧ d.wh.seq = (c.wh.seq + 1) % 4 ∧ d.wh.scratch0 = wordOf bytes 0 ∧
      d.wh.scratch1 = (if cmdWords (bytes.headD 0) = 2 then wordOf bytes 1 else c.wh.scratch1) ∧
      d.wh.err = c.wh.err ∧ d.pins.sdoDriven = false := by
  have hn := cmdWords_eq_length bytes
  have hacc := Chip.writeTransaction_accepted h hr hd (by rcases has with has | has <;> simp [has])
  rcases has with has | has
  · have hl : writeList bytes = [(0x30, wordOf bytes 0)] := writeList_one has
    rw [has] at hn
    have hw : (c.writeAnswer bytes).writeWords (writeList bytes) =
        (c.writeAnswer bytes).onWh fun w => { w with scratch0 := wordOf bytes 0 } := by
      rw [hl]
      exact Chip.writeWord_scratch0 _ _
    rw [hacc, hw, hn, Chip.writeAnswer_eq]
    exact ⟨rfl, rfl, rfl, rfl, rfl, rfl⟩
  · rw [has] at hn
    have hl : writeList bytes = [(0x30, wordOf bytes 0), (0x31, wordOf bytes 1)] := by
      rw [writeList, has, hn]
      rfl
    have hw : (c.writeAnswer bytes).writeWords (writeList bytes) =
        (c.writeAnswer bytes).onWh fun w => { w with scratch0 := wordOf bytes 0, scratch1 := wordOf bytes 1 } := by
      rw [hl]
      simp only [Chip.writeWords_cons, Chip.writeWord_scratch0, Chip.writeWord_scratch1]
      rfl
    rw [hacc, hw, hn, Chip.writeAnswer_eq]
    exact ⟨rfl, rfl, rfl, rfl, rfl, rfl⟩

/-- A write of an unnamed address sets UNIMPL and is accepted (R102). -/
theorem Chip.writeTransaction_unnamed (h : c.wholeWrite bytes) (hr : c.rightCrc bytes) (hd : c.wh.drain = []) {a : Nat}
    (has : addrsOf bytes = [a]) (ht : c.topRead a = none) (h12 : a ≠ 0x12) :
    let d := (c.writeTransaction bytes).release
    d = { c with pins := d.pins, wh := d.wh } ∧ d.wh.err.getLsbD erUnimpl = true ∧ d.wh.seq = (c.wh.seq + 1) % 4 := by
  have hw := Chip.topRead_window ht h12
  have hnone : (c.writeAnswer bytes).topRead a = none := by
    rw [← Option.isNone_iff_eq_none, ← Option.not_isSome, Chip.topRead_isSome _ c, ht]
    rfl
  dsimp only
  rw [Chip.writeTransaction_one h hr hd has hw, Chip.writeWord_unnamed hw (Chip.topWrite_eq_none _ hnone h12)]
  refine ⟨?_, Chip.whErr_err_self _ _ (by decide), ?_⟩ <;> rw [Chip.writeAnswer_eq] <;> rfl

/-- A burst refuses the window's words of a write and serves the others; the write is not accepted (R117, R149). -/
theorem Chip.writeTransaction_mixed (h : c.wholeWrite bytes) (hr : c.rightCrc bytes) (hd : c.wh.drain = [])
    (has : addrsOf bytes = [0x0B, 0x0C, 0x0D, 0x0E, 0x0F, 0x10]) (hb : c.wh.mfstBurst = true) :
    let d := (c.writeTransaction bytes).release
    d.wh.evtEn = wordOf bytes 0 &&& 0x07FF#16 ∧ d.wh.iaddr = c.wh.iaddr ∧ d.wh.seq = c.wh.seq ∧
      d.wh.err.getLsbD erBusyMfst = true ∧ d.wh.err.getLsbD erUnimpl = true := by
  have hn := cmdWords_eq_length bytes
  have hl : writeList bytes = [(0x0B, wordOf bytes 0), (0x0C, wordOf bytes 1), (0x0D, wordOf bytes 2),
      (0x0E, wordOf bytes 3), (0x0F, wordOf bytes 4), (0x10, wordOf bytes 5)] := by
    rw [writeList, has, hn, has]
    rfl
  have hany : (addrsOf bytes).any c.burstRefuses = true := by simp [has, Chip.burstRefuses, hb]
  dsimp only
  rw [Chip.writeTransaction_served h hr hd, if_pos hany, hl]
  have hb' : (c.writeAnswer bytes).wh.mfstBurst = true := by
    rw [Chip.writeAnswer_eq]
    exact hb
  simp only [Chip.writeWords_cons, Chip.writeWord_evtEn]
  rw [Chip.writeWord_gap _ _ (a := 0x0C) (by decide), Chip.writeWord_gap _ _ (a := 0x0D) (by decide),
    Chip.writeWord_gap _ _ (a := 0x0E) (by decide), Chip.writeWord_gap _ _ (a := 0x0F) (by decide),
    Chip.writeWord_refused (a := 0x10)]
  · refine ⟨rfl, ?_, ?_, Chip.whErr_err_self _ _ (by decide),
      Chip.whErr_err_mono _ _ (Chip.whErr_err_self _ _ (by decide))⟩ <;> rw [Chip.writeAnswer_eq] <;> rfl
  · exact hb'
  · decide

/-- A write of WH_EVT_EN or WH_APER_BASE alone. -/
theorem Chip.writeTransaction_evtEn (h : c.wholeWrite bytes) (hr : c.rightCrc bytes) (hd : c.wh.drain = [])
    (has : addrsOf bytes = [0x0B]) :
    let d := (c.writeTransaction bytes).release
    d.wh.evtEn = wordOf bytes 0 &&& 0x07FF#16 ∧ d.wh.seq = (c.wh.seq + 1) % 4 := by
  dsimp only
  rw [Chip.writeTransaction_one h hr hd has (by decide), Chip.writeWord_evtEn, Chip.writeAnswer_eq]
  exact ⟨rfl, rfl⟩

theorem Chip.writeTransaction_aperBase (h : c.wholeWrite bytes) (hr : c.rightCrc bytes) (hd : c.wh.drain = [])
    (has : addrsOf bytes = [0x18]) :
    let d := (c.writeTransaction bytes).release
    d.wh.aperBase = (wordOf bytes 0).toNat % 4096 ∧ d.wh.seq = (c.wh.seq + 1) % 4 := by
  dsimp only
  rw [Chip.writeTransaction_one h hr hd has (by decide), Chip.writeWord_aperBase, Chip.writeAnswer_eq]
  exact ⟨rfl, rfl⟩

end

/-! ### A read transaction (R107-R114, R125, R133-R135, R149) -/

theorem flatMap_twoBytes_zero (n : Nat) :
    (List.replicate n (0 : Half)).flatMap twoBytes = List.replicate (2 * n) 0#8 := by
  induction n with
  | zero => rfl
  | succ n ih =>
    rw [List.replicate_succ, List.flatMap_cons, ih, show 2 * (n + 1) = 2 * n + 1 + 1 by omega, List.replicate_succ,
      List.replicate_succ]
    rfl

/-- What the device drives before the data of a read whose CMD and ADDR are all that the host sends. -/
def Chip.readHead (c : Chip) : List Byte := if c.wh.i2c then [c.statusByte] else [c.statusByte, 0#8]

/-- A read of `n` words, CRC off. -/
def Chip.readServed (c : Chip) (bytes : List Byte) (begun prefetches : Nat) : Chip :=
  let r := c.sendStatus.serve (addrsOf bytes) prefetches
  let d := r.chip.drive
    (c.readHead ++ r.words.flatMap twoBytes ++ List.replicate (2 * (begun - cmdWords (bytes.headD 0))) 0#8)
  if r.busy then d else d.accept

section

variable {c : Chip} {bytes : List Byte} {begun prefetches : Nat}

theorem Chip.readTransaction_served (hc : c.crcOn = false) (hl : bytes.length = 2) (hb : cmdWords (bytes.headD 0) ≤ begun) :
    c.readTransaction bytes begun prefetches = c.readServed bytes begun prefetches := by
  unfold Chip.readTransaction Chip.readServed Chip.readHead readBytes addrsOf
  generalize bytes.headD 0 = cmd at hb ⊢
  cases hi : c.wh.i2c <;> simp [hc, hl, hb, b2n]

theorem Chip.readTransaction_badCrc (hc : c.crcOn = true) (hl : bytes.length = 3)
    (hx : crc8 (bytes.take 2) ≠ (bytes.getD 2 0).toNat) :
    c.readTransaction bytes begun prefetches =
      c.sendStatus.crcFail.drive (readBytes true true (min begun (cmdWords (bytes.headD 0)) == cmdWords (bytes.headD 0)) true 3
        (begun - cmdWords (bytes.headD 0)) c.statusByte (List.replicate (min begun (cmdWords (bytes.headD 0))) 0#16)) := by
  unfold Chip.readTransaction
  generalize bytes.getD 2 0 = x at hx ⊢
  simp [hc, hl, hx, b2n]

/-- What the device drives in a read, once its words are served. -/
theorem Chip.readServed_out {ws : List Half} (h : (c.sendStatus.serve (addrsOf bytes) prefetches).words = ws) :
    (c.readServed bytes begun prefetches).wh.out =
      c.readHead ++ ws.flatMap twoBytes ++ List.replicate (2 * (begun - cmdWords (bytes.headD 0))) 0#8 := by
  subst h
  unfold Chip.readServed
  dsimp only
  split <;> rfl

/-- What a read changes, where its words change the port alone. -/
theorem Chip.readServed_frame {r : ReadRun} (h : c.sendStatus.serve (addrsOf bytes) prefetches = r)
    (hr : r.chip = { c with wh := r.chip.wh }) :
    let d := (c.readServed bytes begun prefetches).release
    d = { c with pins := { c.pins with sdoDriven := false }, wh := d.wh } ∧ d.wh.err = r.chip.wh.err ∧
      d.wh.acked = r.chip.wh.i2c ∧ d.wh.status = r.chip.wh.status ∧ d.wh.loLatch = r.chip.wh.loLatch ∧
      d.wh.seq = if r.busy then r.chip.wh.seq else (r.chip.wh.seq + 1) % 4 := by
  unfold Chip.readServed
  rw [h]
  cases hb : r.busy <;> simp only [hb] <;> (rw [hr]; exact ⟨rfl, rfl, rfl, rfl, rfl, rfl⟩)

/-- A word that is served after the read has been refused returns zeros. -/
theorem ReadRun.foldl_word_past (r : ReadRun) (hr : r.past = true) (as : List Nat) :
    as.foldl ReadRun.word r = { r with words := r.words ++ List.replicate as.length 0#16 } := by
  induction as generalizing r with
  | nil => simp
  | cons a t ih =>
    have hw : r.word a = r.zero none := if_pos hr
    rw [List.foldl_cons, hw, ih _ (show (r.zero none).past = true from hr)]
    simp [ReadRun.zero, List.replicate_succ]

/-- A read of window data while writes drain (R133). -/
theorem Chip.serve_drain {as : List Nat} (hd : c.wh.drain ≠ []) (ha : ∃ x ∈ as, x = 0x12 ∨ x = 0x13) :
    c.serve as prefetches = ⟨c.whErr erBusyDrain, List.replicate as.length 0#16, prefetches, false, true, true⟩ := by
  obtain ⟨x, hx, h⟩ := ha
  have hany : as.any (fun a => a == 0x12 || a == 0x13) = true := List.any_eq_true.mpr ⟨x, hx, by simpa using h⟩
  unfold Chip.serve
  rw [if_pos (by simpa [hd] using hany), ReadRun.foldl_word_past _ rfl]
  rfl

/-- A read of one word that no drain refuses. -/
theorem Chip.serve_one {a : Nat} (h : c.wh.drain = [] ∨ (a ≠ 0x12 ∧ a ≠ 0x13)) :
    c.serve [a] prefetches = ReadRun.word ⟨c, [], prefetches, false, false, false⟩ a := by
  unfold Chip.serve
  refine if_neg ?_
  rcases h with h | h <;> simp [h]

theorem Chip.serve_one_burst {a : Nat} (hd : c.wh.drain = []) (hb : c.wh.mfstBurst = true) (ha : 0x10 ≤ a ∧ a ≤ 0x14) :
    c.serve [a] prefetches = ⟨c.whErr erBusyMfst, [0#16], prefetches, false, false, true⟩ := by
  rw [Chip.serve_one (.inl hd)]
  exact (if_neg Bool.false_ne_true).trans (if_pos (Chip.burstRefuses_eq_true.mpr ⟨hb, ha⟩))

theorem Chip.serve_one_plain {a : Nat} (hd : c.wh.drain = [] ∨ a ≠ 0x13) (h12 : a ≠ 0x12)
    (hb : c.wh.mfstBurst = false ∨ a < 0x10 ∨ 0x14 < a) :
    c.serve [a] prefetches =
      match c.topRead a with
      | some v => ⟨c, [v], prefetches, false, false, false⟩
      | none => ⟨c.whErr erUnimpl, [0#16], prefetches, false, false, false⟩ := by
  have hno : ¬c.burstRefuses a = true := by
    rw [Chip.burstRefuses_eq_true]
    rintro ⟨h, h1, h2⟩
    rcases hb with hb | hb | hb
    · simp [hb] at h
    · omega
    · omega
  rw [Chip.serve_one (hd.imp_right fun h => ⟨h12, h⟩)]
  refine (if_neg Bool.false_ne_true).trans ((if_neg hno).trans ((if_neg h12).trans ((if_neg (by simp)).trans ?_)))
  cases c.topRead a <;> rfl

theorem Chip.serve_one_ready (hd : c.wh.drain = []) (hb : c.wh.mfstBurst = false) (hr : c.wh.ready = true) :
    c.serve [0x12] prefetches = ⟨c.idataHiGet.2, [c.idataHiGet.1], prefetches, false, false, false⟩ := by
  have hno : ¬c.burstRefuses 0x12 = true := by simp [Chip.burstRefuses, hb]
  rw [Chip.serve_one (.inl hd)]
  refine (if_neg Bool.false_ne_true).trans ((if_neg hno).trans ((if_pos rfl).trans ?_))
  unfold ReadRun.high ReadRun.wait
  simp [hr]

theorem Chip.serve_one_notready (hd : c.wh.drain = []) (hb : c.wh.mfstBurst = false) (hr : c.wh.ready = false)
    (hi : c.wh.i2c = false) :
    c.serve [0x12] 0 = ⟨c.whErr erNotready, [0#16], 0, true, false, false⟩ := by
  have hno : ¬c.burstRefuses 0x12 = true := by simp [Chip.burstRefuses, hb]
  rw [Chip.serve_one (.inl hd)]
  refine (if_neg Bool.false_ne_true).trans ((if_neg hno).trans ((if_pos rfl).trans ?_))
  unfold ReadRun.high ReadRun.wait
  simp [hr, hi, ReadRun.zero]

theorem addrsOf_one (hn : cmdWords (bytes.headD 0) = 1) : addrsOf bytes = [(bytes.getD 1 0).toNat] := by
  unfold addrsOf
  rw [hn]
  rfl

/-- The data of a read that returns zeros, as many as the host reads. -/
theorem zeros_append {n m : Nat} (h : n ≤ m) :
    (List.replicate n (0 : Half)).flatMap twoBytes ++ List.replicate (2 * (m - n)) 0#8 = List.replicate (2 * m) 0#8 := by
  rw [flatMap_twoBytes_zero, List.replicate_append_replicate, show 2 * n + 2 * (m - n) = 2 * m by omega]

/-- A read that is refused whole or finds its word not ready leaves the port's errors and its answer; it is accepted
unless the port was busy. -/
theorem Chip.readServed_zeros {e ws : Nat} {dead past busy : Bool} {left : Nat}
    (h : c.sendStatus.serve (addrsOf bytes) prefetches =
      ⟨c.sendStatus.whErr e, List.replicate ws 0#16, left, dead, past, busy⟩)
    (hws : ws = cmdWords (bytes.headD 0)) (he : e < 16) (hb : cmdWords (bytes.headD 0) ≤ begun) :
    let d := (c.readServed bytes begun prefetches).release
    d = { c with pins := d.pins, wh := d.wh } ∧ d.wh.err.getLsbD e = true ∧
      (busy = true → d.wh.seq = c.wh.seq) ∧ d.wh.out = c.readHead ++ List.replicate (2 * begun) 0#8 := by
  obtain ⟨hf, herr, -, -, -, hseq⟩ := Chip.readServed_frame (begun := begun) h rfl
  refine ⟨?_, ?_, fun hbusy => hseq.trans (if_pos hbusy), ?_⟩
  · rw [hf]
  · rw [herr]
    exact Chip.whErr_err_self _ _ he
  · subst hws
    refine (Chip.readServed_out (congrArg ReadRun.words h)).trans ?_
    rw [List.append_assoc]
    exact congrArg (c.readHead ++ ·) (zeros_append hb)

end

/-- The two bytes of the high half of a word. -/
theorem twoBytes_high (w : Word) :
    twoBytes ((w >>> 16).setWidth 16) = [w.extractLsb' 24 8, w.extractLsb' 16 8] := by
  have h1 : ((w >>> 16).setWidth 16 >>> 8).setWidth 8 = w.extractLsb' 24 8 := by
    apply BitVec.eq_of_toNat_eq
    simp [Nat.shiftRight_eq_div_pow]
    omega
  have h2 : ((w >>> 16).setWidth 16).setWidth 8 = w.extractLsb' 16 8 := by
    apply BitVec.eq_of_toNat_eq
    simp [Nat.shiftRight_eq_div_pow]
  rw [twoBytes, h1, h2]

theorem setWidth_low (w : Word) : w.setWidth 16 = w.extractLsb' 0 16 := by
  apply BitVec.eq_of_toNat_eq
  simp

/-! ### What each read leaves behind -/

section

variable {c : Chip} {bytes : List Byte} {begun prefetches : Nat}

/-- What the device drives in a read whose CRC1 is wrong: zeros, and the CRC2 of them inverted (R114). -/
theorem readBytes_badCrc (n : Nat) (st : Byte) :
    readBytes true true true true 3 0 st (List.replicate n 0#16) = st :: 0#8 :: 0#8 :: List.replicate (2 * n) 0#8 ++
      [~~~ BitVec.ofNat 8 (crc8 (st :: List.replicate (2 * n) 0#8))] := by
  have h : (List.replicate n 0#16).flatMap twoBytes = List.replicate (2 * n) 0#8 := flatMap_twoBytes_zero n
  unfold readBytes
  simp [h, b2n]

theorem Chip.drive_release (c : Chip) (bs : List Byte) : (c.drive bs).release =
    { c with pins := { c.pins with sdoDriven := false }, wh := { c.wh with out := bs, acked := c.wh.i2c } } := rfl

theorem Chip.crcFail_err (c : Chip) : c.crcFail.wh.err.getLsbD erCrc = true := Chip.whErr_err_self _ _ (by decide)

theorem Chip.crcFail_crcCount (c : Chip) : c.crcFail.wh.crcCount = satAdd 16 c.wh.crcCount 1 := rfl

theorem Chip.crcFail_seq (c : Chip) : c.crcFail.wh.seq = c.wh.seq := rfl

theorem Chip.crcFail_frame (c : Chip) : c.crcFail = { c with wh := c.crcFail.wh } := rfl

theorem Chip.readTransaction_release_badCrc (hc : c.crcOn = true) (hl : bytes.length = 3)
    (hx : crc8 (bytes.take 2) ≠ (bytes.getD 2 0).toNat) :
    let d := (c.readTransaction bytes begun prefetches).release
    d = { c with pins := d.pins, wh := d.wh } ∧ d.wh.err.getLsbD erCrc = true ∧
      d.wh.crcCount = satAdd 16 c.wh.crcCount 1 ∧ d.wh.seq = c.wh.seq ∧
      (let zeros := List.replicate (2 * cmdWords (bytes.headD 0)) 0#8
       begun = cmdWords (bytes.headD 0) → d.wh.out = c.statusByte :: 0#8 :: 0#8 :: zeros ++
         [~~~ BitVec.ofNat 8 (crc8 (c.statusByte :: zeros))]) := by
  dsimp only
  rw [Chip.readTransaction_badCrc hc hl hx]
  rw [Chip.drive_release]
  refine ⟨?_, Chip.crcFail_err _, Chip.crcFail_crcCount _, Chip.crcFail_seq _, fun hb => ?_⟩
  · rw [Chip.crcFail_frame]
    rfl
  · simp only
    rw [hb, Nat.min_self, Nat.sub_self, beq_self_eq_true, readBytes_badCrc]

theorem Chip.readServed_drain (hd : c.wh.drain ≠ []) (hx : ∃ x ∈ addrsOf bytes, x = 0x12 ∨ x = 0x13)
    (hb : cmdWords (bytes.headD 0) ≤ begun) :
    let d := (c.readServed bytes begun prefetches).release
    d = { c with pins := d.pins, wh := d.wh } ∧ d.wh.err.getLsbD erBusyDrain = true ∧ d.wh.seq = c.wh.seq ∧
      d.wh.out = c.readHead ++ List.replicate (2 * begun) 0#8 := by
  have hs : c.sendStatus.serve (addrsOf bytes) prefetches = _ := Chip.serve_drain (c := c.sendStatus) hd hx
  obtain ⟨hf, herr, hseq, hout⟩ := Chip.readServed_zeros hs (wordAddrs_length ..) (by decide) hb
  exact ⟨hf, herr, hseq rfl, hout⟩

theorem Chip.readServed_burst (hd : c.wh.drain = []) (hm : c.wh.mfstBurst = true) (hn : cmdWords (bytes.headD 0) = 1)
    (ha : 0x10 ≤ (bytes.getD 1 0).toNat ∧ (bytes.getD 1 0).toNat ≤ 0x14) (hb : cmdWords (bytes.headD 0) ≤ begun) :
    let d := (c.readServed bytes begun prefetches).release
    d = { c with pins := d.pins, wh := d.wh } ∧ d.wh.err.getLsbD erBusyMfst = true ∧ d.wh.seq = c.wh.seq ∧
      d.wh.out = c.readHead ++ List.replicate (2 * begun) 0#8 := by
  have hs := Chip.serve_one_burst (c := c.sendStatus) (prefetches := prefetches) hd hm ha
  rw [← addrsOf_one hn] at hs
  obtain ⟨hf, herr, hseq, hout⟩ := Chip.readServed_zeros (ws := 1) hs hn.symm (by decide) hb
  exact ⟨hf, herr, hseq rfl, hout⟩

theorem Chip.readServed_notready (hn : cmdWords (bytes.headD 0) = 1) (ha : (bytes.getD 1 0).toNat = 0x12)
    (hd : c.wh.drain = []) (hm : c.wh.mfstBurst = false) (hr : c.wh.ready = false) (hi : c.wh.i2c = false)
    (hb : cmdWords (bytes.headD 0) ≤ begun) (hp : prefetches = 0) :
    let d := (c.readServed bytes begun prefetches).release
    d = { c with pins := d.pins, wh := d.wh } ∧ d.wh.err.getLsbD erNotready = true ∧
      d.wh.out = c.readHead ++ List.replicate (2 * begun) 0#8 := by
  subst hp
  have hs := Chip.serve_one_notready (c := c.sendStatus) hd hm hr hi
  rw [← ha, ← addrsOf_one hn] at hs
  obtain ⟨hf, herr, -, hout⟩ := Chip.readServed_zeros (ws := 1) hs hn.symm (by decide) hb
  exact ⟨hf, herr, hout⟩

theorem Chip.idataHiGet_loLatch (c : Chip) : c.idataHiGet.2.wh.loLatch = c.wh.readHolder.extractLsb' 0 16 := by
  rw [← setWidth_low]
  unfold Chip.idataHiGet
  dsimp only
  split <;> rfl

/-- A valid holder gives its high half and latches its low half (R125). -/
theorem Chip.readServed_ready (hn : cmdWords (bytes.headD 0) = 1) (ha : (bytes.getD 1 0).toNat = 0x12)
    (hd : c.wh.drain = []) (hm : c.wh.mfstBurst = false) (hr : c.wh.ready = true) :
    let d := (c.readServed bytes begun prefetches).release
    d.wh.out = c.readHead ++ [c.wh.readHolder.extractLsb' 24 8, c.wh.readHolder.extractLsb' 16 8] ++
      List.replicate (2 * (begun - 1)) 0#8 ∧ d.wh.loLatch = c.wh.readHolder.extractLsb' 0 16 := by
  have hs := Chip.serve_one_ready (c := c.sendStatus) (prefetches := prefetches) hd hm hr
  rw [← ha, ← addrsOf_one hn] at hs
  have hframe : c.sendStatus.idataHiGet.2 = { c with wh := c.sendStatus.idataHiGet.2.wh } := by
    unfold Chip.idataHiGet
    dsimp only
    split <;> rfl
  obtain ⟨-, -, -, -, hlo, -⟩ := Chip.readServed_frame (begun := begun) hs hframe
  refine ⟨?_, hlo.trans (Chip.idataHiGet_loLatch _)⟩
  refine (Chip.readServed_out (congrArg ReadRun.words hs)).trans ?_
  rw [hn, ← twoBytes_high]
  rfl

/-- A register of the port, or 0 with UNIMPL at an address that has none (R102). -/
theorem Chip.readServed_plain (hn : cmdWords (bytes.headD 0) = 1) (h12 : (bytes.getD 1 0).toNat ≠ 0x12)
    (hb : c.wh.mfstBurst = false ∨ (bytes.getD 1 0).toNat < 0x10 ∨ 0x14 < (bytes.getD 1 0).toNat)
    (hd : c.wh.drain = [] ∨ (bytes.getD 1 0).toNat ≠ 0x13) :
    let d := (c.readServed bytes begun prefetches).release
    let a := (bytes.getD 1 0).toNat
    d = { c with pins := { c.pins with sdoDriven := false }, wh := d.wh } ∧ d.wh.seq = (c.wh.seq + 1) % 4 ∧
      d.wh.acked = c.wh.i2c ∧
      ∀ v, (c.topRead a = some v ∨ (c.topRead a = none ∧ v = 0)) →
        d.wh.out = c.readHead ++ twoBytes v ++ List.replicate (2 * (begun - 1)) 0#8 ∧
        (c.topRead a ≠ none → d.wh.err = c.wh.err ∧ d.wh.status = 0) ∧
        (c.topRead a = none → d.wh.err.getLsbD erUnimpl = true) := by
  dsimp only
  have hs := Chip.serve_one_plain (c := c.sendStatus) (prefetches := prefetches) hd h12 hb
  rw [← addrsOf_one hn] at hs
  have htop : c.sendStatus.topRead (bytes.getD 1 0).toNat = c.topRead (bytes.getD 1 0).toNat := rfl
  rw [htop] at hs
  cases ht : c.topRead (bytes.getD 1 0).toNat with
  | some v =>
    rw [ht] at hs
    obtain ⟨hf, herr, hack, hst, -, hseq⟩ := Chip.readServed_frame (begun := begun) hs rfl
    refine ⟨hf, hseq, hack, fun w hw => ⟨?_, fun _ => ⟨herr, hst⟩, nofun⟩⟩
    have hvw : v = w := by simpa using hw
    rw [← hvw]
    refine (Chip.readServed_out (congrArg ReadRun.words hs)).trans ?_
    rw [hn]
    simp
  | none =>
    rw [ht] at hs
    obtain ⟨hf, herr, hack, -, -, hseq⟩ := Chip.readServed_frame (begun := begun) hs rfl
    refine ⟨hf, hseq, hack, fun w hw => ⟨?_, fun h => absurd rfl h, fun _ => ?_⟩⟩
    · obtain rfl : w = 0 := by simpa using hw
      refine (Chip.readServed_out (congrArg ReadRun.words hs)).trans ?_
      rw [hn]
      simp
    · rw [herr]
      exact Chip.whErr_err_self _ _ (by decide)

end

/-! ### The stretch limit (R109) -/

section

variable {c : Chip} {bytes : List Byte}

theorem addrsOf_getD (bytes : List Byte) : (addrsOf bytes).getD 0 0 = (bytes.getD 1 0).toNat := by
  unfold addrsOf
  obtain ⟨n, hn⟩ := Nat.exists_eq_succ_of_ne_zero (cmdWords_pos (bytes.headD 0)).ne'
  rw [hn]
  rfl

/-- Whether a read's first word is a window word that is not ready. -/
theorem Chip.stretchTimeout_zero (c : Chip) (bytes : List Byte) : c.stretchTimeout bytes 0 =
    if (bytes.getD 1 0).toNat ≠ 0x12 ∨ c.wh.drain ≠ [] ∨ c.wh.ready = true ∨ c.wh.mfstBurst = true then c
    else ((c.sendStatus.whErr erStretch).drive
      (c.statusByte :: List.replicate (2 * cmdWords (bytes.headD 0)) 0#8)).release := by
  have hserve : c.sendStatus.serve ((addrsOf bytes).take 0) 0 = ⟨c.sendStatus, [], 0, false, false, false⟩ :=
    if_neg (by simp)
  have hburst : c.sendStatus.burstRefuses 0x12 = c.wh.mfstBurst := by simp [Chip.burstRefuses, Chip.sendStatus, Chip.onWh]
  have hout : ∀ n, readBytes false false true false bytes.length 0 c.statusByte ([] ++ List.replicate (n - 0) 0#16) =
      c.statusByte :: List.replicate (2 * n) 0#8 := by
    intro n
    rw [← flatMap_twoBytes_zero]
    simp [readBytes]
  unfold Chip.stretchTimeout
  dsimp only
  rw [← addrsOf, hserve, addrsOf_getD, hburst, hout]
  refine if_congr ?_ rfl rfl
  simp [Chip.sendStatus, Chip.onWh]

end

theorem exec_i2cStretchTimeout {s : State} {dev : Nat} {bytes : List Byte} {served : Nat} (hs : s.runs)
    (hp : s.chip.pdOn 2 = true) (hi : s.chip.wh.i2c = true) (hdev : dev = 0x2C + s.chip.wh.i2cAddr)
    (hr : cmdRead (bytes.headD 0) = true) :
    exec (.i2cStretchTimeout ⟨dev, bytes⟩ served) s = .next { s with chip := s.chip.stretchTimeout bytes served } := by
  have ha : s.chip.addressed dev = true := by
    rw [← Bool.not_eq_false, Chip.addressed_eq_false]
    exact fun h => h.2 hdev
  have hall : (s.chip.pdOn 2 && s.chip.wh.i2c && s.chip.addressed dev && cmdRead (bytes.headD 0)) = true := by
    rw [hp, hi, ha, hr]
    rfl
  refine (State.effect_of_runs hs _).trans ?_
  rw [if_pos hall]

/-! ### The port's own registers (R115, R121, Table 3.7) -/

section

variable {s : State} {i : Instr} {f : Chip → Chip}

/-- A write of a register of the port: none arrives while PD02 is not ON, and none takes effect while writes drain. -/
theorem exec_hostTop (hs : s.runs) (hi : exec i s = effect s fun c => c.hostTop f) :
    (s.chip.pdOn 2 = false → exec i s = .next s) ∧
    (s.chip.pdOn 2 = true → s.chip.wh.drain ≠ [] → exec i s = .next { s with chip := s.chip.whErr erBusyDrain }) ∧
    (s.chip.pdOn 2 = true → s.chip.wh.drain = [] → exec i s = .next { s with chip := f s.chip }) := by
  rw [hi, State.effect_of_runs hs]
  refine ⟨fun h => ?_, fun h hd => ?_, fun h hd => ?_⟩
  · simp [Chip.hostTop, h]
  · simp [Chip.hostTop, h, Chip.ifDrained, hd]
  · simp [Chip.hostTop, h, Chip.ifDrained, hd]

end

/-! ### O51 -/

/-- A write of W1C bits clears them and no other. -/
theorem getLsbD_clear {n : Nat} (h : n < 16) (w v : Half) : (w &&& ~~~v).getLsbD n = (w.getLsbD n && !v.getLsbD n) := by
  simp [h]

/-- A transaction of either direction as it arrives. -/
theorem exec_transaction_arrives (s : State) (dev : Nat) (bytes : List Byte) (begun prefetches : Nat) (i : Instr)
    (hi : i ∈ [Instr.wharfWriteTransaction ⟨dev, bytes⟩, .wharfReadTransaction ⟨dev, bytes⟩ begun prefetches]) :
    ∃ f, exec i s = effect s fun c =>
      if c.pdOn 2 && (cmdRead (bytes.headD 0) != (i == .wharfReadTransaction ⟨dev, bytes⟩ begun prefetches)) then c
      else c.transaction dev bytes f := by
  simp only [List.mem_cons, List.not_mem_nil, or_false] at hi
  rcases hi with rfl | rfl
  · rw [show (Instr.wharfWriteTransaction ⟨dev, bytes⟩ == .wharfReadTransaction ⟨dev, bytes⟩ begun prefetches) = false
      from beq_false_of_ne (by simp)]
    exact ⟨_, exec_wharfWriteTransaction s dev bytes⟩
  · rw [beq_self_eq_true]
    exact ⟨_, exec_wharfReadTransaction s dev bytes begun prefetches⟩

/-- Settles O51: a transaction is judged by its address, its direction and the power of PD02; a write then by its length,
its CRC, the drain and a burst, in this order (log entry 104), and a read word by word. -/
theorem wharfTransactions : Obligations.WharfTransactions := by
  refine ⟨fun s dev bytes begun prefetches i hs hi => ?_, fun s dev bytes hs hp ha hr => ?_,
    fun s dev bytes begun prefetches hs hp ha hr => ?_, fun s dev bytes served hs => ?_, fun s v hs => ?_⟩
  · obtain ⟨f, hf⟩ := exec_transaction_arrives s dev bytes begun prefetches i hi
    obtain ⟨hskip, hforeign, hsleep, -⟩ := exec_transaction hs hf
    refine ⟨hskip, hforeign, fun hp hno => ⟨fun hu => ?_, fun hu => ?_⟩⟩
    · refine ⟨s.chip.wakeTrigger 1, State.effect_of_runs hs fun c => c.wakeTrigger 1, ?_⟩
      rw [hsleep hp hno, Chip.sleepTransaction_of_not_unlock hu]
      rfl
    · exact ⟨_, hsleep hp hno, Chip.sleepTransaction_unlock hu⟩
  · have hno : ¬(s.chip.wh.i2c = true ∧ dev ≠ 0x2C + s.chip.wh.i2cAddr) := by
      rw [← Chip.addressed_eq_false, ha]
      decide
    obtain ⟨-, -, -, hserved⟩ := exec_transaction hs (exec_wharfWriteTransaction s dev bytes)
    refine ⟨_, hserved hp hr hno, fun hf => ?_, fun hw hrc hd => ⟨?_, ?_, ?_, ?_, ?_⟩⟩
    · obtain ⟨he, hevt, hframe, hempty, hcrc, hdrain, hburst⟩ := Chip.writeTransaction_faulty hf
      obtain ⟨hd, hout⟩ := Chip.writeAnswer_errsOnly he
      exact ⟨hd, hout, hevt, hframe, hempty, hcrc, hdrain, hburst⟩
    · exact Chip.writeTransaction_scratch hw hrc hd
    · exact Chip.writeTransaction_evtEn hw hrc hd
    · exact Chip.writeTransaction_aperBase hw hrc hd
    · exact Chip.writeTransaction_mixed hw hrc hd
    · exact fun a => Chip.writeTransaction_unnamed hw hrc hd
  · have hno : ¬(s.chip.wh.i2c = true ∧ dev ≠ 0x2C + s.chip.wh.i2cAddr) := by
      rw [← Chip.addressed_eq_false, ha]
      decide
    obtain ⟨-, -, -, hserved⟩ := exec_transaction hs (exec_wharfReadTransaction s dev bytes begun prefetches)
    refine ⟨_, hserved hp hr hno, rfl, fun hc hl hx => ?_, fun hc hl hb => ?_⟩
    · exact Chip.readTransaction_release_badCrc hc hl hx
    · rw [Chip.readTransaction_served hc hl hb]
      exact ⟨fun hd hx => Chip.readServed_drain hd hx hb, fun hd hm hn h1 h2 => Chip.readServed_burst hd hm hn ⟨h1, h2⟩ hb,
        fun hn ha hd hm => ⟨fun hr => Chip.readServed_ready hn ha hd hm hr,
          fun hr hz hi => Chip.readServed_notready hn ha hd hm hr hi hb hz⟩,
        fun hn ha hm hd => Chip.readServed_plain hn ha hm hd⟩
  · refine ⟨fun hno => ?_, fun hp hi hdev hr => ⟨fun hno => ?_, fun ha hd hrd hm => ?_⟩⟩
    · refine (State.effect_of_runs hs _).trans ?_
      rw [if_neg]
      rintro h
      simp only [Bool.and_eq_true] at h
      obtain ⟨⟨⟨hp, hi⟩, ha⟩, hr⟩ := h
      obtain h | h | h | h := hno
      · exact absurd (h.symm.trans hp) (by decide)
      · exact absurd (h.symm.trans hi) (by decide)
      · exact absurd ((Chip.addressed_eq_false.mpr ⟨hi, h⟩).symm.trans ha) (by decide)
      · exact absurd (h.symm.trans hr) (by decide)
    · rw [exec_i2cStretchTimeout hs hp hi hdev hr, Chip.stretchTimeout_zero, if_pos]
      exact hno.imp_left fun h h' => h (BitVec.eq_of_toNat_eq h')
    · have hno : ¬((bytes.getD 1 0).toNat ≠ 0x12 ∨ s.chip.wh.drain ≠ [] ∨ s.chip.wh.ready = true ∨
          s.chip.wh.mfstBurst = true) := by
        rw [ha]
        simp [hd, hrd, hm]
      refine ⟨_, exec_i2cStretchTimeout hs hp hi hdev hr, ?_⟩
      rw [Chip.stretchTimeout_zero, if_neg hno, Chip.drive_release]
      exact ⟨rfl, Chip.whErr_err_self _ _ (by decide), rfl, rfl⟩
  · obtain ⟨hoff, hdrain, hon⟩ := exec_hostTop hs (i := .crcEnWrite v) rfl
    obtain ⟨eoff, edrain, eon⟩ := exec_hostTop hs (i := .whEvtClear v) rfl
    obtain ⟨roff, rdrain, ron⟩ := exec_hostTop hs (i := .whErrClear v) rfl
    refine ⟨fun hp => ⟨hoff hp, eoff hp, roff hp⟩, fun hp hd i hi => ?_,
      fun hp hd => ⟨hon hp hd, ⟨_, eon hp hd, rfl, ?_⟩,
      ⟨_, ron hp hd, rfl, ?_, rfl⟩⟩⟩
    · simp only [List.mem_cons, List.not_mem_nil, or_false] at hi
      rcases hi with rfl | rfl | rfl
      · exact hdrain hp hd
      · exact edrain hp hd
      · exact rdrain hp hd
    · exact fun n hn => getLsbD_clear hn _ _
    · exact fun n hn => getLsbD_clear hn _ _

end Sys2Proof.Machine
end

section
/-! SUPPORT. The indirect window and its prefetches, draining writes and the aperture (R123-R140). -/

namespace Sys2Proof.Machine

open Sys2Proof

/-! ### Accesses of the window (R123-R129) -/

section

variable {s : State} {i : Instr} {f : Chip → Chip}

/-- A window access: not before PD02 is ON, BUSY_DRAIN while writes drain, BUSY_MFST in a burst. -/
theorem exec_window (hs : s.runs) (hi : exec i s = effect s fun c => c.window f) :
    (s.chip.pdOn 2 = false → exec i s = .next s) ∧
    (s.chip.pdOn 2 = true → s.chip.wh.drain ≠ [] → exec i s = .next { s with chip := s.chip.whErr erBusyDrain }) ∧
    (s.chip.pdOn 2 = true → s.chip.wh.drain = [] → s.chip.wh.mfstBurst = true →
      exec i s = .next { s with chip := s.chip.whErr erBusyMfst }) ∧
    (s.chip.pdOn 2 = true → s.chip.wh.drain = [] → s.chip.wh.mfstBurst = false →
      exec i s = .next { s with chip := f s.chip }) := by
  obtain ⟨hoff, hdrain, hon⟩ := exec_hostTop hs hi
  refine ⟨hoff, hdrain, fun hp hd hb => ?_, fun hp hd hb => ?_⟩
  · rw [hon hp hd, if_pos hb]
  · rw [hon hp hd, if_neg (by simp [hb])]

/-- Each access of the window. -/
theorem exec_window_mem {high : Bool} {v : Half} (s : State)
    (hi : i ∈ [Instr.iaddrWrite high v, .idataHiRead, .idataHiWrite v, .idataLoWrite v]) :
    ∃ f, exec i s = effect s fun c => c.window f := by
  simp only [List.mem_cons, List.not_mem_nil, or_false] at hi
  rcases hi with rfl | rfl | rfl | rfl
  · exact ⟨_, rfl⟩
  · exact ⟨_, rfl⟩
  · exact ⟨_, rfl⟩
  · exact ⟨_, rfl⟩

end

section

variable {c : Chip}

/-- The address after an access (R129). -/
def Wharf.nextAddr (w : Wharf) : Nat := if w.autoinc then (w.iaddr + 4) % 2 ^ 24 else w.iaddr

/-- A valid holder is read (R125). -/
theorem Chip.idataHiRead_ready (hr : c.wh.ready = true) :
    let d := c.idataHiRead
    d = { c with pins := d.pins, wh := d.wh } ∧
      d.wh.out = [c.wh.readHolder.extractLsb' 24 8, c.wh.readHolder.extractLsb' 16 8] ∧
      d.wh.loLatch = c.wh.readHolder.extractLsb' 0 16 ∧ d.wh.iaddr = c.wh.nextAddr ∧ d.wh.err = c.wh.err ∧
      (c.wh.autoinc = true → d.wh.prefetch = some c.wh.nextAddr ∧ d.wh.ready = false) := by
  have hd : c.idataHiRead = ((c.idataHiGet.2).drive (twoBytes c.idataHiGet.1)).release := by
    simp [Chip.idataHiRead, hr]
  dsimp only
  rw [hd, ← twoBytes_high, ← setWidth_low, Chip.drive_release]
  unfold Chip.idataHiGet Wharf.nextAddr
  cases ha : c.wh.autoinc with
  | true => simp [Chip.startPrefetch, Chip.iaddrNext, Chip.onWh, ha]
  | false => simp [Chip.onWh]

/-- A holder that nothing makes ready. -/
theorem Chip.idataHiRead_notready (hr : c.wh.ready = false) (hi : c.wh.i2c = false ∨ c.wh.prefetch = none) :
    let d := c.idataHiRead
    d = { c with pins := d.pins, wh := d.wh } ∧ d.pins.sdoDriven = false ∧ d.wh.out = [0#8, 0#8] ∧
      d.wh.iaddr = c.wh.iaddr ∧ d.wh.loLatch = c.wh.loLatch ∧
      d.wh.err.getLsbD (if c.wh.i2c then erStretch else erNotready) = true := by
  have hno : (c.wh.i2c && !c.wh.ready && c.prefetchCan) = false := by
    rcases hi with hi | hi <;> simp [hi, Chip.prefetchCan]
  have hd : c.idataHiRead = ((c.whErr (if c.wh.i2c then erStretch else erNotready)).drive (twoBytes 0)).release := by
    unfold Chip.idataHiRead
    rw [hno]
    cases hi : c.wh.i2c <;> simp [hr, hi]
  dsimp only
  rw [hd, Chip.drive_release]
  refine ⟨rfl, rfl, rfl, rfl, rfl, Chip.whErr_err_self _ _ ?_⟩
  split <;> decide

/-! ### Prefetches (R124, R131, R136) -/

theorem Chip.afterRead_wh (c : Chip) (a : Nat) : (c.afterRead a).wh = c.wh := by
  unfold Chip.afterRead
  split <;> rfl

theorem Chip.hostRead_ok {a : Nat} (h : c.access a = .ok) : c.hostRead a = (c.readReg a, c.afterRead a) := by
  simp [Chip.hostRead, h]

theorem Chip.hostRead_refused {a e : Nat}
    (h : (c.access a, e) ∈ [(Access.unimpl, erUnimpl), (.pwroff, erPwroff), (.variant, erVariant)]) :
    c.hostRead a = (0, c.whErr e) ∧ e < 16 := by
  simp only [List.mem_cons, Prod.mk.injEq, List.not_mem_nil, or_false] at h
  obtain ⟨ha, rfl⟩ | ⟨ha, rfl⟩ | ⟨ha, rfl⟩ := h
  · exact ⟨by simp [Chip.hostRead, ha], by decide⟩
  · exact ⟨by simp [Chip.hostRead, ha], by decide⟩
  · exact ⟨by simp [Chip.hostRead, ha], by decide⟩

/-- An internal read changes the port's errors, and the values that are still to be drawn. -/
theorem Chip.hostRead_frame (c : Chip) (a : Nat) :
    (c.hostRead a).2 = { c with wh := (c.hostRead a).2.wh, free := (c.hostRead a).2.free } := by
  cases h : c.access a with
  | ok =>
    rw [Chip.hostRead_ok h]
    unfold Chip.afterRead
    split <;> rfl
  | unimpl => rw [(Chip.hostRead_refused (e := erUnimpl) (by simp [h])).1]; rfl
  | pwroff => rw [(Chip.hostRead_refused (e := erPwroff) (by simp [h])).1]; rfl
  | variant => rw [(Chip.hostRead_refused (e := erVariant) (by simp [h])).1]; rfl

theorem Chip.prefetchDone_reg {a : Nat} (hp : c.wh.prefetch = some a) (ha : inAperture a = false) :
    c.prefetchDone = Chip.holderTake (c.hostRead a) := by
  simp [Chip.prefetchDone, hp, ha]

theorem Chip.prefetchDone_aper {a : Nat} (hp : c.wh.prefetch = some a) (ha : inAperture a = true) :
    c.prefetchDone = Chip.holderTake (c.aperRead a) := by
  simp [Chip.prefetchDone, hp, ha]

theorem Chip.holderTake_wh (r : Word × Chip) :
    (Chip.holderTake r).wh = { r.2.wh with readHolder := r.1, ready := true, prefetch := none } := rfl

theorem Chip.holderTake_frame (r : Word × Chip) : Chip.holderTake r = { r.2 with wh := (Chip.holderTake r).wh } := rfl

/-- What a prefetch of an internal register brings (R131, R136). -/
theorem Chip.holderTake_hostRead (c : Chip) (a : Nat) :
    let d := Chip.holderTake (c.hostRead a)
    d = { c with wh := d.wh, free := d.free } ∧ d.wh.ready = true ∧ d.wh.prefetch = none ∧
      (c.access a = .ok → d.wh.readHolder = c.readReg a ∧ d.wh.err = c.wh.err) ∧
      (∀ e, (c.access a, e) ∈ [(Access.unimpl, erUnimpl), (.pwroff, erPwroff), (.variant, erVariant)] →
        d.wh.readHolder = 0 ∧ d.wh.err.getLsbD e = true) := by
  refine ⟨?_, rfl, rfl, fun hok => ?_, fun e he => ?_⟩
  · obtain ⟨w, f, h⟩ : ∃ w f, (c.hostRead a).2 = { c with wh := w, free := f } := ⟨_, _, c.hostRead_frame a⟩
    rw [Chip.holderTake_frame, h]
  · rw [Chip.holderTake_wh, Chip.hostRead_ok hok, Chip.afterRead_wh]
    exact ⟨rfl, rfl⟩
  · obtain ⟨hr, hlt⟩ := Chip.hostRead_refused he
    rw [Chip.holderTake_wh, hr]
    exact ⟨rfl, Chip.whErr_err_self c e hlt⟩

/-- The aperture's word, or the error that stops its read (R138, R140, R384). -/
theorem Chip.aperRead_closed {a : Nat} (h : c.aperOpen (c.aperSys a) = false) : c.aperRead a = (0, c.whErr erAper) := by
  simp [Chip.aperRead, h]

theorem Chip.aperRead_open {a : Nat} {r : WordRead} (h : c.aperOpen (c.aperSys a) = true)
    (hr : c.readSys (c.aperSys a) = some r) :
    (2 ≤ r.cls → ∃ d : Chip, c.aperRead a = (0, d.whErr erAperUe)) ∧
    (r.cls < 2 → (c.aperRead a).1 = BitVec.ofNat 32 (r.data / 2 ^ (32 * (c.aperSys a / 4 % 2)))) := by
  refine ⟨fun hc => ⟨(c.clientLine 11 (c.aperSys a / 64 * 64) false []).noteRead 15 (c.aperSys a / 8 * 8) r, ?_⟩,
    fun hc => ?_⟩
  · simp [Chip.aperRead, h, hr, hc]
  · have hc' : ¬2 ≤ r.cls := by omega
    simp [Chip.aperRead, h, hr, hc']

/-- What a prefetch from the aperture brings (R138, R140, R384). -/
theorem Chip.holderTake_aperRead (c : Chip) (a : Nat) :
    let d := Chip.holderTake (c.aperRead a)
    d.wh.ready = true ∧ d.wh.prefetch = none ∧ d.stores = c.stores ∧ d.seat = c.seat ∧
      (c.aperOpen (c.aperSys a) = false →
        d.wh.readHolder = 0 ∧ d.wh.err.getLsbD erAper = true ∧ d = { c with wh := d.wh }) ∧
      ∀ r, c.aperOpen (c.aperSys a) = true → c.readSys (c.aperSys a) = some r →
        (2 ≤ r.cls → d.wh.readHolder = 0 ∧ d.wh.err.getLsbD erAperUe = true) ∧
        (r.cls < 2 → d.wh.readHolder = BitVec.ofNat 32 (r.data / 2 ^ (32 * (c.aperSys a / 4 % 2)))) := by
  refine ⟨rfl, rfl, (c.aperRead_stores a : _), (c.aperRead_seat a : _), fun hcl => ?_,
    fun r hop hr => ⟨fun hc => ?_, fun hc => ?_⟩⟩
  · rw [Chip.aperRead_closed hcl]
    exact ⟨rfl, Chip.whErr_err_self c _ (by decide), rfl⟩
  · obtain ⟨d, hd⟩ := (Chip.aperRead_open hop hr).1 hc
    rw [hd]
    exact ⟨rfl, Chip.whErr_err_self d _ (by decide)⟩
  · exact (Chip.aperRead_open hop hr).2 hc

/-- On I2C the read of the holder waits for its prefetch (R109). -/
theorem Chip.idataHiRead_prefetch {a : Nat} (hr : c.wh.ready = false) (hi : c.wh.i2c = true)
    (hp : c.wh.prefetch = some a) (ha : inAperture a = false) : c.idataHiRead = c.prefetchDone.idataHiRead := by
  have hyes : (c.wh.i2c && !c.wh.ready && c.prefetchCan) = true := by simp [hi, hr, Chip.prefetchCan, hp, ha]
  have hready : c.prefetchDone.wh.ready = true := by rw [Chip.prefetchDone_reg hp ha]; rfl
  unfold Chip.idataHiRead
  simp [hyes, hready]

/-- What a prefetch on I2C brings is what the read returns. -/
theorem Chip.idataHiRead_prefetch_ok {a : Nat} (hr : c.wh.ready = false) (hi : c.wh.i2c = true)
    (hp : c.wh.prefetch = some a) (ha : inAperture a = false) (hok : c.access a = .ok) :
    let d := c.idataHiRead
    d = { c with pins := d.pins, wh := d.wh, free := d.free } ∧ d.wh.err = c.wh.err ∧
      d.wh.out = [(c.readReg a).extractLsb' 24 8, (c.readReg a).extractLsb' 16 8] := by
  have hdone := Chip.prefetchDone_reg hp ha
  rw [Chip.hostRead_ok hok] at hdone
  have hready : c.prefetchDone.wh.ready = true := by rw [hdone]; rfl
  have herr : c.prefetchDone.wh.err = c.wh.err := by
    rw [hdone]
    change (c.afterRead a).wh.err = c.wh.err
    rw [Chip.afterRead_wh]
  have hhold : c.prefetchDone.wh.readHolder = c.readReg a := by rw [hdone]; rfl
  obtain ⟨w, fr, hframe⟩ : ∃ w fr, c.prefetchDone = { c with wh := w, free := fr } := by
    rw [hdone]
    unfold Chip.afterRead
    split <;> exact ⟨_, _, rfl⟩
  dsimp only
  rw [Chip.idataHiRead_prefetch hr hi hp ha]
  obtain ⟨hd, hout, -, -, he, -⟩ := Chip.idataHiRead_ready hready
  refine ⟨?_, he.trans herr, hout.trans (by rw [hhold])⟩
  rw [hframe] at hd ⊢
  have hfree : (Chip.idataHiRead { c with wh := w, free := fr }).free = fr := by rw [hd]
  rw [hfree]
  exact hd

end

/-! ### Draining writes (R128, R132, R139) -/

section

variable {s : State}

/-- The oldest draining write takes effect when it goes to a register (R132). -/
def Chip.writeStep (c : Chip) : Chip :=
  match c.wh.drain with
  | (a, v) :: _ => if inAperture a then c else c.drainPop.hostWrite a v 0xFFFFFFFF#32
  | [] => c

/-- The oldest draining write, or else the prefetch, takes effect when it goes to an aperture that serves it (R139). -/
def Chip.aperStep (c : Chip) : Chip :=
  match c.wh.drain, c.wh.prefetch with
  | (a, v) :: _, _ => if inAperture a && !c.aperWaits a then c.drainPop.aperWrite a v else c
  | [], some a => if inAperture a && !c.aperWaits a then c.prefetchDone else c
  | [], none => c

/-- The prefetch ends when it goes to a register and no write drains (R131). -/
def Chip.prefetchStep (c : Chip) : Chip :=
  match c.wh.prefetch with
  | some a => if c.wh.drain = [] ∧ inAperture a = false then c.prefetchDone else c
  | none => c

theorem exec_internalWriteComplete (hs : s.runs) :
    exec .internalWriteComplete s = .next { s with chip := s.chip.writeStep } := by
  rw [← State.effect_of_runs hs]
  rfl

theorem exec_apertureComplete (hs : s.runs) : exec .apertureComplete s = .next { s with chip := s.chip.aperStep } := by
  rw [← State.effect_of_runs hs]
  rfl

theorem exec_prefetchComplete (hs : s.runs) : exec .prefetchComplete s = .next { s with chip := s.chip.prefetchStep } := by
  rw [← State.effect_of_runs hs]
  rfl

section

variable {c : Chip} {a : Nat} {v : Word} {rest : List (Nat × Word)}

theorem Chip.writeStep_nil (hd : c.wh.drain = []) : c.writeStep = c := by simp [Chip.writeStep, hd]

theorem Chip.writeStep_reg (hd : c.wh.drain = (a, v) :: rest) (ha : inAperture a = false) :
    c.writeStep = c.drainPop.hostWrite a v 0xFFFFFFFF#32 := by
  simp [Chip.writeStep, hd, ha]

theorem Chip.writeStep_aper (hd : c.wh.drain = (a, v) :: rest) (ha : inAperture a = true) : c.writeStep = c := by
  simp [Chip.writeStep, hd, ha]

theorem Chip.aperStep_write (hd : c.wh.drain = (a, v) :: rest) (ha : inAperture a = true) (hw : c.aperWaits a = false) :
    c.aperStep = c.drainPop.aperWrite a v := by
  simp [Chip.aperStep, hd, ha, hw]

theorem Chip.aperStep_write_waits (hd : c.wh.drain = (a, v) :: rest) (h : inAperture a = false ∨ c.aperWaits a = true) :
    c.aperStep = c := by
  rcases h with h | h <;> simp [Chip.aperStep, hd, h]

theorem Chip.aperStep_none (hd : c.wh.drain = []) (hp : c.wh.prefetch = none) : c.aperStep = c := by
  simp [Chip.aperStep, hd, hp]

theorem Chip.aperStep_prefetch (hd : c.wh.drain = []) (hp : c.wh.prefetch = some a) (ha : inAperture a = true)
    (hw : c.aperWaits a = false) : c.aperStep = c.prefetchDone := by
  simp [Chip.aperStep, hd, hp, ha, hw]

theorem Chip.aperStep_prefetch_waits (hd : c.wh.drain = []) (hp : c.wh.prefetch = some a)
    (h : inAperture a = false ∨ c.aperWaits a = true) : c.aperStep = c := by
  rcases h with h | h <;> simp [Chip.aperStep, hd, hp, h]

theorem Chip.prefetchStep_reg (hd : c.wh.drain = []) (hp : c.wh.prefetch = some a) (ha : inAperture a = false) :
    c.prefetchStep = c.prefetchDone := by
  simp [Chip.prefetchStep, hd, hp, ha]

theorem Chip.prefetchStep_idle (h : c.wh.prefetch = none ∨ c.wh.drain ≠ []) : c.prefetchStep = c := by
  unfold Chip.prefetchStep
  split
  next a hp => exact if_neg fun hd => h.elim (by simp [hp]) fun hne => hne hd.1
  next => rfl

theorem Chip.prefetchStep_aper (hp : c.wh.prefetch = some a) (ha : inAperture a = true) : c.prefetchStep = c := by
  simp [Chip.prefetchStep, hp, ha]

end

theorem Chip.drainPop_cons {c : Chip} {x : Nat × Word} {rest : List (Nat × Word)} (h : c.wh.drain = x :: rest) :
    c.drainPop = { c with wh := { c.wh with drain := rest } } := by
  simp [Chip.drainPop, Chip.onWh, h]

theorem Chip.aperWrite_closed {c : Chip} {a : Nat} (v : Word) (h : c.aperOpen (c.aperSys a) = false) :
    c.aperWrite a v = c.whErr erAper := by
  simp [Chip.aperWrite, h]

/-- A register's write, by where its address lies. -/
theorem Chip.registerWrite_internal (c : Chip) {a : Nat} (v mask : Word) (h : a < 0x800000) :
    c.registerWrite a v mask = c.hostWrite a v mask := by
  unfold Chip.registerWrite
  rw [if_neg (by omega), if_neg (by simp [inAperture]; omega)]

theorem Chip.registerWrite_aperture (c : Chip) {a : Nat} (v mask : Word) (h : 0x800000 ≤ a) (h24 : a < 2 ^ 24) :
    c.registerWrite a v mask = c.hostTop fun c => c.aperWrite a v := by
  unfold Chip.registerWrite
  rw [if_neg (by omega), if_pos (by simpa [inAperture] using h)]

theorem inAperture_eq_false {a : Nat} : inAperture a = false ↔ a < 0x800000 := by simp [inAperture]

theorem inAperture_eq_true {a : Nat} : inAperture a = true ↔ 0x800000 ≤ a := by simp [inAperture]

end

/-! ### Writes of internal registers (R27, R136) -/

theorem exec_registerWrite {s : State} (hs : s.runs) (a : Nat) (v mask : Word) :
    exec (.registerWrite a v mask) s = .next { s with chip := s.chip.registerWrite a v mask } := by
  rw [← State.effect_of_runs hs fun c => c.registerWrite a v mask]
  rfl

section

variable {c : Chip}

theorem Chip.hostTop_drain (f : Chip → Chip) (hp : c.pdOn 2 = true) (hd : c.wh.drain ≠ []) :
    c.hostTop f = c.whErr erBusyDrain := by
  simp [Chip.hostTop, hp, Chip.ifDrained, hd]

theorem Chip.hostTop_served (f : Chip → Chip) (hp : c.pdOn 2 = true) (hd : c.wh.drain = []) : c.hostTop f = f c := by
  simp [Chip.hostTop, hp, Chip.ifDrained, hd]

/-- A write that reaches no register of the map (R136). -/
theorem Chip.guardReg_error {a e : Nat} (f : Chip → Chip) (hp : c.pdOn 2 = true)
    (h : (c.access a, e) ∈ [(Access.unimpl, erUnimpl), (.pwroff, erPwroff), (.variant, erVariant)]) :
    c.guardReg a f = c.whErr e := by
  simp only [List.mem_cons, Prod.mk.injEq, List.not_mem_nil, or_false] at h
  obtain ⟨ha, rfl⟩ | ⟨ha, rfl⟩ | ⟨ha, rfl⟩ := h <;> simp [Chip.guardReg, hp, ha]

/-- A write above the internal registers goes to the aperture or to the port itself. -/
theorem Chip.registerWrite_top {a : Nat} (v mask : Word) (h : 0x800000 ≤ a) :
    ∃ f, c.registerWrite a v mask = c.hostTop f := by
  unfold Chip.registerWrite
  split
  · exact ⟨_, rfl⟩
  · rw [if_pos (inAperture_eq_true.mpr h)]
    exact ⟨_, rfl⟩

end

/-! ### Bits taken, bits kept, bits locked -/

/-- Storing an operand leaves what is not open and takes the rest from the word written. -/
theorem stored_eq (g k m o v : Word) :
    (g &&& ~~~k) ||| (((g &&& k &&& ~~~m) ||| (v &&& m &&& (k ||| o))) &&& k) = (g &&& ~~~(k &&& m)) ||| (v &&& (k &&& m)) := by
  ext i hi
  simp only [BitVec.getElem_or, BitVec.getElem_and, BitVec.getElem_not]
  cases g[i] <;> cases k[i] <;> cases m[i] <;> cases v[i] <;> simp

section

variable {c : Chip} {a : Nat} {r : RegRow}

theorem Chip.operand_row (v m : Word) (hr : rowOf a = some r) :
    c.operand a v m = (c.get a &&& BitVec.ofNat 32 (Nat.lor (Nat.lor r.rw r.rws) r.rwl) &&& ~~~m) |||
      (v &&& m &&& (BitVec.ofNat 32 (Nat.lor (Nat.lor r.rw r.rws) r.rwl) ||| BitVec.ofNat 32 (Nat.lor r.w1c r.wo))) := by
  simp only [Chip.operand, hr]

theorem Chip.storeWordAt_row (w : Word) (hr : rowOf a = some r) :
    c.storeWordAt a w = c.setReg a (((c.get a &&& ~~~(BitVec.ofNat 32 (Nat.lor (Nat.lor r.rw r.rws) r.rwl) &&& 0xFFFFFFFF#32)) |||
      (w &&& (BitVec.ofNat 32 (Nat.lor (Nat.lor r.rw r.rws) r.rwl) &&& 0xFFFFFFFF#32))) &&&
        ~~~(BitVec.ofNat 32 r.w1c &&& w &&& 0xFFFFFFFF#32)) := by
  simp only [Chip.storeWordAt, Chip.storeFields, hr]

theorem Chip.storeWordAt_onlyRegs (c : Chip) (a : Nat) (w : Word) : c.onlyRegs (c.storeWordAt a w) [a] := by
  unfold Chip.storeWordAt Chip.storeFields
  split
  · exact .refl c _
  · exact (Chip.onlyRegs.refl c _).setReg _ (List.mem_singleton_self a)

/-- A register without W1C bits, after a write of its operand. -/
theorem Chip.get_storeWordAt_operand (v m : Word) (hr : rowOf a = some r) (h1 : r.w1c = 0) :
    (c.storeWordAt a (c.operand a v m)).get a =
      (c.get a &&& ~~~(BitVec.ofNat 32 (Nat.lor (Nat.lor r.rw r.rws) r.rwl) &&& m)) |||
        (v &&& (BitVec.ofNat 32 (Nat.lor (Nat.lor r.rw r.rws) r.rwl) &&& m)) := by
  have hones : ∀ w : Word, w &&& 0xFFFFFFFF#32 = w := fun w => BitVec.and_allOnes
  rw [Chip.storeWordAt_row _ hr, Chip.get_setReg_self, Chip.operand_row v m hr, h1, hones, hones, stored_eq]
  have h0 : ∀ w : Word, BitVec.ofNat 32 0 &&& w = 0 := fun w => BitVec.zero_and
  rw [h0]
  exact hones _

end

theorem Chip.onlyRegs.trans {c d e : Chip} {as bs : List Nat} (h : c.onlyRegs d as) (k : d.onlyRegs e bs) :
    c.onlyRegs e (as ++ bs) := by
  refine ⟨?_, h.2.trans k.2⟩
  rw [k.1, h.1]

/-- The port's state is not among the registers. -/
theorem Chip.onlyRegs.wh {c d : Chip} {as : List Nat} (h : c.onlyRegs d as) : d.wh = c.wh := by rw [h.1]

/-! ### A write that reaches its register (R27, R168, R561) -/

/-- A write of registers other than the scan-outs' status loses no lock and runs or stops no scan-out: the uses that begin
are all that follows it. -/
theorem Chip.withUses_lockLost {c : Chip} {f : Chip → Chip} {as : List Nat} (h : c.onlyRegs (f c) as)
    (hA : SOA_STAT.addr ∉ as) (hB : (soF 1 SOA_STAT).addr ∉ as) (hl : c.soLocked = false) :
    (f c).onlyRegs (c.withUses fun c => (f c).lockLost) clockDoms := by
  have hlost : (f c).lockLost = f c := by
    have hl' : (f c).soLocked = false := (h.2.flag (f := soF 1 SOA_STAT_LOCKED) hB).trans hl
    exact if_neg (by simp [hl'])
  rw [Chip.withUses_congr (g := f) hlost]
  refine Chip.withUses_onlyRegs (.of_sameBut h.2 hA hB ?_)
  rw [h.1]

/-- The part once a write's locked bits are judged (R27). -/
def Chip.lockNoted (c : Chip) (a : Nat) (mask : Word) : Chip :=
  if mask &&& c.lockedBits a = 0 then c else c.whErr erLock

section

variable {c : Chip} {a : Nat} {v mask : Word}

theorem Chip.lockNoted_frame (c : Chip) (a : Nat) (mask : Word) :
    c.lockNoted a mask = { c with wh := (c.lockNoted a mask).wh } := by
  unfold Chip.lockNoted
  split <;> rfl

theorem Chip.lockNoted_get (c : Chip) (a : Nat) (mask : Word) (b : Nat) : (c.lockNoted a mask).get b = c.get b := by
  rw [Chip.lockNoted_frame]
  rfl

theorem Chip.lockNoted_operand (c : Chip) (a : Nat) (mask : Word) (b : Nat) (w m : Word) :
    (c.lockNoted a mask).operand b w m = c.operand b w m := by
  unfold Chip.operand
  rw [Chip.lockNoted_get]

/-- What an open write of registers leaves behind. -/
theorem Chip.hostStore_onlyRegs {as : List Nat}
    (h : ∀ e : Chip, e.onlyRegs (e.writeReg a (e.operand a v (mask &&& ~~~ c.lockedBits a)) false false) as)
    (hA : SOA_STAT.addr ∉ as) (hB : (soF 1 SOA_STAT).addr ∉ as) (hl : c.soLocked = false) :
    ((c.lockNoted a mask).writeReg a (c.operand a v (mask &&& ~~~ c.lockedBits a)) false false).onlyRegs
      (c.hostStore a v mask) clockDoms := by
  have hl' : (c.lockNoted a mask).soLocked = false := by
    rw [Chip.lockNoted_frame]
    exact hl
  have hu := Chip.withUses_lockLost
    (f := fun e => e.writeReg a (e.operand a v (mask &&& ~~~ c.lockedBits a)) false false)
    (h (c.lockNoted a mask)) hA hB hl'
  rw [Chip.lockNoted_operand] at hu
  exact hu

end

/-! ### Table RAMs and plain registers -/

/-- The blocks whose registers store what is written, their records, counters and enables apart. -/
def plainBlocks : List Nat := [0x0B, 0x0C, 0x14, 0x15, 0x18, 0x29]

/-- A plain register of those blocks is stored. -/
theorem Chip.writeReg_plain (c : Chip) {a : Nat} (w : Word) (hb : a / 65536 ∈ plainBlocks) (hF0 : a % 65536 ≠ 0xF0)
    (hE0 : a % 65536 ≠ 0xE0) (h0 : a % 65536 ≠ 0 ∨ 0x140000 ≤ a) : c.writeReg a w false false = c.storeWordAt a w := by
  have hclr : a % 65536 ≠ cntClrAt (a / 65536) := by
    revert hb
    generalize a / 65536 = k
    intro hb
    fin_cases hb <;> exact hE0
  unfold Chip.writeReg
  rw [if_neg fun h => hF0 h.1, if_neg fun h => hclr h.1]
  have hisp : ∀ k, a / 65536 = 0x0B ∨ a / 65536 = 0x0C → c.writeIsp k a w = c.storeWordAt a w :=
    fun k hk => if_neg fun h => by omega
  simp only [plainBlocks, List.mem_cons, List.not_mem_nil, or_false] at hb
  unfold Chip.writeBlock
  rcases hb with hk | hk | hk | hk | hk | hk
  · rw [hk]
    exact hisp 0 (.inl hk)
  · rw [hk]
    exact hisp 1 (.inr hk)
  all_goals
    rw [hk]
    rfl

theorem clockDoms_lt {a : Nat} (h : a ∈ clockDoms) : a < 0x10000 :=
  (show ∀ a ∈ clockDoms, a < 0x10000 by decide) a h

/-- What a write of a plain register leaves behind, its locked bits judged. -/
theorem Chip.hostStore_plain {c : Chip} {a : Nat} {r : RegRow} (v mask : Word) (hr : rowOf a = some r)
    (hb : a / 65536 ∈ plainBlocks) (hF0 : a % 65536 ≠ 0xF0) (hE0 : a % 65536 ≠ 0xE0)
    (h0 : a % 65536 ≠ 0 ∨ 0x140000 ≤ a) (hl : c.soLocked = false) :
    let d := c.hostStore a v mask
    let open' := BitVec.ofNat 32 (Nat.lor (Nat.lor r.rw r.rws) r.rwl) &&& mask &&& ~~~ c.lockedBits a
    d = { c with regs := d.regs, wh := d.wh } ∧ c.sameBut d (a :: clockDoms) ∧
      (r.w1c = 0 → d.get a = (c.get a &&& ~~~ open') ||| (v &&& open')) ∧
      (mask &&& c.lockedBits a = 0 → d.wh = c.wh) ∧
      (mask &&& c.lockedBits a ≠ 0 → d.wh.err.getLsbD erLock = true) := by
  have hge : 0xB0000 ≤ a := by
    simp only [plainBlocks, List.mem_cons, List.not_mem_nil, or_false] at hb
    omega
  have hnot : ∀ b, b / 65536 ∉ plainBlocks → b ∉ [a] := by
    intro b hb' hab
    rw [List.mem_singleton.mp hab] at hb'
    exact hb' hb
  have hw : ∀ (e : Chip) (w : Word), e.writeReg a w false false = e.storeWordAt a w :=
    fun e w => e.writeReg_plain w hb hF0 hE0 h0
  have hstored := (c.lockNoted a mask).storeWordAt_onlyRegs a (c.operand a v (mask &&& ~~~ c.lockedBits a))
  have huses := Chip.hostStore_onlyRegs (c := c) (a := a) (v := v) (mask := mask) (as := [a])
    (fun e => by rw [hw]; exact e.storeWordAt_onlyRegs a _) (hnot _ (by decide)) (hnot _ (by decide)) hl
  rw [hw] at huses
  have hd := hstored.trans huses
  have hwh : (c.hostStore a v mask).wh = (c.lockNoted a mask).wh := hd.wh
  have hadom : a ∉ clockDoms := fun h => absurd (clockDoms_lt h) (by omega)
  refine ⟨?_, fun b hbn => (hd.2 b hbn).trans (c.lockNoted_get a mask b), fun h1 => ?_, fun ht => ?_, fun ht => ?_⟩
  · obtain ⟨regs, hreg, -⟩ := Chip.onlyRegs_iff.mp hd
    rw [hreg, Chip.lockNoted_frame]
  · rw [huses.2 a hadom, ← Chip.lockNoted_operand c a mask, Chip.get_storeWordAt_operand v _ hr h1, Chip.lockNoted_get,
      BitVec.and_assoc]
  · rw [hwh, Chip.lockNoted, if_pos ht]
  · rw [hwh, Chip.lockNoted, if_neg ht]
    exact Chip.whErr_err_self _ _ (by decide)

/-! ### Counters (R752) -/

/-- The blocks that have counters. -/
def counterBlocks : List Nat := [0x04, 0x05, 0x08, 0x0A, 0x0B, 0x0C, 0x0D, 0x10, 0x20, 0x21, 0x24, 0x26, 0x28, 0x2A]

theorem mem_counterBlocks {k : Nat} (h : counterRegs k ≠ []) : k ∈ counterBlocks := by
  unfold counterRegs at h
  split at h
  case h_15 => exact absurd rfl h
  all_goals decide

/-- The address of a block's CNT_CLR. -/
def cntClrAddr (k : Nat) : Nat := k * 65536 + cntClrAt k

/-- The row of each CNT_CLR: its bit 0 is taken when it is written, and no lock event locks it. -/
def cntClrRowOk (k : Nat) : Bool :=
  match rowOf (cntClrAddr k) with
  | some r => (Nat.lor (Nat.lor (Nat.lor r.rw r.rws) r.rwl) (Nat.lor r.w1c r.wo)).testBit 0 && r.rwl == 0
  | none => true

theorem cntClr_rows : ∀ k ∈ counterBlocks, cntClrRowOk k = true := by decide

/-- The counters of a block stand at addresses of their own, none of them a clock domain's or a scan-out's status. -/
theorem counterRegs_apart : ∀ k ∈ counterBlocks, ((counterRegs k).map (fun x => x.1)).Nodup ∧
    SOA_STAT.addr ∉ (counterRegs k).map (fun x => x.1) ∧ (soF 1 SOA_STAT).addr ∉ (counterRegs k).map (fun x => x.1) ∧
    ∀ a ∈ (counterRegs k).map (fun x => x.1), 0x10000 ≤ a := by decide

/-- Counters cleared one after the other. -/
def Chip.clearBits (c : Chip) (l : List (Nat × Word)) : Chip :=
  l.foldl (fun (c : Chip) r => c.setReg r.1 (c.get r.1 &&& ~~~ r.2)) c

theorem Chip.clearBits_onlyRegs (c : Chip) (l : List (Nat × Word)) : c.onlyRegs (c.clearBits l) (l.map fun x => x.1) :=
  (Chip.onlyRegs.refl c _).foldl _ _ fun _ x hx he => he.setReg _ (List.mem_map.mpr ⟨x, hx, rfl⟩)

theorem Chip.get_clearBits (c : Chip) (l : List (Nat × Word)) (hl : (l.map fun x => x.1).Nodup) {r : Nat × Word}
    (hr : r ∈ l) : (c.clearBits l).get r.1 = c.get r.1 &&& ~~~ r.2 := by
  induction l generalizing c with
  | nil => exact absurd hr List.not_mem_nil
  | cons x t ih =>
    obtain ⟨hx, ht⟩ := List.nodup_cons.mp hl
    change ((c.setReg x.1 (c.get x.1 &&& ~~~ x.2)).clearBits t).get r.1 = _
    rcases List.mem_cons.mp hr with rfl | hr
    · rw [((c.setReg r.1 _).clearBits_onlyRegs t).2 r.1 hx, Chip.get_setReg_self]
    · have hmem : r.1 ∈ t.map fun x => x.1 := List.mem_map.mpr ⟨r, hr, rfl⟩
      have hne : r.1 ≠ x.1 := fun h => by
        rw [h] at hmem
        exact hx hmem
      rw [ih _ ht hr, Chip.get_setReg_ne _ _ _ _ hne]

section

variable (k : Nat)

theorem cntClrAddr_div : cntClrAddr k / 65536 = k := by
  unfold cntClrAddr cntClrAt
  split <;> omega

theorem cntClrAddr_mod : cntClrAddr k % 65536 = cntClrAt k := by
  unfold cntClrAddr cntClrAt
  split <;> omega

end

section

variable {c : Chip} {k : Nat}

/-- A write of CNT_CLR with bit 0 set clears its block's counters. -/
theorem Chip.writeReg_cntClr (hk : counterRegs k ≠ []) (c : Chip) {w : Word} (hw : w.getLsbD 0 = true) :
    c.writeReg (cntClrAddr k) w false false = c.clearBits (counterRegs k) := by
  unfold Chip.writeReg
  rw [cntClrAddr_div, cntClrAddr_mod]
  have hF0 : cntClrAt k ≠ 0xF0 := by
    unfold cntClrAt
    split <;> decide
  rw [if_neg fun h => hF0 h.1, if_pos ⟨rfl, by simpa using hk⟩, if_pos hw]
  rfl

theorem rwlBits_cntClr (hk : k ∈ counterBlocks) : rwlBits (cntClrAddr k) = 0 := by
  have hok := cntClr_rows k hk
  unfold cntClrRowOk at hok
  unfold rwlBits
  cases hr : rowOf (cntClrAddr k) with
  | none => simp
  | some r =>
    simp only [hr, Bool.and_eq_true, beq_iff_eq] at hok
    simp [hok.2]

/-- No lock event locks a CNT_CLR. -/
theorem Chip.lockedBits_cntClr (c : Chip) (hk : k ∈ counterBlocks) : c.lockedBits (cntClrAddr k) = 0 := by
  have hrwl := rwlBits_cntClr hk
  unfold Chip.lockedBits
  rw [cntClrAddr_div, hrwl]
  fin_cases hk <;> simp [cntClrAddr, cntClrAt]

theorem Chip.rowOf_of_access {a : Nat} (h : c.access a = .ok) : ∃ r, rowOf a = some r := by
  unfold Chip.access at h
  split at h
  · cases h
  · split at h
    · cases h
    next r hr => exact ⟨r, hr⟩

/-- Bit 0 of a CNT_CLR is handed to it. -/
theorem Chip.operand_cntClr (c : Chip) {r : RegRow} (hk : k ∈ counterBlocks) (hr : rowOf (cntClrAddr k) = some r)
    {v : Word} (hv : v.getLsbD 0 = true) : (c.operand (cntClrAddr k) v 0xFFFFFFFF#32).getLsbD 0 = true := by
  have hok := cntClr_rows k hk
  simp only [cntClrRowOk, hr, Bool.and_eq_true] at hok
  obtain ⟨hbit, -⟩ := hok
  have hlast : ∀ w : Word, w &&& 0xFFFFFFFF#32 = w := fun w => BitVec.and_allOnes
  have hbit' : Nat.testBit (Nat.lor (Nat.lor r.rw r.rws) r.rwl ||| Nat.lor r.w1c r.wo) 0 = true := hbit
  rw [Chip.operand_row _ _ hr, hlast, ← BitVec.ofNat_or, BitVec.getLsbD_or, BitVec.getLsbD_and (x := v), hv,
    BitVec.getLsbD_ofNat, hbit']
  simp

end

/-- COUNTER_CLEAR of a block clears its counters and nothing else; the clock uses follow (R168, R752). -/
theorem Chip.hostStore_cntClr {c : Chip} {k : Nat} {v : Word} (hne : counterRegs k ≠ [])
    (ha : c.access (cntClrAddr k) = .ok) (hl : c.soLocked = false) (hv : v.getLsbD 0 = true) :
    let d := c.hostStore (cntClrAddr k) v 0xFFFFFFFF#32
    c.onlyRegs d ((counterRegs k).map (fun x => x.1) ++ clockDoms) ∧
      ∀ r ∈ counterRegs k, d.get r.1 = c.get r.1 &&& ~~~ r.2 := by
  have hk := mem_counterBlocks hne
  obtain ⟨r, hr⟩ := Chip.rowOf_of_access ha
  obtain ⟨hnodup, hA, hB, hge⟩ := counterRegs_apart k hk
  have hmask : (0xFFFFFFFF#32 : Word) &&& ~~~ c.lockedBits (cntClrAddr k) = 0xFFFFFFFF#32 := by
    rw [c.lockedBits_cntClr hk]
    decide
  have hnoted : c.lockNoted (cntClrAddr k) 0xFFFFFFFF#32 = c := by
    rw [Chip.lockNoted, c.lockedBits_cntClr hk]
    exact if_pos (by decide)
  have hw : ∀ e : Chip, e.writeReg (cntClrAddr k) (e.operand (cntClrAddr k) v 0xFFFFFFFF#32) false false =
      e.clearBits (counterRegs k) := fun e => e.writeReg_cntClr hne (e.operand_cntClr hk hr hv)
  have huses := Chip.hostStore_onlyRegs (c := c) (a := cntClrAddr k) (v := v) (mask := 0xFFFFFFFF#32)
    (fun e => by rw [hmask, hw]; exact e.clearBits_onlyRegs _) hA hB hl
  rw [hnoted, hmask, hw] at huses
  refine ⟨(c.clearBits_onlyRegs _).trans huses, fun x hx => ?_⟩
  have hdom : x.1 ∉ clockDoms := by
    intro h
    have h1 := clockDoms_lt h
    have h2 := hge x.1 (List.mem_map.mpr ⟨x, hx, rfl⟩)
    omega
  rw [huses.2 _ hdom, c.get_clearBits _ hnodup hx]

theorem isClear_lt {a : Nat} (h : isClear a = true) : a < 0x800000 := by
  simp only [isClear, Bool.or_eq_true, Bool.and_eq_true, beq_iff_eq, decide_eq_true_eq, Bool.not_eq_true',
    List.isEmpty_eq_false_iff] at h
  obtain ((⟨-, h⟩ | h) | h) | h := h
  · have hk := (show ∀ k ∈ counterBlocks, k < 0x80 by decide) _ (mem_counterBlocks h)
    omega
  · omega
  · omega
  · omega

theorem isClear_cntClr {k : Nat} (h : counterRegs k ≠ []) : isClear (cntClrAddr k) = true := by
  simp [isClear, cntClrAddr_div, cntClrAddr_mod, h]

/-! ### O52 -/

/-- COUNTER_CLEAR of an address that clears nothing, and of one that does. -/
theorem exec_counterClear {s : State} (hs : s.runs) (a : Nat) (v : Word) :
    (isClear a = false → exec (.counterClear a v) s = .next s) ∧
    (isClear a = true → exec (.counterClear a v) s =
      .next { s with chip := s.chip.hostWrite a v 0xFFFFFFFF#32 }) := by
  have hx : exec (.counterClear a v) s =
      .next { s with chip := if isClear a then s.chip.hostWrite a v 0xFFFFFFFF#32 else s.chip } := by
    rw [← State.effect_of_runs hs fun c => if isClear a then c.hostWrite a v 0xFFFFFFFF#32 else c]
    rfl
  refine ⟨fun h => ?_, fun h => ?_⟩ <;> rw [hx, h] <;> rfl

theorem exec_arithSatClear {s : State} (hs : s.runs) (k : Nat) :
    exec (.arithSatClear k) s = .next { s with chip :=
      (if hasArith k then s.chip.guardReg (k * 0x10000 + 0xF0) fun c => c.arithClear k else s.chip) } := by
  rw [← State.effect_of_runs hs fun c =>
    if hasArith k then c.guardReg (k * 0x10000 + 0xF0) fun c => c.arithClear k else c]
  rfl

/-- A draining write acts as the host's own write, once the port has taken it from its queue (R132, R139). -/
theorem drained_write {s : State} (hs : s.runs) {a : Nat} {v : Word} {rest : List (Nat × Word)}
    (hd : s.chip.wh.drain = (a, v) :: rest) (h24 : a < 2 ^ 24) (hp : s.chip.pdOn 2 = true) :
    let popped : State := { s with chip := { s.chip with wh := { s.chip.wh with drain := rest } } }
    let write := exec (.registerWrite a v 0xFFFFFFFF#32) popped
    (inAperture a = false → exec .internalWriteComplete s = write ∧ exec .apertureComplete s = .next s) ∧
    (inAperture a = true → exec .internalWriteComplete s = .next s) ∧
    (inAperture a = true → s.chip.aperWaits a = true → exec .apertureComplete s = .next s) ∧
    (inAperture a = true → s.chip.aperWaits a = false →
      (rest = [] → exec .apertureComplete s = write) ∧
      (s.chip.aperOpen (s.chip.aperSys a) = false →
        exec .apertureComplete s = .next { popped with chip := popped.chip.whErr erAper })) := by
  intro popped write
  have hpop : s.chip.drainPop = popped.chip := Chip.drainPop_cons hd
  have hwrite : write = .next { popped with chip := popped.chip.registerWrite a v 0xFFFFFFFF#32 } :=
    exec_registerWrite (s := popped) hs a v _
  refine ⟨fun ha => ⟨?_, ?_⟩, fun ha => ?_, fun ha hw => ?_, fun ha hw => ⟨fun hr => ?_, fun hc => ?_⟩⟩
  · rw [hwrite, exec_internalWriteComplete hs, Chip.writeStep_reg hd ha, hpop,
      Chip.registerWrite_internal _ _ _ (inAperture_eq_false.mp ha)]
  · rw [exec_apertureComplete hs, Chip.aperStep_write_waits hd (.inl ha)]
  · rw [exec_internalWriteComplete hs, Chip.writeStep_aper hd ha]
  · rw [exec_apertureComplete hs, Chip.aperStep_write_waits hd (.inr hw)]
  · rw [hwrite, exec_apertureComplete hs, Chip.aperStep_write hd ha hw, hpop,
      Chip.registerWrite_aperture _ _ _ (inAperture_eq_true.mp ha) h24, Chip.hostTop_served (c := popped.chip) _ hp hr]
  · rw [exec_apertureComplete hs, Chip.aperStep_write hd ha hw, hpop, Chip.aperWrite_closed (c := popped.chip) v hc]

/-- Settles O52: the window's accesses, the draining writes and the prefetches, each by what the port holds; a write of an
internal register by its access, its locks and the uses that follow it; and the clears by the registers they name. -/
theorem windowAndRegisterWrites : Obligations.WindowAndRegisterWrites := by
  refine ⟨fun s high v i hs hi => ?_, fun s high v hs hp hd hb => ?_, fun s hs => ⟨?_, ?_, ?_, ?_⟩,
    fun s a v mask hs hp => ⟨?_, ?_, ?_, ?_⟩, fun s a v hs hp => ⟨?_, ?_, ?_⟩, fun s k hs => ⟨?_, ?_⟩⟩
  · obtain ⟨f, hf⟩ := exec_window_mem s hi
    obtain ⟨hoff, hdrain, hburst, -⟩ := exec_window hs hf
    exact ⟨hoff, hdrain, hburst⟩
  · have hwin : ∀ {i : Instr} {f : Chip → Chip}, (exec i s = effect s fun c => c.window f) →
        exec i s = .next { s with chip := f s.chip } := fun hi => (exec_window hs hi).2.2.2 hp hd hb
    refine ⟨⟨_, hwin (i := .iaddrWrite high v) rfl, rfl⟩, hwin (i := .idataHiWrite v) rfl, ?_, fun hr => ?_,
      fun a hr hi hpre ha hok => ?_, fun hr hi => ?_⟩
    · rw [hwin (i := .idataLoWrite v) rfl]
      simp [Chip.idataLoPut, Chip.onWh, Chip.iaddrNext, Chip.startPrefetch, hd]
    · exact ⟨_, hwin (i := .idataHiRead) rfl, Chip.idataHiRead_ready hr⟩
    · exact ⟨_, hwin (i := .idataHiRead) rfl, Chip.idataHiRead_prefetch_ok hr hi hpre ha hok⟩
    · exact ⟨_, hwin (i := .idataHiRead) rfl, Chip.idataHiRead_notready hr hi⟩
  · intro h
    rw [exec_prefetchComplete hs, Chip.prefetchStep_idle h]
  · intro hd hp
    rw [exec_internalWriteComplete hs, Chip.writeStep_nil hd, exec_apertureComplete hs, Chip.aperStep_none hd hp]
    exact ⟨rfl, rfl⟩
  · intro a hd hp
    refine ⟨fun ha => ?_, fun ha => ⟨?_, ?_⟩, fun ha hw => ?_, fun ha hw => ?_⟩
    · rw [exec_prefetchComplete hs, Chip.prefetchStep_aper hp ha]
    · rw [exec_apertureComplete hs, Chip.aperStep_prefetch_waits hd hp (.inl ha)]
    · refine ⟨_, exec_prefetchComplete hs, ?_⟩
      rw [Chip.prefetchStep_reg hd hp ha, Chip.prefetchDone_reg hp ha]
      exact s.chip.holderTake_hostRead a
    · rw [exec_apertureComplete hs, Chip.aperStep_prefetch_waits hd hp (.inr hw)]
    · refine ⟨_, exec_apertureComplete hs, ?_⟩
      rw [Chip.aperStep_prefetch hd hp ha hw, Chip.prefetchDone_aper hp ha]
      exact s.chip.holderTake_aperRead a
  · exact fun a v rest => drained_write hs
  · intro ha e he
    rw [exec_registerWrite hs, Chip.registerWrite_internal _ v mask ha]
    exact congrArg (fun d => Host.Outcome.next { s with chip := d }) (Chip.guardReg_error _ hp he)
  · intro ha hd
    obtain ⟨f, hf⟩ := Chip.registerWrite_top (c := s.chip) v mask ha
    rw [exec_registerWrite hs, hf, Chip.hostTop_drain f hp hd]
  · intro ha h24 hd hclosed
    rw [exec_registerWrite hs, Chip.registerWrite_aperture _ v mask ha h24, Chip.hostTop_served _ hp hd,
      Chip.aperWrite_closed v hclosed]
  · intro r hok hr hb hF0 hE0 h0 hl
    have ha : a < 0x800000 := by
      simp only [List.mem_cons, List.not_mem_nil, or_false] at hb
      omega
    refine ⟨_, exec_registerWrite hs a v mask, ?_⟩
    rw [Chip.registerWrite_internal _ v mask ha, Chip.hostWrite, Chip.guardReg_ok _ _ _ hp hok]
    exact Chip.hostStore_plain v mask hr hb hF0 hE0 h0 hl
  · exact (exec_counterClear hs a v).1
  · intro hc
    rw [(exec_counterClear hs a v).2 hc, exec_registerWrite hs, Chip.registerWrite_internal _ _ _ (isClear_lt hc)]
  · rintro k rfl hne hok hl hv
    obtain ⟨hd, hclr⟩ := Chip.hostStore_cntClr hne hok hl hv
    refine ⟨_, (exec_counterClear hs _ v).2 (isClear_cntClr hne), ?_⟩
    rw [Chip.hostWrite, Chip.guardReg_ok _ _ _ hp hok]
    exact ⟨hd.1, hd.2, hclr⟩
  · intro h
    rw [exec_arithSatClear hs, h]
    rfl
  · intro h hreach
    refine ⟨_, exec_arithSatClear hs k, ?_⟩
    rw [if_pos h, Chip.guardReg_ok _ _ _ hreach.1 hreach.2]
    exact ⟨(Chip.onlyRegs.refl _ _).setReg _ (List.mem_singleton_self _), Chip.get_setReg_self _ _ _⟩

end Sys2Proof.Machine
end

section
/-! SUPPORT. What the blocks leave of the port and of the barge stream: no write of a register, and nothing that follows
it, changes the manifest in progress or the stream that brings one, and no read of DRAM changes SOA_STAT or
SOA_FRAME. -/

namespace Sys2Proof.Machine

open Sys2Proof

/-! ### The view -/

/-- The register is not SOA_STAT nor SOA_FRAME. -/
def asideAddr (a : Nat) : Bool := a != 0x200050 && a != 0x200054

/-- No channel's copy of the register is. -/
def asideBlock (a : Nat) : Bool := a % 0x10000 != 0x50 && a % 0x10000 != 0x54

/-- The Wharf with its errors, status and events out of view. -/
def Wharf.quiet (w : Wharf) : Wharf := { w with err := 0, status := 0, evt := 0 }

/-- The barge stream and the Wharf, with what is looked at of WH_EVT, and of SOA_STAT and SOA_FRAME. -/
structure Desk (α β : Type) where
  brg : Barge
  wh : Wharf
  events : α
  panel : β

/-- The part as the view shows it. -/
def Chip.desk {α β : Type} (c : Chip) (f : Half → α) (g : Word × Word → β) : Desk α β :=
  ⟨c.brg, c.wh.quiet, f c.wh.evt, g (c.get 0x200050, c.get 0x200054)⟩

/-- Nothing is looked at. -/
abbrev unseen {α : Type} : α → Unit := fun _ => ()

/-- The barge stream and the Wharf alone. -/
abbrev Chip.port (c : Chip) : Desk Unit Unit := c.desk unseen unseen

section
variable {α β : Type} {f : Half → α} {g : Word × Word → β}

@[simp] theorem Chip.desk_ite (p : Prop) [Decidable p] (a b : Chip) :
    (if p then a else b).desk f g = if p then a.desk f g else b.desk f g :=
  apply_ite (Chip.desk · f g) p a b

theorem Chip.foldl_desk_mem {γ : Type} (h : Chip → γ → Chip) (l : List γ) (c : Chip)
    (hh : ∀ (c : Chip), ∀ x ∈ l, (h c x).desk f g = c.desk f g) : (l.foldl h c).desk f g = c.desk f g := by
  induction l generalizing c with
  | nil => rfl
  | cons x t ih => rw [List.foldl_cons, ih _ fun c y hy => hh c y (List.mem_cons_of_mem _ hy),
      hh c x List.mem_cons_self]

@[simp] theorem Chip.foldl_desk {γ : Type} (h : Chip → γ → Chip) (l : List γ) (c : Chip)
    (hh : ∀ (c : Chip) (x : γ), (h c x).desk f g = c.desk f g) : (l.foldl h c).desk f g = c.desk f g :=
  Chip.foldl_desk_mem h l c fun c x _ => hh c x

@[simp] theorem mcF_aside (ch : Nat) (k : Field) (h : asideBlock k.addr = true) : asideAddr (mcF ch k).addr = true := by
  simp only [asideBlock, asideAddr, mcF, Field.off, Bool.and_eq_true, bne_iff_ne] at h ⊢
  omega

@[simp] theorem srcF_aside (n : Nat) (k : Field) (h : decide (0x200054 < k.addr) = true) :
    asideAddr (srcF n k).addr = true := by
  simp only [asideAddr, srcF, Field.off, Bool.and_eq_true, bne_iff_ne, decide_eq_true_eq] at h ⊢
  omega

@[simp] theorem Chip.setReg_desk (c : Chip) (a : Nat) (w : Word) (h : asideAddr a = true) :
    (c.setReg a w).desk f g = c.desk f g := by
  simp only [asideAddr, Bool.and_eq_true, bne_iff_ne] at h
  unfold Chip.desk
  rw [c.get_setReg_ne a _ w h.1.symm, c.get_setReg_ne a _ w h.2.symm]
  rfl

@[simp] theorem Chip.setReg_seen (c : Chip) (a : Nat) (w : Word) :
    (c.setReg a w).desk f unseen = c.desk f unseen := (rfl)

@[simp] theorem Chip.wr_desk (c : Chip) (k : Field) (v : Nat) (h : asideAddr k.addr = true) :
    (c.wr k v).desk f g = c.desk f g :=
  c.setReg_desk _ _ h

@[simp] theorem Chip.wr_seen (c : Chip) (k : Field) (v : Nat) : (c.wr k v).desk f unseen = c.desk f unseen := (rfl)

@[simp] theorem Chip.bump_desk (c : Chip) (k : Field) (n : Nat) (h : asideAddr k.addr = true) :
    (c.bump k n).desk f g = c.desk f g :=
  c.setReg_desk _ _ h

@[simp] theorem Chip.bump_seen (c : Chip) (k : Field) (n : Nat) : (c.bump k n).desk f unseen = c.desk f unseen := (rfl)

@[simp] theorem Chip.setBit_desk (c : Chip) (k : Field) (n : Nat) (b : Bool) (h : asideAddr k.addr = true) :
    (c.setBit k n b).desk f g = c.desk f g :=
  c.setReg_desk _ _ h

@[simp] theorem Chip.setBit_seen (c : Chip) (k : Field) (n : Nat) (b : Bool) :
    (c.setBit k n b).desk f unseen = c.desk f unseen := (rfl)

@[simp] theorem Chip.evt_desk (c : Chip) (n : Nat) : (c.evt n).desk unseen g = c.desk unseen g := (rfl)

@[simp] theorem Chip.whErr_desk (c : Chip) (n : Nat) : (c.whErr n).desk unseen g = c.desk unseen g := (rfl)

@[simp] theorem Chip.takeFree_desk (c : Chip) : c.takeFree.desk f g = c.desk f g := (rfl)

/-- The place lies on a channel and rank that the part has. -/
structure Loc.near (l : Loc) : Prop where
  ch : l.ch < 2
  rank : l.rank < 2

theorem Chip.redirect_near (c : Chip) {l : Loc} (h : l.near) : (c.redirect l).near := by
  unfold Chip.redirect
  split
  · exact ⟨h.ch, Nat.one_lt_two⟩
  · exact h

theorem Chip.sysLoc_near {c : Chip} {a : Nat} {l : Loc} (h : c.sysLoc a = some l) : l.near := by
  have hmod (n : Nat) : n % 2 < 2 := Nat.mod_lt n Nat.two_pos
  unfold Chip.sysLoc at h
  extract_lets cc kk row bg ba0 ba1 at h
  split at h
  · cases h
  · obtain rfl := Option.some.inj h
    constructor
    · dsimp only
      split
      · exact hmod _
      · unfold Chip.mcFirst
        split <;> decide
    · dsimp only
      split
      · exact hmod _
      · decide

/-! ### Writes of registers -/

@[simp] theorem Chip.arithClear_desk (c : Chip) (region : Nat) : (c.arithClear region).port = c.port := (rfl)

@[simp] theorem Chip.countersClear_desk (c : Chip) (region : Nat) : (c.countersClear region).port = c.port := by
  simp [Chip.countersClear]

@[simp] theorem Chip.storeFields_desk (c : Chip) (a : Nat) (v : Word) (mask : Word) : (c.storeFields a v
    mask).port = c.port := by
  unfold Chip.storeFields; split <;> simp

@[simp] theorem Chip.storeWordAt_desk (c : Chip) (a : Nat) (w : Word) : (c.storeWordAt a w).port = c.port := by
  simp [Chip.storeWordAt]

/-! ### Clocks -/

@[simp] theorem Chip.onCk_desk (c : Chip) (h : Clocks → Clocks) : (c.onCk h).desk f g = c.desk f g := (rfl)

@[simp] theorem Chip.onPll_desk (c : Chip) (p : Nat) (h : Pll → Pll) : (c.onPll p h).desk f g = c.desk f g := (rfl)

@[simp] theorem Chip.pllvFrac_desk (c : Chip) (v : Word) : (c.pllvFrac v).port = c.port := by
  simp [Chip.pllvFrac]

@[simp] theorem Chip.gateRefuse_desk (c : Chip) (n : Nat) : (c.gateRefuse n).port = c.port := by
  rfl

@[simp] theorem Chip.setDiv_desk (c : Chip) (n d : Nat) : (c.setDiv n d).desk f g = c.desk f g := (rfl)

@[simp] theorem Chip.stopPll_desk (c : Chip) (p : Nat) : (c.stopPll p).desk f unseen = c.desk f unseen := by
  simp [Chip.stopPll]

@[simp] theorem Chip.startPll_desk (c : Chip) (p : Nat) : (c.startPll p).desk f g = c.desk f g := by
  simp +decide [Chip.startPll]

@[simp] theorem Chip.pllOffBit_desk (c : Chip) (p : Nat) (off : Bool) : (c.pllOffBit p off).port = c.port := by
  simp [Chip.pllOffBit]

@[simp] theorem Chip.onPw_desk (c : Chip) (h : Power → Power) : (c.onPw h).desk f g = c.desk f g := (rfl)

@[simp] theorem Chip.pdPlan_desk (c : Chip) : c.pdPlan.desk f unseen = c.desk f unseen := by
  simp [Chip.pdPlan]

@[simp] theorem Chip.calPlan_desk (c : Chip) : (c.calPlan).port = c.port := by
  simp [Chip.calPlan]

@[simp] theorem Chip.pllCtl_desk (c : Chip) (w : Word) : (c.pllCtl w).port = c.port := by
  simp [Chip.pllCtl]

@[simp] theorem Chip.alignDrop_desk (c : Chip) (n : Nat) (changed : Bool) (pair : Bool) : (c.alignDrop n
    changed pair).port = c.port := by
  simp [Chip.alignDrop]

@[simp] theorem Chip.domEnable_desk (c : Chip) (n : Nat) : (c.domEnable n).desk f unseen = c.desk f unseen := (rfl)

@[simp] theorem Chip.takeUses_desk (c before : Chip) : (c.takeUses before).desk f unseen = c.desk f unseen := by
  simp [Chip.takeUses]

@[simp] theorem Chip.divTarget_desk (c : Chip) (n : Nat) : (c.divTarget n).port = c.port := by
  unfold Chip.divTarget; split <;> simp

@[simp] theorem Chip.rampStart_desk (c : Chip) (n : Nat) : (c.rampStart n).port = c.port := by
  simp [Chip.rampStart]

@[simp] theorem Chip.sysSource_desk (c : Chip) : (c.sysSource).port = c.port := by
  simp [Chip.sysSource]

@[simp] theorem Chip.domWrite_desk (c : Chip) (n : Nat) (w : Word) (pair : Bool) : (c.domWrite n w
    pair).port = c.port := by
  simp [Chip.domWrite]

@[simp] theorem Chip.fmWrite_desk (c : Chip) (m : Nat) (v : Word) : (c.fmWrite m v).port = c.port := by
  simp [Chip.fmWrite]

@[simp] theorem Chip.monClear_desk (c : Chip) : (c.monClear).port = c.port := by
  rfl

@[simp] theorem Chip.tbSnap_desk (c : Chip) : (c.tbSnap).port = c.port := by
  rfl

@[simp] theorem Chip.writeCkg_desk (c : Chip) (a : Nat) (w : Word) (pair : Bool) : (c.writeCkg a w
    pair).port = c.port := by
  simp [Chip.writeCkg]

/-! ### Power -/

@[simp] theorem Chip.pdRefuse_desk (c : Chip) (d code : Nat) :
    (c.pdRefuse d code).desk f unseen = c.desk f unseen := (rfl)

@[simp] theorem Chip.pdPll_desk (c : Chip) (d : Nat) (want : Bool) :
    (c.pdPll d want).desk f unseen = c.desk f unseen := by
  simp [Chip.pdPll]

@[simp] theorem Chip.setPdreq_desk (c : Chip) (d : Nat) (b : Bool) : (c.setPdreq d b).desk f g = c.desk f g := by
  simp +decide [Chip.setPdreq]

@[simp] theorem Chip.pdBit_desk (c : Chip) (d : Nat) (want : Bool) :
    (c.pdBit d want).desk f unseen = c.desk f unseen := by
  simp [Chip.pdBit]

@[simp] theorem Chip.pdApply_desk (c : Chip) (high : Bool) (w : Word) :
    (c.pdApply high w).desk f unseen = c.desk f unseen := by
  simp [Chip.pdApply]

@[simp] theorem Chip.pdWrite_desk (c : Chip) (high : Bool) (w : Word) : (c.pdWrite high w).port = c.port := by
  simp [Chip.pdWrite]

@[simp] theorem Chip.gpioSync_desk (c : Chip) : c.gpioSync.port = c.port := by
  simp [Chip.gpioSync]

@[simp] theorem Chip.gpioWrite_desk (c : Chip) (w : Word) : (c.gpioWrite w).port = c.port := by
  simp [Chip.gpioWrite]

@[simp] theorem Chip.writePwr_desk (c : Chip) (a : Nat) (w : Word) : (c.writePwr a w).port = c.port := by
  simp [Chip.writePwr]

/-! ### The loader -/

@[simp] theorem Chip.ledgerIdx_desk (c : Chip) (v : Word) : (c.ledgerIdx v).port = c.port := by
  unfold Chip.ledgerIdx
  exact Chip.foldl_desk _ _ _ fun _ _ => rfl

@[simp] theorem Chip.otpCtl_desk (c : Chip) (v : Word) : (c.otpCtl v).port = c.port := by
  simp [Chip.otpCtl]

@[simp] theorem Chip.hostEnd_desk (c : Chip) (err : Nat) : (c.hostEnd err).port = c.port := by
  rfl

@[simp] theorem Chip.onLd_desk (c : Chip) (h : Loader → Loader) : (c.onLd h).port = c.port := (rfl)

@[simp] theorem Chip.hostGo_desk (c : Chip) (op : Nat) (len : Nat) (answer : Nat) : (c.hostGo op len
    answer).port = c.port := by
  simp [Chip.hostGo]

@[simp] theorem Chip.hostCmd_desk (c : Chip) (v : Word) : (c.hostCmd v).port = c.port := by
  simp [Chip.hostCmd]

@[simp] theorem Chip.writeLdr_desk (c : Chip) (a : Nat) (w : Word) : (c.writeLdr a w).port = c.port := by
  simp [Chip.writeLdr]

/-! ### The memory controller -/

@[simp] theorem Chip.onMc_desk (c : Chip) (ch : Nat) (h : Channel → Channel) :
    (c.onMc ch h).desk unseen g = c.desk unseen g := by
  unfold Chip.onMc; split <;> rfl

@[simp] theorem Chip.onLk_desk (c : Chip) (h : Lockkeeper → Lockkeeper) :
    (c.onLk h).desk unseen g = c.desk unseen g := (rfl)

@[simp] theorem Chip.takeSeq_desk (c : Chip) : c.takeSeq.desk f g = c.desk f g := by
  simp +decide [Chip.takeSeq]

@[simp] theorem Chip.logRecord_desk (c : Chip) (type flags unit data : Nat) :
    (c.logRecord type flags unit data).desk unseen g = c.desk unseen g := by
  simp +decide [Chip.logRecord]

theorem Chip.setMig_desk (c : Chip) {ch : Nat} (st : Nat) (h : ch < 2) :
    (c.setMig ch st).desk unseen g = c.desk unseen g := by
  rw [Chip.setMig, Chip.logRecord_desk, Chip.wr_desk _ _ _ (mcF_aside ch _ (by decide)),
    Chip.wr_desk _ _ _ (by simp [Field.at, MCX_MIG_STAT_STATE, asideAddr]; omega)]

@[simp] theorem Chip.setMig_port (c : Chip) (ch st : Nat) : (c.setMig ch st).port = c.port := by
  simp [Chip.setMig]

@[simp] theorem Chip.migAbort_desk (c : Chip) (ch : Nat) : (c.migAbort ch).port = c.port := by
  simp [Chip.migAbort]

@[simp] theorem Chip.commitRange_desk (c : Chip) (lo : Nat) (hi : Nat) : (c.commitRange lo hi).port =
    c.port := by
  rfl

@[simp] theorem Chip.mcCommit_desk (c : Chip) (ch : Nat) : (c.mcCommit ch).port = c.port := by
  rfl

@[simp] theorem Chip.dramLost_desk (c : Chip) (ch : Nat) : (c.dramLost ch).port = c.port := (rfl)

@[simp] theorem Chip.setMcState_desk (c : Chip) (ch st : Nat) : (c.setMcState ch st).desk f g = c.desk f g := by
  simp +decide [Chip.setMcState]

@[simp] theorem Chip.initGo_desk (c : Chip) (ch : Nat) : (c.initGo ch).port = c.port := by
  simp [Chip.initGo]

@[simp] theorem Chip.weirClear_desk (c : Chip) (ch : Nat) : (c.weirClear ch).port = c.port := by
  rfl

@[simp] theorem Chip.weirIdx_desk (c : Chip) (ch : Nat) (v : Word) : (c.weirIdx ch v).port = c.port := by
  rfl

@[simp] theorem Chip.dramCmd_desk (c : Chip) (ch : Nat) (x : DramCmd) :
    (c.dramCmd ch x).desk unseen g = c.desk unseen g := by
  simp +decide [Chip.dramCmd]

@[simp] theorem Chip.allRanks_desk (c : Chip) (ch code bank arg : Nat) :
    (c.allRanks ch code bank arg).desk unseen g = c.desk unseen g := by
  simp +decide [Chip.allRanks]

@[simp] theorem Chip.preAll_desk (c : Chip) (ch : Nat) : (c.preAll ch).desk unseen g = c.desk unseen g := by
  simp +decide [Chip.preAll]

@[simp] theorem Chip.sweepFill_desk (c : Chip) (l : Loc) (pattern : Nat) (lines : Nat) : (c.sweepFill l pattern
    lines).port = c.port := by
  rfl

@[simp] theorem Chip.sweepBus_desk (c : Chip) (l : Loc) (write : Bool) (lines : Nat) : (c.sweepBus l write
    lines).port = c.port := by
  simp [Chip.sweepBus]

@[simp] theorem Chip.sweepGo_desk (c : Chip) (ch : Nat) (v : Word) : (c.sweepGo ch v).port = c.port := by
  simp [Chip.sweepGo]

@[simp] theorem Chip.pprEnd_desk (c : Chip) (ch : Nat) (result : Nat) (hard : Bool) (ue : Bool) : (c.pprEnd ch
    result hard ue).port = c.port := by
  simp [Chip.pprEnd]

@[simp] theorem Chip.onBank_desk (c : Chip) (ch rank bank : Nat) (h : BankState → BankState) :
    (c.onBank ch rank bank h).desk unseen g = c.desk unseen g := by
  simp +decide [Chip.onBank]

@[simp] theorem Chip.floorCount_desk (c : Chip) (ch : Nat) (class3 : Bool) :
    (c.floorCount ch class3).desk unseen g = c.desk unseen g := by
  simp +decide [Chip.floorCount]

@[simp] theorem Chip.issueLine_desk (c : Chip) (l : Loc) (write : Bool) (line : Nat) (mask : List Bool)
    (port : Nat) :
    (c.issueLine l write line mask port).desk unseen g = c.desk unseen g := by
  simp +decide [Chip.issueLine]

@[simp] theorem Chip.performNr_desk (c : Chip) (ch : Nat) (n : NeighbourRefresh) :
    (c.performNr ch n).desk unseen g = c.desk unseen g := by
  simp +decide [Chip.performNr]

@[simp] theorem Chip.drainNr_desk (c : Chip) (ch : Nat) : (c.drainNr ch).desk unseen g = c.desk unseen g := by
  simp +decide [Chip.drainNr]

@[simp] theorem Chip.queueNr_desk (c : Chip) (ch rank bank row : Nat) :
    (c.queueNr ch rank bank row).desk unseen g = c.desk unseen g := by
  simp +decide [Chip.queueNr]

@[simp] theorem Chip.releaseHeld_desk (c : Chip) (ch : Nat) : (c.releaseHeld ch).desk unseen g = c.desk unseen g := by
  unfold Chip.releaseHeld; split <;> simp +decide

@[simp] theorem Chip.issuePre_desk (c : Chip) (ch rank bank : Nat) :
    (c.issuePre ch rank bank).desk unseen g = c.desk unseen g := by
  unfold Chip.issuePre; split <;> simp +decide

@[simp] theorem Chip.weirAct_desk (c : Chip) (ch rank bank row : Nat) :
    (c.weirAct ch rank bank row).desk unseen g = c.desk unseen g := by
  simp +decide [Chip.weirAct]

@[simp] theorem Chip.issueAct_desk (c : Chip) (ch rank bank row : Nat) (nr : Bool) :
    (c.issueAct ch rank bank row nr).desk unseen g = c.desk unseen g := by
  simp +decide [Chip.issueAct]

@[simp] theorem Chip.openRow_desk (c : Chip) (l : Loc) : (c.openRow l).desk unseen g = c.desk unseen g := by
  simp +decide [Chip.openRow]

@[simp] theorem Chip.busLine_desk (c : Chip) (l : Loc) (write : Bool) (line : Nat) (mask : List Bool)
    (port : Nat) :
    (c.busLine l write line mask port).desk unseen g = c.desk unseen g := by
  simp +decide [Chip.busLine]

@[simp] theorem Chip.writeCheck_desk (c : Chip) (ch : Nat) (e : CheckLine) :
    (c.writeCheck ch e).desk unseen g = c.desk unseen g := by
  simp +decide [Chip.writeCheck]

@[simp] theorem Chip.cacheRoom_desk (c : Chip) (ch : Nat) (k : Loc) (dirty : Bool) :
    (c.cacheRoom ch k dirty).desk unseen g = c.desk unseen g := by
  simp only [Chip.cacheRoom]; (repeat' split) <;> simp +decide

@[simp] theorem Chip.cacheUse_desk (c : Chip) (ch : Nat) (k : Loc) (dirty : Bool) :
    (c.cacheUse ch k dirty).desk unseen g = c.desk unseen g := by
  simp +decide [Chip.cacheUse]

@[simp] theorem Chip.lineAccess_desk (c : Chip) (l : Loc) (write : Bool) (line : Nat) (mask : List Bool)
    (port : Nat) :
    (c.lineAccess l write line mask port).desk unseen g = c.desk unseen g := by
  simp +decide [Chip.lineAccess]

@[simp] theorem Chip.pprLines_desk (c : Chip) (l : Loc) (write : Bool) :
    (c.pprLines l write).port = c.port := by
  simp [Chip.pprLines]

@[simp] theorem Chip.pprGo_desk (c : Chip) (ch : Nat) (v : Word) : (c.pprGo ch v).port = c.port := by
  simp [Chip.pprGo]

@[simp] theorem Chip.snapIdx_desk (c : Chip) (ch : Nat) (v : Word) : (c.snapIdx ch v).port = c.port := by
  rfl

@[simp] theorem Chip.deepEnter_desk (c : Chip) : c.deepEnter.desk f unseen = c.desk f unseen := by
  simp [Chip.deepEnter]

@[simp] theorem Chip.writeMc_desk (c : Chip) (ch : Nat) (a : Nat) (w : Word) : (c.writeMc ch a w).port =
    c.port := by
  unfold Chip.writeMc; split <;> simp

@[simp] theorem Chip.mapGo_desk (c : Chip) : c.mapGo.port = c.port := by
  unfold Chip.mapGo
  split
  · exact c.wr_seen _ _
  · split
    · exact c.wr_seen _ _
    · exact Chip.pdPlan_desk _

theorem Chip.migStart_desk (c : Chip) {ch : Nat} (h : ch < 2) :
    (c.migStart ch).desk unseen g = c.desk unseen g := by
  rw [Chip.migStart, Chip.setMig_desk _ _ h,
    Chip.wr_desk _ _ _ (by simp [Field.at, MCX_MIG_STAT_PROGRESS, asideAddr]; omega)]

@[simp] theorem Chip.migStart_port (c : Chip) (ch : Nat) : (c.migStart ch).port = c.port := by
  simp [Chip.migStart]

@[simp] theorem Chip.migGo_desk (c : Chip) (ch : Nat) : (c.migGo ch).port = c.port := by
  simp [Chip.migGo]

@[simp] theorem Chip.writeMcx_desk (c : Chip) (a : Nat) (w : Word) : (c.writeMcx a w).port = c.port := by
  simp [Chip.writeMcx]

/-! ### Video input and the camera blocks -/

@[simp] theorem Chip.onVin_desk (c : Chip) (h : VideoIn → VideoIn) : (c.onVin h).port = c.port := (rfl)

@[simp] theorem Chip.lockFree_desk (c : Chip) : c.lockFree.port = c.port := by
  simp [Chip.lockFree]

@[simp] theorem Chip.writeVin_desk (c : Chip) (a : Nat) (w : Word) : (c.writeVin a w).port = c.port := by
  simp [Chip.writeVin]

@[simp] theorem Chip.shareErr_desk (c : Chip) (e : Nat) : (c.shareErr e).port = c.port := by
  rfl

@[simp] theorem Chip.csiCfg_desk (c : Chip) (v : Word) : (c.csiCfg v).port = c.port := by
  simp [Chip.csiCfg]

@[simp] theorem Chip.onCam_desk (c : Chip) (h : Camera → Camera) : (c.onCam h).port = c.port := by
  rfl

@[simp] theorem Chip.regionsReset_desk (c : Chip) : (c.regionsReset).port = c.port := by
  rfl

@[simp] theorem Chip.shareWrite_desk (c : Chip) (v : Word) : (c.shareWrite v).port = c.port := by
  simp [Chip.shareWrite]

@[simp] theorem Chip.vcEnable_desk (c : Chip) (vc : Nat) (v : Word) : (c.vcEnable vc v).port = c.port := by
  simp [Chip.vcEnable]

@[simp] theorem Chip.writeCsi_desk (c : Chip) (a : Nat) (w : Word) : (c.writeCsi a w).port = c.port := by
  simp [Chip.writeCsi]

@[simp] theorem Chip.onVc_desk (c : Chip) (v : Nat) (h : Vc → Vc) : (c.onVc v h).port = c.port := by
  rfl

@[simp] theorem Chip.pipeOff_desk (c : Chip) (pipe : Nat) : (c.pipeOff pipe).port = c.port := by
  simp [Chip.pipeOff]

@[simp] theorem Chip.writeIsp_desk (c : Chip) (pipe : Nat) (a : Nat) (w : Word) : (c.writeIsp pipe a w).port =
    c.port := by
  simp [Chip.writeIsp]

@[simp] theorem Chip.rtxEnable_desk (c : Chip) (s : Nat) (v : Word) : (c.rtxEnable s v).port = c.port := by
  simp [Chip.rtxEnable]

@[simp] theorem Chip.writeRtx_desk (c : Chip) (a : Nat) (w : Word) : (c.writeRtx a w).port = c.port := by
  simp [Chip.writeRtx]

/-! ### Accesses to DRAM of the blocks -/

@[simp] theorem Chip.bumpLines_desk (c : Chip) (p : Nat) : (c.bumpLines p).desk f g = c.desk f g := by
  have h : schedPort p ≤ 11 := Nat.min_le_right p 11
  unfold Chip.bumpLines
  extract_lets q
  rw [Chip.wr_desk _ _ _ (by simp [Field.at, MCX_PORT_LINES_HI_HI, asideAddr]; omega),
    Chip.wr_desk _ _ _ (by simp [Field.at, MCX_PORT_LINES_LO_LO, asideAddr]; omega)]

@[simp] theorem Chip.exitCause_desk (c : Chip) (ch cause : Nat) : (c.exitCause ch cause).desk f g = c.desk f g := by
  simp +decide [Chip.exitCause]

@[simp] theorem Chip.exitStart_desk (c : Chip) (ch : Nat) (cause : Nat) : (c.exitStart ch cause).desk unseen g =
    c.desk unseen g := by
  simp +decide [Chip.exitStart]

@[simp] theorem Chip.requestWakes_desk (c : Chip) (ch : Nat) : (c.requestWakes ch).desk unseen g = c.desk unseen g := by
  simp +decide [Chip.requestWakes]

@[simp] theorem Chip.clientLine_desk (c : Chip) (port : Nat) (line : Nat) (write : Bool) (mask : List Bool) :
    (c.clientLine port line write mask).desk unseen g = c.desk unseen g := by
  unfold Chip.clientLine; split <;> simp +decide

@[simp] theorem Chip.clientLines_desk (c : Chip) (port : Nat) (a : Nat) (n : Nat) (write : Bool) : (Chip.clientLines
    c port a n write).desk unseen g = c.desk unseen g := by
  simp +decide [Chip.clientLines]

/-! ### Mode edges -/

@[simp] theorem Chip.lostCause_desk (c : Chip) (cause : Nat) : (c.lostCause cause).desk unseen g = c.desk unseen g := by
  simp +decide [Chip.lostCause]

@[simp] theorem Chip.onMode_desk (c : Chip) (h : ModeMachine → ModeMachine) :
    (c.onMode h).desk f g = c.desk f g := (rfl)

@[simp] theorem Chip.takeSeqCfg_desk (c : Chip) : c.takeSeqCfg.desk unseen g = c.desk unseen g := (rfl)

@[simp] theorem Chip.edgePdreq_desk (c : Chip) (m : Mode) : (c.edgePdreq m).desk unseen g = c.desk unseen g := by
  simp +decide [Chip.edgePdreq]

theorem domF_aside {n : Nat} (h : n < 26) : asideAddr (domF n CKG_DOM_XIN_HOLD).addr = true := by
  simp [domF, Field.off, CKG_DOM_XIN_HOLD, asideAddr]
  omega

@[simp] theorem Chip.edgeClocks_desk (c : Chip) (m : Mode) : (c.edgeClocks m).desk f g = c.desk f g := by
  unfold Chip.edgeClocks
  rw [Chip.foldl_desk_mem, Chip.wr_desk _ _ _ (by decide)]
  intro d n hn
  obtain ⟨k, hk, rfl⟩ := List.mem_map.mp hn
  have hk : k < 25 := by simpa using hk
  split
  · rfl
  · exact d.wr_desk _ _ (domF_aside (by omega))

@[simp] theorem Chip.onMcx_desk (c : Chip) (h : MemShared → MemShared) : (c.onMcx h).desk f g = c.desk f g := (rfl)

@[simp] theorem Chip.deliverAll_desk (c : Chip) (ds : List Delivery) :
    (c.deliverAll ds).desk unseen g = c.desk unseen g := (rfl)

@[simp] theorem Chip.abandonReads_desk (c : Chip) (ch : Nat) : (c.abandonReads ch).desk unseen g = c.desk unseen g := by
  simp +decide [Chip.abandonReads]

@[simp] theorem Chip.writeRaw_desk (c : Chip) (l : Loc) (w : Nat) (check : Nat) : (c.writeRaw l w
    check).desk unseen g = c.desk unseen g := by
  rfl

@[simp] theorem Chip.writePhys_desk (c : Chip) (l : Loc) (w : Nat) :
    (c.writePhys l w).desk unseen g = c.desk unseen g := (rfl)

@[simp] theorem Chip.writeLoc_desk (c : Chip) (l : Loc) (w : Nat) :
    (c.writeLoc l w).desk unseen g = c.desk unseen g := by
  simp +decide [Chip.writeLoc]

@[simp] theorem Chip.writeSys_desk (c : Chip) (a w : Nat) : (c.writeSys a w).desk unseen g = c.desk unseen g := by
  unfold Chip.writeSys; split <;> simp +decide

@[simp] theorem Chip.performWrite_desk (c : Chip) (e : WriteEntry) :
    (c.performWrite e).desk unseen g = c.desk unseen g := by
  simp +decide [Chip.performWrite]

@[simp] theorem Chip.serveWrite_desk (c : Chip) (e : WriteEntry) :
    (c.serveWrite e).desk unseen g = c.desk unseen g := by
  unfold Chip.serveWrite; split <;> simp +decide

@[simp] theorem Chip.drainWrites_desk (c : Chip) (ch : Nat) : (c.drainWrites ch).desk unseen g = c.desk unseen g := by
  simp +decide [Chip.drainWrites]

@[simp] theorem Chip.flushCache_desk (c : Chip) (ch : Nat) : (c.flushCache ch).desk unseen g = c.desk unseen g := by
  simp +decide [Chip.flushCache]

@[simp] theorem Chip.enterSr_desk (c : Chip) (ch extra : Nat) :
    (c.enterSr ch extra).desk unseen g = c.desk unseen g := by
  simp +decide [Chip.enterSr]

@[simp] theorem Chip.sleepChannel_desk (c : Chip) (drain : Bool) (state ch : Nat) :
    (c.sleepChannel drain state ch).desk unseen g = c.desk unseen g := by
  simp +decide [Chip.sleepChannel]

@[simp] theorem Chip.edgeDram_desk (c : Chip) (e : Edge) (m : Mode) :
    (c.edgeDram e m).desk unseen g = c.desk unseen g := by
  simp +decide [Chip.edgeDram]

@[simp] theorem Chip.startPlls_desk (c : Chip) (m : Mode) : (c.startPlls m).desk unseen g = c.desk unseen g := by
  simp +decide [Chip.startPlls]

@[simp] theorem Chip.edgePlls_desk (c : Chip) : c.edgePlls.desk unseen g = c.desk unseen g := by
  simp +decide [Chip.edgePlls]

@[simp] theorem Chip.beginEdge_desk (c : Chip) (e : Edge) (m : Mode) :
    (c.beginEdge e m).desk unseen g = c.desk unseen g := by
  simp [Chip.beginEdge]

@[simp] theorem Chip.abandonEdge_desk (c : Chip) : (c.abandonEdge).desk unseen g = c.desk unseen g := by
  rfl

@[simp] theorem Chip.forceEdge_desk (c : Chip) (e : Edge) (m : Mode) (cause : Nat) : (c.forceEdge e m
    cause).desk unseen g = c.desk unseen g := by
  simp +decide [Chip.forceEdge]

/-! ### Memory errors -/

@[simp] theorem Chip.freezeStart_desk (c : Chip) (ch : Nat) (e : MemError) (addr : Nat) :
    (c.freezeStart ch e addr).desk unseen g = c.desk unseen g := by
  simp +decide [Chip.freezeStart]

@[simp] theorem Chip.policyFreeze_desk (c : Chip) (e : MemError) :
    (c.policyFreeze e).desk unseen g = c.desk unseen g := by
  simp +decide [Chip.policyFreeze]

theorem Chip.policyEvent_desk (c : Chip) {e : MemError} (h : e.place.near) :
    (c.policyEvent e).desk unseen g = c.desk unseen g := by
  simp +decide [Chip.policyEvent, Chip.migStart_desk _ h.ch]

theorem Chip.noteMigCe_desk (c : Chip) {e : MemError} (h : e.place.near) :
    (c.noteMigCe e).desk unseen g = c.desk unseen g := by
  simp [Chip.noteMigCe, Chip.policyEvent_desk _ h]

theorem Chip.rankCounter_aside {k ch rank : Nat} (hk : k = 0x040210 ∨ k = 0x040214) (h : rank < 2) :
    asideAddr (k + ch * 0x10000 + 8 * rank) = true := by
  simp [asideAddr]
  omega

theorem Chip.countError_desk (c : Chip) {e : MemError} (h : e.place.near) :
    (c.countError e).desk unseen g = c.desk unseen g := by
  have hc (d : Chip) {f : Field} (hf : f.addr = 0x040210 ∨ f.addr = 0x040214) (k : Nat) :
      (d.bump ((mcF e.place.ch f).off (8 * e.place.rank)) k).desk unseen g = d.desk unseen g :=
    d.bump_desk _ k (Chip.rankCounter_aside hf h.rank)
  simp [Chip.countError, hc _ (f := MCA_CNT_A_CE) (.inl rfl), hc _ (f := MCA_CNT_A_UE) (.inl rfl),
    hc _ (f := MCA_CNT_B_POISON_READ) (.inr rfl)]

theorem Chip.capture_desk (c : Chip) {base : Nat} (e : MemError) (h : base % 65536 = 0x240 ∨ base % 65536 = 0x260) :
    (c.capture base e).desk f g = c.desk f g :=
  Chip.foldl_desk_mem _ _ _ fun d i hi => d.setReg_desk _ _ <| by
    have hi : i < 5 := by simpa using hi
    simp [asideAddr]
    omega

theorem candF_aside {i : Nat} (hi : i < 8) (ch : Nat) {k : Field} (hk : k.addr = 0x040290) :
    asideAddr (Chip.candF ch i k).addr = true := by
  simp [Chip.candF, mcF, Field.off, asideAddr, hk]
  omega

theorem Chip.candPut_desk (c : Chip) (ch : Nat) (l : Loc) {i : Nat} (ue : Bool) (hi : i < 8) :
    (c.candPut ch l i ue).desk f g = c.desk f g := by
  have h (d : Chip) {k : Field} (hk : k.addr = 0x040290) (v : Nat) :
      (d.wr (Chip.candF ch i k) v).desk f g = d.desk f g := d.wr_desk _ v (candF_aside hi ch hk)
  rw [Chip.candPut, h _ rfl, h _ rfl, h _ rfl, h _ rfl, h _ rfl, h _ rfl]

theorem Chip.candVictim_lt {c : Chip} {ch i : Nat} (h : c.candVictim ch = some i) : i < 8 := by
  have hm := List.mem_of_find?_eq_some h
  simpa using (List.mem_filter.mp hm).1

theorem lt_of_find?_range {n i : Nat} {p : Nat → Bool} (h : (List.range n).find? p = some i) : i < n :=
  List.mem_range.mp (List.mem_of_find?_eq_some h)

@[simp] theorem Chip.candNote_desk (c : Chip) (ch : Nat) (l : Loc) (kind : Nat) :
    (c.candNote ch l kind).desk f g = c.desk f g := by
  unfold Chip.candNote
  split
  · next i h =>
    have hi := lt_of_find?_range h
    split
    · exact c.bump_desk _ _ (candF_aside hi ch rfl)
    · split
      · exact c.wr_desk _ _ (candF_aside hi ch rfl)
      · rfl
  · split
    · next i h => exact c.candPut_desk ch l _ (lt_of_find?_range h)
    · split
      · next i h => exact c.candPut_desk ch l _ (Chip.candVictim_lt h)
      · rfl

/-! ### The Lockkeeper's records and Mooring's exit -/

@[simp] theorem Chip.clearPllStat_desk (c : Chip) : c.clearPllStat.desk f g = c.desk f g := by
  simp +decide [Chip.clearPllStat]

@[simp] theorem Chip.applySwitch_on_desk (c : Chip) (d : Nat) : (c.applySwitch (d, .on)).desk f g = c.desk f g := by
  simp [Chip.applySwitch]

@[simp] theorem Chip.wakeStart_desk (c : Chip) : c.wakeStart.desk unseen g = c.desk unseen g := by
  simp +decide [Chip.wakeStart]

@[simp] theorem Chip.moorCause_desk (c : Chip) (cause : Nat) : (c.moorCause cause).desk f g = c.desk f g := by
  simp +decide [Chip.moorCause]

@[simp] theorem Chip.moorExit_desk (c : Chip) (cause : Nat) : (c.moorExit cause).desk unseen g = c.desk unseen g := by
  simp +decide [Chip.moorExit]

@[simp] theorem Chip.withSafe_desk (c : Chip) (h : Chip → Chip)
    (hh : ∀ c : Chip, (h c).desk unseen g = c.desk unseen g) :
    (c.withSafe h).desk unseen g = c.desk unseen g := by
  simp [Chip.withSafe, hh]

@[simp] theorem Chip.putSlot_desk (c : Chip) (r : LogRec) (lostBefore : Bool) :
    (c.putSlot r lostBefore).desk unseen g = c.desk unseen g :=
  ((Chip.onLk _ _).wr_desk _ _ (by decide)).trans (c.onLk_desk _)

@[simp] theorem Chip.storeRec_desk (c : Chip) (r : LogRec) : (c.storeRec r).desk unseen g = c.desk unseen g := by
  simp +decide [Chip.storeRec]

@[simp] theorem Chip.lkRecord_desk (c : Chip) (type flags unit data : Nat) :
    (c.lkRecord type flags unit data).desk unseen g = c.desk unseen g := by
  simp +decide [Chip.lkRecord]

@[simp] theorem Chip.srcActivate_desk (c : Chip) (n data : Nat) :
    (c.srcActivate n data).desk unseen g = c.desk unseen g := by
  simp +decide [Chip.srcActivate]

@[simp] theorem Chip.srcAssert_desk (c : Chip) (n data : Nat) :
    (c.srcAssert n data).desk unseen g = c.desk unseen g := by
  simp +decide [Chip.srcAssert]

/-! ### Memory errors recorded -/

theorem Chip.recordError_desk (c : Chip) {e : MemError} (h : e.place.near) :
    (c.recordError e).desk unseen g = c.desk unseen g := by
  unfold Chip.recordError
  extract_lets ch c1 c2 c3 c4 c5
  have h1 : c1.desk unseen g = c.desk unseen g := c.countError_desk h
  have h2 : c2.desk unseen g = c1.desk unseen g := by
    dsimp only [c2]
    split
    · rfl
    · exact c1.capture_desk e (by omega)
  have h3 : c3.desk unseen g = c2.desk unseen g := c2.capture_desk e (by omega)
  have h5 : c5.desk unseen g = c3.desk unseen g := by simp [c5, c4]
  simp [h1, h2, h3, h5]

theorem Chip.memError_desk (c : Chip) {e : MemError} (h : e.place.near) :
    (c.memError e).desk unseen g = c.desk unseen g := by
  simp [Chip.memError, Chip.policyEvent_desk _ h, Chip.noteMigCe_desk _ h, Chip.recordError_desk _ h]

@[simp] theorem Chip.noteSpec_desk (c : Chip) (port a : Nat) : (c.noteSpec port a).port = c.port := by
  unfold Chip.noteSpec
  split
  · next r l _ hl =>
    split
    · rfl
    · exact c.memError_desk (c.redirect_near (Chip.sysLoc_near hl))
  · rfl

/-! ### The composer -/

@[simp] theorem Chip.onCmp_desk (c : Chip) (h : Compose → Compose) : (c.onCmp h).port = c.port := (rfl)

@[simp] theorem Chip.aheadFetch_desk (c : Chip) (L : Nat) : (c.aheadFetch L).port = c.port := by
  simp [Chip.aheadFetch]

@[simp] theorem Chip.aheadStart_desk (c : Chip) : (c.aheadStart).port = c.port := by
  simp [Chip.aheadStart]

@[simp] theorem Chip.aheadDrop_desk (c : Chip) (L : Nat) : (c.aheadDrop L).port = c.port := by
  unfold Chip.aheadDrop; split <;> simp

@[simp] theorem Chip.layerWrite_desk (c : Chip) (a : Nat) (v : Word) (mask : Word) : (c.layerWrite a v
    mask).port = c.port := by
  simp [Chip.layerWrite]

@[simp] theorem Chip.armGroups_desk (c : Chip) (mask : Nat) (mfst : Bool) : (c.armGroups mask mfst).port =
    c.port := by
  simp [Chip.armGroups]

@[simp] theorem Chip.groupEvent_desk (c : Chip) (g : Nat) : (c.groupEvent g).port = c.port := by
  simp [Chip.groupEvent]

@[simp] theorem Chip.groupEnd_desk (c : Chip) (g : Nat) (result : Nat) : (c.groupEnd g result).port =
    c.port := by
  simp [Chip.groupEnd]

@[simp] theorem Chip.aheadDropAll_desk (c : Chip) (ls : List Nat) : (c.aheadDropAll ls).port = c.port := by
  simp [Chip.aheadDropAll]

@[simp] theorem Chip.groupStop_desk (c : Chip) (g : Nat) (result : Nat) : (c.groupStop g result).port =
    c.port := by
  simp [Chip.groupStop]

@[simp] theorem Chip.cancelGroups_desk (c : Chip) (mask : Nat) : (c.cancelGroups mask).port = c.port := by
  simp [Chip.cancelGroups]

@[simp] theorem Chip.flipWrite_desk (c : Chip) (v : Word) (mfst : Bool) : (c.flipWrite v mfst).port =
    c.port := by
  simp [Chip.flipWrite]

@[simp] theorem Chip.fenceSet_desk (c : Chip) (n : Nat) (v : Nat) : (c.fenceSet n v).port = c.port := by
  simp [Chip.fenceSet]

@[simp] theorem Chip.writeCmp_desk (c : Chip) (a : Nat) (w : Word) (mfst : Bool) : (c.writeCmp a w
    mfst).port = c.port := by
  simp [Chip.writeCmp]

/-! ### Bytes moved -/

@[simp] theorem Chip.portErr_desk (c : Chip) (p kind : Nat) : (c.portErr p kind).desk f g = c.desk f g := by
  simp +decide [Chip.portErr]

@[simp] theorem Chip.markScrub_desk (c : Chip) (l : Loc) (mask : List Bool) : (c.markScrub l mask).port =
    c.port := by
  simp [Chip.markScrub]

@[simp] theorem Chip.flushLine_desk (c : Chip) (l : Loc) (line : Nat) : (c.flushLine l line).port = c.port := by
  unfold Chip.flushLine; split <;> simp

@[simp] theorem Chip.storeWord_desk (c : Chip) (a : Nat) (w : Nat) : (c.storeWord a w).port = c.port := by
  unfold Chip.storeWord; split <;> simp

@[simp] theorem Chip.storeBytes_desk (fuel : Nat) (c : Chip) (a : Nat) (bs : List Byte) : (Chip.storeBytes fuel
    c a bs).port = c.port := by
  induction fuel generalizing c a bs with
  | zero => rfl
  | succ n ih =>
    unfold Chip.storeBytes
    split
    · rfl
    · simp [ih]

@[simp] theorem Chip.putBytes_desk (c : Chip) (port : Nat) (a : Nat) (bs : List Byte) : (c.putBytes port a
    bs).port = c.port := by
  simp [Chip.putBytes]

@[simp] theorem Chip.writeBytes_desk (c : Chip) (p : Nat) (a : Nat) (bs : List Byte) : (c.writeBytes p a
    bs).port = c.port := by
  simp [Chip.writeBytes]

@[simp] theorem Chip.fillRow_desk (c : Chip) (m : MovArgs) (y : Nat) : (c.fillRow m y).port = c.port := by
  simp [Chip.fillRow]

@[simp] theorem Chip.noteRead_desk (c : Chip) (port a : Nat) (r : WordRead) :
    (c.noteRead port a r).desk unseen g = c.desk unseen g := by
  unfold Chip.noteRead
  split
  · rfl
  · split
    · rfl
    · next l hl => exact c.memError_desk (c.redirect_near (Chip.sysLoc_near hl))

@[simp] theorem Chip.noteReads_desk (c : Chip) (port : Nat) (a : Nat) (n : Nat) : (c.noteReads port a
    n).desk unseen g = c.desk unseen g := by
  unfold Chip.noteReads
  refine Chip.foldl_desk _ _ _ fun c x => ?_
  split <;> simp +decide

theorem Chip.readNote_desk (c : Chip) {p : Nat} (a n : Nat) (hp : p < 12) :
    (c.readNote p a n).desk unseen g = c.desk unseen g := by
  have hd : asideAddr (MCX_PORT_DROP_DROP.at p).addr = true := by
    simp [Field.at, MCX_PORT_DROP_DROP, asideAddr]
    omega
  simp [Chip.readNote, Chip.bump_desk _ _ _ hd]

@[simp] theorem Chip.readNote_port (c : Chip) (p a n : Nat) : (c.readNote p a n).port = c.port := by
  simp [Chip.readNote]

@[simp] theorem Chip.movRow_desk (c : Chip) (m : MovArgs) (op : Nat) (y : Nat) : (c.movRow m op y).1.port =
    c.port := by
  simp only [Chip.movRow]; (repeat' split) <;> simp

@[simp] theorem Chip.movRows_desk (m : MovArgs) (op : Nat) (rows : List Nat) (c : Chip) : (Chip.movRows m op
    rows c).1.port = c.port := by
  induction rows generalizing c with
  | nil => rfl
  | cons y rest ih =>
    unfold Chip.movRows
    dsimp only
    split
    · simp
    · simp [ih]

@[simp] theorem Chip.movGo_desk (c : Chip) (op : Nat) : (c.movGo op).port = c.port := by
  simp [Chip.movGo]

@[simp] theorem Chip.writeMov_desk (c : Chip) (a : Nat) (w : Word) : (c.writeMov a w).port = c.port := by
  simp [Chip.writeMov]

/-! ### Scan-outs -/

@[simp] theorem Chip.setEff_desk (c : Chip) (a : Nat) (w : Word) : (c.setEff a w).port = c.port := by
  rfl

@[simp] theorem Chip.bscEnableCheck_desk (c : Chip) (was : Bool) : (c.bscEnableCheck was).port = c.port := by
  simp [Chip.bscEnableCheck]

@[simp] theorem Chip.takeFrom_desk (c : Chip) (src : List (Nat × Word)) (r : Nat × Nat) : (c.takeFrom src
    r).port = c.port := by
  rfl

@[simp] theorem Chip.onSo_desk (c : Chip) (i : Nat) (h : ScanOut → ScanOut) :
    (c.onSo i h).port = c.port := by
  unfold Chip.onSo; split <;> rfl

@[simp] theorem Chip.soTake_desk (c : Chip) (i : Nat) : (c.soTake i).port = c.port := by
  simp [Chip.soTake]

@[simp] theorem Chip.setTol_desk (c : Chip) (i t : Nat) : (c.setTol i t).desk f unseen = c.desk f unseen := by
  simp [Chip.setTol]

@[simp] theorem Chip.soTol_desk (c : Chip) (i t : Nat) : (c.soTol i t).port = c.port := by
  simp [Chip.soTol]

@[simp] theorem Chip.noteWait_desk (c : Chip) (p age : Nat) : (c.noteWait p age).port = c.port := by
  simp [Chip.noteWait]

@[simp] theorem Chip.readLeft_desk (c : Chip) (ch : Nat) (e : ReadEntry) (here : Loc) :
    (c.readLeft ch e here).port = c.port := by
  simp [Chip.readLeft]

@[simp] theorem Chip.serveRead_desk (c : Chip) (ch : Nat) (e : ReadEntry) :
    (c.serveRead ch e).port = c.port := by
  unfold Chip.serveRead; split <;> simp

@[simp] theorem Chip.drainQueues_desk (c : Chip) (ch : Nat) : (c.drainQueues ch).port = c.port := by
  simp [Chip.drainQueues]

@[simp] theorem Chip.migFlip_desk (c : Chip) (ch : Nat) : (c.migFlip ch).port = c.port := by
  simp [Chip.migFlip]

@[simp] theorem Chip.flipNow_desk (c : Chip) : c.flipNow.port = c.port := by
  simp [Chip.flipNow]

@[simp] theorem Chip.soHalt_desk (c : Chip) (i err : Nat) : (c.soHalt i err).port = c.port := by
  simp [Chip.soHalt]

@[simp] theorem Chip.moorCut_desk (c : Chip) : (c.moorCut).port = c.port := by
  simp [Chip.moorCut]

@[simp] theorem Chip.soStop_desk (c : Chip) (i : Nat) (err : Nat) (edge : Bool) : (c.soStop i err
    edge).port = c.port := by
  simp [Chip.soStop]

@[simp] theorem Chip.frameStart_desk (c : Chip) (i : Nat) : (c.frameStart i).port = c.port := by
  simp [Chip.frameStart]

@[simp] theorem Chip.safeFrameStart_desk (c : Chip) : c.safeFrameStart.port = c.port := (rfl)

@[simp] theorem Chip.composeOn_desk (c : Chip) : c.composeOn.port = c.port := by
  simp [Chip.composeOn]

@[simp] theorem Chip.latchRings_desk (c : Chip) : c.latchRings.port = c.port := (rfl)

@[simp] theorem Chip.soStart_desk (c : Chip) (i : Nat) : (c.soStart i).port = c.port := by
  simp [Chip.soStart]

@[simp] theorem Chip.soResume_desk (c : Chip) (i : Nat) : (c.soResume i).port = c.port := by
  simp [Chip.soResume]

@[simp] theorem Chip.soCommit_desk (c : Chip) (i : Nat) : (c.soCommit i).port = c.port := by
  simp [Chip.soCommit]

@[simp] theorem Chip.soGo_desk (c : Chip) (i : Nat) (mfst : Bool) : (c.soGo i mfst).port = c.port := by
  simp [Chip.soGo]

@[simp] theorem Chip.commitGo_desk (c : Chip) (i : Nat) (mfst : Bool) : (c.commitGo i mfst).port = c.port := by
  simp [Chip.commitGo]

@[simp] theorem Chip.soSnap_desk (c : Chip) (i : Nat) : (c.soSnap i).port = c.port := by
  unfold Chip.soSnap
  extract_lets s c1
  have h1 : c1.port = c.port := by simp [c1]
  split
  · refine (Chip.foldl_desk _ _ _ fun d k => ?_).trans h1
    exact ((d.wr _ _).wr_seen _ _).trans (d.wr_seen _ _)
  · exact h1

@[simp] theorem Chip.writeSo_desk (c : Chip) (so : Nat) (a : Nat) (w : Word) (mfst : Bool) : (c.writeSo so
    a w mfst).port = c.port := by
  unfold Chip.writeSo; split <;> simp

/-! ### The bit-plane and beam-scan sequencers -/

@[simp] theorem Chip.onBps_desk (c : Chip) (h : BitPlane → BitPlane) : (c.onBps h).desk f unseen = c.desk f unseen := by
  rfl

@[simp] theorem Chip.mapClear_desk (c : Chip) : (c.mapClear).port = c.port := by
  rfl

@[simp] theorem Chip.stuckInsert_desk (c : Chip) (m : Stuck) : (c.stuckInsert m).1.port = c.port := by
  unfold Chip.stuckInsert; split <;> simp

@[simp] theorem Chip.ledgerToLog_desk (c : Chip) (r : LedgerReq) (why : Nat) :
    (c.ledgerToLog r why).port = c.port := by
  simp [Chip.ledgerToLog]

@[simp] theorem Chip.ledgerFail_desk (c : Chip) (r : LedgerReq) (why : Nat) :
    (c.ledgerFail r why).port = c.port := by
  simp [Chip.ledgerFail]

@[simp] theorem Chip.ledgerHold_desk (c : Chip) : (c.ledgerHold).port = c.port := by
  simp [Chip.ledgerHold]

@[simp] theorem Chip.ledgerRequest_desk (c : Chip) (r : LedgerReq) : (c.ledgerRequest r).port = c.port := by
  simp [Chip.ledgerRequest]

@[simp] theorem Chip.blockRecord_desk (c : Chip) (kind : Nat) (unit : Nat) (data : List Nat) : (Chip.blockRecord
    c kind unit data).port = c.port := by
  simp [Chip.blockRecord]

@[simp] theorem Chip.mapAdd_desk (c : Chip) (v : Word) : (c.mapAdd v).port = c.port := by
  simp [Chip.mapAdd]

@[simp] theorem Chip.writeBps_desk (c : Chip) (a : Nat) (w : Word) : (c.writeBps a w).port = c.port := by
  simp [Chip.writeBps]

@[simp] theorem Chip.writeBsc_desk (c : Chip) (a : Nat) (w : Word) : (c.writeBsc a w).port = c.port := by
  simp [Chip.writeBsc]

/-! ### The light driver -/

@[simp] theorem Chip.onLtd_desk (c : Chip) (h : Light → Light) : (c.onLtd h).port = c.port := by
  rfl

@[simp] theorem Chip.loopReset_desk (c : Chip) : (c.loopReset).port = c.port := by
  rfl

@[simp] theorem Chip.faultClear_desk (c : Chip) (shfHigh : Bool) : (c.faultClear shfHigh).port = c.port := by
  simp [Chip.faultClear]

@[simp] theorem Chip.writeLtd_desk (c : Chip) (a : Nat) (w : Word) : (c.writeLtd a w).port = c.port := by
  simp [Chip.writeLtd]

/-! ### The towpath -/

@[simp] theorem Chip.twpErr_desk (c : Chip) (code : Nat) : (c.twpErr code).port = c.port := by
  rfl

@[simp] theorem Chip.twpCtlWrite_desk (c : Chip) (v : Word) (mask : Word) : (c.twpCtlWrite v mask).port =
    c.port := by
  simp [Chip.twpCtlWrite]

@[simp] theorem Chip.onTwp_desk (c : Chip) (h : Towpath → Towpath) : (c.onTwp h).port = c.port := by
  rfl

@[simp] theorem Chip.twpTrigger_desk (c : Chip) : (c.twpTrigger).port = c.port := by
  simp [Chip.twpTrigger]

@[simp] theorem Chip.twpTrigWrite_desk (c : Chip) (v : Word) : (c.twpTrigWrite v).port = c.port := by
  simp [Chip.twpTrigWrite]

@[simp] theorem Chip.tmr0Write_desk (c : Chip) (v : Word) : (c.tmr0Write v).port = c.port := by
  simp [Chip.tmr0Write]

@[simp] theorem Chip.onPat_desk (c : Chip) (k : Nat) (h : Pattern → Pattern) : (c.onPat k h).port = c.port := by
  rfl

@[simp] theorem Chip.patCtl_desk (c : Chip) (k : Nat) (v : Word) : (c.patCtl k v).port = c.port := by
  simp [Chip.patCtl]

@[simp] theorem Chip.mxCtlWrite_desk (c : Chip) (v : Word) (mask : Word) : (c.mxCtlWrite v mask).port =
    c.port := by
  simp [Chip.mxCtlWrite]

@[simp] theorem Chip.zoneWrite_desk (c : Chip) (a : Nat) (v : Word) (mask : Word) : (c.zoneWrite a v
    mask).port = c.port := by
  simp [Chip.zoneWrite]

@[simp] theorem Chip.writeTwp_desk (c : Chip) (a : Nat) (w : Word) : (c.writeTwp a w).port = c.port := by
  simp [Chip.writeTwp]

/-! ### The Lockkeeper -/

@[simp] theorem Chip.safeForce_desk (c : Chip) (on : Bool) : (c.safeForce on).port = c.port :=
  c.withSafe_desk _ fun c => c.wr_seen _ _

@[simp] theorem Chip.srcOn_desk (c : Chip) (n data : Nat) : (c.srcOn n data).port = c.port := by
  simp [Chip.srcOn]

@[simp] theorem Chip.srcDeactivate_desk (c : Chip) (n : Nat) : (c.srcDeactivate n).port = c.port := by
  simp [Chip.srcDeactivate]

@[simp] theorem Chip.srcRelease_desk (c : Chip) (n : Nat) : (c.srcRelease n).port = c.port := by
  simp [Chip.srcRelease]

@[simp] theorem Chip.srcOff_desk (c : Chip) (n : Nat) : (c.srcOff n).port = c.port := by
  simp [Chip.srcOff]

@[simp] theorem Chip.hostKill_desk (c : Chip) (on : Bool) : (c.hostKill on).port = c.port := by
  simp [Chip.hostKill]

@[simp] theorem Chip.logClear_desk (c : Chip) : (c.logClear).port = c.port := by
  rfl

@[simp] theorem Chip.lkkCtl_desk (c : Chip) (w : Word) : (c.lkkCtl w).port = c.port := by
  simp [Chip.lkkCtl]

@[simp] theorem Chip.clearLatch_desk (c : Chip) (n : Nat) : (c.clearLatch n).port = c.port := by
  simp [Chip.clearLatch]

@[simp] theorem Chip.latchClear_desk (c : Chip) (v : Word) : (c.latchClear v).port = c.port := by
  simp [Chip.latchClear]

@[simp] theorem Chip.arm_desk (c : Chip) (v : Word) : (c.arm v).port = c.port := by
  simp [Chip.arm]

@[simp] theorem Chip.srcWrite_desk (c : Chip) (n : Nat) (a : Nat) (w : Word) : (c.srcWrite n a w).port =
    c.port := by
  simp [Chip.srcWrite]

@[simp] theorem Chip.proxDrive_desk (c : Chip) : c.proxDrive.port = c.port := by
  simp [Chip.proxDrive]

@[simp] theorem Chip.logIdx_desk (c : Chip) (v : Word) : (c.logIdx v).port = c.port := by
  rfl

@[simp] theorem Chip.hostMarker_desk (c : Chip) (v : Word) : (c.hostMarker v).port = c.port := by
  simp [Chip.hostMarker]

@[simp] theorem Chip.calRecord_desk (c : Chip) (unit : Nat) (data : Nat) : (c.calRecord unit data).port =
    c.port := by
  simp [Chip.calRecord]

@[simp] theorem Chip.calReject_desk (c : Chip) (date : Word) : (c.calReject date).port = c.port := by
  simp [Chip.calReject]

@[simp] theorem Chip.calPut_desk (c : Chip) (t : CalTime) : (c.calPut t).port = c.port := by
  rfl

@[simp] theorem Chip.calSet_desk (c : Chip) : (c.calSet).port = c.port := by
  unfold Chip.calSet; split <;> simp

@[simp] theorem Chip.alarmSet_desk (c : Chip) : (c.alarmSet).port = c.port := by
  unfold Chip.alarmSet; split <;> simp

@[simp] theorem Chip.calCtl_desk (c : Chip) (w : Word) : (c.calCtl w).port = c.port := by
  simp [Chip.calCtl]

@[simp] theorem Chip.calTrim_desk (c : Chip) (v : Word) : (c.calTrim v).port = c.port := by
  simp [Chip.calTrim]

@[simp] theorem Chip.lampHours_desk (c : Chip) (n : Nat) (v : Word) : (c.lampHours n v).port = c.port := by
  simp [Chip.lampHours]

@[simp] theorem Chip.writeLkk_desk (c : Chip) (a : Nat) (w : Word) : (c.writeLkk a w).port = c.port := by
  simp [Chip.writeLkk]

/-! ### A write of any register -/

@[simp] theorem Chip.writeBlock_desk (c : Chip) (a : Nat) (w : Word) (mfst : Bool) (pair : Bool) :
    (c.writeBlock a w mfst pair).port = c.port := by
  unfold Chip.writeBlock; split <;> simp

@[simp] theorem Chip.writeReg_desk (c : Chip) (a : Nat) (w : Word) (mfst : Bool) (pair : Bool) : (Chip.writeReg
    c a w mfst pair).port = c.port := by
  simp [Chip.writeReg]

/-! ### What follows an operation -/

@[simp] theorem Chip.onBsc_desk (c : Chip) (h : Beam → Beam) : (c.onBsc h).desk f unseen = c.desk f unseen := (rfl)

@[simp] theorem Chip.bscForget_desk (c : Chip) : c.bscForget.desk f unseen = c.desk f unseen := (rfl)

@[simp] theorem Chip.bscIdle_desk (c : Chip) : c.bscIdle.desk f unseen = c.desk f unseen := by
  simp [Chip.bscIdle]

@[simp] theorem Chip.bscMeasure_desk (c : Chip) : c.bscMeasure.desk f unseen = c.desk f unseen := (rfl)

@[simp] theorem Chip.bscRefresh_desk (c : Chip) : c.bscRefresh.desk f unseen = c.desk f unseen := by
  simp [Chip.bscRefresh]

@[simp] theorem Chip.bpsDark_desk (c : Chip) : c.bpsDark.desk f unseen = c.desk f unseen := (rfl)

@[simp] theorem Chip.bpsRefresh_desk (c : Chip) : c.bpsRefresh.desk f unseen = c.desk f unseen := by
  simp [Chip.bpsRefresh]

@[simp] theorem Chip.sequencers_desk (c : Chip) (before : Chip) :
    (c.sequencers before).desk f unseen = c.desk f unseen := by
  simp [Chip.sequencers]

@[simp] theorem Chip.pdQueued_desk (c : Chip) : c.pdQueued.desk f unseen = c.desk f unseen := by
  simp [Chip.pdQueued]

@[simp] theorem Chip.pdLate_desk (c : Chip) (before : Chip) : (c.pdLate before).desk f unseen = c.desk f unseen := by
  simp [Chip.pdLate]

@[simp] theorem Chip.lockLost_desk (c : Chip) : (c.lockLost).port = c.port := by
  simp [Chip.lockLost]

end

end Sys2Proof.Machine
end

section
/-! SUPPORT. Manifests: what a launch, a fetch and a burst do to the Wharf, and what follows an operation (R143-R157). -/

namespace Sys2Proof.Machine

open Sys2Proof

/-! ### What follows an operation -/

theorem Chip.withUses_desk {α : Type} (f : Half → α) (c : Chip) (h : Chip → Chip) :
    (c.withUses h).desk f unseen = (h c).desk f unseen := by
  simp [Chip.withUses]

theorem Wharf.quiet_restore (w : Wharf) : w = { w.quiet with err := w.err, status := w.status, evt := w.evt } := rfl

/-- What follows an operation leaves the events and all of the Wharf but its errors and status. -/
theorem Chip.withUses_wh (c : Chip) (h : Chip → Chip) :
    ∃ e t, (c.withUses h).wh = { (h c).wh with err := e, status := t } := by
  have hd := c.withUses_desk id h
  have hwh : (c.withUses h).wh.quiet = (h c).wh.quiet := congrArg Desk.wh hd
  have hev : (c.withUses h).wh.evt = (h c).wh.evt := congrArg Desk.events hd
  refine ⟨(c.withUses h).wh.err, (c.withUses h).wh.status, ?_⟩
  rw [Wharf.quiet_restore (c.withUses h).wh, hwh, hev]
  rfl

theorem Chip.withUses_brg (c : Chip) (h : Chip → Chip) : (c.withUses h).brg = (h c).brg :=
  congrArg Desk.brg (c.withUses_desk unseen h)

theorem Chip.withUses_stores_eq (c : Chip) (h : Chip → Chip) : (c.withUses h).stores = (h c).stores := by
  simp [Chip.withUses]

/-- An operation that does nothing takes no use. -/
theorem Chip.withUses_id {c : Chip} {h : Chip → Chip} (hc : h c = c) : c.withUses h = c := by
  have ht : c.takeUses c = c := by
    unfold Chip.takeUses
    simp only [Nat.lt_irrefl, if_false]
    exact List.foldl_fixed _
  have hs : c.SameRun (h c) := by
    rw [hc]
    exact ⟨rfl, rfl, rfl, rfl⟩
  rw [Chip.withUses_of_sameRun hs, hc, ht]

/-- An operation that changes only the Wharf. -/
theorem Chip.SameRun.onWh (c : Chip) (w : Wharf) : c.SameRun { c with wh := w } := ⟨(rfl), (rfl), (rfl), (rfl)⟩

theorem Chip.withUses_onWh {c : Chip} {h : Chip → Chip} {w : Wharf} (hw : h c = { c with wh := w }) :
    (c.withUses h).wh = w ∧ c.sameBut (c.withUses h) clockDoms ∧
      c.withUses h = { c with regs := (c.withUses h).regs, wh := w } := by
  have hs : c.SameRun (h c) := by
    rw [hw]
    exact .onWh c w
  obtain ⟨r, hr, hsame⟩ := Chip.onlyRegs_iff.mp (Chip.withUses_onlyRegs hs)
  rw [hw] at hr hsame
  refine ⟨by rw [hr], fun a ha => hsame a ha, ?_⟩
  generalize c.withUses h = d at hr
  rw [hr]

/-! ### A manifest ends (R156) -/

section

variable (c : Chip) (st : MfstState) (err : Nat)

@[simp] theorem Chip.mfstEnd_evt : (c.mfstEnd st err).wh.evt.getLsbD evMfst = true := by
  simp [Chip.mfstEnd, Chip.evt, Chip.onWh, evMfst]

end

/-! ### A write of WH_MFST_CTL (R151-R155) -/

/-- SRC and WHEN of the word written. -/
def Chip.mfstSelect (c : Chip) (v : Half) : Chip :=
  c.onWh fun w => { w with mfstSrc := b2n (v.getLsbD 2), mfstWhen := v.toNat / 8 % 4 }

/-- ABORT where the word has it. -/
def Chip.mfstSelectStop (c : Chip) (v : Half) : Chip :=
  if v.getLsbD 1 then (c.mfstSelect v).mfstStop else c.mfstSelect v

theorem Chip.mfstStop_pending {c : Chip} (h : c.mfstPending = true) : c.mfstStop = c.mfstEnd .error meAborted :=
    if_pos h

theorem Chip.mfstStop_idle {c : Chip} (h : c.mfstPending = false) : c.mfstStop = c := by
  simp [Chip.mfstStop, h]

theorem Chip.mfstStop_frame (c : Chip) : c.mfstStop = { c with wh := c.mfstStop.wh } := by
  unfold Chip.mfstStop
  split <;> rfl

theorem Chip.mfstLaunch_frame (c : Chip) : c.mfstLaunch = { c with wh := c.mfstLaunch.wh } := by
  unfold Chip.mfstLaunch
  extract_lets c1
  split
  · rfl
  · split <;> rfl

/-- A launch of the host while nothing is pending: it needs frame boundaries, or else the fetch starts (R152). -/
theorem Chip.mfstLaunch_free {c : Chip} (hp : c.mfstPending = false) (hm : c.mode.mode ≠ .load) :
    c.mfstLaunch =
      if c.wh.mfstWhen ≠ 2 ∧ c.soState 0 = 0 then (c.mfstClear .wharf c.wh.mfstWhen c.wh.mfstFrame).mfstEnd .error meNoFrame
      else
        (c.mfstClear .wharf c.wh.mfstWhen c.wh.mfstFrame).onWh fun w =>
          { w with mfstState := .fetch, runDram := w.mfstSrc == 1, runAddr := w.mfstAddr / 4 * 4
                   runFlash := w.mfstSrc == 0 && c.flashIdle } := by
  unfold Chip.mfstLaunch
  rw [if_neg]
  simpa [hp] using hm

theorem Chip.mfstLaunch_taken {c : Chip} (h : c.mfstPending = true ∨ c.mode.mode = .load) :
    c.mfstLaunch = c.whErr erMfstBusy :=
  if_pos (by simpa using h)

theorem Chip.mfstSelectStop_frame (c : Chip) (v : Half) :
    c.mfstSelectStop v = { c with wh := (c.mfstSelectStop v).wh } := by
  unfold Chip.mfstSelectStop
  split
  · rw [Chip.mfstStop_frame]
    rfl
  · rfl

/-- GO is bit 0; the rest of the word stays. -/
theorem Half.go_div (v : Half) : (v ||| 1#16).toNat / 8 = v.toNat / 8 := by
  have h : (v ||| 1#16) >>> 3 = v >>> 3 := by
    ext i hi
    simp
  simpa [BitVec.toNat_ushiftRight, Nat.shiftRight_eq_div_pow] using congrArg BitVec.toNat h

theorem Chip.mfstCtl_go (c : Chip) (v : Half) :
    c.mfstCtl (v ||| 1#16) = c.withUses fun c => (c.mfstSelectStop v).mfstLaunch := by
  have h0 : (v ||| 1#16).getLsbD 0 = true := by simp
  have h1 : (v ||| 1#16).getLsbD 1 = v.getLsbD 1 := by simp
  have h2 : (v ||| 1#16).getLsbD 2 = v.getLsbD 2 := by simp
  unfold Chip.mfstCtl Chip.mfstSelectStop Chip.mfstSelect
  rw [h0, h1, h2, Half.go_div]
  rfl

/-- What the word selects is the same with and without ABORT. -/
theorem Chip.mfstSelectStop_wh (c : Chip) (v : Half) :
    (c.mfstSelectStop v).wh.mfstSrc = b2n (v.getLsbD 2) ∧ (c.mfstSelectStop v).wh.mfstWhen = v.toNat / 8 % 4 ∧
      (c.mfstSelectStop v).wh.mfstAddr = c.wh.mfstAddr ∧ (c.mfstSelectStop v).wh.mfstFrame = c.wh.mfstFrame := by
  unfold Chip.mfstSelectStop Chip.mfstStop
  split
  · split <;> exact ⟨rfl, rfl, rfl, rfl⟩
  · exact ⟨rfl, rfl, rfl, rfl⟩

theorem Chip.mfstSelect_pending (c : Chip) (v : Half) : (c.mfstSelect v).mfstPending = c.mfstPending := rfl

theorem Chip.mfstEnd_pending (c : Chip) (err : Nat) : (c.mfstEnd .error err).mfstPending = false := rfl

/-- After ABORT, or where nothing was pending, nothing is. -/
theorem Chip.mfstSelectStop_free {c : Chip} {v : Half} (h : v.getLsbD 1 = true ∨ c.mfstPending = false) :
    (c.mfstSelectStop v).mfstPending = false := by
  unfold Chip.mfstSelectStop Chip.mfstStop
  rw [Chip.mfstSelect_pending]
  cases hp : c.mfstPending
  · simp [Chip.mfstSelect_pending, hp]
  · rw [if_pos (by simpa [hp] using h)]
    exact Chip.mfstEnd_pending _ _

/-- A launch while the buffer is taken changes only what the word selects (R153, R155). -/
theorem Chip.mfstGo_taken {c : Chip} {v : Half} (hv : v.getLsbD 1 = false)
    (h : c.mfstPending = true ∨ c.mode.mode = .load) :
    (c.mfstSelectStop v).mfstLaunch = (c.mfstSelect v).whErr erMfstBusy := by
  have hs : c.mfstSelectStop v = c.mfstSelect v := if_neg (Bool.not_eq_true _ ▸ hv)
  rw [hs, Chip.mfstLaunch_taken (c := c.mfstSelect v) h]

theorem Chip.mfstGo_free {c : Chip} {v : Half} (h : v.getLsbD 1 = true ∨ c.mfstPending = false)
    (hm : c.mode.mode ≠ .load) :
    (c.mfstSelectStop v).mfstLaunch.wh.mfstApplied = 0 ∧ (c.mfstSelectStop v).mfstLaunch.wh.mfstSkipped = 0 ∧
      (v.toNat / 8 % 4 ≠ 2 → c.soState 0 = 0 →
        (c.mfstSelectStop v).mfstLaunch.wh.mfstState = .error ∧ (c.mfstSelectStop v).mfstLaunch.wh.mfstErr = 9 ∧
          (c.mfstSelectStop v).mfstLaunch.wh.evt.getLsbD evMfst = true) ∧
      (v.toNat / 8 % 4 = 2 ∨ c.soState 0 ≠ 0 →
        (c.mfstSelectStop v).mfstLaunch.wh.mfstState = .fetch ∧ (c.mfstSelectStop v).mfstLaunch.wh.mfstErr = 0 ∧
          (c.mfstSelectStop v).mfstLaunch.wh.runWhen = v.toNat / 8 % 4 ∧
          (c.mfstSelectStop v).mfstLaunch.wh.runDram = v.getLsbD 2 ∧
          (c.mfstSelectStop v).mfstLaunch.wh.runAddr = c.wh.mfstAddr / 4 * 4 ∧
          (c.mfstSelectStop v).mfstLaunch.wh.runFrame = c.wh.mfstFrame ∧
          (c.mfstSelectStop v).mfstLaunch.wh.runFlash = (!v.getLsbD 2 && c.flashIdle)) := by
  obtain ⟨hsrc, hwhen, haddr, hframe⟩ := c.mfstSelectStop_wh v
  have hfree := Chip.mfstSelectStop_free h
  obtain ⟨w, hw⟩ : ∃ w, c.mfstSelectStop v = { c with wh := w } := ⟨_, c.mfstSelectStop_frame v⟩
  rw [hw] at hsrc hwhen haddr hframe hfree ⊢
  have hso : Chip.soState { c with wh := w } 0 = c.soState 0 := (Chip.SameRun.onWh c w).stateA
  have hidle : Chip.flashIdle { c with wh := w } = c.flashIdle := rfl
  rw [Chip.mfstLaunch_free hfree hm, hso, hidle]
  dsimp only at hsrc hwhen haddr hframe ⊢
  rw [hwhen, hframe]
  by_cases hn : v.toNat / 8 % 4 ≠ 2 ∧ c.soState 0 = 0
  · rw [if_pos hn]
    exact ⟨rfl, rfl, fun _ _ => ⟨rfl, rfl, Chip.mfstEnd_evt _ _ _⟩, fun hr => absurd hn (by tauto)⟩
  · rw [if_neg hn]
    refine ⟨rfl, rfl, fun h2 h0 => absurd ⟨h2, h0⟩ hn, fun _ => ⟨rfl, rfl, rfl, ?_, ?_, rfl, ?_⟩⟩
    · simp only [Chip.onWh, Chip.mfstClear, hsrc]
      cases v.getLsbD 2 <;> rfl
    · simp only [Chip.onWh, Chip.mfstClear, haddr]
    · simp only [Chip.onWh, Chip.mfstClear, hsrc]
      cases v.getLsbD 2 <;> rfl

/-! ### A burst ends (R148, R156) -/

theorem Chip.mfstBurstOver_frame (c : Chip) (b : Bool) : c.mfstBurstOver b = { c with wh := (c.mfstBurstOver b).wh } := by
  unfold Chip.mfstBurstOver
  extract_lets late c1
  split <;> rfl

theorem Chip.mfstBurstOver_wh (c : Chip) (b : Bool) :
    (c.mfstBurstOver b).wh.mfstBurst = false ∧
      (c.mfstBurstOver b).wh.mfstOverrun = (c.wh.mfstOverrun || (!b && c.wh.runWhen != 2)) := by
  unfold Chip.mfstBurstOver
  extract_lets late c1
  split <;> exact ⟨rfl, rfl⟩

theorem Chip.mfstBurstOver_last {c : Chip} {b : Bool} (h : c.wh.mfstState = .applying ∧ c.wh.mfstGroups = []) :
    (c.mfstBurstOver b).wh.mfstState = .done ∧ (c.mfstBurstOver b).wh.mfstErr = 0 ∧
      (c.mfstBurstOver b).wh.evt.getLsbD evMfst = true := by
  unfold Chip.mfstBurstOver
  rw [if_pos h]
  exact ⟨rfl, rfl, Chip.mfstEnd_evt _ _ _⟩

theorem Chip.mfstBurstOver_more {c : Chip} {b : Bool} (h : ¬(c.wh.mfstState = .applying ∧ c.wh.mfstGroups = [])) :
    (c.mfstBurstOver b).wh.mfstState = c.wh.mfstState ∧ (c.mfstBurstOver b).wh.mfstGroups = c.wh.mfstGroups := by
  unfold Chip.mfstBurstOver
  rw [if_neg h]
  exact ⟨rfl, rfl⟩

/-! ### Staging (R146, R151, R152) -/

section

variable {c : Chip} {bs : List Byte}

/-- The groups of a manifest's bytes. -/
abbrev mfstGroupsIn (bs : List Byte) : List MfstGroup := mfstGroupsOf (mfstWords (mfstCount bs) (bs.drop 16))

/-- The chip with a manifest's label taken. -/
def Chip.mfstLabel (c : Chip) (bs : List Byte) : Chip := c.onWh fun w => { w with mfstTag := mfstTagOf bs }

theorem Chip.mfstTake_bad (h : mfstErr bs ≠ 0) : c.mfstTake bs = (c.mfstLabel bs).mfstEnd .error (mfstErr bs) :=
    if_pos h

theorem Chip.mfstTake_good (h : mfstErr bs = 0) : c.mfstTake bs = (c.mfstLabel bs).mfstStage (mfstGroupsIn bs) :=
  if_neg (by simp [h])

theorem Chip.mfstStage_noFrame {gs : List MfstGroup} (hw : c.wh.runWhen ≠ 2) (h : c.soState 0 = 0) :
    c.mfstStage gs = c.mfstEnd .error meNoFrame := by
  unfold Chip.mfstStage
  rw [if_neg hw, if_pos h]

/-- A manifest staged for a boundary. -/
def Chip.mfstStaged (c : Chip) (gs : List MfstGroup) : Chip :=
  c.onWh fun w =>
    { w with
        mfstState := .staged, mfstGroups := gs, mfstAtFrame :=
          c.wh.runWhen == 1 && !(c.wh.runWhen == 1 && c.mfstReached)
        mfstLate := c.wh.runWhen == 1 && c.mfstReached, mfstWait := 0 }

theorem Chip.mfstStage_waits {gs : List MfstGroup} (hw : c.wh.runWhen ≠ 2) (h : c.soState 0 ≠ 0) :
    c.mfstStage gs = c.mfstStaged gs := by
  unfold Chip.mfstStage
  rw [if_neg hw, if_neg h]
  rfl

/-- A manifest that does not apply at once changes only the Wharf. -/
theorem Chip.mfstTake_frame (h : mfstErr bs ≠ 0 ∨ c.wh.runWhen ≠ 2) :
    c.mfstTake bs = { c with wh := (c.mfstTake bs).wh } := by
  by_cases hb : mfstErr bs ≠ 0
  · rw [Chip.mfstTake_bad hb]
    rfl
  have hw : (c.mfstLabel bs).wh.runWhen ≠ 2 := h.resolve_left hb
  rw [Chip.mfstTake_good (not_not.mp hb)]
  by_cases h0 : (c.mfstLabel bs).soState 0 = 0
  · rw [Chip.mfstStage_noFrame hw h0]
    rfl
  · rw [Chip.mfstStage_waits hw h0]
    rfl

theorem Chip.mfstTake_bad_wh (h : mfstErr bs ≠ 0) :
    (c.mfstTake bs).wh.mfstState = .error ∧ (c.mfstTake bs).wh.mfstErr = mfstErr bs ∧
      (c.mfstTake bs).wh.mfstTag = mfstTagOf bs ∧ (c.mfstTake bs).wh.evt.getLsbD evMfst = true := by
  rw [Chip.mfstTake_bad h]
  exact ⟨rfl, rfl, rfl, Chip.mfstEnd_evt _ _ _⟩

theorem Chip.mfstLabel_soState : (c.mfstLabel bs).soState 0 = c.soState 0 := (Chip.SameRun.onWh c _).stateA

theorem Chip.mfstTake_noFrame_wh (h : mfstErr bs = 0) (hw : c.wh.runWhen ≠ 2) (h0 : c.soState 0 = 0) :
    (c.mfstTake bs).wh.mfstState = .error ∧ (c.mfstTake bs).wh.mfstErr = 9 ∧
      (c.mfstTake bs).wh.mfstTag = mfstTagOf bs := by
  rw [Chip.mfstTake_good h, Chip.mfstStage_noFrame (c := c.mfstLabel bs) hw (Chip.mfstLabel_soState.trans h0)]
  exact ⟨rfl, rfl, rfl⟩

/-- Scan-out A's frame number has reached the one that the launch names (R66). -/
theorem Chip.mfstLabel_reached : (c.mfstLabel bs).mfstReached = c.mfstReached := by
  unfold Chip.mfstReached Chip.mfstLabel
  rw [Chip.onWh_rd]
  rfl

theorem Chip.mfstTake_staged (h : mfstErr bs = 0) (hw : c.wh.runWhen ≠ 2) (h0 : c.soState 0 ≠ 0) :
    c.mfstTake bs = (c.mfstLabel bs).mfstStaged (mfstGroupsIn bs) := by
  rw [Chip.mfstTake_good h, Chip.mfstStage_waits (c := c.mfstLabel bs) hw (by rwa [Chip.mfstLabel_soState])]

theorem Chip.mfstTake_staged_wh (h : mfstErr bs = 0) (hw : c.wh.runWhen ≠ 2) (h0 : c.soState 0 ≠ 0) :
    (c.mfstTake bs).wh.mfstState = .staged ∧ (c.mfstTake bs).wh.mfstGroups = mfstGroupsIn bs ∧
      (c.mfstTake bs).wh.mfstLate = (c.wh.runWhen == 1 && c.mfstReached) ∧
      (c.mfstTake bs).wh.mfstAtFrame = (c.wh.runWhen == 1 && !c.mfstReached) ∧
      (c.mfstTake bs).wh.mfstTag = mfstTagOf bs ∧ (c.mfstTake bs).wh.mfstOrigin = c.wh.mfstOrigin ∧
      (c.mfstTake bs).wh.runWhen = c.wh.runWhen := by
  rw [Chip.mfstTake_staged h hw h0]
  refine ⟨rfl, rfl, ?_, ?_, rfl, rfl, rfl⟩ <;>
    simp only [Chip.mfstStaged, Chip.onWh, Chip.mfstLabel_reached] <;>
    simp only [Chip.mfstLabel, Chip.onWh]
  cases c.wh.runWhen == 1 <;> simp

end

/-! ### A fetch (R157) -/

/-- The bytes that a fetch brings. -/
def Chip.fetchBytes (c : Chip) : List Byte :=
  if c.wh.runDram then c.dramManifest c.wh.runAddr else c.flashManifest c.wh.runAddr

/-- The memory of the fetch serves it. -/
def Chip.fetchServed (c : Chip) : Bool :=
  if c.wh.runDram then c.dramServes c.wh.runAddr c.fetchBytes.length else c.pdOn 12

/-- The part after the reads of a fetch from DRAM, whose errors are recorded. -/
def Chip.fetchNoted (c : Chip) : Chip :=
  if c.wh.runDram then c.readNote 11 c.wh.runAddr c.fetchBytes.length else c

theorem Chip.fetchDone_idle {c : Chip} (h : c.wh.mfstState ≠ .fetch) : c.fetchDone = c := if_pos h

theorem Chip.fetchDone_waits {c : Chip} (hd : c.wh.runDram = false) (hf : c.wh.runFlash = false) (hp : c.pdOn 12 = true) :
    c.fetchDone = c := by
  simp [Chip.fetchDone, hd, hf, hp]

theorem Chip.fetchDone_ends {c : Chip} (h : c.wh.mfstState = .fetch) (hr : c.wh.runDram = true ∨ c.wh.runFlash = true) :
    c.fetchDone =
      if c.fetchServed then c.fetchNoted.mfstTake c.fetchBytes else c.fetchNoted.mfstEnd .error meFetchFail := by
  unfold Chip.fetchDone Chip.fetchServed Chip.fetchNoted
  rw [if_neg (by simp [h])]
  cases hd : c.wh.runDram
  · have hf : c.wh.runFlash = true := hr.resolve_left (by simp [hd])
    cases c.pdOn 12 <;> simp [hf, Chip.fetchBytes, hd]
  · simp [Chip.fetchDram, Chip.fetchBytes, hd]

theorem Chip.fetchNoted_flash {c : Chip} (h : c.wh.runDram = false) : c.fetchNoted = c := by
  simp [Chip.fetchNoted, h]

theorem Chip.fetchNoted_desk {β : Type} (g : Word × Word → β) (c : Chip) :
    c.fetchNoted.desk unseen g = c.desk unseen g := by
  unfold Chip.fetchNoted
  split
  · exact c.readNote_desk _ _ (by decide)
  · rfl

theorem Chip.fetchNoted_stores (c : Chip) : c.fetchNoted.stores = c.stores := by
  unfold Chip.fetchNoted
  split
  · exact c.readNote_stores _ _ _
  · rfl

/-- The reads of a fetch change neither what its launch asked for nor scan-out A's status and frame number. -/
theorem Chip.fetchNoted_keeps (c : Chip) :
    c.fetchNoted.wh.runWhen = c.wh.runWhen ∧ c.fetchNoted.soState 0 = c.soState 0 ∧
      c.fetchNoted.mfstReached = c.mfstReached := by
  have hd := c.fetchNoted_desk id
  have hwhen : c.fetchNoted.wh.quiet.runWhen = c.wh.quiet.runWhen := congrArg (·.wh.runWhen) hd
  have hframe : c.fetchNoted.wh.quiet.runFrame = c.wh.quiet.runFrame := congrArg (·.wh.runFrame) hd
  have hstat : c.fetchNoted.get 0x200050 = c.get 0x200050 := congrArg (·.panel.1) hd
  have hnum : c.fetchNoted.get 0x200054 = c.get 0x200054 := congrArg (·.panel.2) hd
  refine ⟨hwhen, congrArg (soF 0 SOA_STAT_STATE).get hstat, ?_⟩
  have hrd : c.fetchNoted.rd SOA_FRAME_FRAME = c.rd SOA_FRAME_FRAME := congrArg SOA_FRAME_FRAME.get hnum
  unfold Chip.mfstReached
  rw [hrd, show c.fetchNoted.wh.runFrame = c.wh.runFrame from hframe]

/-! ### An entry that reaches no register (R145) -/

section

variable {c : Chip}

/-- A WRITE entry that reaches no register is skipped: it changes the Wharf only. -/
theorem Chip.mfstWrite_refused {e : MfstEntry} (b p : Bool) (h : c.access e.addr ≠ .ok) :
    ∃ w, c.mfstWrite b p e = { c with wh := w } ∧ w.quiet = { c.wh with mfstSkipped := c.wh.mfstSkipped + 1 }.quiet ∧
      (c.access e.addr = .pwroff → e.addr < 0x800000 → w.err.getLsbD erPwroff = true) := by
  unfold Chip.mfstWrite
  split
  · next ha => exact ⟨_, rfl, rfl, fun _ hlt => absurd hlt (Nat.not_lt.mpr ha)⟩
  · split
    · next hu => exact ⟨_, rfl, rfl, fun hp => absurd (hu.symm.trans hp) (by decide)⟩
    · exact ⟨_, rfl, rfl, fun _ _ => c.whErr_err_self erPwroff (by decide)⟩
    · next hu => exact ⟨_, rfl, rfl, fun hp => absurd (hu.symm.trans hp) (by decide)⟩
    · next hu => exact absurd hu h

theorem Chip.lockLost_unlocked (h : c.soLocked = false) : c.lockLost = c := by
  simp [Chip.lockLost, h]

/-- An IMMEDIATE manifest of one entry that reaches no register. -/
theorem Chip.mfstApply_refused {e : MfstEntry} (h : c.access e.addr ≠ .ok) (hl : c.soLocked = false) :
    ∃ w, (c.mfstApply false ⟨0, [e]⟩).wh = w ∧ c.sameBut (c.mfstApply false ⟨0, [e]⟩) clockDoms ∧
      c.SameRun (c.mfstApply false ⟨0, [e]⟩) ∧
      w.quiet = { c.wh with mfstSkipped := c.wh.mfstSkipped + 1 }.quiet ∧
      (c.access e.addr = .pwroff → e.addr < 0x800000 → w.err.getLsbD erPwroff = true) := by
  obtain ⟨w, hw, hq, he⟩ := Chip.mfstWrite_refused false (MfstGroup.pair ⟨0, [e]⟩) h
  have hf : (c.mfstWrite false (MfstGroup.pair ⟨0, [e]⟩) e).lockLost = { c with wh := w } := by
    rw [hw]
    exact Chip.lockLost_unlocked ((Chip.SameRun.onWh c w).locked.trans hl)
  obtain ⟨hwh, hsame, hd⟩ := Chip.withUses_onWh (c := c)
    (h := fun c => (c.mfstWrite false (MfstGroup.pair ⟨0, [e]⟩) e).lockLost) hf
  refine ⟨w, hwh, hsame, .of_sameBut hsame (by decide) (by decide) ?_, hq, he⟩
  exact congrArg (·.mode.edge) hd

/-- The manifest applies at once (R146). -/
def Chip.mfstStarted (c : Chip) (gs : List MfstGroup) : Chip :=
  c.onWh fun w => { w with mfstState := .applying, mfstBurst := true, mfstGroups := [], mfstGroup := gs.length - 1 }

theorem Chip.mfstTake_atOnce {bs : List Byte} (h : mfstErr bs = 0) (hw : c.wh.runWhen = 2) :
    c.mfstTake bs = ((c.mfstLabel bs).mfstStarted (mfstGroupsIn bs)).mfstAll (mfstGroupsIn bs) := by
  rw [Chip.mfstTake_good h]
  exact if_pos hw

/-- The whole of a fetch that ends with such a manifest. -/
theorem Chip.mfstTake_refused {bs : List Byte} {e : MfstEntry} (h : mfstErr bs = 0) (hw : c.wh.runWhen = 2)
    (hgs : mfstGroupsIn bs = [⟨0, [e]⟩]) (ha : c.access e.addr ≠ .ok) (hl : c.soLocked = false) :
    c.SameRun (c.mfstTake bs) ∧ c.sameBut (c.mfstTake bs) clockDoms ∧ (c.mfstTake bs).wh.mfstState = .applying ∧
      (c.mfstTake bs).wh.mfstBurst = true ∧ (c.mfstTake bs).wh.mfstApplied = c.wh.mfstApplied ∧
      (c.mfstTake bs).wh.mfstSkipped = c.wh.mfstSkipped + 1 ∧
      (c.access e.addr = .pwroff → e.addr < 0x800000 → (c.mfstTake bs).wh.err.getLsbD erPwroff = true) := by
  rw [Chip.mfstTake_atOnce h hw, hgs]
  obtain ⟨w, hstart⟩ : ∃ w, (c.mfstLabel bs).mfstStarted [⟨0, [e]⟩] = { c with wh := w } := ⟨_, rfl⟩
  have hwh := congrArg Chip.wh hstart
  have happ : w.mfstApplied = c.wh.mfstApplied := (congrArg (·.wh.mfstApplied) hstart).symm
  have hskip : w.mfstSkipped = c.wh.mfstSkipped := (congrArg (·.wh.mfstSkipped) hstart).symm
  have hrun : c.SameRun { c with wh := w } := .onWh c w
  obtain ⟨w', hw', hsame, hrun', hq, herr⟩ := Chip.mfstApply_refused (c := { c with wh := w }) (e := e) ha
    (hrun.locked.trans hl)
  rw [hstart, show Chip.mfstAll { c with wh := w } [⟨0, [e]⟩] = Chip.mfstApply { c with wh := w } false ⟨0, [e]⟩ from rfl, hw']
  refine ⟨⟨hrun'.stateA.trans hrun.stateA, hrun'.stateB.trans hrun.stateB, hrun'.locked.trans hrun.locked,
    hrun'.edge.trans hrun.edge⟩, hsame, ?_, ?_, ?_, ?_, herr⟩
  · exact (congrArg Wharf.mfstState hq).trans (congrArg Wharf.mfstState hwh.symm)
  · exact (congrArg Wharf.mfstBurst hq).trans (congrArg Wharf.mfstBurst hwh.symm)
  · exact (congrArg Wharf.mfstApplied hq).trans happ
  · exact (congrArg Wharf.mfstSkipped hq).trans (congrArg (· + 1) hskip)

end

/-! ### What applying keeps of the port and of the stream -/

/-- The stream and the label of the manifest in the staging buffer are the same. -/
structure Chip.SameLabel (c d : Chip) : Prop where
  brg : d.brg = c.brg
  tag : d.wh.mfstTag = c.wh.mfstTag

section

variable {c d e : Chip}

theorem Chip.SameLabel.refl (c : Chip) : c.SameLabel c := ⟨rfl, rfl⟩

theorem Chip.SameLabel.trans (h : c.SameLabel d) (k : d.SameLabel e) : c.SameLabel e :=
  ⟨k.brg.trans h.brg, k.tag.trans h.tag⟩

theorem Chip.SameLabel.of_port (h : d.port = c.port) : c.SameLabel d :=
  ⟨congrArg Desk.brg h, congrArg (·.wh.mfstTag) h⟩

theorem Chip.SameLabel.onWh (c : Chip) {f : Wharf → Wharf} (h : (f c.wh).mfstTag = c.wh.mfstTag) :
    c.SameLabel (c.onWh f) :=
  ⟨rfl, h⟩

theorem Chip.SameLabel.withUses {f : Chip → Chip} (h : c.SameLabel (f c)) : c.SameLabel (c.withUses f) :=
  h.trans (.of_port (c.withUses_desk unseen f))

theorem Chip.SameLabel.foldl {γ : Type} (f : Chip → γ → Chip) (l : List γ) (hf : ∀ (c : Chip) (x : γ), c.SameLabel (f c x))
    (c : Chip) : c.SameLabel (l.foldl f c) := by
  induction l generalizing c with
  | nil => exact .refl c
  | cons x t ih => exact (hf c x).trans (ih _)

theorem Chip.mfstWrite_label (c : Chip) (p : Bool) (e : MfstEntry) : c.SameLabel (c.mfstWrite false p e) := by
  have hskip (d : Chip) (h : c.SameLabel d) : c.SameLabel d.entrySkipped := h.trans (.onWh d rfl)
  have herr (n : Nat) : c.SameLabel (c.whErr n) := ⟨rfl, rfl⟩
  unfold Chip.mfstWrite
  split
  · exact hskip c (.refl c)
  · split
    · exact hskip _ (herr _)
    · exact hskip _ (herr _)
    · exact hskip _ (herr _)
    · split
      · exact hskip _ (herr _)
      · exact (Chip.SameLabel.of_port (c.writeReg_desk _ _ _ _)).trans (.onWh _ rfl)

theorem Chip.mfstApply_label (c : Chip) (g : MfstGroup) : c.SameLabel (c.mfstApply false g) :=
  .withUses ((Chip.SameLabel.foldl _ _ (fun c e => c.mfstWrite_label g.pair e) c).trans (.of_port (Chip.lockLost_desk _)))

theorem Chip.mfstAll_label (c : Chip) (gs : List MfstGroup) : c.SameLabel (c.mfstAll gs) :=
  .foldl _ _ (fun c g => c.mfstApply_label g) c

/-- A manifest that arrives puts its label in the buffer and leaves the stream that brought it. -/
theorem Chip.mfstTake_label (c : Chip) (bs : List Byte) :
    (c.mfstTake bs).brg = c.brg ∧ (c.mfstTake bs).wh.mfstTag = mfstTagOf bs := by
  suffices h : (c.mfstLabel bs).SameLabel (c.mfstTake bs) from ⟨h.brg, h.tag⟩
  by_cases hb : mfstErr bs = 0
  · by_cases hw : c.wh.runWhen = 2
    · rw [Chip.mfstTake_atOnce hb hw]
      exact (Chip.SameLabel.onWh (c.mfstLabel bs) rfl).trans (Chip.mfstAll_label _ _)
    · by_cases h0 : (c.mfstLabel bs).soState 0 = 0
      · rw [Chip.mfstTake_good hb, Chip.mfstStage_noFrame (c := c.mfstLabel bs) hw h0]
        exact ⟨rfl, rfl⟩
      · rw [Chip.mfstTake_good hb, Chip.mfstStage_waits (c := c.mfstLabel bs) hw h0]
        exact ⟨rfl, rfl⟩
  · rw [Chip.mfstTake_bad hb]
    exact ⟨rfl, rfl⟩

end

/-! ### A packet that ends its stream -/

section

variable {c : Chip}

/-- The packet is all that the stream holds. -/
theorem Chip.packetOver_last (h : c.brg.stream.length ≤ 20 + c.brg.len) : c.packetOver = c.onBrg Barge.packetEnd := by
  have hend : c.packetOver = ((c.onBrg Barge.packetEnd).bargeHeader).osdArrive := by
    simp only [Chip.packetOver, Chip.onBrg, Barge.packetEnd, List.drop_eq_nil_of_le h]
  have hhead : (c.onBrg Barge.packetEnd).bargeHeader = c.onBrg Barge.packetEnd := if_pos (.inr (.inr (.inl rfl)))
  rw [hend, hhead]
  unfold Chip.osdArrive
  exact if_pos (.inl rfl)

/-- A packet that is counted and dropped changes its counter and the stream. -/
theorem Chip.bump_packetOver (k : Field) (h : c.brg.stream.length ≤ 20 + c.brg.len) :
    (c.bump k 1).packetOver = { c with regs := (c.bump k 1).regs, brg := c.brg.packetEnd } :=
  Chip.packetOver_last (c := c.bump k 1) h

theorem Chip.packetAny_manifest (h : c.headIs (· == 3) = true) :
    c.packetAny = c.packet c.mfstTaken Chip.bargeLaunch := by
  have ht : c.brg.type = 3 := by
    simp only [Chip.headIs, Bool.and_eq_true, beq_iff_eq] at h
    exact h.2
  unfold Chip.packetAny
  rw [ht]
  rfl

theorem Chip.mfstTaken_iff : c.mfstTaken = true ↔ c.mfstPending = true ∨ c.mode.mode = .load := by
  simp [Chip.mfstTaken]

theorem satAdd_lt (bits n k : Nat) : satAdd bits n k < 2 ^ bits :=
  (Nat.min_le_right _ _).trans_lt (Nat.sub_one_lt (Nat.two_pow_pos bits).ne')

/-- A packet that is counted in a register of the stream's own and dropped. -/
theorem Chip.withUses_dropped {p : Chip → Chip} {k : Field} {b : Barge} (hk : k.inside = true)
    (hp : p c = { c with regs := (c.bump k 1).regs, brg := b }) (hA : SOA_STAT.addr ∉ [k.addr])
    (hB : (soF 1 SOA_STAT).addr ∉ [k.addr]) (hc : k.addr ∉ clockDoms) :
    (c.withUses p).brg = b ∧ (c.withUses p).wh = c.wh ∧ c.sameBut (c.withUses p) (k.addr :: clockDoms) ∧
      (c.withUses p).rd k = satAdd k.width (c.rd k) 1 := by
  have hone : c.sameBut (p c) [k.addr] := by
    rw [hp]
    exact (Chip.sameBut.refl c [k.addr]).wr (f := k) _ (List.mem_singleton_self _)
  have hrun : c.SameRun (p c) := .of_sameBut hone hA hB (by rw [hp])
  have honly := Chip.withUses_onlyRegs hrun
  have hrd : (p c).rd k = satAdd k.width (c.rd k) 1 := by
    rw [hp]
    exact (c.rd_wr_same k _ hk).trans (Nat.mod_eq_of_lt (satAdd_lt _ _ _))
  refine ⟨?_, ?_, hone.trans honly.2, (honly.2.rd hc).trans hrd⟩
  · rw [honly.1, hp]
  · rw [honly.1, hp]

/-! ### An accepted MANIFEST packet -/

theorem Chip.packetAccept_onlyRegs (c : Chip) :
    c.onlyRegs c.packetAccept [VIN_BRG_CNT2.addr, VIN_BRG_CNT0.addr, VIN_BRG_STAT.addr] :=
  ((((Chip.onlyRegs.refl c _).wr (f := VIN_BRG_CNT2_GAP) _ (by decide)).wr (f := VIN_BRG_CNT0_ACCEPTED) _ (by decide)).wr
    (f := VIN_BRG_STAT_LAST_SEQ) _ (by decide)).wr (f := VIN_BRG_STAT_SEQ_VALID) _ (by decide)

/-- The launch of an accepted packet, before its manifest is judged. -/
def Chip.bargeCleared (c : Chip) : Chip :=
  c.packetAccept.mfstClear .barge (c.brg.param % 4) (c.brg.dest % 65536)

theorem Chip.bargeCleared_keeps (c : Chip) :
    c.bargeCleared.brg = c.brg ∧ c.bargeCleared.soState 0 = c.soState 0 ∧ c.bargeCleared.wh.mfstOrigin = .barge ∧
      c.bargeCleared.wh.runWhen = c.brg.param % 4 := by
  have h := c.packetAccept_onlyRegs
  have hso : c.packetAccept.soState 0 = c.soState 0 := h.2.rd (f := soF 0 SOA_STAT_STATE) (by decide)
  refine ⟨?_, (Chip.SameRun.onWh c.packetAccept _).stateA.trans hso, rfl, rfl⟩
  change c.packetAccept.brg = c.brg
  rw [h.1]

theorem Chip.bargeLaunch_accepted (c : Chip) : c.packetAccept.bargeLaunch = c.bargeCleared.mfstTake c.brg.payload := by
  have hb : c.packetAccept.brg = c.brg := by rw [c.packetAccept_onlyRegs.1]
  unfold Chip.bargeLaunch Chip.bargeCleared
  rw [hb]

/-- What an accepted packet leaves: the stream at its end, and its manifest taken. -/
theorem Chip.withUses_accepted (h : c.brg.stream.length ≤ 20 + c.brg.len) {p : Chip → Chip}
    (hp : p c = c.packetAccept.bargeLaunch.packetOver) :
    (c.withUses p).brg.stream = [] ∧
      ∃ e t, (c.withUses p).wh = { (c.bargeCleared.mfstTake c.brg.payload).wh with err := e, status := t } := by
  obtain ⟨e, t, hwh⟩ := c.withUses_wh p
  have hbrg := c.withUses_brg p
  have hlen : (c.bargeCleared.mfstTake c.brg.payload).brg = c.brg :=
    (Chip.mfstTake_label _ _).1.trans c.bargeCleared_keeps.1
  have hend : p c = (c.bargeCleared.mfstTake c.brg.payload).onBrg Barge.packetEnd := by
    rw [hp, c.bargeLaunch_accepted, Chip.packetOver_last (by rwa [hlen])]
  rw [hend] at hwh hbrg
  exact ⟨congrArg Barge.stream hbrg, e, t, hwh⟩

end

/-! ### The instructions -/

section

variable {s : State}

theorem exec_mfstFetchDone (hs : s.runs) :
    exec .mfstFetchDone s = .next { s with chip := s.chip.withUses Chip.fetchDone } :=
  State.effect_of_runs hs fun c => c.withUses Chip.fetchDone

theorem exec_mfstFetchTimeout (hs : s.runs) :
    exec .mfstFetchTimeout s = .next { s with chip :=
      (if s.chip.mfstFromFlash && !s.chip.wh.runFlash then s.chip.mfstEnd .error meFetchFail else s.chip) } :=
  State.effect_of_runs hs fun c => if c.mfstFromFlash && !c.wh.runFlash then c.mfstEnd .error meFetchFail else c

theorem exec_mfstBurstEnd (hs : s.runs) (b : Bool) :
    exec (.mfstBurstEnd b) s = .next { s with chip := (if s.chip.wh.mfstBurst then s.chip.mfstBurstOver b else s.chip) } :=
  State.effect_of_runs hs fun c => if c.wh.mfstBurst then c.mfstBurstOver b else c

theorem exec_bargeManifest (hs : s.runs) :
    exec .bargeManifest s =
      .next { s with chip := (if s.chip.headIs (· == 3) then s.chip.withUses Chip.packetAny else s.chip) } :=
  State.effect_of_runs hs fun c => if c.headIs (· == 3) then c.withUses Chip.packetAny else c

/-! ### Launches and aborts -/

/-- MFST_GO and ABORT as the port serves them. -/
theorem exec_mfstControl (hs : s.runs) (v : Half) (hp : s.chip.pdOn 2 = true) (hd : s.chip.wh.drain = []) :
    exec (.mfstGo v) s = .next { s with chip := s.chip.withUses fun c => (c.mfstSelectStop v).mfstLaunch } ∧
      exec .mfstAbort s = .next { s with chip := s.chip.mfstStop } := by
  rw [← Chip.mfstCtl_go]
  exact ⟨(exec_hostTop hs (i := .mfstGo v) rfl).2.2 hp hd, (exec_hostTop hs (i := .mfstAbort) rfl).2.2 hp hd⟩

theorem Chip.mfstGo_frame (c : Chip) (v : Half) :
    (c.mfstSelectStop v).mfstLaunch = { c with wh := (c.mfstSelectStop v).mfstLaunch.wh } := by
  rw [Chip.mfstLaunch_frame, Chip.mfstSelectStop_frame]

theorem Chip.mfstLaunch_select (c : Chip) : c.mfstLaunch.wh.mfstSrc = c.wh.mfstSrc ∧ c.mfstLaunch.wh.mfstWhen = c.wh.mfstWhen := by
  unfold Chip.mfstLaunch
  extract_lets c1
  split
  · exact ⟨rfl, rfl⟩
  · split <;> exact ⟨rfl, rfl⟩

/-! ### Fetches -/

/-- A fetch that ends, whatever its memory answers. -/
theorem Chip.fetch_ends {c : Chip} (hf : c.wh.mfstState = .fetch) (hr : c.wh.runDram = true ∨ c.wh.runFlash = true) :
    (c.fetchServed = false → c.fetchDone = c.fetchNoted.mfstEnd .error meFetchFail) ∧
      (c.fetchServed = true → c.fetchDone = c.fetchNoted.mfstTake c.fetchBytes) := by
  rw [Chip.fetchDone_ends hf hr]
  exact ⟨fun h => if_neg (by simp [h]), fun h => if_pos h⟩

/-- Such a fetch whose manifest does not apply at once changes the Wharf, and by its reads what they count. -/
theorem Chip.fetch_keeps {c d : Chip} {w : Wharf} (h : c.fetchDone = { c.fetchNoted with wh := w })
    (hd : d = c.withUses Chip.fetchDone) :
    (∃ e t, d.wh = { w with err := e, status := t }) ∧ d.stores = c.stores ∧
      (c.wh.runDram = false → c.sameBut d clockDoms) := by
  subst hd
  obtain ⟨e, t, hwh⟩ := c.withUses_wh Chip.fetchDone
  rw [h] at hwh
  refine ⟨⟨e, t, hwh⟩, ?_, fun hdram => ?_⟩
  · rw [Chip.withUses_stores_eq, h]
    exact c.fetchNoted_stores
  · rw [Chip.fetchNoted_flash hdram] at h
    exact (Chip.withUses_onWh h).2.1

section

variable {c d : Chip} (hf : c.wh.mfstState = .fetch) (hr : c.wh.runDram = true ∨ c.wh.runFlash = true)
  (hd : d = c.withUses Chip.fetchDone)

include hf hr hd

theorem Chip.fetch_unserved (hs : c.fetchServed = false) :
    d.wh.mfstState = .error ∧ d.wh.mfstErr = 8 ∧ d.stores = c.stores := by
  obtain ⟨⟨e, t, hwh⟩, hst, -⟩ := Chip.fetch_keeps (((Chip.fetch_ends hf hr).1 hs).trans rfl) hd
  rw [hwh]
  exact ⟨rfl, rfl, hst⟩

theorem Chip.fetch_bad (hs : c.fetchServed = true) (hb : mfstErr c.fetchBytes ≠ 0) :
    d.wh.mfstState = .error ∧ d.wh.mfstErr = mfstErr c.fetchBytes ∧ d.wh.mfstTag = mfstTagOf c.fetchBytes ∧
      d.wh.evt.getLsbD evMfst = true ∧ d.stores = c.stores ∧ (c.wh.runDram = false → c.sameBut d clockDoms) := by
  obtain ⟨⟨e, t, hwh⟩, hst, hsame⟩ :=
    Chip.fetch_keeps (((Chip.fetch_ends hf hr).2 hs).trans (Chip.mfstTake_frame (.inl hb))) hd
  obtain ⟨h1, h2, h3, h4⟩ := Chip.mfstTake_bad_wh (c := c.fetchNoted) hb
  rw [hwh]
  exact ⟨h1, h2, h3, h4, hst, hsame⟩

theorem Chip.fetch_good (hs : c.fetchServed = true) (hb : mfstErr c.fetchBytes = 0) (hw : c.wh.runWhen ≠ 2) :
    d.wh.mfstTag = mfstTagOf c.fetchBytes ∧ d.stores = c.stores ∧ (c.wh.runDram = false → c.sameBut d clockDoms) ∧
      (c.soState 0 = 0 → d.wh.mfstState = .error ∧ d.wh.mfstErr = 9) ∧
      (c.soState 0 ≠ 0 →
        d.wh.mfstState = .staged ∧ d.wh.mfstGroups = mfstGroupsIn c.fetchBytes ∧
          d.wh.mfstLate = (c.wh.runWhen == 1 && c.mfstReached) ∧
          d.wh.mfstAtFrame = (c.wh.runWhen == 1 && !c.mfstReached)) := by
  obtain ⟨hwhen, hso, hreach⟩ := c.fetchNoted_keeps
  have hw' : c.fetchNoted.wh.runWhen ≠ 2 := by rwa [hwhen]
  obtain ⟨⟨e, t, hwh⟩, hst, hsame⟩ :=
    Chip.fetch_keeps (((Chip.fetch_ends hf hr).2 hs).trans (Chip.mfstTake_frame (.inr hw'))) hd
  rw [hwh]
  refine ⟨(Chip.mfstTake_label _ _).2, hst, hsame, fun h0 => ?_, fun h0 => ?_⟩
  · obtain ⟨h1, h2, -⟩ := Chip.mfstTake_noFrame_wh hb hw' (hso.trans h0)
    exact ⟨h1, h2⟩
  · obtain ⟨h1, h2, h3, h4, -⟩ := Chip.mfstTake_staged_wh hb hw' (by rwa [hso])
    rw [hwhen, hreach] at h3 h4
    exact ⟨h1, h2, h3, h4⟩

theorem Chip.fetch_refused (hs : c.fetchServed = true) (hb : mfstErr c.fetchBytes = 0) (hw : c.wh.runWhen = 2)
    (hdram : c.wh.runDram = false) (hl : c.soLocked = false) {e : MfstEntry}
    (hgs : mfstGroupsIn c.fetchBytes = [⟨0, [e]⟩]) (ha : c.access e.addr ≠ .ok) :
    c.sameBut d clockDoms ∧ d.wh.mfstState = .applying ∧ d.wh.mfstBurst = true ∧
      d.wh.mfstApplied = c.wh.mfstApplied ∧ d.wh.mfstSkipped = c.wh.mfstSkipped + 1 ∧
      (c.access e.addr = .pwroff → e.addr < 0x800000 → d.wh.err.getLsbD erPwroff = true) := by
  subst hd
  have hdone := (Chip.fetch_ends hf hr).2 hs
  rw [Chip.fetchNoted_flash hdram] at hdone
  obtain ⟨hrun, hsame, hwh⟩ := Chip.mfstTake_refused hb hw hgs ha hl
  rw [← hdone] at hrun hsame hwh
  have honly := Chip.withUses_onlyRegs hrun
  have hkeep : (c.withUses Chip.fetchDone).wh = c.fetchDone.wh := by rw [honly.1]
  rw [hkeep]
  exact ⟨fun a h => (honly.2 a h).trans (hsame a h), hwh⟩

end

/-! ### MANIFEST packets (R440) -/

section

variable {c d : Chip} (hr : c.packetReady 3) (hd : d = c.withUses Chip.packetAny)

include hr hd

theorem Chip.packet_taken (ht : c.mfstTaken = true) :
    d.brg.stream = [] ∧ d.wh = c.wh ∧ c.sameBut d (VIN_BRG_CNT2.addr :: clockDoms) ∧
      d.rd VIN_BRG_CNT2_NOBUF = satAdd 16 (c.rd VIN_BRG_CNT2_NOBUF) 1 := by
  subst hd
  have hp : c.packetAny = { c with regs := (c.bump VIN_BRG_CNT2_NOBUF 1).regs, brg := c.brg.packetEnd } := by
    rw [Chip.packetAny_manifest hr.1, Chip.packet, if_pos ht, Chip.bump_packetOver _ hr.2.le]
  obtain ⟨hb, h⟩ := Chip.withUses_dropped (k := VIN_BRG_CNT2_NOBUF) (by decide) hp (by decide) (by decide) (by decide)
  exact ⟨congrArg Barge.stream hb, h⟩

theorem Chip.packet_crcBad (ht : c.mfstTaken = false) (hc : c.brg.crcOk = false) :
    d.brg.stream = [] ∧ d.wh = c.wh ∧ d.brg.failed = true ∧ c.sameBut d (VIN_BRG_CNT1.addr :: clockDoms) ∧
      d.rd VIN_BRG_CNT1_CRC_ERR = satAdd 16 (c.rd VIN_BRG_CNT1_CRC_ERR) 1 := by
  subst hd
  have hp : c.packetAny =
      { c with regs := (c.bump VIN_BRG_CNT1_CRC_ERR 1).regs, brg := { c.brg with failed := true }.packetEnd } := by
    rw [Chip.packetAny_manifest hr.1, Chip.packet, if_neg (by simp [ht]), if_pos (by simp [hc])]
    exact Chip.packetOver_last (c := (c.bump VIN_BRG_CNT1_CRC_ERR 1).onBrg fun b => { b with failed := true }) hr.2.le
  obtain ⟨hb, hwh, h⟩ :=
    Chip.withUses_dropped (k := VIN_BRG_CNT1_CRC_ERR) (by decide) hp (by decide) (by decide) (by decide)
  exact ⟨congrArg Barge.stream hb, hwh, congrArg Barge.failed hb, h⟩

theorem Chip.packet_dup (ht : c.mfstTaken = false) (hc : c.brg.crcOk = true) (hdup : c.packetDup = true) :
    d.brg.stream = [] ∧ d.wh = c.wh ∧ c.sameBut d (VIN_BRG_CNT0.addr :: clockDoms) ∧
      d.rd VIN_BRG_CNT0_DUP = satAdd 16 (c.rd VIN_BRG_CNT0_DUP) 1 := by
  subst hd
  have hp : c.packetAny = { c with regs := (c.bump VIN_BRG_CNT0_DUP 1).regs, brg := c.brg.packetEnd } := by
    rw [Chip.packetAny_manifest hr.1, Chip.packet, if_neg (by simp [ht]), if_neg (by simp [hc]), if_pos hdup,
      Chip.bump_packetOver _ hr.2.le]
  obtain ⟨hb, h⟩ := Chip.withUses_dropped (k := VIN_BRG_CNT0_DUP) (by decide) hp (by decide) (by decide) (by decide)
  exact ⟨congrArg Barge.stream hb, h⟩

theorem Chip.packet_accepted (ht : c.mfstTaken = false) (hc : c.brg.crcOk = true) (hdup : c.packetDup = false) :
    d.brg.stream = [] ∧ d.wh.mfstTag = mfstTagOf c.brg.payload ∧
      (mfstErr c.brg.payload ≠ 0 → d.wh.mfstState = .error ∧ d.wh.mfstErr = mfstErr c.brg.payload) ∧
      (mfstErr c.brg.payload = 0 → c.brg.param % 4 ≠ 2 → c.soState 0 ≠ 0 →
        d.wh.mfstState = .staged ∧ d.wh.mfstOrigin = .barge ∧ d.wh.runWhen = c.brg.param % 4 ∧
          d.wh.mfstGroups = mfstGroupsIn c.brg.payload) := by
  subst hd
  have hp : c.packetAny = c.packetAccept.bargeLaunch.packetOver := by
    rw [Chip.packetAny_manifest hr.1, Chip.packet, if_neg (by simp [ht]), if_neg (by simp [hc]),
      if_neg (by simp [hdup])]
  obtain ⟨hstream, e, t, hwh⟩ := Chip.withUses_accepted hr.2.le hp
  obtain ⟨-, hso, horigin, hwhen⟩ := c.bargeCleared_keeps
  rw [hwh]
  refine ⟨hstream, (Chip.mfstTake_label _ _).2, fun hb => ?_, fun hb hw h0 => ?_⟩
  · obtain ⟨h1, h2, -⟩ := Chip.mfstTake_bad_wh (c := c.bargeCleared) hb
    exact ⟨h1, h2⟩
  · obtain ⟨h1, h2, -, -, -, h6, h7⟩ := Chip.mfstTake_staged_wh (c := c.bargeCleared) hb (by rwa [hwhen]) (by rwa [hso])
    exact ⟨h1, h6.trans horigin, h7.trans hwhen, h2⟩

end

end

/-- MFST_GO served: what it selects, and how it ends. -/
theorem mfstGo_served {s : State} (hs : s.runs) (v : Half) (hp : s.chip.pdOn 2 = true) (hd : s.chip.wh.drain = []) :
    ∃ d, exec (.mfstGo v) s = .next { s with chip := d } ∧ d = { s.chip with regs := d.regs, wh := d.wh } ∧
      s.chip.sameBut d clockDoms ∧ d.wh = ((s.chip.mfstSelectStop v).mfstLaunch).wh := by
  obtain ⟨hwh, hsame, hframe⟩ := Chip.withUses_onWh (c := s.chip) (h := fun c => (c.mfstSelectStop v).mfstLaunch)
    (s.chip.mfstGo_frame v)
  refine ⟨_, (exec_mfstControl hs v hp hd).1, ?_, hsame, hwh⟩
  rw [hwh]
  exact hframe

/-- A fetch from flash that still waits for the flash. -/
theorem Chip.mfstFromFlash_waits {c : Chip} (hf : c.wh.mfstState = .fetch) (hd : c.wh.runDram = false) :
    c.mfstFromFlash = true := by
  simp [Chip.mfstFromFlash, hf, hd]

/-- Settles O53: a launch, an abort and a burst's end change the Wharf alone; a fetch keeps what its launch asked for, and
an IMMEDIATE manifest keeps the stream that brought it. -/
theorem manifests : Obligations.Manifests := by
  refine ⟨fun s v hs => ⟨fun hp => ?_, fun hp hd i hi => ?_, fun hp hd => ⟨?_, fun hpend => ?_, fun hpend => ?_⟩⟩,
    fun s hs => ⟨fun hf => ?_, fun hf => ⟨fun hr => ?_, fun hdram hflash => ⟨fun hp => ?_, ?_⟩, fun hr => ?_⟩⟩,
    fun s b hs => ⟨fun hb => ?_, fun hb => ?_⟩, fun s hs => ⟨fun hh => ?_, fun hr => ?_⟩⟩
  · exact ⟨(exec_hostTop hs (i := .mfstGo v) rfl).1 hp, (exec_hostTop hs (i := .mfstAbort) rfl).1 hp⟩
  · simp only [List.mem_cons, List.not_mem_nil, or_false] at hi
    rcases hi with rfl | rfl
    · exact (exec_hostTop hs (i := .mfstGo v) rfl).2.1 hp hd
    · exact (exec_hostTop hs (i := .mfstAbort) rfl).2.1 hp hd
  · obtain ⟨d, hexec, hframe, hsame, hwh⟩ := mfstGo_served hs v hp hd
    obtain ⟨hsrc, hwhen, -⟩ := s.chip.mfstSelectStop_wh v
    obtain ⟨hsrc', hwhen'⟩ := (s.chip.mfstSelectStop v).mfstLaunch_select
    refine ⟨d, hexec, hframe, hsame, ?_, ?_, fun hv ht => ?_, fun hfree hm => ?_⟩
    · rw [hwh, hsrc', hsrc]
      cases v.getLsbD 2 <;> rfl
    · rw [hwh, hwhen', hwhen]
    · rw [hwh, Chip.mfstGo_taken hv ht]
      exact ⟨Chip.whErr_err_self _ _ (by decide), rfl, rfl⟩
    · rw [hwh]
      exact Chip.mfstGo_free hfree hm
  · rw [(exec_mfstControl hs v hp hd).2, Chip.mfstStop_idle hpend]
  · refine ⟨_, (exec_mfstControl hs v hp hd).2, s.chip.mfstStop_frame, ?_⟩
    rw [Chip.mfstStop_pending hpend]
    exact ⟨rfl, rfl, rfl, rfl, Chip.mfstEnd_evt _ _ _⟩
  · rw [exec_mfstFetchDone hs, exec_mfstFetchTimeout hs, Chip.withUses_id (Chip.fetchDone_idle hf)]
    simp [Chip.mfstFromFlash, hf]
  · rw [exec_mfstFetchTimeout hs, if_neg]
    rcases hr with hr | hr <;> simp [Chip.mfstFromFlash, hr]
  · rw [exec_mfstFetchDone hs, Chip.withUses_id (Chip.fetchDone_waits hdram hflash hp)]
  · refine ⟨_, exec_mfstFetchTimeout hs, ?_⟩
    rw [if_pos (by simp [Chip.mfstFromFlash_waits hf hdram, hflash])]
    exact ⟨rfl, rfl, rfl, Chip.mfstEnd_evt _ _ _⟩
  · exact ⟨_, exec_mfstFetchDone hs, fun h => Chip.fetch_unserved hf hr rfl h, fun h hb => Chip.fetch_bad hf hr rfl h hb,
      fun h hb hw => Chip.fetch_good hf hr rfl h hb hw,
      fun h hb hw hdram hl e hgs ha => Chip.fetch_refused hf hr rfl h hb hw hdram hl hgs ha⟩
  · rw [exec_mfstBurstEnd hs, hb]
    rfl
  · refine ⟨_, exec_mfstBurstEnd hs b, ?_⟩
    rw [if_pos hb]
    obtain ⟨h1, h2⟩ := s.chip.mfstBurstOver_wh b
    exact ⟨s.chip.mfstBurstOver_frame b, h1, h2, Chip.mfstBurstOver_last, Chip.mfstBurstOver_more⟩
  · rw [exec_bargeManifest hs, hh]
    rfl
  · refine ⟨_, exec_bargeManifest hs, ?_⟩
    rw [if_pos hr.1, ← Chip.mfstTaken_iff, Bool.not_eq_true]
    have hstream : (s.chip.withUses Chip.packetAny).brg.stream = [] := by
      cases ht : s.chip.mfstTaken
      · cases hc : s.chip.brg.crcOk
        · exact (Chip.packet_crcBad hr rfl ht hc).1
        · cases hdup : s.chip.packetDup
          · exact (Chip.packet_accepted hr rfl ht hc hdup).1
          · exact (Chip.packet_dup hr rfl ht hc hdup).1
      · exact (Chip.packet_taken hr rfl ht).1
    exact ⟨hstream, fun ht => (Chip.packet_taken hr rfl ht).2, fun ht hc => (Chip.packet_crcBad hr rfl ht hc).2,
      fun ht hc hdup => (Chip.packet_dup hr rfl ht hc hdup).2,
        fun ht hc hdup => (Chip.packet_accepted hr rfl ht hc hdup).2⟩

end Sys2Proof.Machine
end

section
/-! SUPPORT. The timebase registers (R88, R206) and the frequency meters (R207-R209): what a command leaves when it reaches
its registers. -/

namespace Sys2Proof.Machine

open Sys2Proof

/-! ### A write that arrives -/

/-- A command whose write reaches its register has that write's effect. -/
theorem State.effect_guardReg {s : State} (hs : s.runs) {a : Nat} (hr : s.chip.reach a) (f : Chip → Chip) :
    (effect s fun c => c.guardReg a f) = .next { s with chip := f s.chip } := by
  rw [State.effect_of_runs hs, Chip.guardReg_ok _ _ _ hr.1 hr.2]

/-! ### The timebase (R88, R206, Table 4.9) -/

/-- An increment register takes every value but 0. -/
theorem Chip.incWrite_onlyRegs (c : Chip) (a : Nat) (v : Word) :
    c.onlyRegs (if v = 0 then c else c.setReg a v) [a] ∧
      (if v = 0 then c else c.setReg a v).get a = if v = 0 then c.get a else v := by
  split
  · exact ⟨.refl c _, rfl⟩
  · exact ⟨(Chip.onlyRegs.refl c _).setReg v List.mem_cons_self, c.get_setReg_self a v⟩

theorem Chip.tbSnap_onlyRegs (c : Chip) : c.onlyRegs c.tbSnap [0x504, 0x508] :=
  ((Chip.onlyRegs.refl c _).setReg _ (by decide)).setReg _ (by decide)

/-- The two registers together hold the 64 integer bits (R87). -/
theorem Chip.tbSnap_words (c : Chip) : (c.tbSnap.get 0x508).toNat * 2 ^ 32 + (c.tbSnap.get 0x504).toNat = c.now := by
  have hlo : c.tbSnap.get 0x504 = BitVec.ofNat 32 c.now := by
    rw [Chip.tbSnap, Chip.get_setReg_ne _ _ _ _ (by decide), Chip.get_setReg_self]
  have hhi : c.tbSnap.get 0x508 = BitVec.ofNat 32 (c.now / 2 ^ 32) := Chip.get_setReg_self _ _ _
  have hlt : c.now < 2 ^ 64 := Nat.mod_lt _ (by decide)
  rw [hlo, hhi, BitVec.toNat_ofNat, BitVec.toNat_ofNat]
  omega

/-- Settles O1: a write of an increment changes its register alone, and a snapshot the two that hold it. -/
theorem timebaseRegisters : Obligations.TimebaseRegisters := by
  refine ⟨fun s v hs hr => ?_, fun s v hs hr => ?_, fun s hs hr => ?_⟩
  · exact ⟨_, State.effect_guardReg hs hr _, s.chip.incWrite_onlyRegs 0x50C v⟩
  · exact ⟨_, State.effect_guardReg hs hr _, s.chip.incWrite_onlyRegs 0x510 v⟩
  · exact ⟨_, State.effect_guardReg hs hr _, s.chip.tbSnap_onlyRegs, s.chip.tbSnap_words⟩

/-! ### The frequency meters (R207-R209) -/

theorem Field.off_clear {f g : Field} (d : Nat) (h : f.clear g = true) : (f.off d).clear (g.off d) = true := by
  simp only [Field.clear, Field.inside, Bool.and_eq_true, Bool.or_eq_true, decide_eq_true_eq] at h ⊢
  simpa [Field.off] using h

section

variable (c : Chip) (m : Nat) {f g : Field}

theorem Chip.rd_wr_fmF_same (v : Nat) (h : f.inside = true) : (c.wr (fmF m f) v).rd (fmF m f) = v % 2 ^ f.width :=
  c.rd_wr_same (fmF m f) v h

theorem Chip.rd_wr_fmF_clear (v : Nat) (h : f.clear g = true) : (c.wr (fmF m f) v).rd (fmF m g) = c.rd (fmF m g) :=
  c.rd_wr_clear _ _ v (Field.off_clear _ h)

/-- What a meter measures, and against what. -/
def Chip.fmSelect (v : Word) : Chip :=
  (c.wr (fmF m CKG_FM0_CTL_TGT) (CKG_FM0_CTL_TGT.get v)).wr (fmF m CKG_FM0_CTL_REF) (CKG_FM0_CTL_REF.get v)

/-- The meter's result and flags, as the start and the end of a measurement write them. -/
def Chip.fmReport (count done tmo busy : Nat) : Chip :=
  (((c.wr (fmF m CKG_FM0_COUNT_COUNT) count).wr (fmF m CKG_FM0_CTL_DONE) done).wr (fmF m CKG_FM0_CTL_TMO) tmo).wr
    (fmF m CKG_FM0_CTL_BUSY) busy

/-- Whether a measurement runs. -/
def Chip.fmRun (b : Bool) : Chip := c.onCk fun x => { x with fmBusy := x.fmBusy.set m b }

@[simp] theorem Chip.rd_fmRun (b : Bool) (f : Field) : (c.fmRun m b).rd f = c.rd f := (rfl)

theorem Chip.sameBut.fmRun {c d : Chip} {as : List Nat} (h : c.sameBut d as) (b : Bool) :
    c.sameBut (d.fmRun m b) as := h

theorem Chip.fmWrite_eq (v : Word) :
    c.fmWrite m v =
      if v.toNat / 2 ^ 16 % 2 = 1 then ((c.fmSelect m v).fmReport m 0 0 0 1).fmRun m true else c.fmSelect m v := rfl

theorem Chip.fmEnd_running {count : Nat} {tmo : Bool} (h : c.ck.fmBusy.getD m false = true) :
    c.fmEnd m count tmo = (c.fmReport m count 1 (b2n tmo) 0).fmRun m false := if_pos h

theorem Chip.fmEnd_stopped {count : Nat} {tmo : Bool} (h : c.ck.fmBusy.getD m false = false) :
    c.fmEnd m count tmo = c := if_neg (by rw [h]; decide)

theorem Chip.fmSelect_onlyRegs (v : Word) : c.onlyRegs (c.fmSelect m v) [0x300 + 0x10 * m] :=
  ((Chip.onlyRegs.refl c _).wr _ List.mem_cons_self).wr _ List.mem_cons_self

theorem Chip.fmSelect_fields (v : Word) :
    (c.fmSelect m v).rd (fmF m CKG_FM0_CTL_TGT) = v.toNat % 32 ∧
      (c.fmSelect m v).rd (fmF m CKG_FM0_CTL_REF) = v.toNat / 2 ^ 8 % 32 := by
  simp (disch := decide) only [Chip.fmSelect, Chip.rd_wr_fmF_same, Chip.rd_wr_fmF_clear]
  simp [Field.get, Field.width, CKG_FM0_CTL_TGT, CKG_FM0_CTL_REF]

/-- A measurement's report goes into CKG_FMc_CTL and CKG_FMc_COUNT. -/
theorem Chip.onlyRegs.fmReport {c d : Chip} (h : c.onlyRegs d [0x300 + 0x10 * m, 0x308 + 0x10 * m])
    (count done tmo busy : Nat) : c.onlyRegs (d.fmReport m count done tmo busy) [0x300 + 0x10 * m, 0x308 + 0x10 * m] :=
  (((h.wr _ (List.mem_cons_of_mem _ List.mem_cons_self)).wr _ List.mem_cons_self).wr _ List.mem_cons_self).wr _
    List.mem_cons_self

theorem Chip.fmReport_fields (count done tmo busy : Nat) :
    (c.fmReport m count done tmo busy).rd (fmF m CKG_FM0_COUNT_COUNT) = count % 2 ^ 32 ∧
      (c.fmReport m count done tmo busy).rd (fmF m CKG_FM0_CTL_DONE) = done % 2 ∧
      (c.fmReport m count done tmo busy).rd (fmF m CKG_FM0_CTL_TMO) = tmo % 2 ∧
      (c.fmReport m count done tmo busy).rd (fmF m CKG_FM0_CTL_BUSY) = busy % 2 := by
  simp (disch := decide) only [Chip.fmReport, Chip.rd_wr_fmF_same, Chip.rd_wr_fmF_clear]
  exact ⟨rfl, rfl, rfl, rfl⟩

/-- A report leaves what the meter measures. -/
theorem Chip.fmReport_select (count done tmo busy : Nat) :
    (c.fmReport m count done tmo busy).rd (fmF m CKG_FM0_CTL_TGT) = c.rd (fmF m CKG_FM0_CTL_TGT) ∧
      (c.fmReport m count done tmo busy).rd (fmF m CKG_FM0_CTL_REF) = c.rd (fmF m CKG_FM0_CTL_REF) := by
  simp (disch := decide) only [Chip.fmReport, Chip.rd_wr_fmF_clear, and_self]

theorem Chip.onlyRegs.fmRun_frame {c d : Chip} {as : List Nat} (h : c.onlyRegs d as) (b : Bool) :
    d.fmRun m b = { c with regs := (d.fmRun m b).regs, ck := { c.ck with fmBusy := c.ck.fmBusy.set m b } } := by
  obtain ⟨r, rfl, -⟩ := Chip.onlyRegs_iff.mp h
  rfl

end

/-- The end of a measurement in progress, `tmo` for one whose reference showed no edge (R207, R208). -/
theorem Chip.fmEnd_reports (c : Chip) (m count : Nat) (tmo : Bool) (h : c.ck.fmBusy.getD m false = true)
    (hc : count < 2 ^ 32) :
    c.fmEnd m count tmo =
        { c with regs := (c.fmEnd m count tmo).regs, ck := { c.ck with fmBusy := c.ck.fmBusy.set m false } } ∧
      c.sameBut (c.fmEnd m count tmo) [0x300 + 0x10 * m, 0x308 + 0x10 * m] ∧
      (c.fmEnd m count tmo).rd (fmF m CKG_FM0_COUNT_COUNT) = count ∧
      (c.fmEnd m count tmo).rd (fmF m CKG_FM0_CTL_DONE) = 1 ∧
      (c.fmEnd m count tmo).rd (fmF m CKG_FM0_CTL_TMO) = b2n tmo ∧
      (c.fmEnd m count tmo).rd (fmF m CKG_FM0_CTL_BUSY) = 0 := by
  rw [c.fmEnd_running m h]
  have honly := (Chip.onlyRegs.refl c _).fmReport m count 1 (b2n tmo) 0
  obtain ⟨hcount, hdone, htmo, hbusy⟩ := c.fmReport_fields m count 1 (b2n tmo) 0
  simp only [Chip.rd_fmRun, hcount, hdone, htmo, hbusy, Nat.mod_eq_of_lt hc]
  exact ⟨honly.fmRun_frame m false, honly.2.fmRun m false, trivial, trivial, by cases tmo <;> rfl, trivial⟩

section

variable {s : State} (hs : s.runs) (m : Nat)

include hs

theorem exec_fmStart (v : Word) (hm : m < 2) (hr : s.chip.reach (0x300 + 0x10 * m)) :
    exec (.fmStart m v) s = .next { s with chip := s.chip.fmWrite m v } := by
  refine (State.effect_of_runs hs fun c => if m < 2 then c.guardReg _ fun c => c.fmWrite m v else c).trans ?_
  rw [if_pos hm, Chip.guardReg_ok _ _ _ hr.1 hr.2]

theorem exec_fmGateEnd (count : Nat) :
    exec (.fmGateEnd m count) s = .next { s with chip := s.chip.fmEnd m count false } :=
  State.effect_of_runs hs fun c => c.fmEnd m count false

theorem exec_fmTimeout (count : Nat) :
    exec (.fmTimeout m count) s = .next { s with chip := s.chip.fmEnd m count true } :=
  State.effect_of_runs hs fun c => c.fmEnd m count true

end

/-- Settles O5: a write sets what the meter measures, and a start and an end write its report. -/
theorem frequencyMeters : Obligations.FrequencyMeters := by
  refine ⟨fun s m v hs hm hr => ?_, fun s m count hs hb hc => ⟨?_, ?_⟩, fun s m count hs hb => ⟨?_, ?_⟩⟩
  · have hsel := s.chip.fmSelect_onlyRegs m v
    have hrep := (show s.chip.onlyRegs _ [0x300 + 0x10 * m, 0x308 + 0x10 * m] from
      ⟨hsel.1, hsel.2.mono (by simp)⟩).fmReport m 0 0 0 1
    obtain ⟨htgt, href⟩ := s.chip.fmSelect_fields m v
    obtain ⟨htgt', href'⟩ := (s.chip.fmSelect m v).fmReport_select m 0 0 0 1
    obtain ⟨hcount, hdone, htmo, hbusy⟩ := (s.chip.fmSelect m v).fmReport_fields m 0 0 0 1
    refine ⟨_, exec_fmStart hs m v hm hr, ?_⟩
    rw [Chip.fmWrite_eq]
    split
    · simp only [Chip.rd_fmRun, htgt', href', htgt, href, hcount, hdone, htmo, hbusy]
      exact ⟨hrep.2.fmRun m true, trivial, trivial, hrep.fmRun_frame m true, rfl, trivial, trivial, trivial⟩
    · exact ⟨hsel.2.mono (by simp), htgt, href, hsel⟩
  · exact ⟨_, exec_fmGateEnd hs m count, s.chip.fmEnd_reports m count false hb hc⟩
  · exact ⟨_, exec_fmTimeout hs m count, s.chip.fmEnd_reports m count true hb hc⟩
  · rw [exec_fmGateEnd hs, s.chip.fmEnd_stopped m hb]
  · rw [exec_fmTimeout hs, s.chip.fmEnd_stopped m hb]

end Sys2Proof.Machine
end

section
/-! SUPPORT. A step (R203, R764): the command at the front of the queue, and the tick of an empty one. -/

namespace Sys2Proof.Machine

open Sys2Proof

/-- Every command has an effect on the part alone; only power-on reset and the TAP act while the reset is asserted. -/
theorem exec_answers (i : Instr) (s : State) : ∃ d, exec i s = .next { s with chip := d } := by
  have always (f : Chip → Chip) : ∃ d, effectAlways s f = .next { s with chip := d } := ⟨f s.chip, rfl⟩
  have running (f : Chip → Chip) : ∃ d, effect s f = .next { s with chip := d } := always _
  cases i with dsimp only [exec]
  | porAssert | porRelease | tapReset | tapIdcode | tapBypass | tapCsrRequest => exact always _
  | _ => exact running _

theorem State.idle_of_runs {s : State} (hs : s.runs) : s.idle = { s with chip := s.chip.tbTick } :=
  if_neg (by simp [show s.chip.pins.por = false from hs])

theorem State.idle_of_reset {s : State} (hs : ¬s.runs) : s.idle = s :=
  if_pos (by simpa [State.runs] using hs)

theorem step_of_empty {s : State} (h : s.pending = []) : step s = .next s.idle := by
  unfold step
  rw [h]

theorem step_of_pending {s : State} {i : Instr} {rest : List Instr} (h : s.pending = i :: rest) :
    step s = exec i { s with pending := rest } := by
  unfold step
  rw [h]

/-- Settles O55: by the two cases of the queue; that every command answers holds command by command. -/
theorem stepRunsFrontCommand : Obligations.StepRunsFrontCommand := by
  refine ⟨fun s i rest h => step_of_pending h, fun s h => ⟨fun hs => ?_, fun hs => ?_⟩, exec_answers⟩
  · rw [step_of_empty h, State.idle_of_runs hs]
  · rw [step_of_empty h, State.idle_of_reset hs]

end Sys2Proof.Machine
end

section
/-! SUPPORT. PLLs and dividers (R181-R191): what a change of one PLL or of one divider leaves of the others, lock, the time
that lock has held, and the ladder. -/

namespace Sys2Proof.Machine

open Sys2Proof

/-! ### One PLL -/

section

variable (c : Chip) (p q : Nat) (f : Pll → Pll)

theorem Chip.pll_onPll :
    (c.onPll p f).pll q = if q = p ∧ q < c.ck.plls.length then f (c.pll q) else c.pll q := by
  have hzip : (c.onPll p f).pll q = ((c.ck.plls[q]?).map fun x => if q = p then f x else x).getD (Pll.reset 1 16 0) := by
    simp [Chip.pll, Chip.onPll, List.getD_eq_getElem?_getD, List.getElem?_zipIdx, Function.comp_def]
  rw [hzip, Chip.pll, List.getD_eq_getElem?_getD]
  by_cases hq : q < c.ck.plls.length
  · rw [List.getElem?_eq_getElem hq]
    simp [hq]
  · rw [List.getElem?_eq_none (Nat.le_of_not_lt hq)]
    simp [hq]

theorem Chip.pll_onPll_ne (h : q ≠ p) : (c.onPll p f).pll q = c.pll q := by
  rw [Chip.pll_onPll, if_neg fun hp => h hp.1]

/-- A PLL that the list does not hold is the reset one. -/
theorem Chip.pll_reset {c : Chip} {q : Nat} (h : c.ck.plls.length ≤ q) : c.pll q = Pll.reset 1 16 0 :=
  List.getD_eq_default _ _ h

theorem Chip.pll_onPll_of_on {c : Chip} {p : Nat} (h : (c.pll p).on = true) : (c.onPll p f).pll p = f (c.pll p) := by
  have hp : p < c.ck.plls.length := Nat.lt_of_not_le fun hp => by simp [Chip.pll_reset hp, Pll.reset] at h
  rw [Chip.pll_onPll, if_pos ⟨rfl, hp⟩]

/-- What a change of a PLL leaves, it leaves of every PLL. -/
theorem Chip.pll_onPll_keeps {α : Type} (g : Pll → α) (h : ∀ x, g (f x) = g x) :
    g ((c.onPll p f).pll q) = g (c.pll q) := by
  rw [Chip.pll_onPll]
  split
  · exact h _
  · rfl

end

/-! ### Dividers -/

/-- Nothing differs but the dividers. -/
def Chip.onlyDivs (c d : Chip) : Prop := d = { c with ck := { c.ck with divs := d.ck.divs } }

theorem Chip.onlyDivs.refl (c : Chip) : c.onlyDivs c := rfl

theorem Chip.onlyDivs.setDiv {c d : Chip} (h : c.onlyDivs d) (n k : Nat) : c.onlyDivs (d.setDiv n k) := by
  unfold Chip.onlyDivs
  rw [h]
  rfl

theorem Chip.onlyDivs.foldl {α : Type} {c d : Chip} (h : c.onlyDivs d) (n k : Chip → α → Nat) (l : List α) :
    c.onlyDivs (l.foldl (fun c x => c.setDiv (n c x) (k c x)) d) := by
  induction l generalizing d with
  | nil => exact h
  | cons x t ih => exact ih (h.setDiv _ _)

theorem Chip.onlyDivs.pll {c d : Chip} (h : c.onlyDivs d) (p : Nat) : d.pll p = c.pll p := by rw [h]; rfl

/-- A domain whose divider is not 0 has a place for it. -/
theorem Chip.lt_length_of_divNow {c : Chip} {n : Nat} (h : 0 < c.divNow n) : n - 1 < c.ck.divs.length := by
  refine Nat.lt_of_not_le fun hn => ?_
  rw [Chip.divNow, List.getD_eq_default _ _ hn] at h
  exact absurd h (by decide)

theorem Chip.divNow_setDiv_self {c : Chip} {n : Nat} (k : Nat) (h : 0 < c.divNow n) : (c.setDiv n k).divNow n = k := by
  simp [Chip.divNow, Chip.setDiv, Chip.onCk, List.getD_eq_getElem?_getD, Chip.lt_length_of_divNow h]

theorem Chip.divNow_setDiv_ne (c : Chip) {n m : Nat} (k : Nat) (hn : 0 < n) (hm : 0 < m) (h : m ≠ n) :
    (c.setDiv n k).divNow m = c.divNow m := by
  have hplace : n - 1 ≠ m - 1 := by omega
  simp [Chip.divNow, Chip.setDiv, Chip.onCk, List.getD_eq_getElem?_getD, List.getElem?_set_ne hplace]

/-! ### The ramp (R185, R186) -/

/-- One place down the ladder for one domain. -/
def Chip.rampOne (c : Chip) (n : Nat) : Chip := c.setDiv n (ladderDown (c.divNow n) (c.targetDiv n))

/-- Domains that differ step down each for itself. -/
theorem Chip.divNow_rampAll {l : List Nat} (c : Chip) (hnd : l.Nodup) (hl : ∀ n ∈ l, 0 < n ∧ 0 < c.divNow n) {m : Nat}
    (hm : 0 < m) :
    (l.foldl Chip.rampOne c).divNow m = if m ∈ l then ladderDown (c.divNow m) (c.targetDiv m) else c.divNow m := by
  induction l generalizing c with
  | nil => rfl
  | cons x t ih =>
    obtain ⟨hx, hxd⟩ := hl x List.mem_cons_self
    obtain ⟨hxt, hnd⟩ := List.nodup_cons.mp hnd
    have hother {k : Nat} (hk : 0 < k) (hkx : k ≠ x) : (c.rampOne x).divNow k = c.divNow k :=
      c.divNow_setDiv_ne _ hx hk hkx
    rw [List.foldl_cons, ih _ hnd fun n hn => ?_]
    · by_cases hmx : m = x
      · subst hmx
        rw [if_neg hxt, if_pos List.mem_cons_self]
        exact Chip.divNow_setDiv_self _ hxd
      · rw [hother hm hmx]
        simp only [List.mem_cons, hmx, false_or]
        rfl
    · obtain ⟨hn0, hnd⟩ := hl n (List.mem_cons_of_mem _ hn)
      rw [hother hn0 fun h => hxt (h ▸ hn)]
      exact ⟨hn0, hnd⟩

/-- The domains that ramp. -/
def Chip.rampList (c : Chip) : List Nat := (List.range 26).filter fun n => 0 < n && c.ramping n

theorem Chip.divNow_of_ramping {c : Chip} {n : Nat} (h : c.ramping n = true) : 0 < c.divNow n := by
  unfold Chip.ramping at h
  split at h
  · simp only [Bool.and_eq_true, decide_eq_true_eq] at h
    exact Nat.zero_lt_of_lt h.1.2
  · cases h

theorem Chip.divNow_rampStep (c : Chip) {n : Nat} (h1 : 1 ≤ n) (h25 : n ≤ 25) :
    (c.rampList.foldl Chip.rampOne c).divNow n =
      if c.ramping n then ladderDown (c.divNow n) (c.targetDiv n) else c.divNow n := by
  have hmem (k : Nat) : k ∈ c.rampList ↔ k < 26 ∧ 0 < k ∧ c.ramping k = true := by simp [Chip.rampList]
  have hnd : c.rampList.Nodup := List.nodup_range.filter _
  rw [c.divNow_rampAll hnd (fun k hk => ?_) h1]
  · simp only [hmem, show n < 26 by omega, true_and, show 0 < n from h1]
  · obtain ⟨-, hk0, hk⟩ := (hmem k).mp hk
    exact ⟨hk0, Chip.divNow_of_ramping hk⟩

/-- The next place down lies on the ladder, below where it starts, at or above the target, and no place lies between. -/
theorem ladderDown_next {now target : Nat} (ht : target ∈ ladder) (hn : now ∈ ladder) (h : target < now) :
    target ≤ ladderDown now target ∧ ladderDown now target < now ∧ ladderDown now target ∈ ladder ∧
      ∀ x ∈ ladder, target ≤ x → x < now → x ≤ ladderDown now target := by
  have hall : ∀ t ∈ ladder, ∀ n ∈ ladder, t < n → t ≤ ladderDown n t ∧ ladderDown n t < n ∧ ladderDown n t ∈ ladder ∧
      ∀ x ∈ ladder, t ≤ x → x < n → x ≤ ladderDown n t := by decide
  exact hall target ht now hn h

/-! ### Lock (R181, R184, R187) and PLL_V's fraction (R191) -/

@[simp] theorem Chip.wr_pll (c : Chip) (f : Field) (v p : Nat) : (c.wr f v).pll p = c.pll p := (rfl)

@[simp] theorem Chip.setDiv_pll (c : Chip) (n k p : Nat) : (c.setDiv n k).pll p = c.pll p := (rfl)

/-- The PLL has come into lock; LOCK_HOLD begins. -/
abbrev Pll.locked (x : Pll) : Pll := { x with lock := true, held := false }

/-- Lock has persisted for LOCK_HOLD. -/
abbrev Pll.holds (x : Pll) : Pll := { x with held := true }

theorem Chip.pllLock_taken {c : Chip} {p : Nat} (us : Nat) (hp : p < 4) (hon : (c.pll p).on = true)
    (hlock : (c.pll p).lock = false) (hhold : (c.pll p).holdover = false) :
    c.pllLock p us = (c.onPll p Pll.locked).wr (pllF p CKG_PLLS_STAT_LOCK_US) (min us 0xFFFF) :=
  if_pos ⟨hp, hon, hlock, hhold⟩

theorem Chip.lockHold_pllM {c : Chip} (hon : (c.pll 1).on = true) (hlock : (c.pll 1).lock = true)
    (hheld : (c.pll 1).held = false) :
    c.lockHold 1 = if c.dramQuiet then ((c.onPll 1 Pll.holds).setDiv 6 4).setDiv 7 2 else c.onPll 1 Pll.holds :=
  if_pos ⟨by decide, hon, hlock, hheld⟩

/-- A field of a register written after a change of PLLs. -/
theorem Chip.onPll_wr_frame (c : Chip) (p : Nat) (f : Pll → Pll) (k : Field) (v : Nat) :
    (c.onPll p f).wr k v =
      { c with regs := ((c.onPll p f).wr k v).regs, ck := { c.ck with plls := ((c.onPll p f).wr k v).ck.plls } } := rfl

theorem Chip.onPll_sameBut (c : Chip) (p : Nat) (f : Pll → Pll) (as : List Nat) : c.sameBut (c.onPll p f) as :=
  fun _ _ => rfl

/-- The fraction is in effect at once while PLL_V runs (R191). -/
theorem Chip.pllvFrac_spec (c : Chip) (v : Word) :
    c.pllvFrac v = { c with regs := (c.pllvFrac v).regs, ck := { c.ck with plls := (c.pllvFrac v).ck.plls } } ∧
      c.sameBut (c.pllvFrac v) [0x34] ∧ (c.pllvFrac v).rd CKG_PLLV_FRAC_FRAC = v.toNat % 2 ^ 24 ∧
      (c.pllvFrac v).pll 2 = (if (c.pll 2).on then { c.pll 2 with frac := v.toNat % 2 ^ 24 } else c.pll 2) ∧
      ∀ q, q ≠ 2 → (c.pllvFrac v).pll q = c.pll q := by
  have hval : CKG_PLLV_FRAC_FRAC.get v = v.toNat % 2 ^ 24 := congrArg (· % 2 ^ 24) (Nat.div_one v.toNat)
  have hsame : c.sameBut (c.wr CKG_PLLV_FRAC_FRAC (v.toNat % 2 ^ 24)) [0x34] :=
    (Chip.sameBut.refl c _).wr _ List.mem_cons_self
  have hrd : (c.wr CKG_PLLV_FRAC_FRAC (v.toNat % 2 ^ 24)).rd CKG_PLLV_FRAC_FRAC = v.toNat % 2 ^ 24 :=
    (c.rd_wr_same _ _ (by decide)).trans (Nat.mod_mod _ _)
  unfold Chip.pllvFrac
  rw [hval]
  split
  next hon =>
    exact ⟨rfl, hsame.trans (Chip.onPll_sameBut _ _ _ []), hrd, Chip.pll_onPll_of_on _ hon,
      fun q hq => Chip.pll_onPll_ne _ _ _ _ hq⟩
  next => exact ⟨rfl, hsame, hrd, rfl, fun _ _ => rfl⟩

section

variable {s : State} (hs : s.runs)

include hs

theorem exec_pllLock (p us : Nat) : exec (.pllLock p us) s = .next { s with chip := s.chip.pllLock p us } :=
  State.effect_of_runs hs fun c => c.pllLock p us

theorem exec_pllLockHoldExpire (p : Nat) :
    exec (.pllLockHoldExpire p) s = .next { s with chip := s.chip.lockHold p } :=
  State.effect_of_runs hs fun c => c.lockHold p

theorem exec_dividerRampStep :
    exec .dividerRampStep s = .next { s with chip := s.chip.rampList.foldl Chip.rampOne s.chip } :=
  State.effect_of_runs hs fun c => c.rampList.foldl Chip.rampOne c

theorem exec_pllvFracWrite (v : Word) (hr : s.chip.reach 0x34) :
    exec (.pllvFracWrite v) s = .next { s with chip := s.chip.pllvFrac v } :=
  State.effect_guardReg hs hr fun c => c.pllvFrac v

end

/-- Settles O4: each command changes the one PLL it names, or the dividers; the ladder is a finite list. -/
theorem pllLockAndLadder : Obligations.PllLockAndLadder := by
  refine ⟨fun s p us hs hp hon hlock hhold => ?_, fun s hs hon hlock hheld => ?_, fun s hs => ?_,
    fun now target h _ ht hn => ladderDown_next ht hn h, fun s v hs hr => ?_⟩
  · refine ⟨_, exec_pllLock hs p us, ?_⟩
    rw [Chip.pllLock_taken us hp hon hlock hhold]
    refine ⟨s.chip.onPll_wr_frame .., ?_, fun q hq => ?_, (s.chip.onPll_sameBut p _ _).wr _ List.mem_cons_self, ?_⟩
    · rw [Chip.wr_pll, Chip.pll_onPll_of_on _ hon]
    · rw [Chip.wr_pll, Chip.pll_onPll_ne _ _ _ _ hq]
    · exact (Chip.rd_wr_same _ _ _ rfl).trans (Nat.mod_eq_of_lt (Nat.lt_succ_of_le (Nat.min_le_right _ _)))
  · refine ⟨_, exec_pllLockHoldExpire hs 1, ?_⟩
    rw [Chip.lockHold_pllM hon hlock hheld]
    split
    · simp only [Chip.setDiv_pll]
      exact ⟨rfl, Chip.pll_onPll_of_on _ hon, fun q hq => Chip.pll_onPll_ne _ _ _ _ hq⟩
    · exact ⟨rfl, Chip.pll_onPll_of_on _ hon, fun q hq => Chip.pll_onPll_ne _ _ _ _ hq⟩
  · exact ⟨_, exec_dividerRampStep hs, (Chip.onlyDivs.refl s.chip).foldl _ _ _,
      fun n h1 h25 => s.chip.divNow_rampStep h1 h25⟩
  · exact ⟨_, exec_pllvFracWrite hs v hr, s.chip.pllvFrac_spec v⟩

end Sys2Proof.Machine
end

section
/-! SUPPORT. The IRC trim (R177-R180) and the clock monitor's commands that begin no sequence (R174, R194-R196, R202). -/

namespace Sys2Proof.Machine

open Sys2Proof

/-! ### The IRC trim -/

theorem toSigned_ofSigned_byte {x : Int} (hlo : -128 ≤ x) (hhi : x ≤ 127) : toSigned 8 (ofSigned 8 x) = x := by
  simp only [toSigned, ofSigned]
  omega

theorem toSigned_byte_bounds (n : Nat) : -128 ≤ toSigned 8 n ∧ toSigned 8 n ≤ 127 := by
  simp only [toSigned]
  omega

section

variable (c : Chip)

/-- A saturation of the clock generator is recorded in CKG_ARITH and counted there (R90, R92). -/
theorem Chip.saturate_ckg (stage : Nat) :
    c.onlyRegs (c.saturate 0 stage 1) [CKG_ARITH.addr] ∧
      (c.saturate 0 stage 1).rd CKG_ARITH_SAT_COUNT = satAdd 16 (c.rd CKG_ARITH_SAT_COUNT) 1 := by
  have hlt : satAdd 16 (c.rd CKG_ARITH_SAT_COUNT) 1 < 2 ^ CKG_ARITH_SAT_COUNT.width := satAdd_lt 16 _ 1
  unfold Chip.saturate
  rw [if_neg one_ne_zero]
  extract_lets n c1
  have h1 : c.onlyRegs c1 [CKG_ARITH.addr] := by
    simp only [c1]
    split
    · exact .refl c _
    · exact (Chip.onlyRegs.refl c _).wr _ (by decide)
  clear_value c1
  refine ⟨((h1.wr _ (by decide)).wr _ (by decide)).wr _ (by decide), ?_⟩
  exact (Chip.rd_wr_clear _ _ _ _ (by decide)).trans <| (Chip.rd_wr_clear _ _ _ _ (by decide)).trans <|
    (Chip.rd_wr_same _ _ _ (by decide)).trans (Nat.mod_eq_of_lt hlt)

/-- FTRIM as a signed number. -/
abbrev Chip.ftrim : Int := toSigned 8 (c.rd CKG_IRC_TRIM_FTRIM)

/-- Where one step leads, no further than the limit of FTRIM. -/
@[simp] def Chip.ftrimNext (up : Bool) : Int := if up then min 127 (c.ftrim + 1) else max (-128) (c.ftrim - 1)

/-- The limit of FTRIM in a direction. -/
@[simp] def ftrimLimit (up : Bool) : Int := if up then 127 else -128

/-- Where the step leads without a limit. -/
@[simp] def Chip.ftrimFree (up : Bool) : Int := if up then c.ftrim + 1 else c.ftrim - 1

theorem Chip.ftrimStep_eq (up : Bool) :
    c.ftrimStep up =
      if c.ftrimFree up < -128 ∨ 127 < c.ftrimFree up then c.saturate 0 1 1
      else c.wr CKG_IRC_TRIM_FTRIM (ofSigned 8 (c.ftrimFree up)) := rfl

theorem Chip.ftrim_bounds : -128 ≤ c.ftrim ∧ c.ftrim ≤ 127 := toSigned_byte_bounds _

/-- A step stops at the limits of FTRIM, and one that would pass them is a saturation (R179). -/
theorem Chip.ftrimStep_spec (up : Bool) :
    c.onlyRegs (c.ftrimStep up) [CKG_IRC_TRIM.addr, CKG_ARITH.addr] ∧ (c.ftrimStep up).ftrim = c.ftrimNext up ∧
      (c.ftrimStep up).rd CKG_ARITH_SAT_COUNT =
        if c.ftrim = ftrimLimit up then satAdd 16 (c.rd CKG_ARITH_SAT_COUNT) 1 else c.rd CKG_ARITH_SAT_COUNT := by
  have hf := c.ftrim_bounds
  have hover : (c.ftrimFree up < -128 ∨ 127 < c.ftrimFree up) ↔ c.ftrim = ftrimLimit up := by
    cases up <;> simp <;> omega
  rw [c.ftrimStep_eq, if_congr hover rfl rfl]
  by_cases h : c.ftrim = ftrimLimit up
  · obtain ⟨honly, hcount⟩ := c.saturate_ckg 1
    have hsame : (c.saturate 0 1 1).ftrim = c.ftrim := congrArg (toSigned 8) (honly.2.rd (by decide))
    have hstay : c.ftrim = c.ftrimNext up := by cases up <;> simp at h ⊢ <;> omega
    rw [if_pos h, if_pos h, hsame, hcount]
    exact ⟨⟨honly.1, honly.2.mono (by simp)⟩, hstay, rfl⟩
  · have hnext : c.ftrimFree up = c.ftrimNext up := by cases up <;> simp at h ⊢ <;> omega
    have hlt : ofSigned 8 (c.ftrimFree up) < 2 ^ CKG_IRC_TRIM_FTRIM.width := by
      show (c.ftrimFree up % 2 ^ 8).toNat < 2 ^ 8
      omega
    have hrd : (c.wr CKG_IRC_TRIM_FTRIM (ofSigned 8 (c.ftrimFree up))).ftrim = c.ftrimFree up :=
      (congrArg (toSigned 8) (c.rd_wr_lt _ _ (Field.fits_of_inside (by decide)) hlt)).trans
        (toSigned_ofSigned_byte (by omega) (by omega))
    rw [if_neg h, if_neg h, hrd]
    exact ⟨(Chip.onlyRegs.refl c _).wr _ (by decide), hnext, Chip.rd_wr_clear _ _ _ _ (by decide)⟩

/-- The trim follows XIN (R177, R180). -/
theorem Chip.trimXin_follows {c : Chip} (count : Nat) (hsrc : c.rd CKG_IRC_TRIM_SRC = 1)
    (hfreeze : c.rd CKG_IRC_TRIM_FREEZE = 0) (hxin : c.ck.xinPresent = true) :
    c.trimXin count =
      if 48006 < count then c.ftrimStep false else if count < 47994 then c.ftrimStep true else c :=
  if_neg (by simp [hsrc, hxin, Chip.flag, hfreeze])

/-- What a count comes to, by the side of its window that it lies on. -/
theorem Chip.trimXin_spec {c : Chip} (count : Nat) (hsrc : c.rd CKG_IRC_TRIM_SRC = 1)
    (hfreeze : c.rd CKG_IRC_TRIM_FREEZE = 0) (hxin : c.ck.xinPresent = true) :
    c.onlyRegs (c.trimXin count) [CKG_IRC_TRIM.addr, CKG_ARITH.addr] ∧
      (c.trimXin count).ftrim =
        (if 48006 < count then max (-128) (c.ftrim - 1) else if count < 47994 then min 127 (c.ftrim + 1) else c.ftrim) ∧
      (c.trimXin count).rd CKG_ARITH_SAT_COUNT =
        (if 48006 < count ∧ c.ftrim = -128 ∨ count < 47994 ∧ c.ftrim = 127 then
          satAdd 16 (c.rd CKG_ARITH_SAT_COUNT) 1 else c.rd CKG_ARITH_SAT_COUNT) := by
  rw [Chip.trimXin_follows count hsrc hfreeze hxin]
  by_cases hhigh : 48006 < count
  · simpa [hhigh, show ¬count < 47994 by omega] using c.ftrimStep_spec false
  · by_cases hlow : count < 47994
    · simpa [hhigh, hlow] using c.ftrimStep_spec true
    · simpa [hhigh, hlow] using Chip.onlyRegs.refl c _

theorem Chip.trimXin_stays {c : Chip} (count : Nat)
    (h : c.rd CKG_IRC_TRIM_SRC ≠ 1 ∨ c.rd CKG_IRC_TRIM_FREEZE ≠ 0 ∨ c.ck.xinPresent = false) : c.trimXin count = c :=
  if_pos (by simpa [Chip.flag] using h)

/-! ### The clock monitor -/

theorem Chip.monClear_onlyRegs : c.onlyRegs c.monClear [0x408, 0x40C] :=
  ((((Chip.onlyRegs.refl c _).wr _ (by decide)).wr _ (by decide)).wr _ (by decide)).wr _ (by decide)

theorem Chip.monClear_fields :
    c.monClear.rd CKG_MON_STAT_CAUSE = 0 ∧ c.monClear.rd CKG_MON_STAT_DRAM_LOST = 0 ∧
      c.monClear.rd CKG_MON_STAT_EVT = 0 ∧ c.monClear.rd CKG_MON_STAT_XIN_OK = c.rd CKG_MON_STAT_XIN_OK ∧
      c.monClear.rd CKG_MON_GLITCH_GLITCH = 0 := by
  simp (disch := decide) only [Chip.monClear, Chip.rd_wr_same, Chip.rd_wr_clear, Nat.zero_mod, and_self]

theorem Chip.killLow_of_ircDead {c : Chip} (h : c.ck.ircDead = true) : c.killLow = true := by
  simp [Chip.killLow, Chip.darkReq, h]

end

/-- A short XIN phase is counted in the register and for the gate (R196). -/
def Chip.glitchNoted (c : Chip) : Chip :=
  (c.bump CKG_MON_GLITCH_GLITCH 1).onCk fun x => { x with glitches := x.glitches + 1 }

theorem Chip.glitchNoted_sameBut (c : Chip) : c.sameBut c.glitchNoted [0x40C] :=
  (Chip.sameBut.refl c _).wr _ List.mem_cons_self

theorem Chip.rd_glitchNoted (c : Chip) :
    c.glitchNoted.rd CKG_MON_GLITCH_GLITCH = satAdd 16 (c.rd CKG_MON_GLITCH_GLITCH) 1 :=
  c.rd_wr_lt _ _ (Field.fits_of_inside (by decide)) (satAdd_lt 16 _ 1)

theorem Chip.xinGlitch_watched {c : Chip} (since : Nat) (hw : c.xinWatched = true) :
    c.xinGlitch since = if c.ck.glitches + 1 = c.glitchLim then c.glitchNoted.xinFault 2 since else c.glitchNoted :=
  if_neg (by simp [hw])

/-- No PLL is judged that does not run or whose lock has not held. -/
theorem Chip.gatePlls_idle {c : Chip} (rates : List Nat) (since : Nat)
    (h : ∀ p < 4, ((c.pll p).on && (c.pll p).held) = false) : c.gatePlls rates since = c := by
  have hnone : ([0, 1, 2, 3].find? fun p =>
      (c.pll p).on && (c.pll p).held && c.pllChecked p && c.rateBad p (rates.getD p 0)) = none := by
    refine List.find?_eq_none.mpr fun p hp => ?_
    have hp4 : p < 4 := by simp only [List.mem_cons, List.not_mem_nil, or_false] at hp; omega
    simp [h p hp4]
  unfold Chip.gatePlls
  rw [hnone]

/-- A gate that judges no PLL leaves what XIN's half of it leaves, and the next gate starts. -/
theorem Chip.monGate_idle {c d : Chip} {edges : Nat} (rates : List Nat) {since : Nat} (hd : c.gateXin edges since = d)
    (h : ∀ p < 4, ((d.pll p).on && (d.pll p).held) = false) :
    c.monGate edges rates since = d.onCk fun x => { x with glitches := 0, monCtl := d.get 0x400 } := by
  unfold Chip.monGate
  rw [hd, Chip.gatePlls_idle rates since h]

/-- The time in window, one gate longer. -/
def Chip.windowLonger (c : Chip) : Chip := c.onCk fun x => { x with inWindowUs := min 1000 (x.inWindowUs + c.gateUs) }

/-- A gate in window with XIN already present. -/
theorem Chip.gateXin_present {c : Chip} {edges : Nat} (since : Nat) (hw : c.xinWatched = true)
    (hin : c.inWindow edges = true) (hp : c.ck.xinPresent = true) : c.gateXin edges since = c.windowLonger := by
  unfold Chip.gateXin
  rw [if_neg (by simp [hw]), if_pos hin]
  exact if_neg (by simp [hp])

theorem Chip.xinGlitch_unwatched {c : Chip} (since : Nat) (hw : c.xinWatched = false) : c.xinGlitch since = c :=
  if_pos (by simp [hw])

section

variable {s : State} (hs : s.runs)

include hs

theorem exec_ircTrimXinUpdate (count : Nat) :
    exec (.ircTrimXinUpdate count) s = .next { s with chip := s.chip.trimXin count } :=
  State.effect_of_runs hs fun c => c.trimXin count

theorem exec_xinDelayExpire (he : s.chip.mode.edge = some .e1) (hstep : s.chip.pw.step = none) :
    exec .xinDelayExpire s = .next { s with chip := { s.chip with ck := { s.chip.ck with
      xinArmed := true, inWindowUs := 0, glitches := 0, monCtl := s.chip.get 0x400 } } } := by
  refine (State.effect_of_runs hs fun c => if c.mode.edge = some .e1 ∧ c.pw.step = none then _ else c).trans ?_
  rw [if_pos ⟨he, hstep⟩]
  rfl

theorem exec_monEvtClear (hr : s.chip.reach 0x408) : exec .monEvtClear s = .next { s with chip := s.chip.monClear } :=
  State.effect_guardReg hs hr Chip.monClear

theorem exec_ircActivityFault :
    exec .ircActivityFault s = .next { s with chip := { s.chip with ck := { s.chip.ck with ircDead := true } } } :=
  State.effect_of_runs hs fun c => c.onCk fun x => { x with ircDead := true }

theorem exec_xinGlitch (since : Nat) :
    exec (.xinGlitch since) s = .next { s with chip := s.chip.xinGlitch since } :=
  State.effect_of_runs hs fun c => c.xinGlitch since

theorem exec_monGateEnd (edges : Nat) (rates : List Nat) (since : Nat) :
    exec (.monGateEnd edges rates since) s = .next { s with chip := s.chip.monGate edges rates since } :=
  State.effect_of_runs hs fun c => c.monGate edges rates since

theorem exec_xinStop :
    exec .xinStop s = .next { s with chip := if s.chip.xinWatched then s.chip.xinFault 1 24 else s.chip } :=
  State.effect_of_runs hs fun c => if c.xinWatched then c.xinFault 1 24 else c

end

/-- Settles O2: by the branches of each command that begin no sequence of Table 4.6. -/
theorem clockMonitorAndTrim : Obligations.ClockMonitorAndTrim := by
  refine ⟨⟨fun s count hs hsrc hfreeze hxin => ?_, fun s count hs h => ?_⟩, fun s hs he hstep => ?_, fun s hs hr => ?_,
    fun s hs => ?_, fun s since hs hw hlim => ?_, fun s edges since rates hs hw hin hp hoff => ?_, fun s hs hw => ?_⟩
  · exact ⟨_, exec_ircTrimXinUpdate hs count, Chip.trimXin_spec count hsrc hfreeze hxin⟩
  · rw [exec_ircTrimXinUpdate hs, Chip.trimXin_stays count h]
  · exact exec_xinDelayExpire hs he hstep
  · exact ⟨_, exec_monEvtClear hs hr, s.chip.monClear_onlyRegs, s.chip.monClear_fields⟩
  · exact ⟨_, exec_ircActivityFault hs, rfl, Chip.killLow_of_ircDead rfl⟩
  · refine ⟨_, exec_xinGlitch hs since, ?_⟩
    rw [Chip.xinGlitch_watched since hw, if_neg hlim]
    exact ⟨rfl, s.chip.glitchNoted_sameBut, s.chip.rd_glitchNoted⟩
  · rw [exec_monGateEnd hs, Chip.monGate_idle rates (Chip.gateXin_present since hw hin hp) fun p h4 => ?_]
    · rfl
    · rw [show s.chip.windowLonger.pll p = s.chip.pll p from rfl, hoff p h4, Bool.false_and]
  · refine ⟨?_, fun since => ?_⟩
    · rw [exec_xinStop hs, hw]
      rfl
    · rw [exec_xinGlitch hs, Chip.xinGlitch_unwatched since hw]

end Sys2Proof.Machine
end

section
/-! SUPPORT. What the reactions to a loss of reference that follow the clocks leave of the clock generator: the event log,
the sleep of DRAM and the forced edge change neither its state nor its monitor's and its PLLs' registers (Table 4.6). -/

namespace Sys2Proof.Machine

open Sys2Proof

/-! ### The view -/

/-- A register of the PLLs (below CKG_PLL_CTL) or of the monitor. -/
def clockAddr (a : Nat) : Bool := decide (a < 0x54) || (decide (0x400 ≤ a) && decide (a < 0x500))

/-- The clock generator's state, and its registers that `clockAddr` names. -/
structure ClockSide where
  clocks : Clocks
  regs : Nat → Word

def Chip.clockSide (c : Chip) : ClockSide := ⟨c.ck, fun a => if clockAddr a then c.get a else 0⟩

section

variable {c d : Chip}

theorem Chip.ck_of_clockSide (h : d.clockSide = c.clockSide) : d.ck = c.ck := congrArg ClockSide.clocks h

theorem Chip.get_of_clockSide (h : d.clockSide = c.clockSide) {a : Nat} (ha : clockAddr a = true) : d.get a = c.get a := by
  simpa [Chip.clockSide, ha] using congrFun (congrArg ClockSide.regs h) a

theorem Chip.rd_of_clockSide (h : d.clockSide = c.clockSide) {f : Field} (hf : clockAddr f.addr = true) :
    d.rd f = c.rd f :=
  congrArg f.get (Chip.get_of_clockSide h hf)

end

/-! ### Registers elsewhere -/

theorem clockAddr_of_le {a : Nat} (h : 0x500 ≤ a) : clockAddr a = false := by
  simp only [clockAddr, Bool.or_eq_false_iff, Bool.and_eq_false_iff, decide_eq_false_iff_not]
  omega

@[simp] theorem clockAddr_mcF (ch : Nat) (f : Field) (h : decide (0x500 ≤ f.addr) = true) :
    clockAddr (mcF ch f).addr = false :=
  clockAddr_of_le (Nat.le_add_right_of_le (of_decide_eq_true h))

theorem clockAddr_domF {n : Nat} (h : n < 26) (f : Field) (hf : f.addr = 0x100) : clockAddr (domF n f).addr = false := by
  simp only [clockAddr, domF, Field.off, hf, Bool.or_eq_false_iff, Bool.and_eq_false_iff, decide_eq_false_iff_not]
  omega

section

variable (c : Chip)

@[simp] theorem Chip.setReg_clockSide (a : Nat) (w : Word) (h : clockAddr a = false) :
    (c.setReg a w).clockSide = c.clockSide := by
  refine congrArg (ClockSide.mk c.ck) (funext fun b => ?_)
  split
  next hb => exact c.get_setReg_ne a b w fun hab => by rw [hab, h] at hb; cases hb
  next => rfl

@[simp] theorem Chip.wr_clockSide (f : Field) (v : Nat) (h : clockAddr f.addr = false) :
    (c.wr f v).clockSide = c.clockSide := c.setReg_clockSide _ _ h

@[simp] theorem Chip.bump_clockSide (f : Field) (k : Nat) (h : clockAddr f.addr = false) :
    (c.bump f k).clockSide = c.clockSide := c.setReg_clockSide _ _ h

@[simp] theorem Chip.setBit_clockSide (f : Field) (n : Nat) (b : Bool) (h : clockAddr f.addr = false) :
    (c.setBit f n b).clockSide = c.clockSide := c.setReg_clockSide _ _ h

@[simp] theorem Chip.clockSide_ite (p : Prop) [Decidable p] (a b : Chip) :
    (if p then a else b).clockSide = if p then a.clockSide else b.clockSide := apply_ite Chip.clockSide p a b

theorem Chip.foldl_clockSide_mem {α : Type} (f : Chip → α → Chip) (l : List α)
    (hf : ∀ (c : Chip), ∀ x ∈ l, (f c x).clockSide = c.clockSide) : (l.foldl f c).clockSide = c.clockSide := by
  induction l generalizing c with
  | nil => rfl
  | cons x t ih =>
    exact (ih (f c x) fun c y hy => hf c y (List.mem_cons_of_mem _ hy)).trans (hf c x List.mem_cons_self)

@[simp] theorem Chip.foldl_clockSide {α : Type} (f : Chip → α → Chip) (l : List α)
    (hf : ∀ (c : Chip) (x : α), (f c x).clockSide = c.clockSide) : (l.foldl f c).clockSide = c.clockSide :=
  c.foldl_clockSide_mem f l fun c x _ => hf c x

/-! ### The parts of the state beside the clock generator -/

@[simp] theorem Chip.evt_clockSide (n : Nat) : (c.evt n).clockSide = c.clockSide := (rfl)

@[simp] theorem Chip.onLk_clockSide (f : Lockkeeper → Lockkeeper) : (c.onLk f).clockSide = c.clockSide := (rfl)

@[simp] theorem Chip.onPw_clockSide (f : Power → Power) : (c.onPw f).clockSide = c.clockSide := (rfl)

@[simp] theorem Chip.onMode_clockSide (f : ModeMachine → ModeMachine) : (c.onMode f).clockSide = c.clockSide := (rfl)

@[simp] theorem Chip.onMc_clockSide (ch : Nat) (f : Channel → Channel) : (c.onMc ch f).clockSide = c.clockSide := by
  unfold Chip.onMc
  split <;> rfl

@[simp] theorem Chip.deliverAll_clockSide (ds : List Delivery) : (c.deliverAll ds).clockSide = c.clockSide := (rfl)

/-! ### The event log and the sources -/

@[simp] theorem Chip.putSlot_clockSide (r : LogRec) (lostBefore : Bool) :
    (c.putSlot r lostBefore).clockSide = c.clockSide :=
  ((c.onLk _).wr_clockSide _ _ (by decide)).trans (c.onLk_clockSide _)

@[simp] theorem Chip.storeRec_clockSide (r : LogRec) : (c.storeRec r).clockSide = c.clockSide := by
  simp +decide [Chip.storeRec]

@[simp] theorem Chip.lkRecord_clockSide (type flags unit data : Nat) :
    (c.lkRecord type flags unit data).clockSide = c.clockSide := by
  simp +decide [Chip.lkRecord, Chip.takeSeq]

@[simp] theorem Chip.srcAssert_clockSide (n data : Nat) : (c.srcAssert n data).clockSide = c.clockSide := by
  simp +decide [Chip.srcAssert, Chip.srcActivate]

/-! ### DRAM goes to sleep -/

@[simp] theorem Chip.dramCmd_clockSide (ch : Nat) (x : DramCmd) : (c.dramCmd ch x).clockSide = c.clockSide := by
  simp [Chip.dramCmd]

@[simp] theorem Chip.queueNr_clockSide (ch rank bank row : Nat) : (c.queueNr ch rank bank row).clockSide = c.clockSide := by
  simp +decide [Chip.queueNr]

@[simp] theorem Chip.drainNr_clockSide (ch : Nat) : (c.drainNr ch).clockSide = c.clockSide := by
  simp +decide [Chip.drainNr, Chip.performNr, Chip.onBank]

@[simp] theorem Chip.issueAct_clockSide (ch rank bank row : Nat) (nr : Bool) :
    (c.issueAct ch rank bank row nr).clockSide = c.clockSide := by
  simp [Chip.issueAct, Chip.weirAct, Chip.onBank]

@[simp] theorem Chip.releaseHeld_clockSide (ch : Nat) : (c.releaseHeld ch).clockSide = c.clockSide := by
  unfold Chip.releaseHeld
  split <;> simp

@[simp] theorem Chip.issuePre_clockSide (ch rank bank : Nat) : (c.issuePre ch rank bank).clockSide = c.clockSide := by
  unfold Chip.issuePre
  split <;> simp [Chip.onBank]

@[simp] theorem Chip.writeCheck_clockSide (ch : Nat) (e : CheckLine) : (c.writeCheck ch e).clockSide = c.clockSide := by
  simp [Chip.writeCheck, Chip.busLine, Chip.openRow, Chip.issueLine, Chip.floorCount, Chip.onBank]

@[simp] theorem Chip.enterSr_clockSide (ch extra : Nat) : (c.enterSr ch extra).clockSide = c.clockSide := by
  simp [Chip.enterSr, Chip.flushCache, Chip.preAll, Chip.allRanks]

/-- E12 abandons the queued writes (R350). -/
@[simp] theorem Chip.sleepChannel_clockSide (state ch : Nat) :
    (c.sleepChannel false state ch).clockSide = c.clockSide := by
  simp +decide [Chip.sleepChannel, Chip.abandonReads]

/-- With PLL_M sound, DRAM goes to sleep and nothing of it is lost. -/
theorem Chip.reflostDram_asleep {faulty : Option Nat} (h : faulty ≠ some 1) :
    c.reflostDram faulty = (c.reflostSleep 0).reflostSleep 1 := if_neg h

@[simp] theorem Chip.reflostSleep_clockSide (ch : Nat) : (c.reflostSleep ch).clockSide = c.clockSide := by
  simp [Chip.reflostSleep]

@[simp] theorem Chip.reflostSleep_stores (ch : Nat) : (c.reflostSleep ch).stores = c.stores := by
  simp [Chip.reflostSleep, Chip.sleepChannel]

@[simp] theorem Chip.reflostSleep_bearing (ch : Nat) : (c.reflostSleep ch).bearing = c.bearing := by
  simp [Chip.reflostSleep]

/-! ### The forced edge to STANDBY -/

@[simp] theorem Chip.edgeClocks_clockSide (m : Mode) : (c.edgeClocks m).clockSide = c.clockSide := by
  unfold Chip.edgeClocks
  rw [Chip.foldl_clockSide_mem, Chip.wr_clockSide _ _ _ (by decide)]
  intro d n hn
  obtain ⟨k, hk, rfl⟩ := List.mem_map.mp hn
  have hk : k < 25 := List.mem_range.mp hk
  split
  · rfl
  · exact d.wr_clockSide _ _ (clockAddr_domF (by omega) _ rfl)

@[simp] theorem Chip.edgePdreq_clockSide (m : Mode) : (c.edgePdreq m).clockSide = c.clockSide := by
  simp +decide [Chip.edgePdreq, Chip.setPdreq]

/-- No PLL runs in STANDBY: an edge there starts none. -/
theorem Chip.edgePlls_standby {c : Chip} (h : c.edgeMode = .standby) : c.edgePlls = c := by
  unfold Chip.edgePlls
  rw [h]
  split <;> rfl

theorem Chip.edgeMode_heading {c d : Chip} {e : Edge} {m : Mode} (h : d.bearing = c.bearing.heading e m) (he : e ≠ .e3) :
    d.edgeMode = m := by
  have hmode := congrArg Course.mode h
  have hedge : d.mode.edge = some e := congrArg ModeMachine.edge hmode
  have htarget : d.mode.target = m := congrArg ModeMachine.target hmode
  unfold Chip.edgeMode
  rw [hedge]
  split
  next heq => exact absurd (Option.some.inj heq) he
  next => exact htarget
  next heq => cases heq

/-- The forced edge of a loss of reference, at its start. -/
theorem Chip.beginEdge_standby_clockSide : (c.beginEdge .e12 .standby).clockSide = c.clockSide := by
  obtain ⟨d, hd, hside⟩ : ∃ d : Chip, c.beginEdge .e12 .standby = d.edgePlls ∧ d.clockSide = c.clockSide :=
    ⟨_, rfl, by simp [Chip.takeSeqCfg, Chip.edgeDram]⟩
  have hb : d.bearing = c.bearing.heading .e12 .standby := by
    rw [← c.beginEdge_bearing, hd]
    exact d.edgePlls_course.symm
  rw [hd, Chip.edgePlls_standby (Chip.edgeMode_heading hb (by decide)), hside]

/-- E12 has put DRAM to sleep already (Table 4.6): its start stores nothing. -/
theorem Chip.beginEdge_e12_stores (m : Mode) : (c.beginEdge .e12 m).stores = c.stores := by
  simp [Chip.beginEdge, Chip.edgeDram]

end

end Sys2Proof.Machine
end

section
/-! SUPPORT. A loss of reference (R188, R194-R200, Table 4.6): the clocks of the sequence, its start, and the commands that
begin it. -/

namespace Sys2Proof.Machine

open Sys2Proof

/-! ### PLLs stopped and held over -/

/-- Nothing differs but PLLs, dividers and the source of SYS. -/
def Chip.onlyPlls (c d : Chip) : Prop :=
  d = { c with ck := { c.ck with plls := d.ck.plls, divs := d.ck.divs, sysOnIrc := d.ck.sysOnIrc } }

/-- A PLL powered down. -/
abbrev Pll.stopped (x : Pll) : Pll := { x with on := false, lock := false, holdover := false, held := false }

/-- A PLL whose loop is frozen (Table 4.6). -/
abbrev Pll.frozen (x : Pll) : Pll := { x with holdover := true, lock := false }

theorem Chip.onlyPlls.trans {c d e : Chip} (h : c.onlyPlls d) (k : d.onlyPlls e) : c.onlyPlls e := by
  unfold Chip.onlyPlls
  rw [k, h]

theorem Chip.onlyPlls.frame {c d : Chip} (h : c.onlyPlls d) : d = { c with ck := d.ck } := by rw [h]

section

variable (c : Chip) (p q : Nat)

/-- What a PLL that stops leaves: the dividers of its domains at 0, and SYS on IRC with PLL_S. -/
theorem Chip.stopPll_eq : ∃ d, (c.onPll p Pll.stopped).onlyDivs d ∧
    c.stopPll p = if p = 0 then d.onCk fun k => { k with sysOnIrc := true } else d :=
  ⟨_, (Chip.onlyDivs.refl _).foldl (fun _ n => n) (fun _ _ => 0) (pllChildren p), rfl⟩

theorem Chip.stopPll_onlyPlls : c.onlyPlls (c.stopPll p) := by
  obtain ⟨d, hd, heq⟩ := c.stopPll_eq p
  rw [heq]
  unfold Chip.onlyPlls
  split <;> (rw [hd]; rfl)

theorem Chip.pll_stopPll : (c.stopPll p).pll q = (c.onPll p Pll.stopped).pll q := by
  obtain ⟨d, hd, heq⟩ := c.stopPll_eq p
  rw [heq, ← hd.pll]
  split <;> rfl

theorem Chip.on_stopPll : ((c.stopPll p).pll q).on = if q = p then false else (c.pll q).on := by
  rw [Chip.pll_stopPll, Chip.pll_onPll]
  by_cases hq : q = p
  · rw [if_pos hq]
    split
    · rfl
    next h => rw [Chip.pll_reset (Nat.le_of_not_lt fun hl => h ⟨hq, hl⟩)]; rfl
  · rw [if_neg hq, if_neg fun h => hq h.1]

theorem Chip.sysOnIrc_stopPll : (c.stopPll p).ck.sysOnIrc = if p = 0 then true else c.ck.sysOnIrc := by
  obtain ⟨d, hd, heq⟩ := c.stopPll_eq p
  rw [heq]
  split
  · rfl
  · rw [hd]
    rfl

theorem Chip.holdover_onlyPlls (faulty : Option Nat) : c.onlyPlls (c.holdover faulty p) := by
  unfold Chip.holdover
  split
  · rfl
  · split
    · exact c.stopPll_onlyPlls p
    · rfl

/-- A holdover with no faulty PLL leaves what has held lock. -/
theorem Chip.held_holdover : ((c.holdover none p).pll q).held = (c.pll q).held := by
  unfold Chip.holdover
  split
  · rfl
  · exact c.pll_onPll_keeps p q Pll.frozen Pll.held fun _ => rfl

/-- The end of the holdover (R200). -/
theorem Chip.stopAll_spec :
    c.onlyPlls ([0, 1, 2, 3].foldl Chip.stopPll c) ∧ (∀ p < 4, (([0, 1, 2, 3].foldl Chip.stopPll c).pll p).on = false) ∧
      ([0, 1, 2, 3].foldl Chip.stopPll c).ck.sysOnIrc = true := by
  refine ⟨?_, fun p hp => ?_, ?_⟩
  · exact (((c.stopPll_onlyPlls 0).trans (Chip.stopPll_onlyPlls _ 1)).trans (Chip.stopPll_onlyPlls _ 2)).trans
      (Chip.stopPll_onlyPlls _ 3)
  · simp only [List.foldl_cons, List.foldl_nil, Chip.on_stopPll]
    have hcase : p = 3 ∨ p = 2 ∨ p = 1 ∨ p = 0 := by omega
    rcases hcase with rfl | rfl | rfl | rfl <;> rfl
  · simp [Chip.sysOnIrc_stopPll]

end

/-! ### The clocks of the sequence -/

/-- The PLLs of a loss of reference, held over; the faulty one is stopped (Table 4.6). -/
def Chip.heldOver (c : Chip) (faulty : Option Nat) : Chip :=
  [0, 1, 2, 3].foldl (fun c p => c.holdover faulty p) (c.onCk fun x => { x with reflost := true })

section

variable (c : Chip) (faulty : Option Nat) (since : Nat)

theorem Chip.heldOver_onlyPlls : (c.onCk fun x => { x with reflost := true }).onlyPlls (c.heldOver faulty) :=
  ((((Chip.holdover_onlyPlls _ 0 faulty).trans (Chip.holdover_onlyPlls _ 1 faulty)).trans
    (Chip.holdover_onlyPlls _ 2 faulty)).trans (Chip.holdover_onlyPlls _ 3 faulty))

theorem Chip.heldOver_held (p : Nat) : ((c.heldOver none).pll p).held = (c.pll p).held := by
  simp only [Chip.heldOver, List.foldl_cons, List.foldl_nil, Chip.held_holdover]
  rfl

theorem Chip.tbToIrc_frame :
    c.tbToIrc since = { c with ck := { c.ck with tb := (c.tbToIrc since).ck.tb, tbOnIrc := true } } := by
  unfold Chip.tbToIrc
  split
  next h => rw [← h]
  next => rfl

theorem Chip.clocksToIrc_frame :
    c.clocksToIrc since = { c with
      regs := (c.wr CKG_DOM_TWP_SRC 0).regs
      ck := { c.ck with sysOnIrc := true, tb := (c.clocksToIrc since).ck.tb, tbOnIrc := true } } :=
  Chip.tbToIrc_frame _ since

/-- SYS, TWP and the timebase on IRC and the PLLs held over. -/
def Chip.lostClocks : Chip := (c.heldOver faulty).clocksToIrc since

theorem Chip.lostClocks_mode : (c.lostClocks faulty since).mode = c.mode := by
  rw [Chip.lostClocks, Chip.clocksToIrc_frame, c.heldOver_onlyPlls faulty]
  rfl

theorem Chip.lostClocks_get {a : Nat} (ha : clockAddr a = true) : (c.lostClocks faulty since).get a = c.get a := by
  have hne : a ≠ CKG_DOM_TWP_SRC.addr := by
    rintro rfl
    exact absurd ha (by decide)
  have hheld : (c.heldOver faulty).get a = c.get a := by
    rw [c.heldOver_onlyPlls faulty]
    rfl
  rw [Chip.lostClocks, Chip.clocksToIrc_frame]
  exact (Chip.get_wr_ne _ _ 0 a hne).trans hheld

theorem Chip.lostClocks_ck :
    (c.lostClocks faulty since).ck.reflost = true ∧ (c.lostClocks faulty since).ck.sysOnIrc = true ∧
      (c.lostClocks faulty since).ck.tbOnIrc = true ∧ (c.lostClocks faulty since).ck.xinPresent = c.ck.xinPresent := by
  rw [Chip.lostClocks, Chip.clocksToIrc_frame, c.heldOver_onlyPlls faulty]
  exact ⟨rfl, rfl, rfl, rfl⟩

theorem Chip.lostClocks_held (p : Nat) : ((c.lostClocks none since).pll p).held = (c.pll p).held := by
  rw [← c.heldOver_held p, Chip.lostClocks, Chip.clocksToIrc_frame]
  rfl

@[simp] theorem Chip.lostClocks_stores : (c.lostClocks faulty since).stores = c.stores := by
  simp [Chip.lostClocks, Chip.heldOver]

end

/-! ### The start of the sequence -/

theorem Chip.rankNow_of_bearing {c d : Chip} (h : d.bearing = c.bearing) : d.rankNow = c.rankNow := by
  have hedge : d.mode.edge = c.mode.edge := congrArg (fun b => b.mode.edge) h
  have hforced : d.mode.forced = c.mode.forced := congrArg (fun b => b.mode.forced) h
  unfold Chip.rankNow
  rw [hedge, hforced]

/-- What the forced edge to STANDBY, taken at once, leaves (R45, R46). -/
theorem Chip.forceEdge_e12 (c : Chip) (cause : Nat) (h : c.rankNow < 2) :
    (c.forceEdge .e12 .standby cause).clockSide = c.clockSide ∧
      (c.forceEdge .e12 .standby cause).stores = c.stores ∧
      (c.forceEdge .e12 .standby cause).mode.edge = some .e12 ∧
      (c.forceEdge .e12 .standby cause).mode.target = .standby ∧
      (c.forceEdge .e12 .standby cause).mode.forced = true := by
  have heq : c.forceEdge .e12 .standby cause =
      (c.abandonEdge.beginEdge .e12 .standby).onMode fun x => { x with forced := true } :=
    if_neg (Nat.not_le_of_lt h)
  have hmode := congrArg Course.mode (c.abandonEdge.beginEdge_bearing .e12 .standby)
  rw [heq]
  refine ⟨?_, ?_, ?_, ?_, rfl⟩
  · exact c.abandonEdge.beginEdge_standby_clockSide
  · exact (c.abandonEdge.beginEdge_e12_stores .standby).trans c.abandonEdge_stores
  · exact congrArg ModeMachine.edge hmode
  · exact congrArg ModeMachine.target hmode

/-- The part with the sequence begun, before the forced edge. -/
def Chip.lostPrepared (c : Chip) (cause : Nat) (faulty : Option Nat) (since : Nat) : Chip :=
  (((c.monFault cause).lostClocks faulty since).srcAssert 10 cause).reflostDram faulty

section

variable {c : Chip} (cause : Nat) {faulty : Option Nat} (since : Nat)

theorem Chip.monFault_first (h : c.ck.reflost = false) :
    c.monFault cause = (c.wr CKG_MON_STAT_CAUSE cause).wr CKG_MON_STAT_EVT 1 := by
  unfold Chip.monFault
  rw [h]
  rfl

theorem Chip.refFault_begins (h : c.ck.reflost = false) (hr : c.rankNow < 2) :
    c.refFault cause faulty since = (c.lostPrepared cause faulty since).forceEdge .e12 .standby causeReflost := by
  have hck : (c.monFault cause).ck.reflost = false := by rw [Chip.monFault_first cause h]; exact h
  unfold Chip.refFault
  rw [h]
  exact if_neg (Nat.not_lt_of_le (Nat.le_of_lt hr))

end

/-- A loss of reference has been taken: its sequence has begun, and beside it the stores, the mode, XIN's presence and
the other registers of the monitor and of the PLLs are as they were. -/
structure Chip.LossTaken (c d : Chip) (cause : Nat) : Prop where
  begun : d.reflostBegun cause
  stores : d.stores = c.stores
  seat : d.seat = c.seat
  xinPresent : d.ck.xinPresent = c.ck.xinPresent
  xinOk : d.rd CKG_MON_STAT_XIN_OK = c.rd CKG_MON_STAT_XIN_OK
  others : ∀ f : Field, clockAddr f.addr = true → f.addr ≠ CKG_MON_STAT.addr → d.rd f = c.rd f

section

variable {c : Chip} {cause : Nat} {faulty : Option Nat} (since : Nat) (hf : faulty ≠ some 1)

include hf

theorem Chip.lostPrepared_clockSide :
    (c.lostPrepared cause faulty since).clockSide = ((c.monFault cause).lostClocks faulty since).clockSide := by
  rw [Chip.lostPrepared, Chip.reflostDram_asleep _ hf]
  simp

theorem Chip.lostPrepared_stores : (c.lostPrepared cause faulty since).stores = c.stores := by
  rw [Chip.lostPrepared, Chip.reflostDram_asleep _ hf]
  simp

theorem Chip.lostPrepared_rankNow : (c.lostPrepared cause faulty since).rankNow = c.rankNow := by
  have hmode : ((c.monFault cause).lostClocks faulty since).mode = c.mode := by
    rw [Chip.lostClocks_mode]
    unfold Chip.monFault
    split <;> rfl
  have hb : (c.lostPrepared cause faulty since).bearing = ((c.monFault cause).lostClocks faulty since).bearing := by
    rw [Chip.lostPrepared, Chip.reflostDram_asleep _ hf]
    simp
  rw [Chip.rankNow_of_bearing hb]
  unfold Chip.rankNow
  rw [hmode]

variable (h : c.ck.reflost = false) (hr : c.rankNow < 2)

include h hr

theorem Chip.refFault_clockSide :
    (c.refFault cause faulty since).clockSide = ((c.monFault cause).lostClocks faulty since).clockSide := by
  have hrank : (c.lostPrepared cause faulty since).rankNow < 2 := by rwa [Chip.lostPrepared_rankNow since hf]
  rw [Chip.refFault_begins cause since h hr, (Chip.forceEdge_e12 _ _ hrank).1, Chip.lostPrepared_clockSide since hf]

/-- The sequence of Table 4.6 starts. -/
theorem Chip.refFault_taken (hcause : cause < 16) : c.LossTaken (c.refFault cause faulty since) cause := by
  have hside := Chip.refFault_clockSide (cause := cause) since hf h hr
  have hck := Chip.ck_of_clockSide hside
  have hrd {f : Field} (ha : clockAddr f.addr = true) :
      (c.refFault cause faulty since).rd f = (c.monFault cause).rd f :=
    (Chip.rd_of_clockSide hside ha).trans (congrArg f.get (Chip.lostClocks_get _ _ _ ha))
  have hmon := Chip.monFault_first cause h
  obtain ⟨hlost, hsys, htb, hxin⟩ := (c.monFault cause).lostClocks_ck faulty since
  have hrank : (c.lostPrepared cause faulty since).rankNow < 2 := by rwa [Chip.lostPrepared_rankNow since hf]
  obtain ⟨-, hstores, hedge, htarget, hforced⟩ :=
    (c.lostPrepared cause faulty since).forceEdge_e12 causeReflost hrank
  rw [← Chip.refFault_begins cause since h hr] at hstores hedge htarget hforced
  rw [← hck] at hlost hsys htb hxin
  refine ⟨⟨hlost, hsys, htb, ?_, ?_, hedge, htarget, hforced⟩, ?_, c.refFault_seat cause faulty since, ?_, ?_,
    fun f ha hne => ?_⟩
  · rw [hrd (by decide), hmon, Chip.rd_wr_clear _ _ _ _ (by decide), Chip.rd_wr_same _ _ _ (by decide)]
    exact Nat.mod_eq_of_lt hcause
  · rw [hrd (by decide), hmon, Chip.rd_wr_same _ _ _ (by decide)]
    rfl
  · rw [hstores, Chip.lostPrepared_stores since hf]
  · rw [hxin, hmon]
    rfl
  · rw [hrd (by decide), hmon, Chip.rd_wr_clear _ _ _ _ (by decide), Chip.rd_wr_clear _ _ _ _ (by decide)]
  · rw [hrd ha, hmon]
    exact (Chip.rd_wr_ne _ CKG_MON_STAT_EVT f 1 hne).trans (c.rd_wr_ne CKG_MON_STAT_CAUSE f cause hne)

end

/-- A reaction with no faulty PLL leaves what has held lock. -/
theorem Chip.refFault_held {c : Chip} (cause since : Nat) (h : c.ck.reflost = false) (hr : c.rankNow < 2) (p : Nat) :
    ((c.refFault cause none since).pll p).held = (c.pll p).held := by
  have hck := Chip.ck_of_clockSide (Chip.refFault_clockSide (cause := cause) (faulty := none) since (by decide) h hr)
  have hpll : (c.refFault cause none since).pll p = ((c.monFault cause).lostClocks none since).pll p := by
    unfold Chip.pll
    rw [hck]
  rw [hpll, Chip.lostClocks_held, Chip.monFault_first cause h]
  rfl

/-! ### The faults of XIN (R194, R196, R198) -/

/-- XIN is no longer present. -/
def Chip.xinLost (c : Chip) : Chip :=
  (c.onCk fun x => { x with xinPresent := false, inWindowUs := 0 }).wr CKG_MON_STAT_XIN_OK 0

section

variable {c : Chip} {cause : Nat} (since : Nat) (h1 : c.mode.mode ≠ .deepSleep) (h2 : c.mode.mode ≠ .standby)

include h1 h2

theorem Chip.xinFault_running : c.xinFault cause since = c.xinLost.refFault cause none since := by
  unfold Chip.xinFault
  rw [if_neg h1]
  exact if_neg fun h => h2 h.1

variable (h : c.ck.reflost = false) (hr : c.rankNow < 2)

include h hr

/-- An XIN fault in a mode that runs. -/
theorem Chip.xinFault_taken (hcause : cause < 16) :
    (c.xinFault cause since).reflostBegun cause ∧ (c.xinFault cause since).stores = c.stores ∧
      (c.xinFault cause since).seat = c.seat ∧ (c.xinFault cause since).ck.xinPresent = false ∧
      (c.xinFault cause since).rd CKG_MON_STAT_XIN_OK = 0 := by
  have hlost : c.xinLost.LossTaken (c.xinLost.refFault cause none since) cause :=
    Chip.refFault_taken since (by decide) h hr hcause
  rw [Chip.xinFault_running since h1 h2]
  refine ⟨hlost.begun, hlost.stores, hlost.seat, hlost.xinPresent, hlost.xinOk.trans ?_⟩
  exact Chip.rd_wr_same _ _ 0 (by decide)

theorem Chip.xinFault_held (p : Nat) : ((c.xinFault cause since).pll p).held = (c.pll p).held := by
  rw [Chip.xinFault_running since h1 h2]
  exact Chip.refFault_held (c := c.xinLost) cause since h hr p

end

/-- A gate out of window. -/
theorem Chip.gateXin_out {c : Chip} {edges : Nat} (since : Nat) (hw : c.xinWatched = true)
    (hin : c.inWindow edges = false) : c.gateXin edges since = c.xinFault 3 since := by
  unfold Chip.gateXin
  rw [if_neg (by simp [hw]), if_neg (by simp [hin])]

/-- The start of the next gate leaves the sequence begun. -/
theorem Chip.reflostBegun.nextGate {d : Chip} {cause : Nat} (h : d.reflostBegun cause) (w : Word) :
    (d.onCk fun x => { x with glitches := 0, monCtl := w }).reflostBegun cause := h

/-! ### The faults of PLLs (R188, R198) -/

section

variable {c : Chip} {p : Nat}

/-- A PLL that did not lock in time is stopped (R188). -/
theorem Chip.lockTimeout_taken (since : Nat) (h : c.ck.reflost = false) (hr : c.rankNow < 2) :
    ((c.stopPll p).refFault 8 none since).reflostBegun 8 ∧
      ((c.stopPll p).refFault 8 none since).stores = c.stores ∧
      ((c.stopPll p).refFault 8 none since).seat = c.seat := by
  have hframe := c.stopPll_onlyPlls p
  have hlost : (c.stopPll p).LossTaken ((c.stopPll p).refFault 8 none since) 8 :=
    Chip.refFault_taken since (by decide) (by rw [hframe]; exact h) (by rw [hframe]; exact hr) (by decide)
  exact ⟨hlost.begun, hlost.stores.trans (c.stopPll_stores p), hlost.seat.trans (c.stopPll_seat p)⟩

/-- PLL `p` out of lock, the loss counted. -/
def Chip.lossCounted (c : Chip) (p : Nat) : Chip :=
  (c.onPll p fun x => { x with lock := false, held := false }).bump (pllF p CKG_PLLS_STAT_LOSS_COUNT) 1

theorem Chip.lockLoss_checked (since : Nat) (hp : p < 4) (hon : (c.pll p).on = true) (hlock : (c.pll p).lock = true)
    (hheld : (c.pll p).held = true) (hchk : c.pllChecked p = true) :
    c.lockLoss p since = (c.lossCounted p).refFault (4 + p) (some p) since := by
  unfold Chip.lockLoss
  rw [if_neg fun h => by simp [hheld] at h, if_pos ⟨hp, hon, hlock, hheld⟩]
  exact if_pos hchk

/-- The loss of a PLL other than PLL_M is counted, and DRAM keeps its contents (R199). -/
theorem Chip.lossCounted_taken (since : Nat) (hp : p < 4) (hne : p ≠ 1) (h : c.ck.reflost = false) (hr : c.rankNow < 2) :
    ((c.lossCounted p).refFault (4 + p) (some p) since).reflostBegun (4 + p) ∧
      ((c.lossCounted p).refFault (4 + p) (some p) since).stores = c.stores ∧
      ((c.lossCounted p).refFault (4 + p) (some p) since).seat = c.seat ∧
      ((c.lossCounted p).refFault (4 + p) (some p) since).rd (pllF p CKG_PLLS_STAT_LOSS_COUNT) =
        satAdd 8 (c.rd (pllF p CKG_PLLS_STAT_LOSS_COUNT)) 1 := by
  have haddr : (pllF p CKG_PLLS_STAT_LOSS_COUNT).addr < 0x54 := by
    show 0x18 + 0x10 * p < 0x54
    omega
  have hcount : (c.lossCounted p).rd (pllF p CKG_PLLS_STAT_LOSS_COUNT) =
      satAdd 8 (c.rd (pllF p CKG_PLLS_STAT_LOSS_COUNT)) 1 :=
    Chip.rd_wr_lt _ _ _ (Field.fits_of_inside rfl) (satAdd_lt 8 _ 1)
  have hlost : (c.lossCounted p).LossTaken ((c.lossCounted p).refFault (4 + p) (some p) since) (4 + p) :=
    Chip.refFault_taken since (fun he => hne (Option.some.inj he)) h hr (by omega)
  exact ⟨hlost.begun, hlost.stores, hlost.seat,
    (hlost.others _ (by simp [clockAddr, haddr]) (Nat.ne_of_lt (haddr.trans (by decide)))).trans hcount⟩

end

section

variable {s : State} (hs : s.runs)

include hs

theorem exec_pllLockTimeout {p : Nat} (since : Nat) (hp : p < 4) (hon : (s.chip.pll p).on = true)
    (hlock : (s.chip.pll p).lock = false) (hhold : (s.chip.pll p).holdover = false) :
    exec (.pllLockTimeout p since) s = .next { s with chip := (s.chip.stopPll p).refFault 8 none since } := by
  refine (State.effect_of_runs hs fun c =>
    if p < 4 ∧ (c.pll p).on = true ∧ (c.pll p).lock = false ∧ (c.pll p).holdover = false then
      (c.stopPll p).refFault 8 none since
    else c).trans ?_
  rw [if_pos ⟨hp, hon, hlock, hhold⟩]

theorem exec_pllLockLoss (p since : Nat) :
    exec (.pllLockLoss p since) s = .next { s with chip := s.chip.lockLoss p since } :=
  State.effect_of_runs hs fun c => c.lockLoss p since

theorem exec_refHoldoverEnd (h : s.chip.ck.reflost = true) :
    exec .refHoldoverEnd s = .next { s with chip := [0, 1, 2, 3].foldl Chip.stopPll s.chip } := by
  refine (State.effect_of_runs hs fun c => if c.ck.reflost then [0, 1, 2, 3].foldl Chip.stopPll c else c).trans ?_
  rw [if_pos h]

end

/-- Settles O3: every fault records itself and starts the one sequence, which ends with every PLL stopped. -/
theorem lossOfReference : Obligations.LossOfReference := by
  refine ⟨fun s hs hw h1 h2 h hr => ⟨?_, fun since hlim => ?_, fun edges rates since hin hheld => ?_⟩,
    fun s p since hs h hr hp hon hlock hhold => ?_, fun s p since hs h hr hp hne hon hlock hheld hchk => ?_,
    fun s hs h => ?_⟩
  · refine ⟨_, exec_xinStop hs, ?_⟩
    rw [if_pos hw]
    exact Chip.xinFault_taken 24 h1 h2 h hr (by decide)
  · refine ⟨_, exec_xinGlitch hs since, ?_⟩
    rw [Chip.xinGlitch_watched since hw, if_pos hlim]
    obtain ⟨hbegun, hstores, hseat, hxin, -⟩ :=
      Chip.xinFault_taken (c := s.chip.glitchNoted) (cause := 2) since h1 h2 h hr (by decide)
    exact ⟨hbegun, hstores, hseat, hxin⟩
  · obtain ⟨hbegun, hstores, hseat, hxin, -⟩ := Chip.xinFault_taken (cause := 3) since h1 h2 h hr (by decide)
    refine ⟨_, exec_monGateEnd hs edges rates since, ?_⟩
    rw [Chip.monGate_idle rates (Chip.gateXin_out since hw hin) fun p h4 => ?_]
    · exact ⟨hbegun.nextGate _, hstores, hseat, hxin, rfl⟩
    · rw [Chip.xinFault_held since h1 h2 h hr, hheld p h4, Bool.and_false]
  · exact ⟨_, exec_pllLockTimeout hs since hp hon hlock hhold, Chip.lockTimeout_taken since h hr⟩
  · refine ⟨_, exec_pllLockLoss hs p since, ?_⟩
    rw [Chip.lockLoss_checked since hp hon hlock hheld hchk]
    exact Chip.lossCounted_taken since hp hne h hr
  · obtain ⟨hframe, hoff, hsys⟩ := s.chip.stopAll_spec
    exact ⟨_, exec_refHoldoverEnd hs h, hframe.frame, hoff, hsys⟩

end Sys2Proof.Machine
end

section
/-! SUPPORT. What wakes the part (R43, R236, R245, R246, R257, R259, R260): Wharf activity by what it meets, the start
of E1, and the unlock. -/

namespace Sys2Proof.Machine

open Sys2Proof

/-! ### The settings of the edge that starts (R267) -/

theorem Chip.regUsed_takeSeqCfg (c : Chip) {n : Nat} (hn : n < 4) :
    c.takeSeqCfg.regUsed n = decide (c.rd (PWR_REG_CFG_USED.at n) = 1) := by
  match n with
  | 0 | 1 | 2 | 3 => rfl

theorem Chip.regUsed_of_cfg {c d : Chip} (h : d.pw.cfg = c.pw.cfg) (n : Nat) : d.regUsed n = c.regUsed n := by
  simp [Chip.regUsed, Chip.seqCfg, h]

/-- A used regulator with no used one between it and `n` is the next step. -/
theorem Chip.nextStep_eq_startStep {c : Chip} {n m : Nat} (hnm : n ≤ m) (hm : m < 4) (hu : c.regUsed m = true)
    (hlow : ∀ k, n ≤ k → k < m → c.regUsed k = false) : c.nextStep n = c.startStep m := by
  have hfind : (((List.range 4).filter fun k => n ≤ k).find? fun k => c.regUsed k) = some m := by
    rw [List.find?_filter, List.find?_range_eq_some]
    refine ⟨by simp [hnm, hu], List.mem_range.mpr hm, fun k hk => ?_⟩
    by_cases h : n ≤ k
    · simp [hlow k h hk]
    · simp [h]
  unfold Chip.nextStep
  rw [hfind]

/-! ### A wake trigger, by what it meets -/

section

variable {c : Chip} {src : Nat} (ha : c.wakeArmed src = true)

theorem Chip.wakeTrigger_of_unarmed (h : c.wakeArmed src = false) : c.wakeTrigger src = c := by
  simp [Chip.wakeTrigger, h]

include ha

theorem Chip.wakeTrigger_of_e2 (he : c.mode.edge = some .e2) :
    c.wakeTrigger src = c.onMode fun m => { m with wakeDeferred := some src } := by
  simp [Chip.wakeTrigger, ha, he]

variable (hm : c.mode.mode = .deepSleep) (he : c.mode.edge = none)

include hm he

theorem Chip.wakeTrigger_of_lockout (hl : c.wh.lockout = true) :
    c.wakeTrigger src = (c.wr PWR_WAKE_STAT_IGNORED 1).onMode fun m => { m with refuse := refusedWakelock } := by
  simp [Chip.wakeTrigger, ha, hm, he, hl, refusedWakelock]

theorem Chip.wakeTrigger_of_asleep (hl : c.wh.lockout = false) : c.wakeTrigger src = c.startWake src false := by
  simp [Chip.wakeTrigger, ha, hm, he, hl]

end

/-- E1 starts with the lowest regulator whose USED bit is written (R236, R267). -/
theorem Chip.startWake_pw {c : Chip} (src : Nat) {n : Nat} (hn : n < 4) (hu : c.rd (PWR_REG_CFG_USED.at n) = 1)
    (hlow : ∀ m, m < n → c.rd (PWR_REG_CFG_USED.at m) = 0) :
    (c.startWake src false).pw.step = some n ∧ (c.startWake src false).pw.en = c.pw.en.set n true := by
  have hused (k : Nat) (hk : k < 4) :
      (c.wr PWR_WAKE_STAT_SRC src).takeSeqCfg.regUsed k = decide (c.rd (PWR_REG_CFG_USED.at k) = 1) := by
    rw [Chip.regUsed_takeSeqCfg _ hk, Chip.rd_wr_ne]
    simp [Field.at, PWR_REG_CFG_USED, PWR_WAKE_STAT_SRC]
    omega
  have hnext (d : Chip) (hd : d.pw.cfg = (c.wr PWR_WAKE_STAT_SRC src).takeSeqCfg.pw.cfg) :
      d.nextStep 0 = d.startStep n := by
    have hr (k : Nat) (hk : k < 4) := (Chip.regUsed_of_cfg hd k).trans (hused k hk)
    exact Chip.nextStep_eq_startStep (Nat.zero_le n) hn ((hr n hn).trans (decide_eq_true hu)) fun k _ hk =>
      (hr k (hk.trans hn)).trans (by simp [hlow k hk])
  unfold Chip.startWake
  extract_lets c1 c2
  rw [hnext]
  · exact ⟨rfl, rfl⟩
  · rfl

/-! ### The commands -/

section

variable {s : State} (hs : s.runs)

include hs

theorem exec_wakeTrigger : exec .wakeTrigger s = .next { s with chip := s.chip.wakeTrigger 1 } :=
  State.effect_of_runs hs fun c => c.wakeTrigger 1

theorem exec_wakeUnlock_of_asleep (v : Half) (hm : s.chip.mode.mode = .deepSleep) (hl : s.chip.wh.lockout = false) :
    exec (.wakeUnlock v) s = exec .wakeTrigger s := by
  rw [exec_wakeTrigger hs]
  simp [exec, execWakeUnlock, State.effect_of_runs hs, hm, hl]

/-- Where the port answers or the wake detector decodes the write, the unlock is judged. -/
theorem exec_wakeUnlock (v : Half) (h : s.chip.mode.mode ≠ .deepSleep ∨ s.chip.wh.lockout = true) :
    exec (.wakeUnlock v) s = .next { s with chip := s.chip.ifDrained fun c => c.wakeUnlock v } := by
  have hn : ¬(s.chip.mode.mode = .deepSleep ∧ s.chip.wh.lockout = false) := by
    rintro ⟨hm, hl⟩
    simp [hm, hl] at h
  simp [exec, execWakeUnlock, State.effect_of_runs hs, hn]

end

theorem Chip.ifDrained_of_drained {c : Chip} (f : Chip → Chip) (h : c.wh.drain = []) : c.ifDrained f = f c := by
  simp [Chip.ifDrained, h]

theorem Chip.ifDrained_of_draining {c : Chip} (f : Chip → Chip) (h : c.wh.drain ≠ []) :
    c.ifDrained f = c.whErr erBusyDrain := by
  simp [Chip.ifDrained, h]

/-- The unlock clears FAIL_COUNT and LOCKOUT, and IGNORED where there was a lockout (R259, R260). -/
theorem Chip.wakeUnlock_spec (c : Chip) : ∃ d, c.wakeUnlock 0x5A5A#16 = d ∧
    d = { c with regs := d.regs, wh := { c.wh with failCount := 0, lockout := false } } ∧
    c.sameBut d [PWR_WAKE_STAT.addr] ∧ (c.wh.lockout = true → d.rd PWR_WAKE_STAT_IGNORED = 0) := by
  refine ⟨_, rfl, ?_⟩
  unfold Chip.wakeUnlock
  rw [if_neg (by decide)]
  dsimp only
  split
  next hl =>
    refine ⟨rfl, (Chip.sameBut.refl c _).wr _ (by decide), fun _ => ?_⟩
    exact Chip.rd_wr_same _ PWR_WAKE_STAT_IGNORED 0 (by decide)
  next hl => exact ⟨rfl, .refl c _, fun h => absurd h hl⟩

/-- Settles O6: each clause is the trigger, or the unlock, by what it meets. -/
theorem wakeTriggers : Obligations.WakeTriggers := by
  unfold Obligations.WakeTriggers
  refine ⟨fun s hs ha => ?_, fun s hs ha he => ?_, fun s hs ha hm he => ?_,
    fun s v hs hm hl => exec_wakeUnlock_of_asleep hs v hm hl, fun s v hs h hd => ?_, fun s v hs h hd hv => ?_,
    fun s hs h hd => ?_⟩
  · rw [exec_wakeTrigger hs, Chip.wakeTrigger_of_unarmed ha]
  · rw [exec_wakeTrigger hs, Chip.wakeTrigger_of_e2 ha he]
    rfl
  · refine ⟨_, exec_wakeTrigger hs, ?_⟩
    cases hl : s.chip.wh.lockout with
    | true =>
      rw [Chip.wakeTrigger_of_lockout ha hm he hl]
      refine ⟨(Chip.sameBut.refl s.chip _).wr _ (by decide), ?_⟩
      rw [if_pos rfl]
      exact ⟨rfl, Chip.rd_wr_same s.chip PWR_WAKE_STAT_IGNORED 1 (by decide)⟩
    | false =>
      rw [Chip.wakeTrigger_of_asleep ha hm he hl, if_neg Bool.false_ne_true]
      obtain ⟨pw, hpw⟩ := s.chip.startWake_warm 1
      refine ⟨?_, ?_, s.chip.startWake_seat 1 false, ?_, ?_, fun n hn hu hlow => ?_⟩
      · rw [hpw]
        exact (Chip.sameBut.refl s.chip _).wr _ (by decide)
      · rw [hpw]
        exact Chip.rd_wr_same s.chip PWR_WAKE_STAT_SRC 1 (by decide)
      · rw [hpw]
      · rw [hpw]
      · obtain ⟨hstep, hen⟩ := Chip.startWake_pw 1 hn hu hlow
        exact ⟨hstep, hen, by rw [hpw]; rfl⟩
  · rw [exec_wakeUnlock hs v h, Chip.ifDrained_of_draining _ hd]
  · rw [exec_wakeUnlock hs v h, Chip.ifDrained_of_drained _ hd, Chip.wakeUnlock, if_pos hv]
  · obtain ⟨d, hd', hspec⟩ := s.chip.wakeUnlock_spec
    exact ⟨d, by rw [exec_wakeUnlock hs _ h, Chip.ifDrained_of_drained _ hd, hd'], hspec⟩

end Sys2Proof.Machine
end

section
/-! SUPPORT. The regulators (R236-R242, Tables 5.3 and 5.5): the steps of E1 and the back-out, and what a failure of one
records and forces. -/

namespace Sys2Proof.Machine

open Sys2Proof

/-! ### The steps of E1 and the back-out -/

/-- A step ends with the start of the next used regulator; of the power sequencer's state, only the steps done, the
levels of power-good, the enables and the step in progress change. -/
theorem Chip.nextStep_onPw {c : Chip} {n m : Nat} (f : Power → Power) (hf : (f c.pw).cfg = c.pw.cfg) (hnm : n < m)
    (hm : m < 4) (hu : c.regUsed m = true) (hlow : ∀ k, n < k → k < m → c.regUsed k = false) :
    (c.onPw f).nextStep (n + 1) = (c.onPw f).startStep m :=
  Chip.nextStep_eq_startStep hnm hm ((Chip.regUsed_of_cfg hf m).trans hu) fun k hk hkm =>
    (Chip.regUsed_of_cfg hf k).trans (hlow k hk hkm)

/-- During a back-out the highest enable that is high goes low (R241). -/
theorem Chip.lowerEn_of_backout {c : Chip} {n : Nat} (hb : c.pw.backout = true) (hn : n < 4)
    (hen : c.pw.en.getD n false = true) (hlow : ∀ m, n < m → m < 4 → c.pw.en.getD m false = false) :
    c.lowerEn = c.onPw fun p => { p with en := p.en.set n false, pg := p.pg.set n false } := by
  have hfind : ([3, 2, 1, 0].find? fun k => c.pw.en.getD k false) = some n := by
    match n with
    | 0 | 1 | 2 | 3 => simp [hen, hlow, -List.getD_eq_getElem?_getD]
  unfold Chip.lowerEn
  rw [hfind]
  exact congrArg (fun b => c.onPw fun p => { p with en := p.en.set n false, pg := p.pg.set n false, backout := b }) hb.symm

section

variable {s : State} (hs : s.runs)

include hs

section

variable {n : Nat} (hstep : s.chip.pw.step = some n) (he : s.chip.mode.edge = some .e1)

include hstep he

theorem exec_regStepComplete : exec .regStepComplete s =
    .next { s with chip := if s.chip.regNopg n = false then s.chip.stepDone n else s.chip } := by
  simp [exec, execRegStepComplete, State.effect_of_runs hs, hstep, he]

theorem exec_regStepFixedExpire : exec .regStepFixedExpire s =
    .next { s with chip := if s.chip.regNopg n = true then
      (s.chip.onPw fun p => { p with stepsDone := p.stepsDone.set n true }).nextStep (n + 1) else s.chip } := by
  simp [exec, execRegStepFixedExpire, State.effect_of_runs hs, hstep, he]

theorem exec_regStepTimeout (time : Nat) : exec (.regStepTimeout time) s =
    .next { s with chip := if s.chip.regNopg n = false then s.chip.wakeFail 1 n time else s.chip } := by
  simp [exec, execRegStepTimeout, State.effect_of_runs hs, hstep, he]

end

theorem exec_backoutDwellExpire :
    exec .backoutDwellExpire s = .next { s with chip := if s.chip.pw.backout then s.chip.lowerEn else s.chip } :=
  State.effect_of_runs hs fun c => if c.pw.backout then c.lowerEn else c

theorem exec_pgLost_of_matters {n : Nat} (time : Nat) (h : s.chip.pgMatters n = true) : exec (.pgLost n time) s =
    .next { s with chip := (s.chip.onPw fun p => { p with pg := p.pg.set n false }).wakeFail 2 n time } := by
  simp [exec, execPgLost, State.effect_of_runs hs, h]

theorem exec_pgLost_of_not_matters {n : Nat} (time : Nat) (h : s.chip.pgMatters n = false) : exec (.pgLost n time) s =
    .next { s with chip := s.chip.onPw fun p => { p with pg := p.pg.set n false } } := by
  simp [exec, execPgLost, State.effect_of_runs hs, h]

end

/-! ### PWR_WAKE_STAT, which only the sequencer writes -/

/-- PWR_WAKE_STAT as it is stored. -/
def Chip.wakeStat (c : Chip) : Word := c.get PWR_WAKE_STAT.addr

theorem Chip.rd_of_wakeStat {c d : Chip} (h : d.wakeStat = c.wakeStat) {f : Field}
    (hf : f.addr = PWR_WAKE_STAT.addr) : d.rd f = c.rd f := by
  unfold Chip.rd
  rw [hf]
  exact congrArg f.get h

section

variable (c : Chip)

@[simp] theorem Chip.wr_wakeStat (f : Field) (v : Nat) (h : decide (f.addr ≠ PWR_WAKE_STAT.addr) = true) :
    (c.wr f v).wakeStat = c.wakeStat :=
  c.get_wr_ne f v _ (Ne.symm (of_decide_eq_true h))

@[simp] theorem Chip.bump_wakeStat (f : Field) (k : Nat) (h : decide (f.addr ≠ PWR_WAKE_STAT.addr) = true) :
    (c.bump f k).wakeStat = c.wakeStat :=
  c.wr_wakeStat f _ h

@[simp] theorem Chip.setBit_wakeStat (f : Field) (n : Nat) (b : Bool)
    (h : decide (f.addr ≠ PWR_WAKE_STAT.addr) = true) : (c.setBit f n b).wakeStat = c.wakeStat :=
  c.wr_wakeStat f _ h

@[simp] theorem Chip.wakeStat_ite (p : Prop) [Decidable p] (a b : Chip) :
    (if p then a else b).wakeStat = if p then a.wakeStat else b.wakeStat := apply_ite Chip.wakeStat p a b

@[simp] theorem Chip.foldl_wakeStat {α : Type} (f : Chip → α → Chip) (l : List α)
    (hf : ∀ (c : Chip), ∀ x ∈ l, (f c x).wakeStat = c.wakeStat) : (l.foldl f c).wakeStat = c.wakeStat := by
  induction l generalizing c with
  | nil => rfl
  | cons x t ih =>
    exact (ih (f c x) fun c y hy => hf c y (List.mem_cons_of_mem _ hy)).trans (hf c x List.mem_cons_self)

@[simp] theorem Chip.evt_wakeStat (n : Nat) : (c.evt n).wakeStat = c.wakeStat := (rfl)

@[simp] theorem Chip.onLk_wakeStat (f : Lockkeeper → Lockkeeper) : (c.onLk f).wakeStat = c.wakeStat := (rfl)

@[simp] theorem Chip.onLd_wakeStat (f : Loader → Loader) : (c.onLd f).wakeStat = c.wakeStat := (rfl)

@[simp] theorem Chip.onPw_wakeStat (f : Power → Power) : (c.onPw f).wakeStat = c.wakeStat := (rfl)

@[simp] theorem Chip.onMode_wakeStat (f : ModeMachine → ModeMachine) : (c.onMode f).wakeStat = c.wakeStat := (rfl)

@[simp] theorem Chip.onCk_wakeStat (f : Clocks → Clocks) : (c.onCk f).wakeStat = c.wakeStat := (rfl)

@[simp] theorem Chip.logRecord_wakeStat (type flags unit data : Nat) :
    (c.logRecord type flags unit data).wakeStat = c.wakeStat := by
  simp +decide [Chip.logRecord, Chip.takeSeq]

@[simp] theorem Chip.ledgerFlush_wakeStat : c.ledgerFlush.wakeStat = c.wakeStat := by
  simp +decide [Chip.ledgerFlush, Chip.ledgerFail, Chip.ledgerToLog]

@[simp] theorem Chip.edgeClocks_wakeStat (m : Mode) : (c.edgeClocks m).wakeStat = c.wakeStat := by
  unfold Chip.edgeClocks
  rw [Chip.foldl_wakeStat, Chip.wr_wakeStat _ _ _ (by decide)]
  intro d n hn
  obtain ⟨k, hk, rfl⟩ := List.mem_map.mp hn
  have hk : k < 25 := List.mem_range.mp hk
  have hne : (domF (k + 1) CKG_DOM_XIN_HOLD).addr ≠ PWR_WAKE_STAT.addr := by
    simp only [domF, Field.off, CKG_DOM_XIN_HOLD, PWR_WAKE_STAT]
    omega
  split
  · rfl
  · exact d.wr_wakeStat _ _ (decide_eq_true hne)

@[simp] theorem Chip.edgePdreq_wakeStat (m : Mode) : (c.edgePdreq m).wakeStat = c.wakeStat := by
  simp +decide [Chip.edgePdreq, Chip.setPdreq]

theorem Chip.onlyPlls.beside {c d : Chip} (h : c.onlyPlls d) : d.wakeStat = c.wakeStat ∧ d.lk = c.lk := by
  rw [h.frame]
  exact ⟨rfl, rfl⟩

@[simp] theorem Chip.stopPll_wakeStat (p : Nat) : (c.stopPll p).wakeStat = c.wakeStat :=
  (c.stopPll_onlyPlls p).beside.1

/-- No PLL runs in DEEP_SLEEP: an edge there starts none. -/
theorem Chip.edgePlls_deepSleep {c : Chip} (h : c.edgeMode = .deepSleep) : c.edgePlls = c := by
  unfold Chip.edgePlls
  rw [h]
  split <;> rfl

/-- The forced edge of a regulator failure, at its start. -/
theorem Chip.beginEdge_e13_wakeStat : (c.beginEdge .e13 .deepSleep).wakeStat = c.wakeStat := by
  obtain ⟨d, hd, hstat⟩ : ∃ d : Chip, c.beginEdge .e13 .deepSleep = d.edgePlls ∧ d.wakeStat = c.wakeStat :=
    ⟨_, rfl, by simp [Chip.takeSeqCfg, Chip.edgeDram]⟩
  have hb : d.bearing = c.bearing.heading .e13 .deepSleep := by
    rw [← c.beginEdge_bearing, hd]
    exact d.edgePlls_course.symm
  rw [hd, Chip.edgePlls_deepSleep (Chip.edgeMode_heading hb (by decide)), hstat]

end

/-! ### Both channels held in reset -/

theorem Chip.onMc_beside (c : Chip) (ch : Nat) (f : Channel → Channel) :
    (c.onMc ch f).regs = c.regs ∧ (c.onMc ch f).lk = c.lk := by
  unfold Chip.onMc
  split <;> exact ⟨rfl, rfl⟩

theorem Chip.deliverAll_beside (c : Chip) (ds : List Delivery) :
    (c.deliverAll ds).regs = c.regs ∧ (c.deliverAll ds).lk = c.lk := ⟨rfl, rfl⟩

/-- Of the registers, holding a channel's DRAM in reset writes MCx_STAT.STATE alone. -/
theorem Chip.resetDram_eq_wr (c : Chip) (ch : Nat) :
    ∃ d : Chip, c.resetDram ch = d.wr (mcF ch MCA_STAT_STATE) mcOff ∧ d.regs = c.regs ∧ d.lk = c.lk := by
  refine ⟨_, rfl, ?_⟩
  simp [Chip.abandonReads, Chip.abandonInflight, Chip.dramLost, Chip.onMc_beside, Chip.deliverAll_beside]

/-- Both channels' DRAM held in reset: both are OFF. -/
theorem Chip.resetBoth_spec (c : Chip) :
    ((c.resetDram 0).resetDram 1).mcState 0 = mcOff ∧ ((c.resetDram 0).resetDram 1).mcState 1 = mcOff ∧
      ((c.resetDram 0).resetDram 1).wakeStat = c.wakeStat ∧ ((c.resetDram 0).resetDram 1).lk = c.lk := by
  obtain ⟨d, h0, hd, hdl⟩ := c.resetDram_eq_wr 0
  obtain ⟨e, h1, he, hel⟩ := (c.resetDram 0).resetDram_eq_wr 1
  have hget (a : Nat) : e.get a = (d.wr (mcF 0 MCA_STAT_STATE) mcOff).get a := by rw [← h0]; unfold Chip.get; rw [he]
  have hstat : d.wakeStat = c.wakeStat := by unfold Chip.wakeStat Chip.get; rw [hd]
  rw [h1]
  refine ⟨?_, Chip.rd_wr_same e (mcF 1 MCA_STAT_STATE) mcOff (by decide), ?_, ?_⟩
  · have hoff := Chip.rd_wr_same d (mcF 0 MCA_STAT_STATE) mcOff (by decide)
    exact ((Chip.rd_wr_clear e (mcF 1 MCA_STAT_STATE) (mcF 0 MCA_STAT_STATE) mcOff (by decide)).trans
      (congrArg (mcF 0 MCA_STAT_STATE).get (hget _))).trans hoff
  · rw [Chip.wr_wakeStat _ _ _ (by decide)]
    exact (hget _).trans ((d.wr_wakeStat _ _ (by decide)).trans hstat)
  · rw [Chip.wr_lk, hel, h0, Chip.wr_lk, hdl]

/-! ### A failure, taken -/

/-- A failure is recorded in PWR_WAKE_STAT (Table 5.5). -/
def Chip.failNoted (c : Chip) (kind n time : Nat) : Chip :=
  ((c.wr PWR_WAKE_STAT_FAIL_KIND kind).wr PWR_WAKE_STAT_FAIL_STEP n).wr PWR_WAKE_STAT_FAIL_TIME (min time 0xFFFF)

theorem Chip.failNoted_fields (c : Chip) {kind n : Nat} (time : Nat) (hk : kind < 4) (hn : n < 4) :
    (c.failNoted kind n time).rd PWR_WAKE_STAT_FAIL_KIND = kind ∧
      (c.failNoted kind n time).rd PWR_WAKE_STAT_FAIL_STEP = n ∧
      (c.failNoted kind n time).rd PWR_WAKE_STAT_FAIL_TIME = min time 0xFFFF := by
  refine ⟨?_, ?_, ?_⟩
  · rw [Chip.failNoted, Chip.rd_wr_clear _ _ _ _ (by decide), Chip.rd_wr_clear _ _ _ _ (by decide),
      Chip.rd_wr_same _ _ _ (by decide)]
    exact Nat.mod_eq_of_lt hk
  · rw [Chip.failNoted, Chip.rd_wr_clear _ _ _ _ (by decide), Chip.rd_wr_same _ _ _ (by decide)]
    exact Nat.mod_eq_of_lt hn
  · rw [Chip.failNoted, Chip.rd_wr_same _ _ _ (by decide)]
    exact Nat.mod_eq_of_lt (Nat.lt_succ_of_le (Nat.min_le_right _ _))

/-- E13 takes precedence over every other edge (R45, R46). -/
theorem Chip.forceEdge_e13 (c : Chip) (cause : Nat) (h : c.mode.edge ≠ some .e13) :
    (c.forceEdge .e13 .deepSleep cause).wakeStat = c.wakeStat ∧
      (c.forceEdge .e13 .deepSleep cause).mode.edge = some .e13 ∧
      (c.forceEdge .e13 .deepSleep cause).mode.target = .deepSleep ∧
      (c.forceEdge .e13 .deepSleep cause).mode.forced = true := by
  have hrank : c.rankNow < edgeRank .e13 := by
    unfold Chip.rankNow
    split
    next => decide
    next e he =>
      have hne : e ≠ .e13 := fun h' => h (h' ▸ he)
      cases e <;> cases c.mode.forced <;> first | decide | exact absurd rfl hne
  have heq : c.forceEdge .e13 .deepSleep cause =
      (c.abandonEdge.beginEdge .e13 .deepSleep).onMode fun x => { x with forced := true } :=
    if_neg (Nat.not_le_of_lt hrank)
  have hmode := congrArg Course.mode (c.abandonEdge.beginEdge_bearing .e13 .deepSleep)
  rw [heq]
  exact ⟨c.abandonEdge.beginEdge_e13_wakeStat, congrArg ModeMachine.edge hmode, congrArg ModeMachine.target hmode, rfl⟩

/-- The part with the forced edge begun and the light dark. -/
def Chip.failForced (c : Chip) (kind n time : Nat) : Chip :=
  ((((c.failNoted kind n time).logRecord 1 0 causeWakeFail c.mode.mode.code).ledgerFlush).forceEdge .e13 .deepSleep
    causeWakeFail).onLk fun k => { k with e13Dark := true }

theorem Chip.failForced_spec {c : Chip} (kind n time : Nat) (h : c.mode.edge ≠ some .e13) :
    (c.failForced kind n time).wakeStat = (c.failNoted kind n time).wakeStat ∧
      (c.failForced kind n time).mode.edge = some .e13 ∧ (c.failForced kind n time).mode.target = .deepSleep ∧
      (c.failForced kind n time).mode.forced = true := by
  obtain ⟨d, hd, hstat, hb⟩ : ∃ d : Chip,
      ((c.failNoted kind n time).logRecord 1 0 causeWakeFail c.mode.mode.code).ledgerFlush = d ∧
        d.wakeStat = (c.failNoted kind n time).wakeStat ∧ d.bearing = c.bearing :=
    ⟨_, rfl, by simp, by simp [Chip.failNoted]⟩
  have hedge : d.mode.edge = c.mode.edge := congrArg (fun b => b.mode.edge) hb
  obtain ⟨hforced, hmode⟩ := d.forceEdge_e13 causeWakeFail (by rwa [hedge])
  unfold Chip.failForced
  rw [hd]
  exact ⟨hforced.trans hstat, hmode⟩

/-- The part with every PLL stopped and both channels' DRAM held in reset as well. -/
def Chip.failDown (c : Chip) : Chip := (([0, 1, 2, 3].foldl Chip.stopPll c).resetDram 0).resetDram 1

theorem Chip.failDown_spec (c : Chip) :
    c.failDown.mcState 0 = mcOff ∧ c.failDown.mcState 1 = mcOff ∧ c.failDown.wakeStat = c.wakeStat ∧
      c.failDown.lk = c.lk ∧ c.failDown.bearing = c.bearing := by
  obtain ⟨hpll, -⟩ := c.stopAll_spec
  obtain ⟨hstat, hlk⟩ := hpll.beside
  obtain ⟨hA, hB, hstat', hlk'⟩ := ([0, 1, 2, 3].foldl Chip.stopPll c).resetBoth_spec
  exact ⟨hA, hB, hstat'.trans hstat, hlk'.trans hlk, by simp [Chip.failDown]⟩

/-- The back-out is the power sequencer's own. -/
theorem Chip.backoutIfDone_eq_onPw (c : Chip) : ∃ f, c.backoutIfDone = c.onPw f := by
  unfold Chip.backoutIfDone Chip.lowerEn
  split
  · split <;> exact ⟨_, rfl⟩
  · exact ⟨id, rfl⟩

theorem Chip.onPw_onPw (c : Chip) (f g : Power → Power) : (c.onPw f).onPw g = c.onPw (g ∘ f) := rfl

/-- Behind what a failure takes down, only the end of a loss of reference and the power sequencer follow. -/
theorem Chip.wakeFail_eq {c : Chip} (kind n time : Nat) (h : c.mode.edge ≠ some .e13) :
    ∃ f, c.wakeFail kind n time =
      ((c.failForced kind n time).failDown.onCk fun k => { k with reflost := false }).onPw f := by
  obtain ⟨f, hf⟩ := Chip.backoutIfDone_eq_onPw (((c.failForced kind n time).failDown.onCk fun k =>
    { k with reflost := false }).onPw fun p => { p with step := none })
  rw [Chip.onPw_onPw] at hf
  unfold Chip.wakeFail
  rw [if_neg h]
  exact ⟨_, hf⟩

theorem Chip.killLow_of_e13Dark {c : Chip} (h : c.lk.e13Dark = true) : c.killLow = true := by
  simp [Chip.killLow, Chip.darkReq, h]

/-- A regulator failure is taken over every edge but E13 itself. -/
theorem Chip.wakeFail_taken (c : Chip) {kind n : Nat} (time : Nat) (hk : kind < 4) (hn : n < 4)
    (h : c.mode.edge ≠ some .e13) : (c.wakeFail kind n time).wakeFailed kind n time := by
  obtain ⟨hnoted, hedge, htarget, hforced⟩ := Chip.failForced_spec kind n time h
  obtain ⟨hA, hB, hdown, hlk, hb⟩ := (c.failForced kind n time).failDown_spec
  obtain ⟨hkind, hstep, htime⟩ := c.failNoted_fields time hk hn
  have hmode := congrArg Course.mode hb
  have hdark : (c.failForced kind n time).lk.e13Dark = true := by rw [Chip.failForced, Chip.onLk_lk]
  rw [← hlk] at hdark
  have hstat := hdown.trans hnoted
  obtain ⟨f, heq⟩ := Chip.wakeFail_eq kind n time h
  rw [heq]
  generalize (c.failForced kind n time).failDown = d at *
  refine ⟨(Chip.rd_of_wakeStat hstat (f := PWR_WAKE_STAT_FAIL_KIND) rfl).trans hkind,
    (Chip.rd_of_wakeStat hstat (f := PWR_WAKE_STAT_FAIL_STEP) rfl).trans hstep,
    (Chip.rd_of_wakeStat hstat (f := PWR_WAKE_STAT_FAIL_TIME) rfl).trans htime, (congrArg ModeMachine.edge hmode).trans hedge,
    (congrArg ModeMachine.target hmode).trans htarget, (congrArg ModeMachine.forced hmode).trans hforced,
    Chip.killLow_of_e13Dark hdark, hA, hB⟩

/-- Settles O7: a step ends with the start of the next one; a failure is taken over every edge but E13. -/
theorem regulatorSteps : Obligations.RegulatorSteps := by
  unfold Obligations.RegulatorSteps
  refine ⟨⟨fun s n m hs hstep he hnm hm hu hlow => ⟨fun hpg => ⟨?_, ?_⟩, fun hno => ⟨?_, ?_, fun time => ?_⟩⟩,
    fun s n hs hback hn hen hlow => ?_, fun s hs hback => ?_⟩,
    fun s n time hs hstep hn he hpg => ?_, fun s n time hs hn hmat he => ?_, fun s n time hs hmat => ?_⟩
  · rw [exec_regStepComplete hs hstep he, if_pos hpg, Chip.stepDone, Chip.nextStep_onPw _ rfl hnm hm hu hlow]
    rfl
  · rw [exec_regStepFixedExpire hs hstep he, if_neg (by simp [hpg])]
  · rw [exec_regStepFixedExpire hs hstep he, if_pos hno, Chip.nextStep_onPw _ rfl hnm hm hu hlow]
    rfl
  · rw [exec_regStepComplete hs hstep he, if_neg (by simp [hno])]
  · rw [exec_regStepTimeout hs hstep he, if_neg (by simp [hno])]
  · rw [exec_backoutDwellExpire hs, if_pos hback, Chip.lowerEn_of_backout hback hn hen hlow]
    rfl
  · rw [exec_backoutDwellExpire hs, if_neg (by simp [hback])]
  · refine ⟨_, exec_regStepTimeout hs hstep he time, ?_⟩
    rw [if_pos hpg]
    exact ⟨s.chip.wakeFail_taken time (by decide) hn (by simp [he]), s.chip.wakeFail_seat 1 n time⟩
  · refine ⟨_, exec_pgLost_of_matters hs time hmat, Chip.wakeFail_taken _ time (by decide) hn he, ?_⟩
    rw [Chip.wakeFail_seat, Chip.onPw_seat]
  · exact exec_pgLost_of_not_matters hs time hmat

end Sys2Proof.Machine
end

section
/-! SUPPORT. Where the completion of a domain switch does more than the statement says (R215, R589): a moored part, whose
Mooring the switch of another domain ends. -/

namespace Sys2Proof.Machine

open Sys2Proof

/-! ### A domain switch outside an edge -/

theorem Chip.edgePlls_of_settled {c : Chip} (h : c.mode.edge = none) : c.edgePlls = c := by
  simp [Chip.edgePlls, h]

theorem Chip.backoutIfDone_of_settled {c : Chip} (h : c.mode.edge = none) : c.backoutIfDone = c := by
  simp [Chip.backoutIfDone, Chip.sleeping, h]

/-- Outside an edge the front switch of the queue completes, and nothing follows it. -/
theorem exec_domainSwitchComplete_of_settled {s : State} {x : Nat × PdState} {rest : List (Nat × PdState)} (hs : s.runs)
    (hq : s.chip.pw.queue = x :: rest) (he : s.chip.mode.edge = none) : exec .domainSwitchComplete s =
      .next { s with chip := (s.chip.switchOne x).onPw fun p => { p with queue := rest } } := by
  have hedge : ((s.chip.switchOne x).onPw fun p => { p with queue := rest }).mode.edge = none :=
    (congrArg (fun b => b.mode.edge) (s.chip.switchOne_bearing x)).trans he
  simp [exec, execDomainSwitchComplete, State.effect_of_runs hs, hq, Chip.edgePlls_of_settled hedge,
    Chip.backoutIfDone_of_settled hedge]

theorem Chip.onPw_queue_pdState (c : Chip) (q : List (Nat × PdState)) (d : Nat) :
    (c.onPw fun p => { p with queue := q }).pdState d = c.pdState d := rfl

theorem Chip.takeUses_pdState (c before : Chip) (d : Nat) : (c.takeUses before).pdState d = c.pdState d := by
  rw [(c.takeUses_onlyRegs before).1]
  rfl

/-! ### The end of Mooring by a source of the Lockkeeper -/

/-- A source whose release changes the SAFE show output ends Mooring (R589). -/
theorem Chip.srcOff_of_safeShow {c : Chip} {n : Nat} (h : (c.srcRelease n).safeShow ≠ c.safeShow) :
    c.srcOff n = (c.srcRelease n).moorExit 4 := by
  simp [Chip.srcOff, Chip.withSafe, h]

/-- Moored in PANEL, scan-out A from its store and channel A in deep self-refresh behind PD04 in RET; scan-out B, stopped,
still holds the output-CRC source of the Lockkeeper, which asks for the SAFE show, and its domain PD38, no longer
requested, is on the way to RET. -/
def mooredPart : State :=
  { State.reset with chip := { Chip.reset with
      pins := { Pins.reset with por := false }
      mode := { ModeMachine.reset with mode := .panel, moored := true }
      pw := { Power.reset with pd := (List.replicate 52 .on).set 4 .ret, queue := [(38, .ret)] }
      lk := { Lockkeeper.reset with asserted := 2 ^ 7 }
      soB := { ScanOut.reset with crcBad := true }
      regs := [(MCA_STAT_STATE.addr, 4#32), (SOA_STAT_STATE.addr, 2#32), (LKK_ACTIVE_A.addr, 0x80#32),
        ((srcF 7 LKK_SRC0_CFG).addr, 0x9#32)] } }

/-- The part with PD38 in RET. -/
def droppedPart : Chip := mooredPart.chip.applySwitch (38, .ret)

/-- In RET scan-out B no longer drives the source (R215): it is released. -/
theorem mooredPart_switchOne :
    mooredPart.chip.switchOne (38, .ret) = (droppedPart.srcOff 7).takeUses mooredPart.chip := rfl

/-- With the source the SAFE show ends, and the end of Mooring brings PD04 up for the channel that sleeps. -/
theorem droppedPart_srcOff : (droppedPart.srcOff 7).pdState 4 = .on := by
  have hshow : droppedPart.safeShow = true := rfl
  have hends : (droppedPart.srcRelease 7).safeShow = false := rfl
  rw [Chip.srcOff_of_safeShow (by rw [hshow, hends]; decide)]
  rfl

/-- Refutes O8: the completion of PD38's switch to RET takes PD04 from RET to ON, for it releases the source of the
Lockkeeper that scan-out B drove, and the change of the SAFE show output ends Mooring (R215, R589). -/
theorem not_domainRequests : ¬ Obligations.DomainRequests := by
  unfold Obligations.DomainRequests
  rintro ⟨⟨hswitch, -⟩, -⟩
  obtain ⟨d, hd, hpw, -⟩ := hswitch mooredPart (38, .ret) [] rfl rfl rfl
  rw [exec_domainSwitchComplete_of_settled (s := mooredPart) rfl rfl rfl, mooredPart_switchOne] at hd
  simp only [Host.Outcome.next.injEq, State.mk.injEq, and_true] at hd
  have kept : d.pdState 4 = .ret := by
    rw [Chip.pdState, hpw]
    rfl
  have woken : d.pdState 4 = .on := by
    rw [← hd, Chip.onPw_queue_pdState, Chip.takeUses_pdState, droppedPart_srcOff]
  rw [kept] at woken
  cases woken

end Sys2Proof.Machine
end

section
/-! SUPPORT. That the stores change at the commands of `mayStore` only (R281, R296, R311, R764): what every other command
answers. -/

namespace Sys2Proof.Machine

open Sys2Proof

/-- The commands stand together by what their effect is made of; every gate, and every operation of a command that stores
nothing, leaves the stores as they are. -/
theorem exec_stores (i : Instr) (s : State) (hi : mayStore i = false) : Answers Chip.stores s (exec i s) := by
  cases i with dsimp only [exec]
  -- The commands that may store.
  | alertFall | apertureComplete | bargeFence | bargeLut | bargeManifest | bargeOsd | bargeUnknown | bistPhase1Done |
    bistPhase2Done | bodyReadDone | bpsFrameWritten | bscFrameWritten | calibrateEntered | calibrateExited |
    ckgDomWrite | composeLineStart | counterClear | domainSwitchComplete | fhostCmdDone | fhostTimeout |
    flattenBuildDone | frameBoundary | freezeSrEntered | holdEntered | i2cStretchTimeout | idataHiRead |
    internalWriteComplete | ispOutputFrameDone | ldrHeaderRead | ledgerAttemptStart | ledgerBusyClear |
    ledgerBusyTimeout | ledgerReadbackDone | loadComplete | loadEntered | loadFailExit | mcInitGo | mfstFetchDone |
    migCopyLine | modeRequest | monGateEnd | movConvert | movCopy | movFill | pgLost | pictureModeEntered |
    pllLockLoss | pllLockTimeout | porAssert | pprDone | prefetchComplete | reflostComplete | regStepTimeout |
    registerWrite | schedulerIssue | scrubReadReturn | sectionRead | seedVisitDue | soCommitGo | sleepComplete |
    standbyEntered | sweepGo | tapCsrComplete | vinFrameStart | vinLine | wakeComplete | wakeFailComplete |
    wharfReadTransaction | wharfWriteTransaction | xinGlitch | xinStop => cases hi
  -- A command of the TAP, and the end of power-on reset: not held back by power-on reset.
  | tapReset | tapIdcode | tapCsrRequest | tapBypass | porRelease =>
    refine effectAlways_answers fun c => ?_
    simp
  -- A choice by what is waiting; below it, one with local values.
  | readDataReturn | soCrcCheck | twpReturnRun | regStepComplete | regStepFixedExpire | ispFrameEnd |
    rtxFrameSendStart | rtxFrameSent | movJobDone | bpsResetStrobe | mxRowOnEnd =>
    refine effect_answers fun c => ?_
    (repeat' split) <;> simp
  | mifBlockLoadDone | vinLinkLoss | sluiceExitStart =>
    refine effect_answers fun c => ?_
    dsimp only
    (repeat' split) <;> simp
  -- Operations behind a gate, or a choice between them by a condition.
  | _ =>
    refine effect_answers fun c => ?_
    simp

/-- Settles O58, by what each command answers: its stores are those before it. -/
theorem onlyStoringCommandsStore : Obligations.OnlyStoringCommandsStore := by
  unfold Obligations.OnlyStoringCommandsStore
  exact exec_stores

end Sys2Proof.Machine
end

section
/-! SUPPORT. Appends to the repair ledger (R289-R296): a record that fails, a record that is requested, and the attempt in
progress from its program to its end. -/

namespace Sys2Proof.Machine

open Sys2Proof

/-! ### What the event log takes -/

section

variable {c d : Chip} {as : List Nat}

theorem Chip.onlyLk.refl (c : Chip) (as : List Nat) : c.onlyLk c as := ⟨rfl, .refl c as⟩

theorem Chip.onlyLk.wr (h : c.onlyLk d as) {f : Field} (v : Nat) (hf : f.addr ∈ as) : c.onlyLk (d.wr f v) as := by
  refine ⟨?_, h.2.wr v hf⟩
  rw [h.1]
  rfl

theorem Chip.onlyLk.onLk (h : c.onlyLk d as) (f : Lockkeeper → Lockkeeper) : c.onlyLk (d.onLk f) as := by
  refine ⟨?_, h.2⟩
  rw [h.1]
  rfl

theorem Chip.onlyLk.evt (h : c.onlyLk d as) (n : Nat) : c.onlyLk (d.evt n) as := by
  refine ⟨?_, h.2⟩
  rw [h.1]
  rfl

/-- A record of another block writes SEQ, and Q_LOST where the queue is full. -/
theorem Chip.onlyLk.logRecord (h : c.onlyLk d as) (hs : LKK_LOG_SEQ.addr ∈ as) (hc : LKK_LOG_CNT.addr ∈ as)
    (type flags unit data : Nat) : c.onlyLk (d.logRecord type flags unit data) as := by
  have hseq : c.onlyLk d.takeSeq as := h.wr (f := LKK_LOG_SEQ_SEQ) _ hs
  unfold Chip.logRecord
  split
  · exact hseq.onLk _
  · exact ((hseq.wr (f := LKK_LOG_CNT_Q_LOST) _ hc).onLk _).evt _

end

theorem Chip.queue_logRecord (c : Chip) (type flags unit data : Nat) (h : c.lk.queue.length < 8) :
    (c.logRecord type flags unit data).lk.queue = c.lk.queue ++ [c.newRec type flags unit data] := by
  unfold Chip.logRecord
  rw [if_pos h]
  rfl

theorem Chip.queue_prefix_logRecord (c : Chip) (type flags unit data : Nat) :
    c.lk.queue <+: (c.logRecord type flags unit data).lk.queue := by
  unfold Chip.logRecord
  split
  · exact List.prefix_append ..
  · exact List.prefix_rfl

/-! ### A record whose append fails -/

/-- The registers of a failure: SEQ and Q_LOST of the event log, and LDR_LEDGER_CNT. -/
def ledgerFailRegs : List Nat := [LKK_LOG_SEQ.addr, LKK_LOG_CNT.addr, LDR_LEDGER_CNT.addr]

section

variable (c : Chip) (r : LedgerReq) (why : Nat)

theorem Chip.ledgerToLog_onlyLk : c.onlyLk (c.ledgerToLog r why) [LKK_LOG_SEQ.addr, LKK_LOG_CNT.addr] := by
  have h := (Chip.onlyLk.refl c _).logRecord (as := [LKK_LOG_SEQ.addr, LKK_LOG_CNT.addr]) (by decide) (by decide)
  unfold Chip.ledgerToLog
  split
  · exact (h ..).logRecord (by decide) (by decide) ..
  · exact h ..

/-- An empty queue of the event log begins with the record of the failure. -/
theorem Chip.queue_ledgerToLog (h : c.lk.queue = []) : ∃ rest, (c.ledgerToLog r why).lk.queue =
    c.newRec 6 (1 + 16 * why) r.unit (r.kind + 256 * (r.data.getD 0 0 % 256) + 65536 * (r.data.getD 1 0 % 256) +
      16777216 * (r.data.getD 2 0 % 256)) :: rest := by
  have h1 := fun data => c.queue_logRecord 6 (1 + 16 * why) r.unit data (by simp [h])
  unfold Chip.ledgerToLog
  extract_lets b c1
  split
  · obtain ⟨rest, hrest⟩ := c1.queue_prefix_logRecord 7 0 0 (b 3 + 256 * b 4 + 65536 * b 5 + 16777216 * b 6)
    exact ⟨rest, by rw [← hrest, h1, h]; rfl⟩
  · exact ⟨[], by rw [h1, h]; rfl⟩

theorem Chip.ledgerFail_onlyLk : c.onlyLk (c.ledgerFail r why) ledgerFailRegs := by
  obtain ⟨hd, hs⟩ := c.ledgerToLog_onlyLk r why
  have h : c.onlyLk (c.ledgerToLog r why) ledgerFailRegs := ⟨hd, hs.mono (by decide)⟩
  exact (h.wr (f := LDR_LEDGER_CNT_FAILED) _ (by decide)).evt _

theorem Chip.ledgerFail_ld : (c.ledgerFail r why).ld = c.ld := by rw [(c.ledgerFail_onlyLk r why).1]

theorem Chip.appendFailed_ledgerFail (hw : why < 16) : c.appendFailed (c.ledgerFail r why) r why := by
  refine ⟨?_, ?_, c.ledgerFail_stores r why, c.ledgerFail_seat r why, fun hq => ?_⟩
  · exact ((c.ledgerToLog r why).rd_wr_same LDR_LEDGER_CNT_FAILED _ (by decide)).trans
      (by rw [(c.ledgerToLog_onlyLk r why).2.rd (by decide)]; exact Nat.mod_eq_of_lt (satAdd_lt ..))
  · exact Chip.evt_getLsbD _ evLedger (by decide)
  · obtain ⟨rest, hrest⟩ := c.queue_ledgerToLog r why hq
    have hv : c.rd LKK_CAL_CTL_CAL_VALID < 2 := Field.get_lt LKK_CAL_CTL_CAL_VALID _
    refine ⟨_, rest, hrest, rfl, rfl, ?_, ?_⟩
    · simp only [Chip.newRec]
      omega
    · simp only [Chip.newRec]
      omega

end

/-! ### The request of a record -/

theorem Chip.rd_bump_same (c : Chip) (f : Field) (k : Nat) (h : f.inside = true) :
    (c.bump f k).rd f = satAdd f.width (c.rd f) k :=
  (c.rd_wr_same f _ h).trans (Nat.mod_eq_of_lt (satAdd_lt ..))

theorem withBit_true_testBit (v n : Nat) : (withBit v n true).testBit n = true :=
  (Nat.testBit_lor v (2 ^ n) n).trans (by rw [Nat.testBit_two_pow_self, Bool.or_true])

theorem Chip.pdreq_setPdreq (c : Chip) (d : Nat) (h : d < 32) : (c.setPdreq d true).pdreq d = true := by
  unfold Chip.setPdreq Chip.pdreq Chip.bit Chip.setBit
  rw [if_pos h, if_pos h, Chip.rd_wr_same _ _ _ (by decide), Nat.testBit_mod_two_pow, withBit_true_testBit, Bool.and_true]
  exact decide_eq_true h

/-- A register that no domain of the clock generator has keeps PWR_PDREQ. -/
theorem Chip.pdreq_domEnable (c : Chip) (n d : Nat) (h : domAddr n < 0x10000) : (c.domEnable n).pdreq d = c.pdreq d := by
  have hlo := c.get_setReg_ne (domAddr n) PWR_PDREQ_LO.addr
    (c.get (domAddr n) ||| (BitVec.ofNat 32 (2 ^ c.classBit) &&& rwBits (domAddr n))) (by simp only [PWR_PDREQ_LO]; omega)
  have hhi := c.get_setReg_ne (domAddr n) PWR_PDREQ_HI.addr
    (c.get (domAddr n) ||| (BitVec.ofNat 32 (2 ^ c.classBit) &&& rwBits (domAddr n))) (by simp only [PWR_PDREQ_HI]; omega)
  unfold Chip.pdreq
  split
  · exact congrArg (fun w => (PWR_PDREQ_LO_REQ.get w).testBit d) hlo
  · exact congrArg (fun w => (PWR_PDREQ_HI_REQ.get w).testBit (d - 32)) hhi

/-- A waiting record sets PD12's request bit. -/
theorem Chip.pdreq_ledgerHold (c : Chip) (h : c.ld.queue ≠ []) : c.ledgerHold.pdreq 12 = true := by
  have hset : ((c.setPdreq 12 true).domEnable 21).pdreq 12 = true := by
    rw [Chip.pdreq_domEnable _ _ _ (by decide), Chip.pdreq_setPdreq _ _ (by decide)]
  unfold Chip.ledgerHold
  rw [if_neg (by simpa using h)]
  dsimp only
  split
  · exact hset
  · rw [Chip.pdPlan_onlyPw]
    exact hset

@[simp] theorem Chip.setPdreq_ld (c : Chip) (d : Nat) (b : Bool) : (c.setPdreq d b).ld = c.ld := by
  unfold Chip.setPdreq; split <;> rfl

@[simp] theorem Chip.domEnable_ld (c : Chip) (n : Nat) : (c.domEnable n).ld = c.ld := (rfl)

@[simp] theorem Chip.pdPlan_ld (c : Chip) : c.pdPlan.ld = c.ld := by rw [Chip.pdPlan_onlyPw]

@[simp] theorem Chip.ledgerHold_ld (c : Chip) : c.ledgerHold.ld = c.ld := by
  unfold Chip.ledgerHold
  (repeat' split) <;> simp

section

variable {c : Chip} {r : LedgerReq}

/-- The flash has stopped (R296). -/
theorem Chip.ledgerRequest_stopped (h : c.flashStopped = true) : c.ledgerRequest r = c.ledgerFail r 5 := if_pos h

theorem Chip.ledgerRequest_noLedger (h : c.flashStopped = false) (h0 : c.ld.ledgerSect = 0) :
    c.ledgerRequest r = c.ledgerFail r 3 := by
  unfold Chip.ledgerRequest
  rw [h, if_neg (by decide), if_pos h0]
  rfl

/-- A duplicate is suppressed (R289). -/
theorem Chip.ledgerRequest_known (h : c.flashStopped = false) (h0 : c.ld.ledgerSect ≠ 0) (hk : r.key ∈ c.ld.keys) :
    c.ledgerRequest r = c.bump LDR_LEDGER_CNT_SUPPRESSED 1 := by
  unfold Chip.ledgerRequest
  rw [h, if_neg (by decide), if_neg h0, if_pos (by simpa using hk)]

/-- Appends are off, or 16 records wait (R293). -/
theorem Chip.ledgerRequest_dropped (h : c.flashStopped = false) (h0 : c.ld.ledgerSect ≠ 0) (hk : r.key ∉ c.ld.keys)
    (hd : c.flag LDR_LEDGER_CTL_APPEND_EN = false ∨ 16 ≤ c.ld.queue.length) :
    c.ledgerRequest r = c.ledgerFail r 2 := by
  unfold Chip.ledgerRequest
  rw [h, if_neg (by decide), if_neg h0, if_neg (by simpa using hk), if_pos (by simpa using hd)]
  rfl

theorem Chip.ledgerRequest_queued (h : c.flashStopped = false) (h0 : c.ld.ledgerSect ≠ 0) (hk : r.key ∉ c.ld.keys)
    (he : c.flag LDR_LEDGER_CTL_APPEND_EN = true) (hq : c.ld.queue.length < 16) :
    c.ledgerRequest r = (c.onLd fun l => { l with queue := l.queue ++ [r] }).ledgerHold := by
  unfold Chip.ledgerRequest
  rw [h, if_neg (by decide), if_neg h0, if_neg (by simpa using hk), if_neg (by simp [he, hq])]

end

theorem exec_ledgerAppendRequest {s : State} (hs : s.runs) (kind unit flags : Nat) (data : List Nat) :
    exec (.ledgerAppendRequest kind unit flags data) s =
      .next { s with chip := s.chip.ledgerRequest ⟨kind % 256, unit % 65536, flags % 65536, data⟩ } :=
  State.effect_of_runs hs fun c => c.ledgerRequest ⟨kind % 256, unit % 65536, flags % 65536, data⟩

/-! ### An attempt starts -/

theorem Chip.recordBytes_length (c : Chip) (r : LedgerReq) : (c.recordBytes r).length = 32 := by
  simp [Chip.recordBytes, LedgerReq.tail, LedgerReq.dataBytes, toLe_length]

/-- What a failure reports does not depend on what the part held before beside the count, the stores, the mode and the
event log. -/
theorem Chip.appendFailed.of_before {b c d : Chip} {r : LedgerReq} {why : Nat} (h : c.appendFailed d r why)
    (hcnt : c.rd LDR_LEDGER_CNT_FAILED = b.rd LDR_LEDGER_CNT_FAILED) (hst : c.stores = b.stores)
    (hseat : c.seat = b.seat) (hlk : c.lk = b.lk) : b.appendFailed d r why := by
  unfold Chip.appendFailed at h ⊢
  rwa [hcnt, hst, hseat, hlk] at h

section

variable {c : Chip} {r : LedgerReq} {rest : List LedgerReq} (hq : c.ld.queue = r :: rest)

include hq

theorem Chip.attemptStart_known (hs : c.ld.rescan = false) (hk : r.key ∈ c.ld.keys) :
    c.attemptStart = (c.bump LDR_LEDGER_CNT_SUPPRESSED 1).popRecord := by
  unfold Chip.attemptStart
  simp [hq, hs, hk]

/-- No slot remains (R293). -/
theorem Chip.attemptStart_full (hs : c.ld.rescan = false) (hk : r.key ∉ c.ld.keys)
    (hn : c.ld.slots ≤ c.rd LDR_LEDGER_STAT_NEXT) : c.attemptStart = c.popRecord.ledgerFail r 1 := by
  unfold Chip.attemptStart
  simp [hq, hs, hk, hn, whyFull]

theorem Chip.attemptStart_program (hs : c.ld.rescan = false) (hk : r.key ∉ c.ld.keys)
    (hn : c.rd LDR_LEDGER_STAT_NEXT < c.ld.slots) : c.attemptStart =
      (c.flashProgram (c.ld.slotAddr (c.rd LDR_LEDGER_STAT_NEXT) + 1) ((c.recordBytes r).drop 1)).onLd fun l =>
        { l with stage := .body, slotBytes := c.recordBytes r } := by
  unfold Chip.attemptStart
  simp [hq, hs, hk, Nat.not_le.mpr hn]

end

theorem Chip.attemptStart_nil {c : Chip} (h : c.ld.queue = []) : c.attemptStart = c := by
  unfold Chip.attemptStart
  rw [h]

theorem exec_ledgerAttemptStart {s : State} (hs : s.runs) : exec .ledgerAttemptStart s =
    .next { s with chip := if s.chip.appendMay then s.chip.attemptStart else s.chip } :=
  State.effect_of_runs hs _

/-- Bytes 1-31 of a slot are programmed, its MARK is not (R291). -/
theorem Chip.flashByte_program_body (c : Chip) (at0 : Nat) (bs : List Byte) (hb : bs.length = 32) (a : Nat) :
    (c.flashProgram (at0 + 1) (bs.drop 1)).flashByte a =
      if at0 < a ∧ a < at0 + 32 then c.flashByte a &&& bs.getD (a - at0) 0 else c.flashByte a := by
  rw [Chip.flashByte_flashProgram, List.length_drop, hb]
  by_cases h : at0 < a ∧ a < at0 + 32
  · have hi : a - (at0 + 1) + 1 = a - at0 := by omega
    rw [if_pos h, if_pos (by omega)]
    simp [hi]
  · rw [if_neg h, if_neg (by omega)]

/-! ### An attempt goes on -/

/-- One byte of flash programmed. -/
theorem Chip.flashByte_program_one (c : Chip) (p : Nat) (x : Byte) (a : Nat) :
    (c.flashProgram p [x]).flashByte a = if a = p then c.flashByte a &&& x else c.flashByte a := by
  rw [Chip.flashByte_flashProgram, List.length_singleton]
  by_cases h : a = p
  · rw [if_pos (by omega), if_pos h]
    simp [h]
  · rw [if_neg (by omega), if_neg h]

theorem Chip.giveFlash_onlyRun (c : Chip) :
    c.giveFlash = { c with wh := { c.wh with runFlash := c.giveFlash.wh.runFlash } } := by
  unfold Chip.giveFlash
  split <;> rfl

/-- A fetch that waits does not get the flash while an attempt uses it. -/
theorem Chip.giveFlash_of_stage {c : Chip} (h : c.ld.stage ≠ .idle) : c.giveFlash = c := by
  simp [Chip.giveFlash, Chip.flashIdle, h]

theorem Chip.appendFailed.giveFlash {c d : Chip} {r : LedgerReq} {why : Nat} (h : c.appendFailed d r why) :
    c.appendFailed d.giveFlash r why := by
  rw [d.giveFlash_onlyRun]
  exact h

section

variable (c : Chip)

theorem Chip.nextSlot_onlyRegs : c.onlyRegs c.nextSlot [LDR_LEDGER_STAT.addr] :=
  (Chip.onlyRegs.refl c _).wr (f := LDR_LEDGER_STAT_NEXT) _ (by decide)

theorem Chip.rd_nextSlot : c.nextSlot.rd LDR_LEDGER_STAT_NEXT = (c.rd LDR_LEDGER_STAT_NEXT + 1) % 4096 :=
  c.rd_wr_same LDR_LEDGER_STAT_NEXT _ (by decide)

theorem Chip.attemptFail_flashByte (a : Nat) : c.attemptFail.flashByte a =
    if a = c.ld.slotAddr (c.rd LDR_LEDGER_STAT_NEXT) then 0 else c.flashByte a := by
  refine (c.flashByte_program_one _ 0#8 a).trans ?_
  simp

/-- The slot is given up: the next one is taken, and the attempt has ended. -/
theorem Chip.attemptOver_slot :
    c.attemptOver.rd LDR_LEDGER_STAT_NEXT = (c.rd LDR_LEDGER_STAT_NEXT + 1) % 4096 ∧ c.attemptOver.ld.stage = .idle := by
  unfold Chip.attemptOver
  dsimp only
  split
  · exact ⟨c.rd_nextSlot, rfl⟩
  next r _ _ =>
    split
    · rw [(c.nextSlot.popRecord.ledgerFail_onlyLk r whyAttempts).2.rd (by decide), Chip.ledgerFail_ld]
      exact ⟨c.rd_nextSlot, rfl⟩
    · exact ⟨c.rd_nextSlot, rfl⟩

variable {c} {r : LedgerReq} {rest : List LedgerReq} (hq : c.ld.queue = r :: rest)

include hq

/-- The third attempt was the last (R293). -/
theorem Chip.attemptOver_last (h : 2 ≤ c.ld.attempts) :
    c.attemptOver = c.nextSlot.popRecord.ledgerFail r 4 := by
  unfold Chip.attemptOver
  simp only [hq]
  exact if_pos (by omega)

theorem Chip.attemptOver_again (h : c.ld.attempts < 2) : c.attemptOver =
    c.nextSlot.onLd fun l => { l with stage := .idle, attempts := c.ld.attempts + 1, slotBytes := [] } := by
  unfold Chip.attemptOver
  simp only [hq]
  exact if_neg (by omega)

/-- A slot marked dead, and the record that was written to it (R291, R293). -/
theorem Chip.attemptOver_record :
    (2 ≤ c.ld.attempts → c.appendFailed c.attemptOver r 4 ∧ c.attemptOver.ld.queue = rest ∧
      c.attemptOver.ld.attempts = 0) ∧
    (c.ld.attempts < 2 → c.attemptOver.ld.queue = c.ld.queue ∧ c.attemptOver.ld.attempts = c.ld.attempts + 1) := by
  refine ⟨fun h => ?_, fun h => ?_⟩
  · rw [Chip.attemptOver_last hq h, Chip.ledgerFail_ld]
    refine ⟨?_, ?_, rfl⟩
    · exact (Chip.appendFailed_ledgerFail _ r 4 (by decide)).of_before (c.nextSlot_onlyRegs.2.rd (by decide)) rfl rfl rfl
    · exact congrArg (List.drop 1) hq
  · rw [Chip.attemptOver_again hq h]
    exact ⟨rfl, rfl⟩

end

theorem Chip.attemptOver_flash (c : Chip) : c.attemptOver.flash = c.flash := congrArg Stores.flash c.attemptOver_stores

theorem Chip.attemptOver_dram (c : Chip) : c.attemptOver.dram = c.dram := congrArg Stores.dram c.attemptOver_stores

/-- A wait that goes on, or that does not end, changes no byte outside the slot, and no DRAM. -/
theorem Chip.appendReady_frame (c : Chip) :
    c.appendReady.dram = c.dram ∧
      ∀ a, a ≠ c.ld.slotAddr (c.rd LDR_LEDGER_STAT_NEXT) → c.appendReady.flashByte a = c.flashByte a := by
  unfold Chip.appendReady
  split
  · exact ⟨rfl, fun _ _ => rfl⟩
  · exact ⟨rfl, fun a ha => (c.flashByte_program_one _ _ a).trans (if_neg ha)⟩
  · exact ⟨c.attemptOver_dram, fun a _ => Chip.flashByte_congr c.attemptOver_flash a⟩
  · exact ⟨rfl, fun _ _ => rfl⟩

theorem Chip.attemptFail_of_flashOpen (c : Chip) (p n : Nat) :
    (c.flashOpen p n).attemptFail.ld = { c.ld with stage := .dead } ∧
    (c.flashOpen p n).attemptFail.dram = c.dram ∧ c.sameBut (c.flashOpen p n).attemptFail [] ∧
    ∀ a, (c.flashOpen p n).attemptFail.flashByte a =
      if a = c.ld.slotAddr (c.rd LDR_LEDGER_STAT_NEXT) then 0 else (c.flashOpen p n).flashByte a :=
  ⟨rfl, rfl, fun _ _ => rfl, (c.flashOpen p n).attemptFail_flashByte⟩

theorem Chip.appendTimeout_frame (c : Chip) :
    c.appendTimeout.dram = c.dram ∧
      ∀ a, a < c.ld.slotAddr (c.rd LDR_LEDGER_STAT_NEXT) ∨ c.ld.slotAddr (c.rd LDR_LEDGER_STAT_NEXT) + 32 ≤ a →
        c.appendTimeout.flashByte a = c.flashByte a := by
  unfold Chip.appendTimeout
  dsimp only
  split
  · obtain ⟨-, hdram, -, hbyte⟩ := c.attemptFail_of_flashOpen (c.ld.slotAddr (c.rd LDR_LEDGER_STAT_NEXT) + 1) 31
    refine ⟨hdram, fun a ha => ?_⟩
    rw [hbyte, if_neg (by omega), Chip.flashByte_flashOpen _ _ _ _ (by omega)]
  · obtain ⟨-, hdram, -, hbyte⟩ := c.attemptFail_of_flashOpen (c.ld.slotAddr (c.rd LDR_LEDGER_STAT_NEXT)) 1
    refine ⟨hdram, fun a ha => ?_⟩
    rw [hbyte, if_neg (by omega), Chip.flashByte_flashOpen _ _ _ _ (by omega)]
  · exact ⟨c.attemptOver_dram, fun a _ => Chip.flashByte_congr c.attemptOver_flash a⟩
  · exact ⟨rfl, fun _ _ => rfl⟩

section

variable {c : Chip}

theorem Chip.appendReady_body (h : c.ld.stage = .body) : c.appendReady = c.onLd fun l => { l with stage := .mark } := by
  simp [Chip.appendReady, h]

theorem Chip.appendReady_mark (h : c.ld.stage = .mark) : c.appendReady =
    (c.flashProgram (c.ld.slotAddr (c.rd LDR_LEDGER_STAT_NEXT)) [0x5C#8]).onLd fun l => { l with stage := .readback } := by
  simp [Chip.appendReady, h]

theorem Chip.appendTimeout_body (h : c.ld.stage = .body) : c.appendTimeout =
    (c.flashOpen (c.ld.slotAddr (c.rd LDR_LEDGER_STAT_NEXT) + 1) 31).attemptFail := by
  simp [Chip.appendTimeout, h]

theorem Chip.appendTimeout_mark (h : c.ld.stage = .mark) : c.appendTimeout =
    (c.flashOpen (c.ld.slotAddr (c.rd LDR_LEDGER_STAT_NEXT)) 1).attemptFail := by
  simp [Chip.appendTimeout, h]

end

/-- What the flash's answer to a wait does, LEDGER_BUSY_CLEAR or LEDGER_BUSY_TIMEOUT. -/
def Chip.appendWaited (c : Chip) (clear : Bool) : Chip := if clear then c.appendReady else c.appendTimeout

section

variable {c : Chip} (clear : Bool)

theorem Chip.appendWaited_still (h : c.ld.stage = .idle ∨ c.ld.stage = .readback) : c.appendWaited clear = c := by
  unfold Chip.appendWaited Chip.appendReady Chip.appendTimeout
  rcases h with h | h <;> simp [h]

theorem Chip.appendWaited_dead (h : c.ld.stage = .dead) : c.appendWaited clear = c.attemptOver := by
  unfold Chip.appendWaited Chip.appendReady Chip.appendTimeout
  simp [h]

theorem Chip.appendWaited_frame : (c.appendWaited clear).seat = c.seat ∧ (c.appendWaited clear).dram = c.dram ∧
    ∀ a, a < c.ld.slotAddr (c.rd LDR_LEDGER_STAT_NEXT) ∨ c.ld.slotAddr (c.rd LDR_LEDGER_STAT_NEXT) + 32 ≤ a →
      (c.appendWaited clear).flashByte a = c.flashByte a := by
  cases clear with
  | true =>
    obtain ⟨hdram, hbyte⟩ := c.appendReady_frame
    exact ⟨c.appendReady_seat, hdram, fun a ha => hbyte a (by omega)⟩
  | false => exact ⟨c.appendTimeout_seat, c.appendTimeout_frame⟩

end

theorem exec_ledgerBusyClear {s : State} (hs : s.runs) :
    exec .ledgerBusyClear s = .next { s with chip := (s.chip.appendWaited true).giveFlash } := by
  simp [exec, execLedgerBusyClear, State.effect_of_runs hs, Chip.appendWaited]

theorem exec_ledgerBusyTimeout {s : State} (hs : s.runs) :
    exec .ledgerBusyTimeout s = .next { s with chip := (s.chip.appendWaited false).giveFlash } := by
  simp [exec, execLedgerBusyTimeout, State.effect_of_runs hs, Chip.appendWaited]

/-! ### An attempt ends -/

section

variable (c : Chip) (r : LedgerReq)

theorem Chip.appended_frame : (c.appended r).ld.queue = c.ld.queue.drop 1 ∧ (c.appended r).ld.stage = .idle ∧
    (c.appended r).ld.attempts = 0 ∧ (c.appended r).ld.appended = c.ld.appended ++ [c.ld.slotBytes] ∧
    (c.appended r).flash = c.flash :=
  ⟨rfl, rfl, rfl, rfl, rfl⟩

/-- The key of the record joins the table while it has room (R292). -/
theorem Chip.key_mem_appended (h : c.ld.keys.length < 2048) : r.key ∈ (c.appended r).ld.keys := by
  have hk : (c.appended r).ld.keys = if c.ld.keys.length < 2048 then c.ld.keys ++ [r.key] else c.ld.keys := rfl
  rw [hk, if_pos h]
  exact List.mem_append_right _ List.mem_cons_self

theorem Chip.appended_regs : c.sameBut (c.appended r) [LDR_LEDGER_STAT.addr, LDR_LEDGER_CNT.addr] ∧
    (c.appended r).rd LDR_LEDGER_STAT_NEXT = (c.rd LDR_LEDGER_STAT_NEXT + 1) % 4096 ∧
    (c.appended r).rd LDR_LEDGER_CNT_APPENDED = satAdd 8 (c.rd LDR_LEDGER_CNT_APPENDED) 1 ∧
    (c.appended r).wh.evt.getLsbD evLedger = true := by
  obtain ⟨d, hd, hregs⟩ : ∃ d : Chip, c.appended r = (d.bump LDR_LEDGER_CNT_APPENDED 1).evt evLedger ∧
    d.regs = c.nextSlot.regs := ⟨_, rfl, rfl⟩
  have hget : ∀ a, d.get a = c.nextSlot.get a := fun a => by unfold Chip.get; rw [hregs]
  have hcnt : d.rd LDR_LEDGER_CNT_APPENDED = c.rd LDR_LEDGER_CNT_APPENDED :=
    (congrArg LDR_LEDGER_CNT_APPENDED.get (hget _)).trans (c.nextSlot_onlyRegs.2.rd (by decide))
  have hsame : c.sameBut d [LDR_LEDGER_STAT.addr, LDR_LEDGER_CNT.addr] := fun a ha =>
    (hget a).trans (c.nextSlot_onlyRegs.2.mono (bs := [LDR_LEDGER_STAT.addr, LDR_LEDGER_CNT.addr]) (by decide) a ha)
  rw [hd]
  refine ⟨hsame.wr (f := LDR_LEDGER_CNT_APPENDED) _ (by decide), ?_, ?_, Chip.evt_getLsbD _ evLedger (by decide)⟩
  · exact (Chip.rd_wr_clear d LDR_LEDGER_CNT_APPENDED _ _ (by decide)).trans
      ((congrArg LDR_LEDGER_STAT_NEXT.get (hget _)).trans c.rd_nextSlot)
  · exact (d.rd_bump_same LDR_LEDGER_CNT_APPENDED 1 (by decide)).trans (by rw [hcnt]; rfl)

end

theorem exec_ledgerReadbackDone {s : State} {r : LedgerReq} {rest : List LedgerReq} (hs : s.runs)
    (hst : s.chip.ld.stage = .readback) (hq : s.chip.ld.queue = r :: rest) (got : List Byte) :
    exec (.ledgerReadbackDone got) s = .next { s with chip :=
      if got = s.chip.ld.slotBytes then (s.chip.appended r).giveFlash else s.chip.attemptFail } := by
  simp [exec, execLedgerReadbackDone, State.effect_of_runs hs, hst, hq]

theorem exec_ledgerReadbackDone_other {s : State} (hs : s.runs)
    (h : s.chip.ld.stage ≠ .readback ∨ s.chip.ld.queue = []) (got : List Byte) :
    exec (.ledgerReadbackDone got) s = .next s := by
  simp only [exec, execLedgerReadbackDone, State.effect_of_runs hs]
  split
  next r rest hst hq => simp [hst, hq] at h
  next => rfl

/-! ### O49 -/

/-- What a requested record leaves. -/
theorem ledgerRequest_answers (c : Chip) (r : LedgerReq) :
    (c.ledgerRequest r).stores = c.stores ∧ (c.ledgerRequest r).seat = c.seat ∧
    (c.flashStopped = true → c.appendFailed (c.ledgerRequest r) r 5 ∧ (c.ledgerRequest r).ld = c.ld) ∧
    (c.flashStopped = false → c.ld.ledgerSect = 0 →
      c.appendFailed (c.ledgerRequest r) r 3 ∧ (c.ledgerRequest r).ld = c.ld) ∧
    (c.flashStopped = false → c.ld.ledgerSect ≠ 0 →
      (r.key ∈ c.ld.keys → c.onlyRegs (c.ledgerRequest r) [LDR_LEDGER_CNT.addr] ∧
        (c.ledgerRequest r).rd LDR_LEDGER_CNT_SUPPRESSED = satAdd 8 (c.rd LDR_LEDGER_CNT_SUPPRESSED) 1) ∧
      (r.key ∉ c.ld.keys →
        (c.flag LDR_LEDGER_CTL_APPEND_EN = false ∨ 16 ≤ c.ld.queue.length →
          c.appendFailed (c.ledgerRequest r) r 2 ∧ (c.ledgerRequest r).ld = c.ld) ∧
        (c.flag LDR_LEDGER_CTL_APPEND_EN = true → c.ld.queue.length < 16 →
          (c.ledgerRequest r).ld = { c.ld with queue := c.ld.queue ++ [r] } ∧
          (c.ledgerRequest r).pdreq 12 = true))) := by
  have failed : ∀ why, why < 16 → c.ledgerRequest r = c.ledgerFail r why →
      c.appendFailed (c.ledgerRequest r) r why ∧ (c.ledgerRequest r).ld = c.ld := fun why hw h => by
    rw [h]
    exact ⟨c.appendFailed_ledgerFail r why hw, c.ledgerFail_ld r why⟩
  refine ⟨c.ledgerRequest_stores r, c.ledgerRequest_seat r, fun h => failed 5 (by decide) (Chip.ledgerRequest_stopped h),
    fun h h0 => failed 3 (by decide) (Chip.ledgerRequest_noLedger h h0), fun h h0 => ⟨fun hk => ?_, fun hk => ⟨fun hd =>
      failed 2 (by decide) (Chip.ledgerRequest_dropped h h0 hk hd), fun he hq => ?_⟩⟩⟩
  · rw [Chip.ledgerRequest_known h h0 hk]
    exact ⟨(Chip.onlyRegs.refl c _).wr (f := LDR_LEDGER_CNT_SUPPRESSED) _ (by decide), c.rd_bump_same _ 1 (by decide)⟩
  · rw [Chip.ledgerRequest_queued h h0 hk he hq]
    exact ⟨Chip.ledgerHold_ld _, Chip.pdreq_ledgerHold _ (by simp [Chip.onLd])⟩

/-- What an attempt that starts leaves. -/
theorem attemptStart_answers (c : Chip) (r : LedgerReq) (rest : List LedgerReq) (hq : c.ld.queue = r :: rest)
    (hs : c.ld.rescan = false) :
    (r.key ∈ c.ld.keys → c.attemptStart.ld.queue = rest ∧ c.attemptStart.stores = c.stores ∧
      c.attemptStart.rd LDR_LEDGER_CNT_SUPPRESSED = satAdd 8 (c.rd LDR_LEDGER_CNT_SUPPRESSED) 1) ∧
    (r.key ∉ c.ld.keys → c.ld.slots ≤ c.rd LDR_LEDGER_STAT_NEXT →
      c.appendFailed c.attemptStart r 1 ∧ c.attemptStart.ld.queue = rest) ∧
    (r.key ∉ c.ld.keys → c.rd LDR_LEDGER_STAT_NEXT < c.ld.slots →
      c.attemptStart = { c with
        flash := c.attemptStart.flash, ld := { c.ld with stage := .body, slotBytes := c.recordBytes r } } ∧
      ∀ a, c.attemptStart.flashByte a =
        if c.ld.slotAddr (c.rd LDR_LEDGER_STAT_NEXT) < a ∧ a < c.ld.slotAddr (c.rd LDR_LEDGER_STAT_NEXT) + 32 then
          c.flashByte a &&& (c.recordBytes r).getD (a - c.ld.slotAddr (c.rd LDR_LEDGER_STAT_NEXT)) 0
        else c.flashByte a) := by
  have hpop : c.popRecord.ld.queue = rest := congrArg (List.drop 1) hq
  refine ⟨fun hk => ?_, fun hk hn => ?_, fun hk hn => ?_⟩
  · rw [Chip.attemptStart_known hq hs hk]
    exact ⟨hpop, rfl, c.rd_bump_same LDR_LEDGER_CNT_SUPPRESSED 1 (by decide)⟩
  · rw [Chip.attemptStart_full hq hs hk hn, Chip.ledgerFail_ld]
    exact ⟨(c.popRecord.appendFailed_ledgerFail r 1 (by decide)).of_before rfl rfl rfl rfl, hpop⟩
  · rw [Chip.attemptStart_program hq hs hk hn]
    exact ⟨rfl, c.flashByte_program_body _ _ (c.recordBytes_length r)⟩

/-- What the flash's answer to a wait leaves, whether it is ready or never will be. -/
theorem appendWaited_answers (c : Chip) (clear : Bool) :
    let n := c.rd LDR_LEDGER_STAT_NEXT
    let at0 := c.ld.slotAddr n
    let d := (c.appendWaited clear).giveFlash
    d.seat = c.seat ∧ d.dram = c.dram ∧
    (∀ a, a < at0 ∨ at0 + 32 ≤ a → d.flashByte a = c.flashByte a) ∧
    (c.ld.stage = .idle ∨ c.ld.stage = .readback → d = { c with wh := { c.wh with runFlash := d.wh.runFlash } }) ∧
    (clear = true → c.ld.stage = .body → d = { c with ld := { c.ld with stage := .mark } }) ∧
    (clear = true → c.ld.stage = .mark → d = { c with flash := d.flash, ld := { c.ld with stage := .readback } } ∧
      ∀ a, d.flashByte a = if a = at0 then c.flashByte a &&& 0x5C#8 else c.flashByte a) ∧
    (clear = false → c.ld.stage = .body ∨ c.ld.stage = .mark →
      d.ld = { c.ld with stage := .dead } ∧ d.flashByte at0 = 0 ∧ c.sameBut d []) ∧
    (c.ld.stage = .dead → d.rd LDR_LEDGER_STAT_NEXT = (n + 1) % 4096 ∧ d.ld.stage = .idle ∧ d.stores = c.stores ∧
      ∀ r rest, c.ld.queue = r :: rest →
        (2 ≤ c.ld.attempts → c.appendFailed d r 4 ∧ d.ld.queue = rest ∧ d.ld.attempts = 0) ∧
        (c.ld.attempts < 2 → d.ld.queue = c.ld.queue ∧ d.ld.attempts = c.ld.attempts + 1)) := by
  intro n at0 d
  obtain ⟨hseat, hdram, hbyte⟩ := c.appendWaited_frame clear
  have hd : d = { c.appendWaited clear with wh := d.wh } := (c.appendWaited clear).giveFlash_frame
  refine ⟨?_, ?_, fun a ha => ?_, fun h => ?_, ?_, ?_, ?_, fun h => ?_⟩
  · exact (c.appendWaited clear).giveFlash_seat.trans hseat
  · rw [hd]
    exact hdram
  · exact (Chip.flashByte_congr (congrArg Chip.flash hd) a).trans (hbyte a ha)
  · rw [show d = c.giveFlash from congrArg Chip.giveFlash (Chip.appendWaited_still clear h)]
    exact c.giveFlash_onlyRun
  · rintro rfl h
    have hready : c.appendWaited true = c.appendReady := rfl
    rw [show d = c.appendReady by
      simp only [d, hready, Chip.appendReady_body h]; exact Chip.giveFlash_of_stage (by simp [Chip.onLd])]
    exact Chip.appendReady_body h
  · rintro rfl h
    have hready : c.appendWaited true = c.appendReady := rfl
    rw [show d = c.appendReady by
      simp only [d, hready, Chip.appendReady_mark h]; exact Chip.giveFlash_of_stage (by simp [Chip.onLd])]
    rw [Chip.appendReady_mark h]
    exact ⟨rfl, c.flashByte_program_one at0 0x5C#8⟩
  · rintro rfl h
    obtain ⟨p, m, hfail⟩ : ∃ p m, c.appendWaited false = (c.flashOpen p m).attemptFail := by
      rcases h with h | h
      · exact ⟨_, _, Chip.appendTimeout_body h⟩
      · exact ⟨_, _, Chip.appendTimeout_mark h⟩
    obtain ⟨hld, -, hsame, hzero⟩ := c.attemptFail_of_flashOpen p m
    have hd' : d = (c.flashOpen p m).attemptFail := by
      simp only [d, hfail]
      exact Chip.giveFlash_of_stage (by simp [hld])
    rw [hd']
    exact ⟨hld, (hzero at0).trans (if_pos rfl), hsame⟩
  · obtain ⟨hnext, hidle⟩ := c.attemptOver_slot
    have hover : d = c.attemptOver.giveFlash := congrArg Chip.giveFlash (Chip.appendWaited_dead clear h)
    rw [hover]
    refine ⟨?_, ?_, by simp, fun r rest hq => ?_⟩
    · rw [c.attemptOver.giveFlash_onlyRun]
      exact hnext
    · rw [c.attemptOver.giveFlash_onlyRun]
      exact hidle
    · obtain ⟨hlast, hagain⟩ := Chip.attemptOver_record hq
      refine ⟨fun ha => ?_, fun ha => ?_⟩
      · obtain ⟨hf, hrest⟩ := hlast ha
        refine ⟨hf.giveFlash, ?_⟩
        rw [c.attemptOver.giveFlash_onlyRun]
        exact hrest
      · rw [c.attemptOver.giveFlash_onlyRun]
        exact hagain ha

/-- What the read back of a right record leaves. -/
theorem appended_answers (c : Chip) (r : LedgerReq) (rest : List LedgerReq) (hq : c.ld.queue = r :: rest) :
    let d := (c.appended r).giveFlash
    d.flash = c.flash ∧ d.ld.queue = rest ∧ d.ld.stage = .idle ∧ d.ld.attempts = 0 ∧
    d.ld.appended = c.ld.appended ++ [c.ld.slotBytes] ∧ (c.ld.keys.length < 2048 → r.key ∈ d.ld.keys) ∧
    c.sameBut d [LDR_LEDGER_STAT.addr, LDR_LEDGER_CNT.addr] ∧
    d.rd LDR_LEDGER_STAT_NEXT = (c.rd LDR_LEDGER_STAT_NEXT + 1) % 4096 ∧
    d.rd LDR_LEDGER_CNT_APPENDED = satAdd 8 (c.rd LDR_LEDGER_CNT_APPENDED) 1 ∧ d.wh.evt.getLsbD evLedger = true := by
  obtain ⟨hqueue, hstage, hatt, happ, hflash⟩ := c.appended_frame r
  obtain ⟨hsame, hnext, hcnt, hevt⟩ := c.appended_regs r
  intro d
  rw [show d = _ from (c.appended r).giveFlash_onlyRun]
  exact ⟨hflash, hqueue.trans (congrArg (List.drop 1) hq), hstage, hatt, happ, c.key_mem_appended r, hsame, hnext, hcnt,
    hevt⟩

/-- Settles O49: a request is judged in the order of R289, R293 and R296 (log entry 44); an attempt by what it meets; a
wait by the stage it ends, with what a cut program leaves free in the slot (log entry 45); a read back by its bytes. -/
theorem ledgerAppends : Obligations.LedgerAppends := by
  unfold Obligations.LedgerAppends
  refine ⟨fun s kind unit flags data hs => ⟨_, exec_ledgerAppendRequest hs kind unit flags data, ledgerRequest_answers _ _⟩,
    fun s hs => ⟨fun h => ?_, fun r rest hm hq hr => ?_⟩, fun s i hs hi => ?_,
    fun s got hs => ⟨fun h => exec_ledgerReadbackDone_other hs h got, fun r rest hst hq =>
      ⟨_, exec_ledgerReadbackDone hs hst hq got, ?_, fun hgot => ?_, fun hgot => ?_⟩⟩⟩
  · rw [exec_ledgerAttemptStart hs]
    rcases h with h | h
    · rw [h]
      rfl
    · rw [Chip.attemptStart_nil h, ite_self]
  · refine ⟨_, exec_ledgerAttemptStart hs, ?_⟩
    rw [if_pos hm]
    exact ⟨s.chip.attemptStart_seat, attemptStart_answers s.chip r rest hq hr⟩
  · rcases hi with rfl | rfl
    · have h := appendWaited_answers s.chip true
      simp only [true_implies, reduceCtorEq, false_implies] at h ⊢
      exact ⟨_, exec_ledgerBusyClear hs, h⟩
    · have h := appendWaited_answers s.chip false
      simp only [true_implies, reduceCtorEq, false_implies] at h ⊢
      exact ⟨_, exec_ledgerBusyTimeout hs, h⟩
  · simp
  · rw [if_pos hgot, hgot]
    exact appended_answers s.chip r rest hq
  · rw [if_neg hgot]
    exact ⟨rfl, s.chip.attemptFail_flashByte⟩

end Sys2Proof.Machine
end

section
/-! SUPPORT. What follows a step of LOAD on its way and leaves of the loader: the lines on the DRAM bus, the errors that a
read records and the edge that begins change neither the loader, the SAFE SRAM and the flash nor the loader's registers
and MCx_ECC_CTL (R278, R281, R363-R365). -/

namespace Sys2Proof.Machine

open Sys2Proof

/-! ### The view -/

/-- A register of the loader, or MCx_ECC_CTL of a channel. -/
def loaderAddr (a : Nat) : Bool := decide (a / 0x10000 = 2) || decide (a = 0x040200) || decide (a = 0x050200)

/-- The loader's state, the composer's with the SAFE SRAM, the flash, and the registers that `loaderAddr` names. -/
structure LoaderSide where
  ld : Loader
  cmp : Compose
  flash : List Host.Cell
  regs : Nat → Word

def Chip.loaderSide (c : Chip) : LoaderSide := ⟨c.ld, c.cmp, c.flash, fun a => if loaderAddr a then c.get a else 0⟩

section

variable {c d : Chip}

theorem Chip.ld_of_loaderSide (h : d.loaderSide = c.loaderSide) : d.ld = c.ld := congrArg LoaderSide.ld h

theorem Chip.cmp_of_loaderSide (h : d.loaderSide = c.loaderSide) : d.cmp = c.cmp := congrArg LoaderSide.cmp h

theorem Chip.flash_of_loaderSide (h : d.loaderSide = c.loaderSide) : d.flash = c.flash := congrArg LoaderSide.flash h

theorem Chip.rd_of_loaderSide (h : d.loaderSide = c.loaderSide) {f : Field} (hf : loaderAddr f.addr = true) :
    d.rd f = c.rd f := by
  have hget : d.get f.addr = c.get f.addr := by
    simpa [Chip.loaderSide, hf] using congrFun (congrArg LoaderSide.regs h) f.addr
  exact congrArg f.get hget

end

/-! ### Registers elsewhere -/

theorem loaderAddr_of_le {a : Nat} (h : 0x060000 ≤ a) : loaderAddr a = false := by
  simp only [loaderAddr, Bool.or_eq_false_iff, decide_eq_false_iff_not]
  omega

/-- A register of a channel. -/
@[simp] theorem loaderAddr_mcF (ch : Nat) (f : Field)
    (h : (decide (f.addr / 0x10000 = 4) && decide (f.addr % 0x10000 ≠ 0x200)) = true) :
    loaderAddr (mcF ch f).addr = false := by
  have haddr : (mcF ch f).addr = f.addr + ch * 0x10000 := rfl
  simp only [Bool.and_eq_true, decide_eq_true_eq] at h
  simp only [haddr, loaderAddr, Bool.or_eq_false_iff, decide_eq_false_iff_not]
  omega

/-- A register of an array that stands behind the channels' registers. -/
@[simp] theorem loaderAddr_at (f : Field) (n : Nat) (h : decide (0x060000 ≤ f.addr) = true) :
    loaderAddr (f.at n).addr = false :=
  loaderAddr_of_le (Nat.le_add_right_of_le (of_decide_eq_true h))

@[simp] theorem loaderAddr_srcF (f : Field) (n : Nat) (h : decide (0x060000 ≤ f.addr) = true) :
    loaderAddr (srcF n f).addr = false :=
  loaderAddr_of_le (Nat.le_add_right_of_le (of_decide_eq_true h))

theorem loaderAddr_domF {n : Nat} (h : n < 26) (f : Field) (hf : f.addr = 0x100) : loaderAddr (domF n f).addr = false := by
  simp only [loaderAddr, domF, Field.off, hf, Bool.or_eq_false_iff, decide_eq_false_iff_not]
  omega

section

variable (c : Chip)

@[simp] theorem Chip.setReg_loaderSide (a : Nat) (w : Word) (h : loaderAddr a = false) :
    (c.setReg a w).loaderSide = c.loaderSide := by
  refine congrArg (LoaderSide.mk c.ld c.cmp c.flash) (funext fun b => ?_)
  split
  next hb => exact c.get_setReg_ne a b w fun hab => by rw [hab, h] at hb; cases hb
  next => rfl

@[simp] theorem Chip.wr_loaderSide (f : Field) (v : Nat) (h : loaderAddr f.addr = false) :
    (c.wr f v).loaderSide = c.loaderSide := c.setReg_loaderSide _ _ h

@[simp] theorem Chip.bump_loaderSide (f : Field) (k : Nat) (h : loaderAddr f.addr = false) :
    (c.bump f k).loaderSide = c.loaderSide := c.setReg_loaderSide _ _ h

@[simp] theorem Chip.setBit_loaderSide (f : Field) (n : Nat) (b : Bool) (h : loaderAddr f.addr = false) :
    (c.setBit f n b).loaderSide = c.loaderSide := c.setReg_loaderSide _ _ h

@[simp] theorem Chip.loaderSide_ite (p : Prop) [Decidable p] (a b : Chip) :
    (if p then a else b).loaderSide = if p then a.loaderSide else b.loaderSide := apply_ite Chip.loaderSide p a b

theorem Chip.foldl_loaderSide_mem {α : Type} (f : Chip → α → Chip) (l : List α)
    (hf : ∀ (c : Chip), ∀ x ∈ l, (f c x).loaderSide = c.loaderSide) : (l.foldl f c).loaderSide = c.loaderSide := by
  induction l generalizing c with
  | nil => rfl
  | cons x t ih =>
    exact (ih (f c x) fun c y hy => hf c y (List.mem_cons_of_mem _ hy)).trans (hf c x List.mem_cons_self)

@[simp] theorem Chip.foldl_loaderSide {α : Type} (f : Chip → α → Chip) (l : List α)
    (hf : ∀ (c : Chip) (x : α), (f c x).loaderSide = c.loaderSide) : (l.foldl f c).loaderSide = c.loaderSide :=
  c.foldl_loaderSide_mem f l fun c x _ => hf c x

/-! ### The parts of the state beside the loader -/

@[simp] theorem Chip.evt_loaderSide (n : Nat) : (c.evt n).loaderSide = c.loaderSide := (rfl)

@[simp] theorem Chip.takeFree_loaderSide : c.takeFree.loaderSide = c.loaderSide := (rfl)

@[simp] theorem Chip.onMcx_loaderSide (f : MemShared → MemShared) : (c.onMcx f).loaderSide = c.loaderSide := (rfl)

@[simp] theorem Chip.onLk_loaderSide (f : Lockkeeper → Lockkeeper) : (c.onLk f).loaderSide = c.loaderSide := (rfl)

@[simp] theorem Chip.onPw_loaderSide (f : Power → Power) : (c.onPw f).loaderSide = c.loaderSide := (rfl)

@[simp] theorem Chip.onMode_loaderSide (f : ModeMachine → ModeMachine) : (c.onMode f).loaderSide = c.loaderSide := (rfl)

@[simp] theorem Chip.onCk_loaderSide (f : Clocks → Clocks) : (c.onCk f).loaderSide = c.loaderSide := (rfl)

@[simp] theorem Chip.onPll_loaderSide (p : Nat) (f : Pll → Pll) : (c.onPll p f).loaderSide = c.loaderSide := (rfl)

@[simp] theorem Chip.setDiv_loaderSide (n d : Nat) : (c.setDiv n d).loaderSide = c.loaderSide := (rfl)

@[simp] theorem Chip.onMc_loaderSide (ch : Nat) (f : Channel → Channel) : (c.onMc ch f).loaderSide = c.loaderSide := by
  unfold Chip.onMc
  split <;> rfl

@[simp] theorem Chip.deliverAll_loaderSide (ds : List Delivery) : (c.deliverAll ds).loaderSide = c.loaderSide := (rfl)

@[simp] theorem Chip.writePhys_loaderSide (l : Loc) (w : Nat) : (c.writePhys l w).loaderSide = c.loaderSide := (rfl)

/-! ### The DRAM bus -/

@[simp] theorem Chip.dramCmd_loaderSide (ch : Nat) (x : DramCmd) : (c.dramCmd ch x).loaderSide = c.loaderSide := by
  simp [Chip.dramCmd]

@[simp] theorem Chip.onBank_loaderSide (ch rank bank : Nat) (f : BankState → BankState) :
    (c.onBank ch rank bank f).loaderSide = c.loaderSide := by
  simp [Chip.onBank]

@[simp] theorem Chip.allRanks_loaderSide (ch code bank arg : Nat) :
    (c.allRanks ch code bank arg).loaderSide = c.loaderSide := by
  simp [Chip.allRanks]

@[simp] theorem Chip.queueNr_loaderSide (ch rank bank row : Nat) :
    (c.queueNr ch rank bank row).loaderSide = c.loaderSide := by
  simp +decide [Chip.queueNr]

@[simp] theorem Chip.drainNr_loaderSide (ch : Nat) : (c.drainNr ch).loaderSide = c.loaderSide := by
  simp +decide [Chip.drainNr, Chip.performNr]

@[simp] theorem Chip.releaseHeld_loaderSide (ch : Nat) : (c.releaseHeld ch).loaderSide = c.loaderSide := by
  unfold Chip.releaseHeld
  split <;> simp

@[simp] theorem Chip.issueAct_loaderSide (ch rank bank row : Nat) (nr : Bool) :
    (c.issueAct ch rank bank row nr).loaderSide = c.loaderSide := by
  simp [Chip.issueAct, Chip.weirAct]

@[simp] theorem Chip.issuePre_loaderSide (ch rank bank : Nat) : (c.issuePre ch rank bank).loaderSide = c.loaderSide := by
  unfold Chip.issuePre
  split <;> simp

@[simp] theorem Chip.busLine_loaderSide (l : Loc) (write : Bool) (line : Nat) (mask : List Bool) (port : Nat) :
    (c.busLine l write line mask port).loaderSide = c.loaderSide := by
  simp [Chip.busLine, Chip.openRow, Chip.issueLine, Chip.floorCount]

@[simp] theorem Chip.writeCheck_loaderSide (ch : Nat) (e : CheckLine) :
    (c.writeCheck ch e).loaderSide = c.loaderSide := by
  simp [Chip.writeCheck]

@[simp] theorem Chip.cacheUse_loaderSide (ch : Nat) (k : Loc) (dirty : Bool) :
    (c.cacheUse ch k dirty).loaderSide = c.loaderSide := by
  have room : (c.cacheRoom ch k dirty).loaderSide = c.loaderSide := by
    simp only [Chip.cacheRoom]
    (repeat' split) <;> simp
  simp [Chip.cacheUse, room]

@[simp] theorem Chip.lineAccess_loaderSide (l : Loc) (write : Bool) (line : Nat) (mask : List Bool) (port : Nat) :
    (c.lineAccess l write line mask port).loaderSide = c.loaderSide := by
  simp [Chip.lineAccess]

@[simp] theorem Chip.bumpLines_loaderSide (p : Nat) : (c.bumpLines p).loaderSide = c.loaderSide := by
  simp +decide [Chip.bumpLines]

@[simp] theorem Chip.performWrite_loaderSide (e : WriteEntry) : (c.performWrite e).loaderSide = c.loaderSide := by
  refine Chip.foldl_loaderSide _ _ _ fun d i => ?_
  unfold Chip.writeSys
  (repeat' split) <;> simp [Chip.writeLoc]

@[simp] theorem Chip.serveWrite_loaderSide (e : WriteEntry) : (c.serveWrite e).loaderSide = c.loaderSide := by
  unfold Chip.serveWrite
  split <;> simp

@[simp] theorem Chip.drainWrites_loaderSide (ch : Nat) : (c.drainWrites ch).loaderSide = c.loaderSide := by
  simp [Chip.drainWrites]

/-! ### DRAM goes to sleep, and an edge begins -/

@[simp] theorem Chip.enterSr_loaderSide (ch extra : Nat) : (c.enterSr ch extra).loaderSide = c.loaderSide := by
  simp [Chip.enterSr, Chip.flushCache, Chip.preAll]

@[simp] theorem Chip.sleepChannel_loaderSide (drain : Bool) (state ch : Nat) :
    (c.sleepChannel drain state ch).loaderSide = c.loaderSide := by
  simp +decide [Chip.sleepChannel, Chip.abandonReads]

@[simp] theorem Chip.edgeClocks_loaderSide (m : Mode) : (c.edgeClocks m).loaderSide = c.loaderSide := by
  unfold Chip.edgeClocks
  rw [Chip.foldl_loaderSide_mem, Chip.wr_loaderSide _ _ _ (by decide)]
  intro d n hn
  obtain ⟨k, hk, rfl⟩ := List.mem_map.mp hn
  have hk : k < 25 := List.mem_range.mp hk
  split
  · rfl
  · exact d.wr_loaderSide _ _ (loaderAddr_domF (by omega) _ rfl)

@[simp] theorem Chip.edgePdreq_loaderSide (m : Mode) : (c.edgePdreq m).loaderSide = c.loaderSide := by
  simp +decide [Chip.edgePdreq, Chip.setPdreq]

@[simp] theorem Chip.startPll_loaderSide (p : Nat) : (c.startPll p).loaderSide = c.loaderSide := by
  simp +decide [Chip.startPll]

@[simp] theorem Chip.beginEdge_loaderSide (e : Edge) (m : Mode) : (c.beginEdge e m).loaderSide = c.loaderSide := by
  simp +decide [Chip.beginEdge, Chip.takeSeqCfg, Chip.edgeDram, Chip.edgePlls, Chip.startPlls]

/-! ### Accesses of the blocks to DRAM -/

@[simp] theorem Chip.portErr_loaderSide (p kind : Nat) : (c.portErr p kind).loaderSide = c.loaderSide := by
  simp +decide [Chip.portErr]

@[simp] theorem Chip.exitCause_loaderSide (ch cause : Nat) : (c.exitCause ch cause).loaderSide = c.loaderSide := by
  simp +decide [Chip.exitCause]

@[simp] theorem Chip.exitStart_loaderSide (ch cause : Nat) : (c.exitStart ch cause).loaderSide = c.loaderSide := by
  simp +decide [Chip.exitStart, Chip.setMcState]

@[simp] theorem Chip.clientLine_loaderSide (port line : Nat) (write : Bool) (mask : List Bool) :
    (c.clientLine port line write mask).loaderSide = c.loaderSide := by
  unfold Chip.clientLine
  split <;> simp [Chip.requestWakes]

@[simp] theorem Chip.clientLines_loaderSide (port a n : Nat) (write : Bool) :
    (c.clientLines port a n write).loaderSide = c.loaderSide := by
  simp [Chip.clientLines]

@[simp] theorem Chip.writeLoc_loaderSide (l : Loc) (w : Nat) : (c.writeLoc l w).loaderSide = c.loaderSide := by
  simp [Chip.writeLoc]

@[simp] theorem Chip.flushLine_loaderSide (l : Loc) (line : Nat) : (c.flushLine l line).loaderSide = c.loaderSide := by
  unfold Chip.flushLine
  split <;> simp

@[simp] theorem Chip.storeWord_loaderSide (a w : Nat) : (c.storeWord a w).loaderSide = c.loaderSide := by
  unfold Chip.storeWord
  split <;> simp [Chip.markScrub]

@[simp] theorem Chip.storeBytes_loaderSide (fuel : Nat) (c : Chip) (a : Nat) (bs : List Byte) :
    (Chip.storeBytes fuel c a bs).loaderSide = c.loaderSide := by
  induction fuel generalizing c a bs with
  | zero => rfl
  | succ n ih =>
    unfold Chip.storeBytes
    split
    · rfl
    · exact (ih _ _ _).trans (c.storeWord_loaderSide _ _)

@[simp] theorem Chip.writeBytes_loaderSide (p a : Nat) (bs : List Byte) :
    (c.writeBytes p a bs).loaderSide = c.loaderSide := by
  simp +decide [Chip.writeBytes, Chip.putBytes]

/-! ### Errors that a read records -/

@[simp] theorem Chip.logRecord_loaderSide (type flags unit data : Nat) :
    (c.logRecord type flags unit data).loaderSide = c.loaderSide := by
  simp +decide [Chip.logRecord, Chip.takeSeq]

@[simp] theorem Chip.putSlot_loaderSide (r : LogRec) (lostBefore : Bool) :
    (c.putSlot r lostBefore).loaderSide = c.loaderSide :=
  ((c.onLk _).wr_loaderSide _ _ (by decide)).trans (c.onLk_loaderSide _)

@[simp] theorem Chip.lkRecord_loaderSide (type flags unit data : Nat) :
    (c.lkRecord type flags unit data).loaderSide = c.loaderSide := by
  have store (d : Chip) (r : LogRec) : (d.storeRec r).loaderSide = d.loaderSide := by simp +decide [Chip.storeRec]
  exact (store _ _).trans (c.wr_loaderSide _ _ (by decide))

@[simp] theorem Chip.srcActivate_loaderSide (n data : Nat) : (c.srcActivate n data).loaderSide = c.loaderSide := by
  simp +decide [Chip.srcActivate]

@[simp] theorem Chip.srcAssert_loaderSide (n data : Nat) : (c.srcAssert n data).loaderSide = c.loaderSide := by
  simp [Chip.srcAssert]

@[simp] theorem Chip.moorCause_loaderSide (cause : Nat) : (c.moorCause cause).loaderSide = c.loaderSide := by
  simp +decide [Chip.moorCause]

@[simp] theorem Chip.wakeStart_loaderSide : c.wakeStart.loaderSide = c.loaderSide := by
  simp [Chip.wakeStart, Chip.applySwitch]

@[simp] theorem Chip.moorExit_loaderSide (cause : Nat) : (c.moorExit cause).loaderSide = c.loaderSide := by
  simp [Chip.moorExit]

@[simp] theorem Chip.withSafe_loaderSide (f : Chip → Chip) (hf : ∀ c : Chip, (f c).loaderSide = c.loaderSide) :
    (c.withSafe f).loaderSide = c.loaderSide := by
  simp [Chip.withSafe, hf]

/-- The first and the last error of a channel are captured behind MCx_ECC_CTL. -/
theorem Chip.capture_loaderSide {base : Nat} (e : MemError) (hlo : 0x040000 ≤ base)
    (hb : base % 0x10000 = 0x240 ∨ base % 0x10000 = 0x260) : (c.capture base e).loaderSide = c.loaderSide := by
  refine c.foldl_loaderSide_mem _ _ fun d i hi => d.setReg_loaderSide _ _ ?_
  have hi : i < 5 := List.mem_range.mp hi
  simp only [loaderAddr, Bool.or_eq_false_iff, decide_eq_false_iff_not]
  omega

theorem loaderAddr_rankCounter {k ch rank : Nat} (hk : k = 0x040210 ∨ k = 0x040214) (h : rank < 2) :
    loaderAddr (k + ch * 0x10000 + 8 * rank) = false := by
  simp only [loaderAddr, Bool.or_eq_false_iff, decide_eq_false_iff_not]
  omega

theorem Chip.countError_loaderSide {e : MemError} (h : e.place.near) : (c.countError e).loaderSide = c.loaderSide := by
  have count (d : Chip) {f : Field} (hf : f.addr = 0x040210 ∨ f.addr = 0x040214) (k : Nat) :
      (d.bump ((mcF e.place.ch f).off (8 * e.place.rank)) k).loaderSide = d.loaderSide :=
    d.bump_loaderSide _ k (loaderAddr_rankCounter hf h.rank)
  simp [Chip.countError, count _ (f := MCA_CNT_A_CE) (.inl rfl), count _ (f := MCA_CNT_A_UE) (.inl rfl),
    count _ (f := MCA_CNT_B_POISON_READ) (.inr rfl)]

theorem loaderAddr_candF {i : Nat} (hi : i < 8) (ch : Nat) {f : Field} (hf : f.addr = 0x040290) :
    loaderAddr (Chip.candF ch i f).addr = false := by
  have haddr : (Chip.candF ch i f).addr = f.addr + ch * 0x10000 + 4 * i := rfl
  simp only [haddr, hf, loaderAddr, Bool.or_eq_false_iff, decide_eq_false_iff_not]
  omega

theorem Chip.candPut_loaderSide (ch : Nat) (l : Loc) {i : Nat} (ue : Bool) (hi : i < 8) :
    (c.candPut ch l i ue).loaderSide = c.loaderSide := by
  have put (d : Chip) {f : Field} (hf : f.addr = 0x040290) (v : Nat) :
      (d.wr (Chip.candF ch i f) v).loaderSide = d.loaderSide := d.wr_loaderSide _ v (loaderAddr_candF hi ch hf)
  rw [Chip.candPut, put _ rfl, put _ rfl, put _ rfl, put _ rfl, put _ rfl, put _ rfl]

@[simp] theorem Chip.candNote_loaderSide (ch : Nat) (l : Loc) (kind : Nat) :
    (c.candNote ch l kind).loaderSide = c.loaderSide := by
  unfold Chip.candNote
  split
  next i h =>
    have hi := lt_of_find?_range h
    split
    · exact c.bump_loaderSide _ _ (loaderAddr_candF hi ch rfl)
    · split
      · exact c.wr_loaderSide _ _ (loaderAddr_candF hi ch rfl)
      · rfl
  next =>
    split
    next i h => exact c.candPut_loaderSide ch l _ (lt_of_find?_range h)
    next =>
      split
      next i h => exact c.candPut_loaderSide ch l _ (Chip.candVictim_lt h)
      next => rfl

theorem Chip.recordError_loaderSide {e : MemError} (h : e.place.near) : (c.recordError e).loaderSide = c.loaderSide := by
  unfold Chip.recordError
  extract_lets ch c1 c2 c3 c4 c5
  have h1 : c1.loaderSide = c.loaderSide := c.countError_loaderSide h
  have h2 : c2.loaderSide = c1.loaderSide := by
    dsimp only [c2]
    split
    · rfl
    · exact c1.capture_loaderSide e (by omega) (by omega)
  have h3 : c3.loaderSide = c2.loaderSide := c2.capture_loaderSide e (by omega) (by omega)
  have h5 : c5.loaderSide = c3.loaderSide := by simp [c5, c4]
  simp [h1, h2, h3, h5]

end

/-! ### A read with no channel under POLICY = FREEZE -/

section

variable (c : Chip) {α : Type} {g : LoadPhase × Locks → α}

@[simp] theorem Chip.portErr_course (p kind : Nat) : (c.portErr p kind).course g = c.course g := (rfl)

@[simp] theorem Chip.clientLine_course (port line : Nat) (write : Bool) (mask : List Bool) :
    (c.clientLine port line write mask).course g = c.course g := by
  unfold Chip.clientLine
  split <;> simp [Chip.requestWakes, Chip.exitStart]

@[simp] theorem Chip.candNote_course (ch : Nat) (l : Loc) (kind : Nat) : (c.candNote ch l kind).course g = c.course g := by
  unfold Chip.candNote
  (repeat' split) <;> simp [Chip.candPut]

@[simp] theorem Chip.recordError_course (e : MemError) : (c.recordError e).course g = c.course g := by
  simp [Chip.recordError, Chip.capture, Chip.countError]

/-- MIGRATE is the policy of both channels. -/
def Chip.migrates (c : Chip) : Prop := ∀ ch, ch < 2 → c.flag (mcF ch MCA_ECC_CTL_POLICY) = false

variable {c}

theorem Chip.migrates_of_loaderSide {d : Chip} (h : c.migrates) (hd : d.loaderSide = c.loaderSide) : d.migrates := by
  intro ch hch
  have hk : loaderAddr (mcF ch MCA_ECC_CTL_POLICY).addr = true := by
    interval_cases ch <;> rfl
  unfold Chip.flag
  rw [Chip.rd_of_loaderSide hd hk]
  exact h ch hch

/-- A policy event then begins a migration, counts a missing spare, or does nothing (R365). -/
theorem Chip.policyEvent_course (h : c.migrates) {e : MemError} (he : e.place.near) :
    (c.policyEvent e).course g = c.course g ∧ (c.policyEvent e).loaderSide = c.loaderSide := by
  unfold Chip.policyEvent
  dsimp only
  rw [h _ he.ch, if_neg (by decide)]
  (repeat' split) <;> simp +decide [Chip.migStart, Chip.setMig]

theorem Chip.noteMigCe_course (h : c.migrates) {e : MemError} (he : e.place.near) :
    (c.noteMigCe e).course g = c.course g ∧ (c.noteMigCe e).loaderSide = c.loaderSide := by
  unfold Chip.noteMigCe
  extract_lets ch n c1 lim
  have h1 : c1.loaderSide = c.loaderSide := by simp [c1]
  have hg : c1.course g = c.course g := by simp [c1]
  split
  · exact ⟨rfl, rfl⟩
  split
  · obtain ⟨hp, hl⟩ := Chip.policyEvent_course (g := g) (Chip.migrates_of_loaderSide h h1) he
    exact ⟨hp.trans hg, hl.trans h1⟩
  · exact ⟨hg, h1⟩

theorem Chip.memError_course (h : c.migrates) {e : MemError} (he : e.place.near) :
    (c.memError e).course g = c.course g ∧ (c.memError e).loaderSide = c.loaderSide := by
  have h1 := c.recordError_loaderSide he
  obtain ⟨hm, hl⟩ := Chip.noteMigCe_course (g := g) (Chip.migrates_of_loaderSide h h1) he
  have h2 := hl.trans h1
  have hg := hm.trans (c.recordError_course e)
  unfold Chip.memError
  dsimp only
  split
  · obtain ⟨hp, hq⟩ := Chip.policyEvent_course (g := g) (Chip.migrates_of_loaderSide h h2) he
    exact ⟨hp.trans hg, hq.trans h2⟩
  · exact ⟨hg, h2⟩

theorem Chip.noteRead_course (h : c.migrates) (port a : Nat) (r : WordRead) :
    (c.noteRead port a r).course g = c.course g ∧ (c.noteRead port a r).loaderSide = c.loaderSide := by
  unfold Chip.noteRead
  split
  · exact ⟨rfl, rfl⟩
  split
  · exact ⟨rfl, rfl⟩
  next l hl => exact Chip.memError_course h (c.redirect_near (Chip.sysLoc_near hl))

theorem Chip.noteReads_course (h : c.migrates) (port a n : Nat) :
    (c.noteReads port a n).course g = c.course g ∧ (c.noteReads port a n).loaderSide = c.loaderSide := by
  unfold Chip.noteReads
  refine List.foldlRecOn (motive := fun d : Chip => d.course g = c.course g ∧ d.loaderSide = c.loaderSide) _ _ ⟨rfl, rfl⟩
    fun d hd i _ => ?_
  obtain ⟨hg, hl⟩ := hd
  split
  · obtain ⟨ng, nl⟩ := Chip.noteRead_course (g := g) (Chip.migrates_of_loaderSide h hl) port (a + 8 * i) _
    exact ⟨ng.trans hg, nl.trans hl⟩
  · exact ⟨hg, hl⟩

/-- Under MIGRATE a read changes neither the mode machine nor the loader. -/
theorem Chip.readNote_course (h : c.migrates) (p a n : Nat) :
    (c.readNote p a n).course g = c.course g ∧ (c.readNote p a n).loaderSide = c.loaderSide := by
  unfold Chip.readNote
  split
  · exact ⟨rfl, rfl⟩
  split
  · simp +decide
  extract_lets c1
  have h1 : (c1.clientLines p a n false).loaderSide = c.loaderSide := by simp [c1]
  have hg : (c1.clientLines p a n false).course g = c.course g := by simp [c1, Chip.clientLines]
  obtain ⟨ng, nl⟩ := Chip.noteReads_course (g := g) (Chip.migrates_of_loaderSide h h1) p (a / 8 * 8) (wordsOf a n).length
  exact ⟨ng.trans hg, nl.trans h1⟩

end

end Sys2Proof.Machine
end

section
/-! SUPPORT. LOAD's header, directory and failures (R272, R278, R281, Tables 6.3, 6.4 and 6.9). -/

namespace Sys2Proof.Machine

open Sys2Proof

/-! ### A check of LOAD fails -/

/-- A part of which LOAD has just failed, with E5 still to begin. -/
def Chip.loadStopped (c : Chip) (err : Nat) : Chip :=
  (((c.wr LDR_STAT_ERR err).loadTime.onLd fun l => { l with phase := .failed, safePlaced := false }).onCmp fun k =>
    { k with safe := [] }).onMode fun x => { x with imageValid := false, loadFailed := true }

section

variable (c : Chip) (err : Nat)

theorem Chip.loadFail_loaderSide : (c.loadFail err).loaderSide = (c.loadStopped err).loaderSide :=
  (c.loadStopped err).beginEdge_loaderSide .e5 .standby

/-- A field of the loader that is neither ERR nor LDR_TIME stands. -/
theorem Chip.rd_loadFail {f : Field} (hf : loaderAddr f.addr = true) (h : LDR_STAT_ERR.clear f = true)
    (ht : LDR_TIME_US.clear f = true) : (c.loadFail err).rd f = c.rd f := by
  rw [Chip.rd_of_loaderSide (c.loadFail_loaderSide err) hf]
  exact ((c.wr LDR_STAT_ERR err).rd_wr_clear LDR_TIME_US f _ ht).trans (c.rd_wr_clear LDR_STAT_ERR f err h)

theorem Chip.loadFail_failing (he : err < 16) : c.loadFailing (c.loadFail err) err := by
  have hside := c.loadFail_loaderSide err
  have hld := Chip.ld_of_loaderSide hside
  have hmode := congrArg Course.mode ((c.loadStopped err).beginEdge_bearing .e5 .standby)
  refine ⟨?_, ?_, congrArg ModeMachine.edge hmode, congrArg ModeMachine.target hmode, congrArg ModeMachine.imageValid hmode,
    congrArg ModeMachine.loadFailed hmode, ?_, c.loadFail_seat err,
    (Chip.flash_of_loaderSide hside).trans rfl, (congrArg Loader.otp hld).trans rfl⟩
  · rw [Chip.rd_of_loaderSide hside (by decide)]
    refine ((c.wr LDR_STAT_ERR err).rd_wr_clear LDR_TIME_US LDR_STAT_ERR _ (by decide)).trans ?_
    exact (c.rd_wr_same LDR_STAT_ERR err (by decide)).trans (Nat.mod_eq_of_lt he)
  · exact congrArg Loader.phase hld
  · exact congrArg Compose.safe (Chip.cmp_of_loaderSide hside)

/-- What a failure reports does not depend on what the part held before beside its mode, the flash and the fuses. -/
theorem Chip.loadFailing.of_before {b c d : Chip} {err : Nat} (h : c.loadFailing d err) (hseat : c.seat = b.seat)
    (hflash : c.flash = b.flash) (hotp : c.ld.otp = b.ld.otp) : b.loadFailing d err := by
  unfold Chip.loadFailing at h ⊢
  rwa [hseat, hflash, hotp] at h

variable (sect ofs : Nat)

theorem Chip.rd_loadFailAt {f : Field} (hf : loaderAddr f.addr = true) (h : LDR_STAT_ERR.clear f = true)
    (ht : LDR_TIME_US.clear f = true) (hs : LDR_ERR_POS_SECT.clear f = true) (ho : LDR_ERR_POS_OFS.clear f = true) :
    (c.loadFailAt err sect ofs).rd f = c.rd f := by
  unfold Chip.loadFailAt
  rw [Chip.rd_loadFail _ _ hf h ht, Chip.rd_wr_clear _ _ _ _ ho, Chip.rd_wr_clear _ _ _ _ hs]

/-- The failure at a section, and its place. -/
theorem Chip.loadFailAt_failing (he : err < 16) : c.loadFailing (c.loadFailAt err sect ofs) err ∧
    (c.loadFailAt err sect ofs).rd LDR_ERR_POS_SECT = sect % 64 ∧
    (c.loadFailAt err sect ofs).rd LDR_ERR_POS_OFS = ofs / 4 % 2 ^ 24 := by
  refine ⟨(Chip.loadFail_failing _ err he).of_before rfl rfl rfl, ?_, ?_⟩
  · refine (Chip.rd_loadFail _ err (by decide) (by decide) (by decide)).trans ?_
    rw [Chip.rd_wr_clear _ _ _ _ (by decide)]
    exact Chip.rd_wr_same _ LDR_ERR_POS_SECT sect (by decide)
  · refine (Chip.rd_loadFail _ err (by decide) (by decide) (by decide)).trans ?_
    exact Chip.rd_wr_same _ LDR_ERR_POS_OFS (ofs / 4) (by decide)

/-- The failure of a manifest section (R143), its code and its place. -/
theorem Chip.loadMfst_failing (code : Nat) (hc : code < 16) : c.loadFailing (c.loadMfst code sect ofs) 9 ∧
    (c.loadMfst code sect ofs).rd LDR_STAT_MFST_ERR = code ∧
    (c.loadMfst code sect ofs).rd LDR_ERR_POS_SECT = sect % 64 ∧
    (c.loadMfst code sect ofs).rd LDR_ERR_POS_OFS = ofs / 4 % 2 ^ 24 := by
  obtain ⟨hfail, hsect, hofs⟩ := (c.wr LDR_STAT_MFST_ERR code).loadFailAt_failing 9 sect ofs (by decide)
  refine ⟨hfail.of_before rfl rfl rfl, ?_, hsect, hofs⟩
  refine (Chip.rd_loadFailAt _ 9 sect ofs (by decide) (by decide) (by decide) (by decide) (by decide)).trans ?_
  exact (c.rd_wr_same LDR_STAT_MFST_ERR code (by decide)).trans (Nat.mod_eq_of_lt hc)

end

/-! ### The header -/

theorem numIn_lt (bs : List Byte) (i n : Nat) : numIn bs i n < 256 ^ n :=
  (leBytes_lt _).trans_le (Nat.pow_le_pow_right (by omega) (List.length_take_le ..))

section

variable (c : Chip) (jedec : Nat)

/-- The part with what the header says written, before it is judged. -/
def Chip.headerNoted : Chip :=
  ((c.wr LDR_FLASH_ID_ID jedec).wr LDR_IMG_VER_VER (numIn (c.headBytes 0 64) 16 4)).wr LDR_IMG_LEN_LEN
    (numIn (c.headBytes 0 64) 8 4)

/-- The registers that the header's read writes. -/
def headerRegs : List Nat := [LDR_FLASH_ID.addr, LDR_IMG_VER.addr, LDR_IMG_LEN.addr]

theorem Chip.headerNoted_onlyRegs : c.onlyRegs (c.headerNoted jedec) headerRegs :=
  (((Chip.onlyRegs.refl c _).wr (f := LDR_FLASH_ID_ID) _ (by decide)).wr (f := LDR_IMG_VER_VER) _ (by decide)).wr
    (f := LDR_IMG_LEN_LEN) _ (by decide)

theorem Chip.rd_headerNoted : (c.headerNoted jedec).rd LDR_FLASH_ID_ID = jedec % 2 ^ 24 ∧
    (c.headerNoted jedec).rd LDR_IMG_VER_VER = numIn (c.headBytes 0 64) 16 4 ∧
    (c.headerNoted jedec).rd LDR_IMG_LEN_LEN = numIn (c.headBytes 0 64) 8 4 := by
  unfold Chip.headerNoted
  simp (disch := decide) only [Chip.rd_wr_clear, Chip.rd_wr_same]
  exact ⟨rfl, Nat.mod_eq_of_lt (numIn_lt ..), Nat.mod_eq_of_lt (numIn_lt ..)⟩

theorem Chip.headerRead_of_err {e : Nat} (h : headerErr (c.headBytes 0 64) c.ld.imgBase = e) (he : e ≠ 0) :
    c.headerRead jedec = (c.headerNoted jedec).loadFail e := by
  subst h
  exact if_pos he

theorem Chip.headerRead_of_good (h : headerErr (c.headBytes 0 64) c.ld.imgBase = 0) :
    c.headerRead jedec = (c.headerNoted jedec).dirRead (c.headBytes 0 64) :=
  if_neg (not_not.mpr h)

end

/-- MAGIC and the version (Table 6.3). -/
def headerMagic (h : List Byte) : Prop := numIn h 0 4 = 0x4D4C4F50 ∧ numIn h 4 2 = 1

/-- The other checks of the header (Table 6.3, R272). -/
def headerGood (h : List Byte) (base : Nat) : Prop :=
  crc32 (h.take 60) = numIn h 60 4 ∧ 0 < numIn h 6 2 ∧ numIn h 6 2 ≤ 64 ∧ numIn h 8 4 % 4 = 0 ∧
    numIn h 8 4 ≤ 64 * 1048576 ∧ ledgerOk (numIn h 20 4) (numIn h 24 1) base (numIn h 8 4) = true

section

variable {h : List Byte} {base : Nat}

theorem headerErr_of_not_magic (hm : ¬headerMagic h) : headerErr h base = 3 := by
  unfold headerMagic at hm
  exact if_pos (by tauto)

theorem headerErr_of_not_good (hm : headerMagic h) (hg : ¬headerGood h base) : headerErr h base = 4 := by
  obtain ⟨h1, h2⟩ := hm
  unfold headerGood at hg
  refine (if_neg (by simp [h1, h2])).trans (if_pos ?_)
  by_contra hn
  simp only [not_or, not_not, Nat.not_lt, Bool.not_eq_false] at hn
  obtain ⟨hcrc, hn0, hn1, hlen, hmax, hled⟩ := hn
  exact hg ⟨hcrc, Nat.pos_of_ne_zero hn0, hn1, hlen, hmax, hled⟩

theorem headerErr_of_good (hm : headerMagic h) (hg : headerGood h base) : headerErr h base = 0 := by
  obtain ⟨h1, h2⟩ := hm
  obtain ⟨hcrc, hn0, hn1, hlen, hmax, hled⟩ := hg
  refine (if_neg (by simp [h1, h2])).trans (if_neg ?_)
  simp only [not_or, not_not, Nat.not_lt, Bool.not_eq_false]
  exact ⟨hcrc, Nat.ne_of_gt hn0, hn1, hlen, hmax, hled⟩

end

/-! ### The directory -/

theorem sectionErr_lt (s : Section) (low imgLen : Nat) : sectionErr s low imgLen < 16 := by
  unfold sectionErr
  (repeat' split) <;> decide

theorem dirErr_lt {ss : List Section} {i low imgLen j ofs e : Nat} (h : dirErr ss i low imgLen = some (j, ofs, e)) :
    e < 16 := by
  induction ss generalizing i low with
  | nil => cases h
  | cons s t ih =>
    unfold dirErr at h
    split at h
    · cases h
      exact sectionErr_lt s low imgLen
    · exact ih h

/-- The entries of the directory. -/
def Chip.dirEntries (c : Chip) (h : List Byte) : List Section :=
  (List.range (numIn h 6 2)).map fun i => sectionOf ((c.headBytes 64 (24 * numIn h 6 2)).drop (24 * i))

/-- What the loader takes of a header. -/
def Loader.headed (l : Loader) (h : List Byte) (ss : List Section) : Loader :=
  { l with imgLen := numIn h 8 4, flashCfg := numIn h 12 4, ledgerOff := numIn h 20 4, ledgerSect := numIn h 24 1
           dir := ss, headerRead := true, scanned := numIn h 24 1 == 0, maxSeq := none, keys := [], appended := [] }

section

variable {c : Chip} {h : List Byte}

theorem Chip.dirRead_of_dirErr {i ofs e : Nat}
    (hd : dirErr (c.dirEntries h) 0 (64 + 24 * numIn h 6 2) (numIn h 8 4) = some (i, ofs, e)) :
    c.dirRead h = (c.onLd fun l => l.headed h (c.dirEntries h)).loadFailAt e i ofs := by
  unfold Chip.dirRead
  unfold Chip.dirEntries at hd
  simp only [hd]
  rfl

theorem Chip.dirRead_of_safeErr {i ofs e : Nat}
    (hd : dirErr (c.dirEntries h) 0 (64 + 24 * numIn h 6 2) (numIn h 8 4) = none)
    (hs : safeErr (c.dirEntries h) ((c.ld.shadowWord 34).getLsbD 0) = some (i, ofs, e)) :
    c.dirRead h = (c.onLd fun l => l.headed h (c.dirEntries h)).loadFailAt e i ofs := by
  unfold Chip.dirRead
  unfold Chip.dirEntries at hd hs
  simp only [hd, hs]
  rfl

theorem Chip.dirRead_of_good (hd : dirErr (c.dirEntries h) 0 (64 + 24 * numIn h 6 2) (numIn h 8 4) = none)
    (hs : safeErr (c.dirEntries h) ((c.ld.shadowWord 34).getLsbD 0) = none) :
    c.dirRead h = c.onLd fun l => l.headed h (c.dirEntries h) := by
  unfold Chip.dirRead
  unfold Chip.dirEntries at hd hs
  simp only [hd, hs]
  rfl

/-- The directory's read keeps the registers of the loader that no failure writes. -/
theorem Chip.rd_dirRead {f : Field} (hf : loaderAddr f.addr = true) (he : LDR_STAT_ERR.clear f = true)
    (ht : LDR_TIME_US.clear f = true) (hs : LDR_ERR_POS_SECT.clear f = true) (ho : LDR_ERR_POS_OFS.clear f = true) :
    (c.dirRead h).rd f = c.rd f := by
  cases hd : dirErr (c.dirEntries h) 0 (64 + 24 * numIn h 6 2) (numIn h 8 4) with
  | some x =>
    rw [Chip.dirRead_of_dirErr hd, Chip.rd_loadFailAt _ _ _ _ hf he ht hs ho, Chip.onLd_rd]
  | none =>
    cases hsafe : safeErr (c.dirEntries h) ((c.ld.shadowWord 34).getLsbD 0) with
    | some x => rw [Chip.dirRead_of_safeErr hd hsafe, Chip.rd_loadFailAt _ _ _ _ hf he ht hs ho, Chip.onLd_rd]
    | none => rw [Chip.dirRead_of_good hd hsafe, Chip.onLd_rd]

end

/-- The header's read keeps what it has noted, however it is judged. -/
theorem Chip.rd_headerRead (c : Chip) (jedec : Nat) {f : Field} (hf : loaderAddr f.addr = true)
    (he : LDR_STAT_ERR.clear f = true) (ht : LDR_TIME_US.clear f = true) (hs : LDR_ERR_POS_SECT.clear f = true)
    (ho : LDR_ERR_POS_OFS.clear f = true) : (c.headerRead jedec).rd f = (c.headerNoted jedec).rd f := by
  by_cases h : headerErr (c.headBytes 0 64) c.ld.imgBase = 0
  · rw [c.headerRead_of_good jedec h, Chip.rd_dirRead hf he ht hs ho]
  · rw [c.headerRead_of_err jedec rfl h, Chip.rd_loadFail _ _ hf he ht]

theorem exec_ldrHeaderRead {s : State} (hs : s.runs) (jedec : Nat) : exec (.ldrHeaderRead jedec) s =
    .next { s with chip :=
      if s.chip.inLoad .bist && !s.chip.ld.headerRead then s.chip.headerRead jedec else s.chip } :=
  State.effect_of_runs hs fun c => if c.inLoad .bist && !c.ld.headerRead then c.headerRead jedec else c

/-- LDR_HEADER_READ. -/
theorem headerRead_answers (c : Chip) (jedec : Nat) :
    let h := c.headBytes 0 64
    let d := c.headerRead jedec
    let n := numIn h 6 2
    let len := numIn h 8 4
    let ss := c.dirEntries h
    d.rd LDR_FLASH_ID_ID = jedec % 2 ^ 24 ∧ d.rd LDR_IMG_VER_VER = numIn h 16 4 ∧ d.rd LDR_IMG_LEN_LEN = len ∧
    (¬headerMagic h → c.loadFailing d 3) ∧ (headerMagic h → ¬headerGood h c.ld.imgBase → c.loadFailing d 4) ∧
    (headerMagic h → headerGood h c.ld.imgBase →
      (dirErr ss 0 (64 + 24 * n) len = none → safeErr ss ((c.ld.shadowWord 34).getLsbD 0) = none →
        d = { c with regs := d.regs, ld := d.ld } ∧ c.sameBut d headerRegs ∧ d.ld.headerRead = true ∧ d.ld.dir = ss ∧
        d.ld.imgLen = len ∧ d.ld.ledgerOff = numIn h 20 4 ∧ d.ld.ledgerSect = numIn h 24 1 ∧
        d.ld.scanned = (numIn h 24 1 == 0)) ∧
      ∀ i ofs e, dirErr ss 0 (64 + 24 * n) len = some (i, ofs, e) →
        c.loadFailing d e ∧ d.rd LDR_ERR_POS_SECT = i % 64 ∧ d.rd LDR_ERR_POS_OFS = ofs / 4 % 2 ^ 24) := by
  intro h d n len ss
  obtain ⟨hid, hver, hlen⟩ := c.rd_headerNoted jedec
  obtain ⟨hframe, hsame⟩ := c.headerNoted_onlyRegs jedec
  have kept := fun {f : Field} => c.rd_headerRead jedec (f := f)
  refine ⟨?_, ?_, ?_, fun hm => ?_, fun hm hg => ?_, fun hm hg => ⟨fun hd hs => ?_, fun i ofs e hd => ?_⟩⟩
  · exact (kept (by decide) (by decide) (by decide) (by decide) (by decide)).trans hid
  · exact (kept (by decide) (by decide) (by decide) (by decide) (by decide)).trans hver
  · exact (kept (by decide) (by decide) (by decide) (by decide) (by decide)).trans hlen
  · rw [show d = _ from c.headerRead_of_err jedec (headerErr_of_not_magic hm) (by decide)]
    exact (Chip.loadFail_failing _ 3 (by decide)).of_before rfl rfl rfl
  · rw [show d = _ from c.headerRead_of_err jedec (headerErr_of_not_good hm hg) (by decide)]
    exact (Chip.loadFail_failing _ 4 (by decide)).of_before rfl rfl rfl
  · rw [show d = _ from (c.headerRead_of_good jedec (headerErr_of_good hm hg)).trans (Chip.dirRead_of_good hd hs)]
    exact ⟨rfl, hsame, rfl, rfl, rfl, rfl, rfl, rfl⟩
  · rw [show d = _ from (c.headerRead_of_good jedec (headerErr_of_good hm hg)).trans (Chip.dirRead_of_dirErr hd)]
    obtain ⟨hfail, hsect, hofs⟩ := Chip.loadFailAt_failing
      ((c.headerNoted jedec).onLd fun l => l.headed h (c.dirEntries h)) e i ofs (dirErr_lt hd)
    exact ⟨hfail.of_before rfl rfl rfl, hsect, hofs⟩

end Sys2Proof.Machine
end

section
/-! SUPPORT. The image's sections and its digest (R278-R280, R304, Table 6.9). -/

namespace Sys2Proof.Machine

open Sys2Proof

/-! ### A section is placed -/

/-- A section that lands in DRAM: DATA, and a manifest that is not EARLY. -/
def Section.toDram (x : Section) : Prop := x.type = 3 ∨ (x.type = 1 ∧ x.early = false)

section

variable {c : Chip} {x : Section} {bs : List Byte}

theorem Chip.placeSection_notReady (hx : x.toDram) (hr : c.dramReady x.dest bs.length = false) :
    c.placeSection x bs = none :=
  (if_pos hx).trans (if_neg (by simp [hr]))

theorem Chip.placeSection_dram (hx : x.toDram) (hr : c.dramReady x.dest bs.length = true) :
    c.placeSection x bs = some (c.writeBytes 11 x.dest bs) :=
  (if_pos hx).trans (if_pos hr)

theorem Chip.placeSection_csr (hx : x.type = 2) : c.placeSection x bs = some (c.csrBlock x.dest bs) := by
  simp [Chip.placeSection, hx]

theorem Chip.placeSection_safe (hx : x.type = 4) : c.placeSection x bs = some (c.safeBlock bs) := by
  simp [Chip.placeSection, hx]

/-- A section of the loader's own, or of a kind that it does not know. -/
theorem Chip.placeSection_none (hx : ¬x.toDram) (h2 : x.type ≠ 2) (h4 : x.type ≠ 4) : c.placeSection x bs = some c :=
  (if_neg hx).trans ((if_neg h2).trans (if_neg h4))

/-- A section that is no CSR_BLOCK is placed unless DRAM is not ready for it, and beside the mode its placing leaves the
flash and the fuses. -/
theorem Chip.placeSection_frame (h2 : x.type ≠ 2) (hr : ¬x.toDram ∨ c.dramReady x.dest bs.length = true) :
    ∃ d, c.placeSection x bs = some d ∧ d.seat = c.seat ∧ d.flash = c.flash ∧ d.ld.otp = c.ld.otp := by
  by_cases hx : x.toDram
  · have hside := c.writeBytes_loaderSide 11 x.dest bs
    exact ⟨_, Chip.placeSection_dram hx (hr.resolve_left (not_not.mpr hx)), c.writeBytes_seat 11 x.dest bs,
      Chip.flash_of_loaderSide hside, congrArg Loader.otp (Chip.ld_of_loaderSide hside)⟩
  by_cases h4 : x.type = 4
  · exact ⟨_, Chip.placeSection_safe h4, rfl, rfl, rfl⟩
  · exact ⟨_, Chip.placeSection_none hx h2 h4, rfl, rfl, rfl⟩

/-! ### A section is read -/

theorem Chip.sectionRead_noDram (hp : c.placeSection x (c.imageBytes x.offset x.length) = none) :
    c.sectionRead x = c.loadFailAt 8 c.ld.nextSect x.offset := by
  unfold Chip.sectionRead
  simp only [hp]
  rfl

variable {d : Chip} (hp : c.placeSection x (c.imageBytes x.offset x.length) = some d)

include hp

theorem Chip.sectionRead_badCrc (hc : crc32 (c.imageBytes x.offset x.length) ≠ x.crc) :
    c.sectionRead x = d.loadFailAt 7 c.ld.nextSect x.offset := by
  unfold Chip.sectionRead
  simp only [hp]
  exact if_pos hc

theorem Chip.sectionRead_placed (hc : crc32 (c.imageBytes x.offset x.length) = x.crc)
    (he : ¬(x.type = 1 ∧ x.early = true)) : c.sectionRead x = d.sectionOver := by
  unfold Chip.sectionRead
  simp only [hp]
  exact (if_neg (not_not.mpr hc)).trans (if_neg he)

theorem Chip.sectionRead_badManifest (hc : crc32 (c.imageBytes x.offset x.length) = x.crc) (h1 : x.type = 1)
    (he : x.early = true) (hm : mfstErr (c.imageBytes x.offset x.length) ≠ 0) :
    c.sectionRead x = d.loadMfst (mfstErr (c.imageBytes x.offset x.length)) c.ld.nextSect x.offset := by
  unfold Chip.sectionRead
  simp only [hp]
  exact (if_neg (not_not.mpr hc)).trans ((if_pos ⟨h1, he⟩).trans (if_pos hm))

end

theorem mfstErr_lt (bs : List Byte) : mfstErr bs < 16 := by
  have header : mfstHeaderErr bs < 16 := by
    unfold mfstHeaderErr
    (repeat' split) <;> decide
  unfold mfstErr
  extract_lets n es gs
  split
  · exact header
  · (repeat' split) <;> decide

/-- What the SAFE section leaves in its SRAM. -/
theorem Chip.get_safeBlock (c : Chip) (bs : List Byte) (i : Nat) : SMap.get safeDefault (c.safeBlock bs).cmp.safe i =
    if i < bs.length then bs.getD i 0 else SMap.get safeDefault c.cmp.safe i := by
  refine (SMap.get_setRun safeDefault c.cmp.safe 0 i bs 0).trans ?_
  simp

theorem Chip.imageBytes_length (c : Chip) (ofs n : Nat) : (c.imageBytes ofs n).length = n := by
  simp [Chip.imageBytes, Chip.flashRead]

theorem exec_sectionRead {s : State} (hs : s.runs) {x : Section} (hl : s.chip.inLoad .body = true)
    (hx : s.chip.ld.dir[s.chip.ld.nextSect]? = some x) :
    exec .sectionRead s = .next { s with chip := s.chip.sectionRead x } := by
  simp [exec, execSectionRead, State.effect_of_runs hs, hl, hx]

theorem exec_sectionRead_other {s : State} (hs : s.runs)
    (h : s.chip.inLoad .body = false ∨ s.chip.ld.dir.length ≤ s.chip.ld.nextSect) : exec .sectionRead s = .next s := by
  simp only [exec, execSectionRead, State.effect_of_runs hs]
  rcases h with h | h
  · simp [h]
  · simp [List.getElem?_eq_none h]

/-- SECTION_READ. -/
theorem sectionRead_answers (c : Chip) (x : Section) :
    let bs := c.imageBytes x.offset x.length
    let at0 := fun (d : Chip) => d.rd LDR_ERR_POS_SECT = c.ld.nextSect % 64 ∧ d.rd LDR_ERR_POS_OFS = x.offset / 4 % 2 ^ 24
    let ready := c.dramReady x.dest bs.length = true
    let done := fun (l : Loader) => { l with nextSect := l.nextSect + 1 }
    let d := c.sectionRead x
    (x.toDram → ¬ready → c.loadFailing d 8 ∧ at0 d) ∧
    (x.type = 2 → crc32 bs ≠ x.crc → d.rd LDR_STAT_ERR = 7 ∧ d.ld.phase = .failed ∧ d.mode.edge = some .e5 ∧ at0 d) ∧
    (x.type ≠ 2 → ¬x.toDram ∨ ready → crc32 bs ≠ x.crc → c.loadFailing d 7 ∧ at0 d) ∧
    (x.toDram → ready → crc32 bs = x.crc →
      d = { c.writeBytes 11 x.dest bs with ld := done (c.writeBytes 11 x.dest bs).ld }) ∧
    (x.type = 4 → crc32 bs = x.crc →
      d = { c with cmp := { c.cmp with safe := d.cmp.safe }, ld := { done c.ld with safePlaced := true } } ∧
      ∀ i, SMap.get safeDefault d.cmp.safe i =
        if i < x.length then bs.getD i 0 else SMap.get safeDefault c.cmp.safe i) ∧
    (x.type = 1 → x.early = true → crc32 bs = x.crc → mfstErr bs ≠ 0 →
      c.loadFailing d 9 ∧ d.rd LDR_STAT_MFST_ERR = mfstErr bs ∧ at0 d) ∧
    (x.type ∉ [1, 2, 3, 4] → crc32 bs = x.crc → d = { c with ld := done c.ld }) := by
  intro bs at0 ready done d
  refine ⟨fun hx hr => ?_, fun h2 hc => ?_, fun h2 hr hc => ?_, fun hx hr hc => ?_, fun h4 hc => ?_, fun h1 he hc hm => ?_,
    fun h hc => ?_⟩
  · rw [show d = _ from Chip.sectionRead_noDram (Chip.placeSection_notReady hx (Bool.eq_false_iff.mpr hr))]
    exact c.loadFailAt_failing 8 _ _ (by decide)
  · rw [show d = _ from Chip.sectionRead_badCrc (Chip.placeSection_csr h2) hc]
    obtain ⟨⟨herr, hphase, hedge, -⟩, hat⟩ :=
      (c.csrBlock x.dest bs).loadFailAt_failing 7 c.ld.nextSect x.offset (by decide)
    exact ⟨herr, hphase, hedge, hat⟩
  · obtain ⟨e, hp, hseat, hflash, hotp⟩ := Chip.placeSection_frame h2 hr
    rw [show d = _ from Chip.sectionRead_badCrc hp hc]
    obtain ⟨hfail, hat⟩ := e.loadFailAt_failing 7 c.ld.nextSect x.offset (by decide)
    exact ⟨hfail.of_before hseat hflash hotp, hat⟩
  · refine Chip.sectionRead_placed (Chip.placeSection_dram hx hr) hc fun ⟨h1, he⟩ => ?_
    rcases hx with h3 | ⟨-, hl⟩
    · omega
    · rw [he] at hl
      cases hl
  · rw [show d = _ from Chip.sectionRead_placed (Chip.placeSection_safe h4) hc (by omega)]
    refine ⟨rfl, fun i => (c.get_safeBlock bs i).trans ?_⟩
    rw [c.imageBytes_length]
  · have hx : ¬x.toDram := by simp [Section.toDram, h1, he]
    rw [show d = _ from
      Chip.sectionRead_badManifest (Chip.placeSection_none hx (by omega) (by omega)) hc h1 he hm]
    exact c.loadMfst_failing _ _ _ (mfstErr_lt bs)
  · simp only [List.mem_cons, List.not_mem_nil, or_false, not_or] at h
    obtain ⟨h1, h2, h3, h4⟩ := h
    have hx : ¬x.toDram := by simp [Section.toDram, h1, h3]
    exact Chip.sectionRead_placed (Chip.placeSection_none hx h2 h4) hc (by simp [h1])

/-! ### The digest -/

/-- The part with the digest judged good, on its way to the deferred manifests. -/
def Chip.digested (c : Chip) (v : Nat) : Chip := (c.wr LDR_STAT_DIGEST_OK v).onLd fun l => { l with phase := .manifests }

section

variable (c : Chip)

theorem Chip.bodyDone_bad (hon : (c.ld.shadowWord 34).getLsbD 0 = true)
    (h : ¬sha256 (c.imageBytes 0 c.ld.imgLen) = c.ld.digest) : c.bodyDone = c.loadFail 10 := by
  unfold Chip.bodyDone
  simp only [hon]
  rw [if_pos (by simpa using h)]
  rfl

theorem Chip.bodyDone_good
    (h : (c.ld.shadowWord 34).getLsbD 0 = false ∨ sha256 (c.imageBytes 0 c.ld.imgLen) = c.ld.digest) :
    c.bodyDone = c.ld.deferredOf.foldl Chip.deferred (c.digested (b2n ((c.ld.shadowWord 34).getLsbD 0))) := by
  unfold Chip.bodyDone
  rw [if_neg (by rcases h with h | h <;> rw [h] <;> simp)]
  rfl

variable (v : Nat)

@[simp] theorem Chip.rd_digested {f : Field} (h : decide (0x30000 ≤ f.addr) = true) : (c.digested v).rd f = c.rd f := by
  have h : 0x30000 ≤ f.addr := of_decide_eq_true h
  exact c.rd_wr_ne LDR_STAT_DIGEST_OK f v (by simp only [LDR_STAT_DIGEST_OK]; omega)

@[simp] theorem Chip.rd_digested_mcF {f : Field} (h : decide (0x30000 ≤ f.addr) = true) (ch : Nat) :
    (c.digested v).rd (mcF ch f) = c.rd (mcF ch f) :=
  c.rd_digested v (decide_eq_true (Nat.le_add_right_of_le (of_decide_eq_true h)))

@[simp] theorem Chip.rd_digested_at {f : Field} (h : decide (0x30000 ≤ f.addr) = true) (n : Nat) :
    (c.digested v).rd (f.at n) = c.rd (f.at n) :=
  c.rd_digested v (decide_eq_true (Nat.le_add_right_of_le (of_decide_eq_true h)))

/-- No register of the loader says where data lie or whether a channel answers. -/
theorem Chip.dramServes_digested (a n : Nat) : (c.digested v).dramServes a n = c.dramServes a n := by
  have hloc : ∀ a, (c.digested v).sysLoc a = c.sysLoc a := by
    intro a
    simp +decide [Chip.sysLoc, Chip.mapC, Chip.mapK, Chip.mapCapacity, Chip.mcFirst, Chip.mcConf, Chip.mcTwoRanks,
      Chip.mcDataRows, Chip.mcRows, Chip.flag]
  have hacc : ∀ ch, (c.digested v).mcAccepts ch = c.mcAccepts ch := by
    intro ch
    simp +decide [Chip.mcAccepts, Chip.mcAnswers, Chip.isFrozen, Chip.mcState, Chip.migState, Chip.flag]
    rfl
  have hred : ∀ l, (c.digested v).redirect l = c.redirect l := by
    intro l
    simp +decide [Chip.redirect, Chip.flag]
  have hphys : ∀ l, (c.digested v).readPhys l = c.readPhys l := by
    intro l
    simp +decide [Chip.readPhys, Chip.rawCheck, Chip.mcDataRows, Chip.mcRows, Chip.flag]
    rfl
  have hbad : ∀ a, (c.digested v).badAt a = c.badAt a := by
    intro a
    simp only [Chip.badAt, Chip.readSys, hloc, hred, hphys]
    rfl
  simp only [Chip.dramServes, hloc, hacc, hbad]
  rfl

end

/-- A deferred manifest that DRAM does not deliver whole (R280). -/
theorem Chip.deferred_fetchFail {c : Chip} {x : Section} {i : Nat} (hph : c.ld.phase = .manifests)
    (he : c.mode.edge = none) (hm : c.migrates) (hd : c.dramServes x.dest x.length = false) :
    c.loadFailing (c.deferred (x, i)) 9 ∧ (c.deferred (x, i)).rd LDR_STAT_MFST_ERR = 8 := by
  obtain ⟨hg, hside⟩ := Chip.readNote_course (g := fun _ => ()) hm 11 x.dest x.length
  have hedge : (c.readNote 11 x.dest x.length).mode.edge = none :=
    (congrArg (fun y : Bearing => y.mode.edge) hg).trans he
  have heq : c.deferred (x, i) = (c.readNote 11 x.dest x.length).loadMfst 8 i x.offset := by
    simp [Chip.deferred, hph, he, hd, hedge, meFetchFail]
  obtain ⟨hfail, hcode, -⟩ := (c.readNote 11 x.dest x.length).loadMfst_failing i x.offset 8 (by decide)
  rw [heq]
  exact ⟨hfail.of_before (c.readNote_seat 11 x.dest x.length) (Chip.flash_of_loaderSide hside)
    (congrArg Loader.otp (Chip.ld_of_loaderSide hside)), hcode⟩

theorem Chip.edge_of_inLoad (c : Chip) {p : LoadPhase} (h : c.inLoad p = true) : c.mode.edge = none := by
  simp only [Chip.inLoad, Bool.and_eq_true, Option.isNone_iff_eq_none] at h
  obtain ⟨⟨-, hedge⟩, -⟩ := h
  exact hedge

theorem exec_bodyReadDone {s : State} (hs : s.runs) : exec .bodyReadDone s =
    .next { s with chip :=
      if s.chip.inLoad .body && s.chip.ld.nextSect == s.chip.ld.dir.length then s.chip.bodyDone else s.chip } :=
  State.effect_of_runs hs fun c => if c.inLoad .body && c.ld.nextSect == c.ld.dir.length then c.bodyDone else c

/-- BODY_READ_DONE. -/
theorem bodyDone_answers (c : Chip) (hl : c.inLoad .body = true) :
    let on := (c.ld.shadowWord 34).getLsbD 0
    let same := sha256 (c.imageBytes 0 c.ld.imgLen) = c.ld.digest
    let d := c.bodyDone
    (on = true → ¬same → c.loadFailing d 10) ∧
    (on = false ∨ same →
      (c.ld.deferredOf = [] → d = { c with regs := d.regs, ld := { c.ld with phase := .manifests } } ∧
        c.sameBut d [LDR_STAT.addr] ∧ d.rd LDR_STAT_DIGEST_OK = if on then 1 else 0) ∧
      (∀ x i, c.ld.deferredOf = [(x, i)] → c.dramServes x.dest x.length = false →
        (∀ ch, ch < 2 → c.flag (mcF ch MCA_ECC_CTL_POLICY) = false) →
        c.loadFailing d 9 ∧ d.rd LDR_STAT_MFST_ERR = 8)) := by
  intro on same d
  refine ⟨fun hon h => ?_, fun h => ⟨fun h0 => ?_, fun x i hx hd hp => ?_⟩⟩
  · rw [show d = _ from c.bodyDone_bad hon h]
    exact c.loadFail_failing 10 (by decide)
  · have hd : d = c.digested (b2n on) := by rw [show d = _ from c.bodyDone_good h, h0]; rfl
    rw [hd]
    refine ⟨rfl, ?_, ?_⟩
    · exact ((Chip.onlyRegs.refl c [LDR_STAT.addr]).wr (f := LDR_STAT_DIGEST_OK) _ (by decide)).2
    · refine (c.rd_wr_same LDR_STAT_DIGEST_OK _ (by decide)).trans ?_
      cases on <;> rfl
  · have hd' : d = (c.digested (b2n on)).deferred (x, i) := by rw [show d = _ from c.bodyDone_good h, hx]; rfl
    have hm : (c.digested (b2n on)).migrates := fun ch hch => by
      unfold Chip.flag
      rw [Chip.rd_digested_mcF _ _ (by decide)]
      exact hp ch hch
    obtain ⟨hfail, hcode⟩ := Chip.deferred_fetchFail (c := c.digested (b2n on)) (x := x) (i := i) rfl
      (c.edge_of_inLoad hl) hm ((c.dramServes_digested _ _ _).trans hd)
    rw [hd']
    exact ⟨hfail.of_before rfl rfl rfl, hcode⟩

end Sys2Proof.Machine
end

section
/-! SUPPORT. The scan of the ledger and what it delivers (R287, R288, Table 6.7). -/

namespace Sys2Proof.Machine

open Sys2Proof

/-! ### A record is delivered -/

section

variable (c : Chip) (b : List Byte)

@[simp] theorem Chip.onBps_loaderSide (f : BitPlane → BitPlane) : (c.onBps f).loaderSide = c.loaderSide := (rfl)

@[simp] theorem Chip.scrubAt_loaderSide (ch rank line : Nat) : (c.scrubAt ch rank line).loaderSide = c.loaderSide := by
  simp +decide [Chip.scrubAt]

@[simp] theorem Chip.setMig_loaderSide (ch st : Nat) : (c.setMig ch st).loaderSide = c.loaderSide := by
  simp +decide [Chip.setMig]

@[simp] theorem Chip.stuckInsert_loaderSide (m : Stuck) : (c.stuckInsert m).1.loaderSide = c.loaderSide := by
  unfold Chip.stuckInsert
  split <;> simp +decide

@[simp] theorem Chip.deliverRecord_loaderSide : (c.deliverRecord b).loaderSide = c.loaderSide := by
  unfold Chip.deliverRecord
  split
  · simp [Chip.deliverPpr]
  · simp +decide [Chip.deliverRetired]
  · simp [Chip.deliverStuck]
  · rfl

variable {c b}

theorem Chip.deliverRecord_ppr (hk : (b.getD 1 0).toNat = 0x10) : c.deliverRecord b = c.deliverPpr b := by
  unfold Chip.deliverRecord
  rw [hk]
  rfl

theorem Chip.deliverRecord_retired (hk : (b.getD 1 0).toNat = 0x11) : c.deliverRecord b = c.deliverRetired b := by
  unfold Chip.deliverRecord
  rw [hk]
  rfl

theorem Chip.deliverRecord_stuck (hk : (b.getD 1 0).toNat = 0x20) : c.deliverRecord b = c.deliverStuck b := by
  unfold Chip.deliverRecord
  rw [hk]
  rfl

theorem Chip.onMc_mc_same (c : Chip) (ch : Nat) (f : Channel → Channel) : (c.onMc ch f).mc ch = f (c.mc ch) := by
  unfold Chip.onMc Chip.mc
  split <;> rfl

theorem Chip.softRecords_deliverPpr (h6 : recData b 6 1 = 0) (hu : recNum b 8 2 < 4) :
    ((c.deliverPpr b).mc (recNum b 8 2 / 2)).softRecords = (c.mc (recNum b 8 2 / 2)).softRecords ++
      [[recNum b 8 2 % 2, recData b 0 1 * 4 + recData b 1 1, recData b 2 4]] := by
  unfold Chip.deliverPpr
  simp only
  rw [if_pos ⟨h6, hu⟩, Chip.onMc_mc_same]

theorem Chip.deliverRetired_redirects (hch : recNum b 8 2 < 2) (hm : c.migState (recNum b 8 2) ≠ 4) :
    (c.deliverRetired b).migState (recNum b 8 2) = 4 ∧
      (c.deliverRetired b).rd (MCX_MIG_STAT_REDIRECT.at (recNum b 8 2)) = 1 := by
  unfold Chip.deliverRetired
  simp only
  rw [if_pos ⟨hch, hm⟩]
  unfold Chip.migState Chip.scrubAt Chip.setMig
  generalize recNum b 8 2 = ch at hch
  have hlog (d : Chip) (type flags unit data : Nat) :
      d.sameBut (d.logRecord type flags unit data) [LKK_LOG_SEQ.addr, LKK_LOG_CNT.addr] :=
    ((Chip.onlyLk.refl d _).logRecord (by decide) (by decide) type flags unit data).2
  interval_cases ch
  · simp (disch := decide) only [Chip.rd_wr_clear, Chip.rd_wr_same, (hlog _ _ _ _ _).rd]
    decide
  · simp (disch := decide) only [Chip.rd_wr_clear, Chip.rd_wr_same, (hlog _ _ _ _ _).rd]
    decide

/-- The first entry of an empty map. -/
theorem Chip.deliverStuck_first (h : c.bps.stuck = []) :
    (c.deliverStuck b).bps.stuck = [⟨recData b 0 2, recData b 2 2, recData b 4 1 != 0⟩] ∧
      (c.deliverStuck b).rd BPS_MAP_CTL_COUNT = 1 := by
  unfold Chip.deliverStuck Chip.stuckInsert
  rw [h]
  exact ⟨rfl, Chip.rd_wr_same _ BPS_MAP_CTL_COUNT 1 (by decide)⟩

end

/-! ### The scan -/

/-- The slots below the append pointer that the scan makes a kind of. -/
def Chip.slotsOf (c : Chip) (k : SlotKind) : List (List Byte) :=
  ((List.range c.appendPtr).map c.slot).filter fun b => slotKind b == k

/-- The scan's results are noted, and nothing is delivered yet. -/
def Chip.scanned (c : Chip) : Chip := c.scanLedger.onLd fun l => { l with scanned := true }

theorem Chip.onLd_onLd (c : Chip) (f g : Loader → Loader) : (c.onLd f).onLd g = c.onLd (g ∘ f) := rfl

theorem Chip.onlyRegs.onLd {c d : Chip} {as : List Nat} (h : c.onlyRegs d as) (f : Loader → Loader) :
    d.onLd f = { c with regs := (d.onLd f).regs, ld := (d.onLd f).ld } ∧ c.sameBut (d.onLd f) as := by
  obtain ⟨hframe, hsame⟩ := h
  refine ⟨?_, hsame⟩
  rw [hframe]
  rfl

section

variable (c : Chip)

theorem Chip.ledgerScan_eq : c.ledgerScan = (c.slotsOf .valid).foldl Chip.deliverRecord c.scanned := rfl

theorem Chip.scanned_frame : c.scanned = { c with regs := c.scanned.regs, ld := c.scanned.ld } ∧
    c.sameBut c.scanned [LDR_LEDGER_STAT.addr] := by
  obtain ⟨next, torn, corrupt, f, g, h⟩ : ∃ next torn corrupt f g, c.scanned =
      ((((c.wr LDR_LEDGER_STAT_NEXT next).wr LDR_LEDGER_STAT_TORN torn).wr LDR_LEDGER_STAT_CORRUPT
        corrupt).onLd f).onLd g := by
    unfold Chip.scanned Chip.scanLedger
    exact ⟨_, _, _, _, _, rfl⟩
  rw [h, Chip.onLd_onLd]
  exact Chip.onlyRegs.onLd ((((Chip.onlyRegs.refl c _).wr (f := LDR_LEDGER_STAT_NEXT) next (by decide)).wr
    (f := LDR_LEDGER_STAT_TORN) torn (by decide)).wr (f := LDR_LEDGER_STAT_CORRUPT) corrupt (by decide)) (g ∘ f)

theorem Chip.rd_scanned : c.scanned.rd LDR_LEDGER_STAT_NEXT = c.appendPtr % 4096 ∧
    c.scanned.rd LDR_LEDGER_STAT_TORN = min (c.slotsOf .torn).length 2047 ∧
    c.scanned.rd LDR_LEDGER_STAT_CORRUPT = min (c.slotsOf .corrupt).length 511 := by
  unfold Chip.scanned Chip.scanLedger
  simp (disch := decide) only [Chip.onLd_rd, Chip.rd_wr_clear, Chip.rd_wr_same]
  refine ⟨rfl, Nat.mod_eq_of_lt ?_, Nat.mod_eq_of_lt ?_⟩
  · exact (Nat.min_le_right _ _).trans_lt (by decide)
  · exact (Nat.min_le_right _ _).trans_lt (by decide)

theorem Chip.ledgerScan_loaderSide : c.ledgerScan.loaderSide = c.scanned.loaderSide := by
  rw [Chip.ledgerScan_eq]
  simp

theorem exec_ledgerScan {s : State} (hs : s.runs) : exec .ledgerScan s =
    .next { s with chip :=
      if s.chip.inLoad .bist && s.chip.ld.headerRead && !s.chip.ld.scanned then s.chip.ledgerScan else s.chip } :=
  State.effect_of_runs hs fun c => if c.inLoad .bist && c.ld.headerRead && !c.ld.scanned then c.ledgerScan else c

/-- LEDGER_SCAN. -/
theorem ledgerScan_answers :
    let d := c.ledgerScan
    d.stores = c.stores ∧ d.seat = c.seat ∧ d.ld.scanned = true ∧ d.rd LDR_LEDGER_STAT_NEXT = c.appendPtr % 4096 ∧
    d.rd LDR_LEDGER_STAT_TORN = min (c.slotsOf .torn).length 2047 ∧
    d.rd LDR_LEDGER_STAT_CORRUPT = min (c.slotsOf .corrupt).length 511 ∧
    d.ld.keys = ((c.slotsOf .valid).map recKey).take 2048 ∧
    (c.slotsOf .valid = [] → d = { c with regs := d.regs, ld := d.ld } ∧ c.sameBut d [LDR_LEDGER_STAT.addr]) ∧
    ∀ b, c.slotsOf .valid = [b] →
      ((b.getD 1 0).toNat = 0x10 → recData b 6 1 = 0 → recNum b 8 2 < 4 →
        (d.mc (recNum b 8 2 / 2)).softRecords = (c.mc (recNum b 8 2 / 2)).softRecords ++
          [[recNum b 8 2 % 2, recData b 0 1 * 4 + recData b 1 1, recData b 2 4]]) ∧
      ((b.getD 1 0).toNat = 0x11 → recNum b 8 2 < 2 → c.migState (recNum b 8 2) ≠ 4 →
        d.migState (recNum b 8 2) = 4 ∧ d.rd (MCX_MIG_STAT_REDIRECT.at (recNum b 8 2)) = 1) ∧
      ((b.getD 1 0).toNat = 0x20 → c.bps.stuck = [] →
        d.bps.stuck = [⟨recData b 0 2, recData b 2 2, recData b 4 1 != 0⟩] ∧ d.rd BPS_MAP_CTL_COUNT = 1) := by
  intro d
  have hside := c.ledgerScan_loaderSide
  have hld : d.ld = c.scanned.ld := Chip.ld_of_loaderSide hside
  obtain ⟨hnext, htorn, hcorrupt⟩ := c.rd_scanned
  obtain ⟨hframe, hsame⟩ := c.scanned_frame
  refine ⟨c.ledgerScan_stores, c.ledgerScan_seat, ?_, ?_, ?_, ?_, ?_, fun h => ?_, fun b h => ?_⟩
  · rw [hld]
    rfl
  · exact (Chip.rd_of_loaderSide hside (by decide)).trans hnext
  · exact (Chip.rd_of_loaderSide hside (by decide)).trans htorn
  · exact (Chip.rd_of_loaderSide hside (by decide)).trans hcorrupt
  · rw [hld]
    rfl
  · rw [show d = c.scanned by simp only [d, Chip.ledgerScan_eq, h, List.foldl_nil]]
    exact ⟨hframe, hsame⟩
  · rw [show d = c.scanned.deliverRecord b by simp only [d, Chip.ledgerScan_eq, h, List.foldl_cons, List.foldl_nil]]
    refine ⟨fun hk h6 hu => ?_, fun hk hch hm => ?_, fun hk hst => ?_⟩
    · rw [Chip.deliverRecord_ppr hk, Chip.softRecords_deliverPpr h6 hu]
      rfl
    · rw [Chip.deliverRecord_retired hk]
      refine Chip.deliverRetired_redirects hch fun h4 => hm (Eq.trans ?_ h4)
      refine (hsame.rd (List.mem_singleton.not.mpr ?_)).symm
      simp only [Field.at, MCX_MIG_STAT_STATE, LDR_LEDGER_STAT]
      omega
    · rw [Chip.deliverRecord_stuck hk]
      exact Chip.deliverStuck_first hst

end

end Sys2Proof.Machine
end

section
/-! SUPPORT. Self-test and the allocation of spares (R273, R275, R276, R284-R286). -/

namespace Sys2Proof.Machine

open Sys2Proof

/-! ### Sorting by insertion -/

section

variable {α : Type} (lt : α → α → Bool)

theorem insertBy_eq_orderedInsert (x : α) (l : List α) :
    insertBy lt x l = l.orderedInsert (fun a b => lt a b = true) x := by
  induction l with
  | nil => rfl
  | cons y t ih =>
    unfold insertBy
    rw [List.orderedInsert_cons, ih]

theorem sortBy_eq_insertionSort (l : List α) : sortBy lt l = l.insertionSort fun a b => lt a b = true := by
  induction l with
  | nil => rfl
  | cons x t ih => exact (congrArg (insertBy lt x) ih).trans (insertBy_eq_orderedInsert lt x _)

@[simp] theorem mem_sortBy {x : α} {l : List α} : x ∈ sortBy lt l ↔ x ∈ l := by
  rw [sortBy_eq_insertionSort]
  exact List.mem_insertionSort _

end

/-- A sorted list of numbers begins with the least. -/
theorem sortBy_of_least {m : Nat} {l : List Nat} (hm : m ∈ l) (hl : ∀ k ∈ l, m ≤ k) :
    ∃ t, sortBy (fun a b => decide (a < b)) l = m :: t := by
  induction l with
  | nil => cases hm
  | cons x s ih =>
    have hs : sortBy (fun a b => decide (a < b)) (x :: s) =
      insertBy (fun a b => decide (a < b)) x (sortBy (fun a b => decide (a < b)) s) := rfl
    have hx : m ≤ x := hl x List.mem_cons_self
    by_cases hms : m ∈ s
    · obtain ⟨t, ht⟩ := ih hms fun k hk => hl k (List.mem_cons_of_mem _ hk)
      rw [hs, ht]
      unfold insertBy
      rcases Nat.lt_or_eq_of_le hx with hlt | rfl
      · exact ⟨_, if_neg (by simp; omega)⟩
      · exact ⟨_, if_neg (by simp)⟩
    · obtain rfl : m = x := (List.mem_cons.mp hm).resolve_right hms
      rw [hs]
      cases ht : sortBy (fun a b => decide (a < b)) s with
      | nil => exact ⟨[], rfl⟩
      | cons y t =>
        have hy : y ∈ s := (mem_sortBy _).mp (ht ▸ List.mem_cons_self)
        have hlt : m < y := Nat.lt_of_le_of_ne (hl y (List.mem_cons_of_mem _ hy)) fun h => hms (h ▸ hy)
        exact ⟨y :: t, if_pos (decide_eq_true hlt)⟩

/-! ### The spares of one SRAM -/

/-- The repairs in force are the table's and those added. -/
def Spares.grown (x : Spares) (table : List (Bool × Nat)) : Prop := x.force = table ++ x.added

section

variable {x : Spares} {table : List (Bool × Nat)}

theorem Spares.grown.take (h : x.grown table) (row : Bool) (i : Nat) (fresh : Bool) : (x.take row i fresh).grown table := by
  unfold Spares.grown at h ⊢
  simp [Spares.take, h]

theorem Spares.grown.ledger (h : x.grown table) (r : Bool × Nat) : (x.ledger r).grown table := by
  unfold Spares.ledger
  split
  · exact h
  split
  · exact h.take _ _ _
  · exact h

theorem Spares.grown.lines (h : x.grown table) (row : Bool) (cells : List (Nat × Nat)) :
    (x.lines row cells).grown table := by
  unfold Spares.lines
  refine List.foldlRecOn (motive := fun y : Spares => y.grown table) _ _ h fun y hy v _ => ?_
  have either (p : Prop) [Decidable p] : (if p then y.take row v true else y).grown table := by
    split
    · exact hy.take _ _ _
    · exact hy
  exact either _

theorem Spares.grown.cell (h : x.grown table) (q : Nat × Nat) : (x.cell q).grown table := by
  unfold Spares.cell
  (repeat' split)
  · exact h
  · exact h.take _ _ _
  · exact h.take _ _ _
  · exact h

theorem spareMacro_grown (table ledger : List (Bool × Nat)) (small : Bool) (cells : List (Nat × Nat)) :
    (spareMacro table ledger small cells).grown table := by
  unfold spareMacro
  extract_lets n used x0 cs x1
  have h0 : x0.grown table := (List.append_nil table).symm
  have h1 : x1.grown table :=
    List.foldlRecOn (motive := fun y : Spares => y.grown table) _ _ h0 fun y hy r _ => hy.ledger r
  exact List.foldlRecOn (motive := fun y : Spares => y.grown table) _ _ ((h1.lines true cs).lines false cs)
    fun y hy q _ => hy.cell q

/-- Cells that are all repaired are each covered by the table's repairs or by those added. -/
theorem Spares.covered_of_not_bad (h : x.grown table) {cells : List (Nat × Nat)} (hb : x.bad cells = false)
    {q : Nat × Nat} (hq : q ∈ cells) :
    (true, q.1) ∈ table ++ x.added ∨ (false, q.2) ∈ table ++ x.added := by
  have hc : x.covers q = true := by
    simp only [Spares.bad, Bool.or_eq_false_iff, List.any_eq_false, Bool.not_eq_true', Bool.not_eq_false] at hb
    exact hb.2 q hq
  rw [← h]
  simpa [Spares.covers] using hc

end

/-- One failing cell takes a row. -/
theorem spareMacro_one (q : Nat × Nat) :
    spareMacro [] [] false [q] = ⟨1, 2, [(true, q.1)], [(true, q.1)], [(true, q.1)], 0⟩ := by
  have h : ∀ pos : Nat × Nat → Nat, [pos q].eraseDups = [pos q] := fun pos => by simp [List.eraseDups_cons]
  simp [spareMacro, sortBy, insertBy, Spares.lines, Spares.covers, Spares.cell, Spares.hasFree, Spares.take, h]

/-- An SRAM of less than 16 KiB takes none (R273). -/
theorem spareMacro_small (q : Nat × Nat) : spareMacro [] [] true [q] = ⟨0, 0, [], [], [], 0⟩ := by
  have h : ∀ pos : Nat × Nat → Nat, [pos q].eraseDups = [pos q] := fun pos => by simp [List.eraseDups_cons]
  simp [spareMacro, sortBy, insertBy, Spares.lines, Spares.covers, Spares.cell, Spares.hasFree, h]

theorem cellsOf_single (m : Nat) (cells : List (Nat × Nat)) : cellsOf [(m, cells)] m = cells.eraseDups := by
  simp [cellsOf]

theorem mem_cellsOf {fails : List (Nat × List (Nat × Nat))} {m : Nat} {cells : List (Nat × Nat)} {q : Nat × Nat}
    (hm : (m, cells) ∈ fails) (hq : q ∈ cells) : q ∈ cellsOf fails m := by
  refine List.mem_eraseDups.mpr (List.mem_flatMap.mpr ⟨(m, cells), ?_, hq⟩)
  exact List.mem_filter.mpr ⟨hm, beq_self_eq_true m⟩

theorem Loader.mem_macros (l : Loader) {fails : List (Nat × List (Nat × Nat))} {m : Nat} {cells : List (Nat × Nat)}
    (hm : (m, cells) ∈ fails) : m ∈ l.macros fails :=
  (mem_sortBy _).mpr (List.mem_eraseDups.mpr (List.mem_append_left _ (List.mem_map.mpr ⟨_, hm, rfl⟩)))

theorem Loader.mem_repairs_of_tableOf {l : Loader} {m : Nat} {r : Bool × Nat} (h : r ∈ l.tableOf m) :
    (⟨m, r.1, r.2⟩ : Repair) ∈ l.repairs := by
  obtain ⟨⟨k, row, i⟩, hk, rfl⟩ := List.mem_map.mp h
  obtain ⟨hmem, hno⟩ := List.mem_filter.mp hk
  obtain rfl : k = m := eq_of_beq hno
  exact hmem

/-! ### Records requested in LOAD -/

/-- At most records have been requested: beside LDR_LEDGER_CNT no register of the loader changed, of its state only the
queue, and neither the mode nor the flash. -/
def Chip.onlyAsked (c d : Chip) : Prop :=
  d.bearing = c.bearing ∧ d.ld = { c.ld with queue := d.ld.queue } ∧
    ∀ f : Field, f.addr / 0x10000 = 2 → f.addr ≠ LDR_LEDGER_CNT.addr → d.rd f = c.rd f

theorem Chip.onlyAsked.refl (c : Chip) : c.onlyAsked c := ⟨rfl, rfl, fun _ _ _ => rfl⟩

theorem Chip.onlyAsked.trans {b c d : Chip} (h : b.onlyAsked c) (k : c.onlyAsked d) : b.onlyAsked d := by
  obtain ⟨hb, hl, hr⟩ := h
  obtain ⟨kb, kl, kr⟩ := k
  refine ⟨kb.trans hb, ?_, fun f hf hn => (kr f hf hn).trans (hr f hf hn)⟩
  rw [hl] at kl
  exact kl

theorem loaderAddr_of_block {a : Nat} (h : a / 0x10000 = 2) : loaderAddr a = true := by
  simp [loaderAddr, h]

section

variable (c : Chip)

@[simp] theorem Chip.setPdreq_loaderSide (d : Nat) (b : Bool) : (c.setPdreq d b).loaderSide = c.loaderSide := by
  unfold Chip.setPdreq
  split
  · exact c.setBit_loaderSide _ _ _ (by decide)
  · exact c.setBit_loaderSide _ _ _ (by decide)

@[simp] theorem Chip.pdPlan_loaderSide : c.pdPlan.loaderSide = c.loaderSide := by
  rw [Chip.pdPlan_onlyPw]
  rfl

@[simp] theorem Chip.ledgerHold_loaderSide : c.ledgerHold.loaderSide = c.loaderSide := by
  have enable (d : Chip) : (d.domEnable 21).loaderSide = d.loaderSide := d.setReg_loaderSide _ _ (by decide)
  unfold Chip.ledgerHold
  (repeat' split) <;> simp [enable]

@[simp] theorem Chip.ledgerHold_bearing : c.ledgerHold.bearing = c.bearing := by
  unfold Chip.ledgerHold
  (repeat' split) <;> simp

theorem Chip.ledgerFail_onlyAsked (r : LedgerReq) (why : Nat) : c.onlyAsked (c.ledgerFail r why) := by
  have hld := c.ledgerFail_ld r why
  refine ⟨c.ledgerFail_course r why, by rw [hld], fun f hf hn => (c.ledgerFail_onlyLk r why).2.rd ?_⟩
  simp only [LDR_LEDGER_CNT] at hn
  simp only [ledgerFailRegs, List.mem_cons, LKK_LOG_SEQ, LKK_LOG_CNT, LDR_LEDGER_CNT, List.not_mem_nil, or_false]
  omega

theorem Chip.ledgerRequest_onlyAsked (r : LedgerReq) : c.onlyAsked (c.ledgerRequest r) := by
  unfold Chip.ledgerRequest
  split
  · exact c.ledgerFail_onlyAsked _ _
  split
  · exact c.ledgerFail_onlyAsked _ _
  split
  · exact ⟨rfl, rfl, fun f _ hn => c.rd_wr_ne LDR_LEDGER_CNT_SUPPRESSED f _ hn⟩
  split
  · exact c.ledgerFail_onlyAsked _ _
  · have hside := (c.onLd fun l => { l with queue := l.queue ++ [r] }).ledgerHold_loaderSide
    refine ⟨Chip.ledgerHold_bearing _, ?_, fun f hf _ => Chip.rd_of_loaderSide hside (loaderAddr_of_block hf)⟩
    rw [Chip.ld_of_loaderSide hside]
    rfl

theorem Chip.blockRecord_onlyAsked (kind unit : Nat) (data : List Nat) : c.onlyAsked (c.blockRecord kind unit data) :=
  c.ledgerRequest_onlyAsked _

/-! ### The repairs of one SRAM -/

/-- The part with the repairs of an SRAM counted and in the table, no record requested yet. -/
def Chip.repairsNoted (c : Chip) (m : Nat) (x : Spares) : Chip :=
  ((c.bump LDR_BIST_STAT_NEW_REPAIRS x.fresh.length).bump LDR_BIST_STAT_LEDGER_SKIP x.skipped).onLd fun l =>
    l.addRepairs (x.added.map fun r => ⟨m, r.1, r.2⟩)

variable (m : Nat) (x : Spares)

theorem Chip.repairMacro_onlyAsked : (c.repairsNoted m x).onlyAsked (c.repairMacro m x) :=
  List.foldlRecOn (motive := fun d => (c.repairsNoted m x).onlyAsked d) _ _ (.refl _) fun d hd _ _ =>
    hd.trans (d.blockRecord_onlyAsked _ _ _)

/-- An SRAM's repairs join the table; of the loader's state only these and the queue change. -/
theorem Chip.repairMacro_ld : ∃ q ms, (c.repairMacro m x).ld =
    { c.ld with queue := q, repairs := c.ld.repairs ++ x.added.map fun r => ⟨m, r.1, r.2⟩, inMacros := ms } := by
  obtain ⟨-, hld, -⟩ := c.repairMacro_onlyAsked m x
  exact ⟨_, _, hld⟩

theorem Chip.repairMacro_flash : (c.repairMacro m x).flash = c.flash :=
  congrArg Course.flash (c.repairMacro_onlyAsked m x).1

theorem Chip.rd_repairMacro : (c.repairMacro m x).rd LDR_BIST_STAT_NEW_REPAIRS =
    satAdd 8 (c.rd LDR_BIST_STAT_NEW_REPAIRS) x.fresh.length := by
  obtain ⟨-, -, hreg⟩ := c.repairMacro_onlyAsked m x
  refine (hreg LDR_BIST_STAT_NEW_REPAIRS (by decide) (by decide)).trans ?_
  refine (Chip.rd_wr_clear _ LDR_BIST_STAT_LEDGER_SKIP LDR_BIST_STAT_NEW_REPAIRS _ (by decide)).trans ?_
  exact c.rd_bump_same LDR_BIST_STAT_NEW_REPAIRS _ (by decide)

/-- All of them: what the table gains, and that the phase is not yet over. -/
theorem Chip.foldl_repairMacro (xs : List (Nat × Spares)) :
    (xs.foldl (fun (c : Chip) x => c.repairMacro x.1 x.2) c).ld.phase1 = c.ld.phase1 ∧
    (xs.foldl (fun (c : Chip) x => c.repairMacro x.1 x.2) c).ld.repairs =
      c.ld.repairs ++ xs.flatMap fun x => x.2.added.map fun r => ⟨x.1, r.1, r.2⟩ := by
  induction xs generalizing c with
  | nil => exact ⟨rfl, (List.append_nil _).symm⟩
  | cons x t ih =>
    obtain ⟨q, ms, hld⟩ := c.repairMacro_ld x.1 x.2
    obtain ⟨hph, hrep⟩ := ih (c.repairMacro x.1 x.2)
    rw [hld] at hph hrep
    exact ⟨hph, hrep.trans (by simp)⟩

end

/-! ### The lanes -/

theorem eraseDups_eq_singleton {l : List Nat} {n : Nat} (hn : n ∈ l) (hl : ∀ a ∈ l, a = n) : l.eraseDups = [n] := by
  cases l with
  | nil => cases hn
  | cons a t =>
    obtain rfl := hl a List.mem_cons_self
    have ht : t.filter (fun b => !b == a) = [] :=
      List.filter_eq_nil_iff.mpr fun b hb => by simp [hl b (List.mem_cons_of_mem _ hb)]
    rw [List.eraseDups_cons, ht, List.eraseDups_nil]

theorem ne_of_eraseDups {l t : List Nat} {a b : Nat} (h : l.eraseDups = a :: b :: t) : a ∈ l ∧ b ∈ l ∧ a ≠ b := by
  have ha : a ∈ l := List.mem_eraseDups.mp (h ▸ List.mem_cons_self)
  have hb : b ∈ l := List.mem_eraseDups.mp (h ▸ List.mem_cons_of_mem _ List.mem_cons_self)
  refine ⟨ha, hb, ?_⟩
  rintro rfl
  cases l with
  | nil => cases ha
  | cons c s =>
    rw [List.eraseDups_cons] at h
    obtain ⟨rfl, hs⟩ := List.cons.inj h
    have := List.mem_eraseDups.mp (hs ▸ List.mem_cons_self)
    simp at this

/-- The lanes replaced before and those that the ledger names. -/
def Chip.keptLanes (c : Chip) : List Nat := c.ld.ledgerLanes ++ if c.ld.spared < 8 then [c.ld.spared] else []

/-- The lanes to be replaced. -/
def Chip.badLanes (c : Chip) (lanes : List Nat) : List Nat := (lanes.filter fun n => decide (n < 8)) ++ c.keptLanes

/-- The spare cannot replace them: there are two, or it fails itself (R276). -/
def Chip.lanesFail (c : Chip) (lanes : List Nat) : Prop :=
  (∃ a ∈ c.badLanes lanes, ∃ b ∈ c.badLanes lanes, a ≠ b) ∨ (c.badLanes lanes ≠ [] ∧ 8 ∈ lanes)

/-- Lane 8's own failure noted. -/
def Chip.lane8Noted (c : Chip) (lanes : List Nat) : Chip := c.onLd fun l => { l with lane8Bad := lanes.contains 8 }

/-- The lane map settled: lane `n` replaced by the spare, none where it is 15. -/
def Chip.laneSpared (c : Chip) (lanes : List Nat) (n : Nat) : Chip :=
  (c.lane8Noted lanes).onLd fun l => { l with spared := n, phase1 := true }

section

variable (c : Chip) {lanes : List Nat} {n : Nat}

theorem Chip.laneMap_none (h : c.badLanes lanes = []) : c.laneMap lanes = c.laneSpared lanes 15 := by
  have he : (c.badLanes lanes).eraseDups = [] := by rw [h, List.eraseDups_nil]
  unfold Chip.badLanes Chip.keptLanes at he
  unfold Chip.laneMap
  simp only [he]
  rfl

theorem Chip.laneMap_one (hn : n ∈ c.badLanes lanes) (hl : ∀ a ∈ c.badLanes lanes, a = n) (h8 : 8 ∉ lanes) :
    c.laneMap lanes =
      if n ∈ c.keptLanes then c.laneSpared lanes n else (c.laneSpared lanes n).blockRecord 3 n [] := by
  have he := eraseDups_eq_singleton hn hl
  unfold Chip.badLanes Chip.keptLanes at he
  unfold Chip.laneMap
  simp only [he, List.contains_iff_mem, if_neg h8]
  rfl

theorem Chip.laneMap_fails (h : c.lanesFail lanes) : c.laneMap lanes = (c.lane8Noted lanes).loadFail 2 := by
  have hmem : ∀ a, a ∈ c.badLanes lanes ↔ a ∈ (c.badLanes lanes).eraseDups := fun a => List.mem_eraseDups.symm
  unfold Chip.lanesFail at h
  rw [← List.isEmpty_eq_false_iff, List.isEmpty_eq_false_iff_exists_mem] at h
  simp only [hmem] at h
  unfold Chip.badLanes Chip.keptLanes at h
  unfold Chip.laneMap
  dsimp only
  split
  next he =>
    rw [he] at h
    simp at h
  next k he =>
    rw [he] at h
    have h8 : 8 ∈ lanes := by simpa using h
    exact if_pos (by simpa using h8)
  next => rfl

end

end Sys2Proof.Machine
end

section
/-! SUPPORT. The ends of the two phases of self-test (R273-R276, R286), and O48. -/

namespace Sys2Proof.Machine

open Sys2Proof

theorem Chip.loadFail_ld (c : Chip) (err : Nat) :
    (c.loadFail err).ld = { c.ld with phase := .failed, safePlaced := false } :=
  (Chip.ld_of_loaderSide (c.loadFail_loaderSide err)).trans rfl

/-- An SRAM that is not repaired is named, and LOAD fails as BIST_FAIL. -/
theorem Chip.failMacro_failing (c : Chip) (m : Nat) :
    c.loadFailing ((c.wr LDR_BIST_STAT_FAIL_MACRO m).loadFail 1) 1 ∧
      ((c.wr LDR_BIST_STAT_FAIL_MACRO m).loadFail 1).rd LDR_BIST_STAT_FAIL_MACRO = m % 256 := by
  refine ⟨(Chip.loadFail_failing _ 1 (by decide)).of_before rfl rfl rfl, ?_⟩
  exact (Chip.rd_loadFail _ 1 (by decide) (by decide) (by decide)).trans
    (c.rd_wr_same LDR_BIST_STAT_FAIL_MACRO m (by decide))

/-! ### The lane map -/

section

variable (c : Chip) (lanes : List Nat)

theorem Chip.laneMap_failing (h : c.lanesFail lanes) : c.loadFailing (c.laneMap lanes) 2 := by
  rw [c.laneMap_fails h]
  exact (Chip.loadFail_failing _ 2 (by decide)).of_before rfl rfl rfl

/-- A lane map that does not fail replaces at most one lane; one that it replaces anew is requested as a record. -/
theorem Chip.laneMap_settles (h : ¬c.lanesFail lanes) : ∃ n, (c.badLanes lanes = [] → n = 15) ∧
    (∀ a ∈ c.badLanes lanes, a = n) ∧
    (c.laneMap lanes = c.laneSpared lanes n ∨
      (∃ a ∈ c.badLanes lanes, a ∉ c.keptLanes) ∧ c.laneMap lanes = (c.laneSpared lanes n).blockRecord 3 n []) := by
  by_cases hb : c.badLanes lanes = []
  · exact ⟨15, fun _ => rfl, by simp [hb], .inl (c.laneMap_none hb)⟩
  obtain ⟨n, hn⟩ := List.exists_mem_of_ne_nil _ hb
  simp only [Chip.lanesFail, not_or, not_exists, not_and, not_not] at h
  obtain ⟨hone, h8⟩ := h
  have hl : ∀ a ∈ c.badLanes lanes, a = n := fun a ha => hone a ha n hn
  have hmap := c.laneMap_one hn hl (h8 hb)
  refine ⟨n, fun h => absurd h hb, hl, ?_⟩
  by_cases hk : n ∈ c.keptLanes
  · exact .inl (hmap.trans (if_pos hk))
  · exact .inr ⟨⟨n, hn, hk⟩, hmap.trans (if_neg hk)⟩

/-- What a lane map that does not fail leaves. -/
theorem Chip.laneMap_onlyAsked {lanes : List Nat} (h : ¬c.lanesFail lanes) : ∃ n, (c.badLanes lanes = [] → n = 15) ∧
    (∀ a ∈ c.badLanes lanes, a = n) ∧ (c.laneSpared lanes n).onlyAsked (c.laneMap lanes) ∧
    (c.laneMap lanes).stores = c.stores ∧
    (c.badLanes lanes = c.keptLanes → c.laneMap lanes = c.laneSpared lanes n) := by
  obtain ⟨n, hnone, hone, heq | ⟨⟨a, ha, hk⟩, heq⟩⟩ := c.laneMap_settles lanes h
  · refine ⟨n, hnone, hone, ?_, ?_, fun _ => heq⟩
    · rw [heq]
      exact .refl _
    · rw [heq]
      rfl
  · refine ⟨n, hnone, hone, ?_, ?_, fun hsame => absurd (hsame ▸ ha) hk⟩
    · rw [heq]
      exact Chip.blockRecord_onlyAsked ..
    · rw [heq]
      exact Chip.blockRecord_stores ..

theorem Chip.laneMap_repairs : (c.laneMap lanes).ld.repairs = c.ld.repairs := by
  by_cases h : c.lanesFail lanes
  · rw [c.laneMap_fails h, Chip.loadFail_ld]
    rfl
  · obtain ⟨n, -, -, ⟨-, hld, -⟩, -⟩ := c.laneMap_onlyAsked h
    rw [hld]
    rfl

end

/-! ### Phase 1 -/

/-- The SRAMs with work to do, each with its spares allotted. -/
def Chip.spareSets (c : Chip) (fails : List (Nat × List (Nat × Nat))) (small : List Nat) : List (Nat × Spares) :=
  (c.ld.macros fails).map fun m =>
    (m, spareMacro (c.ld.tableOf m) (c.ld.ledgerOf m) (small.contains m) (cellsOf fails m))

section

variable {c : Chip} {fails : List (Nat × List (Nat × Nat))} {small lanes : List Nat}

theorem Chip.bistPhase1_bad {x : Nat × Spares}
    (h : (c.spareSets fails small).find? (fun x => x.2.bad (cellsOf fails x.1)) = some x) :
    c.bistPhase1 fails small lanes = ((((c.spareSets fails small).foldl (fun (c : Chip) x => c.repairMacro x.1 x.2) c).wr
      LDR_BIST_STAT_FAIL_MACRO x.1).loadFail 1) := by
  unfold Chip.spareSets at h
  unfold Chip.bistPhase1
  simp only [h]
  rfl

theorem Chip.bistPhase1_repaired
    (h : (c.spareSets fails small).find? (fun x => x.2.bad (cellsOf fails x.1)) = none) :
    c.bistPhase1 fails small lanes =
      ((c.spareSets fails small).foldl (fun (c : Chip) x => c.repairMacro x.1 x.2) c).laneMap lanes := by
  unfold Chip.spareSets at h
  unfold Chip.bistPhase1
  simp only [h]
  rfl

/-- Phase 1 passes only where every failing cell is covered by a repair of the table. -/
theorem Chip.bistPhase1_covers (h0 : c.ld.phase1 = false) (h1 : (c.bistPhase1 fails small lanes).ld.phase1 = true)
    {m : Nat} {cells : List (Nat × Nat)} {q : Nat × Nat} (hm : (m, cells) ∈ fails) (hq : q ∈ cells) :
    (⟨m, true, q.1⟩ : Repair) ∈ (c.bistPhase1 fails small lanes).ld.repairs ∨
      (⟨m, false, q.2⟩ : Repair) ∈ (c.bistPhase1 fails small lanes).ld.repairs := by
  obtain ⟨hph, hrep⟩ := c.foldl_repairMacro (c.spareSets fails small)
  cases hfind : (c.spareSets fails small).find? (fun x => x.2.bad (cellsOf fails x.1)) with
  | some x =>
    rw [Chip.bistPhase1_bad hfind, Chip.loadFail_ld] at h1
    exact absurd (h0.symm.trans (hph.symm.trans h1)) (by decide)
  | none =>
    rw [Chip.bistPhase1_repaired hfind, Chip.laneMap_repairs, hrep]
    have hset := List.mem_map_of_mem (f := fun m =>
      (m, spareMacro (c.ld.tableOf m) (c.ld.ledgerOf m) (small.contains m) (cellsOf fails m))) (c.ld.mem_macros hm)
    have inTable : ∀ r : Bool × Nat, r ∈ c.ld.tableOf m ++
        (spareMacro (c.ld.tableOf m) (c.ld.ledgerOf m) (small.contains m) (cellsOf fails m)).added →
        (⟨m, r.1, r.2⟩ : Repair) ∈ c.ld.repairs ++
          (c.spareSets fails small).flatMap fun x => x.2.added.map fun r => ⟨x.1, r.1, r.2⟩ := fun r hr => by
      rcases List.mem_append.mp hr with ht | ha
      · exact List.mem_append_left _ (Loader.mem_repairs_of_tableOf ht)
      · exact List.mem_append_right _ (List.mem_flatMap.mpr ⟨_, hset, List.mem_map.mpr ⟨r, ha, rfl⟩⟩)
    have hgood := Bool.eq_false_iff.mpr (List.find?_eq_none.mp hfind _ hset)
    exact (Spares.covered_of_not_bad (spareMacro_grown ..) hgood (mem_cellsOf hm hq)).imp (inTable _) (inTable _)

/-! The cases without records of the ledger and with no lane replaced before. -/

section

variable (ha : c.ld.appended = [])

include ha

theorem Chip.ledgerOf_nil (m : Nat) : c.ld.ledgerOf m = [] := by simp [Loader.ledgerOf, ha]

theorem Chip.keptLanes_nil (hsp : 8 ≤ c.ld.spared) : c.keptLanes = [] := by
  simp [Chip.keptLanes, Loader.ledgerLanes, ha, Nat.not_lt.mpr hsp]

theorem Chip.spareSets_single (m : Nat) (cells : List (Nat × Nat)) :
    c.spareSets [(m, cells)] small = [(m, spareMacro (c.ld.tableOf m) [] (small.contains m) cells.eraseDups)] := by
  have hm : c.ld.macros [(m, cells)] = [m] := by simp [Loader.macros, ha, List.eraseDups_cons, sortBy, insertBy]
  simp [Chip.spareSets, hm, Chip.ledgerOf_nil ha, cellsOf_single]

theorem Chip.bistPhase1_noFails : c.bistPhase1 [] small lanes = c.laneMap lanes := by
  have hx : c.spareSets [] small = [] := by simp [Chip.spareSets, Loader.macros, ha, sortBy]
  have h := Chip.bistPhase1_repaired (c := c) (fails := []) (small := small) (lanes := lanes) (by rw [hx]; rfl)
  rwa [hx] at h

/-- One SRAM that its spares do not repair. -/
theorem Chip.bistPhase1_failing {m : Nat} {cells : List (Nat × Nat)}
    (hb : (spareMacro (c.ld.tableOf m) [] (small.contains m) cells.eraseDups).bad cells.eraseDups = true) :
    c.loadFailing (c.bistPhase1 [(m, cells)] small lanes) 1 ∧
      (c.bistPhase1 [(m, cells)] small lanes).rd LDR_BIST_STAT_FAIL_MACRO = m % 256 := by
  have hx := Chip.spareSets_single ha (small := small) m cells
  have hfind : (c.spareSets [(m, cells)] small).find? (fun x => x.2.bad (cellsOf [(m, cells)] x.1)) =
      some (m, spareMacro (c.ld.tableOf m) [] (small.contains m) cells.eraseDups) := by
    rw [hx]
    exact List.find?_cons_of_pos (by rw [cellsOf_single]; exact hb)
  rw [Chip.bistPhase1_bad hfind, hx]
  generalize spareMacro (c.ld.tableOf m) [] (small.contains m) cells.eraseDups = x
  obtain ⟨q, ms, hld⟩ := c.repairMacro_ld m x
  obtain ⟨hfail, hmacro⟩ := (c.repairMacro m x).failMacro_failing m
  exact ⟨hfail.of_before (c.repairMacro_seat m x) (c.repairMacro_flash m x) ((congrArg Loader.otp hld).trans rfl),
    hmacro⟩

/-- One failing cell of an SRAM that has spares. -/
theorem Chip.bistPhase1_one (hsp : 8 ≤ c.ld.spared) {m : Nat} {q : Nat × Nat} (ht : c.ld.tableOf m = [])
    (hs : m ∉ small) : (c.bistPhase1 [(m, [q])] small []).ld.phase1 = true ∧
      (c.bistPhase1 [(m, [q])] small []).ld.repairs = c.ld.repairs ++ [⟨m, true, q.1⟩] ∧
      (c.bistPhase1 [(m, [q])] small []).rd LDR_BIST_STAT_NEW_REPAIRS =
        satAdd 8 (c.rd LDR_BIST_STAT_NEW_REPAIRS) 1 := by
  have hq : [q].eraseDups = [q] := by simp [List.eraseDups_cons]
  have hx : c.spareSets [(m, [q])] small = [(m, ⟨1, 2, [(true, q.1)], [(true, q.1)], [(true, q.1)], 0⟩)] := by
    rw [Chip.spareSets_single ha, ht, hq, show small.contains m = false by simpa using hs, spareMacro_one]
  have hfind : (c.spareSets [(m, [q])] small).find? (fun x => x.2.bad (cellsOf [(m, [q])] x.1)) = none := by
    rw [hx]
    simp [cellsOf_single, hq, Spares.bad, Spares.covers]
  rw [Chip.bistPhase1_repaired hfind, hx]
  generalize hX : (⟨1, 2, [(true, q.1)], [(true, q.1)], [(true, q.1)], 0⟩ : Spares) = x
  obtain ⟨queue, ms, hld⟩ := c.repairMacro_ld m x
  have hkept : (c.repairMacro m x).badLanes [] = [] :=
    Chip.keptLanes_nil (c := c.repairMacro m x) (by rw [hld]; exact ha) (by rw [hld]; exact hsp)
  have hd : [(m, x)].foldl (fun (c : Chip) x => c.repairMacro x.1 x.2) c = c.repairMacro m x := rfl
  rw [hd, Chip.laneMap_none _ hkept]
  refine ⟨rfl, ?_, ?_⟩
  · refine (congrArg Loader.repairs hld).trans ?_
    rw [← hX]
    rfl
  · refine (c.rd_repairMacro m x).trans ?_
    rw [← hX]
    rfl

end

end

theorem exec_bistPhase1Done {s : State} (hs : s.runs) (fails : List (Nat × List (Nat × Nat))) (small lanes : List Nat) :
    exec (.bistPhase1Done fails small lanes) s =
      .next { s with chip :=
        if s.chip.inLoad .bist && s.chip.ld.headerRead && s.chip.ld.scanned && !s.chip.ld.phase1 then
          s.chip.bistPhase1 fails small lanes
        else s.chip } :=
  State.effect_of_runs hs fun c =>
    if c.inLoad .bist && c.ld.headerRead && c.ld.scanned && !c.ld.phase1 then c.bistPhase1 fails small lanes else c

/-- BIST_PHASE1_DONE. -/
theorem bistPhase1_answers (c : Chip) (fails : List (Nat × List (Nat × Nat))) (small lanes : List Nat)
    (h0 : c.ld.phase1 = false) :
    let d := c.bistPhase1 fails small lanes
    (d.ld.phase1 = true → ∀ m cells q, (m, cells) ∈ fails → q ∈ cells →
      ⟨m, true, q.1⟩ ∈ d.ld.repairs ∨ ⟨m, false, q.2⟩ ∈ d.ld.repairs) ∧
    (c.ld.appended = [] → 8 ≤ c.ld.spared →
      (fails = [] → lanes = [] → d = { c with ld := { c.ld with lane8Bad := false, spared := 15, phase1 := true } }) ∧
      (fails = [] → ∀ n, n < 8 → lanes = [n] → d.ld.phase1 = true ∧ d.ld.spared = n ∧ d.ld.repairs = c.ld.repairs) ∧
      (fails = [] → ∀ a b, a < 8 → b ≤ 8 → a ≠ b → lanes = [a, b] → c.loadFailing d 2) ∧
      (∀ m q, fails = [(m, [q])] → lanes = [] → c.ld.tableOf m = [] →
        (m ∉ small → d.ld.phase1 = true ∧ d.ld.repairs = c.ld.repairs ++ [⟨m, true, q.1⟩] ∧
          d.rd LDR_BIST_STAT_NEW_REPAIRS = satAdd 8 (c.rd LDR_BIST_STAT_NEW_REPAIRS) 1) ∧
        (m ∈ small → c.loadFailing d 1 ∧ d.rd LDR_BIST_STAT_FAIL_MACRO = m % 256)) ∧
      (∀ m cells, fails = [(m, cells)] → 8 < cells.eraseDups.length →
        c.loadFailing d 1 ∧ d.rd LDR_BIST_STAT_FAIL_MACRO = m % 256)) := by
  refine ⟨fun h1 m cells q => Chip.bistPhase1_covers h0 h1, fun ha hsp => ⟨?_, ?_, ?_, ?_, ?_⟩⟩
  · rintro rfl rfl
    exact (Chip.bistPhase1_noFails ha).trans (c.laneMap_none (Chip.keptLanes_nil ha hsp))
  · rintro rfl n hn rfl
    have hbad : c.badLanes [n] = [n] := by simp [Chip.badLanes, Chip.keptLanes_nil ha hsp, hn]
    have hmap := c.laneMap_one (lanes := [n]) (n := n) (by simp [hbad]) (by simp [hbad])
      (by simp only [List.mem_singleton]; omega)
    rw [Chip.keptLanes_nil ha hsp, if_neg List.not_mem_nil] at hmap
    obtain ⟨-, hld, -⟩ := (c.laneSpared [n] n).blockRecord_onlyAsked 3 n []
    simp only [Chip.bistPhase1_noFails ha, hmap]
    rw [hld]
    exact ⟨rfl, rfl, rfl⟩
  · rintro rfl a b hlt hle hne rfl
    simp only [Chip.bistPhase1_noFails ha]
    refine c.laneMap_failing _ ?_
    have hmem : a ∈ c.badLanes [a, b] := List.mem_append_left _ (by simp [hlt])
    rcases Nat.lt_or_eq_of_le hle with hb | rfl
    · exact .inl ⟨a, hmem, b, List.mem_append_left _ (by simp [hb]), hne⟩
    · exact .inr ⟨List.ne_nil_of_mem hmem, by simp⟩
  · rintro m q rfl rfl ht
    refine ⟨fun hs => Chip.bistPhase1_one ha hsp ht hs, fun hs => Chip.bistPhase1_failing ha ?_⟩
    have hq : [q].eraseDups = [q] := by simp [List.eraseDups_cons]
    rw [hq, ht, show small.contains m = true by simpa using hs, spareMacro_small]
    simp [Spares.bad, Spares.covers]
  · rintro m cells rfl hlen
    exact Chip.bistPhase1_failing ha (by simp [Spares.bad, hlen])

/-! ### Phase 2 -/

/-- Lanes that fail in phase 2, with lane 8 where it has failed before. -/
def Chip.phase2Lanes (c : Chip) (lanes : List Nat) : List Nat := lanes ++ if c.ld.lane8Bad then [8] else []

section

variable (c : Chip) (lanes : List Nat)

theorem Chip.badLanes_phase2Lanes : c.badLanes (c.phase2Lanes lanes) = c.badLanes lanes := by
  unfold Chip.badLanes Chip.phase2Lanes
  split <;> simp

theorem Chip.mem_phase2Lanes : 8 ∈ c.phase2Lanes lanes ↔ c.ld.lane8Bad = true ∨ 8 ∈ lanes := by
  unfold Chip.phase2Lanes
  split
  next h => simp [h]
  next h => simp [h]

theorem Chip.contains_phase2Lanes : (c.phase2Lanes lanes).contains 8 = (c.ld.lane8Bad || lanes.contains 8) := by
  rw [Bool.eq_iff_iff, List.contains_iff_mem, Chip.mem_phase2Lanes, Bool.or_eq_true, List.contains_iff_mem]

theorem Chip.bistPhase2_nil : c.bistPhase2 [] lanes =
    if (c.laneMap (c.phase2Lanes lanes)).ld.phase = .failed then c.laneMap (c.phase2Lanes lanes)
    else ((c.laneMap (c.phase2Lanes lanes)).onLd fun l => { l with phase := .body }).pdPlan := rfl

theorem Chip.bistPhase2_macro {macros : List Nat} {m : Nat} (hm : m ∈ macros) (hl : ∀ k ∈ macros, m ≤ k) :
    c.bistPhase2 macros lanes = (c.wr LDR_BIST_STAT_FAIL_MACRO m).loadFail 1 := by
  obtain ⟨t, ht⟩ := sortBy_of_least hm hl
  unfold Chip.bistPhase2
  simp only [ht]
  rfl

variable {c lanes}

theorem Chip.bistPhase2_fails (h : c.lanesFail (c.phase2Lanes lanes)) : c.loadFailing (c.bistPhase2 [] lanes) 2 := by
  obtain ⟨-, hphase, -⟩ := c.laneMap_failing _ h
  rw [Chip.bistPhase2_nil, if_pos hphase]
  exact c.laneMap_failing _ h

/-- Self-test is over. -/
theorem Chip.bistPhase2_over (hl : c.inLoad .bist = true) (h : ¬c.lanesFail (c.phase2Lanes lanes)) :
    c.bistPhase2 [] lanes = ((c.laneMap (c.phase2Lanes lanes)).onLd fun l => { l with phase := .body }).pdPlan := by
  obtain ⟨n, -, -, ⟨-, hld, -⟩, -⟩ := c.laneMap_onlyAsked h
  have hph : c.ld.phase = .bist := by
    simp only [Chip.inLoad, Bool.and_eq_true, beq_iff_eq] at hl
    exact hl.2
  rw [Chip.bistPhase2_nil, hld, if_neg]
  exact fun hf => absurd (hph.symm.trans hf) (by decide)

end

theorem exec_bistPhase2Done {s : State} (hs : s.runs) (macros lanes : List Nat) :
    exec (.bistPhase2Done macros lanes) s =
      .next { s with chip :=
        if s.chip.inLoad .bist && s.chip.ld.phase1 then s.chip.bistPhase2 macros lanes else s.chip } :=
  State.effect_of_runs hs fun c => if c.inLoad .bist && c.ld.phase1 then c.bistPhase2 macros lanes else c

/-- BIST_PHASE2_DONE. -/
theorem bistPhase2_answers (c : Chip) (macros lanes : List Nat) (hl : c.inLoad .bist = true) :
    let named := (lanes.filter fun n => decide (n < 8)) ++ c.ld.ledgerLanes ++
      (if c.ld.spared < 8 then [c.ld.spared] else [])
    let bad := (∃ a ∈ named, ∃ b ∈ named, a ≠ b) ∨ (named ≠ [] ∧ (c.ld.lane8Bad = true ∨ 8 ∈ lanes))
    let d := c.bistPhase2 macros lanes
    (∀ m ∈ macros, (∀ k ∈ macros, m ≤ k) → c.loadFailing d 1 ∧ d.rd LDR_BIST_STAT_FAIL_MACRO = m % 256) ∧
    (macros = [] → bad → c.loadFailing d 2) ∧
    (macros = [] → ¬bad →
      d.ld.phase = .body ∧ d.ld.lane8Bad = (c.ld.lane8Bad || lanes.contains 8) ∧ d.stores = c.stores ∧
      d.seat = c.seat ∧ d.mode.edge = none ∧ d.ld.repairs = c.ld.repairs ∧ d.ld.dir = c.ld.dir ∧
      d.ld.nextSect = c.ld.nextSect ∧ d.rd LDR_STAT_ERR = c.rd LDR_STAT_ERR ∧
      (named = [] → d.ld.spared = 15) ∧ (∀ n ∈ named, d.ld.spared = n) ∧
      (lanes = [] → d.ld.queue = c.ld.queue)) := by
  intro named bad d
  have hnamed : c.badLanes (c.phase2Lanes lanes) = named :=
    (c.badLanes_phase2Lanes lanes).trans (List.append_assoc ..).symm
  have hbad : c.lanesFail (c.phase2Lanes lanes) ↔ bad := by
    unfold Chip.lanesFail
    rw [hnamed, c.mem_phase2Lanes]
  refine ⟨fun m hm hk => ?_, fun h hb => ?_, fun h hb => ?_⟩
  · rw [show d = _ from c.bistPhase2_macro lanes hm hk]
    exact c.failMacro_failing m
  · subst h
    exact Chip.bistPhase2_fails (hbad.mpr hb)
  · subst h
    have hb := mt hbad.mp hb
    obtain ⟨n, hnone, hone, ⟨hbear, hld, hreg⟩, hst, hkept⟩ := c.laneMap_onlyAsked hb
    have hd : d = _ := Chip.bistPhase2_over hl hb
    have hdl : d.ld = { (c.laneSpared (c.phase2Lanes lanes) n).ld with
        phase := .body, queue := (c.laneMap (c.phase2Lanes lanes)).ld.queue } := by
      rw [hd, Chip.pdPlan_ld]
      exact congrArg (fun l : Loader => { l with phase := LoadPhase.body }) hld
    have hspared : d.ld.spared = n := congrArg Loader.spared hdl
    refine ⟨congrArg Loader.phase hdl, ?_, ?_, ?_, ?_, (congrArg Loader.repairs hdl).trans rfl,
      (congrArg Loader.dir hdl).trans rfl, (congrArg Loader.nextSect hdl).trans rfl, ?_, fun h => ?_, fun a ha => ?_,
      fun h => ?_⟩
    · exact (congrArg Loader.lane8Bad hdl).trans (c.contains_phase2Lanes lanes)
    · rw [hd, Chip.pdPlan_stores, Chip.onLd_stores _ _ rfl]
      exact hst
    · rw [hd, Chip.pdPlan_seat, Chip.onLd_seat, Chip.laneMap_seat]
    · rw [hd, Chip.pdPlan_onlyPw]
      exact (congrArg (fun y : Bearing => y.mode.edge) hbear).trans (c.edge_of_inLoad hl)
    · rw [hd, Chip.pdPlan_onlyPw]
      exact hreg LDR_STAT_ERR (by decide) (by decide)
    · exact hspared.trans (hnone (hnamed.trans h))
    · exact hspared.trans (hone a (hnamed ▸ ha)).symm
    · subst h
      have hmap := hkept (c.badLanes_phase2Lanes [])
      rw [hdl, hmap]
      rfl

/-! ### O48 -/

/-- Settles O48: each step of LOAD by what it reads. That BIST_FAIL is judged before LANE_FAIL and NODRAM before SECT_CRC
is the model's choice (log entries 41 and 42), and so are the order of a header's checks and the place that a failure
reports (log entry 40) and the flag that a failure leaves for later requests (log entry 43). -/
theorem loadingAnImage : Obligations.LoadingAnImage := by
  unfold Obligations.LoadingAnImage
  refine ⟨fun s jedec hs => ⟨fun h => ?_, fun hl hh => ⟨_, exec_ldrHeaderRead hs jedec, ?_⟩⟩,
    fun s hs => ⟨fun h => ?_, fun hl hh hsc => ⟨_, exec_ledgerScan hs, ?_⟩⟩,
    fun s fails small lanes hs => ⟨fun h => ?_, fun hl hh hsc hp => ⟨_, exec_bistPhase1Done hs fails small lanes, ?_⟩⟩,
    fun s macros lanes hs => ⟨fun h => ?_, fun hl hp => ⟨_, exec_bistPhase2Done hs macros lanes, ?_⟩⟩,
    fun s hs => ⟨exec_sectionRead_other hs, fun x hl hx => ⟨_, exec_sectionRead hs hl hx, sectionRead_answers s.chip x⟩⟩,
    fun s hs => ⟨fun h => ?_, fun hl hn => ⟨_, exec_bodyReadDone hs, ?_⟩⟩⟩
  · rw [exec_ldrHeaderRead hs, if_neg]
    simp only [Bool.and_eq_true, not_and, Bool.not_eq_true', Bool.not_eq_false]
    rintro hl
    exact h.resolve_left (by simp [hl])
  · rw [if_pos (by simp [hl, hh])]
    exact headerRead_answers s.chip jedec
  · rw [exec_ledgerScan hs, if_neg]
    rcases h with h | h | h <;> simp [h]
  · rw [if_pos (by simp [hl, hh, hsc])]
    exact ledgerScan_answers s.chip
  · rw [exec_bistPhase1Done hs, if_neg]
    rcases h with h | h | h | h <;> simp [h]
  · rw [if_pos (by simp [hl, hh, hsc, hp])]
    exact bistPhase1_answers s.chip fails small lanes hp
  · rw [exec_bistPhase2Done hs, if_neg]
    rcases h with h | h <;> simp [h]
  · rw [if_pos (by simp [hl, hp])]
    exact bistPhase2_answers s.chip macros lanes hl
  · rw [exec_bodyReadDone hs, if_neg]
    rcases h with h | h <;> simp [h]
  · rw [if_pos (by simp [hl, hn])]
    exact bodyDone_answers s.chip hl

end Sys2Proof.Machine
end

section
/-! SUPPORT. One memory channel changed: what an operation on a channel leaves of the part, of the other channel and of the
registers, and what the commands on a channel's bus leave of its requests. -/

namespace Sys2Proof.Machine

open Sys2Proof

/-! ### Fields of a channel -/

theorem Chip.rd_wr_mcF_same (c : Chip) (ch : Nat) {f : Field} (v : Nat) (h : f.inside = true) :
    (c.wr (mcF ch f) v).rd (mcF ch f) = v % 2 ^ f.width :=
  c.rd_wr_same (mcF ch f) v h

theorem Chip.rd_wr_mcF_clear (c : Chip) (ch : Nat) {f g : Field} (v : Nat) (h : f.clear g = true) :
    (c.wr (mcF ch f) v).rd (mcF ch g) = c.rd (mcF ch g) :=
  c.rd_wr_clear _ _ v (Field.off_clear _ h)

theorem Chip.rd_bump_mcF_same (c : Chip) (ch : Nat) {f : Field} (k : Nat) (h : f.inside = true) :
    (c.bump (mcF ch f) k).rd (mcF ch f) = satAdd f.width (c.rd (mcF ch f)) k :=
  c.rd_bump_same (mcF ch f) k h

/-! ### The channels -/

/-- The state of the memory controllers beyond registers: both channels. -/
@[simp] theorem Chip.mc_wr (c : Chip) (f : Field) (v k : Nat) : (c.wr f v).mc k = c.mc k := rfl

@[simp] theorem Chip.mc_bump (c : Chip) (f : Field) (v k : Nat) : (c.bump f v).mc k = c.mc k := rfl

@[simp] theorem Chip.mc_onMcx (c : Chip) (f : MemShared → MemShared) (k : Nat) : (c.onMcx f).mc k = c.mc k := rfl

@[simp] theorem Chip.mc_onMc_same (c : Chip) (ch : Nat) (f : Channel → Channel) : (c.onMc ch f).mc ch = f (c.mc ch) :=
  c.onMc_mc_same ch f

theorem Chip.mc_onMc_ne (c : Chip) {ch k : Nat} (f : Channel → Channel) (hch : ch < 2) (hk : k < 2) (h : k ≠ ch) :
    (c.onMc ch f).mc k = c.mc k := by
  unfold Chip.onMc Chip.mc
  by_cases h0 : ch = 0
  · rw [if_pos h0, if_neg (by omega), if_neg (by omega)]
  · rw [if_neg h0, if_pos (by omega), if_pos (by omega)]

@[simp] theorem Chip.regs_onMc (c : Chip) (ch : Nat) (f : Channel → Channel) : (c.onMc ch f).regs = c.regs :=
  (c.onMc_beside ch f).1

@[simp] theorem Chip.get_onMc (c : Chip) (ch : Nat) (f : Channel → Channel) (a : Nat) : (c.onMc ch f).get a = c.get a := by
  unfold Chip.get
  rw [Chip.regs_onMc]

@[simp] theorem Chip.rd_onMc (c : Chip) (ch : Nat) (f : Channel → Channel) (g : Field) : (c.onMc ch f).rd g = c.rd g :=
  congrArg g.get (c.get_onMc ch f g.addr)

@[simp] theorem Chip.mcState_onMc (c : Chip) (ch k : Nat) (f : Channel → Channel) :
    (c.onMc ch f).mcState k = c.mcState k := c.rd_onMc ch f _

theorem Chip.onMc_frame (c : Chip) (ch : Nat) (f : Channel → Channel) :
    c.onMc ch f = { c with mcA := (c.onMc ch f).mcA, mcB := (c.onMc ch f).mcB } := by
  unfold Chip.onMc
  split <;> rfl

@[simp] theorem Chip.mcx_onMc (c : Chip) (ch : Nat) (f : Channel → Channel) : (c.onMc ch f).mcx = c.mcx := by
  rw [Chip.onMc_frame]

theorem Chip.onMc_congr {c : Chip} {ch : Nat} {f g : Channel → Channel} (h : f (c.mc ch) = g (c.mc ch)) :
    c.onMc ch f = c.onMc ch g := by
  unfold Chip.mc at h
  unfold Chip.onMc
  split <;> simp_all

section

variable {c d e : Chip} {ch : Nat} {as bs : List Nat}

theorem Chip.onlyMc.refl (c : Chip) (ch : Nat) (as : List Nat) : c.onlyMc c ch as := ⟨rfl, fun _ _ _ => rfl, .refl c as⟩

theorem Chip.onlyMc.trans (h : c.onlyMc d ch as) (k : d.onlyMc e ch bs) : c.onlyMc e ch (as ++ bs) := by
  obtain ⟨hd, hdm, hds⟩ := h
  obtain ⟨he, hem, hes⟩ := k
  exact ⟨by rw [he, hd], fun j hj hne => (hem j hj hne).trans (hdm j hj hne), hds.trans hes⟩

theorem Chip.onlyMc.mono (h : c.onlyMc d ch as) (hs : as ⊆ bs) : c.onlyMc d ch bs := ⟨h.1, h.2.1, h.2.2.mono hs⟩

theorem Chip.onlyMc.sameBut (h : c.onlyMc d ch as) : c.sameBut d as := h.2.2

theorem Chip.onlyMc.otherMc (h : c.onlyMc d ch as) : c.otherMc d ch := h.2.1

theorem Chip.onlyMc.onMc (h : c.onlyMc d ch as) (hch : ch < 2) (f : Channel → Channel) : c.onlyMc (d.onMc ch f) ch as := by
  obtain ⟨hd, hm, hs⟩ := h
  refine ⟨?_, fun k hk hne => (d.mc_onMc_ne f hch hk hne).trans (hm k hk hne),
    fun a ha => (d.get_onMc ch f a).trans (hs a ha)⟩
  rw [d.onMc_frame ch f, hd]

theorem Chip.onlyMc.wr (h : c.onlyMc d ch as) {f : Field} (v : Nat) (hf : f.addr ∈ as) : c.onlyMc (d.wr f v) ch as := by
  obtain ⟨hd, hm, hs⟩ := h
  exact ⟨by rw [hd]; rfl, hm, hs.wr v hf⟩

theorem Chip.onlyMc.rd (h : c.onlyMc d ch as) {f : Field} (hf : f.addr ∉ as) : d.rd f = c.rd f := h.2.2.rd hf

theorem Chip.onlyMc.stores (h : c.onlyMc d ch as) : d.stores = c.stores := by rw [h.1]; rfl

theorem Chip.onlyMc.seat (h : c.onlyMc d ch as) : d.seat = c.seat := by rw [h.1]; rfl

end

/-! ### What the bus leaves -/

theorem SMap.erase_ins_self {α : Type} (k : Nat) (v : α) (m : List (Nat × α)) :
    SMap.erase (SMap.ins k v m) k = SMap.erase m k := by
  induction m with
  | nil => simp [SMap.ins, SMap.erase]
  | cons x t ih =>
    obtain ⟨a, w⟩ := x
    simp only [SMap.ins]
    split
    · simp [SMap.erase]
    · unfold SMap.erase at ih ⊢
      rw [List.filter_cons, List.filter_cons, ih]

theorem SMap.erase_set_self {α : Type} [DecidableEq α] (d : Nat → α) (m : List (Nat × α)) (k : Nat) (v : α) :
    SMap.erase (SMap.set d m k v) k = SMap.erase m k := by
  have herase : SMap.erase (SMap.erase m k) k = SMap.erase m k := by simp [SMap.erase]
  unfold SMap.set
  split
  · exact herase
  · rw [SMap.erase_ins_self, herase]

/-- Of a channel, what the commands on its bus leave: its requests, its reads in flight, its time. -/
def Channel.traffic (m : Channel) : Channel :=
  { Channel.reset with readQ := m.readQ, writeQ := m.writeQ, inflight := m.inflight, now := m.now }

theorem Channel.traffic_iff {m n : Channel} :
    m.traffic = n.traffic ↔ m.readQ = n.readQ ∧ m.writeQ = n.writeQ ∧ m.inflight = n.inflight ∧ m.now = n.now := by
  simp [Channel.traffic]

/-- Of the part, what the commands on a channel's bus leave: everything but MCx_WEIR_STAT and what the channel holds beside
its traffic. -/
def Chip.offBus (c : Chip) (ch : Nat) : Chip :=
  { c with regs := SMap.erase c.regs (weirReg ch) }.onMc ch Channel.traffic

section

variable {c d : Chip} {ch : Nat}

theorem Chip.mc_offBus (c : Chip) (ch : Nat) : (c.offBus ch).mc ch = (c.mc ch).traffic := Chip.mc_onMc_same _ _ _

/-- Operations that leave the part off the bus leave the traffic of the channel. -/
theorem Chip.traffic_of_offBus (h : d.offBus ch = c.offBus ch) : (d.mc ch).traffic = (c.mc ch).traffic := by
  rw [← Chip.mc_offBus, h, Chip.mc_offBus]

theorem Chip.queues_of_offBus (h : d.offBus ch = c.offBus ch) :
    (d.mc ch).readQ = (c.mc ch).readQ ∧ (d.mc ch).writeQ = (c.mc ch).writeQ ∧ (d.mc ch).inflight = (c.mc ch).inflight ∧
      (d.mc ch).now = (c.mc ch).now :=
  Channel.traffic_iff.mp (Chip.traffic_of_offBus h)

/-- The part without registers and channels. -/
def Chip.noMemory (c : Chip) : Chip := { c with regs := [], mcA := Channel.reset, mcB := Channel.reset }

theorem Chip.noMemory_offBus (c : Chip) (ch : Nat) : (c.offBus ch).noMemory = c.noMemory := by
  rw [Chip.offBus, Chip.onMc_frame]
  rfl

/-- Off the bus nothing else changes either. -/
theorem Chip.onlyMc_of_offBus (h : d.offBus ch = c.offBus ch) (hch : ch < 2) : c.onlyMc d ch [weirReg ch] := by
  refine ⟨?_, fun k hk hne => ?_, fun a ha => ?_⟩
  · have hrest : d.noMemory = c.noMemory := by rw [← Chip.noMemory_offBus d ch, h, Chip.noMemory_offBus]
    exact congrArg (fun x => { x with regs := d.regs, mcA := d.mcA, mcB := d.mcB }) hrest
  · have hmc := congrArg (fun x => x.mc k) h
    simp only [Chip.offBus, Chip.mc_onMc_ne _ _ hch hk hne] at hmc
    exact hmc
  · have hne : a ≠ weirReg ch := by simpa using ha
    have hregs := congrArg Chip.regs h
    simp only [Chip.offBus, Chip.regs_onMc] at hregs
    unfold Chip.get
    rw [← SMap.get_erase_ne resetWord d.regs (weirReg ch) a hne, hregs, SMap.get_erase_ne _ _ _ _ hne]

@[simp] theorem Chip.onMc_offBus (c : Chip) (ch : Nat) (f : Channel → Channel) (hr : ∀ m, (f m).readQ = m.readQ)
    (hw : ∀ m, (f m).writeQ = m.writeQ) (hi : ∀ m, (f m).inflight = m.inflight) (hn : ∀ m, (f m).now = m.now) :
    (c.onMc ch f).offBus ch = c.offBus ch := by
  have h (m : Channel) : (f m).traffic = m.traffic := Channel.traffic_iff.mpr ⟨hr m, hw m, hi m, hn m⟩
  unfold Chip.offBus Chip.onMc
  split <;> simp only [h]

/-- MCx_WEIR_STAT is the register of the bus. -/
theorem Chip.wr_offBus (c : Chip) (ch : Nat) {f : Field} (v : Nat) (h : f.addr = weirReg ch) :
    (c.wr f v).offBus ch = c.offBus ch := by
  have hregs : SMap.erase (c.wr f v).regs (weirReg ch) = SMap.erase c.regs (weirReg ch) := by
    rw [← h]
    exact SMap.erase_set_self _ _ _ _
  unfold Chip.offBus
  rw [hregs]
  rfl

@[simp] theorem Chip.bump_triggers_offBus (c : Chip) (ch k : Nat) :
    (c.bump (mcF ch MCA_WEIR_STAT_TRIGGERS) k).offBus ch = c.offBus ch := c.wr_offBus ch _ rfl

@[simp] theorem Chip.bump_stall_offBus (c : Chip) (ch k : Nat) :
    (c.bump (mcF ch MCA_WEIR_STAT_STALL) k).offBus ch = c.offBus ch := c.wr_offBus ch _ rfl

@[simp] theorem Chip.ite_offBus (p : Prop) [Decidable p] (a b : Chip) :
    (if p then a else b).offBus ch = if p then a.offBus ch else b.offBus ch := apply_ite (Chip.offBus · ch) _ _ _

@[simp] theorem Chip.foldl_offBus {α : Type} (f : Chip → α → Chip) (l : List α) (c : Chip)
    (hf : ∀ (c : Chip) (x : α), (f c x).offBus ch = c.offBus ch) : (l.foldl f c).offBus ch = c.offBus ch := by
  induction l generalizing c with
  | nil => rfl
  | cons x t ih => rw [List.foldl_cons, ih, hf]

end

section

variable (c : Chip) (ch : Nat)

@[simp] theorem Chip.dramCmd_offBus (x : DramCmd) : (c.dramCmd ch x).offBus ch = c.offBus ch := by
  simp [Chip.dramCmd]

@[simp] theorem Chip.allRanks_offBus (code bank arg : Nat) : (c.allRanks ch code bank arg).offBus ch = c.offBus ch := by
  simp [Chip.allRanks]

@[simp] theorem Chip.onBank_offBus (rank bank : Nat) (f : BankState → BankState) :
    (c.onBank ch rank bank f).offBus ch = c.offBus ch := by
  simp [Chip.onBank]

@[simp] theorem Chip.queueNr_offBus (rank bank row : Nat) : (c.queueNr ch rank bank row).offBus ch = c.offBus ch := by
  unfold Chip.queueNr
  split <;> simp

@[simp] theorem Chip.weirAct_offBus (rank bank row : Nat) : (c.weirAct ch rank bank row).offBus ch = c.offBus ch := by
  simp [Chip.weirAct]

@[simp] theorem Chip.releaseHeld_offBus : (c.releaseHeld ch).offBus ch = c.offBus ch := by
  unfold Chip.releaseHeld
  split <;> simp

@[simp] theorem Chip.issueAct_offBus (rank bank row : Nat) (nr : Bool) :
    (c.issueAct ch rank bank row nr).offBus ch = c.offBus ch := by
  simp [Chip.issueAct]

@[simp] theorem Chip.issuePre_offBus (rank bank : Nat) : (c.issuePre ch rank bank).offBus ch = c.offBus ch := by
  unfold Chip.issuePre
  split <;> simp

@[simp] theorem Chip.issueRef_offBus (rank : Nat) : (c.issueRef ch rank).offBus ch = c.offBus ch := by
  simp [Chip.issueRef]

@[simp] theorem Chip.performNr_offBus (n : NeighbourRefresh) : (c.performNr ch n).offBus ch = c.offBus ch := by
  simp [Chip.performNr]

@[simp] theorem Chip.drainNr_offBus : (c.drainNr ch).offBus ch = c.offBus ch := by
  simp [Chip.drainNr]

@[simp] theorem Chip.preAll_offBus : (c.preAll ch).offBus ch = c.offBus ch := by
  simp [Chip.preAll]

@[simp] theorem Chip.floorCount_offBus (class3 : Bool) : (c.floorCount ch class3).offBus ch = c.offBus ch := by
  simp [Chip.floorCount, apply_ite Channel.readQ, apply_ite Channel.writeQ, apply_ite Channel.inflight, apply_ite Channel.now]

@[simp] theorem Chip.issueLine_offBus (l : Loc) (write : Bool) (line : Nat) (mask : List Bool) (port : Nat) :
    (c.issueLine l write line mask port).offBus l.ch = c.offBus l.ch := by
  simp [Chip.issueLine]

@[simp] theorem Chip.openRow_offBus (l : Loc) : (c.openRow l).offBus l.ch = c.offBus l.ch := by
  simp [Chip.openRow]

@[simp] theorem Chip.busLine_offBus (l : Loc) (write : Bool) (line : Nat) (mask : List Bool) (port : Nat) :
    (c.busLine l write line mask port).offBus l.ch = c.offBus l.ch := by
  simp [Chip.busLine]

@[simp] theorem CheckLine.loc_ch (e : CheckLine) : (e.loc ch).ch = ch := rfl

@[simp] theorem Chip.writeCheck_offBus (e : CheckLine) : (c.writeCheck ch e).offBus ch = c.offBus ch := by
  have hline := c.busLine_offBus (e.loc ch) true 0 [] 12
  simpa [Chip.writeCheck] using hline

@[simp] theorem Chip.cacheRoom_offBus (k : Loc) (dirty : Bool) : (c.cacheRoom ch k dirty).offBus ch = c.offBus ch := by
  simp only [Chip.cacheRoom]
  (repeat' split) <;> simp

@[simp] theorem Chip.cacheUse_offBus (k : Loc) (dirty : Bool) : (c.cacheUse ch k dirty).offBus ch = c.offBus ch := by
  simp [Chip.cacheUse]

@[simp] theorem Chip.flushCache_offBus : (c.flushCache ch).offBus ch = c.offBus ch := by
  simp [Chip.flushCache]

theorem Chip.checkTarget_ch (l : Loc) : (c.checkTarget l).ch = l.ch := rfl

@[simp] theorem Chip.lineAccess_offBus (l : Loc) (write : Bool) (line : Nat) (mask : List Bool) (port : Nat) :
    (c.lineAccess l write line mask port).offBus l.ch = c.offBus l.ch := by
  have hcheck := c.busLine_offBus (c.checkTarget l) false 0 [] port
  rw [Chip.checkTarget_ch] at hcheck
  simp [Chip.lineAccess, hcheck]

@[simp] theorem Chip.enterSr_offBus (extra : Nat) : (c.enterSr ch extra).offBus ch = c.offBus ch := by
  simp [Chip.enterSr]

@[simp] theorem Chip.zqcs_offBus : (c.zqcs ch).offBus ch = c.offBus ch := by
  simp [Chip.zqcs]

end

end Sys2Proof.Machine
end

section
/-! SUPPORT. DRAM as data: that places and keys correspond, that check bytes lie apart from data (R307, R357), and what a
store of a word leaves to be read (R354, R362). -/

namespace Sys2Proof.Machine

open Sys2Proof

/-! ### Places and keys -/

/-- The place lies within its channel. -/
def Loc.fits (l : Loc) : Prop := l.rank < 2 ∧ l.bank < 8 ∧ l.row < 65536 ∧ l.off < 2048

theorem Loc.eq_of_key_eq {k l : Loc} (hk : k.fits) (hl : l.fits) (h : k.key = l.key) : k = l := by
  obtain ⟨hkr, hkb, hkw, hko⟩ := hk
  obtain ⟨hlr, hlb, hlw, hlo⟩ := hl
  obtain ⟨kc, kr, kb, kw, ko⟩ := k
  obtain ⟨lc, lr, lb, lw, lo⟩ := l
  simp only [Loc.key, Loc.mk.injEq] at *
  omega

/-- The place of byte `i` after a place. -/
def Loc.byte (l : Loc) (i : Nat) : Loc := { l with off := l.off + i }

theorem Loc.key_byte (l : Loc) (i : Nat) : (l.byte i).key = l.key + i := by
  simp only [Loc.key, Loc.byte, Nat.add_assoc]

/-- An aligned place of a word among the data rows. -/
structure Chip.DataPlace (c : Chip) (l : Loc) : Prop where
  rank : l.rank < 2
  bank : l.bank < 8
  row : l.row < c.mcDataRows l.ch
  aligned : l.off % 8 = 0
  off : l.off < 2048

theorem Chip.mcDataRows_le (c : Chip) (ch : Nat) : c.mcDataRows ch ≤ 57344 := by
  unfold Chip.mcDataRows Chip.mcRows
  split <;> decide

section

variable {c : Chip} {k l : Loc}

theorem Chip.DataPlace.fits_byte (h : c.DataPlace l) {i : Nat} (hi : i < 8) : (l.byte i).fits := by
  have hrows := c.mcDataRows_le l.ch
  obtain ⟨hr, hb, hw, ha, ho⟩ := h
  exact ⟨hr, hb, show l.row < 65536 by omega, show l.off + i < 2048 by omega⟩

theorem Chip.DataPlace.fits_check (h : c.DataPlace l) : (checkLoc (c.mcDataRows l.ch) l).fits := by
  have hrows := c.mcDataRows_le l.ch
  obtain ⟨hr, hb, hw, ha, ho⟩ := h
  exact ⟨hr, Nat.xor_lt_two_pow (n := 3) hb (by decide), show c.mcDataRows l.ch + l.row / 8 < 65536 by omega,
    show l.row % 8 * 256 + l.off / 8 < 2048 by omega⟩

/-- Words at two places share no byte. -/
theorem Chip.DataPlace.byte_ne (hk : c.DataPlace k) (hl : c.DataPlace l) (hne : k ≠ l) {i j : Nat} (hi : i < 8) (hj : j < 8) :
    (k.byte i).key ≠ (l.byte j).key := by
  intro h
  have heq := Loc.eq_of_key_eq (hk.fits_byte hi) (hl.fits_byte hj) h
  have hka := hk.aligned
  have hla := hl.aligned
  obtain ⟨kc, kr, kb, kw, ko⟩ := k
  obtain ⟨lc, lr, lb, lw, lo⟩ := l
  simp only [Loc.byte, Loc.mk.injEq, ne_eq] at *
  omega

/-- A check byte is no data byte: it lies above the data rows. -/
theorem Chip.DataPlace.byte_ne_check (hk : c.DataPlace k) (hl : c.DataPlace l)
    (hrows : c.mcDataRows k.ch = c.mcDataRows l.ch) {i : Nat} (hi : i < 8) :
    (k.byte i).key ≠ (checkLoc (c.mcDataRows l.ch) l).key := by
  intro h
  have hrow : k.row = c.mcDataRows l.ch + l.row / 8 :=
    congrArg Loc.row (Loc.eq_of_key_eq (hk.fits_byte hi) hl.fits_check h)
  have hlt := hk.row
  omega

/-- Words at two places have two check bytes. -/
theorem Chip.DataPlace.check_ne (hk : c.DataPlace k) (hl : c.DataPlace l)
    (hrows : c.mcDataRows k.ch = c.mcDataRows l.ch) (hne : k ≠ l) :
    (checkLoc (c.mcDataRows k.ch) k).key ≠ (checkLoc (c.mcDataRows l.ch) l).key := by
  intro h
  have heq := Loc.eq_of_key_eq hk.fits_check hl.fits_check h
  obtain ⟨-, -, -, hka, hko⟩ := hk
  obtain ⟨-, -, -, hla, hlo⟩ := hl
  obtain ⟨kc, kr, kb, kw, ko⟩ := k
  obtain ⟨lc, lr, lb, lw, lo⟩ := l
  simp only [checkLoc, Loc.mk.injEq, ne_eq] at *
  obtain ⟨hch, hrank, hbank, hrow, hoff⟩ := heq
  have hbank : kb = lb := Nat.xor_left_inj.mp hbank
  omega

/-! ### What a store leaves to be read -/

theorem Chip.mcDataRows_writeRaw (c : Chip) (l : Loc) (w b ch : Nat) :
    (c.writeRaw l w b).mcDataRows ch = c.mcDataRows ch := rfl

theorem Chip.dramByte_writeRaw (c : Chip) (k l : Loc) (w b : Nat) :
    (c.writeRaw l w b).dramByte k =
      if k.key = (checkLoc (c.mcDataRows l.ch) l).key then BitVec.ofNat 8 b
      else if l.key ≤ k.key ∧ k.key < l.key + 8 then (toLe 8 w).getD (k.key - l.key) 0
      else c.dramByte k := by
  unfold Chip.dramByte Chip.writeRaw
  by_cases h : k.key = (checkLoc (c.mcDataRows l.ch) l).key
  · rw [if_pos h, h, SMap.get_set_self]
  · rw [if_neg h, SMap.get_set_ne _ _ _ _ _ h, SMap.get_setRun _ _ _ _ _ 0, toLe_length]

theorem Chip.rawWord_eq (c : Chip) (l : Loc) :
    c.rawWord l = leBytes ((List.range 8).map fun i => c.dramByte (l.byte i)) := rfl

theorem Chip.rawWord_writeRaw_same (hl : c.DataPlace l) {w : Nat} (b : Nat) (hw : w < 2 ^ 64) :
    (c.writeRaw l w b).rawWord l = w := by
  have hbytes : ((List.range 8).map fun i => (c.writeRaw l w b).dramByte (l.byte i)) = toLe 8 w := by
    refine List.ext_getElem (by simp [toLe_length]) fun i hi _ => ?_
    have hi : i < 8 := by simpa using hi
    rw [List.getElem_map, List.getElem_range, Chip.dramByte_writeRaw, if_neg (hl.byte_ne_check hl rfl hi), Loc.key_byte,
      if_pos ⟨by omega, by omega⟩, Nat.add_sub_cancel_left, List.getD_eq_getElem]
  rw [Chip.rawWord_eq, hbytes, leBytes_toLe]
  exact Nat.mod_eq_of_lt hw

theorem Chip.rawCheck_writeRaw_same (c : Chip) (l : Loc) (w : Nat) {b : Nat} (hb : b < 256) :
    (c.writeRaw l w b).rawCheck l = b := by
  unfold Chip.rawCheck
  rw [Chip.mcDataRows_writeRaw, Chip.dramByte_writeRaw, if_pos rfl, BitVec.toNat_ofNat]
  exact Nat.mod_eq_of_lt hb

theorem Chip.readPhys_writeRaw_ne (hk : c.DataPlace k) (hl : c.DataPlace l)
    (hrows : c.mcDataRows k.ch = c.mcDataRows l.ch) (hne : k ≠ l) (w b : Nat) :
    (c.writeRaw l w b).readPhys k = c.readPhys k := by
  have hword : (c.writeRaw l w b).rawWord k = c.rawWord k := by
    refine congrArg leBytes (List.map_congr_left fun i hi => ?_)
    have hi : i < 8 := List.mem_range.mp hi
    refine (c.dramByte_writeRaw (k.byte i) l w b).trans ?_
    rw [if_neg (hk.byte_ne_check hl hrows hi), if_neg fun h => ?_]
    · rfl
    · have hj : (k.byte i).key - l.key < 8 := by omega
      exact hk.byte_ne hl hne hi hj (by rw [l.key_byte]; omega)
  have hcheck : (c.writeRaw l w b).rawCheck k = c.rawCheck k := by
    unfold Chip.rawCheck
    rw [Chip.mcDataRows_writeRaw, Chip.dramByte_writeRaw, if_neg (hk.check_ne hl hrows hne), if_neg fun h => ?_]
    have hj : (checkLoc (c.mcDataRows k.ch) k).key - l.key < 8 := by omega
    exact hl.byte_ne_check hk hrows.symm hj (by rw [l.key_byte]; omega)
  unfold Chip.readPhys
  rw [hword, hcheck]

end

/-! ### The check byte -/

theorem checkByte_lt (w : Nat) : checkByte w < 256 := by
  unfold checkByte
  refine List.foldlRecOn (motive := fun acc => acc < 256) hColumns.zipIdx _ (by decide) fun acc hacc x hx => ?_
  have hcol : x.1 < 256 := by
    have hall : hColumns.zipIdx.all (fun x => decide (x.1 < 256)) = true := by decide
    exact of_decide_eq_true (List.all_eq_true.mp hall x hx)
  split
  · exact Nat.xor_lt_two_pow (n := 8) hacc hcol
  · exact hacc

/-- A word with its own check byte reads clean (R355). -/
theorem classify_checkByte (w : Nat) : classify w (checkByte w) = ⟨0, w, 0, false⟩ := by
  have hsyn : Nat.xor (checkByte w) (checkByte w) = 0 := Nat.xor_self _
  unfold classify
  rw [hsyn]
  rfl

/-! ### O19 -/

/-- Settles O19: data and check bytes all have keys of their own, so a store reads back and disturbs no other word. -/
theorem dramReadAfterWrite : Obligations.DramReadAfterWrite := by
  unfold Obligations.DramReadAfterWrite
  intro c l k w hw _ hlr hlb hlrow hla hlo _ hkr hkb hkrow hka hko
  have hl : c.DataPlace l := ⟨hlr, hlb, hlrow, hla, hlo⟩
  have hk : c.DataPlace k := ⟨hkr, hkb, hkrow, hka, hko⟩
  refine ⟨?_, fun hrows hne => Chip.readPhys_writeRaw_ne hk hl hrows hne w _, rfl⟩
  unfold Chip.readPhys Chip.writePhys
  rw [Chip.rawWord_writeRaw_same hl _ hw, Chip.rawCheck_writeRaw_same c l w (checkByte_lt w), classify_checkByte]

end Sys2Proof.Machine
end

section
/-! SUPPORT. Requests of the ports (R310-R317, R331, R351): those that reach no channel, and those that enter a queue. -/

namespace Sys2Proof.Machine

open Sys2Proof

/-! ### The command -/

theorem exec_portRequest {s : State} (hs : s.runs) (p : Nat) (write : Bool) (line : Nat) (mask : List Bool)
    (words : List Nat) (spec : Bool) :
    exec (.portRequest p write line mask words spec) s =
      .next { s with chip := s.chip.portRequest p write line mask words spec } :=
  State.effect_of_runs hs fun c => c.portRequest p write line mask words spec

/-- The address of the line that a request names. -/
def lineAddr (line : Nat) : Nat := line % 2 ^ 32 / 64 * 64

/-- A request dropped during Mooring: counted and recorded (R351). -/
def Chip.portDropped (c : Chip) (p : Nat) : Chip := (c.bump (MCX_PORT_DROP_DROP.at p) 1).portErr p 2

section

variable {c : Chip} {p line : Nat} {mask : List Bool} {words : List Nat} {spec write : Bool} (hp : p < 12)

include hp

theorem Chip.portRequest_moored (hm : c.mode.moored = true) :
    c.portRequest p write line mask words spec = if write then c.portDropped p else (c.portDropped p).zeroRead p := by
  simp only [Chip.portRequest, Nat.not_le.mpr hp, if_false, hm, if_true, Chip.portDropped]

theorem Chip.portRequest_beyond (hm : c.mode.moored = false) (hl : c.sysLoc (lineAddr line) = none) :
    c.portRequest p write line mask words spec = if write then c.portErr p 1 else (c.portErr p 1).zeroRead p := by
  unfold lineAddr at hl
  simp only [Chip.portRequest, Nat.not_le.mpr hp, if_false, hm, Bool.false_eq_true, hl]

theorem Chip.portRequest_accepted (hm : c.mode.moored = false) {l : Loc} (hl : c.sysLoc (lineAddr line) = some l)
    (ha : c.mcAccepts l.ch = true) :
    c.portRequest p write line mask words spec =
      if write then (c.requestWakes l.ch).queueWrite p l (lineAddr line) mask words
      else (c.requestWakes l.ch).queueRead p l.ch (lineAddr line) spec := by
  simp only [Chip.mcAccepts, Bool.and_eq_true, bne_iff_ne, ne_eq] at ha
  unfold lineAddr at hl ⊢
  simp only [Chip.portRequest, Nat.not_le.mpr hp, if_false, hm, Bool.false_eq_true, hl, ha.1, ha.2, Bool.not_true]

end

/-! ### Requests that reach no channel -/

theorem Chip.portErr_onlyRegs (c : Chip) (p kind : Nat) : c.onlyRegs (c.portErr p kind) [MCX_ERR.addr] :=
  (((Chip.onlyRegs.refl c _).wr p (f := MCX_ERR_PORT) List.mem_cons_self).wr kind (f := MCX_ERR_KIND) List.mem_cons_self).wr 1
    (f := MCX_ERR_ERR) List.mem_cons_self

theorem Chip.portErr_reports (c : Chip) {p kind : Nat} (hp : p < 12) (hk : kind < 16) :
    (c.portErr p kind).rd MCX_ERR_KIND = kind ∧ (c.portErr p kind).rd MCX_ERR_PORT = p ∧
      (c.portErr p kind).rd MCX_ERR_ERR = 1 := by
  have hwidth : MCX_ERR_PORT.width = 4 ∧ MCX_ERR_KIND.width = 4 := by decide
  unfold Chip.portErr
  simp (disch := decide) only [Chip.rd_wr_clear, Chip.rd_wr_same, hwidth]
  refine ⟨?_, ?_, rfl⟩ <;> omega

/-- With nothing held back, the line that a port waits for is delivered at once (R317). -/
theorem Chip.delivered_deliver {c : Chip} {d : Delivery} (hw : c.mcx.waiting = [])
    (he : d.id = c.mcx.expect.getD d.port 0) : (c.deliver d).mcx.delivered = [d] := by
  simp only [Chip.deliver, Chip.deliverAll, Chip.onMcx_mcx, hw, List.length_nil, List.nil_append, List.length_singleton]
  simp only [deliverInOrder, List.find?_cons, beq_iff_eq.mpr he, List.nil_append]

theorem Chip.zeroRead_delivered {c : Chip} {p : Nat} (hw : c.mcx.waiting = [])
    (he : c.mcx.nextId.getD p 0 = c.mcx.expect.getD p 0) :
    (c.zeroRead p).mcx.delivered = [⟨p, c.mcx.nextId.getD p 0, List.replicate 8 (0, 0)⟩] :=
  Chip.delivered_deliver hw he

/-- A read that returns zeros changes the port's numbering and delivery alone. -/
theorem Chip.zeroRead_frame (c : Chip) (p : Nat) : ∃ x, c.zeroRead p = { c with mcx := x } ∧
    (c.mcx.waiting = [] → c.mcx.nextId.getD p 0 = c.mcx.expect.getD p 0 →
      x.delivered = [⟨p, c.mcx.nextId.getD p 0, List.replicate 8 (0, 0)⟩]) :=
  ⟨(c.zeroRead p).mcx, rfl, Chip.zeroRead_delivered⟩

theorem Chip.portDropped_onlyRegs (c : Chip) (p : Nat) :
    c.onlyRegs (c.portDropped p) [MCX_ERR.addr, (MCX_PORT_DROP.at p).addr] := by
  have hcount : c.onlyRegs (c.bump (MCX_PORT_DROP_DROP.at p) 1) [(MCX_PORT_DROP.at p).addr] :=
    (Chip.onlyRegs.refl c _).wr _ List.mem_cons_self
  have h := hcount.trans (Chip.portErr_onlyRegs _ p 2)
  exact ⟨h.1, h.2.mono (by simp)⟩

theorem Chip.portDropped_drop (c : Chip) (p : Nat) :
    (c.portDropped p).rd (MCX_PORT_DROP_DROP.at p) = satAdd 16 (c.rd (MCX_PORT_DROP_DROP.at p)) 1 := by
  have haddr : (MCX_PORT_DROP_DROP.at p).addr ∉ [MCX_ERR.addr] := by
    simp [Field.at, MCX_PORT_DROP_DROP, MCX_ERR]
    omega
  exact ((Chip.portErr_onlyRegs _ p 2).2.rd haddr).trans (c.rd_bump_same (MCX_PORT_DROP_DROP.at p) 1 rfl)

theorem Chip.portDropped_reports (c : Chip) {p : Nat} (hp : p < 12) :
    (c.portDropped p).rd MCX_ERR_KIND = 2 ∧ (c.portDropped p).rd MCX_ERR_PORT = p ∧ (c.portDropped p).rd MCX_ERR_ERR = 1 :=
  Chip.portErr_reports _ hp (by decide)

/-! ### O21 -/

/-- Settles O21: during Mooring a request is counted and recorded, and a read returns zeros; that is all. -/
theorem mooringServesNoPort : Obligations.MooringServesNoPort := by
  unfold Obligations.MooringServesNoPort
  intro s p line write spec mask words hs hp hm
  refine ⟨_, exec_portRequest hs p write line mask words spec, ?_⟩
  rw [Chip.portRequest_moored hp hm]
  obtain ⟨hkind, hport, herr⟩ := s.chip.portDropped_reports hp
  have hdrop := s.chip.portDropped_drop p
  obtain ⟨r, hr, hsame⟩ := Chip.onlyRegs_iff.mp (s.chip.portDropped_onlyRegs p)
  rw [hr] at hkind hport herr hdrop hsame ⊢
  cases write with
  | true => exact ⟨hsame, hdrop, hkind, hport, herr, rfl⟩
  | false =>
    obtain ⟨x, hx, hdel⟩ := Chip.zeroRead_frame { s.chip with regs := r } p
    rw [if_neg Bool.false_ne_true, hx]
    exact ⟨hsame, hdrop, hkind, hport, herr, rfl, hdel⟩

/-! ### Requests that enter a queue -/

/-- Nothing differs but the controller of one channel and what the channels share beside registers. -/
def Chip.onlyQueues (c d : Chip) (ch : Nat) : Prop :=
  d = { c with mcA := d.mcA, mcB := d.mcB, mcx := d.mcx } ∧ c.otherMc d ch

section

variable {c d : Chip} {ch : Nat}

theorem Chip.onlyQueues.refl (c : Chip) (ch : Nat) : c.onlyQueues c ch := ⟨rfl, fun _ _ _ => rfl⟩

theorem Chip.onlyQueues.trans {e : Chip} (h : c.onlyQueues d ch) (k : d.onlyQueues e ch) : c.onlyQueues e ch := by
  obtain ⟨hd, hm⟩ := h
  obtain ⟨he, hn⟩ := k
  exact ⟨by rw [he, hd], fun j hj hne => (hn j hj hne).trans (hm j hj hne)⟩

theorem Chip.onlyQueues.onMc (h : c.onlyQueues d ch) (hch : ch < 2) (f : Channel → Channel) :
    c.onlyQueues (d.onMc ch f) ch := by
  obtain ⟨hd, hm⟩ := h
  refine ⟨?_, fun k hk hne => (d.mc_onMc_ne f hch hk hne).trans (hm k hk hne)⟩
  rw [d.onMc_frame ch f, hd]

theorem Chip.onlyQueues.onMcx (h : c.onlyQueues d ch) (f : MemShared → MemShared) : c.onlyQueues (d.onMcx f) ch := by
  obtain ⟨hd, hm⟩ := h
  exact ⟨by rw [hd]; rfl, hm⟩

end

/-- What a write makes of the write queue of its channel (R315, R316). -/
def writeTaken (q q' : List WriteEntry) (p line : Nat) (mask : List Bool) (words : List Nat) : Prop :=
  if (q.any fun e => e.line == line) = true then q' = q.map fun e => if e.line = line then mergeEntry e mask words else e
  else if 32 ≤ q.length then q' = q
  else ∃ e, q' = q ++ [e] ∧ e.port = p ∧ e.line = line ∧ e.age = 0 ∧ ∀ i, i < 8 →
    e.mask.getD i false = mask.getD i false ∧ e.words.getD i 0 = words.getD i 0

theorem getD_map_range {α : Type} (f : Nat → α) (x : α) {n i : Nat} (h : i < n) :
    ((List.range n).map f).getD i x = f i := by
  simp [List.getD_eq_getElem?_getD, h]

section

variable {c : Chip} {l : Loc} (hch : l.ch < 2)

include hch

theorem Chip.queueWrite_spec (p line : Nat) (mask : List Bool) (words : List Nat) :
    c.onlyQueues (c.queueWrite p l line mask words) l.ch ∧
      ((c.queueWrite p l line mask words).mc l.ch).readQ = (c.mc l.ch).readQ ∧
      writeTaken (c.mc l.ch).writeQ ((c.queueWrite p l line mask words).mc l.ch).writeQ p line mask words := by
  unfold Chip.queueWrite Chip.markScrub writeTaken
  simp only
  split
  next => exact ⟨((Chip.onlyQueues.refl c _).onMc hch _).onMc hch _, by simp, by simp⟩
  next =>
    split
    next => exact ⟨.refl c _, rfl, rfl⟩
    next =>
      refine ⟨(((Chip.onlyQueues.refl c _).onMc hch _).onMc hch _).onMcx _, by simp, _,
        by simp only [Chip.mc_onMcx, Chip.mc_onMc_same]; rfl, rfl, rfl, rfl, fun i hi => ?_⟩
      exact ⟨getD_map_range _ _ hi, getD_map_range _ _ hi⟩

omit hch in
theorem Chip.forwarder_eq_none {ch line : Nat}
    (h : ((c.mc ch).writeQ.find? fun e => e.line == line && e.mask.all id) = none) : c.forwarder ch line = none := by
  unfold Chip.forwarder
  split
  · exact h
  · rfl

/-- What a read that no write entry serves makes of its channel (R331). -/
theorem Chip.queueRead_spec {p line : Nat} {spec : Bool} (hf : c.forwarder l.ch line = none)
    (hroom : (c.mc l.ch).readQ.length < 64) :
    c.onlyQueues (c.queueRead p l.ch line spec) l.ch ∧
      ((c.queueRead p l.ch line spec).mc l.ch).writeQ = (c.mc l.ch).writeQ ∧
      ∃ e : ReadEntry, ((c.queueRead p l.ch line spec).mc l.ch).readQ = (c.mc l.ch).readQ ++ [e] ∧ e.port = p ∧
        e.line = line ∧ e.age = 0 ∧ e.spec = spec ∧ e.id = c.mcx.nextId.getD p 0 := by
  have hf' : (c.takeId p).forwarder l.ch line = none := hf
  unfold Chip.queueRead Chip.readEnters
  rw [if_neg (by omega), hf']
  unfold Chip.takeId
  refine ⟨(((Chip.onlyQueues.refl c _).onMcx _).onMc hch _).onMcx _, by simp, _,
    by simp only [Chip.mc_onMcx, Chip.mc_onMc_same]; rfl, rfl, rfl, rfl, rfl, rfl⟩

end

/-- A Sluice entry that has not reached SRE is given up (R348). -/
def Chip.entryCut (c : Chip) (ch : Nat) : Chip := c.onMc ch fun m => { m with sluiceEntry := false }

/-- An ACTIVE channel has nothing to wake from but a Sluice entry that has begun (R348). -/
theorem Chip.requestWakes_active {c : Chip} {ch : Nat} (h : c.mcState ch = mcActive) :
    c.requestWakes ch = c.entryCut ch := by
  unfold Chip.requestWakes Chip.exitStart Chip.entryCut
  simp only [Chip.mcState_onMc, h]
  rfl

/-- Giving up a Sluice entry leaves the queues and what the channels share. -/
theorem Chip.entryCut_spec (c : Chip) {ch : Nat} (hch : ch < 2) :
    c.onlyQueues (c.entryCut ch) ch ∧ ((c.entryCut ch).mc ch).readQ = (c.mc ch).readQ ∧
      ((c.entryCut ch).mc ch).writeQ = (c.mc ch).writeQ ∧ (c.entryCut ch).mcx = c.mcx := by
  unfold Chip.entryCut
  exact ⟨(Chip.onlyQueues.refl c ch).onMc hch _, by simp, by simp, by simp⟩

/-! ### O22 -/

/-- Settles O22: a request beyond the installed DRAM is recorded; a request to an ACTIVE channel enters its queue. -/
theorem portRequests : Obligations.PortRequests := by
  unfold Obligations.PortRequests
  refine ⟨fun s p line spec mask words hs hp hm hl => ?_, fun s p line spec mask words l hs hp hm hl hch ha hact => ?_⟩
  · refine ⟨_, exec_portRequest hs p true line mask words spec, ?_⟩
    rw [Chip.portRequest_beyond hp hm hl, if_pos rfl]
    exact ⟨s.chip.portErr_onlyRegs p 1, s.chip.portErr_reports hp (by decide)⟩
  have hgo (write : Bool) := Chip.portRequest_accepted (mask := mask) (words := words) (spec := spec)
    (write := write) hp hm hl ha
  rw [Chip.requestWakes_active hact] at hgo
  obtain ⟨hcut, hrq, hwq, hmcx⟩ := s.chip.entryCut_spec hch
  refine ⟨⟨_, exec_portRequest hs p true line mask words spec, ?_⟩, fun hfind hroom => ?_⟩
  · rw [hgo, if_pos rfl]
    obtain ⟨hq, hread, hwrite⟩ := (s.chip.entryCut l.ch).queueWrite_spec hch p (lineAddr line) mask words
    rw [hrq] at hread
    rw [hwq] at hwrite
    obtain ⟨hframe, hother⟩ := hcut.trans hq
    exact ⟨hframe, hother, hread, hwrite⟩
  · have hnone : (s.chip.entryCut l.ch).forwarder l.ch (lineAddr line) = none :=
      Chip.forwarder_eq_none (by rw [hwq]; exact hfind)
    obtain ⟨hq, hwrite, e, hread, hport, hline, hage, hspec, hid⟩ :=
      (s.chip.entryCut l.ch).queueRead_spec hch (p := p) (spec := spec) hnone (by rw [hrq]; exact hroom)
    refine ⟨_, e, exec_portRequest hs p false line mask words spec, ?_⟩
    rw [hgo, if_neg Bool.false_ne_true]
    rw [hrq] at hread
    rw [hwq] at hwrite
    rw [hmcx] at hid
    obtain ⟨hframe, hother⟩ := hcut.trans hq
    exact ⟨hframe, hother, hwrite, hread, hport, hline, hage, hspec, hid⟩

end Sys2Proof.Machine
end

section
/-! SUPPORT. A scheduler cycle (R326-R332): that its row command touches only the bus, and that at most one request leaves
the queues by its column command. -/

namespace Sys2Proof.Machine

open Sys2Proof

/-! ### Row commands -/

/-- A command that is no column command. -/
def SchedCmd.isRow : SchedCmd → Prop
  | .col _ => False
  | _ => True

section

variable (c : Chip) (ch : Nat)

theorem Chip.isRow_refreshCmd {rank : Nat} {x : SchedCmd} (h : c.refreshCmd ch rank = some x) : x.isRow := by
  unfold Chip.refreshCmd at h
  split at h
  · cases h; trivial
  · obtain ⟨k, -, rfl⟩ := Option.map_eq_some_iff.mp h
    trivial

theorem Chip.isRow_decide1 {x : SchedCmd} (h : c.decide1 ch = some x) : x.isRow := by
  obtain ⟨r, -, hr⟩ := List.exists_of_findSome?_eq_some h
  split at hr
  · exact c.isRow_refreshCmd ch hr
  · cases hr

theorem Chip.isRow_decide2 {x : SchedCmd} (h : c.decide2 ch = some x) : x.isRow := by
  unfold Chip.decide2 at h
  (repeat' split at h) <;> cases h <;> trivial

theorem Chip.isRow_wantRow {above : List Want} {w : Want} {x : SchedCmd} (h : c.wantRow ch above w = some x) : x.isRow := by
  unfold Chip.wantRow at h
  (repeat' split at h) <;> cases h <;> trivial

theorem Chip.isRow_firstRow {others above ws : List Want} {x : SchedCmd} (h : c.firstRow ch others above ws = some x) :
    x.isRow := by
  induction ws generalizing above with
  | nil => cases h
  | cons w t ih =>
    unfold Chip.firstRow at h
    split at h
    next hw =>
      cases h
      exact c.isRow_wantRow ch hw
    next => exact ih h

theorem Chip.isRow_decide5 {ws : List Want} {x : SchedCmd} (h : c.decide5 ch ws = some x) : x.isRow := by
  obtain ⟨r, -, hr⟩ := List.exists_of_findSome?_eq_some h
  split at hr
  · exact c.isRow_refreshCmd ch hr
  · cases hr

/-- A row command of a cycle touches only the bus. -/
theorem Chip.rowDo_offBus {o : Option SchedCmd} (h : ∀ x, o = some x → x.isRow) : (c.rowDo ch o).offBus ch = c.offBus ch := by
  cases o with
  | none => rfl
  | some x =>
    cases x with
    | act => exact c.issueAct_offBus ch _ _ _ _
    | pre => exact c.issuePre_offBus ch _ _
    | ref => exact c.issueRef_offBus ch _
    | col w => exact (h _ rfl).elim

theorem SchedCmd.isRow_or {a b : Option SchedCmd} (ha : ∀ x, a = some x → x.isRow) (hb : ∀ x, b = some x → x.isRow) :
    ∀ x, a.or b = some x → x.isRow := fun x h =>
  (Option.or_eq_some_iff.mp h).elim (ha x) fun hx => hb x hx.2

/-- The row command chosen among the decisions of a cycle. -/
theorem Chip.isRow_decision (cands others ws : List Want) : ∀ x, (c.decide1 ch).or ((c.decide2 ch).or
    ((c.firstRow ch others [] cands).or (c.decide5 ch ws))) = some x → x.isRow :=
  SchedCmd.isRow_or (fun _ => c.isRow_decide1 ch) (SchedCmd.isRow_or (fun _ => c.isRow_decide2 ch)
    (SchedCmd.isRow_or (fun _ => c.isRow_firstRow ch) fun _ => c.isRow_decide5 ch))

theorem Chip.refreshOnly_offBus : (c.refreshOnly ch).offBus ch = c.offBus ch :=
  c.rowDo_offBus ch (SchedCmd.isRow_or (fun _ => c.isRow_decide1 ch)
    (SchedCmd.isRow_or (fun _ => c.isRow_decide2 ch) fun _ => c.isRow_decide5 ch))

end

/-! ### The column command -/

/-- What a cycle can take from a channel's queues: nothing, a read that goes in flight, or a write that leaves for DRAM. -/
structure Chip.Leaves (c d : Chip) (ch : Nat) : Prop where
  other : c.otherMc d ch
  now : (d.mc ch).now = (c.mc ch).now
  cases :
    ((d.mc ch).readQ = (c.mc ch).readQ ∧ (d.mc ch).writeQ = (c.mc ch).writeQ ∧ (d.mc ch).inflight = (c.mc ch).inflight ∧
      d.stores = c.stores) ∨
    (∃ i x, i < (c.mc ch).readQ.length ∧ (d.mc ch).readQ = (c.mc ch).readQ.eraseIdx i ∧
      (d.mc ch).writeQ = (c.mc ch).writeQ ∧ (d.mc ch).inflight = (c.mc ch).inflight ++ [x] ∧ d.stores = c.stores) ∨
    ∃ i, i < (c.mc ch).writeQ.length ∧ (d.mc ch).writeQ = (c.mc ch).writeQ.eraseIdx i ∧
      (d.mc ch).readQ = (c.mc ch).readQ ∧ (d.mc ch).inflight = (c.mc ch).inflight

section

variable {c d e : Chip} {ch : Nat} (hch : ch < 2)

include hch

theorem Chip.leaves_of_offBus (h : d.offBus ch = c.offBus ch) : c.Leaves d ch := by
  obtain ⟨hr, hw, hi, hn⟩ := Chip.queues_of_offBus h
  have honly := Chip.onlyMc_of_offBus h hch
  exact ⟨honly.otherMc, hn, .inl ⟨hr, hw, hi, honly.stores⟩⟩

/-- Commands that touch only the bus may come before. -/
theorem Chip.Leaves.after_offBus (k : d.Leaves e ch) (h : d.offBus ch = c.offBus ch) : c.Leaves e ch := by
  obtain ⟨hr, hw, hi, hn⟩ := Chip.queues_of_offBus h
  have honly := Chip.onlyMc_of_offBus h hch
  obtain ⟨hother, hnow, hcases⟩ := k
  rw [hr, hw, hi, honly.stores] at hcases
  exact ⟨fun j hj hne => (hother j hj hne).trans (honly.otherMc j hj hne), hnow.trans hn, hcases⟩

end

/-! Counters of the ports and stores to DRAM touch no channel. -/

section

variable (c : Chip) (k : Nat)

@[simp] theorem Chip.mc_bumpLines (p : Nat) : (c.bumpLines p).mc k = c.mc k := rfl

@[simp] theorem Chip.mc_noteWait (p age : Nat) : (c.noteWait p age).mc k = c.mc k := by
  simp only [Chip.noteWait]
  split <;> rfl

theorem Chip.mc_writeLoc (l : Loc) (w : Nat) : (c.writeLoc l w).mc k = c.mc k := by
  unfold Chip.writeLoc
  split <;> rfl

theorem Chip.mc_writeSys (a w : Nat) : (c.writeSys a w).mc k = c.mc k := by
  unfold Chip.writeSys
  split
  · rfl
  · exact c.mc_writeLoc k _ w

@[simp] theorem Chip.mc_performWrite (e : WriteEntry) : (c.performWrite e).mc k = c.mc k := by
  refine List.foldlRecOn (motive := fun d : Chip => d.mc k = c.mc k) _ _ rfl fun d hd i _ => ?_
  split
  · exact (d.mc_writeSys k _ _).trans hd
  · exact hd

end

section

variable (c : Chip) {ch : Nat} (w : Want)

theorem Chip.issueLine_want_offBus (write : Bool) (line : Nat) (mask : List Bool) (port : Nat) :
    (c.issueLine (w.loc ch) write line mask port).offBus ch = c.offBus ch :=
  c.issueLine_offBus (w.loc ch) write line mask port

theorem Chip.issueCol_check (h : w.check = true) : (c.issueCol ch w).offBus ch = c.offBus ch := by
  unfold Chip.issueCol
  simp only [h, if_true]
  rw [Chip.cacheUse_offBus, Chip.issueLine_want_offBus]

/-- A read leaves for DRAM. -/
theorem Chip.issueCol_read {e : ReadEntry} (h : w.check = false) (hw : w.write = false)
    (he : (c.mc ch).readQ[w.idx]? = some e) :
    ∃ d : Chip, d.offBus ch = c.offBus ch ∧
      c.issueCol ch w = (d.onMc ch fun m => { m with readQ := m.readQ.eraseIdx w.idx }).readLeft ch e (w.loc ch) := by
  refine ⟨(c.issueLine (w.loc ch) false e.line [] w.port).cacheUse ch (c.checkTarget (w.loc ch)) false, ?_, ?_⟩
  · rw [Chip.cacheUse_offBus, Chip.issueLine_want_offBus]
  · unfold Chip.issueCol
    simp only [h, hw, he, Bool.false_eq_true, if_false]

/-- A write leaves for DRAM. -/
theorem Chip.issueCol_write {e : WriteEntry} (h : w.check = false) (hw : w.write = true)
    (he : (c.mc ch).writeQ[w.idx]? = some e) :
    ∃ d : Chip, d.offBus ch = c.offBus ch ∧
      c.issueCol ch w = (((d.performWrite e).onMc ch fun m => { m with writeQ := m.writeQ.eraseIdx w.idx }).bumpLines
        w.port).noteWait w.port e.age := by
  have hdouble (x : Chip) : (x.lineAccess { w.loc ch with rank := 1 } true e.line e.mask w.port).offBus ch = x.offBus ch :=
    x.lineAccess_offBus { w.loc ch with rank := 1 } true e.line e.mask w.port
  refine ⟨_, ?_, by unfold Chip.issueCol; simp only [h, hw, he, Bool.false_eq_true, if_false, if_true]; rfl⟩
  simp only [Chip.ite_offBus, hdouble, Chip.cacheUse_offBus, Chip.issueLine_want_offBus, ite_self]

theorem Chip.issueCol_leaves (hch : ch < 2) : c.Leaves (c.issueCol ch w) ch := by
  by_cases hcheck : w.check = true
  · exact Chip.leaves_of_offBus hch (c.issueCol_check w hcheck)
  have hcheck : w.check = false := by simpa using hcheck
  cases hwrite : w.write with
  | false =>
    cases he : (c.mc ch).readQ[w.idx]? with
    | none =>
      have hnone : c.issueCol ch w = c := by
        unfold Chip.issueCol
        simp only [hcheck, hwrite, he, Bool.false_eq_true, if_false]
      rw [hnone]
      exact Chip.leaves_of_offBus hch rfl
    | some e =>
      obtain ⟨d, hd, heq⟩ := c.issueCol_read w hcheck hwrite he
      refine Chip.Leaves.after_offBus hch ⟨?_, ?_, .inr (.inl ⟨w.idx, ?_⟩)⟩ hd
      all_goals rw [heq]
      · intro k hk hne
        simp only [Chip.readLeft, Chip.mc_noteWait, Chip.mc_bumpLines, Chip.mc_onMc_ne _ _ hch hk hne]
      · simp [Chip.readLeft]
      · have hidx := (List.getElem?_eq_some_iff.mp he).1
        rw [← (Chip.queues_of_offBus hd).1] at hidx
        exact ⟨_, hidx, by simp [Chip.readLeft], by simp [Chip.readLeft], by simp [Chip.readLeft]; rfl, by simp⟩
  | true =>
    cases he : (c.mc ch).writeQ[w.idx]? with
    | none =>
      have hnone : c.issueCol ch w = c := by
        unfold Chip.issueCol
        simp only [hcheck, hwrite, he, Bool.false_eq_true, if_false, if_true]
      rw [hnone]
      exact Chip.leaves_of_offBus hch rfl
    | some e =>
      obtain ⟨d, hd, heq⟩ := c.issueCol_write w hcheck hwrite he
      refine Chip.Leaves.after_offBus hch ⟨?_, ?_, .inr (.inr ⟨w.idx, ?_⟩)⟩ hd
      all_goals rw [heq]
      · intro k hk hne
        simp only [Chip.mc_noteWait, Chip.mc_bumpLines, Chip.mc_onMc_ne _ _ hch hk hne, Chip.mc_performWrite]
      · simp
      · have hidx := (List.getElem?_eq_some_iff.mp he).1
        rw [← (Chip.queues_of_offBus hd).2.1] at hidx
        exact ⟨hidx, by simp, by simp, by simp⟩

end

/-! ### The cycle -/

section

variable (c : Chip) {ch : Nat}

theorem Chip.schedule_leaves (hch : ch < 2) : c.Leaves (c.schedule ch) ch := by
  have hrow {row : Option SchedCmd} (b : Bool) (h : ∀ x, row = some x → x.isRow) :
      ((c.onMc ch fun m => { m with draining := b }).rowDo ch row).offBus ch = c.offBus ch :=
    (Chip.rowDo_offBus _ ch h).trans (c.onMc_offBus ch _ (fun _ => rfl) (fun _ => rfl) (fun _ => rfl) fun _ => rfl)
  unfold Chip.schedule
  simp only
  generalize List.findSome? _ _ = col
  generalize hdec : (c.decide1 ch).or _ = row
  have hbus := hrow (c.direction ch (c.readWants ch) (c.writeWants ch)).2 (hdec ▸ c.isRow_decision ch _ _ _)
  have hidle := Chip.leaves_of_offBus hch hbus
  cases col with
  | none => exact hidle
  | some x =>
    cases x with
    | col w =>
      simp only
      split
      · exact (Chip.issueCol_leaves _ w hch).after_offBus hch hbus
      · exact hidle
    | act => exact hidle
    | pre => exact hidle
    | ref => exact hidle

theorem Chip.cycle_onlyMc (hch : ch < 2) : c.onlyMc (c.cycle ch) ch [] := (Chip.onlyMc.refl c ch []).onMc hch _

theorem Chip.mc_cycle : (c.cycle ch).mc ch =
    { c.mc ch with
        now := (c.mc ch).now + 2, odt := []
        readQ := (c.mc ch).readQ.map fun e => { e with age := e.age + 1 }
        writeQ := (c.mc ch).writeQ.map fun e => { e with age := e.age + 1 } } := Chip.mc_onMc_same _ _ _

end

theorem exec_schedulerIssue {s : State} (hs : s.runs) {ch : Nat} (hch : ch < 2) :
    exec (.schedulerIssue ch) s = .next { s with chip := s.chip.schedCycle ch } := by
  refine (State.effect_of_runs hs fun c => if ch < 2 then c.schedCycle ch else c).trans ?_
  rw [if_pos hch]

section

variable {c : Chip} {ch : Nat}

/-- The channel's clocks run. -/
def Chip.clocked (c : Chip) (ch : Nat) : Prop := c.mcState ch = mcActive ∨ c.mcState ch = mcSweep

theorem Chip.schedCycle_stopped (ha : c.mcState ch ≠ mcActive) (hs : c.mcState ch ≠ mcSweep) : c.schedCycle ch = c :=
  if_pos ⟨ha, hs⟩

theorem Chip.schedCycle_low (h : c.clocked ch) (hl : (c.mc ch).alert.low = true) : c.schedCycle ch = c.cycle ch := by
  unfold Chip.schedCycle
  rw [if_neg fun hn => h.elim hn.1 hn.2]
  simp only [hl, if_true]

theorem Chip.schedCycle_refresh (h : c.clocked ch) (hl : (c.mc ch).alert.low = false) (hv : c.mcServes ch = false) :
    c.schedCycle ch = (c.cycle ch).refreshOnly ch := by
  unfold Chip.schedCycle
  rw [if_neg fun hn => h.elim hn.1 hn.2]
  simp only [hl, hv, Bool.false_eq_true, if_false, Bool.not_false, if_true]

/-- A cycle of a channel that serves requests. -/
theorem Chip.schedCycle_leaves (hch : ch < 2) (h : c.clocked ch) (hl : (c.mc ch).alert.low = false)
    (hv : c.mcServes ch = true) : (c.cycle ch).Leaves (c.schedCycle ch) ch := by
  unfold Chip.schedCycle
  rw [if_neg fun hn => h.elim hn.1 hn.2]
  simp only [hl, hv, Bool.false_eq_true, if_false, Bool.not_true]
  refine (Chip.schedule_leaves _ hch).after_offBus hch ?_
  rw [Chip.ite_offBus, Chip.zqcs_offBus, ite_self]

end

/-! ### Age (R326) -/

/-- A read with its class and its overdue mark by its age. -/
def Chip.promoteRead (c : Chip) (e : ReadEntry) : ReadEntry :=
  { e with
      class0 := decide (c.ageLimit (schedPort e.port) * 64 < e.age)
      overdue := decide (2 * c.ageLimit (schedPort e.port) * 64 < e.age) }

/-- A write with its class and its overdue mark by its age. -/
def Chip.promoteWrite (c : Chip) (e : WriteEntry) : WriteEntry :=
  { e with
      class0 := decide (c.ageLimit (schedPort e.port) * 64 < e.age)
      overdue := decide (2 * c.ageLimit (schedPort e.port) * 64 < e.age) }

theorem exec_requestAgePromote {s : State} (hs : s.runs) {ch : Nat} (hch : ch < 2) :
    exec (.requestAgePromote ch) s = .next { s with chip := s.chip.onMc ch fun m =>
      { m with readQ := m.readQ.map s.chip.promoteRead, writeQ := m.writeQ.map s.chip.promoteWrite } } := by
  refine (State.effect_of_runs hs fun c =>
    if 2 ≤ ch then c
    else c.onMc ch fun m => { m with readQ := m.readQ.map c.promoteRead, writeQ := m.writeQ.map c.promoteWrite }).trans ?_
  rw [if_neg (Nat.not_le.mpr hch)]

/-! ### O23 -/

/-- Settles O23: a cycle ages every request, its row command touches only the bus, and its column command takes at most
one request from the queues. -/
theorem schedulerCycle : Obligations.SchedulerCycle := by
  unfold Obligations.SchedulerCycle
  refine ⟨fun s ch hs hch hact hlow hppr => ?_, fun s ch hs ha hw => ?_,
    fun s ch hs hch hclk => ⟨fun hlow => ?_, fun hlow hserve => ?_⟩,
    fun s ch hch => ?_, fun s ch hs hch => ?_⟩
  · have hserves : s.chip.mcServes ch = true := by simp [Chip.mcServes, hact, hppr]; decide
    obtain ⟨hother, hnow, hcases⟩ := Chip.schedCycle_leaves hch (.inl hact) hlow hserves
    have hcycle := s.chip.cycle_onlyMc hch
    refine ⟨_, exec_schedulerIssue hs hch, fun k hk hne => (hother k hk hne).trans (hcycle.otherMc k hk hne),
      s.chip.schedCycle_seat ch, by rw [hnow, Chip.mc_cycle], ?_⟩
    rw [Chip.mc_cycle, hcycle.stores] at hcases
    obtain ⟨hr, hw, hi, hst⟩ | ⟨i, x, hlt, hr, hw, hi, hst⟩ | ⟨i, hlt, hw, hr, hi⟩ := hcases
    · simp [hr, hw, hi, hst]
    · have hlen := List.length_eraseIdx_of_lt hlt
      simp only [List.length_map] at hlt hlen
      simp only [hr, hw, hi, hlen, hst, List.length_map, List.length_append, List.length_singleton, implies_true, and_true]
      omega
    · have hlen := List.length_eraseIdx_of_lt hlt
      simp only [List.length_map] at hlt hlen
      simp only [hr, hw, hi, hlen, List.length_map]
      exact ⟨by omega, trivial, fun h => absurd h (by omega)⟩
  · refine (State.effect_of_runs hs fun c => if ch < 2 then c.schedCycle ch else c).trans ?_
    rw [Chip.schedCycle_stopped ha hw, ite_self]
  · rw [exec_schedulerIssue hs hch, Chip.schedCycle_low hclk hlow]
  · have hbus := (s.chip.cycle ch).refreshOnly_offBus ch
    obtain ⟨hr, hw, hi, hn⟩ := Chip.queues_of_offBus hbus
    refine ⟨_, exec_schedulerIssue hs hch, ?_⟩
    rw [Chip.schedCycle_refresh hclk hlow hserve]
    exact ⟨(s.chip.cycle_onlyMc hch).trans (Chip.onlyMc_of_offBus hbus hch), by rw [hn, Chip.mc_cycle], hr, hw,
      by rw [hi, Chip.mc_cycle]⟩
  · rw [Chip.mc_cycle]
    exact ⟨rfl, rfl⟩
  · refine ⟨_, exec_requestAgePromote hs hch, (Chip.onlyMc.refl _ ch []).onMc hch _, ?_⟩
    rw [Chip.mc_onMc_same]
    simp [Chip.promoteRead, Chip.promoteWrite]

end Sys2Proof.Machine
end

section
/-! SUPPORT. Refresh, ZQ calibration and the weir tables (R335-R343). -/

namespace Sys2Proof.Machine

open Sys2Proof

section

variable {c : Chip} {ch : Nat}

theorem Chip.dramCmd_onlyMc (hch : ch < 2) (x : DramCmd) : c.onlyMc (c.dramCmd ch x) ch [] :=
  (Chip.onlyMc.refl c ch []).onMc hch _

theorem Chip.allRanks_onlyMc (hch : ch < 2) (code bank arg : Nat) : c.onlyMc (c.allRanks ch code bank arg) ch [] :=
  List.foldlRecOn (motive := fun d : Chip => c.onlyMc d ch []) _ _ (Chip.onlyMc.refl c ch []) fun _ hd _ _ => hd.onMc hch _

theorem Chip.zqcs_onlyMc (hch : ch < 2) : c.onlyMc (c.zqcs ch) ch [] := by
  unfold Chip.zqcs
  split
  · exact (Chip.allRanks_onlyMc hch 7 0 0).onMc hch _
  · exact (Chip.onlyMc.refl c ch []).onMc hch _

/-- The last command on the bus is the one just issued. -/
theorem Chip.code_dramCmd (x : DramCmd) :
    (((c.dramCmd ch x).mc ch).history.headD (busCmd 0 0 0 0)).code = x.code := by
  unfold Chip.dramCmd
  rw [Chip.mc_onMc_same]
  rfl

/-- A command to every rank is the last on the bus: a channel has a rank. -/
theorem Chip.code_allRanks (code bank arg : Nat) :
    (((c.allRanks ch code bank arg).mc ch).history.headD (busCmd 0 0 0 0)).code = code := by
  unfold Chip.allRanks Chip.mcRanks
  split <;> exact Chip.code_dramCmd _

/-- ZQCS at once (R339). -/
theorem Chip.zqcs_due (h : c.mcState ch = mcActive ∧ (c.mc ch).pprBusy = false ∧ (c.mc ch).alert.low = false) :
    ((c.zqcs ch).mc ch).zqOwed = false ∧ (((c.zqcs ch).mc ch).history.headD (busCmd 0 0 0 0)).code = 7 := by
  unfold Chip.zqcs
  rw [if_pos h, Chip.mc_onMc_same]
  exact ⟨rfl, Chip.code_allRanks 7 0 0⟩

end

theorem exec_zqcsDue {s : State} (hs : s.runs) {ch : Nat} (hch : ch < 2) :
    exec (.zqcsDue ch) s = .next { s with chip := s.chip.zqcs ch } := by
  refine (State.effect_of_runs hs fun c => if ch < 2 then c.zqcs ch else c).trans ?_
  rw [if_pos hch]

/-! ### The weir index (Table 7.8) -/

section

variable (c : Chip) (ch : Nat) (v : Word)

/-- The entry of the weir tables an index names; an empty one where there is none. -/
def Chip.weirEntry : WeirEntry :=
  ((c.mc ch).weir.getD (MCA_WEIR_IDX_RANK.get v * 8 + MCA_WEIR_IDX_BANK.get v) []).getD (MCA_WEIR_IDX_ENTRY.get v) ⟨0, 0⟩

theorem Chip.weirIdx_onlyRegs :
    c.onlyRegs (c.weirIdx ch v) [0x40088 + ch * 0x10000, 0x4008C + ch * 0x10000] := by
  have hidx : 0x40088 + ch * 0x10000 ∈ [0x40088 + ch * 0x10000, 0x4008C + ch * 0x10000] := by simp
  have hent : 0x4008C + ch * 0x10000 ∈ [0x40088 + ch * 0x10000, 0x4008C + ch * 0x10000] := by simp
  exact (((((Chip.onlyRegs.refl c _).wr _ hidx).wr _ hidx).wr _ hidx).wr _ hent).wr _ hent

theorem Chip.rd_weirIdx_rank : (c.weirIdx ch v).rd (mcF ch MCA_WEIR_IDX_RANK) = MCA_WEIR_IDX_RANK.get v := by
  simp only [Chip.weirIdx]
  rw [Chip.rd_wr_mcF_clear _ _ _ (by decide), Chip.rd_wr_mcF_clear _ _ _ (by decide), Chip.rd_wr_mcF_clear _ _ _ (by decide),
    Chip.rd_wr_mcF_clear _ _ _ (by decide), Chip.rd_wr_mcF_same _ _ _ (by decide)]
  exact Nat.mod_eq_of_lt (Field.get_lt _ _)

theorem Chip.rd_weirIdx_bank : (c.weirIdx ch v).rd (mcF ch MCA_WEIR_IDX_BANK) = MCA_WEIR_IDX_BANK.get v := by
  simp only [Chip.weirIdx]
  rw [Chip.rd_wr_mcF_clear _ _ _ (by decide), Chip.rd_wr_mcF_clear _ _ _ (by decide), Chip.rd_wr_mcF_clear _ _ _ (by decide),
    Chip.rd_wr_mcF_same _ _ _ (by decide)]
  exact Nat.mod_eq_of_lt (Field.get_lt _ _)

theorem Chip.rd_weirIdx_entry : (c.weirIdx ch v).rd (mcF ch MCA_WEIR_IDX_ENTRY) = MCA_WEIR_IDX_ENTRY.get v := by
  simp only [Chip.weirIdx]
  rw [Chip.rd_wr_mcF_clear _ _ _ (by decide), Chip.rd_wr_mcF_clear _ _ _ (by decide), Chip.rd_wr_mcF_same _ _ _ (by decide)]
  exact Nat.mod_eq_of_lt (Field.get_lt _ _)

theorem Chip.rd_weirIdx_row : (c.weirIdx ch v).rd (mcF ch MCA_WEIR_ENT_ROW) = (c.weirEntry ch v).row % 65536 := by
  simp only [Chip.weirIdx]
  rw [Chip.rd_wr_mcF_clear _ _ _ (by decide), Chip.rd_wr_mcF_same _ _ _ (by decide)]
  rfl

theorem Chip.rd_weirIdx_count : (c.weirIdx ch v).rd (mcF ch MCA_WEIR_ENT_COUNT) = (c.weirEntry ch v).count % 65536 := by
  simp only [Chip.weirIdx]
  rw [Chip.rd_wr_mcF_same _ _ _ (by decide)]
  rfl

end

theorem exec_weirIdxWrite {s : State} (hs : s.runs) {ch : Nat} (hch : ch < 2) (hr : s.chip.reach (0x40088 + ch * 0x10000))
    (v : Word) : exec (.weirIdxWrite ch v) s = .next { s with chip := s.chip.weirIdx ch v } := by
  refine (State.effect_of_runs hs fun c =>
    if ch < 2 then c.guardReg (0x40088 + ch * 0x10000) fun c => c.weirIdx ch v else c).trans ?_
  rw [if_pos hch, Chip.guardReg_ok _ _ _ hr.1 hr.2]

/-! ### O24 -/

/-- A refresh that falls due for a rank uses up one that was pulled in, or is owed (R335, R338). -/
def Channel.refreshDue (rank : Nat) (m : Channel) : Channel :=
  if 0 < m.pulled.getD rank 0 then { m with pulled := m.pulled.set rank (m.pulled.getD rank 0 - 1) }
  else { m with owed := m.owed.set rank (m.owed.getD rank 0 + 1) }

theorem exec_refreshDue {s : State} (hs : s.runs) {ch rank : Nat} (hch : ch < 2) (hrank : rank < 2)
    (hst : s.chip.mcState ch = mcActive ∨ s.chip.mcState ch = mcSweep) :
    exec (.refreshDue ch rank) s = .next { s with chip := s.chip.onMc ch (Channel.refreshDue rank) } := by
  refine (State.effect_of_runs hs fun c =>
    if ch < 2 ∧ rank < 2 ∧ (c.mcState ch = mcActive ∨ c.mcState ch = mcSweep) then c.onMc ch (Channel.refreshDue rank)
    else c).trans ?_
  rw [if_pos ⟨hch, hrank, hst⟩]

/-- Settles O24: each command by its equation; a ZQCS at once is the last command on the bus, since a channel has a
rank. -/
theorem refreshAndWeir : Obligations.RefreshAndWeir := by
  unfold Obligations.RefreshAndWeir
  refine ⟨fun s ch rank hs hch hrank hst => ⟨_, exec_refreshDue hs hch hrank hst, ?_⟩,
    fun s ch hs hch => ⟨_, exec_zqcsDue hs hch, Chip.zqcs_onlyMc hch, ?_⟩, fun s ch hs hch => ?_, fun s ch v hs hch hr =>
      ⟨_, exec_weirIdxWrite hs hch hr v, s.chip.weirIdx_onlyRegs ch v, s.chip.rd_weirIdx_rank ch v,
        s.chip.rd_weirIdx_bank ch v, s.chip.rd_weirIdx_entry ch v, s.chip.rd_weirIdx_row ch v, s.chip.rd_weirIdx_count ch v⟩⟩
  · split
    next h => exact Chip.onMc_congr (if_pos h)
    next h => exact Chip.onMc_congr (if_neg h)
  · split
    next h => exact Chip.zqcs_due h
    next h => exact if_neg h
  · refine (State.effect_of_runs hs fun c =>
      if ch < 2 then c.onMc ch fun m => { m with weir := List.replicate 16 [] } else c).trans ?_
    rw [if_pos hch]

end Sys2Proof.Machine
end

section
/-! SUPPORT. The Sluice (R343-R347): what writing back the check cache leaves clean, what a channel in self-refresh keeps, and
the exit. -/

namespace Sys2Proof.Machine

open Sys2Proof

/-! ### The check cache (R361) -/

section

variable (c : Chip) (ch k : Nat)

@[simp] theorem Chip.cache_onMc {f : Channel → Channel} (h : ∀ m, (f m).cache = m.cache) :
    ((c.onMc ch f).mc k).cache = (c.mc k).cache := by
  unfold Chip.onMc Chip.mc
  split <;> split <;> simp_all

@[simp] theorem Chip.foldl_cache {α : Type} (f : Chip → α → Chip) (l : List α)
    (hf : ∀ (c : Chip) (x : α), ((f c x).mc k).cache = (c.mc k).cache) : ((l.foldl f c).mc k).cache = (c.mc k).cache :=
  List.foldlRecOn (motive := fun d : Chip => (d.mc k).cache = (c.mc k).cache) l f rfl fun d hd x _ => (hf d x).trans hd

@[simp] theorem Chip.dramCmd_cache (x : DramCmd) : ((c.dramCmd ch x).mc k).cache = (c.mc k).cache := by
  simp [Chip.dramCmd]

@[simp] theorem Chip.onBank_cache (rank bank : Nat) (f : BankState → BankState) :
    ((c.onBank ch rank bank f).mc k).cache = (c.mc k).cache := by
  simp [Chip.onBank]

@[simp] theorem Chip.queueNr_cache (rank bank row : Nat) : ((c.queueNr ch rank bank row).mc k).cache = (c.mc k).cache := by
  unfold Chip.queueNr
  split <;> simp

@[simp] theorem Chip.weirAct_cache (rank bank row : Nat) : ((c.weirAct ch rank bank row).mc k).cache = (c.mc k).cache := by
  simp only [Chip.weirAct]
  (repeat' split) <;> simp

@[simp] theorem Chip.releaseHeld_cache : ((c.releaseHeld ch).mc k).cache = (c.mc k).cache := by
  unfold Chip.releaseHeld
  split <;> simp

@[simp] theorem Chip.issueAct_cache (rank bank row : Nat) (nr : Bool) :
    ((c.issueAct ch rank bank row nr).mc k).cache = (c.mc k).cache := by
  simp only [Chip.issueAct]
  split <;> simp

@[simp] theorem Chip.issuePre_cache (rank bank : Nat) : ((c.issuePre ch rank bank).mc k).cache = (c.mc k).cache := by
  simp only [Chip.issuePre]
  (repeat' split) <;> simp

@[simp] theorem Chip.performNr_cache (n : NeighbourRefresh) : ((c.performNr ch n).mc k).cache = (c.mc k).cache := by
  simp only [Chip.performNr]
  split <;> simp

@[simp] theorem Chip.drainNr_cache : ((c.drainNr ch).mc k).cache = (c.mc k).cache := by
  simp [Chip.drainNr]

@[simp] theorem Chip.openRow_cache (l : Loc) : ((c.openRow l).mc k).cache = (c.mc k).cache := by
  simp only [Chip.openRow]
  (repeat' split) <;> simp

@[simp] theorem Chip.floorCount_cache (class3 : Bool) : ((c.floorCount ch class3).mc k).cache = (c.mc k).cache := by
  simp [Chip.floorCount, apply_ite Channel.cache]

@[simp] theorem Chip.issueLine_cache (l : Loc) (write : Bool) (line : Nat) (mask : List Bool) (port : Nat) :
    ((c.issueLine l write line mask port).mc k).cache = (c.mc k).cache := by
  simp [Chip.issueLine]

@[simp] theorem Chip.busLine_cache (l : Loc) (write : Bool) (line : Nat) (mask : List Bool) (port : Nat) :
    ((c.busLine l write line mask port).mc k).cache = (c.mc k).cache := by
  simp [Chip.busLine]

end

theorem CheckLine.holds_loc (e : CheckLine) (ch : Nat) : e.holds (e.loc ch) = true := by
  simp [CheckLine.holds, CheckLine.loc]

section

variable (c : Chip) (ch : Nat)

/-- Writing back a check line leaves dirty only other lines. -/
theorem Chip.dirty_writeCheck {e x : CheckLine} (hx : x ∈ ((c.writeCheck ch e).mc ch).cache) (hd : x.dirty = true) :
    x ∈ (c.mc ch).cache ∧ x ≠ e := by
  unfold Chip.writeCheck at hx
  simp only [Chip.mc_onMc_same, Chip.busLine_cache, List.mem_map] at hx
  obtain ⟨y, hy, rfl⟩ := hx
  split at hd
  · cases hd
  next hne =>
    rw [if_neg hne]
    refine ⟨hy, ?_⟩
    rintro rfl
    exact hne (y.holds_loc ch)

/-- Once every dirty check line has been written back, all are clean. -/
theorem Chip.clean_foldl_writeCheck (l : List CheckLine) (h : ∀ x ∈ (c.mc ch).cache, x.dirty = true → x ∈ l) :
    ∀ x ∈ ((l.foldl (fun c e => c.writeCheck ch e) c).mc ch).cache, x.dirty = false := by
  induction l generalizing c with
  | nil =>
    intro x hx
    simpa using mt (h x hx)
  | cons e t ih =>
    refine ih _ fun x hx hd => ?_
    obtain ⟨hmem, hne⟩ := c.dirty_writeCheck ch hx hd
    exact (List.mem_cons.mp (h x hmem hd)).resolve_left hne

theorem Chip.clean_flushCache : ∀ x ∈ ((c.flushCache ch).mc ch).cache, x.dirty = false :=
  c.clean_foldl_writeCheck ch _ fun _ hx hd => List.mem_filter.mpr ⟨hx, hd⟩

end

/-! ### Entry (R339, R345, R346) -/

/-- Commands without a row on the bus leave of the channel all but its history. -/
def Channel.sameButHistory (m n : Channel) : Prop := n = { m with history := n.history }

section

variable {c d : Chip} {ch : Nat}

theorem Channel.sameButHistory.refl (m : Channel) : m.sameButHistory m := rfl

theorem Channel.sameButHistory.dramCmd {m : Channel} (h : m.sameButHistory (c.mc ch)) (x : DramCmd) :
    m.sameButHistory ((c.dramCmd ch x).mc ch) := by
  unfold Chip.dramCmd
  rw [Chip.mc_onMc_same, h]
  rfl

theorem Channel.sameButHistory.foldl {α : Type} {m : Channel} (h : m.sameButHistory (c.mc ch)) {f : Chip → α → Chip}
    (l : List α) (hf : ∀ (d : Chip) (x : α), m.sameButHistory (d.mc ch) → m.sameButHistory ((f d x).mc ch)) :
    m.sameButHistory ((l.foldl f c).mc ch) :=
  List.foldlRecOn (motive := fun d : Chip => m.sameButHistory (d.mc ch)) l f h fun d hd x _ => hf d x hd

theorem Channel.sameButHistory.allRanks {m : Channel} (h : m.sameButHistory (c.mc ch)) (code bank arg : Nat) :
    m.sameButHistory ((c.allRanks ch code bank arg).mc ch) :=
  h.foldl _ fun _ _ hd => hd.dramCmd _

/-- PREA closes every bank and changes nothing else but the history. -/
theorem Chip.preAll_spec (c : Chip) (ch : Nat) :
    Channel.sameButHistory
      { c.mc ch with banks := (c.mc ch).banks.map fun b => { b with row := none, preAt := (c.mc ch).now } }
      ((c.preAll ch).mc ch) := by
  unfold Chip.preAll
  refine Channel.sameButHistory.allRanks ?_ 2 0 0
  rw [Chip.mc_onMc_same]
  exact .refl _

/-- A channel that has reached self-refresh. -/
structure Channel.asleep (m : Channel) : Prop where
  cke : m.cke = false
  cells : m.srCells = true
  owed : m.owed = [0, 0]
  closed : ∀ b ∈ m.banks, b.row = none
  clean : ∀ e ∈ m.cache, e.dirty = false
  refreshed : m.nrQ = []

/-- SRE (R339, Table 7.6). -/
theorem Chip.enterSr_asleep (c : Chip) (ch extra : Nat) : ((c.enterSr ch extra).mc ch).asleep := by
  have hclean : ∀ x ∈ ((((c.drainNr ch).flushCache ch).drainNr ch).mc ch).cache, x.dirty = false := by
    rw [Chip.drainNr_cache]
    exact Chip.clean_flushCache _ ch
  have hnr : ((((c.drainNr ch).flushCache ch).drainNr ch).mc ch).nrQ = [] := by
    unfold Chip.drainNr
    simp only [Chip.mc_bump, Chip.mc_onMc_same]
  generalize hc1 : ((c.drainNr ch).flushCache ch).drainNr ch = c1 at hclean hnr
  have hbus := (c1.preAll_spec ch).foldl (c.mcRanks ch) fun e r he =>
    he.foldl (List.range ((e.mc ch).owed.getD r 0 + extra)) fun x _ hx => hx.dramCmd (busCmd 3 r 0 0)
  unfold Chip.enterSr
  simp only [hc1, Chip.mc_onMc_same]
  rw [hbus]
  refine ⟨rfl, rfl, rfl, fun b hb => ?_, hclean, hnr⟩
  obtain ⟨b, -, rfl⟩ := List.mem_map.mp hb
  rfl

end

end Sys2Proof.Machine
end

section
/-! SUPPORT. The Sluice (R343-R347): the states of the channels, entry, SR_DEEP and the exit. -/

namespace Sys2Proof.Machine

open Sys2Proof

/-! ### States of a channel -/

section

variable (c : Chip) (ch : Nat)

theorem Chip.mcState_setMcState {st : Nat} (h : st < 8) : (c.setMcState ch st).mcState ch = st := by
  unfold Chip.setMcState Chip.mcState
  rw [Chip.rd_wr_mcF_same _ _ _ (by decide)]
  exact Nat.mod_eq_of_lt h

theorem Chip.setMcState_sameBut (st : Nat) : c.sameBut (c.setMcState ch st) [(mcF ch MCA_STAT).addr] :=
  (Chip.sameBut.refl c _).wr st (List.mem_singleton.mpr rfl)

/-- MCx_STAT of the channels are different registers. -/
theorem mcStat_injective {ch k : Nat} (h : (mcF k MCA_STAT_STATE).addr = (mcF ch MCA_STAT).addr) : k = ch := by
  simpa [mcF, Field.off, MCA_STAT_STATE, MCA_STAT] using h

theorem Chip.mcState_setMcState_ne {k : Nat} (st : Nat) (h : k ≠ ch) : (c.setMcState ch st).mcState k = c.mcState k :=
  (c.setMcState_sameBut ch st).rd (by simpa using fun he => h (mcStat_injective he))

@[simp] theorem Chip.mc_setMcState (st k : Nat) : (c.setMcState ch st).mc k = c.mc k := rfl

/-- Changing the state of a channel leaves its other registers. -/
theorem Chip.rd_setMcState {f : Field} (st : Nat) (h : ∀ k, f.addr ≠ (mcF k MCA_STAT).addr) :
    (c.setMcState ch st).rd f = c.rd f :=
  (c.setMcState_sameBut ch st).rd (by simpa using h ch)

end

/-- The register of a channel that counts its entries and names its last exit is not that of its state. -/
theorem sluiceStat_ne_mcStat (f : Field) (ch : Nat) (h : f.addr = MCA_SLUICE_STAT.addr) (k : Nat) :
    (mcF ch f).addr ≠ (mcF k MCA_STAT).addr := by
  simp only [mcF, Field.off, h, MCA_SLUICE_STAT, MCA_STAT]
  omega

/-- States of channels set, and the clocks of PLL_M changed: what a step into or out of SR_DEEP changes. -/
structure Chip.deepStep (c d : Chip) : Prop where
  frame : d = { c with regs := d.regs, ck := d.ck }
  regs : ∀ f : Field, (∀ k, f.addr ≠ (mcF k MCA_STAT).addr) → d.rd f = c.rd f

section

variable {c d e : Chip}

theorem Chip.deepStep.refl (c : Chip) : c.deepStep c := ⟨rfl, fun _ _ => rfl⟩

theorem Chip.deepStep.trans (h : c.deepStep d) (k : d.deepStep e) : c.deepStep e := by
  refine ⟨?_, fun f hf => (k.regs f hf).trans (h.regs f hf)⟩
  rw [k.frame, h.frame]

theorem Chip.deepStep.mc (h : c.deepStep d) (k : Nat) : d.mc k = c.mc k := by
  rw [h.frame]
  rfl

theorem Chip.setMcState_deepStep (c : Chip) (ch st : Nat) : c.deepStep (c.setMcState ch st) :=
  ⟨rfl, fun _ hf => c.rd_setMcState ch st hf⟩

theorem Chip.deepStep_of_ck {k : Clocks} (h : d = { c with ck := k }) : c.deepStep d := by
  subst h
  exact ⟨rfl, fun _ _ => rfl⟩

end

/-- Nothing differs but registers, clocks and the channels. -/
def Chip.onlySluice (c d : Chip) : Prop := d = { c with regs := d.regs, ck := d.ck, mcA := d.mcA, mcB := d.mcB }

section

variable {c d e : Chip} {ch : Nat} {as : List Nat}

theorem Chip.onlySluice.trans (h : c.onlySluice d) (k : d.onlySluice e) : c.onlySluice e := by
  unfold Chip.onlySluice
  rw [k, h]

theorem Chip.onlySluice.wr (h : c.onlySluice d) (f : Field) (v : Nat) : c.onlySluice (d.wr f v) := by
  unfold Chip.onlySluice
  rw [h]
  rfl

theorem Chip.onlySluice.stores (h : c.onlySluice d) : d.stores = c.stores := by
  rw [h]
  rfl

theorem Chip.onlySluice.seat (h : c.onlySluice d) : d.seat = c.seat := by
  rw [h]
  rfl

theorem Chip.onlyMc.onlySluice (h : c.onlyMc d ch as) : c.onlySluice d := by
  unfold Chip.onlySluice
  rw [h.1]

theorem Chip.deepStep.onlySluice (h : c.deepStep d) : c.onlySluice d := by
  unfold Chip.onlySluice
  rw [h.frame]

end

/-! ### SR_DEEP (R346) -/

section

variable (c : Chip)

/-- Channels given the state SR_DEEP. -/
theorem Chip.deepStep_allDeep (l : List Nat) : c.deepStep (l.foldl (fun c k => c.setMcState k mcDeep) c) :=
  List.foldlRecOn (motive := fun d : Chip => c.deepStep d) _ _ (.refl c) fun d hd k _ =>
    hd.trans (d.setMcState_deepStep k mcDeep)

theorem Chip.mcState_allDeep (l : List Nat) (ch : Nat) :
    (l.foldl (fun c k => c.setMcState k mcDeep) c).mcState ch = mcDeep ∨
      (l.foldl (fun c k => c.setMcState k mcDeep) c).mcState ch = c.mcState ch := by
  refine List.foldlRecOn (motive := fun d : Chip => d.mcState ch = mcDeep ∨ d.mcState ch = c.mcState ch) _ _ (.inr rfl)
    fun d hd k _ => ?_
  by_cases hk : ch = k
  · subst hk
    exact .inl (d.mcState_setMcState ch (by decide))
  · rwa [d.mcState_setMcState_ne k mcDeep hk]

theorem Chip.deepEnter_deepStep : c.deepStep c.deepEnter := by
  unfold Chip.deepEnter
  split
  · exact (c.deepStep_allDeep c.mcConfigured).trans (Chip.deepStep_of_ck (Chip.stopPll_onlyPlls _ 1).frame)
  · exact .refl c

theorem Chip.mcState_deepEnter {ch : Nat} (h : c.mcState ch = mcShallow) :
    c.deepEnter.mcState ch = mcShallow ∨ c.deepEnter.mcState ch = mcDeep ∧ (c.deepEnter.pll 1).on = false := by
  unfold Chip.deepEnter
  split
  · generalize hd : c.mcConfigured.foldl (fun c k => c.setMcState k mcDeep) c = d
    have hstop : (d.stopPll 1).mcState ch = d.mcState ch := by
      rw [(d.stopPll_onlyPlls 1).frame]
      rfl
    have hoff : ((d.stopPll 1).pll 1).on = false := d.on_stopPll 1 1
    have hstate := c.mcState_allDeep c.mcConfigured ch
    rw [hd, h] at hstate
    rw [hstop, hoff]
    exact hstate.symm.imp id fun hdeep => ⟨hdeep, rfl⟩
  · exact .inl h

end

/-! ### Entry (R345) -/

section

variable {c : Chip} {ch : Nat} (hch : ch < 2)

/-- The channel in SR_SHALLOW, its entry counted. -/
def Chip.srShallow (c : Chip) (ch : Nat) : Chip :=
  ((c.enterSr ch 1).setMcState ch mcShallow).bump (mcF ch MCA_SLUICE_STAT_ENTRIES) 1

/-- A channel that enters self-refresh, with PLL_M stopped where R346 allows it. -/
def Chip.srEntered (c : Chip) (ch : Nat) : Chip := (c.srShallow ch).deepEnter

theorem Chip.mc_srEntered : (c.srEntered ch).mc ch = (c.enterSr ch 1).mc ch :=
  (c.srShallow ch).deepEnter_deepStep.mc ch

theorem Chip.mcState_srShallow : (c.srShallow ch).mcState ch = mcShallow :=
  (Chip.rd_wr_mcF_clear _ ch _ (by decide)).trans ((c.enterSr ch 1).mcState_setMcState ch (by decide))

include hch

theorem Chip.enterSr_onlyMc (extra : Nat) : c.onlyMc (c.enterSr ch extra) ch [weirReg ch] :=
  Chip.onlyMc_of_offBus (c.enterSr_offBus ch extra) hch

theorem Chip.entries_srShallow : (c.srShallow ch).rd (mcF ch MCA_SLUICE_STAT_ENTRIES) =
    satAdd 12 (c.rd (mcF ch MCA_SLUICE_STAT_ENTRIES)) 1 := by
  have hweir : (c.enterSr ch 1).rd (mcF ch MCA_SLUICE_STAT_ENTRIES) = c.rd (mcF ch MCA_SLUICE_STAT_ENTRIES) :=
    (Chip.enterSr_onlyMc hch 1).rd (by simp [weirReg, mcF, Field.off, MCA_SLUICE_STAT_ENTRIES, MCA_WEIR_STAT])
  unfold Chip.srShallow
  rw [Chip.rd_bump_mcF_same _ _ _ (by decide),
    Chip.rd_setMcState _ _ _ (sluiceStat_ne_mcStat MCA_SLUICE_STAT_ENTRIES ch rfl), hweir]
  rfl

theorem Chip.entries_srEntered : (c.srEntered ch).rd (mcF ch MCA_SLUICE_STAT_ENTRIES) =
    satAdd 12 (c.rd (mcF ch MCA_SLUICE_STAT_ENTRIES)) 1 :=
  ((c.srShallow ch).deepEnter_deepStep.regs _ (sluiceStat_ne_mcStat MCA_SLUICE_STAT_ENTRIES ch rfl)).trans
    (Chip.entries_srShallow hch)

theorem Chip.srEntered_onlySluice : c.onlySluice (c.srEntered ch) :=
  have hshallow : c.onlySluice (c.srShallow ch) := ((Chip.enterSr_onlyMc hch 1).onlySluice.wr _ _).wr _ _
  hshallow.trans (c.srShallow ch).deepEnter_deepStep.onlySluice

end

theorem exec_sluiceSrEntered {s : State} (hs : s.runs) {ch : Nat} (hch : ch < 2) (h : (s.chip.mc ch).sluiceEntry = true) :
    exec (.sluiceSrEntered ch) s = .next { s with chip := s.chip.srEntered ch } := by
  refine (State.effect_of_runs hs fun c =>
    if ch < 2 ∧ (c.mc ch).sluiceEntry = true then c.srEntered ch else c).trans ?_
  rw [if_pos ⟨hch, h⟩]

/-! ### Exit (R347) -/

section

variable (c : Chip)

/-- PLL_M is started: nothing differs but clocks. -/
theorem Chip.startPll_frame (p : Nat) : c.startPll p = { c with ck := (c.startPll p).ck } := by
  unfold Chip.startPll
  split
  · rfl
  · refine List.foldlRecOn (motive := fun d : Chip => d = { c with ck := d.ck }) _ _ rfl fun d hd n _ => ?_
    rw [hd]
    rfl

/-- The start of PLL_M follows the clocks and the settings of the PLL. -/
theorem Chip.ck_startPll_congr {c d : Chip} (hck : d.ck = c.ck)
    (hrd : ∀ f ∈ [CKG_PLLS_CFG_REFDIV, CKG_PLLS_CFG_FBDIV, CKG_PLLS_FRAC_FRAC, CKG_PLLS_CFG_ODIV],
      d.rd (pllF 1 f) = c.rd (pllF 1 f)) : (d.startPll 1).ck = (c.startPll 1).ck := by
  have hpll : d.pll 1 = c.pll 1 := by
    unfold Chip.pll
    rw [hck]
  simp only [List.forall_mem_cons, List.not_mem_nil, false_implies, implies_true, and_true] at hrd
  obtain ⟨href, hfb, hfrac, hod⟩ := hrd
  unfold Chip.startPll
  rw [hpll]
  split
  · exact hck
  · simp only [pllChildren, List.foldl_cons, List.foldl_nil, if_true, href, hfb, hfrac, hod, Chip.setDiv, Chip.onPll,
      Chip.onCk, hck]

/-- The channels in SR_DEEP are in SR_SHALLOW once PLL_M runs. -/
def Chip.undeep (c : Chip) : Chip :=
  [0, 1].foldl (fun c k => if c.mcState k = mcDeep then c.setMcState k mcShallow else c) c

theorem Chip.undeep_deepStep : c.deepStep c.undeep :=
  List.foldlRecOn (motive := fun d : Chip => c.deepStep d) _ _ (.refl c) fun d hd k _ => by
    split
    · exact hd.trans (d.setMcState_deepStep k mcShallow)
    · exact hd

theorem Chip.mcState_undeep {ch : Nat} (hch : ch < 2) (h : c.mcState ch = mcDeep) : c.undeep.mcState ch = mcShallow := by
  have hstep (d : Chip) : ((if d.mcState ch = mcDeep then d.setMcState ch mcShallow else d).mcState ch) =
      if d.mcState ch = mcDeep then mcShallow else d.mcState ch := by
    split
    · exact d.mcState_setMcState ch (by decide)
    · rfl
  have hother (d : Chip) {k : Nat} (hk : ch ≠ k) :
      ((if d.mcState k = mcDeep then d.setMcState k mcShallow else d).mcState ch) = d.mcState ch := by
    split
    · exact d.mcState_setMcState_ne k mcShallow hk
    · rfl
  unfold Chip.undeep
  simp only [List.foldl_cons, List.foldl_nil]
  obtain rfl | rfl : ch = 0 ∨ ch = 1 := by omega
  · rw [hother _ (by decide), hstep, if_pos h]
  · rw [hstep, hother _ (by decide), if_pos h]

end

section

variable {c : Chip} {ch cause : Nat}

/-- A channel whose exit has started, its cause recorded. -/
def Chip.exitBegun (c : Chip) (ch cause : Nat) : Chip :=
  (c.wr (mcF ch MCA_SLUICE_STAT_LAST_EXIT) cause).onMc ch fun m => { m with sluiceExit := true }

/-- What a started exit leaves and sets (R347). -/
structure Chip.Waking (c d : Chip) (ch cause : Nat) : Prop where
  only : c.onlySluice d
  cause : d.rd (mcF ch MCA_SLUICE_STAT_LAST_EXIT) = cause
  exit : (d.mc ch).sluiceExit = true
  state : d.mcState ch = mcShallow
  ck : d.ck = if c.mcState ch = mcDeep then (c.startPll 1).ck else c.ck

theorem Chip.exitBegun_onlyMc (hch : ch < 2) : c.onlyMc (c.exitBegun ch cause) ch [(mcF ch MCA_SLUICE_STAT).addr] :=
  ((Chip.onlyMc.refl c ch _).wr cause (List.mem_singleton.mpr rfl)).onMc hch _

theorem Chip.lastExit_exitBegun (h : cause < 8) : (c.exitBegun ch cause).rd (mcF ch MCA_SLUICE_STAT_LAST_EXIT) = cause := by
  unfold Chip.exitBegun
  rw [Chip.rd_onMc, Chip.rd_wr_mcF_same _ _ _ (by decide)]
  exact Nat.mod_eq_of_lt h

theorem Chip.mcState_exitBegun : (c.exitBegun ch cause).mcState ch = c.mcState ch := by
  unfold Chip.exitBegun
  rw [Chip.mcState_onMc]
  exact Chip.rd_wr_mcF_clear _ _ _ (by decide)

theorem Chip.sluiceExit_exitBegun : ((c.exitBegun ch cause).mc ch).sluiceExit = true := by
  unfold Chip.exitBegun
  rw [Chip.mc_onMc_same]

theorem Chip.ck_exitBegun : (c.exitBegun ch cause).ck = c.ck := by
  unfold Chip.exitBegun
  rw [Chip.onMc_frame]
  rfl

/-- The register that names the last exit holds no setting of PLL_M. -/
theorem pllCfg_notMem_sluiceStat (f : Field)
    (h : f ∈ [CKG_PLLS_CFG_REFDIV, CKG_PLLS_CFG_FBDIV, CKG_PLLS_FRAC_FRAC, CKG_PLLS_CFG_ODIV]) :
    (pllF 1 f).addr ∉ [(mcF ch MCA_SLUICE_STAT).addr] := by
  simp only [List.mem_cons, List.not_mem_nil, or_false] at h
  rw [List.mem_singleton]
  obtain rfl | rfl | rfl | rfl := h
  all_goals
    simp only [pllF, mcF, Field.off, CKG_PLLS_CFG_REFDIV, CKG_PLLS_CFG_FBDIV, CKG_PLLS_FRAC_FRAC, CKG_PLLS_CFG_ODIV,
      MCA_SLUICE_STAT]
    omega

theorem Chip.exitStart_shallow (hst : c.mcState ch = mcShallow) (hexit : (c.mc ch).sluiceExit = false) :
    c.exitStart ch cause = c.exitBegun ch cause := by
  unfold Chip.exitStart Chip.exitCause
  simp only [hst, hexit, true_or, and_self, if_true, Bool.false_eq_true, if_false]
  rw [if_neg (by decide)]
  rfl

theorem Chip.exitStart_deep (hst : c.mcState ch = mcDeep) (hexit : (c.mc ch).sluiceExit = false) :
    c.exitStart ch cause = ((c.exitBegun ch cause).startPll 1).undeep := by
  unfold Chip.exitStart Chip.exitCause
  simp only [hst, hexit, or_true, and_self, if_true, Bool.false_eq_true, if_false]
  rfl

theorem Chip.exitStart_waking (hch : ch < 2) (hcause : cause < 8) (hst : c.mcState ch = mcShallow ∨ c.mcState ch = mcDeep)
    (hexit : (c.mc ch).sluiceExit = false) : c.Waking (c.exitStart ch cause) ch cause := by
  have honly := Chip.exitBegun_onlyMc (c := c) (cause := cause) hch
  obtain hs | hd := hst
  · rw [Chip.exitStart_shallow hs hexit]
    refine ⟨honly.onlySluice, Chip.lastExit_exitBegun hcause, Chip.sluiceExit_exitBegun, Chip.mcState_exitBegun.trans hs, ?_⟩
    rw [Chip.ck_exitBegun, hs, if_neg (by decide)]
  · rw [Chip.exitStart_deep hd hexit]
    have hpll : (c.exitBegun ch cause).deepStep ((c.exitBegun ch cause).startPll 1) :=
      Chip.deepStep_of_ck (Chip.startPll_frame _ 1)
    have hstep := hpll.trans (Chip.undeep_deepStep _)
    refine ⟨honly.onlySluice.trans hstep.onlySluice, ?_, ?_, ?_, ?_⟩
    · rw [hstep.regs _ (sluiceStat_ne_mcStat MCA_SLUICE_STAT_LAST_EXIT ch rfl), Chip.lastExit_exitBegun hcause]
    · rw [hstep.mc, Chip.sluiceExit_exitBegun]
    · refine Chip.mcState_undeep _ hch ?_
      have hsame : ((c.exitBegun ch cause).startPll 1).mcState ch = (c.exitBegun ch cause).mcState ch := by
        rw [Chip.startPll_frame]
        rfl
      rw [hsame, Chip.mcState_exitBegun, hd]
    · have hundeep (d : Chip) : d.undeep.ck = d.ck := by
        unfold Chip.undeep
        simp only [List.foldl_cons, List.foldl_nil]
        (repeat' split) <;> rfl
      rw [hundeep, if_pos hd]
      exact Chip.ck_startPll_congr Chip.ck_exitBegun fun f hf => honly.rd (pllCfg_notMem_sluiceStat f hf)

end

end Sys2Proof.Machine
end

section
/-! SUPPORT. The end of a Sluice exit (R339, R343, R347), and the Sluice as a whole. -/

namespace Sys2Proof.Machine

open Sys2Proof

section

variable {c : Chip} {ch : Nat}

/-- A channel awake, its commands on the bus still to come. -/
def Channel.awake (m : Channel) : Channel :=
  { m with
      srCells := true, cke := true, sluiceEntry := false, sluiceExit := false, zqOwed := false
      weir := List.replicate 16 [], weirHeld := List.replicate 16 none }

/-- A channel that leaves self-refresh. -/
def Chip.woken (c : Chip) (ch : Nat) : Chip :=
  (((c.onMc ch Channel.awake).allRanks ch 7 0 0).setMcState ch mcActive).exitCommit ch

theorem Chip.wakeChannel_woken (h : c.mcState ch = mcShallow ∨ c.mcState ch = mcDeep) : c.wakeChannel ch = c.woken ch :=
  if_pos (h.imp_right .inl)

theorem Chip.mc_woken : (c.mc ch).awake.sameButHistory ((c.woken ch).mc ch) :=
  have hbus := Channel.sameButHistory.allRanks (c := c.onMc ch Channel.awake) (ch := ch) (.refl _) 7 0 0
  (c.mc_onMc_same ch Channel.awake) ▸ hbus

theorem Chip.mcState_woken : (c.woken ch).mcState ch = mcActive :=
  Chip.mcState_setMcState ((c.onMc ch Channel.awake).allRanks ch 7 0 0) ch (by decide)

/-- Its commands on the bus, before its state changes. -/
theorem Chip.awake_onlyMc (hch : ch < 2) : c.onlyMc ((c.onMc ch Channel.awake).allRanks ch 7 0 0) ch [] :=
  ((Chip.onlyMc.refl c ch []).onMc hch _).trans (Chip.allRanks_onlyMc hch 7 0 0)

theorem Chip.woken_sameBut (hch : ch < 2) : c.sameBut (c.woken ch) [(mcF ch MCA_STAT).addr] :=
  ((Chip.awake_onlyMc hch).sameBut.mono (List.nil_subset _)).wr _ (List.mem_singleton.mpr rfl)

theorem Chip.edge_woken (hch : ch < 2) : (c.woken ch).mode.edge = c.mode.edge := by
  have hmode := congrArg (fun d : Chip => d.mode.edge) (Chip.awake_onlyMc (c := c) hch).1
  exact hmode

/-- No scan-out reads its state from MCx_STAT. -/
theorem soStat_notMem_mcStat :
    SOA_STAT.addr ∉ [(mcF ch MCA_STAT).addr] ∧ (soF 1 SOA_STAT).addr ∉ [(mcF ch MCA_STAT).addr] := by
  simp only [List.mem_singleton, mcF, soF, Field.off, SOA_STAT, MCA_STAT]
  omega

theorem mcStat_notMem_clockDoms : (mcF ch MCA_STAT_STATE).addr ∉ clockDoms := by
  simp only [clockDoms, List.mem_map, List.mem_range, not_exists, not_and, domAddr, mcF, Field.off, MCA_STAT_STATE]
  omega

theorem Chip.sameRun_woken (hch : ch < 2) : c.SameRun (c.woken ch) :=
  .of_sameBut (Chip.woken_sameBut hch) soStat_notMem_mcStat.1 soStat_notMem_mcStat.2 (Chip.edge_woken hch)

/-- A complete exit with no visit owed wakes the channel (R347). -/
theorem Chip.exitComplete_woken (hexit : (c.mc ch).sluiceExit = true) (hheld : (c.pll 1).held = true)
    (hst : c.mcState ch = mcShallow ∨ c.mcState ch = mcDeep) (howed : (c.mc ch).owedVisits = 0) :
    c.exitComplete ch = c.woken ch := by
  have hnone : ((c.woken ch).mc ch).owedVisits = 0 := by
    rw [Chip.mc_woken]
    exact howed
  unfold Chip.exitComplete Chip.owedVisit
  rw [if_neg (by simp [hexit, hheld]), Chip.wakeChannel_woken hst, if_neg (by simp [hnone])]

end

theorem exec_sluiceExitComplete {s : State} (hs : s.runs) {ch : Nat} (hch : ch < 2)
    (hwake : s.chip.exitComplete ch = s.chip.woken ch) :
    exec (.sluiceExitComplete ch) s = .next { s with chip := s.chip.withUses fun c => c.woken ch } := by
  refine (State.effect_of_runs hs fun c => c.withUses fun c => if ch < 2 then c.exitComplete ch else c).trans ?_
  rw [Chip.withUses_congr (f := fun c => if ch < 2 then c.exitComplete ch else c) (g := fun c => c.woken ch)
    ((if_pos hch).trans hwake)]

theorem exec_sluiceEntryStart {s : State} (hs : s.runs) (ch : Nat) : exec (.sluiceEntryStart ch) s =
    .next { s with chip := if ch < 2 ∧ s.chip.canSleep ch = true then
      (s.chip.flushCache ch).onMc ch fun m => { m with sluiceEntry := true } else s.chip } :=
  State.effect_of_runs hs fun c =>
    if ch < 2 ∧ c.canSleep ch = true then (c.flushCache ch).onMc ch fun m => { m with sluiceEntry := true } else c

/-- A cause of exit is asked for (R347). -/
def Chip.exitAsked (c : Chip) (ch cause : Nat) : Chip :=
  if 2 ≤ ch then c
  else if cause = 2 then
    if c.tolCovers ch (if c.mcState ch = mcDeep then c.rd (mcF ch MCA_SLUICE_EXIT_DEEP_US)
        else c.rd (mcF ch MCA_SLUICE_EXIT_SHALLOW_US)) then c
    else c.exitStart ch 2
  else if cause = 4 then (if (c.mc ch).owedVisits = 1024 then c.exitStart ch 4 else c)
  else if cause = 1 ∨ cause = 3 then c.exitStart ch cause
  else c

theorem exec_sluiceExitStart {s : State} (hs : s.runs) (ch cause : Nat) :
    exec (.sluiceExitStart ch cause) s = .next { s with chip := s.chip.exitAsked ch cause } :=
  State.effect_of_runs hs fun c => c.exitAsked ch cause

/-- A request and a mode edge wake a channel whatever the tolerances. -/
theorem Chip.exitAsked_start (c : Chip) {ch cause : Nat} (hch : ch < 2) (hcause : cause = 1 ∨ cause = 3) :
    c.exitAsked ch cause = c.exitStart ch cause := by
  unfold Chip.exitAsked
  rw [if_neg (Nat.not_le.mpr hch), if_neg (by omega), if_neg (by omega), if_pos hcause]

/-- Tolerances that cover the exit start none. -/
theorem Chip.exitAsked_covered {c : Chip} {ch : Nat} (h : c.tolCovers ch (if c.mcState ch = mcDeep then
    c.rd (mcF ch MCA_SLUICE_EXIT_DEEP_US) else c.rd (mcF ch MCA_SLUICE_EXIT_SHALLOW_US)) = true) :
    c.exitAsked ch 2 = c := by
  unfold Chip.exitAsked
  rw [if_pos rfl, if_pos h, ite_self]

/-! ### O25 -/

/-- Settles O25: an entry writes back the check cache and closes the banks, SR_DEEP and the exit change beside registers
only clocks and the channels, and the end of the exit wakes the channel. -/
theorem sluiceSleepsAndWakes : Obligations.SluiceSleepsAndWakes := by
  unfold Obligations.SluiceSleepsAndWakes
  refine ⟨fun s ch hs hch hsleep => ?_, fun s ch hs hwake => ?_, fun s ch hs hch hentry => ?_,
    fun s ch cause hs hch hcause hst hexit => ?_, fun s ch hs _ hcov => ?_,
    fun s ch hs hch hexit hheld hst howed => ?_⟩
  · refine ⟨_, exec_sluiceEntryStart hs ch, ?_⟩
    rw [if_pos ⟨hch, hsleep⟩, Chip.mc_onMc_same]
    obtain ⟨hr, hw, -, -⟩ := Chip.queues_of_offBus (s.chip.flushCache_offBus ch)
    exact ⟨(Chip.onlyMc_of_offBus (s.chip.flushCache_offBus ch) hch).onMc hch _, rfl, s.chip.clean_flushCache ch, hr, hw⟩
  · rw [exec_sluiceEntryStart hs, if_neg (by simp [hwake])]
  · have honly := Chip.srEntered_onlySluice (c := s.chip) hch
    obtain ⟨hcke, hcells, howed, hclosed, hclean, hnr⟩ := s.chip.enterSr_asleep ch 1
    refine ⟨_, exec_sluiceSrEntered hs hch hentry, honly.stores, honly.seat,
      Chip.mcState_deepEnter _ Chip.mcState_srShallow, ?_⟩
    rw [Chip.mc_srEntered]
    exact ⟨hcke, hcells, howed, hclosed, hclean, hnr, Chip.entries_srEntered hch, honly⟩
  · obtain ⟨honly, hlast, hstart, hstate, hck⟩ := Chip.exitStart_waking hch (by omega : cause < 8) hst hexit
    refine ⟨_, exec_sluiceExitStart hs ch cause, ?_⟩
    rw [Chip.exitAsked_start _ hch hcause]
    exact ⟨honly.stores, honly.seat, hlast, hstart, hstate, hck, honly⟩
  · rw [exec_sluiceExitStart hs, Chip.exitAsked_covered hcov]
  · have hwoken := Chip.exitComplete_woken hexit hheld hst howed
    have huses := Chip.withUses_onlyRegs (f := fun c => c.woken ch) (Chip.sameRun_woken (c := s.chip) hch)
    refine ⟨_, exec_sluiceExitComplete hs hch hwoken, ?_⟩
    obtain ⟨r, hr, hsame⟩ := Chip.onlyRegs_iff.mp huses
    have hmc (k : Nat) : (s.chip.withUses fun c => c.woken ch).mc k = (s.chip.woken ch).mc k := by
      rw [hr]
      rfl
    refine ⟨?_, ?_, (hsame.rd mcStat_notMem_clockDoms).trans Chip.mcState_woken, ?_⟩
    · rw [hr]
      exact (s.chip.wakeChannel_woken hst).symm ▸ s.chip.wakeChannel_stores ch
    · rw [hr]
      exact (s.chip.wakeChannel_woken hst).symm ▸ s.chip.wakeChannel_seat ch
    · rw [hmc, Chip.mc_woken]
      exact ⟨rfl, rfl, rfl, rfl, (Chip.woken_sameBut hch).trans hsame⟩

end Sys2Proof.Machine
end

section
/-! SUPPORT. The return of read data (R317, R355). -/

namespace Sys2Proof.Machine

open Sys2Proof

section

variable (c : Chip) (ch : Nat) (x : Inflight) (rest : List Inflight)

/-- Words with their check bytes are classified clean. -/
theorem map_classify_clean {raw : List (Nat × Nat)} (h : ∀ w ∈ raw, w.2 = checkByte w.1) :
    (raw.map fun w => classify w.1 w.2) = raw.map fun w => ⟨0, w.1, 0, false⟩ :=
  List.map_congr_left fun w hw => by rw [h w hw, classify_checkByte]

/-- A read without an error is delivered, and nothing is recorded (R355). -/
theorem Chip.readReturn_clean (h : ∀ w ∈ x.raw, w.2 = checkByte w.1) :
    c.readReturn ch x rest = (c.onMc ch fun m => { m with inflight := rest }).deliver
      ⟨x.entry.port, x.entry.id, x.raw.map fun w => (w.1, if x.ue then 2 else 0)⟩ := by
  have hnone (f : Chip → WordRead × Nat → Chip) (d : Chip) :
      (((x.raw.map fun w => (⟨0, w.1, 0, false⟩ : WordRead)).zipIdx).foldl
        (fun c w => if w.1.cls = 0 then c else f c w) d) = d := by
    refine List.foldlRecOn (motive := fun e : Chip => e = d) _ _ rfl fun e he w hw => ?_
    obtain ⟨v, -, hv⟩ := List.mem_map.mp (List.fst_mem_of_mem_zipIdx hw)
    rw [if_pos (hv ▸ rfl), he]
  unfold Chip.readReturn
  simp only [map_classify_clean h, List.map_map]
  split
  · rfl
  · rw [hnone]
    rfl

end

theorem exec_readDataReturn {s : State} (hs : s.runs) {ch : Nat} (hch : ch < 2) {x : Inflight} {rest : List Inflight}
    (h : (s.chip.mc ch).inflight = x :: rest) :
    exec (.readDataReturn ch) s = .next { s with chip := s.chip.readReturn ch x rest } := by
  change execReadDataReturn ch s = _
  unfold execReadDataReturn
  rw [State.effect_of_runs hs, if_neg (Nat.not_le.mpr hch), h]

theorem exec_readDataReturn_nil {s : State} (hs : s.runs) {ch : Nat} (h : (s.chip.mc ch).inflight = []) :
    exec (.readDataReturn ch) s = .next s := by
  change execReadDataReturn ch s = _
  unfold execReadDataReturn
  rw [State.effect_of_runs hs, h, ite_self]

/-! ### O26 -/

/-- Settles O26: a clean read is its delivery alone, and errors store nothing in DRAM. -/
theorem readDataReturns : Obligations.ReadDataReturns := by
  unfold Obligations.ReadDataReturns
  refine ⟨fun s ch x rest hs hch hx => ⟨_, exec_readDataReturn hs hch hx, s.chip.readReturn_stores ch x rest,
    fun hclean => ?_⟩, fun s ch hs h => exec_readDataReturn_nil hs h⟩
  rw [s.chip.readReturn_clean ch x rest hclean]
  refine ⟨?_, ?_, fun k hk hne => ?_, fun hue hw he => ?_⟩
  · rw [Chip.deliver, Chip.deliverAll, Chip.onMc_frame]
    rfl
  · rw [Chip.deliver, Chip.deliverAll, Chip.mc_onMcx, Chip.mc_onMc_same]
  · rw [Chip.deliver, Chip.deliverAll, Chip.mc_onMcx, Chip.mc_onMc_ne _ _ hch hk hne]
  · rw [Chip.delivered_deliver (by rwa [Chip.mcx_onMc]) (by rwa [Chip.mcx_onMc])]
    simp [hue]

end Sys2Proof.Machine
end

section
/-! SUPPORT. The map (R308) and the initialisation of a channel (R318, R374, R389, Table 7.5). -/

namespace Sys2Proof.Machine

open Sys2Proof

/-! ### The map (R308) -/

section

variable (c : Chip)

theorem Chip.pdPlan_queue : c.pdPlan = { c with pw := { c.pw with queue := c.pdPlan.pw.queue } } := by
  unfold Chip.pdPlan
  split <;> rfl

/-- The registers of a valid map. -/
def Chip.mapShown (c : Chip) : Chip :=
  ((c.wr MCX_MAP_STAT_MAP_ERR 0).wr MCX_MAP_STAT_VALID 1).wr MCX_MAP_STAT_CAP_MIB (c.mapCapacity / 2 ^ 20)

/-- A valid map locks the map and plans the domains of an absent channel. -/
def Chip.mapValid (c : Chip) : Chip := ({ c.mapShown with locks := { c.mapShown.locks with map := true } }).pdPlan

theorem Chip.mapGo_none (h : c.mcConfigured = []) : c.mapGo = c.wr MCX_MAP_STAT_MAP_ERR 2 :=
  if_pos (List.isEmpty_iff.mpr h)

theorem Chip.mapGo_bad (h : c.mcConfigured ≠ []) (hg : c.geometryBad = true) : c.mapGo = c.wr MCX_MAP_STAT_MAP_ERR 1 :=
  (if_neg fun he => h (List.isEmpty_iff.mp he)).trans (if_pos hg)

theorem Chip.mapGo_valid (h : c.mcConfigured ≠ []) (hg : c.geometryBad ≠ true) : c.mapGo = c.mapValid :=
  (if_neg fun he => h (List.isEmpty_iff.mp he)).trans (if_neg hg)

theorem Chip.mapShown_onlyRegs : c.onlyRegs c.mapShown [MCX_MAP_STAT.addr] := by
  have hstat : MCX_MAP_STAT.addr ∈ [MCX_MAP_STAT.addr] := List.mem_cons_self
  have herr := (Chip.onlyRegs.refl c _).wr (f := MCX_MAP_STAT_MAP_ERR) 0 hstat
  have hvalid := herr.wr (f := MCX_MAP_STAT_VALID) 1 hstat
  exact hvalid.wr (f := MCX_MAP_STAT_CAP_MIB) (c.mapCapacity / 2 ^ 20) hstat

theorem Chip.mapValid_frame : c.mapValid =
    { c with
        regs := c.mapShown.regs, locks := { c.locks with map := true }
        pw := { c.pw with queue := c.mapValid.pw.queue } } :=
  Chip.pdPlan_queue _

theorem Chip.rd_mapValid (f : Field) : c.mapValid.rd f = c.mapShown.rd f := by
  rw [Chip.mapValid_frame]
  rfl

theorem Chip.get_mapValid (a : Nat) : c.mapValid.get a = c.mapShown.get a := by
  rw [Chip.mapValid_frame]
  rfl

theorem Chip.rd_mapValid_err : c.mapValid.rd MCX_MAP_STAT_MAP_ERR = 0 := by
  rw [Chip.rd_mapValid, Chip.mapShown, Chip.rd_wr_clear _ _ _ _ (by decide), Chip.rd_wr_clear _ _ _ _ (by decide),
    Chip.rd_wr_same _ _ _ (by decide)]
  rfl

theorem Chip.rd_mapValid_valid : c.mapValid.rd MCX_MAP_STAT_VALID = 1 := by
  rw [Chip.rd_mapValid, Chip.mapShown, Chip.rd_wr_clear _ _ _ _ (by decide), Chip.rd_wr_same _ _ _ (by decide)]
  rfl

theorem Chip.rd_mapValid_cap : c.mapValid.rd MCX_MAP_STAT_CAP_MIB = c.mapCapacity / 2 ^ 20 % 4096 := by
  rw [Chip.rd_mapValid, Chip.mapShown, Chip.rd_wr_same _ _ _ (by decide)]
  rfl

theorem Chip.mapGo_sameBut : c.sameBut c.mapGo [MCX_MAP_STAT.addr] := by
  have herr (k : Nat) : c.sameBut (c.wr MCX_MAP_STAT_MAP_ERR k) [MCX_MAP_STAT.addr] :=
    (Chip.sameBut.refl c _).wr k List.mem_cons_self
  by_cases h : c.mcConfigured = []
  · rw [c.mapGo_none h]
    exact herr 2
  · by_cases hg : c.geometryBad = true
    · rw [c.mapGo_bad h hg]
      exact herr 1
    · rw [c.mapGo_valid h hg]
      exact fun a ha => (c.get_mapValid a).trans (c.mapShown_onlyRegs.2 a ha)

end

theorem exec_mapGo {s : State} (hs : s.runs) (hr : s.chip.reach 0x60000) :
    exec .mapGo s = .next { s with chip := s.chip.mapGo } :=
  State.effect_guardReg hs hr Chip.mapGo

/-! ### Initialisation begins (R318) -/

section

variable {c : Chip} {ch : Nat}

/-- What a channel keeps when its initialisation begins. -/
def Channel.initBegun (m : Channel) : Channel :=
  { m with
      resetN := false, cke := false, srCells := false, cache := [], everInit := false, alert := AlertState.reset }

/-- The part with the DRAM of a channel lost, its settings taken and the channel reset. -/
def Chip.initCleared (c : Chip) (ch : Nat) : Chip := ((c.dramLost ch).mcCommit ch).onMc ch Channel.initBegun

/-- A channel whose initialisation has begun. -/
def Chip.initBegun (c : Chip) (ch : Nat) : Chip :=
  (((c.initCleared ch).wr (mcF ch MCA_ECC_STAT_SEEDED) 0).wr
    (mcF ch MCA_ECC_STAT_FROZEN) 0).setMcState ch mcInit

/-- Without a migration to abort (R394). -/
theorem Chip.initGo_off (h : c.mcState ch = mcOff) (h1 : c.migState ch ≠ 1) (h2 : c.migState ch ≠ 2) :
    c.initGo ch = c.initBegun ch := by
  have hmig : ((c.dramLost ch).mcCommit ch).migAbort ch = (c.dramLost ch).mcCommit ch :=
    if_neg fun he => he.elim h1 h2
  unfold Chip.initGo
  rw [if_neg (not_not.mpr h), hmig]
  rfl

theorem Chip.initGo_ignored (h : c.mcState ch ≠ mcOff) : c.initGo ch = c := if_pos h

/-- The registers of an initialisation that begins. -/
def initRegs (ch : Nat) : List Nat := [(mcF ch MCA_STAT).addr, (mcF ch MCA_ECC_STAT).addr]

theorem Chip.initCleared_frame : c.initCleared ch =
    { c with
        eff := (c.initCleared ch).eff, mcA := (c.initCleared ch).mcA, mcB := (c.initCleared ch).mcB
        dram := (c.initCleared ch).dram } := by
  unfold Chip.initCleared
  rw [Chip.onMc_frame]
  rfl

theorem Chip.initBegun_onlyRegs : (c.initCleared ch).onlyRegs (c.initBegun ch) (initRegs ch) := by
  have hstat : (mcF ch MCA_STAT_STATE).addr ∈ initRegs ch := List.mem_cons_self
  have hecc : (mcF ch MCA_ECC_STAT_SEEDED).addr ∈ initRegs ch := List.mem_cons_of_mem _ List.mem_cons_self
  have hseeded := (Chip.onlyRegs.refl (c.initCleared ch) _).wr (f := mcF ch MCA_ECC_STAT_SEEDED) 0 hecc
  have hfrozen := hseeded.wr (f := mcF ch MCA_ECC_STAT_FROZEN) 0 hecc
  exact hfrozen.wr (f := mcF ch MCA_STAT_STATE) mcInit hstat

theorem Chip.initBegun_frame : c.initBegun ch =
    { c with
        regs := (c.initBegun ch).regs, eff := (c.initBegun ch).eff, mcA := (c.initBegun ch).mcA
        mcB := (c.initBegun ch).mcB, dram := (c.initBegun ch).dram } := by
  have hregs := (Chip.initBegun_onlyRegs (c := c) (ch := ch)).1
  rw [Chip.initCleared_frame] at hregs
  rw [hregs]

theorem Chip.initBegun_sameBut : c.sameBut (c.initBegun ch) (initRegs ch) := by
  have hcleared (a : Nat) : (c.initCleared ch).get a = c.get a := by
    rw [Chip.initCleared_frame]
    rfl
  exact fun a ha => (Chip.initBegun_onlyRegs.2 a ha).trans (hcleared a)

theorem Chip.mc_initBegun : (c.initBegun ch).mc ch = (c.mc ch).initBegun :=
  Chip.mc_onMc_same ((c.dramLost ch).mcCommit ch) ch Channel.initBegun

theorem Chip.rd_initBegun_frozen : (c.initBegun ch).rd (mcF ch MCA_ECC_STAT_FROZEN) = 0 := by
  rw [Chip.initBegun, Chip.setMcState, Chip.rd_wr_mcF_clear _ _ _ (by decide), Chip.rd_wr_mcF_same _ _ _ (by decide)]
  rfl

theorem Chip.rd_initBegun_seeded : (c.initBegun ch).rd (mcF ch MCA_ECC_STAT_SEEDED) = 0 := by
  rw [Chip.initBegun, Chip.setMcState, Chip.rd_wr_mcF_clear _ _ _ (by decide), Chip.rd_wr_mcF_clear _ _ _ (by decide),
    Chip.rd_wr_mcF_same _ _ _ (by decide)]
  rfl

theorem Chip.mcState_initBegun : (c.initBegun ch).mcState ch = mcInit := Chip.mcState_setMcState _ ch (by decide)

/-- Only the channel's own DRAM is lost. -/
theorem Chip.otherDram_dramLost : c.otherDram (c.dramLost ch) ch := fun k hk =>
  (SMap.get_clearRange dramDefault c.dram (chKeys ch) (chKeys (ch + 1)) k).trans (if_neg (by omega))

theorem Chip.otherDram_initBegun : c.otherDram (c.initBegun ch) ch := by
  have hdram : (c.initBegun ch).dram = (c.dramLost ch).dram := by
    rw [Chip.initBegun_onlyRegs.dram, Chip.initCleared, Chip.onMc_frame]
    rfl
  unfold Chip.otherDram
  rw [hdram]
  exact Chip.otherDram_dramLost

theorem Chip.sameRun_initBegun : c.SameRun (c.initBegun ch) := by
  have hso : SOA_STAT.addr ∉ initRegs ch ∧ (soF 1 SOA_STAT).addr ∉ initRegs ch := by
    simp only [initRegs, List.mem_cons, List.not_mem_nil, or_false, mcF, soF, Field.off, SOA_STAT, MCA_STAT, MCA_ECC_STAT]
    omega
  have hedge : (c.initBegun ch).mode.edge = c.mode.edge := by
    rw [Chip.initBegun_frame]
  exact .of_sameBut Chip.initBegun_sameBut hso.1 hso.2 hedge

end

theorem exec_mcInitGo {s : State} (hs : s.runs) {ch : Nat} (hch : ch < 2) (hr : s.chip.reach (0x40004 + ch * 0x10000)) :
    exec (.mcInitGo ch) s = .next { s with chip := s.chip.withUses fun c => c.initGo ch } := by
  refine (State.effect_of_runs hs fun c =>
    c.withUses fun c => if ch < 2 then c.guardReg (0x40004 + ch * 0x10000) fun c => c.initGo ch else c).trans ?_
  rw [Chip.withUses_congr
    (f := fun c => if ch < 2 then c.guardReg (0x40004 + ch * 0x10000) fun c => c.initGo ch else c)
    (g := fun c => c.initGo ch) ((if_pos hch).trans (Chip.guardReg_ok _ _ _ hr.1 hr.2))]

end Sys2Proof.Machine
end

section
/-! SUPPORT. The end of an initialisation (R318, R374, R389, Table 7.5). -/

namespace Sys2Proof.Machine

open Sys2Proof

section

variable {c : Chip} {ch : Nat}

/-- What an initialisation that ends leaves in the channel; the first eight soft repair records are applied (R389). -/
def Channel.initDone (m : Channel) : Channel :=
  { m with
      everInit := true, srCells := true, now := 65536, weir := List.replicate 16 []
      weirHeld := List.replicate 16 none, nrQ := [], refAt := [0, 0], zqOwed := false, owed := [0, 0], pulled := [0, 0]
      owedVisits := 0, scrubRead := none, migCe := 0, softRows := m.softRecords.take 8
      banks := List.replicate 16 BankState.reset, actTimes := [], colAt := 0, pprBusy := false }

/-- The mode registers are written, and ZQCL follows. -/
def Chip.initSent (c : Chip) (ch : Nat) : Chip :=
  ([3, 6, 5, 4, 2, 1, 0].foldl
    (fun c r => c.allRanks ch 6 r (c.getEff (0x040010 + 4 * r + ch * 0x10000)).toNat) c).allRanks ch 7 0 0

/-- The channel initialised, with the soft repairs it skips counted (R389). -/
def Chip.initCounted (c : Chip) (ch : Nat) : Chip :=
  ((c.initSent ch).onMc ch Channel.initDone).bump (mcF ch MCA_PPR_CTL_PPR_SKIP) ((c.mc ch).softRecords.length - 8)

theorem Chip.initSent_history : (c.mc ch).sameButHistory ((c.initSent ch).mc ch) :=
  ((Channel.sameButHistory.refl _).foldl _ fun _ _ hd => hd.allRanks _ _ _).allRanks 7 0 0

theorem Chip.initSent_onlyMc (hch : ch < 2) : c.onlyMc (c.initSent ch) ch [] := by
  refine Chip.onlyMc.trans (as := []) (bs := []) ?_ (Chip.allRanks_onlyMc hch 7 0 0)
  exact List.foldlRecOn (motive := fun d : Chip => c.onlyMc d ch []) _ _ (.refl c ch []) fun d hd r _ =>
    hd.trans (as := []) (bs := []) (Chip.allRanks_onlyMc hch _ _ _)

theorem Chip.initComplete_counted (hst : c.mcState ch = mcInit) (hcke : (c.mc ch).cke = true) : c.initComplete ch =
    ((c.initCounted ch).setMcState ch mcActive).scrubAt ch (((c.initCounted ch).scrubRanks ch).headD 0) 0 := by
  have hdone : (c.initSent ch).onMc ch Channel.initDone = (c.initSent ch).onMc ch fun m =>
      { m with
          everInit := true, srCells := true, now := 65536, weir := List.replicate 16 []
          weirHeld := List.replicate 16 none, nrQ := [], refAt := [0, 0], zqOwed := false, owed := [0, 0]
          pulled := [0, 0], owedVisits := 0, scrubRead := none, migCe := 0, softRows := (c.mc ch).softRecords.take 8
          banks := List.replicate 16 BankState.reset, actTimes := [], colAt := 0, pprBusy := false } := by
    refine Chip.onMc_congr ?_
    rw [Chip.initSent_history]
    rfl
  unfold Chip.initComplete Chip.initCounted
  rw [if_neg (by simp [hst, hcke]), hdone]
  rfl

theorem Chip.mc_initCounted : (c.initCounted ch).mc ch = ((c.initSent ch).mc ch).initDone :=
  Chip.mc_onMc_same _ ch Channel.initDone

theorem Chip.initCounted_onlyMc (hch : ch < 2) : c.onlyMc (c.initCounted ch) ch [(mcF ch MCA_PPR_CTL).addr] :=
  (((Chip.initSent_onlyMc hch).mono (List.nil_subset _)).onMc hch Channel.initDone).wr (f := mcF ch MCA_PPR_CTL_PPR_SKIP) _
    List.mem_cons_self

theorem Chip.skip_initCounted (hch : ch < 2) : (c.initCounted ch).rd (mcF ch MCA_PPR_CTL_PPR_SKIP) =
    satAdd MCA_PPR_CTL_PPR_SKIP.width (c.rd (mcF ch MCA_PPR_CTL_PPR_SKIP)) ((c.mc ch).softRecords.length - 8) := by
  unfold Chip.initCounted
  rw [Chip.rd_bump_mcF_same _ _ _ (by decide), Chip.rd_onMc, (Chip.initSent_onlyMc hch).rd List.not_mem_nil]

/-- The scrubber's place lies in a register of its own. -/
theorem mcF_ne_scrubPos {f : Field} (hch : ch < 2) (hf : f.addr < 0x50000) :
    (mcF ch f).addr ∉ [(MCX_SCRUB_POS_LINE.at ch).addr] := by
  simp only [List.mem_singleton, mcF, Field.off, Field.at, MCX_SCRUB_POS_LINE]
  omega

@[simp] theorem Chip.mc_scrubAt (c : Chip) (ch rank line k : Nat) : (c.scrubAt ch rank line).mc k = c.mc k := rfl

theorem Chip.scrubAt_onlyMc (c : Chip) (ch rank line : Nat) :
    c.onlyMc (c.scrubAt ch rank line) ch [(MCX_SCRUB_POS_LINE.at ch).addr] :=
  ((Chip.onlyMc.refl c ch _).wr (f := MCX_SCRUB_POS_RANK.at ch) rank List.mem_cons_self).wr (f := MCX_SCRUB_POS_LINE.at ch)
    line List.mem_cons_self

/-- What an initialisation that ends leaves and sets. -/
structure Chip.Initialised (c d : Chip) (ch : Nat) : Prop where
  only : c.onlyMc d ch [(mcF ch MCA_STAT).addr, (mcF ch MCA_PPR_CTL).addr, (MCX_SCRUB_POS_LINE.at ch).addr]
  state : d.mcState ch = mcActive
  channel : d.mc ch = ((c.initSent ch).mc ch).initDone
  skip : d.rd (mcF ch MCA_PPR_CTL_PPR_SKIP) =
    satAdd MCA_PPR_CTL_PPR_SKIP.width (c.rd (mcF ch MCA_PPR_CTL_PPR_SKIP)) ((c.mc ch).softRecords.length - 8)
  pos : d.rd (MCX_SCRUB_POS_LINE.at ch) = 0

theorem Chip.initComplete_initialised (hch : ch < 2) (hst : c.mcState ch = mcInit) (hcke : (c.mc ch).cke = true) :
    c.Initialised (c.initComplete ch) ch := by
  rw [Chip.initComplete_counted hst hcke]
  generalize ((c.initCounted ch).scrubRanks ch).headD 0 = rank
  have hset : (c.initCounted ch).onlyMc ((c.initCounted ch).setMcState ch mcActive) ch [(mcF ch MCA_STAT).addr] :=
    (Chip.onlyMc.refl _ ch _).wr (f := mcF ch MCA_STAT_STATE) mcActive List.mem_cons_self
  have hpos := ((c.initCounted ch).setMcState ch mcActive).scrubAt_onlyMc ch rank 0
  refine ⟨?_, ?_, ?_, ?_, ?_⟩
  · exact (((Chip.initCounted_onlyMc hch).trans hset).trans hpos).mono (by simp)
  · exact (hpos.rd (mcF_ne_scrubPos hch (by decide))).trans (Chip.mcState_setMcState _ ch (by decide))
  · rw [Chip.mc_scrubAt, Chip.mc_setMcState, Chip.mc_initCounted]
  · rw [hpos.rd (mcF_ne_scrubPos hch (by decide)), Chip.setMcState, Chip.rd_wr_ne _ _ _ _ ?_, Chip.skip_initCounted hch]
    simp [mcF, Field.off, MCA_PPR_CTL_PPR_SKIP, MCA_STAT_STATE]
  · rw [Chip.scrubAt, Chip.rd_wr_same _ _ _ (by rfl), Nat.zero_mod]

end

theorem exec_mcInitComplete {s : State} (hs : s.runs) {ch : Nat} (hch : ch < 2) :
    exec (.mcInitComplete ch) s = .next { s with chip := s.chip.initComplete ch } := by
  refine (State.effect_of_runs hs fun c => if ch < 2 then c.initComplete ch else c).trans ?_
  rw [if_pos hch]

theorem exec_mcInitResetRelease {s : State} (hs : s.runs) {ch : Nat} (hch : ch < 2) (hst : s.chip.mcState ch = mcInit) :
    exec (.mcInitResetRelease ch) s = .next { s with chip := s.chip.onMc ch fun m => { m with resetN := true } } := by
  refine (State.effect_of_runs hs fun c =>
    if ch < 2 ∧ c.mcState ch = mcInit then c.onMc ch fun m => { m with resetN := true } else c).trans ?_
  rw [if_pos ⟨hch, hst⟩]

theorem exec_mcInitCkeRise {s : State} (hs : s.runs) {ch : Nat} (hch : ch < 2) (hst : s.chip.mcState ch = mcInit)
    (hreset : (s.chip.mc ch).resetN = true) :
    exec (.mcInitCkeRise ch) s = .next { s with chip := s.chip.onMc ch fun m => { m with cke := true } } := by
  refine (State.effect_of_runs hs fun c =>
    if ch < 2 ∧ c.mcState ch = mcInit ∧ (c.mc ch).resetN = true then c.onMc ch fun m => { m with cke := true }
    else c).trans ?_
  rw [if_pos ⟨hch, hst, hreset⟩]

end Sys2Proof.Machine
end

section
/-! SUPPORT. The delay sweep (R319, R322, R323): its start, what it writes, and its end. -/

namespace Sys2Proof.Machine

open Sys2Proof

/-! ### A range of registers that takes effect -/

section

variable {α : Type} (d : Nat → α) (m n : List (Nat × α)) (k : Nat)

theorem SMap.get_filter {p : Nat × α → Bool} (h : ∀ v, p (k, v) = true) : SMap.get d (m.filter p) k = SMap.get d m k := by
  induction m with
  | nil => rfl
  | cons x t ih =>
    obtain ⟨a, v⟩ := x
    by_cases ha : a = k
    · subst ha
      simp [h, SMap.get]
    · by_cases hp : p (a, v) = true
      · simp [hp, SMap.get, ha, ih]
      · simp [hp, SMap.get, ha, ih]

theorem SMap.get_append_of_notMem (h : ∀ v, (k, v) ∉ m) : SMap.get d (m ++ n) k = SMap.get d n k := by
  induction m with
  | nil => rfl
  | cons x t ih =>
    obtain ⟨a, v⟩ := x
    have ha : a ≠ k := fun he => h v (he ▸ List.mem_cons_self)
    simp only [List.cons_append, SMap.get, if_neg ha]
    exact ih fun w hw => h w (List.mem_cons_of_mem _ hw)

theorem SMap.get_append_of_notMem_right (h : ∀ v, (k, v) ∉ n) : SMap.get d (m ++ n) k = SMap.get d m k := by
  induction m with
  | nil => simpa [SMap.get] using SMap.get_append_of_notMem d n [] k h
  | cons x t ih =>
    obtain ⟨a, v⟩ := x
    simp only [List.cons_append, SMap.get, ih]

/-- A copied range leaves the keys outside it. -/
theorem SMap.get_copyRange_outside (src : List (Nat × α)) {lo hi : Nat} (h : k < lo ∨ hi ≤ k) :
    SMap.get d (SMap.copyRange src m lo hi) k = SMap.get d m k := by
  unfold SMap.copyRange
  by_cases hk : k < lo
  · rw [SMap.get_append_of_notMem_right _ _ _ _ (by simp; omega), SMap.get_append_of_notMem_right _ _ _ _ (by simp; omega)]
    exact SMap.get_filter d m k fun _ => by simpa using hk
  · rw [SMap.get_append_of_notMem _ _ _ _ (by simp; omega)]
    exact SMap.get_filter d m k fun _ => by simp; omega

end

/-! ### The start (R322) -/

section

variable (c : Chip) (ch : Nat) (v : Word)

/-- The registers of a sweep as its command sets them. -/
def Chip.sweepSet (c : Chip) (ch : Nat) (v : Word) : Chip :=
  (((c.wr (mcF ch MCA_SWEEP_CTL_PATTERN) (MCA_SWEEP_CTL_PATTERN.get v)).wr (mcF ch MCA_SWEEP_CTL_LINES)
    (MCA_SWEEP_CTL_LINES.get v)).wr (mcF ch MCA_SWEEP_CTL_DONE) 0).wr (mcF ch MCA_SWEEP_CTL_REFUSED) 0

theorem Chip.sweepSet_onlyRegs : c.onlyRegs (c.sweepSet ch v) [(mcF ch MCA_SWEEP_CTL).addr] := by
  have hctl : (mcF ch MCA_SWEEP_CTL).addr ∈ [(mcF ch MCA_SWEEP_CTL).addr] := List.mem_cons_self
  have hpattern := (Chip.onlyRegs.refl c _).wr (f := mcF ch MCA_SWEEP_CTL_PATTERN) (MCA_SWEEP_CTL_PATTERN.get v) hctl
  have hlines := hpattern.wr (f := mcF ch MCA_SWEEP_CTL_LINES) (MCA_SWEEP_CTL_LINES.get v) hctl
  have hdone := hlines.wr (f := mcF ch MCA_SWEEP_CTL_DONE) 0 hctl
  exact hdone.wr (f := mcF ch MCA_SWEEP_CTL_REFUSED) 0 hctl

theorem Chip.rd_sweepSet_done : (c.sweepSet ch v).rd (mcF ch MCA_SWEEP_CTL_DONE) = 0 := by
  rw [Chip.sweepSet, Chip.rd_wr_mcF_clear _ _ _ (by decide), Chip.rd_wr_mcF_same _ _ _ (by decide), Nat.zero_mod]

theorem Chip.rd_sweepSet_refused : (c.sweepSet ch v).rd (mcF ch MCA_SWEEP_CTL_REFUSED) = 0 := by
  rw [Chip.sweepSet, Chip.rd_wr_mcF_same _ _ _ (by decide), Nat.zero_mod]

/-- A sweep may start (R322): the row is one that is read and written. -/
abbrev Chip.sweepAllowed (c : Chip) (ch : Nat) : Prop :=
  c.mode.mode = .calibrate ∧ c.mcState ch = mcActive ∧ c.rd (mcF ch MCA_SWEEP_ADDR_ROW) < c.mcUsedRows ch

/-- The staged PHY delays in effect (R319). -/
def Chip.sweepStaged (c : Chip) (ch : Nat) (v : Word) : Chip :=
  (c.sweepSet ch v).commitRange (0x040000 + ch * 0x10000 + 0x100) (0x040000 + ch * 0x10000 + 0x128)

/-- The channel in SWEEP with every bank closed. -/
def Chip.sweepOpened (c : Chip) (ch : Nat) (v : Word) : Chip := ((c.sweepStaged ch v).setMcState ch mcSweep).preAll ch

/-- The row of a sweep opened and its lines written on the bus. -/
def Chip.sweepSent (c : Chip) (ch : Nat) (v : Word) : Chip :=
  ((c.sweepOpened ch v).dramCmd ch
    { busCmd 0 (c.sweepLoc ch).rank (c.sweepLoc ch).bank (c.sweepLoc ch).row with nr := true }).sweepBus (c.sweepLoc ch)
      true (MCA_SWEEP_CTL_LINES.get v + 1)

variable {c ch v}

theorem Chip.sweepGo_refused (hgo : MCA_SWEEP_CTL_GO.get v = 1) (h : ¬c.sweepAllowed ch) :
    c.sweepGo ch v = (c.sweepSet ch v).wr (mcF ch MCA_SWEEP_CTL_REFUSED) 1 := by
  have hrefused : c.mode.mode ≠ .calibrate ∨ c.mcState ch ≠ mcActive ∨ c.mcUsedRows ch ≤ (c.sweepLoc ch).row := by
    by_contra hne
    simp only [not_or, not_not, not_le] at hne
    exact h hne
  unfold Chip.sweepGo
  rw [if_neg (by simp [hgo]), if_pos hrefused]
  rfl

theorem Chip.sweepGo_started (hgo : MCA_SWEEP_CTL_GO.get v = 1) (h : c.sweepAllowed ch) : c.sweepGo ch v =
    if MCA_SWEEP_CTL_PATTERN.get v = 2 then c.sweepOpened ch v
    else (c.sweepSent ch v).sweepFill (c.sweepLoc ch) (MCA_SWEEP_CTL_PATTERN.get v) (MCA_SWEEP_CTL_LINES.get v + 1) := by
  have hallowed : ¬(c.mode.mode ≠ .calibrate ∨ c.mcState ch ≠ mcActive ∨ c.mcUsedRows ch ≤ (c.sweepLoc ch).row) := by
    simp only [not_or, not_not, not_le]
    exact h
  unfold Chip.sweepGo
  rw [if_neg (by simp [hgo]), if_neg hallowed]
  rfl

end

/-! ### The bus of a sweep -/

section

variable {c : Chip} {ch : Nat}

theorem Channel.sameButHistory.sweepBus {m : Channel} (h : m.sameButHistory (c.mc ch)) {l : Loc} (hl : l.ch = ch)
    (write : Bool) (lines : Nat) : m.sameButHistory ((c.sweepBus l write lines).mc ch) := by
  subst hl
  exact h.foldl _ fun _ _ hd => hd.dramCmd _

theorem Chip.sweepBus_onlyMc (hch : ch < 2) {l : Loc} (hl : l.ch = ch) (write : Bool) (lines : Nat) :
    c.onlyMc (c.sweepBus l write lines) ch [] := by
  subst hl
  exact List.foldlRecOn (motive := fun d : Chip => c.onlyMc d l.ch []) _ _ (.refl c l.ch []) fun d hd n _ => hd.onMc hch _

theorem Chip.preAll_onlyMc (hch : ch < 2) : c.onlyMc (c.preAll ch) ch [] :=
  Chip.onlyMc.trans (as := []) (bs := []) ((Chip.onlyMc.refl c ch []).onMc hch _) (Chip.allRanks_onlyMc hch 2 0 0)

/-- PREA closes every bank. -/
theorem Chip.closed_preAll : ∀ b ∈ ((c.preAll ch).mc ch).banks, b.row = none := by
  rw [Chip.preAll_spec]
  intro b hb
  obtain ⟨b, -, rfl⟩ := List.mem_map.mp hb
  rfl

theorem Channel.sameButHistory.banks {m n : Channel} (h : m.sameButHistory n) : n.banks = m.banks := by rw [h]

end

section

variable {c : Chip} {ch : Nat} {v : Word}

/-- A sweep under way, before its data lie in DRAM. -/
structure Chip.SweepBus (c d : Chip) (ch : Nat) (v : Word) : Prop where
  only : (c.sweepStaged ch v).onlyMc d ch [(mcF ch MCA_STAT).addr]
  state : d.mcState ch = mcSweep
  closed : ∀ b ∈ (d.mc ch).banks, b.row = none

theorem Chip.sweepBus_sweepOpened (hch : ch < 2) : c.SweepBus (c.sweepOpened ch v) ch v := by
  have hset := (Chip.onlyMc.refl (c.sweepStaged ch v) ch [(mcF ch MCA_STAT).addr]).wr (f := mcF ch MCA_STAT_STATE) mcSweep
    List.mem_cons_self
  have hpre := Chip.preAll_onlyMc (c := (c.sweepStaged ch v).setMcState ch mcSweep) hch
  exact ⟨hset.trans hpre, (hpre.rd List.not_mem_nil).trans (Chip.mcState_setMcState _ ch (by decide)), Chip.closed_preAll⟩

theorem Chip.sweepBus_sweepSent (hch : ch < 2) : c.SweepBus (c.sweepSent ch v) ch v := by
  obtain ⟨honly, hstate, hclosed⟩ := Chip.sweepBus_sweepOpened (c := c) (v := v) hch
  have hbus := Chip.onlyMc.trans (as := []) (bs := [])
    (Chip.dramCmd_onlyMc (c := c.sweepOpened ch v) hch
      { busCmd 0 (c.sweepLoc ch).rank (c.sweepLoc ch).bank (c.sweepLoc ch).row with nr := true })
    (Chip.sweepBus_onlyMc hch (l := c.sweepLoc ch) rfl true (MCA_SWEEP_CTL_LINES.get v + 1))
  have hhist : ((c.sweepOpened ch v).mc ch).sameButHistory ((c.sweepSent ch v).mc ch) :=
    ((Channel.sameButHistory.refl _).dramCmd _).sweepBus rfl true _
  refine ⟨honly.trans hbus, (hbus.rd List.not_mem_nil).trans hstate, ?_⟩
  rw [hhist.banks]
  exact hclosed

/-- The row a sweep names lies in its own channel. -/
theorem sweepLoc_key (c : Chip) (ch : Nat) :
    chKeys ch + ({ c.sweepLoc ch with ch := 0, off := 0 } : Loc).key + 2048 ≤ chKeys (ch + 1) := by
  have hrank : (c.sweepLoc ch).rank < 2 := Field.get_lt MCA_SWEEP_ADDR_RANK _
  have hbank : (c.sweepLoc ch).bank < 8 := Field.get_lt MCA_SWEEP_ADDR_BANK _
  have hrow : (c.sweepLoc ch).row < 65536 := Field.get_lt MCA_SWEEP_ADDR_ROW _
  simp only [Loc.key, chKeys]
  omega

theorem Chip.length_sweepBytes (d : Chip) (pattern lines : Nat) :
    (d.sweepBytes pattern (64 * min 32 lines)).length ≤ 2048 := by
  rw [Chip.sweepBytes, List.length_map, List.length_range]
  omega

/-- A sweep's data lie in the row it names. -/
theorem Chip.otherDram_sweepFill (d : Chip) (pattern lines : Nat) :
    d.otherDram (d.sweepFill (c.sweepLoc ch) pattern lines) ch := by
  have hkey := sweepLoc_key c ch
  have hlen := d.length_sweepBytes pattern lines
  have hdram : (d.sweepFill (c.sweepLoc ch) pattern lines).dram = SMap.setRun dramDefault d.dram
      (chKeys ch + ({ c.sweepLoc ch with ch := 0, off := 0 } : Loc).key) 1
      (d.sweepBytes pattern (64 * min 32 lines)) := rfl
  intro k hk
  rw [hdram]
  generalize ({ c.sweepLoc ch with ch := 0, off := 0 } : Loc).key = key at hkey
  rw [SMap.get_setRun dramDefault d.dram _ k _ 0, if_neg]
  omega

theorem Chip.onlyMc.dram {d : Chip} {as : List Nat} (h : c.onlyMc d ch as) : d.dram = c.dram := by rw [h.1]

theorem Chip.dram_commitRange (c : Chip) (lo hi : Nat) : (c.commitRange lo hi).dram = c.dram := rfl

/-- A sweep under way. -/
structure Chip.Sweeping (c d : Chip) (ch : Nat) (v : Word) : Prop where
  bus : ∃ e, c.SweepBus e ch v ∧ d = { e with dram := d.dram, free := d.free } ∧ e.otherDram d ch
  mpr : MCA_SWEEP_CTL_PATTERN.get v = 2 → d.dram = c.dram

theorem Chip.dram_sweepStaged : (c.sweepStaged ch v).dram = c.dram :=
  (Chip.dram_commitRange _ _ _).trans (c.sweepSet_onlyRegs ch v).dram

theorem Chip.sweepGo_sweeping (hch : ch < 2) (hgo : MCA_SWEEP_CTL_GO.get v = 1) (h : c.sweepAllowed ch) :
    c.Sweeping (c.sweepGo ch v) ch v := by
  rw [Chip.sweepGo_started hgo h]
  split
  next hmpr =>
    have hbus := Chip.sweepBus_sweepOpened (c := c) (v := v) hch
    exact ⟨⟨_, hbus, rfl, fun _ _ => rfl⟩, fun _ => hbus.only.dram.trans Chip.dram_sweepStaged⟩
  next hwrite =>
    exact ⟨⟨_, Chip.sweepBus_sweepSent hch, rfl, Chip.otherDram_sweepFill _ _ _⟩, fun hmpr => absurd hmpr hwrite⟩

end

theorem exec_sweepGo {s : State} (hs : s.runs) {ch : Nat} (hch : ch < 2) (hr : s.chip.reach (0x40140 + ch * 0x10000))
    (v : Word) : exec (.sweepGo ch v) s = .next { s with chip := s.chip.sweepGo ch v } := by
  refine (State.effect_of_runs hs fun c =>
    if ch < 2 then c.guardReg (0x40140 + ch * 0x10000) fun c => c.sweepGo ch v else c).trans ?_
  rw [if_pos hch, Chip.guardReg_ok _ _ _ hr.1 hr.2]

end Sys2Proof.Machine
end

section
/-! SUPPORT. The delay sweep as a whole (R322, R323), and the bring-up of the memory. -/

namespace Sys2Proof.Machine

open Sys2Proof

/-! ### What a sweep leaves -/

/-- MCx_SWEEP_CTL is not MCx_STAT. -/
theorem sweepCtl_notMem_mcStat (f : Field) (ch : Nat) (h : f.addr = MCA_SWEEP_CTL.addr) :
    (mcF ch f).addr ∉ [(mcF ch MCA_STAT).addr] := by
  simp [mcF, Field.off, h, MCA_SWEEP_CTL, MCA_STAT]

section

variable {c d e : Chip} {ch : Nat} {v : Word}

theorem Chip.sweepStaged_frame :
    c.sweepStaged ch v = { c with regs := (c.sweepStaged ch v).regs, eff := (c.sweepStaged ch v).eff } := by
  obtain ⟨r, hr, -⟩ := Chip.onlyRegs_iff.mp (c.sweepSet_onlyRegs ch v)
  unfold Chip.sweepStaged
  rw [hr]
  rfl

theorem Chip.onlyRegs.mc {as : List Nat} (h : c.onlyRegs d as) (k : Nat) : d.mc k = c.mc k := by
  rw [h.1]
  rfl

theorem Chip.get_commitRange (c : Chip) (lo hi a : Nat) : (c.commitRange lo hi).get a = c.get a := rfl

theorem Chip.mc_commitRange (c : Chip) (lo hi k : Nat) : (c.commitRange lo hi).mc k = c.mc k := rfl

theorem Chip.get_sweepStaged (a : Nat) : (c.sweepStaged ch v).get a = (c.sweepSet ch v).get a :=
  Chip.get_commitRange _ _ _ a

theorem Chip.rd_sweepStaged (f : Field) : (c.sweepStaged ch v).rd f = (c.sweepSet ch v).rd f :=
  congrArg f.get (Chip.get_sweepStaged f.addr)

theorem Chip.mc_sweepStaged (k : Nat) : (c.sweepStaged ch v).mc k = c.mc k :=
  (Chip.mc_commitRange _ _ _ k).trans ((c.sweepSet_onlyRegs ch v).mc k)

/-- Only the settings of the PHY take effect. -/
theorem Chip.getEff_sweepStaged {a : Nat} (h : a < 0x40100 + ch * 0x10000 ∨ 0x40128 + ch * 0x10000 ≤ a) :
    (c.sweepStaged ch v).getEff a = c.getEff a := by
  have heff : (c.sweepSet ch v).eff = c.eff := by rw [(c.sweepSet_onlyRegs ch v).1]
  unfold Chip.getEff Chip.sweepStaged Chip.commitRange
  simp only
  rw [SMap.get_copyRange_outside _ _ _ _ (by omega), heff]

theorem Chip.onlyMc.getEff {as : List Nat} (h : c.onlyMc d ch as) (a : Nat) : d.getEff a = c.getEff a := by
  rw [h.1]
  rfl

theorem Chip.SweepBus.otherDram (hbus : c.SweepBus e ch v) (h : e.otherDram d ch) : c.otherDram d ch := fun k hk => by
  rw [h k hk, hbus.only.dram, Chip.dram_sweepStaged]

section

variable (hd : d = { e with dram := d.dram, free := d.free })

include hd

theorem Chip.mc_of_filled (k : Nat) : d.mc k = e.mc k := by
  rw [hd]
  rfl

theorem Chip.get_of_filled (a : Nat) : d.get a = e.get a := by
  rw [hd]
  rfl

theorem Chip.rd_of_filled (f : Field) : d.rd f = e.rd f := congrArg f.get (Chip.get_of_filled hd f.addr)

theorem Chip.getEff_of_filled (a : Nat) : d.getEff a = e.getEff a := by
  rw [hd]
  rfl

end

variable (hbus : c.SweepBus e ch v) (hd : d = { e with dram := d.dram, free := d.free })

include hbus hd

theorem Chip.SweepBus.frame : d =
    { c with regs := d.regs, eff := d.eff, mcA := d.mcA, mcB := d.mcB, dram := d.dram, free := d.free } := by
  have he := hbus.only.1
  rw [Chip.sweepStaged_frame] at he
  rw [he] at hd
  rw [hd]

theorem Chip.SweepBus.sameBut : c.sameBut d [(mcF ch MCA_SWEEP_CTL).addr, (mcF ch MCA_STAT).addr] := fun a ha => by
  rw [Chip.get_of_filled hd, hbus.only.sameBut a (by simp_all), Chip.get_sweepStaged,
    (c.sweepSet_onlyRegs ch v).2 a (by simp_all)]

theorem Chip.SweepBus.ctl (f : Field) (h : f.addr = MCA_SWEEP_CTL.addr) :
    d.rd (mcF ch f) = (c.sweepSet ch v).rd (mcF ch f) := by
  rw [Chip.rd_of_filled hd, hbus.only.rd (sweepCtl_notMem_mcStat f ch h), Chip.rd_sweepStaged]

theorem Chip.SweepBus.otherMc : c.otherMc d ch := fun k hk hne => by
  rw [Chip.mc_of_filled hd, hbus.only.otherMc k hk hne, Chip.mc_sweepStaged]

theorem Chip.SweepBus.getEff {a : Nat} (h : a < 0x40100 + ch * 0x10000 ∨ 0x40128 + ch * 0x10000 ≤ a) :
    d.getEff a = c.getEff a := by
  rw [Chip.getEff_of_filled hd, hbus.only.getEff, Chip.getEff_sweepStaged h]

end

section

variable {c : Chip} {ch : Nat} {v : Word}

/-- A sweep refused leaves all but MCx_SWEEP_CTL. -/
theorem Chip.sweepRefused_onlyRegs :
    c.onlyRegs ((c.sweepSet ch v).wr (mcF ch MCA_SWEEP_CTL_REFUSED) 1) [(mcF ch MCA_SWEEP_CTL).addr] :=
  (c.sweepSet_onlyRegs ch v).wr (f := mcF ch MCA_SWEEP_CTL_REFUSED) 1 List.mem_cons_self

theorem Chip.rd_sweepRefused_done :
    ((c.sweepSet ch v).wr (mcF ch MCA_SWEEP_CTL_REFUSED) 1).rd (mcF ch MCA_SWEEP_CTL_DONE) = 0 := by
  rw [Chip.rd_wr_mcF_clear _ _ _ (by decide), Chip.rd_sweepSet_done]

theorem Chip.rd_sweepRefused_refused :
    ((c.sweepSet ch v).wr (mcF ch MCA_SWEEP_CTL_REFUSED) 1).rd (mcF ch MCA_SWEEP_CTL_REFUSED) = 1 := by
  rw [Chip.rd_wr_mcF_same _ _ _ (by decide)]
  rfl

end

/-! ### The end of a sweep (R323) -/

section

variable {c : Chip} {ch : Nat} (failMask errors : Nat)

/-- The lines of a sweep read back and its banks closed. -/
def Chip.sweepRead (c : Chip) (ch : Nat) : Chip :=
  (c.sweepBus (c.sweepLoc ch) false (if c.rd (mcF ch MCA_SWEEP_CTL_PATTERN) = 2 then
    4 * (c.rd (mcF ch MCA_SWEEP_CTL_LINES) + 1) else c.rd (mcF ch MCA_SWEEP_CTL_LINES) + 1)).preAll ch

/-- The result of a sweep recorded. -/
def Chip.sweepNoted (c : Chip) (ch failMask errors : Nat) : Chip :=
  (((c.sweepRead ch).wr (mcF ch MCA_SWEEP_RES_FAIL_MASK)
    (Nat.lor (c.rd (mcF ch MCA_SWEEP_RES_FAIL_MASK)) failMask)).bump (mcF ch MCA_SWEEP_RES_ERR_COUNT) errors).wr
      (mcF ch MCA_SWEEP_CTL_DONE) 1

theorem Chip.sweepDone_noted (h : c.mcState ch = mcSweep) :
    c.sweepDone ch failMask errors = (c.sweepNoted ch failMask errors).setMcState ch mcActive :=
  if_neg (not_not.mpr h)

theorem Chip.sweepRead_onlyMc (hch : ch < 2) : c.onlyMc (c.sweepRead ch) ch [] :=
  Chip.onlyMc.trans (as := []) (bs := []) (Chip.sweepBus_onlyMc hch rfl false _) (Chip.preAll_onlyMc hch)

theorem Chip.sweepNoted_onlyMc (hch : ch < 2) :
    c.onlyMc (c.sweepNoted ch failMask errors) ch [(mcF ch MCA_SWEEP_RES).addr, (mcF ch MCA_SWEEP_CTL).addr] := by
  have hres : (mcF ch MCA_SWEEP_RES).addr ∈ [(mcF ch MCA_SWEEP_RES).addr, (mcF ch MCA_SWEEP_CTL).addr] :=
    List.mem_cons_self
  have hctl : (mcF ch MCA_SWEEP_CTL).addr ∈ [(mcF ch MCA_SWEEP_RES).addr, (mcF ch MCA_SWEEP_CTL).addr] :=
    List.mem_cons_of_mem _ List.mem_cons_self
  have hread := (Chip.sweepRead_onlyMc (c := c) hch).mono
    (List.nil_subset [(mcF ch MCA_SWEEP_RES).addr, (mcF ch MCA_SWEEP_CTL).addr])
  have hmask := hread.wr (f := mcF ch MCA_SWEEP_RES_FAIL_MASK)
    (Nat.lor (c.rd (mcF ch MCA_SWEEP_RES_FAIL_MASK)) failMask) hres
  exact (hmask.wr (f := mcF ch MCA_SWEEP_RES_ERR_COUNT) _ hres).wr (f := mcF ch MCA_SWEEP_CTL_DONE) 1 hctl

/-- What a sweep that ends leaves and sets. -/
structure Chip.Swept (c d : Chip) (ch failMask errors : Nat) : Prop where
  only : c.onlyMc d ch [(mcF ch MCA_SWEEP_RES).addr, (mcF ch MCA_SWEEP_CTL).addr, (mcF ch MCA_STAT).addr]
  mask : d.rd (mcF ch MCA_SWEEP_RES_FAIL_MASK) = Nat.lor (c.rd (mcF ch MCA_SWEEP_RES_FAIL_MASK)) failMask % 65536
  count : d.rd (mcF ch MCA_SWEEP_RES_ERR_COUNT) = satAdd 16 (c.rd (mcF ch MCA_SWEEP_RES_ERR_COUNT)) errors
  done : d.rd (mcF ch MCA_SWEEP_CTL_DONE) = 1
  state : d.mcState ch = mcActive
  closed : ∀ b ∈ (d.mc ch).banks, b.row = none

theorem Chip.sweepDone_swept (hch : ch < 2) (h : c.mcState ch = mcSweep) :
    c.Swept (c.sweepDone ch failMask errors) ch failMask errors := by
  have hcount := (Chip.sweepRead_onlyMc (c := c) hch).rd (f := mcF ch MCA_SWEEP_RES_ERR_COUNT) List.not_mem_nil
  rw [Chip.sweepDone_noted failMask errors h]
  refine ⟨?_, ?_, ?_, ?_, Chip.mcState_setMcState _ ch (by decide), ?_⟩
  · have hset := (Chip.onlyMc.refl (c.sweepNoted ch failMask errors) ch [(mcF ch MCA_STAT).addr]).wr
      (f := mcF ch MCA_STAT_STATE) mcActive List.mem_cons_self
    exact (Chip.sweepNoted_onlyMc failMask errors hch).trans hset
  · rw [Chip.setMcState, Chip.rd_wr_mcF_clear _ _ _ (by decide), Chip.sweepNoted, Chip.rd_wr_mcF_clear _ _ _ (by decide),
      Chip.bump, Chip.rd_wr_mcF_clear _ _ _ (by decide), Chip.rd_wr_mcF_same _ _ _ (by decide)]
    rfl
  · rw [Chip.setMcState, Chip.rd_wr_mcF_clear _ _ _ (by decide), Chip.sweepNoted, Chip.rd_wr_mcF_clear _ _ _ (by decide),
      Chip.rd_bump_mcF_same _ _ _ (by decide), Chip.rd_wr_mcF_clear _ _ _ (by decide), hcount]
    rfl
  · rw [Chip.setMcState, Chip.rd_wr_mcF_clear _ _ _ (by decide), Chip.sweepNoted, Chip.rd_wr_mcF_same _ _ _ (by decide)]
    rfl
  · rw [Chip.mc_setMcState, Chip.sweepNoted, Chip.mc_wr, Chip.mc_bump, Chip.mc_wr, Chip.sweepRead]
    exact Chip.closed_preAll

end

theorem exec_sweepDone {s : State} (hs : s.runs) {ch : Nat} (hch : ch < 2) (failMask errors : Nat) :
    exec (.sweepDone ch failMask errors) s = .next { s with chip := s.chip.sweepDone ch failMask errors } := by
  refine (State.effect_of_runs hs fun c => if ch < 2 then c.sweepDone ch failMask errors else c).trans ?_
  rw [if_pos hch]

/-! ### O20 -/

section

variable {s : State} {ch : Nat}

/-- MAP_GO (R308). -/
theorem mapGo_answers (hs : s.runs) (hr : s.chip.reach 0x60000) :
    ∃ d, exec .mapGo s = .next { s with chip := d } ∧ s.chip.sameBut d [MCX_MAP_STAT.addr] ∧
      if s.chip.mcConfigured = [] then d = { s.chip with regs := d.regs } ∧ d.rd MCX_MAP_STAT_MAP_ERR = 2
      else if s.chip.geometryBad = true then
        d = { s.chip with regs := d.regs } ∧ d.rd MCX_MAP_STAT_MAP_ERR = 1 ∧
        d.rd MCX_MAP_STAT_VALID = s.chip.rd MCX_MAP_STAT_VALID
      else
        d = { s.chip with regs := d.regs, locks := { s.chip.locks with map := true }
                          pw := { s.chip.pw with queue := d.pw.queue } } ∧
        d.rd MCX_MAP_STAT_MAP_ERR = 0 ∧ d.rd MCX_MAP_STAT_VALID = 1 ∧
        d.rd MCX_MAP_STAT_CAP_MIB = s.chip.mapCapacity / 2 ^ 20 % 4096 := by
  refine ⟨_, exec_mapGo hs hr, s.chip.mapGo_sameBut, ?_⟩
  split
  next hnone =>
    rw [s.chip.mapGo_none hnone]
    exact ⟨rfl, s.chip.rd_wr_same _ _ (by decide)⟩
  next hsome =>
    split
    next hbad =>
      rw [s.chip.mapGo_bad hsome hbad]
      exact ⟨rfl, s.chip.rd_wr_same _ _ (by decide), s.chip.rd_wr_clear _ _ _ (by decide)⟩
    next hgood =>
      rw [s.chip.mapGo_valid hsome hgood]
      refine ⟨?_, s.chip.rd_mapValid_err, s.chip.rd_mapValid_valid, s.chip.rd_mapValid_cap⟩
      rw [s.chip.mapValid_frame]

/-- MCx_INIT_CTL.GO of an OFF channel (R318). -/
theorem mcInitGo_answers (hs : s.runs) (hch : ch < 2) (hr : s.chip.reach (0x40004 + ch * 0x10000))
    (hoff : s.chip.mcState ch = mcOff) (h1 : s.chip.migState ch ≠ 1) (h2 : s.chip.migState ch ≠ 2) :
    ∃ d, exec (.mcInitGo ch) s = .next { s with chip := d } ∧
      d = { s.chip with regs := d.regs, eff := d.eff, mcA := d.mcA, mcB := d.mcB, dram := d.dram } ∧
      s.chip.sameBut d ((mcF ch MCA_STAT).addr :: (mcF ch MCA_ECC_STAT).addr :: clockDoms) ∧
      s.chip.otherDram d ch ∧ d.mcState ch = mcInit ∧ d.rd (mcF ch MCA_ECC_STAT_SEEDED) = 0 ∧
      d.rd (mcF ch MCA_ECC_STAT_FROZEN) = 0 ∧ (d.mc ch).resetN = false ∧ (d.mc ch).cke = false := by
  have hbegun := Chip.initGo_off hoff h1 h2
  have hecc (f : Field) (hf : f.addr = MCA_ECC_STAT.addr) : (mcF ch f).addr ∉ clockDoms := by
    simp only [clockDoms, List.mem_map, List.mem_range, not_exists, not_and, domAddr, mcF, Field.off, hf, MCA_ECC_STAT]
    omega
  have huses := Chip.withUses_onlyRegs (c := s.chip) (f := fun c => c.initGo ch) (hbegun ▸ Chip.sameRun_initBegun)
  refine ⟨_, exec_mcInitGo hs hch hr, ?_⟩
  generalize (s.chip.withUses fun c => c.initGo ch) = d at huses
  simp only [hbegun] at huses
  have hsame := huses.2
  refine ⟨?_, Chip.initBegun_sameBut.trans hsame, fun k hk => ?_,
    (hsame.rd mcStat_notMem_clockDoms).trans Chip.mcState_initBegun,
    (hsame.rd (hecc MCA_ECC_STAT_SEEDED rfl)).trans Chip.rd_initBegun_seeded,
    (hsame.rd (hecc MCA_ECC_STAT_FROZEN rfl)).trans Chip.rd_initBegun_frozen, ?_⟩
  · have hframe := huses.1
    rw [Chip.initBegun_frame] at hframe
    rw [hframe]
  · rw [huses.dram]
    exact Chip.otherDram_initBegun k hk
  · rw [huses.mc, Chip.mc_initBegun]
    exact ⟨rfl, rfl⟩

end

/-- Settles O20: each command of the bring-up by its equation. That a sweep of a row never read or written is refused is
the model's choice (log entry 101). -/
theorem memoryBringUp : Obligations.MemoryBringUp := by
  unfold Obligations.MemoryBringUp
  refine ⟨⟨fun s hs hr => mapGo_answers hs hr, fun s ch hs hch hr hoff h1 h2 => mcInitGo_answers hs hch hr hoff h1 h2,
    fun s ch hs hch hr hoff => ?_, fun s ch hs hch hst => ⟨exec_mcInitResetRelease hs hch hst,
      fun hreset => exec_mcInitCkeRise hs hch hst hreset⟩, fun s ch hs hch hst hcke => ?_⟩,
    fun s ch v hs hch hr hgo => ?_, fun s ch failMask errors hs hch hst => ?_⟩
  · rw [exec_mcInitGo hs hch hr, Chip.withUses_id (Chip.initGo_ignored hoff)]
  · obtain ⟨honly, hstate, hchannel, hskip, hpos⟩ := Chip.initComplete_initialised hch hst hcke
    refine ⟨_, exec_mcInitComplete hs hch, honly, hstate, ?_⟩
    rw [hchannel, Chip.initSent_history]
    exact ⟨rfl, rfl, rfl, hskip, hpos⟩
  · refine ⟨_, exec_sweepGo hs hch hr v, ?_⟩
    by_cases hallowed : s.chip.sweepAllowed ch
    · obtain ⟨⟨e, hbus, hd, hdram⟩, hmpr⟩ := Chip.sweepGo_sweeping hch hgo hallowed
      refine ⟨hbus.sameBut hd, hbus.otherDram hdram,
        (hbus.ctl hd MCA_SWEEP_CTL_DONE rfl).trans (s.chip.rd_sweepSet_done ch v), ?_⟩
      rw [if_pos hallowed]
      refine ⟨(Chip.rd_of_filled hd _).trans hbus.state,
        (hbus.ctl hd MCA_SWEEP_CTL_REFUSED rfl).trans (s.chip.rd_sweepSet_refused ch v),
        hbus.frame hd, hbus.otherMc hd, ?_, fun a ha => hbus.getEff hd ha, hmpr⟩
      rw [Chip.mc_of_filled hd]
      exact hbus.closed
    · rw [Chip.sweepGo_refused hgo hallowed]
      have honly := Chip.sweepRefused_onlyRegs (c := s.chip) (ch := ch) (v := v)
      refine ⟨honly.2.mono (by simp), fun k _ => by rw [honly.dram], Chip.rd_sweepRefused_done, ?_⟩
      rw [if_neg hallowed]
      refine ⟨honly.2.rd ?_, Chip.rd_sweepRefused_refused, honly.1⟩
      simp [mcF, Field.off, MCA_STAT_STATE, MCA_SWEEP_CTL]
  · obtain ⟨honly, hmask, hcount, hdone, hstate, hclosed⟩ := Chip.sweepDone_swept failMask errors hch hst
    exact ⟨_, exec_sweepDone hs hch failMask errors, honly, hmask, hcount, hdone, hstate, hclosed⟩

end Sys2Proof.Machine
end
